-- ==== Sys2Proof/Word.lean ====
section
/-! DEFINITION. The word types: 32-bit registers (R7), bytes, the 48-bit cycle count (R11). -/

namespace Sys2Proof

/-- R7: registers are 32 bits wide. -/
abbrev Word := BitVec 32

/-- One byte of a record, a buffer or a frame. -/
abbrev Byte := BitVec 8

end Sys2Proof
end

