-- ==== Sys2Proof/Machine/Flags.lean ====
section
/-! DEFINITION. Bit fields of register words (R6), byte orders (R9), the two checksums the spec defines
(CRC-32 and CRC-16, R471), saturation, and sign-magnitude conversions. -/

namespace Sys2Proof.Machine

/-- R6: the field [hi:lo] of a word, as a number. -/
def fieldOf (w : Word) (hi lo : Nat) : Nat := (w.toNat >>> lo) % 2 ^ (hi - lo + 1)

/-- R6: bit b of a word. -/
def bitOf (w : Word) (b : Nat) : Bool := w.getLsbD b

/-- A word with the field [hi:lo] replaced by v, and every other bit kept. -/
def withField (w : Word) (hi lo v : Nat) : Word :=
  BitVec.ofNat 32 (w.toNat - (fieldOf w hi lo) * 2 ^ lo + (v % 2 ^ (hi - lo + 1)) * 2 ^ lo)

/-- A word with bit b set or cleared. -/
def withBit (w : Word) (b : Nat) (v : Bool) : Word := withField w b b v.toNat

/-- A field value placed at its lowest bit. -/
def place (lo v : Nat) : Nat := v * 2 ^ lo

/-- A flag placed at its bit. -/
def placeBit (b : Nat) (v : Bool) : Nat := v.toNat * 2 ^ b

/-- The word of a number (its low 32 bits). -/
def wordOf (n : Nat) : Word := BitVec.ofNat 32 n

/-- Bits [31:0] of a wider count. -/
def loWord (n : Nat) : Word := BitVec.ofNat 32 n

/-- Bits [63:32] of a wider count. -/
def hiWord (n : Nat) : Word := BitVec.ofNat 32 (n >>> 32)

/-- Saturation at a maximum. -/
def sat (mx n : Nat) : Nat := if n ≤ mx then n else mx

/-- n bytes of a number, most significant first (R9: what leaves the device). -/
def beBytes : Nat → Nat → List Byte
  | 0, _ => []
  | n + 1, v => BitVec.ofNat 8 (v >>> (8 * n)) :: beBytes n v

/-- n bytes of a number, least significant first (R9: what the host reads). -/
def leBytes : Nat → Nat → List Byte
  | 0, _ => []
  | n + 1, v => BitVec.ofNat 8 v :: leBytes n (v >>> 8)

/-- The number that big-endian bytes spell. -/
def beNat (bs : List Byte) : Nat := bs.foldl (fun a b => a * 256 + b.toNat) 0

/-- The number that little-endian bytes spell. -/
def leNat (bs : List Byte) : Nat := bs.foldr (fun b a => a * 256 + b.toNat) 0

/-- The little-endian 32-bit words of a buffer (R9), a partial last word dropped. -/
def leWords : List Byte → List Word
  | a :: b :: c :: d :: rest => wordOf (leNat [a, b, c, d]) :: leWords rest
  | _ => []

/-- Two's complement of a signed value in a field of n bits. -/
def sgn (n : Nat) (v : Int) : Nat := (v % (2 ^ n : Nat)).toNat

/-- The signed value of a field of n bits. -/
def unsgn (n : Nat) (v : Nat) : Int := if v < 2 ^ (n - 1) then v else (v : Int) - (2 ^ n : Nat)

/-- Saturation of a signed value to n bits. -/
def satInt (n : Nat) (v : Int) : Int :=
  max (-(2 ^ (n - 1) : Nat)) (min v ((2 ^ (n - 1) : Nat) - 1))

/-- One bit of the CRC-16 of polynomial 0x1021 (R471). -/
def crc16Bit (c : BitVec 16) : BitVec 16 := if c.msb then (c <<< 1) ^^^ 0x1021#16 else c <<< 1

/-- One byte of the CRC-16, most significant bit first. -/
def crc16Byte (c : BitVec 16) (b : Byte) : BitVec 16 :=
  crc16Bit (crc16Bit (crc16Bit (crc16Bit (crc16Bit (crc16Bit (crc16Bit (crc16Bit
    (c ^^^ (b.zeroExtend 16 <<< 8)))))))))

/-- R471: CRC-16, polynomial 0x1021, initial value 0xFFFF. -/
def crc16 (bs : List Byte) : BitVec 16 := bs.foldl crc16Byte 0xFFFF#16

/-- One bit of the reflected CRC-32. -/
def crc32Bit (c : Word) : Word := if c.getLsbD 0 then (c >>> 1) ^^^ 0xEDB88320#32 else c >>> 1

/-- One byte of the CRC-32. -/
def crc32Byte (c : Word) (b : Byte) : Word :=
  crc32Bit (crc32Bit (crc32Bit (crc32Bit (crc32Bit (crc32Bit (crc32Bit (crc32Bit
    (c ^^^ b.zeroExtend 32))))))))

/-- The CRC-32 of the spec's images and records (polynomial 0x04C1_1DB7 reflected, initial value and
final complement all ones). -/
def crc32 (bs : List Byte) : Word := ~~~ (bs.foldl crc32Byte 0xFFFFFFFF#32)

end Sys2Proof.Machine
end

