-- ==== Sys2Proof/Machine/RegMap.lean ====
section
/-! DEFINITION. The register address map (R26, R27): one named address per register of the
spec's register tables (R28, R45, R68, R92, R107, R142, R144, R176, R178, R209, R234, R267, R269,
R270, R299, R300, R321, R344, R368, R399, R431, R453, R469, R477), its access type (R10), its reset
value, and the bits a write may set. An index past its range gives an address of no row. -/

namespace Sys2Proof.Machine

/-- R10: the access types of the register tables. -/
inductive Acc where
  | rw | ro | w1c | w1s | rc | wo
  deriving DecidableEq, Repr

/-- One row of a register table: `base`, the (stride, count) pairs of its indices (largest stride
first), access type, reset value, and the bits a write reaches (the others are reserved or read only). -/
structure RegRow where
  name : String
  base : Nat
  dims : List (Nat × Nat)
  acc : Acc
  rst : Word
  wmask : Word
  deriving DecidableEq, Repr

namespace Reg

/-- R28: Hardware type and stepping. -/
def SUP_ID : Nat := 0x8000
/-- R28: Ready bits; fields in Modes, Bring-Up and Lifecycle. -/
def SUP_READY : Nat := 0x8004
/-- R28: Commit-group control. -/
def SUP_CG_CTRL : Nat := 0x8010
/-- R28: Target cycle [31:0]. -/
def SUP_CG_TARGET_LO : Nat := 0x8014
/-- R28: Target cycle [47:32] in [15:0]. -/
def SUP_CG_TARGET_HI : Nat := 0x8018
/-- R28: Commit-group state. -/
def SUP_CG_STATUS : Nat := 0x801C
/-- R28: Refusals at the most recent poll, or at an abandonment for POWER outside a poll (R32). -/
def SUP_CG_REFUSE : Nat := 0x8020
/-- R28: Cycle of the last applied group [31:0]. -/
def SUP_CG_DONE_LO : Nat := 0x8024
/-- R28: Same, [47:32] in [15:0]. -/
def SUP_CG_DONE_HI : Nat := 0x8028
/-- R28: Commit-group events. -/
def SUP_CG_EVT : Nat := 0x802C
/-- R28: Non-shadowable sequence progress. -/
def SUP_NS_STATUS : Nat := 0x8030
/-- R28: Bits [6:0]: region fenced or in reset, supervisor bit 0 to service bit 6 in the order of R27. -/
def SUP_FENCE : Nat := 0x8034
/-- R45: Current mode, previous mode, entry cause. -/
def SUP_MODE : Nat := 0x8038
/-- R45: Mode request and its result. -/
def SUP_MODE_REQ : Nat := 0x803C
/-- R45: Reset causes; held in the AON domain. -/
def SUP_RST_CAUSE : Nat := 0x8040
/-- R45: Software resets. -/
def SUP_RST_CTRL : Nat := 0x8044
/-- R45: Wake sources and deep-standby acknowledgement. -/
def SUP_STBY_CFG : Nat := 0x8048
/-- R45: Function disable bits. -/
def SUP_DISABLE : Nat := 0x804C
/-- R45: Functions still draining. -/
def SUP_DISABLE_STATUS : Nat := 0x8050
/-- R45: Lifecycle state mirror. -/
def SUP_LCS : Nat := 0x8054
/-- R68: Wipe progress and epoch. -/
def SUP_WIPE_STATUS : Nat := 0x48000
/-- R68: Duration of the last wipes. -/
def SUP_WIPE_TIME : Nat := 0x48004
/-- R92: Compute-die and memory rails. -/
def SUP_RAIL_STATUS : Nat := 0x8058
/-- R92: Compute-die temperature. -/
def SUP_TEMP : Nat := 0x805C
/-- R92: Power-die supplies. -/
def PWD_SUPPLY_STATUS : Nat := 0x7008040
/-- R92: Brown-out threshold and filter. -/
def PWD_BO_CFG : Nat := 0x7008044
/-- R92: Hold-up state. -/
def PWD_HOLD_STATUS : Nat := 0x7008048
/-- R92: Measured capacitance and ESR. -/
def PWD_HOLD_CAP : Nat := 0x700804C
/-- R92: Energy above 18.0 V. -/
def PWD_HOLD_BUDGET : Nat := 0x7008050
/-- R92: Power-die temperature. -/
def PWD_TEMP : Nat := 0x7008054
/-- R107: References, VMIN, holdover; shadowed. -/
def SUP_TB_CFG : Nat := 0x10000
/-- R107: Site phase wiring, fabric discipline; shadowed. -/
def SUP_TB_SITE : Nat := 0x10004
/-- R107: Step limit, slew rate, time sources; shadowed. -/
def SUP_WALL_CFG : Nat := 0x10008
/-- R107: Timebase state and angle error. -/
def SUP_TB_STATUS : Nat := 0x18000
/-- R107: Frequency in mHz. -/
def SUP_TB_FREQ : Nat := 0x18004
/-- R107: Bit [0]: latch cycle, angle and wall time together. -/
def SUP_TB_LATCH : Nat := 0x18008
/-- R107: Latched cycle [31:0]. -/
def SUP_TB_CYC_LO : Nat := 0x1800C
/-- R107: Latched cycle [47:32] in [15:0]. -/
def SUP_TB_CYC_HI : Nat := 0x18010
/-- R107: Latched angle in [31:16], fraction in [15:0]. -/
def SUP_TB_ANGLE : Nat := 0x18014
/-- R107: Latched UTC seconds since 1970-01-01 [31:0]. -/
def SUP_WALL_SEC_LO : Nat := 0x18018
/-- R107: Same, [47:32] in [15:0]. -/
def SUP_WALL_SEC_HI : Nat := 0x1801C
/-- R107: Latched fraction of a second, units of 2^-32 s. -/
def SUP_WALL_FRAC : Nat := 0x18020
/-- R107: Validity, source, slew and step state. -/
def SUP_WALL_STATUS : Nat := 0x18024
/-- R107: High-water wall seconds [31:0]. -/
def SUP_WALL_HWM_LO : Nat := 0x18028
/-- R107: Same, [47:32] in [15:0]. -/
def SUP_WALL_HWM_HI : Nat := 0x1802C
/-- R107: Wake alarm on wall seconds [31:0]; 0 = off; held in AON. -/
def SUP_RTC_ALARM : Nat := 0x18030
/-- R107: Scheduler occupancy. -/
def SUP_SCHED_STATUS : Nat := 0x18034
/-- R107: Timebase and wall-clock events. -/
def SUP_TB_EVT : Nat := 0x18038
/-- R142: Range mode, polarity, offset tracking. -/
def MET_LANE_CFG (i : Nat) : Nat := 0x1000000 + 0x100 * i
/-- R142: Gain, unsigned 2.30. -/
def MET_LANE_GAIN (i : Nat) : Nat := 0x1000004 + 0x100 * i
/-- R142: ×1 offset, signed, sample LSB. -/
def MET_LANE_OFS1 (i : Nat) : Nat := 0x1000008 + 0x100 * i
/-- R142: ×16 offset, signed, sample LSB in ×1 units. -/
def MET_LANE_OFS16 (i : Nat) : Nat := 0x100000C + 0x100 * i
/-- R142: Delay. -/
def MET_LANE_PHASE (i : Nat) : Nat := 0x1000010 + 0x100 * i
/-- R142: ×16 to ×1 ratio, unsigned 8.24. -/
def MET_LANE_GRATIO (i : Nat) : Nat := 0x1000014 + 0x100 * i
/-- R142: Range delay difference. -/
def MET_LANE_D16 (i : Nat) : Nat := 0x1000018 + 0x100 * i
/-- R142: State, range, cause, eye. -/
def MET_LANE_STATUS (i : Nat) : Nat := 0x1008000 + 0x100 * i
/-- R142: Code violations, saturating. -/
def MET_LANE_CV (i : Nat) : Nat := 0x1008004 + 0x100 * i
/-- R142: Lane events. -/
def MET_LANE_EVT (i : Nat) : Nat := 0x1008008 + 0x100 * i
/-- R142: Range switches, modulo 2^32. -/
def MET_LANE_SWCNT (i : Nat) : Nat := 0x100800C + 0x100 * i
/-- R142: Peak magnitude of the last completed cycle, ×1 units. -/
def MET_LANE_PEAK (i : Nat) : Nat := 0x1008010 + 0x100 * i
/-- R142: ID word 0 in [15:0], word 1 in [31:16]. -/
def MET_LANE_ID (i : Nat) : Nat := 0x1008014 + 0x100 * i
/-- R142: Substituted samples, modulo 2^32. -/
def MET_LANE_SUBST (i : Nat) : Nat := 0x1008018 + 0x100 * i
/-- R144: Point m: type, base lane, binding; shadowed. -/
def MET_MP_CFG (i : Nat) : Nat := 0x1010000 + 0x10 * i
/-- R144: Point m state and cycle flags. -/
def MET_MP_STATUS (i : Nat) : Nat := 0x1018000 + 0x4 * i
/-- R144: Calibration measurement control. -/
def MET_CAL_CTRL : Nat := 0x1018020
/-- R144: Calibration measurement state. -/
def MET_CAL_STATUS : Nat := 0x1018024
/-- R144: RMS of lane A, ×1 units. -/
def MET_CAL_RMS_A : Nat := 0x1018028
/-- R144: RMS of lane B, ×1 units. -/
def MET_CAL_RMS_B : Nat := 0x101802C
/-- R144: Mean of lane A, signed. -/
def MET_CAL_MEAN_A : Nat := 0x1018030
/-- R144: Mean of A × B, signed 64-bit [31:0]. -/
def MET_CAL_PROD_LO : Nat := 0x1018034
/-- R144: Same, [63:32]. -/
def MET_CAL_PROD_HI : Nat := 0x1018038
/-- R176: Full scale of lane n; shadowed. -/
def MET_QE_FS (i : Nat) : Nat := 0x1020000 + 0x4 * i
/-- R176: Direction and rated current of point m; shadowed. -/
def MET_QE_PCFG (i : Nat) : Nat := 0x1020100 + 0x10 * i
/-- R176: Value w of phase p (0 L1, 1 L2, 2 L3, 3 total) of point m, last completed cycle. -/
def MET_QE_INST (i j k : Nat) : Nat := 0x1028000 + 0x80 * i + 0x20 * j + 0x4 * k
/-- R176: Cycles with a substituted sample, modulo 2^32. -/
def MET_QE_CNT_SUBST (i : Nat) : Nat := 0x1028400 + 0x10 * i
/-- R176: Cycles with an OVR sample, modulo 2^32. -/
def MET_QE_CNT_OVR (i : Nat) : Nat := 0x1028404 + 0x10 * i
/-- R176: Cycles on the fallback clock, modulo 2^32. -/
def MET_QE_CNT_FB (i : Nat) : Nat := 0x1028408 + 0x10 * i
/-- R176: Lane for harmonic analysis. -/
def MET_QE_HSEL : Nat := 0x1028500
/-- R176: Quantity-engine events. -/
def MET_QE_EVT : Nat := 0x1028504
/-- R176: Sample-interval correction of R156. -/
def MET_QE_DTCORR : Nat := 0x1028508
/-- R176: Harmonic h of the selected lane, h = 0 to 63. -/
def MET_QE_HARM (i : Nat) : Nat := 0x1028600 + 0x4 * i
/-- R178: Latch selection and command. -/
def MET_ACC_CTRL : Nat := 0x1038000
/-- R178: Latch state. -/
def MET_ACC_STATUS : Nat := 0x1038004
/-- R178: Cycle of the latched values [31:0]. -/
def MET_ACC_CYC_LO : Nat := 0x1038008
/-- R178: Same, [47:32] in [15:0]. -/
def MET_ACC_CYC_HI : Nat := 0x103800C
/-- R178: Last slot written. -/
def MET_CMT_STATUS : Nat := 0x1038010
/-- R178: SEQ of the last slot [31:0]. -/
def MET_CMT_SEQ_LO : Nat := 0x1038014
/-- R178: Same, [63:32]. -/
def MET_CMT_SEQ_HI : Nat := 0x1038018
/-- R178: Commit durations. -/
def MET_CMT_TIME : Nat := 0x103801C
/-- R178: Context bound to point m, set by the outlet region. -/
def MET_ACC_SBIND (i : Nat) : Nat := 0x1038020 + 0x4 * i
/-- R178: R[63:32] of slot k. -/
def MET_ACC_MWH_LO (i : Nat) : Nat := 0x1038100 + 0x10 * i
/-- R178: R[95:64] of slot k. -/
def MET_ACC_MWH_HI (i : Nat) : Nat := 0x1038104 + 0x10 * i
/-- R178: R[31:0] of slot k. -/
def MET_ACC_FRAC (i : Nat) : Nat := 0x1038108 + 0x10 * i
/-- R178: Legacy window of slot k, Wh modulo 2^32. -/
def MET_ACC_LEGACY (i : Nat) : Nat := 0x103810C + 0x10 * i
/-- R209: Demand interval; shadowed. -/
def TAR_DEM_CFG : Nat := 0x1040000
/-- R209: Billing interval and points; shadowed. -/
def TAR_BILL_CFG : Nat := 0x1040004
/-- R209: Rate and calendar position. -/
def TAR_STATUS : Nat := 0x1048000
/-- R209: CAL_ID of the active calendar; 0 if none. -/
def TAR_ACT_ID : Nat := 0x1048004
/-- R209: Calendar word address. -/
def TAR_TBL_ADDR : Nat := 0x1048008
/-- R209: Calendar word data. -/
def TAR_TBL_DATA : Nat := 0x104800C
/-- R209: Passive calendar commands. -/
def TAR_PAS_CTRL : Nat := 0x1048010
/-- R209: Passive calendar state. -/
def TAR_PAS_STATUS : Nat := 0x1048014
/-- R209: Activation instant, UTC seconds [31:0]. -/
def TAR_PAS_AT_LO : Nat := 0x1048018
/-- R209: Same, [47:32] in [15:0]. -/
def TAR_PAS_AT_HI : Nat := 0x104801C
/-- R209: Price staging address and target table. -/
def TAR_PRICE_ADDR : Nat := 0x1048020
/-- R209: Price staging word. -/
def TAR_PRICE_DATA : Nat := 0x1048024
/-- R209: Price table commands. -/
def TAR_PRICE_CTRL : Nat := 0x1048028
/-- R209: Point and direction for the demand window. -/
def TAR_MD_SEL : Nat := 0x104802C
/-- R209: Maximum-demand reset. -/
def TAR_MD_CTRL : Nat := 0x1048030
/-- R209: Context for TAR_CTX_STATUS. -/
def TAR_CTX_SEL : Nat := 0x1048034
/-- R209: Billing view of the selected context. -/
def TAR_CTX_STATUS : Nat := 0x1048038
/-- R209: Tariff events. -/
def TAR_EVT : Nat := 0x104803C
/-- R209: Maximum demand, register r = 0 to 16. -/
def TAR_MD_VAL (i : Nat) : Nat := 0x1048100 + 0x8 * i
/-- R209: End wall time of that maximum. -/
def TAR_MD_AT (i : Nat) : Nat := 0x1048104 + 0x8 * i
/-- R209: Demand of the last closed interval. -/
def TAR_DEM_LAST_VAL : Nat := 0x1048188
/-- R209: Its flags and rate. -/
def TAR_DEM_LAST_FLAGS : Nat := 0x104818C
/-- R234: Legal part state. -/
def LEG_STATUS : Nat := 0x1058000
/-- R234: Legal firmware version. -/
def LEG_SWID_VER : Nat := 0x1058004
/-- R234: Firmware digest bytes 4i to 4i + 3, i = 0 to 3. -/
def LEG_SWID_DIG (i : Nat) : Nat := 0x1058008 + 0x4 * i
/-- R234: Seal openings. -/
def LEG_SEAL_CNT : Nat := 0x1058018
/-- R234: Next SEQ [31:0]. -/
def LEG_HEAD_LO : Nat := 0x1058020
/-- R234: Same, [63:32]. -/
def LEG_HEAD_HI : Nat := 0x1058024
/-- R234: Highest acknowledged SEQ [31:0]. -/
def LEG_ACK_LO : Nat := 0x1058028
/-- R234: Same, [63:32]. -/
def LEG_ACK_HI : Nat := 0x105802C
/-- R234: Highest SEQ signed, all below it signed, [31:0]. -/
def LEG_SIGNED_LO : Nat := 0x1058030
/-- R234: Same, [63:32]. -/
def LEG_SIGNED_HI : Nat := 0x1058034
/-- R234: Unacknowledged entries. -/
def LEG_UNACK : Nat := 0x1058038
/-- R234: Entries not written, modulo 2^32. -/
def LEG_LOST : Nat := 0x105803C
/-- R234: Legal events. -/
def LEG_EVT : Nat := 0x1058040
/-- R234: CHAIN of the newest entry, bytes 4j to 4j + 3, j = 0 to 7. -/
def LEG_CHAIN (i : Nat) : Nat := 0x1058060 + 0x4 * i
/-- R267: Kind, options, protocols; shadowed. -/
def OUT_CFG (i : Nat) : Nat := 0x2000000 + 0x10000 * i
/-- R267: Current limits; shadowed. -/
def OUT_LIMIT (i : Nat) : Nat := 0x2000004 + 0x10000 * i
/-- R267: DC voltage and power limits; shadowed. -/
def OUT_DCLIM (i : Nat) : Nat := 0x2000008 + 0x10000 * i
/-- R267: Point-on-wave; shadowed. -/
def OUT_POW_CFG (i : Nat) : Nat := 0x200000C + 0x10000 * i
/-- R267: Converter modules; shadowed. -/
def OUT_CONV (i : Nat) : Nat := 0x2000010 + 0x10000 * i
/-- R267: Cable lock; shadowed. -/
def OUT_LOCK_CFG (i : Nat) : Nat := 0x2000014 + 0x10000 * i
/-- R267: Authorisation rules; shadowed. -/
def OUT_AUTH_CFG (i : Nat) : Nat := 0x2000018 + 0x10000 * i
/-- R267: Green PHY; shadowed. -/
def OUT_GP_CFG (i : Nat) : Nat := 0x200001C + 0x10000 * i
/-- R267: Session, pilot, PP, lock. -/
def OUT_STATUS (i : Nat) : Nat := 0x2008000 + 0x10000 * i
/-- R267: Pilot plateaus. -/
def OUT_CP_STATUS (i : Nat) : Nat := 0x2008004 + 0x10000 * i
/-- R267: Proximity. -/
def OUT_PP_STATUS (i : Nat) : Nat := 0x2008008 + 0x10000 * i
/-- R267: Duty and ILIM. -/
def OUT_DUTY (i : Nat) : Nat := 0x200800C + 0x10000 * i
/-- R267: Learned operate times. -/
def OUT_POW_STATUS (i : Nat) : Nat := 0x2008010 + 0x10000 * i
/-- R267: Commands. -/
def OUT_CTRL (i : Nat) : Nat := 0x2008014 + 0x10000 * i
/-- R267: Outlet events. -/
def OUT_EVT (i : Nat) : Nat := 0x2008018 + 0x10000 * i
/-- R269: Bit rates and enable of CANb; shadowed. -/
def OUT_CAN_CFG (i : Nat) : Nat := 0x2080000 + 0x4 * i
/-- R269: Error state of CANb. -/
def OUT_CAN_STATUS (i : Nat) : Nat := 0x2088000 + 0x10 * i
/-- R269: Modules present, bit a = address a, a = 0 to 31. -/
def OUT_CAN_PRES_LO (i : Nat) : Nat := 0x2088004 + 0x10 * i
/-- R269: Same, bit a − 32, a = 32 to 63. -/
def OUT_CAN_PRES_HI (i : Nat) : Nat := 0x2088008 + 0x10 * i
/-- R269: Context counts. -/
def OUT_CTX_CNT : Nat := 0x20A8000
/-- R270: Pull-in current, hold current and pull-in time of COILn; non-shadowable (R39). -/
def PWD_COIL_PROF (i : Nat) : Nat := 0x7008100 + 0x10 * i
/-- R270: Driver state and current of COILn. -/
def PWD_COIL_STATUS (i : Nat) : Nat := 0x7008104 + 0x10 * i
/-- R299: PE limit; shadowed. -/
def SAF_PE_CFG : Nat := 0x2090000
/-- R299: Insulation limits; shadowed. -/
def SAF_IMD_CFG : Nat := 0x2090004
/-- R299: Temperature limits and switches; shadowed. -/
def SAF_TEMP_CFG : Nat := 0x2090008
/-- R299: Pole test of outlet n; shadowed. -/
def SAF_DC_CFG (i : Nat) : Nat := 0x2090010 + 0x4 * i
/-- R299: Permissions, retirement, channel health. -/
def SAF_STATUS : Nat := 0x2098000
/-- R299: Last trip. -/
def SAF_TRIP : Nat := 0x2098004
/-- R299: Safety events. -/
def SAF_EVT : Nat := 0x2098008
/-- R299: DC residual current of outlet n. -/
def SAF_RC_DC (i : Nat) : Nat := 0x2098100 + 0x10 * i
/-- R299: AC residual current of outlet n. -/
def SAF_RC_AC (i : Nat) : Nat := 0x2098104 + 0x10 * i
/-- R299: PE loop of outlet n. -/
def SAF_PE_RES (i : Nat) : Nat := 0x2098108 + 0x10 * i
/-- R299: Insulation of outlet n. -/
def SAF_INS (i : Nat) : Nat := 0x209810C + 0x10 * i
/-- R300: Lines, latches, state. -/
def NIB_STATUS : Nat := 0x7800000
/-- R300: Seal inputs and setting. -/
def NIB_SEAL : Nat := 0x7800004
/-- R300: Cause of each outlet's last withdrawal. -/
def NIB_CAUSE : Nat := 0x7800008
/-- R300: Degraded window. -/
def NIB_DEGRADED : Nat := 0x780000C
/-- R300: Heartbeat counts. -/
def NIB_QA : Nat := 0x7800010
/-- R300: Mirror age. -/
def NIB_MIRROR_AGE : Nat := 0x7800014
/-- R321: Source, slew, window, retries, options; shadowed. -/
def LSW_CFG (i : Nat) : Nat := 0x7010000 + 0x4 * i
/-- R321: Test pulse enable, length, angle; shadowed. -/
def LSW_TP_CFG (i : Nat) : Nat := 0x7010040 + 0x4 * i
/-- R321: Test pulse period; shadowed. -/
def LSW_TP_PER (i : Nat) : Nat := 0x7010080 + 0x4 * i
/-- R321: Group budgets; shadowed. -/
def LSW_GRP_CFG : Nat := 0x70100C0
/-- R321: Command. -/
def LSW_CMD (i : Nat) : Nat := 0x7018000 + 0x10 * i
/-- R321: State and flags. -/
def LSW_STATUS (i : Nat) : Nat := 0x7018004 + 0x10 * i
/-- R321: Current and output voltage. -/
def LSW_MEAS (i : Nat) : Nat := 0x7018008 + 0x10 * i
/-- R321: Channel events. -/
def LSW_EVT (i : Nat) : Nat := 0x701800C + 0x10 * i
/-- R321: Group currents and states. -/
def LSW_GRP_STATUS : Nat := 0x7018100
/-- R321: Disable, bit c. -/
def LSW_DISABLE : Nat := 0x7018104
/-- R321: Still draining, bit c. -/
def LSW_DISABLE_STATUS : Nat := 0x7018108
/-- R344: Horizontal timing; shadowed. -/
def DSP_HTIME : Nat := 0x5000000
/-- R344: Vertical timing; shadowed. -/
def DSP_VTIME : Nat := 0x5000004
/-- R344: Lanes, format, sync, rates; shadowed. -/
def DSP_DSI_CFG : Nat := 0x5000008
/-- R344: Power sequence times; shadowed. -/
def DSP_PWR_CFG : Nat := 0x500000C
/-- R344: Fallback colour, buffer format; shadowed. -/
def DSP_FALLBACK : Nat := 0x5000010
/-- R344: [15:0] angle of locked frame starts; shadowed. -/
def DSP_SYNC_ANGLE : Nat := 0x5000014
/-- R344: Initialisation bytes 4q to 4q + 3, first byte in [7:0], q = 0 to 63; shadowed. -/
def DSP_INIT_TBL (i : Nat) : Nat := 0x5000100 + 0x4 * i
/-- R344: Panel and pipeline state. -/
def DSP_STATUS : Nat := 0x5008000
/-- R344: [31:12] DRAM offset of the buffer to publish. -/
def DSP_PUB_ADDR : Nat := 0x5008004
/-- R344: Its CRC-32. -/
def DSP_PUB_CRC : Nat := 0x5008008
/-- R344: [0] GO. -/
def DSP_PUB_CTRL : Nat := 0x500800C
/-- R344: [31:12] offset of the front buffer. -/
def DSP_FRONT_ADDR : Nat := 0x5008010
/-- R344: Frames sent, modulo 2^32. -/
def DSP_FRAME_CNT : Nat := 0x5008014
/-- R344: Pipeline events. -/
def DSP_EVT : Nat := 0x5008018
/-- R344: Entry i of colour c; shadowed. -/
def DSP_GAMMA (i j : Nat) : Nat := 0x5010000 + 0x1000 * i + 0x4 * j
/-- R344: Method, floor, gain limit, shift; shadowed. -/
def DSP_AGE_CFG : Nat := 0x5020000
/-- R344: Sensing divider, level, settle; shadowed. -/
def DSP_AGE_SENSE : Nat := 0x5020004
/-- R344: [7:0] CMD, panel sense command; shadowed. -/
def DSP_AGE_SCMD : Nat := 0x5020008
/-- R344: Efficiency table; shadowed. -/
def DSP_AGE_LUT (i j : Nat) : Nat := 0x5020100 + 0x100 * i + 0x4 * j
/-- R344: Method in use, target. -/
def DSP_AGE_STATUS : Nat := 0x5028000
/-- R344: [0] BASELINE. -/
def DSP_AGE_CTRL : Nat := 0x5028004
/-- R344: Scan progress. -/
def DSP_AGE_PROG : Nat := 0x5028008
/-- R344: Pixels clipped in the last frame, saturating. -/
def DSP_AGE_CLIP : Nat := 0x502800C
/-- R344: Ageing events. -/
def DSP_AGE_EVT : Nat := 0x5028010
/-- R344: Checksum state. -/
def DSP_CRC_STATUS : Nat := 0x5038000
/-- R344: CRC-32 of the last frame fetched. -/
def DSP_CRC_CALC : Nat := 0x5038004
/-- R344: Mismatched frames, modulo 2^32. -/
def DSP_CRC_FAILS : Nat := 0x5038008
/-- R344: Phase time, full-update period, clock; shadowed. -/
def DSP_BP_CFG : Nat := 0x5040000
/-- R344: Panel size; shadowed. -/
def DSP_BP_GEOM : Nat := 0x5040004
/-- R344: Power-fail energies; shadowed. -/
def DSP_BP_PF : Nat := 0x5040008
/-- R344: Boundaries 0 to 3; shadowed. -/
def DSP_BP_TRANGE0 : Nat := 0x504000C
/-- R344: Boundaries 4 to 6; shadowed. -/
def DSP_BP_TRANGE1 : Nat := 0x5040010
/-- R344: Word j of waveform w of set t; shadowed. -/
def DSP_BP_WF (i j k : Nat) : Nat := 0x5040100 + 0x40 * i + 0x10 * j + 0x4 * k
/-- R344: Engine state. -/
def DSP_BP_STATUS : Nat := 0x5048000
/-- R344: CRC of the last recovered buffer. -/
def DSP_BP_CRC : Nat := 0x5048004
/-- R344: Update and abort counts. -/
def DSP_BP_CNT : Nat := 0x5048008
/-- R344: Panel events. -/
def DSP_BP_EVT : Nat := 0x504800C
/-- R368: Register write lock. -/
def HST_CTRL : Nat := 0x4048000
/-- R368: Link and endpoint state. -/
def HST_STATUS : Nat := 0x4048004
/-- R368: Host interface events. -/
def HST_EVT : Nat := 0x4048008
/-- R368: Descriptors in flight, discards. -/
def HST_INFLIGHT : Nat := 0x404800C
/-- R368: Event route k. -/
def HST_IRQ_ROUTE (i : Nat) : Nat := 0x4048040 + 0x4 * i
/-- R368: SQ base [31:0]. -/
def HST_SQ_BASE_LO (i : Nat) : Nat := 0x4048100 + 0x20 * i
/-- R368: SQ base [63:32]. -/
def HST_SQ_BASE_HI (i : Nat) : Nat := 0x4048104 + 0x20 * i
/-- R368: CQ base [31:0]. -/
def HST_CQ_BASE_LO (i : Nat) : Nat := 0x4048108 + 0x20 * i
/-- R368: CQ base [63:32]. -/
def HST_CQ_BASE_HI (i : Nat) : Nat := 0x404810C + 0x20 * i
/-- R368: Enable, sizes, vector, priority. -/
def HST_RING_CFG (i : Nat) : Nat := 0x4048110 + 0x20 * i
/-- R368: Interrupt coalescing. -/
def HST_RING_COAL (i : Nat) : Nat := 0x4048114 + 0x20 * i
/-- R368: Ring state. -/
def HST_RING_STATUS (i : Nat) : Nat := 0x4048118 + 0x20 * i
/-- R368: SQ head, CQ tail. -/
def HST_RING_PTR (i : Nat) : Nat := 0x404811C + 0x20 * i
/-- R399: Enable, roles, adoption delay; shadowed. -/
def FAB_CFG : Nat := 0x4020000
/-- R399: Site import limit, W; shadowed. -/
def FAB_SITE_IMP : Nat := 0x4020004
/-- R399: Site export limit, W; shadowed. -/
def FAB_SITE_EXP : Nat := 0x4020008
/-- R399: Site configuration version; shadowed. -/
def FAB_SITE_VER : Nat := 0x402000C
/-- R399: Rating and uncontrolled-load point; shadowed. -/
def FAB_MOD_CFG : Nat := 0x4020010
/-- R399: Class and weight of outlet n; shadowed. -/
def FAB_OUT_CFG (i : Nat) : Nat := 0x4020020 + 0x4 * i
/-- R399: Routing weight; non-shadowable (R39). -/
def FAB_PORT_COST (i : Nat) : Nat := 0x4028000 + 0x4 * i
/-- R399: Address and mode. -/
def FAB_STATUS : Nat := 0x4028010
/-- R399: Membership counts. -/
def FAB_MEMBERS : Nat := 0x4028014
/-- R399: Last round computed or received. -/
def FAB_ROUND : Nat := 0x4028018
/-- R399: Divergence and fallback counts. -/
def FAB_DIV : Nat := 0x402801C
/-- R399: Time root. -/
def FAB_ROOT : Nat := 0x4028020
/-- R399: Milliner of this partition. -/
def FAB_MILLINER : Nat := 0x4028024
/-- R399: Offset from the root. -/
def FAB_TIME_OFS : Nat := 0x4028028
/-- R399: Commands. -/
def FAB_CTRL : Nat := 0x402802C
/-- R399: Fabric events. -/
def FAB_EVT : Nat := 0x4028030
/-- R399: Replica health per outlet. -/
def FAB_REPL : Nat := 0x4028034
/-- R399: Port state and neighbour. -/
def FAB_PORT_STATUS (i : Nat) : Nat := 0x4028040 + 0x10 * i
/-- R399: Port error counts. -/
def FAB_PORT_ERR (i : Nat) : Nat := 0x4028044 + 0x10 * i
/-- R399: Link delay. -/
def FAB_PORT_DELAY (i : Nat) : Nat := 0x4028048 + 0x10 * i
/-- R399: Import grant in force for outlet n. -/
def FAB_GRANT_IMP (i : Nat) : Nat := 0x4028080 + 0x8 * i
/-- R399: Export grant in force for outlet n. -/
def FAB_GRANT_EXP (i : Nat) : Nat := 0x4028084 + 0x8 * i
/-- R431: Inkwell state. -/
def TRU_STATUS : Nat := 0x3008000
/-- R431: Register accesses and re-maskings. -/
def TRU_KR_CNT : Nat := 0x3008004
/-- R431: Entropy source. -/
def TRU_ENT_STATUS : Nat := 0x3008008
/-- R431: Trust events. -/
def TRU_EVT : Nat := 0x300800C
/-- R431: TLS 1.3 suites and groups; shadowed. -/
def TRU_TLS_POLICY : Nat := 0x3010000
/-- R431: Device-key state. -/
def TRU_XMT_STATUS : Nat := 0x3018000
/-- R431: NEXT [31:0]. -/
def TRU_XMT_NEXT_LO : Nat := 0x3018004
/-- R431: NEXT [39:32] in [7:0]. -/
def TRU_XMT_NEXT_HI : Nat := 0x3018008
/-- R431: AES contexts in use. -/
def TRU_AES_CTX : Nat := 0x301800C
/-- R431: Public key bytes 4w to 4w + 3, w = 0 to 16. -/
def TRU_XMT_PUB (i : Nat) : Nat := 0x3018100 + 0x4 * i
/-- R431: MEAS bytes 4j to 4j + 3, j = 0 to 7. -/
def TRU_MEAS (i : Nat) : Nat := 0x3028000 + 0x4 * i
/-- R431: AUTH bytes 4j to 4j + 3. -/
def TRU_AUTH (i : Nat) : Nat := 0x3028020 + 0x4 * i
/-- R431: Stages measured. -/
def TRU_STAGE : Nat := 0x3028040
/-- R431: Lifecycle state. -/
def TRU_LCS : Nat := 0x3038000
/-- R431: UNIT bytes 4j to 4j + 3, j = 0 to 3. -/
def TRU_UNIT (i : Nat) : Nat := 0x3038004 + 0x4 * i
/-- R431: Fields programmed. -/
def TRU_FUSE_STATUS : Nat := 0x3038014
/-- R431: Token nonce bytes 4j to 4j + 3, j = 0 to 7. -/
def TRU_LC_NONCE (i : Nat) : Nat := 0x3038018 + 0x4 * i
/-- R431: Debug state. -/
def TRU_DBG_STATUS : Nat := 0x3038038
/-- R431: Last lifecycle request. -/
def TRU_LC_RESULT : Nat := 0x303803C
/-- R453: Idle timeout; shadowed. -/
def UPD_CFG : Nat := 0x60000
/-- R453: Session state. -/
def UPD_STATUS : Nat := 0x68000
/-- R453: MANIFEST_ID [31:0]. -/
def UPD_ID_LO : Nat := 0x68004
/-- R453: MANIFEST_ID [63:32]. -/
def UPD_ID_HI : Nat := 0x68008
/-- R453: Chunk counts. -/
def UPD_CHUNKS : Nat := 0x6800C
/-- R453: Chunk bitmap bits 32w to 32w + 31, w = 0 to 3. -/
def UPD_BITMAP (i : Nat) : Nat := 0x68010 + 0x4 * i
/-- R453: Confirmation time left. -/
def UPD_CONFIRM_LEFT : Nat := 0x68020
/-- R453: Parts named, banks, schema resets. -/
def UPD_PARTS : Nat := 0x68024
/-- R453: VERSION of the image of stage k now selected; 0 if absent. -/
def UPD_PART_VER (i : Nat) : Nat := 0x68028 + 0x4 * i
/-- R453: Update events. -/
def UPD_EVT : Nat := 0x68050
/-- R469: Reaction, pin, severity, quiet, limit; shadowed. -/
def FLT_SRC_CFG (i : Nat) : Nat := 0x20000 + 0x4 * i
/-- R469: Permanence limits, injection, trap vector; shadowed. -/
def FLT_GCFG : Nat := 0x20800
/-- R469: Collector summary. -/
def FLT_STATUS : Nat := 0x28000
/-- R469: Collector events; route 3 of R370. -/
def FLT_EVT : Nat := 0x28004
/-- R469: Last report received. -/
def FLT_LAST : Nat := 0x28008
/-- R469: Clear commands. -/
def FLT_CMD : Nat := 0x2800C
/-- R469: Result of the last command. -/
def FLT_CMD_RESULT : Nat := 0x28010
/-- R469: Source in ACTIVE or QUIET. -/
def FLT_ACTIVE (i : Nat) : Nat := 0x28020 + 0x4 * i
/-- R469: Source in PERMANENT or RETIRED. -/
def FLT_PERM (i : Nat) : Nat := 0x28060 + 0x4 * i
/-- R469: Source reported since last cleared. -/
def FLT_NEW (i : Nat) : Nat := 0x280A0 + 0x4 * i
/-- R469: Force bits (R467, R468). -/
def FLT_FORCE (i : Nat) : Nat := 0x280E0 + 0x4 * i
/-- R469: State of source s. -/
def FLT_SRC_STATUS (i : Nat) : Nat := 0x28400 + 0x4 * i
/-- R477: Interrupt severity, merging; shadowed. -/
def BLT_CFG : Nat := 0x30000
/-- R477: Occupancy. -/
def BLT_STATUS : Nat := 0x38000
/-- R477: Next SEQ [31:0]. -/
def BLT_NEXT_LO : Nat := 0x38004
/-- R477: Same, [47:32] in [15:0]. -/
def BLT_NEXT_HI : Nat := 0x38008
/-- R477: Records dropped, modulo 2^32. -/
def BLT_DROP : Nat := 0x3800C
/-- R477: Cursor SEQ [31:0]. -/
def BLT_CURSOR_LO : Nat := 0x38010
/-- R477: Same, [47:32] in [15:0]. -/
def BLT_CURSOR_HI : Nat := 0x38014
/-- R477: Latch, next, filter. -/
def BLT_WIN_CTRL : Nat := 0x38018
/-- R477: Window state. -/
def BLT_WIN_STATUS : Nat := 0x3801C
/-- R477: Records held of severity v. -/
def BLT_SEV_COUNT (i : Nat) : Nat := 0x38020 + 0x4 * i
/-- R477: Blotter events. -/
def BLT_EVT : Nat := 0x38040
/-- R477: Lowest SEQ held [31:0]. -/
def BLT_OLDEST_LO : Nat := 0x38044
/-- R477: Same, [47:32] in [15:0]. -/
def BLT_OLDEST_HI : Nat := 0x38048
/-- R477: Window bytes 4w to 4w + 3. -/
def BLT_WIN (i : Nat) : Nat := 0x38100 + 0x4 * i

end Reg

/-- The registers of the frame at 0x0. -/
def rowsOf0 : List RegRow := [
  ⟨"SUP_ID", 0x8000, [], .ro, 0x8800300, 0x0⟩,
  ⟨"SUP_READY", 0x8004, [], .ro, 0x0, 0x0⟩,
  ⟨"SUP_CG_CTRL", 0x8010, [], .rw, 0x80000, 0xFFF03⟩,
  ⟨"SUP_CG_TARGET_LO", 0x8014, [], .rw, 0x0, 0xFFFFFFFF⟩,
  ⟨"SUP_CG_TARGET_HI", 0x8018, [], .rw, 0x0, 0xFFFF⟩,
  ⟨"SUP_CG_STATUS", 0x801C, [], .ro, 0x0, 0x0⟩,
  ⟨"SUP_CG_REFUSE", 0x8020, [], .ro, 0x0, 0x0⟩,
  ⟨"SUP_CG_DONE_LO", 0x8024, [], .ro, 0x0, 0x0⟩,
  ⟨"SUP_CG_DONE_HI", 0x8028, [], .ro, 0x0, 0x0⟩,
  ⟨"SUP_CG_EVT", 0x802C, [], .w1c, 0x0, 0x3F⟩,
  ⟨"SUP_NS_STATUS", 0x8030, [], .ro, 0x0, 0x0⟩,
  ⟨"SUP_FENCE", 0x8034, [], .ro, 0x7F, 0x0⟩,
  ⟨"SUP_MODE", 0x8038, [], .ro, 0x23, 0x0⟩,
  ⟨"SUP_MODE_REQ", 0x803C, [], .rw, 0x0, 0x30F⟩,
  ⟨"SUP_RST_CAUSE", 0x8040, [], .w1c, 0x1, 0x8003FBFF⟩,
  ⟨"SUP_RST_CTRL", 0x8044, [], .wo, 0x0, 0xFFFFFFFF⟩,
  ⟨"SUP_STBY_CFG", 0x8048, [], .rw, 0x3F, 0x1FF7F⟩,
  ⟨"SUP_DISABLE", 0x804C, [], .rw, 0x0, 0x1FFFFFF⟩,
  ⟨"SUP_DISABLE_STATUS", 0x8050, [], .ro, 0x0, 0x0⟩,
  ⟨"SUP_LCS", 0x8054, [], .ro, 0x0, 0x0⟩,
  ⟨"SUP_RAIL_STATUS", 0x8058, [], .ro, 0x0, 0x0⟩,
  ⟨"SUP_TEMP", 0x805C, [], .ro, 0x0, 0x0⟩]
/-- The registers of the frame at 0x10000. -/
def rowsOf1 : List RegRow := [
  ⟨"SUP_TB_CFG", 0x10000, [], .rw, 0x32280000, 0xFFFF3777⟩,
  ⟨"SUP_TB_SITE", 0x10004, [], .rw, 0x10000, 0x1001F⟩,
  ⟨"SUP_WALL_CFG", 0x10008, [], .rw, 0xF301E, 0x1FF1FF⟩,
  ⟨"SUP_TB_STATUS", 0x18000, [], .ro, 0x0, 0x0⟩,
  ⟨"SUP_TB_FREQ", 0x18004, [], .ro, 0xC350, 0x0⟩,
  ⟨"SUP_TB_LATCH", 0x18008, [], .wo, 0x0, 0xFFFFFFFF⟩,
  ⟨"SUP_TB_CYC_LO", 0x1800C, [], .ro, 0x0, 0x0⟩,
  ⟨"SUP_TB_CYC_HI", 0x18010, [], .ro, 0x0, 0x0⟩,
  ⟨"SUP_TB_ANGLE", 0x18014, [], .ro, 0x0, 0x0⟩,
  ⟨"SUP_WALL_SEC_LO", 0x18018, [], .ro, 0x0, 0x0⟩,
  ⟨"SUP_WALL_SEC_HI", 0x1801C, [], .ro, 0x0, 0x0⟩,
  ⟨"SUP_WALL_FRAC", 0x18020, [], .ro, 0x0, 0x0⟩,
  ⟨"SUP_WALL_STATUS", 0x18024, [], .ro, 0x0, 0x0⟩,
  ⟨"SUP_WALL_HWM_LO", 0x18028, [], .ro, 0x0, 0x0⟩,
  ⟨"SUP_WALL_HWM_HI", 0x1802C, [], .ro, 0x0, 0x0⟩,
  ⟨"SUP_RTC_ALARM", 0x18030, [], .rw, 0x0, 0xFFFFFFFF⟩,
  ⟨"SUP_SCHED_STATUS", 0x18034, [], .ro, 0x0, 0x0⟩,
  ⟨"SUP_TB_EVT", 0x18038, [], .w1c, 0x0, 0xFF⟩]
/-- The registers of the frame at 0x20000. -/
def rowsOf2 : List RegRow := [
  ⟨"FLT_SRC_CFG", 0x20000, [(0x4, 512)], .rw, 0x240, 0xF77F⟩,
  ⟨"FLT_GCFG", 0x20800, [], .rw, 0xA03, 0x1F01FF0F⟩,
  ⟨"FLT_STATUS", 0x28000, [], .ro, 0x0, 0x0⟩,
  ⟨"FLT_EVT", 0x28004, [], .w1c, 0x0, 0x1FF⟩,
  ⟨"FLT_LAST", 0x28008, [], .ro, 0x0, 0x0⟩,
  ⟨"FLT_CMD", 0x2800C, [], .wo, 0x0, 0xFFFF31FF⟩,
  ⟨"FLT_CMD_RESULT", 0x28010, [], .ro, 0x0, 0x0⟩,
  ⟨"FLT_ACTIVE", 0x28020, [(0x4, 16)], .ro, 0x0, 0x0⟩,
  ⟨"FLT_PERM", 0x28060, [(0x4, 16)], .ro, 0x0, 0x0⟩,
  ⟨"FLT_NEW", 0x280A0, [(0x4, 16)], .w1c, 0x0, 0xFFFFFFFF⟩,
  ⟨"FLT_FORCE", 0x280E0, [(0x4, 16)], .rw, 0x0, 0xFFFFFFFF⟩,
  ⟨"FLT_SRC_STATUS", 0x28400, [(0x4, 512)], .ro, 0x0, 0x0⟩]
/-- The registers of the frame at 0x30000. -/
def rowsOf3 : List RegRow := [
  ⟨"BLT_CFG", 0x30000, [], .rw, 0xD, 0xF⟩,
  ⟨"BLT_STATUS", 0x38000, [], .ro, 0x0, 0x0⟩,
  ⟨"BLT_NEXT_LO", 0x38004, [], .ro, 0x0, 0x0⟩,
  ⟨"BLT_NEXT_HI", 0x38008, [], .ro, 0x0, 0x0⟩,
  ⟨"BLT_DROP", 0x3800C, [], .ro, 0x0, 0x0⟩,
  ⟨"BLT_CURSOR_LO", 0x38010, [], .rw, 0x0, 0xFFFFFFFF⟩,
  ⟨"BLT_CURSOR_HI", 0x38014, [], .rw, 0x0, 0xFFFF⟩,
  ⟨"BLT_WIN_CTRL", 0x38018, [], .rw, 0x0, 0x73⟩,
  ⟨"BLT_WIN_STATUS", 0x3801C, [], .ro, 0x0, 0x0⟩,
  ⟨"BLT_SEV_COUNT", 0x38020, [(0x4, 8)], .ro, 0x0, 0x0⟩,
  ⟨"BLT_EVT", 0x38040, [], .w1c, 0x0, 0x1F⟩,
  ⟨"BLT_OLDEST_LO", 0x38044, [], .ro, 0x0, 0x0⟩,
  ⟨"BLT_OLDEST_HI", 0x38048, [], .ro, 0x0, 0x0⟩,
  ⟨"BLT_WIN", 0x38100, [(0x4, 64)], .ro, 0x0, 0x0⟩]
/-- The registers of the frame at 0x40000. -/
def rowsOf4 : List RegRow := [
  ⟨"SUP_WIPE_STATUS", 0x48000, [], .ro, 0x0, 0x0⟩,
  ⟨"SUP_WIPE_TIME", 0x48004, [], .ro, 0x0, 0x0⟩]
/-- The registers of the frame at 0x60000. -/
def rowsOf6 : List RegRow := [
  ⟨"UPD_CFG", 0x60000, [], .rw, 0x18, 0xFF⟩,
  ⟨"UPD_STATUS", 0x68000, [], .ro, 0x0, 0x0⟩,
  ⟨"UPD_ID_LO", 0x68004, [], .ro, 0x0, 0x0⟩,
  ⟨"UPD_ID_HI", 0x68008, [], .ro, 0x0, 0x0⟩,
  ⟨"UPD_CHUNKS", 0x6800C, [], .ro, 0x0, 0x0⟩,
  ⟨"UPD_BITMAP", 0x68010, [(0x4, 4)], .ro, 0x0, 0x0⟩,
  ⟨"UPD_CONFIRM_LEFT", 0x68020, [], .ro, 0x0, 0x0⟩,
  ⟨"UPD_PARTS", 0x68024, [], .ro, 0x0, 0x0⟩,
  ⟨"UPD_PART_VER", 0x68028, [(0x4, 9)], .ro, 0x0, 0x0⟩,
  ⟨"UPD_EVT", 0x68050, [], .w1c, 0x0, 0x1FF⟩]
/-- The registers of the frame at 0x1000000. -/
def rowsOf100 : List RegRow := [
  ⟨"MET_LANE_CFG", 0x1000000, [(0x100, 64)], .rw, 0x0, 0x33⟩,
  ⟨"MET_LANE_GAIN", 0x1000004, [(0x100, 64)], .rw, 0x40000000, 0xFFFFFFFF⟩,
  ⟨"MET_LANE_OFS1", 0x1000008, [(0x100, 64)], .rw, 0x0, 0xFFFFFFFF⟩,
  ⟨"MET_LANE_OFS16", 0x100000C, [(0x100, 64)], .rw, 0x0, 0xFFFFFFFF⟩,
  ⟨"MET_LANE_PHASE", 0x1000010, [(0x100, 64)], .rw, 0x0, 0xFFFFF⟩,
  ⟨"MET_LANE_GRATIO", 0x1000014, [(0x100, 64)], .rw, 0x10000000, 0xFFFFFFFF⟩,
  ⟨"MET_LANE_D16", 0x1000018, [(0x100, 64)], .rw, 0x0, 0xF⟩,
  ⟨"MET_LANE_STATUS", 0x1008000, [(0x100, 64)], .ro, 0x0, 0x0⟩,
  ⟨"MET_LANE_CV", 0x1008004, [(0x100, 64)], .rc, 0x0, 0x0⟩,
  ⟨"MET_LANE_EVT", 0x1008008, [(0x100, 64)], .w1c, 0x0, 0x7F⟩,
  ⟨"MET_LANE_SWCNT", 0x100800C, [(0x100, 64)], .ro, 0x0, 0x0⟩,
  ⟨"MET_LANE_PEAK", 0x1008010, [(0x100, 64)], .ro, 0x0, 0x0⟩,
  ⟨"MET_LANE_ID", 0x1008014, [(0x100, 64)], .ro, 0x0, 0x0⟩,
  ⟨"MET_LANE_SUBST", 0x1008018, [(0x100, 64)], .ro, 0x0, 0x0⟩]
/-- The registers of the frame at 0x1010000. -/
def rowsOf101 : List RegRow := [
  ⟨"MET_MP_CFG", 0x1010000, [(0x10, 8)], .rw, 0x0, 0xF3F03⟩,
  ⟨"MET_MP_STATUS", 0x1018000, [(0x4, 8)], .ro, 0x0, 0x0⟩,
  ⟨"MET_CAL_CTRL", 0x1018020, [], .rw, 0x0, 0x3FF3F3F⟩,
  ⟨"MET_CAL_STATUS", 0x1018024, [], .ro, 0x0, 0x0⟩,
  ⟨"MET_CAL_RMS_A", 0x1018028, [], .ro, 0x0, 0x0⟩,
  ⟨"MET_CAL_RMS_B", 0x101802C, [], .ro, 0x0, 0x0⟩,
  ⟨"MET_CAL_MEAN_A", 0x1018030, [], .ro, 0x0, 0x0⟩,
  ⟨"MET_CAL_PROD_LO", 0x1018034, [], .ro, 0x0, 0x0⟩,
  ⟨"MET_CAL_PROD_HI", 0x1018038, [], .ro, 0x0, 0x0⟩]
/-- The registers of the frame at 0x1020000. -/
def rowsOf102 : List RegRow := [
  ⟨"MET_QE_FS", 0x1020000, [(0x4, 64)], .rw, 0x0, 0xFFFFFFFF⟩,
  ⟨"MET_QE_PCFG", 0x1020100, [(0x10, 8)], .rw, 0x0, 0xFFFF0001⟩,
  ⟨"MET_QE_INST", 0x1028000, [(0x80, 8), (0x20, 4), (0x4, 8)], .ro, 0x0, 0x0⟩,
  ⟨"MET_QE_CNT_SUBST", 0x1028400, [(0x10, 8)], .ro, 0x0, 0x0⟩,
  ⟨"MET_QE_CNT_OVR", 0x1028404, [(0x10, 8)], .ro, 0x0, 0x0⟩,
  ⟨"MET_QE_CNT_FB", 0x1028408, [(0x10, 8)], .ro, 0x0, 0x0⟩,
  ⟨"MET_QE_HSEL", 0x1028500, [], .rw, 0x0, 0x3F⟩,
  ⟨"MET_QE_EVT", 0x1028504, [], .w1c, 0x0, 0x3F⟩,
  ⟨"MET_QE_DTCORR", 0x1028508, [], .ro, 0x40000000, 0x0⟩,
  ⟨"MET_QE_HARM", 0x1028600, [(0x4, 64)], .ro, 0x0, 0x0⟩]
/-- The registers of the frame at 0x1030000. -/
def rowsOf103 : List RegRow := [
  ⟨"MET_ACC_CTRL", 0x1038000, [], .rw, 0x0, 0x1FF01⟩,
  ⟨"MET_ACC_STATUS", 0x1038004, [], .ro, 0x0, 0x0⟩,
  ⟨"MET_ACC_CYC_LO", 0x1038008, [], .ro, 0x0, 0x0⟩,
  ⟨"MET_ACC_CYC_HI", 0x103800C, [], .ro, 0x0, 0x0⟩,
  ⟨"MET_CMT_STATUS", 0x1038010, [], .ro, 0x0, 0x0⟩,
  ⟨"MET_CMT_SEQ_LO", 0x1038014, [], .ro, 0x0, 0x0⟩,
  ⟨"MET_CMT_SEQ_HI", 0x1038018, [], .ro, 0x0, 0x0⟩,
  ⟨"MET_CMT_TIME", 0x103801C, [], .ro, 0x0, 0x0⟩,
  ⟨"MET_ACC_SBIND", 0x1038020, [(0x4, 8)], .ro, 0x0, 0x0⟩,
  ⟨"MET_ACC_MWH_LO", 0x1038100, [(0x10, 64)], .ro, 0x0, 0x0⟩,
  ⟨"MET_ACC_MWH_HI", 0x1038104, [(0x10, 64)], .ro, 0x0, 0x0⟩,
  ⟨"MET_ACC_FRAC", 0x1038108, [(0x10, 64)], .ro, 0x0, 0x0⟩,
  ⟨"MET_ACC_LEGACY", 0x103810C, [(0x10, 64)], .ro, 0x0, 0x0⟩]
/-- The registers of the frame at 0x1040000. -/
def rowsOf104 : List RegRow := [
  ⟨"TAR_DEM_CFG", 0x1040000, [], .rw, 0x10F, 0xF7F⟩,
  ⟨"TAR_BILL_CFG", 0x1040004, [], .rw, 0xFF0F, 0xFF3F⟩,
  ⟨"TAR_STATUS", 0x1048000, [], .ro, 0x0, 0x0⟩,
  ⟨"TAR_ACT_ID", 0x1048004, [], .ro, 0x0, 0x0⟩,
  ⟨"TAR_TBL_ADDR", 0x1048008, [], .rw, 0x10000, 0x307FF⟩,
  ⟨"TAR_TBL_DATA", 0x104800C, [], .rw, 0x0, 0xFFFFFFFF⟩,
  ⟨"TAR_PAS_CTRL", 0x1048010, [], .rw, 0x0, 0x7⟩,
  ⟨"TAR_PAS_STATUS", 0x1048014, [], .ro, 0x0, 0x0⟩,
  ⟨"TAR_PAS_AT_LO", 0x1048018, [], .rw, 0x0, 0xFFFFFFFF⟩,
  ⟨"TAR_PAS_AT_HI", 0x104801C, [], .rw, 0x0, 0xFFFF⟩,
  ⟨"TAR_PRICE_ADDR", 0x1048020, [], .rw, 0x10000, 0x10F3F⟩,
  ⟨"TAR_PRICE_DATA", 0x1048024, [], .rw, 0x0, 0xFFFFFFFF⟩,
  ⟨"TAR_PRICE_CTRL", 0x1048028, [], .rw, 0x0, 0x3⟩,
  ⟨"TAR_MD_SEL", 0x104802C, [], .rw, 0x0, 0x107⟩,
  ⟨"TAR_MD_CTRL", 0x1048030, [], .rw, 0x0, 0x1⟩,
  ⟨"TAR_CTX_SEL", 0x1048034, [], .rw, 0x0, 0xFF⟩,
  ⟨"TAR_CTX_STATUS", 0x1048038, [], .ro, 0x0, 0x0⟩,
  ⟨"TAR_EVT", 0x104803C, [], .w1c, 0x0, 0x1FF⟩,
  ⟨"TAR_MD_VAL", 0x1048100, [(0x8, 17)], .ro, 0x0, 0x0⟩,
  ⟨"TAR_MD_AT", 0x1048104, [(0x8, 17)], .ro, 0x0, 0x0⟩,
  ⟨"TAR_DEM_LAST_VAL", 0x1048188, [], .ro, 0x0, 0x0⟩,
  ⟨"TAR_DEM_LAST_FLAGS", 0x104818C, [], .ro, 0x0, 0x0⟩]
/-- The registers of the frame at 0x1050000. -/
def rowsOf105 : List RegRow := [
  ⟨"LEG_STATUS", 0x1058000, [], .ro, 0x0, 0x0⟩,
  ⟨"LEG_SWID_VER", 0x1058004, [], .ro, 0x0, 0x0⟩,
  ⟨"LEG_SWID_DIG", 0x1058008, [(0x4, 4)], .ro, 0x0, 0x0⟩,
  ⟨"LEG_SEAL_CNT", 0x1058018, [], .ro, 0x0, 0x0⟩,
  ⟨"LEG_HEAD_LO", 0x1058020, [], .ro, 0x0, 0x0⟩,
  ⟨"LEG_HEAD_HI", 0x1058024, [], .ro, 0x0, 0x0⟩,
  ⟨"LEG_ACK_LO", 0x1058028, [], .ro, 0x0, 0x0⟩,
  ⟨"LEG_ACK_HI", 0x105802C, [], .ro, 0x0, 0x0⟩,
  ⟨"LEG_SIGNED_LO", 0x1058030, [], .ro, 0x0, 0x0⟩,
  ⟨"LEG_SIGNED_HI", 0x1058034, [], .ro, 0x0, 0x0⟩,
  ⟨"LEG_UNACK", 0x1058038, [], .ro, 0x0, 0x0⟩,
  ⟨"LEG_LOST", 0x105803C, [], .ro, 0x0, 0x0⟩,
  ⟨"LEG_EVT", 0x1058040, [], .rc, 0x0, 0x0⟩,
  ⟨"LEG_CHAIN", 0x1058060, [(0x4, 8)], .ro, 0x0, 0x0⟩]
/-- The registers of the frame at 0x2000000. -/
def rowsOf200 : List RegRow := [
  ⟨"OUT_CFG", 0x2000000, [(0x10000, 8)], .rw, 0x0, 0x177FF⟩,
  ⟨"OUT_LIMIT", 0x2000004, [(0x10000, 8)], .rw, 0x0, 0xFFFFFFFF⟩,
  ⟨"OUT_DCLIM", 0x2000008, [(0x10000, 8)], .rw, 0x0, 0xFFFFFFFF⟩,
  ⟨"OUT_POW_CFG", 0x200000C, [(0x10000, 8)], .rw, 0x8002800, 0xFFFFFF07⟩,
  ⟨"OUT_CONV", 0x2000010, [(0x10000, 8)], .rw, 0x0, 0x1F3F01⟩,
  ⟨"OUT_LOCK_CFG", 0x2000014, [(0x10000, 8)], .rw, 0x140000, 0xFF3FFF⟩,
  ⟨"OUT_AUTH_CFG", 0x2000018, [(0x10000, 8)], .rw, 0x500, 0xFF0F⟩,
  ⟨"OUT_GP_CFG", 0x200001C, [(0x10000, 8)], .rw, 0x19, 0x11F⟩,
  ⟨"OUT_STATUS", 0x2008000, [(0x10000, 8)], .ro, 0x0, 0x0⟩,
  ⟨"OUT_CP_STATUS", 0x2008004, [(0x10000, 8)], .ro, 0x0, 0x0⟩,
  ⟨"OUT_PP_STATUS", 0x2008008, [(0x10000, 8)], .ro, 0xFFFF, 0x0⟩,
  ⟨"OUT_DUTY", 0x200800C, [(0x10000, 8)], .ro, 0x0, 0x0⟩,
  ⟨"OUT_POW_STATUS", 0x2008010, [(0x10000, 8)], .ro, 0x0, 0x0⟩,
  ⟨"OUT_CTRL", 0x2008014, [(0x10000, 8)], .w1s, 0x0, 0x1⟩,
  ⟨"OUT_EVT", 0x2008018, [(0x10000, 8)], .w1c, 0x0, 0xFFF⟩]
/-- The registers of the frame at 0x2080000. -/
def rowsOf208 : List RegRow := [
  ⟨"OUT_CAN_CFG", 0x2080000, [(0x4, 2)], .rw, 0x12, 0x1FF⟩,
  ⟨"OUT_CAN_STATUS", 0x2088000, [(0x10, 2)], .ro, 0x0, 0x0⟩,
  ⟨"OUT_CAN_PRES_LO", 0x2088004, [(0x10, 2)], .ro, 0x0, 0x0⟩,
  ⟨"OUT_CAN_PRES_HI", 0x2088008, [(0x10, 2)], .ro, 0x0, 0x0⟩]
/-- The registers of the frame at 0x2090000. -/
def rowsOf209 : List RegRow := [
  ⟨"SAF_PE_CFG", 0x2090000, [], .rw, 0xA, 0x1F⟩,
  ⟨"SAF_IMD_CFG", 0x2090004, [], .rw, 0x1F40064, 0xFFFFFFFF⟩,
  ⟨"SAF_TEMP_CFG", 0x2090008, [], .rw, 0xC7E0, 0x1FFFFFF⟩,
  ⟨"SAF_DC_CFG", 0x2090010, [(0x4, 8)], .rw, 0x0, 0xFFFF⟩,
  ⟨"SAF_STATUS", 0x2098000, [], .ro, 0x0, 0x0⟩,
  ⟨"SAF_TRIP", 0x2098004, [], .ro, 0x0, 0x0⟩,
  ⟨"SAF_EVT", 0x2098008, [], .w1c, 0x0, 0x1FFF⟩,
  ⟨"SAF_RC_DC", 0x2098100, [(0x10, 8)], .ro, 0x0, 0x0⟩,
  ⟨"SAF_RC_AC", 0x2098104, [(0x10, 8)], .ro, 0x0, 0x0⟩,
  ⟨"SAF_PE_RES", 0x2098108, [(0x10, 8)], .ro, 0xFFFFFFFF, 0x0⟩,
  ⟨"SAF_INS", 0x209810C, [(0x10, 8)], .ro, 0x0, 0x0⟩]
/-- The registers of the frame at 0x20A0000. -/
def rowsOf20A : List RegRow := [
  ⟨"OUT_CTX_CNT", 0x20A8000, [], .ro, 0x100, 0x0⟩]
/-- The registers of the frame at 0x3000000. -/
def rowsOf300 : List RegRow := [
  ⟨"TRU_STATUS", 0x3008000, [], .ro, 0x0, 0x0⟩,
  ⟨"TRU_KR_CNT", 0x3008004, [], .ro, 0x0, 0x0⟩,
  ⟨"TRU_ENT_STATUS", 0x3008008, [], .ro, 0x0, 0x0⟩,
  ⟨"TRU_EVT", 0x300800C, [], .w1c, 0x0, 0x7F⟩]
/-- The registers of the frame at 0x3010000. -/
def rowsOf301 : List RegRow := [
  ⟨"TRU_TLS_POLICY", 0x3010000, [], .rw, 0xF, 0x1F⟩,
  ⟨"TRU_XMT_STATUS", 0x3018000, [], .ro, 0x0, 0x0⟩,
  ⟨"TRU_XMT_NEXT_LO", 0x3018004, [], .ro, 0x0, 0x0⟩,
  ⟨"TRU_XMT_NEXT_HI", 0x3018008, [], .ro, 0x0, 0x0⟩,
  ⟨"TRU_AES_CTX", 0x301800C, [], .ro, 0x0, 0x0⟩,
  ⟨"TRU_XMT_PUB", 0x3018100, [(0x4, 17)], .ro, 0x0, 0x0⟩]
/-- The registers of the frame at 0x3020000. -/
def rowsOf302 : List RegRow := [
  ⟨"TRU_MEAS", 0x3028000, [(0x4, 8)], .ro, 0x0, 0x0⟩,
  ⟨"TRU_AUTH", 0x3028020, [(0x4, 8)], .ro, 0x0, 0x0⟩,
  ⟨"TRU_STAGE", 0x3028040, [], .ro, 0x0, 0x0⟩]
/-- The registers of the frame at 0x3030000. -/
def rowsOf303 : List RegRow := [
  ⟨"TRU_LCS", 0x3038000, [], .ro, 0x0, 0x0⟩,
  ⟨"TRU_UNIT", 0x3038004, [(0x4, 4)], .ro, 0x0, 0x0⟩,
  ⟨"TRU_FUSE_STATUS", 0x3038014, [], .ro, 0x0, 0x0⟩,
  ⟨"TRU_LC_NONCE", 0x3038018, [(0x4, 8)], .ro, 0x0, 0x0⟩,
  ⟨"TRU_DBG_STATUS", 0x3038038, [], .ro, 0x0, 0x0⟩,
  ⟨"TRU_LC_RESULT", 0x303803C, [], .ro, 0x0, 0x0⟩]
/-- The registers of the frame at 0x4020000. -/
def rowsOf402 : List RegRow := [
  ⟨"FAB_CFG", 0x4020000, [], .rw, 0x12C0003, 0xFFFF0007⟩,
  ⟨"FAB_SITE_IMP", 0x4020004, [], .rw, 0x0, 0xFFFFFFFF⟩,
  ⟨"FAB_SITE_EXP", 0x4020008, [], .rw, 0x0, 0xFFFFFFFF⟩,
  ⟨"FAB_SITE_VER", 0x402000C, [], .rw, 0x0, 0xFFFFFFFF⟩,
  ⟨"FAB_MOD_CFG", 0x4020010, [], .rw, 0x0, 0xFFFFF⟩,
  ⟨"FAB_OUT_CFG", 0x4020020, [(0x4, 8)], .rw, 0x101, 0xFF03⟩,
  ⟨"FAB_PORT_COST", 0x4028000, [(0x4, 4)], .rw, 0xA, 0xFFFF⟩,
  ⟨"FAB_STATUS", 0x4028010, [], .ro, 0x0, 0x0⟩,
  ⟨"FAB_MEMBERS", 0x4028014, [], .ro, 0x0, 0x0⟩,
  ⟨"FAB_ROUND", 0x4028018, [], .ro, 0x0, 0x0⟩,
  ⟨"FAB_DIV", 0x402801C, [], .ro, 0x0, 0x0⟩,
  ⟨"FAB_ROOT", 0x4028020, [], .ro, 0x0, 0x0⟩,
  ⟨"FAB_MILLINER", 0x4028024, [], .ro, 0x0, 0x0⟩,
  ⟨"FAB_TIME_OFS", 0x4028028, [], .ro, 0x0, 0x0⟩,
  ⟨"FAB_CTRL", 0x402802C, [], .wo, 0x0, 0x3FF0003⟩,
  ⟨"FAB_EVT", 0x4028030, [], .w1c, 0x0, 0x7FFF⟩,
  ⟨"FAB_REPL", 0x4028034, [], .ro, 0x0, 0x0⟩,
  ⟨"FAB_PORT_STATUS", 0x4028040, [(0x10, 4)], .ro, 0x0, 0x0⟩,
  ⟨"FAB_PORT_ERR", 0x4028044, [(0x10, 4)], .rc, 0x0, 0x0⟩,
  ⟨"FAB_PORT_DELAY", 0x4028048, [(0x10, 4)], .ro, 0x0, 0x0⟩,
  ⟨"FAB_GRANT_IMP", 0x4028080, [(0x8, 8)], .ro, 0x0, 0x0⟩,
  ⟨"FAB_GRANT_EXP", 0x4028084, [(0x8, 8)], .ro, 0x0, 0x0⟩]
/-- The registers of the frame at 0x4040000. -/
def rowsOf404 : List RegRow := [
  ⟨"HST_CTRL", 0x4048000, [], .rw, 0x0, 0x1⟩,
  ⟨"HST_STATUS", 0x4048004, [], .ro, 0x0, 0x0⟩,
  ⟨"HST_EVT", 0x4048008, [], .w1c, 0x0, 0x1F⟩,
  ⟨"HST_INFLIGHT", 0x404800C, [], .ro, 0x0, 0x0⟩,
  ⟨"HST_IRQ_ROUTE", 0x4048040, [(0x4, 16)], .rw, 0x200, 0x31F⟩,
  ⟨"HST_SQ_BASE_LO", 0x4048100, [(0x20, 16)], .rw, 0x0, 0xFFFFF000⟩,
  ⟨"HST_SQ_BASE_HI", 0x4048104, [(0x20, 16)], .rw, 0x0, 0xFFFFFFFF⟩,
  ⟨"HST_CQ_BASE_LO", 0x4048108, [(0x20, 16)], .rw, 0x0, 0xFFFFF000⟩,
  ⟨"HST_CQ_BASE_HI", 0x404810C, [(0x20, 16)], .rw, 0x0, 0xFFFFFFFF⟩,
  ⟨"HST_RING_CFG", 0x4048110, [(0x20, 16)], .rw, 0x880, 0x31F0FF1⟩,
  ⟨"HST_RING_COAL", 0x4048114, [(0x20, 16)], .rw, 0x1, 0xFFFFFF⟩,
  ⟨"HST_RING_STATUS", 0x4048118, [(0x20, 16)], .ro, 0x0, 0x0⟩,
  ⟨"HST_RING_PTR", 0x404811C, [(0x20, 16)], .ro, 0x0, 0x0⟩]
/-- The registers of the frame at 0x5000000. -/
def rowsOf500 : List RegRow := [
  ⟨"DSP_HTIME", 0x5000000, [], .rw, 0x500780, 0xFFFFFFFF⟩,
  ⟨"DSP_VTIME", 0x5000004, [], .rw, 0x2804B0, 0xFFFFFFFF⟩,
  ⟨"DSP_DSI_CFG", 0x5000008, [], .rw, 0x3E83C02, 0xFFFFF0F⟩,
  ⟨"DSP_PWR_CFG", 0x500000C, [], .rw, 0x320A14, 0xFFFFFF⟩,
  ⟨"DSP_FALLBACK", 0x5000010, [], .rw, 0x0, 0x3FFFFFFF⟩,
  ⟨"DSP_SYNC_ANGLE", 0x5000014, [], .rw, 0x0, 0xFFFF⟩,
  ⟨"DSP_INIT_TBL", 0x5000100, [(0x4, 64)], .rw, 0x0, 0xFFFFFFFF⟩,
  ⟨"DSP_STATUS", 0x5008000, [], .ro, 0x0, 0x0⟩,
  ⟨"DSP_PUB_ADDR", 0x5008004, [], .rw, 0x0, 0xFFFFF000⟩,
  ⟨"DSP_PUB_CRC", 0x5008008, [], .rw, 0x0, 0xFFFFFFFF⟩,
  ⟨"DSP_PUB_CTRL", 0x500800C, [], .w1s, 0x0, 0x1⟩,
  ⟨"DSP_FRONT_ADDR", 0x5008010, [], .ro, 0x0, 0x0⟩,
  ⟨"DSP_FRAME_CNT", 0x5008014, [], .ro, 0x0, 0x0⟩,
  ⟨"DSP_EVT", 0x5008018, [], .w1c, 0x0, 0x7F⟩]
/-- The registers of the frame at 0x5010000. -/
def rowsOf501 : List RegRow := [
  ⟨"DSP_GAMMA", 0x5010000, [(0x1000, 3), (0x4, 1024)], .rw, 0x0, 0xFFF⟩]
/-- The registers of the frame at 0x5020000. -/
def rowsOf502 : List RegRow := [
  ⟨"DSP_AGE_CFG", 0x5020000, [], .rw, 0x16A0E000, 0x1FFFFF03⟩,
  ⟨"DSP_AGE_SENSE", 0x5020004, [], .rw, 0x32080004, 0xFF0FFFFF⟩,
  ⟨"DSP_AGE_SCMD", 0x5020008, [], .rw, 0x0, 0xFF⟩,
  ⟨"DSP_AGE_LUT", 0x5020100, [(0x100, 3), (0x4, 64)], .rw, 0x8000, 0xFFFF⟩,
  ⟨"DSP_AGE_STATUS", 0x5028000, [], .ro, 0x0, 0x0⟩,
  ⟨"DSP_AGE_CTRL", 0x5028004, [], .w1s, 0x0, 0x1⟩,
  ⟨"DSP_AGE_PROG", 0x5028008, [], .ro, 0x0, 0x0⟩,
  ⟨"DSP_AGE_CLIP", 0x502800C, [], .ro, 0x0, 0x0⟩,
  ⟨"DSP_AGE_EVT", 0x5028010, [], .w1c, 0x0, 0xF⟩]
/-- The registers of the frame at 0x5030000. -/
def rowsOf503 : List RegRow := [
  ⟨"DSP_CRC_STATUS", 0x5038000, [], .ro, 0x0, 0x0⟩,
  ⟨"DSP_CRC_CALC", 0x5038004, [], .ro, 0x0, 0x0⟩,
  ⟨"DSP_CRC_FAILS", 0x5038008, [], .ro, 0x0, 0x0⟩]
/-- The registers of the frame at 0x5040000. -/
def rowsOf504 : List RegRow := [
  ⟨"DSP_BP_CFG", 0x5040000, [], .rw, 0xA3214, 0xFFFFFF⟩,
  ⟨"DSP_BP_GEOM", 0x5040004, [], .rw, 0x1E00180, 0xFFFFFFFF⟩,
  ⟨"DSP_BP_PF", 0x5040008, [], .rw, 0x4E2003E8, 0xFFFFFFFF⟩,
  ⟨"DSP_BP_TRANGE0", 0x504000C, [], .rw, 0x140A00F6, 0xFFFFFFFF⟩,
  ⟨"DSP_BP_TRANGE1", 0x5040010, [], .rw, 0x32281E, 0xFFFFFF⟩,
  ⟨"DSP_BP_WF", 0x5040100, [(0x40, 8), (0x10, 4), (0x4, 4)], .rw, 0x0, 0xFFFFFFFF⟩,
  ⟨"DSP_BP_STATUS", 0x5048000, [], .ro, 0x0, 0x0⟩,
  ⟨"DSP_BP_CRC", 0x5048004, [], .ro, 0x0, 0x0⟩,
  ⟨"DSP_BP_CNT", 0x5048008, [], .ro, 0x0, 0x0⟩,
  ⟨"DSP_BP_EVT", 0x504800C, [], .w1c, 0x0, 0xF⟩]
/-- The registers of the frame at 0x7000000. -/
def rowsOf700 : List RegRow := [
  ⟨"PWD_SUPPLY_STATUS", 0x7008040, [], .ro, 0x0, 0x0⟩,
  ⟨"PWD_BO_CFG", 0x7008044, [], .rw, 0x1450, 0xFFFF⟩,
  ⟨"PWD_HOLD_STATUS", 0x7008048, [], .ro, 0x0, 0x0⟩,
  ⟨"PWD_HOLD_CAP", 0x700804C, [], .ro, 0x0, 0x0⟩,
  ⟨"PWD_HOLD_BUDGET", 0x7008050, [], .ro, 0x0, 0x0⟩,
  ⟨"PWD_TEMP", 0x7008054, [], .ro, 0x0, 0x0⟩,
  ⟨"PWD_COIL_PROF", 0x7008100, [(0x10, 8)], .rw, 0x3212C3E8, 0xFFFFFFFF⟩,
  ⟨"PWD_COIL_STATUS", 0x7008104, [(0x10, 8)], .ro, 0x0, 0x0⟩]
/-- The registers of the frame at 0x7010000. -/
def rowsOf701 : List RegRow := [
  ⟨"LSW_CFG", 0x7010000, [(0x4, 12)], .rw, 0xA41428, 0xFFFFFFFF⟩,
  ⟨"LSW_TP_CFG", 0x7010040, [(0x4, 12)], .rw, 0x190, 0xFFFF03FF⟩,
  ⟨"LSW_TP_PER", 0x7010080, [(0x4, 12)], .rw, 0x32, 0xFFFF⟩,
  ⟨"LSW_GRP_CFG", 0x70100C0, [], .rw, 0x7878, 0xFFFF⟩,
  ⟨"LSW_CMD", 0x7018000, [(0x10, 12)], .wo, 0x0, 0xFF03⟩,
  ⟨"LSW_STATUS", 0x7018004, [(0x10, 12)], .ro, 0x0, 0x0⟩,
  ⟨"LSW_MEAS", 0x7018008, [(0x10, 12)], .ro, 0x0, 0x0⟩,
  ⟨"LSW_EVT", 0x701800C, [(0x10, 12)], .w1c, 0x0, 0x3FF⟩,
  ⟨"LSW_GRP_STATUS", 0x7018100, [], .ro, 0x0, 0x0⟩,
  ⟨"LSW_DISABLE", 0x7018104, [], .rw, 0x0, 0xFFF⟩,
  ⟨"LSW_DISABLE_STATUS", 0x7018108, [], .ro, 0x0, 0x0⟩]
/-- The registers of the frame at 0x7800000. -/
def rowsOf780 : List RegRow := [
  ⟨"NIB_STATUS", 0x7800000, [], .ro, 0x0, 0x0⟩,
  ⟨"NIB_SEAL", 0x7800004, [], .ro, 0x0, 0x0⟩,
  ⟨"NIB_CAUSE", 0x7800008, [], .ro, 0x0, 0x0⟩,
  ⟨"NIB_DEGRADED", 0x780000C, [], .ro, 0x0, 0x0⟩,
  ⟨"NIB_QA", 0x7800010, [], .ro, 0x0, 0x0⟩,
  ⟨"NIB_MIRROR_AGE", 0x7800014, [], .ro, 0xFFFF, 0x0⟩]

/-- R27: the rows of the frame that holds an address. -/
def frameRows (fr : Nat) : List RegRow :=
  if fr = 0x0 then rowsOf0
  else if fr = 0x1 then rowsOf1
  else if fr = 0x2 then rowsOf2
  else if fr = 0x3 then rowsOf3
  else if fr = 0x4 then rowsOf4
  else if fr = 0x6 then rowsOf6
  else if fr = 0x100 then rowsOf100
  else if fr = 0x101 then rowsOf101
  else if fr = 0x102 then rowsOf102
  else if fr = 0x103 then rowsOf103
  else if fr = 0x104 then rowsOf104
  else if fr = 0x105 then rowsOf105
  else if 0x200 ≤ fr ∧ fr ≤ 0x207 then rowsOf200
  else if fr = 0x208 then rowsOf208
  else if fr = 0x209 then rowsOf209
  else if fr = 0x20A then rowsOf20A
  else if fr = 0x300 then rowsOf300
  else if fr = 0x301 then rowsOf301
  else if fr = 0x302 then rowsOf302
  else if fr = 0x303 then rowsOf303
  else if fr = 0x402 then rowsOf402
  else if fr = 0x404 then rowsOf404
  else if fr = 0x500 then rowsOf500
  else if fr = 0x501 then rowsOf501
  else if fr = 0x502 then rowsOf502
  else if fr = 0x503 then rowsOf503
  else if fr = 0x504 then rowsOf504
  else if fr = 0x700 then rowsOf700
  else if fr = 0x701 then rowsOf701
  else if fr = 0x780 then rowsOf780
  else []
/-- Does an offset from a row's base fall on one of its indexed registers? -/
def dimsHit : List (Nat × Nat) → Nat → Bool
  | [], o => o == 0
  | (st, n) :: ds, o => decide (o / st < n) && dimsHit ds (o % st)

/-- Is the address one of the row's registers? -/
def RegRow.has (r : RegRow) (a : Nat) : Bool := decide (r.base ≤ a) && dimsHit r.dims (a - r.base)

/-- The row of a register's address. -/
def regRow (a : Nat) : Option RegRow := (frameRows (a / 0x10000)).find? (fun r => r.has a)

/-- R26: the shadowed half of a block frame; the safety-die mirror has none. -/
def isShadowed (a : Nat) : Bool := decide (a % 0x10000 < 0x8000) && decide (a < 0x7800000)

/-- R26: the live alias of a shadowed register's address. -/
def aliasOffset (a : Nat) : Nat := if 0x7000000 ≤ a then 0x400000 else 0x800000

/-- R469: the reset value of FLT_SRC_CFG of source s by its class (R456), the fixed PERM_N of the WELD
sources and the fixed REACT of WATCHDOG in place. -/
def fltSrcCfgReset (s : Nat) : Nat :=
  if 152 ≤ s then 0
  else if 88 ≤ s ∧ s ≤ 95 then 0x1268
  else if 80 ≤ s ∧ s ≤ 118 then 0x268
  else if s = 151 then 0x243
  else 0x240

/-- R10: the value a register has after the reset that clears its region. DSP_GAMMA resets to identity
(R344), FLT_SRC_CFG by class (R469). -/
def regReset (a : Nat) : Word :=
  if 0x5010000 ≤ a ∧ a < 0x5018000 then
    (match regRow a with
     | none => 0#32
     | some _ => wordOf (let i := a % 0x1000 / 4; i * 4 + i / 256))
  else if 0x20000 ≤ a ∧ a < 0x20800 then wordOf (fltSrcCfgReset ((a - 0x20000) / 4))
  else match regRow a with
    | some r => r.rst
    | none => 0#32

end Sys2Proof.Machine
end

