-- ==== Sys2Proof/Machine/Types.lean ====
section
/-! DEFINITION. The names the spec uses for parts of the module, its modes, status codes, fault levels and
the requesters of work: the operand types of the commands. -/

namespace Sys2Proof.Machine

/-- Outlets O0 to O7. -/
abbrev Outlet := Fin 8
/-- Modulator lanes MLANE0 to MLANE63. -/
abbrev Lane := Fin 64
/-- Metering points MP0 to MP7. -/
abbrev Point := Fin 8
/-- Load-switch channels LSW0 to LSW11. -/
abbrev Lsw := Fin 12
/-- Ring pairs 0 to 15. -/
abbrev Ring := Fin 16
/-- Felt ports 0 to 3. -/
abbrev FPort := Fin 4
/-- Session contexts 0 to 255. -/
abbrev Ctx := Fin 256

/-- A table from numbers to values, sorted by key, one entry for each key that has been written. -/
abbrev Tab (α : Type) := List (Nat × α)

/-- The compute-die regions in the order of SUP_FENCE (R28). -/
inductive Region where
  | sup | met | out | tru | lnk | dsp | svc
  deriving DecidableEq, Repr

/-- The region's bit in SUP_FENCE and SUP_RST_CAUSE.REGION. -/
def Region.idx : Region → Nat
  | .sup => 0 | .met => 1 | .out => 2 | .tru => 3 | .lnk => 4 | .dsp => 5 | .svc => 6

/-- R56: the functions of SUP_READY, in bit order. -/
inductive Func where
  | nib | tru | met | out | fab | dsp | svc | hst
  deriving DecidableEq, Repr

/-- The function's bit in SUP_READY. -/
def Func.idx : Func → Nat
  | .nib => 0 | .tru => 1 | .met => 2 | .out => 3 | .fab => 4 | .dsp => 5 | .svc => 6 | .hst => 7

/-- R24: the clock domains of the compute die, in the order of the CLOCK sources (R456). -/
inductive Domain where
  | aon | ref | svc | met | tru | lnk | hst | pix
  deriving DecidableEq, Repr

/-- The domain's place among sources 139 to 146. -/
def Domain.idx : Domain → Nat
  | .aon => 0 | .ref => 1 | .svc => 2 | .met => 3 | .tru => 4 | .lnk => 5 | .hst => 6 | .pix => 7

/-- R44: the operating modes. -/
inductive Mode where
  | off | holdUp | reset | bringUp | operational | degraded | safeStop | standby | deepStandby
  | activationPause | factoryTest | quarantine
  deriving DecidableEq, Repr

/-- R44: the code of a mode. -/
def Mode.code : Mode → Nat
  | .off => 0 | .holdUp => 1 | .reset => 2 | .bringUp => 3 | .operational => 4 | .degraded => 5
  | .safeStop => 6 | .standby => 7 | .deepStandby => 8 | .activationPause => 9 | .factoryTest => 10
  | .quarantine => 11

/-- R64: the lifecycle states. -/
inductive Lifecycle where
  | blank | factory | provisioned | deployed | returned | scrapped
  deriving DecidableEq, Repr

/-- R64: the code of a lifecycle state. -/
def Lifecycle.code : Lifecycle → Nat
  | .blank => 0 | .factory => 1 | .provisioned => 2 | .deployed => 3 | .returned => 4 | .scrapped => 5

/-- R12: the status codes of a completion. -/
inductive Status where
  | ok | discarded | busyRegion | disabled | rejected | busyOther | busyEnergised | part | notReady
  deriving DecidableEq, Repr

/-- R12: the code of a status. -/
def Status.code : Status → Nat
  | .ok => 0x00 | .discarded => 0x21 | .busyRegion => 0x22 | .disabled => 0x23 | .rejected => 0x24
  | .busyOther => 0x25 | .busyEnergised => 0x26 | .part => 0x27 | .notReady => 0x28

/-- R361: the detail codes of REJECTED. -/
inductive Detail where
  | none | opcode | field | buffer | tagZero | tagConflict | mode | verify | rule | settled | cancelled
  | gone | superseded | abandoned | queueFull
  deriving DecidableEq, Repr

/-- R361: the code of a detail. -/
def Detail.code : Detail → Nat
  | .none => 0 | .opcode => 1 | .field => 2 | .buffer => 3 | .tagZero => 4 | .tagConflict => 5 | .mode => 6
  | .verify => 7 | .rule => 8 | .settled => 9 | .cancelled => 10 | .gone => 11 | .superseded => 12
  | .abandoned => 13 | .queueFull => 14

/-- Who submits a piece of work: a host descriptor of a ring pair with its tag (R359), or the service
firmware, which takes the same operations under the same rules (R350). -/
inductive Requester where
  | host (ring : Ring) (tag : Word)
  | service (tag : Word)
  deriving DecidableEq, Repr

/-- R362: the block that owns a descriptor's work, and the other blocks a BLOCK reaction may reset (R458). -/
inductive Block where
  | ringEngine | timebase | supervisor | accumulator | tariff | legalLog | outletEngine (n : Outlet)
  | service | lswChannel (c : Lsw) | pixel | update | crypto | laneReceiver (n : Lane) | feltPort (p : FPort)
  | safetyProc | mramPort | dramCtl | entropy | bistable | legalCore | region (r : Region) | powerDie | safetyDie
  deriving DecidableEq, Repr

/-- The region a block lies in; none on the power die and the safety die (R458). -/
def Block.region? : Block → Option Region
  | .ringEngine => some .lnk | .timebase => some .sup | .supervisor => some .sup | .accumulator => some .met
  | .tariff => some .met | .legalLog => some .met | .outletEngine _ => some .out | .service => some .svc
  | .lswChannel _ => none | .pixel => some .dsp | .update => some .sup | .crypto => some .tru
  | .laneReceiver _ => some .met | .feltPort _ => some .lnk | .safetyProc => some .out | .mramPort => some .sup
  | .dramCtl => some .svc | .entropy => some .tru | .bistable => some .dsp | .legalCore => some .met
  | .region r => some r | .powerDie => none | .safetyDie => none

/-- R52, R53: what starts a reset, with the SUP_RST_CAUSE bit it sets. -/
inductive ResetCause where
  | aonPor | cold | pin | soft | wdog | fault | holdUp | deep | update | lifecycle
  deriving DecidableEq, Repr

/-- R53: the cause's bit in SUP_RST_CAUSE. -/
def ResetCause.bit : ResetCause → Nat
  | .aonPor => 0 | .cold => 1 | .pin => 2 | .soft => 3 | .wdog => 4 | .fault => 5 | .holdUp => 6 | .deep => 7
  | .update => 8 | .lifecycle => 9

/-- R462: what the copies of the fault store hold at a restore: one with a correct CRC; none such and one entirely 0;
neither. -/
inductive StoreCopy where
  | valid | empty | bad
  deriving DecidableEq, Repr

end Sys2Proof.Machine
end

