-- ==== Sys2Proof/Machine/Parts.lean ====
section
/-! DEFINITION. The state of each part of the module as plain data: one structure per block or engine, with
the rule that names it. Configuration registers, event registers and measured words are not here: they are
words of the register file (State.regs and State.live). -/

namespace Sys2Proof.Machine

/-! ### Supervisor: modes, ready bits, resets, disabling (R44 to R71) -/

/-- R47, R48: the one pending mode request. -/
structure ModeRequest where
  target : Nat
  prepOff : Bool
  /-- 1 SUP_MODE_REQ, 2 host descriptor, 3 service firmware: the CAUSE of R46. -/
  cause : Nat
  owner : Option Requester
  /-- Accepted: the change waits for angle 0. -/
  accepted : Bool
  deriving DecidableEq, Repr

/-- R50, R464: what holds the module in Safe-stop. -/
inductive SafeCause where
  | source (n : Nat) | seal | ambient | nib
  deriving DecidableEq, Repr

/-- R50: what holds the module in Degraded. -/
inductive DegCause where
  | ready (f : Func) | refClock | holdUp
  deriving DecidableEq, Repr

/-- The supervisor's own state. -/
structure Sup where
  mode : Mode
  /-- R64, R427: the lifecycle state read from the fuses at the last start, which SUP_LCS mirrors. -/
  lcs : Lifecycle
  prevMode : Mode
  modeCause : Nat
  ready : BitVec 8
  fence : BitVec 7
  modeReq : Option ModeRequest
  modeResult : Nat
  prepDone : Bool
  /-- R362: the MODE_REQ with PREP_OFF that completes once PREP_DONE rises. -/
  prepOwner : Option Requester
  safeCauses : List SafeCause
  degCauses : List DegCause
  /-- R50: a module-wide safety reaction held during Bring-up until Safe-stop is entered. -/
  heldSafety : Bool
  /-- R69: functions still draining, in the layout of SUP_DISABLE. -/
  draining : BitVec 25
  mpRefused : Bool
  /-- R70: outlets whose drain is to close on them; points disabled or enabled at the next angle 0. -/
  pointsOff : List Nat
  pointsOn : List Nat
  /-- R25: REF is lost. -/
  refLost : Bool
  /-- R50: the mode an activation pause was entered from. -/
  pausedFrom : Mode
  /-- R50: a cause of Quarantine found in Bring-up: its CAUSE code (R46). -/
  quarantineDue : Option Nat
  /-- R84: the compute die is held in reset until power-good. -/
  held : Bool
  /-- R164, R198: the module was Off before this start. -/
  fromOff : Bool
  /-- R62, R63: Deep-standby has been entered since the legal core last started. -/
  fromDeep : Bool
  /-- R71: the bits of SUP_DISABLE that Hold-up found newly set, in force from the next Bring-up. -/
  disableLate : BitVec 25
  deriving DecidableEq, Repr

/-- Wipe engine (R65 to R68). `epoch` is recorded in MRAM. -/
structure Wipe where
  sramBusy : Bool
  dramBusy : Bool
  mramBusy : Bool
  progress : Nat
  epoch : Lifecycle
  sramTime : Nat
  dramTime : Nat
  mramTime : Nat
  /-- R66: the lifecycle state the running or due wipe is for, and the one before it. -/
  due : Bool
  deriving DecidableEq, Repr

/-! ### Commit group and non-shadowable sequences (R30 to R43, R478) -/

/-- R31: SUP_CG_STATUS.STATE. -/
inductive CgState where
  | idle | armed | deferred | committed | abandoned | cancelled
  deriving DecidableEq, Repr

/-- R31: the code of a commit-group state. -/
def CgState.code : CgState → Nat
  | .idle => 0 | .armed => 1 | .deferred => 2 | .committed => 3 | .abandoned => 4 | .cancelled => 5

/-- The commit group (R34 to R38). -/
structure CommitGroup where
  state : CgState
  deferrals : Nat
  /-- R31: 0 host registers, 1 host descriptor, 2 service firmware. -/
  src : Nat
  members : BitVec 8
  maxDefer : Nat
  /-- The target cycle t recorded at ARM. -/
  target : Nat
  /-- The poll found every member READY; the swap stands at the next angle 0. -/
  locked : Bool
  refuse : Word
  doneCycle : Nat
  /-- R367: the arming descriptor, kept with the group, and re-issues waiting for its end. -/
  owner : Option Requester
  waiters : List Requester
  /-- R38: the power-die shadows sent at the last swap, not yet confirmed. -/
  pdSent : Option (Tab Word)
  deriving DecidableEq, Repr

/-- R39: one setting of a sequence: a field of a non-shadowable register and its new value. -/
structure NsSetting where
  reg : Nat
  hi : Nat
  lo : Nat
  value : Nat
  deriving DecidableEq, Repr

/-- R39, R40: a sequence in the order it is applied. -/
structure NsSeq where
  /-- Settings towards the safe side first (R39). -/
  todo : List NsSetting
  /-- How many of `todo` at its start were safe-direction settings not yet landed. -/
  safeLeft : Nat
  done : Nat
  total : Nat
  owner : Option Requester
  wait : Bool
  deriving DecidableEq, Repr

/-- R43: the state behind SUP_NS_STATUS. -/
structure NsState where
  active : Option NsSeq
  queued : Option NsSeq
  lastDone : Nat
  lastTotal : Nat
  result : Nat
  deriving DecidableEq, Repr

/-! ### Timebase, scheduler and wall clock (R98 to R118) -/

/-- R105: the timebase states. -/
inductive TbState where
  | synth | synthFab | acquire | locked | holdover
  deriving DecidableEq, Repr

/-- R105: the code of a timebase state. -/
def TbState.code : TbState → Nat
  | .synth => 0 | .synthFab => 1 | .acquire => 2 | .locked => 3 | .holdover => 4

/-- R108: SUP_TB_STATUS.FOLLOW. -/
inductive Follow where
  | primary | alternate | crystal | beacons
  deriving DecidableEq, Repr

/-- R108: the code of the followed reference. -/
def Follow.code : Follow → Nat
  | .primary => 0 | .alternate => 1 | .crystal => 2 | .beacons => 3

/-- R111: what a booking does when it fires. -/
inductive BookKind where
  | coilClose (n : Outlet) | coilOpen (n : Outlet) | testPulse (c : Lsw) | displayStart | allocRound
  | marker (owner : Requester)
  deriving DecidableEq, Repr

/-- R111: the dispatch class of a booking. -/
def BookKind.cls : BookKind → Nat
  | .coilClose _ => 1 | .coilOpen _ => 1 | .testPulse _ => 2 | .displayStart => 6 | .allocRound => 7 | .marker _ => 8

/-- R109: a booking. -/
structure Booking where
  cycle : Nat
  angle : Nat
  kind : BookKind
  period : Nat
  deriving DecidableEq, Repr

/-- R108: SUP_WALL_STATUS.SRC. -/
inductive TimeSrc where
  | none | felt | network | backend | host
  deriving DecidableEq, Repr

/-- R108: the code of a time source. -/
def TimeSrc.code : TimeSrc → Nat
  | .none => 0 | .felt => 1 | .network => 2 | .backend => 3 | .host => 4

/-- R116: a step decided and waiting for its boundary: the signed offset in 2^-32 s and its source. -/
structure WallStep where
  offset : Int
  src : TimeSrc
  deriving DecidableEq, Repr

/-- R102: what the timebase measures of a reference; times in 2^-16 sample of 62.5 µs. -/
structure RefSt where
  /-- Cycles on end that met every condition of qualification, with an RMS below VMIN, and out of the frequency range. -/
  run : Nat
  low : Nat
  out : Nat
  /-- From the last positive-going crossing to the end of the last cycle, and the last period. -/
  since : Option Nat
  per : Nat
  deriving DecidableEq, Repr

/-- Nothing measured. -/
def RefSt.init : RefSt := { run := 0, low := 0, out := 0, since := none, per := 0 }

/-- The timebase, the wall clock (units of 2^-32 s) and the scheduler. -/
structure Timebase where
  state : TbState
  follow : Follow
  phaseErr : Int
  freq : Nat
  /-- R100: the cycle count has been restored. -/
  known : Bool
  cycle : Nat
  /-- R98: the angle of the phase accumulator and its fraction of 16 bits. -/
  angle : Nat
  frac : Nat
  /-- The time since angle 0 to which the clocks have been run, 2^-32 s. -/
  into : Nat
  /-- R104: the correction of phase in the running cycle, in AU by which it is longer. -/
  corr : Int
  /-- R105: cycles on end with an angle error of at most 32 AU, and above 2,048 AU. -/
  errLow : Nat
  errHigh : Nat
  /-- R102: the primary and the alternate reference. -/
  prim : RefSt
  alt : RefSt
  /-- R105: cycles spent in HOLDOVER. -/
  held : Nat
  beacons : Bool
  wall : Nat
  hwm : Nat
  valid : Bool
  src : TimeSrc
  slewRem : Int
  step : Option WallStep
  /-- AON monotonic time in 2^-32 s since AON power-on (R463). -/
  aon : Nat
  sched : List Booking
  /-- R109: bookings refused for want of a place, which their owners make again at the next cycle. -/
  retry : List Booking
  schedHigh : Nat
  schedRefused : Nat
  deriving DecidableEq, Repr

/-! ### Metering acquisition (R119 to R149) and quantity engine (R150 to R161, R176) -/

/-- R127: the states of a lane. -/
inductive LaneState where
  | off | train | run | retrain | failed | retired | stopped
  deriving DecidableEq, Repr

/-- R143: the code of a lane state. -/
def LaneState.code : LaneState → Nat
  | .off => 0 | .train => 1 | .run => 2 | .retrain => 3 | .failed => 4 | .retired => 5 | .stopped => 6

/-- R125: a level of the pair in one unit interval of 25 ns. -/
inductive Pam where
  | m3 | m1 | p1 | p3
  deriving DecidableEq, Repr

/-- R125: what the pair carries in one period of 50 ns: the levels of its two unit intervals, or nothing that can be
sliced. -/
abbrev Period := Option (Pam × Pam)

/-- R137: a corrected sample with its tag: RANGE16, SUBST, OVR and FALLBACK. -/
structure Sample where
  v : Int
  rng16 : Bool
  subst : Bool
  ovr : Bool
  fb : Bool
  deriving DecidableEq, Repr

/-- R130 to R135: a lane's symbol stream on its way to a sample of 16 kS/s. -/
structure Chain where
  /-- Periods since the last decimated sample. -/
  phase : Nat
  /-- R138: the last valid symbol. -/
  lastSym : Int
  /-- R124: the range of the symbols that arrive, and the periods until the first symbol of a commanded range. -/
  rx16 : Bool
  swap : Option (Nat × Bool)
  /-- R130: scaled symbols in units of 2^-24, newest first, as far back as D16 reaches. -/
  line : List Int
  /-- R135: the CIC's integrators and combs, and the samples the two FIR stages hold, newest first. -/
  ints : List Int
  combs : List Int
  fir2 : List Int
  fir3 : List Int
  /-- R131: the fast detector: integrators, combs and its place in the decimation. -/
  fInts : List Int
  fCombs : List Int
  fCnt : Nat
  /-- The ranges within the filter span, newest first, as runs of periods. -/
  runs : List (Bool × Nat)
  /-- Periods since a missing symbol and since an outrun, up to the filter span (R134, R139). -/
  sinceMiss : Nat
  sinceOver : Nat
  /-- R134: consecutive symbols of magnitude 7. -/
  big : Nat
  /-- R127, R128: consecutive periods without and with a valid symbol. -/
  invalid : Nat
  valid : Nat
  /-- The decimated sample that the last period completed. -/
  out : Int
  deriving DecidableEq, Repr

/-- R128: what a training found: the opening of the eye in % at each of the 32 phase steps of a unit interval, the three
slicer thresholds at its centre, the symbol codes sampled there in TRAIN, and the periods received after READ_ID of word
0 and of word 1. -/
structure LaneScan where
  openings : List Nat
  thresholds : List Int
  pattern : List Nat
  word0 : List Period
  word1 : List Period
  deriving DecidableEq, Repr

/-- One modulator lane. -/
structure LaneSt where
  state : LaneState
  range16 : Bool
  /-- R143: 0 none, 1 NO_TRAIN, 2 TYPE, 3 LOST. -/
  cause : Nat
  eye : Nat
  /-- R129: the greatest margin seen in the running cycle. -/
  eyeTop : Nat
  swCnt : Nat
  /-- Peak magnitude of the last completed cycle and of the running one (R131). -/
  peak : Nat
  peakNow : Nat
  /-- R131: completed quiet cycles since the last switch down, and a SUBST in the running cycle. -/
  quiet : Nat
  substNow : Bool
  /-- R138: code violations, the register and this cycle's. -/
  cv : Nat
  cvNow : Nat
  id0 : Nat
  id1 : Nat
  subst : Nat
  /-- R128: has left TRAIN at least once since it was started. -/
  leftTrain : Bool
  /-- R139: this cycle's samples, newest first, and the last cycle's, oldest first. -/
  cur : List Int
  last : List Int
  /-- R128: the sampling phase in 1/32 of a unit interval, the slicer thresholds, and the periods spent in RETRAIN. -/
  step : Nat
  slicer : List Int
  retrain : Nat
  chain : Chain
  /-- R137: samples on their way through the delay of MET_LANE_PHASE, newest first, and the DC that OFS_TRACK follows, in
  units of 2^-32. -/
  delay : List Sample
  dc : Int
  /-- R153, R154: the last 127 samples, newest first. -/
  past : List Sample
  deriving DecidableEq, Repr

/-- R155, R159: the running sums of one phase (units of 2^-64 Wh for energies), and the sums of squares,
of values and the number of samples for RMS and means. -/
structure PhaseSum where
  p : Int
  q : Int
  v2 : Nat
  i2 : Nat
  v1 : Int
  i1 : Int
  n : Nat
  deriving DecidableEq, Repr

/-- One metering point: its four phase sums (L1, L2, L3, total), its cycle marks and counters (R161). -/
structure PointSt where
  l1 : PhaseSum
  l2 : PhaseSum
  l3 : PhaseSum
  tot : PhaseSum
  /-- Σ of squares of the neutral current, for the total's IRMS (R177). -/
  n2 : Nat
  substNow : Bool
  ovrNow : Bool
  fbNow : Bool
  substCyc : Bool
  ovrCyc : Bool
  /-- R156: the cycle netted last held a FALLBACK sample. -/
  fbCyc : Bool
  cntSubst : Nat
  cntOvr : Nat
  cntFb : Nat
  /-- R127, R141: the point metered in its last evaluation, to detect entering and leaving FAILED. -/
  failed : Bool
  deriving DecidableEq, Repr

/-- R145: a calibration measurement. -/
structure CalMeas where
  due : Bool
  busy : Bool
  done : Bool
  switched : Bool
  subst : Bool
  aborted : Bool
  cycDone : Nat
  cycles : Nat
  laneA : Nat
  laneB : Nat
  /-- Samples taken, and the sums of A, A², B² and A × B over them. -/
  n : Nat
  sa : Int
  sa2 : Nat
  sb2 : Nat
  sab : Int
  deriving DecidableEq, Repr

/-- The acquisition part of the metering region. -/
structure Met where
  lanes : Tab LaneSt
  points : Tab PointSt
  cal : CalMeas
  /-- R156: unsigned 2.30. -/
  dtCorr : Nat
  /-- R25: samples are taken on the fallback clock. -/
  fallback : Bool
  hselNow : Nat
  /-- R177: the samples of the selected lane in the running window of 8 cycles, oldest first, and its completed cycles. -/
  hbuf : List Int
  hcyc : Nat
  deriving DecidableEq, Repr

/-! ### Accumulators and the commit ring (R162 to R174) -/

/-- R170: one slot of the commit ring. Accumulators are keyed 64 m + k. -/
structure CommitSlot where
  seq : Nat
  cycle : Nat
  /-- 0 per-cycle, 1 last-gasp, 2 merged, 3 final. -/
  kind : Nat
  noHold : Bool
  fallback : Bool
  step : Bool
  angle : Nat
  freq : Nat
  wall : Nat
  hwm : Nat
  pmask : Nat
  fmask : Nat
  points : Tab Nat
  /-- CNT_SUBST, CNT_OVR, CNT_FB and STATE of each point, keyed 4 m + j. -/
  counts : Tab Nat
  /-- Bound contexts: index, point, and its accumulators keyed by slot. -/
  sess : List (Nat × Nat × Tab Nat)
  deriving DecidableEq, Repr

/-- R169, R171: one place of a ring in MRAM: a slot, and how many of the bytes of its image have been written. -/
structure RingSlot where
  slot : CommitSlot
  written : Nat
  deriving DecidableEq, Repr

/-- R166, R179: what the readout window holds. -/
structure AccWindow where
  valid : Bool
  empty : Bool
  replica : Bool
  index : Nat
  target : Nat
  cycle : Nat
  /-- The 96-bit readings R of R167 and the legacy words, by slot. -/
  readings : List Nat
  legacy : List Nat
  deriving DecidableEq, Repr

/-- The accumulator block. -/
structure AccBlock where
  /-- 128-bit accumulators in 2^-40 Wh, keyed 64 m + k. -/
  points : Tab Nat
  /-- R164: the contexts' accumulators, keyed 64 c + k. -/
  ctxs : Tab Nat
  /-- R166: netting and routing of the last angle 0 have not yet ended. -/
  finalising : Bool
  /-- A LATCH waiting for finalisation: target and index. -/
  latchWait : Option (Nat × Nat)
  window : AccWindow
  /-- Cycle of the finalised values. -/
  finCycle : Nat
  /-- R376: the wall time of the angle 0 they were finalised at, 2^-32 s. -/
  finWall : Nat
  /-- R164: context credited in this cycle, and from the next one, by point. -/
  bound : Tab Nat
  boundNext : Tab Nat
  ring : Tab RingSlot
  /-- R19: the last-gasp ring, which takes the commits while the MRAM interface is lost. -/
  gaspRing : Tab RingSlot
  /-- Slots dispatched and not yet written, oldest first. -/
  due : List CommitSlot
  lastSeq : Nat
  lastSlot : Nat
  lastKind : Nat
  lastNoHold : Bool
  lastFallback : Bool
  lastUs : Nat
  maxUs : Nat
  restored : Bool
  /-- R174: the final commit has been made; no energy is registered. -/
  ended : Bool
  /-- R173: duration of the parts of the running cycle already netted, 2^-32 s. -/
  cutDur : Nat
  /-- R298: the span that the last rise of MET found unmeasured: first and last cycle, wall time at start and end. -/
  gap : Option (Nat × Nat × Nat × Nat)
  deriving DecidableEq, Repr

/-! ### Tariff engine (R180 to R210) and session contexts (R198) -/

/-- R187: the states of the passive calendar. -/
inductive PasState where
  | empty | loading | armed | checkFailed
  deriving DecidableEq, Repr

/-- R187: the code of a passive-calendar state. -/
def PasState.code : PasState → Nat
  | .empty => 0 | .loading => 1 | .armed => 2 | .checkFailed => 3

/-- R190 to R195: the open demand and billing intervals of one point. Durations are in 2^-32 s, readings in
accumulator units. -/
structure Interval where
  openCycle : Nat
  openWall : Nat
  openImp : Nat
  openExp : Nat
  dur : Nat
  flags : BitVec 16
  /-- R190: energies and durations of the closed subintervals still in the sliding window, newest first. -/
  subs : List (Nat × Nat × Nat)
  /-- R195: the billing interval, and the highest demands closed within it. -/
  billCycle : Nat
  billWall : Nat
  billFlags : BitVec 16
  demImp : Option Nat
  demExp : Option Nat
  deriving DecidableEq, Repr

/-- R194: who waits for a maximum-demand reset. -/
structure MdReq where
  owner : Option Requester
  creq : Nat
  deriving DecidableEq, Repr

/-- R206, R207: where the rate came from (TAR_STATUS). -/
structure RateAt where
  rate : Nat
  season : Nat
  week : Nat
  day : Nat
  special : Bool
  deriving DecidableEq, Repr

/-- The tariff engine. Calendars and price tables are kept in the CONFIG partition. -/
structure Tar where
  /-- The active calendar's 1,183 words. -/
  active : Option (List Word)
  /-- The passive calendar's words that are not 0, by word number. -/
  passive : Tab Word
  pasState : PasState
  pasCause : Nat
  /-- Activation instant, UTC seconds. -/
  pasAt : Nat
  rateAt : RateAt
  staging : Tab Word
  prices : Tab (List Word)
  mdPending : Bool
  mdReqs : List MdReq
  /-- R367: one more than the cycle of the last maximum-demand reset; 0 when none. -/
  mdLast : Nat
  ints : Tab Interval
  /-- Maximum-demand registers: W and end second, keyed 34 m + 17 d + r. -/
  md : Tab (Nat × Nat)
  /-- Last closed demand: W, flags, rate, keyed 2 m + d. -/
  lastDem : Tab (Nat × Nat × Nat)
  /-- Billing time at the last angle 0, in 2^-32 s. -/
  lastB : Nat
  /-- R205: intervals to be closed and opened at the first angle 0 after an outage. -/
  openDue : Bool
  /-- R198: cycle and wall of the final commit with which the LIVE contexts end at the next angle 0. -/
  endDue : Option (Nat × Nat)
  deriving DecidableEq, Repr

/-- R198: the billing states of a context. -/
inductive BState where
  | free | live | settling | awaiting | replica | adopted
  deriving DecidableEq, Repr

/-- R210: the code of a billing state. -/
def BState.code : BState → Nat
  | .free => 0 | .live => 1 | .settling => 2 | .awaiting => 3 | .replica => 4 | .adopted => 5

/-- One session context (R198, R203, R395). -/
structure Context where
  bstate : BState
  outlet : Nat
  point : Nat
  sessionId : BitVec 128
  authRef : BitVec 128
  startCycle : Nat
  endCycle : Nat
  startWall : Nat
  endWall : Nat
  ptable : Nat
  /-- The copied price table, 36 words. -/
  price : List Word
  flags : BitVec 16
  /-- Sum of the durations of the cycles with contactors closed, 2^-32 ms. -/
  energised : Nat
  origin : Nat
  settler : Nat
  /-- SEQ and TOTAL of its SESSION entry. -/
  entry : Option (Nat × Int)
  /-- R200: order of entering AWAITING or REPLICA. -/
  since : Nat
  /-- Requests that wait for its body (R362). -/
  waiters : List Requester
  /-- R395: holders of its replicas, the origin of a replica, and the last replicated cycle and sequence. -/
  peers : List Nat
  told : List Nat
  replOrigin : Nat
  /-- The role of a REPLICA. -/
  primary : Bool
  replCycle : Nat
  /-- R198: a stop has been taken and waits for the angle 0 that ends its cycle. -/
  stopDue : Bool
  deriving DecidableEq, Repr

/-- R364: a recorded start of an outlet. -/
structure StartRec where
  host : Bool
  tag : Word
  sessionId : BitVec 128
  ctx : Nat
  deriving DecidableEq, Repr

/-- The session context store and the records of the SESSION partition. -/
structure Sess where
  ctxs : Tab Context
  /-- R364: the last 16 starts of each outlet, newest first. -/
  starts : Tab (List StartRec)
  /-- R364: settled sessions still recorded: SESSION_ID, SEQ, TOTAL. -/
  settled : List (BitVec 128 × Nat × Int)
  counter : Nat
  deriving DecidableEq, Repr

/-! ### Legal part (R211 to R235) -/

/-- An instant as records stamp it: cycle, true wall time and billing time, both in 2^-16 s (R220). -/
structure Stamp where
  cycle : Nat
  wall : Nat
  bill : Nat
  deriving DecidableEq, Repr

/-- R219: a cause of a legal log entry that waits for its write, with the header content fixed when the
cause arose. -/
structure LegCause where
  typ : Nat
  point : Nat
  stamp : Stamp
  body : List Byte
  nohold : Bool
  /-- R198, R364: the context whose SESSION body this is. -/
  ctx : Option Nat
  deriving DecidableEq, Repr

/-- R214: an image in the legal firmware area: its version word, its bytes, and the key that signed it. -/
structure LegalImage where
  version : Word
  image : List Byte
  key : List Byte
  deriving DecidableEq, Repr

/-- R231: what the panel shows of the last settled session of a point. -/
structure PanelSess where
  sid : BitVec 128
  energy : Nat
  total : Int
  exponent : Nat
  currency : Nat
  deriving DecidableEq, Repr

/-- R220: one slot of the legal log. -/
structure LegEntry where
  seq : Nat
  typ : Nat
  point : Nat
  stamp : Stamp
  body : List Byte
  origin : Nat
  holdup : Bool
  nohold : Bool
  prevChain : BitVec 256
  signed : Bool
  sigIndex : Nat
  /-- R221: the write has reached the CRC, the last of the slot. -/
  whole : Bool
  deriving DecidableEq, Repr

/-- R229, R362: an export under way: its request, first SEQ, buffer length, and the fresh indices of the
entries signed again for it. -/
structure ExportJob where
  req : Requester
  first : Nat
  length : Nat
  resigned : Tab Nat
  deriving DecidableEq, Repr

/-- The legal core, the legal log and its MRAM areas. -/
structure Leg where
  running : Bool
  bootstrap : Bool
  /-- R214: the image in the legal firmware area. -/
  firmware : Option LegalImage
  /-- R214: version word and digest of the image copied into the private SRAM at the last start. -/
  loaded : Option (Word × BitVec 256)
  /-- R429: status of the last LEGAL_LOAD. -/
  loadStatus : Nat
  /-- Causes awaiting their write, in the order they arose. -/
  causes : List LegCause
  log : Tab LegEntry
  nextSeq : Nat
  ack : Nat
  signedSeq : Nat
  chain : BitVec 256
  lost : Nat
  /-- R226: entries not written in the present hard-full span: count, first and last cycle. -/
  gap : Option (Nat × Nat × Nat)
  /-- R227: the SEQ of the signature in progress. -/
  signing : Option Nat
  /-- R227: the signature ring, newest first: SEQ and index. -/
  sigRing : List (Nat × Nat)
  exports : List ExportJob
  sealOpen : Bool
  sealCnt : Nat
  recalLanes : List Nat
  calIds : Tab Nat
  uncal : BitVec 8
  dispFault : Bool
  display : List Byte
  displayCrc : Word
  /-- R222: open spans without measurement of each point: first cycle, wall at start, reason. -/
  unmeasured : Tab (Nat × Nat × Nat)
  /-- R212: copies that fail their CRC-32: two of the calibration and seal store, two of the legal core state. -/
  badCopies : BitVec 4
  /-- R231: the last settled session of each point. -/
  panel : Tab PanelSess
  deriving DecidableEq, Repr

/-! ### Outlets (R236 to R270) -/

/-- R257: the states of an outlet session. -/
inductive OState where
  | idle | plugged | linking | negotiating | authorised | closing | checking | precharge | energised
  | opening | weldCheck | finishing | faulted | unavailable
  deriving DecidableEq, Repr

/-- R257: the code of a session state. -/
def OState.code : OState → Nat
  | .idle => 0 | .plugged => 1 | .linking => 2 | .negotiating => 3 | .authorised => 4 | .closing => 5
  | .checking => 6 | .precharge => 7 | .energised => 8 | .opening => 9 | .weldCheck => 10
  | .finishing => 11 | .faulted => 12 | .unavailable => 13

/-- R240, R268: the pilot states. -/
inductive Cp where
  | a | b | c | d | e | f | invalid
  deriving DecidableEq, Repr

/-- R268: the code of a pilot state. -/
def Cp.code : Cp → Nat
  | .a => 0 | .b => 1 | .c => 2 | .d => 3 | .e => 4 | .f => 5 | .invalid => 6

/-- R246, R247, R268: the proximity states. -/
inductive Pp where
  | noCable | a13 | a20 | a32 | a63 | latched | invalid | short
  deriving DecidableEq, Repr

/-- R268: the code of a proximity state. -/
def Pp.code : Pp → Nat
  | .noCable => 0 | .a13 => 1 | .a20 => 2 | .a32 => 3 | .a63 => 4 | .latched => 5 | .invalid => 6 | .short => 7

/-- R268: the lock states. -/
inductive Lock where
  | unlocked | locked | moving | fault
  deriving DecidableEq, Repr

/-- R268: the code of a lock state. -/
def Lock.code : Lock → Nat
  | .unlocked => 0 | .locked => 1 | .moving => 2 | .fault => 3

/-- R268: the vehicle protocol in use. -/
inductive Hlc where
  | none | din | iso2 | iso20
  deriving DecidableEq, Repr

/-- R268: the code of a vehicle protocol. -/
def Hlc.code : Hlc → Nat
  | .none => 0 | .din => 1 | .iso2 => 2 | .iso20 => 3

/-- R264: where an authorisation comes from. -/
inductive AuthSrc where
  | nfc | plugCharge | eim | remote | hostStart
  deriving DecidableEq, Repr

/-- R264: an identifier under authorisation, waiting for the backend. -/
structure AuthWait where
  src : AuthSrc
  /-- R264: the backend was asked in step 1, for a contract chain that had verified. -/
  chain : Bool
  authRef : BitVec 128
  ptable : Nat
  owner : Option Requester
  deriving DecidableEq, Repr

/-- R256 K: a charging profile of an outlet, as an upper bound in 0.1 A. -/
structure Profile where
  id : Nat
  stack : Nat
  limit : Nat
  deriving DecidableEq, Repr

/-- R288: what the steps of a pre-close test measured: the readback of Nib's line at its start and at its end, the
processor's readings under each offset (µA) and Nib's comparators, both once the offsets are gone, and the PE results
(mΩ, and Nib's comparator within its limit). -/
structure PrecloseRun where
  heldBack : Bool
  dc : Int
  nibDc : Bool
  ac : Nat
  nibAc : Bool
  restDc : Int
  restAc : Nat
  nibRest : Bool
  pe : Nat
  nibPe : Bool
  readBack : Bool
  deriving DecidableEq, Repr

/-- R257: why an OPENING runs. -/
inductive StopWhy where
  | stop | pause
  deriving DecidableEq, Repr

/-- One outlet engine. -/
structure OutletSt where
  state : OState
  cp : Cp
  vpos : Int
  vneg : Int
  pwm : Bool
  duty : Nat
  ilim : Nat
  pp : Pp
  ohm : Nat
  capA : Nat
  /-- R249: what OUT_STATUS.LOCK shows, the level of the feedback, and whether the pulse under way locks. -/
  lock : Lock
  lockIn : Bool
  locking : Bool
  lockTries : Nat
  hlc : Hlc
  /-- R254: the TLS version of the protocol's session (0 none, 2 for 1.2, 3 for 1.3), DC_BPT and the dynamic mode chosen. -/
  tls : Nat
  bpt : Bool
  dynamic : Bool
  /-- The LIVE context of the outlet. -/
  ctx : Option Nat
  /-- Authorisation accepted: AUTH_REF, and its price table. -/
  auth : Option (BitVec 128 × Nat)
  authWait : Option AuthWait
  authGroup : Nat
  slacFails : Nat
  /-- R251: the SLAC run in progress: RunID, attenuation in 0.1 dB, the key of the match. -/
  runId : Option Nat
  atten : Option Nat
  nmkUsed : Nat
  /-- R251: the network identifier derived from the key of the match. -/
  nid : Nat
  slacHold : Bool
  /-- R257: parameter discovery complete; PowerDelivery start received. -/
  paramDone : Bool
  powerStart : Bool
  /-- Converter targets: MODE, mV, mA, W (R259). -/
  setMode : Nat
  setMv : Nat
  setMa : Int
  setW : Nat
  /-- R386: the vehicle's latest request, mA; negative offers discharge. -/
  reqMa : Option Int
  why : StopWhy
  tClose : List Nat
  tOpen : List Nat
  /-- R262: a booked coil command awaits its feedback change. -/
  timing : Bool
  /-- R263: zero crossings of voltage and current in the last 8 cycles, AU, newest first, and whether the current is below
  1 A. -/
  vZeros : List Nat
  iZeros : List Nat
  iSmall : Bool
  profiles : List Profile
  reserved : Option (BitVec 128)
  /-- R266: order in which outlets began to wait for authorisation; 0 not waiting. -/
  waitSince : Nat
  /-- R255: a LIVE session waits for its vehicle to reconnect. -/
  resume : Bool
  /-- R288: second of the last pre-close pass on the AON counter, and a test due before closing. -/
  preclosed : Option Nat
  /-- R288: CLOSING waits for its pre-close test. -/
  testDue : Bool
  /-- R257: a DC outlet in FINISHING answers WeldingDetection before it unlocks. -/
  unlockDue : Bool
  /-- R70: session draining for a disable. -/
  draining : Bool
  deriving DecidableEq, Repr

/-- R260: one converter module. -/
structure Module where
  present : Bool
  serial : Nat
  ratedV : Nat
  ratedI : Nat
  ratedP : Nat
  reverse : Bool
  state : Nat
  fault : Nat
  mv : Nat
  ma : Int
  temp : Int
  avail : Nat
  deriving DecidableEq, Repr

/-- One CAN FD controller. -/
structure CanBus where
  txErr : Nat
  rxErr : Nat
  busOff : Bool
  /-- Sequence numbers by TYPE (R259). -/
  seqs : Tab Nat
  deriving DecidableEq, Repr

/-- R265: one entry of the local list. -/
structure AuthEntry where
  hash : BitVec 128
  status : Nat
  cache : Bool
  contract : Bool
  group : Nat
  expiry : Nat
  deriving DecidableEq, Repr

/-- The outlet region, and the authorisation list in the AUTH partition. -/
structure Outl where
  outlets : Tab OutletSt
  modules : Tab Module
  buses : Tab CanBus
  list : List AuthEntry
  listVersion : Nat
  /-- R266: a card held for the next outlet that enters PLUGGED: its AUTH_REF and price table. -/
  heldCard : Option (BitVec 128 × Nat)
  waitCounter : Nat
  /-- R256: OCPP variables by identifier; 0 is AuthorizeRemoteStart. -/
  ocppVars : Tab Nat
  /-- R250: the MAC address of each Green PHY station, in the CONFIG partition. -/
  macs : Tab Nat
  /-- R256 M, R254: contract certificates installed, in the CERT partition. -/
  certs : List (List Byte)
  /-- R256 N: monitored variables, with the value above which the backend is told. -/
  monitors : Tab Nat
  deriving DecidableEq, Repr

/-! ### Safety processor, Nib and the power die (R271 to R300, R82 to R94) -/

/-- R289: the causes a trip latch may have. -/
inductive Sf where
  | sf1 | sf2 | sf3 | mismatch | failClose | weld | sf5 | sf6 | sf7
  deriving DecidableEq, Repr

/-- R298, R299: the SF number of a cause. -/
def Sf.num : Sf → Nat
  | .sf1 => 1 | .sf2 => 2 | .sf3 => 3 | .mismatch => 4 | .failClose => 4 | .weld => 4 | .sf5 => 5 | .sf6 => 6
  | .sf7 => 7

/-- R299: which channel tripped first. -/
inductive Channel where
  | processor | nib | both
  deriving DecidableEq, Repr

/-- R299: the code of a channel. -/
def Channel.code : Channel → Nat
  | .processor => 1 | .nib => 2 | .both => 3

/-- The safety processor. -/
structure Saf where
  permit : BitVec 8
  retired : BitVec 8
  nibOk : Bool
  lockstepOk : Bool
  /-- Latched trips of the processor channel. -/
  latches : List (Nat × Sf)
  trips : Nat
  lastOutlet : Nat
  lastAll : Bool
  lastSf : Nat
  lastChannel : Nat
  /-- Consecutive readings at or above the limits (R285). -/
  hotPwd : Nat
  hotSup : Nat
  /-- R284: consecutive good insulation results of an outlet in CHECKING, and the fields of SAF_INS: `insAge` is the AON second
  of the last result. -/
  imdGood : Tab Nat
  insState : Tab Nat
  insKohm : Tab Nat
  insAge : Tab Nat
  rcDc : Tab Int
  rcAc : Tab Nat
  peRes : Tab Nat
  peBad : Tab Nat
  /-- R282: pole capacitances measured at the last CHECKING, nF: plus, minus. -/
  poles : Tab (Nat × Nat)
  /-- R275: requests carried by the next answer: shunt trip, pre-close test. -/
  shuntReq : Bool
  precloseReq : Option Nat
  /-- R283: SHUNT_TRIP has fired for the weld of these outlets. -/
  shuntFired : List Nat
  /-- R276: the instants, on the AON counter, of the last refresh of the mirror and from which the Nib channel has been
  healthy. -/
  mirrorAt : Option Nat
  healthyFrom : Option Nat
  /-- R285: temperature switches that signal hot. -/
  hotSw : BitVec 8
  deriving DecidableEq, Repr

/-- R275: a forecast held by Nib: the time from the answer to the booking instant and the period, both in 0.1 µs, and the
challenge of the answer that carried it. -/
structure Forecast where
  ahead : Nat
  period : Nat
  tick : Nat
  deriving DecidableEq, Repr

/-- Nib, on the safety die: reset only by the safety die's own power-on. -/
structure Nib where
  gate : BitVec 8
  latch : BitVec 8
  weld : BitVec 8
  permit : BitVec 8
  causes : Tab Nat
  procOk : Bool
  degraded : BitVec 8
  /-- R294: outlets whose withdrawal on the pilot B band waits for its booking instant. -/
  bBand : BitVec 8
  remainMs : Nat
  shtr : Bool
  selftestOk : Bool
  sealFault : Bool
  sealNow : BitVec 8
  sealInvalid : BitVec 8
  /-- Setting in force (R286). -/
  window : Nat
  rdcEn : Bool
  peEn : Bool
  parityOk : Bool
  challenge : Option (BitVec 16)
  bad : Nat
  good : Nat
  badRun : Nat
  goodRun : Nat
  /-- R275: the last 100 challenges, newest first, true for a bad answer. -/
  history : List Bool
  forecasts : Tab Forecast
  precloseOf : Option Nat
  /-- R275: challenges sent, one each ms: Nib's own clock. -/
  ticks : Nat
  deriving DecidableEq, Repr

/-- R270: coil driver states. -/
inductive CoilState where
  | off | pullin | hold | release
  deriving DecidableEq, Repr

/-- R270: the code of a coil driver state. -/
def CoilState.code : CoilState → Nat
  | .off => 0 | .pullin => 1 | .hold => 2 | .release => 3

/-- One coil driver. -/
structure Coil where
  state : CoilState
  cmd : Bool
  pend : Bool
  ma : Nat
  deriving DecidableEq, Repr

/-- What the power die drives on a pilot (R239, R479). -/
inductive PilotDrive where
  | zero | steady12 | pwm (duty : Nat) | stateF
  deriving DecidableEq, Repr

/-- A posted power-die write that has not landed (R22): a register word, or a load-switch command. -/
structure PwdWrite where
  addr : Nat
  value : Word
  /-- R362: the LSW_CMD descriptor to complete when it lands. -/
  owner : Option Requester
  deriving DecidableEq, Repr

/-- The power die: supplies, hold-up store, coils, pilots. -/
structure Pwd where
  linkUp : Bool
  writeSeq : Nat
  posted : List PwdWrite
  supplyOk : Nat
  holdup : Bool
  vmain : Nat
  charging : Bool
  holdOk : Bool
  undersized : Bool
  measured : Bool
  vhold : Nat
  capUf : Nat
  esrMohm : Nat
  budget : Nat
  loadCheck : Bool
  temp : Nat
  coils : Tab Coil
  fb : BitVec 8
  /-- R289: the AON time, 2^-32 s, at which each FBn last changed. -/
  fbAt : Tab Nat
  pilots : Tab PilotDrive
  shunt : Bool
  supTemp : Nat
  rails : Nat
  /-- R19: coil-enable lines that the power die reads as open or contradictory. -/
  badLines : BitVec 8
  /-- R276: since when some line's readback has contradicted the mirror, on the AON counter. -/
  badFrom : Option Nat
  deriving DecidableEq, Repr

/-! ### Load switches, on the power die (R302 to R322) -/

/-- R313: the states of a channel. -/
inductive LswState where
  | off | ramp | window | on | test | cool | latched | retired
  deriving DecidableEq, Repr

/-- R313: the code of a channel state. -/
def LswState.code : LswState → Nat
  | .off => 0 | .ramp => 1 | .window => 2 | .on => 3 | .test => 4 | .cool => 5 | .latched => 6 | .retired => 7

/-- One load-switch channel. -/
structure LswSt where
  state : LswState
  /-- The register demand of LSW_CMD, and the filtered pin. -/
  regOn : Bool
  pin : Bool
  /-- R308: DUR of the timed demand that is running, 10 ms units; 0 none. -/
  dur : Nat
  limiting : Bool
  openLoad : Bool
  shortVbb : Bool
  paused : Bool
  pausedMs : Nat
  grpWait : Bool
  shed : Bool
  /-- R304, R313, R318: the demand has been cleared until the next on-demand. -/
  cleared : Bool
  trips : Nat
  tj : Nat
  ma : Nat
  v10 : Nat
  refMv : Nat
  /-- R316: a demand change and a trip during the pulse. -/
  tripDue : Bool
  /-- R312: an episode has been reported. -/
  episode : Bool
  /-- R318: SLEW and WINDOW of the turn-on in progress. -/
  slew : Nat
  window : Nat
  deriving DecidableEq, Repr

/-- The twelve channels and the two groups. -/
structure LswAll where
  chans : Tab LswSt
  iA : Nat
  iB : Nat
  railA : Nat
  railB : Nat
  uvA : Bool
  uvB : Bool
  deriving DecidableEq, Repr

/-- R320: what the power die measures of a channel and of its group at an event: current in mA, output in 10 mV,
junction in °C + 64, operation at the current limit; the group current in 0.1 A and the group rail in mV. -/
structure LswMeas where
  ma : Nat
  v10 : Nat
  tj : Nat
  limiting : Bool
  group : Nat
  rail : Nat
  deriving DecidableEq, Repr

/-! ### Display region (R324 to R345) -/

/-- R345: DSP_STATUS.PSTATE. -/
inductive PState where
  | off | rails | init | on | offseq | discharge
  deriving DecidableEq, Repr

/-- R345: the code of a panel power state. -/
def PState.code : PState → Nat
  | .off => 0 | .rails => 1 | .init => 2 | .on => 3 | .offseq => 4 | .discharge => 5

/-- R324: a published buffer, its CRC and who waits for its flip. -/
structure Buffer where
  addr : Nat
  crc : Word
  owner : Option Requester
  deriving DecidableEq, Repr

/-- R345: DSP_BP_STATUS.STATE. -/
inductive BpState where
  | idle | loading | updating | cleanup | readback | fault
  deriving DecidableEq, Repr

/-- R345: the code of a bistable engine state. -/
def BpState.code : BpState → Nat
  | .idle => 0 | .loading => 1 | .updating => 2 | .cleanup => 3 | .readback => 4 | .fault => 5

/-- The pixel pipeline and the emissive panel's power. -/
structure Dsp where
  pstate : PState
  /-- Step of the sequence of R336 or R337 last taken. -/
  step : Nat
  pnlEn : Bool
  pnlDis : Bool
  pnlRst : Bool
  front : Option Buffer
  pend : Option Buffer
  /-- R324: no flip since the region started: the fallback colour is shown. -/
  noFlip : Bool
  fallback : Bool
  frameCnt : Nat
  inFrame : Bool
  /-- R336: a frame has ended since the video started. -/
  framed : Bool
  crcMatch : Bool
  crcRun : Nat
  crcCalc : Word
  crcFails : Nat
  /-- R328: the live words before a swap, in force until the next frame start; frames the video is stopped for. -/
  held : Option (Tab Word)
  stopFrames : Nat
  /-- R86: panel off and kept off in the Safe-stop that prepares for removal of supply. -/
  offKept : Bool
  deriving DecidableEq, Repr

/-- Ageing compensation. Tables are keyed 3 · tile + colour; `saved` and
`savedOld` are the two copies of the CONFIG partition, the newer first (R332). -/
structure Age where
  /-- Stress counters in units of 0.25 s, and the fraction below one unit in 2^-32. Sensed values and gains in units
  of 2^-15, baselines as sums of 16 readings. -/
  stress : Tab Nat
  fracs : Tab Nat
  base : Tab Nat
  sensed : Tab Nat
  gains : Tab Nat
  applied : Tab Nat
  baselined : Bool
  scanning : Bool
  baselineScan : Bool
  prog : Nat
  errors : Nat
  clip : Nat
  /-- R334: the measurement whose command has been sent, its reading not yet taken. -/
  sensing : Option Nat
  active : Nat
  target : Nat
  /-- A full scan has completed since METHOD became 2. -/
  scanned : Bool
  saved : Option (Tab Nat × Tab Nat × Bool)
  savedOld : Option (Tab Nat × Tab Nat × Bool)
  deriving DecidableEq, Repr

/-- The bistable panel engine. -/
structure Bp where
  state : BpState
  busy : Bool
  phase : Nat
  redrawn : Bool
  temp : Int
  crc : Word
  updates : Nat
  aborts : Nat
  sinceFull : Nat
  waiting : Bool
  /-- R342: the first update after the region's start is a full one. -/
  first : Bool
  /-- The buffer the update under way renders, and the buffer shown. -/
  rendering : List Byte
  shown : List Bool
  /-- Phases of the update not yet finished (R343). -/
  phasesLeft : Nat
  disableDue : Bool
  deriving DecidableEq, Repr

/-! ### Host interface (R346 to R370) -/

/-- R369: HST_RING_STATUS.STATE. -/
inductive RingState where
  | off | run | draining | error
  deriving DecidableEq, Repr

/-- R369: the code of a ring state. -/
def RingState.code : RingState → Nat
  | .off => 0 | .run => 1 | .draining => 2 | .error => 3

/-- One ring pair. -/
structure RingSt where
  state : RingState
  err : Nat
  sqHead : Nat
  sqTail : Nat
  cqHead : Nat
  cqTail : Nat
  phase : Bool
  /-- R356: completions written since the last message. -/
  unsignalled : Nat
  deriving DecidableEq, Repr

/-- R360: what a completion carries beside the descriptor's own tag and opcode. -/
structure Answer where
  status : Status
  detail : Detail
  aux : Nat
  aux32 : Nat
  result : List Byte
  replay : Bool
  deriving DecidableEq, Repr

/-- R353: a descriptor in flight, oldest first in `Host.inflight`. -/
structure Desc where
  ring : Ring
  sqIndex : Nat
  tag : Word
  opcode : Nat
  flags : Nat
  block : Block
  started : Bool
  /-- R365: waits for an original in flight with the same tag and opcode. -/
  dup : Bool
  /-- Decided, and held back by the ring order of R354. -/
  answer : Option Answer
  deriving DecidableEq, Repr

/-- R365: one completion of a ring pair's tag record. -/
structure TagRec where
  tag : Word
  opcode : Nat
  answer : Answer
  deriving DecidableEq, Repr

/-- R347: one entry of the MSI-X table. -/
structure MsixEntry where
  addrLo : Word
  addrHi : Word
  data : Word
  mask : Bool
  deriving DecidableEq, Repr

/-- The HST block and the ring engine. -/
structure HostIf where
  rings : Tab RingSt
  /-- R354: the ring pair last fetched from, per PRIO; 15 where none, so that the turn begins at ring pair 0 (log 26). -/
  turns : Tab Nat
  inflight : List Desc
  tags : Tab (List TagRec)
  discards : Nat
  msix : Tab MsixEntry
  msixPending : BitVec 32
  fnMask : Bool
  linkUp : Bool
  speed : Nat
  width : Nat
  perst : Bool
  wlock : Bool
  epoch : Nat
  deriving DecidableEq, Repr

/-! ### Felt fabric, site power allocation and session replicas (R371 to R401) -/

/-- R400: FAB_PORT_STATUS.STATE. -/
inductive PortState where
  | down | training | full | standby | disabled | retired
  deriving DecidableEq, Repr

/-- R400: the code of a port state. -/
def PortState.code : PortState → Nat
  | .down => 0 | .training => 1 | .full => 2 | .standby => 3 | .disabled => 4 | .retired => 5

/-- R382: the time root as this module knows it. -/
structure RootInfo where
  addr : Nat
  cls : Nat
  hops : Nat
  deriving DecidableEq, Repr

/-- One Felt port. -/
structure FPortSt where
  state : PortState
  /-- R372: the rate being tried while training: full, else standby. -/
  tryFull : Bool
  wakeSent : Bool
  nbr : Option Nat
  answered : Bool
  /-- R373: a LEAVE has come over this port, which explains a loss of lock. -/
  explained : Bool
  fcs : Nat
  authErr : Nat
  delayNs : Nat
  /-- R373: instants (AON, 2^-32 s) of the failures of the last second. -/
  fcsAt : List Nat
  authAt : List Nat
  /-- R376: T_TX of the last SYNC received and its local receive time, ns. -/
  syncTx : Nat
  syncRx : Nat
  /-- R382: the root the neighbour reported last, with its hops from the neighbour. -/
  rootSeen : Option RootInfo
  /-- R376: LOCK_HOPS of the neighbour; 255 none. -/
  lockHops : Nat
  /-- R105: the instant (AON, 2^-32 s) of that report. -/
  lockAt : Nat
  deriving DecidableEq, Repr

/-- R376: a link of an LSA: neighbour address, local port, rate (0 full), cost. -/
structure FLink where
  nbr : Nat
  port : Nat
  rate : Nat
  cost : Nat
  deriving DecidableEq, Repr

/-- R376, R379: one entry of the link-state database. `aged` marks a member aged out. -/
structure LsaRec where
  unit : BitVec 128
  addr : Nat
  seq : Nat
  rated : Nat
  flags : Nat
  links : List FLink
  aged : Bool
  /-- R374: the TTL its frame came with. -/
  ttl : Nat
  deriving DecidableEq, Repr

/-- R400: FAB_STATUS.MODE. -/
inductive FabMode where
  | off | discover | deterministic | fallback
  deriving DecidableEq, Repr

/-- R400: the code of a fabric mode. -/
def FabMode.code : FabMode → Nat
  | .off => 0 | .discover => 1 | .deterministic => 2 | .fallback => 3

/-- R387: one entry of a DEMAND frame. -/
structure DemEntry where
  outlet : Nat
  prio : Nat
  weight : Nat
  ac : Bool
  lo : Nat
  hi : Nat
  exp : Nat
  startRound : Nat
  deriving DecidableEq, Repr

/-- R387: a DEMAND frame. -/
structure Demand where
  addr : Nat
  round : Nat
  digest : BitVec 128
  siteVer : Word
  unctrl : Int
  mode : Nat
  entries : List DemEntry
  deriving DecidableEq, Repr

/-- R391: one item of a result: address, outlet, import grant, export grant in W. -/
structure GrantItem where
  addr : Nat
  outlet : Nat
  imp : Nat
  exp : Nat
  deriving DecidableEq, Repr

/-- R388, R391: the result of a round, with the RATED of each member of the membership it was computed over. A digest of
0 marks a result computed in fallback or received in GRANT. -/
structure AllocResult where
  round : Nat
  cap : Nat
  digest : BitVec 128
  items : List GrantItem
  rated : Tab Nat
  deriving DecidableEq, Repr

/-- R393: segments of a GRANT received for a round. -/
structure GrantPart where
  round : Nat
  segment : Nat
  segments : Nat
  items : List GrantItem
  deriving DecidableEq, Repr

/-- The fabric and the allocation run in the service firmware. -/
structure Fab where
  mode : FabMode
  addr : Nat
  addrValid : Bool
  /-- R377: next probe, and the address stored in CONFIG with its unit. -/
  probe : Nat
  storedAddr : Option (Nat × BitVec 128)
  /-- R374: start count of this source (MRAM), and the last SEQ sent per type. -/
  epoch : Nat
  seqs : Tab Nat
  lsaSeq : Nat
  ports : Tab FPortSt
  db : List LsaRec
  /-- R375: the highest (EPOCH, SEQ) held per 64 · SRC + TYPE; R381: floods already forwarded. -/
  heard : Tab (Nat × Nat)
  forwarded : List (Nat × Nat × Nat × Nat)
  root : Option RootInfo
  ofsNs : Int
  /-- R384: highest round number seen, next round and its instant, the last round run here. -/
  roundSeen : Nat
  roundNext : Nat
  roundAt : Nat
  roundRun : Nat
  roundShown : Nat
  diverge : Nat
  fallbacks : Nat
  milliner : Option Nat
  partition : Bool
  hold : Bool
  /-- R388: last UNCTRL_W of each member, AON instant of the first round each was missing in, and the demands of this round. -/
  lastUnctrl : Tab Int
  missingFrom : Tab Nat
  demands : List Demand
  collecting : Bool
  /-- Results of the last two rounds, newest first, and the last agreed round. -/
  results : List AllocResult
  agreed : Option AllocResult
  /-- R390: rounds computed in a row since the last wake, at most 2; 2 when the module has not been in Standby. -/
  computed : Nat
  startRounds : Tab Nat
  grantImp : Tab Nat
  grantExp : Tab Nat
  /-- R389: the module's total is capped at its proportional share. -/
  capped : Bool
  grantParts : List GrantPart
  /-- R394: rounds with the membership unchanged, divergence instants (AON s), the hold lifted once, and
  the round that RESUME names. -/
  steady : Nat
  divergeAt : List Nat
  liftHold : Bool
  resumeRound : Option Nat
  deriving DecidableEq, Repr

/-- R395: where the origin's replica of a context stands at one holder. -/
inductive HolderState where
  | asked | held | closing
  deriving DecidableEq, Repr

/-- One holder of an origin's replica. -/
structure Holder where
  sessionId : BitVec 128
  outlet : Nat
  addr : Nat
  primary : Bool
  state : HolderState
  ackCycle : Nat
  /-- Close: reason and SEQ of the SESSION entry. -/
  reason : Nat
  seq : Nat
  deriving DecidableEq, Repr

/-- Replication of sessions. -/
structure Repl where
  holders : List Holder
  /-- Addresses passed over for a session because they refused (R395). -/
  refused : List (BitVec 128 × Nat)
  /-- R397: the last 256 SETTLED notices, newest first: session, origin, settler, adopted, SEQ. -/
  notices : List (BitVec 128 × Nat × Nat × Bool × Nat)
  /-- R172: parity of the per-cycle commit, for every second update. -/
  odd : Bool
  deriving DecidableEq, Repr

/-! ### Trust region (R402 to R432) -/

/-- R432: TRU_XMT_STATUS.STATE. -/
inductive XmtState where
  | noKey | keygen | ready | signing | unbound | disabled | wrongKey | lost
  deriving DecidableEq, Repr

/-- R432: the code of a device-key state. -/
def XmtState.code : XmtState → Nat
  | .noKey => 0 | .keygen => 1 | .ready => 2 | .signing => 3 | .unbound => 4 | .disabled => 5 | .wrongKey => 6
  | .lost => 7

/-- R419: what one state copy of the device key says. -/
structure XmtCopy where
  rseq : Nat
  next : Nat
  deriving DecidableEq, Repr

/-- R415: the key record: public key (68 bytes) and key check (16 bytes). -/
structure KeyRecord where
  pub : List Byte
  check : List Byte
  deriving DecidableEq, Repr

/-- R407: one measured stage: authority code, image-key slot (255 none), version and digest. -/
structure StageMeas where
  code : Nat
  slot : Nat
  version : Word
  digest : BitVec 256
  deriving DecidableEq, Repr

/-- R425: a site fabric key: its id, activation instant in fabric time (ns) and the wrapped blob. -/
structure SiteKey where
  keyId : Word
  activation : Nat
  wrapped : List Byte
  deriving DecidableEq, Repr

/-- R418: a job of the sign pipeline: a legal log entry, an entry signed again for an export (R229), or an
attestation record with its nonce (R417). -/
inductive SignJob where
  | legal (seq : Nat)
  | resign (seq : Nat)
  | attest (req : Requester) (nonce : BitVec 256)
  deriving DecidableEq, Repr

/-- R403: the classes of derivation requests, highest first. -/
inductive DeriveClass where
  | device | siteKey | tls | wrap
  deriving DecidableEq, Repr

/-- R404: a TLS session holds one pair of AES contexts. -/
structure TlsSession where
  id : Nat
  established : Bool
  /-- 0 backend or host TLS 1.3, n + 1 the SECC of outlet n. -/
  peer : Nat
  /-- R424: TRU_TLS_POLICY when the handshake began. -/
  policy : Word
  deriving DecidableEq, Repr

/-- R427: the one-time fuses. LCS keeps its 15 bits (three for each of five groups); the counters of ROLLBACK
are the number of blown bits. -/
structure Fuses where
  root : BitVec 256
  rootSet : Bool
  scramble : BitVec 64
  unit : BitVec 128
  unitSet : Bool
  lcs : BitVec 15
  legalDig : Option (BitVec 256)
  img0 : Option (BitVec 256)
  img1 : Option (BitVec 256)
  revoke : BitVec 2
  prov : Option (BitVec 256)
  dbg : Option (BitVec 256)
  rollback : List Nat
  deriving DecidableEq, Repr

/-- R427: a group counts as blown when at least two of its three bits are. -/
def groupBlown (lcs : BitVec 15) (g : Nat) : Bool :=
  decide (2 ≤ (lcs.getLsbD (3 * g)).toNat + (lcs.getLsbD (3 * g + 1)).toNat + (lcs.getLsbD (3 * g + 2)).toNat)

/-- R427: the lifecycle state is the highest-ranked blown group, Blank when none is. -/
def Fuses.state (f : Fuses) : Lifecycle :=
  if groupBlown f.lcs 4 then .scrapped
  else if groupBlown f.lcs 3 then .returned
  else if groupBlown f.lcs 2 then .deployed
  else if groupBlown f.lcs 1 then .provisioned
  else if groupBlown f.lcs 0 then .factory
  else .blank

/-- The trust region. `copyA`, `copyB` and `keyRecord` lie in the LEGAL partition, `cert`, `secc` and
`generation` in CERT, `siteKeys` in CONFIG. -/
structure Tru where
  /-- R409, R413: UNIT as read from the fuses at the last start. -/
  unit : BitVec 128
  rootOk : Bool
  chainsClosed : Bool
  debugOpen : Bool
  /-- R417: debug opened since the last reset. -/
  scope : Nat
  fails : Nat
  locked : Bool
  challenge : Option (BitVec 256)
  accesses : Nat
  remasks : Nat
  healthOk : Bool
  rctFail : Bool
  aptFail : Bool
  entFails : Nat
  /-- R406: consecutive starts of the source that failed. -/
  entStarts : Nat
  stages : List StageMeas
  meas : BitVec 256
  authChain : BitVec 256
  xmt : XmtState
  /-- R419: the 64 bytes of each state copy; fewer where it is torn or was never written. -/
  copyA : List Byte
  copyB : List Byte
  keyRecord : Option KeyRecord
  keygenProg : Nat
  signQueue : List SignJob
  /-- The job being signed, with its index. -/
  signNow : Option (SignJob × Nat)
  /-- Signatures made, of which every 1,024th writes a checkpoint (R419). -/
  sigsMade : Nat
  checkpoints : Nat
  /-- The KEYGEN of a debug session disables the sign pipeline until reset (R430). -/
  signOff : Bool
  tls : List TlsSession
  siteKeys : List SiteKey
  /-- R425: a held key is unwrapped and loaded. -/
  siteLoaded : Bool
  sendKey : Option Word
  /-- R425: the previous key is accepted for 10 s after an activation: the AON instant it ends. -/
  prevUntil : Nat
  cert : Option (List Byte)
  generation : Tab Nat
  lcNonce : BitVec 256
  lcResult : Nat
  lcFrom : Nat
  lcTo : Nat
  repaired : Bool
  deriving DecidableEq, Repr

/-! ### Field update (R433 to R455) -/

/-- R439: the states of the update session. -/
inductive UpdState where
  | idle | downloading | verifying | verified | activating | pending | rollback
  deriving DecidableEq, Repr

/-- R439: the code of an update state. -/
def UpdState.code : UpdState → Nat
  | .idle => 0 | .downloading => 1 | .verifying => 2 | .verified => 3 | .activating => 4 | .pending => 5
  | .rollback => 6

/-- R454: UPD_STATUS.JSTEP. -/
inductive Journal where
  | none | prepared | switched | placed | confirmed | reverted
  deriving DecidableEq, Repr

/-- R454: the code of a journal step. -/
def Journal.code : Journal → Nat
  | .none => 0 | .prepared => 1 | .switched => 2 | .placed => 3 | .confirmed => 4 | .reverted => 5

/-- R438: the sources of an update session. -/
inductive UpdSource where
  | host | ocpp | swirov
  deriving DecidableEq, Repr

/-- R454: the code of a source. -/
def UpdSource.code : UpdSource → Nat
  | .host => 1 | .ocpp => 2 | .swirov => 3

/-- R436: one entry of a manifest. -/
structure PartEntry where
  part : Nat
  pflags : Nat
  schema : Nat
  version : Word
  offset : Nat
  length : Nat
  svn : Nat
  digest : BitVec 256
  /-- Bytes 18 to 31. -/
  zeros : Nat
  deriving DecidableEq, Repr

/-- R436: a manifest as read from its bytes. -/
structure Manifest where
  magic : Nat
  version : Nat
  flags : Nat
  zero7 : Nat
  hwType : Nat
  stepMask : Nat
  unit : BitVec 128
  id : Nat
  payloadLen : Nat
  created : Nat
  zero46 : Nat
  pubkey : List Byte
  entries : List PartEntry
  /-- NPARTS as stated. -/
  nparts : Nat
  signature : List Byte
  /-- The bytes that the signature covers. -/
  signed : List Byte
  deriving DecidableEq, Repr

/-- R434: one bank of a part: its header's entry and key slot, and the image. -/
structure Bank where
  entry : PartEntry
  pubkey : List Byte
  image : List Byte
  deriving DecidableEq, Repr

/-- The update engine and the IMAGE partition. Banks are keyed 2 · stage (A) and 2 · stage + 1 (B). -/
structure Upd where
  state : UpdState
  source : Option UpdSource
  manifest : Option Manifest
  /-- R441: chunks written and read back. -/
  chunks : Tab (List Byte)
  journal : Journal
  starts : Nat
  cause : Nat
  /-- R449: seconds counted in PENDING as saved in the session record, and the AON instant they are counted from. -/
  savedS : Nat
  confirmFrom : Nat
  restartDue : Bool
  banks : Tab Bank
  /-- R434: parts that select bank B, by stage. -/
  bankB : BitVec 9
  /-- R450: schema version of each part's settings groups, and the old ones saved with the service firmware's
  variables. -/
  schemas : Tab Nat
  savedSchemas : Tab Nat
  savedVars : Option (Tab Nat)
  /-- R442: UPD_VERIFY and (true) UPD_ACTIVATE that wait for the verification; the accepted UPD_ACTIVATE; UPD_ABORT. -/
  waiting : List (Requester × Bool)
  activateBy : Option Requester
  abortBy : Option Requester
  /-- R443: accepted, the pause begins at the next angle 0. -/
  pauseDue : Bool
  /-- R449: a running-image rollback enters its pause at the next angle 0. -/
  rollbackDue : Bool
  /-- Quill has read the session record at start (R453). -/
  shown : Bool
  deriving DecidableEq, Repr

/-! ### Fault collector and Blotter (R456 to R477) -/

/-- R459: the states of a source. -/
inductive SrcState where
  | ok | active | quiet | permanent | retired
  deriving DecidableEq, Repr

/-- R459: the code of a source's state. -/
def SrcState.code : SrcState → Nat
  | .ok => 0 | .active => 1 | .quiet => 2 | .permanent => 3 | .retired => 4

/-- One source of the collector. -/
structure Src where
  state : SrcState
  /-- The owner reports its condition present (R15, R465). -/
  present : Bool
  level : Nat
  forced : Bool
  recov : Nat
  /-- R463: the last 15 occurrence times, AON seconds, newest first. -/
  occ : List Nat
  deriving DecidableEq, Repr

/-- R457: a single fault event raised by an owning block. -/
structure Report where
  src : Nat
  level : Nat
  detail : Word
  forced : Bool
  deriving DecidableEq, Repr

/-- R15: a reset the collector performed, whose source is checked 1 ms after its end. -/
structure Check where
  src : Nat
  level : Nat
  block : Block
  complete : Bool
  deriving DecidableEq, Repr

/-- The fault collector. -/
structure Flt where
  srcs : Tab Src
  /-- R462: the store has been restored. -/
  restored : Bool
  storeOk : Bool
  /-- R462: reports that arrive before the restore wait, oldest first. -/
  waiting : List Report
  /-- R458: collector resets still in progress. -/
  resets : List Block
  checks : List Check
  deriving DecidableEq, Repr

/-- R471: one Blotter record. `since` is the AON second of its first occurrence, for LAST_S. -/
structure BltRec where
  seq : Nat
  cycle : Nat
  wall : Nat
  sev : Nat
  forced : Bool
  holdup : Bool
  wallInvalid : Bool
  escalated : Bool
  kind : Nat
  level : Nat
  channel : Bool
  code : Nat
  rept : Nat
  lastS : Nat
  data : Word
  since : Nat
  deriving DecidableEq, Repr

/-- Blotter (R471 to R477). `slots`, `drop` and the SEQ they imply live in MRAM. -/
structure Blt where
  slots : Tab BltRec
  nextSeq : Nat
  drop : Nat
  queue : List BltRec
  ready : Bool
  winBusy : Bool
  winStale : Bool
  winEnd : Bool
  window : List BltRec
  deriving DecidableEq, Repr

/-! ### Operand types of the commands -/

/-- R353: what a fetch brings: the descriptor's 64 bytes, or a PCIe error of the fetch or of a completion
write (R352). -/
inductive Fetched where
  | desc (bytes : List Byte)
  | fetchError
  | writeError
  deriving DecidableEq, Repr

/-- R347, R458: a write to a double word of an MSI-X table entry, or to the function mask. -/
inductive MsixWrite where
  | entry (vector : Fin 32) (dword : Fin 4) (value : Word)
  | functionMask (masked : Bool)
  deriving DecidableEq, Repr

/-- R374: the header of a frame that a receiver's checks have passed: port of arrival, SRC, TTL, EPOCH,
SEQ; and DST, none for a flood or a link frame. -/
structure FeltHdr where
  port : FPort
  src : Nat
  ttl : Nat
  epoch : Nat
  seq : Nat
  dst : Option Nat
  deriving DecidableEq, Repr

/-- R376: the payload of SYNC. -/
structure SyncBody where
  tTx : Nat
  tEcho : Nat
  rxOfEcho : Nat
  root : Nat
  rootClass : Nat
  hops : Nat
  roundNext : Nat
  roundAt : Nat
  lockHops : Nat
  angle : Nat
  freq : Nat
  deriving DecidableEq, Repr

/-- R376: the payload of REPLICA_OPEN. -/
structure ReplicaOpen where
  sessionId : BitVec 128
  authRef : BitVec 128
  originCtx : Nat
  outlet : Nat
  point : Nat
  primary : Bool
  startCycle : Nat
  startWall : Nat
  calId : Nat
  price : List Word
  deriving DecidableEq, Repr

/-- R376: the payload of REPLICA_UPDATE; `values` are slots 24, 25 and 32 to 63. -/
structure ReplicaUpdate where
  sessionId : BitVec 128
  cycle : Nat
  wall : Nat
  energisedMs : Nat
  flags : BitVec 16
  values : List Nat
  deriving DecidableEq, Repr

/-- R373, R375, R376: why a frame is rejected. -/
inductive FrameFault where
  | hcrc | fcs | tag | typ
  deriving DecidableEq, Repr

/-- R257: what a PowerDelivery request asks for. -/
inductive PowerReq where
  | start | stop | pause
  deriving DecidableEq, Repr

/-- R418: what a verification of the verify pipeline is for. -/
inductive VerifyFor where
  | image | manifest | lifecycle | debug | certificate (cert : List Byte)
  deriving DecidableEq, Repr

/-- R423: what a handshake message does. -/
inductive TlsEvent where
  | hello | finished (ok : Bool) | close
  deriving DecidableEq, Repr

/-- What a lane brought since the last sample: the periods received (R125) and the eye margin in % (R129). -/
structure LaneSample where
  lane : Nat
  periods : List Period
  eye : Nat
  deriving DecidableEq, Repr

/-- R445: an event for the outlet firmware: of a pilot or a proximity contact, of a matching, or of a vehicle protocol. -/
inductive OutEvent where
  | pilotStateAccepted (outlet : Outlet) (vpos vneg : Int) (angle : Nat)
  | ppClassAccepted (outlet : Outlet) (mv : Nat)
  | cmSlacParm (outlet : Outlet) (runId : Nat)
  | cmStartAttenChar (outlet : Outlet) (runId : Nat)
  | cmMnbcSound (outlet : Outlet) (runId atten : Nat)
  | cmAttenChar (outlet : Outlet) (runId : Nat)
  | cmSlacMatch (outlet : Outlet) (runId : Nat)
  | cmSetKey (outlet : Outlet) (runId : Nat)
  | cmValidate (outlet : Outlet) (runId : Nat)
  | gpLinkUp (outlet : Outlet)
  | sessionSetupReq (outlet : Outlet) (proto : Hlc) (tls : Nat) (sessionId : BitVec 128)
  | authorizationReq (outlet : Outlet) (pnc chainOk : Bool) (ident : List Byte) (ptable : Nat)
  | chargeParameterDiscoveryReq (outlet : Outlet) (bpt dynamic : Bool) (schedules : List (List Nat))
  | cableCheckReq (outlet : Outlet)
  | preChargeReq (outlet : Outlet) (mv ma : Nat)
  | powerDeliveryReq (outlet : Outlet) (req : PowerReq) (angle : Nat)
  | currentDemandReq (outlet : Outlet) (mv : Nat) (ma : Int)
  | weldingDetectionReq (outlet : Outlet)
  | sessionStopReq (outlet : Outlet) (angle : Nat)
  | meteringReceiptReq (outlet : Outlet)
  | certificateInstallationReq (outlet : Outlet) (update : Bool) (cert : List Byte)
  deriving DecidableEq, Repr

end Sys2Proof.Machine
end

