-- ==== Sys2Proof/Syntax.lean ====
section
/-! DEFINITION. The commands of the block: one constructor per row of spec/opcode_table.json, with the operands
the rules give it. An event of the table carries what its owner measured or received. -/

namespace Sys2Proof

open Machine

/-- The commands and events of the module, in the order of the table. -/
inductive Instr where
  /-- R10 REGISTER_WRITE: A write to a register that has no row of its own, applied according to its access type (RW, W1C, W1S, RWL, WO). -/
  | registerWrite (addr : Nat) (value : Word)
  /-- R8 UNMAPPED_ACCESS: A misaligned, partial-byte or unmapped access returns 0 or is discarded and raises the region's access-fault source. -/
  | unmappedAccess (addr : Nat) (write : Bool)
  /-- R16 FENCED_WINDOW_ACCESS: An access to a fenced or resetting region returns 0 or is discarded, without an access fault. -/
  | fencedWindowAccess (addr : Nat) (write : Bool)
  /-- R34 CG_CTRL_ARM: An ARM written to SUP_CG_CTRL arms the commit group with MEMBERS and the target cycle, or the arm is refused. -/
  | cgCtrlArm (members : BitVec 8) (maxDefer : BitVec 4)
  /-- R36 CG_CTRL_CANCEL: A CANCEL written to SUP_CG_CTRL cancels an armed or deferred group and reloads its shadows from live. -/
  | cgCtrlCancel (members : BitVec 8) (maxDefer : BitVec 4)
  /-- R36 CG_POLL: At angle 64,512 the supervisor polls the members and commit-locks, defers or abandons the group. -/
  | cgPoll (contextCommit : Bool)
  /-- R38 POWER_DIE_CONFIRM: The power die confirms the shadowed configuration sent to it at the swap. -/
  | powerDieConfirm
  /-- R38 PD_CONFIRM_TIMEOUT: With no confirmation by angle 1,024, a power-link fault is raised and the power die keeps its last confirmed values. -/
  | pdConfirmTimeout
  /-- R478 NS_WRITE: A write to a non-shadowable register is submitted as its own sequence, queued, or discarded with NS_REFUSED. -/
  | nsWrite (addr : Nat) (value : Word)
  /-- R39 NS_SETTING_LANDED: A setting of a non-shadowable sequence lands, and the next setting is applied or the sequence completes with NS_DONE. -/
  | nsSettingLanded
  /-- R22 PWD_WRITE_LANDED: A posted power-die write lands and PWD_WRITE_SEQ increments. -/
  | pwdWriteLanded (m : LswMeas)
  /-- R19 POWER_LINK_TIMEOUT: After 1 ms without a valid power-link frame the power die holds every output at its last state. -/
  | powerLinkTimeout
  /-- R21 NIB_MIRROR_REFRESH: The safety-die mirror is refreshed from the safety link every 50 µs. -/
  | nibMirrorRefresh (bad : BitVec 8) (since : Nat)
  /-- R24 CLOCK_LOSS: A clock monitor sees fewer than half the expected edges in its window and raises the domain's fault source. -/
  | clockLoss (dom : Domain)
  /-- R24 CLOCK_EXCURSION: A clock's frequency over 100 windows leaves its tolerance by more than a further 1 %. -/
  | clockExcursion (dom : Domain)
  /-- R25 REF_RESTORED: REF has been within tolerance for 10 ms, so MET returns to REF, the stopped domains restart and the fences lift. -/
  | refRestored
  /-- R48 MODE_REQ_GO: GO written to SUP_MODE_REQ submits TARGET, which is checked and decided within 1 ms. -/
  | modeReqGo (target : BitVec 4) (prepOff : Bool)
  /-- R86 PREP_DONE: Preparation for removal of supply completes and PREP_DONE rises. -/
  | prepDone
  /-- R51 BROWN_OUT: VMAIN stays below BO_THR for BO_FILT; Hold-up begins and the hold-up sequence runs. -/
  | brownOut (vmain vhold : Nat) (supplies : BitVec 6) (done : Nat)
  /-- R86 HOLDUP_OFF: VHOLD falls to 18.0 V, VSYS_OUT stops and the module passes from Hold-up to Off. -/
  | holdupOff
  /-- R50 HOLDUP_RECOVERY: The supply stays above power-good for 10 ms in Hold-up, so a warm module reset with cause HOLDUP follows. -/
  | holdupRecovery (vmain : Nat) (supplies : BitVec 6)
  /-- R84 POWER_GOOD: Power-good is reached, which starts the cold reset of the compute die. -/
  | powerGood (vmain : Nat) (supplies : BitVec 6)
  /-- R84 POWER_GOOD_LOST: A compute-die or memory rail leaves its limits for 2 µs, so the compute die is held in reset. -/
  | powerGoodLost (rail : Fin 8)
  /-- R85 POWER_DIE_POR: The power die leaves power-on reset with every output off, and VHOLD charging starts. -/
  | powerDiePor (vmain vhold : Nat) (supplies : BitVec 6)
  /-- R85 SAFETY_DIE_POR: Nib starts with every coil gate not permitted and latches welds on closed feedback. -/
  | safetyDiePor (levels : List Nat) (selfTest : Bool)
  /-- R63 RST_N_RESET: RST_N is held low for at least 1 ms, giving a cold reset with cause PIN. -/
  | rstNReset
  /-- R54 RST_CTRL_MODULE: SUP_RST_CTRL.MODULE written with the key starts a warm module reset, or the reset is refused. -/
  | rstCtrlModule
  /-- R54 RST_CTRL_COLD: SUP_RST_CTRL.COLD written with the key starts a cold reset, or the reset is refused. -/
  | rstCtrlCold
  /-- R54 RST_CTRL_REGION: A REGION bit of SUP_RST_CTRL written with the key resets that region, or the reset is refused. -/
  | rstCtrlRegion (regions : BitVec 7)
  /-- R53 WATCHDOG_EXPIRY: The supervisor watchdog expires and causes a warm module reset. -/
  | watchdogExpiry
  /-- R56 RESET_RELEASE: A reset is released, Bring-up begins and the ready bits start rising. -/
  | resetRelease (elapsed : Nat) (store : StoreCopy) (badSlots : List Nat) (badCopies : BitVec 4) (sealPin : Bool)
  /-- R52 SRAM_WIPE_DONE: The SRAM wipe of a reset completes. -/
  | sramWipeDone (us10 : Nat)
  /-- R52 DRAM_WIPE_DONE: The DRAM wipe of a cold reset completes. -/
  | dramWipeDone (ms : Nat)
  /-- R66 MRAM_WIPE_DONE: The lifecycle MRAM wipe completes and the new wiped epoch is recorded. -/
  | mramWipeDone (ms : Nat)
  /-- R56 FUNCTION_READY: A function raises its SUP_READY bit and can be used from that moment. -/
  | functionReady (f : Func) (badSlots : List Nat) (badCopies : BitVec 4) (sealPin : Bool) (ageBad : BitVec 2)
  /-- R57 READY_TIMEOUT: A function misses its ready deadline, raising its ready-timeout source and putting the module in Degraded. -/
  | readyTimeout (f : Func)
  /-- R61 WAKE_EVENT: An enabled wake event in Standby returns the module to Operational, and cancels a pending mode change. -/
  | wakeEvent (source : Fin 16)
  /-- R63 DEEP_STANDBY_WAKE: An enabled wake event in Deep-standby gives a warm module reset with cause DEEP. -/
  | deepStandbyWake (source : Fin 16)
  /-- R70 DISABLE_WRITE: A write to SUP_DISABLE makes functions refuse new work and start draining. -/
  | disableWrite (value : Word)
  /-- R70 DRAIN_DONE: A disabled function finishes draining, so its status bit clears and it holds its disabled state. -/
  | drainDone (k : Fin 25)
  /-- R70 OUTLET_DRAIN_TIMEOUT: An outlet is still draining after 6 s, so its contactors are opened at once and a legal log entry is written. -/
  | outletDrainTimeout (outlet : Outlet)
  /-- R428 LIFECYCLE_TOKEN: A lifecycle token is submitted, verified, and either refused or followed by the fuse blow and a warm reset. -/
  | lifecycleToken (token : List Byte) (sigOk : Bool)
  /-- R88 LOAD_CHECK_START: VHOLD reaches 35.5 V after power-on, or 24 h have passed, so the charger stops and 20 mA is drawn. -/
  | loadCheckStart (vhold : Nat)
  /-- R88 LOAD_CHECK_DONE: VHOLD has fallen by 0.3 V, so capacitance and ESR are computed, HOLD_OK is updated and the store is recharged. -/
  | loadCheckDone (capUf esrMohm : Nat)
  /-- R88 CHARGE_RISE_MEASURED: The timed rise of VHOLD from 20 V to 30 V replaces the capacitance value. -/
  | chargeRiseMeasured (capUf : Nat)
  /-- R87 HOLD_OK_FALL: HOLD_OK falls, or a load check sets UNDERSIZED, outside Hold-up, raising the hold-up source and Degraded. -/
  | holdOkFall (vhold : Nat)
  /-- R87 HOLD_OK_RISE: HOLD_OK reads 1 again, the hold-up source clears and this cause of Degraded ends. -/
  | holdOkRise (vhold : Nat)
  /-- R99 ANGLE_ZERO: At angle 0 the cycle count increments and the booked boundary work of the cycle is done. -/
  | angleZero (period : Nat) (brownOut : Bool)
  /-- R166 FINALISATION_DONE: Finalisation ends within 30 µs of angle 0, and waiting latches and coincident events proceed. -/
  | finalisationDone
  /-- R171 COMMIT_SLOT_WRITTEN: A commit-ring slot write completes with its CRC. -/
  | commitSlotWritten (us : Nat)
  /-- R173 LAST_GASP_COMMIT: The cycle in progress is cut at the brown-out instant and a KIND 1 slot is written. -/
  | lastGaspCommit (angle since : Nat)
  /-- R174 FINAL_COMMIT: In Hold-up every point has stopped or the budget falls below 10 mJ, so the KIND 3 commit is made. -/
  | finalCommit (angle since : Nat)
  /-- R156 DTCORR_MEASURE: On the fallback clock the true MET frequency is measured against AON every 100 ms. -/
  | dtcorrMeasure (ratio : Word)
  /-- R177 HARM_WINDOW: Harmonic RMS values of the selected lane are renewed every 8 cycles. -/
  | harmWindow
  /-- R153 METER_SAMPLE: A corrected 16 kS/s sample is produced and its product added to the cycle sum. -/
  | meterSample (samples : List LaneSample)
  /-- R127 CV_LIMIT_EXCEEDED: More than 64 code violations within one mains cycle send the lane to RETRAIN. -/
  | cvLimitExceeded (lane : Lane)
  /-- R132 RANGE_DOWN: A fast-detector sample at or above 15/16 FS16 sends a GAIN x1 frame. -/
  | rangeDown (lane : Lane) (periods : List Period)
  /-- R127 LANE_TRAINED: A lane aligns and reads its ID, and passes to RUN or to FAILED with cause TYPE. -/
  | laneTrained (lane : Lane) (scan : LaneScan)
  /-- R127 TRAIN_TIMEOUT: A lane does not align within 2 ms of TRAIN and goes to FAILED with cause NO_TRAIN. -/
  | trainTimeout (lane : Lane)
  /-- R127 LANE_SIGNAL_LOSS: No valid symbol for 16 periods sends a lane to RETRAIN with substitution, or to STOPPED in Hold-up. -/
  | laneSignalLoss (lane : Lane) (periods : Nat)
  /-- R128 RETRAIN_DONE: 128 consecutive valid symbols return the lane to RUN in x1. -/
  | retrainDone (lane : Lane) (periods : List Period) (by' : Int)
  /-- R127 RETRAIN_TIMEOUT: A lane not realigned within 100 µs goes to FAILED with cause LOST. -/
  | retrainTimeout (lane : Lane)
  /-- R127 LANE_FAILED_RETRY: One second after FAILED, training is attempted again. -/
  | laneFailedRetry (lane : Lane)
  /-- R145 CAL_MEAS_START: START written to MET_CAL_CTRL begins a calibration measurement at the next angle 0. -/
  | calMeasStart (laneA laneB : Lane) (cycles : BitVec 8)
  /-- R145 CAL_MEAS_ABORT: ABORT written to MET_CAL_CTRL stops the calibration measurement. -/
  | calMeasAbort
  /-- R145 CAL_MEAS_DONE: A calibration measurement completes CYCLES cycles and its results become valid. -/
  | calMeasDone
  /-- R166 ACC_LATCH: LATCH written to MET_ACC_CTRL copies the finalised slots of a point or context into the window. -/
  | accLatch (context : Bool) (index : BitVec 8)
  /-- R108 TB_LATCH: A write to SUP_TB_LATCH latches cycle, angle and wall time from one MET clock. -/
  | tbLatch (angle fraction since : Nat)
  /-- R105 REF_QUALIFIED: A reference qualifies over the required cycles and the timebase moves to ACQUIRE. -/
  | refQualified (alternate : Bool)
  /-- R105 REF_LOST: The followed reference is lost, so the timebase enters HOLDOVER, SYNTH_FAB or SYNTH. -/
  | refLost (alternate : Bool)
  /-- R105 TB_LOCK_ACQUIRED: The angle error stays within 32 AU for 8 cycles, so LOCKED is entered and LOCK is set. -/
  | tbLockAcquired
  /-- R105 TB_PHASE_JUMP: The angle error exceeds 2,048 AU for 3 cycles and the timebase returns to ACQUIRE. -/
  | tbPhaseJump
  /-- R105 HOLDOVER_EXPIRY: HOLD cycles pass in holdover and the timebase switches reference or falls to synthetic operation. -/
  | holdoverExpiry
  /-- R105 BEACON_TIMEOUT: Beacons have been absent for 2 s, so SYNTH_FAB returns to SYNTH. -/
  | beaconTimeout
  /-- R109 SCHED_BOOK: An owner books an event for a cycle and angle, and the booking is accepted or refused. -/
  | schedBook (b : Booking)
  /-- R109 SCHED_CANCEL: An owner cancels a booking. -/
  | schedCancel (kind : BookKind)
  /-- R111 SCHED_FIRE: Booked events reach their instant and are dispatched in class order. -/
  | schedFire (angle since : Nat)
  /-- R114 WALL_OFFSET: A time source reports an offset, which is slewed, becomes a pending step, is refused or is only recorded. -/
  | wallOffset (src : TimeSrc) (offset : Int)
  /-- R115 SLEW_DONE: The remaining slew offset reaches zero and SLEW_DONE is set. -/
  | slewDone (since : Nat)
  /-- R118 RTC_ALARM: The wall seconds equal SUP_RTC_ALARM, so ALARM is set and the module may wake. -/
  | rtcAlarm (since : Nat)
  /-- R187 CAL_TBL_WRITE: A write to TAR_TBL_DATA stores a passive calendar word, with auto-increment, or is discarded while ARMED. -/
  | calTblWrite (value : Word)
  /-- R210 CAL_TBL_READ: A read of TAR_TBL_DATA returns the calendar word and auto-increments WORD. -/
  | calTblRead
  /-- R187 PAS_CTRL_ARM: ARM written to TAR_PAS_CTRL checks the passive calendar and arms it, or records a CHECK_FAILED cause. -/
  | pasCtrlArm
  /-- R187 PAS_CTRL_DISARM: DISARM written to TAR_PAS_CTRL returns an armed calendar to LOADING. -/
  | pasCtrlDisarm
  /-- R187 PAS_CTRL_CLEAR: CLEAR written to TAR_PAS_CTRL empties the passive calendar. -/
  | pasCtrlClear
  /-- R210 PRICE_DATA_WRITE: A write to TAR_PRICE_DATA stores a staging word and auto-increments. -/
  | priceDataWrite (value : Word)
  /-- R210 PRICE_DATA_READ: A read of TAR_PRICE_DATA returns a staging word and auto-increments. -/
  | priceDataRead
  /-- R210 PRICE_CTRL_PUBLISH: PUBLISH written to TAR_PRICE_CTRL copies the staging words to the selected price table. -/
  | priceCtrlPublish
  /-- R210 PRICE_CTRL_CLEAR: CLEAR written to TAR_PRICE_CTRL sets the staging words to 0. -/
  | priceCtrlClear
  /-- R194 MD_CTRL_RESET: RESET written to TAR_MD_CTRL requests a maximum-demand reset at the next angle 0. -/
  | mdCtrlReset
  /-- R216 SEAL_OPENED: METSEAL is high for 10 ms; the seal opens, LEG_SEAL_CNT increments and a SEAL entry is written. -/
  | sealOpened
  /-- R216 SEAL_CLOSED: METSEAL is low for 10 ms; the seal closes and the IDs of recalibrated lanes are taken. -/
  | sealClosed
  /-- R219 LEG_ENTRY_WRITE: The legal core writes a legal log entry with the next SEQ and its chain value. -/
  | legEntryWrite
  /-- R228 LEG_SIGN_START: The legal core starts signing the oldest pending entry, subject to the hold-up budget. -/
  | legSignStart
  /-- R227 SIGNATURE_DONE: A signature is stored in the signature ring, the entry is marked SIGNED and LEG_SIGNED advances. -/
  | signatureDone
  /-- R232 LEG_DISPLAY_REBUILD: The legal content buffer is rebuilt on an event or every 10 s during a session. -/
  | legDisplayRebuild
  /-- R235 LEG_EVT_READ: A read of LEG_EVT returns and clears the legal events and re-arms route 7. -/
  | legEvtRead
  /-- R143 LANE_CV_READ: A read of MET_LANE_CV returns and clears the code-violation count. -/
  | laneCvRead (lane : Lane)
  /-- R214 LEGAL_LOAD: The LEGAL_LOAD instruction shifts in the legal firmware, which the bootstrap verifies and writes in Factory. -/
  | legalLoad (data : List Byte) (version : Word) (sigOk : Bool)
  /-- R241 PILOT_STATE_ACCEPTED: A pilot state is accepted after 3 periods or 3 ms and drives the outlet session. -/
  | pilotStateAccepted (outlet : Outlet) (vpos vneg : Int) (angle : Nat)
  /-- R241 PILOT_ERROR: The pilot stays Invalid or in E for 100 ms and is reported as SF3. -/
  | pilotError (outlet : Outlet)
  /-- R244 PWM_OFF_TIMEOUT: The vehicle stays in state C 6 s after PWM went off, so the contactors are opened. -/
  | pwmOffTimeout (outlet : Outlet) (angle : Nat)
  /-- R245 OVERCURRENT_TIMEOUT: A phase current exceeds the signalled current for 5 s, so OVERCURRENT is set and the session stops. -/
  | overcurrentTimeout (outlet : Outlet) (angle : Nat)
  /-- R246 PP_CLASS_ACCEPTED: A proximity class is accepted after 20 ms; a loss while energised opens the contactors. -/
  | ppClassAccepted (outlet : Outlet) (mv : Nat)
  /-- R249 LOCK_TIMEOUT: The lock does not read locked within PULSE + 100 ms, so LOCK_FAULT is set and the lock is retried. -/
  | lockTimeout (outlet : Outlet)
  /-- R249 LOCK_RETRY: A lock pulse is retried 1 s after a lock failure. -/
  | lockRetry (outlet : Outlet)
  /-- R249 LOCK_FEEDBACK_CHANGE: The lock feedback changes; reading unlocked while energised is treated as under R248. -/
  | lockFeedbackChange (outlet : Outlet) (high : Bool)
  /-- R251 CM_SLAC_PARM: CM_SLAC_PARM is received in PLUGGED and the outlet moves to LINKING. -/
  | cmSlacParm (outlet : Outlet) (runId : Nat)
  /-- R251 CM_START_ATTEN_CHAR: CM_START_ATTEN_CHAR is received during matching. -/
  | cmStartAttenChar (outlet : Outlet) (runId : Nat)
  /-- R251 CM_MNBC_SOUND: A sounding message and its attenuation profile are received. -/
  | cmMnbcSound (outlet : Outlet) (runId atten : Nat)
  /-- R252 CM_ATTEN_CHAR: The attenuation result is exchanged, and answered only on the outlet with clearly lower attenuation. -/
  | cmAttenChar (outlet : Outlet) (runId : Nat)
  /-- R252 CM_SLAC_MATCH: CM_SLAC_MATCH is received in LINKING, or ignored otherwise, and a fresh membership key is provided. -/
  | cmSlacMatch (outlet : Outlet) (runId : Nat)
  /-- R251 CM_SET_KEY: CM_SET_KEY sets the network membership key of the match. -/
  | cmSetKey (outlet : Outlet) (runId : Nat)
  /-- R251 CM_VALIDATE: CM_VALIDATE is handled when VALIDATE is 1. -/
  | cmValidate (outlet : Outlet) (runId : Nat)
  /-- R253 SLAC_TIMEOUT: Matching fails or times out, so the steady +12 V hold begins or the third failure ends in FAULTED or basic charging. -/
  | slacTimeout (outlet : Outlet)
  /-- R253 SLAC_RETRY_TIMER: After 4 s of steady +12 V the 5 % duty is offered again. -/
  | slacRetryTimer (outlet : Outlet)
  /-- R257 GP_LINK_UP: The Green PHY link comes up and the outlet moves to NEGOTIATING. -/
  | gpLinkUp (outlet : Outlet)
  /-- R255 SESSION_SETUP_REQ: A vehicle SessionSetupReq is handled, resuming a LIVE session when it carries its SESSION_ID. -/
  | sessionSetupReq (outlet : Outlet) (proto : Hlc) (tls : Nat) (sessionId : BitVec 128)
  /-- R255 SESSION_RESUME_TIMEOUT: A LIVE session whose vehicle has not reconnected within 60 s of OUT rising is stopped. -/
  | sessionResumeTimeout (outlet : Outlet) (angle : Nat)
  /-- R257 CABLE_CHECK_REQ: CableCheckReq in AUTHORISED with state C starts an unaimed DC close. -/
  | cableCheckReq (outlet : Outlet)
  /-- R257 PRE_CHARGE_REQ: PreChargeReq after a valid insulation result moves the outlet to PRECHARGE. -/
  | preChargeReq (outlet : Outlet) (mv ma : Nat)
  /-- R257 POWER_DELIVERY_REQ: A PowerDelivery start, stop or pause is handled by the outlet session. -/
  | powerDeliveryReq (outlet : Outlet) (req : PowerReq) (angle : Nat)
  /-- R254 CURRENT_DEMAND_REQ: A CurrentDemand request sets the DC current target during ENERGISED. -/
  | currentDemandReq (outlet : Outlet) (mv : Nat) (ma : Int)
  /-- R257 WELDING_DETECTION_REQ: WeldingDetection is answered in FINISHING before unlock. -/
  | weldingDetectionReq (outlet : Outlet)
  /-- R257 SESSION_STOP_REQ: A vehicle SessionStop stops the session. -/
  | sessionStopReq (outlet : Outlet) (angle : Nat)
  /-- R254 METERING_RECEIPT_REQ: MeteringReceipt is answered with MeterInfo from context slot 24. -/
  | meteringReceiptReq (outlet : Outlet)
  /-- R254 CERTIFICATE_INSTALLATION_REQ: CertificateInstallation or CertificateUpdate for Plug & Charge is handled. -/
  | certificateInstallationReq (outlet : Outlet) (update : Bool) (cert : List Byte)
  /-- R264 AUTH_BACKEND_RESPONSE: The backend's authorisation answer arrives and decides the outcome, with a CACHE entry on acceptance. -/
  | authBackendResponse (outlet : Outlet) (accepted : Bool) (group expiry : Nat)
  /-- R264 AUTH_BACKEND_TIMEOUT: No backend answer within ONLINE_TO, so the offline rule decides. -/
  | authBackendTimeout (outlet : Outlet)
  /-- R257 AUTH_EXPIRY: The authorisation expires, which is a stop of the session. -/
  | authExpiry (outlet : Outlet) (angle : Nat)
  /-- R266 NFC_CARD_READ: A card read is bound to a waiting outlet, held, or treated as a stop request. -/
  | nfcCardRead (uid : List Byte) (ptable : Nat) (selected : Option Outlet) (angle : Nat)
  /-- R266 NFC_CARD_HOLD_EXPIRY: A card held for 60 s without a waiting outlet is dropped. -/
  | nfcCardHoldExpiry
  /-- R256 OCPP_REMOTE_START: An OCPP remote start carries its own authorisation and starts a session. -/
  | ocppRemoteStart (outlet : Outlet) (ptable : Nat) (ident : List Byte)
  /-- R256 OCPP_REMOTE_STOP: An OCPP remote stop stops a session. -/
  | ocppRemoteStop (sessionId : BitVec 128) (angle : Nat)
  /-- R256 OCPP_UNLOCK_CONNECTOR: An OCPP unlock connector request is performed, or refused while energised. -/
  | ocppUnlockConnector (outlet : Outlet)
  /-- R256 OCPP_CHANGE_AVAILABILITY: An OCPP change availability request; Inoperative disables the outlet under R70. -/
  | ocppChangeAvailability (outlet : Outlet) (operative : Bool)
  /-- R256 OCPP_RESET: An OCPP reset request is performed, or refused while an outlet is energised. -/
  | ocppReset
  /-- R256 OCPP_TRIGGER_MESSAGE: An OCPP trigger message request is answered. -/
  | ocppTriggerMessage (kind : Nat)
  /-- R256 OCPP_RESERVATION: An OCPP reservation is made for one outlet. -/
  | ocppReservation (outlet : Outlet) (ident : Option (List Byte))
  /-- R256 OCPP_CHARGING_PROFILE: An OCPP charging profile is set, bounding ILIM within the site grant. -/
  | ocppChargingProfile (outlet : Outlet) (id stack : Nat) (limit : Option Nat)
  /-- R256 OCPP_LOCAL_LIST: An OCPP local authorisation list, full or differential, is written. -/
  | ocppLocalList (diff : Bool) (version : Nat) (entries : List AuthEntry)
  /-- R256 OCPP_FIRMWARE_UPDATE: OCPP firmware management is carried out as a manifest update. -/
  | ocppFirmwareUpdate
  /-- R256 OCPP_DATA_TRANSFER: DataTransfer is answered UnknownVendorId unless the vendor is Walduca. -/
  | ocppDataTransfer (walduca : Bool)
  /-- R259 CAN_STATUS: A converter STATUS frame is received and keeps the module present. -/
  | canStatus (bus : Fin 2) (addr state fault mv : Nat) (ma temp : Int) (avail : Nat)
  /-- R259 CAN_IDENT: A converter IDENT frame is received and makes the module present. -/
  | canIdent (bus : Fin 2) (addr serial ratedV ratedI ratedP : Nat) (reverse : Bool) (version : Nat)
  /-- R260 CONV_LOST: 50 ms pass without STATUS from a module, which sets CONV_LOST and lowers ILIM. -/
  | convLost (bus : Fin 2) (addr : Nat)
  /-- R260 CAN_BUS_OFF: A CAN bus enters bus-off and every module on it counts as lost. -/
  | canBusOff (bus : Fin 2) (tec rec' : Nat)
  /-- R259 SETPOINT_TICK: Every 10 ms a SETPOINT frame is sent while the outlet is CHECKING to OPENING. -/
  | setpointTick (outlet : Outlet)
  /-- R259 IDENT_REQ_TICK: IDENT_REQ is broadcast at OUT rising and every 10 s. -/
  | identReqTick
  /-- R262 FB_CHANGE: Contactor feedback FBn changes, an operate time is measured and the session advances. -/
  | fbChange (outlet : Outlet) (closed : Bool) (us angle since : Nat)
  /-- R257 CLOSE_TIMEOUT: FBn is not closed 150 ms after the coil command, so the outlet goes to FAULTED. -/
  | closeTimeout (outlet : Outlet)
  /-- R257 CHECK_TIMEOUT: No valid insulation result within 20 s in CHECKING, so the outlet goes to FAULTED. -/
  | checkTimeout (outlet : Outlet)
  /-- R257 PRECHARGE_TIMEOUT: The output is not within 20 V after 7 s in PRECHARGE, so the outlet goes to FAULTED. -/
  | prechargeTimeout (outlet : Outlet)
  /-- R257 OPENING_TIMEOUT: One second after a DC ramp began, the coil is released. -/
  | openingTimeout (outlet : Outlet)
  /-- R262 RELEARN: RELEARN written to OUT_CTRL clears the learned operate times. -/
  | relearn (outlet : Outlet)
  /-- R270 COIL_PULLIN_END: T_PULL elapses, the coil passes to hold current and a pending profile change lands. -/
  | coilPullinEnd (outlet : Outlet)
  /-- R284 IMD_RESULT: The insulation injector delivers a result each second, which may trip SF5 or set IMD_WARN. -/
  | imdResult (outlet : Outlet) (kohm plus minus : Nat)
  /-- R275 NIB_CHALLENGE: Every 1 ms Nib sends a heartbeat challenge over the safety link. -/
  | nibChallenge (value : BitVec 16)
  /-- R275 NIB_ANSWER: The processor's answer reaches Nib and is judged good or bad, with its permissions and forecasts taken. -/
  | nibAnswer (us : Nat) (correct : Bool) (angle : Nat)
  /-- R275 NIB_ANSWER_TIMEOUT: An answer window closes with no valid answer, counted bad, possibly declaring the processor channel lost. -/
  | nibAnswerTimeout
  /-- R276 NIB_LOST: The processor declares the Nib channel lost, opens every energised outlet and raises Safe-stop. -/
  | nibLost (since : Nat)
  /-- R272 LOCKSTEP_MISMATCH: The safety processor cores disagree, both halt and a Class S source is raised. -/
  | lockstepMismatch
  /-- R278 RESIDUAL_CURRENT_TRIP: A residual-current threshold trips SF1 on an outlet. -/
  | residualCurrentTrip (outlet : Outlet) (channel : Channel) (dc : Int) (ac : Nat)
  /-- R279 PE_LOSS_TRIP: The PE loop exceeds its limit and trips SF2. -/
  | peLossTrip (outlet : Outlet) (channel : Channel) (mohm : Nat)
  /-- R280 PILOT_TRIP: The pilot goes to A, an error, or Nib's fault band, tripping SF3. -/
  | pilotTrip (outlet : Outlet) (channel : Channel) (vpos vneg : Int)
  /-- R280 NIB_B_BAND_WITHDRAW: The pilot has been in Nib's B band for 120 ms, so Nib withdraws the line. -/
  | nibBBandWithdraw (outlet : Outlet) (vpos vneg : Int)
  /-- R281 CONTACTOR_MISMATCH: FBn reads open while the coil is held, so the coil is released. -/
  | contactorMismatch (outlet : Outlet) (channel : Channel)
  /-- R281 FAIL_TO_CLOSE: FBn is not closed after the coil command within the channel's time, so the coil is released. -/
  | failToClose (outlet : Outlet) (channel : Channel)
  /-- R281 WELD_DETECTED: FBn is still closed 100 ms after release; a weld is latched and the outlet retired. -/
  | weldDetected (outlet : Outlet) (channel : Channel)
  /-- R282 POLE_TEST_DONE: The DC pole test at WELD_CHECK completes and may declare a weld. -/
  | poleTestDone (outlet : Outlet) (plus minus : Nat)
  /-- R283 SHUNT_TRIP_DIRECT: SHTR does not read 1 within 5 ms, so the processor drives SHUNT_TRIP over the power link. -/
  | shuntTripDirect
  /-- R283 SHUNT_TRIP_END: The 500 ms shunt-trip pulse ends. -/
  | shuntTripEnd
  /-- R285 TEMP_READING: Die temperatures are read every 100 ms, and 3 readings at the limit trip SF6 on every outlet. -/
  | tempReading (pwd sup : BitVec 8)
  /-- R285 TEMP_SWITCH_TRIP: An outlet's temperature switch signals hot for 100 ms and trips that outlet. -/
  | tempSwitchTrip (outlet : Outlet) (high : Bool)
  /-- R287 SEAL_SWITCH_CHANGE: A seal switch change or invalid level lasts 20 ms while energised, which is SF7. -/
  | sealSwitchChange (levels : List Nat)
  /-- R287 SEAL_SETTING_ADOPT: Nib adopts a new seal setting once stable for 1 s with no outlet energised. -/
  | sealSettingAdopt
  /-- R288 PRECLOSE_TEST: The pre-close test of both channels runs on entering AUTHORISED or a late CLOSING. -/
  | precloseTest (outlet : Outlet) (run : PrecloseRun) (angle : Nat)
  /-- R289 TRIP_LATCH_CLEAR: A trip latch clears once its clearing condition has held. -/
  | tripLatchClear (outlet : Outlet) (cause : Sf)
  /-- R294 DEGRADED_WINDOW_END: At the end of the degraded window Nib withdraws remaining lines, aimed where a forecast is valid. -/
  | degradedWindowEnd
  /-- R294 NIB_AIMED_WITHDRAW: Nib withdraws a line at a forecast booking instant. -/
  | nibAimedWithdraw (outlet : Outlet)
  /-- R297 OUTLET_ADOPT: The processor adopts an outlet still in its degraded window once all the conditions hold. -/
  | outletAdopt (outlet : Outlet) (clean : Nat)
  /-- R308 LSW_ON: ON written to LSW_CMD makes a steady or timed on-demand. -/
  | lswOn (channel : Lsw) (dur : BitVec 8) (m : LswMeas)
  /-- R308 LSW_OFF: OFF written to LSW_CMD makes an off-demand. -/
  | lswOff (channel : Lsw) (m : LswMeas)
  /-- R308 LSW_DUR_EXPIRY: A timed demand's duration ends and the power die makes the off-demand. -/
  | lswDurExpiry (channel : Lsw)
  /-- R307 LSW_IN_EDGE: A filtered LSW_IN edge changes a pin-sourced channel's demand. -/
  | lswInEdge (channel : Lsw) (level : Bool) (recent : Bool) (m : LswMeas)
  /-- R309 LSW_RAMP_DONE: The output reaches the rail and the turn-on window starts. -/
  | lswRampDone (channel : Lsw) (m : LswMeas)
  /-- R309 LSW_WINDOW_END: The turn-on window ends; the channel goes ON, or the turn-on fails and trips. -/
  | lswWindowEnd (channel : Lsw) (m : LswMeas)
  /-- R310 LSW_RAIL_SAG: The group rail falls below 80 % of the reference and the ramp pauses. -/
  | lswRailSag (channel : Lsw) (m : LswMeas)
  /-- R310 LSW_RAMP_RESUME: The rail stands at or above 85 % for 1 ms and the ramp resumes. -/
  | lswRampResume (channel : Lsw) (ms : Nat) (m : LswMeas)
  /-- R310 LSW_PAUSE_TIMEOUT: Pauses in one turn-on exceed 200 ms, so the turn-on fails. -/
  | lswPauseTimeout (channel : Lsw) (ms : Nat)
  /-- R311 LSW_THERMAL_SHUTDOWN: The channel junction reaches 175 °C; a trip sends it to COOL or LATCHED. -/
  | lswThermalShutdown (channel : Lsw) (m : LswMeas)
  /-- R311 LSW_RETRY: A cooled channel with demand still on retries with a slewed turn-on. -/
  | lswRetry (channel : Lsw) (m : LswMeas)
  /-- R311 LSW_TRIPS_RESET: One second continuously in ON returns TRIPS to 0 and ends the episode. -/
  | lswTripsReset (channel : Lsw)
  /-- R310 LSW_OVERCURRENT: The channel operates at its current limit for over 1 ms outside a turn-on, setting OVERCURRENT. -/
  | lswOvercurrent (channel : Lsw) (m : LswMeas)
  /-- R304 LSW_SHED: The group current exceeds 1.25 times its budget for 20 ms and one channel is shed. -/
  | lswShed (groupB : Bool) (current : Nat)
  /-- R305 LSW_GROUP_UV: A group rail falls below 7.0 V and every channel of the group switches off. -/
  | lswGroupUv (groupB : Bool) (rail : Nat)
  /-- R305 LSW_GROUP_UV_RECOVER: The group rail has stood at or above 8.0 V for 10 ms, so channels with demand on turn on. -/
  | lswGroupUvRecover (groupB : Bool) (rail current : Nat)
  /-- R314 LSW_TEST_PULSE: A dark test pulse starts at its instant, or is skipped when the channel is not ON. -/
  | lswTestPulse (channel : Lsw)
  /-- R316 LSW_TEST_PULSE_END: The test pulse ends; it is evaluated and the output is restored or left off. -/
  | lswTestPulseEnd (channel : Lsw) (fellUs maxMa : Nat) (m : LswMeas)
  /-- R315 LSW_OFF_CHECK_FAIL: Current stays above 1 % of rated 1 ms after an off-demand and a fault episode is reported. -/
  | lswOffCheckFail (channel : Lsw) (m : LswMeas)
  /-- R320 LSW_OPEN_LOAD: An open-load or short-to-rail condition is detected or cleared after its time. -/
  | lswOpenLoad (channel : Lsw) (sourceOn sourceOff : Nat) (m : LswMeas)
  /-- R319 LSW_DISABLE_WRITE: A write to LSW_DISABLE disables or re-enables channels. -/
  | lswDisableWrite (value : BitVec 12)
  /-- R324 DSP_PUB_GO: GO written to DSP_PUB_CTRL publishes a pending frame buffer with its CRC, or is refused. -/
  | dspPubGo
  /-- R324 DSP_FRAME_START: A frame start flips a pending buffer and applies new shadowed display settings. -/
  | dspFrameStart
  /-- R330 DSP_FRAME_END: At frame end the fetched CRC is compared and fallback entered or left. -/
  | dspFrameEnd (dur : Nat) (dramError : Bool)
  /-- R327 FRAME_FREE: No locked frame start arrives within 25 ms, so the frame starts unaided. -/
  | frameFree
  /-- R333 AGE_RECOMPUTE: Every 60 s the ageing target and tile gains are recomputed. -/
  | ageRecompute
  /-- R332 AGE_SAVE: Every 60 s the stress counters and baselines are saved to CONFIG. -/
  | ageSave
  /-- R334 AGE_SENSE: Every DIV-th frame the sense command is sent for one tile and colour. -/
  | ageSense
  /-- R334 AGE_SENSE_READ: SETTLE µs after the command, PSENSE is averaged and e is computed or discarded. -/
  | ageSenseRead (sum : Nat)
  /-- R334 AGE_BASELINE: BASELINE written to DSP_AGE_CTRL runs a baseline sensing scan. -/
  | ageBaseline
  /-- R336 PANEL_POWER_ON: The emissive panel power-on sequence begins. -/
  | panelPowerOn
  /-- R336 PANEL_POWER_ON_STEP: A timed step of the power-on sequence elapses and the next step follows. -/
  | panelPowerOnStep
  /-- R337 PANEL_POWER_OFF: The emissive panel power-off sequence begins at the next vertical blanking. -/
  | panelPowerOff
  /-- R337 PANEL_POWER_OFF_STEP: A timed step of the power-off sequence elapses and the next step follows. -/
  | panelPowerOffStep
  /-- R341 BP_UPDATE_START: A legal content rebuild starts a bistable panel update, or waits behind one. -/
  | bpUpdateStart (temp : Int) (panelFault : Bool)
  /-- R341 BP_BUSY_FALL: BP_BUSY falls; the image is read back and its CRC returned to the legal core. -/
  | bpBusyFall (image : List Bool) (panelFault : Bool)
  /-- R345 BP_FAULT_RETRY: One second after a panel fault the engine retries from step 1. -/
  | bpFaultRetry (temp : Int) (panelFault : Bool)
  /-- R349 PERST: PCIE_PERST_N low resets the HST block and increments EPOCH. -/
  | perst (asserted : Bool)
  /-- R369 PCIE_LINK_DOWN: The PCIe link goes down and LINK_DOWN is set. -/
  | pcieLinkDown
  /-- R348 WLOCK_SET: WLOCK written to HST_CTRL locks BAR2 writes outside the HST frame. -/
  | wlockSet
  /-- R348 LOCKED_WRITE: A BAR2 write under WLOCK is discarded and sets LOCKED_WRITE. -/
  | lockedWrite (addr : Nat) (value : Word)
  /-- R351 RING_ENABLE: EN written as 1 to HST_RING_CFG starts a ring pair, or puts it in ERROR with base 0. -/
  | ringEnable (ring : Ring) (value : Word)
  /-- R358 RING_DISABLE: EN written as 0 drains a ring pair to OFF. -/
  | ringDisable (ring : Ring) (value : Word)
  /-- R351 SQ_DOORBELL: An SQ tail doorbell write hands over descriptors, or puts the ring in ERROR. -/
  | sqDoorbell (ring : Ring) (tail : BitVec 12)
  /-- R351 CQ_DOORBELL: A CQ head doorbell write frees completion slots, or puts the ring in ERROR. -/
  | cqDoorbell (ring : Ring) (head : BitVec 12)
  /-- R353 DESCRIPTOR_FETCH: The device fetches descriptors once CQ room and in-flight limits permit. -/
  | descriptorFetch (ring : Ring) (fetched : Fetched)
  /-- R356 COAL_TIMER: The coalescing TIME elapses and an MSI-X message is sent for the ring pair. -/
  | coalTimer (ring : Ring)
  /-- R458 MSIX_TABLE_WRITE: A write to the MSI-X table unmasks a vector and sends its pending message. -/
  | msixTableWrite (w : MsixWrite)
  /-- R362 NOP: NOP completes at once with OK. -/
  | nop (req : Requester)
  /-- R362 MARKER: MARKER books a class 8 event and completes when it fires. -/
  | marker (req : Requester) (cycle angle : Nat)
  /-- R362 MARKER_CANCEL: MARKER_CANCEL cancels a MARKER on the same ring pair. -/
  | markerCancel (req : Requester) (target : Word)
  /-- R362 TIME_SET: TIME_SET offers host time as a wall-clock offset. -/
  | timeSet (req : Requester) (utc : Nat)
  /-- R362 MODE_REQ: The MODE_REQ descriptor requests a mode change, with PREP_OFF if set. -/
  | modeReq (req : Requester) (target : Nat) (prepOff : Bool)
  /-- R362 SHADOW_WRITE: SHADOW_WRITE writes up to 512 shadowed registers, all or none. -/
  | shadowWrite (req : Requester) (pairs : Option (List (Word × Word)))
  /-- R362 CG_ARM: The CG_ARM descriptor arms the commit group and completes when the group ends. -/
  | cgArm (req : Requester) (members : BitVec 8) (maxDefer : BitVec 4) (target : Nat)
  /-- R362 CG_CANCEL: The CG_CANCEL descriptor cancels the commit group. -/
  | cgCancel (req : Requester)
  /-- R362 NS_SEQ: The NS_SEQ descriptor submits a non-shadowable sequence. -/
  | nsSeq (req : Requester) (wait : Bool) (pairs : Option (List (Word × Word)))
  /-- R362 ACC_READ: ACC_READ writes a latched set of 64 slots to the host buffer. -/
  | accRead (req : Requester) (kind index : Nat) (xfer : Bool)
  /-- R362 CAL_LOAD: CAL_LOAD loads and arms a passive calendar image. -/
  | calLoad (req : Requester) (instant : Nat) (words : Option (List Word))
  /-- R362 CAL_CTRL: CAL_CTRL disarms or clears the passive calendar. -/
  | calCtrl (req : Requester) (command : Nat)
  /-- R362 PRICE_PUBLISH: The PRICE_PUBLISH descriptor publishes a price table. -/
  | pricePublish (req : Requester) (table : Nat) (words : Option (List Word))
  /-- R362 MD_RESET: The MD_RESET descriptor requests a maximum-demand reset, idempotent on c_req. -/
  | mdReset (req : Requester) (creq : Nat)
  /-- R362 LEG_EXPORT: LEG_EXPORT writes signed meter records from a given SEQ to the host buffer. -/
  | legExport (req : Requester) (first length : Nat) (xfer : Bool)
  /-- R224 LEG_ACK: LEG_ACK acknowledges legal log entries up to a SEQ, freeing their slots. -/
  | legAck (req : Requester) (seq : Nat)
  /-- R364 SESSION_START: SESSION_START starts a billed session on an outlet, matched by tag. -/
  | sessionStart (req : Requester) (outlet : Outlet) (ptable : Nat) (auth : Bool) (kind : Nat) (ident : List Byte)
  /-- R364 SESSION_STOP: SESSION_STOP stops a session by SESSION_ID and completes once its body is logged. -/
  | sessionStop (req : Requester) (sessionId : BitVec 128)
  /-- R362 AUTH_LIST: AUTH_LIST writes a full or differential authorisation list to MRAM. -/
  | authList (req : Requester) (mode version : Nat) (buffer : Option (List Byte))
  /-- R362 LSW_CMD: The LSW_CMD descriptor commands a load-switch channel. -/
  | lswCmd (req : Requester) (channel : Lsw) (on off : Bool) (dur : Nat)
  /-- R362 DSP_WRITE: DSP_WRITE writes host data into the host frame-buffer area of DRAM. -/
  | dspWrite (req : Requester) (offset : Nat) (data : Option (List Byte))
  /-- R362 DSP_PUBLISH: DSP_PUBLISH publishes a frame buffer and completes at its flip. -/
  | dspPublish (req : Requester) (offset : Nat) (crc : Word)
  /-- R417 ATTEST: ATTEST returns a signed attestation record over a nonce. -/
  | attest (req : Requester) (nonce : BitVec 256) (xfer : Bool)
  /-- R439 UPD_OPEN: UPD_OPEN opens an update session with a manifest checked under R437. -/
  | updOpen (req : Requester) (src : UpdSource) (buffer : Option (List Byte)) (sigOk : Bool)
  /-- R441 UPD_CHUNK: UPD_CHUNK writes and reads back one payload chunk, then sets its bitmap bit. -/
  | updChunk (req : Requester) (src : UpdSource) (chunk : Nat) (data : Option (List Byte)) (readback : Bool)
  /-- R442 UPD_VERIFY: UPD_VERIFY starts digest verification of every named image. -/
  | updVerify (req : Requester) (src : UpdSource)
  /-- R442 UPD_VERIFY_DONE: Verification completes and the session becomes VERIFIED or returns to DOWNLOADING. -/
  | updVerifyDone
  /-- R443 UPD_ACTIVATE: UPD_ACTIVATE is accepted and Activation-pause is entered at the next angle 0, or it is refused. -/
  | updActivate (req : Requester) (src : UpdSource)
  /-- R444 ACTIVATION_PLACED: Every part is placed, the journal reads PLACED and the session is PENDING. -/
  | activationPlaced
  /-- R446 PRIV_QUIESCE: A privileged activation stops waiting for quiescence and performs the warm reset with cause UPDATE. -/
  | privQuiesce
  /-- R448 UPD_CONFIRM: UPD_CONFIRM confirms the new set and advances the rollback counters. -/
  | updConfirm (req : Requester) (src : UpdSource)
  /-- R439 UPD_ABORT: UPD_ABORT ends the session, or rolls it back in PENDING. -/
  | updAbort (req : Requester) (src : UpdSource)
  /-- R455 UPD_QUERY: UPD_QUERY returns the state of the update session to any source. -/
  | updQuery (req : Requester)
  /-- R439 UPD_IDLE_TIMEOUT: No UPD_ opcode from the owner for IDLE_H hours, so the session is cleared. -/
  | updIdleTimeout
  /-- R449 CONFIRM_TIMEOUT: 1,800 s of powered time in PENDING pass, so the update rolls back. -/
  | confirmTimeout (since : Nat)
  /-- R449 CONFIRM_TIMER_SAVE: The confirmation time count is saved to the session record every 10 s. -/
  | confirmTimerSave
  /-- R449 ROLLBACK_RESTART: With RESTART_DUE set and no outlet energised, the supervisor performs the warm reset with cause UPDATE. -/
  | rollbackRestart
  /-- R376 HELLO: A HELLO frame from a neighbour is received and answered. -/
  | hello (h : FeltHdr) (unit : BitVec 128) (addr : Nat) (tentative : Bool) (nport rate rated flags : Nat)
  /-- R376 HELLO_TICK: HELLO is sent on a port every 10 ms until answered, then every 100 ms. -/
  | helloTick (port : FPort)
  /-- R377 CLAIM: A CLAIM frame is received and an address conflict may be resolved. -/
  | claim (h : FeltHdr) (unit : BitVec 128) (addr : Nat)
  /-- R377 ADDR_CLAIM_VALID: The claimed address becomes valid after 50 ms without conflict. -/
  | addrClaimValid
  /-- R376 LSA: An LSA frame updates the link-state database and routes are recomputed. -/
  | lsa (h : FeltHdr) (unit : BitVec 128) (lsaSeq rated flags : Nat) (links : List FLink)
  /-- R376 LSA_REFRESH: The module floods its own LSA every 1 s. -/
  | lsaRefresh
  /-- R379 LSA_AGE_OUT: An LSA not refreshed for 3.5 s ages out and its module becomes unreachable. -/
  | lsaAgeOut (addr : Nat)
  /-- R383 SYNC: A SYNC frame gives link delay, time and beacon data. -/
  | sync (h : FeltHdr) (sync : SyncBody) (rxTime : Nat)
  /-- R376 SYNC_TICK: SYNC is sent on each link every 125 ms. -/
  | syncTick (port : FPort)
  /-- R387 DEMAND: A DEMAND frame for the current round is received and kept for allocation. -/
  | demand (h : FeltHdr) (demand : Demand)
  /-- R385 ALLOC_COLLECTION_CLOSE: At site angle 16,384 collection closes, digests are checked and the result is computed. -/
  | allocCollectionClose
  /-- R376 GRANT: A GRANT frame from the Milliner gives the grants of a round. -/
  | grant (h : FeltHdr) (round : Nat) (digest : BitVec 128) (milliner segment segments : Nat) (items : List GrantItem)
  /-- R389 GRANT_TIMEOUT: 10 s without a result or GRANT, so the module's total is capped at its proportional share. -/
  | grantTimeout
  /-- R393 PARTITION_HOLD_END: A partition's first 10 s end, so reservations pass to proportional shares. -/
  | partitionHoldEnd
  /-- R394 RESUME: A RESUME frame names the round at which deterministic mode resumes. -/
  | resume (h : FeltHdr) (round milliner : Nat)
  /-- R395 REPLICA_OPEN: A REPLICA_OPEN frame asks this module to hold a session replica. -/
  | replicaOpen (h : FeltHdr) (body : ReplicaOpen)
  /-- R396 REPLICA_UPDATE: A REPLICA_UPDATE frame is written into the replica context and acknowledged. -/
  | replicaUpdate (h : FeltHdr) (body : ReplicaUpdate)
  /-- R396 REPLICA_ACK: A REPLICA_ACK frame from a holder is received by the origin. -/
  | replicaAck (h : FeltHdr) (sessionId : BitVec 128) (cycle result : Nat)
  /-- R396 REPLICA_CLOSE: A REPLICA_CLOSE frame frees a replica or reports a holder's eviction. -/
  | replicaClose (h : FeltHdr) (sessionId : BitVec 128) (reason seq : Nat)
  /-- R396 REPLICA_HOLDER_LOST: A holder has not acknowledged for 1 s, so REPL_LOST is set and the replica placed again. -/
  | replicaHolderLost (sessionId : BitVec 128) (holder : Nat)
  /-- R395 REPLICA_PLACE_RETRY: Every 1 s the origin tries to place a missing replica. -/
  | replicaPlaceRetry (outlet : Outlet)
  /-- R396 REPLICA_CLOSE_RETRY: The origin repeats REPLICA_CLOSE every 1 s until the holder is told. -/
  | replicaCloseRetry (sessionId : BitVec 128) (holder : Nat)
  /-- R397 REPLICA_ADOPT: The origin has been unreachable for ADOPT seconds, so the holder settles the replica and floods SETTLED. -/
  | replicaAdopt (ctx : Ctx) (primaryAlso : Bool)
  /-- R397 SETTLED: A SETTLED frame frees a held replica or sets DUP_SETTLE at the origin. -/
  | settled (h : FeltHdr) (sessionId : BitVec 128) (origin settler : Nat) (adopted : Bool) (seq : Nat)
  /-- R379 LEAVE: A LEAVE frame removes its module from the membership. -/
  | leave (h : FeltHdr) (unit : BitVec 128) (reason : Nat)
  /-- R372 WAKE: A WAKE frame on a standby-rate link wakes the module. -/
  | wake (port : FPort)
  /-- R379 FORGET: A FORGET frame removes the named module from the membership. -/
  | forget (h : FeltHdr) (addr : Nat) (unit : BitVec 128)
  /-- R372 RATE: A RATE frame changes the link's rate at both ends within 1 ms. -/
  | rate (port : FPort) (standby : Bool)
  /-- R372 PORT_LOCK: A Felt port reaches lock and its link comes up. -/
  | portLock (port : FPort) (full : Bool)
  /-- R372 PORT_TRAIN_TIMEOUT: A port without lock after 20 ms switches to the other rate. -/
  | portTrainTimeout (port : FPort)
  /-- R373 PORT_LOCK_LOSS: A port loses lock, which is a port fault unless it is explained. -/
  | portLockLoss (port : FPort) (neighbourPower : Bool)
  /-- R400 PORT_ERR_READ: A read of FAB_PORT_ERR returns and clears the port error counts. -/
  | portErrRead (port : FPort)
  /-- R379 FAB_CTRL_FORGET: FORGET written to FAB_CTRL floods a FORGET for the given address. -/
  | fabCtrlForget (addr : BitVec 10) (retry : Bool)
  /-- R394 FAB_CTRL_RETRY: RETRY written to FAB_CTRL at the Milliner lifts the 10 min hold once. -/
  | fabCtrlRetry
  /-- R402 DERIVE_REQUEST: A key derivation is served into the working key register, loaded by the engine and zeroed. -/
  | deriveRequest (cls : DeriveClass) (isSealed : Bool) (accesses : Nat)
  /-- R405 REMASK: After 2^16 accesses a cell and its mask are re-randomised. -/
  | remask
  /-- R406 ENTROPY_OUTPUT: The entropy source delivers 256 bits, or a health test fails and ENT_FAIL is set. -/
  | entropyOutput (rctOk aptOk : Bool) (starting : Bool)
  /-- R420 XMSS_SIGN: A signature request reserves an index durably and signs with the device key. -/
  | xmssSign (readback : Bool)
  /-- R418 XMSS_VERIFY: The verify pipeline checks an XMSS-SHAKE_20_256 signature. -/
  | xmssVerify (ok : Bool) (who : VerifyFor)
  /-- R414 KEYGEN: The KEYGEN instruction generates the device key in Factory, or is refused. -/
  | keygen
  /-- R414 KEYGEN_DONE: Key generation completes, and the key record and initial state are written. -/
  | keygenDone
  /-- R429 DBG_CHAL: DBG_CHAL shifts out UNIT and a nonce. -/
  | dbgChal
  /-- R430 DBG_RESP: DBG_RESP shifts in a signed debug response, which opens the scope or counts a failure. -/
  | dbgResp (response : List Byte) (sigOk : Bool)
  /-- R423 TLS_HANDSHAKE_MESSAGE: The trust region processes a TLS handshake message passed by the service firmware. -/
  | tlsHandshakeMessage (session peer : Nat) (ev : TlsEvent)
  /-- R424 CSR_SIGN: The ECC engine signs a certificate signing request with the station or SECC key. -/
  | csrSign (req : Requester) (peer : Nat) (newGeneration : Bool) (request : List Byte)
  /-- R425 SITE_KEY_DELIVERY: A wrapped site fabric key is decapsulated, unwrapped and stored in CONFIG. -/
  | siteKeyDelivery (keyId : Word) (activation : Nat) (key : BitVec 256) (authentic : Bool)
  /-- R425 SITE_KEY_ACTIVATE: A site key's activation instant passes and it becomes the sending key. -/
  | siteKeyActivate (keyId : Word) (since : Nat)
  /-- R457 FAULT_REPORT: An owner reports a fault; the source state updates and its reaction is performed. -/
  | faultReport (reports : List Report)
  /-- R459 FAULT_CLEARED: An owner reports the fault condition cleared and the quiet timer starts. -/
  | faultCleared (source : Nat)
  /-- R459 QUIET_TIMER_EXPIRY: The quiet timer elapses, the source returns to OK and its recovery counter increments. -/
  | quietTimerExpiry (source : Nat)
  /-- R15 ESCALATION_CHECK: 1 ms after a collector reset the fault still reports present, so containment escalates a level. -/
  | escalationCheck (source : Nat)
  /-- R465 CLEAR_RETIRE: CLEAR_RETIRE written to FLT_CMD clears a retirement or permanent state, or is refused. -/
  | clearRetire (source : Nat)
  /-- R465 CLEAR_RECOV: CLEAR_RECOV written to FLT_CMD sets a source's recovery counter to 0. -/
  | clearRecov (source : Nat)
  /-- R467 FAULT_FORCE_WRITE: A write to FLT_FORCE forces or clears reports of sources, or is refused for Class S. -/
  | faultForceWrite (w : Fin 16) (value : Word)
  /-- R472 BLOTTER_WRITE: A queued Blotter record is written, merged, overwrites another or is dropped. -/
  | blotterWrite
  /-- R476 BLT_LATCH: LATCH written to BLT_WIN_CTRL fills the window from the cursor and filter. -/
  | bltLatch
  /-- R476 BLT_NEXT: NEXT written to BLT_WIN_CTRL advances the cursor and latches. -/
  | bltNext
  /-- R476 BLT_LATCH_DONE: A Blotter window latch completes and BUSY clears. -/
  | bltLatchDone
  /-- R53 AON_POWER_ON: The AON supply VAON powers on, setting AON_POR, resetting the RTC and wall-clock validity, and restarting the AON monotonic seconds counter. -/
  | aonPowerOn
  /-- R15 BLOCK_RESET_COMPLETE: A block or region reset that the fault collector performed completes, so the block resumes and the 1 ms persistence check starts. -/
  | blockResetComplete (block : Block)
  /-- R304 LSW_GROUP_WITHIN_BUDGET: The group current falls to or below its budget, so a channel waiting with GRP_WAIT starts its turn-on. -/
  | lswGroupWithinBudget (groupB : Bool) (current : Nat)
  /-- R373 FELT_FRAME_REJECTED: A Felt frame arrives that fails its HCRC, FCS or tag, or has an unknown TYPE, and is discarded and counted toward the port-fault threshold. -/
  | feltFrameRejected (h : FeltHdr) (typ : Nat) (why : FrameFault)
  /-- R428 BLANK_TO_FACTORY: Walduca's production test performs the tokenless Blank to Factory transition over JTAG, generating ROOT and SCRAMBLE and programming UNIT, IMG0, IMG1, PROV and DBG. -/
  | blankToFactory (unit : BitVec 128) (img0 img1 prov dbg : BitVec 256)
  /-- R369 PCIE_LINK_UP: The PCIe link trains to L0 and HST_STATUS.LINK_UP, SPEED and WIDTH are set. -/
  | pcieLinkUp (speed width : Nat)
  /-- R257 AUTHORIZATION_REQ: A vehicle authorisation or payment-details request in NEGOTIATING runs the authorisation of R264 for External Identification Means or Plug & Charge. -/
  | authorizationReq (outlet : Outlet) (pnc chainOk : Bool) (ident : List Byte) (ptable : Nat)
  /-- R257 CHARGE_PARAMETER_DISCOVERY_REQ: The vehicle's charge parameter discovery request completes parameter discovery in NEGOTIATING. -/
  | chargeParameterDiscoveryReq (outlet : Outlet) (bpt dynamic : Bool) (schedules : List (List Nat))
  /-- R257 HLC_TIMEOUT: A high-level protocol timeout or error moves NEGOTIATING to FINISHING with HLC_FAIL set. -/
  | hlcTimeout (outlet : Outlet)
  /-- R256 OCPP_SET_VARIABLES: An OCPP get or set variables request reads or changes the station's configuration variables. -/
  | ocppSetVariables (id : Nat) (value : Option Nat)
  /-- R256 OCPP_SET_DISPLAY_MESSAGE: An OCPP display message request places a message on the emissive panel only. -/
  | ocppSetDisplayMessage (text : List Byte)
  /-- R256 OCPP_GET_LOG: An OCPP diagnostics request uploads Blotter extracts or sets variable monitoring. -/
  | ocppGetLog (first count : Nat) (monitor : Option (Nat × Nat))
  deriving DecidableEq, Repr

end Sys2Proof
end

