-- ==== Sys2Proof/Decode.lean ====
section
/-! DEFINITION. Words of commands. The table gives no row any bits (every row's "fields" is empty), so no word spells
a command. -/

namespace Sys2Proof

/-- The command that a word spells by the table's bits: the table gives none. -/
def decodeTableWord (_nbits _w : Nat) : Option Instr := none

end Sys2Proof
end

