-- ==== Sys2Proof/Config.lean ====
section
/-! DEFINITION. What the spec leaves open: free values (uninterpreted functions with no body) and the
cryptographic functions the spec takes from published standards, which the model does not compute. -/

namespace Sys2Proof.Config

/-- A free number: whatever the spec leaves open, by the count of free values taken so far and the place
that asks (log 2). -/
opaque freeNat : Nat → Nat → Nat

/-- A free signed number (log 2). -/
opaque freeInt : Nat → Nat → Int

/-- 256 fresh bits of the entropy source (R406), by the count of free values taken so far (log 2). -/
opaque entropy : Nat → BitVec 256

/-- SHAKE256 with 32 bytes of output (FIPS 202), uninterpreted (log 4). -/
opaque shake256 : List Byte → BitVec 256

/-- The first n bytes of SHAKE256's output, as a big-endian number, where more than 32 are taken (FIPS 202),
uninterpreted (log 4). -/
opaque shakeLong : (n : Nat) → List Byte → Nat

/-- An ECDSA signature on P-256 or P-384 (FIPS 186) of a message by a scalar, its nonce hedged with fresh random bytes (R423),
uninterpreted (log 4). -/
opaque ecdsaSign : (p384 : Bool) → (d : Nat) → (message : List Byte) → (random : BitVec 256) → List Byte

/-- The 16-byte AES-GCM tag, without encryption, of a message under a wrapped site key and a nonce (R375), uninterpreted
(log 4). -/
opaque gcmTag : (wrapped nonce message : List Byte) → BitVec 128

/-- The 5,605-byte XMSS^MT-SHAKE_40/2_256 signature of a message under the device key (RFC 8391), by index,
uninterpreted (log 4). -/
opaque xmssMtSign : (deviceSeed : BitVec 256) → (index : Nat) → List Byte → BitVec 44840

/-- The 32-byte root of the device key of its seeds (RFC 8391), uninterpreted (log 4). -/
opaque xmssMtRoot : (deviceSeed : BitVec 256) → BitVec 256

/-- AES-256-GCM wrapping of a key of 32 bytes under a wrapping key: 32 bytes and the tag, uninterpreted
(log 4). -/
opaque aesWrap : (key : BitVec 256) → (plain : BitVec 256) → BitVec 384

/-- R341: pixel (x, y) of the glyph of a code in the mask-ROM font, which the spec does not give (log 25). -/
opaque glyph : (code x y : Nat) → Bool

/-- R407, R453: version and digest of the mask ROM, stage 0, which the spec does not give (log 32). -/
opaque romVersion : Word
opaque romDigest : BitVec 256

/-- R135: coefficients of the two FIR stages of the decimation chain, by their distance from the end or the centre (log
58). -/
opaque droopTap : Nat → Int
opaque halfTap : Nat → Int

/-- R137: the interpolator of MET_LANE_PHASE: a fraction in 2^-16 sample and the samples, newest first (log 58). -/
opaque interpolate : Nat → List Int → Int

/-- R137: the step of the 0.05 Hz high-pass at 16 kS/s, in units of 2^-40 (log 58). -/
opaque trackStep : Nat

/-- R154: coefficients of the Hilbert FIR, by their distance from the centre (log 58). -/
opaque hilbertTap : Nat → Int

/-- R325: the threshold of the ordered pattern of a frame, by its number, at (x mod 4, y mod 4): the rule gives neither the
pattern nor how it rotates (log 70). -/
opaque ditherAt : (frame x y : Nat) → Nat

/-- R231: the 64 characters in which the panel places the texts of a point (log 17). -/
opaque placeTexts : List (List Byte) → List Byte

/-- R251: the network identifier derived from a membership key, as Green PHY specifies. -/
opaque networkId : List Byte → Nat

/-- R104: the correction of phase that an angle error calls for, before its limit (log 59). -/
opaque phasePull : Int → Int

/-- R177: the RMS of harmonic h of samples that span a whole number of cycles, by that number (log 58). -/
opaque harmonicRms : (cycles h : Nat) → List Int → Nat

end Sys2Proof.Config
end

