-- ==== Sys2Proof/Machine/Emit.lean ====
section
/-! DEFINITION. What the module sends to the outside, as plain data, collected in State.out with the newest
first: messages to the host, frames on the fabric, words to the vehicles and backends, and commands to what
the spec places outside the package (R3). -/

namespace Sys2Proof.Machine

/-- One emission. -/
inductive Emit where
  /-- R356, R357: one MSI-X message. -/
  | msix (vector : Nat)
  /-- R357: the service firmware is informed of route k; `first` ahead of its other work (R458). -/
  | inform (route : Nat) (first : Bool)
  /-- R355: one completion written to slot `slot` of a ring pair's CQ. -/
  | completion (ring : Ring) (slot : Nat) (bytes : List Byte)
  /-- R359: bytes written to the host buffer of a descriptor. -/
  | hostWrite (ring : Ring) (tag : Word) (bytes : List Byte)
  /-- R350: the answer to the service firmware's own request, and the bytes of its buffer. -/
  | svcResult (tag : Word) (answer : Answer)
  | svcWrite (tag : Word) (bytes : List Byte)
  /-- R10: the value returned by a read with side effects. -/
  | readData (addr : Nat) (value : Word)
  /-- R109: the answer to the owner of a booking: accepted, or REJECTED. -/
  | booking (b : Booking) (accepted : Bool)
  /-- R123: a command frame to a modulator, its first bit in bit 15. -/
  | laneFrame (lane : Nat) (frame : BitVec 16)
  /-- R374: a Felt frame of this module on a port, from VER to FCS. -/
  | felt (port : Nat) (frame : List Byte)
  /-- R374, R375, R381: a frame of another module passed on, its TTL decremented. -/
  | feltForward (port : Nat) (typ src epoch seq ttl : Nat)
  /-- R429: data shifted out of the JTAG port. -/
  | jtag (bytes : List Byte)
  /-- R412: a derivation served, or REJECTED to its requester. -/
  | derived (served : Bool)
  /-- R423, R424: a handshake message or a refusal handed to the service firmware; suites, groups and curve offered to a
  backend, as TRU_TLS_POLICY has them. -/
  | tls (session : Nat) (accepted : Bool) (offer : Nat)
  /-- R259: a CAN FD frame: bus, identifier and data. -/
  | can (bus : Nat) (ident : Nat) (data : List Byte)
  /-- R251: a SLAC message of outlet n, by its name's code in the table order of R251. -/
  | slac (outlet : Nat) (kind : Nat) (data : List Byte)
  /-- R254: a response of the vehicle protocol of outlet n: the request's kind and whether it succeeded. -/
  | hlc (outlet : Nat) (kind : Nat) (ok : Bool)
  /-- R243: the limits an answer of the vehicle protocol carries: ILIM and the reverse current, 0.1 A. -/
  | limits (outlet : Nat) (ilim rev : Nat)
  /-- R254: the schedules of a SAScheduleList. -/
  | schedules (outlet : Nat) (list : List (List Nat))
  /-- R256 E: a transaction event: 0 started, 1 updated, 2 ended, with the legal reading of context slot 24. -/
  | ocppTx (kind outlet : Nat) (sid : BitVec 128) (reading : Nat)
  /-- R256 I: a cost update from the settled TOTAL, in minor units. -/
  | ocppCost (sid : BitVec 128) (total : Int)
  /-- R256 J: a sampled value of an outlet's session. -/
  | ocppMeter (outlet : Nat) (reading : Nat)
  /-- R256 A: a notification of a security event, by its number in the log. -/
  | ocppSecurity (code : Nat)
  /-- R256, R264: a message to the OCPP backend: kind, outlet or value, accepted. -/
  | ocpp (kind : Nat) (arg : Nat) (ok : Bool)
  /-- R254: MeterInfo of outlet n: the reading of context slot 24 in Wh. -/
  | meterInfo (outlet : Nat) (wh : Nat)
  /-- R256 O: a message for the emissive panel. -/
  | message (text : List Byte)
  /-- R256 N: Blotter records uploaded to the backend. -/
  | logUpload (bytes : List Byte)
  /-- R283: SHUNT_TRIP driven or released. -/
  | shunt (on : Bool)
  /-- R275: a challenge of Nib to the safety processor, and the processor's answer with its permission bits. -/
  | challenge (value : Nat)
  | answer (permit : Nat)
  /-- R326, R334, R336, R337: a DCS command to the emissive panel. -/
  | dcs (data : List Byte)
  /-- R325, R330: a frame sent: the front buffer at an offset, or the fallback colour; its DSI data type, and its pixels in
  scan order. -/
  | frame (front : Option Nat) (dataType : Nat) (pixels : List (Nat × Nat × Nat))
  /-- R339: a command to the bistable panel with its data bytes. -/
  | bpCmd (opcode : Nat) (data : List Byte)
  /-- R339: WRITE_MAP: the codes of the pixels in scan order. -/
  | bpMap (codes : List Nat)
  /-- R424: the signature of a certificate signing request by the key of this kind and generation. -/
  | csr (peer : Nat) (generation : Nat) (signature : List Byte)
  deriving DecidableEq, Repr

end Sys2Proof.Machine
end

