-- ==== Sys2Proof/Machine/Tables.lean ====
section
/-! DEFINITION. Tables from numbers to values as sorted association lists: a table of typed entries (`tget`,
`tput`, `tmod`), the sparse register file whose unlisted words read as their reset values (`rget`, `rput`),
and the sparse byte memory whose unlisted bytes read 0 (`mget`, `mput`). Writing the value an unlisted key
reads as removes the entry, so the register file and the memory have one form per content. -/

namespace Sys2Proof.Machine

/-- The entry of key k, or d. -/
def tget {α : Type} (d : α) : Tab α → Nat → α
  | [], _ => d
  | (j, v) :: t, k => if j = k then v else tget d t k

/-- The entry of key k, if there is one. -/
def tfind {α : Type} : Tab α → Nat → Option α
  | [], _ => none
  | (j, v) :: t, k => if j = k then some v else tfind t k

/-- The table with key k's entry removed. -/
def terase {α : Type} (t : Tab α) (k : Nat) : Tab α := t.filter (fun e => e.1 != k)

/-- Insertion of a key that has no entry, in key order. -/
def tinsert {α : Type} : Tab α → Nat → α → Tab α
  | [], k, v => [(k, v)]
  | (j, w) :: t, k, v => if k < j then (k, v) :: (j, w) :: t else (j, w) :: tinsert t k v

/-- The table with key k set to v. -/
def tput {α : Type} (t : Tab α) (k : Nat) (v : α) : Tab α := tinsert (terase t k) k v

/-- The table with key k's value changed by f. -/
def tmod {α : Type} (d : α) (t : Tab α) (k : Nat) (f : α → α) : Tab α := tput t k (f (tget d t k))

/-- A word of the register file: an unlisted one has its reset value (R7, R10). -/
def rget (t : Tab Word) (a : Nat) : Word := match tfind t a with | some w => w | none => regReset a

/-- The register file with one word written. -/
def rput (t : Tab Word) (a : Nat) (w : Word) : Tab Word :=
  if w = regReset a then terase t a else tput t a w

/-- Keys strictly rising. -/
def sortedKeys {α : Type} : Tab α → Bool
  | [] => true
  | [_] => true
  | (j, _) :: (k, w) :: t => decide (j < k) && sortedKeys ((k, w) :: t)

/-- The register file's one form: addresses rising, and no entry equal to its reset value. -/
def regsWf (t : Tab Word) : Bool := sortedKeys t && t.all (fun e => e.2 != regReset e.1)

/-- A byte of the memory; an unlisted one reads 0 (DESIGN CHOICE, log 3). -/
def mget (m : List Host.Cell) (a : Nat) : Byte := tget 0#8 m a

/-- The memory with one byte written. -/
def mput (m : List Host.Cell) (a : Nat) (b : Byte) : List Host.Cell :=
  if b = 0#8 then terase m a else tput m a b

/-- The memory with bytes written from address a upwards. -/
def mputs (m : List Host.Cell) (a : Nat) : List Byte → List Host.Cell
  | [] => m
  | b :: bs => mputs (mput m a b) (a + 1) bs

/-- n bytes of the memory from address a upwards. -/
def mgets (m : List Host.Cell) (a : Nat) : Nat → List Byte
  | 0 => []
  | n + 1 => mget m a :: mgets m (a + 1) n

/-- The memory's one form: addresses rising, and no byte listed that reads 0. -/
def Memory.wf (m : List Host.Cell) : Bool := sortedKeys m && m.all (fun e => e.2 != 0#8)

end Sys2Proof.Machine
end

