-- ==== Sys2Proof/Machine/State.lean ====
section
/-! DEFINITION. The state of the module: the chip (every block's state, the register file, what has been
sent), the lifecycle fuses, the memory of the LPDDR4X die, and the queue of waiting commands; the state after
reset; the faults and refusals of a step. -/

namespace Sys2Proof.Machine

/-- Why a step stops with a fault. -/
inductive Fault where
  /-- Raised by REGISTER_WRITE, UNMAPPED_ACCESS and FENCED_WINDOW_ACCESS for an address at or above 128 MiB:
  BAR2 does not reach it (R347). Safe: no access of the hardware is of this form. -/
  | outsideBar2
  /-- Raised by DESCRIPTOR_FETCH for a descriptor that is not 64 bytes long (R359). Safe: no fetch of the
  hardware is of this form. -/
  | malformedDescriptor
  deriving DecidableEq, Repr

/-- Why a step answers nothing. -/
inductive Refusal where
  /-- Raised by an arm of `exec` that has no meaning yet. Safe. -/
  | notModelled (mnemonic : String)
  deriving DecidableEq, Repr

/-- The state of the dies, but for the fuses and the LPDDR4X contents. `regs` holds every plain register word
and every shadow, `live` the live values of shadowed registers (R26); both list only words that differ from
their reset values. `out` is what has been sent, newest first. `freeCount` counts the free values taken: it is
the model's own (log 2). -/
structure Chip where
  regs : Tab Word
  live : Tab Word
  sup : Sup
  wipe : Wipe
  cg : CommitGroup
  ns : NsState
  tb : Timebase
  met : Met
  acc : AccBlock
  tar : Tar
  sess : Sess
  leg : Leg
  outl : Outl
  saf : Saf
  nib : Nib
  pwd : Pwd
  lsw : LswAll
  dsp : Dsp
  age : Age
  bp : Bp
  host : HostIf
  fab : Fab
  repl : Repl
  tru : Tru
  upd : Upd
  flt : Flt
  blt : Blt
  out : List Emit
  /-- R445: pilot, proximity and protocol events latched while the outlet firmware is being placed, oldest first. -/
  latched : List OutEvent
  freeCount : Nat
  deriving DecidableEq, Repr

/-- The machine: the chip, the fuses (R427), the memory of the LPDDR4X die, and the commands that wait, first
in first out. -/
structure State where
  chip : Chip
  fuses : Fuses
  dram : List Host.Cell
  pending : List Instr
  deriving DecidableEq, Repr

/-! ### The entries of the tables before anything has written them -/

/-- The filter span of the decimation chain in periods (R134, R135): 621 of stage 1, 40 more of its outputs for stage 2
and 78 more of that one's for stage 3. -/
def spanPeriods : Nat := 54371

/-- A chain at rest: nothing missing, nothing in its filters. -/
def Chain.init : Chain :=
  { phase := 0, lastSym := 0, rx16 := false, swap := none, line := [], ints := List.replicate 5 0,
    combs := List.replicate 5 0, fir2 := [], fir3 := [], fInts := List.replicate 3 0, fCombs := List.replicate 3 0,
    fCnt := 0, runs := [], sinceMiss := spanPeriods, sinceOver := spanPeriods, big := 0, invalid := 0, valid := 0,
    out := 0 }

/-- A lane not assigned: OFF (R127). -/
def LaneSt.init : LaneSt :=
  { state := .off, range16 := false, cause := 0, eye := 0, eyeTop := 0, swCnt := 0, peak := 0, peakNow := 0, quiet := 0,
    substNow := false, cv := 0, cvNow := 0, id0 := 0, id1 := 0, subst := 0, leftTrain := false, cur := [],
    last := [], step := 0, slicer := [], retrain := 0, chain := Chain.init, delay := [], dc := 0, past := [] }

/-- Empty sums. -/
def PhaseSum.init : PhaseSum :=
  { p := 0, q := 0, v2 := 0, i2 := 0, v1 := 0, i1 := 0, n := 0 }

/-- A metering point with nothing measured. -/
def PointSt.init : PointSt :=
  { l1 := PhaseSum.init, l2 := PhaseSum.init, l3 := PhaseSum.init, tot := PhaseSum.init, n2 := 0,
    substNow := false, ovrNow := false, fbNow := false, substCyc := false, ovrCyc := false, fbCyc := false, cntSubst := 0,
    cntOvr := 0, cntFb := 0, failed := false }

/-- Intervals not yet opened. -/
def Interval.init : Interval :=
  { openCycle := 0, openWall := 0, openImp := 0, openExp := 0, dur := 0, flags := 0, subs := [],
    billCycle := 0, billWall := 0, billFlags := 0, demImp := none, demExp := none }

/-- A FREE context (R198). -/
def Context.init : Context :=
  { bstate := .free, outlet := 0, point := 0, sessionId := 0, authRef := 0, startCycle := 0, endCycle := 0,
    startWall := 0, endWall := 0, ptable := 0, price := [], flags := 0, energised := 0, origin := 0,
    settler := 0, entry := none, since := 0, waiters := [], peers := [], told := [], replOrigin := 0,
    primary := false, replCycle := 0, stopDue := false }

/-- An outlet engine after its reset: IDLE, pilot steady at +12 V. -/
def OutletSt.init : OutletSt :=
  { state := .idle, cp := .a, vpos := 0, vneg := 0, pwm := false, duty := 0, ilim := 0, pp := .noCable,
    ohm := 0xFFFF, capA := 0, lock := .unlocked, lockIn := false, locking := false, lockTries := 0, hlc := .none, tls := 0, bpt := false, dynamic := false, ctx := none, auth := none,
    authWait := none, authGroup := 0, slacFails := 0, runId := none, atten := none, nmkUsed := 0, nid := 0,
    slacHold := false, paramDone := false, powerStart := false, setMode := 0, setMv := 0, setMa := 0,
    setW := 0, reqMa := none, why := .stop, tClose := [], tOpen := [], timing := false, vZeros := [], iZeros := [],
    iSmall := true, profiles := [], reserved := none, waitSince := 0, resume := false, preclosed := none,
    testDue := false, unlockDue := false, draining := false }

/-- A module slot that no frame has filled (R260). -/
def Module.init : Module :=
  { present := false, serial := 0, ratedV := 0, ratedI := 0, ratedP := 0, reverse := false, state := 0,
    fault := 0, mv := 0, ma := 0, temp := 0, avail := 0 }

/-- A CAN controller after its reset. -/
def CanBus.init : CanBus := { txErr := 0, rxErr := 0, busOff := false, seqs := [] }

/-- A coil driver that is off. -/
def Coil.init : Coil := { state := .off, cmd := false, pend := false, ma := 0 }

/-- A load-switch channel that is off. -/
def LswSt.init : LswSt :=
  { state := .off, regOn := false, pin := false, dur := 0, limiting := false, openLoad := false,
    shortVbb := false, paused := false, pausedMs := 0, grpWait := false, shed := false, cleared := false, trips := 0, tj := 0,
    ma := 0, v10 := 0, refMv := 0, tripDue := false, episode := false, slew := 0, window := 0 }

/-- A ring pair that is OFF; the phase expected after EN is 1 (R351). -/
def RingSt.init : RingSt :=
  { state := .off, err := 0, sqHead := 0, sqTail := 0, cqHead := 0, cqTail := 0, phase := false,
    unsignalled := 0 }

/-- An MSI-X table entry after reset: masked, as PCI Express has it (PRESUMED, log 5). -/
def MsixEntry.init : MsixEntry := { addrLo := 0, addrHi := 0, data := 0, mask := true }

/-- A Felt port that is down. -/
def FPortSt.init : FPortSt :=
  { state := .down, tryFull := true, wakeSent := false, nbr := none, answered := false, explained := false,
    fcs := 0, authErr := 0, delayNs := 0, fcsAt := [], authAt := [], syncTx := 0, syncRx := 0,
    rootSeen := none, lockHops := 255, lockAt := 0 }

/-- A fault source in OK with an empty history. -/
def Src.init : Src := { state := .ok, present := false, level := 0, forced := false, recov := 0, occ := [] }

/-! ### The state after reset -/

/-- The supervisor after reset: mode Reset before the release, every region fenced (R28), no ready bit. -/
def Sup.reset : Sup :=
  { mode := .reset, lcs := .blank, prevMode := .off, modeCause := 0, ready := 0, fence := 0x7F, modeReq := none,
    modeResult := 0, prepDone := false, prepOwner := none, safeCauses := [], degCauses := [], heldSafety := false, draining := 0,
    mpRefused := false, pointsOff := [], pointsOn := [], refLost := false,
    pausedFrom := .operational, quarantineDue := none, held := false, fromOff := false, fromDeep := false,
    disableLate := 0 }

/-- The wipe engine at rest; the MRAM of a new die records no epoch but Blank. -/
def Wipe.reset : Wipe :=
  { sramBusy := false, dramBusy := false, mramBusy := false, progress := 0, epoch := .blank, sramTime := 0,
    dramTime := 0, mramTime := 0, due := false }

/-- No commit group (R31, R36): IDLE until the first ARM. -/
def CommitGroup.reset : CommitGroup :=
  { state := .idle, deferrals := 0, src := 0, members := 0, maxDefer := 8, target := 0, locked := false,
    refuse := 0, doneCycle := 0, owner := none, waiters := [], pdSent := none }

/-- No sequence (R43). -/
def NsState.reset : NsState := { active := none, queued := none, lastDone := 0, lastTotal := 0, result := 0 }

/-- The timebase before it has run (R105): SYNTH, no cycle count restored, no wall clock; FOLLOW reads 0 (R107, log 44). -/
def Timebase.reset : Timebase :=
  { state := .synth, follow := .primary, phaseErr := 0, freq := 50000, known := false, cycle := 0, angle := 0, frac := 0, into := 0,
    corr := 0, errLow := 0, errHigh := 0, prim := RefSt.init, alt := RefSt.init, held := 0, beacons := false, wall := 0, hwm := 0, valid := false,
    src := .none, slewRem := 0, step := none, aon := 0, sched := [], retry := [], schedHigh := 0, schedRefused := 0 }

/-- Acquisition with every lane off; DTCORR is 1.0 in unsigned 2.30 (R156, R176). -/
def Met.reset : Met :=
  { lanes := [], points := [],
    cal := { due := false, busy := false, done := false, switched := false, subst := false, aborted := false,
             cycDone := 0, cycles := 0, laneA := 0, laneB := 0, n := 0, sa := 0, sa2 := 0, sb2 := 0,
             sab := 0 },
    dtCorr := 0x40000000, fallback := false, hselNow := 0, hbuf := [], hcyc := 0 }

/-- An empty readout window. -/
def AccWindow.reset : AccWindow :=
  { valid := false, empty := false, replica := false, index := 0, target := 0, cycle := 0, readings := [],
    legacy := [] }

/-- Accumulators not yet restored (R171), an empty commit ring. -/
def AccBlock.reset : AccBlock :=
  { points := [], ctxs := [], finalising := false, latchWait := none, window := AccWindow.reset, finCycle := 0, finWall := 0,
    bound := [], boundNext := [], ring := [], gaspRing := [], due := [], lastSeq := 0, lastSlot := 0, lastKind := 0,
    lastNoHold := false, lastFallback := false, lastUs := 0, maxUs := 0, restored := false, ended := false, cutDur := 0, gap := none }

/-- No calendar, no price table, no interval open. -/
def Tar.reset : Tar :=
  { active := none, passive := [], pasState := .empty, pasCause := 0, pasAt := 0,
    rateAt := { rate := 0, season := 0, week := 0, day := 0, special := false }, staging := [], prices := [],
    mdPending := false, mdReqs := [], mdLast := 0, ints := [], md := [], lastDem := [], lastB := 0,
    openDue := false, endDue := none }

/-- Every context FREE. -/
def Sess.reset : Sess := { ctxs := [], starts := [], settled := [], counter := 0 }

/-- The legal part with an empty log; the next SEQ is 1 (DEDUCED, log 6). -/
def Leg.reset : Leg :=
  { running := false, bootstrap := false, firmware := none, loaded := none, loadStatus := 0, causes := [], log := [], nextSeq := 1, ack := 0,
    signedSeq := 0, chain := 0, lost := 0, gap := none, signing := none, sigRing := [], exports := [], sealOpen := false,
    sealCnt := 0, recalLanes := [], calIds := [], uncal := 0, dispFault := false, display := [],
    displayCrc := 0, unmeasured := [], badCopies := 0, panel := [] }

/-- Outlet engines, converters and the authorisation list, empty. -/
def Outl.reset : Outl :=
  { outlets := [], modules := [], buses := [], list := [], listVersion := 0, heldCard := none,
    waitCounter := 0, ocppVars := [], macs := [], certs := [], monitors := [] }

/-- The safety processor before it runs: it permits nothing. -/
def Saf.reset : Saf :=
  { permit := 0, retired := 0, nibOk := false, lockstepOk := true, latches := [], trips := 0, lastOutlet := 0,
    lastAll := false, lastSf := 0, lastChannel := 0, hotPwd := 0, hotSup := 0, imdGood := [], insState := [],
    insKohm := [], insAge := [], rcDc := [], rcAc := [], peRes := [], peBad := [], poles := [],
    shuntReq := false, precloseReq := none, shuntFired := [], mirrorAt := none, healthyFrom := none, hotSw := 0 }

/-- Nib after its own power-on: every gate closed (R85). -/
def Nib.reset : Nib :=
  { gate := 0, latch := 0, weld := 0, permit := 0, causes := [], procOk := false, degraded := 0, bBand := 0, remainMs := 0,
    shtr := false, selftestOk := false, sealFault := false, sealNow := 0, sealInvalid := 0, window := 0,
    rdcEn := false, peEn := false, parityOk := false, challenge := none, bad := 0, good := 0, badRun := 0,
    goodRun := 0, history := [], forecasts := [], precloseOf := none, ticks := 0 }

/-- The power die with every output off (R85). -/
def Pwd.reset : Pwd :=
  { linkUp := true, writeSeq := 0, posted := [], supplyOk := 0,
    holdup := false, vmain := 0, charging := false, holdOk := false, undersized := false, measured := false,
    vhold := 0, capUf := 0, esrMohm := 0, budget := 0, loadCheck := false, temp := 0, coils := [], fb := 0, fbAt := [],
    pilots := [], shunt := false, supTemp := 0, rails := 0, badLines := 0, badFrom := none }

/-- Every channel off. -/
def LswAll.reset : LswAll := { chans := [], iA := 0, iB := 0, railA := 0, railB := 0, uvA := false, uvB := false }

/-- Panel off and discharged, nothing published. -/
def Dsp.reset : Dsp :=
  { pstate := .off, step := 0, pnlEn := false, pnlDis := true, pnlRst := true, front := none, pend := none,
    noFlip := true, fallback := false, frameCnt := 0, inFrame := false, framed := false, crcMatch := false,
    crcRun := 0, crcCalc := 0, crcFails := 0, held := none, stopFrames := 0, offKept := false }

/-- Ageing with no history. -/
def Age.reset : Age :=
  { stress := [], fracs := [], base := [], sensed := [], gains := [], applied := [], baselined := false,
    scanning := false, baselineScan := false, prog := 0, errors := 0, clip := 0, sensing := none, active := 0, target := 0,
    scanned := false, saved := none, savedOld := none }

/-- The bistable engine idle; its first update is a full one (R342). -/
def Bp.reset : Bp :=
  { state := .idle, busy := false, phase := 0, redrawn := false, temp := 0, crc := 0, updates := 0,
    aborts := 0, sinceFull := 0, waiting := false, first := true, rendering := [], shown := [],
    phasesLeft := 0, disableDue := false }

/-- The host interface with every ring pair OFF. -/
def HostIf.reset : HostIf :=
  { rings := [], turns := [], inflight := [], tags := [], discards := 0, msix := [], msixPending := 0, fnMask := false,
    linkUp := false, speed := 0, width := 0, perst := false, wlock := false, epoch := 0 }

/-- The fabric before the link region starts. -/
def Fab.reset : Fab :=
  { mode := .off, addr := 0, addrValid := false, probe := 0, storedAddr := none, epoch := 0, seqs := [],
    lsaSeq := 0, ports := [], db := [], heard := [], forwarded := [], root := none, ofsNs := 0,
    roundSeen := 0, roundNext := 0, roundAt := 0, roundRun := 0, roundShown := 0, diverge := 0,
    fallbacks := 0, milliner := none, partition := false, hold := false, lastUnctrl := [], missingFrom := [],
    demands := [], collecting := false, results := [], agreed := none, computed := 2,
    startRounds := [], grantImp := [], grantExp := [], capped := false, grantParts := [], steady := 0,
    divergeAt := [], liftHold := false, resumeRound := none }

/-- No replica anywhere. -/
def Repl.reset : Repl := { holders := [], refused := [], notices := [], odd := false }

/-- The trust region before its start. -/
def Tru.reset : Tru :=
  { unit := 0, rootOk := false, chainsClosed := false, debugOpen := false, scope := 0, fails := 0, locked := false,
    challenge := none, accesses := 0, remasks := 0, healthOk := false, rctFail := false,
    aptFail := false, entFails := 0, entStarts := 0, stages := [], meas := 0, authChain := 0, xmt := .noKey,
    copyA := [], copyB := [],
    keyRecord := none, keygenProg := 0, signQueue := [], signNow := none, sigsMade := 0,
    checkpoints := 0, signOff := false, tls := [], siteKeys := [], siteLoaded := false, sendKey := none, prevUntil := 0,
    cert := none, generation := [], lcNonce := 0, lcResult := 0, lcFrom := 0, lcTo := 0, repaired := false }

/-- No update session; every bank empty, bank A selected. -/
def Upd.reset : Upd :=
  { state := .idle, source := none, manifest := none, chunks := [], journal := .none, starts := 0, cause := 0,
    savedS := 0, confirmFrom := 0, restartDue := false, banks := [], bankB := 0,
    schemas := [], savedSchemas := [], savedVars := none, waiting := [], activateBy := none, abortBy := none,
    pauseDue := false, rollbackDue := false, shown := false }

/-- The collector before its restore. -/
def Flt.reset : Flt :=
  { srcs := [], restored := false, storeOk := false, waiting := [], resets := [], checks := [] }

/-- An empty Blotter, not yet restored. -/
def Blt.reset : Blt :=
  { slots := [], nextSeq := 0, drop := 0, queue := [], ready := false, winBusy := false, winStale := false,
    winEnd := false, window := [] }

/-- The fuses of a die on which nothing is blown: Blank (DESIGN CHOICE, log 7). -/
def Fuses.reset : Fuses :=
  { root := 0, rootSet := false, scramble := 0, unit := 0, unitSet := false, lcs := 0, legalDig := none,
    img0 := none, img1 := none, revoke := 0, prov := none, dbg := none, rollback := [0, 0, 0, 0, 0, 0, 0] }

/-- The chip right after reset: every register at its reset value. -/
def Chip.reset : Chip :=
  { regs := [], live := [], sup := Sup.reset, wipe := Wipe.reset, cg := CommitGroup.reset, ns := NsState.reset,
    tb := Timebase.reset, met := Met.reset, acc := AccBlock.reset, tar := Tar.reset, sess := Sess.reset,
    leg := Leg.reset, outl := Outl.reset, saf := Saf.reset, nib := Nib.reset, pwd := Pwd.reset,
    lsw := LswAll.reset, dsp := Dsp.reset, age := Age.reset, bp := Bp.reset, host := HostIf.reset,
    fab := Fab.reset, repl := Repl.reset, tru := Tru.reset, upd := Upd.reset, flt := Flt.reset,
    blt := Blt.reset, out := [], latched := [], freeCount := 0 }

/-- The machine right after reset, with no command waiting. -/
def State.reset : State := { chip := Chip.reset, fuses := Fuses.reset, dram := [], pending := [] }

end Sys2Proof.Machine
end

