-- ==== Sys2Proof/Machine/Ops.lean ====
section
/-! DEFINITION. The operations every block uses: reading and writing registers, sending, setting an event bit
and routing it (R357, R370), queuing a Blotter record (R472), free values, and the completion of requests
(R353 to R365). -/

namespace Sys2Proof.Machine

/-- The next state with the chip changed by f: fuses, memory and the waiting commands stay. -/
def onChip (s : State) (f : Chip → Chip) : Host.Outcome State Fault Refusal := .next { s with chip := f s.chip }

/-! ### Registers -/

/-- A word of the register file: the value of an immediate register, the shadow of a shadowed one (R26). -/
def regGet (c : Chip) (a : Nat) : Word := rget c.regs a

/-- Writes a word of the register file. -/
def regPut (c : Chip) (a : Nat) (w : Word) : Chip := { c with regs := rput c.regs a w }

/-- The live value of a shadowed register (R26). -/
def liveGet (c : Chip) (a : Nat) : Word := rget c.live a

/-- Sets the live value of a shadowed register. -/
def livePut (c : Chip) (a : Nat) (w : Word) : Chip := { c with live := rput c.live a w }

/-- A field of the live value of a shadowed register: the setting in force. -/
def cfg (c : Chip) (a hi lo : Nat) : Nat := fieldOf (liveGet c a) hi lo

/-- A flag of the live value of a shadowed register. -/
def cfgBit (c : Chip) (a b : Nat) : Bool := bitOf (liveGet c a) b

/-- A field of an immediate register. -/
def imm (c : Chip) (a hi lo : Nat) : Nat := fieldOf (regGet c a) hi lo

/-- A flag of an immediate register. -/
def immBit (c : Chip) (a b : Nat) : Bool := bitOf (regGet c a) b

/-! ### Conditions -/

/-- R56: the function's ready bit. -/
def ready (c : Chip) (f : Func) : Bool := c.sup.ready.getLsbD f.idx

/-- R16, R28: the region is fenced or in reset. -/
def fenced (c : Chip) (r : Region) : Bool := c.sup.fence.getLsbD r.idx

/-- R56: the function whose ready bit stands for a region; none for the supervisor. -/
def Region.func : Region → Option Func
  | .sup => none | .met => some .met | .out => some .out | .tru => some .tru | .lnk => some .fab
  | .dsp => some .dsp | .svc => some .svc

/-- R16: a region takes new work: it is not fenced and has raised its ready bit. -/
def regionReady (c : Chip) (r : Region) : Bool :=
  !fenced c r && (match r.func with | some f => ready c f | none => true)

/-- AON monotonic seconds (R463). -/
def aonSec (c : Chip) : Nat := c.tb.aon / 2 ^ 32

/-- True wall time in UTC seconds. -/
def wallSec (c : Chip) : Nat := c.tb.wall / 2 ^ 32

/-- Wall time as 48-bit seconds and a 16-bit fraction. -/
def wall16 (c : Chip) : Nat := c.tb.wall / 2 ^ 16

/-! ### Sending -/

/-- Sends. -/
def emit (c : Chip) (e : Emit) : Chip := { c with out := e :: c.out }

/-- Sends several, the first of the list first. -/
def emits (c : Chip) (es : List Emit) : Chip := { c with out := es.reverse ++ c.out }

/-- R356, R458: one MSI-X message; while the entry's Mask bit or the function mask masks it, the pending bit
is set instead. Nothing is sent while the HST block is down. -/
def sendMsix (c : Chip) (v : Nat) : Chip :=
  if !ready c .hst then c
  else if c.host.fnMask || (tget MsixEntry.init c.host.msix v).mask then
    { c with host := { c.host with msixPending := c.host.msixPending ||| BitVec.ofNat 32 (2 ^ v) } }
  else emit c (.msix v)

/-- R357: route k: a message to the host if EN is 1 (ignored for k = 15, R370), and the service firmware
informed if SVC is 1. -/
def routeEvt (c : Chip) (k : Nat) : Chip :=
  let r := regGet c (Reg.HST_IRQ_ROUTE k)
  let c := if bitOf r 8 && k != 15 then sendMsix c (fieldOf r 4 0) else c
  if bitOf r 9 then emit c (.inform k false) else c

/-- R370: the route of an event register. -/
def evtRoute (a : Nat) : Nat :=
  if a = Reg.SUP_CG_EVT then 0
  else if a = Reg.SUP_TB_EVT then 1
  else if a / 0x10000 = 2 then 3
  else if a / 0x1000000 = 3 then 3
  else if a / 0x10000 = 3 then 4
  else if a / 0x10000 = 0x100 ∨ a / 0x10000 = 0x101 ∨ a / 0x10000 = 0x102 then 5
  else if a / 0x10000 = 0x104 then 6
  else if a / 0x10000 = 0x105 then 7
  else if a / 0x10000 = 0x209 then 9
  else if a / 0x1000000 = 2 then 8
  else if a / 0x1000000 = 7 then 10
  else if a / 0x1000000 = 5 then 11
  else if a / 0x10000 = 0x402 then 12
  else if a / 0x10000 = 6 then 13
  else if a / 0x10000 = 0x404 then 14
  else 15

/-- R357: sets a bit of an event register; a change from 0 to 1 goes over its route. -/
def raiseEvt (c : Chip) (a b : Nat) : Chip :=
  if immBit c a b then c else routeEvt (regPut c a (withBit (regGet c a) b true)) (evtRoute a)

/-- R10: clears the bits of a W1C register where the written word has 1. -/
def clearBits (c : Chip) (a : Nat) (w : Word) : Chip := regPut c a (regGet c a &&& ~~~ w)

/-! ### Windows (R16) -/

/-- R8, R27: the region whose access-fault source stands for an address: the power-die window counts as part of
the supervisor region, the safety-die mirror as part of the link region. -/
def accessRegion (a : Nat) : Region :=
  if 0x7800000 ≤ a then .lnk
  else if 0x7000000 ≤ a then .sup
  else match a / 0x1000000 with
    | 1 => .met | 2 => .out | 3 => .tru | 4 => .lnk | 5 => .dsp | 6 => .svc | _ => .sup

/-- R16, R64, R349: the window of an address does not answer: its region is fenced or in reset, the HST frame while HST
reads 0, and everything but SUP_ID and SUP_LCS in Scrapped. The two windows outside the regions are reached through
the supervisor region (DEDUCED, log 41). -/
def windowClosed (c : Chip) (a : Nat) : Bool :=
  let r := if 0x7000000 ≤ a then Region.sup else accessRegion a
  (if a / 0x10000 = 0x404 then !ready c .hst || fenced c .sup else fenced c r)
    || (c.sup.lcs == .scrapped && a != Reg.SUP_ID && a != Reg.SUP_LCS)

/-- R26: the address of the shadowed register that an alias address stands for. -/
def aliasOf (a : Nat) : Option Nat :=
  let b := if 0x7000000 ≤ a then a - 0x400000 else a - 0x800000
  if a % 0x10000 < 0x8000 && decide (a < 0x7800000)
      && (if 0x7000000 ≤ a then decide (0x7400000 ≤ a) else decide (0x800000 ≤ a % 0x1000000)) then some b else none

/-- R7, R8, R26: an aligned address of a register, or of the live alias of a shadowed one. -/
def mapped (a : Nat) : Bool :=
  a % 4 == 0 && ((regRow a).isSome || (match aliasOf a with | some b => (regRow b).isSome | none => false))

/-- R16: a write of the register at an address that a command of its own stands for: discarded while the window does not
answer. -/
def reach (c : Chip) (a : Nat) (f : Chip → Chip) : Chip := if windowClosed c a then c else f c

/-- R10, R16: a read with an effect: f gives the chip after it and the word returned; while the window does not answer it
returns 0 and has none. -/
def readActs (c : Chip) (a : Nat) (f : Chip → Chip × Word) : Chip :=
  if windowClosed c a then emit c (.readData a 0#32) else emit (f c).1 (.readData a (f c).2)

/-! ### Free values -/

/-- The number the next free value is taken with; each use counts one (log 2). -/
def takeFree (c : Chip) : Chip := { c with freeCount := c.freeCount + 1 }

/-- A free number below n, of place p. -/
def freeBelow (c : Chip) (p n : Nat) : Nat := Config.freeNat c.freeCount p % n

/-- A quotient whose rounding the spec leaves open: the floor, or one above it where the division is not exact
(log 2). -/
def roundOpen (c : Chip) (p : Nat) (num : Int) (den : Nat) : Int :=
  if num % (den : Int) = 0 then num / (den : Int) else num / (den : Int) + (freeBelow c p 2 : Int)

/-- The same of an unsigned quotient. -/
def roundOpenNat (c : Chip) (p num den : Nat) : Nat :=
  if num % den = 0 then num / den else num / den + freeBelow c p 2

/-- A square root whose rounding the spec leaves open (log 2). -/
def sqrtOpen (c : Chip) (p n : Nat) : Nat :=
  let r := Nat.sqrt n
  if r * r = n then r else r + freeBelow c p 2

/-- 256 bits drawn from the entropy source. -/
def drawn (c : Chip) : BitVec 256 := Config.entropy c.freeCount

/-- R436: a manifest with a privileged entry. -/
def Manifest.priv (m : Manifest) : Bool := m.entries.any (fun e => bitOf (wordOf e.pflags) 0)

/-- R445: the outlet firmware is being placed: pilots hold, and what it would act on is latched (log 31). -/
def outletPlacing (c : Chip) : Bool :=
  c.sup.mode == .activationPause && c.sup.pausedFrom != .quarantine
    && (match c.upd.manifest with | some m => !m.priv && m.entries.any (fun e => e.part == 5) | none => false)

/-! ### Blotter -/

/-- R472: queues a record, stamped with the present cycle, wall time and AON second; with 256 records queued it
is lost. -/
def blot (c : Chip) (sev kind level code data : Nat) (channel forced esc held : Bool) : Chip :=
  if 256 ≤ c.blt.queue.length then
    raiseEvt { c with blt := { c.blt with drop := (c.blt.drop + 1) % 2 ^ 32 } } Reg.BLT_EVT 4
  else
    let r : BltRec :=
      { seq := 0, cycle := c.tb.cycle, wall := wallSec c % 2 ^ 48, sev := sev, forced := forced,
        holdup := held, wallInvalid := !c.tb.valid, escalated := esc, kind := kind,
        level := level, channel := channel, code := code, rept := 0, lastS := 0, data := wordOf data,
        since := aonSec c }
    { c with blt := { c.blt with queue := c.blt.queue ++ [r] } }

/-- R475: queues an event record (KIND 4). -/
def blotEvent (c : Chip) (code sev data : Nat) : Chip := blot c sev 4 0 code data false false false false

/-! ### Answers to requests -/

/-- A plain answer of a status. -/
def ansStatus (st : Status) : Answer :=
  { status := st, detail := .none, aux := 0, aux32 := 0, result := [], replay := false }

/-- OK. -/
def ansOk : Answer := ansStatus .ok

/-- REJECTED with a detail (R361). -/
def ansReject (d : Detail) : Answer := { ansStatus .rejected with detail := d }

/-- REJECTED RULE with the owning block's cause in AUX. -/
def ansRule (cause : Nat) : Answer := { ansReject .rule with aux := cause }

/-- Is this the descriptor's answer to carry the REPLAY flag. -/
def ansReplay (a : Answer) : Answer := { a with replay := true }

/-! ### Ring pairs and completions -/

/-- Ring pair q. -/
def ringOf (c : Chip) (q : Nat) : RingSt := tget RingSt.init c.host.rings q

/-- Ring pair q changed. -/
def setRing (c : Chip) (q : Nat) (r : RingSt) : Chip :=
  { c with host := { c.host with rings := tput c.host.rings q r } }

/-- R369: entries of the SQ and of the CQ of ring pair q. -/
def sqSize (c : Chip) (q : Nat) : Nat := 2 ^ imm c (Reg.HST_RING_CFG q) 7 4
def cqSize (c : Chip) (q : Nat) : Nat := 2 ^ imm c (Reg.HST_RING_CFG q) 11 8

/-- R360: the 32 bytes of a completion. -/
def completionBytes (d : Desc) (a : Answer) (phase : Bool) : List Byte :=
  leBytes 4 d.tag.toNat ++ leBytes 2 d.opcode ++ leBytes 1 a.status.code
    ++ leBytes 1 (placeBit 0 phase + placeBit 1 a.replay) ++ leBytes 2 d.sqIndex ++ leBytes 1 a.detail.code
    ++ leBytes 1 a.aux ++ leBytes 4 a.aux32
    ++ (a.result ++ List.replicate 16 0#8).take 16

/-- R356: the message of a ring pair once COUNT completions stand unsignalled, or at once for FLAGS.IRQ. -/
def signalRing (c : Chip) (q : Nat) (now : Bool) : Chip :=
  let r := ringOf c q
  if now || decide (max 1 (imm c (Reg.HST_RING_COAL q) 7 0) ≤ r.unsignalled) then
    sendMsix (setRing c q { r with unsignalled := 0 }) (imm c (Reg.HST_RING_CFG q) 20 16)
  else c

/-- R365: the completion kept in the tag record: OK and REJECTED, but for an unknown opcode and tag 0
(R362); the last 256. -/
def recordTag (c : Chip) (d : Desc) (a : Answer) : Chip :=
  if (a.status = .ok ∨ a.status = .rejected) ∧ a.detail ≠ .opcode ∧ a.detail ≠ .tagZero then
    let old := (tget [] c.host.tags d.ring.val).filter (fun t => !(t.tag == d.tag && t.opcode == d.opcode))
    let new := ({ tag := d.tag, opcode := d.opcode, answer := a } :: old).take 256
    { c with host := { c.host with tags := tput c.host.tags d.ring.val new } }
  else c

/-- R355, R356: writes a descriptor's completion in the next CQ slot with the expected phase, which inverts on
the wrap, and takes it out of flight. -/
def writeCompletion (c : Chip) (d : Desc) (a : Answer) : Chip :=
  let q := d.ring.val
  let r := ringOf c q
  let slot := r.cqTail
  let wrap := decide (cqSize c q ≤ slot + 1)
  let c := emit c (.completion d.ring slot (completionBytes d a r.phase))
  let c := setRing c q { r with cqTail := if wrap then 0 else slot + 1,
                                phase := if wrap then !r.phase else r.phase,
                                unsignalled := r.unsignalled + 1 }
  let c := recordTag c d a
  let c := { c with host := { c.host with
      discards := if a.status = .discarded then (c.host.discards + 1) % 2 ^ 16 else c.host.discards } }
  signalRing c q (bitOf (wordOf d.flags) 1)

/-- R365: a duplicate in flight takes the original's answer with REPLAY. -/
def answerDup (d : Desc) (a : Answer) (e : Desc) : Desc :=
  if e.dup && e.ring == d.ring && e.tag == d.tag && e.opcode == d.opcode then
    { e with dup := false, answer := some (ansReplay a) }
  else e

/-- R354: the first descriptor in flight that has its answer and that no earlier one of its ring pair and
block holds back. -/
def nextWritable : List Desc → List Desc → Option (Desc × Answer)
  | _, [] => none
  | before, d :: rest =>
    match d.answer with
    | some a =>
      if before.any (fun e => e.ring == d.ring && e.block == d.block) then nextWritable (d :: before) rest
      else some (d, a)
    | none => nextWritable (d :: before) rest

/-- The descriptors in flight without d. -/
def dropDesc (l : List Desc) (d : Desc) : List Desc := l.erase d

/-- R358: a draining ring pair with nothing in flight is OFF. -/
def settleDrain (c : Chip) (q : Nat) : Chip :=
  let r := ringOf c q
  if r.state = .draining ∧ ¬ c.host.inflight.any (fun d => d.ring.val == q) then
    setRing c q { r with state := .off }
  else c

/-- Writes the completions that may be written, in order, at most n of them. -/
def flushCompletions : Nat → Chip → Chip
  | 0, c => c
  | n + 1, c =>
    match nextWritable [] c.host.inflight with
    | none => c
    | some (d, a) =>
      let rest := (dropDesc c.host.inflight d).map (answerDup d a)
      let c := writeCompletion { c with host := { c.host with inflight := rest } } d a
      flushCompletions n (settleDrain c d.ring.val)

/-- Writes every completion that the ring order allows. -/
def flush (c : Chip) : Chip := flushCompletions c.host.inflight.length c

/-- Sets the answer of the first unanswered descriptor of a ring pair and tag that is no duplicate. -/
def setAnswer (ring : Ring) (tag : Word) (a : Answer) : List Desc → List Desc
  | [] => []
  | d :: ds =>
    if d.ring = ring ∧ d.tag = tag ∧ d.answer = none ∧ d.dup = false then { d with answer := some a } :: ds
    else d :: setAnswer ring tag a ds

/-- The answer to a request: a host descriptor completes (R354), the service firmware is told (R350). -/
def complete (c : Chip) (req : Requester) (a : Answer) : Chip :=
  match req with
  | .service tag => emit c (.svcResult tag a)
  | .host ring tag => flush { c with host := { c.host with inflight := setAnswer ring tag a c.host.inflight } }

/-- The answer to a request that may have none waiting. -/
def completeOpt (c : Chip) (req : Option Requester) (a : Answer) : Chip :=
  match req with
  | some r => complete c r a
  | none => c

/-- The answer to several requests, in order. -/
def completeAll (c : Chip) (reqs : List Requester) (a : Answer) : Chip :=
  reqs.foldl (fun c r => complete c r a) c

/-- The descriptor of a host request is in flight and not yet answered. -/
def awaited (c : Chip) (ring : Ring) (tag : Word) : Bool :=
  c.host.inflight.any (fun d => d.ring == ring && d.tag == tag && d.answer == none && !d.dup)

/-- Bytes for a request's buffer (R359); none for a descriptor already answered. -/
def deliver (c : Chip) (req : Requester) (bs : List Byte) : Chip :=
  match req with
  | .service tag => emit c (.svcWrite tag bs)
  | .host ring tag => if awaited c ring tag then emit c (.hostWrite ring tag bs) else c

/-- R366: work in flight whose block p names is discarded. -/
def discardWork (c : Chip) (p : Block → Bool) : Chip :=
  flush { c with host := { c.host with inflight := c.host.inflight.map (fun d =>
    if p d.block && d.answer == none && !d.dup then { d with answer := some (ansStatus .discarded) } else d) } }

/-! ### Admission of a request -/

/-- R433: the region under update of a part; the power-die tables lie in none. -/
def partRegion (stage : Nat) : Option Region :=
  if stage = 1 then some .tru else if stage = 2 ∨ stage = 5 then some .out else if stage = 6 then some .lnk
  else if stage = 7 then some .dsp else if stage = 8 then some .svc else none

/-- R440: an activation, or the placement of a rollback, is under way. -/
def placing (c : Chip) : Bool :=
  c.upd.state == .activating || (c.upd.state == .rollback && c.sup.mode == .activationPause)

/-- R440: the region is under update: its activation or its rollback is being placed, or a privileged part of it has
been placed and its ready bit has not risen since the restart. -/
def regionUpdating (c : Chip) (r : Region) : Bool :=
  match c.upd.manifest with
  | none => false
  | some m => m.entries.any (fun e => partRegion e.part == some r && (placing c
      || (c.upd.state == .pending && decide (e.part ≤ 2) && (match r.func with | some f => !ready c f | none => false))))

/-- R440: an update of the power die's tables is running. -/
def powerDieUpdating (c : Chip) : Bool :=
  placing c &&
    (match c.upd.manifest with
     | some m => m.entries.any (fun e => e.part == 4)
     | none => false)

/-- R16, R440: the status that turns work for a block away: BUSY_REGION while its region is updated (not the
service region, R366), NOT_READY while it is fenced or its ready bit is 0. -/
def turnAway (c : Chip) (b : Block) : Option Status :=
  match b.region? with
  | none => none
  | some r =>
    if regionUpdating c r && r != .svc then some .busyRegion
    else if b == .ringEngine then none
    else if regionReady c r then none
    else some .notReady

/-- R354: the descriptor of a request may start: no earlier one of its ring pair and block waits to start, a
FENCE ahead of it has completed, and for its own FENCE everything earlier has. -/
def mayStart : List Desc → List Desc → Ring → Word → Nat → Bool
  | _, [], _, _, _ => false
  | before, d :: rest, q, tag, op =>
    if d.ring = q ∧ d.tag = tag ∧ d.opcode = op ∧ d.started = false ∧ d.answer = none ∧ d.dup = false then
      let mine := before.filter (fun e => e.ring == q)
      !(mine.any (fun e => bitOf (wordOf e.flags) 0)) &&
        !(mine.any (fun e => e.block == d.block && !e.started && e.answer == none && !e.dup)) &&
        (!bitOf (wordOf d.flags) 0 || mine.isEmpty)
    else mayStart (d :: before) rest q tag op

/-- Marks the descriptor of a request as started. -/
def markStarted (q : Ring) (tag : Word) (op : Nat) : List Desc → List Desc
  | [] => []
  | d :: ds =>
    if d.ring = q ∧ d.tag = tag ∧ d.opcode = op ∧ d.started = false ∧ d.answer = none ∧ d.dup = false then
      { d with started := true } :: ds
    else d :: markStarted q tag op ds

/-- The rules every operation of the opcode table shares: a host descriptor must stand in flight and may start
(R354); the service firmware must run (R350); the block must take work (R16, R440). Then `act` is performed.
A command whose descriptor is not in flight or may not start changes nothing (log 8). -/
def perform (c : Chip) (req : Requester) (op : Nat) (b : Block) (act : Chip → Chip) : Chip :=
  match req with
  | .service _ =>
    if ready c .svc then
      match turnAway c b with
      | some st => complete c req (ansStatus st)
      | none => act c
    else c
  | .host q tag =>
    if mayStart [] c.host.inflight q tag op then
      let c := { c with host := { c.host with inflight := markStarted q tag op c.host.inflight } }
      match turnAway c b with
      | some st => complete c req (ansStatus st)
      | none => act c
    else c

end Sys2Proof.Machine
end

