-- ==== Sys2Proof/Machine/LegalOps.lean ====
section
/-! DEFINITION. Operations on the legal log that other blocks use: entry types (R222), the stamp of a cause
(R220), queuing an entry for its write, and the entries that several rules write. -/

namespace Sys2Proof.Machine

/-! ### R222: entry types -/

/-- INTERVAL. -/
def tyInterval : Nat := 0x4942
/-- SESSION. -/
def tySession : Nat := 0x5342
/-- START. -/
def tyStart : Nat := 0x4C01
/-- STEP. -/
def tyStep : Nat := 0x4C02
/-- CAL_ACT. -/
def tyCalAct : Nat := 0x4C03
/-- MD_RESET. -/
def tyMdReset : Nat := 0x4C04
/-- CALIB. -/
def tyCalib : Nat := 0x4C05
/-- PCFG. -/
def tyPcfg : Nat := 0x4C06
/-- POINT_STATE. -/
def tyPointState : Nat := 0x4C07
/-- UNMEASURED. -/
def tyUnmeasured : Nat := 0x4C08
/-- SEAL. -/
def tySeal : Nat := 0x4C09
/-- SUSPEND. -/
def tySuspend : Nat := 0x4C0A
/-- RESUME. -/
def tyResume : Nat := 0x4C0B
/-- UNCAL. -/
def tyUncal : Nat := 0x4C0C
/-- GAP. -/
def tyGap : Nat := 0x4C0D
/-- DISPLAY. -/
def tyDisplay : Nat := 0x4C0E
/-- LIFECYCLE. -/
def tyLifecycle : Nat := 0x4C0F

/-- R180: billing time, the true wall time held at its high-water mark while behind it. -/
def billTime (c : Chip) : Nat := max c.tb.wall c.tb.hwm

/-- R220: an instant as an 8-byte time: 48-bit UTC seconds and a fraction in 2^-16 s. -/
def time16 (t : Nat) : Nat := t / 2 ^ 16 % 2 ^ 64

/-- R220: the present instant. -/
def stampNow (c : Chip) : Stamp :=
  { cycle := c.tb.cycle, wall := time16 c.tb.wall, bill := time16 (billTime c) }

/-- R91: VHOLD is below 20.0 V outside Hold-up (PWD_VHOLD counts in mV, R93). -/
def noHold (c : Chip) : Bool := decide (c.pwd.vhold < 20000) && c.sup.mode != .holdUp

/-- R219: queues an entry with its cause's stamp; nothing is written in the bootstrap or before the legal core
runs (R214). Point 255 when none applies. -/
def legalEntry (c : Chip) (typ point : Nat) (body : List Byte) (ctx : Option Nat) : Chip :=
  if c.leg.running then
    let cause : LegCause :=
      { typ := typ, point := point, stamp := stampNow c, body := body, nohold := noHold c, ctx := ctx }
    { c with leg := { c.leg with causes := c.leg.causes ++ [cause] } }
  else c

/-- R225: entries written and not acknowledged. -/
def unacked (c : Chip) : Nat := c.leg.nextSeq - 1 - c.leg.ack

/-- R225: the log is FULL. -/
def logFull (c : Chip) : Bool := decide (61440 ≤ unacked c)

/-- R226: the log is HARDFULL. -/
def logHardFull (c : Chip) : Bool := decide (65536 ≤ unacked c)

/-- R222: POINT_STATE: old and new state of R140, cause (0 lane, 1 disabled, 2 enabled), lane or 255. -/
def pointStateEntry (c : Chip) (m old new cause lane : Nat) : Chip :=
  legalEntry c tyPointState m (beBytes 1 old ++ beBytes 1 new ++ beBytes 1 cause ++ beBytes 1 lane) none

/-- R222: UNMEASURED: first and last cycle, wall time at start and end, reason. -/
def unmeasuredEntry (c : Chip) (m first last wall0 wall1 reason : Nat) : Chip :=
  legalEntry c tyUnmeasured m
    (beBytes 6 first ++ beBytes 6 last ++ beBytes 8 wall0 ++ beBytes 8 wall1 ++ beBytes 1 reason ++ beBytes 3 0)
    none

/-- R141: a span without measurement of a point begins. -/
def openUnmeasured (c : Chip) (m reason : Nat) : Chip :=
  match tfind c.leg.unmeasured m with
  | some _ => c
  | none =>
    { c with leg := { c.leg with
        unmeasured := tput c.leg.unmeasured m (c.tb.cycle, time16 c.tb.wall, reason) } }

/-- R222: a span without measurement of a point ends and is written. -/
def closeUnmeasured (c : Chip) (m : Nat) : Chip :=
  match tfind c.leg.unmeasured m with
  | none => c
  | some (first, wall0, reason) =>
    let c := unmeasuredEntry c m first c.tb.cycle wall0 (time16 c.tb.wall) reason
    { c with leg := { c.leg with unmeasured := terase c.leg.unmeasured m } }

end Sys2Proof.Machine
end

