-- ==== Sys2Proof/Machine/Chain.lean ====
section
/-! DEFINITION. The signal path of a modulator lane: command frames (R123), symbols (R125, R138), scaling and range
delay (R130), the fast detector (R131), the decimation chain (R135), training (R128) and the corrections (R137). -/

namespace Sys2Proof.Machine

/-! ### Command frames (R123) -/

/-- One bit of the CRC-4 of polynomial x^4 + x + 1. -/
def crc4Bit (c : BitVec 4) (b : Bool) : BitVec 4 := if c.msb != b then (c <<< 1) ^^^ 0x3#4 else c <<< 1

/-- R123: the CRC over bits [14:4] of a frame, first bit first. -/
def crc4 (v : BitVec 11) : BitVec 4 := (List.range 11).foldl (fun c i => crc4Bit c (v.getLsbD (10 - i))) 0

/-- R123: the frame of an OP and its ARG. -/
def frameWord (op : BitVec 3) (arg : BitVec 8) : BitVec 16 := 1#1 ++ op ++ arg ++ crc4 (op ++ arg)

/-- R123: GAIN ×1 or ×16, TRAIN, READ_ID of a word, RUN and RESET. -/
def frameGain (x16 : Bool) : BitVec 16 := frameWord 1 (if x16 then 1 else 0)
def frameTrain : BitVec 16 := frameWord 2 0
def frameReadId (w : Nat) : BitVec 16 := frameWord 3 (BitVec.ofNat 8 w)
def frameRun : BitVec 16 := frameWord 4 0
def frameReset : BitVec 16 := frameWord 6 0

/-- R124: periods from the start of a GAIN frame to the first symbol of the range it commands: 16 of the frame, the fourth
period after it, and three of the quantiser's way back. -/
def gainPeriods : Nat := 22

/-! ### Symbols (R125) -/

/-- R125: the Gray code of a level. -/
def Pam.bits : Pam → Nat
  | .m3 => 0 | .m1 => 1 | .p1 => 3 | .p3 => 2

/-- R125: the symbol code of a period: the first interval carries bits [3:2], the second [1:0]. -/
def symCode (a : Pam × Pam) : Nat := 4 * a.1.bits + a.2.bits

/-- R125: the quantiser value of a valid symbol; code 0 is no value. -/
def symValue : Period → Option Int
  | none => none
  | some a => if symCode a = 0 then none else some ((symCode a : Int) - 8)

/-- R125, R138: the period holds the marker code, a code violation in RUN. -/
def isMarker (p : Period) : Bool := match p with | some a => symCode a == 0 | none => false

/-! ### Filters (R131, R135) -/

/-- A cascade of integrators after one more input, and the last one's value. -/
def integrate : List Int → Int → List Int × Int
  | [], x => ([], x)
  | a :: as, x => let r := integrate as (a + x); ((a + x) :: r.1, r.2)

/-- A cascade of combs after one more input, and the last one's output. -/
def comb : List Int → Int → List Int × Int
  | [], v => ([], v)
  | p :: ps, v => let r := comb ps (v - p); (v :: r.1, r.2)

/-- A weighted sum of a filter's samples, newest first. -/
def fir (tap : Nat → Int) (h : List Int) : Int := ((h.zip (List.range h.length)).map (fun e => tap e.2 * e.1)).sum

/-- R135: the taps of stage 2, of linear phase; the spec gives no coefficients (log 58). -/
def droopTap (k : Nat) : Int := Config.droopTap (min k (40 - k))

/-- R135: the taps of stage 3, a half-band filter of linear phase (log 58). -/
def halfTap (k : Nat) : Int :=
  let d := if k ≤ 39 then 39 - k else k - 39
  if d ≠ 0 ∧ d % 2 = 0 then 0 else Config.halfTap d

/-- The gain of n taps at 0 Hz. -/
def tapSum (tap : Nat → Int) (n : Nat) : Int := ((List.range n).map tap).sum

/-- R126, R135: a decimated sample, scaled so that a mean symbol of 6.000 gives 2^30; symbols count 2^-24 and stage 1 has
a gain of 125^5. The rounding is open (log 2). -/
def decimated (c : Chip) (place : Nat) (acc : Int) : Int :=
  let g := tapSum droopTap 41 * tapSum halfTap 79
  roundOpen c place (acc * 2 ^ 30 * g.sign) (6 * 2 ^ 24 * 125 ^ 5 * g.natAbs)

/-! ### The stream of a lane (R124, R130, R131) -/

/-- What a lane's settings say of its stream: the sign (R126), the ratio (R130), D16, and automatic ranging (R131). -/
structure StreamCfg where
  invert : Bool
  gratio : Nat
  d16 : Int
  auto : Bool
  deriving DecidableEq, Repr

/-- R130: a symbol as it enters the decimator, in units of 2^-24: ×16 symbols are divided by GRATIO. How the quotient is
cut to 24 bits is not stated: towards minus infinity (log 58). -/
def scaledSym (k : StreamCfg) (x16 : Bool) (v : Int) : Int :=
  if x16 then (v * 2 ^ 48) / (k.gratio : Int) else v * 2 ^ 24

/-- R130: the delay of a period of a range in symbols. -/
def rangeDelay (k : StreamCfg) (x16 : Bool) : Nat :=
  if x16 then k.d16.toNat else (-k.d16).toNat

/-- The runs of ranges with one more period, cut to the filter span. -/
def addRun (x16 : Bool) : List (Bool × Nat) → List (Bool × Nat)
  | (r, n) :: rest => if r = x16 then (r, min spanPeriods (n + 1)) :: rest else (x16, 1) :: (r, n) :: rest
  | [] => [(x16, 1)]

/-- The runs within n periods. -/
def cutRuns : Nat → List (Bool × Nat) → List (Bool × Nat)
  | _, [] => []
  | 0, _ => []
  | n + 1, (r, k) :: rest => if n + 1 ≤ k then [(r, n + 1)] else (r, k) :: cutRuns (n + 1 - k) rest

/-- R137: the ×16 range holds the majority of the filter span. -/
def mostly16 (ch : Chain) : Bool :=
  let of := fun (b : Bool) => ((ch.runs.filter (fun e => e.1 == b)).map (·.2)).sum
  decide (of false < of true)

/-- R124: the range in force for the next period. -/
def stepRange (ch : Chain) : Chain :=
  match ch.swap with
  | none => ch
  | some (0, r) => { ch with rx16 := r, swap := none, fInts := List.replicate 3 0, fCombs := List.replicate 3 0, fCnt := 0 }
  | some (n + 1, r) => { ch with swap := some (n, r) }

/-- R131: a raw ×16 symbol in the fast detector, a third-order CIC of decimation 16: its state and the sum it gives every
16th symbol, 16^3 times the mean. -/
def fastStep (ch : Chain) (v : Int) : Chain × Option Int :=
  let i := integrate ch.fInts v
  if ch.fCnt = 15 then
    let d := comb ch.fCombs i.2
    ({ ch with fInts := i.1, fCombs := d.1, fCnt := 0 }, some d.2)
  else ({ ch with fInts := i.1, fCnt := ch.fCnt + 1 }, none)

/-- R131: 5.625 in the detector's units. -/
def fastLimit : Nat := 23040

/-- R135: a scaled symbol enters the decimator; every 1,250th completes a sample. -/
def decimate (c : Chip) (place : Nat) (ch : Chain) (x : Int) : Chain :=
  let i := integrate ch.ints x
  let n := ch.phase + 1
  let ch := { ch with ints := i.1, phase := n % 1250 }
  if n % 125 = 0 then
    let d := comb ch.combs i.2
    let ch := { ch with combs := d.1, fir2 := (d.2 :: ch.fir2).take 41 }
    if n % 625 = 0 then
      let ch := { ch with fir3 := (fir droopTap ch.fir2 :: ch.fir3).take 79 }
      if n % 1250 = 0 then { ch with out := decimated c place (fir halfTap ch.fir3) } else ch
    else ch
  else ch

/-- Periods that bring no symbol (R139). What came before them is dropped: no sample that is not substituted looks behind
them. -/
def missPeriods (ch : Chain) (n : Nat) : Chain :=
  if n = 0 then ch
  else
    let swap := match ch.swap with | some (m, r) => if n ≤ m then some (m - n, r) else none | none => none
    let rx := match ch.swap with | some (m, r) => if n ≤ m then ch.rx16 else r | none => ch.rx16
    { Chain.init with
      phase := (ch.phase + n) % 1250, rx16 := rx, swap := swap, lastSym := ch.lastSym, runs := [(rx, 0)], sinceMiss := 0,
      sinceOver := min spanPeriods (ch.sinceOver + n), invalid := ch.invalid + n,
      out := if 1250 ≤ ch.phase + n then 0 else ch.out }

/-- A lane's stream taken up by one symbol of value v (R130, R131, R134, R135). A fast-detector sample at the limit starts
the switch down (R132). -/
def takeSymbol (c : Chip) (place : Nat) (k : StreamCfg) (l : LaneSt) (v : Int) : LaneSt :=
  let v := if k.invert then -v else v
  let ch := stepRange l.chain
  let line := (scaledSym k ch.rx16 v :: ch.line).take 9
  let big := if v.natAbs = 7 then ch.big + 1 else 0
  let ch := { ch with
    line := line, lastSym := v, runs := cutRuns spanPeriods (addRun ch.rx16 ch.runs), big := big,
    sinceMiss := min spanPeriods (ch.sinceMiss + 1),
    sinceOver := if 4 ≤ big then 0 else min spanPeriods (ch.sinceOver + 1) }
  let (ch, fast) := if ch.rx16 then fastStep ch v else (ch, none)
  let ch := decimate c place ch (line.getD (rangeDelay k ch.rx16) (line.getLastD 0))
  let hit := k.auto && l.state == .run && l.range16 && (match fast with | some s => decide (fastLimit ≤ s.natAbs) | none => false)
  if hit then
    { l with chain := { ch with swap := some (gainPeriods, false) }, range16 := false, quiet := 0,
             swCnt := (l.swCnt + 1) % 2 ^ 32 }
  else { l with chain := ch }

/-- One period of a lane: its symbol; for a violation in RUN the previous valid one, counted (R138); nothing otherwise.
What arrives in RETRAIN is missing (R139). -/
def takePeriod (c : Chip) (place : Nat) (k : StreamCfg) (l : LaneSt) (p : Period) : LaneSt :=
  match symValue p, l.state == .run with
  | some v, true =>
    let l := takeSymbol c place k l v
    { l with chain := { l.chain with invalid := 0, valid := l.chain.valid + 1 } }
  | none, true =>
    if isMarker p then
      let n := l.chain.invalid
      let l := takeSymbol c place { k with invert := false } l l.chain.lastSym
      { l with cv := sat 65535 (l.cv + 1), cvNow := l.cvNow + 1, chain := { l.chain with invalid := n + 1, valid := 0 } }
    else { l with chain := missPeriods l.chain 1 }
  | some _, false =>
    { l with chain := { missPeriods l.chain 1 with invalid := 0, valid := l.chain.valid + 1 }, retrain := l.retrain + 1 }
  | none, false => { l with chain := missPeriods l.chain 1, retrain := l.retrain + 1 }

/-- Several periods, and n more that bring nothing. -/
def takePeriods (c : Chip) (place : Nat) (k : StreamCfg) (l : LaneSt) (ps : List Period) (n : Nat) : LaneSt :=
  let l := ps.foldl (takePeriod c place k) l
  { l with chain := missPeriods l.chain n, retrain := if l.state = .run then l.retrain else l.retrain + n }

/-! ### Training (R128) -/

/-- The steps with an open eye from step i on, round the unit interval, at most n. -/
def openRun (o : List Nat) : Nat → Nat → Nat
  | 0, _ => 0
  | n + 1, i => if 0 < o.getD (i % 32) 0 then openRun o n (i + 1) + 1 else 0

/-- R128: the centre of the widest eye, if any step is open. -/
def eyeCentre (o : List Nat) : Option Nat :=
  let best := (List.range 32).foldl (fun (b : Nat × Nat) i => if b.2 < openRun o 32 i then (i, openRun o 32 i) else b) (0, 0)
  if best.2 = 0 then none else some ((best.1 + best.2 / 2) % 32)

/-- R128: the sequence that a modulator repeats during TRAIN. -/
def trainSequence : List Nat := [0x1, 0xF, 0x5, 0xA, 0x0, 0x8]

/-- R128: the codes received are that sequence, from any place in it, at least once round. -/
def isTraining (codes : List Nat) : Bool :=
  decide (6 ≤ codes.length) && (List.range 6).any (fun i =>
    (codes.zip (List.range codes.length)).all (fun e => e.1 == trainSequence.getD ((i + e.2) % 6) 0))

/-- R128: the ID word in what followed a READ_ID: the marker, then four symbols, most significant nibble first. -/
def idWord (ps : List Period) : Option Nat :=
  match ps.dropWhile (fun p => !isMarker p) with
  | _ :: some a :: some b :: some d :: some e :: _ => some (((symCode a * 16 + symCode b) * 16 + symCode d) * 16 + symCode e)
  | _ => none

/-! ### Corrections (R137) -/

/-- R137: offset and gain of a decimated sample; the rounding of the product is open (log 2). -/
def offsetGain (c : Chip) (n : Nat) (raw : Int) (x16 : Bool) : Int :=
  let ofs := unsgn 32 (liveGet c (if x16 then Reg.MET_LANE_OFS16 n else Reg.MET_LANE_OFS1 n)).toNat
  roundOpen c (1000 + n) ((raw - ofs) * (liveGet c (Reg.MET_LANE_GAIN n)).toNat) (2 ^ 30)

/-- R137: the sample that leaves the delay of MET_LANE_PHASE: whole samples are exact; how a fraction is interpolated the
spec leaves to the device (log 58). Its tag is that of the samples it is made of. -/
def delayed (d : Nat) (h : List Sample) : Sample :=
  let z : Sample := { v := 0, rng16 := false, subst := false, ovr := false, fb := false }
  let a := h.getD (d / 65536) z
  if d % 65536 = 0 then a
  else
    let b := h.getD (d / 65536 + 1) z
    { a with v := Config.interpolate (d % 65536) ((h.drop (d / 65536)).map (·.v)), subst := a.subst || b.subst, ovr := a.ovr || b.ovr }

/-- R137: the DC that the high-pass of OFS_TRACK follows, after a sample; 0.05 Hz fixes its step but for rounding
(log 58). -/
def trackDc (dc v : Int) : Int := dc + (v * 2 ^ 32 - dc) * (Config.trackStep : Int) / 2 ^ 40

/-! ### The quantity engine's delay (R153, R154) -/

/-- R153: a lane's sample of 63 samples ago. -/
def alignedSample (l : LaneSt) : Sample :=
  l.past.getD 63 { v := 0, rng16 := false, subst := false, ovr := false, fb := false }

/-- R154: the voltage shifted 90° lagging at the same instant, by a 127-tap FIR of odd symmetry whose coefficients the
spec leaves to the device (log 58), in units of 2^-30. -/
def hilbert (c : Chip) (place : Nat) (l : LaneSt) : Int :=
  let at' := fun k => ((l.past.getD k { v := 0, rng16 := false, subst := false, ovr := false, fb := false }).v : Int)
  roundOpen c place (((List.range 63).map (fun j => Config.hilbertTap (j + 1) * (at' (64 + j) - at' (62 - j)))).sum) (2 ^ 30)

end Sys2Proof.Machine
end

