-- ==== Sys2Proof/Machine/MeterOps.lean ====
section
/-! DEFINITION. Metering points and lanes (R119 to R141), one sample's arithmetic (R137, R151 to R154), netting
(R155 to R163), readings (R167) and the content of a commit slot (R170). -/

namespace Sys2Proof.Machine

/-! ### Points and their lanes -/

/-- R119: TYPE of point m. -/
def mpType (c : Chip) (m : Nat) : Nat := cfg c (Reg.MET_MP_CFG m) 1 0

/-- R119: first lane of point m. -/
def mpBase (c : Chip) (m : Nat) : Nat := cfg c (Reg.MET_MP_CFG m) 13 8

/-- R145: what point m is bound to: 0 to 7 an outlet, 8 the supply side. -/
def mpBind (c : Chip) (m : Nat) : Nat := cfg c (Reg.MET_MP_CFG m) 19 16

/-- R119: lanes of a point of a TYPE. -/
def laneCount (ty : Nat) : Nat := if ty = 1 then 7 else if ty = 2 then 3 else if ty = 3 then 2 else 0

/-- R121: the first `essentialCount` lanes of a point are essential; an AC point's last is the neutral. -/
def essentialCount (ty : Nat) : Nat := if ty = 1 then 6 else if ty = 2 then 2 else if ty = 3 then 2 else 0

/-- R121: voltage lanes of a point of a TYPE come first. -/
def voltageCount (ty : Nat) : Nat := if ty = 1 then 3 else if ty = 2 then 1 else if ty = 3 then 1 else 0

/-- R70, R71: the point is disabled: its MPOINT bit, but that a change of the bit holds only from the next
angle 0. -/
def pointDisabled (c : Chip) (m : Nat) : Bool :=
  if c.sup.pointsOff.contains m then false
  else if c.sup.pointsOn.contains m then true
  else immBit c Reg.SUP_DISABLE (8 + m)

/-- R119: the point is enabled: TYPE is not 0 and it is not disabled. -/
def pointEnabled (c : Chip) (m : Nat) : Bool := mpType c m != 0 && !pointDisabled c m

/-- R119: lane n belongs to enabled point m. -/
def pointHasLane (c : Chip) (m n : Nat) : Bool :=
  pointEnabled c m && decide (mpBase c m ≤ n) && decide (n < mpBase c m + laneCount (mpType c m))

/-- The enabled point that lane n belongs to. -/
def pointOfLane (c : Chip) (n : Nat) : Option Nat := (List.range 8).find? (fun m => pointHasLane c m n)

/-- R121: the role of lane n in point m: its place from BASE. -/
def laneRole (c : Chip) (m n : Nat) : Nat := n - mpBase c m

/-- R121: lane n is a current lane of its point. -/
def currentLane (c : Chip) (n : Nat) : Bool :=
  match pointOfLane c n with
  | some m => decide (voltageCount (mpType c m) ≤ laneRole c m n)
  | none => false

/-- The point bound to outlet o, if an enabled one is. -/
def pointOfOutlet (c : Chip) (o : Nat) : Option Nat :=
  (List.range 8).find? (fun m => pointEnabled c m && mpBind c m == o)

/-- Lane n. -/
def laneOf (c : Chip) (n : Nat) : LaneSt := tget LaneSt.init c.met.lanes n

/-- Lane n replaced. -/
def setLane (c : Chip) (n : Nat) (l : LaneSt) : Chip := { c with met := { c.met with lanes := tput c.met.lanes n l } }

/-- Point m. -/
def ptOf (c : Chip) (m : Nat) : PointSt := tget PointSt.init c.met.points m

/-- Point m replaced. -/
def setPt (c : Chip) (m : Nat) (p : PointSt) : Chip :=
  { c with met := { c.met with points := tput c.met.points m p } }

/-- R140: a lane that keeps its point metering. -/
def laneMeters (l : LaneSt) : Bool := l.state == .run || l.state == .retrain

/-- R140: a lane that fails its point. -/
def laneDown (l : LaneSt) : Bool := l.state == .failed || l.state == .retired

/-- R140: the state of a point from the states of its lanes, essential ones first (log 9 for the
combinations the table does not list). -/
def stateOfLanes (ess aux : List LaneSt) : Nat :=
  if ess.any (fun l => l.state == .stopped) then 5
  else if ess.any laneDown then 4
  else if ess.all laneMeters then (if aux.all laneMeters then 2 else if aux.any laneDown then 3
    else if aux.any (fun l => l.state == .stopped) then 3 else 1)
  else 1

/-- R140: the state code of point m. -/
def pointState (c : Chip) (m : Nat) : Nat :=
  if pointEnabled c m then
    let ty := mpType c m
    let lanes := (List.range (laneCount ty)).map (fun j => laneOf c (mpBase c m + j))
    stateOfLanes (lanes.take (essentialCount ty)) (lanes.drop (essentialCount ty))
  else 0

/-- R161: the point meters: RUN or RUN_NO_N. -/
def pointMeters (c : Chip) (m : Nat) : Bool := pointState c m == 2 || pointState c m == 3

/-- R127: starts the training of a lane: clock on, RESET and TRAIN frames. -/
def trainLane (c : Chip) (n : Nat) : Chip :=
  emits (setLane c n { laneOf c n with
    state := .train, range16 := false, cause := 0, quiet := 0, chain := Chain.init, delay := [], dc := 0, past := [],
    cur := [], last := [] }) [.laneFrame n frameReset, .laneFrame n frameTrain]

/-- R127: a lane goes OFF: clock off. -/
def laneOff (c : Chip) (n : Nat) : Chip :=
  setLane c n { LaneSt.init with swCnt := (laneOf c n).swCnt, subst := (laneOf c n).subst, cv := (laneOf c n).cv }

/-! ### One sample -/

/-- R126, R130, R131: what the settings of lane n say of its stream. -/
def streamCfg (c : Chip) (n : Nat) : StreamCfg :=
  { invert := cfgBit c (Reg.MET_LANE_CFG n) 4, gratio := (liveGet c (Reg.MET_LANE_GRATIO n)).toNat,
    d16 := unsgn 4 (cfg c (Reg.MET_LANE_D16 n) 3 0),
    auto := currentLane c n && cfg c (Reg.MET_LANE_CFG n) 1 0 == 0 }

/-- R139: the sample put in place of a missing one: on an AC point sample k of the previous cycle, its last if
it is shorter; on a DC point the last valid one. -/
def substitute (l : LaneSt) (dc : Bool) : Int :=
  if dc then (match l.cur with | v :: _ => v | [] => l.last.getLastD 0)
  else match l.last[l.cur.length]? with
    | some v => v
    | none => l.last.getLastD 0

/-- R145: a range switch of lane n, or its leaving RUN, shows in a calibration measurement of it. -/
def calSwitched (c : Chip) (n : Nat) : Chip :=
  let k := c.met.cal
  if k.busy && (k.laneA == n || k.laneB == n) then { c with met := { c.met with cal := { k with switched := true } } } else c

/-- R131, R132: lane n after periods of its stream: a switch down of the fast detector sends GAIN ×1. -/
def feedLane (c : Chip) (n : Nat) (ps : List Period) (miss : Nat) : Chip :=
  let l := laneOf c n
  let l' := takePeriods c (1200 + n) (streamCfg c n) l ps miss
  let c := setLane c n l'
  if l.range16 && !l'.range16 then
    emit (raiseEvt (calSwitched c n) (Reg.MET_LANE_EVT n) 5) (.laneFrame n (frameGain false))
  else c

/-- Periods still to come before the next decimated sample. -/
def periodsLeft (l : LaneSt) : Nat := 1250 - l.chain.phase

/-- R134, R137 to R139: the sample that the chain of lane n has completed: offset and gain, the delay, the high-pass,
then substitution; and the lane's counters, peak and history. -/
def finishSample (c : Chip) (n : Nat) (dcPoint : Bool) : Chip :=
  let l := laneOf c n
  let raw := l.chain.out
  let x16 := mostly16 l.chain
  let miss := decide (l.chain.sinceMiss < spanPeriods)
  let outrun := decide (l.chain.sinceOver < spanPeriods) || (!miss && decide (2 ^ 30 < raw.natAbs))
  let s : Sample := { v := offsetGain c n raw x16, rng16 := x16, subst := miss, ovr := outrun, fb := c.met.fallback }
  let dly := (s :: l.delay).take 32
  let y := delayed (cfg c (Reg.MET_LANE_PHASE n) 19 0) dly
  let track := cfgBit c (Reg.MET_LANE_CFG n) 5
  let dc := if track then trackDc l.dc y.v else 0
  let v := if y.subst then substitute l dcPoint else satInt 32 (if track then y.v - dc / 2 ^ 32 else y.v)
  let y := { y with v := v }
  let c := setLane c n { l with
    delay := dly, dc := dc, cur := v :: l.cur, past := (y :: l.past).take 127,
    peakNow := max l.peakNow raw.natAbs, substNow := l.substNow || y.subst,
    subst := if y.subst then (l.subst + 1) % 2 ^ 32 else l.subst }
  if y.ovr then raiseEvt c (Reg.MET_LANE_EVT n) 1 else c

/-- R131, R137 to R139: a lane in RUN or RETRAIN takes the periods received since its last sample, those that did not come
as missing, and completes its sample. -/
def takeSample (xs : List LaneSample) (dcPoint : Bool) (c : Chip) (n : Nat) : Chip :=
  let l := laneOf c n
  if laneMeters l then
    let left := periodsLeft l
    let x := (xs.find? (fun x => x.lane == n)).getD { lane := n, periods := [], eye := l.eye }
    let ps := x.periods.take left
    let c := feedLane c n ps (left - ps.length)
    let c := setLane c n { laneOf c n with eye := x.eye, eyeTop := max l.eyeTop x.eye }
    finishSample c n dcPoint
  else c

/-- R150: full scale of lane n, mV or mA. -/
def fullScale (c : Chip) (n : Nat) : Nat := (liveGet c (Reg.MET_QE_FS n)).toNat

/-- R150, R153, R155, R156: the energy of one sample pair in 2^-64 Wh; v × i × 62.5 µs scaled by DTCORR. Its
rounding is open (log 2). -/
def pairEnergy (c : Chip) (place : Nat) (v i : Int) (nv ni : Nat) : Int :=
  roundOpen c place (v * i * (fullScale c nv : Int) * (fullScale c ni : Int) * (c.met.dtCorr : Int))
    (2 ^ 30 * 3600000000000)

/-- R153, R154, R159: the pair of a phase added to its sums: voltage lane nv and current lane ni, both of 63 samples
ago. -/
def addPhase (c : Chip) (place : Nat) (ph : PhaseSum) (nv ni : Nat) (rev : Bool) : PhaseSum :=
  let v := (alignedSample (laneOf c nv)).v
  let i0 := (alignedSample (laneOf c ni)).v
  let i := if rev then -i0 else i0
  { p := ph.p + pairEnergy c place v i nv ni,
    q := ph.q + pairEnergy c (place + 1) (hilbert c (1400 + nv) (laneOf c nv)) i nv ni,
    v2 := ph.v2 + v.natAbs ^ 2, i2 := ph.i2 + i.natAbs ^ 2, v1 := ph.v1 + v, i1 := ph.i1 + i, n := ph.n + 1 }

/-- R153: the total of a three-phase point is the sum of its phase products. -/
def addTotals (t : PhaseSum) (olds news : List PhaseSum) : PhaseSum :=
  { t with p := t.p + ((news.map (·.p)).sum - (olds.map (·.p)).sum),
           q := t.q + ((news.map (·.q)).sum - (olds.map (·.q)).sum), n := t.n + 1 }

/-- R153: the square of the neutral's sample of 63 samples ago, while the neutral meters. -/
def neutralSquare (c : Chip) (n : Nat) : Nat :=
  if laneMeters (laneOf c n) then (alignedSample (laneOf c n)).v.natAbs ^ 2 else 0

/-- R153 to R161: one instant of point m, if it meters: the samples of 63 samples ago enter the cycle sums, and the
essential lanes' SUBST and OVR mark the cycle. -/
def measurePoint (c : Chip) (m : Nat) : Chip :=
  if pointMeters c m then
    let ty := mpType c m
    let b := mpBase c m
    let rev := cfgBit c (Reg.MET_QE_PCFG m) 0
    let ess := (List.range (essentialCount ty)).map (fun j => alignedSample (laneOf c (b + j)))
    let p := ptOf c m
    let pl := 2000 + 16 * m
    let p :=
      if ty = 1 then
        let l1 := addPhase c pl p.l1 b (b + 3) rev
        let l2 := addPhase c (pl + 2) p.l2 (b + 1) (b + 4) rev
        let l3 := addPhase c (pl + 4) p.l3 (b + 2) (b + 5) rev
        { p with l1 := l1, l2 := l2, l3 := l3, tot := addTotals p.tot [p.l1, p.l2, p.l3] [l1, l2, l3],
                 n2 := p.n2 + neutralSquare c (b + 6) }
      else if ty = 2 then
        let l1 := addPhase c pl p.l1 b (b + 1) rev
        { p with l1 := l1, tot := addTotals p.tot [p.l1] [l1], n2 := p.n2 + neutralSquare c (b + 2) }
      else
        { p with tot := addPhase c pl p.tot b (b + 1) rev }
    let sb := ess.any (·.subst)
    let ov := ess.any (·.ovr)
    let fb := ess.any (·.fb)
    let c := setPt c m { p with substNow := p.substNow || sb, ovrNow := p.ovrNow || ov, fbNow := p.fbNow || fb }
    let c := if sb then raiseEvt c Reg.MET_QE_EVT 0 else c
    let c := if ov then raiseEvt c Reg.MET_QE_EVT 1 else c
    if fb then raiseEvt c Reg.MET_QE_EVT 2 else c
  else c

/-- R135, R153: one instant of enabled point m: the samples of its lanes, then its sums. -/
def samplePoint (xs : List LaneSample) (c : Chip) (m : Nat) : Chip :=
  if pointEnabled c m then
    let ty := mpType c m
    measurePoint (((List.range (laneCount ty)).map (mpBase c m + ·)).foldl (takeSample xs (ty == 3)) c) m
  else c

/-- R145: a running calibration measurement takes the instant's corrected samples of its lanes, for as many cycles as it
is to measure. -/
def sampleCal (c : Chip) : Chip :=
  let k := c.met.cal
  let la := laneOf c k.laneA
  let lb := laneOf c k.laneB
  if k.busy && decide (k.cycDone < k.cycles) && laneMeters la then
    let a := la.cur.headD 0
    let b := lb.cur.headD 0
    let bad := [la, lb].any (fun l => match l.past with | s :: _ => s.subst || s.ovr | [] => false)
    { c with met := { c.met with cal := { k with
        n := k.n + 1, sa := k.sa + a, sa2 := k.sa2 + a.natAbs ^ 2, sb2 := k.sb2 + b.natAbs ^ 2,
        sab := k.sab + a * b, subst := k.subst || bad } } }
  else c

/-! ### Zero crossings (R99, R102, R263) -/

/-- The positive-going zero crossings of samples, oldest first, in 2^-16 sample from the first one, interpolated between
the two samples either side (log 59). -/
def crossingsFrom (k : Nat) (a : Int) : List Int → List Nat
  | [] => []
  | b :: bs =>
    let rest := crossingsFrom (k + 1) b bs
    if a < 0 ∧ 0 ≤ b then (k * 65536 + a.natAbs * 65536 / (b - a).natAbs) :: rest else rest

/-- The samples of lane n in the running cycle, oldest first, after the last one of the cycle before. -/
def waveOf (l : LaneSt) : List Int :=
  match l.last.getLast? with
  | some v => v :: l.cur.reverse
  | none => l.cur.reverse

/-- Its crossings. -/
def crossings (l : LaneSt) : List Nat :=
  match waveOf l with
  | [] => []
  | a :: bs => crossingsFrom 0 a bs

/-- Its length in 2^-16 sample. -/
def waveLen (l : LaneSt) : Nat := ((waveOf l).length - 1) * 65536

/-- An angle difference brought to ±32,768 AU. -/
def wrapAu (d : Int) : Int := (d + 32768) % 65536 - 32768

/-- R135: the fixed group delay of the decimator, 1,359.25 µs, in AU at the running frequency. -/
def lagAu (c : Chip) : Nat := c.tb.freq * 65536 * 1359250 / 10 ^ 12

/-- The angle of a lane's first positive-going crossing in the cycle that ends, less the decimator's delay (log 59). -/
def zeroAngle (c : Chip) (l : LaneSt) : Option Nat :=
  match crossings l with
  | z :: _ => some ((z * 65536 / waveLen l + 65536 - lagAu c % 65536) % 65536)
  | [] => none

/-! ### Netting at angle 0 -/

/-- R155: a signed sum split into its whole units of 2^-40 Wh and the residue that stays in the sum. -/
def wholePart (e : Int) : Nat := e.natAbs / 2 ^ 24
def residue (e : Int) : Int := if e < 0 then -((e.natAbs % 2 ^ 24 : Nat) : Int) else ((e.natAbs % 2 ^ 24 : Nat) : Int)

/-- The accumulator table with an amount added to a key. -/
def accAdd (t : Tab Nat) (k v : Nat) : Tab Nat := if v = 0 then t else tput t k (tget 0 t k + v)

/-- R158: the quadrant register of the signs of P and Q, as its place in the phase's eight slots. -/
def quadrant (p q : Int) : Nat :=
  if 0 ≤ p then (if 0 < q then 2 else 5) else (if 0 < q then 3 else 4)

/-- R159: Vrms × Irms × T of a phase in 2^-40 VAh; T in 2^-32 s. The rounding of the root is open (log 2). -/
def apparent (c : Chip) (place : Nat) (ph : PhaseSum) (nv ni dur : Nat) : Nat :=
  if ph.n = 0 then 0
  else sqrtOpen c place
    (ph.v2 * ph.i2 * (fullScale c nv * fullScale c ni * dur) ^ 2 * 2 ^ 80
      / (ph.n ^ 2 * 2 ^ 120 * 10 ^ 12 * 3600 ^ 2 * 2 ^ 64))

/-- R157, R158, R159: one phase's netted cycle added to its eight slots from key k. -/
def netSlots (t : Tab Nat) (k : Nat) (p q : Int) (s : Nat) : Tab Nat :=
  let t := accAdd t (if 0 ≤ p then k else k + 1) (wholePart p)
  let t := if q = 0 then t else accAdd t (k + quadrant p q) (wholePart q)
  accAdd t (if 0 ≤ p then k + 6 else k + 7) s

/-- The sums of a phase after netting: the residues only (R155). -/
def afterNet (ph : PhaseSum) : PhaseSum := { PhaseSum.init with p := residue ph.p, q := residue ph.q }

/-- R163, R164: the total's active energy also to the rate register in force, and both to the context credited
in this cycle. -/
def netTotal (c : Chip) (m : Nat) (p : Int) : Chip :=
  let w := wholePart p
  let r := c.tar.rateAt.rate
  let slot := if 0 ≤ p then 24 else 25
  let rslot := if 0 ≤ p then 31 + r else 47 + r
  let pts := accAdd c.acc.points (64 * m + rslot) w
  let ctxs := match tfind c.acc.bound m with
    | some x => accAdd (accAdd c.acc.ctxs (64 * x + slot) w) (64 * x + rslot) w
    | none => c.acc.ctxs
  { c with acc := { c.acc with points := pts, ctxs := ctxs } }

/-- R177: RMS in physical units of 1/1000 from a sum of squares. -/
def rmsOf (c : Chip) (place s2 n fs : Nat) : Nat :=
  if n = 0 then 0 else roundOpenNat c (place + 1) (sqrtOpen c place (s2 * 2 ^ 20 / n) * fs) (2 ^ 40)

/-- R177: mean power of a cycle from its energy in 2^-64 Wh. -/
def powerOf (c : Chip) (place : Nat) (e : Int) (dur : Nat) : Int :=
  if dur = 0 then 0 else roundOpen c place (e * 3600 * 2 ^ 32) (dur * 2 ^ 64)

/-- R177: the eight instantaneous values of row p of point m; PF fills [15:0] only. -/
def putInst (c : Chip) (m p : Nat) (vals : List Int) : Chip :=
  (vals.zip (List.range 8)).foldl
    (fun c (v, w) => regPut c (Reg.MET_QE_INST m p w) (wordOf (sgn (if w = 5 then 16 else 32) v))) c

/-- R177: rows that carry nothing read 0. -/
def clearInst (c : Chip) (m : Nat) (rows : List Nat) : Chip :=
  rows.foldl (fun c p => putInst c m p (List.replicate 8 0)) c

/-- R153: the samples of the running cycle as the quantity engine takes them, 63 samples late. -/
def alignedCycle (l : LaneSt) : List Int :=
  ((l.last ++ l.cur.reverse).drop (l.last.length - 63)).take l.cur.length

/-- R177: distortion to the 63rd harmonic in 0.01 %; without a fundamental it is stated nowhere (log 10). -/
def distortion (c : Chip) (place n : Nat) : Int :=
  let x := alignedCycle (laneOf c n)
  let f := Config.harmonicRms 1 1 x
  if f = 0 then Config.freeNat c.freeCount place
  else sqrtOpen c place (((List.range 62).map (fun h => Config.harmonicRms 1 (h + 2) x ^ 2)).sum * 10 ^ 8 / f ^ 2)

/-- R177: P / S in 1/10,000; S = 0 is stated nowhere and gives a free value (log 10). -/
def powerFactor (c : Chip) (place : Nat) (p s : Int) : Int :=
  if s = 0 then (freeBelow c place 65536 : Int) else roundOpen c place (p * 10000) s.natAbs

/-- R177: the values of an AC phase. -/
def phaseInst (c : Chip) (pl : Nat) (ph : PhaseSum) (nv ni dur s : Nat) : List Int :=
  let pw := powerOf c (pl + 4) ph.p dur
  let sp := if dur = 0 then 0 else roundOpen c (pl + 5) (s * 3600 * 2 ^ 32) (dur * 2 ^ 40)
  [rmsOf c pl ph.v2 ph.n (fullScale c nv), rmsOf c (pl + 2) ph.i2 ph.n (fullScale c ni), pw,
   powerOf c (pl + 6) ph.q dur, sp, powerFactor c (pl + 7) pw sp, distortion c (pl + 8) nv,
   distortion c (pl + 9) ni]

/-- R157 to R160, R177: the netting of point m for a cycle, or a part of one, of duration dur (2^-32 s). -/
def netPoint (dur : Nat) (c : Chip) (m : Nat) : Chip :=
  if pointEnabled c m then
    let ty := mpType c m
    let b := mpBase c m
    let p := ptOf c m
    let pl := 4000 + 64 * m
    let k := 64 * m
    let c :=
      if ty = 1 then
        let s1 := apparent c pl p.l1 b (b + 3) dur
        let s2 := apparent c (pl + 1) p.l2 (b + 1) (b + 4) dur
        let s3 := apparent c (pl + 2) p.l3 (b + 2) (b + 5) dur
        let st := s1 + s2 + s3
        let t := netSlots c.acc.points k p.l1.p p.l1.q s1
        let t := netSlots t (k + 8) p.l2.p p.l2.q s2
        let t := netSlots t (k + 16) p.l3.p p.l3.q s3
        let t := netSlots t (k + 24) p.tot.p p.tot.q st
        let pw := powerOf c (pl + 50) p.tot.p dur
        let sp := if dur = 0 then 0 else roundOpen c (pl + 51) (st * 3600 * 2 ^ 32) (dur * 2 ^ 40)
        let tot : List Int := [0, rmsOf c (pl + 52) p.n2 p.tot.n (fullScale c (b + 6)), pw,
          powerOf c (pl + 54) p.tot.q dur, sp, powerFactor c (pl + 55) pw sp, 0, 0]
        let c := putInst c m 0 (phaseInst c (pl + 10) p.l1 b (b + 3) dur s1)
        let c := putInst c m 1 (phaseInst c (pl + 20) p.l2 (b + 1) (b + 4) dur s2)
        let c := putInst c m 2 (phaseInst c (pl + 30) p.l3 (b + 2) (b + 5) dur s3)
        let c := putInst c m 3 tot
        { c with acc := { c.acc with points := t } }
      else if ty = 2 then
        let s1 := apparent c pl p.l1 b (b + 1) dur
        let t := netSlots c.acc.points k p.l1.p p.l1.q s1
        let t := netSlots t (k + 24) p.tot.p p.tot.q s1
        let row := phaseInst c (pl + 10) p.l1 b (b + 1) dur s1
        let c := putInst c m 0 row
        let c := putInst c m 3 ([0, (rmsOf c (pl + 52) p.n2 p.tot.n (fullScale c (b + 2)) : Int)]
          ++ (row.drop 2).take 4 ++ [0, 0])
        let c := clearInst c m [1, 2]
        { c with acc := { c.acc with points := t } }
      else
        let t := accAdd c.acc.points (if 0 ≤ p.tot.p then k + 24 else k + 25) (wholePart p.tot.p)
        let mean := fun (pl : Nat) (s : Int) (fs : Nat) =>
          if p.tot.n = 0 then 0 else roundOpen c pl (s * fs) (p.tot.n * 2 ^ 30)
        let pw := powerOf c (pl + 50) p.tot.p dur
        let c := putInst c m 3 [mean (pl + 52) p.tot.v1 (fullScale c b),
          mean (pl + 53) p.tot.i1 (fullScale c (b + 1)), pw, 0, 0, powerFactor c (pl + 55) pw 0, 0, 0]
        let c := clearInst c m [0, 1, 2]
        { c with acc := { c.acc with points := t } }
    let c := netTotal c m p.tot.p
    let tot' := if ty = 3 then { afterNet p.tot with q := 0 } else afterNet p.tot
    setPt c m { p with
      l1 := afterNet p.l1, l2 := afterNet p.l2, l3 := afterNet p.l3, tot := tot', n2 := 0,
      substNow := false, ovrNow := false, fbNow := false, substCyc := p.substNow, ovrCyc := p.ovrNow, fbCyc := p.fbNow,
      cntSubst := if p.substNow then (p.cntSubst + 1) % 2 ^ 32 else p.cntSubst,
      cntOvr := if p.ovrNow then (p.cntOvr + 1) % 2 ^ 32 else p.cntOvr,
      cntFb := if p.fbNow then (p.cntFb + 1) % 2 ^ 32 else p.cntFb }
  else
    let p := ptOf c m
    setPt c m { p with substNow := false, ovrNow := false, fbNow := false, substCyc := p.substNow, ovrCyc := p.ovrNow,
                       fbCyc := p.fbNow }

/-- R157: the netting of every point. -/
def netAll (dur : Nat) (c : Chip) : Chip := takeFree ((List.range 8).foldl (netPoint dur) c)

/-! ### Readings -/

/-- R167: the 96-bit reading of an accumulator. -/
def reading (a : Nat) : Nat := a * 1000 / 256

/-- R167: the legacy window, whole Wh modulo 2^32. -/
def legacyWh (a : Nat) : Nat := a / 2 ^ 40 % 2 ^ 32

/-- The accumulator of slot k of point m. -/
def pointAcc (c : Chip) (m k : Nat) : Nat := tget 0 c.acc.points (64 * m + k)

/-- R164: the accumulator of slot k of context x: slots 24, 25 and 32 to 63 only. -/
def ctxAcc (c : Chip) (x k : Nat) : Nat := tget 0 c.acc.ctxs (64 * x + k)

/-- R203: the slots a context has, in the order of its body. -/
def ctxSlots : List Nat := [24, 25] ++ (List.range 32).map (32 + ·)

/-! ### Commit slots -/

/-- R170: the content of a slot made now. SEQ is one more than the last slot's, queued ones included. -/
def buildSlot (c : Chip) (kind angle : Nat) (step : Bool) : CommitSlot :=
  { seq := c.acc.lastSeq + c.acc.due.length + 1, cycle := c.tb.cycle, kind := kind, noHold := noHold c,
    fallback := (List.range 8).any (fun m => pointEnabled c m && (ptOf c m).fbCyc), step := step, angle := angle,
    freq := c.tb.freq, wall := time16 c.tb.wall, hwm := time16 c.tb.hwm,
    pmask := ((List.range 8).filter (pointEnabled c)).foldl (fun a m => a + 2 ^ m) 0,
    fmask := ((List.range 8).filter (fun m => !pointMeters c m)).foldl (fun a m => a + 2 ^ m) 0,
    points := c.acc.points,
    counts := (List.range 8).flatMap (fun m =>
      [(4 * m, (ptOf c m).cntSubst), (4 * m + 1, (ptOf c m).cntOvr), (4 * m + 2, (ptOf c m).cntFb),
       (4 * m + 3, pointState c m)]),
    sess := c.acc.bound.map (fun (m, x) => (x, m, ctxSlots.map (fun k => (k, ctxAcc c x k)))) }

/-- R170: the fields of an instant: 48-bit seconds, then the fraction. -/
def slotTime (t : Nat) : List Byte := leBytes 6 (t / 2 ^ 16) ++ leBytes 2 t

/-- R170: the 1,040 bytes of point m. -/
def slotPoint (sl : CommitSlot) (m : Nat) : List Byte :=
  (List.range 64).flatMap (fun k => leBytes 16 (tget 0 sl.points (64 * m + k)))
    ++ (List.range 4).flatMap (fun j => leBytes 4 (tget 0 sl.counts (4 * m + j)))

/-- R170: the 560 bytes of place i of SESS; 0xFFFF where no context is bound. -/
def slotSess (sl : CommitSlot) (i : Nat) : List Byte :=
  match sl.sess[i]? with
  | some (x, m, vals) =>
    leBytes 2 x ++ leBytes 1 m ++ List.replicate 13 0#8 ++ ctxSlots.flatMap (fun k => leBytes 16 (tget 0 vals k))
  | none => leBytes 2 0xFFFF ++ List.replicate 558 0#8

/-- R170: bytes 0 to 16,379 of a slot. -/
def slotBody (sl : CommitSlot) : List Byte :=
  leBytes 4 0x51434D54 ++ leBytes 8 sl.seq ++ leBytes 6 sl.cycle ++ leBytes 1 sl.kind
    ++ leBytes 1 (placeBit 0 sl.noHold + placeBit 1 sl.fallback + placeBit 2 sl.step) ++ leBytes 2 sl.angle ++ leBytes 2 0
    ++ leBytes 4 sl.freq ++ slotTime sl.wall ++ slotTime sl.hwm ++ leBytes 1 sl.pmask ++ leBytes 1 sl.fmask
    ++ List.replicate 18 0#8 ++ (List.range 8).flatMap (slotPoint sl) ++ (List.range 8).flatMap (slotSess sl)
    ++ List.replicate 3516 0#8

/-- R170: the 16 KiB image of a slot, its CRC last. -/
def slotImage (sl : CommitSlot) : List Byte := slotBody sl ++ leBytes 4 (crc32 (slotBody sl)).toNat

/-- R169: bytes of a place of the ring. -/
def slotSize : Nat := 16384

/-- R171: MAGIC and CRC of a place are correct: its image has been written to the end. -/
def slotValid (r : RingSlot) : Bool := r.written == slotSize

/-- R171: in Quarantine after a ring without a valid slot, and without a restore, nothing is committed. -/
def mayCommit (c : Chip) : Bool := c.acc.restored && !c.acc.ended

/-- R19: the MRAM interface is lost while its source reports a fault present. -/
def mramLost (c : Chip) : Bool := (tget Src.init c.flt.srcs 119).present

/-- R169: the place after the slot last written. -/
def nextPlace (c : Chip) : Nat := if c.acc.ring.isEmpty && c.acc.gaspRing.isEmpty then 0 else (c.acc.lastSlot + 1) % 64

/-- R19: a place of the ring in use is written. -/
def putRing (c : Chip) (k : Nat) (r : RingSlot) : Chip :=
  if mramLost c then { c with acc := { c.acc with gaspRing := tput c.acc.gaspRing k r } }
  else { c with acc := { c.acc with ring := tput c.acc.ring k r } }

/-- R171: the write under way is torn: how far it has come is free, but that the CRC is missing. What waits behind it is
lost. -/
def tearSlot (c : Chip) : Chip :=
  match c.acc.due with
  | [] => c
  | sl :: _ =>
    let c := putRing c (nextPlace c) { slot := sl, written := freeBelow c 7200 slotSize }
    takeFree { c with acc := { c.acc with due := [] } }

/-- R171: the valid slot with the highest SEQ, with its place. -/
def newestSlot (c : Chip) : Option (Nat × CommitSlot) :=
  ((c.acc.ring ++ c.acc.gaspRing).filter (fun e => slotValid e.2)).foldl (fun a e => match a with
    | some b => if b.2.seq < e.2.slot.seq then some (e.1, e.2.slot) else a
    | none => some (e.1, e.2.slot)) none

/-- R172, R173: dispatches a slot to its MRAM write. -/
def dispatchSlot (c : Chip) (sl : CommitSlot) : Chip :=
  if !mayCommit c then c else { c with acc := { c.acc with due := c.acc.due ++ [sl] } }

end Sys2Proof.Machine
end

