-- ==== Sys2Proof/Machine/FabOps.lean ====
section
/-! DEFINITION. The Felt fabric as other blocks use it: ports, the link-state database, routes (R380), sending
frames (R374 to R376, R381), the topology (R393), and the holders of session replicas (R395, R396). -/

namespace Sys2Proof.Machine

/-! ### Ports and membership -/

/-- Port p. -/
def fport (c : Chip) (p : Nat) : FPortSt := tget FPortSt.init c.fab.ports p

/-- Port p replaced. -/
def setFport (c : Chip) (p : Nat) (x : FPortSt) : Chip :=
  { c with fab := { c.fab with ports := tput c.fab.ports p x } }

/-- R400: the link of a port is up. -/
def portUp (x : FPortSt) : Bool := x.state == .full || x.state == .standby

/-- R425: FAB_STATUS.KEY_OK. -/
def keyOk (c : Chip) : Bool := c.tru.siteLoaded

/-- R376: the flags byte F of this module. -/
def ownFlags (c : Chip) : Nat :=
  placeBit 0 (cfgBit c Reg.FAB_CFG 1) + placeBit 1 (c.sup.mode == .standby) + placeBit 2 (cfgBit c Reg.FAB_CFG 2)
    + placeBit 3 (ready c .svc)

/-- R400: RATED of this module, kW. -/
def ownRated (c : Chip) : Nat := cfg c Reg.FAB_MOD_CFG 15 0

/-- R400: the cost of port p: 0 acts as 1. -/
def portCost (c : Chip) (p : Nat) : Nat := max 1 (imm c (Reg.FAB_PORT_COST p) 15 0)

/-- R376: the links of this module: its up ports with a known neighbour. -/
def ownLinks (c : Chip) : List FLink :=
  (List.range 4).filterMap (fun p =>
    let x := fport c p
    if portUp x then x.nbr.map (fun a =>
      { nbr := a, port := p, rate := if x.state == .standby then 1 else 0, cost := portCost c p }) else none)

/-- R376: this module's own LSA as a record. -/
def ownLsa (c : Chip) : LsaRec :=
  { unit := c.tru.unit, addr := c.fab.addr, seq := c.fab.lsaSeq, rated := ownRated c, flags := ownFlags c,
    links := ownLinks c, aged := false, ttl := 32 }

/-- R379: the membership, this module first. -/
def members (c : Chip) : List LsaRec := ownLsa c :: c.fab.db

/-! ### Routes (R380) -/

/-- R380: what a link costs: one at standby rate 250 times as much. -/
def linkCost (l : FLink) : Nat := if l.rate = 1 then l.cost * 250 else l.cost

/-- The cost from u to v as u states it, of the cheapest of parallel links; none if u does not list v. -/
def sideCost (u : LsaRec) (v : Nat) : Option Nat := ((u.links.filter (fun l => l.nbr == v)).map linkCost).min?

/-- R380: the usable links between members: both ends list them, and the cost is the greater of the two. -/
def edges (c : Chip) : List (Nat × Nat × Nat) :=
  let ms := (members c).filter (fun r => !r.aged)
  ms.flatMap (fun u => u.links.filterMap (fun l =>
    match ms.find? (fun v => v.addr == l.nbr) with
    | none => none
    | some v =>
      match sideCost u v.addr, sideCost v u.addr with
      | some a, some b => some (u.addr, v.addr, max a b)
      | _, _ => none))

/-- A path to a member: cost, hops and the address of its first hop. -/
structure Path where
  cost : Nat
  hops : Nat
  first : Nat
  deriving DecidableEq, Repr

/-- R380: the better of two paths: lower cost, then lower first hop. -/
def betterPath (a b : Path) : Bool :=
  decide (a.cost < b.cost) || (a.cost == b.cost && decide (a.first < b.first))

/-- One pass over the links from `self`. -/
def relax (self : Nat) (es : List (Nat × Nat × Nat)) (t : Tab Path) : Tab Path :=
  es.foldl (fun t (u, v, w) =>
    if v = self then t
    else
      let cand : Option Path :=
        if u = self then some { cost := w, hops := 1, first := v }
        else (tfind t u).map (fun p => { cost := p.cost + w, hops := p.hops + 1, first := p.first })
      match cand with
      | none => t
      | some p =>
        match tfind t v with
        | none => tput t v p
        | some q => if betterPath p q then tput t v p else t) t

/-- n passes. -/
def relaxN (self : Nat) (es : List (Nat × Nat × Nat)) : Nat → Tab Path → Tab Path
  | 0, t => t
  | n + 1, t => relaxN self es n (relax self es t)

/-- R380: the shortest path to each member. -/
def routes (c : Chip) : Tab Path := relaxN c.fab.addr (edges c) (members c).length []

/-- R380: a member is reachable: it is this module, or at most 32 hops away. -/
def reachable (c : Chip) (a : Nat) : Bool :=
  a == c.fab.addr || (match tfind (routes c) a with | some p => decide (p.hops ≤ 32) | none => false)

/-- R376: hops to a member. -/
def hopsTo (c : Chip) (a : Nat) : Nat := match tfind (routes c) a with | some p => p.hops | none => 0

/-- R380: the port to the first hop on the way to a member: of parallel links the cheapest. -/
def portToward (c : Chip) (a : Nat) : Option Nat :=
  match tfind (routes c) a with
  | none => none
  | some p =>
    (((ownLinks c).filter (fun l => l.nbr == p.first)).foldl (fun b l => match b with
      | none => some l
      | some k => if linkCost l < linkCost k then some l else some k) none).map (·.port)

/-- The links that are left without those between this module and one neighbour. -/
def edgesWithout (c : Chip) (nbr : Nat) : List (Nat × Nat × Nat) :=
  (edges c).filter (fun e => !(e.1 == c.fab.addr && e.2.1 == nbr) && !(e.1 == nbr && e.2.1 == c.fab.addr))

/-- R372: a standby-rate link of this module is the sole path to some member. -/
def onlyViaStandby (c : Chip) (p : Nat) : Bool :=
  match (fport c p).nbr with
  | some a =>
    let left := relaxN c.fab.addr (edgesWithout c a) (members c).length []
    (fport c p).state == .standby && (routes c).any (fun e => (tfind left e.1).isNone)
  | none => false

/-- R372: what crosses a port at its present rate. -/
def carries (c : Chip) (p typ : Nat) : Bool :=
  match (fport c p).state with
  | .full => true
  | .standby =>
    decide (typ ∈ [0x01, 0x02, 0x03, 0x04, 0x0B, 0x0C, 0x0D, 0x0E, 0x0F, 0x10])
      || (decide (typ ∈ [0x05, 0x06]) && onlyViaStandby c p)
  | _ => false

/-! ### Sending -/

/-- R374: the SEQ of the next frame of a type. -/
def nextFeltSeq (c : Chip) (typ : Nat) : Nat := tget 0 c.fab.seqs typ + 1

/-- R374: counts a frame of a type. -/
def countFelt (c : Chip) (typ : Nat) : Chip :=
  { c with fab := { c.fab with seqs := tput c.fab.seqs typ (nextFeltSeq c typ) } }

/-- R374: DST of a flood. -/
def floodDst : Nat := 0x8000

/-- R374: DST of a frame to the neighbour: its address; open while that is not known (log 28). -/
def linkDst (c : Chip) (p : Nat) : Nat :=
  match (fport c p).nbr with
  | some a => a
  | none => freeBelow c 6450 1024

/-- R374: bytes 0 to 17 of a frame of this module. -/
def feltHead (c : Chip) (typ dst len : Nat) : List Byte :=
  beBytes 1 1 ++ beBytes 1 typ ++ beBytes 2 dst ++ beBytes 2 c.fab.addr ++ beBytes 1 32 ++ beBytes 1 0 ++ beBytes 4 c.fab.epoch
    ++ beBytes 4 (nextFeltSeq c typ) ++ beBytes 2 len

/-- R375: the nonce of a frame of this module. -/
def feltNonce (c : Chip) (typ : Nat) : List Byte :=
  beBytes 2 c.fab.addr ++ beBytes 1 typ ++ beBytes 1 0 ++ beBytes 4 (nextFeltSeq c typ) ++ beBytes 4 c.fab.epoch

/-- True wall time in UTC nanoseconds, as the fabric carries it (R376). -/
def nowNs (c : Chip) : Nat := c.tb.wall * 10 ^ 9 / 2 ^ 32

/-- R425: the key in use for sending: the latest activated one. -/
def currentKey (c : Chip) : Option Word :=
  (c.tru.siteKeys.filter (fun k => decide (k.activation ≤ nowNs c))).foldl (fun a k =>
    match a with
    | some (at', _) => if at' < k.activation then some (k.activation, k.keyId) else a
    | none => some (k.activation, k.keyId)) none |>.map (·.2)

/-- R425: the wrapped site key that frames are sent under. -/
def sendWrapped (c : Chip) : List Byte :=
  match c.tru.siteKeys.find? (fun k => currentKey c == some k.keyId) with
  | some k => k.wrapped
  | none => []

/-- R374, R375: a frame of this module, from VER to FCS. -/
def feltFrame (c : Chip) (typ dst : Nat) (payload : List Byte) : List Byte :=
  let head := feltHead c typ dst payload.length
  let body := head ++ beBytes 2 (crc16 head).toNat ++ payload
  let tagged := body ++ beBytes 16 (Config.gcmTag (sendWrapped c) (feltNonce c typ) body).toNat
  tagged ++ beBytes 4 (crc32 tagged).toNat

/-- R375, R376: a frame to the neighbour on port p. -/
def sendLink (c : Chip) (p typ : Nat) (payload : List Byte) : Chip :=
  if keyOk c && portUp (fport c p) && carries c p typ then
    emit (countFelt c typ) (.felt p (feltFrame c typ (linkDst c p) payload))
  else c

/-- R381: a flood on every up port that carries it. -/
def sendFlood (c : Chip) (typ : Nat) (payload : List Byte) : Chip :=
  if keyOk c then
    emits (countFelt c typ) (((List.range 4).filter (fun p => carries c p typ)).map (fun p =>
      .felt p (feltFrame c typ floodDst payload)))
  else c

/-- R380: a frame to one member along its route. -/
def sendTo (c : Chip) (typ dst : Nat) (payload : List Byte) : Chip :=
  match portToward c dst with
  | some p =>
    if keyOk c && reachable c dst && carries c p typ then
      emit (countFelt c typ) (.felt p (feltFrame c typ dst payload))
    else c
  | none => c

/-- R376: the 16 bytes of a unit identifier or session identifier. -/
def id16 (u : BitVec 128) : List Byte := beBytes 16 u.toNat

/-- R376: floods this module's LSA with the next LSA_SEQ. -/
def floodLsa (c : Chip) : Chip :=
  if c.fab.addrValid then
    let c := { c with fab := { c.fab with lsaSeq := c.fab.lsaSeq + 1 } }
    let l := ownLsa c
    sendFlood c 0x03 (id16 l.unit ++ beBytes 4 l.seq ++ beBytes 2 l.rated ++ beBytes 1 l.flags
      ++ beBytes 1 l.links.length ++ l.links.flatMap (fun k =>
        beBytes 2 k.nbr ++ beBytes 1 k.port ++ beBytes 1 k.rate ++ beBytes 2 k.cost))
  else c

/-- R376, R379: floods LEAVE with its reason: 0 Deep-standby, 1 EN cleared, 2 Hold-up. -/
def floodLeave (c : Chip) (reason : Nat) : Chip :=
  if c.fab.addrValid then sendFlood c 0x0C (id16 c.tru.unit ++ beBytes 1 reason) else c

/-! ### Topology (R379, R380, R382, R393) -/

/-- R400: a bit of FAB_EVT. -/
def fabEvt (c : Chip) (b : Nat) : Chip := raiseEvt c Reg.FAB_EVT b

/-- The fabric changed by f. -/
def modFab (c : Chip) (f : Fab → Fab) : Chip := { c with fab := f c.fab }

/-- Port p changed by f. -/
def modPort (c : Chip) (p : Nat) (f : FPortSt → FPortSt) : Chip := setFport c p (f (fport c p))

/-- R388, R400: a member is unreachable. -/
def partitioned (c : Chip) : Bool := c.fab.db.any (fun r => !reachable c r.addr)

/-- R372: WAKE on a standby-rate link that alone leads to some member. -/
def wakeLinks (c : Chip) : Chip :=
  if c.sup.mode = .standby then c
  else (List.range 4).foldl (fun c p =>
    if onlyViaStandby c p && !(fport c p).wakeSent then
      sendLink (modPort c p (fun x => { x with wakeSent := true })) p 0x0D []
    else c) c

/-- The identity of a member by its address. -/
def unitOf (c : Chip) (a : Nat) : Nat :=
  if a = c.fab.addr then c.tru.unit.toNat
  else match c.fab.db.find? (fun r => r.addr == a) with
    | some r => r.unit.toNat
    | none => 2 ^ 128

/-- R393: the Milliner of this module's partition. -/
def electMilliner (c : Chip) : Option Nat :=
  ((members c).filter (fun r => reachable c r.addr && !r.aged && bitOf (wordOf r.flags) 0 && bitOf (wordOf r.flags) 3)).foldl
    (fun b r => match b with
      | none => some r.addr
      | some a => if unitOf c r.addr < unitOf c a then some r.addr else some a) none

/-- R393: the Milliner in force follows the election, in fallback only. -/
def followMilliner (c : Chip) : Chip :=
  if c.fab.mode = .fallback then
    let m := electMilliner c
    if m = c.fab.milliner then c else fabEvt (modFab c (fun f => { f with milliner := m })) 6
  else c

/-- R393: on a merge the Milliner of higher identity yields at once. -/
def yieldMilliner (c : Chip) : Chip :=
  if c.fab.mode = .fallback ∧ c.fab.milliner = some c.fab.addr ∧ electMilliner c ≠ some c.fab.addr then followMilliner c
  else c

/-- R380, R393, R394: the link state has changed: routes, partition and waking links; a change of the membership
restarts the count of steady rounds. -/
def topoChanged (c : Chip) (membership : Bool) : Chip :=
  let c := fabEvt c 2
  let c := modFab c (fun f => { f with partition := partitioned c, steady := if membership then 0 else f.steady })
  let far := c.fab.db.any (fun r => !r.aged && (match tfind (routes c) r.addr with | some p => decide (32 < p.hops) | none => false))
  let c := if far then fabEvt c 13 else c
  wakeLinks (yieldMilliner c)

/-! ### Holders of replicas -/

/-- R195: a session's 8-byte start time. -/
def wallBytes (t : Nat) : List Byte := beBytes 8 t

/-- Context x. -/
def ctxOf (c : Chip) (x : Nat) : Context := tget Context.init c.sess.ctxs x

/-- Context x replaced. -/
def setCtx (c : Chip) (x : Nat) (k : Context) : Chip :=
  { c with sess := { c.sess with ctxs := tput c.sess.ctxs x k } }

/-- The context of a session identifier that is not FREE. -/
def ctxOfSession (c : Chip) (sid : BitVec 128) : Option Nat :=
  (c.sess.ctxs.find? (fun (_, k) => k.sessionId == sid && k.bstate != .free)).map (·.1)

/-- R183: CAL_ID of the active calendar; 0 if none. -/
def calId (c : Chip) : Nat := match c.tar.active with | some ws => (ws.getD 0 0).toNat | none => 0

/-- R376: the payload of REPLICA_OPEN. -/
def replicaOpenBytes (c : Chip) (x : Nat) (primary : Bool) : List Byte :=
  let k := ctxOf c x
  id16 k.sessionId ++ id16 k.authRef ++ beBytes 1 x ++ beBytes 1 k.outlet ++ beBytes 1 k.point
    ++ beBytes 1 (if primary then 0 else 1) ++ beBytes 6 k.startCycle ++ wallBytes k.startWall
    ++ beBytes 4 (calId c) ++ k.price.flatMap (fun w => beBytes 4 w.toNat)

/-- R395: members that may hold a replica of a session: reachable, SVC ready, not STANDBY, neither a holder of
it already nor one that refused it; by hops, then identity. -/
def replicaCandidates (c : Chip) (sid : BitVec 128) : List LsaRec :=
  let ok := c.fab.db.filter (fun r =>
    !r.aged && reachable c r.addr && bitOf (wordOf r.flags) 3 && !bitOf (wordOf r.flags) 1
      && !c.repl.holders.any (fun h => h.sessionId == sid && h.addr == r.addr && h.state != .closing)
      && !c.repl.refused.contains (sid, r.addr))
  ok.mergeSort (fun a b => decide (hopsTo c a.addr < hopsTo c b.addr)
    || (hopsTo c a.addr == hopsTo c b.addr && decide (a.unit.toNat ≤ b.unit.toNat)))

/-- R395: a holder is asked to take the replica of context x. -/
def askHolder (c : Chip) (x : Nat) (primary : Bool) (r : LsaRec) : Chip :=
  let k := ctxOf c x
  let h : Holder :=
    { sessionId := k.sessionId, outlet := k.outlet, addr := r.addr, primary := primary, state := .asked,
      ackCycle := 0, reason := 0, seq := 0 }
  let c := { c with repl := { c.repl with holders := c.repl.holders ++ [h] } }
  sendTo (setCtx c x { k with peers := k.peers ++ [r.addr] }) 0x07 r.addr (replicaOpenBytes c x primary)

/-- R395: a role of a session that no holder fills. -/
def roleMissing (c : Chip) (sid : BitVec 128) (primary : Bool) : Bool :=
  !c.repl.holders.any (fun h => h.sessionId == sid && h.primary == primary && h.state != .closing)

/-- R395: places what replicas of context x are missing, primary first. -/
def placeReplicas (c : Chip) (x : Nat) : Chip :=
  let sid := (ctxOf c x).sessionId
  let place := fun (c : Chip) (primary : Bool) =>
    if roleMissing c sid primary then
      match replicaCandidates c sid with
      | r :: _ => askHolder c x primary r
      | [] => c
    else c
  place (place c true) false

/-- R376: the payload of REPLICA_UPDATE of context x. -/
def replicaUpdateBytes (c : Chip) (x : Nat) : List Byte :=
  let k := ctxOf c x
  id16 k.sessionId ++ beBytes 6 c.acc.finCycle ++ wallBytes (time16 c.acc.finWall)
    ++ beBytes 4 (k.energised / 2 ^ 32) ++ beBytes 2 k.flags.toNat
    ++ ctxSlots.flatMap (fun s => beBytes 16 (ctxAcc c x s))

/-- R396: an update of context x to each of its holders. -/
def sendUpdates (c : Chip) (x : Nat) : Chip :=
  (c.repl.holders.filter (fun h => h.sessionId == (ctxOf c x).sessionId && h.state == .held)).foldl
    (fun c h => sendTo c 0x08 h.addr (replicaUpdateBytes c x)) c

/-- R376, R396: REPLICA_CLOSE to a member: reason 0 settled, 1 moved, 2 evicted. -/
def sendClose (c : Chip) (sid : BitVec 128) (addr reason seq : Nat) : Chip :=
  sendTo c 0x0A addr (id16 sid ++ beBytes 1 reason ++ beBytes 7 0 ++ beBytes 8 (if reason = 0 then seq else 0))

/-- R396: once the session body has been written: a final update and the close, to be repeated until told. -/
def closeHolders (c : Chip) (x seq : Nat) : Chip :=
  let sid := (ctxOf c x).sessionId
  let c := sendUpdates c x
  let mine := c.repl.holders.filter (fun h => h.sessionId == sid)
  let c := { c with repl := { c.repl with holders := c.repl.holders.map (fun h =>
    if h.sessionId == sid then { h with state := .closing, reason := 0, seq := seq } else h) } }
  mine.foldl (fun c h => sendClose c sid h.addr 0 seq) c

end Sys2Proof.Machine
end

