-- ==== Sys2Proof/Machine/SessOps.lean ====
section
/-! DEFINITION. The billing life of a session context (R198 to R203, R364): start, stop, settlement at angle 0,
the session body and its price, and the freeing of a context. -/

namespace Sys2Proof.Machine

/-! ### Rounding rules the spec states (R202) -/

/-- A quotient rounded half away from zero. -/
def divHalfAway (a : Int) (d : Nat) : Int :=
  let q : Nat := (2 * a.natAbs + d) / (2 * d)
  if a < 0 then -(q : Int) else q

/-- A quotient rounded half up. -/
def divHalfUp (a d : Nat) : Nat := (2 * a + d) / (2 * d)

/-! ### Contexts -/

/-- R198, R200: frees a context. -/
def freeCtx (c : Chip) (x : Nat) : Chip := setCtx c x Context.init

/-- The contexts in a billing state, as (index, context). -/
def ctxsIn (c : Chip) (b : BState) : List (Nat × Context) := c.sess.ctxs.filter (fun (_, k) => k.bstate == b)

/-- The entry of longest standing of a list. -/
def eldest : List (Nat × Context) → Option (Nat × Context)
  | [] => none
  | e :: es => match eldest es with
    | none => some e
    | some f => if f.2.since < e.2.since then some f else some e

/-- The lowest FREE context. -/
def firstFree (c : Chip) : Option Nat :=
  (List.range 256).find? (fun x => (ctxOf c x).bstate == .free)

/-- R200: a context for a start: a FREE one; failing that the longest AWAITING, failing that the oldest REPLICA,
whose sender is told. -/
def claimCtx (c : Chip) : Option (Nat × Chip) :=
  match firstFree c with
  | some x => some (x, c)
  | none =>
    match eldest (ctxsIn c .awaiting) with
    | some (x, _) => some (x, raiseEvt (freeCtx c x) Reg.TAR_EVT 8)
    | none =>
      match eldest (ctxsIn c .replica) with
      | some (x, k) =>
        let c := sendClose c k.sessionId k.replOrigin 2 0
        some (x, raiseEvt (freeCtx c x) Reg.TAR_EVT 8)
      | none => none

/-- R217, R218: point m counts as uncalibrated. -/
def uncalibrated (c : Chip) (m : Nat) : Bool := c.leg.sealOpen || c.leg.uncal.getLsbD m

/-- R199: the LIVE context of an outlet. -/
def liveCtx (c : Chip) (o : Nat) : Option Nat :=
  (c.sess.ctxs.find? (fun (_, k) => k.bstate == .live && k.outlet == o)).map (·.1)

/-- R199: a context can be freed under R200. -/
def ctxAvailable (c : Chip) : Bool :=
  (firstFree c).isSome || !(ctxsIn c .awaiting).isEmpty || !(ctxsIn c .replica).isEmpty

/-- R199: a billed session start is refused. -/
def startRefused (c : Chip) (o ptable : Nat) : Bool :=
  !c.tb.valid || c.sup.lcs != .deployed || logFull c
    || (match pointOfOutlet c o with
        | some m => !pointMeters c m || uncalibrated c m
        | none => true)
    || (liveCtx c o).isSome || (tfind c.tar.prices ptable).isNone || !ctxAvailable c

/-- R364: the starts an outlet has recorded. -/
def startsOf (c : Chip) (o : Nat) : List StartRec := tget [] c.sess.starts o

/-- R198: a start accepted under R199: the context LIVE, its slots zeroed, the price table copied, the binding
set for the next cycle (R164), the start recorded in the same write (R364), replicas placed (R395). The
session identifier is a free value (log 11). -/
def startSession (c : Chip) (o ptable : Nat) (authRef : BitVec 128) (host : Bool) (tag : Word) :
    Option (Nat × Chip) :=
  match claimCtx c with
  | none => none
  | some (x, c) =>
    let sid := BitVec.ofNat 128 (Config.freeNat c.freeCount 1)
    let c := takeFree c
    let m := (pointOfOutlet c o).getD 0
    let k : Context := { Context.init with
      bstate := .live, outlet := o, point := m, sessionId := sid, authRef := authRef, ptable := ptable,
      price := tget [] c.tar.prices ptable, origin := c.fab.addr, settler := c.fab.addr,
      startCycle := c.tb.cycle + 1 }
    let rec' : StartRec := { host := host, tag := tag, sessionId := sid, ctx := x }
    let starts := (rec' :: startsOf c o).take 16
    let c := { c with
      sess := { c.sess with ctxs := tput c.sess.ctxs x k, starts := tput c.sess.starts o starts },
      acc := { c.acc with ctxs := c.acc.ctxs.filter (fun e => e.1 / 64 != x),
                          boundNext := tput c.acc.boundNext m x } }
    some (x, placeReplicas c x)

/-- R198: the stop of a LIVE context: SETTLING, with the cycle in progress the last one credited. -/
def stopCtx (c : Chip) (x : Nat) (flags : BitVec 16) : Chip :=
  let k := ctxOf c x
  if k.bstate = .live then
    let c := setCtx c x { k with bstate := .settling, stopDue := true, endCycle := c.tb.cycle,
                                 flags := k.flags ||| flags }
    { c with acc := { c.acc with boundNext := terase c.acc.boundNext k.point } }
  else c

/-! ### The session body (R202, R203) -/

/-- R202: price word j of a copied table. -/
def priceWord (k : Context) (j : Nat) : Nat := (k.price.getD j 0#32).toNat

/-- R202: the energy cost in micro-units. -/
def energyCost (c : Chip) (x : Nat) : Int :=
  let k := ctxOf c x
  let terms : List Int := (List.range 16).map (fun r =>
    (reading (ctxAcc c x (32 + r)) : Int) * priceWord k (2 + r)
      - (reading (ctxAcc c x (48 + r)) : Int) * priceWord k (18 + r))
  divHalfAway terms.sum (10 ^ 6 * 2 ^ 32)

/-- R203: ENERGISED_MS; what becomes of a fraction of a ms is open (log 2). -/
def energisedMs (c : Chip) (x : Nat) : Nat := roundOpenNat c 3000 (ctxOf c x).energised (2 ^ 32)

/-- R202: the time cost in micro-units. -/
def timeCost (c : Chip) (x : Nat) : Nat := divHalfUp (energisedMs c x * priceWord (ctxOf c x) 34) 60000

/-- R210: EXPONENT of a copied table. -/
def exponentOf (k : Context) : Nat := fieldOf (k.price.getD 1 0#32) 19 16

/-- R202: the total in minor units; an EXPONENT above 4 is stated nowhere and gives a free value (log 10). -/
def totalOf (c : Chip) (x : Nat) : Int :=
  let k := ctxOf c x
  if exponentOf k ≤ 4 then
    divHalfAway (energyCost c x + timeCost c x + priceWord k 35) (10 ^ (6 - exponentOf k))
  else Config.freeInt c.freeCount 3001

/-- R203: the 528 bytes of a session body. -/
def sessionBody (c : Chip) (x : Nat) : List Byte :=
  let k := ctxOf c x
  beBytes 2 tySession ++ beBytes 1 1 ++ beBytes 1 k.point ++ beBytes 2 x ++ beBytes 2 k.flags.toNat
    ++ id16 k.sessionId ++ id16 k.authRef ++ beBytes 6 k.startCycle ++ beBytes 6 k.endCycle
    ++ wallBytes k.startWall ++ wallBytes k.endWall ++ beBytes 4 (calId c) ++ beBytes 4 (priceWord k 0)
    ++ beBytes 2 (priceWord k 1) ++ beBytes 1 (exponentOf k) ++ beBytes 1 0
    ++ ctxSlots.flatMap (fun s => beBytes 12 (reading (ctxAcc c x s)))
    ++ beBytes 8 (sgn 64 (energyCost c x)) ++ beBytes 8 (timeCost c x) ++ beBytes 8 (priceWord k 35)
    ++ beBytes 8 (sgn 64 (totalOf c x)) ++ beBytes 4 (energisedMs c x) ++ beBytes 2 k.origin
    ++ beBytes 2 k.settler

/-- R198, R206: a SETTLING context whose cycle has ended hands its body to the legal core. -/
def settleCtx (c : Chip) (x : Nat) : Chip :=
  let k := ctxOf c x
  if k.bstate = .settling ∧ k.stopDue = true then
    let c := setCtx c x { k with stopDue := false, endWall := if k.endWall = 0 then time16 c.tb.wall else k.endWall }
    let total := totalOf c x
    let c := legalEntry c tySession k.point (sessionBody c x) (some x)
    let shown : PanelSess := { sid := k.sessionId, energy := ctxAcc c x 24, total := total, exponent := exponentOf k,
                               currency := priceWord k 1 % 65536 }
    let c := { c with leg := { c.leg with panel := tput c.leg.panel k.point shown } }
    takeFree (setCtx c x { ctxOf c x with entry := some (0, total) })
  else c

/-- R198, R205: at the first angle 0 after an outage through Off the LIVE contexts end with the final commit. -/
def endSessions (c : Chip) : Chip :=
  match c.tar.endDue with
  | none => c
  | some (cyc, wall) =>
    let c := ((ctxsIn c .live).map (·.1)).foldl (fun c x =>
      let c := stopCtx c x (BitVec.ofNat 16 0x808)
      setCtx c x { ctxOf c x with endCycle := cyc, endWall := wall }) c
    { c with tar := { c.tar with endDue := none } }

/-- R206: every stop that takes effect at this angle 0 is settled. -/
def settleAll (c : Chip) : Chip := (c.sess.ctxs.map (·.1)).foldl settleCtx c

/-- R198: an AWAITING context is freed once the export of its entry is acknowledged and every peer is told. -/
def tryFree (c : Chip) (x : Nat) : Chip :=
  let k := ctxOf c x
  match k.bstate, k.entry with
  | .awaiting, some (seq, _) =>
    if seq ≤ c.leg.ack ∧ k.peers.all (fun p => k.told.contains p) then freeCtx c x else c
  | _, _ => c

/-- R362: the result of a settled SESSION_STOP: SEQ and TOTAL of the entry. -/
def stopAnswer (x seq : Nat) (total : Int) : Answer :=
  { ansOk with aux := x, result := leBytes 8 seq ++ leBytes 8 (sgn 64 total) }

/-- R376: the payload of SETTLED. -/
def settledBytes (sid : BitVec 128) (origin settler : Nat) (adopted : Bool) (seq : Nat) : List Byte :=
  id16 sid ++ beBytes 2 origin ++ beBytes 2 settler ++ beBytes 1 adopted.toNat ++ beBytes 3 0 ++ beBytes 8 seq

/-- R397: the settler of an adopted session floods SETTLED and keeps the notice among its last 256. -/
def announceSettled (c : Chip) (sid : BitVec 128) (origin seq : Nat) : Chip :=
  let c := { c with repl := { c.repl with notices := ((sid, origin, c.fab.addr, true, seq) :: c.repl.notices).take 256 } }
  sendFlood c 0x0B (settledBytes sid origin c.fab.addr true seq)

/-- R198, R362, R396: the body of context x has been written with SEQ seq. -/
def bodyLogged (c : Chip) (x seq : Nat) : Chip :=
  let k := ctxOf c x
  if k.bstate = .settling then
    let total := match k.entry with | some (_, t) => t | none => 0
    let c := setCtx c x { k with bstate := .awaiting, entry := some (seq, total), since := c.sess.counter,
                                 waiters := [] }
    let c := { c with sess := { c.sess with counter := c.sess.counter + 1,
                                            settled := (k.sessionId, seq, total) :: c.sess.settled } }
    let c := completeAll c k.waiters (stopAnswer x seq total)
    let c := if ready c .svc then
        emits c [.ocppTx 2 k.outlet k.sessionId (reading (ctxAcc c x 24)), .ocppCost k.sessionId total]
      else c
    let c := if bitOf (wordOf k.flags.toNat) 10 then announceSettled c k.sessionId k.origin seq else c
    tryFree (closeHolders c x seq) x
  else c

/-- R364: the session is one of this module's own starts that some outlet still records. -/
def ownStart (c : Chip) (sid : BitVec 128) : Bool :=
  c.sess.starts.any (fun (_, l) => l.any (fun r => r.sessionId == sid))

/-- R364: a settled session that some outlet still records. -/
def settledRecord (c : Chip) (sid : BitVec 128) : Option (Nat × Int) :=
  if ownStart c sid then
    (c.sess.settled.find? (fun e => e.1 == sid)).map (·.2)
  else none

/-- R204, R197: flags added to every LIVE context. -/
def flagLive (c : Chip) (flags : BitVec 16) : Chip :=
  { c with sess := { c.sess with ctxs := c.sess.ctxs.map (fun (x, k) =>
    if k.bstate = .live then (x, { k with flags := k.flags ||| flags }) else (x, k)) } }

/-- R197: the bit of a flag. -/
def flagBit (b : Nat) : BitVec 16 := BitVec.ofNat 16 (2 ^ b)

end Sys2Proof.Machine
end

