-- ==== Sys2Proof/Machine/Tariff.lean ====
section
/-! DEFINITION. The tariff engine: calendars (R181 to R188), the rate (R184), demand and billing intervals (R190
to R197), maximum demand (R193, R194), price tables (R210), and the commands of the tariff frame and the
tariff opcodes. -/

namespace Sys2Proof.Machine

/-! ### Dates -/

/-- Days since 1970-01-01 as year, month, day. -/
def civil (days : Int) : Int × Nat × Nat :=
  let z := days + 719468
  let era := z / 146097
  let doe := (z - era * 146097).toNat
  let yoe := (doe - doe / 1460 + doe / 36524 - doe / 146096) / 365
  let doy := doe - (365 * yoe + yoe / 4 - yoe / 100)
  let mp := (5 * doy + 2) / 153
  let d := doy - (153 * mp + 2) / 5 + 1
  let m := if mp < 10 then mp + 3 else mp - 9
  let y := (yoe : Int) + era * 400
  (if m ≤ 2 then y + 1 else y, m, d)

/-- A leap year. -/
def leap (y : Int) : Bool := (y % 4 == 0 && y % 100 != 0) || y % 400 == 0

/-- Days of a month. -/
def monthDays (m : Nat) (lp : Bool) : Nat :=
  if m = 2 then (if lp then 29 else 28) else if m = 4 ∨ m = 6 ∨ m = 9 ∨ m = 11 then 30 else 31

/-- A valid day and month. -/
def validDate (d m : Nat) (lp : Bool) : Bool :=
  decide (1 ≤ m) && decide (m ≤ 12) && decide (1 ≤ d) && decide (d ≤ monthDays m lp)

/-! ### The calendar image (R183) -/

/-- Word i of an image. -/
def calWord (cal : List Word) (i : Nat) : Word := cal.getD i 0#32

/-- R181: the local offset in minutes at instant b (2^-32 s). -/
def calOffset (cal : List Word) (b : Nat) : Int :=
  let hdr := calWord cal 1
  let ts := (List.range (fieldOf hdr 23 16)).map (fun t =>
    ((calWord cal (2 + 2 * t)).toNat + fieldOf (calWord cal (3 + 2 * t)) 15 0 * 2 ^ 32,
     unsgn 16 (fieldOf (calWord cal (3 + 2 * t)) 31 16)))
  ((ts.filter (fun t => decide (t.1 * 2 ^ 32 ≤ b))).getLast?.map (·.2)).getD (unsgn 16 (fieldOf hdr 15 0))

/-- R183: season s: day, month, week profile; a month of 0 is unused. -/
def season (cal : List Word) (s : Nat) : Nat × Nat × Nat :=
  let w := calWord cal (34 + s)
  (fieldOf w 7 0, fieldOf w 15 8, fieldOf w 19 16)

/-- The used seasons as (number, day, month, week profile). -/
def usedSeasons (cal : List Word) : List (Nat × Nat × Nat × Nat) :=
  ((List.range 12).map (fun s => (s, season cal s))).filter (fun e => e.2.2.1 != 0)

/-- R183: day profile of day k of week profile w. -/
def weekDay (cal : List Word) (w k : Nat) : Nat := fieldOf (calWord cal (46 + 7 * w + k)) 4 0

/-- R183: switching point j of day profile d: minute (2047 unused) and rate. -/
def switchPoint (cal : List Word) (d j : Nat) : Nat × Nat :=
  let w := calWord cal (158 + 24 * d + j)
  (fieldOf w 10 0, fieldOf w 20 16)

/-- The switching points of a day profile. -/
def dayPoints (cal : List Word) (d : Nat) : List (Nat × Nat) := (List.range 24).map (switchPoint cal d)

/-- R183: special day x: day, month (0 unused), day profile, year (0 every year). -/
def specialDay (cal : List Word) (x : Nat) : Nat × Nat × Nat × Nat :=
  let w := calWord cal (926 + x)
  let y := fieldOf w 31 21
  (fieldOf w 7 0, fieldOf w 15 8, fieldOf w 20 16, if y = 0 then 0 else y + 2000)

/-- The used special days. -/
def usedSpecials (cal : List Word) : List (Nat × Nat × Nat × Nat) :=
  ((List.range 256).map (specialDay cal)).filter (fun e => e.2.1 != 0)

/-- R184 step 2: the season in force on a date. -/
def seasonAt (cal : List Word) (m d : Nat) : Option (Nat × Nat × Nat × Nat) :=
  let later := fun (best : Option (Nat × Nat × Nat × Nat)) (e : Nat × Nat × Nat × Nat) =>
    match best with
    | none => some e
    | some b => if b.2.2.1 * 100 + b.2.1 ≤ e.2.2.1 * 100 + e.2.1 then some e else some b
  let past := (usedSeasons cal).filter (fun e => decide (e.2.2.1 * 100 + e.2.1 ≤ m * 100 + d))
  if past.isEmpty then (usedSeasons cal).foldl later none else past.foldl later none

/-- R184 step 3: the rate of a day profile at a minute. -/
def rateOfDay (cal : List Word) (d minute : Nat) : Nat :=
  ((dayPoints cal d).filter (fun p => p.1 != 2047 && decide (p.1 ≤ minute))).foldl
    (fun best p => if best.1 ≤ p.1 then p else best) (0, 0) |>.2

/-- R184: the rate and calendar position at instant b. -/
def rateAtB (cal : List Word) (b : Nat) : RateAt :=
  let secs : Int := (b / 2 ^ 32 : Nat) + calOffset cal b * 60
  let days := secs / 86400
  let minute := ((secs % 86400) / 60).toNat
  let (y, m, d) := civil days
  let k := ((days + 3) % 7).toNat
  let sp := usedSpecials cal
  let hit := fun (yr : Int) => sp.find? (fun e => e.1 == d && e.2.1 == m && (e.2.2.2 : Int) == yr)
  let special := match hit y with | some e => some e | none => hit 0
  let (sn, wk) := match seasonAt cal m d with | some e => (e.1, e.2.2.2) | none => (0, 0)
  let day := match special with | some e => e.2.2.1 | none => weekDay cal wk k
  { rate := rateOfDay cal day minute, season := sn, week := wk, day := day, special := special.isSome }

/-- R186: without an active calendar all energy goes to rate 1. -/
def noCalendar : RateAt := { rate := 1, season := 0, week := 0, day := 0, special := false }

/-- R184, R186: the rate of an optional calendar. -/
def rateOf (cal : Option (List Word)) (b : Nat) : RateAt :=
  match cal with | some c => rateAtB c b | none => noCalendar

/-! ### The arm check (R185) -/

/-- R183: the CRC of words 0 to 1,181. -/
def calCrc (cal : List Word) : Word := crc32 ((cal.take 1182).flatMap (fun w => beBytes 4 w.toNat))

/-- A list without repeats. -/
def noRepeats {α : Type} [BEq α] : List α → Bool
  | [] => true
  | a :: as => !as.contains a && noRepeats as

/-- Strictly rising numbers. -/
def rising : List Nat → Bool
  | [] => true
  | [_] => true
  | a :: b :: r => decide (a < b) && rising (b :: r)

/-- R185 OFFSET. -/
def badOffset (cal : List Word) : Bool :=
  let hdr := calWord cal 1
  let n := fieldOf hdr 23 16
  let out := fun (v : Int) => decide (v < -840) || decide (840 < v)
  let ts := (List.range (min n 16)).map (fun t =>
    ((calWord cal (2 + 2 * t)).toNat + fieldOf (calWord cal (3 + 2 * t)) 15 0 * 2 ^ 32,
     unsgn 16 (fieldOf (calWord cal (3 + 2 * t)) 31 16)))
  decide (16 < n) || out (unsgn 16 (fieldOf hdr 15 0)) || ts.any (fun t => out t.2) || !rising (ts.map (·.1))

/-- R185 SEASON. -/
def badSeason (cal : List Word) : Bool :=
  let us := usedSeasons cal
  us.isEmpty || !noRepeats (us.map (fun e => (e.2.1, e.2.2.1)))
    || us.any (fun e => !validDate e.2.1 e.2.2.1 true || (e.2.1 == 29 && e.2.2.1 == 2))

/-- R185: the day profiles that are checked. -/
def checkedDays (cal : List Word) : List Nat :=
  ((usedSeasons cal).flatMap (fun e => (List.range 7).map (weekDay cal e.2.2.2))
    ++ (usedSpecials cal).map (fun e => e.2.2.1)).eraseDups

/-- R185 DAY. -/
def badDayProfile (cal : List Word) (d : Nat) : Bool :=
  let ps := dayPoints cal d
  let used := ps.takeWhile (fun p => p.1 != 2047)
  (ps.drop used.length).any (fun p => p.1 != 2047) || !used.any (fun p => p.1 == 0)
    || !rising (used.map (·.1)) || used.any (fun p => decide (p.2 < 1) || decide (16 < p.2))

/-- R185 SPECIAL. -/
def badSpecial (cal : List Word) : Bool :=
  let us := usedSpecials cal
  us.any (fun e => !validDate e.1 e.2.1 (e.2.2.2 == 0 || leap e.2.2.2))
    || !noRepeats (us.map (fun e => (e.1, e.2.1, e.2.2.2)))

/-- R480: the checks of an active image at restore. -/
def badImage (cal : List Word) : Nat :=
  if calWord cal 1182 ≠ calCrc cal then 1
  else if badOffset cal then 3
  else if badSeason cal then 4
  else if (checkedDays cal).any (badDayProfile cal) then 5
  else if badSpecial cal then 6
  else 0

/-- R185, R210: the cause of a failed arm check in the order of the table; 0 when it passes. -/
def armCause (c : Chip) (cal : List Word) (at' : Nat) : Nat :=
  if calWord cal 1182 ≠ calCrc cal then 1
  else if (calWord cal 0).toNat = 0 ∨ (calWord cal 0).toNat = calId c then 2
  else if badImage cal ≠ 0 then badImage cal
  else if at' * 2 ^ 32 ≤ billTime c then 7
  else 0

/-! ### The passive calendar (R187) -/

/-- The passive image as 1,183 words. -/
def passiveImage (c : Chip) : List Word := (List.range 1183).map (tget 0#32 c.tar.passive)

/-- Sets a word of the passive image. -/
def putPassive (t : Tab Word) (i : Nat) (w : Word) : Tab Word := if w = 0 then terase t i else tput t i w

/-- An image as a sparse table. -/
def imageTab (ws : List Word) : Tab Word :=
  ((List.range 1183).zip ws).filter (fun e => e.2 != 0)

/-- R187: ARM. -/
def armPassive (c : Chip) : Chip :=
  if c.tar.pasState = .armed then c
  else
    let cause := armCause c (passiveImage c) c.tar.pasAt
    if cause = 0 then { c with tar := { c.tar with pasState := .armed, pasCause := 0 } }
    else raiseEvt { c with tar := { c.tar with pasState := .checkFailed, pasCause := cause } } Reg.TAR_EVT 4

/-- R187: DISARM. -/
def disarmPassive (c : Chip) : Chip :=
  if c.tar.pasState = .armed then { c with tar := { c.tar with pasState := .loading } } else c

/-- R187: CLEAR. -/
def clearPassive (c : Chip) : Chip :=
  { c with tar := { c.tar with pasState := .empty, pasCause := 0, passive := [] } }

/-- R210: steps the word number of an address register after a data access, when AUTOINC is 1. -/
def stepAddr (c : Chip) (a hi : Nat) : Chip :=
  if immBit c a 16 then regPut c a (withField (regGet c a) hi 0 (imm c a hi 0 + 1)) else c

/-- R187, R210: a write to TAR_TBL_DATA. -/
def tblWrite (c : Chip) (w : Word) : Chip :=
  let i := imm c Reg.TAR_TBL_ADDR 10 0
  let c :=
    if c.tar.pasState = .armed then raiseEvt c Reg.TAR_EVT 5
    else if immBit c Reg.TAR_TBL_ADDR 17 ∨ 1182 < i then c
    else { c with tar := { c.tar with passive := putPassive c.tar.passive i w, pasState := .loading, pasCause := 0 } }
  stepAddr c Reg.TAR_TBL_ADDR 10

/-- R210: the word a read of TAR_TBL_DATA returns. -/
def tblRead (c : Chip) : Word :=
  let i := imm c Reg.TAR_TBL_ADDR 10 0
  if immBit c Reg.TAR_TBL_ADDR 17 then (match c.tar.active with | some ws => ws.getD i 0#32 | none => 0#32)
  else if 1182 < i then 0#32 else tget 0#32 c.tar.passive i

/-- R187, R367: loads and arms an image. -/
def loadCalendar (c : Chip) (req : Requester) (instant : Nat) (ws : List Word) : Chip :=
  let same := fun (img : List Word) => calWord img 0 == calWord ws 0 && calWord img 1182 == calWord ws 1182
  let already := (c.tar.pasState == .armed && same (passiveImage c) && c.tar.pasAt == instant)
    || (match c.tar.active with | some a => same a | none => false)
  if already then complete c req (ansReplay ansOk)
  else if c.tar.pasState = .armed then complete c req (ansReject .rule)
  else
    let c := armPassive { c with tar := { c.tar with passive := imageTab ws, pasAt := instant, pasState := .loading } }
    if c.tar.pasState = .armed then complete c req ansOk
    else complete c req { ansReject .verify with aux := c.tar.pasCause }

/-! ### Prices (R210) -/

/-- The 36 staging words. -/
def stagingWords (c : Chip) : List Word := (List.range 36).map (tget 0#32 c.tar.staging)

/-- R210: publishes words as a table. -/
def publishPrices (c : Chip) (table : Nat) (ws : List Word) : Chip :=
  { c with tar := { c.tar with prices := tput c.tar.prices table ws } }

/-! ### Intervals -/

/-- Interval state of point m. -/
def intOf (c : Chip) (m : Nat) : Interval := tget Interval.init c.tar.ints m

/-- Interval state of point m replaced. -/
def setInt (c : Chip) (m : Nat) (i : Interval) : Chip := { c with tar := { c.tar with ints := tput c.tar.ints m i } }

/-- R210: demand length in minutes, subintervals (1 in block mode). -/
def demLen (c : Chip) : Nat := cfg c Reg.TAR_DEM_CFG 5 0
def demSubs (c : Chip) : Nat := if cfgBit c Reg.TAR_DEM_CFG 6 then max 1 (cfg c Reg.TAR_DEM_CFG 11 8) else 1

/-- R181: B has crossed a boundary of a length in seconds since b0. -/
def crossed (b0 b secs : Nat) : Bool := decide (b0 / (secs * 2 ^ 32) < b / (secs * 2 ^ 32))

/-- R191: the demand in W of an energy (2^-40 Wh) over max(D, Tn); D in 2^-32 s, Tn in s. Its rounding is open
(log 2). -/
def demandW (c : Chip) (place e dur tn : Nat) : Nat :=
  let d := max dur (tn * 2 ^ 32)
  if d = 0 then 0 else roundOpenNat c place (e * 3600 * 2 ^ 32) (2 ^ 40 * d)

/-- R193: compares a demand with one maximum-demand register. -/
def mdUpdate (t : Tab (Nat × Nat)) (k w sec : Nat) : Tab (Nat × Nat) :=
  if (tget (0, 0) t k).1 < w then tput t k (w, sec) else t

/-- R193: the key of register r of point m, direction d. -/
def mdKey (m d r : Nat) : Nat := 34 * m + 17 * d + r

/-- The greater of an optional demand and a new one. -/
def maxDem (o : Option Nat) (w : Nat) : Option Nat := some (match o with | some v => max v w | none => w)

/-- R190 to R193: closes the demand interval, or subinterval, of point m with flags; `restart` empties the
sliding window (R192). -/
def closeDemand (c : Chip) (m : Nat) (flags : BitVec 16) (restart : Bool) (rate : Nat) : Chip :=
  let i := intOf c m
  let subs := demSubs c
  let ei := pointAcc c m 24 - i.openImp
  let ee := pointAcc c m 25 - i.openExp
  let win := ((ei, ee, i.dur) :: i.subs).take subs
  let tn := if win.length = subs then demLen c * 60 else win.length * (demLen c * 60 / subs)
  let dur := (win.map (·.2.2)).sum
  let wi := demandW c (5000 + 2 * m) (win.map (·.1)).sum dur tn
  let we := demandW c (5001 + 2 * m) (win.map (·.2.1)).sum dur tn
  let sec := wallSec c
  let md := mdUpdate (mdUpdate c.tar.md (mdKey m 0 0) wi sec) (mdKey m 0 rate) wi sec
  let md := mdUpdate (mdUpdate md (mdKey m 1 0) we sec) (mdKey m 1 rate) we sec
  let fl := (i.flags ||| flags).toNat
  let last := tput (tput c.tar.lastDem (2 * m) (wi, fl, rate)) (2 * m + 1) (we, fl, rate)
  let i := { i with demImp := maxDem i.demImp wi, demExp := maxDem i.demExp we,
                    subs := if restart then [] else win.take (subs - 1) }
  raiseEvt { setInt c m i with tar := { (setInt c m i).tar with md := md, lastDem := last } } Reg.TAR_EVT 1

/-- R190: opens the demand interval of point m at this angle 0. -/
def openDemand (c : Chip) (m : Nat) (flags : BitVec 16) : Chip :=
  let i := intOf c m
  setInt c m { i with openCycle := c.tb.cycle, openWall := time16 c.tb.wall, openImp := pointAcc c m 24,
                      openExp := pointAcc c m 25, dur := 0, flags := flags }

/-- R195: the 536 bytes of an interval body. -/
def intervalBody (c : Chip) (m : Nat) (flags : BitVec 16) (endCycle endWall billEnd rate : Nat) : List Byte :=
  let i := intOf c m
  beBytes 2 tyInterval ++ beBytes 1 1 ++ beBytes 1 m ++ beBytes 2 (i.billFlags ||| flags).toNat
    ++ beBytes 6 i.billCycle ++ beBytes 6 endCycle ++ beBytes 8 i.billWall ++ beBytes 8 endWall
    ++ beBytes 8 billEnd ++ beBytes 4 (calId c) ++ beBytes 1 rate ++ beBytes 1 (pointState c m)
    ++ (List.range 40).flatMap (fun j => beBytes 12 (reading (pointAcc c m (24 + j))))
    ++ beBytes 4 (i.demImp.getD 0xFFFFFFFF) ++ beBytes 4 (i.demExp.getD 0xFFFFFFFF)

/-- R195: the point has billing intervals: it is enabled and named in TAR_BILL_CFG.POINTS. -/
def billed (c : Chip) (m : Nat) : Bool := pointEnabled c m && cfgBit c Reg.TAR_BILL_CFG (8 + m)

/-- R195: closes the billing interval of point m. -/
def closeBilling (c : Chip) (m : Nat) (flags : BitVec 16) (billEnd rate : Nat) : Chip :=
  let c := legalEntry c tyInterval m
    (intervalBody c m flags c.tb.cycle (time16 c.tb.wall) (time16 billEnd) rate) none
  raiseEvt (setInt c m { intOf c m with demImp := none, demExp := none }) Reg.TAR_EVT 2

/-- R195: opens the billing interval of point m. -/
def openBilling (c : Chip) (m : Nat) (flags : BitVec 16) : Chip :=
  setInt c m { intOf c m with billCycle := c.tb.cycle, billWall := time16 c.tb.wall, billFlags := flags,
                              demImp := none, demExp := none }

/-- R197: the flags of the cycle that ends for point m. -/
def cycleFlags (c : Chip) (m : Nat) : BitVec 16 :=
  let p := ptOf c m
  (if p.substCyc then flagBit 6 else 0) ||| (if p.ovrCyc then flagBit 7 else 0)
    ||| (if p.fbCyc then flagBit 8 else 0) ||| (if noHold c then flagBit 12 else 0)
    ||| (if (tfind c.leg.unmeasured m).isSome then flagBit 11 else 0)

/-- R190, R197, R203: the cycle that ends enters the intervals of point m and the session credited on it. -/
def accountCycle (dur : Nat) (c : Chip) (m : Nat) : Chip :=
  if pointEnabled c m then
    let f := cycleFlags c m
    let i := intOf c m
    let c := setInt c m { i with dur := i.dur + dur, flags := i.flags ||| f, billFlags := i.billFlags ||| f }
    match tfind c.acc.bound m with
    | some x => setCtx c x { ctxOf c x with flags := (ctxOf c x).flags ||| f }
    | none => c
  else c

/-- What forces closes at an angle 0 besides the natural boundaries. -/
structure Closes where
  step : Bool
  split : Bool
  cfg : Bool
  deriving DecidableEq, Repr

/-- R197: the closing flags of a demand interval, and of a billing interval. -/
def demFlags (k : Closes) : BitVec 16 :=
  (if k.step then flagBit 1 else 0) ||| (if k.split then flagBit 4 else 0) ||| (if k.cfg then flagBit 5 else 0)
def billCloseFlags (k : Closes) : BitVec 16 :=
  (if k.step then flagBit 1 else 0) ||| (if k.cfg then flagBit 5 else 0)

/-- R206 event 1: closes the demand intervals that end at this angle 0, b0 to b the span of B. -/
def demandEvent (c : Chip) (k : Closes) (b0 b : Nat) : Chip :=
  let nat := crossed b0 b (demLen c * 60 / demSubs c)
  if (nat || k.step || k.split || k.cfg) && !c.tar.openDue then
    ((List.range 8).filter (pointEnabled c)).foldl (fun c m =>
      if (tfind c.tar.ints m).isSome then
        closeDemand c m (demFlags k) (k.step || k.split || k.cfg) c.tar.rateAt.rate
      else c) c
  else c

/-- R206 event 2: closes the billing intervals that end at this angle 0. -/
def billingEvent (c : Chip) (k : Closes) (b0 b : Nat) : Chip :=
  let nat := crossed b0 b (cfg c Reg.TAR_BILL_CFG 5 0 * 60)
  if (nat || k.step || k.cfg) && !c.tar.openDue then
    ((List.range 8).filter (billed c)).foldl (fun c m =>
      if (tfind c.tar.ints m).isSome then closeBilling c m (billCloseFlags k) b c.tar.rateAt.rate else c) c
  else c

/-- R222: the body of MD_RESET of point m. -/
def mdBody (c : Chip) (m : Nat) : List Byte :=
  (List.range 34).flatMap (fun j =>
    let v := tget (0, 0) c.tar.md (34 * m + j)
    beBytes 4 v.1 ++ beBytes 4 v.2)

/-- R194: a pending maximum-demand reset: logged for each enabled point, then performed. -/
def mdEvent (c : Chip) : Chip :=
  if c.tar.mdPending then
    let c := ((List.range 8).filter (pointEnabled c)).foldl (fun c m => legalEntry c tyMdReset m (mdBody c m) none) c
    let reqs := c.tar.mdReqs
    let c := { c with tar := { c.tar with md := [], mdPending := false, mdReqs := [], mdLast := c.tb.cycle + 1 } }
    let c := raiseEvt c Reg.TAR_EVT 6
    reqs.foldl (fun c r => completeOpt c r.owner ansOk) c
  else c

/-- R187, R188: the passive calendar is due at B. -/
def activationDue (c : Chip) (b : Nat) : Bool := c.tar.pasState == .armed && decide (c.tar.pasAt * 2 ^ 32 ≤ b)

/-- The calendar in force from this angle 0 on. -/
def nextCalendar (c : Chip) (b : Nat) : Option (List Word) :=
  if activationDue c b then some (passiveImage c) else c.tar.active

/-- R188: the activation of the passive calendar, logged. -/
def activate (c : Chip) : Chip :=
  let img := passiveImage c
  let c := legalEntry c tyCalAct 255 (beBytes 4 (calId c) ++ beBytes 4 (calWord img 0).toNat
    ++ beBytes 4 (calWord img 1182).toNat ++ beBytes 8 (c.tar.pasAt * 2 ^ 16)) none
  let c := { c with tar := { c.tar with
    active := some img, passive := [], pasState := .empty, pasCause := 0,
    ints := c.tar.ints.map (fun (m, i) =>
      (m, { i with flags := i.flags ||| flagBit 9, billFlags := i.billFlags ||| flagBit 9 })) } }
  raiseEvt (flagLive c (flagBit 9)) Reg.TAR_EVT 3

/-- R206 event 3, R189: the activation, then the rate for the cycle that starts. -/
def tariffEvent (c : Chip) (b : Nat) : Chip :=
  let old := c.tar.rateAt.rate
  let c := if activationDue c b then activate c else c
  let r := rateOf c.tar.active b
  let c := { c with tar := { c.tar with rateAt := r } }
  if r.rate = old then c else raiseEvt c Reg.TAR_EVT 0

/-- R190, R195, R204, R205: opens the intervals that the closes ended, and those of points that have none. -/
def openIntervals (c : Chip) (k : Closes) (b0 b : Nat) : Chip :=
  let fresh := c.tar.openDue
  let start : BitVec 16 := (if k.step then flagBit 0 else 0) ||| (if fresh then flagBit 2 else 0)
  let dem := crossed b0 b (demLen c * 60 / demSubs c) || k.step || k.split || k.cfg || fresh
  let bil := crossed b0 b (cfg c Reg.TAR_BILL_CFG 5 0 * 60) || k.step || k.cfg || fresh
  let c := ((List.range 8).filter (pointEnabled c)).foldl (fun c m =>
    let none' := (tfind c.tar.ints m).isNone
    let c := if dem || none' then openDemand c m start else c
    if bil || none' then openBilling c m start else c) c
  { c with tar := { c.tar with openDue := false, lastB := b } }

/-! ### Commands -/

/-- CAL_TBL_WRITE (R187, R210). -/
def execCalTblWrite (value : Word) (s : State) : Host.Outcome State Fault Refusal :=
  onChip s fun c => reach c Reg.TAR_TBL_DATA fun c => tblWrite c value

/-- CAL_TBL_READ (R210): the word, then the step of WORD. -/
def execCalTblRead (s : State) : Host.Outcome State Fault Refusal :=
  onChip s fun c => readActs c Reg.TAR_TBL_DATA fun c => (stepAddr c Reg.TAR_TBL_ADDR 10, tblRead c)

/-- PAS_CTRL_ARM (R187). -/
def execPasCtrlArm (s : State) : Host.Outcome State Fault Refusal :=
  onChip s fun c => reach c Reg.TAR_PAS_CTRL armPassive

/-- PAS_CTRL_DISARM (R187). -/
def execPasCtrlDisarm (s : State) : Host.Outcome State Fault Refusal :=
  onChip s fun c => reach c Reg.TAR_PAS_CTRL disarmPassive

/-- PAS_CTRL_CLEAR (R187). -/
def execPasCtrlClear (s : State) : Host.Outcome State Fault Refusal :=
  onChip s fun c => reach c Reg.TAR_PAS_CTRL clearPassive

/-- R210: a write to TAR_PRICE_DATA. -/
def priceWrite (c : Chip) (w : Word) : Chip :=
  let i := imm c Reg.TAR_PRICE_ADDR 5 0
  let c := if i ≤ 35 then { c with tar := { c.tar with staging := putPassive c.tar.staging i w } } else c
  stepAddr c Reg.TAR_PRICE_ADDR 5

/-- PRICE_DATA_WRITE (R210). -/
def execPriceDataWrite (value : Word) (s : State) : Host.Outcome State Fault Refusal :=
  onChip s fun c => reach c Reg.TAR_PRICE_DATA fun c => priceWrite c value

/-- PRICE_DATA_READ (R210). -/
def execPriceDataRead (s : State) : Host.Outcome State Fault Refusal :=
  onChip s fun c => readActs c Reg.TAR_PRICE_DATA fun c =>
    (stepAddr c Reg.TAR_PRICE_ADDR 5, tget 0#32 c.tar.staging (imm c Reg.TAR_PRICE_ADDR 5 0))

/-- PRICE_CTRL_PUBLISH (R210): the staging words become the selected table. -/
def execPriceCtrlPublish (s : State) : Host.Outcome State Fault Refusal :=
  onChip s fun c => reach c Reg.TAR_PRICE_CTRL fun c =>
    publishPrices c (imm c Reg.TAR_PRICE_ADDR 11 8) (stagingWords c)

/-- PRICE_CTRL_CLEAR (R210). -/
def execPriceCtrlClear (s : State) : Host.Outcome State Fault Refusal :=
  onChip s fun c => reach c Reg.TAR_PRICE_CTRL fun c => { c with tar := { c.tar with staging := [] } }

/-- MD_CTRL_RESET (R194): pending until the next angle 0. -/
def execMdCtrlReset (s : State) : Host.Outcome State Fault Refusal :=
  onChip s fun c => reach c Reg.TAR_MD_CTRL fun c => { c with tar := { c.tar with mdPending := true } }

/-- CAL_LOAD (R362, R187). -/
def execCalLoad (req : Requester) (instant : Nat) (words : Option (List Word)) (s : State) :
    Host.Outcome State Fault Refusal :=
  .next { s with chip := perform s.chip req 0x0302 .tariff (fun c =>
    match words with
    | none => complete c req (ansReject .buffer)
    | some ws => if ws.length = 1183 then loadCalendar c req instant ws else complete c req (ansReject .buffer)) }

/-- CAL_CTRL (R362, R187): 1 DISARM, 2 CLEAR. -/
def execCalCtrl (req : Requester) (command : Nat) (s : State) : Host.Outcome State Fault Refusal :=
  .next { s with chip := perform s.chip req 0x0303 .tariff (fun c =>
    if command = 1 then complete (disarmPassive c) req ansOk
    else if command = 2 then complete (clearPassive c) req ansOk
    else complete c req (ansReject .field)) }

/-- PRICE_PUBLISH (R362, R210). -/
def execPricePublish (req : Requester) (table : Nat) (words : Option (List Word)) (s : State) :
    Host.Outcome State Fault Refusal :=
  .next { s with chip := perform s.chip req 0x0304 .tariff (fun c =>
    match words with
    | none => complete c req (ansReject .buffer)
    | some ws =>
      if 16 ≤ table then complete c req (ansReject .field)
      else if ws.length = 36 then complete (publishPrices c table ws) req ansOk
      else complete c req (ansReject .buffer)) }

/-- MD_RESET (R362, R367): a reset at or after c_req stands for this one; otherwise pending until the next
angle 0. -/
def execMdReset (req : Requester) (creq : Nat) (s : State) : Host.Outcome State Fault Refusal :=
  .next { s with chip := perform s.chip req 0x0305 .tariff (fun c =>
    if creq < c.tar.mdLast then complete c req (ansReplay ansOk)
    else { c with tar := { c.tar with mdPending := true,
                                      mdReqs := c.tar.mdReqs ++ [{ owner := some req, creq := creq }] } }) }

end Sys2Proof.Machine
end

