-- ==== Sys2Proof/Machine/OutletOps.lean ====
section
/-! DEFINITION. Outlets as other blocks use them: bookings of the scheduler (R109), coil drivers and gates (R271),
the conditions of energisation (R58, R87, R238), the pilot (R239 to R243), converters (R259, R260), aimed
switching (R262, R263), and the transitions of an outlet session that several events share (R257). -/

namespace Sys2Proof.Machine

/-- A bit vector with bit k set or cleared. -/
def setBitV {n : Nat} (v : BitVec n) (k : Nat) (b : Bool) : BitVec n :=
  if b then v ||| BitVec.ofNat n (2 ^ k) else v &&& ~~~ BitVec.ofNat n (2 ^ k)

/-! ### The scheduler (R109) -/

/-- The present instant in AU since cycle 0. -/
def nowAu (c : Chip) : Nat := c.tb.cycle * 65536 + c.tb.angle

/-- R98: the booked angles of the running cycle that lie ahead. -/
def anglesAhead (c : Chip) : List Nat :=
  (c.tb.sched.filter (fun b => b.cycle == c.tb.cycle && decide (c.tb.angle < b.angle))).map (·.angle)

/-- R98: an event at an angle of the running cycle: the accumulator goes no way back, and passes over no booked angle. -/
def atAngle (c : Chip) (angle : Nat) : Chip :=
  { c with tb := { c.tb with angle := max c.tb.angle ((anglesAhead c).foldl (fun a b => min a (b - 1)) (min angle 65535)) } }

/-- R109: the outcome of a booking: accepted, refused for its instant, or refused because the table is full. -/
inductive Booked where
  | ok | badInstant | full
  deriving DecidableEq, Repr

/-- R109, R112: no booking: the count is not restored, the instant is too near or too far, or the class is one that
Hold-up cancels. -/
def cannotBook (c : Chip) (b : Booking) : Bool :=
  let t := b.cycle * 65536 + b.angle
  !c.tb.known || decide (65536 ≤ b.angle) || decide (t < nowAu c + 64) || decide (nowAu c + 2 ^ 24 * 65536 < t)
    || (c.sup.mode == .holdUp && decide (b.kind.cls ≤ 2))

/-- R109: books; the highest occupancy and the refusals are counted (R108). What finds the table full is booked again at
the next cycle, but that a host is told. -/
def book (c : Chip) (b : Booking) : Chip × Booked :=
  if cannotBook c b then (c, .badInstant)
  else if 256 ≤ c.tb.sched.length then
    (raiseEvt { c with tb := { c.tb with
      schedRefused := sat 255 (c.tb.schedRefused + 1),
      retry := if b.kind.cls = 8 then c.tb.retry else c.tb.retry ++ [b] } } Reg.SUP_TB_EVT 7, .full)
  else
    let s := c.tb.sched ++ [b]
    ({ c with tb := { c.tb with sched := s, schedHigh := max c.tb.schedHigh (sat 255 s.length) } }, .ok)

/-- Cancels the bookings that p names. -/
def unbook (c : Chip) (p : BookKind → Bool) : Chip :=
  { c with tb := { c.tb with sched := c.tb.sched.filter (fun b => !p b.kind),
                             retry := c.tb.retry.filter (fun b => !p b.kind) } }

/-- R109: the owners whose bookings found the table full make them again, a cycle or a period later. -/
def rebook (c : Chip) : Chip :=
  let again := c.tb.retry
  again.foldl (fun c b => (book c { b with cycle := b.cycle + max 1 b.period }).1) { c with tb := { c.tb with retry := [] } }

/-! ### Outlets, coils and gates -/

/-- Outlet o. -/
def outletOf (c : Chip) (o : Nat) : OutletSt := tget OutletSt.init c.outl.outlets o

/-- Outlet o replaced. -/
def setOutlet (c : Chip) (o : Nat) (x : OutletSt) : Chip :=
  { c with outl := { c.outl with outlets := tput c.outl.outlets o x } }

/-- Outlet o changed by f. -/
def modOutlet (c : Chip) (o : Nat) (f : OutletSt → OutletSt) : Chip := setOutlet c o (f (outletOf c o))

/-- R268: KIND of outlet o: 0 off, 1 AC, 2 DC, 3 DC_BPT. -/
def outKind (c : Chip) (o : Nat) : Nat := cfg c (Reg.OUT_CFG o) 1 0

/-- R268: a DC outlet. -/
def isDc (c : Chip) (o : Nat) : Bool := decide (2 ≤ outKind c o)

/-- R268: an AC outlet. -/
def isAc (c : Chip) (o : Nat) : Bool := outKind c o == 1

/-- R281: FBn reads closed. -/
def fbClosed (c : Chip) (o : Nat) : Bool := c.pwd.fb.getLsbD o

/-- Coil driver o. -/
def coilOf (c : Chip) (o : Nat) : Coil := tget Coil.init c.pwd.coils o

/-- Coil driver o replaced. -/
def setCoil (c : Chip) (o : Nat) (k : Coil) : Chip := { c with pwd := { c.pwd with coils := tput c.pwd.coils o k } }

/-- R271: a coil is driven in pull-in or hold. -/
def Coil.driven (k : Coil) : Bool := k.state == .pullin || k.state == .hold

/-- R271: outlet o is energised. -/
def energised (c : Chip) (o : Nat) : Bool := (coilOf c o).driven || fbClosed c o

/-- Some outlet is energised. -/
def anyEnergised (c : Chip) : Bool := (List.range 8).any (energised c)

/-- R270: the pull-in current of a coil in mA, clamped. -/
def coilPull (c : Chip) (o : Nat) : Nat := max 100 (min 2500 (imm c (Reg.PWD_COIL_PROF o) 11 0))

/-- R270: its hold current, clamped, and at most the pull-in current. -/
def coilHold (c : Chip) (o : Nat) : Nat := min (coilPull c o) (max 100 (min 1000 (imm c (Reg.PWD_COIL_PROF o) 23 12)))

/-- R271: a driver enters release when a condition of its drive fails; pull-in is over with it, and a profile change waits
no longer. -/
def releaseCoil (c : Chip) (o : Nat) : Chip :=
  let k := coilOf c o
  if k.driven then setCoil c o { k with state := .release, ma := 0, pend := false } else c

/-- R270: the setting of a sequence under way is one of coil o's profile. -/
def profileSent (c : Chip) (o : Nat) : Bool :=
  match c.ns.active with
  | some q => q.todo.head?.any (fun s => s.reg == Reg.PWD_COIL_PROF o)
  | none => false

/-- R19, R271: Nib's line for outlet o reads "permitted" at the power die; an open or contradictory line does not. -/
def gateOpen (c : Chip) (o : Nat) : Bool := c.nib.gate.getLsbD o && !c.pwd.badLines.getLsbD o

/-- R271: the processor's coil command; the driver is driven only while Nib's line is permitted. A command that is not
booked is not timed (R262). -/
def commandCoil (c : Chip) (o : Nat) (on : Bool) : Chip :=
  let c := modOutlet (setCoil c o { coilOf c o with cmd := on }) o (fun x => { x with timing := false })
  if on then
    if gateOpen c o && !(coilOf c o).driven then
      setCoil c o { coilOf c o with state := .pullin, ma := coilPull c o, pend := profileSent c o }
    else c
  else releaseCoil c o

/-- R19: the power die's reading of Nib's lines: those open or contradictory. -/
def setBadLines (c : Chip) (v : BitVec 8) : Chip :=
  (List.range 8).foldl (fun c o => if v.getLsbD o then releaseCoil c o else c) { c with pwd := { c.pwd with
    badLines := v, badFrom := if v = 0 then none else some (c.pwd.badFrom.getD c.tb.aon) } }

/-- R273: Nib sets or withdraws the coil-enable line of outlet o. A withdrawal releases the coil. -/
def setGate (c : Chip) (o : Nat) (b : Bool) : Chip :=
  let c := { c with nib := { c.nib with gate := setBitV c.nib.gate o b } }
  if b then c else releaseCoil c o

/-- R300: Nib withdraws a line for a cause. -/
def withdrawLine (c : Chip) (o cause : Nat) : Chip :=
  let c := setGate c o false
  { c with nib := { c.nib with
      causes := tput c.nib.causes o cause, degraded := setBitV c.nib.degraded o false,
      bBand := setBitV c.nib.bBand o false } }

/-- R274: the processor's coil command "off", after which it clears the permission bit; a booked operation of the
coil is cancelled (R291). -/
def processorOff (c : Chip) (o : Nat) : Chip :=
  let c := unbook c (fun k => match k with
    | .coilClose n => n.val == o
    | .coilOpen n => n.val == o
    | _ => false)
  let c := commandCoil c o false
  { c with saf := { c.saf with permit := setBitV c.saf.permit o false } }

/-! ### Conditions of energisation -/

/-- R70: outlet o is disabled. -/
def outletDisabled (c : Chip) (o : Nat) : Bool := immBit c Reg.SUP_DISABLE o

/-- R44, R64: the mode and the lifecycle state permit energisation. -/
def modePermits (c : Chip) : Bool :=
  match c.sup.mode with
  | .bringUp => !c.sup.heldSafety && (c.sup.lcs == .provisioned || c.sup.lcs == .deployed)
  | .operational => c.sup.lcs == .provisioned || c.sup.lcs == .deployed
  | .degraded => c.sup.lcs == .provisioned || c.sup.lcs == .deployed
  | .factoryTest => true
  | _ => false

/-- R141: the point bound to outlet o has failed and has not metered since. -/
def pointBars (c : Chip) (o : Nat) : Bool :=
  match pointOfOutlet c o with
  | some m => (ptOf c m).failed
  | none => false

/-- R58, R87, R141, R276, R449: an outlet may be energised. -/
def mayEnergise (c : Chip) (o : Nat) : Bool :=
  ready c .nib && ready c .met && ready c .out && ready c .svc && !outletDisabled c o && modePermits c
    && c.pwd.holdOk && !c.saf.retired.getLsbD o && !c.upd.restartDue && c.saf.nibOk && !pointBars c o

/-- R238, R249: the lock reads locked, where the outlet has one. -/
def lockedIn (c : Chip) (o : Nat) : Bool := !cfgBit c (Reg.OUT_CFG o) 6 || (outletOf c o).lockIn

/-- R238: the conditions to command a contactor closed, besides the session state. -/
def mayClose (c : Chip) (o : Nat) : Bool :=
  mayEnergise c o && c.saf.permit.getLsbD o && gateOpen c o
    && lockedIn c o

/-! ### The pilot (R242, R243) -/

/-- R244: the generator at a steady +12 V. -/
def pilotSteady (c : Chip) (o : Nat) : Chip :=
  let c := modOutlet c o (fun x => { x with pwm := false, duty := 0 })
  { c with pwd := { c.pwd with pilots := tput c.pwd.pilots o .steady12 } }

/-- The generator running at a duty in 0.1 %. -/
def pilotDuty (c : Chip) (o duty : Nat) : Chip :=
  let c := modOutlet c o (fun x => { x with pwm := true, duty := duty })
  { c with pwd := { c.pwd with pilots := tput c.pwd.pilots o (.pwm duty) } }

/-- R70, R479: the pilot held at state F. -/
def pilotF (c : Chip) (o : Nat) : Chip :=
  let c := modOutlet c o (fun x => { x with pwm := false, duty := 0 })
  { c with pwd := { c.pwd with pilots := tput c.pwd.pilots o .stateF } }

/-- R268: high-level communication is offered. -/
def offersHlc (c : Chip) (o : Nat) : Bool := isDc c o || cfgBit c (Reg.OUT_CFG o) 4

/-- R242: the duty of an ILIM in 0.1 A without high-level communication, rounded down to 0.1 %; none below
6.0 A. -/
def dutyOf (ilim : Nat) : Option Nat :=
  if ilim < 60 then none
  else if ilim ≤ 510 then some (ilim * 10 / 6)
  else some (min ilim 800 * 10 / 25 + 640)

/-- R389: the site term of an outlet in W; none for a module that is not allocated. -/
def siteGrant (c : Chip) (o : Nat) : Option Nat :=
  if cfgBit c Reg.FAB_CFG 2 then some (tget 0 c.fab.grantImp o) else none

/-- R387: phases of an AC outlet. -/
def outPhases (c : Chip) (o : Nat) : Nat := if cfgBit c (Reg.OUT_CFG o) 2 then 3 else 1

/-- R177: the mean phase voltage of the last cycle of the bound point, or the mean output voltage of a DC point,
in mV. -/
def outletVolts (c : Chip) (o : Nat) : Nat :=
  match pointOfOutlet c o with
  | none => 0
  | some m =>
    if mpType c m = 1 then
      ((regGet c (Reg.MET_QE_INST m 0 0)).toNat + (regGet c (Reg.MET_QE_INST m 1 0)).toNat
        + (regGet c (Reg.MET_QE_INST m 2 0)).toNat) / 3
    else if mpType c m = 2 then (regGet c (Reg.MET_QE_INST m 0 0)).toNat
    else (unsgn 32 (regGet c (Reg.MET_QE_INST m 3 0)).toNat).natAbs

/-- R243: the site grant as a current in 0.1 A at the present voltage. A voltage of 0 gives a current that the
spec does not state: a free value (log 10). -/
def grantCurrent (c : Chip) (o w : Nat) : Nat :=
  let mv := outletVolts c o * (if isDc c o then 1 else outPhases c o)
  if mv = 0 then (if w = 0 then 0 else freeBelow c (6000 + o) 65536) else w * 10000 / mv

/-- R256 K: of two profiles the one in force: the higher stack level, the lower limit of equals (log 62). -/
def strongerProfile (a : Option Profile) (p : Profile) : Option Profile :=
  match a with
  | some q => if q.stack < p.stack ∨ (q.stack = p.stack ∧ p.limit < q.limit) then some p else some q
  | none => some p

/-- R256 K: the limit of the charging profile in force. -/
def profileLimit (x : OutletSt) : Option Nat := (x.profiles.foldl strongerProfile none).map (·.limit)

/-- R260: module a of a bus, keyed 64 · bus + address. -/
def moduleOf (c : Chip) (bus a : Nat) : Module := tget Module.init c.outl.modules (64 * bus + a)

/-- R268: addresses of the modules of outlet o, with their bus. -/
def outletModules (c : Chip) (o : Nat) : List (Nat × Nat) :=
  let r := Reg.OUT_CONV o
  (List.range (cfg c r 20 16)).map (fun j => (cfg c r 0 0, cfg c r 13 8 + j))

/-- R260: the present modules of outlet o. -/
def presentModules (c : Chip) (o : Nat) : List (Nat × Nat) :=
  (outletModules c o).filter (fun (b, a) => (moduleOf c b a).present)

/-- R260: the sum of the rated currents of the present modules, 0.1 A. -/
def modulesRating (c : Chip) (o : Nat) : Nat :=
  ((presentModules c o).map (fun (b, a) => (moduleOf c b a).ratedI)).sum

/-- The lesser of a limit and an optional one. -/
def minOpt (a : Nat) (o : Option Nat) : Nat := match o with | some b => min a b | none => a

/-- R243: ILIM in 0.1 A. -/
def ilimOf (c : Chip) (o : Nat) : Nat :=
  let x := outletOf c o
  let l := minOpt (cfg c (Reg.OUT_LIMIT o) 15 0) ((siteGrant c o).map (grantCurrent c o))
  let l := minOpt l (profileLimit x)
  if isDc c o then min l (modulesRating c o)
  else if cfgBit c (Reg.OUT_CFG o) 3 then l
  else min l (x.capA * 10)

/-! ### The lock (R249) -/

/-- R22: a power-die write is posted. -/
def postPwd (c : Chip) (a : Nat) (w : Word) (owner : Option Requester) : Chip :=
  { c with pwd := { c.pwd with posted := c.pwd.posted ++ [{ addr := a, value := w, owner := owner }] } }

/-- R249: the channels of the lock coils of outlet o, where it has a lock. -/
def lockChannel (c : Chip) (o n : Nat) : Bool :=
  cfgBit c (Reg.OUT_CFG o) 6 && (cfg c (Reg.OUT_LOCK_CFG o) 3 0 == n || cfg c (Reg.OUT_LOCK_CFG o) 7 4 == n)

/-- R249, R268: what the lock shows once its pulse is over: the level of the feedback. -/
def lockOf (level : Bool) : Lock := if level then .locked else .unlocked

/-- R249: a timed on-command of PULSE to a lock channel, posted to the power die. The lock is moving until its feedback
reads what the pulse asks for. -/
def driveLock (c : Chip) (o : Nat) (lock : Bool) : Chip :=
  if cfgBit c (Reg.OUT_CFG o) 6 then
    let r := Reg.OUT_LOCK_CFG o
    let ch := if lock then cfg c r 3 0 else cfg c r 7 4
    if !lock && fbClosed c o then c
    else postPwd (modOutlet c o (fun x => { x with
        locking := lock, lock := if x.lockIn == lock then lockOf lock else .moving })) (Reg.LSW_CMD ch)
      (wordOf (1 + place 8 (cfg c r 23 16))) none
  else c

/-! ### Converters (R259 to R261) -/

/-- Bus b. -/
def busOf (c : Chip) (b : Nat) : CanBus := tget CanBus.init c.outl.buses b

/-- R259: sends a frame with the next sequence number of its TYPE. -/
def sendCan (c : Chip) (b typ dst : Nat) (data : List Byte) : Chip :=
  let k := busOf c b
  if cfgBit c (Reg.OUT_CAN_CFG b) 8 && !k.busOff then
    let n := tget 0 k.seqs typ
    let c := { c with outl := { c.outl with
      buses := tput c.outl.buses b { k with seqs := tput k.seqs typ ((n + 1) % 256) } } }
    emit c (.can b (typ * 2 ^ 24 + dst * 2 ^ 16 + n) data)
  else c

/-- R259: the bytes of a SETPOINT. -/
def setpointBytes (mode mv : Nat) (ma : Int) (w ramp : Nat) : List Byte :=
  beBytes 1 mode ++ beBytes 1 0 ++ beBytes 4 mv ++ beBytes 4 (sgn 32 ma) ++ beBytes 4 w ++ beBytes 2 ramp

/-- R260: an equal share of a current among n modules, within the rating (0.1 A) of each; its rounding is open
(log 2). -/
def moduleShare (c : Chip) (o : Nat) (ma : Int) (n rated : Nat) : Int :=
  let s := if n = 0 then 0 else roundOpenNat c (6100 + o) ma.natAbs n
  let s := min s (rated * 100)
  if ma < 0 then -(s : Int) else s

/-- R259, R260: SETPOINT to each present module of an outlet; the ramp is the vehicle protocol's and open
(log 2). -/
def sendSetpoints (c : Chip) (o : Nat) : Chip :=
  let x := outletOf c o
  let ms := presentModules c o
  takeFree (ms.foldl (fun c (b, a) =>
    let m := moduleOf c b a
    let mode := if x.setMode = 2 && !m.reverse then 0 else x.setMode
    sendCan c b 0x01 a (setpointBytes mode x.setMv (moduleShare c o x.setMa ms.length m.ratedI) (x.setW / max 1 ms.length)
      (freeBelow c (6200 + o) 65536))) c)

/-- R259: STOP to each module of an outlet. -/
def stopConverters (c : Chip) (o : Nat) : Chip :=
  (outletModules c o).foldl (fun c (b, a) => sendCan c b 0x05 a []) (modOutlet c o (fun x =>
    { x with setMode := 0, setMa := 0, setW := 0 }))

/-! ### Sessions at an outlet -/

/-- R257: raises bit b of OUT_EVT. -/
def outEvt (c : Chip) (o b : Nat) : Chip := raiseEvt c (Reg.OUT_EVT o) b

/-- R198: the LIVE context of an outlet is stopped. -/
def stopSession (c : Chip) (o : Nat) (flags : BitVec 16) : Chip :=
  match liveCtx c o with
  | some x => stopCtx c x flags
  | none => c

/-- A wait for an authorisation ends: its owner is answered. -/
def dropAuth (c : Chip) (o : Nat) (a : Answer) : Chip :=
  match (outletOf c o).authWait with
  | some w => completeOpt (modOutlet c o (fun x => { x with authWait := none })) w.owner a
  | none => c

/-- R257: FINISHING: PWM off; unlock once FBn reads open. A DC outlet whose contacts have been closed answers
WeldingDetection first. -/
def enterFinishing (c : Chip) (o : Nat) : Chip :=
  let c := dropAuth c o (ansReject .rule)
  let due := isDc c o && (outletOf c o).state == .weldCheck && (outletOf c o).hlc != .none
  let c := modOutlet c o (fun x => { x with state := .finishing, ctx := none, auth := none, waitSince := 0, reqMa := none,
                                            powerStart := false, paramDone := false, resume := false, unlockDue := due })
  let c := pilotSteady c o
  if due then c else driveLock c o false

/-- R257: the lock of a DC outlet in FINISHING opens: WeldingDetection has been answered, or can come no more (log 63). -/
def unlockNow (c : Chip) (o : Nat) : Chip :=
  let x := outletOf c o
  if x.state = .finishing ∧ x.unlockDue = true then driveLock (modOutlet c o (fun x => { x with unlockDue := false })) o false
  else c

/-- R257, R289: FAULTED: contactors opened by the safety path, the converters stopped, the context stopped, the
cable unlocked with FBn open. -/
def enterFaulted (c : Chip) (o : Nat) (flags : BitVec 16) : Chip :=
  let x := outletOf c o
  let c := processorOff c o
  if x.state = .unavailable then stopSession c o flags
  else
    let c := dropAuth c o (ansReject .rule)
    let c := if isDc c o then stopConverters c o else c
    let c := stopSession c o flags
    let c := modOutlet c o (fun x => { x with state := .faulted, ctx := none, auth := none, testDue := false, reqMa := none,
                                              waitSince := 0, powerStart := false, paramDone := false, resume := false })
    driveLock (pilotSteady c o) o false

/-- R257: UNAVAILABLE: pilot at F. -/
def enterUnavailable (c : Chip) (o : Nat) : Chip :=
  let c := dropAuth c o (ansReject .rule)
  let c := modOutlet c o (fun x => { x with state := .unavailable, ctx := none, auth := none, waitSince := 0, reqMa := none,
                                            powerStart := false, paramDone := false, draining := false, resume := false })
  driveLock (pilotF c o) o false

/-- R257: the outlet stays UNAVAILABLE. -/
def mustBeUnavailable (c : Chip) (o : Nat) : Bool :=
  outletDisabled c o || c.saf.retired.getLsbD o || c.sup.mode == .safeStop || c.sup.mode == .quarantine

/-! ### Aimed switching (R262, R263) -/

/-- R262: the mean of the learned times in µs; its rounding is open (log 2). -/
def meanTime (c : Chip) (place : Nat) (l : List Nat) : Nat :=
  if l.isEmpty then 0 else roundOpenNat c place l.sum l.length

/-- A time in µs as AU at the running frequency, to the nearest (DEDUCED from the example of R263, log 12). -/
def toAu (c : Chip) (us : Nat) : Nat := divHalfUp (us * c.tb.freq * 65536) 1000000000

/-- The first instant at or after t whose angle is z modulo half a cycle. -/
def nextZero (t z : Nat) : Nat :=
  let r := z % 32768
  let k := (t + 32768 - 1 - r) / 32768
  if t ≤ r then r else k * 32768 + r

/-- R263: the mean angle of crossings, taken about the newest one. -/
def meanZero (l : List Nat) : Nat :=
  match l with
  | [] => 0
  | z :: _ => (((z : Int) + (l.map (fun (x : Nat) => wrapAu ((x : Int) - (z : Int)))).sum / l.length) % 65536).toNat

/-- R263: the instant of a booked close. -/
def closeInstant (c : Chip) (o : Nat) : Nat :=
  let x := outletOf c o
  if cfgBit c (Reg.OUT_POW_CFG o) 0 && decide (4 ≤ x.tClose.length) then
    let t := toAu c (meanTime c (6300 + o) x.tClose)
    nextZero (nowAu c + 1024 + t) (meanZero x.vZeros) - t
  else nowAu c + 64

/-- R263: the separation instant aimed at, and the instant of a booked opening. -/
def openInstant (c : Chip) (o : Nat) : Nat × Nat :=
  let x := outletOf c o
  let t := toAu c (meanTime c (6310 + o) x.tOpen)
  let lead := cfg c (Reg.OUT_POW_CFG o) 31 16
  let z := meanZero (if x.iSmall then x.vZeros else x.iZeros)
  let s := nextZero (nowAu c + 1024 + t) (z + 32768 - lead % 32768)
  (s, s - t)

/-- R262: an outlet aims its openings. -/
def aimsOpen (c : Chip) (o : Nat) : Bool :=
  isAc c o && cfgBit c (Reg.OUT_POW_CFG o) 0 && decide (4 ≤ (outletOf c o).tOpen.length)

/-- R257, R261: the coil of an outlet is released at its separation instant: WELD_CHECK. STOP follows on a DC
outlet. -/
def releaseForOpening (c : Chip) (o : Nat) : Chip :=
  let c := processorOff c o
  let c := modOutlet c o (fun x => { x with state := .weldCheck })
  if isDc c o then stopConverters c o else c

/-- R257, R109: books a coil command; a full table is asked again at the next cycle, and a command whose instant cannot be
booked is performed at once. -/
def bookCoil (c : Chip) (k : BookKind) (at' : Nat) (now : Chip → Chip) : Chip :=
  match book c { cycle := at' / 65536, angle := at' % 65536, kind := k, period := 0 } with
  | (c, .badInstant) => now c
  | (c, _) => c

/-- R257, R258: OPENING: AC opens at its booked instant, or at once with POW_LATE when that lies later than
OPEN_MAX; DC ramps to 0. -/
def enterOpening (c : Chip) (o : Fin 8) (why : StopWhy) : Chip :=
  let c := modOutlet c o (fun x => { x with state := .opening, why := why, powerStart := false })
  if isDc c o then
    let c := modOutlet c o (fun x => { x with setMa := 0 })
    sendSetpoints c o
  else if aimsOpen c o then
    let (s, at') := openInstant c o
    if nowAu c + toAu c (1000 * cfg c (Reg.OUT_POW_CFG o) 15 8) < s then
      releaseForOpening (outEvt c o 9) o
    else bookCoil c (.coilOpen o) at' (fun c => releaseForOpening c o)
  else if cfgBit c (Reg.OUT_POW_CFG o) 0 then
    bookCoil c (.coilOpen o) (nowAu c + 64)
      (fun c => releaseForOpening c o)
  else releaseForOpening c o

/-- R257, R258: a stop of the session of an outlet. One that arrives while a close is booked and not yet
commanded cancels it; one after the command lets the close complete. -/
def stopOutlet (c : Chip) (o : Fin 8) (flags : BitVec 16) : Chip :=
  let x := outletOf c o
  match x.state with
  | .energised => enterOpening c o .stop
  | .opening => modOutlet c o (fun x => { x with why := .stop })
  | .weldCheck => modOutlet c o (fun x => { x with why := .stop })
  | .closing =>
    if (coilOf c o).cmd then modOutlet c o (fun x => { x with why := .stop })
    else enterFinishing (stopSession (processorOff c o) o flags) o
  | .checking => enterOpening c o .stop
  | .precharge => enterOpening c o .stop
  | .authorised => enterFinishing (stopSession c o flags) o
  | .negotiating => enterFinishing (stopSession c o flags) o
  | .plugged => if (liveCtx c o).isSome then enterFinishing (stopSession c o flags) o else c
  | .linking => if (liveCtx c o).isSome then enterFinishing (stopSession c o flags) o else c
  | .idle => c
  | .finishing => c
  | .faulted => c
  | .unavailable => c

/-- R257, R263: CLOSING: AC books the close, DC closes unaimed; a command needs every condition of R238. Where one has
come to fail, the outlet is AUTHORISED again (log 63). -/
def commandClose (c : Chip) (o : Nat) : Chip :=
  if mayClose c o then commandCoil c o true else modOutlet c o (fun x => { x with state := .authorised })

/-- R257: CLOSING of an outlet. -/
def enterClosing (c : Chip) (o : Fin 8) : Chip :=
  let c := modOutlet c o (fun x => { x with state := .closing, why := .pause })
  if isAc c o && cfgBit c (Reg.OUT_POW_CFG o) 0 then
    bookCoil c (.coilClose o) (closeInstant c o)
      (fun c => commandClose c o)
  else commandClose c o

/-- R244, R257: the pilot state asks for energy: C, or D with VENT_OK. -/
def cpReady (c : Chip) (o : Nat) : Bool :=
  (outletOf c o).cp == .c || ((outletOf c o).cp == .d && cfgBit c (Reg.OUT_CFG o) 7)

/-- R257, R288: AUTHORISED to CLOSING, when the conditions of energisation hold; a pre-close pass more than 60 s old
is repeated first. -/
def startClosing (c : Chip) (o : Fin 8) : Chip :=
  let x := outletOf c o.val
  if x.state = .authorised ∧ mayEnergise c o.val = true ∧ lockedIn c o.val = true then
    match x.preclosed with
    | some t =>
      if aonSec c ≤ t + 60 then enterClosing c o
      else { modOutlet c o.val (fun x => { x with state := .closing, why := .pause, testDue := true }) with
             saf := { c.saf with precloseReq := some o.val } }
    | none => c
  else c

/-- R257: what AUTHORISED waits for: state C or D, and under high-level communication a PowerDelivery start. DC
outlets close on CableCheckReq. -/
def tryClose (c : Chip) (o : Fin 8) : Chip :=
  let x := outletOf c o.val
  if isAc c o.val ∧ cpReady c o.val = true ∧ (x.hlc = .none ∨ x.powerStart = true) ∧ (x.hlc ≠ .none ∨ x.pwm = true) then
    startClosing c o
  else c

/-- R242: ILIM is signalled by the duty: an AC outlet without high-level communication, nor waiting for it to resume. -/
def signalsDuty (c : Chip) (o : Nat) : Bool :=
  let x := outletOf c o
  isAc c o && x.hlc == .none && !x.resume
    && (x.state == .authorised || x.state == .closing || x.state == .energised || x.state == .opening || x.state == .weldCheck)

/-- R243, R244, R258: re-evaluates ILIM; a lower one that arrives in CHECKING or PRECHARGE waits for ENERGISED.
Without high-level communication the duty follows, PWM goes off below 6.0 A, and with its return a vehicle still in
state C is served again. -/
def updateIlim (c : Chip) (o : Nat) : Chip :=
  let x := outletOf c o
  let l := ilimOf c o
  if (x.state = .checking ∨ x.state = .precharge) ∧ l < x.ilim then c
  else
    let c := modOutlet c o (fun x => { x with ilim := l })
    if signalsDuty c o then
      match dutyOf l with
      | some d => if x.pwm then pilotDuty c o d else tryClose (pilotDuty c o d) (Fin.ofNat 8 o)
      | none => pilotSteady c o
    else c

/-- R243: every outlet's ILIM, which holds while the outlet firmware is being placed (R445). -/
def updateIlims (c : Chip) : Chip := if outletPlacing c then c else takeFree ((List.range 8).foldl updateIlim c)

/-- R70, R257: an outlet is disabled, or the mode or a retirement makes it UNAVAILABLE: a session is drained
first. -/
def drainOutlet (c : Chip) (o : Fin 8) : Chip :=
  let x := outletOf c o
  if x.state = .unavailable then c
  else if energised c o ∨ x.state = .closing ∨ x.state = .weldCheck then
    stopOutlet (modOutlet c o (fun x => { x with draining := true })) o 0
  else enterUnavailable (stopSession c o 0) o

/-- R50, R51: every energised outlet is opened without aiming. -/
def openAllNow (c : Chip) : Chip :=
  (List.finRange 8).foldl (fun c o =>
    if energised c o.val then
      let c := processorOff c o.val
      let x := outletOf c o.val
      if x.state = .energised ∨ x.state = .closing ∨ x.state = .checking ∨ x.state = .precharge ∨ x.state = .opening then
        let c := modOutlet c o.val (fun x => { x with state := .weldCheck, why := .stop })
        if isDc c o.val then stopConverters c o.val else c
      else c
    else c) c

end Sys2Proof.Machine
end

