-- ==== Sys2Proof/Machine/CgOps.lean ====
section
/-! DEFINITION. The commit group (R30 to R38), non-shadowable sequences (R39 to R43, R478), and their commands. -/

namespace Sys2Proof.Machine

/-! ### Shadows -/

/-- R27, R30: the member a register's window belongs to: supervisor 0 to power die 7. -/
def memberOf (a : Nat) : Nat := a / 0x1000000

/-- A shadowed register of one of the members. -/
def memberShadow (mem : BitVec 8) (a : Nat) : Bool := isShadowed a && mem.getLsbD (memberOf a)

/-- The entries of one register table that p names replaced by those of another. -/
def copyRegs (src dst : Tab Word) (p : Nat → Bool) : Tab Word :=
  (src.filter (fun e => p e.1)).foldl (fun t e => tput t e.1 e.2) (dst.filter (fun e => !p e.1))

/-- R36: every member copies shadow to live. The power die's live values follow its confirmation (R38). -/
def applyShadows (c : Chip) (mem : BitVec 8) : Chip :=
  { c with live := copyRegs c.regs c.live (fun a => memberShadow mem a && memberOf a != 7) }

/-- R36: every member's shadows are loaded from live again. -/
def reloadShadows (c : Chip) (mem : BitVec 8) : Chip :=
  { c with regs := copyRegs c.live c.regs (memberShadow mem) }

/-- R34: the group is ARMED or DEFERRED. -/
def cgActive (c : Chip) : Bool := c.cg.state == .armed || c.cg.state == .deferred

/-- R38: member m has answered READY and takes on no operation that would cross the boundary. -/
def memberLocked (c : Chip) (m : Nat) : Bool := c.cg.locked && c.cg.members.getLsbD m

/-- R35: a write to this shadow is blocked. -/
def shadowBlocked (c : Chip) (a : Nat) : Bool := cgActive c && c.cg.members.getLsbD (memberOf a)

/-- R456, R470: FLT_SRC_CFG as a write leaves it: a reserved source's write is discarded, PERM_N of a WELD source and REACT
of WATCHDOG keep their fixed values. -/
def fltCfgTaken (old w : Word) (s : Nat) : Word :=
  if 152 ≤ s then old
  else if 88 ≤ s ∧ s ≤ 95 then withField w 15 12 1
  else if s = 151 then withField w 2 0 3
  else w

/-- R10, R26: a value written to a shadow; reserved bits keep 0. -/
def shadowPut (c : Chip) (a : Nat) (w : Word) : Chip :=
  match regRow a with
  | some r =>
    let v := (regGet c a &&& ~~~ r.wmask) ||| (w &&& r.wmask)
    regPut c a (if 0x20000 ≤ a ∧ a < 0x20800 then fltCfgTaken (regGet c a) v ((a - 0x20000) / 4) else v)
  | none => c

/-! ### The group -/

/-- R34, R35: arms the group, or refuses. -/
def armGroup (c : Chip) (src : Nat) (members : BitVec 8) (maxDefer target : Nat) (owner : Option Requester) :
    Chip × Bool :=
  if cgActive c || !c.tb.known || (target != 0 && decide (target < c.tb.cycle + 2)) then
    (raiseEvt c Reg.SUP_CG_EVT 3, false)
  else
    ({ c with cg := { c.cg with
        state := .armed, deferrals := 0, src := src, members := members, maxDefer := min maxDefer 8,
        target := if target = 0 then c.tb.cycle + 2 else target, locked := false, owner := owner, waiters := [] } },
     true)

/-- R32: the cause shown for member m. -/
def refuseOf (w : Word) (m : Nat) : Nat := fieldOf w (4 * m + 3) (4 * m)

/-- R32: some member shows the cause. -/
def refusedFor (w : Word) (cause : Nat) : Bool := (List.range 8).any (fun m => refuseOf w m == cause)

/-- R362: the answer to CG_ARM when the group ends. Several causes at once are taken in the order of R32 (DEDUCED,
log 13). -/
def groupAnswer (c : Chip) : Answer :=
  let w := c.cg.refuse
  let a : Answer := match c.cg.state with
    | .committed => { ansOk with result := leBytes 6 c.cg.doneCycle }
    | .cancelled => ansReject .cancelled
    | _ =>
      if refusedFor w 5 then ansStatus .discarded
      else if refusedFor w 1 then ansStatus .notReady
      else if refusedFor w 4 then ansReject .abandoned
      else if refusedFor w 2 then ansStatus .busyRegion
      else ansReject .abandoned
  { a with aux := c.cg.state.code, aux32 := w.toNat }

/-- The end of a group is answered to its owner and to re-issues (R367). -/
def answerGroup (c : Chip) : Chip :=
  let a := groupAnswer c
  let who := c.cg.owner.toList ++ c.cg.waiters
  completeAll { c with cg := { c.cg with owner := none, waiters := [] } } who a

/-- R36: the group ends ABANDONED; shadows are loaded from live. -/
def abandonGroup (c : Chip) : Chip :=
  let c := reloadShadows c c.cg.members
  let c := raiseEvt { c with cg := { c.cg with state := .abandoned, locked := false } } Reg.SUP_CG_EVT 1
  answerGroup c

/-- R32: one cause in the field of every member. -/
def refuseAll (mem : BitVec 8) (cause : Nat) : Word :=
  wordOf (((List.range 8).filter (fun m => mem.getLsbD m)).foldl (fun a m => a + cause * 2 ^ (4 * m)) 0)

/-- R32, R36, R37: a brown-out ends the group for POWER. -/
def abandonForPower (c : Chip) : Chip :=
  if cgActive c then abandonGroup { c with cg := { c.cg with refuse := refuseAll c.cg.members 5 } } else c

/-- R36: CANCEL. -/
def cancelGroup (c : Chip) : Chip :=
  if cgActive c then
    let c := reloadShadows c c.cg.members
    answerGroup { c with cg := { c.cg with state := .cancelled, locked := false } }
  else c

/-- R36, R37: angle 0 of the applying cycle of a commit-locked group. -/
def swapGroup (c : Chip) : Chip :=
  if cgActive c && c.cg.locked && c.cg.target + c.cg.deferrals == c.tb.cycle then
    let c := applyShadows c c.cg.members
    let c := { c with cg := { c.cg with state := .committed, locked := false, doneCycle := c.tb.cycle,
                                        pdSent := if c.cg.members.getLsbD 7 then some (c.regs.filter (fun e => memberShadow 0x80 e.1)) else c.cg.pdSent } }
    answerGroup (raiseEvt c Reg.SUP_CG_EVT 0)
  else c

/-- R30: the fields MEMBERS and MAXDEFER of SUP_CG_CTRL as written. -/
def cgFields (c : Chip) (members : BitVec 8) (maxDefer : BitVec 4) : Chip :=
  if cgActive c then c
  else regPut c Reg.SUP_CG_CTRL (wordOf (place 8 members.toNat + place 16 maxDefer.toNat))

/-- R35: the target written in SUP_CG_TARGET. -/
def cgTarget (c : Chip) : Nat := (regGet c Reg.SUP_CG_TARGET_LO).toNat + imm c Reg.SUP_CG_TARGET_HI 15 0 * 2 ^ 32

/-- CG_CTRL_ARM (R30, R34, R35). -/
def execCgCtrlArm (members : BitVec 8) (maxDefer : BitVec 4) (s : State) : Host.Outcome State Fault Refusal :=
  onChip s fun c => reach c Reg.SUP_CG_CTRL fun c =>
    let c := cgFields c members maxDefer
    (armGroup c 0 members maxDefer.toNat (cgTarget c) none).1

/-- CG_CTRL_CANCEL (R30, R36). -/
def execCgCtrlCancel (members : BitVec 8) (maxDefer : BitVec 4) (s : State) : Host.Outcome State Fault Refusal :=
  onChip s fun c => reach c Reg.SUP_CG_CTRL fun c => cancelGroup (cgFields c members maxDefer)

/-- R31: OWNER of a descriptor or of the service firmware. -/
def ownerCode : Requester → Nat
  | .host _ _ => 1
  | .service _ => 2

/-- CG_ARM (R362, R367): a re-issue of the arming descriptor waits for the group's end. -/
def execCgArm (req : Requester) (members : BitVec 8) (maxDefer : BitVec 4) (target : Nat) (s : State) :
    Host.Outcome State Fault Refusal :=
  .next { s with chip := perform s.chip req 0x0102 .supervisor (fun c =>
    if cgActive c && c.cg.owner == some req then { c with cg := { c.cg with waiters := c.cg.waiters ++ [req] } }
    else
      match armGroup c (ownerCode req) members maxDefer.toNat target (some req) with
      | (c, true) => c
      | (c, false) => complete c req { ansReject .rule with aux := c.cg.state.code, aux32 := c.cg.refuse.toNat }) }

/-- CG_CANCEL (R362). -/
def execCgCancel (req : Requester) (s : State) : Host.Outcome State Fault Refusal :=
  .next { s with chip := perform s.chip req 0x0103 .supervisor (fun c =>
    let st := c.cg.state.code
    complete (cancelGroup c) req { ansOk with aux := st }) }

/-- R16: a shadow of a fenced region cannot be written; the answer is that of other work for it (DEDUCED, log 39). -/
def shadowFenced (c : Chip) (a : Nat) : Bool := decide (memberOf a < 7) && c.sup.fence.getLsbD (memberOf a)

/-- SHADOW_WRITE (R362): every pair, or none. -/
def execShadowWrite (req : Requester) (pairs : Option (List (Word × Word))) (s : State) :
    Host.Outcome State Fault Refusal :=
  .next { s with chip := perform s.chip req 0x0101 .supervisor (fun c =>
    match pairs with
    | none => complete c req (ansReject .buffer)
    | some ps =>
      if ps.isEmpty || decide (512 < ps.length) then complete c req (ansReject .buffer)
      else if ps.any (fun p => !(isShadowed p.1.toNat && (regRow p.1.toNat).isSome)) then
        complete c req (ansReject .field)
      else if ps.any (fun p => shadowFenced c p.1.toNat) then complete c req (ansStatus .notReady)
      else if ps.any (fun p => shadowBlocked c p.1.toNat) then
        complete (raiseEvt c Reg.SUP_CG_EVT 2) req (ansReject .rule)
      else complete (ps.foldl (fun c p => shadowPut c p.1.toNat p.2) c) req ansOk) }

/-! ### Non-shadowable sequences -/

/-- R478: the non-shadowable registers. -/
def isNs (a : Nat) : Bool :=
  a == Reg.PWD_BO_CFG || (List.range 8).any (fun n => a == Reg.PWD_COIL_PROF n)
    || (List.range 4).any (fun p => a == Reg.FAB_PORT_COST p)

/-- R478: the fields of a non-shadowable register as (hi, lo, least, greatest, safe is lower). -/
def nsFields (a : Nat) : List (Nat × Nat × Nat × Nat × Bool) :=
  if a = Reg.PWD_BO_CFG then [(7, 0, 70, 100, false), (15, 8, 5, 100, true)]
  else if (List.range 8).any (fun n => a == Reg.PWD_COIL_PROF n) then
    [(11, 0, 100, 2500, true), (23, 12, 100, 1000, true), (31, 24, 10, 255, true)]
  else [(15, 0, 0, 65535, false)]

/-- R478: one setting for each field of a register, clamped (R93, R270). -/
def nsSettings (a : Nat) (w : Word) : List NsSetting :=
  (nsFields a).map (fun (hi, lo, mn, mx, _) => { reg := a, hi := hi, lo := lo, value := max mn (min mx (fieldOf w hi lo)) })

/-- The value a setting finds. -/
def nsOld (c : Chip) (s : NsSetting) : Nat := imm c s.reg s.hi s.lo

/-- R39: a setting that moves towards the safe side. -/
def nsSafer (c : Chip) (s : NsSetting) : Bool :=
  match (nsFields s.reg).find? (fun f => f.1 == s.hi) with
  | some (_, _, _, _, lower) => if lower then decide (s.value < nsOld c s) else decide (nsOld c s < s.value)
  | none => false

/-- R39, R40: a sequence in its order. -/
def nsOrder (c : Chip) (l : List NsSetting) : List NsSetting :=
  l.filter (nsSafer c) ++ l.filter (fun s => !nsSafer c s)

/-- R39: settings at the head that leave their value unchanged have landed. -/
def nsSkip (c : Chip) (q : NsSeq) : List NsSetting → NsSeq
  | [] => { q with todo := [] }
  | s :: ss =>
    if nsOld c s = s.value then nsSkip c { q with done := q.done + 1, safeLeft := q.safeLeft - 1 } ss
    else { q with todo := s :: ss }

/-- R270: a change of a coil in pull-in shows as pending. -/
def nsPend (c : Chip) (q : NsSeq) : Chip :=
  match q.todo with
  | s :: _ =>
    (List.range 8).foldl (fun c n =>
      if s.reg = Reg.PWD_COIL_PROF n ∧ (coilOf c n).state = .pullin then setCoil c n { coilOf c n with pend := true }
      else c) c
  | [] => c

/-- R362: the answer to a sequence. -/
def nsAnswer (st : Status) (q : NsSeq) : Answer := { ansStatus st with aux := q.total }

/-- R40: a sequence becomes the active one. -/
def nsStart (c : Chip) (q : NsSeq) : Chip :=
  let todo := nsOrder c q.todo
  let q := nsSkip c { q with safeLeft := (q.todo.filter (nsSafer c)).length } todo
  nsPend { c with ns := { c.ns with active := some q, lastDone := q.done, lastTotal := q.total,
                                    result := Status.part.code } } q

/-- R40: the active sequence has landed: NS_DONE, its answer, and the queued one starts. -/
def nsFinish (c : Chip) : Chip :=
  match c.ns.active with
  | some q =>
    if q.todo.isEmpty then
      let next := c.ns.queued
      let c := { c with ns := { active := none, queued := none, lastDone := q.done, lastTotal := q.total,
                                result := Status.ok.code } }
      let c := raiseEvt c Reg.SUP_CG_EVT 4
      let c := if q.wait then completeOpt c q.owner (nsAnswer .ok q) else c
      match next with
      | some n =>
        let c := nsStart c n
        -- a queued sequence with nothing to change lands at once
        match c.ns.active with
        | some q' =>
          if q'.todo.isEmpty then
            let c := { c with ns := { active := none, queued := none, lastDone := q'.done, lastTotal := q'.total,
                                      result := Status.ok.code } }
            let c := raiseEvt c Reg.SUP_CG_EVT 4
            if q'.wait then completeOpt c q'.owner (nsAnswer .ok q') else c
          else c
        | none => c
      | none => c
    else c
  | none => c

/-- R40: submits a sequence: started, queued, or refused. -/
def nsSubmit (c : Chip) (l : List NsSetting) (owner : Option Requester) (wait : Bool) : Chip × Bool :=
  let q : NsSeq := { todo := l, safeLeft := 0, done := 0, total := l.length, owner := owner, wait := wait }
  if c.ns.active.isNone then (nsFinish (nsStart c q), true)
  else if c.ns.queued.isNone then ({ c with ns := { c.ns with queued := some q } }, true)
  else (c, false)

/-- R22: a write confirmed by the power die is counted. -/
def pwdCount (c : Chip) : Chip := { c with pwd := { c.pwd with writeSeq := (c.pwd.writeSeq + 1) % 2 ^ 32 } }

/-- R22, R380: a landed power-die write is counted, a landed cost told to the fabric. -/
def nsLandedAt (c : Chip) (s : NsSetting) : Chip :=
  let c := if memberOf s.reg = 7 then pwdCount c else c
  let c := regPut c s.reg (withField (regGet c s.reg) s.hi s.lo s.value)
  let c := (List.range 8).foldl (fun c n =>
    if s.reg = Reg.PWD_COIL_PROF n then setCoil c n { coilOf c n with pend := false } else c) c
  if (List.range 4).any (fun p => s.reg == Reg.FAB_PORT_COST p) then floodLsa c else c

/-- R270: the setting waits for the end of its coil's pull-in. -/
def nsHeld (c : Chip) (s : NsSetting) : Bool :=
  (List.range 8).any (fun n => s.reg == Reg.PWD_COIL_PROF n && (coilOf c n).state == .pullin)

/-- R39: the setting under way lands. -/
def nsLand (c : Chip) : Chip :=
  match c.ns.active with
  | some q =>
    match q.todo with
    | s :: ss =>
      if nsHeld c s then c
      else
        let c := nsLandedAt c s
        let q := nsSkip c { q with done := q.done + 1, safeLeft := q.safeLeft - 1 } ss
        nsFinish (nsPend { c with ns := { c.ns with active := some q, lastDone := q.done } } q)
    | [] => c
  | none => c

/-- R41: the setting of a sequence already sent lands; with it the number of settings that did. -/
def nsSent (c : Chip) (q : NsSeq) : Chip × Nat :=
  match q.todo with
  | s :: _ => (nsLandedAt c s, 1)
  | [] => (c, 0)

/-- R41: a reset of the module interrupts the active sequence; nothing in flight completes (R366). -/
def nsCut (c : Chip) : Chip :=
  match c.ns.active with
  | some q => (nsSent c q).1
  | none => c

/-- R41: a fault interrupts the active sequence; the setting already sent lands, and the queued one goes too. -/
def nsInterrupt (c : Chip) : Chip :=
  match c.ns.active with
  | some q =>
    let (c, n) := nsSent c q
    let next := c.ns.queued
    let c := { c with ns := { active := none, queued := none, lastDone := q.done + n, lastTotal := q.total,
                              result := Status.discarded.code } }
    let c := if q.wait then completeOpt c q.owner (nsAnswer .discarded q) else c
    match next with
    | some n => if n.wait then completeOpt c n.owner (nsAnswer .discarded n) else c
    | none => c
  | none => c

/-- R41, R19: the loss of the power link interrupts a sequence whose setting is for the power die. -/
def nsLinkLost (c : Chip) : Chip :=
  match c.ns.active with
  | some q => if q.todo.any (fun s => memberOf s.reg == 7) then nsInterrupt c else c
  | none => c

/-- R41: a fence or reset of the link region interrupts one whose setting is for the router. -/
def nsRouterLost (c : Chip) : Chip :=
  match c.ns.active with
  | some q => if q.todo.any (fun s => memberOf s.reg != 7) then nsInterrupt c else c
  | none => c

/-- R478: a write to a non-shadowable register; with a sequence already queued it is discarded. -/
def nsWrite (c : Chip) (a : Nat) (w : Word) : Chip :=
  match nsSubmit c (nsSettings a w) none false with
  | (c, true) => c
  | (c, false) => raiseEvt c Reg.SUP_CG_EVT 5

/-- NS_WRITE (R478). A write to another register is not this command. -/
def execNsWrite (addr : Nat) (value : Word) (s : State) : Host.Outcome State Fault Refusal :=
  onChip s fun c => reach c addr fun c => if isNs addr then nsWrite c addr value else c

/-- NS_SETTING_LANDED (R39, R40). -/
def execNsSettingLanded (s : State) : Host.Outcome State Fault Refusal := .next { s with chip := nsLand s.chip }

/-- R365: the request's sequence is active or queued. -/
def nsOwned (c : Chip) (req : Requester) : Bool :=
  (match c.ns.active with | some q => q.owner == some req | none => false)
    || (match c.ns.queued with | some q => q.owner == some req | none => false)

/-- NS_SEQ (R362, R39, R40). -/
def execNsSeq (req : Requester) (wait : Bool) (pairs : Option (List (Word × Word))) (s : State) :
    Host.Outcome State Fault Refusal :=
  .next { s with chip := perform s.chip req 0x0104 .supervisor (fun c =>
    match pairs with
    | none => complete c req (ansReject .buffer)
    | some ps =>
      let l := ps.flatMap (fun p => nsSettings p.1.toNat p.2)
      if ps.isEmpty || decide (255 < ps.length) then complete c req (ansReject .buffer)
      else if ps.any (fun p => !isNs p.1.toNat) then complete c req (ansReject .field)
      else if nsOwned c req then complete c req { ansStatus .part with aux := l.length % 256 }
      else
        match nsSubmit c l (some req) wait with
        | (c, true) => if wait then c else complete c req { ansStatus .part with aux := l.length % 256 }
        | (c, false) => complete c req (ansReject .queueFull)) }

end Sys2Proof.Machine
end

