-- ==== Sys2Proof/Machine/ModeOps.lean ====
section
/-! DEFINITION. Points and lanes changing state (R127, R140, R141), mode changes (R44 to R50, R479), and the resets
of regions and of the module (R52, R53, R366). -/

namespace Sys2Proof.Machine

/-! ### Points (R140, R141) -/

/-- A stop of the LIVE session of the outlet that point m is bound to. -/
def stopBound (c : Chip) (m : Nat) : Chip :=
  if h : mpBind c m < 8 then
    if (liveCtx c (mpBind c m)).isSome then stopOutlet c ⟨mpBind c m, h⟩ 0 else c
  else c

/-- R141: what follows when the state of point m was `old`: entering and leaving FAILED are logged, a session on it
stops, and the span without measurement is recorded. -/
def pointChanged (c : Chip) (m old cause lane : Nat) : Chip :=
  let new := pointState c m
  let c := if (old == 4) != (new == 4) then pointStateEntry c m old new cause lane else c
  let c := if new = 4 ∧ old ≠ 4 then stopBound (openUnmeasured c m 1) m else c
  let c := if new = 2 ∨ new = 3 then closeUnmeasured c m else c
  setPt c m { ptOf c m with failed := new == 4 || ((ptOf c m).failed && !(new == 2 || new == 3)) }

/-- R145: the measurement stops. -/
def calAbort (c : Chip) : Chip :=
  let k := c.met.cal
  if k.busy || k.due then { c with met := { c.met with cal := { k with busy := false, due := false, aborted := true } } }
  else c

/-- R145: a calibration measurement of lane n stops when the lane leaves RUN. -/
def calLeft (c : Chip) (n : Nat) (was : LaneState) : Chip :=
  let k := c.met.cal
  if was = .run ∧ (laneOf c n).state ≠ .run ∧ k.busy = true ∧ (k.laneA = n ∨ k.laneB = n) then calAbort c else c

/-- A change of lane n, with the consequences for its point and for a calibration measurement. -/
def withLane (c : Chip) (n : Nat) (f : Chip → Chip) : Chip :=
  let was := (laneOf c n).state
  match pointOfLane c n with
  | none => calLeft (f c) n was
  | some m => calLeft (pointChanged (f c) m (pointState c m) 0 n) n was

/-- R127, R464: a lane in use is RETIRED: clock off. -/
def retireLane (c : Chip) (n : Nat) : Chip :=
  match (laneOf c n).state with
  | .off => c
  | .retired => c
  | .stopped => c
  | _ => withLane c n (fun c =>
      raiseEvt (setLane c n { laneOf c n with state := .retired, range16 := false }) (Reg.MET_LANE_EVT n) 3)

/-- R127: lane n as its membership of an enabled point asks: an OFF member starts training, a lane of no enabled point goes
OFF. A lane whose source the fault collector holds RETIRED does not train (R464). -/
def assignLane (c : Chip) (n : Nat) : Chip :=
  match pointOfLane c n, (laneOf c n).state with
  | some _, .off =>
    if (tget Src.init c.flt.srcs n).state = .retired then setLane c n { laneOf c n with state := .retired }
    else trainLane c n
  | some _, _ => c
  | none, .off => c
  | none, s => calLeft (laneOff c n) n s

/-- R127, R141: every lane as its membership asks; a point that so enters or leaves FAILED has the consequences of it. `old`
gives the states the points had. -/
def assignLanes (c : Chip) (old : Nat → Nat) : Chip :=
  let c := (List.range 64).foldl assignLane c
  (List.range 8).foldl (fun c m => if pointEnabled c m then pointChanged c m (old m) 0 0xFF else c) c

/-! ### Modes -/

/-- R46, R370, R475: the mode changes, with its record, and route 2 is taken. -/
def setMode (c : Chip) (m : Mode) (cause : Nat) : Chip :=
  if c.sup.mode = m then c
  else
    let old := c.sup.mode
    let c := { c with sup := { c.sup with mode := m, prevMode := old, modeCause := cause } }
    let c := if old = .safeStop then
        let who := c.sup.prepOwner
        let c := { c with sup := { c.sup with prepDone := false, prepOwner := none }, dsp := { c.dsp with offKept := false } }
        completeOpt c who (ansStatus .discarded)
      else c
    routeEvt (blotEvent c 0x0002 2 (m.code + old.code * 256 + cause * 65536)) 2

/-- R57: a function that SUP_DISABLE disables as a whole: the display with both panels, the fabric with every port
(DEDUCED, log 33). -/
def funcDisabled (c : Chip) (f : Func) : Bool :=
  match f with
  | .dsp => immBit c Reg.SUP_DISABLE 22 && immBit c Reg.SUP_DISABLE 23
  | .fab => [16, 17, 18, 19].all (fun p => immBit c Reg.SUP_DISABLE p)
  | _ => false

/-- Every function of SUP_READY. -/
def allFuncs : List Func := [.nib, .tru, .met, .out, .fab, .dsp, .svc, .hst]

/-- R50, R56: every enabled function is ready. -/
def allReady (c : Chip) : Bool := allFuncs.all (fun f => ready c f || funcDisabled c f)

/-- R257: outlets become UNAVAILABLE, after the draining of R70 where one is energised. -/
def drainAll (c : Chip) : Chip := (List.finRange 8).foldl drainOutlet c

/-- R50: Safe-stop is entered. -/
def enterSafeStop (c : Chip) (cause : Nat) : Chip :=
  drainAll (setMode { c with sup := { c.sup with heldSafety := false } } .safeStop cause)

/-- R50: a cause that holds Safe-stop is recorded. -/
def addSafeCause (c : Chip) (k : SafeCause) : Chip :=
  if c.sup.safeCauses.contains k then c else { c with sup := { c.sup with safeCauses := k :: c.sup.safeCauses } }

/-- R50: it has ended. -/
def dropSafeCause (c : Chip) (k : SafeCause) : Chip :=
  { c with sup := { c.sup with safeCauses := c.sup.safeCauses.filter (fun x => x != k) } }

/-- R50, R276, R285, R464: a module-wide safety reaction: every energised outlet is opened; Safe-stop follows, in
Bring-up once Bring-up ends. In the other modes R50 has no transition for it, and the cause is recorded (log 72). -/
def safetyReaction (c : Chip) (k : SafeCause) : Chip :=
  let c := openAllNow (addSafeCause c k)
  match c.sup.mode with
  | .bringUp => { c with sup := { c.sup with heldSafety := true } }
  | .operational => enterSafeStop c 0x0C
  | .degraded => enterSafeStop c 0x0C
  | _ => c

/-- R479: Quarantine is entered: outlets UNAVAILABLE, every pilot at state F, outlet and display regions fenced. -/
def enterQuarantine (c : Chip) (cause : Nat) : Chip :=
  let c := setMode { c with sup := { c.sup with quarantineDue := none } } .quarantine cause
  let c := openAllNow c
  let c := (List.range 8).foldl (fun c o => enterUnavailable (stopSession c o 0) o) c
  let c := (List.range 8).foldl pilotF c
  let c := discardWork c (fun b => b.region? == some .out || b.region? == some .dsp)
  let c := emit c (.ocppSecurity 0)
  { c with sup := { c.sup with
      fence := setBitV (setBitV c.sup.fence Region.out.idx true) Region.dsp.idx true,
      ready := setBitV (setBitV c.sup.ready Func.out.idx false) Func.dsp.idx false } }

/-- R46: the CAUSE code of a cause of Degraded. -/
def DegCause.cause : DegCause → Nat
  | .ready _ => 0x07
  | .refClock => 0x06
  | .holdUp => 0x05

/-- R49, R50: the transitions among Bring-up, Operational, Degraded, Safe-stop and Quarantine that the present
causes call for. -/
def settleMode (c : Chip) : Chip :=
  match c.sup.mode with
  | .bringUp =>
    match c.sup.quarantineDue with
    | some q => enterQuarantine c q
    | none =>
    if c.sup.heldSafety && (allReady c || !c.sup.degCauses.isEmpty) then enterSafeStop c 0x0C
    else match c.sup.degCauses with
      | k :: _ => setMode c .degraded k.cause
      | [] => if allReady c then setMode c .operational 0 else c
  | .operational =>
    match c.sup.degCauses with
    | k :: _ => setMode c .degraded k.cause
    | [] => c
  | .degraded =>
    match c.sup.quarantineDue with
    | some q => enterQuarantine c q
    | none =>
    if c.sup.degCauses.isEmpty && allReady c then setMode c .operational 0
    else c
  | _ => c

/-- R50: a cause of Degraded arises. -/
def addDegCause (c : Chip) (k : DegCause) : Chip :=
  if c.sup.degCauses.contains k then c
  else settleMode { c with sup := { c.sup with degCauses := k :: c.sup.degCauses } }

/-- R50: a cause of Degraded ends. -/
def dropDegCause (c : Chip) (k : DegCause) : Chip :=
  settleMode { c with sup := { c.sup with degCauses := c.sup.degCauses.filter (fun x => x != k) } }

/-- R49: a mode request that Hold-up or a reset overtakes is dropped. -/
def dropModeReq (c : Chip) : Chip :=
  match c.sup.modeReq with
  | some r => completeOpt { c with sup := { c.sup with modeReq := none } } r.owner (ansStatus .discarded)
  | none => c

/-! ### Resets -/

/-- R27: the window of a region. -/
def Region.window : Region → Nat
  | .sup => 0 | .met => 1 | .out => 2 | .tru => 3 | .lnk => 4 | .dsp => 5 | .svc => 6

/-- R142, R150: the calibration class, restored from the LEGAL partition before MET rises. -/
def calClass (a : Nat) : Bool :=
  decide (0x1000000 ≤ a ∧ a < 0x1004000)
    || (List.range 64).any (fun n => a == Reg.MET_QE_FS n) || (List.range 8).any (fun m => a == Reg.MET_QE_PCFG m)

/-- R53, R118: supervisor registers held in the AON domain. -/
def aonHeld (a : Nat) : Bool := a == Reg.SUP_RST_CAUSE || a == Reg.SUP_RTC_ALARM

/-- R7, R10: the immediate registers of a window return to their reset values, but for those held. Shadowed settings are
held in the CONFIG and LEGAL partitions and come back at the start (R65, R142, R298, R450, log 48); a shadow waiting for a
deferred group waits on (R32, R36). -/
def resetWindow (c : Chip) (w : Nat) : Chip :=
  { c with regs := c.regs.filter (fun e => memberOf e.1 != w || isShadowed e.1 || aonHeld e.1) }

/-- R349: the HST block is reset: BARs and ring set-up; EPOCH counts, and the tag records stand in the service region (R365). Nothing in flight completes. -/
def resetHost (c : Chip) : Chip :=
  let c := { c with
    host := { HostIf.reset with epoch := (c.host.epoch + 1) % 2 ^ 32, perst := c.host.perst, tags := c.host.tags },
    regs := c.regs.filter (fun e => e.1 / 0x10000 != 0x404) }
  c

/-- Lanes through a reset of the metering region: only retirements hold. -/
def resetLanes (t : Tab LaneSt) : Tab LaneSt :=
  (t.filter (fun e => e.2.state == .retired)).map (fun e => (e.1, { LaneSt.init with state := .retired }))

/-- R255: an outlet with a LIVE session keeps, for its resumption, what its pilot and its cable were and what they did. -/
def heldOutlets (c : Chip) : Tab OutletSt :=
  (c.outl.outlets.filter (fun e => (liveCtx c e.1).isSome)).map (fun e => (e.1, { OutletSt.init with
    cp := e.2.cp, vpos := e.2.vpos, vneg := e.2.vneg, pwm := e.2.pwm, duty := e.2.duty, ilim := e.2.ilim, pp := e.2.pp,
    ohm := e.2.ohm, capA := e.2.capA, slacFails := e.2.slacFails, lock := lockOf e.2.lockIn, lockIn := e.2.lockIn }))

/-- R255: an outlet through a reset of the service region: its protocol is gone, and a LIVE session waits for its vehicle to
reconnect. -/
def withoutService (c : Chip) (o : Nat) (x : OutletSt) : OutletSt :=
  { x with hlc := .none, tls := 0, authWait := none,
           resume := x.resume || ((liveCtx c o).isSome && x.hlc != .none) }

/-- R52: the state of a region that its reset clears. What lies in MRAM partitions, in AON, on the power die and on
the safety die is held. -/
def clearRegion (c : Chip) (r : Region) : Chip :=
  match r with
  | .sup => c
  | .met =>
    let c := tearSlot c
    { c with
      met := { Met.reset with lanes := resetLanes c.met.lanes, fallback := c.met.fallback },
      acc := { c.acc with finalising := false, latchWait := none, window := AccWindow.reset, lastUs := 0, maxUs := 0,
                          restored := false, ended := false },
      tar := { c.tar with staging := [], mdPending := false, mdReqs := [] },
      leg := { c.leg with running := false, loaded := none, signing := none, exports := [] } }
  | .out =>
    { c with
      outl := { Outl.reset with list := c.outl.list, listVersion := c.outl.listVersion,
                                ocppVars := c.outl.ocppVars, macs := c.outl.macs, certs := c.outl.certs,
                                outlets := heldOutlets c },
      saf := { Saf.reset with retired := c.saf.retired, trips := 0, mirrorAt := c.saf.mirrorAt },
      sess := { c.sess with ctxs := c.sess.ctxs.map (fun (x, k) => (x, { k with waiters := [] })) }, latched := [] }
  | .tru =>
    { c with
      tru := { c.tru with
        chainsClosed := false, debugOpen := false, scope := 0, fails := 0, locked := false, challenge := none,
        healthOk := false, rctFail := false, aptFail := false, entFails := 0, entStarts := 0,
        keygenProg := 0, signQueue := [], signNow := none, signOff := false,
        tls := [], siteLoaded := false, sendKey := none, prevUntil := 0, lcNonce := 0 },
      leg := { c.leg with signing := none } }
  | .lnk =>
    resetHost { c with
      fab := { Fab.reset with storedAddr := c.fab.storedAddr, epoch := c.fab.epoch, addr := c.fab.addr,
                              ports := (c.fab.ports.filter (fun e => e.2.state == .retired)).map
                                (fun e => (e.1, { FPortSt.init with state := .retired })) } }
  | .dsp =>
    { c with
      dsp := { Dsp.reset with offKept := c.dsp.offKept }, bp := { Bp.reset with shown := c.bp.shown, busy := c.bp.busy },
      age := { Age.reset with saved := c.age.saved, savedOld := c.age.savedOld } }
  | .svc => { c with host := { c.host with tags := [] },
                     outl := { c.outl with outlets := c.outl.outlets.map (fun e => (e.1, withoutService c e.1 e.2)) } }

/-- R16, R56: the region is in reset: its ready bits are 0 and its SUP_FENCE bit is 1. -/
def holdRegion (c : Chip) (r : Region) : Chip :=
  let rd := match r.func with | some f => setBitV c.sup.ready f.idx false | none => c.sup.ready
  let rd := if r = .lnk then setBitV rd Func.hst.idx false else rd
  { c with sup := { c.sup with ready := rd, fence := setBitV c.sup.fence r.idx true } }

/-- R16, R366: the work a fence or reset of a region discards; a reset of the service region discards everything in
flight, one of the link region answers nothing. -/
def discardRegion (c : Chip) (r : Region) : Chip :=
  let c := if r = .lnk then nsRouterLost c else c
  if r = .svc then unbook (discardWork c (fun _ => true)) (fun k => k.cls == 8)
  else if r = .lnk then { c with host := { c.host with inflight := [] } }
  else discardWork c (fun b => b.region? == some r)

/-- R52: a region reset; the SRAM is wiped with the service region. -/
def resetRegion (c : Chip) (r : Region) : Chip :=
  if r = .sup then c
  else
    let c := discardRegion c r
    let c := holdRegion (resetWindow (clearRegion c r) r.window) r
    if r = .svc then { c with wipe := { c.wipe with sramBusy := true } } else c

/-- R28: a region is fenced: its work is discarded and its ready bit clears. -/
def fenceRegion (c : Chip) (r : Region) : Chip :=
  let c := if r = .lnk then discardWork (nsRouterLost c) (fun b => b.region? == some .lnk) else discardRegion c r
  let rd := match r.func with | some f => setBitV c.sup.ready f.idx false | none => c.sup.ready
  { c with sup := { c.sup with ready := rd, fence := setBitV c.sup.fence r.idx true } }

/-- R53: a bit of SUP_RST_CAUSE is recorded. -/
def recordCause (c : Chip) (b : Nat) : Chip :=
  regPut c Reg.SUP_RST_CAUSE (withBit (regGet c Reg.SUP_RST_CAUSE) b true)

/-- R71: disable bits set as the reset is entered: their functions have not drained. -/
def lateDisables (c : Chip) : BitVec 25 := c.sup.draining &&& BitVec.ofNat 25 (regGet c Reg.SUP_DISABLE).toNat

/-- R52: a reset of the whole compute die, cold or warm. Nothing in flight completes (R366); NIB stays raised
(R56); SRAM is wiped, DRAM on a cold reset; the scheduler is emptied (R112); force bits clear (R468); every shadow is
reloaded from the settings in force (R36, R367). -/
def resetModule (c : Chip) (cause : ResetCause) (cold : Bool) : Chip :=
  let late := c.sup.disableLate ||| lateDisables c
  let c := recordCause c cause.bit
  let c := nsCut { c with host := { c.host with inflight := [] } }
  let c := [Region.met, .out, .tru, .lnk, .dsp, .svc].foldl (fun c r => holdRegion (resetWindow (clearRegion c r) r.window) r) c
  let c := resetWindow c 0
  let c := { c with regs := (copyRegs c.live c.regs (memberShadow 0xFF)).filter (fun e => decide (e.1 < 0x7800000)),
                    saf := { c.saf with mirrorAt := none } }
  { c with
    sup := { Sup.reset with
      lcs := c.sup.lcs, ready := c.sup.ready &&& BitVec.ofNat 8 1, held := c.sup.held, fromOff := c.sup.fromOff,
      fromDeep := c.sup.fromDeep, disableLate := late,
      degCauses := c.sup.degCauses.filter (fun k => k == .holdUp || k == .refClock), refLost := c.sup.refLost },
    wipe := { c.wipe with sramBusy := true, dramBusy := c.wipe.dramBusy || cold, mramBusy := false, progress := 0,
                          sramTime := 0, dramTime := 0, mramTime := 0 },
    pwd := { c.pwd with posted := [] },
    cg := CommitGroup.reset, ns := NsState.reset,
    tb := { c.tb with state := .synth, follow := .primary, phaseErr := 0, freq := 50000, known := false,
                      angle := 0, frac := 0, corr := 0, errLow := 0, errHigh := 0, prim := RefSt.init, alt := RefSt.init,
                      held := 0, beacons := false, step := none, sched := [], retry := [], schedHigh := 0, schedRefused := 0 },
    repl := { Repl.reset with notices := [] },
    upd := { c.upd with shown := false, waiting := [], activateBy := none, abortBy := none, pauseDue := false, rollbackDue := false },
    flt := { c.flt with restored := false, waiting := [], resets := [], checks := [] },
    blt := { c.blt with ready := false, winBusy := false, winStale := false, winEnd := false, window := [] } }

end Sys2Proof.Machine
end

