-- ==== Sys2Proof/Machine/Faults.lean ====
section
/-! DEFINITION. The fault collector: classes and owners of the sources (R456), reports, reactions and states (R457
to R461), permanence and retirement (R462 to R465), escalation (R15), and their commands. -/

namespace Sys2Proof.Machine

/-! ### Sources (R456) -/

/-- R456: a Class S source; a load-switch source by LSW_CFG.SAFETY in force. -/
def classS (c : Chip) (s : Nat) : Bool :=
  (decide (64 ≤ s ∧ s ≤ 75) && cfgBit c (Reg.LSW_CFG (s - 64)) 15) || decide (80 ≤ s ∧ s ≤ 103) || decide (112 ≤ s ∧ s ≤ 118)

/-- R456: the level of the owner's own containment. -/
def ownLevel (s : Nat) : Nat :=
  if s ≤ 79 then 0
  else if s ≤ 111 then 1
  else if s = 112 then 2
  else if s ≤ 119 then 3
  else if s = 120 then 2
  else if s = 121 then 3
  else if s ≤ 123 then 1
  else if s ≤ 138 then 2
  else if s ≤ 146 then 3
  else if s ≤ 149 then 1
  else if s = 150 then 4
  else 3

/-- R28: the region of a number in SUP_FENCE order. -/
def regionAt (i : Nat) : Region :=
  match i with | 0 => .sup | 1 => .met | 2 => .out | 3 => .tru | 4 => .lnk | 5 => .dsp | _ => .svc

/-- R456: the block that owns a source (DEDUCED from the rules the table names, log 14). -/
def ownerBlock (s : Nat) : Block :=
  if s ≤ 63 then .laneReceiver (Fin.ofNat 64 s)
  else if s ≤ 75 then .lswChannel (Fin.ofNat 12 (s - 64))
  else if s ≤ 79 then .feltPort (Fin.ofNat 4 (s - 76))
  else if s ≤ 103 then .safetyProc
  else if s ≤ 111 then .outletEngine (Fin.ofNat 8 (s - 104))
  else if s = 112 ∨ s = 113 ∨ s = 115 then .safetyProc
  else if s = 114 then .safetyDie
  else if s = 116 ∨ s = 149 then .legalCore
  else if s = 119 then .mramPort
  else if s = 120 then .dramCtl
  else if s = 121 then .powerDie
  else if s = 122 then .crypto
  else if s = 123 then .entropy
  else if 124 ≤ s ∧ s ≤ 130 then .region (regionAt (s - 124))
  else if s = 147 then .pixel
  else if s = 148 then .bistable
  else if s = 150 then .service
  else .supervisor

/-- R456: the channel retired when a source is permanent. -/
inductive Chan where
  | lane (n : Nat) | lsw (n : Nat) | fport (n : Nat) | outlet (n : Fin 8)
  deriving DecidableEq, Repr

/-- R456: the channel of a source. -/
def chanOf (s : Nat) : Option Chan :=
  if s ≤ 63 then some (.lane s)
  else if s ≤ 75 then some (.lsw (s - 64))
  else if s ≤ 79 then some (.fport (s - 76))
  else if s ≤ 111 then some (.outlet (Fin.ofNat 8 (s % 8)))
  else none

/-- R457: sources whose owner never reports a clear. -/
def autoClears (s : Nat) : Bool :=
  decide (96 ≤ s ∧ s ≤ 103) || s == 116 || decide (124 ≤ s ∧ s ≤ 130) || s == 151

/-- Source s. -/
def srcOf (c : Chip) (s : Nat) : Src := tget Src.init c.flt.srcs s

/-- Source s replaced. -/
def setSrc (c : Chip) (s : Nat) (x : Src) : Chip := { c with flt := { c.flt with srcs := tput c.flt.srcs s x } }

/-- R470: fields of FLT_SRC_CFG in force; those that R456 fixes. -/
def reactOf (c : Chip) (s : Nat) : Nat := if s = 151 then 3 else cfg c (Reg.FLT_SRC_CFG s) 2 0
def sevOf (c : Chip) (s : Nat) : Nat := cfg c (Reg.FLT_SRC_CFG s) 6 4

/-- R463: the limit of a source. -/
def permLimit (c : Chip) (s : Nat) : Nat :=
  if 88 ≤ s ∧ s ≤ 95 then 1
  else
    let n := cfg c (Reg.FLT_SRC_CFG s) 15 12
    if n = 0 then cfg c Reg.FLT_GCFG 3 0 else n

/-- R463: occurrences within the last PERM_MIN minutes. -/
def occurrences (c : Chip) (x : Src) : Nat :=
  (x.occ.filter (fun t => decide (aonSec c ≤ t + cfg c Reg.FLT_GCFG 15 8 * 60))).length

/-! ### Retirement (R464, R465) -/

/-- R464: the channel of a source goes out of service. -/
def retireChan (c : Chip) (k : Chan) : Chip :=
  match k with
  | .lane n => retireLane c n
  | .lsw n =>
    let c := { c with lsw := { c.lsw with chans := tmod LswSt.init c.lsw.chans n (fun x =>
      { LswSt.init with state := .retired, pin := x.pin, trips := x.trips, tj := x.tj }) } }
    -- R312: a retired lock channel is a lock fault of its outlet
    (List.range 8).foldl (fun c o =>
      if lockChannel c o n then outEvt (modOutlet c o (fun x => { x with lock := .fault })) o 8 else c) c
  | .fport n =>
    let down := setFport c n { fport c n with state := .retired, nbr := none }
    if portUp (fport c n) then topoChanged (floodLsa down) false else down
  | .outlet o => drainOutlet { c with saf := { c.saf with retired := setBitV c.saf.retired o.val true } } o

/-- R465: it returns to service: a lane and a port train, a load switch is OFF, an outlet is IDLE once enabled. -/
def reviveChan (c : Chip) (k : Chan) : Chip :=
  match k with
  | .lane n => withLane c n (fun c => if (pointOfLane c n).isSome then trainLane c n else setLane c n LaneSt.init)
  | .lsw n => { c with lsw := { c.lsw with chans := tmod LswSt.init c.lsw.chans n (fun x =>
      { LswSt.init with pin := x.pin, cleared := true, tj := x.tj }) } }
  | .fport n => setFport c n { FPortSt.init with state := .training, tryFull := true }
  | .outlet o =>
    if ([80, 88, 96, 104].all (fun b => (srcOf c (b + o.val)).state != .retired)) then
      let c := { c with saf := { c.saf with retired := setBitV c.saf.retired o.val false } }
      if (outletOf c o.val).state = .unavailable ∧ mustBeUnavailable c o.val = false then
        pilotSteady (modOutlet c o.val (fun x => { x with state := .idle })) o.val
      else c
    else c

/-! ### Reactions (R458) -/

/-- R458: a block of the power die or the safety die, which the compute die cannot reset. -/
def Block.resettable : Block → Bool
  | .powerDie => false
  | .safetyDie => false
  | .lswChannel _ => false
  | _ => true

/-- R458: a reset of the block, or of a larger one, is in progress. -/
def underReset (c : Chip) (b : Block) : Bool :=
  c.flt.resets.contains b || (match b.region? with | some r => c.flt.resets.contains (.region r) | none => false)

/-- R52: the entropy source as its block reset leaves it. -/
def resetEntropy (t : Tru) : Tru :=
  { t with healthOk := false, rctFail := false, aptFail := false, entFails := 0, entStarts := 0 }

/-- R52: what a block reset does to the block besides discarding its work (log 16). -/
def resetBlockState (c : Chip) (b : Block) : Chip :=
  match b with
  | .laneReceiver n =>
    if (laneOf c n.val).state = .run ∨ (laneOf c n.val).state = .retrain then withLane c n.val (fun c => trainLane c n.val)
    else c
  | .feltPort p =>
    if (fport c p.val).state = .retired then c
    else setFport c p.val { FPortSt.init with state := .training, tryFull := true }
  | .outletEngine o =>
    modOutlet c o.val (fun x => { x with authWait := none, runId := none, atten := none, hlc := .none,
                                         paramDone := false, powerStart := false })
  | .crypto =>
    { c with tru := { c.tru with
        signQueue := (match c.tru.signNow with | some (j, _) => j :: c.tru.signQueue | none => c.tru.signQueue),
        signNow := none } }
  | .timebase => unbook c (fun k => k.cls == 8)
  | .safetyProc => { c with saf := { Saf.reset with retired := c.saf.retired, trips := c.saf.trips, mirrorAt := c.saf.mirrorAt } }
  | .legalCore =>
    { c with leg := { c.leg with running := false, loaded := none, signing := none, exports := [] } }
  | .entropy => { c with tru := resetEntropy c.tru }
  | .pixel => { c with dsp := { Dsp.reset with
      offKept := c.dsp.offKept, pstate := c.dsp.pstate, step := c.dsp.step, pnlEn := c.dsp.pnlEn, pnlDis := c.dsp.pnlDis,
      pnlRst := c.dsp.pnlRst } }
  | .bistable => { c with bp := { Bp.reset with shown := c.bp.shown, busy := c.bp.busy } }
  | .service => clearRegion c .svc
  | .supervisor => dropModeReq (nsInterrupt (if cgActive c then abandonGroup c else c))
  | .region r => recordCause (resetRegion c r) (11 + r.idx)
  | .ringEngine => c
  | .accumulator => c
  | .tariff => { c with tar := { c.tar with staging := [], mdPending := false } }
  | .legalLog => c
  | .update => c
  | .mramPort => c
  | .dramCtl => c
  | .lswChannel _ => c
  | .powerDie => c
  | .safetyDie => c

/-- R458: a block reset by the collector. -/
def resetBlock (c : Chip) (b : Block) : Chip :=
  let c := discardWork c (fun x => x == b)
  let c := resetBlockState c b
  { c with flt := { c.flt with resets := b :: c.flt.resets } }

/-- R458: INT. -/
def reactInt (c : Chip) : Chip := raiseEvt c Reg.FLT_EVT 0

/-- R458: TRAP: a message whatever the bits of route 3, and the service firmware informed first. -/
def reactTrap (c : Chip) : Chip := emit (sendMsix (reactInt c) (cfg c Reg.FLT_GCFG 28 24)) (.inform 3 true)

/-- R15: a reset the collector performs is checked 1 ms after it ends. -/
def addCheck (c : Chip) (s level : Nat) (b : Block) : Chip :=
  { c with flt := { c.flt with checks := c.flt.checks ++ [{ src := s, level := level, block := b, complete := false }] } }

/-- R458, R460: the block resets that the sources ask for: each block once, and every source checked afterwards (R15). A
block already under a reset is not reset again. -/
def resetBlocks (c : Chip) (ss : List Nat) : Chip :=
  let due := ss.filter (fun s => reactOf c s == 2 && (ownerBlock s).resettable && !underReset c (ownerBlock s))
  let c := (due.map ownerBlock).eraseDups.foldl resetBlock c
  due.foldl (fun c s => addCheck c s 1 (ownerBlock s)) c

/-- R458, R460, R461: the reactions to the reports of one MET cycle, merged: INT and TRAP once each, a MODULE reaction
alone, every block once; in Hold-up BLOCK and MODULE are withheld. -/
def react (c : Chip) (ss : List Nat) : Chip :=
  if ss.isEmpty then c
  else
    let c := reactInt c
    if c.sup.mode ≠ .holdUp ∧ ss.any (fun s => reactOf c s == 3 && s != 151) = true then resetModule c .fault false
    else
      let c := if ss.any (fun s => reactOf c s == 1) then reactTrap c else c
      if c.sup.mode = .holdUp then c else resetBlocks c ss

/-- R458: the level a report is recorded with. -/
def recordLevel (c : Chip) (s level : Nat) : Nat :=
  match reactOf c s with
  | 2 => if c.sup.mode = .holdUp ∨ ¬ (ownerBlock s).resettable then level else max 1 level
  | 3 => if c.sup.mode = .holdUp ∧ s ≠ 151 then level else 3
  | _ => level

/-- R461: the reaction is withheld in Hold-up. -/
def withheld (c : Chip) (s : Nat) : Bool :=
  c.sup.mode == .holdUp && (reactOf c s == 2 || (reactOf c s == 3 && s != 151))

/-! ### Reports -/

/-- R469: the word of a bitmap and its bit. -/
def fltNew (c : Chip) (s : Nat) : Chip :=
  let a := Reg.FLT_NEW (s / 32)
  regPut c a (withBit (regGet c a) (s % 32) true)

/-- R470: FLT_LAST. -/
def fltLast (c : Chip) (r : Report) (level : Nat) : Chip :=
  regPut c Reg.FLT_LAST (wordOf (r.src + place 12 level + placeBit 15 (classS c r.src) + placeBit 16 r.forced
    + place 20 (r.detail.toNat % 4096)))

/-- R459, R464: a source whose occurrences reach its limit. -/
def makePermanent (c : Chip) (s level : Nat) (forced : Bool) : Chip :=
  let x := srcOf c s
  let sev := min 7 (sevOf c s + 1)
  match chanOf s with
  | some k =>
    let c := setSrc c s { x with state := .retired }
    let c := blot c sev 2 level s 0 true forced false false
    raiseEvt (retireChan c k) Reg.FLT_EVT 3
  | none =>
    let c := setSrc c s { x with state := .permanent }
    let c := blot c sev 2 level s 0 false forced false false
    let c := raiseEvt c Reg.FLT_EVT 2
    if classS c s then safetyReaction c (.source s) else c

/-- R461: the owner's region is fenced or in reset: it reports nothing until its ready bit rises. -/
def ownerSilent (c : Chip) (s : Nat) : Bool :=
  match (ownerBlock s).region? with
  | some .sup => false
  | some r => fenced c r
  | none => false

/-- R459, R464: a source that is permanent or retired: its reports are recorded and nothing more. -/
def settledSrc (c : Chip) (s : Nat) : Bool := (srcOf c s).state == .permanent || (srcOf c s).state == .retired

/-- R457 to R459, R461 to R463: what the collector records of a report. -/
def recordReport (c : Chip) (r : Report) : Chip :=
  let s := r.src
  let x := srcOf c s
  let level := recordLevel c s (max r.level (ownLevel s))
  let sev := sevOf c s
  let c := fltLast (fltNew c s) r level
  if settledSrc c s then
    let c := setSrc c s { x with present := !autoClears s, level := level, forced := r.forced }
    blot c sev 0 level s r.detail.toNat false r.forced false false
  else
    let counts := !r.forced || cfgBit c Reg.FLT_GCFG 16
    let occ := if counts then (aonSec c :: x.occ).take 15 else x.occ
    let x := { x with state := if autoClears s then .quiet else .active, present := !autoClears s, level := level,
                      forced := r.forced, occ := occ }
    let c := setSrc c s x
    let c := blot c sev 0 level s r.detail.toNat false r.forced false (withheld c s)
    if counts && decide (permLimit c s ≤ occurrences c x) then makePermanent c s level r.forced else c

/-- R460: a report among others in ascending source number, before those of its own source. -/
def insertReport (r : Report) : List Report → List Report
  | [] => [r]
  | q :: qs => if r.src ≤ q.src then r :: q :: qs else q :: insertReport r qs

/-- R460: records reports in turn, and collects the sources whose reaction is due. -/
def recordReports (c : Chip) (due : List Nat) : List Report → Chip × List Nat
  | [] => (c, due)
  | r :: rs => recordReports (recordReport c r) (if settledSrc c r.src then due else due ++ [r.src]) rs

/-- R460: the reports of one MET cycle that the collector takes: recorded in ascending source number, their reactions
merged. -/
def takeReports (c : Chip) (rs : List Report) : Chip :=
  let done := recordReports c [] (rs.foldr insertReport [])
  react done.1 done.2

/-- R457, R458, R460 to R462: reports reach the collector in one MET cycle. They wait until the store is restored, and each
until its owner's region is ready (log 15). -/
def report (c : Chip) (rs : List Report) : Chip :=
  let rs := rs.filter (fun r => decide (r.src < 152))
  if !c.flt.restored then { c with flt := { c.flt with waiting := c.flt.waiting ++ rs } }
  else
    let rs := rs.filter (fun r => !underReset c (ownerBlock r.src))
    takeReports { c with flt := { c.flt with waiting := c.flt.waiting ++ rs.filter (fun r => ownerSilent c r.src) } }
      (rs.filter (fun r => !ownerSilent c r.src))

/-- R461, R462: the reports that waited; one that may not be taken yet waits on. -/
def takeWaiting (c : Chip) : Chip := report { c with flt := { c.flt with waiting := [] } } c.flt.waiting

/-- A report by its owner at its own level with a detail word. -/
def reportSrc (c : Chip) (s detail : Nat) : Chip :=
  report c [{ src := s, level := ownLevel s, detail := wordOf detail, forced := false }]

/-- R459: the owner reports the condition cleared; of a condition that ends while its region cannot report nothing is
ever reported (R461). -/
def clearSrc (c : Chip) (s : Nat) : Chip :=
  let c := if c.flt.restored && ownerSilent c s then
      { c with flt := { c.flt with waiting := c.flt.waiting.filter (fun r => r.src != s) } } else c
  let x := srcOf c s
  if x.state = .active then setSrc c s { x with state := .quiet, present := false }
  else setSrc c s { x with present := false }

/-- R19, R38: POWER_LINK. -/
def powerLinkFault (c : Chip) : Chip := reportSrc c 117 0

/-- R464: the safe-stop cause of a Class S source stays present while the store names it PERMANENT: Safe-stop follows as
Bring-up ends (R50). -/
def holdPermanent (c : Chip) : Chip :=
  ((List.range 152).filter (fun s => (srcOf c s).state == .permanent && classS c s)).foldl (fun c s =>
    let c := addSafeCause c (.source s)
    { c with sup := { c.sup with heldSafety := true } }) c

/-- R462, R475: the collector restores its store after a reset, and takes the reports that waited. From an empty copy
every source starts in OK and the store is authoritative; without a copy of either kind every source starts in OK, what the power die and Nib hold is retired again, and STORE_BAD is set. -/
def restoreStore (c : Chip) (copy : StoreCopy) : Chip :=
  let c := { c with flt := { c.flt with restored := true, storeOk := copy != StoreCopy.bad } }
  let c := if copy = .valid then c else { c with flt := { c.flt with srcs := [] } }
  let c :=
    if copy ≠ .bad then
      let c := { c with flt := { c.flt with srcs := c.flt.srcs.map (fun (s, x) => (s, { x with present := false })) } }
      let c := (List.range 12).foldl (fun c n =>
        let held := (tget LswSt.init c.lsw.chans n).state == .retired
        let named := (srcOf c (64 + n)).state == .retired
        if held && !named then reviveChan c (.lsw n) else if named && !held then retireChan c (.lsw n) else c) c
      let c := (List.range 64).foldl (fun c n =>
        if (srcOf c n).state == .retired then setLane c n { laneOf c n with state := .retired } else c) c
      let c := (List.range 4).foldl (fun c p =>
        if (srcOf c (76 + p)).state == .retired then setFport c p { fport c p with state := .retired } else c) c
      let out := (List.range 8).filter (fun o => [80, 88, 96, 104].any (fun b => (srcOf c (b + o)).state == .retired))
      { c with saf := { c.saf with retired := out.foldl (fun v o => setBitV v o true) 0 } }
    else
      let c := { c with saf := { c.saf with retired := 0 } }
      let c := (List.range 12).foldl (fun c n =>
        if (tget LswSt.init c.lsw.chans n).state == .retired then setSrc c (64 + n) { Src.init with state := .retired }
        else c) c
      let c := (List.range 8).foldl (fun c o =>
        if c.nib.weld.getLsbD o then
          setSrc { c with saf := { c.saf with retired := setBitV c.saf.retired o true } } (88 + o)
            { Src.init with state := .retired }
        else c) c
      blotEvent (raiseEvt c Reg.FLT_EVT 8) 0x0009 5 3
  let c := blotEvent (holdPermanent c) 0x0001 3 (regGet c Reg.SUP_RST_CAUSE).toNat
  takeWaiting c

/-! ### Commands -/

/-- FAULT_REPORT (R457, R460): the reports of one MET cycle by owners that have no command of their own for them. -/
def execFaultReport (reports : List Report) (s : State) : Host.Outcome State Fault Refusal :=
  onChip s fun c => report c (reports.map (fun r => { r with forced := false }))

/-- R459: QUIET to OK. -/
def quietOver (c : Chip) (s : Nat) : Chip :=
  let x := srcOf c s
  if x.state = .quiet then
    let c := setSrc c s { x with state := .ok, recov := sat 255 (x.recov + 1) }
    raiseEvt (blot c 1 1 x.level s 0 false x.forced false false) Reg.FLT_EVT 1
  else c

/-- QUIET_TIMER_EXPIRY (R459). -/
def execQuietTimerExpiry (source : Nat) (s : State) : Host.Outcome State Fault Refusal :=
  .next { s with chip := quietOver s.chip source }

/-- R15: the source is still present after a reset at level L: a report at L + 1 and that level's action. -/
def escalate (c : Chip) (k : Check) : Chip :=
  let up := if k.level = 1 then (match k.block.region? with
    | some .sup => 3
    | some _ => 2
    | none => 3) else 3
  let x := srcOf c k.src
  let c := fltLast (fltNew c k.src) { src := k.src, level := up, detail := 0, forced := x.forced } up
  let c := setSrc c k.src { x with level := up }
  let c := blot c (sevOf c k.src) 0 up k.src 0 false x.forced true (c.sup.mode == .holdUp)
  let c := raiseEvt c Reg.FLT_EVT 4
  if c.sup.mode = .holdUp then c
  else if up = 3 then resetModule c .fault false
  else match k.block.region? with
    | some r =>
      let c := recordCause (resetRegion c r) (11 + r.idx)
      addCheck { c with flt := { c.flt with resets := .region r :: c.flt.resets } } k.src 2 (.region r)
    | none => c

/-- R15: the check of a source, 1 ms after its reset has completed. -/
def checkEscalation (c : Chip) (s : Nat) : Chip :=
  match c.flt.checks.find? (fun k => k.src == s && k.complete) with
  | none => c
  | some k =>
    let c := { c with flt := { c.flt with checks := c.flt.checks.filter (fun j => j != k) } }
    if (srcOf c s).present then escalate c k else c

/-- ESCALATION_CHECK (R15). -/
def execEscalationCheck (source : Nat) (s : State) : Host.Outcome State Fault Refusal :=
  .next { s with chip := checkEscalation s.chip source }

/-- R470: FLT_CMD_RESULT. -/
def fltResult (c : Chip) (s : Nat) (ok : Bool) : Chip :=
  regPut c Reg.FLT_CMD_RESULT (wordOf ((if ok then Status.ok.code else Status.rejected.code) + place 16 (s % 512)))

/-- R289, R465: FBn has read open continuously for 10 s, by the AON clock as the commands so far have run it (log 59). -/
def fbOpen10 (c : Chip) (o : Nat) : Bool :=
  !fbClosed c o && decide (tget 0 c.pwd.fbAt o + 10 * 2 ^ 32 ≤ c.tb.aon)

/-- R465: the clear of a PERMANENT or RETIRED source is accepted. -/
def clearAccepted (c : Chip) (s : Nat) : Bool :=
  if 88 ≤ s ∧ s ≤ 95 then fbOpen10 c (s % 8)
  else if 80 ≤ s ∧ s ≤ 111 then !fbClosed c (s % 8) && !c.nib.latch.getLsbD (s % 8)
  else if (chanOf s).isSome then true
  else if classS c s then !(srcOf c s).present
  else true

/-- R465: CLEAR_RETIRE. -/
def clearRetire (c : Chip) (s : Nat) : Chip :=
  let x := srcOf c s
  if x.state = .permanent ∨ x.state = .retired then
    if clearAccepted c s then
      let c := setSrc c s { x with state := .ok, occ := [] }
      let c := blot c 3 3 x.level s 0 (chanOf s).isSome false false false
      let c := dropSafeCause c (.source s)
      let c := match chanOf s with
        | some k => reviveChan c k
        | none => c
      let c := if 88 ≤ s ∧ s ≤ 95 then
          { c with nib := { c.nib with weld := setBitV c.nib.weld (s % 8) false,
                                       latch := setBitV c.nib.latch (s % 8) false },
                   saf := { c.saf with latches := c.saf.latches.filter (fun l => l != (s % 8, .weld)),
                                       shuntFired := c.saf.shuntFired.filter (fun o => o != s % 8) } }
        else c
      raiseEvt (fltResult c s true) Reg.FLT_EVT 6
    else raiseEvt (fltResult c s false) Reg.FLT_EVT 7
  else fltResult c s true

/-- R465: CLEAR_RECOV: the recovery counter and nothing else. -/
def clearRecov (c : Chip) (s : Nat) : Chip := fltResult (setSrc c s { srcOf c s with recov := 0 }) s true

/-- R465, R470: a write of FLT_CMD: with its key, CLEAR_RETIRE before CLEAR_RECOV. -/
def writeFltCmd (c : Chip) (w : Word) : Chip :=
  if fieldOf w 31 16 ≠ 0x5F1A then c
  else
    let c := if bitOf w 12 then clearRetire c (fieldOf w 8 0) else c
    if bitOf w 13 then clearRecov c (fieldOf w 8 0) else c

/-- CLEAR_RETIRE (R465): FLT_CMD with its key, naming a source. -/
def execClearRetire (source : Nat) (s : State) : Host.Outcome State Fault Refusal :=
  onChip s fun c => reach c Reg.FLT_CMD fun c => clearRetire c source

/-- CLEAR_RECOV (R465). -/
def execClearRecov (source : Nat) (s : State) : Host.Outcome State Fault Refusal :=
  onChip s fun c => reach c Reg.FLT_CMD fun c => clearRecov c source

/-- R50, R53, R456: the supervisor watchdog: a warm module reset, after which the source reports. It runs with the supervisor, and
Hold-up ranks above Reset (R49). -/
def watchdog (c : Chip) : Chip :=
  if c.sup.mode = .off ∨ c.sup.mode = .holdUp ∨ c.sup.mode = .reset ∨ c.sup.mode = .deepStandby then c else
  let c := resetModule c .wdog false
  { c with flt := { c.flt with waiting := [{ src := 151, level := 3, detail := 0, forced := false }] } }

/-- WATCHDOG_EXPIRY (R53). -/
def execWatchdogExpiry (s : State) : Host.Outcome State Fault Refusal := .next { s with chip := watchdog s.chip }

end Sys2Proof.Machine
end

