-- ==== Sys2Proof/Machine/Blotter.lean ====
section
/-! DEFINITION. Blotter, the event recorder: writing a queued record (R472 to R474), the bytes of a record (R471),
and reading through the window (R476, R477). -/

namespace Sys2Proof.Machine

/-- R471: byte 18. -/
def BltRec.sevByte (r : BltRec) : Nat :=
  r.sev % 8 + placeBit 3 r.forced + placeBit 4 r.holdup + placeBit 5 r.wallInvalid + placeBit 6 r.escalated

/-- R471: byte 19. -/
def BltRec.kindByte (r : BltRec) : Nat := r.kind % 16 + place 4 (r.level % 8) + placeBit 7 r.channel

/-- R471: the 32 bytes of a record. -/
def BltRec.bytes (r : BltRec) : List Byte :=
  let b := leBytes 6 r.seq ++ leBytes 6 r.cycle ++ leBytes 6 r.wall ++ leBytes 1 r.sevByte ++ leBytes 1 r.kindByte
    ++ leBytes 2 r.code ++ leBytes 2 r.rept ++ leBytes 2 r.lastS ++ leBytes 4 r.data.toNat
  b ++ leBytes 2 (crc16 b).toNat

/-- R471: slots of the recorder. -/
def bltSlots : Nat := 65536

/-- R472: the lowest key not in a table of rising keys. -/
def firstGap {α : Type} : Nat → Tab α → Nat
  | n, [] => n
  | n, (k, _) :: t => if k = n then firstGap (n + 1) t else n

/-- R473: the newest record held. -/
def newestRec (t : Tab BltRec) : Option (Nat × BltRec) :=
  t.foldl (fun best e => match best with
    | none => some e
    | some b => if b.2.seq < e.2.seq then some e else some b) none

/-- R474: the oldest record of the lowest severity present, if that is not above s. -/
def victim (t : Tab BltRec) (s : Nat) : Option (Nat × BltRec) :=
  let v : Option (Nat × BltRec) := t.foldl (fun best e => match best with
    | none => some e
    | some b => if e.2.sev < b.2.sev ∨ (e.2.sev = b.2.sev ∧ e.2.seq < b.2.seq) then some e else some b) none
  match v with
  | some e => if e.2.sev ≤ s then some e else none
  | none => none

/-- R473: a record is merged into the newest one. -/
def mergesInto (r n : BltRec) : Bool :=
  r.kindByte == n.kindByte && r.code == n.code && r.sevByte == n.sevByte && r.data == n.data && decide (n.rept < 65535)

/-- R476: a shown record has changed. -/
def staleIf (c : Chip) (seq : Nat) : Chip :=
  if c.blt.window.any (fun r => r.seq == seq) then { c with blt := { c.blt with winStale := true } } else c

/-- R477: NEW, for a record whose severity is at or above IRQ_SEV. -/
def bltNew (c : Chip) (r : BltRec) : Chip :=
  if cfg c Reg.BLT_CFG 2 0 ≤ r.sev then raiseEvt c Reg.BLT_EVT 0 else c

/-- R472: writes a record as a new one into a slot. -/
def bltStore (c : Chip) (slot : Nat) (r : BltRec) : Chip :=
  let was := c.blt.slots.length
  let t := tput c.blt.slots slot { r with seq := c.blt.nextSeq }
  let c := { c with blt := { c.blt with slots := t, nextSeq := (c.blt.nextSeq + 1) % 2 ^ 48 } }
  let c := if was < bltSlots ∧ t.length = bltSlots then raiseEvt c Reg.BLT_EVT 1 else c
  bltNew c r

/-- R473: the newest record, where a record is merged into it. -/
def mergeRec (c : Chip) (r : BltRec) : Option (Nat × BltRec) :=
  if cfgBit c Reg.BLT_CFG 3 then (newestRec c.blt.slots).filter (fun e => mergesInto r e.2) else none

/-- R472 to R474: the record at the head of the queue is merged, written, or dropped. -/
def bltWrite (c : Chip) (r : BltRec) : Chip :=
  match mergeRec c r with
  | some (k, n) =>
    let n' := { n with rept := n.rept + 1, lastS := sat 65535 (r.since - n.since) }
    bltNew (staleIf { c with blt := { c.blt with slots := tput c.blt.slots k n' } } n.seq) r
  | none =>
    if c.blt.slots.length < bltSlots then bltStore c (firstGap 0 c.blt.slots) r
    else match victim c.blt.slots r.sev with
      | some (k, v) => raiseEvt (bltStore (staleIf c v.seq) k r) Reg.BLT_EVT 3
      | none => raiseEvt { c with blt := { c.blt with drop := (c.blt.drop + 1) % 2 ^ 32 } } Reg.BLT_EVT 2

/-- R472: the oldest queued record, once the recorder has been restored. -/
def bltPop (c : Chip) : Chip :=
  if c.blt.ready then
    match c.blt.queue with
    | [] => c
    | r :: rest => bltWrite { c with blt := { c.blt with queue := rest } } r
  else c

/-- R472 to R474: the slot that the write of a record touches; none where it is dropped. -/
def bltPlace (c : Chip) (r : BltRec) : Option Nat :=
  match mergeRec c r with
  | some (k, _) => some k
  | none =>
    if c.blt.slots.length < bltSlots then some (firstGap 0 c.blt.slots)
    else (victim c.blt.slots r.sev).map (·.1)

/-- R472, R473: power ends with records in the queue: they are lost. Whether the write of the first one had begun is open; where
it had, its slot is torn and counts as empty, and the next SEQ follows the highest one left. -/
def tearRecord (c : Chip) : Chip :=
  match c.blt.queue with
  | [] => c
  | r :: _ =>
    let c := match bltPlace c r with
      | some k =>
        if c.blt.ready && freeBelow c 7210 2 == 1 then
          let t := terase c.blt.slots k
          { c with blt := { c.blt with
              slots := t, nextSeq := match newestRec t with | some (_, n) => (n.seq + 1) % 2 ^ 48 | none => 0 } }
        else c
      | none => c
    takeFree { c with blt := { c.blt with queue := [] } }

/-- BLOTTER_WRITE (R472). -/
def execBlotterWrite (s : State) : Host.Outcome State Fault Refusal := .next { s with chip := bltPop s.chip }

/-! ### The window (R476) -/

/-- R477: BLT_CURSOR. -/
def bltCursor (c : Chip) : Nat := (regGet c Reg.BLT_CURSOR_LO).toNat + imm c Reg.BLT_CURSOR_HI 15 0 * 2 ^ 32

/-- The records that a latch selects, in ascending SEQ. -/
def bltMatch (c : Chip) : List BltRec :=
  let f := imm c Reg.BLT_WIN_CTRL 6 4
  let l := (c.blt.slots.map (·.2)).filter (fun r => decide (bltCursor c ≤ r.seq) && decide (f ≤ r.sev))
  l.mergeSort (fun a b => decide (a.seq ≤ b.seq))

/-- R476: LATCH begins. -/
def bltLatch (c : Chip) : Chip := { c with blt := { c.blt with winBusy := true, winStale := false } }

/-- R476: NEXT moves the cursor past the last record shown, then latches. -/
def bltNext (c : Chip) : Chip :=
  match c.blt.window.getLast? with
  | some r =>
    let n := r.seq + 1
    bltLatch (regPut (regPut c Reg.BLT_CURSOR_LO (loWord n)) Reg.BLT_CURSOR_HI (wordOf (n / 2 ^ 32 % 65536)))
  | none => bltLatch c

/-- R476: the latch completes. -/
def bltLatched (c : Chip) : Chip :=
  if c.blt.winBusy then
    let l := bltMatch c
    { c with blt := { c.blt with winBusy := false, window := l.take 8, winEnd := (l.drop 8).isEmpty, winStale := false } }
  else c

/-- BLT_LATCH (R476). -/
def execBltLatch (s : State) : Host.Outcome State Fault Refusal :=
  onChip s fun c => reach c Reg.BLT_WIN_CTRL bltLatch

/-- BLT_NEXT (R476). -/
def execBltNext (s : State) : Host.Outcome State Fault Refusal :=
  onChip s fun c => reach c Reg.BLT_WIN_CTRL bltNext

/-- BLT_LATCH_DONE (R476). -/
def execBltLatchDone (s : State) : Host.Outcome State Fault Refusal := .next { s with chip := bltLatched s.chip }

end Sys2Proof.Machine
end

