-- ==== Sys2Proof/Machine/Meter.lean ====
section
/-! DEFINITION. Metering: lane training, ranging and loss (R127 to R139), calibration measurements (R145), the
readout window (R166), the commit ring (R170 to R174), and their commands. -/

namespace Sys2Proof.Machine

/-! ### Lanes (R127) -/

/-- R127: a lane becomes FAILED with a cause, and reports the fault. -/
def failLane (c : Chip) (n cause : Nat) : Chip :=
  let c := withLane c n (fun c =>
    raiseEvt (setLane c n { laneOf c n with state := .failed, cause := cause, leftTrain := true, range16 := false })
      (Reg.MET_LANE_EVT n) 2)
  reportSrc c n cause

/-- R131, R134: the range a lane is forced to. -/
def forced16 (c : Chip) (n : Nat) : Bool := currentLane c n && cfg c (Reg.MET_LANE_CFG n) 1 0 == 2

/-- R124, R134: the lane's modulator is told a range, which its stream takes once the frame has acted. -/
def sendGain (c : Chip) (n : Nat) (x16 : Bool) : Chip :=
  let l := laneOf c n
  emit (setLane c n { l with range16 := x16, chain := { l.chain with swap := some (gainPeriods, x16) } })
    (.laneFrame n (frameGain x16))

/-- R127: the TYPE of an ID word fits the lane's role. -/
def typeFits (c : Chip) (n id0 : Nat) : Bool :=
  let ty := id0 / 4096 % 16
  ty == 2 || (ty == 1 && !currentLane c n)

/-- R149: the serial number found at training differs from the calibrated one: the point is marked. -/
def checkSerial (c : Chip) (n id1 : Nat) : Chip :=
  match tfind c.leg.calIds n, pointOfLane c n with
  | some r, some m =>
    if r = id1 then c
    else
      let c := legalEntry c tyUncal m (beBytes 1 n ++ beBytes 1 0 ++ beBytes 2 r ++ beBytes 2 id1) none
      raiseEvt { c with leg := { c.leg with uncal := setBitV c.leg.uncal m true } } Reg.LEG_EVT 3
  | _, _ => c

/-- R127: a lane enters RUN: GAIN ×1, then RUN, then the forced range (R134); its fault is cleared. -/
def runLane (c : Chip) (n id0 id1 eye step : Nat) (slicer : List Int) : Chip :=
  let c := withLane c n (fun c => setLane c n { laneOf c n with
    state := .run, cause := 0, eye := eye, id0 := id0, id1 := id1, leftTrain := true, range16 := false, quiet := 0,
    step := step, slicer := slicer, chain := Chain.init })
  let c := emits c [.laneFrame n (frameGain false), .laneFrame n frameRun]
  let c := if forced16 c n then sendGain c n true else c
  checkSerial (clearSrc c n) n id1

/-- R123, R128: both ID words are read; the frame of a word without its response is sent again. -/
def trainedLane (c : Chip) (n step : Nat) (t : LaneScan) : Chip :=
  let c := emits c [.laneFrame n (frameReadId 0), .laneFrame n (frameReadId 1)]
  match idWord t.word0, idWord t.word1 with
  | some a, some b =>
    if typeFits c n a then runLane c n a b (t.openings.getD step 0) step t.thresholds
    else failLane (setLane c n { laneOf c n with id0 := a, id1 := b }) n 2
  | none, _ => emit c (.laneFrame n (frameReadId 0))
  | _, none => emit c (.laneFrame n (frameReadId 1))

/-- LANE_TRAINED (R127, R128, R149): the sampling phase goes to the centre of the widest eye; the lane is aligned when the
modulator's sequence is read there. -/
def execLaneTrained (lane : Lane) (scan : LaneScan) (s : State) : Host.Outcome State Fault Refusal :=
  onChip s fun c =>
    match (laneOf c lane.val).state, eyeCentre scan.openings with
    | .train, some step => if isTraining scan.pattern then trainedLane c lane.val step scan else c
    | _, _ => c

/-- TRAIN_TIMEOUT (R127). -/
def execTrainTimeout (lane : Lane) (s : State) : Host.Outcome State Fault Refusal :=
  .next { s with chip := if (laneOf s.chip lane.val).state = .train then failLane s.chip lane.val 1 else s.chip }

/-- R127: RUN to RETRAIN, with a lane fault. -/
def retrainLane (c : Chip) (n : Nat) : Chip :=
  let c := withLane c n (fun c =>
    raiseEvt (setLane c n { laneOf c n with
      state := .retrain, range16 := false, quiet := 0, retrain := 0,
      chain := { missPeriods (laneOf c n).chain 1 with rx16 := false, swap := none, valid := 0, phase := (laneOf c n).chain.phase } })
      (Reg.MET_LANE_EVT n) 0)
  reportSrc c n (laneOf c n).cause

/-- CV_LIMIT_EXCEEDED (R127): more than 64 code violations have come in the running cycle. -/
def execCvLimitExceeded (lane : Lane) (s : State) : Host.Outcome State Fault Refusal :=
  onChip s fun c =>
    if (laneOf c lane.val).state = .run ∧ 64 < (laneOf c lane.val).cvNow then retrainLane c lane.val else c

/-- R127: loss of signal: RETRAIN; in Hold-up the lane stops, without a fault. -/
def signalLoss (c : Chip) (n : Nat) : Chip :=
  let st := (laneOf c n).state
  if c.sup.mode = .holdUp then
    if st = .run ∨ st = .retrain then withLane c n (fun c => setLane c n { laneOf c n with state := .stopped }) else c
  else if st = .run then retrainLane c n else c

/-- LANE_SIGNAL_LOSS (R127): `periods` more have brought no valid symbol; 16 on end are a loss of signal. -/
def execLaneSignalLoss (lane : Lane) (periods : Nat) (s : State) : Host.Outcome State Fault Refusal :=
  onChip s fun c =>
    let n := lane.val
    if laneMeters (laneOf c n) then
      let c := feedLane c n [] (min periods (periodsLeft (laneOf c n) - 1))
      if 16 ≤ (laneOf c n).chain.invalid then signalLoss c n else c
    else c

/-- R128: the phase adjusted, by at most 2 steps. -/
def nudgeStep (step : Nat) (by' : Int) : Nat := (((step : Int) + max (-2) (min 2 by')) % 32).toNat

/-- R127, R128: realigned: RUN in ×1, then the forced range (R134). -/
def retrained (c : Chip) (n : Nat) (by' : Int) : Chip :=
  let c := withLane c n (fun c => setLane c n { laneOf c n with
    state := .run, range16 := false, step := nudgeStep (laneOf c n).step by',
    chain := { (laneOf c n).chain with rx16 := false, swap := none } })
  let c := emit c (.laneFrame n (frameGain false))
  clearSrc (if forced16 c n then sendGain c n true else c) n

/-- RETRAIN_DONE (R127, R128): the periods received; 128 valid symbols on end, within 100 µs of the entry, realign the
lane. -/
def execRetrainDone (lane : Lane) (periods : List Period) (by' : Int) (s : State) : Host.Outcome State Fault Refusal :=
  onChip s fun c =>
    let n := lane.val
    if (laneOf c n).state = .retrain then
      let c := feedLane c n (periods.take (periodsLeft (laneOf c n) - 1)) 0
      if 128 ≤ (laneOf c n).chain.valid ∧ (laneOf c n).retrain ≤ 2000 then retrained c n by' else c
    else c

/-- RETRAIN_TIMEOUT (R127). The fault was reported on entry to RETRAIN. -/
def execRetrainTimeout (lane : Lane) (s : State) : Host.Outcome State Fault Refusal :=
  onChip s fun c =>
    if (laneOf c lane.val).state = .retrain then
      withLane c lane.val (fun c => raiseEvt
        (setLane c lane.val { laneOf c lane.val with state := .failed, cause := 3 }) (Reg.MET_LANE_EVT lane.val) 2)
    else c

/-- LANE_FAILED_RETRY (R127): training is attempted again. -/
def execLaneFailedRetry (lane : Lane) (s : State) : Host.Outcome State Fault Refusal :=
  onChip s fun c =>
    if (laneOf c lane.val).state = .failed then withLane c lane.val (fun c => trainLane c lane.val) else c

/-- RANGE_DOWN (R131, R132): the periods up to the fast detector's sample; a sample at the limit sends GAIN ×1. -/
def execRangeDown (lane : Lane) (periods : List Period) (s : State) : Host.Outcome State Fault Refusal :=
  onChip s fun c =>
    let n := lane.val
    if (laneOf c n).state = .run then feedLane c n (periods.take (periodsLeft (laneOf c n) - 1)) 0 else c

/-- R177: the samples of lane n's cycle join the harmonic window of the selected lane. -/
def harmCycle (c : Chip) (n : Nat) : Chip :=
  if n = c.met.hselNow then
    let x := alignedCycle (laneOf c n)
    { c with met := if 8 ≤ c.met.hcyc then { c.met with hbuf := x, hcyc := 1 }
                    else { c.met with hbuf := c.met.hbuf ++ x, hcyc := c.met.hcyc + 1 } }
  else c

/-- R129, R131, R139: lane n at the end of a cycle: its peak and quiet cycles, EYE_LOW, the cycle kept for
substitution, and a switch up to ×16 after two quiet cycles. -/
def laneCycle (c : Chip) (n : Nat) : Chip :=
  let l := laneOf c n
  let quiet := if l.peakNow < 0x03333333 ∧ l.substNow = false ∧ l.cur ≠ [] then l.quiet + 1 else 0
  let up := l.state == .run && !l.range16 && cfg c (Reg.MET_LANE_CFG n) 1 0 == 0 && currentLane c n && decide (2 ≤ quiet)
  let c := harmCycle c n
  let c := if l.state = .run ∧ l.cur ≠ [] ∧ l.eyeTop < 25 then raiseEvt c (Reg.MET_LANE_EVT n) 6 else c
  let c := setLane c n { l with
    peak := l.peakNow, peakNow := 0, quiet := quiet, substNow := false, cvNow := 0, eyeTop := 0,
    last := l.cur.reverse, cur := [], swCnt := if up then (l.swCnt + 1) % 2 ^ 32 else l.swCnt }
  if up then sendGain (raiseEvt (calSwitched c n) (Reg.MET_LANE_EVT n) 4) n true else c

/-- Every lane in use at the end of a cycle. -/
def laneCycles (c : Chip) : Chip := (c.met.lanes.map (·.1)).foldl laneCycle c

/-- METER_SAMPLE (R125 to R139, R153): 62.5 µs: the periods that the lanes received complete a sample of each. -/
def execMeterSample (samples : List LaneSample) (s : State) : Host.Outcome State Fault Refusal :=
  let c := (List.range 8).foldl (samplePoint samples) s.chip
  .next { s with chip := takeFree (sampleCal c) }

/-- LANE_CV_READ (R143): a read that clears. -/
def execLaneCvRead (lane : Lane) (s : State) : Host.Outcome State Fault Refusal :=
  onChip s fun c => readActs c (Reg.MET_LANE_CV lane.val) fun c =>
    (setLane c lane.val { laneOf c lane.val with cv := 0 }, wordOf (laneOf c lane.val).cv)

/-! ### Calibration measurement (R145) -/

/-- R145: the fields of MET_CAL_CTRL, then START, which BUSY discards. -/
def calStart (c : Chip) (a b cycles : Nat) : Chip :=
  let c := regPut c Reg.MET_CAL_CTRL (wordOf (a + place 8 b + place 16 cycles))
  if c.met.cal.busy || c.met.cal.due then c
  else { c with met := { c.met with cal := { c.met.cal with due := true, laneA := a, laneB := b, cycles := max 1 cycles } } }

/-- CAL_MEAS_START (R145). -/
def execCalMeasStart (laneA laneB : Lane) (cycles : BitVec 8) (s : State) : Host.Outcome State Fault Refusal :=
  onChip s fun c => reach c Reg.MET_CAL_CTRL fun c => calStart c laneA.val laneB.val cycles.toNat

/-- CAL_MEAS_ABORT (R145). -/
def execCalMeasAbort (s : State) : Host.Outcome State Fault Refusal :=
  onChip s fun c => reach c Reg.MET_CAL_CTRL calAbort

/-- R145: an angle 0 starts a measurement that is due, and counts a cycle of a running one. -/
def calCycle (c : Chip) : Chip :=
  let k := c.met.cal
  if k.busy then { c with met := { c.met with cal := { k with cycDone := min k.cycles (k.cycDone + 1) } } }
  else if k.due then
    let c := { c with met := { c.met with cal := { k with
        due := false, busy := true, done := false, switched := false, subst := false, aborted := false, cycDone := 0,
        n := 0, sa := 0, sa2 := 0, sb2 := 0, sab := 0 } } }
    if (laneOf c k.laneA).state == .run && (laneOf c k.laneB).state == .run then c else calAbort c
  else c

/-- R145: the results of a completed measurement; their roundings are open (log 2). -/
def calDone (c : Chip) : Chip :=
  let k := c.met.cal
  if k.busy && decide (k.cycles ≤ k.cycDone) then
    let rms := fun (pl s : Nat) => if k.n = 0 then 0 else sqrtOpen c pl (s / k.n)
    let mean := fun (pl : Nat) (s : Int) => if k.n = 0 then 0 else roundOpen c pl s k.n
    let prod := sgn 64 (mean 7003 k.sab)
    let c := regPut c Reg.MET_CAL_RMS_A (wordOf (rms 7000 k.sa2))
    let c := regPut c Reg.MET_CAL_RMS_B (wordOf (rms 7001 k.sb2))
    let c := regPut c Reg.MET_CAL_MEAN_A (wordOf (sgn 32 (mean 7002 k.sa)))
    let c := regPut (regPut c Reg.MET_CAL_PROD_LO (loWord prod)) Reg.MET_CAL_PROD_HI (hiWord prod)
    takeFree { c with met := { c.met with cal := { k with busy := false, done := true } } }
  else c

/-- CAL_MEAS_DONE (R145). -/
def execCalMeasDone (s : State) : Host.Outcome State Fault Refusal := .next { s with chip := calDone s.chip }

/-! ### Readout (R166, R167) -/

/-- The 64 accumulators of a point or of a context. -/
def targetAccs (c : Chip) (context : Bool) (i : Nat) : List Nat :=
  (List.range 64).map (fun k =>
    if context then
      (if k = 24 ∨ k = 25 ∨ 32 ≤ k then ctxAcc c i k else 0)
    else pointAcc c i k)

/-- R166, R179: the selected context is not allocated; it is a replica. -/
def ctxEmpty (c : Chip) (i : Nat) : Bool := (ctxOf c i).bstate == .free
def ctxReplica (c : Chip) (i : Nat) : Bool := (ctxOf c i).bstate == .replica

/-- R166: the copy of the finalised values into the window. -/
def latchWindow (c : Chip) (context : Bool) (i : Nat) : Chip :=
  let empty := context && ctxEmpty c i
  let accs := if empty then List.replicate 64 0 else targetAccs c context i
  { c with acc := { c.acc with latchWait := none, window :=
      { valid := true, empty := empty, replica := context && ctxReplica c i, index := i, target := context.toNat,
        cycle := c.acc.finCycle, readings := accs.map reading, legacy := accs.map legacyWh } } }

/-- R166, R179: LATCH: refused for a point above 7, discarded while BUSY, and held back until finalisation ends. -/
def accLatch (c : Chip) (context : Bool) (i : Nat) : Chip :=
  if !context && decide (7 < i) then c
  else
    let c := regPut c Reg.MET_ACC_CTRL (wordOf (context.toNat + place 8 i))
    if c.acc.latchWait.isSome then c
    else if c.acc.finalising then { c with acc := { c.acc with latchWait := some (context.toNat, i) } }
    else latchWindow c context i

/-- ACC_LATCH (R166). -/
def execAccLatch (context : Bool) (index : BitVec 8) (s : State) : Host.Outcome State Fault Refusal :=
  onChip s fun c => reach c Reg.MET_ACC_CTRL fun c => accLatch c context index.toNat

/-- FINALISATION_DONE (R166). -/
def execFinalisationDone (s : State) : Host.Outcome State Fault Refusal :=
  let c := { s.chip with acc := { s.chip.acc with finalising := false } }
  .next { s with chip :=
    match c.acc.latchWait with
    | some (t, i) => latchWindow c (t == 1) i
    | none => c }

/-- R362: 64 slots of 16 bytes: mWh, fraction, legacy window. -/
def accBytes (accs : List Nat) : List Byte :=
  accs.flatMap (fun a => leBytes 8 (reading a / 2 ^ 32) ++ leBytes 4 (reading a) ++ leBytes 4 (legacyWh a))

/-- ACC_READ (R362): the values of the last angle 0, without disturbing the window. -/
def execAccRead (req : Requester) (kind index : Nat) (xfer : Bool) (s : State) : Host.Outcome State Fault Refusal :=
  onChip s fun c => perform c req 0x0301 .accumulator (fun c =>
    if 1 < kind ∨ (kind = 0 ∧ 7 < index) ∨ 255 < index then complete c req (ansReject .field)
    else if !xfer then complete c req (ansReject .buffer)
    else
      let context := kind == 1
      let empty := context && ctxEmpty c index
      let accs := if empty then List.replicate 64 0 else targetAccs c context index
      complete (deliver c req (accBytes accs)) req
        { ansOk with aux := placeBit 0 empty + placeBit 1 (context && ctxReplica c index), aux32 := 1024,
                     result := leBytes 6 c.acc.finCycle })

/-! ### The commit ring (R170 to R174) -/

/-- R171, R19: the oldest queued slot is written, to the last-gasp ring while the MRAM interface is lost. -/
def writeSlot (c : Chip) (us : Nat) : Chip :=
  match c.acc.due with
  | [] => c
  | sl :: rest =>
    let r : RingSlot := { slot := sl, written := slotSize }
    let us := sat 65535 us
    let c := { c with acc := { c.acc with
      due := rest, lastSeq := sl.seq, lastSlot := nextPlace c, lastKind := sl.kind, lastNoHold := sl.noHold,
      lastFallback := sl.fallback, lastUs := us, maxUs := max c.acc.maxUs us } }
    putRing c c.acc.lastSlot r

/-- COMMIT_SLOT_WRITTEN (R171): the write took `us` µs. -/
def execCommitSlotWritten (us : Nat) (s : State) : Host.Outcome State Fault Refusal :=
  .next { s with chip := writeSlot s.chip us }

/-- DTCORR_MEASURE (R156): the ratio measured on the fallback clock. -/
def execDtcorrMeasure (ratio : Word) (s : State) : Host.Outcome State Fault Refusal :=
  onChip s fun c =>
    if c.met.fallback then { c with met := { c.met with dtCorr := ratio.toNat } } else c

/-- R177: the harmonics of a window of 8 cycles; h = 0 is DC. The rounding of the mean is open (log 2). -/
def harmWords (c : Chip) : List Word :=
  let n := c.met.hbuf.length
  let dc := if n = 0 then 0 else roundOpen c 7100 c.met.hbuf.sum n
  (List.range 64).map (fun h => wordOf (if h = 0 then dc.natAbs else Config.harmonicRms 8 h c.met.hbuf))

/-- HARM_WINDOW (R177): 8 cycles of the selected lane have been taken: its harmonics are renewed, and a new selection
takes effect. -/
def execHarmWindow (s : State) : Host.Outcome State Fault Refusal :=
  onChip s fun c =>
    if c.met.hcyc = 8 then
      let c := takeFree (((List.range 64).zip (harmWords c)).foldl (fun c e => regPut c (Reg.MET_QE_HARM e.1) e.2) c)
      { c with met := { c.met with hselNow := imm c Reg.MET_QE_HSEL 5 0, hbuf := [], hcyc := 0 } }
    else c

end Sys2Proof.Machine
end

