-- ==== Sys2Proof/Machine/Clock.lean ====
section
/-! DEFINITION. The mains-angle timebase (R101 to R108), the scheduler's bookings (R109, R362) and the wall clock
(R113 to R117), with their commands. -/

namespace Sys2Proof.Machine

/-! ### The references (R101, R102) -/

/-- R101: the voltage lane of the primary or of the alternate reference, where it is one of an enabled AC point. -/
def refLane (c : Chip) (alternate : Bool) : Option Nat :=
  let m := if alternate then cfg c Reg.SUP_TB_CFG 10 8 else cfg c Reg.SUP_TB_CFG 2 0
  let ph := if alternate then cfg c Reg.SUP_TB_CFG 13 12 else cfg c Reg.SUP_TB_CFG 5 4
  if pointEnabled c m && mpType c m != 3 && decide (ph < voltageCount (mpType c m)) then some (mpBase c m + ph) else none

/-- What the timebase has measured of a reference. -/
def refOf (c : Chip) (alternate : Bool) : RefSt := if alternate then c.tb.alt else c.tb.prim

/-- R102: the RMS of samples of lane n is at least VMIN. -/
def rmsEnough (c : Chip) (n : Nat) (xs : List Int) : Bool :=
  decide ((cfg c Reg.SUP_TB_CFG 23 16 * 2000) ^ 2 * xs.length * 2 ^ 60 ≤ (xs.map (·.natAbs ^ 2)).sum * fullScale c n ^ 2)
    && !xs.isEmpty

/-- R102: the frequency of a period in 2^-16 sample lies within 42.5 Hz to 69 Hz. -/
def freqWithin (per : Nat) : Bool := decide (16000 * 65536 ≤ 69 * per) && decide (85 * per ≤ 2 * 16000 * 65536)

/-- R102: a reference after the cycle that ends. -/
def refCycle (c : Chip) (alternate : Bool) : RefSt :=
  let r := refOf c alternate
  match refLane c alternate with
  | none => RefSt.init
  | some n =>
    let l := laneOf c n
    let zs := crossings l
    let per := match r.since, zs with
      | some s, z :: _ => s + z
      | _, _ => r.per
    let rms := rmsEnough c n l.cur
    { run := if rms && freqWithin per && zs.length == 1 then r.run + 1 else 0,
      low := if rms then 0 else r.low + 1, out := if freqWithin per then 0 else r.out + 1, per := per,
      since := match zs.getLast? with
        | some z => some (waveLen l - z)
        | none => r.since.map (· + waveLen l) }

/-- R102: a reference has met every condition in each of the last k cycles. -/
def qualifiedFor (c : Chip) (alternate : Bool) (k : Nat) : Bool := decide (k ≤ (refOf c alternate).run)

/-- R102: no crossing within 1.25 times the last period, or an RMS or a frequency outside for 2 cycles. -/
def refGone (c : Chip) (alternate : Bool) : Bool :=
  let r := refOf c alternate
  let late := match refLane c alternate, r.since with
    | some n, some s => (crossings (laneOf c n)).isEmpty && decide (5 * r.per < 4 * (s + waveLen (laneOf c n)))
    | _, _ => true
  late || decide (2 ≤ r.low) || decide (2 ≤ r.out)

/-! ### Angles (R103, R104) -/

/-- R103, R108: the offset in AU of a site phase. -/
def phaseOffset (c : Chip) (k : Nat) : Nat :=
  let k := if cfgBit c Reg.SUP_TB_SITE 4 then (if k = 1 then 2 else if k = 2 then 1 else k) else k
  match k with
  | 1 => 21845
  | 2 => 43691
  | _ => 0

/-- R103: the site offset of the primary. -/
def siteOffset (c : Chip) : Nat := phaseOffset c (cfg c Reg.SUP_TB_SITE 1 0)

/-- R103: the site angle now. -/
def siteAngle (c : Chip) : Nat := (c.tb.angle + siteOffset c) % 65536

/-- R103: the local angle at which the followed reference should cross zero: 0, or where the alternate stands by the site
phases when the primary's crossing falls at 0. -/
def aimAngle (c : Chip) : Int :=
  match c.tb.follow with
  | .alternate => (phaseOffset c (cfg c Reg.SUP_TB_SITE 3 2) : Int) - siteOffset c
  | _ => 0

/-- R104: the angle error of the cycle that ends: where the followed reference crossed zero, against the aim. -/
def angleError (c : Chip) : Option Int :=
  match refLane c (c.tb.follow == .alternate) with
  | some n => (zeroAngle c (laneOf c n)).map (fun a => wrapAu ((a : Int) - aimAngle c))
  | none => none

/-- R104: the correction that an error calls for, at most `limit` AU in a cycle. -/
def pulled (limit : Nat) (e : Int) : Int := max (-(limit : Int)) (min limit (Config.phasePull e))

/-! ### Locking (R105) -/

/-- R105: a state of the timebase, with the errors counted anew. -/
def toTbState (c : Chip) (st : TbState) (f : Follow) : Chip :=
  { c with tb := { c.tb with state := st, follow := f, held := 0, errLow := 0, errHigh := 0 } }

/-- R105, R106: into SYNTH_FAB or SYNTH by beacon presence. -/
def fallToSynth (c : Chip) : Chip :=
  if c.tb.beacons && cfgBit c Reg.SUP_TB_SITE 16 then toTbState c .synthFab .beacons else toTbState c .synth .crystal

/-- R105: ACQUIRE on a reference. -/
def acquire (c : Chip) (f : Follow) : Chip := toTbState c .acquire f

/-- R105: REF_SWITCH. -/
def switchTo (c : Chip) (f : Follow) : Chip := raiseEvt (acquire c f) Reg.SUP_TB_EVT 2

/-- R108: ALT_EN in force. -/
def altEn (c : Chip) : Bool := cfgBit c Reg.SUP_TB_CFG 6

/-- What a reference is called when it is followed. -/
def ownFollow (alternate : Bool) : Follow := if alternate then .alternate else .primary

/-- R102, R105: what a qualified reference brings about. -/
def refQualified (c : Chip) (alternate : Bool) : Chip :=
  match c.tb.state with
  | .holdover => if c.tb.follow = ownFollow alternate ∧ qualifiedFor c alternate 3 = true then acquire c c.tb.follow else c
  | .locked => if c.tb.follow = .alternate ∧ alternate = false ∧ qualifiedFor c false 10 = true then switchTo c .primary else c
  | .acquire => c
  | _ =>
    if !qualifiedFor c alternate 10 then c
    else if alternate then (if altEn c && !qualifiedFor c false 10 then acquire c .alternate else c)
    else clearBits (acquire c .primary) Reg.SUP_TB_EVT (wordOf 2)

/-- REF_QUALIFIED (R102, R105). -/
def execRefQualified (alternate : Bool) (s : State) : Host.Outcome State Fault Refusal :=
  onChip s fun c => refQualified c alternate

/-- R105: the followed reference is lost. -/
def refLost (c : Chip) : Chip :=
  match c.tb.state with
  | .acquire => fallToSynth c
  | .locked => raiseEvt (toTbState c .holdover c.tb.follow) Reg.SUP_TB_EVT 1
  | _ => c

/-- REF_LOST (R102, R105). -/
def execRefLost (alternate : Bool) (s : State) : Host.Outcome State Fault Refusal :=
  onChip s fun c => if c.tb.follow = ownFollow alternate ∧ refGone c alternate = true then refLost c else c

/-- TB_LOCK_ACQUIRED (R105): the error has been at most 32 AU for 8 cycles on end. -/
def execTbLockAcquired (s : State) : Host.Outcome State Fault Refusal :=
  onChip s fun c =>
    if c.tb.state = .acquire ∧ 8 ≤ c.tb.errLow then raiseEvt (toTbState c .locked c.tb.follow) Reg.SUP_TB_EVT 0 else c

/-- TB_PHASE_JUMP (R104, R105): the error has been above 2,048 AU for 3 cycles on end. -/
def execTbPhaseJump (s : State) : Host.Outcome State Fault Refusal :=
  onChip s fun c => if c.tb.state = .locked ∧ 3 ≤ c.tb.errHigh then acquire c c.tb.follow else c

/-- R105: HOLD cycles have elapsed in HOLDOVER. -/
def holdoverOver (c : Chip) : Chip :=
  if c.tb.state = .holdover ∧ max 1 (cfg c Reg.SUP_TB_CFG 31 24) ≤ c.tb.held then
    match c.tb.follow with
    | .primary => if altEn c && qualifiedFor c true 10 then switchTo c .alternate else fallToSynth c
    | .alternate => if altEn c && qualifiedFor c false 10 then switchTo c .primary else fallToSynth c
    | _ => fallToSynth c
  else c

/-- HOLDOVER_EXPIRY (R105). -/
def execHoldoverExpiry (s : State) : Host.Outcome State Fault Refusal := onChip s holdoverOver

/-- BEACON_TIMEOUT (R105): no beacon for 2 s. -/
def execBeaconTimeout (s : State) : Host.Outcome State Fault Refusal :=
  onChip s fun c =>
    let c := { c with tb := { c.tb with beacons := false } }
    if c.tb.state = .synthFab then toTbState c .synth .crystal else c

/-- R105, R382: a neighbour reports a locked site angle. -/
def beaconSeen (c : Chip) : Chip :=
  let c := { c with tb := { c.tb with beacons := true } }
  if c.tb.state = .synth ∧ cfgBit c Reg.SUP_TB_SITE 16 = true then toTbState c .synthFab .beacons else c

/-! ### Bookings (R109) -/

/-- SCHED_BOOK (R109): a booking by an owner block, which is told the outcome. -/
def execSchedBook (b : Booking) (s : State) : Host.Outcome State Fault Refusal :=
  onChip s fun c => let r := book c b; emit r.1 (.booking b (r.2 == .ok))

/-- SCHED_CANCEL (R109): the owner cancels its booking. -/
def execSchedCancel (kind : BookKind) (s : State) : Host.Outcome State Fault Refusal :=
  onChip s fun c => unbook c (fun k => k == kind)

/-- MARKER (R362): the descriptor waits for its booking to fire. -/
def execMarker (req : Requester) (cycle angle : Nat) (s : State) : Host.Outcome State Fault Refusal :=
  onChip s fun c => perform c req 0x0002 .timebase (fun c =>
    match book c { cycle := cycle, angle := angle, kind := .marker req, period := 0 } with
    | (c, .ok) => c
    | (c, _) => complete c req (ansReject .rule))

/-- R362: the requester of another tag on the same ring pair. -/
def siblingReq (req : Requester) (tag : Word) : Requester :=
  match req with
  | .host q _ => .host q tag
  | .service _ => .service tag

/-- MARKER_CANCEL (R362). -/
def execMarkerCancel (req : Requester) (target : Word) (s : State) : Host.Outcome State Fault Refusal :=
  onChip s fun c => perform c req 0x0003 .timebase (fun c =>
    let k := BookKind.marker (siblingReq req target)
    if c.tb.sched.any (fun b => b.kind == k) then
      let c := complete (unbook c (fun x => x == k)) (siblingReq req target) (ansReject .cancelled)
      complete c req { ansOk with aux := 1 }
    else complete c req ansOk)

/-! ### The wall clock (R113 to R116) -/

/-- R108: STEP_LIMIT in s, clamped. -/
def stepLimit (c : Chip) : Nat := max 1 (min 300 (cfg c Reg.SUP_WALL_CFG 8 0))

/-- R108: the slew rate in ppm. -/
def slewPpm (c : Chip) : Nat :=
  match cfg c Reg.SUP_WALL_CFG 15 12 with
  | 0 => 100 | 1 => 200 | 2 => 500 | 3 => 1000 | 4 => 2000 | _ => 5000

/-- R108, R114: the source is enabled. -/
def srcEnabled (c : Chip) (t : TimeSrc) : Bool :=
  match t with
  | .none => false
  | .felt => cfgBit c Reg.SUP_WALL_CFG 16
  | .network => cfgBit c Reg.SUP_WALL_CFG 17
  | .backend => cfgBit c Reg.SUP_WALL_CFG 18
  | .host => cfgBit c Reg.SUP_WALL_CFG 19

/-- A signed number saturated for a 32-bit data word. -/
def satWord (v : Int) : Nat := sgn 32 (satInt 32 v)

/-- R114, R382: an offset that is recorded and not applied: the clock follows Felt time, which the root itself does not. -/
def offsetIgnored (c : Chip) (t : TimeSrc) : Bool :=
  t != .felt && srcEnabled c .felt && (match c.fab.root with
    | some r => r.addr != c.fab.addr
    | none => false)

/-- R115: what the wall clock gains in a time at its slew rate, at most what remains; the part of a unit is dropped (log
60). -/
def slewPart (c : Chip) (dur : Nat) : Int :=
  let most := min (dur * slewPpm c / 1000000) c.tb.slewRem.natAbs
  if c.tb.slewRem < 0 then -(most : Int) else most

/-- R113, R115: the wall clock, the high-water mark and the AON counter advance by dur (2^-32 s), slewing. -/
def advanceTime (c : Chip) (dur : Nat) : Chip :=
  let part := slewPart c dur
  let w := ((c.tb.wall + dur : Nat) + part).toNat
  let rem := c.tb.slewRem - part
  let ended := decide (c.tb.slewRem ≠ 0) && decide (rem = 0)
  let c := { c with tb := { c.tb with wall := w, hwm := max c.tb.hwm w, slewRem := rem, aon := c.tb.aon + dur } }
  if ended then raiseEvt c Reg.SUP_TB_EVT 4 else c

/-- The clocks run to an instant of the running cycle, `since` angle 0 in 2^-32 s. -/
def runTo (c : Chip) (since : Nat) : Chip :=
  let c := advanceTime c (since - c.tb.into)
  { c with tb := { c.tb with into := max c.tb.into since } }

/-- R116, R51: a step waits for its boundary; none from a brown-out on. A later offset within the limit takes its place
(log 60). -/
def stepPending (c : Chip) (t : TimeSrc) (offset : Int) : Chip :=
  if c.sup.mode = .holdUp then c
  else { c with tb := { c.tb with step := some { offset := offset, src := t }, slewRem := 0 } }

/-- R113 to R116: an offset from an enabled source is slewed, or becomes a step at the next angle 0, or is refused. -/
def wallOffset (c : Chip) (t : TimeSrc) (offset : Int) : Chip :=
  if !srcEnabled c t then c
  else if offsetIgnored c t then blotEvent c 0x0003 1 (satWord (offset * 1000 / 2 ^ 32))
  else if !c.tb.valid then stepPending c t offset
  else if offset.natAbs ≤ stepLimit c * 2 ^ 32 then
    { c with tb := { c.tb with slewRem := offset, src := t, step := none } }
  else if t = .network ∧ cfgBit c Reg.SUP_WALL_CFG 20 = false then
    blotEvent (raiseEvt c Reg.SUP_TB_EVT 5) 0x0004 4 (satWord (offset / 2 ^ 32))
  else stepPending c t offset

/-- WALL_OFFSET (R114): an offset in 2^-32 s against the clock as it runs. -/
def execWallOffset (src : TimeSrc) (offset : Int) (s : State) : Host.Outcome State Fault Refusal :=
  onChip s fun c => wallOffset c src offset

/-- SLEW_DONE (R115): the clocks reach an instant, `since` angle 0; where the remaining offset is zero there, SLEW_DONE is
set. -/
def execSlewDone (since : Nat) (s : State) : Host.Outcome State Fault Refusal := onChip s fun c => runTo c since

/-- R362: the AUX of a TIME_SET: 0 slewed, 1 step pending, 3 recorded only, 4 first setting. -/
def timeSetAux (c : Chip) (offset : Int) : Nat :=
  if offsetIgnored c .host then 3
  else if !c.tb.valid then 4
  else if offset.natAbs ≤ stepLimit c * 2 ^ 32 then 0
  else 1

/-- TIME_SET (R362, R114): the host's UTC in 2^-16 s. -/
def execTimeSet (req : Requester) (utc : Nat) (s : State) : Host.Outcome State Fault Refusal :=
  onChip s fun c => perform c req 0x0004 .timebase (fun c =>
    if !srcEnabled c .host then complete c req (ansReject .mode)
    else
      let offset : Int := (utc * 2 ^ 16 : Nat) - (c.tb.wall : Int)
      let a : Answer := { ansOk with aux := timeSetAux c offset,
                                     result := leBytes 8 (sgn 64 (roundOpen c 7100 offset (2 ^ 16))) }
      complete (wallOffset c .host offset) req a)

/-- NOP (R362). -/
def execNop (req : Requester) (s : State) : Host.Outcome State Fault Refusal :=
  onChip s fun c => perform c req 0x0001 .ringEngine (fun c => complete c req ansOk)

end Sys2Proof.Machine
end

