-- ==== Sys2Proof/Machine/Legal.lean ====
section
/-! DEFINITION. The legally relevant part (R211 to R235): entries and their bytes, the chain, signing with the
device key, signed meter records and their export, acknowledgement, the seal, the legal display buffer, and the
factory load of the legal firmware; and their commands. -/

namespace Sys2Proof.Machine

/-! ### Keys (R408 to R411) -/

/-- ASCII text as bytes. -/
def asciiBytes (s : String) : List Byte := s.toList.map (fun ch => BitVec.ofNat 8 ch.toNat)

/-- ASCII text padded with a byte to a length. -/
def asciiPad (n : Nat) (pad : Byte) (bs : List Byte) : List Byte := (bs ++ List.replicate n pad).take n

/-- The 32 bytes of a 256-bit value, first byte first. -/
def id32 (v : BitVec 256) : List Byte := beBytes 32 v.toNat

/-- R407, R408: AUTH after stages 0 to 8 with the given authority codes. -/
def authFold (codes : List Nat) : BitVec 256 :=
  (codes.foldl (fun (a : BitVec 256 × Nat) code =>
    (Config.shake256 (id32 a.1 ++ beBytes 1 a.2 ++ beBytes 1 code), a.2 + 1)) (0, 0)).1

/-- R408: the one value of AUTH with every part present and genuine. -/
def genuineAuth : BitVec 256 := authFold [0, 1, 1, 2, 1, 1, 1, 1, 1]

/-- R410, R411: a key of class DEVICE under an AUTH chain, 32 bytes. -/
def deviceKey (root auth : BitVec 256) (unit : BitVec 128) (label : String) : BitVec 256 :=
  Config.shake256 (id32 root ++ beBytes 1 1 ++ id32 auth ++ beBytes 1 0 ++ id16 unit
    ++ asciiPad 16 0 (asciiBytes label) ++ List.replicate 16 0#8)

/-- R411: SK_SEED of the device key of this unit, which KEYGEN took under the genuine AUTH (R414). -/
def xmtSeed (root : BitVec 256) (c : Chip) : BitVec 256 := deviceKey root genuineAuth c.tru.unit "XMT-SKSEED"

/-- R414: the 5,605 bytes of a signature over a message with an index. -/
def xmtSign (root : BitVec 256) (c : Chip) (index : Nat) (m : List Byte) : List Byte :=
  beBytes 5605 (Config.xmssMtSign (xmtSeed root c) index m).toNat

/-! ### Entries (R220, R223) -/

/-- R220: the 72 bytes of an entry header. -/
def headerBytes (e : LegEntry) : List Byte :=
  beBytes 2 e.typ ++ beBytes 1 1 ++ beBytes 1 e.point ++ beBytes 8 e.seq ++ beBytes 6 e.stamp.cycle
    ++ beBytes 8 e.stamp.wall ++ beBytes 8 e.stamp.bill ++ beBytes 2 e.body.length ++ beBytes 2 e.origin
    ++ beBytes 2 (placeBit 0 e.holdup + placeBit 1 e.nohold) ++ id32 e.prevChain

/-- R223: the message of an entry. -/
def entryMessage (c : Chip) (e : LegEntry) : List Byte := id16 c.tru.unit ++ headerBytes e ++ e.body

/-- R223: CHAIN of an entry. -/
def entryChain (c : Chip) (e : LegEntry) : BitVec 256 := Config.shake256 (entryMessage c e)

/-- R219: the slot of a SEQ. -/
def legSlot (seq : Nat) : Nat := seq % 65536

/-- The entry of a SEQ, if its slot still holds it. -/
def legEntryOf (c : Chip) (seq : Nat) : Option LegEntry :=
  match tfind c.leg.log (legSlot seq) with
  | some e => if e.seq = seq ∧ e.whole = true then some e else none
  | none => none

/-- R220: bytes 0 to the CRC of a slot; SIG_INDEX and the CRC are big-endian as the header is (log 61). -/
def slotHead (e : LegEntry) : List Byte :=
  headerBytes e ++ e.body ++ beBytes 1 e.signed.toNat ++ List.replicate 7 0#8 ++ beBytes 8 e.sigIndex

/-- R212, R220: the 640 bytes of a slot of the log. -/
def legSlotImage (e : LegEntry) : List Byte :=
  asciiPad 640 0#8 (slotHead e ++ beBytes 4 (crc32 (slotHead e)).toNat)

/-- R220: the entry of a cause, with the next SEQ. -/
def newEntry (c : Chip) (k : LegCause) : LegEntry :=
  { seq := c.leg.nextSeq, typ := k.typ, point := k.point, stamp := k.stamp, body := k.body, origin := c.fab.addr,
    holdup := c.sup.mode == .holdUp, nohold := k.nohold, prevChain := c.leg.chain, signed := false, sigIndex := 0,
    whole := true }

/-- R221: power ends with an entry half written, and with causes that wait: they are lost. -/
def tearEntry (c : Chip) : Chip :=
  match c.leg.causes with
  | [] => c
  | k :: _ =>
    let c := if c.leg.running && !logHardFull c then
        { c with leg := { c.leg with log := tput c.leg.log (legSlot c.leg.nextSeq) { newEntry c k with whole := false } } }
      else c
    { c with leg := { c.leg with causes := [] } }

/-- R219, R220, R225, R226: writes one entry with the next SEQ and its chain value; reaching FULL and HARDFULL is
an event. -/
def putEntry (c : Chip) (k : LegCause) : Chip :=
  let e := newEntry c k
  let c := { c with leg := { c.leg with
    log := tput c.leg.log (legSlot e.seq) e, nextSeq := e.seq + 1, chain := entryChain c e } }
  let c := if unacked c = 61440 then raiseEvt c Reg.LEG_EVT 1 else c
  if unacked c = 65536 then raiseEvt c Reg.LEG_EVT 2 else c

/-- R226: an entry lost while HARDFULL. -/
def loseEntry (c : Chip) (k : LegCause) : Chip :=
  let g := match c.leg.gap with
    | some (n, first, _) => (n + 1, first, k.stamp.cycle)
    | none => (1, k.stamp.cycle, k.stamp.cycle)
  { c with leg := { c.leg with lost := (c.leg.lost + 1) % 2 ^ 32, gap := some g } }

/-- R222, R226: the GAP entry of a hard-full span. -/
def gapCause (c : Chip) (g : Nat × Nat × Nat) : LegCause :=
  { typ := tyGap, point := 0xFF, stamp := stampNow c,
    body := beBytes 4 g.1 ++ beBytes 6 g.2.1 ++ beBytes 6 g.2.2, nohold := noHold c, ctx := none }

/-- R219, R226: the next write: the oldest cause, after the GAP entry of a span that has ended. -/
def writeEntry (c : Chip) : Chip :=
  match c.leg.causes with
  | [] => c
  | k :: rest =>
    if !c.leg.running then c
    else if logHardFull c then loseEntry { c with leg := { c.leg with causes := rest } } k
    else match c.leg.gap with
      | some g => putEntry { c with leg := { c.leg with gap := none } } (gapCause c g)
      | none =>
        let seq := c.leg.nextSeq
        let c := putEntry { c with leg := { c.leg with causes := rest } } k
        match k.ctx with
        | some x => bodyLogged c x seq
        | none => c

/-- LEG_ENTRY_WRITE (R219). -/
def execLegEntryWrite (s : State) : Host.Outcome State Fault Refusal := onChip s writeEntry

/-! ### Signing (R227, R228, R418 to R420) -/

/-- R228: entries PENDING whose signature has not been asked for, oldest first. -/
def unsignedSeqs (c : Chip) : List Nat :=
  let asked := fun (n : Nat) => c.tru.signQueue.contains (.legal n)
    || (match c.tru.signNow with | some (j, _) => j == .legal n | none => false)
  let pending := (List.range (c.leg.nextSeq - 1 - c.leg.signedSeq)).map (fun i => c.leg.signedSeq + 1 + i)
  pending.filter (fun n => (legEntryOf c n).isSome && !asked n)

/-- R228: a signature may be asked for: the trust region is up, and in Hold-up the budget is 120 mJ. -/
def signAllowed (c : Chip) : Bool :=
  c.leg.running && ready c .tru && (c.sup.mode != .holdUp || decide (12000 ≤ c.pwd.budget))

/-- LEG_SIGN_START (R228): the oldest PENDING entry is handed to the sign pipeline. -/
def execLegSignStart (s : State) : Host.Outcome State Fault Refusal :=
  onChip s fun c =>
    match unsignedSeqs c with
    | n :: _ =>
      if signAllowed c then { c with tru := { c.tru with signQueue := c.tru.signQueue ++ [.legal n] } } else c
    | [] => c

/-! ### Signed meter records and exports (R229, R230, R362) -/

/-- R230: the record of an entry under an index. -/
def recordBytes (root : BitVec 256) (c : Chip) (e : LegEntry) (index : Nat) (resigned : Bool) : List Byte :=
  let m := entryMessage c e
  beBytes 4 0x51584C52 ++ beBytes 2 (5741 + e.body.length) ++ beBytes 1 1 ++ beBytes 1 (placeBit 0 resigned)
    ++ id16 c.tru.unit ++ headerBytes e ++ e.body ++ id32 (Config.shake256 m) ++ beBytes 8 index
    ++ xmtSign root c index m

/-- What an export finds at a SEQ: a record, an entry that must be signed again, or its end. -/
inductive ExportStep where
  | record (bytes : List Byte)
  | resign
  | stop
  deriving DecidableEq, Repr

/-- R229, R362: the next step of an export with `room` bytes left. -/
def exportAt (root : BitVec 256) (c : Chip) (job : ExportJob) (seq room : Nat) : ExportStep :=
  match legEntryOf c seq with
  | none => .stop
  | some e =>
    if !e.signed || decide (room < 5741 + e.body.length) then .stop
    else match c.leg.sigRing.find? (fun r => r.1 == seq) with
      | some r => .record (recordBytes root c e r.2 false)
      | none => match tfind job.resigned seq with
        | some i => .record (recordBytes root c e i true)
        | none => .resign

/-- R362: the records an export can write, and the SEQ that must be signed again first. -/
def exportRun (root : BitVec 256) (c : Chip) (job : ExportJob) : Nat → Nat → Nat → List (List Byte) →
    List (List Byte) × Option Nat
  | 0, _, _, acc => (acc.reverse, none)
  | n + 1, seq, room, acc =>
    match exportAt root c job seq room with
    | .record bs => exportRun root c job n (seq + 1) (room - bs.length) (bs :: acc)
    | .resign => (acc.reverse, some seq)
    | .stop => (acc.reverse, none)

/-- R362: one export goes on: it completes, or waits for a signature. -/
def advanceExport (root : BitVec 256) (c : Chip) (job : ExportJob) : Chip :=
  match exportRun root c job (job.length / 5741 + 1) job.first job.length [] with
  | (_, some seq) =>
    let c := { c with leg := { c.leg with exports := c.leg.exports ++ [job] } }
    if c.tru.signQueue.contains (.resign seq) then c
    else { c with tru := { c.tru with signQueue := c.tru.signQueue ++ [.resign seq] } }
  | (recs, none) =>
    let bytes := recs.flatten
    let last := job.first + recs.length - 1
    complete (deliver c job.req bytes) job.req
      { ansOk with aux := sat 255 recs.length, aux32 := bytes.length,
                   result := if recs.isEmpty then [] else leBytes 8 job.first ++ leBytes 8 last }

/-- R229: every waiting export goes on after a signature. -/
def advanceExports (root : BitVec 256) (c : Chip) : Chip :=
  let jobs := c.leg.exports
  jobs.foldl (advanceExport root) { c with leg := { c.leg with exports := [] } }

/-- LEG_EXPORT (R362, R229). -/
def execLegExport (req : Requester) (first length : Nat) (xfer : Bool) (s : State) :
    Host.Outcome State Fault Refusal :=
  onChip s fun c => perform c req 0x0306 .legalLog (fun c =>
    if !xfer then complete c req (ansReject .buffer)
    else if c.leg.signedSeq < first then complete c req ansOk
    else match legEntryOf c first with
      | none => complete c req (ansReject .gone)
      | some _ =>
        advanceExport s.fuses.root c { req := req, first := first, length := length, resigned := [] })

/-- R224, R225: an acknowledgement; FULL and HARDFULL follow the count. -/
def ackLog (c : Chip) (seq : Nat) : Chip :=
  let c := { c with leg := { c.leg with ack := seq } }
  (ctxsIn c .awaiting).foldl (fun c e => tryFree c e.1) c

/-- LEG_ACK (R224). -/
def execLegAck (req : Requester) (seq : Nat) (s : State) : Host.Outcome State Fault Refusal :=
  onChip s fun c => perform c req 0x0307 .legalLog (fun c =>
    if c.leg.signedSeq < seq then complete c req (ansReject .rule)
    else if seq ≤ c.leg.ack then complete c req ansOk
    else complete (ackLog c seq) req ansOk)

/-- LEG_EVT_READ (R235, R10): the read returns and clears. -/
def execLegEvtRead (s : State) : Host.Outcome State Fault Refusal :=
  onChip s fun c => readActs c Reg.LEG_EVT fun c => (regPut c Reg.LEG_EVT 0, regGet c Reg.LEG_EVT)

/-! ### Attestation (R417) -/

/-- R407: the 40 bytes of a stage. -/
def stageBytes (k : Nat) (m : StageMeas) : List Byte :=
  beBytes 1 k ++ beBytes 1 m.code ++ beBytes 1 m.slot ++ beBytes 1 0 ++ beBytes 4 m.version.toNat ++ id32 m.digest

/-- A stage not yet measured. -/
def StageMeas.init : StageMeas := { code := 0xFF, slot := 0xFF, version := 0, digest := 0 }

/-- R417: bytes 0 to 491 of an attestation record. -/
def attestBody (c : Chip) (nonce : BitVec 256) : List Byte :=
  beBytes 4 0x51584154 ++ beBytes 1 1 ++ beBytes 1 1 ++ beBytes 2 6105 ++ id16 c.tru.unit ++ id32 nonce
    ++ beBytes 8 (time16 c.tb.wall) ++ beBytes 1 c.sup.lcs.code
    ++ beBytes 1 (placeBit 0 c.tru.debugOpen + placeBit 1 c.tb.valid) ++ beBytes 2 0 ++ id32 c.tru.meas
    ++ id32 c.tru.authChain
    ++ (List.range 9).flatMap (fun k => stageBytes k (c.tru.stages.getD k StageMeas.init))

/-- R417: the 6,105 bytes of an attestation record. -/
def attestBytes (root : BitVec 256) (c : Chip) (nonce : BitVec 256) (index : Nat) : List Byte :=
  let m := attestBody c nonce
  m ++ beBytes 8 index ++ xmtSign root c index m

/-! ### A signature is made (R227, R229, R419) -/

/-- R227: a signature of entry seq is stored in the ring and the entry marked. -/
def legalSigned (c : Chip) (seq index : Nat) : Chip :=
  match legEntryOf c seq with
  | none => c
  | some e =>
    { c with leg := { c.leg with
        log := tput c.leg.log (legSlot seq) { e with signed := true, sigIndex := index },
        sigRing := ((seq, index) :: c.leg.sigRing).take 512, signedSeq := max c.leg.signedSeq seq } }

/-- R229: the fresh index of an entry signed again, for every export that waits for it. -/
def resignedFor (c : Chip) (seq index : Nat) : Chip :=
  raiseEvt { c with leg := { c.leg with exports := c.leg.exports.map (fun j =>
    { j with resigned := tput j.resigned seq index }) } } Reg.LEG_EVT 5

/-- R227, R417, R419: the signature in progress is done. -/
def signDone (root : BitVec 256) (c : Chip) : Chip :=
  match c.tru.signNow with
  | none => c
  | some (job, i) =>
    let n := c.tru.sigsMade + 1
    let c := { c with tru := { c.tru with
      signNow := none, xmt := if c.tru.xmt = .signing then .ready else c.tru.xmt, sigsMade := n,
      checkpoints := if n % 1024 = 0 then c.tru.checkpoints + 1 else c.tru.checkpoints } }
    match job with
    | .legal seq => legalSigned c seq i
    | .resign seq => advanceExports root (resignedFor c seq i)
    | .attest req nonce => complete (deliver c req (attestBytes root c nonce i)) req { ansOk with aux32 := 6105 }

/-- SIGNATURE_DONE (R227). -/
def execSignatureDone (s : State) : Host.Outcome State Fault Refusal := onChip s (signDone s.fuses.root)

/-! ### The seal (R216 to R218) -/

/-- R222: the SEAL entry. -/
def sealEntry (c : Chip) : Chip :=
  legalEntry c tySeal 0xFF (beBytes 1 c.leg.sealOpen.toNat ++ beBytes 1 0 ++ beBytes 2 c.leg.sealCnt) none

/-- R216: the seal opens, as the running legal core sees it. -/
def sealOpens (c : Chip) : Chip :=
  if c.leg.sealOpen || !c.leg.running then c
  else raiseEvt (sealEntry { c with leg := { c.leg with sealOpen := true, sealCnt := sat 65535 (c.leg.sealCnt + 1) } })
    Reg.LEG_EVT 0

/-- R216, R218: the seal closes: the IDs of recalibrated lanes are recorded and the marks of their points cleared. -/
def sealCloses (c : Chip) : Chip :=
  if c.leg.sealOpen && c.leg.running then
    let lanes := c.leg.recalLanes
    let ids := lanes.foldl (fun t n => tput t n (laneOf c n).id1) c.leg.calIds
    let marks := lanes.foldl (fun v n => match pointOfLane c n with
      | some m => setBitV v m false
      | none => v) c.leg.uncal
    sealEntry { c with leg := { c.leg with sealOpen := false, calIds := ids, uncal := marks, recalLanes := [] } }
  else c

/-- SEAL_OPENED (R216). -/
def execSealOpened (s : State) : Host.Outcome State Fault Refusal := onChip s sealOpens

/-- SEAL_CLOSED (R216). -/
def execSealClosed (s : State) : Host.Outcome State Fault Refusal := onChip s sealCloses

/-! ### The legal display buffer (R231, R232) -/

/-- Decimal digits of a number. -/
def decimal (n : Nat) : List Byte := asciiBytes (toString n)

/-- n hexadecimal digits of a number. -/
def hexDigits : Nat → Nat → List Byte
  | 0, _ => []
  | n + 1, v =>
    let d := v / 16 ^ n % 16
    BitVec.ofNat 8 (if d < 10 then 48 + d else 55 + d) :: hexDigits n v

/-- A line of 32 characters. -/
def legLine (bs : List Byte) : List Byte := asciiPad 32 0x20#8 bs

/-- R231: the Identification block. -/
def identLines (c : Chip) : List Byte :=
  let (v, d) := c.leg.loaded.getD (0, 0)
  let id := d.toNat / 2 ^ 224
  legLine (asciiBytes "QX-880 LEGAL " ++ decimal (fieldOf v 31 24) ++ asciiBytes "." ++ decimal (fieldOf v 23 16)
      ++ asciiBytes "." ++ decimal (fieldOf v 15 0))
    ++ legLine (asciiBytes "ID " ++ hexDigits 4 (id / 65536) ++ asciiBytes " " ++ hexDigits 4 (id % 65536))

/-- R231: the Seal block. -/
def sealLine (c : Chip) : List Byte :=
  legLine (asciiBytes (if c.leg.sealOpen then "SEAL OPEN " else "SEAL CLOSED ") ++ decimal c.leg.sealCnt)

/-- Whole part and n decimals of a number of 10^-n units. -/
def decimals (n v : Nat) : List Byte :=
  if n = 0 then decimal v
  else decimal (v / 10 ^ n) ++ asciiBytes "." ++ (asciiPad n 0x30#8 []).take (n - (decimal (v % 10 ^ n)).length)
    ++ decimal (v % 10 ^ n)

/-- R231: an energy in kWh to three decimals, from the Wh of a reading rounded down. -/
def kwhText (acc : Nat) : List Byte := decimals 3 (reading acc / 2 ^ 32 / 1000) ++ asciiBytes " kWh"

/-- R231: what point m is bound to. -/
def bindText (c : Chip) (m : Nat) : List Byte :=
  if mpBind c m < 8 then asciiBytes "O" ++ decimal (mpBind c m) else asciiBytes "SUPPLY"

/-- R231: the marks that apply to point m. -/
def markTexts (c : Chip) (m : Nat) : List (List Byte) :=
  (if uncalibrated c m then [asciiBytes "NOT CALIBRATED"] else [])
    ++ (if pointState c m = 4 then [asciiBytes "FAILED"] else [])
    ++ (if (tfind c.leg.unmeasured m).isSome then [asciiBytes "UNMEASURED"] else [])

/-- The LIVE context credited on point m. -/
def pointCtx (c : Chip) (m : Nat) : Option (Nat × Context) :=
  c.sess.ctxs.find? (fun e => e.2.bstate == .live && e.2.point == m)

/-- R231: the texts of an enabled point: its outlet, its import, the energy of the LIVE or last settled session, the TOTAL
of the last settled one with its currency code, its SESSION_ID, and its marks. -/
def pointTexts (c : Chip) (m : Nat) : List (List Byte) :=
  let last := tfind c.leg.panel m
  let sid := fun (v : BitVec 128) => hexDigits 8 (v.toNat / 2 ^ 96)
  [bindText c m, kwhText (pointAcc c m 24)]
    ++ (match pointCtx c m, last with
        | some (x, k), _ => [kwhText (ctxAcc c x 24), sid k.sessionId]
        | none, some p => [kwhText p.energy, sid p.sid]
        | none, none => [])
    ++ (match last with
        | some p => [(if p.total < 0 then asciiBytes "-" else []) ++ decimals p.exponent p.total.natAbs, decimal p.currency]
        | none => [])
    ++ markTexts c m

/-- R231: the two lines of a point: spaces unless it is enabled; where its texts stand within 64 ASCII characters is stated
nowhere (log 17). -/
def pointLines (c : Chip) (m : Nat) : List Byte :=
  if pointEnabled c m then (asciiPad 64 0x20#8 (Config.placeTexts (pointTexts c m))).map (fun b => b &&& 0x7F#8)
  else List.replicate 64 0x20#8

/-- R231: the 640 bytes of the content buffer. -/
def legalDisplay (c : Chip) : List Byte :=
  identLines c ++ sealLine c ++ (List.range 8).flatMap (pointLines c) ++ legLine []

/-- R232: the buffer is rebuilt and waits for its panel update (R341). -/
def rebuildDisplay (c : Chip) : Chip :=
  if c.leg.running then
    let bs := legalDisplay c
    let c := if c.bp.waiting && c.bp.state != .idle then raiseEvt c Reg.DSP_BP_EVT 3 else c
    takeFree { c with leg := { c.leg with display := bs, displayCrc := crc32 bs }, bp := { c.bp with waiting := true } }
  else c

/-- LEG_DISPLAY_REBUILD (R232). -/
def execLegDisplayRebuild (s : State) : Host.Outcome State Fault Refusal := onChip s rebuildDisplay

/-! ### The factory load of the legal firmware (R214, R429) -/

/-- R442: a public key matches an image-key slot that is not revoked: its slot. -/
def imageSlot (f : Fuses) (key : List Byte) : Option Nat :=
  let d := Config.shake256 key
  if f.img0 == some d && !f.revoke.getLsbD 0 then some 0
  else if f.img1 == some d && !f.revoke.getLsbD 1 then some 1
  else none

/-- R429: the status of a LEGAL_LOAD of the given bytes. -/
def legalLoadStatus (f : Fuses) (c : Chip) (data : List Byte) (sigOk : Bool) : Nat :=
  let n := beNat (data.take 4)
  let lenOk := decide (1 ≤ n ∧ n ≤ 524288) && data.length == 4 + n + 68 + 2820
  if c.sup.lcs ≠ .factory then 1
  else if !lenOk then 3
  else if (imageSlot f ((data.drop (4 + n)).take 68)).isNone then 2
  else if sigOk then 0 else 3

/-- R214, R429: a shift of LEGAL_LOAD: the status of the last load is shifted out; data that passes the bootstrap's
checks replaces the image in the legal firmware area, to run from the next start. -/
def legalLoad (f : Fuses) (c : Chip) (data : List Byte) (version : Word) (sigOk : Bool) : Chip :=
  let c := emit c (.jtag (beBytes 4 c.leg.loadStatus))
  if data.isEmpty then c
  else
    let st := legalLoadStatus f c data sigOk
    let c := { c with leg := { c.leg with loadStatus := st } }
    if st = 0 then
      let n := beNat (data.take 4)
      let fw : LegalImage := { version := version, image := (data.drop 4).take n, key := (data.drop (4 + n)).take 68 }
      { c with leg := { c.leg with firmware := some fw } }
    else c

/-- LEGAL_LOAD (R214, R429). -/
def execLegalLoad (data : List Byte) (version : Word) (sigOk : Bool) (s : State) :
    Host.Outcome State Fault Refusal :=
  onChip s fun c => legalLoad s.fuses c data version sigOk

end Sys2Proof.Machine
end

