-- ==== Sys2Proof/Machine/Trust.lean ====
section
/-! DEFINITION. The trust region (R402 to R432): derivations, the entropy source, the device key and its state
copies, attestation, TLS contexts, site keys, debug, and lifecycle changes; and their commands. -/

namespace Sys2Proof.Machine

/-! ### Inkwell (R402 to R406, R412) -/

/-- R412: a derivation is refused while debug is open, but for a SEALED one in the Factory state. -/
def deriveRefused (c : Chip) (isSealed : Bool) : Bool := c.tru.debugOpen && !(isSealed && c.sup.lcs == .factory)

/-- R412: the refusal's event. -/
def refuseDerive (c : Chip) : Chip := raiseEvt c Reg.TRU_EVT 1

/-- R402, R405, R412: a derivation, which took `accesses` accesses of the register. Every class is served in the
same way; the order of R403 settles only which of several waiting is first. -/
def derive (c : Chip) (isSealed : Bool) (accesses : Nat) : Chip :=
  if deriveRefused c isSealed then emit (refuseDerive c) (.derived false)
  else emit { c with tru := { c.tru with accesses := c.tru.accesses + accesses } } (.derived true)

/-- DERIVE_REQUEST (R402, R412). -/
def execDeriveRequest (cls : DeriveClass) (isSealed : Bool) (accesses : Nat) (s : State) :
    Host.Outcome State Fault Refusal :=
  onChip s fun c =>
    match cls with
    | .device => derive c isSealed accesses
    | .siteKey => derive c isSealed accesses
    | .tls => derive c isSealed accesses
    | .wrap => derive c isSealed accesses

/-- REMASK (R405): due after 2^16 accesses. -/
def execRemask (s : State) : Host.Outcome State Fault Refusal :=
  onChip s fun c =>
    if 65536 ≤ c.tru.accesses then
      { c with tru := { c.tru with accesses := c.tru.accesses - 65536, remasks := (c.tru.remasks + 1) % 65536 } }
    else c

/-- R406: an output of the entropy source and its health tests. -/
def entropyOutput (c : Chip) (rctOk aptOk starting : Bool) : Chip :=
  if rctOk && aptOk then
    clearSrc { c with tru := { c.tru with healthOk := true, entStarts := if starting then 0 else c.tru.entStarts } } 123
  else
    let t := c.tru
    let c := { c with tru := { t with
      healthOk := false, rctFail := t.rctFail || !rctOk, aptFail := t.aptFail || !aptOk,
      entFails := sat 65535 (t.entFails + 1), entStarts := if starting then t.entStarts + 1 else t.entStarts } }
    reportSrc (raiseEvt c Reg.TRU_EVT 0) 123 0

/-- ENTROPY_OUTPUT (R406). -/
def execEntropyOutput (rctOk aptOk : Bool) (starting : Bool) (s : State) : Host.Outcome State Fault Refusal :=
  onChip s fun c => entropyOutput c rctOk aptOk starting

/-! ### The device key (R414 to R422) -/

/-- R419: bytes 0 to 59 of a state copy. -/
def copyBody (k : XmtCopy) : List Byte :=
  leBytes 4 0x584D5354 ++ leBytes 8 k.rseq ++ leBytes 5 k.next ++ List.replicate 43 0#8

/-- R419: a state copy. -/
def copyImage (k : XmtCopy) : List Byte := copyBody k ++ leBytes 4 (crc32 (copyBody k)).toNat

/-- R420: what a state copy says, where its MAGIC and CRC are correct. -/
def readCopy (bs : List Byte) : Option XmtCopy :=
  if bs.length == 64 && leNat (bs.take 4) == 0x584D5354 && leNat (bs.drop 60) == (crc32 (bs.take 60)).toNat then
    some { rseq := leNat ((bs.drop 4).take 8), next := leNat ((bs.drop 12).take 5) }
  else none

/-- R420: the valid state copy with the higher RSEQ; true when it is copy A. -/
def currentCopy (t : Tru) : Option (Bool × XmtCopy) :=
  match readCopy t.copyA, readCopy t.copyB with
  | some a, some b => if b.rseq ≤ a.rseq then some (true, a) else some (false, b)
  | some a, none => some (true, a)
  | none, some b => some (false, b)
  | none, none => none

/-- R420: NEXT, the next unused index. -/
def nextIndex (c : Chip) : Nat := match currentCopy c.tru with | some (_, k) => k.next | none => 0

/-- R420: a reservation record written over the other copy; a readback that differs leaves a copy that is not
valid (DEDUCED, log 18). -/
def putCopy (c : Chip) (curIsA ok : Bool) (rec' : XmtCopy) : Chip :=
  let k := if ok then copyImage rec' else []
  if curIsA then { c with tru := { c.tru with copyB := k } } else { c with tru := { c.tru with copyA := k } }

/-- R420: a signing job is refused with REJECTED; a legal entry stays PENDING. -/
def refuseSign (c : Chip) (j : SignJob) : Chip :=
  match j with
  | .attest req _ => complete c req (ansReject .rule)
  | .legal _ => c
  | .resign seq =>
    let waits := c.leg.exports.filter (fun e => (tfind e.resigned seq).isNone)
    let c := { c with leg := { c.leg with exports := c.leg.exports.filter (fun e => (tfind e.resigned seq).isSome) } }
    waits.foldl (fun c e => complete c e.req (ansReject .rule)) c

/-- R420: the first waiting job takes an index, reserved durably before anything is computed. A record whose NEXT or RSEQ
its field cannot hold does not read back as written (log 18). -/
def reserveIndex (c : Chip) (j : SignJob) (readback : Bool) : Chip :=
  match currentCopy c.tru with
  | none => refuseSign c j
  | some (isA, cur) =>
    let i := cur.next
    if 2 ^ 40 ≤ i then refuseSign c j
    else
      let rec' : XmtCopy := { rseq := cur.rseq + 1, next := i + 1 }
      let same := readback && readCopy (copyImage rec') == some rec'
      let c := putCopy c isA same rec'
      if same then
        let c := { c with tru := { c.tru with signNow := some (j, i), xmt := .signing } }
        if 2 ^ 40 - i = 2 ^ 20 then raiseEvt c Reg.TRU_EVT 3 else c
      else refuseSign (reportSrc (raiseEvt c Reg.TRU_EVT 2) 122 0) j

/-- XMSS_SIGN (R420, R38): the sign pipeline takes the next job; `readback` says that the reservation read back as
written. -/
def execXmssSign (readback : Bool) (s : State) : Host.Outcome State Fault Refusal :=
  onChip s fun c =>
    match c.tru.signQueue with
    | [] => c
    | j :: rest =>
      let power := match j with
        | .legal _ => c.sup.mode != .holdUp || decide (12000 ≤ c.pwd.budget)
        | _ => true
      if power = true ∧ c.tru.xmt = .ready ∧ c.tru.signNow = none ∧ ready c .tru = true ∧ memberLocked c 3 = false then
        reserveIndex { c with tru := { c.tru with signQueue := rest } } j readback
      else c

/-- R416: a device certificate of this unit and its device key, as its bytes state. -/
def certFits (c : Chip) (bs : List Byte) : Bool :=
  bs.length == 2920 && beNat (bs.take 4) == 0x51584443 && beNat ((bs.drop 4).take 2) == 0x0102
    && (bs.drop 8).take 16 == id16 c.tru.unit && (bs.drop 98).take 2 == [0#8, 0#8]
    && (match c.tru.keyRecord with | some k => (bs.drop 24).take 68 == k.pub | none => false)

/-- XMSS_VERIFY (R418): a device certificate that verifies and fits is kept (R416); every other verification
answers the operation that asked for it, which carries its outcome. -/
def execXmssVerify (ok : Bool) (who : VerifyFor) (s : State) : Host.Outcome State Fault Refusal :=
  onChip s fun c =>
    match who with
    | .certificate bs => if ok && certFits c bs then { c with tru := { c.tru with cert := some bs } } else c
    | .image => c
    | .manifest => c
    | .lifecycle => c
    | .debug => c

/-- R407: some stage is measured as absent. -/
def stageAbsent (t : Tru) : Bool := t.stages.any (fun m => m.code == 0xFF) || t.stages.length != 9

/-- KEYGEN (R414). -/
def execKeygen (s : State) : Host.Outcome State Fault Refusal :=
  onChip s fun c =>
    if c.sup.lcs ≠ .factory ∨ c.tru.keyRecord.isSome = true ∨ stageAbsent c.tru = true ∨ ready c .tru = false then c
    else if deriveRefused c false then refuseDerive c
    else { c with tru := { c.tru with xmt := .keygen, keygenProg := 0 } }

/-- R415: the key check of an SK_SEED. -/
def keyCheck (seed : BitVec 256) : List Byte := (id32 (Config.shake256 (id32 seed ++ asciiBytes "CHK"))).take 16

/-- R415: the key record: OID of XMSSMT-SHAKE_40/2_256 (RFC 8391: 0x13), root, PUB_SEED, and the key check. -/
def makeKeyRecord (root : BitVec 256) (c : Chip) : KeyRecord :=
  let seed := deviceKey root c.tru.authChain c.tru.unit "XMT-SKSEED"
  { pub := beBytes 4 0x13 ++ id32 (Config.xmssMtRoot seed)
      ++ id32 (deviceKey root c.tru.authChain c.tru.unit "XMT-PUBSEED"),
    check := keyCheck seed }

/-- KEYGEN_DONE (R414, R415, R419): the key record and the initial state are written (the initial RSEQ and which
copy holds it: log 18). -/
def execKeygenDone (s : State) : Host.Outcome State Fault Refusal :=
  onChip s fun c =>
    if c.tru.xmt = .keygen then
      takeFree { c with tru := { c.tru with
        xmt := .ready, keyRecord := some (makeKeyRecord s.fuses.root c), keygenProg := freeBelow c 7600 65536,
        copyA := copyImage { rseq := 0, next := 0 }, copyB := [] } }
    else c

/-- ATTEST (R362, R417, R418): waits behind the legal entries that need a signature. -/
def execAttest (req : Requester) (nonce : BitVec 256) (xfer : Bool) (s : State) : Host.Outcome State Fault Refusal :=
  onChip s fun c => perform c req 0x0901 .crypto (fun c =>
    if !xfer then complete c req (ansReject .buffer)
    else if c.tru.xmt = .ready ∨ c.tru.xmt = .signing ∨ c.tru.xmt = .unbound then
      let legal := if signAllowed c then (unsignedSeqs c).map SignJob.legal else []
      { c with tru := { c.tru with signQueue := c.tru.signQueue ++ legal ++ [.attest req nonce] } }
    else complete c req (ansReject .rule))

/-! ### Debug (R429, R430) -/

/-- DBG_CHAL (R429): UNIT and a nonce in the Factory state, zeroes elsewhere; a locked challenge gives no new
nonce (log 18). -/
def execDbgChal (s : State) : Host.Outcome State Fault Refusal :=
  onChip s fun c =>
    if c.sup.lcs = .factory then
      let n := if c.tru.locked then c.tru.challenge else some (drawn c)
      emit (takeFree { c with tru := { c.tru with challenge := n } }) (.jtag (id16 c.tru.unit ++ id32 (n.getD 0)))
    else emit c (.jtag (List.replicate 48 0#8))

/-- R430: debug is opened with a scope. -/
def openDebug (c : Chip) (scope : Nat) : Chip :=
  let t := c.tru
  let waiting := t.signQueue ++ (match t.signNow with | some (j, _) => [j] | none => [])
  let c := { c with tru := { t with
    meas := Config.shake256 (id32 t.meas ++ beBytes 1 0xFF ++ beBytes 4 0 ++ List.replicate 32 0#8),
    authChain := Config.shake256 (id32 t.authChain ++ beBytes 1 0xFF ++ beBytes 1 0xFE),
    debugOpen := true, scope := scope, tls := [], siteLoaded := false, sendKey := none, signQueue := [],
    signNow := none, signOff := true, xmt := .disabled } }
  raiseEvt (waiting.foldl refuseSign c) Reg.TRU_EVT 4

/-- R5, R429: a debug response fits the challenge that has been issued. -/
def dbgFits (c : Chip) (r : List Byte) : Bool :=
  r.length == 2876 && beNat (r.take 4) == 0x51584442 && beNat ((r.drop 4).take 1) == 1
    && decide (beNat ((r.drop 5).take 1) < 32) && beNat ((r.drop 6).take 2) == 0
    && (r.drop 8).take 16 == id16 c.tru.unit && c.tru.challenge.map id32 == some ((r.drop 24).take 32)

/-- DBG_RESP (R429, R430). -/
def execDbgResp (response : List Byte) (sigOk : Bool) (s : State) : Host.Outcome State Fault Refusal :=
  onChip s fun c =>
    if c.sup.lcs ≠ .factory ∨ c.tru.locked = true then c
    else if dbgFits c response && sigOk then openDebug c (beNat ((response.drop 5).take 1))
    else { c with tru := { c.tru with fails := c.tru.fails + 1, locked := decide (3 ≤ c.tru.fails + 1) } }

/-! ### TLS and site keys (R404, R423 to R425) -/

/-- R432: AES contexts in use: two for each TLS session, and one for each site key loaded. -/
def aesUsed (c : Chip) : Nat := 2 * c.tru.tls.length + (if c.tru.siteLoaded then c.tru.siteKeys.length else 0)

/-- R424: what a handshake with a backend offers. -/
def tlsOffer (c : Chip) (peer : Nat) : Nat := if peer = 0 then cfg c Reg.TRU_TLS_POLICY 4 0 else 0

/-- R404, R412, R423: a handshake message: a new one needs a free pair of contexts. -/
def tlsMessage (c : Chip) (session peer : Nat) (ev : TlsEvent) : Chip :=
  let others := c.tru.tls.filter (fun x => x.id != session)
  match ev with
  | .hello =>
    if deriveRefused c false then emit (refuseDerive c) (.tls session false 0)
    else if 15 ≤ others.length ∨ ready c .tru = false then emit c (.tls session false 0)
    else
      let x : TlsSession :=
        { id := session, established := false, peer := peer, policy := liveGet c Reg.TRU_TLS_POLICY }
      emit { c with tru := { c.tru with tls := others ++ [x] } } (.tls session true (tlsOffer c peer))
  | .finished ok =>
    if ok then
      emit { c with tru := { c.tru with tls := c.tru.tls.map (fun x =>
        if x.id = session then { x with established := true } else x) } } (.tls session true 0)
    else emit { c with tru := { c.tru with tls := others } } (.tls session false 0)
  | .close => { c with tru := { c.tru with tls := others } }

/-- TLS_HANDSHAKE_MESSAGE (R423). -/
def execTlsHandshakeMessage (session peer : Nat) (ev : TlsEvent) (s : State) : Host.Outcome State Fault Refusal :=
  onChip s fun c => tlsMessage c session peer ev

/-- R410: what a key of class IDENTITY is derived from. -/
def identityInput (root : BitVec 256) (c : Chip) (label : String) (ctx : List Byte) : List Byte :=
  id32 root ++ beBytes 1 2 ++ id32 c.tru.authChain ++ beBytes 1 c.sup.lcs.code ++ id16 c.tru.unit
    ++ asciiPad 16 0 (asciiBytes label) ++ (ctx ++ List.replicate 16 0#8).take 16

/-- R424: the curve of a key: the station key's is in TRU_TLS_POLICY; a SECC key is on P-256. -/
def onP384 (c : Chip) (peer : Nat) : Bool := peer == 0 && cfgBit c Reg.TRU_TLS_POLICY 4

/-- R411: the order of the curve's group (FIPS 186, log 18). -/
def groupOrder (p384 : Bool) : Nat :=
  if p384 then 0xFFFFFFFFFFFFFFFFFFFFFFFFFFFFFFFFFFFFFFFFFFFFFFFFC7634D81F4372DDF581A0DB248B0A77AECEC196ACCC52973
  else 0xFFFFFFFF00000000FFFFFFFFFFFFFFFFBCE6FAADA7179E84F3B9CAC2FC632551

/-- R411: the private scalar of the station key (peer 0) or the SECC key of outlet peer − 1, of generation g. -/
def tlsScalar (root : BitVec 256) (c : Chip) (peer g : Nat) : Nat :=
  let p := onP384 c peer
  let n := if p then 64 else 48
  let k := if peer = 0 then Config.shakeLong n (identityInput root c "TLS-STATION" (beBytes 4 g ++ beBytes 1 p.toNat))
    else Config.shakeLong n (identityInput root c "TLS-SECC" (beBytes 1 (peer - 1) ++ beBytes 4 g ++ beBytes 1 p.toNat))
  k % (groupOrder p - 1) + 1

/-- CSR_SIGN (R411, R423, R424): the ECC engine signs a request with the station key (peer 0) or the SECC key of outlet
peer − 1, whose generation a renewal increases first. -/
def execCsrSign (req : Requester) (peer : Nat) (newGeneration : Bool) (request : List Byte) (s : State) :
    Host.Outcome State Fault Refusal :=
  onChip s fun c =>
    if ready c .tru = false then complete c req (ansStatus .notReady)
    else if deriveRefused c false then complete (refuseDerive c) req (ansReject .rule)
    else
      let g := tget 0 c.tru.generation peer + (if newGeneration then 1 else 0)
      let c := { c with tru := { c.tru with generation := if newGeneration then tput c.tru.generation peer g
                                                          else c.tru.generation } }
      let sig := Config.ecdsaSign (onP384 c peer) (tlsScalar s.fuses.root c peer g) request (drawn c)
      complete (takeFree (emit c (.csr peer g sig))) req ansOk

/-- R410, R411: WRAP-CONFIG, of class IDENTITY. -/
def wrapConfigKey (root : BitVec 256) (c : Chip) : BitVec 256 :=
  Config.shake256 (identityInput root c "WRAP-CONFIG" [])

/-- R425: at most two site keys: a third takes the place of the one that is not the sending key (log 18). -/
def keepKeys (send : Option Word) (l : List SiteKey) (k : SiteKey) : List SiteKey :=
  let l := l.filter (fun x => x.keyId != k.keyId)
  if l.length < 2 then l ++ [k] else (l.filter (fun x => send == some x.keyId)).take 1 ++ [k]

/-- SITE_KEY_DELIVERY (R425): `authentic` says that it decapsulates and unwraps. -/
def execSiteKeyDelivery (keyId : Word) (activation : Nat) (key : BitVec 256) (authentic : Bool) (s : State) :
    Host.Outcome State Fault Refusal :=
  onChip s fun c =>
    if ready c .tru = false ∨ authentic = false then c
    else if deriveRefused c false then refuseDerive c
    else
      let k : SiteKey :=
        { keyId := keyId, activation := activation,
          wrapped := beBytes 48 (Config.aesWrap (wrapConfigKey s.fuses.root c) key).toNat }
      let c := { c with tru := { c.tru with siteKeys := keepKeys c.tru.sendKey c.tru.siteKeys k, siteLoaded := true } }
      { c with tru := { c.tru with sendKey := currentKey c } }

/-- SITE_KEY_ACTIVATE (R425): the clocks reach an instant, `since` angle 0, at which the key's activation is the latest that
has passed; for 10 s the previous key is accepted too. -/
def execSiteKeyActivate (keyId : Word) (since : Nat) (s : State) : Host.Outcome State Fault Refusal :=
  onChip s fun c =>
    let c := runTo c since
    if c.tru.siteLoaded && currentKey c == some keyId && c.tru.sendKey != some keyId then
      { c with tru := { c.tru with sendKey := some keyId, prevUntil := c.tb.aon + 10 * 2 ^ 32 } }
    else c

/-! ### Lifecycle (R65, R66, R427, R428) -/

/-- R65: the transitions with a token. -/
def lcPair (a b : Nat) : Bool :=
  (a, b) ∈ [(1, 2), (2, 3), (2, 4), (3, 4), (0, 5), (1, 5), (2, 5), (3, 5), (4, 5)]

/-- R428: TRU_LC_RESULT and its event; the nonce is renewed. -/
def lcResult (c : Chip) (st : Status) (a b : Nat) : Chip :=
  raiseEvt (takeFree { c with tru := { c.tru with lcResult := st.code, lcFrom := a, lcTo := b, lcNonce := drawn c } })
    Reg.TRU_EVT (if st = .ok then 5 else 6)

/-- R428: a token's fields fit this unit and its state. -/
def tokenFits (c : Chip) (t : List Byte) : Bool :=
  t.length == 2876 && beNat (t.take 4) == 0x51584C54 && beNat ((t.drop 4).take 1) == 1
    && beNat ((t.drop 5).take 1) == c.sup.lcs.code && beNat ((t.drop 7).take 1) == 0
    && (t.drop 8).take 16 == id16 c.tru.unit && (t.drop 24).take 32 == id32 c.tru.lcNonce

/-- R66, R414, R428: the refusals after the token itself. -/
def lcRefusal (f : Fuses) (c : Chip) (b : Nat) : Option Status :=
  if anyEnergised c then some .busyEnergised
  else if b = 5 ∧ 0 < unacked c then some .rejected
  else if b = 2 ∧ c.tru.xmt ≠ .ready then some .rejected
  else if b = 2 then
    match f.legalDig, c.leg.firmware with
    | some d, some i => if d = Config.shake256 i.image then none else some .rejected
    | some _, none => some .rejected
    | none, _ => none
  else none

/-- R427: the three bits of a group are blown. -/
def blowGroup (f : Fuses) (b : Nat) : Fuses := { f with lcs := f.lcs ||| BitVec.ofNat 15 (7 * 2 ^ (3 * (b - 1))) }

/-- R428: LEGAL_DIG is blown at Factory to Provisioned. -/
def blowLegalDig (f : Fuses) (c : Chip) (b : Nat) : Fuses :=
  if b = 2 ∧ f.legalDig = none then { f with legalDig := c.leg.firmware.map (fun i => Config.shake256 i.image) } else f

/-- R66: the warm reset of a lifecycle change, with the wipe of R65 due. -/
def lifecycleReset (c : Chip) : Chip :=
  let c := resetModule c .lifecycle false
  { c with wipe := { c.wipe with due := true } }

/-- LIFECYCLE_TOKEN (R428, R65, R66). -/
def execLifecycleToken (token : List Byte) (sigOk : Bool) (s : State) : Host.Outcome State Fault Refusal :=
  let c := s.chip
  let a := beNat ((token.drop 5).take 1)
  let b := beNat ((token.drop 6).take 1)
  if ready c .tru = false then .next s
  else if (tokenFits c token && sigOk && lcPair a b) = false then .next { s with chip := lcResult c .rejected (a % 8) (b % 8) }
  else match lcRefusal s.fuses c b with
    | some st => .next { s with chip := lcResult c st a b }
    | none =>
      .next { s with
        chip := lifecycleReset (lcResult c .ok a b),
        fuses := blowGroup (blowLegalDig s.fuses c b) b }

/-- BLANK_TO_FACTORY (R428): over the JTAG port, with no token; ROOT and SCRAMBLE come from the entropy source. -/
def execBlankToFactory (unit : BitVec 128) (img0 img1 prov dbg : BitVec 256) (s : State) :
    Host.Outcome State Fault Refusal :=
  let c := s.chip
  if s.fuses.state = .blank then
    let f := { s.fuses with
      root := drawn c, rootSet := true, scramble := (drawn (takeFree c)).truncate 64, unit := unit, unitSet := true,
      img0 := some img0, img1 := some img1, prov := some prov, dbg := some dbg }
    .next { s with chip := lifecycleReset (takeFree (takeFree c)), fuses := blowGroup f 1 }
  else .next s

end Sys2Proof.Machine
end

