-- ==== Sys2Proof/Machine/SafetyOps.lean ====
section
/-! DEFINITION. Safety functions as other blocks use them: trips and their records (R289), welds and SHUNT_TRIP
(R281 to R283), Nib's withdrawals (R273, R293), the end of a session's WELD_CHECK (R257), disabling functions
(R69 to R71), and software resets (R54, R55). -/

namespace Sys2Proof.Machine

/-! ### Trips (R289, R299) -/

/-- R299: bits [15:0] of SAF_TRIP. -/
def safTripLow (c : Chip) : Nat :=
  c.saf.lastOutlet + placeBit 3 c.saf.lastAll + place 4 c.saf.lastSf + place 8 c.saf.lastChannel

/-- R289, R299: a trip is counted and recorded: SAF_TRIP, SAF_EVT and the Blotter record. -/
def recordTrip (c : Chip) (o : Nat) (all : Bool) (sf : Sf) (ch : Channel) : Chip :=
  let c := { c with saf := { c.saf with
    lastOutlet := o, lastAll := all, lastSf := sf.num, lastChannel := ch.code, trips := (c.saf.trips + 1) % 2 ^ 16 } }
  let c := raiseEvt c Reg.SAF_EVT (sf.num - 1)
  blotEvent c 0x0006 5 (safTripLow c)

/-- R289: the latch of a trip, in the channel that tripped first; Nib's also in NIB_STATUS. -/
def latchTrip (c : Chip) (o : Nat) (sf : Sf) (ch : Channel) : Chip :=
  let c := { c with saf := { c.saf with latches := if c.saf.latches.contains (o, sf) then c.saf.latches
                                                   else (o, sf) :: c.saf.latches } }
  if ch = .processor then c else { c with nib := { c.nib with latch := setBitV c.nib.latch o true } }

/-- R257, R289: some trip of the outlet is still latched. -/
def tripHeld (c : Chip) (o : Nat) : Bool := c.saf.latches.any (fun l => l.1 == o) || c.nib.latch.getLsbD o

/-- R289, R291: a trip on one outlet: the coil released at once, any booking of it cancelled, the session FAULTED
and its context stopped. Nib withdraws its line for `cause` when it tripped itself, and otherwise with the
processor's next answer (R272). -/
def trip (c : Chip) (o : Nat) (sf : Sf) (ch : Channel) (cause : Nat) : Chip :=
  let c := enterFaulted c o 0
  let c := if ch = .processor then c else withdrawLine c o cause
  let c := { c with nib := { c.nib with degraded := setBitV c.nib.degraded o false } }
  recordTrip (latchTrip c o sf ch) o false sf ch

/-- R285, R287: a trip of every outlet, recorded once. -/
def tripAll (c : Chip) (sf : Sf) (ch : Channel) (cause : Nat) : Chip :=
  let c := (List.range 8).foldl (fun c o =>
    let c := enterFaulted c o 0
    let c := if ch = .processor then c else withdrawLine c o cause
    latchTrip c o sf .processor) c
  recordTrip { c with nib := { c.nib with degraded := 0 } } 0 true sf ch

/-! ### Welds (R281 to R283) -/

/-- R283: SHUNT_TRIP is driven. -/
def driveShunt (c : Chip) : Chip :=
  if c.pwd.shunt then c
  else raiseEvt (emit { c with pwd := { c.pwd with shunt := true } } (.shunt true)) Reg.SAF_EVT 10

/-- R283: Nib asserts its SHUNT_TRIP line. -/
def assertShtr (c : Chip) : Chip :=
  driveShunt { c with nib := { c.nib with shtr := true }, saf := { c.saf with shuntReq := false } }

/-- R281, R283, R456: a weld: latched by Nib, SHUNT_TRIP once for it, and the fault source that retires the outlet.
A weld that only the processor sees is shown to Nib by the request of its next answer. -/
def weldFound (c : Chip) (o : Nat) (ch : Channel) : Chip :=
  let c := trip c o .weld ch 9
  let c :=
    if c.saf.shuntFired.contains o then c
    else
      let c := { c with saf := { c.saf with shuntFired := o :: c.saf.shuntFired } }
      if ch = .processor then { c with saf := { c.saf with shuntReq := true } } else assertShtr c
  let c := { c with nib := { c.nib with weld := setBitV c.nib.weld o true } }
  reportSrc c (88 + o) (safTripLow c % 1024)

/-! ### Nib's lines (R273, R286, R293) -/

/-- R286: the seal inputs permit: none invalid, none changed against the setting, odd parity. -/
def sealsOk (c : Chip) : Bool := c.nib.sealInvalid == 0 && c.nib.parityOk && !c.nib.sealFault

/-- R257: Nib has released the coil of an outlet in session: the session waits for FBn to open, and stays LIVE. -/
def releasedByNib (c : Chip) (o : Nat) : Chip :=
  let x := outletOf c o
  if x.state = .energised ∨ x.state = .closing ∨ x.state = .checking ∨ x.state = .precharge ∨ x.state = .opening then
    let c := modOutlet c o (fun x => { x with state := .weldCheck, why := if x.state = .opening then x.why else .pause })
    if isDc c o then stopConverters c o else c
  else c

/-- R293, R294: Nib withdraws a line and releases the coil, for a cause of R300. -/
def nibWithdraw (c : Chip) (o cause : Nat) : Chip :=
  if c.nib.gate.getLsbD o then
    let was := energised c o
    let c := withdrawLine c o cause
    if was then releasedByNib c o else c
  else c

/-- R294: a forecast of the outlet is valid: no older than 2.5 s, by Nib's clock. -/
def forecastValid (c : Chip) (o : Nat) : Bool :=
  match tfind c.nib.forecasts o with
  | some f => isAc c o && decide (c.nib.ticks ≤ f.tick + 2500)
  | none => false

/-! ### The end of WELD_CHECK, FINISHING and FAULTED (R257) -/

/-- R257, R70: an outlet that must be UNAVAILABLE becomes so once it has nothing left to finish. -/
def settleOutlet (c : Chip) (o : Nat) : Chip :=
  if mustBeUnavailable c o && !energised c o && (outletOf c o).state != .unavailable then
    enterUnavailable (stopSession c o 0) o
  else c

/-- R257: FBn reads open in WELD_CHECK and no weld was found. -/
def weldCheckDone (c : Chip) (o : Nat) : Chip :=
  let x := outletOf c o
  if x.state = .weldCheck then
    if x.why = .pause ∧ x.draining = false then
      updateIlim (modOutlet c o (fun x => { x with state := .authorised, preclosed := none })) o
    else settleOutlet (enterFinishing (stopSession c o 0) o) o
  else c

/-- R257: state A accepted and no fault left: FINISHING and FAULTED end in IDLE. -/
def tryIdle (c : Chip) (o : Nat) : Chip :=
  let x := outletOf c o
  if (x.state = .finishing ∨ (x.state = .faulted ∧ tripHeld c o = false)) ∧ x.cp = .a then
    if mustBeUnavailable c o then enterUnavailable c o
    else pilotSteady (modOutlet c o (fun x => { OutletSt.init with
      cp := x.cp, vpos := x.vpos, vneg := x.vneg, pp := x.pp, ohm := x.ohm, capA := x.capA, lock := x.lock,
      lockIn := x.lockIn, locking := x.locking, nmkUsed := x.nmkUsed,
      tClose := x.tClose, tOpen := x.tOpen, vZeros := x.vZeros, iZeros := x.iZeros, iSmall := x.iSmall,
      profiles := x.profiles, reserved := x.reserved })) o
  else c

/-- R257: an UNAVAILABLE outlet that may serve again is IDLE, its pilot at +12 V. -/
def tryAvailable (c : Chip) (o : Nat) : Chip :=
  let x := outletOf c o
  if x.state = .unavailable ∧ mustBeUnavailable c o = false ∧ x.draining = false ∧ ready c .out = true then
    pilotSteady (modOutlet c o (fun x => { x with state := .idle })) o
  else c

/-! ### Disabling (R69 to R71) -/

/-- R70: an MPOINT bit may be set: the point is supply-side, or its outlet is disabled and de-energised. -/
def mpAllowed (c : Chip) (w : Word) (m : Nat) : Bool :=
  let b := mpBind c m
  decide (8 ≤ b) || mpType c m == 0 || (bitOf w b && !energised c b)

/-- R70: the write with its refused MPOINT bits kept as they were. -/
def disableTaken (c : Chip) (w : Word) : Word :=
  let old := regGet c Reg.SUP_DISABLE
  (List.range 8).foldl (fun v m =>
    if bitOf w (8 + m) && !bitOf old (8 + m) && !mpAllowed c w m then withBit v (8 + m) false else v) w

/-- R70: the session of an outlet is settled: no context of it is LIVE or on its way to settlement. -/
def outletSettled (c : Chip) (o : Nat) : Bool :=
  !c.sess.ctxs.any (fun e => e.2.outlet == o && (e.2.bstate == .live || e.2.bstate == .settling))

/-- R69, R70: the flip of the emissive panel that no frame has taken is not started any more. -/
def cancelFlip (c : Chip) : Chip :=
  match c.dsp.pend with
  | some b => completeOpt { c with dsp := { c.dsp with pend := none } } b.owner (ansStatus .disabled)
  | none => c

/-- R71: Hold-up and Reset win over a disabling that begins in them. -/
def disablesLate (c : Chip) : Bool := c.sup.mode == .holdUp || c.sup.mode == .reset

/-- R70, R71: one function newly disabled. -/
def disableOne (c : Chip) (k : Nat) : Chip :=
  if disablesLate c then c
  else
    let mark := fun (c : Chip) => { c with sup := { c.sup with draining := setBitV c.sup.draining k true } }
    if h : k < 8 then
      let c := drainOutlet c ⟨k, h⟩
      if (outletOf c k).state = .unavailable ∧ outletSettled c k = true then c else mark c
    else if k < 16 then
      let c := mark c
      if c.sup.pointsOn.contains (k - 8) then
        { c with sup := { c.sup with pointsOn := c.sup.pointsOn.filter (fun m => m != k - 8),
                                     draining := setBitV c.sup.draining k (c.sup.pointsOff.contains (k - 8)) } }
      else { c with sup := { c.sup with pointsOff := c.sup.pointsOff ++ [k - 8] } }
    else if k = 22 then mark (cancelFlip c)
    else if k = 23 then mark { c with bp := { c.bp with disableDue := true } }
    else mark c

/-- R71: one function enabled again; a function still draining waits for its end. -/
def enableOne (c : Chip) (k : Nat) : Chip :=
  if k < 8 then tryAvailable c k
  else if k < 16 then
    { c with sup := { c.sup with pointsOn := c.sup.pointsOn ++ [k - 8] } }
  else if k < 20 then
    if (fport c (k - 16)).state = .disabled then
      setFport c (k - 16) { FPortSt.init with state := .training, tryFull := true }
    else c
  else if k = 23 then { c with bp := { c.bp with disableDue := false } }
  else c

/-- R50, R57: the functions that must be ready have changed: a missed deadline of a disabled one is no cause any more. -/
def functionsChanged (c : Chip) : Chip :=
  settleMode { c with sup := { c.sup with degCauses := c.sup.degCauses.filter (fun k => match k with
    | .ready f => !funcDisabled c f
    | _ => true) } }

/-- R69, R70: a write to SUP_DISABLE. -/
def writeDisable (c : Chip) (w : Word) : Chip :=
  let w := w &&& 0x1FFFFFF#32
  let old := regGet c Reg.SUP_DISABLE
  let t := disableTaken c w
  let c := regPut c Reg.SUP_DISABLE t
  let c := { c with sup := { c.sup with
    mpRefused := t != w,
    disableLate := if disablesLate c then
      (c.sup.disableLate ||| (BitVec.ofNat 25 t.toNat &&& ~~~(BitVec.ofNat 25 old.toNat))) &&& BitVec.ofNat 25 t.toNat
      else c.sup.disableLate } }
  functionsChanged ((List.range 25).foldl (fun c k =>
    if bitOf t k && !bitOf old k then disableOne c k
    else if !bitOf t k && bitOf old k then enableOne c k
    else c) c)

/-! ### Software resets (R54, R55) -/

/-- R55: a software reset is refused. -/
def refuseReset (c : Chip) : Chip := recordCause c 31

/-- The compute die runs: it is neither off, nor held in reset, nor powered down in Deep-standby. -/
def dieRuns (c : Chip) : Bool := c.sup.mode != .off && c.sup.mode != .reset && c.sup.mode != .deepStandby

/-- R50: a software reset can be asked for. -/
def mayAskReset (c : Chip) : Bool := dieRuns c && c.sup.mode != .holdUp

/-- R54, R55: a module reset asked for by software, the host or the backend. -/
def softReset (c : Chip) (cold : Bool) : Chip :=
  if anyEnergised c then refuseReset c else resetModule c (if cold then .cold else .soft) cold

end Sys2Proof.Machine
end

