-- ==== Sys2Proof/Machine/SafetyFns.lean ====
section
/-! DEFINITION. The safety functions SF1 to SF7, the heartbeat, Degraded Mode and adoption (R271 to R300), and
their commands; the injection of faults (R467, R468). -/

namespace Sys2Proof.Machine

/-! ### The heartbeat (R275, R276, R293) -/

/-- R286: the degraded window in force, ms. -/
def windowMs (c : Chip) : Nat :=
  match c.nib.window with | 0 => 0 | 1 => 2000 | 2 => 5000 | _ => 10000

/-- R293: Nib declares the processor channel lost. -/
def procLost (c : Chip) : Chip :=
  let c := { c with nib := { c.nib with procOk := false, goodRun := 0, permit := 0, remainMs := windowMs c },
                    acc := { c.acc with gap := none } }
  let c := (List.range 8).foldl (fun c o =>
    if c.nib.gate.getLsbD o then
      if fbClosed c o ∧ 0 < windowMs c then
        { c with nib := { c.nib with degraded := setBitV c.nib.degraded o true } }
      else nibWithdraw c o 12
    else c) c
  reportSrc (raiseEvt c Reg.SAF_EVT 7) 114 0

/-- R275: an answer is bad. -/
def badAnswer (c : Chip) : Chip :=
  let n := c.nib
  let h := (true :: n.history).take 100
  let c := { c with nib := { n with
    challenge := none, bad := sat 65535 (n.bad + 1), badRun := n.badRun + 1, goodRun := 0, history := h } }
  if n.procOk ∧ (3 ≤ n.badRun + 1 ∨ 8 ≤ (h.filter (fun b => b)).length) then procLost c else c

/-- R273, R274: Nib follows the permission bits: a line whose bit is clear is withdrawn, but for an outlet in its
degraded window, which the window's end or the processor's decision governs (R296). -/
def followPermits (c : Chip) : Chip :=
  (List.range 8).foldl (fun c o =>
    if c.nib.gate.getLsbD o && !c.saf.permit.getLsbD o && !c.nib.degraded.getLsbD o then nibWithdraw c o 1 else c) c

/-- R275: the forecast of an outlet: the time to its next booking instant for separation at a current zero, from an answer
given now. The tracked period gives both times; their rounding is open (log 2). -/
def forecastOf (c : Chip) (o : Nat) : Forecast :=
  let x := outletOf c o
  let t := toAu c (meanTime c (6310 + o) x.tOpen)
  let lead := cfg c (Reg.OUT_POW_CFG o) 31 16
  let z := meanZero (if x.iSmall then x.vZeros else x.iZeros)
  let b := nextZero (nowAu c + t) (z + 32768 - lead % 32768) - t
  { ahead := roundOpenNat c (6600 + o) ((b - nowAu c) * 10 ^ 10) (c.tb.freq * 65536),
    period := roundOpenNat c (6610 + o) (10 ^ 10) c.tb.freq, tick := c.nib.ticks }

/-- R275: the forecasts of an answer: one for each energised AC outlet. -/
def forecastsNow (c : Chip) : List (Nat × Forecast) :=
  ((List.range 8).filter (fun o => isAc c o && energised c o)).map (fun o => (o, forecastOf c o))

/-- R275, R296: an answer is good: its permission bits, requests and forecasts are taken; a lost channel is back
with the tenth good answer in a row. -/
def goodAnswer (c : Chip) : Chip :=
  let forecasts := forecastsNow c
  let n := c.nib
  let run := n.goodRun + 1
  let c := { c with nib := { n with
    challenge := none, good := (n.good + 1) % 65536, goodRun := run, badRun := 0,
    history := (false :: n.history).take 100, procOk := n.procOk || decide (10 ≤ run),
    precloseOf := c.saf.precloseReq,
    forecasts := forecasts.foldl (fun t f => tput t f.1 f.2) n.forecasts } }
  let c := if c.saf.shuntReq then assertShtr c else c
  if c.nib.procOk then followPermits { c with nib := { c.nib with permit := c.saf.permit } } else c

/-- NIB_CHALLENGE (R275): one each ms, by Nib's clock, which counts a degraded window down with it (R293). -/
def execNibChallenge (value : BitVec 16) (s : State) : Host.Outcome State Fault Refusal :=
  onChip s fun c =>
    let n := c.nib
    emit { c with nib := { n with
        challenge := some value, ticks := n.ticks + 1, remainMs := if n.degraded = 0 then 0 else n.remainMs - 1 } }
      (.challenge value.toNat)

/-- R272, R275: the processor runs, with both cores in agreement: it evaluates its functions and answers. -/
def procAnswers (c : Chip) : Bool := c.saf.lockstepOk && !fenced c .out && !c.flt.resets.contains .safetyProc

/-- NIB_ANSWER (R275): an answer given at an angle of the running cycle, that arrives `us` µs after its challenge. -/
def execNibAnswer (us : Nat) (correct : Bool) (angle : Nat) (s : State) : Host.Outcome State Fault Refusal :=
  onChip s fun c =>
    let c := atAngle c angle
    if c.nib.challenge.isNone ∨ procAnswers c = false then c
    else
      let c := emit c (.answer c.saf.permit.toNat)
      if correct && decide (200 ≤ us ∧ us ≤ 800) then takeFree (goodAnswer c) else badAnswer c

/-- NIB_ANSWER_TIMEOUT (R275). -/
def execNibAnswerTimeout (s : State) : Host.Outcome State Fault Refusal :=
  onChip s fun c => if c.nib.challenge.isSome then badAnswer c else c

/-- R276: the processor declares the Nib channel lost. -/
def nibLost (c : Chip) (src : Nat) : Chip :=
  let c := { c with saf := { c.saf with nibOk := false, healthyFrom := none } }
  let c := openAllNow (raiseEvt c Reg.SAF_EVT 9)
  reportSrc (safetyReaction c .nib) src 0

/-- R276: more than 1 ms, in 2^-32 s, has passed since an instant of the AON counter. -/
def overMs (c : Chip) (from' : Option Nat) : Bool :=
  match from' with
  | some t => decide (2 ^ 32 < (c.tb.aon - t) * 1000)
  | none => false

/-- R276: the fault source for which the Nib channel is lost: a line's readback that contradicts the mirror, a mirror too
old, or a self-test that has not passed. -/
def nibFailure (c : Chip) : Option Nat :=
  if overMs c c.pwd.badFrom then some 115
  else if overMs c c.saf.mirrorAt || !bitOf (regGet c Reg.NIB_STATUS) 27 then some 113
  else none

/-- NIB_LOST (R276), at an instant `since` angle 0: by a processor that runs, of a channel that it has seen. -/
def execNibLost (since : Nat) (s : State) : Host.Outcome State Fault Refusal :=
  onChip s fun c =>
    let c := runTo c since
    if procAnswers c && c.saf.mirrorAt.isSome && (c.saf.nibOk || c.saf.healthyFrom.isSome) then
      match nibFailure c with
      | some src => nibLost c src
      | none => c
    else c

/-- LOCKSTEP_MISMATCH (R272): both cores halt. -/
def lockstepMismatch (c : Chip) : Chip := reportSrc { c with saf := { c.saf with lockstepOk := false } } 112 0

/-- LOCKSTEP_MISMATCH (R272). -/
def execLockstepMismatch (s : State) : Host.Outcome State Fault Refusal := onChip s lockstepMismatch

/-! ### SF1 to SF3 (R278 to R280) -/

/-- R272, R289: a trip condition that a channel has seen: a processor that does not run sees none, and what both have seen
is then Nib's. -/
def channelTrip (c : Chip) (ch : Channel) (act : Channel → Chip) : Chip :=
  if procAnswers c then act ch
  else match ch with
    | .processor => c
    | .nib => act .nib
    | .both => act .nib

/-- R288: Nib latches no trip of the outlet under its pre-close test. -/
def underTest (c : Chip) (o : Nat) (ch : Channel) : Bool := ch != .processor && c.nib.precloseOf == some o

/-- R278: the readings reach a threshold of SF1: DC 6 mA while RDC_EN, AC 30 mA; in µA. -/
def residualTrips (c : Chip) (dc : Int) (ac : Nat) : Bool :=
  (c.nib.rdcEn && decide (6000 ≤ dc.natAbs)) || decide (30000 ≤ ac)

/-- RESIDUAL_CURRENT_TRIP (R278, R289): AC outlets only. -/
def execResidualCurrentTrip (outlet : Outlet) (channel : Channel) (dc : Int) (ac : Nat) (s : State) :
    Host.Outcome State Fault Refusal :=
  onChip s fun c =>
    let o := outlet.val
    let c := { c with saf := { c.saf with rcDc := tput c.saf.rcDc o dc, rcAc := tput c.saf.rcAc o ac } }
    if isAc c o = false ∨ residualTrips c dc ac = false ∨ underTest c o channel = true then c
    else channelTrip c channel fun ch => trip c o .sf1 ch (if c.nib.rdcEn && decide (6000 ≤ dc.natAbs) then 2 else 3)

/-- R279: the processor's limit of the PE loop in mΩ. -/
def peLimit (c : Chip) : Nat := cfg c Reg.SAF_PE_CFG 4 0 * 1000

/-- R279: the loop exceeds the limit of a channel: the processor's for 5 results on end, Nib's fixed 20 Ω. -/
def peTrips (c : Chip) (o mohm : Nat) (ch : Channel) : Bool :=
  if ch = .nib then decide (20000 < mohm) else decide (5 ≤ tget 0 c.saf.peBad o)

/-- PE_LOSS_TRIP (R279, R289): a result of the loop, in mΩ; active while PE_EN. -/
def execPeLossTrip (outlet : Outlet) (channel : Channel) (mohm : Nat) (s : State) :
    Host.Outcome State Fault Refusal :=
  onChip s fun c =>
    let o := outlet.val
    let c := { c with saf := { c.saf with
      peRes := tput c.saf.peRes o mohm,
      peBad := tput c.saf.peBad o (if mohm ≤ peLimit c then 0 else tget 0 c.saf.peBad o + 1) } }
    if c.nib.peEn = false ∨ peTrips c o mohm channel = false ∨ underTest c o channel = true then c
    else channelTrip c channel fun ch => trip c o .sf2 ch 4

/-- R280: the bands of Nib's pilot comparators. -/
inductive PilotBand where
  | cd | b | fault
  deriving DecidableEq, Repr

/-- R280: the band of a pair of plateaus in mV: by the positive one, and while PWM runs a negative one above −10.5 V is a
fault. A value on the border of two bands is in the one above (log 64). -/
def pilotBand (pwm : Bool) (vpos vneg : Int) : PilotBand :=
  if pwm && decide (-10500 < vneg) then .fault
  else if 1500 ≤ vpos ∧ vpos < 7500 then .cd
  else if 7500 ≤ vpos ∧ vpos ≤ 10500 then .b
  else .fault

/-- R280: what a channel trips on: the processor on an accepted state A or a pilot error, Nib on the fault band. -/
def pilotTrips (c : Chip) (o : Nat) (vpos vneg : Int) (ch : Channel) : Bool :=
  let x := outletOf c o
  let proc := x.cp == .a || x.cp == .e || x.cp == .invalid
  let nib := pilotBand x.pwm vpos vneg == .fault
  match ch with
  | .processor => proc
  | .nib => nib
  | .both => proc && nib

/-- PILOT_TRIP (R280, R289), with the plateaus in mV. An outlet that is neither permitted nor energised has nothing to stop:
Nib withholds its line (R273, log 64). -/
def execPilotTrip (outlet : Outlet) (channel : Channel) (vpos vneg : Int) (s : State) :
    Host.Outcome State Fault Refusal :=
  onChip s fun c =>
    let o := outlet.val
    if (c.nib.gate.getLsbD o || energised c o) && pilotTrips c o vpos vneg channel then
      channelTrip c channel fun ch => trip c o .sf3 ch 5
    else c

/-- NIB_B_BAND_WITHDRAW (R280, R294): the plateaus have been in the B band for 120 ms. In the degraded window an outlet with
a valid forecast waits for its aimed withdrawal. -/
def execNibBBandWithdraw (outlet : Outlet) (vpos vneg : Int) (s : State) : Host.Outcome State Fault Refusal :=
  onChip s fun c =>
    if pilotBand (outletOf c outlet.val).pwm vpos vneg ≠ .b then c
    else if c.nib.degraded.getLsbD outlet.val && forecastValid c outlet.val then
      { c with nib := { c.nib with bBand := setBitV c.nib.bBand outlet.val true } }
    else nibWithdraw c outlet.val 6

/-! ### SF4 (R281 to R283) -/

/-- R281, R456: a mismatch or a fail to close: a trip and the fault source of the contactor. -/
def contactorTrip (c : Chip) (o : Nat) (sf : Sf) (ch : Channel) : Chip :=
  let c := trip c o sf ch (if sf = .failClose then 8 else 7)
  reportSrc c (80 + o) (safTripLow c % 1024)

/-- CONTACTOR_MISMATCH (R281): FBn opens with the coil held; until it has closed, in CLOSING, that is FAIL_TO_CLOSE. -/
def execContactorMismatch (outlet : Outlet) (channel : Channel) (s : State) : Host.Outcome State Fault Refusal :=
  onChip s fun c =>
    if (coilOf c outlet.val).driven && !fbClosed c outlet.val && (outletOf c outlet.val).state != .closing then
      channelTrip c channel fun ch => contactorTrip c outlet.val .mismatch ch
    else c

/-- FAIL_TO_CLOSE (R281): FBn not closed in the channel's time after the coil command. -/
def execFailToClose (outlet : Outlet) (channel : Channel) (s : State) : Host.Outcome State Fault Refusal :=
  onChip s fun c =>
    if (coilOf c outlet.val).driven && !fbClosed c outlet.val && (outletOf c outlet.val).state == .closing then
      channelTrip c channel fun ch => contactorTrip c outlet.val .failClose ch
    else c

/-- WELD_DETECTED (R281): FBn still closed 100 ms after release. -/
def execWeldDetected (outlet : Outlet) (channel : Channel) (s : State) : Host.Outcome State Fault Refusal :=
  onChip s fun c =>
    if fbClosed c outlet.val && !(coilOf c outlet.val).driven then
      channelTrip c channel fun ch => weldFound c outlet.val ch
    else c

/-- R282: the pole capacitances (nF) show a welded pole: a rise of at least half of CONV_CY on either. -/
def poleWelded (c : Chip) (o plus minus : Nat) : Bool :=
  let cy := cfg c (Reg.SAF_DC_CFG o) 15 0
  let (p, m) := tget (0, 0) c.saf.poles o
  decide (cy ≤ 2 * (plus - p)) || decide (cy ≤ 2 * (minus - m))

/-- POLE_TEST_DONE (R282). -/
def execPoleTestDone (outlet : Outlet) (plus minus : Nat) (s : State) : Host.Outcome State Fault Refusal :=
  onChip s fun c =>
    let o := outlet.val
    if isDc c o ∧ (outletOf c o).state = .weldCheck ∧ fbClosed c o = false ∧ procAnswers c = true then
      if poleWelded c o plus minus then weldFound c o .processor else weldCheckDone c o
    else c

/-- SHUNT_TRIP_DIRECT (R283): SHTR does not read 1 within 5 ms of a request. -/
def execShuntTripDirect (s : State) : Host.Outcome State Fault Refusal :=
  onChip s fun c =>
    if procAnswers c && c.saf.shuntReq && !c.nib.shtr then driveShunt { c with saf := { c.saf with shuntReq := false } } else c

/-- SHUNT_TRIP_END (R283). -/
def execShuntTripEnd (s : State) : Host.Outcome State Fault Refusal :=
  onChip s fun c =>
    if c.pwd.shunt then
      emit { c with pwd := { c.pwd with shunt := false }, nib := { c.nib with shtr := false } } (.shunt false)
    else c

/-! ### SF5 to SF7 (R284 to R287) -/

/-- R284: a result in kΩ lies below a limit in Ω/V of VMAX (0.1 V). -/
def insBelow (c : Chip) (o kohm perV : Nat) : Bool := decide (kohm * 10000 < perV * cfg c (Reg.OUT_DCLIM o) 15 0)

/-- R284: a result in kΩ lies above R_fault. -/
def insAbove (c : Chip) (o kohm : Nat) : Bool :=
  decide (cfg c Reg.SAF_IMD_CFG 15 0 * cfg c (Reg.OUT_DCLIM o) 15 0 < kohm * 10000)

/-- R289, R297: the last result of outlet o is valid and above R_fault. -/
def insGood (c : Chip) (o : Nat) : Bool :=
  (tget 0 c.saf.insState o == 2 || tget 0 c.saf.insState o == 3) && insAbove c o (tget 0 c.saf.insKohm o)

/-- R284: an insulation result, with the pole capacitances in nF; not valid above 5 µF. An outlet in CHECKING is energised too
(R271, log 67). -/
def imdResult (c : Chip) (o kohm plus minus : Nat) : Chip :=
  if 5000 < plus + minus then c
  else
    let fault := insBelow c o kohm (cfg c Reg.SAF_IMD_CFG 15 0)
    let warn := insBelow c o kohm (cfg c Reg.SAF_IMD_CFG 31 16)
    let checking := (outletOf c o).state == .checking
    let c := { c with saf := { c.saf with
      insKohm := tput c.saf.insKohm o (sat 0xFFFFFF kohm), insAge := tput c.saf.insAge o (aonSec c),
      insState := tput c.saf.insState o (if fault then 4 else if warn then 3 else 2),
      imdGood := if checking then tput c.saf.imdGood o (if insAbove c o kohm then tget 0 c.saf.imdGood o + 1 else 0)
                 else c.saf.imdGood,
      poles := if checking then tput c.saf.poles o (plus, minus) else c.saf.poles } }
    if !procAnswers c then c
    else if fault && energised c o then trip c o .sf5 .processor 1
    else if warn then raiseEvt c Reg.SAF_EVT 11 else c

/-- IMD_RESULT (R284): DC outlets. -/
def execImdResult (outlet : Outlet) (kohm plus minus : Nat) (s : State) : Host.Outcome State Fault Refusal :=
  onChip s fun c => if isDc c outlet.val then imdResult c outlet.val kohm plus minus else c

/-- R285: the die temperatures, as the fields of PWD_TEMP and SUP_TEMP count (value − 64 °C). -/
def tempReading (c : Chip) (pwd sup : Nat) : Chip :=
  let hp := if cfg c Reg.SAF_TEMP_CFG 7 0 ≤ pwd then c.saf.hotPwd + 1 else 0
  let hs := if cfg c Reg.SAF_TEMP_CFG 15 8 ≤ sup then c.saf.hotSup + 1 else 0
  let c := { c with saf := { c.saf with hotPwd := hp, hotSup := hs },
                    pwd := { c.pwd with temp := pwd, supTemp := sup } }
  let held := (List.range 8).all (fun o => c.saf.latches.contains (o, .sf6))
  if procAnswers c = true ∧ (3 ≤ hp ∨ 3 ≤ hs) ∧ held = false then safetyReaction (tripAll c .sf6 .processor 1) .ambient else c

/-- TEMP_READING (R285). -/
def execTempReading (pwd sup : BitVec 8) (s : State) : Host.Outcome State Fault Refusal :=
  onChip s fun c => tempReading c pwd.toNat sup.toNat

/-- R285, R299: the level of a temperature switch means hot. -/
def switchHot (c : Chip) (high : Bool) : Bool := high == cfgBit c Reg.SAF_TEMP_CFG 24

/-- TEMP_SWITCH_TRIP (R285): GPIO(24 + n) has had a level for 100 ms. -/
def execTempSwitchTrip (outlet : Outlet) (high : Bool) (s : State) : Host.Outcome State Fault Refusal :=
  onChip s fun c =>
    let o := outlet.val
    let c := { c with saf := { c.saf with hotSw := setBitV c.saf.hotSw o (switchHot c high) } }
    if cfgBit c Reg.SAF_TEMP_CFG (16 + o) && switchHot c high && procAnswers c then trip c o .sf6 .processor 1 else c

/-- R286: WINDOW, RDC_EN, PE_EN and the parity of switches. -/
def parityOkOf (v : BitVec 8) : Bool :=
  ((List.range 8).filter (fun k => v.getLsbD k)).length % 2 == 1 && !v.getLsbD 4 && !v.getLsbD 5 && !v.getLsbD 6

/-- R286: the seal inputs of eight levels in mV: closed up to 1.0 V (R95). -/
def sealsClosed (levels : List Nat) : BitVec 8 :=
  (List.range 8).foldl (fun v k => setBitV v k (decide (levels.getD k 5000 ≤ 1000))) 0

/-- R286: those between 1.0 V and 3.5 V. -/
def sealsInvalid (levels : List Nat) : BitVec 8 :=
  (List.range 8).foldl (fun v k => setBitV v k (decide (1000 < levels.getD k 5000 ∧ levels.getD k 5000 < 3500))) 0

/-- R287: SF7: Nib's, and the processor's where it runs. -/
def sealTrip (c : Chip) : Chip :=
  let c := { c with nib := { c.nib with sealFault := true } }
  let c := tripAll c .sf7 .nib 10
  if procAnswers c then safetyReaction c .seal else c

/-- SEAL_SWITCH_CHANGE (R286, R287): the levels of the inputs in mV, as they have been for 20 ms. -/
def execSealSwitchChange (levels : List Nat) (s : State) : Host.Outcome State Fault Refusal :=
  onChip s fun c =>
    let now := sealsClosed levels
    let invalid := sealsInvalid levels
    let changed := now != c.nib.sealNow || invalid != 0
    let c := { c with nib := { c.nib with sealNow := now, sealInvalid := invalid, parityOk := parityOkOf now } }
    if !changed then c
    else if anyEnergised c then sealTrip c
    else if invalid ≠ 0 ∨ parityOkOf now = false then (List.range 8).foldl (fun c o => nibWithdraw c o 10) c
    else c

/-- R286, R287: the setting adopted from the inputs. -/
def adoptSeals (c : Chip) : Chip :=
  let v := c.nib.sealNow
  let c := { c with
    nib := { c.nib with
      window := (v.getLsbD 1).toNat * 2 + (v.getLsbD 0).toNat, rdcEn := v.getLsbD 2, peEn := v.getLsbD 3,
      parityOk := parityOkOf v, sealFault := false },
    saf := { c.saf with latches := c.saf.latches.filter (fun l => l.2 != .sf7) } }
  let c := dropSafeCause c .seal
  let c := if parityOkOf v then c else (List.range 8).foldl (fun c o => nibWithdraw c o 10) c
  (List.range 8).foldl tryIdle c

/-- SEAL_SETTING_ADOPT (R287): inputs valid and stable for 1 s, no outlet energised. -/
def execSealSettingAdopt (s : State) : Host.Outcome State Fault Refusal :=
  onChip s fun c => if anyEnergised c ∨ c.nib.sealInvalid ≠ 0 then c else adoptSeals c

/-! ### The pre-close test (R288) -/

/-- R273, R286: Nib may permit the outlet. -/
def nibMayPermit (c : Chip) (o : Nat) : Bool :=
  c.nib.selftestOk && sealsOk c && c.nib.procOk && !c.nib.latch.getLsbD o && !c.nib.weld.getLsbD o

/-- R288: steps 1 to 6 of a test: what they measured fits. -/
def precloseFits (c : Chip) (o : Nat) (r : PrecloseRun) : Bool :=
  let dcOk := !c.nib.rdcEn || (decide (6000 ≤ r.dc.natAbs) && r.nibDc)
  let acOk := decide (30000 ≤ r.ac) && r.nibAc
  let rest := (!c.nib.rdcEn || decide (r.restDc.natAbs < 3000)) && decide (r.restAc < 15000) && r.nibRest
  r.heldBack && (!isAc c o || (dcOk && acOk && rest))
    && (!c.nib.peEn || (decide (r.pe ≤ peLimit c) && r.nibPe))

/-- R288: the test passed: both channels permit the outlet, and a CLOSING that waited for it goes on, as does an outlet whose
vehicle already asks for energy. -/
def preclosePassed (c : Chip) (outlet : Outlet) : Chip :=
  let o := outlet.val
  let c := { c with
    saf := { c.saf with permit := setBitV c.saf.permit o true, precloseReq := none },
    nib := { c.nib with gate := setBitV c.nib.gate o true, permit := setBitV c.nib.permit o true, precloseOf := none } }
  let due := (outletOf c o).testDue
  let c := modOutlet c o (fun x => { x with preclosed := some (aonSec c), testDue := false })
  if due && (outletOf c o).state == .closing then enterClosing c outlet else tryClose c outlet

/-- R288: the test failed: the session FAULTED, a Class S fault. -/
def precloseFailed (c : Chip) (o : Nat) : Chip :=
  let c := { c with saf := { c.saf with precloseReq := none }, nib := { c.nib with precloseOf := none } }
  let c := enterFaulted (raiseEvt c Reg.SAF_EVT 12) o 0
  reportSrc c (96 + o) 0

/-- PRECLOSE_TEST (R288): what its steps measured; `angle` is the instant of its end. A test needs
an outlet AUTHORISED or CLOSING with its coil off. -/
def execPrecloseTest (outlet : Outlet) (run : PrecloseRun) (angle : Nat) (s : State) :
    Host.Outcome State Fault Refusal :=
  onChip s fun c =>
    let o := outlet.val
    let c := atAngle c angle
    let x := outletOf c o
    if (x.state = .authorised ∨ (x.state = .closing ∧ x.testDue = true)) ∧ (coilOf c o).driven = false
        ∧ procAnswers c = true then
      if precloseFits c o run && nibMayPermit c o && run.readBack then preclosePassed c outlet else precloseFailed c o
    else c

/-! ### Clearing (R289) -/

/-- R289: the state and the last readings that a latch's clearing needs. -/
def latchMayClear (c : Chip) (o : Nat) (sf : Sf) : Bool :=
  let stateA := (outletOf c o).cp == .a
  match sf with
  | .sf1 => stateA && (!c.nib.rdcEn || decide ((tget 0 c.saf.rcDc o).natAbs < 3000)) && decide (tget 0 c.saf.rcAc o < 15000)
  | .sf2 => stateA && decide (tget 0xFFFFFFFF c.saf.peRes o ≤ peLimit c)
  | .sf3 => stateA
  | .sf5 => stateA && insGood c o
  | .sf6 => decide (c.pwd.temp + 10 ≤ cfg c Reg.SAF_TEMP_CFG 7 0) && decide (c.pwd.supTemp + 10 ≤ cfg c Reg.SAF_TEMP_CFG 15 8)
      && !(cfgBit c Reg.SAF_TEMP_CFG (16 + o) && c.saf.hotSw.getLsbD o)
  | .sf7 => false
  | .weld => false
  | .mismatch => !fbClosed c o && stateA
  | .failClose => !fbClosed c o && stateA

/-- R289: a latch clears. -/
def clearLatch (c : Chip) (o : Nat) (sf : Sf) : Chip :=
  let c := { c with saf := { c.saf with latches := c.saf.latches.filter (fun l => l != (o, sf)) } }
  let c := if c.saf.latches.any (fun l => l.1 == o) then c
    else { c with nib := { c.nib with latch := setBitV c.nib.latch o (c.nib.weld.getLsbD o) } }
  let c := if sf = .mismatch ∨ sf = .failClose then clearSrc c (80 + o) else c
  let c := if sf = .sf6 ∧ ¬ c.saf.latches.any (fun l => l.2 == .sf6) then dropSafeCause c .ambient else c
  tryIdle c o

/-- TRIP_LATCH_CLEAR (R289): the clearing condition of a cause has held. -/
def execTripLatchClear (outlet : Outlet) (cause : Sf) (s : State) : Host.Outcome State Fault Refusal :=
  onChip s fun c => if latchMayClear c outlet.val cause then clearLatch c outlet.val cause else c

/-! ### Degraded Mode and adoption (R293 to R298) -/

/-- DEGRADED_WINDOW_END (R294). -/
def execDegradedWindowEnd (s : State) : Host.Outcome State Fault Refusal :=
  onChip s fun c =>
    if c.nib.remainMs ≠ 0 then c
    else
    let c := (List.range 8).foldl (fun c o => if c.nib.degraded.getLsbD o then nibWithdraw c o 11 else c) c
    { c with nib := { c.nib with degraded := 0, remainMs := 0 } }

/-- NIB_AIMED_WITHDRAW (R294): at a forecast booking instant, for the pilot B band where that waits, else for the window's
end. -/
def execNibAimedWithdraw (outlet : Outlet) (s : State) : Host.Outcome State Fault Refusal :=
  onChip s fun c =>
    if c.nib.degraded.getLsbD outlet.val && forecastValid c outlet.val then
      nibWithdraw c outlet.val (if c.nib.bBand.getLsbD outlet.val then 6 else 11)
    else c

/-- R299: the age in s of outlet o's last insulation result; 0 while there is none. -/
def insulationAge (c : Chip) (o : Nat) : Nat :=
  match tfind c.saf.insAge o with
  | some t => aonSec c - t
  | none => 0

/-- R297: the conditions of an adoption, but for the 20 ms of evaluation. -/
def mayAdopt (c : Chip) (o : Nat) : Bool :=
  procAnswers c && c.nib.degraded.getLsbD o && c.nib.procOk && decide (10 ≤ c.nib.goodRun) && ready c .out && ready c .met
    && (liveCtx c o).isSome && fbClosed c o && !tripHeld c o && !c.saf.retired.getLsbD o
    && (!isDc c o || (insGood c o && decide (insulationAge c o ≤ 5)))

/-- R298: the energy of an adopted outlet while the metering region was down is not measured. -/
def gapUnmeasured (c : Chip) (o x : Nat) : Chip :=
  match c.acc.gap, pointOfOutlet c o with
  | some (first, last, wall0, wall1), some m =>
    let c := unmeasuredEntry c m first last wall0 wall1 0
    let c := setInt c m { intOf c m with flags := (intOf c m).flags ||| flagBit 11,
                                         billFlags := (intOf c m).billFlags ||| flagBit 11 }
    setCtx c x { ctxOf c x with flags := (ctxOf c x).flags ||| flagBit 11 }
  | _, _ => c

/-- R297, R298: an adoption: permission, coil command on, the session ENERGISED with POWER_START, a DC outlet's
converters at 0 A. -/
def adopt (c : Chip) (o x : Nat) : Chip :=
  let c := { c with
    saf := { c.saf with permit := setBitV c.saf.permit o true },
    nib := { c.nib with degraded := setBitV c.nib.degraded o false, permit := setBitV c.nib.permit o true } }
  let c := commandCoil c o true
  let c := gapUnmeasured (setCtx c x { ctxOf c x with flags := (ctxOf c x).flags ||| flagBit 2 }) o x
  let c := modOutlet c o (fun y => { y with state := .energised, ctx := some x, setMa := 0 })
  raiseEvt c Reg.SAF_EVT 8

/-- OUTLET_ADOPT (R297): the processor has evaluated SF1, SF2, SF3 and SF6 for `clean` ms without a trip. -/
def execOutletAdopt (outlet : Outlet) (clean : Nat) (s : State) : Host.Outcome State Fault Refusal :=
  onChip s fun c =>
    match liveCtx c outlet.val with
    | some x => if mayAdopt c outlet.val && decide (20 ≤ clean) then adopt c outlet.val x else c
    | none => c

/-! ### The mirror (R21, R300) -/

/-- R300: the words of the safety-die mirror. -/
def nibWords (c : Chip) : List (Nat × Nat) :=
  let n := c.nib
  [(Reg.NIB_STATUS, n.gate.toNat + place 8 n.latch.toNat + place 16 n.weld.toNat + placeBit 24 n.procOk
      + placeBit 25 (n.degraded != 0) + placeBit 26 n.shtr + placeBit 27 n.selftestOk + placeBit 28 n.sealFault),
   (Reg.NIB_SEAL, n.sealNow.toNat + place 8 n.sealInvalid.toNat + place 16 n.window + placeBit 18 n.rdcEn
      + placeBit 19 n.peEn + placeBit 20 n.parityOk),
   (Reg.NIB_CAUSE, ((List.range 8).map (fun o => place (4 * o) (tget 0 n.causes o % 16))).sum),
   (Reg.NIB_DEGRADED, sat 65535 n.remainMs + place 16 n.degraded.toNat),
   (Reg.NIB_QA, n.bad + place 16 n.good)]

/-- R276: the Nib channel is healthy at a refresh: its self-test passed and no readback contradicts the mirror. -/
def nibHealthy (c : Chip) : Bool := c.nib.selftestOk && c.pwd.badLines == 0

/-- R276: the Nib channel has been healthy for 1 s: the loss is over. -/
def nibBack (c : Chip) : Chip :=
  match c.saf.healthyFrom with
  | some t =>
    if t + 2 ^ 32 ≤ c.tb.aon then
      clearSrc (clearSrc (dropSafeCause { c with saf := { c.saf with nibOk := true } } .nib) 113) 115
    else c
  | none => c

/-- R19, R21, R276: a refresh: the words, the health of the channel and since when it has lasted. -/
def refreshMirror (c : Chip) : Chip :=
  let late := overMs c c.saf.mirrorAt
  let c := (nibWords c).foldl (fun c e => regPut c e.1 (wordOf e.2)) c
  { c with saf := { c.saf with
    mirrorAt := some c.tb.aon,
    healthyFrom := if nibHealthy c then (if late then some c.tb.aon else some (c.saf.healthyFrom.getD c.tb.aon)) else none } }

/-- NIB_MIRROR_REFRESH (R21, R276) at an instant `since` angle 0; `bad` are the lines whose readback at the power die is open
or contradicts the mirror (R19). -/
def execNibMirrorRefresh (bad : BitVec 8) (since : Nat) (s : State) : Host.Outcome State Fault Refusal :=
  onChip s fun c => nibBack (refreshMirror (setBadLines (runTo c since) bad))

/-! ### Fault injection (R467, R468) -/

/-- R468: a Class S fault applied at its detection input. -/
def injectSafety (c : Chip) (s : Nat) : Chip :=
  let o := s % 8
  if 80 ≤ s ∧ s ≤ 87 then contactorTrip c o .mismatch .both
  else if 88 ≤ s ∧ s ≤ 95 then weldFound c o .both
  else if 96 ≤ s ∧ s ≤ 103 then precloseFailed c o
  else if s = 112 then lockstepMismatch c
  else if s = 113 then nibLost c 113
  else if s = 114 then procLost c
  else if s = 115 then nibLost c 115
  else reportSrc c s 0

/-- R467, R468: one force bit written as 1. -/
def forceOne (c : Chip) (s : Nat) : Chip :=
  if 152 ≤ s then c
  else if classS c s then
    if c.sup.mode = .factoryTest then
      injectSafety (regPut c (Reg.FLT_FORCE (s / 32)) (withBit (regGet c (Reg.FLT_FORCE (s / 32))) (s % 32) true)) s
    else raiseEvt c Reg.FLT_EVT 5
  else
    let c := regPut c (Reg.FLT_FORCE (s / 32)) (withBit (regGet c (Reg.FLT_FORCE (s / 32))) (s % 32) true)
    report c [{ src := s, level := ownLevel s, detail := 0, forced := true }]

/-- R467: one force bit written as 0. -/
def unforceOne (c : Chip) (s : Nat) : Chip :=
  clearSrc (regPut c (Reg.FLT_FORCE (s / 32)) (withBit (regGet c (Reg.FLT_FORCE (s / 32))) (s % 32) false)) s

/-- R467: a write to a word of FLT_FORCE. -/
def forceWrite (c : Chip) (w : Nat) (v : Word) : Chip :=
  let old := regGet c (Reg.FLT_FORCE w)
  (List.range 32).foldl (fun c b =>
    if bitOf v b && !bitOf old b then forceOne c (32 * w + b)
    else if !bitOf v b && bitOf old b then unforceOne c (32 * w + b)
    else c) c

/-- FAULT_FORCE_WRITE (R467, R468). -/
def execFaultForceWrite (w : Fin 16) (value : Word) (s : State) : Host.Outcome State Fault Refusal :=
  onChip s fun c => reach c (Reg.FLT_FORCE w.val) fun c => forceWrite c w.val value

end Sys2Proof.Machine
end

