-- ==== Sys2Proof/Machine/Outlets.lean ====
section
/-! DEFINITION. Outlets and vehicles (R236 to R258, R262 to R266): the pilot, proximity and the lock, SLAC and the
vehicle protocols, authorisation and session starts, contactor feedback; and their commands. -/

namespace Sys2Proof.Machine

/-! ### Who acts -/

/-- The outlet engines run while their region is not fenced (R16, R51). -/
def outletGate (f : Chip → Chip) (c : Chip) : Chip := if fenced c .out then c else f c

/-- The Green PHY modems also stop in Hold-up (R51). -/
def modemGate (f : Chip → Chip) (c : Chip) : Chip := if fenced c .out || c.sup.mode == .holdUp then c else f c

/-- The service firmware carries a vehicle protocol, over a modem (R254). -/
def hlcGate (f : Chip → Chip) (c : Chip) : Chip := if fenced c .svc || !ready c .svc then c else modemGate f c

/-- A command to the outlet engines. -/
def viaOutlet (s : State) (f : Chip → Chip) : Host.Outcome State Fault Refusal := onChip s (outletGate f)

/-- A command to the Green PHY modems. -/
def viaModem (s : State) (f : Chip → Chip) : Host.Outcome State Fault Refusal := onChip s (modemGate f)

/-- A command to the service firmware (R350). -/
def viaService (s : State) (f : Chip → Chip) : Host.Outcome State Fault Refusal :=
  onChip s fun c => if fenced c .svc || !ready c .svc then c else f c

/-- A command to the part of the service firmware that runs a vehicle protocol. -/
def viaHlc (s : State) (f : Chip → Chip) : Host.Outcome State Fault Refusal := onChip s (hlcGate f)

/-- R445: an event joins those latched. -/
def latch (c : Chip) (i : OutEvent) : Chip := { c with latched := c.latched ++ [i] }

/-- R445: an event for the outlet firmware is acted on, or latched while it is being placed. -/
def latching (s : State) (i : OutEvent) (gate : (Chip → Chip) → Chip → Chip) (f : Chip → Chip) :
    Host.Outcome State Fault Refusal :=
  onChip s fun c => if outletPlacing c then latch c i else gate f c

/-- R445: a proximity event. -/
def takeOutlet (s : State) (i : OutEvent) (f : Chip → Chip) : Host.Outcome State Fault Refusal := latching s i outletGate f

/-- R445: a message of a matching. -/
def takeModem (s : State) (i : OutEvent) (f : Chip → Chip) : Host.Outcome State Fault Refusal := latching s i modemGate f

/-- R445: a message of a vehicle protocol. -/
def takeHlc (s : State) (i : OutEvent) (f : Chip → Chip) : Host.Outcome State Fault Refusal := latching s i hlcGate f

/-! ### Kinds of operation -/

/-- R244, R253: the outlet charges without high-level communication. -/
def basicMode (c : Chip) (o : Nat) : Bool :=
  isAc c o && cfgBit c (Reg.OUT_CFG o) 5 && (!cfgBit c (Reg.OUT_CFG o) 4 || decide (3 ≤ (outletOf c o).slacFails))

/-- R246, R247: a cable class, or a latched handle, is accepted. -/
def ppValid (x : OutletSt) : Bool := x.pp == .a13 || x.pp == .a20 || x.pp == .a32 || x.pp == .a63 || x.pp == .latched

/-- R240: a vehicle is connected. -/
def cpConnected (p : Cp) : Bool := p == .b || p == .c || p == .d

/-- R64: a session here is not billed: energisation in Provisioned, or in Factory-test mode (log 19). -/
def unbilled (c : Chip) : Bool := c.sup.lcs == .provisioned || c.sup.mode == .factoryTest

/-! ### Starting a session (R199, R257, R258, R264, R364) -/

/-- R257: AUTHORISED is entered: the pre-close test is flagged (R288), and the duty follows (R242). -/
def enterAuthorised (c : Chip) (o : Outlet) (ctx : Option Nat) : Chip :=
  let c := modOutlet c o.val (fun x => { x with state := .authorised, ctx := ctx, waitSince := 0, preclosed := none })
  updateIlim { c with saf := { c.saf with precloseReq := some o.val } } o.val

/-- R257: a start or an authorisation is refused. -/
def startFailed (c : Chip) (o : Outlet) : Chip :=
  let c := outEvt c o.val 3
  let c := dropAuth c o.val (ansReject .rule)
  let c := modOutlet c o.val (fun x => { x with auth := none })
  if (outletOf c o.val).state = .negotiating then enterFinishing c o.val else c

/-- R362, R364: SESSION_ID as a completion carries it. -/
def sidResult (sid : BitVec 128) : List Byte := leBytes 16 sid.toNat

/-- The tag a start is recorded with, and whether the host gave it. -/
def startTag : Option Requester → Bool × Word
  | some (.host _ t) => (true, t)
  | some (.service t) => (false, t)
  | none => (false, 0)

/-- R257: the point at which an accepted authorisation can open its session. -/
def startable (c : Chip) (o : Nat) : Bool :=
  let x := outletOf c o
  (x.state == .plugged && basicMode c o && ppValid x) || (x.state == .negotiating && x.paramDone)

/-- R44: no new session starts in Activation-pause. -/
def sessionsPaused (c : Chip) : Bool := c.sup.mode == .activationPause

/-- R199, R257: an outlet with an accepted authorisation opens its session when it can. -/
def tryStart (c : Chip) (o : Outlet) : Chip :=
  let x := outletOf c o.val
  match x.auth with
  | none => c
  | some (ref, pt) =>
    if !startable c o.val || sessionsPaused c then c
    else
      let owner := match x.authWait with | some w => w.owner | none => none
      if unbilled c && owner.isNone then
        enterAuthorised (modOutlet c o.val (fun x => { x with authWait := none })) o none
      else if startRefused c o.val pt then startFailed (raiseEvt c Reg.TAR_EVT 7) o
      else
        let (host, tag) := startTag owner
        match startSession c o.val pt ref host tag with
        | none => startFailed (raiseEvt c Reg.TAR_EVT 7) o
        | some (k, c) =>
          let c := modOutlet c o.val (fun x => { x with authWait := none, reserved := none })
          let c := emit c (.ocppTx 0 o.val (ctxOf c k).sessionId 0)
          let c := completeOpt c owner { ansOk with aux := k, result := sidResult (ctxOf c k).sessionId }
          enterAuthorised c o (some k)

/-- R257, R258, R264: an authorisation is accepted; after state A, or with a LIVE context, it is not taken. -/
def authAccepted (c : Chip) (o : Outlet) (ref : BitVec 128) (pt group : Nat) : Chip :=
  let x := outletOf c o.val
  let waits := x.state == .plugged || x.state == .linking || x.state == .negotiating
  if !waits || x.cp == .a then dropAuth c o.val (ansReject .rule)
  else if (liveCtx c o.val).isSome then raiseEvt (dropAuth c o.val (ansReject .rule)) Reg.TAR_EVT 7
  else if !unbilled c && startRefused c o.val pt then startFailed (raiseEvt c Reg.TAR_EVT 7) o
  else
    let c := modOutlet c o.val (fun x => { x with auth := some (ref, pt), authGroup := group, waitSince := 0 })
    tryStart (outEvt c o.val 2) o

/-- R203: AUTH_REF of an identifier. -/
def authRefOf (ident : List Byte) : BitVec 128 := (Config.shake256 ident).extractLsb' 128 128

/-- R264: an entry that has not expired. -/
def entryValid (c : Chip) (e : AuthEntry) : Bool := e.expiry == 0 || decide (wallSec c < e.expiry)

/-- R264, R265: the list's entries of an AUTH_REF: one that is no CACHE entry, and one that is. -/
def listEntries (c : Chip) (ref : BitVec 128) : List AuthEntry := c.outl.list.filter (fun e => e.hash == ref)

/-- R264 step 2: the entry that decides: a blocked one, or one accepted that has not expired. -/
def listEntry (c : Chip) (ref : BitVec 128) : Option AuthEntry :=
  match (listEntries c ref).find? (fun e => e.status == 1) with
  | some e => some e
  | none => (listEntries c ref).find? (fun e => e.status == 0 && entryValid c e)

/-- R256, R264: the backend is reachable: its TLS session stands (log 20). -/
def backendUp (c : Chip) : Bool := c.tru.tls.any (fun t => t.peer == 0 && t.established)

/-- R264 step 4: the offline rule. -/
def offlineRule (c : Chip) (o : Outlet) (ref : BitVec 128) (pt : Nat) : Chip :=
  if cfg c (Reg.OUT_AUTH_CFG o.val) 1 0 = 2 then authAccepted c o ref pt 0 else startFailed c o

/-- R264 steps 3 and 4: the backend is asked, or the offline rule decides. -/
def askBackend (c : Chip) (o : Outlet) (w : AuthWait) : Chip :=
  let c := modOutlet c o.val (fun x => { x with authWait := some w })
  if backendUp c then emit c (.ocpp 1 o.val true) else offlineRule c o w.authRef w.ptable

/-- R264 step 2: the local list. -/
def askList (c : Chip) (o : Outlet) (w : AuthWait) : Chip :=
  let c := modOutlet c o.val (fun x => { x with authWait := some w })
  match listEntry c w.authRef with
  | some e =>
    if e.status = 1 then startFailed c o else authAccepted c o w.authRef w.ptable e.group
  | none => askBackend c o w

/-- R264 step 1: Plug & Charge with a contract chain that verifies or not. -/
def askChain (c : Chip) (o : Outlet) (w : AuthWait) (chainOk : Bool) : Chip :=
  let c := modOutlet c o.val (fun x => { x with authWait := some w })
  if !chainOk then startFailed c o
  else if backendUp c then
    emit (modOutlet c o.val (fun x => { x with authWait := some { w with chain := true } })) (.ocpp 1 o.val true)
  else if cfgBit c (Reg.OUT_AUTH_CFG o.val) 2 then authAccepted c o w.authRef w.ptable 0
  else askList c o w

/-- R256 H, R264: an authorisation may begin on an outlet: none under way, and a reservation is for this one. -/
def mayAuthorise (c : Chip) (o : Nat) (ref : BitVec 128) : Bool :=
  let x := outletOf c o
  x.auth.isNone && x.authWait.isNone && !sessionsPaused c && !c.sup.draining.getLsbD o && (liveCtx c o).isNone && !outletDisabled c o
    && (match x.reserved with | some r => r == ref | none => true)

/-- R264: a start that carries its own authorisation, or one that is authorised like a card (AuthorizeRemoteStart). -/
def beginStart (c : Chip) (o : Outlet) (w : AuthWait) (own : Bool) : Chip :=
  if own then authAccepted (modOutlet c o.val (fun x => { x with authWait := some w })) o w.authRef w.ptable 0
  else askList c o w

/-- R256: AuthorizeRemoteStart. -/
def authRemote (c : Chip) : Bool := tget 0 c.outl.ocppVars 0 != 0

/-- R364: a host start already recorded on the outlet under this tag. -/
def recordedStart (c : Chip) (o : Nat) (req : Requester) : Option StartRec :=
  match req with
  | .host _ t => (startsOf c o).find? (fun r => r.host && r.tag == t)
  | .service _ => none

/-- R364: the answer to a start whose tag is recorded. -/
def recordedAnswer (c : Chip) (r : StartRec) : Answer :=
  let k := ctxOf c r.ctx
  if k.sessionId == r.sessionId && (k.bstate == .live || k.bstate == .settling || k.bstate == .awaiting) then
    { ansReplay ansOk with aux := r.ctx, result := sidResult r.sessionId }
  else { ansReject .settled with result := sidResult r.sessionId }

/-- SESSION_START (R362, R364, R199, R258, R264). -/
def execSessionStart (req : Requester) (outlet : Outlet) (ptable : Nat) (auth : Bool) (kind : Nat)
    (ident : List Byte) (s : State) : Host.Outcome State Fault Refusal :=
  onChip s fun c => perform c req 0x0401 (.outletEngine outlet) (fun c =>
    let o := outlet.val
    match recordedStart c o req with
    | some r => complete c req (recordedAnswer c r)
    | none =>
      let x := outletOf c o
      let ref := authRefOf ident
      if outletDisabled c o then complete c req (ansStatus .disabled)
      else if sessionsPaused c then complete c req (ansReject .mode)
      else if ident.isEmpty ∨ 40 < ident.length ∨ 2 < kind ∨ 15 < ptable then complete c req (ansReject .field)
      else if (liveCtx c o).isSome then complete (raiseEvt c Reg.TAR_EVT 7) req (ansReject .rule)
      else if (x.state ≠ .plugged ∧ x.state ≠ .linking ∧ x.state ≠ .negotiating) ∨ mayAuthorise c o ref = false then
        complete c req (ansReject .rule)
      else if startRefused c o ptable then complete (raiseEvt (outEvt c o 3) Reg.TAR_EVT 7) req (ansReject .rule)
      else
        let w : AuthWait := { src := .hostStart, authRef := ref, ptable := ptable, owner := some req, chain := false }
        beginStart c outlet w (!auth && !authRemote c))

/-- R362, R364: SESSION_STOP of a session this module holds. -/
def sessionStop (c : Chip) (req : Requester) (sid : BitVec 128) : Chip :=
  match ctxOfSession c sid with
  | none =>
    match settledRecord c sid with
    | some (seq, total) => complete c req (ansReplay (stopAnswer 0 seq total))
    | none => complete c req (ansReject .gone)
  | some x =>
    let k := ctxOf c x
    let wait := fun (c : Chip) => setCtx c x { ctxOf c x with waiters := (ctxOf c x).waiters ++ [req] }
    match k.bstate with
    | .live => stopOutlet (wait c) (Fin.ofNat 8 k.outlet) 0
    | .settling => wait c
    | .adopted => wait c
    | .awaiting =>
      match k.entry with
      | some (seq, total) => complete c req (ansReplay (stopAnswer x seq total))
      | none => complete c req (ansReject .gone)
    | .replica => complete c req (ansReject .rule)
    | .free => complete c req (ansReject .gone)

/-- The block of a SESSION_STOP: the outlet engine of the context. -/
def stopBlock (c : Chip) (sid : BitVec 128) : Block :=
  match ctxOfSession c sid with
  | some x => .outletEngine (Fin.ofNat 8 (ctxOf c x).outlet)
  | none => .outletEngine 0

/-- SESSION_STOP (R362, R364). -/
def execSessionStop (req : Requester) (sessionId : BitVec 128) (s : State) : Host.Outcome State Fault Refusal :=
  onChip s fun c => perform c req 0x0402 (stopBlock c sessionId) (fun c => sessionStop c req sessionId)

/-! ### The pilot (R241 to R245, R257) -/

/-- R257: PLUGGED: the lock is driven, 5 % duty where high-level communication is offered, and a held card is
given (R266). -/
def plugIn (c : Chip) (o : Outlet) : Chip :=
  let c := driveLock c o.val true
  if offersHlc c o.val then pilotDuty c o.val 50 else pilotSteady c o.val

/-- R257, R266: a vehicle is connected to an IDLE outlet; with no valid PP class it stays in PLUGGED without PWM
(R246). -/
def enterPlugged (c : Chip) (o : Outlet) : Chip :=
  let n := c.outl.waitCounter + 1
  let c := { c with outl := { c.outl with waitCounter := n } }
  let c := modOutlet c o.val (fun x => { x with state := .plugged, waitSince := n, slacFails := 0, lockTries := 0 })
  let c := outEvt c o.val 0
  let c := if ppValid (outletOf c o.val) then plugIn c o else c
  match c.outl.heldCard with
  | some (ref, pt) =>
    if mayAuthorise c o.val ref then
      askList { c with outl := { c.outl with heldCard := none } } o
        { src := .nfc, authRef := ref, ptable := pt, owner := none, chain := false }
    else c
  | none => c

/-- R257: state A: the vehicle has left. An energised outlet trips SF3 (R280). -/
def unplugged (c : Chip) (o : Outlet) : Chip :=
  let x := outletOf c o.val
  let c := outEvt c o.val 1
  if energised c o.val then channelTrip c .processor fun ch => trip c o.val .sf3 ch 5
  else match x.state with
    | .idle => c
    | .faulted => tryIdle c o.val
    | .finishing => tryIdle c o.val
    | .unavailable => c
    | _ => tryIdle (enterFinishing (stopSession (processorOff c o.val) o.val 0) o.val) o.val

/-- R244, R257: the vehicle leaves C or D: a pause without high-level communication, a stop with it. -/
def vehicleEnds (c : Chip) (o : Outlet) : Chip :=
  let x := outletOf c o.val
  match x.state with
  | .energised => enterOpening c o (if x.hlc = .none ∧ isAc c o.val then .pause else .stop)
  | .closing =>
    let pause := decide (x.hlc = .none) && isAc c o.val
    if (coilOf c o.val).cmd then (if pause then c else modOutlet c o.val (fun x => { x with why := .stop }))
    else if pause then modOutlet (processorOff c o.val) o.val (fun x => { x with state := .authorised, testDue := false })
    else stopOutlet c o 0
  | .checking => enterOpening c o .stop
  | .precharge => enterOpening c o .stop
  | _ => c

/-- A value within a band, in mV. -/
def inBand (v lo hi : Int) : Bool := decide (lo ≤ v) && decide (v ≤ hi)

/-- R240: the state of a pair of plateaus in mV, on the connector side; a negative plateau counts while PWM runs, or while
the generator is held at −12 V. -/
def pilotStateOf (drive : PilotDrive) (pwm : Bool) (vpos vneg : Int) : Cp :=
  let low := inBand vneg (-13000) (-11000)
  if drive = .stateF ∧ low = true then .f
  else if inBand vpos 11000 13000 then .a
  else if inBand vpos (-1000) 1000 then .e
  else if pwm && !low then .invalid
  else if inBand vpos 8000 10000 then .b
  else if inBand vpos 5000 7000 then .c
  else if inBand vpos 2000 4000 then .d
  else .invalid

/-- R240: the state of plateaus on an outlet. -/
def pilotAt (c : Chip) (o : Nat) (vpos vneg : Int) : Cp :=
  pilotStateOf (tget .zero c.pwd.pilots o) (outletOf c o).pwm vpos vneg

/-- R241, R257: the plateaus of an outlet are accepted. -/
def pilotAccepted (c : Chip) (o : Outlet) (vpos vneg : Int) : Chip :=
  let p := pilotAt c o.val vpos vneg
  let old := (outletOf c o.val).cp
  let c := modOutlet c o.val (fun x => { x with cp := p, vpos := vpos, vneg := vneg })
  let x := outletOf c o.val
  if p = .a then (if old = .a then c else unplugged c o)
  else if cpConnected p then
    if x.state = .idle then enterPlugged c o
    else if cpReady c o.val then tryClose c o
    else vehicleEnds c o
  else c

/-- PILOT_STATE_ACCEPTED (R241). -/
def onPilotStateAccepted (outlet : Outlet) (vpos vneg : Int) (angle : Nat) (c : Chip) : Chip :=
  pilotAccepted (atAngle c angle) outlet vpos vneg

/-- R280, R445: the safety processor sees state A on an energised outlet whatever its firmware does. -/
def pilotSafety (c : Chip) (o : Outlet) (vpos vneg : Int) : Chip :=
  if pilotAt c o.val vpos vneg = .a ∧ energised c o.val = true then
    outletGate (fun c => channelTrip c .processor fun ch => trip c o.val .sf3 ch 5) c
  else c

/-- The command, at once or as the outlet firmware runs again (R445). -/
def execPilotStateAccepted (outlet : Outlet) (vpos vneg : Int) (angle : Nat) (s : State) :
    Host.Outcome State Fault Refusal :=
  onChip s fun c =>
    if outletPlacing c then pilotSafety (latch c (.pilotStateAccepted outlet vpos vneg angle)) outlet vpos vneg
    else outletGate (onPilotStateAccepted outlet vpos vneg angle) c

/-- R241, R445: the state accepted last, be it still latched. -/
def presentCp (c : Chip) (o : Outlet) : Cp :=
  c.latched.foldl (fun p e => match e with
    | .pilotStateAccepted q vpos vneg _ => if q = o then pilotAt c o.val vpos vneg else p
    | _ => p) (outletOf c o.val).cp

/-- PILOT_ERROR (R241, R280): Invalid or E for 100 ms is SF3. -/
def execPilotError (outlet : Outlet) (s : State) : Host.Outcome State Fault Refusal :=
  viaOutlet s fun c =>
    let p := presentCp c outlet
    if p = .e ∨ p = .invalid then channelTrip c .processor fun ch => trip c outlet.val .sf3 ch 5 else c

/-- PWM_OFF_TIMEOUT (R244): still in C 6 s after PWM went off. -/
def execPwmOffTimeout (outlet : Outlet) (angle : Nat) (s : State) : Host.Outcome State Fault Refusal :=
  viaOutlet s fun c =>
    let c := atAngle c angle
    let x := outletOf c outlet.val
    if x.state = .energised ∧ x.pwm = false ∧ x.hlc = .none ∧ isAc c outlet.val = true then
      enterOpening c outlet .pause
    else c

/-- OVERCURRENT_TIMEOUT (R245). -/
def execOvercurrentTimeout (outlet : Outlet) (angle : Nat) (s : State) : Host.Outcome State Fault Refusal :=
  viaOutlet s fun c =>
    let c := atAngle c angle
    if (outletOf c outlet.val).state = .energised ∧ isAc c outlet.val = true then
      stopOutlet (outEvt c outlet.val 11) outlet 0
    else c

/-! ### Proximity and the lock (R246 to R249) -/

/-- R246: cable capacity in A of a class. -/
def ppAmps (p : Pp) : Nat := match p with | .a13 => 13 | .a20 => 20 | .a32 => 32 | .a63 => 63 | _ => 0

/-- R248: the states in which a loss of the cable or the lock opens at once. -/
def closedSide (s : OState) : Bool := s == .closing || s == .checking || s == .precharge || s == .energised

/-- R246: PPn reads a cable, on a socket outlet; R247: the handle latch, on a tethered or DC one. -/
def ppLatch (c : Chip) (o : Nat) : Bool := isDc c o || cfgBit c (Reg.OUT_CFG o) 3

/-- R246: R at a voltage in mV on PPn lies in a band of Ω. -/
def ohmWithin (mv lo hi : Nat) : Bool := decide (lo * (5000 - mv) ≤ 330 * mv) && decide (330 * mv ≤ hi * (5000 - mv))

/-- R246: R at a voltage on PPn lies above a value. -/
def ohmAbove (mv v : Nat) : Bool := decide (v * (5000 - mv) < 330 * mv)

/-- R246, R247: the class of a voltage in mV on PPn. -/
def ppOf (latch : Bool) (mv : Nat) : Pp :=
  if ohmAbove mv 4500 then .noCable
  else if latch then (if 330 * mv < 300 * (5000 - mv) then .latched else .invalid)
  else if ohmWithin mv 1100 2460 then .a13
  else if ohmWithin mv 400 936 then .a20
  else if ohmWithin mv 164 308 then .a32
  else if ohmWithin mv 80 140 then .a63
  else if 330 * mv < 50 * (5000 - mv) then .short
  else .invalid

/-- R246, R268: OHM, whose rounding is open (log 2); all ones above 65,534 Ω. -/
def ohmOf (c : Chip) (o mv : Nat) : Nat :=
  if ohmAbove mv 65534 then 65535 else roundOpenNat c (6620 + o) (330 * mv) (5000 - mv)

/-- R246, R248: a voltage on PPn has lain in the band of one class for 20 ms. -/
def ppAccepted (c : Chip) (o : Outlet) (mv : Nat) : Chip :=
  let p := ppOf (ppLatch c o.val) mv
  let ohm := ohmOf c o.val mv
  let c := takeFree c
  let old := outletOf c o.val
  let c := modOutlet c o.val (fun x => { x with pp := p, ohm := sat 65535 ohm, capA := ppAmps p })
  if closedSide old.state && ppValid old && p != old.pp then enterFaulted c o.val 0
  else
    let c := if old.state = .plugged ∧ ppValid old = false ∧ ppValid (outletOf c o.val) = true then plugIn c o else c
    tryStart (updateIlim (takeFree c) o.val) o

/-- PP_CLASS_ACCEPTED (R246). -/
def onPpClassAccepted (outlet : Outlet) (mv : Nat) (c : Chip) : Chip :=
  ppAccepted c outlet mv

/-- The command, at once or as the outlet firmware runs again (R445). -/
def execPpClassAccepted (outlet : Outlet) (mv : Nat) (s : State) : Host.Outcome State Fault Refusal :=
  takeOutlet s (.ppClassAccepted outlet mv) (onPpClassAccepted outlet mv)

/-- LOCK_TIMEOUT (R249): the lock does not read locked; after the third failure the session is FAULTED. An unlock pulse that
ends leaves what the feedback reads. -/
def execLockTimeout (outlet : Outlet) (s : State) : Host.Outcome State Fault Refusal :=
  viaOutlet s fun c =>
    let o := outlet.val
    let x := outletOf c o
    let locking := x.state == .plugged || x.state == .linking || x.state == .negotiating || x.state == .authorised
    if x.lock == .moving && !x.locking then modOutlet c o (fun x => { x with lock := lockOf x.lockIn })
    else if locking && x.lock == .moving then
      let c := modOutlet (outEvt c o 8) o (fun x => { x with lock := .fault, lockTries := x.lockTries + 1 })
      if 3 ≤ x.lockTries + 1 then enterFaulted c o 0 else c
    else c

/-- LOCK_RETRY (R249). -/
def execLockRetry (outlet : Outlet) (s : State) : Host.Outcome State Fault Refusal :=
  viaOutlet s fun c =>
    let x := outletOf c outlet.val
    if x.lock = .fault ∧ (x.state = .plugged ∨ x.state = .linking ∨ x.state = .negotiating ∨ x.state = .authorised) then
      driveLock c outlet.val true
    else c

/-- R268: the level of FB_GPIO means locked. -/
def fbLocked (c : Chip) (o : Nat) (high : Bool) : Bool := high != cfgBit c (Reg.OUT_LOCK_CFG o) 13

/-- R249: a feedback level: what a pulse was driven for ends it; a lock that moves or has failed stays so until then. -/
def lockFeedback (x : OutletSt) (locked : Bool) : OutletSt :=
  let open' := x.lock == .moving || x.lock == .fault
  let x := { x with lockIn := locked, lock := if open' && locked != x.locking then x.lock else lockOf locked }
  if locked then { x with lockTries := 0 } else x

/-- LOCK_FEEDBACK_CHANGE (R249): the level of FB_GPIO; unlocked while ENERGISED is as a loss of the cable. -/
def execLockFeedbackChange (outlet : Outlet) (high : Bool) (s : State) : Host.Outcome State Fault Refusal :=
  viaOutlet s fun c =>
    let o := outlet.val
    let locked := fbLocked c o high
    let c := modOutlet c o (fun x => lockFeedback x locked)
    if !locked && (outletOf c o).state == .energised && cfgBit c (Reg.OUT_CFG o) 6 then enterFaulted c o 0
    else if locked then tryClose c outlet else c

/-! ### SLAC (R250 to R253) -/

/-- R251: the 5 % duty is offered. -/
def offers5 (x : OutletSt) : Bool := x.pwm && x.duty == 50

/-- CM_SLAC_PARM (R251). -/
def onCmSlacParm (outlet : Outlet) (runId : Nat) (c : Chip) : Chip :=
  let x := outletOf c outlet.val
  if x.state = .plugged ∧ offers5 x = true then
    emit (modOutlet c outlet.val (fun x => { x with state := .linking, runId := some runId, atten := none }))
      (.slac outlet.val 1 (beBytes 6 (tget 0 c.outl.macs outlet.val)))
  else c

/-- The command, at once or as the outlet firmware runs again (R445). -/
def execCmSlacParm (outlet : Outlet) (runId : Nat) (s : State) : Host.Outcome State Fault Refusal :=
  takeModem s (.cmSlacParm outlet runId) (onCmSlacParm outlet runId)

/-- R251: the outlet is LINKING in this matching. -/
def inMatch (c : Chip) (o runId : Nat) : Bool :=
  (outletOf c o).state == .linking && (outletOf c o).runId == some runId

/-- CM_START_ATTEN_CHAR (R251). -/
def onCmStartAttenChar (outlet : Outlet) (runId : Nat) (c : Chip) : Chip :=
  if inMatch c outlet.val runId then emit c (.slac outlet.val 2 []) else c

/-- The command, at once or as the outlet firmware runs again (R445). -/
def execCmStartAttenChar (outlet : Outlet) (runId : Nat) (s : State) : Host.Outcome State Fault Refusal :=
  takeModem s (.cmStartAttenChar outlet runId) (onCmStartAttenChar outlet runId)

/-- CM_MNBC_SOUND (R251): a sounding with its mean attenuation in 0.1 dB. -/
def onCmMnbcSound (outlet : Outlet) (runId atten : Nat) (c : Chip) : Chip :=
  if inMatch c outlet.val runId then modOutlet c outlet.val (fun x => { x with atten := some atten }) else c

/-- The command, at once or as the outlet firmware runs again (R445). -/
def execCmMnbcSound (outlet : Outlet) (runId atten : Nat) (s : State) : Host.Outcome State Fault Refusal :=
  takeModem s (.cmMnbcSound outlet runId atten) (onCmMnbcSound outlet runId atten)

/-- R252: another outlet sounded under the same RunID lies lower by at least 3 dB. -/
def clearlyLower (c : Chip) (o runId : Nat) : Bool :=
  match (outletOf c o).atten with
  | none => false
  | some a => (List.range 8).any (fun p => p != o && inMatch c p runId
      && (match (outletOf c p).atten with | some b => decide (b + 30 ≤ a) | none => false))

/-- CM_ATTEN_CHAR (R252). -/
def onCmAttenChar (outlet : Outlet) (runId : Nat) (c : Chip) : Chip :=
  if inMatch c outlet.val runId && !clearlyLower c outlet.val runId then emit c (.slac outlet.val 4 []) else c

/-- The command, at once or as the outlet firmware runs again (R445). -/
def execCmAttenChar (outlet : Outlet) (runId : Nat) (s : State) : Host.Outcome State Fault Refusal :=
  takeModem s (.cmAttenChar outlet runId) (onCmAttenChar outlet runId)

/-- CM_SLAC_MATCH (R251, R252, R426): a fresh 16-byte membership key, drawn for this match alone, and the network identifier
derived from it. -/
def onCmSlacMatch (outlet : Outlet) (runId : Nat) (c : Chip) : Chip :=
  if inMatch c outlet.val runId then
    let key := beBytes 16 ((drawn c).toNat / 2 ^ 128)
    let nid := Config.networkId key
    emit (takeFree (modOutlet c outlet.val (fun x => { x with nmkUsed := x.nmkUsed + 1, nid := nid })))
      (.slac outlet.val 5 (key ++ beBytes 7 nid))
  else c

/-- The command, at once or as the outlet firmware runs again (R445). -/
def execCmSlacMatch (outlet : Outlet) (runId : Nat) (s : State) : Host.Outcome State Fault Refusal :=
  takeModem s (.cmSlacMatch outlet runId) (onCmSlacMatch outlet runId)

/-- CM_SET_KEY (R251). -/
def onCmSetKey (outlet : Outlet) (runId : Nat) (c : Chip) : Chip :=
  if inMatch c outlet.val runId then emit c (.slac outlet.val 6 []) else c

/-- The command, at once or as the outlet firmware runs again (R445). -/
def execCmSetKey (outlet : Outlet) (runId : Nat) (s : State) : Host.Outcome State Fault Refusal :=
  takeModem s (.cmSetKey outlet runId) (onCmSetKey outlet runId)

/-- CM_VALIDATE (R251): answered when VALIDATE is 1. -/
def onCmValidate (outlet : Outlet) (runId : Nat) (c : Chip) : Chip :=
  if inMatch c outlet.val runId = true ∧ cfgBit c (Reg.OUT_GP_CFG outlet.val) 8 = true then
    emit c (.slac outlet.val 7 [])
  else c

/-- The command, at once or as the outlet firmware runs again (R445). -/
def execCmValidate (outlet : Outlet) (runId : Nat) (s : State) : Host.Outcome State Fault Refusal :=
  takeModem s (.cmValidate outlet runId) (onCmValidate outlet runId)

/-- SLAC_TIMEOUT (R253): +12 V for 4 s, and after the third failure basic charging or FAULTED. -/
def execSlacTimeout (outlet : Outlet) (s : State) : Host.Outcome State Fault Refusal :=
  viaModem s fun c =>
    let o := outlet.val
    let x := outletOf c o
    if x.state = .linking ∨ (x.state = .plugged ∧ offers5 x = true) then
      let c := pilotSteady (modOutlet c o (fun x => { x with
        state := .plugged, slacFails := x.slacFails + 1, runId := none, atten := none })) o
      if x.slacFails + 1 < 3 then modOutlet c o (fun x => { x with slacHold := true })
      else if basicMode c o then tryStart c outlet
      else enterFaulted (outEvt c o 6) o 0
    else c

/-- SLAC_RETRY_TIMER (R253): after 4 s the 5 % duty again. -/
def execSlacRetryTimer (outlet : Outlet) (s : State) : Host.Outcome State Fault Refusal :=
  viaModem s fun c =>
    let x := outletOf c outlet.val
    if x.state = .plugged ∧ x.slacHold = true then
      pilotDuty (modOutlet c outlet.val (fun x => { x with slacHold := false })) outlet.val 50
    else c

/-- GP_LINK_UP (R257). -/
def onGpLinkUp (outlet : Outlet) (c : Chip) : Chip :=
  if (outletOf c outlet.val).state = .linking then
    modOutlet c outlet.val (fun x => { x with state := .negotiating })
  else c

/-- The command, at once or as the outlet firmware runs again (R445). -/
def execGpLinkUp (outlet : Outlet) (s : State) : Host.Outcome State Fault Refusal :=
  takeModem s (.gpLinkUp outlet) (onGpLinkUp outlet)

/-! ### Vehicle protocols (R254, R255, R257) -/

/-- R254, R268: the protocol is enabled on the outlet and serves its kind. -/
def protoServed (c : Chip) (o : Nat) (p : Hlc) : Bool :=
  match p with
  | .none => false
  | .din => cfgBit c (Reg.OUT_CFG o) 12 && isDc c o
  | .iso2 => cfgBit c (Reg.OUT_CFG o) 13
  | .iso20 => cfgBit c (Reg.OUT_CFG o) 14

/-- R255: the LIVE session of an outlet is resumed by its SESSION_ID. -/
def resumes (c : Chip) (o : Nat) (sid : BitVec 128) : Bool :=
  (outletOf c o).resume && (match liveCtx c o with | some x => (ctxOf c x).sessionId == sid | none => false)

/-- R254: the TLS version (0 none, 2 for 1.2, 3 for 1.3) that a protocol runs over. -/
def tlsFits (p : Hlc) (tls : Nat) : Bool :=
  match p with
  | .none => false
  | .din => tls == 0
  | .iso2 => tls == 0 || tls == 2
  | .iso20 => tls == 3

/-- R242, R254: the protocol of an outlet's session, at the 5 % duty of high-level communication. -/
def runsHlc (c : Chip) (o : Nat) (p : Hlc) (tls : Nat) : Chip :=
  pilotDuty (modOutlet c o (fun x => { x with hlc := p, tls := tls, resume := false })) o 50

/-- SESSION_SETUP_REQ (R254, R255). -/
def onSessionSetupReq (outlet : Outlet) (proto : Hlc) (tls : Nat) (sessionId : BitVec 128) (c : Chip) : Chip :=
  let o := outlet.val
  let x := outletOf c o
  if !protoServed c o proto || !tlsFits proto tls then emit c (.hlc o 1 false)
  else if resumes c o sessionId then
    let c := runsHlc c o proto tls
    let c := if x.state = .energised then c else enterAuthorised c outlet (liveCtx c o)
    emit c (.hlc o 1 true)
  else if x.state = .negotiating then emit (runsHlc c o proto tls) (.hlc o 1 true)
  else c

/-- The command, at once or as the outlet firmware runs again (R445). -/
def execSessionSetupReq (outlet : Outlet) (proto : Hlc) (tls : Nat) (sessionId : BitVec 128) (s : State) :
    Host.Outcome State Fault Refusal :=
  takeHlc s (.sessionSetupReq outlet proto tls sessionId) (onSessionSetupReq outlet proto tls sessionId)

/-- SESSION_RESUME_TIMEOUT (R255): 60 s after OUT rose. -/
def execSessionResumeTimeout (outlet : Outlet) (angle : Nat) (s : State) : Host.Outcome State Fault Refusal :=
  viaOutlet s fun c =>
    let c := atAngle c angle
    let o := outlet.val
    if (outletOf c o).resume then
      let c := modOutlet c o (fun x => { x with resume := false })
      let c := match liveCtx c o with
        | some x => setCtx c x { ctxOf c x with flags := (ctxOf c x).flags ||| flagBit 2 }
        | none => c
      if energised c o then stopOutlet c outlet 0 else enterFinishing (stopSession c o 0) o
    else c

/-- AUTHORIZATION_REQ (R257, R264): Plug & Charge with its contract identifier, or External Identification Means,
which waits for a card or a remote start. -/
def onAuthorizationReq (outlet : Outlet) (pnc chainOk : Bool) (ident : List Byte) (ptable : Nat) (c : Chip) : Chip :=
  let o := outlet.val
  let x := outletOf c o
  if x.state ≠ .negotiating then c
  else if pnc then
    let w : AuthWait := { src := .plugCharge, authRef := authRefOf ident, ptable := ptable, owner := none, chain := false }
    if !cfgBit c (Reg.OUT_CFG o) 16 || x.hlc == .din || x.tls == 0 then emit c (.hlc o 2 false)
    else if mayAuthorise c o w.authRef then askChain c outlet w chainOk
    else c
  else emit c (.hlc o 2 x.auth.isSome)

/-- The command, at once or as the outlet firmware runs again (R445). -/
def execAuthorizationReq (outlet : Outlet) (pnc chainOk : Bool) (ident : List Byte) (ptable : Nat) (s : State) :
    Host.Outcome State Fault Refusal :=
  takeHlc s (.authorizationReq outlet pnc chainOk ident ptable) (onAuthorizationReq outlet pnc chainOk ident ptable)

/-- R243, R254: an answer with the limits in force; the reverse current is DC_BPT's. -/
def answerLimits (c : Chip) (o kind : Nat) (ok : Bool) : Chip :=
  let rev := if (outletOf c o).bpt then cfg c (Reg.OUT_LIMIT o) 31 16 else 0
  emits c [.hlc o kind ok, .limits o (outletOf c o).ilim rev]

/-- R254: the service a vehicle chooses is one of its protocol's: reverse power only as DC_BPT of ISO 15118-20, and the dynamic
control mode only there. -/
def serviceFits (c : Chip) (o : Nat) (bpt dynamic : Bool) : Bool :=
  (!bpt || ((outletOf c o).hlc == .iso20 && outKind c o == 3)) && (!dynamic || (outletOf c o).hlc == .iso20)

/-- R254: ISO 15118-2 offers up to 3 schedules of up to 24 entries. -/
def offerSchedules (c : Chip) (o : Nat) (schedules : List (List Nat)) : Chip :=
  if (outletOf c o).hlc = .iso2 then emit c (.schedules o ((schedules.take 3).map (·.take 24))) else c

/-- CHARGE_PARAMETER_DISCOVERY_REQ (R254, R257): `schedules` are those the service firmware has to offer. -/
def onChargeParameterDiscoveryReq (outlet : Outlet) (bpt dynamic : Bool) (schedules : List (List Nat)) (c : Chip) : Chip :=
  let o := outlet.val
  if (outletOf c o).state = .negotiating then
    if serviceFits c o bpt dynamic then
      let c := modOutlet c o (fun x => { x with paramDone := true, bpt := bpt, dynamic := dynamic })
      let c := updateIlim (takeFree (tryStart c outlet)) o
      offerSchedules (answerLimits c o 3 true) o schedules
    else emit c (.hlc o 3 false)
  else c

/-- The command, at once or as the outlet firmware runs again (R445). -/
def execChargeParameterDiscoveryReq (outlet : Outlet) (bpt dynamic : Bool) (schedules : List (List Nat)) (s : State) :
    Host.Outcome State Fault Refusal :=
  takeHlc s (.chargeParameterDiscoveryReq outlet bpt dynamic schedules) (onChargeParameterDiscoveryReq outlet bpt dynamic schedules)

/-- R257: the converters' greatest output voltage, mV. -/
def outputMv (c : Chip) (o : Nat) : Nat := ((presentModules c o).map (fun (b, a) => (moduleOf c b a).mv)).foldl max 0

/-- R257: the converters' output current, mA. -/
def outputMa (c : Chip) (o : Nat) : Int := ((presentModules c o).map (fun (b, a) => (moduleOf c b a).ma)).sum

/-- CABLE_CHECK_REQ (R257, R284): closes from AUTHORISED with the output below 60 V; in CHECKING it is answered with
the insulation result. -/
def onCableCheckReq (outlet : Outlet) (c : Chip) : Chip :=
  let o := outlet.val
  let x := outletOf c o
  if isDc c o ∧ x.state = .authorised ∧ cpReady c o = true ∧ outputMv c o < 60000 then startClosing c outlet
  else if x.state = .checking then emit c (.hlc o 4 (decide (2 ≤ tget 0 c.saf.imdGood o)))
  else c

/-- The command, at once or as the outlet firmware runs again (R445). -/
def execCableCheckReq (outlet : Outlet) (s : State) : Host.Outcome State Fault Refusal :=
  takeHlc s (.cableCheckReq outlet) (onCableCheckReq outlet)

/-- R268: a voltage target within VMAX, mV. -/
def capMv (c : Chip) (o mv : Nat) : Nat := min mv (cfg c (Reg.OUT_DCLIM o) 15 0 * 100)

/-- PRE_CHARGE_REQ (R257): needs a valid insulation result; at most 2 A. -/
def onPreChargeReq (outlet : Outlet) (mv ma : Nat) (c : Chip) : Chip :=
  let o := outlet.val
  let x := outletOf c o
  if (x.state = .checking ∧ 2 ≤ tget 0 c.saf.imdGood o) ∨ x.state = .precharge then
    emit (sendSetpoints (modOutlet c o (fun x => { x with
      state := .precharge, setMode := 1, setMv := capMv c o mv, setMa := (min ma 2000 : Nat) })) o) (.hlc o 5 true)
  else c

/-- The command, at once or as the outlet firmware runs again (R445). -/
def execPreChargeReq (outlet : Outlet) (mv ma : Nat) (s : State) : Host.Outcome State Fault Refusal :=
  takeHlc s (.preChargeReq outlet mv ma) (onPreChargeReq outlet mv ma)

/-- What a PowerDelivery request asks for. -/
def powerStart (c : Chip) (o : Outlet) : Chip :=
  let x := outletOf c o.val
  if x.state = .precharge then
    let d := ((outputMv c o.val : Int) - x.setMv).natAbs
    if d ≤ 20000 ∧ (outputMa c o.val).natAbs ≤ 2000 then
      updateIlim (takeFree (outEvt (modOutlet c o.val (fun x => { x with state := .energised, powerStart := true })) o.val 4)) o.val
    else c
  else tryClose (modOutlet c o.val (fun x => { x with powerStart := true })) o

/-- POWER_DELIVERY_REQ (R254, R257): start, stop or pause, which DIN SPEC 70121 has not. -/
def onPowerDeliveryReq (outlet : Outlet) (req : PowerReq) (angle : Nat) (c : Chip) : Chip :=
  let c := atAngle c angle
  let x := outletOf c outlet.val
  if x.hlc = .none then c
  else match req with
    | .start => answerLimits (powerStart c outlet) outlet.val 11 true
    | .stop => answerLimits (stopOutlet c outlet 0) outlet.val 11 true
    | .pause =>
      if x.hlc = .din then emit c (.hlc outlet.val 11 false)
      else answerLimits (if x.state = .energised then enterOpening c outlet .pause else c) outlet.val 11 true

/-- The command, at once or as the outlet firmware runs again (R445). -/
def execPowerDeliveryReq (outlet : Outlet) (req : PowerReq) (angle : Nat) (s : State) : Host.Outcome State Fault Refusal :=
  takeHlc s (.powerDeliveryReq outlet req angle) (onPowerDeliveryReq outlet req angle)

/-- R243, R254: a current target within ILIM forwards, and within IMAX_REV and the site's export grant in reverse on
a DC_BPT outlet under ISO 15118-20 (R5); mA. -/
def capMa (c : Chip) (o : Nat) (ma : Int) : Int :=
  if 0 ≤ ma then min ma ((outletOf c o).ilim * 100 : Nat)
  else if outKind c o = 3 ∧ (outletOf c o).hlc = .iso20 ∧ (outletOf c o).bpt = true then
    let rev := cfg c (Reg.OUT_LIMIT o) 31 16
    let cap := if cfgBit c Reg.FAB_CFG 2 then min rev (grantCurrent c o (tget 0 c.fab.grantExp o)) else rev
    (-1) * min (-ma) ((cap * 100 : Nat) : Int)
  else 0

/-- CURRENT_DEMAND_REQ (R254, R257). -/
def onCurrentDemandReq (outlet : Outlet) (mv : Nat) (ma : Int) (c : Chip) : Chip :=
  let o := outlet.val
  if isDc c o ∧ (outletOf c o).state = .energised then
    let t := capMa c o ma
    let c := modOutlet c o (fun x => { x with reqMa := some ma })
    let c := sendSetpoints (modOutlet c o (fun x => { x with
      setMode := if t < 0 then 2 else 1, setMv := capMv c o mv, setMa := t,
      setW := cfg c (Reg.OUT_DCLIM o) 31 16 * 100 })) o
    answerLimits c o 10 true
  else c

/-- The command, at once or as the outlet firmware runs again (R445). -/
def execCurrentDemandReq (outlet : Outlet) (mv : Nat) (ma : Int) (s : State) : Host.Outcome State Fault Refusal :=
  takeHlc s (.currentDemandReq outlet mv ma) (onCurrentDemandReq outlet mv ma)

/-- WELDING_DETECTION_REQ (R257): answered in FINISHING, before unlock. -/
def onWeldingDetectionReq (outlet : Outlet) (c : Chip) : Chip :=
  if isDc c outlet.val ∧ (outletOf c outlet.val).state = .finishing then
    unlockNow (emit c (.hlc outlet.val 6 true)) outlet.val
  else c

/-- The command, at once or as the outlet firmware runs again (R445). -/
def execWeldingDetectionReq (outlet : Outlet) (s : State) : Host.Outcome State Fault Refusal :=
  takeHlc s (.weldingDetectionReq outlet) (onWeldingDetectionReq outlet)

/-- SESSION_STOP_REQ (R257). -/
def onSessionStopReq (outlet : Outlet) (angle : Nat) (c : Chip) : Chip :=
  if (outletOf c outlet.val).hlc = .none then c
  else emit (unlockNow (stopOutlet (atAngle c angle) outlet 0) outlet.val) (.hlc outlet.val 7 true)

/-- The command, at once or as the outlet firmware runs again (R445). -/
def execSessionStopReq (outlet : Outlet) (angle : Nat) (s : State) : Host.Outcome State Fault Refusal :=
  takeHlc s (.sessionStopReq outlet angle) (onSessionStopReq outlet angle)

/-- METERING_RECEIPT_REQ (R254): ISO 15118-2, MeterInfo from context slot 24 in Wh. -/
def onMeteringReceiptReq (outlet : Outlet) (c : Chip) : Chip :=
  match liveCtx c outlet.val with
  | some x =>
    if (outletOf c outlet.val).hlc = .iso2 then
      emit c (.meterInfo outlet.val (reading (ctxAcc c x 24) / 2 ^ 32 / 1000))
    else emit c (.hlc outlet.val 8 false)
  | none => emit c (.hlc outlet.val 8 false)

/-- The command, at once or as the outlet firmware runs again (R445). -/
def execMeteringReceiptReq (outlet : Outlet) (s : State) : Host.Outcome State Fault Refusal :=
  takeHlc s (.meteringReceiptReq outlet) (onMeteringReceiptReq outlet)

/-- CERTIFICATE_INSTALLATION_REQ (R254, R256 M): CertificateInstallation, or CertificateUpdate, under ISO 15118-2; the
certificate the backend issues is kept in CERT. -/
def onCertificateInstallationReq (outlet : Outlet) (update : Bool) (cert : List Byte) (c : Chip) : Chip :=
  let kind := if update then 12 else 9
  if (outletOf c outlet.val).hlc = .iso2 then
    emit { c with outl := { c.outl with certs := cert :: c.outl.certs.filter (fun x => x != cert) } } (.hlc outlet.val kind true)
  else emit c (.hlc outlet.val kind false)

/-- The command, at once or as the outlet firmware runs again (R445). -/
def execCertificateInstallationReq (outlet : Outlet) (update : Bool) (cert : List Byte) (s : State) :
    Host.Outcome State Fault Refusal :=
  takeHlc s (.certificateInstallationReq outlet update cert) (onCertificateInstallationReq outlet update cert)

/-- HLC_TIMEOUT (R257). -/
def execHlcTimeout (outlet : Outlet) (s : State) : Host.Outcome State Fault Refusal :=
  viaHlc s fun c =>
    if (outletOf c outlet.val).state = .negotiating then enterFinishing (outEvt c outlet.val 7) outlet.val
    else unlockNow c outlet.val

/-! ### Events latched while the outlet firmware was placed (R445) -/

/-- R445: a latched event is acted on. -/
def playLatched (c : Chip) : OutEvent → Chip
  | .pilotStateAccepted outlet vpos vneg angle => outletGate (onPilotStateAccepted outlet vpos vneg angle) c
  | .ppClassAccepted outlet mv => outletGate (onPpClassAccepted outlet mv) c
  | .cmSlacParm outlet runId => modemGate (onCmSlacParm outlet runId) c
  | .cmStartAttenChar outlet runId => modemGate (onCmStartAttenChar outlet runId) c
  | .cmMnbcSound outlet runId atten => modemGate (onCmMnbcSound outlet runId atten) c
  | .cmAttenChar outlet runId => modemGate (onCmAttenChar outlet runId) c
  | .cmSlacMatch outlet runId => modemGate (onCmSlacMatch outlet runId) c
  | .cmSetKey outlet runId => modemGate (onCmSetKey outlet runId) c
  | .cmValidate outlet runId => modemGate (onCmValidate outlet runId) c
  | .gpLinkUp outlet => modemGate (onGpLinkUp outlet) c
  | .sessionSetupReq outlet proto tls sessionId => hlcGate (onSessionSetupReq outlet proto tls sessionId) c
  | .authorizationReq outlet pnc chainOk ident ptable =>
    hlcGate (onAuthorizationReq outlet pnc chainOk ident ptable) c
  | .chargeParameterDiscoveryReq outlet bpt dynamic schedules =>
    hlcGate (onChargeParameterDiscoveryReq outlet bpt dynamic schedules) c
  | .cableCheckReq outlet => hlcGate (onCableCheckReq outlet) c
  | .preChargeReq outlet mv ma => hlcGate (onPreChargeReq outlet mv ma) c
  | .powerDeliveryReq outlet req angle => hlcGate (onPowerDeliveryReq outlet req angle) c
  | .currentDemandReq outlet mv ma => hlcGate (onCurrentDemandReq outlet mv ma) c
  | .weldingDetectionReq outlet => hlcGate (onWeldingDetectionReq outlet) c
  | .sessionStopReq outlet angle => hlcGate (onSessionStopReq outlet angle) c
  | .meteringReceiptReq outlet => hlcGate (onMeteringReceiptReq outlet) c
  | .certificateInstallationReq outlet update cert => hlcGate (onCertificateInstallationReq outlet update cert) c

/-- R445: the restart acts on what was latched, in the order in which it came. -/
def playAll (c : Chip) : Chip := c.latched.foldl playLatched { c with latched := [] }

/-! ### Authorisation from outside (R264 to R266) -/

/-- R265: a CACHE entry added, in place of an older one of the same HASH: in a full list it replaces the oldest one, or is not
stored. -/
def addCache (l : List AuthEntry) (e : AuthEntry) : List AuthEntry :=
  let l := l.filter (fun x => !(x.hash == e.hash && x.cache))
  if l.length < 65536 then l ++ [e]
  else match l.find? (fun x => x.cache) with
    | some old => l.erase old ++ [e]
    | none => l

/-- AUTH_BACKEND_RESPONSE (R264): an answer after its timeout finds nothing waiting. -/
def execAuthBackendResponse (outlet : Outlet) (accepted : Bool) (group expiry : Nat) (s : State) :
    Host.Outcome State Fault Refusal :=
  viaService s fun c =>
    let x := outletOf c outlet.val
    match x.authWait, x.auth with
    | some w, none =>
      if accepted then
        let e : AuthEntry :=
          { hash := w.authRef, status := 0, cache := true, contract := w.src == .plugCharge, group := group, expiry := expiry }
        authAccepted { c with outl := { c.outl with list := addCache c.outl.list e } } outlet w.authRef w.ptable group
      else startFailed c outlet
    | _, _ => c

/-- AUTH_BACKEND_TIMEOUT (R264): after a chain that the backend has not decided comes the local list, and otherwise the
offline rule. -/
def execAuthBackendTimeout (outlet : Outlet) (s : State) : Host.Outcome State Fault Refusal :=
  viaService s fun c =>
    let x := outletOf c outlet.val
    match x.authWait, x.auth with
    | some w, none =>
      if w.chain then askList c outlet { w with chain := false } else offlineRule c outlet w.authRef w.ptable
    | _, _ => c

/-- AUTH_EXPIRY (R257): a stop. -/
def execAuthExpiry (outlet : Outlet) (angle : Nat) (s : State) : Host.Outcome State Fault Refusal :=
  viaService s fun c =>
    if (outletOf c outlet.val).auth.isSome then stopOutlet (atAngle c angle) outlet 0 else c

/-- R266: the outlet whose LIVE session a card stops: its AUTH_REF or its GROUP matches. -/
def cardStops (c : Chip) (ref : BitVec 128) : Option Outlet :=
  let group := match listEntry c ref with | some e => e.group | none => 0
  (List.finRange 8).find? (fun o => match liveCtx c o.val with
    | some x => (ctxOf c x).authRef == ref || (group != 0 && (outletOf c o.val).authGroup == group)
    | none => false)

/-- R266: the outlet a card goes to: the one selected where NFC_BIND is 1, and otherwise the one that has waited
longest. -/
def cardOutlet (c : Chip) (selected : Option Outlet) (ref : BitVec 128) : Option Outlet :=
  let waits := (List.finRange 8).filter (fun o =>
    let x := outletOf c o.val
    (x.state == .plugged || x.state == .negotiating) && x.waitSince != 0 && mayAuthorise c o.val ref
      && (!cfgBit c (Reg.OUT_AUTH_CFG o.val) 3 || selected == some o))
  match waits.find? (fun o => cfgBit c (Reg.OUT_AUTH_CFG o.val) 3) with
  | some o => some o
  | none => waits.foldl (fun a o => match a with
      | none => some o
      | some p => if (outletOf c o.val).waitSince < (outletOf c p.val).waitSince then some o else some p) none

/-- NFC_CARD_READ (R266): `selected` is the outlet last chosen at the user interface, `ptable` the price table the
service firmware names. -/
def execNfcCardRead (uid : List Byte) (ptable : Nat) (selected : Option Outlet) (angle : Nat) (s : State) :
    Host.Outcome State Fault Refusal :=
  viaService s fun c =>
    let c := atAngle c angle
    let ref := authRefOf uid
    if immBit c Reg.SUP_DISABLE 24 then c
    else match cardStops c ref with
      | some o => stopOutlet c o 0
      | none =>
        match cardOutlet c selected ref with
        | some o => askList c o { src := .nfc, authRef := ref, ptable := ptable, owner := none, chain := false }
        | none => { c with outl := { c.outl with heldCard := some (ref, ptable) } }

/-- NFC_CARD_HOLD_EXPIRY (R266). -/
def execNfcCardHoldExpiry (s : State) : Host.Outcome State Fault Refusal :=
  onChip s fun c => { c with outl := { c.outl with heldCard := none } }

/-! ### The local list (R265, R362) -/

/-- R265: an entry of 32 bytes. -/
def parseEntry (b : List Byte) : AuthEntry :=
  { hash := BitVec.ofNat 128 (beNat (b.take 16)), status := beNat ((b.drop 16).take 1),
    cache := bitOf (wordOf (beNat ((b.drop 17).take 1))) 0, contract := bitOf (wordOf (beNat ((b.drop 17).take 1))) 1,
    group := beNat ((b.drop 18).take 2), expiry := beNat ((b.drop 20).take 6) }

/-- R265: the entries of a buffer. -/
def parseEntries : Nat → List Byte → List AuthEntry
  | 0, _ => []
  | n + 1, b => if b.length < 32 then [] else parseEntry (b.take 32) :: parseEntries n (b.drop 32)

/-- R362: a full list replaces every entry that is not a CACHE entry; a differential one replaces or deletes
(STATUS 0xFF) by HASH. -/
def putList (old new : List AuthEntry) (diff : Bool) : List AuthEntry :=
  let keep := if diff then old.filter (fun e => !new.any (fun n => n.hash == e.hash))
    else old.filter (fun e => e.cache && !new.any (fun n => n.hash == e.hash))
  (new.filter (fun e => e.status != 0xFF)) ++ keep

/-- R265: the list keeps at most 65,536 entries, the newest ones written first. -/
def writeList (c : Chip) (new : List AuthEntry) (diff : Bool) (version : Nat) : Chip :=
  { c with outl := { c.outl with list := (putList c.outl.list new diff).take 65536, listVersion := version } }

/-- AUTH_LIST (R362). -/
def execAuthList (req : Requester) (mode version : Nat) (buffer : Option (List Byte)) (s : State) :
    Host.Outcome State Fault Refusal :=
  onChip s fun c => perform c req 0x0403 .service (fun c =>
    match buffer with
    | none => complete c req (ansReject .buffer)
    | some bs =>
      let es := parseEntries (bs.length / 32) bs
      if 1 < mode then complete c req (ansReject .field)
      else if bs.length % 32 ≠ 0 ∨ 65536 < bs.length / 32 ∨ es.any (fun e => e.cache) = true then
        complete c req (ansReject .buffer)
      else complete (writeList c es (mode == 1) version) req ansOk)

/-! ### OCPP (R256) -/

/-- OCPP_REMOTE_START (R256 F, R264). -/
def execOcppRemoteStart (outlet : Outlet) (ptable : Nat) (ident : List Byte) (s : State) :
    Host.Outcome State Fault Refusal :=
  viaService s fun c =>
    let x := outletOf c outlet.val
    let ref := authRefOf ident
    if (x.state = .plugged ∨ x.state = .linking ∨ x.state = .negotiating) ∧ mayAuthorise c outlet.val ref = true then
      beginStart (emit c (.ocpp 2 outlet.val true)) outlet
        { src := .remote, authRef := ref, ptable := ptable, owner := none, chain := false } (!authRemote c)
    else emit c (.ocpp 2 outlet.val false)

/-- OCPP_REMOTE_STOP (R256 F). -/
def execOcppRemoteStop (sessionId : BitVec 128) (angle : Nat) (s : State) : Host.Outcome State Fault Refusal :=
  viaService s fun c =>
    let c := atAngle c angle
    match ctxOfSession c sessionId with
    | some x =>
      if (ctxOf c x).bstate = .live then
        emit (stopOutlet c (Fin.ofNat 8 (ctxOf c x).outlet) 0) (.ocpp 3 (ctxOf c x).outlet true)
      else emit c (.ocpp 3 8 false)
    | none => emit c (.ocpp 3 8 false)

/-- OCPP_UNLOCK_CONNECTOR (R256 F, R249): refused while energised; the lock opens only in FINISHING, FAULTED or
UNAVAILABLE. -/
def execOcppUnlockConnector (outlet : Outlet) (s : State) : Host.Outcome State Fault Refusal :=
  viaService s fun c =>
    let x := outletOf c outlet.val
    if energised c outlet.val = false ∧ (x.state = .finishing ∨ x.state = .faulted ∨ x.state = .unavailable) then
      emit (driveLock c outlet.val false) (.ocpp 4 outlet.val true)
    else emit c (.ocpp 4 outlet.val false)

/-- OCPP_CHANGE_AVAILABILITY (R256 G, R70): Inoperative disables the outlet. -/
def execOcppChangeAvailability (outlet : Outlet) (operative : Bool) (s : State) : Host.Outcome State Fault Refusal :=
  viaService s fun c =>
    emit (writeDisable c (withBit (regGet c Reg.SUP_DISABLE) outlet.val (!operative))) (.ocpp 5 outlet.val true)

/-- OCPP_RESET (R256 B, R55). -/
def execOcppReset (s : State) : Host.Outcome State Fault Refusal :=
  viaService s fun c =>
    if anyEnergised c then emit (refuseReset c) (.ocpp 6 0 false)
    else if mayAskReset c then softReset (emit c (.ocpp 6 0 true)) false
    else emit c (.ocpp 6 0 false)

/-- R256 E, J: the reading of context slot 24 of an outlet's LIVE session. -/
def sessionReading (c : Chip) (o : Nat) : Nat := match liveCtx c o with | some x => reading (ctxAcc c x 24) | none => 0

/-- R256: what a triggered message says besides its name: 3 meter values, 4 a transaction event. -/
def triggered (c : Chip) (kind : Nat) : Chip :=
  (List.range 8).foldl (fun c o =>
    match liveCtx c o with
    | some x =>
      if kind = 3 then emit c (.ocppMeter o (sessionReading c o))
      else if kind = 4 then emit c (.ocppTx 1 o (ctxOf c x).sessionId (sessionReading c o))
      else c
    | none => c) c

/-- OCPP_TRIGGER_MESSAGE (R256 F, B, E, J): 0 boot notification, 1 heartbeat, 2 status, 3 meter values, 4 transaction event. -/
def execOcppTriggerMessage (kind : Nat) (s : State) : Host.Outcome State Fault Refusal :=
  viaService s fun c => triggered (emit c (.ocpp 7 kind true)) kind

/-- OCPP_RESERVATION (R256 H): one for each outlet; none ends it. -/
def execOcppReservation (outlet : Outlet) (ident : Option (List Byte)) (s : State) : Host.Outcome State Fault Refusal :=
  viaService s fun c =>
    let o := outlet.val
    match ident with
    | none => emit (modOutlet c o (fun x => { x with reserved := none })) (.ocpp 8 o true)
    | some i =>
      if (outletOf c o).reserved.isSome then emit c (.ocpp 8 o false)
      else emit (modOutlet c o (fun x => { x with reserved := some (authRefOf i) })) (.ocpp 8 o true)

/-- OCPP_CHARGING_PROFILE (R256 K, R243): up to 16, stack levels 0 to 15; no limit removes the profile. -/
def execOcppChargingProfile (outlet : Outlet) (id stack : Nat) (limit : Option Nat) (s : State) :
    Host.Outcome State Fault Refusal :=
  viaService s fun c =>
    let o := outlet.val
    let rest := (outletOf c o).profiles.filter (fun p => p.id != id)
    match limit with
    | none => emit (updateIlim (takeFree (modOutlet c o (fun x => { x with profiles := rest }))) o) (.ocpp 9 o true)
    | some l =>
      if 15 < stack ∨ 16 ≤ rest.length then emit c (.ocpp 9 o false)
      else
        let ps := rest ++ [{ id := id, stack := stack, limit := l }]
        emit (updateIlim (takeFree (modOutlet c o (fun x => { x with profiles := ps }))) o) (.ocpp 9 o true)

/-- OCPP_LOCAL_LIST (R256 D, R265). -/
def execOcppLocalList (diff : Bool) (version : Nat) (entries : List AuthEntry) (s : State) :
    Host.Outcome State Fault Refusal :=
  viaService s fun c =>
    if 65536 < entries.length ∨ entries.any (fun e => e.cache) = true then emit c (.ocpp 10 version false)
    else emit (writeList c entries diff version) (.ocpp 10 version true)

/-- OCPP_FIRMWARE_UPDATE (R256 L): a manifest update follows, from the source OCPP (R438). -/
def execOcppFirmwareUpdate (s : State) : Host.Outcome State Fault Refusal := viaService s fun c => emit c (.ocpp 11 0 true)

/-- OCPP_DATA_TRANSFER (R256 P). -/
def execOcppDataTransfer (walduca : Bool) (s : State) : Host.Outcome State Fault Refusal :=
  viaService s fun c => emit c (.ocpp 12 0 walduca)

/-- R256 B, N: a variable is set; the backend is told of a monitored one above its threshold. -/
def setVariable (c : Chip) (id v : Nat) : Chip :=
  let c := { c with outl := { c.outl with ocppVars := tput c.outl.ocppVars id v } }
  match tfind c.outl.monitors id with
  | some top => if top < v then emit c (.ocpp 14 id true) else c
  | none => c

/-- OCPP_SET_VARIABLES (R256 B): a value sets the variable, none reads it. -/
def execOcppSetVariables (id : Nat) (value : Option Nat) (s : State) : Host.Outcome State Fault Refusal :=
  viaService s fun c =>
    match value with
    | some v => emit (setVariable c id v) (.ocpp 13 v true)
    | none => emit c (.ocpp 13 (tget 0 c.outl.ocppVars id) true)

/-- OCPP_SET_DISPLAY_MESSAGE (R256 O): the emissive panel only. -/
def execOcppSetDisplayMessage (text : List Byte) (s : State) : Host.Outcome State Fault Refusal :=
  viaService s fun c => emit c (.message text)

/-- R256 N: records of Blotter from a SEQ on, oldest first. -/
def logExtract (c : Chip) (first count : Nat) : List Byte :=
  let recs := ((c.blt.slots.map (·.2)).filter (fun r => decide (first ≤ r.seq))).mergeSort (fun a b => decide (a.seq ≤ b.seq))
  (recs.take count).flatMap BltRec.bytes

/-- OCPP_GET_LOG (R256 N): an extract of Blotter, or the monitoring of a variable above a threshold. -/
def execOcppGetLog (first count : Nat) (monitor : Option (Nat × Nat)) (s : State) : Host.Outcome State Fault Refusal :=
  viaService s fun c =>
    match monitor with
    | some (id, top) => emit { c with outl := { c.outl with monitors := tput c.outl.monitors id top } } (.ocpp 15 id true)
    | none => emit c (.logUpload (logExtract c first count))

/-! ### Contactor feedback (R257, R262) -/

/-- R262: a measured operate time, in µs, counts between 5 ms and 100 ms; the last 8 are kept. -/
def learn (l : List Nat) (us : Nat) : List Nat := if 5000 ≤ us ∧ us ≤ 100000 then (us :: l).take 8 else l

/-- R257: FBn reads closed in CLOSING: ENERGISED, or CHECKING on a DC outlet, whose cable-check voltage is open
(log 10); a stop or the end of state C during the close opens again. -/
def closedNow (c : Chip) (o : Outlet) : Chip :=
  let x := outletOf c o.val
  if isDc c o.val then
    let mv := freeBelow c (6400 + o.val) (capMv c o.val (2 ^ 32) + 1)
    let c := { c with saf := { c.saf with imdGood := terase c.saf.imdGood o.val,
                                          insState := tput c.saf.insState o.val 1 } }
    let c := sendSetpoints (modOutlet c o.val (fun x => { x with state := .checking, setMode := 1, setMv := mv, setMa := 0 })) o.val
    if x.why = .stop then enterOpening c o .stop else c
  else
    let c := outEvt (modOutlet c o.val (fun x => { x with state := .energised })) o.val 4
    if x.why = .stop then enterOpening c o .stop
    else if cpReady c o.val then updateIlim (takeFree c) o.val
    else enterOpening c o (if x.hlc = .none then .pause else .stop)

/-- R257: FBn reads open. -/
def openNow (c : Chip) (o : Outlet) : Chip :=
  let c := outEvt c o.val 5
  match (outletOf c o.val).state with
  | .weldCheck => if isDc c o.val then c else weldCheckDone c o.val
  | .finishing => settleOutlet (if (outletOf c o.val).unlockDue then c else driveLock c o.val false) o.val
  | .faulted => settleOutlet (driveLock c o.val false) o.val
  | .unavailable => driveLock c o.val false
  | _ => c

/-- R262, R271: FBn changes, `us` µs after the coil command; an outlet engine that is fenced takes no part. -/
def fbChange (c : Chip) (o : Outlet) (closed : Bool) (us : Nat) : Chip :=
  let x := outletOf c o.val
  let c := { c with pwd := { c.pwd with
    fb := setBitV c.pwd.fb o.val closed, fbAt := if fbClosed c o.val == closed then c.pwd.fbAt else tput c.pwd.fbAt o.val c.tb.aon } }
  let k := coilOf c o.val
  let c := if !closed && k.state == .release then setCoil c o.val { k with state := .off, ma := 0 } else c
  if fenced c .out then c
  else
    let c := if x.timing then modOutlet c o.val (fun x => { x with
        timing := false, tClose := if closed then learn x.tClose us else x.tClose,
        tOpen := if closed then x.tOpen else learn x.tOpen us }) else c
    if closed then (if x.state = .closing then closedNow c o else c) else openNow c o

/-- FB_CHANGE (R262, R257). -/
def execFbChange (outlet : Outlet) (closed : Bool) (us angle since : Nat) (s : State) : Host.Outcome State Fault Refusal :=
  onChip s fun c => fbChange (atAngle (runTo c since) angle) outlet closed us

/-- CLOSE_TIMEOUT (R257): FBn not closed 150 ms after the coil command. -/
def execCloseTimeout (outlet : Outlet) (s : State) : Host.Outcome State Fault Refusal :=
  viaOutlet s fun c =>
    if (outletOf c outlet.val).state = .closing ∧ (coilOf c outlet.val).cmd = true ∧ fbClosed c outlet.val = false then
      channelTrip c .processor fun ch => contactorTrip c outlet.val .failClose ch
    else c

/-- CHECK_TIMEOUT (R257). -/
def execCheckTimeout (outlet : Outlet) (s : State) : Host.Outcome State Fault Refusal :=
  viaOutlet s fun c =>
    if (outletOf c outlet.val).state = .checking ∧ tget 0 c.saf.imdGood outlet.val < 2 then enterFaulted c outlet.val 0
    else c

/-- PRECHARGE_TIMEOUT (R257). -/
def execPrechargeTimeout (outlet : Outlet) (s : State) : Host.Outcome State Fault Refusal :=
  viaOutlet s fun c => if (outletOf c outlet.val).state = .precharge then enterFaulted c outlet.val 0 else c

/-- OPENING_TIMEOUT (R257): 1 s after the ramp began. -/
def execOpeningTimeout (outlet : Outlet) (s : State) : Host.Outcome State Fault Refusal :=
  viaOutlet s fun c =>
    if isDc c outlet.val ∧ (outletOf c outlet.val).state = .opening then releaseForOpening c outlet.val else c

/-- RELEARN (R262). -/
def execRelearn (outlet : Outlet) (s : State) : Host.Outcome State Fault Refusal :=
  onChip s fun c => reach c (Reg.OUT_CTRL outlet.val) fun c =>
    modOutlet c outlet.val (fun x => { x with tClose := [], tOpen := [] })

/-- COIL_PULLIN_END (R270): the profile's hold current; a profile change that waited lands. -/
def execCoilPullinEnd (outlet : Outlet) (s : State) : Host.Outcome State Fault Refusal :=
  onChip s fun c =>
    let k := coilOf c outlet.val
    if k.state = .pullin then
      let c := setCoil c outlet.val { k with state := .hold, ma := coilHold c outlet.val }
      if k.pend then nsLand c else c
    else c

/-! ### Converters (R259, R260) -/

/-- R260: the outlet of a module address. -/
def outletOfModule (c : Chip) (b a : Nat) : Option Outlet :=
  (List.finRange 8).find? (fun o => isDc c o.val && (outletModules c o.val).contains (b, a))

/-- Module a of bus b replaced. -/
def setModule (c : Chip) (b a : Nat) (m : Module) : Chip :=
  { c with outl := { c.outl with modules := tput c.outl.modules (64 * b + a) m } }

/-- R260: a module is lost: CONV_LOST, a lower ILIM, and an opening when none is left. -/
def moduleLost (c : Chip) (b a : Nat) : Chip :=
  let m := moduleOf c b a
  if m.present then
    let c := setModule c b a { m with present := false }
    match outletOfModule c b a with
    | none => c
    | some o =>
      let c := updateIlim (takeFree (outEvt c o.val 10)) o.val
      let st := (outletOf c o.val).state
      if (st = .energised ∨ st = .checking ∨ st = .precharge) ∧ energised c o.val = true
          ∧ (presentModules c o.val).isEmpty = true then enterOpening c o .stop
      else c
  else c

/-- R259: an address of a converter module. -/
def canAddr (a : Nat) : Bool := decide (1 ≤ a) && decide (a ≤ 63)

/-- CAN_STATUS (R259, R260): a ramp that has come down to 1 A ends the OPENING (R257). -/
def execCanStatus (bus : Fin 2) (addr state fault mv : Nat) (ma temp : Int) (avail : Nat) (s : State) :
    Host.Outcome State Fault Refusal :=
  viaOutlet s fun c =>
    let b := bus.val
    if canAddr addr then
      let m := moduleOf c b addr
      let c := setModule c b addr { m with state := state, fault := fault, mv := mv, ma := ma, temp := temp, avail := avail }
      match outletOfModule c b addr with
      | some o =>
        if (outletOf c o.val).state = .opening ∧ (outputMa c o.val).natAbs ≤ 1000 then releaseForOpening c o.val else c
      | none => c
    else c

/-- CAN_IDENT (R259, R260): profile version 1, addresses 1 to 63. -/
def execCanIdent (bus : Fin 2) (addr serial ratedV ratedI ratedP : Nat) (reverse : Bool) (version : Nat) (s : State) :
    Host.Outcome State Fault Refusal :=
  viaOutlet s fun c =>
    if version = 1 ∧ canAddr addr = true then
      let m := moduleOf c bus.val addr
      let c := { c with outl := { c.outl with
        buses := tput c.outl.buses bus.val { busOf c bus.val with busOff := false } } }
      let c := setModule c bus.val addr { m with
        present := true, serial := serial, ratedV := ratedV, ratedI := ratedI, ratedP := ratedP, reverse := reverse }
      match outletOfModule c bus.val addr with
      | some o => updateIlim (takeFree c) o.val
      | none => c
    else c

/-- CONV_LOST (R260): 50 ms without STATUS. -/
def execConvLost (bus : Fin 2) (addr : Nat) (s : State) : Host.Outcome State Fault Refusal :=
  viaOutlet s fun c => if canAddr addr then moduleLost c bus.val addr else c

/-- CAN_BUS_OFF (R260): every module on the bus is lost. -/
def execCanBusOff (bus : Fin 2) (tec rec' : Nat) (s : State) : Host.Outcome State Fault Refusal :=
  viaOutlet s fun c =>
    let b := bus.val
    let c := { c with outl := { c.outl with
      buses := tput c.outl.buses b { busOf c b with busOff := true, txErr := sat 255 tec, rxErr := sat 255 rec' } } }
    (List.range 64).foldl (fun c a => moduleLost c b a) c

/-- SETPOINT_TICK (R259). -/
def execSetpointTick (outlet : Outlet) (s : State) : Host.Outcome State Fault Refusal :=
  viaOutlet s fun c =>
    let x := outletOf c outlet.val
    if isDc c outlet.val ∧ (x.state = .checking ∨ x.state = .precharge ∨ x.state = .energised ∨ x.state = .opening) then
      sendSetpoints c outlet.val
    else c

/-- R259: IDENT_REQ on both buses. -/
def identReq (c : Chip) : Chip := sendCan (sendCan c 0 0x04 0xFF []) 1 0x04 0xFF []

/-- IDENT_REQ_TICK (R259). -/
def execIdentReqTick (s : State) : Host.Outcome State Fault Refusal := viaOutlet s fun c => identReq c

end Sys2Proof.Machine
end

