-- ==== Sys2Proof/Machine/Lsw.lean ====
section
/-! DEFINITION. The protected load-switch channels of the power die (R302 to R320): demand, turn-on, trips and
retries, group budgets, dark test pulses, and the power-die writes that land (R22). -/

namespace Sys2Proof.Machine

/-! ### Channels and groups (R302) -/

/-- Channel n. -/
def lswOf (c : Chip) (n : Nat) : LswSt := tget LswSt.init c.lsw.chans n

/-- Channel n replaced. -/
def setLsw (c : Chip) (n : Nat) (x : LswSt) : Chip := { c with lsw := { c.lsw with chans := tput c.lsw.chans n x } }

/-- Channel n changed by f. -/
def modLsw (c : Chip) (n : Nat) (f : LswSt → LswSt) : Chip := setLsw c n (f (lswOf c n))

/-- R302: the channel is fed from VBB_B. -/
def lswInB (n : Nat) : Bool := decide (6 ≤ n)

/-- R302: rated current in mA. -/
def lswRated (n : Nat) : Nat := if n < 4 then 5000 else 1500

/-- R322: a bit of LSW_EVT. -/
def lswEvt (c : Chip) (n b : Nat) : Chip := raiseEvt c (Reg.LSW_EVT n) b

/-- R304: the budget of a group, 0.1 A. -/
def lswBudget (c : Chip) (b : Bool) : Nat := if b then cfg c Reg.LSW_GRP_CFG 15 8 else cfg c Reg.LSW_GRP_CFG 7 0

/-- R304, R305: current, rail and undervoltage of a group. -/
def lswCurrent (c : Chip) (b : Bool) : Nat := if b then c.lsw.iB else c.lsw.iA
def lswRail (c : Chip) (b : Bool) : Nat := if b then c.lsw.railB else c.lsw.railA
def lswUv (c : Chip) (b : Bool) : Bool := if b then c.lsw.uvB else c.lsw.uvA

/-- The group current measured. -/
def setLswCurrent (c : Chip) (b : Bool) (i : Nat) : Chip :=
  { c with lsw := if b then { c.lsw with iB := i } else { c.lsw with iA := i } }

/-- The group rail measured, with its bit of PWD_SUPPLY_STATUS.OK (R82, R93). -/
def setLswRail (c : Chip) (b : Bool) (mv : Nat) : Chip :=
  let k := if b then 2 else 1
  let ok := decide (8000 ≤ mv) && decide (mv ≤ 32000)
  { c with
    lsw := if b then { c.lsw with railB := mv } else { c.lsw with railA := mv },
    pwd := { c.pwd with supplyOk := (setBitV (BitVec.ofNat 6 c.pwd.supplyOk) k ok).toNat } }

/-- R305: the undervoltage flag of a group. -/
def setLswUv (c : Chip) (b v : Bool) : Chip :=
  { c with lsw := if b then { c.lsw with uvB := v } else { c.lsw with uvA := v } }

/-- R320: what the power die has measured of a channel and its group. -/
def lswMeasured (c : Chip) (n : Nat) (m : LswMeas) : Chip :=
  let c := setLswRail (setLswCurrent c (lswInB n) m.group) (lswInB n) m.rail
  modLsw c n (fun x => { x with ma := m.ma, v10 := m.v10, tj := m.tj, limiting := m.limiting })

/-! ### Demand (R306, R308, R319) -/

/-- R319: the channel is disabled. -/
def lswDisabled (c : Chip) (n : Nat) : Bool := immBit c Reg.LSW_DISABLE n

/-- R306, R308, R319: the demand of a channel is on. A disabled channel has only a timed demand already running. -/
def lswDemand (c : Chip) (n : Nat) : Bool :=
  let x := lswOf c n
  if x.cleared || x.state == .retired then false
  else if lswDisabled c n then x.regOn && x.dur != 0
  else match cfg c (Reg.LSW_CFG n) 1 0 with
    | 0 => x.regOn
    | 1 => x.pin
    | 2 => x.pin && x.regOn
    | _ => false

/-- R306: the channel takes its demand from its pin. -/
def pinSourced (c : Chip) (n : Nat) : Bool :=
  cfg c (Reg.LSW_CFG n) 1 0 == 1 || cfg c (Reg.LSW_CFG n) 1 0 == 2

/-- R312: an episode is reported to the channel's source. -/
def lswEpisode (c : Chip) (n : Nat) : Chip := reportSrc c (64 + n) 0

/-- R311, R312: TRIPS returns to 0 and the episode ends. -/
def lswTripsZero (c : Chip) (n : Nat) : Chip :=
  let x := lswOf c n
  let c := setLsw c n { x with trips := 0, episode := false }
  if x.episode then clearSrc c (64 + n) else c

/-! ### Turn-on (R304, R305, R307, R309) -/

/-- R304, R305, R313: a turn-on of a channel whose demand is on: it waits while its group is over budget or its rail
stands below 8.0 V; with a fast edge it is ON at once. -/
def lswStart (c : Chip) (n : Nat) (fast : Bool) : Chip :=
  let b := lswInB n
  if lswUv c b || decide (lswRail c b < 8000) then c
  else if lswBudget c b < lswCurrent c b then modLsw c n (fun x => { x with grpWait := true })
  else modLsw c n (fun x => { x with
    state := if fast then .on else .ramp, grpWait := false, paused := false, pausedMs := 0, refMv := lswRail c b,
    slew := cfg c (Reg.LSW_CFG n) 7 2, window := cfg c (Reg.LSW_CFG n) 14 8, tripDue := false })

/-- R304, R313: the demand has come on: SHED clears; a channel that is OFF turns on. -/
def lswOnDemand (c : Chip) (n : Nat) (fast : Bool) : Chip :=
  let c := modLsw c n (fun x => { x with shed := false })
  if (lswOf c n).state = .off then lswStart c n fast else c

/-- R311, R313, R316: the demand has gone off: output off, at the end of a test pulse in TEST. -/
def lswOffDemand (c : Chip) (n : Nat) : Chip :=
  let c := lswTripsZero c n
  modLsw c n (fun x => match x.state with
    | .test => { x with dur := 0 }
    | .retired => x
    | _ => { x with state := .off, grpWait := false, paused := false, limiting := false, dur := 0 })

/-- What follows for channel n when its demand was that of `old`. -/
def lswSettle (old : Chip) (fast : Bool) (c : Chip) (n : Nat) : Chip :=
  if lswDemand c n && !lswDemand old n then lswOnDemand c n fast
  else if !lswDemand c n && lswDemand old n then lswOffDemand c n
  else c

/-- Every channel's demand is taken up again, after a change of the settings in force. -/
def lswSettleAll (old c : Chip) : Chip := (List.range 12).foldl (lswSettle old false) c

/-- R308, R319: a register command lands; a disabled or retired channel discards it. -/
def lswCommand (c : Chip) (n : Nat) (on off : Bool) (dur : Nat) : Chip :=
  let old := c
  if lswDisabled c n || (lswOf c n).state == .retired then c
  else if off then lswSettle old false (modLsw c n (fun x => { x with regOn := false, dur := 0, grpWait := false })) n
  else if on then
    let d := if cfg c (Reg.LSW_CFG n) 1 0 = 0 then dur else 0
    lswSettle old false (modLsw c n (fun x => { x with
      regOn := true, dur := d, cleared := x.cleared && cfg c (Reg.LSW_CFG n) 1 0 == 1 })) n
  else c

/-- LSW_ON (R308, R309, R313): ON written to LSW_CMD, landed (log 21). -/
def execLswOn (channel : Lsw) (dur : BitVec 8) (m : LswMeas) (s : State) : Host.Outcome State Fault Refusal :=
  onChip s fun c => lswCommand (pwdCount (lswMeasured c channel.val m)) channel.val true false dur.toNat

/-- LSW_OFF (R308, R313): OFF written to LSW_CMD, landed (log 21). -/
def execLswOff (channel : Lsw) (m : LswMeas) (s : State) : Host.Outcome State Fault Refusal :=
  onChip s fun c => lswCommand (pwdCount (lswMeasured c channel.val m)) channel.val false true 0

/-- LSW_DUR_EXPIRY (R308, R319): the power die itself makes the off-demand. -/
def execLswDurExpiry (channel : Lsw) (s : State) : Host.Outcome State Fault Refusal :=
  onChip s fun c =>
    let n := channel.val
    if (lswOf c n).dur = 0 then c
    else lswSettle c false (modLsw c n (fun x => { x with regOn := false, dur := 0 })) n

/-- LSW_IN_EDGE (R306, R307); `recent` says that the output has been off for less than 10 ms. -/
def execLswInEdge (channel : Lsw) (level recent : Bool) (m : LswMeas) (s : State) :
    Host.Outcome State Fault Refusal :=
  onChip s fun c =>
    let n := channel.val
    let c := lswMeasured c n m
    lswSettle c (recent && pinSourced c n)
      (modLsw c n (fun x => { x with pin := level, cleared := if level && !x.pin then false else x.cleared })) n

/-! ### Ramp and window (R309, R310) -/

/-- R311, R312: a trip: COOL, or LATCHED once TRIPS exceeds RETRY; the episode is reported at its first trip, and ends where the
channel latches. -/
def lswTrip (c : Chip) (n : Nat) : Chip :=
  let x := lswOf c n
  let k := min 8 (x.trips + 1)
  let latch := decide (cfg c (Reg.LSW_CFG n) 19 17 < k)
  let c := setLsw c n { x with state := if latch then .latched else .cool, trips := k, paused := false,
                               limiting := false, tripDue := false, episode := !latch }
  let c := lswEvt c n 0
  let c := if x.trips = 0 then lswEpisode c n else c
  if latch then clearSrc (lswEvt c n 1) (64 + n) else c

/-- R309, R310: a turn-on fails. -/
def lswTurnOnFail (c : Chip) (n : Nat) : Chip := lswTrip (lswEvt c n 2) n

/-- LSW_RAMP_DONE (R309). -/
def execLswRampDone (channel : Lsw) (m : LswMeas) (s : State) : Host.Outcome State Fault Refusal :=
  onChip s fun c =>
    let c := lswMeasured c channel.val m
    let x := lswOf c channel.val
    if x.state = .ramp ∧ x.paused = false then setLsw c channel.val { x with state := .window } else c

/-- LSW_WINDOW_END (R309): ON with the output at or above 90 % of the rail. -/
def execLswWindowEnd (channel : Lsw) (m : LswMeas) (s : State) : Host.Outcome State Fault Refusal :=
  onChip s fun c =>
    let n := channel.val
    let c := lswMeasured c n m
    let x := lswOf c n
    if x.state = .window then
      if m.rail * 90 ≤ x.v10 * 10 * 100 then setLsw c n { x with state := .on } else lswTurnOnFail c n
    else c

/-- LSW_RAIL_SAG (R310): below 80 % of the reference the ramp pauses. -/
def execLswRailSag (channel : Lsw) (m : LswMeas) (s : State) : Host.Outcome State Fault Refusal :=
  onChip s fun c =>
    let c := lswMeasured c channel.val m
    let x := lswOf c channel.val
    if x.state = .ramp ∧ m.rail * 100 < x.refMv * 80 then setLsw c channel.val { x with paused := true } else c

/-- LSW_RAMP_RESUME (R310): at or above 85 % for 1 ms after a pause of `ms`; more than 200 ms of pauses fail the
turn-on. -/
def execLswRampResume (channel : Lsw) (ms : Nat) (m : LswMeas) (s : State) : Host.Outcome State Fault Refusal :=
  onChip s fun c =>
    let c := lswMeasured c channel.val m
    let x := lswOf c channel.val
    if x.state = .ramp ∧ x.paused = true ∧ x.refMv * 85 ≤ m.rail * 100 then
      let c := setLsw c channel.val { x with paused := false, pausedMs := x.pausedMs + ms }
      if 200 < x.pausedMs + ms then lswTurnOnFail c channel.val else c
    else c

/-- LSW_PAUSE_TIMEOUT (R310): the pause has lasted `ms`, and the pauses of the turn-on come to more than 200 ms. -/
def execLswPauseTimeout (channel : Lsw) (ms : Nat) (s : State) : Host.Outcome State Fault Refusal :=
  onChip s fun c =>
    let x := lswOf c channel.val
    if x.state = .ramp ∧ x.paused = true ∧ 200 < x.pausedMs + ms then lswTurnOnFail c channel.val else c

/-! ### Trips, retries and regulation (R303, R310, R311) -/

/-- LSW_THERMAL_SHUTDOWN (R303, R311, R316): the junction reaches 175 °C; during a pulse the trip shows at its end. -/
def execLswThermalShutdown (channel : Lsw) (m : LswMeas) (s : State) : Host.Outcome State Fault Refusal :=
  onChip s fun c =>
    let n := channel.val
    let c := lswMeasured c n m
    if m.tj < 239 then c else
    match (lswOf c n).state with
    | .ramp => lswTrip c n
    | .window => lswTrip c n
    | .on => lswTrip c n
    | .test => modLsw c n (fun x => { x with tripDue := true })
    | _ => c

/-- LSW_RETRY (R304, R311): the junction at 155 °C or below, RETRY_DLY elapsed, the demand still on. A turn-on that the group
does not allow waits in OFF. -/
def execLswRetry (channel : Lsw) (m : LswMeas) (s : State) : Host.Outcome State Fault Refusal :=
  onChip s fun c =>
    let n := channel.val
    let c := lswMeasured c n m
    if (lswOf c n).state = .cool ∧ m.tj ≤ 219 ∧ lswDemand c n = true then
      lswStart (modLsw c n (fun x => { x with state := .off })) n false
    else c

/-- LSW_TRIPS_RESET (R311, R312): 1 s continuously in ON. -/
def execLswTripsReset (channel : Lsw) (s : State) : Host.Outcome State Fault Refusal :=
  onChip s fun c => if (lswOf c channel.val).state = .on then lswTripsZero c channel.val else c

/-- LSW_OVERCURRENT (R310): the current limit for more than 1 ms outside a turn-on. -/
def execLswOvercurrent (channel : Lsw) (m : LswMeas) (s : State) : Host.Outcome State Fault Refusal :=
  onChip s fun c =>
    let c := lswMeasured c channel.val m
    if (lswOf c channel.val).state = .on then
      lswEvt (modLsw c channel.val (fun x => { x with limiting := true })) channel.val 3
    else c

/-! ### Groups (R304, R305) -/

/-- The channels of a group. -/
def lswGroup (b : Bool) : List Nat := if b then [6, 7, 8, 9, 10, 11] else [0, 1, 2, 3, 4, 5]

/-- R313: states 1 to 4: the output is on or being tested. -/
def lswOn (x : LswSt) : Bool := x.state == .ramp || x.state == .window || x.state == .on || x.state == .test

/-- R304: the channel to shed: on, the lowest non-zero SHED, the highest number among those. -/
def lswShedding (c : Chip) (b : Bool) : Option Nat :=
  (lswGroup b).foldl (fun best n =>
    let v := cfg c (Reg.LSW_CFG n) 31 29
    if lswOn (lswOf c n) && v != 0 then
      match best with
      | some k => if v ≤ cfg c (Reg.LSW_CFG k) 31 29 then some n else best
      | none => some n
    else best) none

/-- LSW_SHED (R304): the group current (0.1 A) has exceeded 1.25 times the budget for 20 ms. GRP_OVER is set for every
channel of the group (log 22). -/
def execLswShed (groupB : Bool) (current : Nat) (s : State) : Host.Outcome State Fault Refusal :=
  onChip s fun c =>
    let c := setLswCurrent c groupB current
    if current * 4 ≤ lswBudget c groupB * 5 then c
    else match lswShedding c groupB with
      | some n =>
        let c := lswTripsZero c n
        lswEvt (modLsw c n (fun x => { x with state := .off, shed := true, cleared := true, regOn := false, dur := 0,
                                              paused := false, limiting := false })) n 8
      | none => (lswGroup groupB).foldl (fun c n => lswEvt c n 9) c

/-- LSW_GROUP_UV (R305): the rail (mV) falls below 7.0 V. -/
def execLswGroupUv (groupB : Bool) (rail : Nat) (s : State) : Host.Outcome State Fault Refusal :=
  onChip s fun c =>
    let c := setLswRail c groupB rail
    if rail < 7000 then
      (lswGroup groupB).foldl (fun c n =>
        if lswOn (lswOf c n) then
          modLsw c n (fun x => { x with state := .off, paused := false, limiting := false, tripDue := false })
        else c) (setLswUv c groupB true)
    else c

/-- LSW_GROUP_UV_RECOVER (R305): at or above 8.0 V for 10 ms. -/
def execLswGroupUvRecover (groupB : Bool) (rail current : Nat) (s : State) : Host.Outcome State Fault Refusal :=
  onChip s fun c =>
    let c := setLswCurrent (setLswRail c groupB rail) groupB current
    if 8000 ≤ rail then
      (lswGroup groupB).foldl (fun c n =>
        if lswDemand c n && (lswOf c n).state == .off then lswStart c n false else c) (setLswUv c groupB false)
    else c

/-- LSW_GROUP_WITHIN_BUDGET (R304). -/
def execLswGroupWithinBudget (groupB : Bool) (current : Nat) (s : State) : Host.Outcome State Fault Refusal :=
  onChip s fun c =>
    let c := setLswCurrent c groupB current
    if current ≤ lswBudget c groupB then
      (lswGroup groupB).foldl (fun c n =>
        if (lswOf c n).grpWait && (lswOf c n).state == .off then
          if lswDemand c n then lswStart c n false else modLsw c n (fun x => { x with grpWait := false })
        else c) c
    else c

/-! ### Dark test pulses (R314 to R316) -/

/-- R314: the booking of the next pulse of a channel: angle ANGLE of the next cycle that PERIOD divides and that may
still be booked (log 23). -/
def testBooking (c : Chip) (n : Fin 12) : Booking :=
  let p := max 1 (cfg c (Reg.LSW_TP_PER n.val) 15 0)
  let a := cfg c (Reg.LSW_TP_CFG n.val) 31 16
  let k := (c.tb.cycle / p + 1) * p
  let k := if k * 65536 + a < nowAu c + 64 then k + p else k
  { cycle := k, angle := a, kind := .testPulse n, period := p }

/-- R112, R314, R317: the pulses of every channel with EN are booked by the owner; none while the power link is
lost. -/
def bookTestPulses (c : Chip) : Chip :=
  let c := unbook c (fun k => k.cls == 2)
  if c.pwd.linkUp && ready c .out && c.sup.mode != .holdUp then
    (List.finRange 12).foldl (fun c n =>
      if cfgBit c (Reg.LSW_TP_CFG n.val) 0 && (lswOf c n.val).state != .retired then (book c (testBooking c n)).1
      else c) c
  else c

/-- R317: the power link is back: pulses are booked again. -/
def linkBack (c : Chip) : Chip :=
  if c.pwd.linkUp then c else bookTestPulses { c with pwd := { c.pwd with linkUp := true } }

/-- R315: the pulse starts; outside ON, or on a disabled channel, it is skipped. -/
def startPulse (c : Chip) (n : Nat) : Chip :=
  if (lswOf c n).state = .on ∧ lswDisabled c n = false then
    modLsw c n (fun x => { x with state := .test, tripDue := false })
  else lswEvt c n 7

/-- LSW_TEST_PULSE (R314, R315): a delivered pulse reaches its instant; its booking gives way to the next one. -/
def execLswTestPulse (channel : Lsw) (s : State) : Host.Outcome State Fault Refusal :=
  onChip s fun c =>
    let mine := fun (k : BookKind) => k == .testPulse channel
    let booked := c.tb.sched.any (fun b => mine b.kind)
    let c := startPulse (unbook c mine) channel.val
    if booked && c.pwd.linkUp && ready c .out && c.sup.mode != .holdUp then (book c (testBooking c channel)).1 else c

/-- R312, R315: TEST_FAIL, with an episode but no trip. -/
def lswTestFail (c : Chip) (n : Nat) : Chip :=
  lswEpisode (modLsw (lswEvt c n 6) n (fun x => { x with episode := true })) n

/-- R315: a pulse passes: the current fell to 1 % of rated within 50 µs, and stayed there: after `fellUs` µs, and at most `maxMa`
from then to the end. -/
def pulsePasses (n fellUs maxMa : Nat) : Bool := decide (fellUs ≤ 50) && decide (maxMa * 100 ≤ lswRated n)

/-- LSW_TEST_PULSE_END (R315, R316). -/
def execLswTestPulseEnd (channel : Lsw) (fellUs maxMa : Nat) (m : LswMeas) (s : State) : Host.Outcome State Fault Refusal :=
  onChip s fun c =>
    let n := channel.val
    let c := lswMeasured c n m
    let x := lswOf c n
    if x.state = .test then
      let c := if pulsePasses n fellUs maxMa then c else lswTestFail c n
      if x.tripDue then
        let c := lswTrip c n
        if lswDemand c n then c else lswOffDemand c n
      else if lswDemand c n then modLsw c n (fun x => { x with state := .on })
      else modLsw c n (fun x => { x with state := .off, limiting := false })
    else c

/-- LSW_OFF_CHECK_FAIL (R315): 1 ms after an off-demand the current is still above 1 % of rated. -/
def execLswOffCheckFail (channel : Lsw) (m : LswMeas) (s : State) : Host.Outcome State Fault Refusal :=
  onChip s fun c =>
    let n := channel.val
    let c := lswMeasured c n m
    if (lswOf c n).state = .off ∧ lswRated n < m.ma * 100 then lswTestFail c n else c

/-! ### Diagnostics, disabling and Hold-up (R318 to R320) -/

/-- R320: an open load: in ON a current below 1 % of rated, in OFF an output above 80 % of the rail with the source on and
below 20 % without it, in 10 mV. -/
def openLoadOf (x : LswSt) (n : Nat) (m : LswMeas) (with' without : Nat) : Bool :=
  match x.state with
  | .on => decide (m.ma * 100 < lswRated n)
  | .off => decide (m.rail * 80 < with' * 1000) && decide (without * 1000 < m.rail * 20)
  | _ => false

/-- R320: a short to the rail: in OFF an output above 50 % of the rail in both periods. -/
def shortOf (x : LswSt) (m : LswMeas) (with' without : Nat) : Bool :=
  x.state == .off && decide (m.rail * 50 < with' * 1000) && decide (m.rail * 50 < without * 1000)

/-- LSW_OPEN_LOAD (R320): what has held for 100 ms, in OFF for two periods: the output in 10 mV with the 50 µA source on and
without it. The events are set when a flag rises. -/
def execLswOpenLoad (channel : Lsw) (sourceOn sourceOff : Nat) (m : LswMeas) (s : State) :
    Host.Outcome State Fault Refusal :=
  onChip s fun c =>
    let n := channel.val
    let c := lswMeasured c n m
    if cfgBit c (Reg.LSW_CFG n) 28 then
      let x := lswOf c n
      let openLoad := openLoadOf x n m sourceOn sourceOff
      let shortVbb := shortOf x m sourceOn sourceOff
      let c := setLsw c n { x with openLoad := openLoad, shortVbb := shortVbb }
      let c := if openLoad && !x.openLoad then lswEvt c n 4 else c
      if shortVbb && !x.shortVbb then lswEvt c n 5 else c
    else c

/-- R319: a write to LSW_DISABLE lands: steady demands of newly disabled channels end, timed ones run out. -/
def lswDisableWrite (c : Chip) (w : Word) : Chip :=
  let w := w &&& 0xFFF#32
  let new := (List.range 12).filter (fun n => bitOf w n && !lswDisabled c n)
  let old := c
  let c := new.foldl (fun c n => modLsw c n (fun x => { x with
    regOn := x.regOn && x.dur != 0, grpWait := false })) (regPut c Reg.LSW_DISABLE w)
  lswSettleAll old c

/-- LSW_DISABLE_WRITE (R319), landed (log 21). -/
def execLswDisableWrite (value : BitVec 12) (s : State) : Host.Outcome State Fault Refusal :=
  onChip s fun c => lswDisableWrite (pwdCount c) (wordOf value.toNat)

/-- R318: step 1 of the Hold-up sequence. -/
def lswBrownOut (c : Chip) : Chip :=
  (List.range 12).foldl (fun c n =>
    if cfgBit c (Reg.LSW_CFG n) 16 && (lswOf c n).state != .retired then
      lswOffDemand (modLsw c n (fun x => { x with regOn := false, cleared := true })) n
    else c) c

/-! ### Posted writes (R22, R308) -/

/-- R18: load-switch commands go before other writes, each kind in its order. -/
def nextPosted (l : List PwdWrite) : Option PwdWrite :=
  let isCmd := fun (p : PwdWrite) => (List.range 12).any (fun n => p.addr == Reg.LSW_CMD n)
  match l.find? isCmd with
  | some p => some p
  | none => l.head?

/-- R308, R312, R319, R321: a write to the power die takes effect. -/
def pwdLand (c : Chip) (p : PwdWrite) (m : LswMeas) : Chip :=
  match (List.range 12).find? (fun n => p.addr == Reg.LSW_CMD n) with
  | some n =>
    let c := lswMeasured c n m
    let st := if lswDisabled c n || (lswOf c n).state == .retired then ansStatus .disabled else ansOk
    completeOpt (lswCommand c n (bitOf p.value 0) (bitOf p.value 1) (fieldOf p.value 15 8)) p.owner st
  | none =>
    if p.addr = Reg.LSW_DISABLE then lswDisableWrite c p.value
    else match regRow p.addr with
      | some r => if r.acc = .w1c then clearBits c p.addr p.value else c
      | none => c

/-- PWD_WRITE_LANDED (R22). -/
def execPwdWriteLanded (m : LswMeas) (s : State) : Host.Outcome State Fault Refusal :=
  onChip s fun c =>
    match nextPosted c.pwd.posted with
    | some p =>
      pwdLand (pwdCount (linkBack { c with pwd := { c.pwd with posted := c.pwd.posted.erase p } })) p m
    | none => c

/-- LSW_CMD (R362, R308): it completes once landed. -/
def execLswCmd (req : Requester) (channel : Lsw) (on off : Bool) (dur : Nat) (s : State) :
    Host.Outcome State Fault Refusal :=
  onChip s fun c => perform c req 0x0501 (.lswChannel channel) (fun c =>
    if lswDisabled c channel.val || (lswOf c channel.val).state == .retired then
      complete c req (ansStatus .disabled)
    else postPwd c (Reg.LSW_CMD channel.val)
      (wordOf (placeBit 0 on + placeBit 1 off + place 8 (dur % 256))) (some req))

end Sys2Proof.Machine
end

