-- ==== Sys2Proof/Machine/Display.lean ====
section
/-! DEFINITION. Display driving (R324 to R345): publication and flips, the pixel pipeline and the frame-memory
checksum, ageing compensation, the emissive panel's power sequences, and the bistable legal panel. -/

namespace Sys2Proof.Machine

/-! ### Settings in force and the state of the video (R326, R328) -/

/-- R328: a field of a display setting in force: the one before a swap until the next frame start. -/
def dspCfg (c : Chip) (a hi lo : Nat) : Nat :=
  match c.dsp.held with
  | some t => fieldOf (rget t a) hi lo
  | none => cfg c a hi lo

/-- R336, R337: video is sent. -/
def videoOn (d : Dsp) : Bool :=
  match d.pstate with
  | .init => decide (5 ≤ d.step)
  | .on => true
  | .offseq => decide (d.step < 3)
  | _ => false

/-- R25, R44, R51: the display region is powered, clocked and out of reset. -/
def dspRuns (c : Chip) : Bool :=
  !c.sup.refLost && (match c.sup.mode with
    | .off => false
    | .holdUp => false
    | .reset => false
    | .quarantine => false
    | .deepStandby => false
    | _ => true)

/-- R69: the emissive display or the bistable panel is disabled. -/
def dsiDisabled (c : Chip) : Bool := immBit c Reg.SUP_DISABLE 22
def bpDisabled (c : Chip) : Bool := immBit c Reg.SUP_DISABLE 23

/-- R345: a bit of DSP_EVT. -/
def dspEvt (c : Chip) (b : Nat) : Chip := raiseEvt c Reg.DSP_EVT b

/-- The pixel pipeline changed by f. -/
def modDsp (c : Chip) (f : Dsp → Dsp) : Chip := { c with dsp := f c.dsp }

/-- R326: active pixels of a line and active lines. -/
def hact (c : Chip) : Nat := dspCfg c Reg.DSP_HTIME 15 0
def vact (c : Chip) : Nat := dspCfg c Reg.DSP_VTIME 15 0

/-! ### Publication (R324) -/

/-- R324: a publication: it replaces a pending buffer, or is refused beyond 512 MiB. -/
def publish (c : Chip) (addr : Nat) (crc : Word) (owner : Option Requester) : Chip :=
  if 2 ^ 29 < addr + hact c * vact c * 4 then completeOpt (dspEvt c 2) owner (ansReject .rule)
  else
    let c := match c.dsp.pend with
      | some b => completeOpt c b.owner (ansReject .superseded)
      | none => c
    modDsp c (fun d => { d with pend := some { addr := addr, crc := crc, owner := owner } })

/-- DSP_PUB_GO (R324): GO with DSP_PUB_ADDR and DSP_PUB_CRC as written. -/
def execDspPubGo (s : State) : Host.Outcome State Fault Refusal :=
  onChip s fun c => reach c Reg.DSP_PUB_CTRL fun c =>
    if regionReady c .dsp && !dsiDisabled c then
      publish c (imm c Reg.DSP_PUB_ADDR 31 12 * 4096) (regGet c Reg.DSP_PUB_CRC) none
    else c

/-- DSP_PUBLISH (R362, R324): OK at the flip. -/
def execDspPublish (req : Requester) (offset : Nat) (crc : Word) (s : State) : Host.Outcome State Fault Refusal :=
  onChip s fun c => perform c req 0x0602 .pixel (fun c =>
    if dsiDisabled c then complete c req (ansStatus .disabled)
    else if offset % 4096 ≠ 0 then complete c req (ansReject .field)
    else publish c offset crc (some req))

/-- R362: the data of a DSP_WRITE lies within the host frame-buffer area. -/
def dspWriteFits (offset : Nat) (data : List Byte) : Bool :=
  decide (0x1C000000 ≤ offset ∧ offset + data.length ≤ 0x20000000)

/-- R362: the answer to a DSP_WRITE. -/
def dspWriteAnswer (c : Chip) (offset : Nat) (data : Option (List Byte)) : Answer :=
  match data with
  | none => ansReject .buffer
  | some bs =>
    if dsiDisabled c then ansStatus .disabled
    else if bs.length % 4 ≠ 0 ∨ bs.isEmpty then ansReject .buffer
    else if dspWriteFits offset bs then ansOk else ansReject .field

/-- A request is performed (R354, R16). -/
def performs (c : Chip) (req : Requester) (op : Nat) (b : Block) : Bool :=
  (match req with
   | .service _ => ready c .svc
   | .host q tag => mayStart [] c.host.inflight q tag op) && (turnAway c b).isNone

/-- DSP_WRITE (R362): the data reaches DRAM when the answer is OK. -/
def execDspWrite (req : Requester) (offset : Nat) (data : Option (List Byte)) (s : State) :
    Host.Outcome State Fault Refusal :=
  let a := dspWriteAnswer s.chip offset data
  let c := perform s.chip req 0x0601 .pixel (fun c => complete c req a)
  .next { s with
    chip := c,
    dram := if performs s.chip req 0x0601 .pixel && a.status == .ok then mputs s.dram offset (data.getD []) else s.dram }

/-! ### Ageing: tiles, gains and the pixel path (R325, R331 to R333) -/

/-- R331: tiles of a line, and measurements of a scan. -/
def tilesX (c : Chip) : Nat := (hact c + 7) / 8
def tilesY (c : Chip) : Nat := (vact c + 7) / 8
def ageKeys (c : Chip) : Nat := 3 * (tilesX c * tilesY c)

/-- 1.0 in units of 2^-15. -/
def ageOne : Nat := 32768

/-- R345: METHOD in force. -/
def ageMethod (c : Chip) : Nat := dspCfg c Reg.DSP_AGE_CFG 1 0

/-- R333: entry k of a colour's efficiency table. -/
def ageLut (c : Chip) (colour k : Nat) : Nat := dspCfg c (Reg.DSP_AGE_LUT colour (min k 63)) 15 0

/-- R333: e from the stress counter, by linear interpolation; its rounding is open (log 2). -/
def countedEff (c : Chip) (k : Nat) : Nat :=
  let sh := 2 ^ dspCfg c Reg.DSP_AGE_CFG 28 24
  let s := tget 0 c.age.stress k
  let a := ageLut c (k % 3) (s / sh)
  let b := ageLut c (k % 3) (s / sh + 1)
  if 63 ≤ s / sh then ageLut c (k % 3) 63
  else (roundOpen c 8000 (((a * sh : Nat) : Int) + ((b : Int) - (a : Int)) * ((s % sh : Nat) : Int)) sh).toNat

/-- R331: e of a tile and colour from the source now in use. -/
def tileEff (c : Chip) (k : Nat) : Nat :=
  if c.age.active = 2 then tget (countedEff c k) c.age.sensed k else countedEff c k

/-- R333: the target T. -/
def ageTarget (c : Chip) : Nat :=
  let floor := dspCfg c Reg.DSP_AGE_CFG 15 8 * 128
  match (List.range (ageKeys c)).map (tileEff c) with
  | [] => floor
  | e :: es => max floor (es.foldl min e)

/-- R333: the computed gain of a tile and colour; its rounding is open (log 2). -/
def tileGain (c : Chip) (t k : Nat) : Nat :=
  let e := tileEff c k
  if e = 0 then dspCfg c Reg.DSP_AGE_CFG 23 16 * 256
  else min (roundOpenNat c 8001 (t * ageOne) e) (dspCfg c Reg.DSP_AGE_CFG 23 16 * 256)

/-- R333: the gain a tile's applied gain moves towards: 1.0 under METHOD 0. -/
def wantedGain (c : Chip) (k : Nat) : Nat := if c.age.active = 0 then ageOne else tget ageOne c.age.gains k

/-- R333: at most 1/1,024 per frame. -/
def slewGain (have' want : Nat) : Nat := if have' < want then min want (have' + 32) else max want (have' - 32)

/-- R333: the applied gains at a frame start. -/
def slewGains (c : Chip) : Chip :=
  { c with age := { c.age with
    applied := (List.range (ageKeys c)).map (fun k => (k, slewGain (tget ageOne c.age.applied k) (wantedGain c k))) } }

/-- R333: the two tiles nearest to a coordinate along one axis, and the weight of the second in sixteenths. -/
def nearest (n x : Nat) : Nat × Nat × Nat :=
  if 2 * x < 7 then (0, 0, 0)
  else
    let u := 2 * x - 7
    if n ≤ u / 16 + 1 then (n - 1, n - 1, 0) else (u / 16, u / 16 + 1, u % 16)

/-- R333: a pixel's gain, bilinear over the four nearest tile centres, in units of 2^-15 / 256. -/
def pixelGain (c : Chip) (x y colour : Nat) : Nat :=
  let (x0, x1, wx) := nearest (tilesX c) x
  let (y0, y1, wy) := nearest (tilesY c) y
  let g := fun (tx ty : Nat) => tget ageOne c.age.applied (3 * (ty * tilesX c + tx) + colour)
  (16 - wx) * (16 - wy) * g x0 y0 + wx * (16 - wy) * g x1 y0 + (16 - wx) * wy * g x0 y1 + wx * wy * g x1 y1

/-- R324: the word of a pixel: of the front buffer, or the fallback colour. -/
def pixelWord (c : Chip) (dram : List Host.Cell) (i : Nat) : Nat :=
  match c.dsp.front with
  | some b => if c.dsp.fallback || c.dsp.noFlip then dspCfg c Reg.DSP_FALLBACK 29 0 else leNat (mgets dram (b.addr + 4 * i) 4)
  | none => dspCfg c Reg.DSP_FALLBACK 29 0

/-- R325: the compensated drive of a pixel before it is clipped; colour 0 is R, in [29:20]. -/
def pixelDrive (c : Chip) (dram : List Host.Cell) (x y colour : Nat) : Nat :=
  let w := pixelWord c dram (y * hact c + x)
  let code := w / 2 ^ (20 - 10 * colour) % 1024
  roundOpenNat c 8002 (dspCfg c (Reg.DSP_GAMMA colour code) 11 0 * pixelGain c x y colour) (ageOne * 256)

/-- R325: the drive of a pixel as it is sent: clipped at 4,095, and dithered to 8 or 10 bits (log 70). -/
def sentDrive (c : Chip) (dram : List Host.Cell) (x y colour : Nat) : Nat :=
  let bits := if dspCfg c Reg.DSP_DSI_CFG 2 2 = 1 then 10 else 8
  let step := 2 ^ (12 - bits)
  min (2 ^ bits - 1)
    ((min 4095 (pixelDrive c dram x y colour) + Config.ditherAt c.dsp.frameCnt (x % 4) (y % 4) % step) / step)

/-- R325: the pixels of a frame in scan order. -/
def sentPixels (c : Chip) (dram : List Host.Cell) : List (Nat × Nat × Nat) :=
  (List.range (hact c * vact c)).map (fun i =>
    let d := sentDrive c dram (i % hact c) (i / hact c)
    (d 0, d 1, d 2))

/-- R325: the DSI data type of the pixel stream. -/
def pixelType (c : Chip) : Nat := if dspCfg c Reg.DSP_DSI_CFG 2 2 = 1 then 0x0D else 0x3E

/-- The pixels of tile t. -/
def tilePixels (c : Chip) (t : Nat) : List (Nat × Nat) :=
  let tx := t % tilesX c
  let ty := t / tilesX c
  (List.range 64).filterMap (fun j =>
    let x := 8 * tx + j % 8
    let y := 8 * ty + j / 8
    if x < hact c ∧ y < vact c then some (x, y) else none)

/-- R332: stress of a tile and colour over a frame, in 2^-32 of a unit: the mean clipped drive over 4,095, times the
duration in quarter seconds; its rounding is open (log 2). -/
def frameStress (c : Chip) (dram : List Host.Cell) (dur k : Nat) : Nat :=
  let ps := tilePixels c (k / 3)
  let sum := (ps.map (fun (x, y) => min 4095 (pixelDrive c dram x y (k % 3)))).sum
  if ps.isEmpty then 0 else roundOpenNat c 8003 (sum * dur * 4) (ps.length * 4095)

/-- R332: the counters gain the frame's stress while the panel is ON. -/
def addStress (c : Chip) (dram : List Host.Cell) (dur : Nat) : Chip :=
  if c.dsp.pstate = .on then
    let rows := (List.range (ageKeys c)).map (fun k =>
      let v := tget 0 c.age.stress k * 2 ^ 32 + tget 0 c.age.fracs k + frameStress c dram dur k
      (k, v / 2 ^ 32, v % 2 ^ 32))
    { c with age := { c.age with stress := rows.map (fun r => (r.1, r.2.1)), fracs := rows.map (fun r => (r.1, r.2.2)) } }
  else c

/-- R333: pixels of a frame of which some colour clips at 4,095. -/
def clipped (c : Chip) (dram : List Host.Cell) : Nat :=
  ((List.range (hact c * vact c)).filter (fun i =>
    (List.range 3).any (fun k => decide (4095 < pixelDrive c dram (i % hact c) (i / hact c) k)))).length

/-! ### Frames (R324, R327, R328, R330) -/

/-- R331: METHOD takes effect: sensing scans start with METHOD 2, and e comes from the counters until one has
completed. -/
def takeMethod (c : Chip) : Chip :=
  let m := ageMethod c
  let a := c.age
  if m = 2 then
    let scan := !a.scanning && !a.baselineScan
    let a := { a with active := if a.scanned then 2 else 1 }
    { c with age := if scan then { a with scanning := true, prog := 0, errors := 0 } else a }
  else
    { c with age := { a with active := m, scanned := false, scanning := a.baselineScan } }

/-- R334: a scan that has completed changes the source of e at one frame start. -/
def scanReported (old c : Chip) : Chip :=
  if old.age.active ≠ 2 ∧ c.age.active = 2 then raiseEvt c Reg.DSP_AGE_EVT 0 else c

/-- R324: the pending buffer becomes the front buffer. -/
def flip (c : Chip) : Chip :=
  match c.dsp.pend with
  | some b =>
    let c := modDsp c (fun d => { d with front := some { b with owner := none }, pend := none, noFlip := false })
    completeOpt (dspEvt c 0) b.owner ansOk
  | none => c

/-- R324, R327, R328: a frame starts; after a change of timing the video is first stopped for two frame periods. -/
def frameStart (c : Chip) : Chip :=
  if dspRuns c && videoOn c.dsp then
    let c := modDsp c (fun d => { d with held := none })
    if 0 < c.dsp.stopFrames then modDsp c (fun d => { d with stopFrames := d.stopFrames - 1, inFrame := false })
    else
      let old := c
      let c := takeFree (slewGains (scanReported old (takeMethod c)))
      flip (modDsp c (fun d => { d with inFrame := true }))
  else c

/-- R327: frames are locked to the mains. -/
def frameLocked (c : Chip) : Bool := dspCfg c Reg.DSP_DSI_CFG 3 3 == 1

/-- DSP_FRAME_START (R324, R328): of a frame that runs free; a locked one starts at its booking (R327). -/
def execDspFrameStart (s : State) : Host.Outcome State Fault Refusal :=
  onChip s fun c => if frameLocked c then c else frameStart c

/-- FRAME_FREE (R327): a frame locked to the mains starts unaided. -/
def execFrameFree (s : State) : Host.Outcome State Fault Refusal :=
  onChip s fun c =>
    if dspRuns c && videoOn c.dsp && frameLocked c then frameStart (dspEvt c 6) else c

/-- R329, R330: the checksum of the frame fetched. -/
def checkFrame (c : Chip) (dram : List Host.Cell) (dramError : Bool) : Chip :=
  match c.dsp.front with
  | none => c
  | some b =>
    let got := crc32 (mgets dram b.addr (hact c * vact c * 4))
    let ok := got == b.crc && !dramError
    let run := if ok then 0 else sat 255 (c.dsp.crcRun + 1)
    let was := c.dsp.fallback
    let fall := if ok then false else was || decide (2 ≤ run)
    let c := modDsp c (fun d => { d with
      crcCalc := got, crcMatch := ok, crcRun := run, fallback := fall,
      crcFails := if ok then d.crcFails else (d.crcFails + 1) % 2 ^ 32 })
    let c := if ok then c else dspEvt c 1
    if fall && !was then reportSrc c 147 0 else if was && !fall then clearSrc c 147 else c

/-- R325, R329, R332: a frame ends: it has been sent, and its stress, clipping and checksum are taken. -/
def frameEnd (c : Chip) (dram : List Host.Cell) (dur : Nat) (dramError : Bool) : Chip :=
  if c.dsp.inFrame then
    let c := emit c (.frame (if c.dsp.fallback then none else c.dsp.front.map (·.addr)) (pixelType c) (sentPixels c dram))
    let c := modDsp c (fun d => { d with inFrame := false, frameCnt := (d.frameCnt + 1) % 2 ^ 32, framed := true })
    let c := { c with age := { c.age with clip := sat (2 ^ 32 - 1) (clipped c dram) } }
    takeFree (checkFrame (addStress c dram dur) dram dramError)
  else c

/-- DSP_FRAME_END (R325, R329, R330, R332): a frame of duration `dur` (2^-32 s); `dramError` says that a fetched word
had an uncorrectable error. -/
def execDspFrameEnd (dur : Nat) (dramError : Bool) (s : State) : Host.Outcome State Fault Refusal :=
  onChip s fun c => frameEnd c s.dram dur dramError

/-- R327: the booking of a locked frame start: SYNC_ANGLE of the next cycle, of every cycle from then on. -/
def bookDisplay (c : Chip) : Chip :=
  let c := unbook c (fun k => k == .displayStart)
  if dspRuns c && videoOn c.dsp && frameLocked c then
    let a := dspCfg c Reg.DSP_SYNC_ANGLE 15 0
    let k := c.tb.cycle + 1
    let k := if k * 65536 + a < nowAu c + 64 then k + 1 else k
    (book c { cycle := k, angle := a, kind := .displayStart, period := 1 }).1
  else c

/-! ### Ageing events (R332 to R334) -/

/-- AGE_RECOMPUTE (R333): under METHOD 1 and 2. -/
def execAgeRecompute (s : State) : Host.Outcome State Fault Refusal :=
  onChip s fun c =>
    if dspRuns c && c.age.active != 0 then
      let t := ageTarget c
      takeFree { c with age := { c.age with
        target := t, gains := (List.range (ageKeys c)).map (fun k => (k, tileGain c t k)) } }
    else c

/-- R332: the counters and baselines are saved to the CONFIG partition, in the older of the two copies. -/
def ageSave (c : Chip) : Chip :=
  { c with age := { c.age with
    saved := some (c.age.stress, c.age.base, c.age.baselined), savedOld := c.age.saved } }

/-- AGE_SAVE (R332). -/
def execAgeSave (s : State) : Host.Outcome State Fault Refusal :=
  onChip s fun c => if dspRuns c then raiseEvt (ageSave c) Reg.DSP_AGE_EVT 2 else c

/-- R332: the newest valid copy; `bad` tells of the newer and of the older copy whether its CRC fails. -/
def ageCopy (c : Chip) (bad : BitVec 2) : Option (Tab Nat × Tab Nat × Bool) :=
  if c.age.saved.isSome && !bad.getLsbD 0 then c.age.saved
  else if !bad.getLsbD 1 then c.age.savedOld
  else none

/-- R332: the start of the display region loads the newest valid copy; without one it starts at zero. -/
def ageLoad (c : Chip) (bad : BitVec 2) : Chip :=
  match ageCopy c bad with
  | some (st, b, f) => { c with age := { c.age with stress := st, fracs := [], base := b, baselined := f } }
  | none =>
    blotEvent (raiseEvt { c with age := { c.age with stress := [], fracs := [], base := [], baselined := false } }
      Reg.DSP_AGE_EVT 3) 0x0008 4 0

/-- AGE_SENSE (R334): in the vertical blanking of every DIV-th frame, by the frame count (log 69), the sense command for the next tile and colour of the scan. -/
def execAgeSense (s : State) : Host.Outcome State Fault Refusal :=
  onChip s fun c =>
    if dspRuns c && c.age.scanning && c.dsp.pstate == .on && !c.dsp.inFrame && c.age.sensing.isNone
        && c.dsp.frameCnt % max 1 (dspCfg c Reg.DSP_AGE_SENSE 7 0) == 0 then
      let k := c.age.prog
      let t := k / 3
      let cmd := beBytes 1 (dspCfg c Reg.DSP_AGE_SCMD 7 0) ++ beBytes 2 (t % tilesX c) ++ beBytes 2 (t / tilesX c)
        ++ beBytes 1 (k % 3) ++ beBytes 2 (dspCfg c Reg.DSP_AGE_SENSE 19 8)
      emit { c with age := { c.age with sensing := some k } } (.dcs cmd)
    else c

/-- R334: the last measurement of a scan has been made. -/
def scanStep (c : Chip) : Chip :=
  let a := { c.age with prog := c.age.prog + 1, sensing := none }
  if ageKeys c ≤ a.prog then
    if a.baselineScan then
      raiseEvt { c with age := { a with baselineScan := false, baselined := true, prog := 0,
                                        scanning := ageMethod c == 2 } } Reg.DSP_AGE_EVT 0
    else if a.active = 2 then raiseEvt { c with age := { a with prog := 0, errors := 0 } } Reg.DSP_AGE_EVT 0
    else { c with age := { a with scanned := true, prog := 0, errors := 0 } }
  else { c with age := a }

/-- AGE_SENSE_READ (R334): `sum` is the sum of 16 readings of 12 bits; e = V / V_base, its rounding open (log 2). -/
def execAgeSenseRead (sum : Nat) (s : State) : Host.Outcome State Fault Refusal :=
  onChip s fun c =>
    match c.age.sensing with
    | none => c
    | some k =>
      if sum * 100 < 5 * 65520 ∨ 65520 < sum then
        scanStep (raiseEvt { c with age := { c.age with errors := sat 255 (c.age.errors + 1) } } Reg.DSP_AGE_EVT 1)
      else if c.age.baselineScan then
        scanStep { c with age := { c.age with base := tput c.age.base k sum } }
      else
        match tfind c.age.base k with
        | some b =>
          scanStep (takeFree { c with age := { c.age with
            sensed := if b = 0 then c.age.sensed else tput c.age.sensed k (roundOpenNat c 8004 (sum * ageOne) b) } })
        | none => scanStep c

/-- AGE_BASELINE (R334): one scan that stores each V as V_base. -/
def ageBaseline (c : Chip) : Chip :=
  if regionReady c .dsp && !c.age.baselineScan then
    { c with age := { c.age with baselineScan := true, scanning := true, prog := 0, errors := 0, sensing := none } }
  else c

/-- AGE_BASELINE (R334, R345). -/
def execAgeBaseline (s : State) : Host.Outcome State Fault Refusal :=
  onChip s fun c => reach c Reg.DSP_AGE_CTRL ageBaseline

/-! ### Emissive panel power (R336 to R338) -/

/-- PANEL_POWER_ON (R336): step 1. -/
def execPanelPowerOn (s : State) : Host.Outcome State Fault Refusal :=
  onChip s fun c =>
    if dspRuns c && c.dsp.pstate == .off && !dsiDisabled c && !c.dsp.offKept && c.sup.mode != .standby then
      modDsp c (fun d => { d with pstate := .rails, step := 1, pnlDis := false, pnlEn := true, pnlRst := true })
    else c

/-- R336: the bytes of DSP_INIT_TBL. -/
def initTable (c : Chip) : List Byte := (List.range 64).flatMap (fun q => leBytes 4 (dspCfg c (Reg.DSP_INIT_TBL q) 31 0))

/-- R336: the DCS writes of a table, and whether it ends. A length that R336 does not name ends the table unfinished
(log 25). -/
def initWrites : Nat → List Byte → List (List Byte) × Bool
  | 0, _ => ([], false)
  | _, [] => ([], false)
  | n + 1, b :: bs =>
    let k := b.toNat
    if k = 0 then ([], true)
    else if k = 255 then (match bs with | [] => ([], false) | _ :: rest => initWrites n rest)
    else if 16 < k ∨ bs.length < k then ([], false)
    else
      let (ws, ok) := initWrites n (bs.drop k)
      (bs.take k :: ws, ok)

/-- PANEL_POWER_ON_STEP (R336): steps 2 to 6; the last at the end of the first frame. -/
def execPanelPowerOnStep (s : State) : Host.Outcome State Fault Refusal :=
  onChip s fun c =>
    if dspRuns c then
      match c.dsp.pstate, c.dsp.step with
      | .rails, 1 => modDsp c (fun d => { d with step := 2 })
      | .rails, 2 => modDsp c (fun d => { d with pstate := .init, step := 3, pnlRst := false })
      | .init, 3 => emits (modDsp c (fun d => { d with step := 4 })) ((initWrites 257 (initTable c)).1.map Emit.dcs)
      | .init, 4 => bookDisplay (modDsp c (fun d => { d with step := 5, framed := false }))
      | .init, 5 =>
        if c.dsp.framed then dspEvt (emit (modDsp c (fun d => { d with pstate := .on, step := 6 })) (.dcs [0x29#8])) 3 else c
      | _, _ => c
    else c

/-- R337: what calls for the panel's power-off. -/
def panelOffDue (c : Chip) : Bool :=
  c.sup.mode == .standby || c.sup.mode == .deepStandby || dsiDisabled c || c.dsp.offKept

/-- PANEL_POWER_OFF (R337): step 1, in a vertical blanking. -/
def execPanelPowerOff (s : State) : Host.Outcome State Fault Refusal :=
  onChip s fun c =>
    if panelOffDue c = false ∨ c.dsp.inFrame = true then c else
    match c.dsp.pstate with
    | .on => emit (modDsp c (fun d => { d with pstate := .offseq, step := 1 })) (.dcs [0x28#8])
    | .init => emit (modDsp c (fun d => { d with pstate := .offseq, step := 1 })) (.dcs [0x28#8])
    | .rails => modDsp c (fun d => { d with pstate := .offseq, step := 2 })
    | _ => c

/-- PANEL_POWER_OFF_STEP (R337): steps 2 to 5. -/
def execPanelPowerOffStep (s : State) : Host.Outcome State Fault Refusal :=
  onChip s fun c =>
    match c.dsp.pstate, c.dsp.step with
    | .offseq, 1 => emit (modDsp c (fun d => { d with step := 2 })) (.dcs [0x10#8])
    | .offseq, 2 =>
      bookDisplay (ageSave (modDsp c (fun d => { d with step := 3, pnlRst := true, inFrame := false, held := none })))
    | .offseq, 3 =>
      dspEvt (modDsp c (fun d => { d with pstate := .discharge, step := 4, pnlEn := false, pnlDis := true })) 5
    | .discharge, 4 => dspEvt (modDsp c (fun d => { d with pstate := .off, step := 5, pnlDis := false })) 4
    | _, _ => c

/-- R338: the abrupt sequence. -/
def panelAbrupt (c : Chip) : Chip :=
  if c.dsp.pstate = .off then modDsp c (fun d => { d with pnlRst := true, pnlEn := false, pnlDis := true })
  else
    dspEvt (modDsp c (fun d => { d with pstate := .discharge, step := 0, inFrame := false, held := none, pnlRst := true,
                                        pnlEn := false, pnlDis := true })) 5

/-! ### The bistable legal panel (R339 to R343) -/

/-- R341: width and height of the panel. -/
def bpWidth (c : Chip) : Nat := dspCfg c Reg.DSP_BP_GEOM 15 0
def bpHeight (c : Chip) : Nat := dspCfg c Reg.DSP_BP_GEOM 31 16

/-- R341: the code whose glyph is drawn: any but 0x20 to 0x7E as a space. -/
def drawnCode (b : Nat) : Nat := if 0x20 ≤ b ∧ b ≤ 0x7E then b else 0x20

/-- R341: pixel (x, y) of the panel showing a content buffer, black or not. -/
def bpPixel (c : Chip) (text : List Byte) (x y : Nat) : Bool :=
  let xo := (bpWidth c - 384) / 2
  let yo := (bpHeight c - 480) / 2
  if xo ≤ x ∧ x < xo + 384 ∧ yo ≤ y ∧ y < yo + 480 then
    let k := (x - xo) / 12
    let l := (y - yo) / 24
    Config.glyph (drawnCode (text.getD (32 * l + k) 0x20#8).toNat) ((x - xo) % 12) ((y - yo) % 24)
  else false

/-- R341: the image of a content buffer, in scan order. -/
def bpImage (c : Chip) (text : List Byte) : List Bool :=
  (List.range (bpWidth c * bpHeight c)).map (fun i => bpPixel c text (i % bpWidth c) (i / bpWidth c))

/-- R339: the codes of WRITE_MAP: in a full update every pixel is driven, in a partial one those that change. -/
def bpCodes (full : Bool) (shown new : List Bool) : List Nat :=
  new.mapIdx (fun i b => if full || shown.getD i false != b then (if b then 2 else 1) else 0)

/-- R340: boundary b, signed °C. -/
def bpBoundary (c : Chip) (b : Nat) : Int :=
  let r := if b < 4 then Reg.DSP_BP_TRANGE0 else Reg.DSP_BP_TRANGE1
  unsgn 8 (dspCfg c r (8 * (b % 4) + 7) (8 * (b % 4)))

/-- R340: the temperature set. -/
def bpSet (c : Chip) (temp : Int) : Nat := ((List.range 7).filter (fun b => decide (bpBoundary c b ≤ temp))).length

/-- R340: the phase codes of a waveform up to its end. -/
def bpWave (c : Chip) (t w : Nat) : List Nat :=
  ((List.range 64).map (fun p => dspCfg c (Reg.DSP_BP_WF t w (p / 16)) (2 * (p % 16) + 1) (2 * (p % 16)))).takeWhile
    (fun v => v != 3)

/-- R339: the 64 bytes of WRITE_LUT. -/
def bpLut (c : Chip) (t : Nat) : List Byte :=
  (List.range 16).flatMap (fun j => leBytes 4 (dspCfg c (Reg.DSP_BP_WF t (j / 4) (j % 4)) 31 0))

/-- The bistable engine changed by f. -/
def modBp (c : Chip) (f : Bp → Bp) : Chip := { c with bp := f c.bp }

/-- R345: a panel fault: the engine retries after 1 s. -/
def bpFault (c : Chip) : Chip :=
  reportSrc (raiseEvt (modBp c (fun b => { b with state := .fault, waiting := true })) Reg.DSP_BP_EVT 2) 148 0

/-- R341, R342: an update of the waiting content: READ_STATUS, READ_TEMP, WRITE_LUT, WRITE_MAP and UPDATE. -/
def bpUpdate (c : Chip) (temp : Int) (panelFault : Bool) : Chip :=
  if panelFault then bpFault c
  else
    let text := c.leg.display
    let full := c.bp.first || decide (dspCfg c Reg.DSP_BP_CFG 15 8 ≤ c.bp.sinceFull + 1)
    let t := bpSet c temp
    let len := if full then max (bpWave c t 2).length (bpWave c t 3).length
               else max (bpWave c t 0).length (bpWave c t 1).length
    let c := emits c [.bpCmd 0x02 [], .bpCmd 0x03 (bpLut c t), .bpMap (bpCodes full c.bp.shown (bpImage c text)),
      .bpCmd 0x05 (beBytes 1 full.toNat ++ beBytes 1 (dspCfg c Reg.DSP_BP_CFG 7 0))]
    modBp c (fun b => { b with
      state := .updating, busy := true, phase := 0, temp := temp, updates := (b.updates + 1) % 2 ^ 16,
      sinceFull := if full then 0 else b.sinceFull + 1, waiting := false, rendering := text, phasesLeft := len })

/-- R341, R342: the conditions of an update: content waits or the start redraw is due, the panel is not busy, and the
function is neither disabled nor in Hold-up. -/
def bpMayUpdate (c : Chip) : Bool :=
  dspRuns c && !bpDisabled c && !c.bp.disableDue && !c.dsp.offKept && !c.bp.busy && (c.bp.waiting || c.bp.first) && c.leg.running

/-- BP_UPDATE_START (R341): an update starts, or the rebuild goes on waiting behind one. -/
def execBpUpdateStart (temp : Int) (panelFault : Bool) (s : State) : Host.Outcome State Fault Refusal :=
  onChip s fun c => if bpMayUpdate c && c.bp.state == .idle then bpUpdate c temp panelFault else c

/-- BP_FAULT_RETRY (R345): one second after a panel fault, from step 1. -/
def execBpFaultRetry (temp : Int) (panelFault : Bool) (s : State) : Host.Outcome State Fault Refusal :=
  onChip s fun c =>
    if c.bp.state = .fault then
      let c := modBp c (fun b => { b with state := .idle, busy := false })
      let c := if panelFault then c else clearSrc c 148
      if bpMayUpdate c then bpUpdate c temp panelFault else c
    else c

/-- R341: the code whose glyph a cell of the image matches exactly; 0x20 with no match. -/
def cellCode (c : Chip) (image : List Bool) (l k : Nat) : Byte :=
  let xo := (bpWidth c - 384) / 2 + 12 * k
  let yo := (bpHeight c - 480) / 2 + 24 * l
  let same := fun (code : Nat) => (List.range 288).all (fun p =>
    Config.glyph code (p % 12) (p / 12) == image.getD ((yo + p / 12) * bpWidth c + xo + p % 12) false)
  match (List.range 95).find? (fun j => same (0x20 + j)) with
  | some j => BitVec.ofNat 8 (0x20 + j)
  | none => 0x20#8

/-- R341: the recovered 640-byte buffer. -/
def recovered (c : Chip) (image : List Bool) : List Byte :=
  (List.range 640).map (fun i => cellCode c image (i / 32) (i % 32))

/-- R232: the returned CRC-32 is compared with that of the buffer the legal core committed. -/
def legalReadback (c : Chip) (crc : Word) : Chip :=
  let own := crc32 c.bp.rendering
  if own = crc then clearSrc { c with leg := { c.leg with dispFault := false } } 149
  else
    let c := raiseEvt { c with leg := { c.leg with dispFault := true } } Reg.LEG_EVT 4
    reportSrc (legalEntry c tyDisplay 255 (beBytes 4 own.toNat ++ beBytes 4 crc.toNat) none) 149 0

/-- BP_BUSY_FALL (R339, R341, R342): the update, or the clean-up, has ended; `image` is what READ_IMAGE returns. -/
def execBpBusyFall (image : List Bool) (panelFault : Bool) (s : State) : Host.Outcome State Fault Refusal :=
  onChip s fun c =>
    let st := c.bp.state
    let c := modBp c (fun b => { b with busy := false, phasesLeft := 0 })
    if st = .updating then
      if panelFault then bpFault c
      else
        let crc := crc32 (recovered c image)
        let c := emit c (.bpCmd 0x07 [])
        let c := raiseEvt (modBp c (fun b => { b with
          state := .idle, crc := crc, shown := image, redrawn := true, first := false })) Reg.DSP_BP_EVT 0
        legalReadback c crc
    else if st = .cleanup then modBp c (fun b => { b with state := .idle })
    else c

/-- R343: a brown-out with `done` phases of the update finished. -/
def bpBrownOut (c : Chip) (done : Nat) : Chip :=
  if c.bp.busy && c.bp.state == .updating then
    let m := c.bp.phasesLeft - done
    if m * dspCfg c Reg.DSP_BP_PF 15 0 + dspCfg c Reg.DSP_BP_PF 31 16 * 10 ≤ c.pwd.budget * 10 then c
    else
      raiseEvt (emit (modBp c (fun b => { b with state := .cleanup, phase := done, aborts := (b.aborts + 1) % 2 ^ 16 }))
        (.bpCmd 0x06 [])) Reg.DSP_BP_EVT 1
  else c

end Sys2Proof.Machine
end

