-- ==== Sys2Proof/Machine/Host.lean ====
section
/-! DEFINITION. The PCI Express endpoint and the descriptor rings (R346 to R370): PERST and the link, the write lock,
enabling and draining ring pairs, doorbells, fetching descriptors, coalescing and MSI-X. -/

namespace Sys2Proof.Machine

/-- R369: a bit of HST_EVT. -/
def hstEvt (c : Chip) (b : Nat) : Chip := raiseEvt c Reg.HST_EVT b

/-- The host interface changed by f. -/
def modHost (c : Chip) (f : HostIf → HostIf) : Chip := { c with host := f c.host }

/-! ### The endpoint (R348, R349, R369) -/

/-- R367: a MARKER that will not complete has its booking cancelled. -/
def dropMarkers (c : Chip) (p : Ring → Bool) : Chip :=
  unbook c (fun k => match k with
    | .marker (.host q _) => p q
    | _ => false)

/-- PERST (R349): PCIE_PERST_N low resets the HST block and nothing else. -/
def execPerst (asserted : Bool) (s : State) : Host.Outcome State Fault Refusal :=
  onChip s fun c =>
    if asserted then modHost (resetHost (dropMarkers c (fun _ => true))) (fun h => { h with perst := true })
    else modHost c (fun h => { h with perst := false })

/-- PCIE_LINK_UP (R369); speed 1 Gen1 to 3 Gen3, width 1 or 2. -/
def execPcieLinkUp (speed width : Nat) (s : State) : Host.Outcome State Fault Refusal :=
  onChip s fun c =>
    if ready c .hst && !c.host.perst then modHost c (fun h => { h with linkUp := true, speed := speed, width := width })
    else c

/-- PCIE_LINK_DOWN (R369). -/
def execPcieLinkDown (s : State) : Host.Outcome State Fault Refusal :=
  onChip s fun c =>
    if c.host.linkUp then hstEvt (modHost c (fun h => { h with linkUp := false, speed := 0, width := 0 })) 2 else c

/-- R348: WLOCK is set until the next endpoint reset. -/
def setWlock (c : Chip) : Chip := if ready c .hst then modHost c (fun h => { h with wlock := true }) else c

/-- WLOCK_SET (R348). -/
def execWlockSet (s : State) : Host.Outcome State Fault Refusal :=
  onChip s fun c => reach c Reg.HST_CTRL setWlock

/-- R348: a BAR2 write that the lock discards. -/
def lockedOut (c : Chip) (addr : Nat) : Bool := c.host.wlock && addr / 0x10000 != 0x404

/-- R8: the access-fault source of an address's region. -/
def accessFault (c : Chip) (a : Nat) : Chip := reportSrc c (124 + (accessRegion a).idx) 0

/-- R8: no write reaches a register there: an unmapped offset, or the safety-die mirror. -/
def noRegister (a : Nat) : Bool := !mapped a || decide (0x7800000 ≤ a)

/-- R8, R348: a write that the lock discards; where it would have missed every register (`miss`) the window still tells. -/
def lockWrite (c : Chip) (a : Nat) (miss : Bool) : Chip :=
  let c := hstEvt c 4
  if miss && !windowClosed c a then accessFault c a else c

/-- LOCKED_WRITE (R8, R348). -/
def execLockedWrite (addr : Nat) (value : Word) (s : State) : Host.Outcome State Fault Refusal :=
  onChip s fun c => if lockedOut c addr then lockWrite (have _ := value; c) addr (noRegister addr) else c

/-! ### Ring pairs (R351, R352, R358) -/

/-- R352: a ring pair enters ERROR; its descriptors in flight get no completion. -/
def ringError (c : Chip) (q : Ring) (err : Nat) (dma : Bool) : Chip :=
  let c := dropMarkers c (fun r => r == q)
  let c := modHost c (fun h => { h with inflight := h.inflight.filter (fun d => d.ring != q) })
  let c := setRing c q.val { ringOf c q.val with state := .error, err := err }
  let c := hstEvt c 0
  if dma then hstEvt c 1 else c

/-- R369: a value of HST_RING_CFG whose sizes are in range. -/
def ringSizesOk (w : Word) : Bool :=
  decide (4 ≤ fieldOf w 7 4 ∧ fieldOf w 7 4 ≤ 12 ∧ 4 ≤ fieldOf w 11 8 ∧ fieldOf w 11 8 ≤ 12)

/-- R369: the bits of HST_RING_CFG that exist. -/
def ringCfgMask : Word := 0x031F0FF1#32

/-- R352: a base of the ring pair is 0. -/
def ringBaseZero (c : Chip) (q : Nat) : Bool :=
  ((regGet c (Reg.HST_SQ_BASE_LO q)).toNat == 0 && (regGet c (Reg.HST_SQ_BASE_HI q)).toNat == 0)
    || ((regGet c (Reg.HST_CQ_BASE_LO q)).toNat == 0 && (regGet c (Reg.HST_CQ_BASE_HI q)).toNat == 0)

/-- R351: heads, tails and phase at the start of a ring pair. -/
def startRing (c : Chip) (q : Ring) : Chip :=
  let c := setRing c q.val { RingSt.init with state := .run, phase := true }
  if ringBaseZero c q.val then ringError c q 5 false else c

/-- R351, R352, R369: a write of HST_RING_CFG with EN 1. -/
def ringEnable (c : Chip) (q : Ring) (w : Word) : Chip :=
  if ready c .hst then
    match (ringOf c q.val).state with
    | .off =>
      if ringSizesOk w then startRing (regPut c (Reg.HST_RING_CFG q.val) (w &&& ringCfgMask)) q else c
    | .error =>
      if immBit c (Reg.HST_RING_CFG q.val) 0 || !ringSizesOk w then c
      else startRing (regPut c (Reg.HST_RING_CFG q.val) (withBit (regGet c (Reg.HST_RING_CFG q.val)) 0 true)) q
    | _ => c
  else c

/-- RING_ENABLE (R351); a value with EN 0 is not this command. -/
def execRingEnable (ring : Ring) (value : Word) (s : State) : Host.Outcome State Fault Refusal :=
  onChip s fun c => reach c (Reg.HST_RING_CFG ring.val) fun c => if bitOf value 0 then ringEnable c ring value else c

/-- R358: what has not started completes with DISABLED. -/
def drainRing (c : Chip) (q : Ring) : Chip :=
  let c := setRing c q.val { ringOf c q.val with state := .draining }
  let c := modHost c (fun h => { h with inflight := h.inflight.map (fun d =>
    if d.ring == q && !d.started && d.answer == none then { d with dup := false, answer := some (ansStatus .disabled) }
    else d) })
  settleDrain (flush c) q.val

/-- R351, R352, R358: a write of HST_RING_CFG with EN 0. -/
def ringDisable (c : Chip) (q : Ring) (w : Word) : Chip :=
  if ready c .hst then
    let a := Reg.HST_RING_CFG q.val
    match (ringOf c q.val).state with
    | .off => regPut c a (w &&& ringCfgMask)
    | .run => drainRing (regPut c a (withBit (regGet c a) 0 false)) q
    | _ => regPut c a (withBit (regGet c a) 0 false)
  else c

/-- RING_DISABLE (R358); a value with EN 1 is not this command. -/
def execRingDisable (ring : Ring) (value : Word) (s : State) : Host.Outcome State Fault Refusal :=
  onChip s fun c => reach c (Reg.HST_RING_CFG ring.val) fun c => if bitOf value 0 then c else ringDisable c ring value

/-- SQ_DOORBELL (R351, R352). -/
def execSqDoorbell (ring : Ring) (tail : BitVec 12) (s : State) : Host.Outcome State Fault Refusal :=
  onChip s fun c =>
    let r := ringOf c ring.val
    if ready c .hst && r.state == .run then
      if sqSize c ring.val ≤ tail.toNat then ringError c ring 1 false
      else setRing c ring.val { r with sqTail := tail.toNat }
    else c

/-- R351: entries written and not freed. -/
def cqUsed (c : Chip) (q : Nat) : Nat :=
  let r := ringOf c q
  (r.cqTail + cqSize c q - r.cqHead) % cqSize c q

/-- CQ_DOORBELL (R351, R352): the head moves forward over entries already written. -/
def execCqDoorbell (ring : Ring) (head : BitVec 12) (s : State) : Host.Outcome State Fault Refusal :=
  onChip s fun c =>
    let q := ring.val
    let r := ringOf c q
    if ready c .hst && r.state == .run then
      if cqSize c q ≤ head.toNat ∨ cqUsed c q < (head.toNat + cqSize c q - r.cqHead) % cqSize c q then
        ringError c ring 2 false
      else setRing c q { r with cqHead := head.toNat }
    else c

/-! ### Descriptors (R353, R359, R362, R365) -/

/-- The number in little-endian bytes lo to hi of a descriptor. -/
def descNum (d : List Byte) (lo hi : Nat) : Nat := leNat ((d.drop lo).take (hi + 1 - lo))

/-- Byte k of a descriptor. -/
def descByte (d : List Byte) (k : Nat) : Nat := descNum d k k

/-- R362: the SESSION_ID of a SESSION_STOP, most significant byte first. -/
def descSession (d : List Byte) : BitVec 128 := BitVec.ofNat 128 (beNat ((d.drop 20).take 16))

/-- R362: the block of an opcode; none for an unknown opcode. -/
def opBlock (c : Chip) (d : List Byte) : Option Block :=
  let t := descByte d 3
  match descNum d 0 1 with
  | 0x0001 => some .ringEngine
  | 0x0002 => some .timebase
  | 0x0003 => some .timebase
  | 0x0004 => some .timebase
  | 0x0005 => some .supervisor
  | 0x0101 => some .supervisor
  | 0x0102 => some .supervisor
  | 0x0103 => some .supervisor
  | 0x0104 => some .supervisor
  | 0x0301 => some .accumulator
  | 0x0302 => some .tariff
  | 0x0303 => some .tariff
  | 0x0304 => some .tariff
  | 0x0305 => some .tariff
  | 0x0306 => some .legalLog
  | 0x0307 => some .legalLog
  | 0x0401 => some (.outletEngine (Fin.ofNat 8 t))
  | 0x0402 => some (stopBlock c (descSession d))
  | 0x0403 => some .service
  | 0x0501 => some (.lswChannel (Fin.ofNat 12 t))
  | 0x0601 => some .pixel
  | 0x0602 => some .pixel
  | 0x0701 => some .update
  | 0x0702 => some .update
  | 0x0703 => some .update
  | 0x0704 => some .update
  | 0x0705 => some .update
  | 0x0706 => some .update
  | 0x0707 => some .update
  | 0x0901 => some .crypto
  | _ => none

/-- R359, R362: instances that TARGET may name; 1 where it must be 0. -/
def opTargets (op : Nat) : Nat :=
  match op with
  | 0x0304 => 16
  | 0x0401 => 8
  | 0x0501 => 12
  | _ => 1

/-- R362: the parameter bytes of an opcode, as inclusive ranges. -/
def opParams (op : Nat) : List (Nat × Nat) :=
  match op with
  | 0x0002 => [(20, 27)]
  | 0x0003 => [(20, 23)]
  | 0x0004 => [(20, 27)]
  | 0x0005 => [(20, 21)]
  | 0x0102 => [(20, 27)]
  | 0x0301 => [(20, 21)]
  | 0x0302 => [(20, 25)]
  | 0x0303 => [(20, 20)]
  | 0x0305 => [(20, 25)]
  | 0x0306 => [(20, 27)]
  | 0x0307 => [(20, 27)]
  | 0x0401 => [(20, 63)]
  | 0x0402 => [(20, 35)]
  | 0x0403 => [(20, 20), (24, 27)]
  | 0x0501 => [(20, 21)]
  | 0x0601 => [(20, 23)]
  | 0x0602 => [(20, 27)]
  | 0x0702 => [(20, 23)]
  | 0x0901 => [(20, 51)]
  | _ => []

/-- R362: the opcode has a host buffer. -/
def opBuffer (op : Nat) : Bool :=
  [0x0101, 0x0104, 0x0301, 0x0302, 0x0304, 0x0306, 0x0403, 0x0601, 0x0701, 0x0702, 0x0901].contains op

/-- R362: the fields of an opcode are in range. -/
def opRanges (d : List Byte) : Bool :=
  match descNum d 0 1 with
  | 0x0005 => decide (descByte d 21 ≤ 1)
  | 0x0301 => decide ((descByte d 20 = 0 ∧ descByte d 21 < 8) ∨ descByte d 20 = 1)
  | 0x0303 => decide (descByte d 20 = 1 ∨ descByte d 20 = 2)
  | 0x0401 => decide (descByte d 20 < 16 ∧ descByte d 21 ≤ 1 ∧ 1 ≤ descByte d 22 ∧ descByte d 22 ≤ 40 ∧ descByte d 23 ≤ 2)
  | 0x0403 => decide (descByte d 20 ≤ 1)
  | 0x0501 => decide (descByte d 20 ≤ 3)
  | _ => true

/-- R359: must-be-0 bytes and bits are 0, and every field is in range. -/
def descFieldsOk (d : List Byte) : Bool :=
  let op := descNum d 0 1
  decide (descByte d 2 < 8) && (op == 0x0104 || decide (descByte d 2 < 4)) && decide (descByte d 3 < opTargets op)
    && (List.range 44).all (fun j =>
      descByte d (20 + j) == 0 || (opParams op).any (fun r => decide (r.1 ≤ 20 + j ∧ 20 + j ≤ r.2)))
    && opRanges d

/-- R362: LEN suits what the opcode reads from its buffer or writes to it. -/
def opLenOk (op len : Nat) : Bool :=
  match op with
  | 0x0101 => decide (len % 8 = 0 ∧ 8 ≤ len ∧ len ≤ 4096)
  | 0x0104 => decide (len % 8 = 0 ∧ 8 ≤ len ∧ len ≤ 2040)
  | 0x0301 => decide (1024 ≤ len)
  | 0x0302 => decide (4732 ≤ len)
  | 0x0304 => decide (144 ≤ len)
  | 0x0403 => decide (len % 32 = 0 ∧ len ≤ 2097152)
  | 0x0601 => decide (len % 4 = 0 ∧ 0 < len)
  | 0x0901 => decide (6105 ≤ len)
  | _ => decide (0 < len)

/-- R359: ADDR and LEN suit the opcode. -/
def descBufferOk (d : List Byte) : Bool :=
  let op := descNum d 0 1
  if opBuffer op then descNum d 8 15 % 8 == 0 && opLenOk op (descNum d 16 19) else descNum d 8 15 == 0

/-- R364: session opcodes are checked against session context state instead of the tag record. -/
def sessionOp (op : Nat) : Bool := op == 0x0401 || op == 0x0402

/-- The recorded completion of a tag and opcode on a ring pair. -/
def recorded (c : Chip) (q : Nat) (tag : Word) (op : Nat) : Option Answer :=
  ((tget [] c.host.tags q).find? (fun t => t.tag == tag && t.opcode == op)).map (·.answer)

/-- The tag is recorded on the ring pair. -/
def tagKnown (c : Chip) (q : Nat) (tag : Word) : Bool := (tget [] c.host.tags q).any (fun t => t.tag == tag)

/-- The tag is in flight on the ring pair with this opcode. -/
def tagFlying (c : Chip) (q : Ring) (tag : Word) (op : Nat) : Bool :=
  c.host.inflight.any (fun e => e.ring == q && e.tag == tag && e.opcode == op)

/-- A descriptor put in flight, with its answer where it has one already. -/
def fly (c : Chip) (d : Desc) : Chip := flush (modHost c (fun h => { h with inflight := h.inflight ++ [d] }))

/-- R447: in Quarantine with the service firmware absent or failed, Quill's recovery service runs. -/
def recovering (c : Chip) : Bool :=
  c.sup.mode == .quarantine && (match c.tru.stages[8]? with | some m => m.code == 0xFF | none => true)

/-- R359 to R366, R447: what becomes of a fetched descriptor. -/
def acceptDesc (c : Chip) (q : Ring) (index : Nat) (bytes : List Byte) : Chip :=
  let op := descNum bytes 0 1
  let tag := wordOf (descNum bytes 4 7)
  let d : Desc :=
    { ring := q, sqIndex := index, tag := tag, opcode := op, flags := descByte bytes 2, block := .ringEngine,
      started := false, dup := false, answer := none }
  let now := fun (c : Chip) (d : Desc) (a : Answer) => fly c { d with answer := some a }
  if !ready c .svc || c.sup.refLost then now c d (ansStatus .notReady)
  else match opBlock c bytes with
    | none => now c d (ansReject .opcode)
    | some b =>
      let d := { d with block := b }
      if recovering c && op != 0x0001 && op / 256 != 0x07 then now c d (ansReject .mode)
      else if tag = 0 then now c d (ansReject .tagZero)
      else if sessionOp op then
        if descFieldsOk bytes then (if descBufferOk bytes then fly c d else now c d (ansReject .buffer))
        else now c d (ansReject .field)
      else match recorded c q.val tag op with
        | some a => now c d (ansReplay a)
        | none =>
          if tagKnown c q.val tag then now (hstEvt c 3) d (ansReject .tagConflict)
          else if tagFlying c q tag op then fly c { d with dup := true }
          else if !descFieldsOk bytes then now c d (ansReject .field)
          else if !descBufferOk bytes then now c d (ansReject .buffer)
          else fly c d

/-- R353: descriptors of a ring pair in flight. -/
def flying (c : Chip) (q : Ring) : Nat := (c.host.inflight.filter (fun d => d.ring == q)).length

/-- R351, R353, R366: a descriptor of the ring pair may be fetched: one waits, a CQ slot can be reserved for it, and
fewer than 16 of the ring pair and 64 in all are in flight. The CQ holds one less than its size (log 26). -/
def mayFetch (c : Chip) (q : Ring) : Bool :=
  let r := ringOf c q.val
  ready c .hst && c.sup.mode != .holdUp && r.state == .run && r.sqHead != r.sqTail
    && decide (cqUsed c q.val + flying c q + 1 < cqSize c q.val) && decide (flying c q < 16)
    && decide (c.host.inflight.length < 64)

/-- R354: PRIO of a ring pair. -/
def ringPrio (c : Chip) (q : Ring) : Nat := imm c (Reg.HST_RING_CFG q.val) 25 24

/-- R354: how many turns after the last ring pair served at its priority a ring pair stands. -/
def turnsAfter (c : Chip) (q : Ring) : Nat := (q.val + 15 - tget 15 c.host.turns (ringPrio c q)) % 16

/-- R354: a higher PRIO is fetched first, and equal ones in turn. -/
def ownTurn (c : Chip) (q : Ring) : Bool :=
  (List.finRange 16).all (fun r => r == q || !mayFetch c r || decide (ringPrio c r < ringPrio c q)
    || (ringPrio c r == ringPrio c q && decide (turnsAfter c q < turnsAfter c r)))

/-- R353, R354: the next descriptor of the ring pair has been read; the turn goes on. -/
def fetchDesc (c : Chip) (q : Ring) (bytes : List Byte) : Chip :=
  let r := ringOf c q.val
  let c := modHost c (fun h => { h with turns := tput h.turns (ringPrio c q) q.val })
  acceptDesc (setRing c q.val { r with sqHead := (r.sqHead + 1) % sqSize c q.val }) q r.sqHead bytes

/-- DESCRIPTOR_FETCH (R352, R353). -/
def execDescriptorFetch (ring : Ring) (fetched : Fetched) (s : State) : Host.Outcome State Fault Refusal :=
  match fetched with
  | .desc bytes =>
    if bytes.length = 64 then
      onChip s fun c => if mayFetch c ring && ownTurn c ring then fetchDesc c ring bytes else c
    else .fault .malformedDescriptor
  | .fetchError => onChip s fun c => if mayFetch c ring && ownTurn c ring then ringError c ring 3 true else c
  | .writeError =>
    onChip s fun c =>
      if (ringOf c ring.val).state = .run ∨ (ringOf c ring.val).state = .draining then ringError c ring 4 true else c

/-- COAL_TIMER (R356): TIME µs since the first completion not yet signalled. -/
def execCoalTimer (ring : Ring) (s : State) : Host.Outcome State Fault Refusal :=
  onChip s fun c =>
    let r := ringOf c ring.val
    if imm c (Reg.HST_RING_COAL ring.val) 23 8 ≠ 0 ∧ 0 < r.unsignalled then signalRing c ring.val true else c

/-! ### MSI-X (R347, R458) -/

/-- Entry v of the MSI-X table. -/
def msixEntry (c : Chip) (v : Nat) : MsixEntry := tget MsixEntry.init c.host.msix v

/-- R458: the pending message of an unmasked vector is sent. -/
def sendPending (c : Chip) (v : Nat) : Chip :=
  if c.host.msixPending.getLsbD v && !(msixEntry c v).mask && !c.host.fnMask && ready c .hst then
    emit (modHost c (fun h => { h with msixPending := h.msixPending &&& ~~~ BitVec.ofNat 32 (2 ^ v) })) (.msix v)
  else c

/-- R347: a double word of an MSI-X table entry. -/
def msixPut (e : MsixEntry) (dword : Nat) (w : Word) : MsixEntry :=
  match dword with
  | 0 => { e with addrLo := w }
  | 1 => { e with addrHi := w }
  | 2 => { e with data := w }
  | _ => { e with mask := bitOf w 0 }

/-- MSIX_TABLE_WRITE (R347, R458). -/
def execMsixTableWrite (w : MsixWrite) (s : State) : Host.Outcome State Fault Refusal :=
  onChip s fun c =>
    if ready c .hst then
      match w with
      | .entry v dword value =>
        sendPending (modHost c (fun h => { h with
          msix := tput h.msix v.val (msixPut (msixEntry c v.val) dword.val value) })) v.val
      | .functionMask masked =>
        let c := modHost c (fun h => { h with fnMask := masked })
        (List.range 32).foldl sendPending c
    else c

end Sys2Proof.Machine
end

