-- ==== Sys2Proof/Machine/Fabric.lean ====
section
/-! DEFINITION. The Felt fabric (R371 to R384): ports and rates, reception and forwarding, discovery and addresses,
the membership, the time root and the round clock. -/

namespace Sys2Proof.Machine

/-! ### The time root (R382) -/

/-- R382: the class of this module's clock; none while it is not valid. -/
def ownClass (c : Chip) : Option Nat :=
  if c.tb.valid then
    some (match c.tb.src with
      | .network => 0
      | .backend => 1
      | .host => 2
      | _ => 3)
  else none

/-- R382: the better of two roots: lower class, then lower identity, then fewer hops. -/
def betterRoot (c : Chip) (a b : RootInfo) : Bool :=
  decide (a.cls < b.cls) || (a.cls == b.cls && (decide (unitOf c a.addr < unitOf c b.addr)
    || (a.addr == b.addr && decide (a.hops < b.hops))))

/-- R382: the candidates this module knows: itself, and what each neighbour reports. -/
def rootCandidates (c : Chip) : List RootInfo :=
  (match ownClass c with | some k => [{ addr := c.fab.addr, cls := k, hops := 0 }] | none => [])
    ++ (List.range 4).filterMap (fun p =>
      if portUp (fport c p) then
        (fport c p).rootSeen.bind (fun r =>
          if r.addr = c.fab.addr then none else some { r with hops := r.hops + 1 })
      else none)

/-- R382: the time root; a change of its address is told. -/
def chooseRoot (c : Chip) : Chip :=
  let best := (rootCandidates c).foldl (fun b r => match b with
    | none => some r
    | some q => if betterRoot c r q then some r else some q) (none : Option RootInfo)
  let changed := best.map (·.addr) != c.fab.root.map (·.addr)
  let c := modFab c (fun f => { f with root := best })
  if changed then fabEvt c 7 else c

/-- R382: this module is the time root. -/
def isRoot (c : Chip) : Bool := match c.fab.root with | some r => r.addr == c.fab.addr | none => false

/-! ### Ports (R371 to R373) -/

/-- R70, R373: a port is held down. -/
def portHeld (x : FPortSt) : Bool := x.state == .disabled || x.state == .retired

/-- R372: a port starts training, at full rate first. -/
def portTrain (c : Chip) (p : Nat) : Chip :=
  let x := fport c p
  if portHeld x then c else setFport c p { FPortSt.init with state := .training, tryFull := true, fcs := x.fcs, authErr := x.authErr }

/-- R376: the payload of HELLO on port p. -/
def helloBytes (c : Chip) (p : Nat) : List Byte :=
  id16 c.tru.unit ++ beBytes 2 (c.fab.addr + place 15 (!c.fab.addrValid).toNat) ++ beBytes 1 p
    ++ beBytes 1 (if (fport c p).state = .standby then 1 else 0) ++ beBytes 2 (ownRated c) ++ beBytes 1 (ownFlags c)
    ++ beBytes 1 0

/-- PORT_LOCK (R372): the link comes up; HELLO goes out on it. -/
def execPortLock (port : FPort) (full : Bool) (s : State) : Host.Outcome State Fault Refusal :=
  onChip s fun c =>
    let p := port.val
    if (fport c p).state = .training then
      let c := modPort c p (fun x => { x with
        state := if full then .full else .standby, nbr := none, answered := false, explained := false, wakeSent := false })
      sendLink (clearSrc c (76 + p)) p 0x01 (helloBytes c p)
    else c

/-- PORT_TRAIN_TIMEOUT (R372): no lock after 20 ms: the other rate. -/
def execPortTrainTimeout (port : FPort) (s : State) : Host.Outcome State Fault Refusal :=
  onChip s fun c =>
    if (fport c port.val).state = .training then modPort c port.val (fun x => { x with tryFull := !x.tryFull }) else c

/-- PORT_LOCK_LOSS (R373): a port fault unless it is explained; `neighbourPower` says that the neighbour lost its
power. -/
def execPortLockLoss (port : FPort) (neighbourPower : Bool) (s : State) : Host.Outcome State Fault Refusal :=
  onChip s fun c =>
    let p := port.val
    let x := fport c p
    if portUp x then
      let c := topoChanged (floodLsa (portTrain c p)) false
      if x.explained || neighbourPower then c else reportSrc c (76 + p) 0
    else c

/-- R372: a link's rate changes. -/
def setRate (c : Chip) (p : Nat) (standby : Bool) : Chip :=
  let x := fport c p
  if portUp x then
    let st : PortState := if standby then .standby else .full
    if x.state = st then c
    else topoChanged (floodLsa (modPort c p (fun x => { x with state := st, wakeSent := if standby then x.wakeSent else false }))) false
  else c

/-- RATE (R372). -/
def execRate (port : FPort) (standby : Bool) (s : State) : Host.Outcome State Fault Refusal :=
  onChip s fun c => setRate c port.val standby

/-- R61, R372: every up link of this module changes its rate, RATE being sent on it first. -/
def allRates (c : Chip) (standby : Bool) : Chip :=
  (List.range 4).foldl (fun c p => setRate (sendLink c p 0x0F (beBytes 1 standby.toNat)) p standby) c

/-- R373: instants within the last second. -/
def lastSecond (c : Chip) (l : List Nat) : List Nat := l.filter (fun t => decide (c.tb.aon < t + 2 ^ 32))

/-- PORT_ERR_READ (R400, R10): the read returns and clears. -/
def execPortErrRead (port : FPort) (s : State) : Host.Outcome State Fault Refusal :=
  onChip s fun c => readActs c (Reg.FAB_PORT_ERR port.val) fun c =>
    let x := fport c port.val
    (setFport c port.val { x with fcs := 0, authErr := 0 }, wordOf (x.fcs + place 16 x.authErr))

/-! ### Reception (R374, R375, R381) -/

/-- R375: this module holds an equal or later frame of the source and type, or a later start of the source. -/
def stale (c : Chip) (h : FeltHdr) (typ : Nat) : Bool :=
  c.fab.heard.any (fun (k, e, q) => k / 64 == h.src && (decide (h.epoch < e) || (k == 64 * h.src + typ && e == h.epoch && decide (h.seq ≤ q))))

/-- R374, R381: a flood is forwarded once, on every up port but its own. -/
def forwardFlood (c : Chip) (h : FeltHdr) (typ : Nat) : Chip :=
  let id := (h.src, typ, h.epoch, h.seq)
  if c.fab.forwarded.contains id = true then c
  else
    let ports := (List.range 4).filter (fun p => p != h.port.val && carries c p typ)
    emits (modFab c (fun f => { f with forwarded := (id :: f.forwarded).take 1024 }))
      (ports.map (fun p => .feltForward p typ h.src h.epoch h.seq (h.ttl - 1)))

/-- R376: TYPEs that go to the neighbour only, whichever DST they name (log 28). -/
def linkType (typ : Nat) : Bool := [0x01, 0x04, 0x0D, 0x0F].contains typ

/-- R374, R376: a frame is for this module: a frame of the link, a flood, or one to its address. -/
def forMe (c : Chip) (h : FeltHdr) (typ : Nat) : Bool := linkType typ || h.dst == none || h.dst == some c.fab.addr

/-- R376, R381: a frame that is not for this module alone, or a flood, goes on. -/
def passOn (c : Chip) (h : FeltHdr) (typ : Nat) (flood : Bool) : Chip :=
  if h.ttl = 0 ∨ linkType typ = true then c
  else if flood then forwardFlood c h typ
  else match h.dst with
    | none => c
    | some a =>
      if a = c.fab.addr then c
      else match portToward c a with
        | some p => if carries c p typ then emit c (.feltForward p typ h.src h.epoch h.seq (h.ttl - 1)) else c
        | none => c

/-- R376: TYPEs that are flooded. -/
def floodType (typ : Nat) : Bool := [0x02, 0x03, 0x05, 0x06, 0x0B, 0x0C, 0x0E, 0x10].contains typ

/-- R373, R375: a frame whose FCS or tag failed on port p: more than 16 of a kind within 1 s are a port fault. -/
def badFrame (c : Chip) (p : Nat) (tag : Bool) : Chip :=
  let x := fport c p
  if tag then
    let l := c.tb.aon :: lastSecond c x.authAt
    let c := fabEvt (setFport c p { x with authErr := sat 65535 (x.authErr + 1), authAt := if 16 < l.length then [] else l }) 12
    if 16 < l.length then reportSrc c (76 + p) 0 else c
  else
    let l := c.tb.aon :: lastSecond c x.fcsAt
    let c := setFport c p { x with fcs := sat 65535 (x.fcs + 1), fcsAt := if 16 < l.length then [] else l }
    if 16 < l.length then reportSrc c (76 + p) 0 else c

/-- FELT_FRAME_REJECTED (R373, R375, R376): it is not used here, but a forwarder checks only HCRC. An unknown TYPE is
discarded. -/
def execFeltFrameRejected (h : FeltHdr) (typ : Nat) (why : FrameFault) (s : State) : Host.Outcome State Fault Refusal :=
  onChip s fun c =>
    if !keyOk c || !portUp (fport c h.port.val) then c
    else match why with
      | .hcrc => c
      | .typ => c
      | .fcs => badFrame (passOn c h typ (floodType typ)) h.port.val false
      | .tag => badFrame (passOn c h typ (floodType typ)) h.port.val true

/-- R375, R380, R381: a frame whose checks have passed: floods and other members' frames go on, and what is for this
module is used once. `echo` says that it is a flood of this module's own come back, which goes no further. -/
def receive (c : Chip) (h : FeltHdr) (typ : Nat) (flood echo : Bool) (use : Chip → Chip) : Chip :=
  if !keyOk c || !portUp (fport c h.port.val) || h.ttl == 0 || echo then c
  else
    let c := passOn c h typ flood
    if forMe c h typ && !stale c h typ then
      use (modFab c (fun f => { f with heard := tput f.heard (64 * h.src + typ) (h.epoch, h.seq) }))
    else c

/-- A flood that names this module's address as its source is its own, but a CLAIM or LSA is its own by its UNIT (R377). -/
def ownFlood (c : Chip) (h : FeltHdr) : Bool := h.src == c.fab.addr

/-! ### Addresses (R377, R378) -/

/-- R377: the first probe of this module. -/
def homeAddr (c : Chip) : Nat := (Config.shake256 (beBytes 16 c.tru.unit.toNat)).toNat / 2 ^ 240 % 1024

/-- R377: an address that the database holds for another unit. -/
def taken (c : Chip) (a : Nat) : Bool := c.fab.db.any (fun r => r.addr == a && r.unit != c.tru.unit)

/-- R376: floods CLAIM for the present address. -/
def floodClaim (c : Chip) : Chip := sendFlood c 0x02 (id16 c.tru.unit ++ beBytes 2 c.fab.addr ++ beBytes 2 0)

/-- R377: the address is claimed and stored in CONFIG. -/
def claimAddr (c : Chip) (a : Nat) : Chip :=
  floodClaim (modFab c (fun f => { f with addr := a, addrValid := false, storedAddr := some (a, c.tru.unit) }))

/-- R377: the next free probe is claimed, not the address lost in a conflict; with none free the module does not
join. -/
def claimNext (c : Chip) (lost : Option Nat) : Chip :=
  match (List.range 1024).find? (fun k => decide (c.fab.probe ≤ k) && !taken c ((homeAddr c + k) % 1024)
      && lost != some ((homeAddr c + k) % 1024)) with
  | some k => claimAddr (modFab c (fun f => { f with probe := k + 1 })) ((homeAddr c + k) % 1024)
  | none => fabEvt (modFab c (fun f => { f with addrValid := false })) 13

/-- R377, R378: the first claim, once the trust region serves; without EN the module takes its home address
unclaimed. -/
def claimStart (c : Chip) : Chip :=
  if cfgBit c Reg.FAB_CFG 0 then
    match c.fab.storedAddr with
    | some (a, u) => if u = c.tru.unit then claimAddr c a else claimNext c none
    | none => claimNext c none
  else modFab c (fun f => { f with addr := homeAddr c, addrValid := false })

/-- R374, R378: the link region starts: a new EPOCH, ports in training, discovery. -/
def fabStart (c : Chip) : Chip :=
  let c := modFab c (fun f => { f with epoch := (f.epoch + 1) % 2 ^ 32, seqs := [] })
  let c := (List.range 4).foldl (fun c p =>
    if immBit c Reg.SUP_DISABLE (16 + p) && (fport c p).state != .retired then
      setFport c p { FPortSt.init with state := .disabled }
    else c) c
  if cfgBit c Reg.FAB_CFG 0 then
    let c := modFab c (fun f => { f with mode := .discover })
    let c := (List.range 4).foldl portTrain c
    if ready c .tru then claimStart c else c
  else claimStart (modFab c (fun f => { f with mode := .off }))

/-- R379, R400: a commit group changes EN: LEAVE and the ports down, or a new start. -/
def enChanged (c : Chip) : Chip :=
  if cfgBit c Reg.FAB_CFG 0 then fabStart c
  else
    let c := floodLeave c 1
    let c := (List.range 4).foldl (fun c p => if portHeld (fport c p) then c else setFport c p FPortSt.init) c
    claimStart (unbook (modFab c (fun f => { f with mode := .off, db := [], addrValid := false, collecting := false }))
      (fun k => k == .allocRound))

/-- R377: the same address is named for another unit: the lower identity keeps it. -/
def conflict (c : Chip) (unit : BitVec 128) (addr : Nat) : Chip :=
  if addr = c.fab.addr ∧ unit ≠ c.tru.unit ∧ c.fab.mode ≠ .off then
    let c := fabEvt c 1
    if unit.toNat < c.tru.unit.toNat then
      let old := c.fab.addr
      let c := claimNext c (some old)
      blotEvent c 0x0005 3 (old + place 16 c.fab.addr)
    else floodClaim c
  else c

/-- CLAIM (R377). -/
def execClaim (h : FeltHdr) (unit : BitVec 128) (addr : Nat) (s : State) : Host.Outcome State Fault Refusal :=
  onChip s fun c => receive c h 0x02 true (unit == c.tru.unit) (fun c => conflict c unit addr)

/-- ADDR_CLAIM_VALID (R377, R378): 50 ms without a conflict. -/
def execAddrClaimValid (s : State) : Host.Outcome State Fault Refusal :=
  onChip s fun c =>
    if c.fab.addrValid || c.fab.mode == .off then c
    else
      let c := modFab c (fun f => { f with
        addrValid := true, mode := if f.mode = .discover then .deterministic else f.mode })
      chooseRoot (topoChanged (floodLsa c) true)

/-! ### Discovery and membership (R376, R378, R379) -/

/-- R378: every LSA held is sent on a new link. -/
def exchange (c : Chip) (p : Nat) : Chip :=
  emits (floodLsa c) (c.fab.db.filterMap (fun r =>
    (tfind c.fab.heard (64 * r.addr + 3)).map (fun (e, q) => Emit.feltForward p 0x03 r.addr e q (r.ttl - 1))))

/-- R397: the notices of settled sessions are flooded again. -/
def floodNotices (c : Chip) : Chip :=
  c.repl.notices.foldr (fun (sid, o, st, ad, seq) c => sendFlood c 0x0B (settledBytes sid o st ad seq)) c

/-- R397: a member that was not reachable before is now: it has joined this partition. -/
def joined (old c : Chip) : Bool :=
  c.fab.db.any (fun r => reachable c r.addr && !(old.fab.db.any (fun q => q.addr == r.addr) && reachable old r.addr))

/-- R397: where a member has joined since `old`, it is told of what has been settled. -/
def greet (old c : Chip) : Chip := if joined old c then floodNotices c else c

/-- HELLO (R376, R378): the neighbour is known and answered; the databases are exchanged on a new link. -/
def execHello (h : FeltHdr) (unit : BitVec 128) (addr : Nat) (tentative : Bool) (nport rate rated flags : Nat)
    (s : State) : Host.Outcome State Fault Refusal :=
  onChip s fun c => receive c h 0x01 false false (fun c =>
    have _ := (unit, nport, rate, rated, flags)
    let p := h.port.val
    let x := fport c p
    let nbr := if tentative then x.nbr else some addr
    let c := setFport c p { x with nbr := nbr, answered := true }
    let c := if x.answered then c else exchange (sendLink c p 0x01 (helloBytes c p)) p
    if nbr != x.nbr then greet c (topoChanged (floodLsa c) false) else c)

/-- R378: HELLO on each trained port. -/
def helloAll (c : Chip) : Chip := (List.range 4).foldl (fun c p => sendLink c p 0x01 (helloBytes c p)) c

/-- HELLO_TICK (R376). -/
def execHelloTick (port : FPort) (s : State) : Host.Outcome State Fault Refusal :=
  onChip s fun c =>
    if c.fab.mode = .off then c else sendLink c port.val 0x01 (helloBytes c port.val)

/-- R379: the database with one member's record taken in; a unit has one address. -/
def putLsa (c : Chip) (r : LsaRec) : Chip :=
  modFab c (fun f => { f with db := f.db.filter (fun e => e.unit != r.unit && e.addr != r.addr) ++ [r] })

/-- R379, R395, R396: a member is back under a new address: it stays the holder, or the origin, that it was (log 28). What
records say keeps the address in force when they were written (R377). -/
def moveMember (c : Chip) (old new : Nat) : Chip :=
  let moved := fun (a : Nat) => if a = old then new else a
  { c with
    repl := { c.repl with
      holders := c.repl.holders.map (fun h => { h with addr := moved h.addr }),
      refused := c.repl.refused.map (fun e => (e.1, moved e.2)) },
    sess := { c.sess with ctxs := c.sess.ctxs.map (fun e =>
      (e.1, { e.2 with
        peers := e.2.peers.map moved, told := e.2.told.map moved,
        replOrigin := if e.2.bstate = .replica then moved e.2.replOrigin else e.2.replOrigin })) } }

/-- LSA (R376, R377, R379, R380). -/
def execLsa (h : FeltHdr) (unit : BitVec 128) (lsaSeq rated flags : Nat) (links : List FLink) (s : State) :
    Host.Outcome State Fault Refusal :=
  onChip s fun c => receive c h 0x03 true (unit == c.tru.unit) (fun c =>
    let c := conflict c unit h.src
    if h.src = c.fab.addr then c
    else
      let old := c.fab.db.find? (fun r => r.unit == unit)
      let r : LsaRec :=
        { unit := unit, addr := h.src, seq := lsaSeq, rated := rated, flags := flags, links := links, aged := false,
          ttl := h.ttl }
      let before := c
      let c := putLsa (match old with | some o => if o.addr = h.src then c else moveMember c o.addr h.src | none => c) r
      let same := match old with
        | some o => o.addr == r.addr && o.rated == rated && o.flags == flags && o.links == links && !o.aged
        | none => false
      if same then c
      else
        let c := topoChanged c (match old with | some o => o.addr != h.src | none => true)
        chooseRoot (greet before c))

/-- LSA_REFRESH (R376). -/
def execLsaRefresh (s : State) : Host.Outcome State Fault Refusal :=
  onChip s fun c => if c.fab.mode = .off then c else floodLsa c

/-- LSA_AGE_OUT (R379): unreachable, and still a member. -/
def execLsaAgeOut (addr : Nat) (s : State) : Host.Outcome State Fault Refusal :=
  onChip s fun c =>
    if c.fab.db.any (fun r => r.addr == addr && !r.aged) then
      chooseRoot (topoChanged (modFab c (fun f => { f with
        db := f.db.map (fun r => if r.addr == addr then { r with aged := true } else r) })) false)
    else c

/-- R379: a member is removed. -/
def removeMember (c : Chip) (addr : Nat) : Chip :=
  let c := modFab c (fun f => { f with
    db := f.db.filter (fun r => r.addr != addr), lastUnctrl := terase f.lastUnctrl addr, missingFrom := terase f.missingFrom addr })
  chooseRoot (topoChanged c true)

/-- LEAVE (R379, R373): the loss of lock that follows is explained. -/
def execLeave (h : FeltHdr) (unit : BitVec 128) (reason : Nat) (s : State) : Host.Outcome State Fault Refusal :=
  onChip s fun c => receive c h 0x0C true (ownFlood c h) (fun c =>
    have _ := reason
    match c.fab.db.find? (fun r => r.unit == unit) with
    | some r =>
      let c := (List.range 4).foldl (fun c p =>
        if (fport c p).nbr == some r.addr then modPort c p (fun x => { x with explained := true }) else c) c
      removeMember c r.addr
    | none => c)

/-! ### Time and the round clock (R382 to R384) -/

/-- The instant nearest to t, in AU since cycle 0, whose site angle is 0. -/
def siteZeroNear (c : Chip) (t : Nat) : Nat :=
  let z := (65536 - siteOffset c) % 65536
  let k := (t + 32768 - z) / 65536
  k * 65536 + z

/-- R384: an instant of fabric time (ns) on the local count of AU; its rounding is open (log 2). -/
def nsToAu (c : Chip) (ns : Nat) : Nat :=
  ((nowAu c : Int) + roundOpen c 6400 (((ns : Int) - (nowNs c : Int)) * ((c.tb.freq * 65536 : Nat) : Int)) (10 ^ 12)).toNat

/-- R384: the round is booked at the site angle 0 nearest to ROUND_AT, again if the booking lies more than a quarter of
a cycle from it. -/
def bookRound (c : Chip) : Chip :=
  if c.fab.mode = .off ∨ c.fab.addrValid = false then c
  else
    let t := if c.fab.roundAt = 0 then nowAu c + 65536 else nsToAu c c.fab.roundAt
    let near := fun (b : Booking) => b.kind == .allocRound
      && decide ((((b.cycle * 65536 + b.angle : Nat) : Int) - (t : Int)).natAbs ≤ 16384)
    if c.tb.sched.any near then c
    else
      let a := siteZeroNear c t
      let a := if a < nowAu c + 64 then a + 131072 else a
      takeFree (book (unbook c (fun k => k == .allocRound))
        { cycle := a / 65536, angle := a % 65536, kind := .allocRound, period := 2 }).1

/-- R383: the one-way delay of a link from a SYNC exchange; its rounding is open (log 2). -/
def linkDelay (c : Chip) (y : SyncBody) (rx : Nat) : Nat :=
  (roundOpen c 6401 (((rx : Int) - (y.tEcho : Int)) - ((y.tTx : Int) - (y.rxOfEcho : Int))) 2).toNat

/-- R105: the neighbour of port q has reported a locked site angle within the last 2 s. -/
def beaconFresh (c : Chip) (q : Nat) : Bool :=
  portUp (fport c q) && (fport c q).lockHops != 255 && decide (c.tb.aon ≤ (fport c q).lockAt + 2 * 2 ^ 32)

/-- R106: the beacon of the neighbour with the fewest hops to a locked module, ties to the lower address. -/
def bestBeacon (c : Chip) (p : Nat) : Bool :=
  let key := fun (q : Nat) => (fport c q).lockHops * 2048 + (match (fport c q).nbr with | some a => a | none => 1024)
  (fport c p).lockHops != 255 && (List.range 4).all (fun q => q == p || !beaconFresh c q || decide (key p ≤ key q))

/-- R105, R106: beacon data of port p: the timebase without a reference adopts the frequency at once and, steering by at
most 8,192 AU a cycle, the site angle; the error is how far the own angle is ahead (log 59). -/
def takeBeacon (c : Chip) (p : Nat) (y : SyncBody) : Chip :=
  if y.lockHops = 255 then c
  else
    let c := beaconSeen c
    if c.tb.state = .synthFab ∧ bestBeacon c p = true then
      let err := (siteAngle c + 65536 - y.angle % 65536) % 65536
      { c with tb := { c.tb with freq := y.freq, phaseErr := unsgn 16 err } }
    else c

/-- R382, R383: the offset to the root that port p's neighbour passes on, applied while this module follows it. -/
def followRoot (c : Chip) (p : Nat) (y : SyncBody) (rx : Nat) : Chip :=
  match c.fab.root, (fport c p).rootSeen with
  | some r, some seen =>
    if r.addr ≠ c.fab.addr ∧ seen.addr = r.addr ∧ seen.hops + 1 = r.hops then
      let ofs := ((y.tTx + (fport c p).delayNs : Nat) : Int) - (rx : Int)
      let c := modFab c (fun f => { f with ofsNs := satInt 32 ofs, roundSeen := max f.roundSeen y.roundNext,
                                           roundNext := max y.roundNext (f.roundRun + 1), roundAt := y.roundAt })
      let c := takeFree (wallOffset c .felt (roundOpen c 6402 (ofs * 2 ^ 32) (10 ^ 9)))
      bookRound c
    else c
  | _, _ => c

/-- SYNC (R376, R382 to R384): `rxTime` is the local receive time in ns. -/
def execSync (h : FeltHdr) (sync : SyncBody) (rxTime : Nat) (s : State) : Host.Outcome State Fault Refusal :=
  onChip s fun c => receive c h 0x04 false false (fun c =>
    let p := h.port.val
    let x := fport c p
    let c := setFport c p { x with
      syncTx := sync.tTx, syncRx := rxTime, lockHops := sync.lockHops, lockAt := c.tb.aon,
      delayNs := if sync.tEcho = 0 then x.delayNs else sat 65535 (linkDelay c sync rxTime),
      rootSeen := if sync.rootClass ≤ 3 then some { addr := sync.root, cls := sync.rootClass, hops := sync.hops } else none }
    let c := modFab (takeFree c) (fun f => { f with roundSeen := max f.roundSeen (sync.roundNext - 1) })
    takeBeacon (followRoot (chooseRoot c) p sync rxTime) p sync)

/-- R376: hops from this module to one whose timebase is LOCKED. -/
def ownLockHops (c : Chip) : Nat :=
  if c.tb.state = .locked then 0
  else
    let best := (List.range 4).foldl (fun b p => if portUp (fport c p) then min b (fport c p).lockHops else b) 255
    if best = 255 then 255 else min 254 (best + 1)

/-- R376: the payload of SYNC on port p. Without a root the root class is 255 (log 28). -/
def syncBytes (c : Chip) (p : Nat) : List Byte :=
  let x := fport c p
  let r := c.fab.root.getD { addr := 0, cls := 255, hops := 0 }
  beBytes 8 (nowNs c) ++ beBytes 8 x.syncTx ++ beBytes 8 x.syncRx ++ beBytes 2 r.addr ++ beBytes 1 r.cls
    ++ beBytes 1 r.hops ++ beBytes 4 c.fab.roundNext ++ beBytes 8 c.fab.roundAt ++ beBytes 1 (ownLockHops c)
    ++ beBytes 1 0 ++ beBytes 2 (siteAngle c) ++ beBytes 4 c.tb.freq

/-- SYNC_TICK (R376). -/
def execSyncTick (port : FPort) (s : State) : Host.Outcome State Fault Refusal :=
  onChip s fun c => if c.fab.mode = .off then c else sendLink c port.val 0x04 (syncBytes c port.val)

end Sys2Proof.Machine
end

