-- ==== Sys2Proof/Machine/Alloc.lean ====
section
/-! DEFINITION. Site power allocation (R384 to R394): rounds, demands, the filling procedure, digests, divergence and
fallback, the Milliner and the return to deterministic mode. -/

namespace Sys2Proof.Machine

/-- R388, R389, R393: 10 s of the AON counter. -/
def tenSeconds : Nat := 10 * 2 ^ 32

/-- R385: this module takes part in allocation. -/
def participates (c : Chip) : Bool :=
  cfgBit c Reg.FAB_CFG 2 && c.fab.addrValid && (c.fab.mode == .deterministic || c.fab.mode == .fallback) && ready c .svc

/-! ### The demand of this module (R386, R387) -/

/-- R386: the states in which an outlet contributes an entry. -/
def demands? (x : OutletSt) : Bool :=
  x.state == .authorised || x.state == .closing || x.state == .checking || x.state == .precharge || x.state == .energised

/-- A current in 0.1 A at a voltage in mV, as W; its rounding is open (log 2). -/
def wattsOf (c : Chip) (place i10 mv : Nat) : Nat := roundOpenNat c place (i10 * mv) 10000

/-- R386: the voltage of a DC outlet for its bounds: the measured one, else the target, mV (log 29). -/
def demandVolts (c : Chip) (o : Nat) : Nat :=
  if isDc c o then (if outletVolts c o = 0 then (outletOf c o).setMv else outletVolts c o)
  else outletVolts c o * outPhases c o

/-- R386: LO_W. -/
def demandLo (c : Chip) (o : Nat) : Nat := if isDc c o then 0 else wattsOf c (6500 + o) 60 (demandVolts c o)

/-- R386: HI_W (log 29). -/
def demandHi (c : Chip) (o : Nat) : Nat :=
  let x := outletOf c o
  let mv := demandVolts c o
  let imax := cfg c (Reg.OUT_LIMIT o) 15 0
  if isDc c o then
    let rated := ((presentModules c o).map (fun (b, a) => (moduleOf c b a).ratedP * 10)).sum
    let w := min (cfg c (Reg.OUT_DCLIM o) 31 16 * 100) rated
    if mv = 0 then w
    else
      let w := min w (wattsOf c (6510 + o) imax mv)
      match x.reqMa with
      | some ma => min w (roundOpenNat c (6520 + o) (ma.toNat * mv) 1000000)
      | none => w
  else
    let i := if cfgBit c (Reg.OUT_CFG o) 3 then imax else min imax (x.capA * 10)
    wattsOf c (6510 + o) i mv

/-- R386: EXP_W. -/
def demandExp (c : Chip) (o : Nat) : Nat :=
  if outKind c o = 3 then
    match (outletOf c o).reqMa with
    | some ma => roundOpenNat c (6530 + o) (min (-ma).toNat (cfg c (Reg.OUT_LIMIT o) 31 16 * 100) * demandVolts c o) 1000000
    | none => 0
  else 0

/-- R386, R387: the entries of this module's DEMAND. -/
def demandEntries (c : Chip) : List DemEntry :=
  (List.range 8).filterMap (fun o =>
    if demands? (outletOf c o) then
      some { outlet := o, prio := cfg c (Reg.FAB_OUT_CFG o) 1 0, weight := cfg c (Reg.FAB_OUT_CFG o) 15 8, ac := isAc c o,
             lo := demandLo c o, hi := demandHi c o, exp := demandExp c o, startRound := tget 0 c.fab.startRounds o }
    else none)

/-- R177: active power of point m over the last cycle, W. -/
def pointWatts (c : Chip) (m : Nat) : Int := unsgn 32 (regGet c (Reg.MET_QE_INST m 3 2)).toNat

/-- R387: UNCTRL_W. -/
def unctrl (c : Chip) : Int :=
  if cfgBit c Reg.FAB_MOD_CFG 19 then
    pointWatts c (cfg c Reg.FAB_MOD_CFG 18 16)
      - ((List.range 8).map (fun o => if energised c o then (match pointOfOutlet c o with | some m => pointWatts c m | none => 0) else 0)).sum
  else 0

/-- The result of a round, among the last two. -/
def resultOf (c : Chip) (r : Nat) : Option AllocResult := c.fab.results.find? (fun a => a.round == r)

/-- R390, R391, R394: the digest that DEMAND(r) carries. -/
def demandDigest (c : Chip) (r : Nat) : BitVec 128 :=
  if c.fab.mode = .deterministic ∧ c.fab.computed = 2 ∧ c.sup.mode ≠ .standby ∧ 0 < r then
    match resultOf c (r - 1) with | some a => a.digest | none => 0
  else 0

/-- R387: DEMAND(r) of this module. -/
def ownDemand (c : Chip) (r : Nat) : Demand :=
  { addr := c.fab.addr, round := r, digest := demandDigest c r, siteVer := liveGet c Reg.FAB_SITE_VER, unctrl := unctrl c,
    mode := placeBit 0 (c.fab.mode == .fallback) + placeBit 1 (c.sup.mode == .standby),
    entries := if c.sup.mode = .standby then [] else demandEntries c }

/-- R387: the payload of a DEMAND. -/
def demandBytes (d : Demand) : List Byte :=
  beBytes 4 d.round ++ beBytes 16 d.digest.toNat ++ beBytes 4 d.siteVer.toNat ++ beBytes 4 (sgn 32 d.unctrl)
    ++ beBytes 1 d.mode ++ beBytes 1 d.entries.length ++ beBytes 2 0
    ++ d.entries.flatMap (fun e => beBytes 1 e.outlet ++ beBytes 1 e.prio ++ beBytes 1 e.weight ++ beBytes 1 e.ac.toNat
      ++ beBytes 4 e.lo ++ beBytes 4 e.hi ++ beBytes 4 e.exp ++ beBytes 4 e.startRound)

/-- R387: a demand joins those kept, in place of an earlier one of its sender and round. -/
def keepDemand (c : Chip) (d : Demand) : Chip :=
  modFab c (fun f => { f with demands := f.demands.filter (fun e => !(e.addr == d.addr && e.round == d.round)) ++ [d] })

/-! ### Grants in force (R389) -/

/-- The grants of an outlet in a result. -/
def grantIn (a : AllocResult) (addr o : Nat) : Nat × Nat :=
  match a.items.find? (fun i => i.addr == addr && i.outlet == o) with
  | some i => (i.imp, i.exp)
  | none => (0, 0)

/-- R389: at the start of round r the lesser of the results of r − 1 and r − 2 comes into force; without result r − 1
the grants in force stay; without result r − 2 they bound it (log 27). -/
def applyGrants (c : Chip) (r : Nat) : Chip :=
  match (if 0 < r then resultOf c (r - 1) else none) with
  | none => c
  | some a =>
    let older := if 1 < r then resultOf c (r - 2) else none
    let next := fun (o : Nat) =>
      let g := grantIn a c.fab.addr o
      let h := match older with
        | some b => grantIn b c.fab.addr o
        | none => (tget 0 c.fab.grantImp o, tget 0 c.fab.grantExp o)
      (min g.1 h.1, min g.2 h.2)
    modFab c (fun f => { f with
      capped := false, grantImp := (List.range 8).map (fun o => (o, (next o).1)),
      grantExp := (List.range 8).map (fun o => (o, (next o).2)) })

/-- R388: the proportional share of a member, of the last agreed round; a free value when no round was ever agreed
(log 27). -/
def shareOf (c : Chip) (a : Nat) : Nat :=
  match c.fab.agreed with
  | some g => g.cap * tget 0 g.rated a / (g.rated.map (·.2)).sum
  | none => freeBelow c (6600 + a) (2 ^ 32)

/-- GRANT_TIMEOUT (R389, R393): 10 s without a result: the total is capped at the proportional share, every outlet
reduced in the same proportion, down to whole W so that the total stays within it (log 27). -/
def execGrantTimeout (s : State) : Host.Outcome State Fault Refusal :=
  onChip s fun c =>
    if cfgBit c Reg.FAB_CFG 2 && !c.fab.capped then
      let total := (c.fab.grantImp.map (·.2)).sum
      let ps := shareOf c c.fab.addr
      let c := modFab c (fun f => { f with
        capped := true,
        grantImp := if total ≤ ps then f.grantImp else f.grantImp.map (fun (o, g) => (o, g * ps / total)) })
      updateIlims c
    else c

/-! ### The filling procedure (R388) -/

/-- R388: one entry while it is filled. -/
structure FillEntry where
  addr : Nat
  outlet : Nat
  prio : Nat
  weight : Nat
  lo : Nat
  hi : Nat
  start : Nat
  g : Nat
  on : Bool
  deriving DecidableEq, Repr

/-- R388: the sort order: prio descending, start_round, address and outlet ascending. -/
def fillBefore (a b : FillEntry) : Bool :=
  decide (b.prio < a.prio) || (a.prio == b.prio && (decide (a.start < b.start) || (a.start == b.start
    && (decide (a.addr < b.addr) || (a.addr == b.addr && decide (a.outlet ≤ b.outlet))))))

/-- R388: pass 1, minimums in sort order. -/
def fillMinimums : Nat → List FillEntry → Nat × List FillEntry
  | rem, [] => (rem, [])
  | rem, e :: es =>
    if e.lo ≤ e.hi ∧ e.lo ≤ rem then
      let (r, l) := fillMinimums (rem - e.lo) es
      (r, { e with g := e.lo, on := true } :: l)
    else
      let (r, l) := fillMinimums rem es
      (r, { e with g := 0, on := false } :: l)

/-- R388: what a level takes beyond the minimums. -/
def levelSum (a : List FillEntry) (level : Nat) : Nat :=
  (a.map (fun e => min (e.hi - e.lo) (e.weight * level))).sum

/-- The greatest level at most 2^31 whose sum is at most rem, by halving steps from 2^b down. -/
def findLevel (a : List FillEntry) (rem : Nat) : Nat → Nat → Nat
  | 0, l => if l + 1 ≤ 2 ^ 31 ∧ levelSum a (l + 1) ≤ rem then l + 1 else l
  | b + 1, l =>
    let m := l + 2 ^ (b + 1)
    findLevel a rem b (if m ≤ 2 ^ 31 ∧ levelSum a m ≤ rem then m else l)

/-- R388: an entry of class p that pass 2 fills. -/
def fillable (p : Nat) (e : FillEntry) : Bool := e.prio == p && e.on && decide (e.g < e.hi)

/-- R388: the remainder, at most one weight each, in sort order, among the entries that `sel` names. -/
def fillRemainder : Nat → List (FillEntry × Bool) → Nat × List FillEntry
  | rem, [] => (rem, [])
  | rem, (e, sel) :: es =>
    let add := if sel then min rem (min e.weight (e.hi - e.g)) else 0
    let (r, l) := fillRemainder (rem - add) es
    (r, { e with g := e.g + add } :: l)

/-- R388: pass 2 for one class. -/
def fillClass (p : Nat) (st : Nat × List FillEntry) : Nat × List FillEntry :=
  let a := st.2.filter (fillable p)
  let level := findLevel a st.1 31 0
  let lifted := st.2.map (fun e =>
    if fillable p e then ({ e with g := e.lo + min (e.hi - e.lo) (e.weight * level) }, true) else (e, false))
  fillRemainder (st.1 - levelSum a level) lifted

/-- R388: the procedure fill. -/
def fill (es : List FillEntry) (cap : Nat) : List FillEntry :=
  (fillClass 0 (fillClass 1 (fillClass 2 (fillClass 3 (fillMinimums cap (es.mergeSort fillBefore)))))).2

/-- The grant that fill gave an outlet. -/
def filled (es : List FillEntry) (addr o : Nat) : Nat :=
  match es.find? (fun e => e.addr == addr && e.outlet == o) with | some e => e.g | none => 0

/-! ### Results (R388, R391) -/

/-- R385, R388: the demands that round r uses: those of this module and of reachable members. -/
def usedDemands (c : Chip) (r : Nat) : List Demand :=
  c.fab.demands.filter (fun d => d.round == r && reachable c d.addr)

/-- R388: the members taking part whose DEMAND(r) is not used (log 29). -/
def missingMembers (c : Chip) (used : List Demand) : List LsaRec :=
  c.fab.db.filter (fun m => bitOf (wordOf m.flags) 2 && !used.any (fun d => d.addr == m.addr))

/-- R388: notes the instant each missing member began to be missing, and the last UNCTRL_W of the others. -/
def noteMissing (c : Chip) (used : List Demand) : Chip :=
  let miss := missingMembers c used
  modFab c (fun f => { f with
    lastUnctrl := used.foldl (fun t d => tput t d.addr d.unctrl) f.lastUnctrl,
    missingFrom := miss.foldl (fun t m => if (tfind t m.addr).isSome then t else tput t m.addr c.tb.aon)
      (f.missingFrom.filter (fun e => miss.any (fun m => m.addr == e.1))) })

/-- R388: the capacity. -/
def capacity (c : Chip) (used : List Demand) : Nat :=
  let miss := missingMembers c used
  let sum := (used.map (·.unctrl)).sum + (miss.map (fun m => tget 0 c.fab.lastUnctrl m.addr)).sum
  (((liveGet c Reg.FAB_SITE_IMP).toNat : Int) - sum).toNat

/-- R388: the reservation of a missing member. -/
def reservation (c : Chip) (m : LsaRec) : Nat :=
  if c.tb.aon < tget c.tb.aon c.fab.missingFrom m.addr + tenSeconds then
    match c.fab.agreed with
    | some g => ((g.items.filter (fun i => i.addr == m.addr)).map (·.imp)).sum
    | none => freeBelow c (6600 + m.addr) (2 ^ 32)
  else shareOf c m.addr

/-- R388: the bound of an entry during the first 10 s of a partition. -/
def heldBound (c : Chip) (addr o : Nat) (ex : Bool) (v : Nat) : Nat :=
  if c.fab.hold then
    match c.fab.agreed with
    | some g => let a := grantIn g addr o; min v (if ex then a.2 else a.1)
    | none => 0
  else v

/-- R388: the entries to fill, for import or export. -/
def fillEntries (c : Chip) (used : List Demand) (ex : Bool) : List FillEntry :=
  used.flatMap (fun d => d.entries.map (fun e =>
    { addr := d.addr, outlet := e.outlet, prio := e.prio, weight := e.weight, lo := if ex then 0 else e.lo,
      hi := heldBound c d.addr e.outlet ex (if ex then e.exp else e.hi), start := e.startRound, g := 0, on := false }))

/-- R391: the digest of a result. -/
def digestOf (c : Chip) (r cap : Nat) (items : List GrantItem) : BitVec 128 :=
  BitVec.ofNat 128 ((Config.shake256 (beBytes 4 r ++ beBytes 4 (liveGet c Reg.FAB_SITE_VER).toNat ++ beBytes 8 cap
    ++ items.flatMap (fun i => beBytes 2 i.addr ++ beBytes 1 i.outlet ++ beBytes 4 i.imp ++ beBytes 4 i.exp))).toNat / 2 ^ 128)

/-- R388, R391: the result of round r. -/
def computeResult (c : Chip) (r : Nat) : AllocResult :=
  let used := usedDemands c r
  let cap := capacity c used
  let reserved := ((missingMembers c used).map (reservation c)).sum
  let imp := fill (fillEntries c used false) (cap - reserved)
  let ex := fill (fillEntries c used true) (liveGet c Reg.FAB_SITE_EXP).toNat
  let items : List GrantItem := (imp.map (fun e =>
    { addr := e.addr, outlet := e.outlet, imp := e.g, exp := filled ex e.addr e.outlet })).mergeSort
      (fun a b => decide (a.addr < b.addr) || (a.addr == b.addr && decide (a.outlet ≤ b.outlet)))
  { round := r, cap := cap, digest := digestOf c r cap items, items := items,
    rated := (members c).foldl (fun t m => tput t m.addr m.rated) [] }

/-- A result joins the last two. -/
def pushResult (c : Chip) (a : AllocResult) : Chip :=
  modFab c (fun f => { f with results := (a :: f.results.filter (fun b => b.round != a.round)).take 2, roundShown := a.round })

/-! ### Divergence, partition, fallback and return (R392 to R394) -/

/-- R391: a non-zero digest of another member's DEMAND(r) differs from the own result of r − 1. -/
def diverges (c : Chip) (r : Nat) : Bool :=
  match (if 0 < r then resultOf c (r - 1) else none) with
  | some a => a.digest != 0 && c.fab.demands.any (fun d =>
      d.round == r && d.addr != c.fab.addr && d.digest != 0 && d.digest != a.digest)
  | none => false

/-- R391: round r − 1 is agreed. -/
def noteAgreed (c : Chip) (r : Nat) : Chip :=
  match (if 0 < r then resultOf c (r - 1) else none) with
  | some a => if a.digest = 0 then c else modFab c (fun f => { f with agreed := some a })
  | none => c

/-- R392: the increases of result k are discarded. -/
def discardIncreases (c : Chip) (k : Nat) : Chip :=
  modFab c (fun f => { f with results := f.results.map (fun a =>
    if a.round = k then { a with items := a.items.map (fun i =>
      if i.addr = f.addr then { i with imp := min i.imp (tget 0 f.grantImp i.outlet), exp := min i.exp (tget 0 f.grantExp i.outlet) }
      else i) }
    else a) })

/-- R390: a round is not computed. -/
def skipRound (c : Chip) : Chip := modFab c (fun f => { f with computed := if f.computed < 2 then 0 else 2 })

/-- R392, R393: fallback is declared at step 3 of round r. -/
def declareFallback (c : Chip) (r : Nat) (div part : Bool) : Chip :=
  let c := modFab c (fun f => { f with
    mode := .fallback, hold := true, resumeRound := none, grantParts := [], milliner := none,
    fallbacks := (f.fallbacks + 1) % 2 ^ 16, diverge := if div then (f.diverge + 1) % 2 ^ 16 else f.diverge,
    divergeAt := if div then aonSec c :: f.divergeAt.filter (fun t => decide (aonSec c < t + 600)) else f.divergeAt })
  let c := fabEvt (discardIncreases c (r - 1)) 4
  let c := if div then reportSrc (fabEvt c 3) 150 0 else c
  let c := if part then fabEvt c 14 else c
  followMilliner (skipRound c)

/-- R376, R393: GRANT(r) flooded in segments of 168 entries; the flood's round, digest and items. -/
def floodGrant (c : Chip) (a : AllocResult) : Chip :=
  let n := max 1 ((a.items.length + 167) / 168)
  (List.range n).foldl (fun c k =>
    let part := (a.items.drop (168 * k)).take 168
    sendFlood c 0x06 (beBytes 4 a.round ++ beBytes 16 a.digest.toNat ++ beBytes 2 c.fab.addr ++ beBytes 1 k ++ beBytes 1 n
      ++ beBytes 2 part.length ++ beBytes 2 0
      ++ part.flatMap (fun i => beBytes 2 i.addr ++ beBytes 1 i.outlet ++ beBytes 1 0 ++ beBytes 4 i.imp ++ beBytes 4 i.exp))) c

/-- R385: step 3 of round r. -/
def roundStep3 (c : Chip) (r : Nat) : Chip :=
  let c := noteMissing c (usedDemands c r)
  match c.fab.mode with
  | .deterministic =>
    let div := diverges c r
    let part := partitioned c
    if div || part then declareFallback c r div part
    else
      let c := noteAgreed c r
      takeFree (pushResult (modFab c (fun f => { f with computed := min 2 (f.computed + 1) })) (computeResult c r))
  | .fallback =>
    if c.fab.milliner = some c.fab.addr then
      let a := computeResult c r
      takeFree (pushResult (floodGrant c a) { a with digest := 0 })
    else c
  | _ => c

/-- ALLOC_COLLECTION_CLOSE (R385). -/
def execAllocCollectionClose (s : State) : Host.Outcome State Fault Refusal :=
  onChip s fun c =>
    if c.fab.collecting then
      let c := modFab c (fun f => { f with collecting := false })
      if participates c && c.sup.mode != .standby then roundStep3 c c.fab.roundRun else c
    else c

/-- PARTITION_HOLD_END (R393). -/
def execPartitionHoldEnd (s : State) : Host.Outcome State Fault Refusal :=
  onChip s fun c => modFab c (fun f => { f with hold := false })

/-- R394: the Milliner may return its partition: whole and steady for 64 rounds, and no third divergence within 10 min
or the lift of RETRY. -/
def mayResume (c : Chip) : Bool :=
  c.fab.mode == .fallback && c.fab.milliner == some c.fab.addr && c.fab.resumeRound.isNone && decide (64 ≤ c.fab.steady)
    && !partitioned c
    && (c.fab.liftHold || decide ((c.fab.divergeAt.filter (fun t => decide (aonSec c < t + 600))).length < 3))

/-- R394: RESUME names the first round divisible by 64 at least two rounds ahead of r. -/
def floodResume (c : Chip) (r : Nat) : Chip :=
  let rr := (r + 2 + 63) / 64 * 64
  sendFlood (modFab c (fun f => { f with resumeRound := some rr, liftHold := false })) 0x10
    (beBytes 4 rr ++ beBytes 2 c.fab.addr)

/-- R394: from the round that RESUME names the module is in deterministic mode. -/
def resumeNow (c : Chip) (r : Nat) : Chip :=
  match c.fab.resumeRound with
  | some q =>
    if q ≤ r ∧ c.fab.mode = .fallback then
      clearSrc (fabEvt (modFab c (fun f => { f with
        mode := .deterministic, resumeRound := none, hold := false, milliner := none, grantParts := [] })) 5) 150
    else c
  | none => c

/-- R394: rounds with the membership whole and unchanged. -/
def countSteady (c : Chip) : Chip :=
  modFab c (fun f => { f with steady := if partitioned c then 0 else f.steady + 1 })

/-! ### The start of a round (R384, R385) -/

/-- R386: START_ROUND of each outlet with an entry; it is forgotten with the entry. -/
def noteStarts (c : Chip) (r : Nat) : Chip :=
  modFab c (fun f => { f with startRounds := (List.range 8).filterMap (fun o =>
    if demands? (outletOf c o) then some (o, tget r f.startRounds o) else none) })

/-- R384: the number of the round that falls now. -/
def roundNow (c : Chip) : Nat :=
  if isRoot c then max c.fab.roundNext (max (c.fab.roundRun + 1) c.fab.roundSeen) else c.fab.roundNext

/-- R384: the next round; the root fixes its instant, two cycles on; its rounding is open (log 2). -/
def nextRound (c : Chip) (r : Nat) : Chip :=
  takeFree (modFab c (fun f => { f with
    roundRun := r, roundSeen := max f.roundSeen r, roundNext := r + 1,
    roundAt := if isRoot c then nowNs c + roundOpenNat c 6403 (2 * 10 ^ 12) c.tb.freq else f.roundAt }))

/-- R385: step 1 of round r: DEMAND(r) is built and flooded. -/
def roundStep1 (c : Chip) (r : Nat) : Chip :=
  let c := noteStarts c r
  let c := if c.sup.mode = .standby then modFab c (fun f => { f with computed := 0 }) else c
  let d := ownDemand c r
  let c := modFab c (fun f => { f with demands := f.demands.filter (fun e => decide (r ≤ e.round)), collecting := true })
  takeFree (sendFlood (keepDemand c d) 0x05 (demandBytes d))

/-- R384, R385: class 7 fires: the round falls, no round number being run twice. -/
def runRound (c : Chip) : Chip :=
  if c.fab.mode = .off ∨ c.fab.mode = .discover ∨ c.fab.addrValid = false then c
  else
    let r := roundNow c
    if r ≤ c.fab.roundRun then c
    else
      let c := nextRound c r
      if participates c then
        let c := followMilliner (resumeNow c r)
        let c := if mayResume c then floodResume c r else c
        updateIlims (roundStep1 (applyGrants (countSteady c) r) r)
      else c

/-! ### Frames and commands -/

/-- DEMAND (R376, R385, R387, R391). -/
def execDemand (h : FeltHdr) (demand : Demand) (s : State) : Host.Outcome State Fault Refusal :=
  onChip s fun c => receive c h 0x05 true (ownFlood c h) (fun c =>
    let c := modFab c (fun f => { f with roundSeen := max f.roundSeen demand.round })
    let c := if demand.siteVer = liveGet c Reg.FAB_SITE_VER then c else fabEvt c 11
    let late := if c.fab.collecting then decide (demand.round < c.fab.roundRun) else decide (demand.round ≤ c.fab.roundRun)
    if participates c && !late then keepDemand c { demand with addr := h.src } else c)

/-- R393: the segments of a GRANT received for a round are complete. -/
def grantComplete (parts : List GrantPart) (round segments : Nat) : Bool :=
  (List.range segments).all (fun k => parts.any (fun p => p.round == round && p.segment == k))

/-- GRANT (R376, R389, R393): a worker in fallback takes its Milliner's grants once every segment is there. -/
def execGrant (h : FeltHdr) (round : Nat) (digest : BitVec 128) (milliner segment segments : Nat) (items : List GrantItem)
    (s : State) : Host.Outcome State Fault Refusal :=
  onChip s fun c => receive c h 0x06 true (ownFlood c h) (fun c =>
    have _ := digest
    if participates c && c.fab.mode == .fallback && c.fab.milliner == some milliner && milliner != c.fab.addr
        && decide (segment < segments) && (resultOf c round).isNone then
      let p : GrantPart := { round := round, segment := segment, segments := segments, items := items }
      let parts := p :: c.fab.grantParts.filter (fun q => q.round == round && q.segment != segment)
      let c := modFab c (fun f => { f with grantParts := parts })
      if grantComplete parts round segments then
        pushResult (modFab c (fun f => { f with grantParts := [] }))
          { round := round, cap := 0, digest := 0, items := parts.flatMap (·.items), rated := [] }
      else c
    else c)

/-- RESUME (R394). -/
def execResume (h : FeltHdr) (round milliner : Nat) (s : State) : Host.Outcome State Fault Refusal :=
  onChip s fun c => receive c h 0x10 true (ownFlood c h) (fun c =>
    if c.fab.mode = .fallback ∧ c.fab.milliner = some milliner then modFab c (fun f => { f with resumeRound := some round }) else c)

/-- R394: RETRY lifts the 10 min condition once, at the Milliner. -/
def retryResume (c : Chip) : Chip :=
  if c.fab.mode = .fallback ∧ c.fab.milliner = some c.fab.addr then modFab c (fun f => { f with liftHold := true }) else c

/-- FAB_CTRL_RETRY (R394). -/
def execFabCtrlRetry (s : State) : Host.Outcome State Fault Refusal :=
  onChip s fun c => reach c Reg.FAB_CTRL retryResume

end Sys2Proof.Machine
end

