-- ==== Sys2Proof/Machine/Replica.lean ====
section
/-! DEFINITION. Session replicas (R395 to R397): opening, updating, acknowledging and closing them, lost holders,
adoption, the notices of settlement, and FORGET, which settles what a forgotten member held. -/

namespace Sys2Proof.Machine

/-- R376: REPLICA_ACK to the origin: 0 held, 1 refused, 2 unknown, 3 closed. -/
def sendAck (c : Chip) (dst : Nat) (sid : BitVec 128) (cycle result : Nat) : Chip :=
  sendTo c 0x09 dst (id16 sid ++ beBytes 6 cycle ++ beBytes 1 result)

/-- The replica of a session that this module holds for an origin. -/
def replicaCtx (c : Chip) (sid : BitVec 128) (origin : Nat) : Option Nat :=
  (c.sess.ctxs.find? (fun (_, k) => k.bstate == .replica && k.sessionId == sid && k.replOrigin == origin)).map (·.1)

/-- REPLICA_OPEN (R200, R395): a FREE context takes the replica; with none it is refused, and nothing is evicted. -/
def execReplicaOpen (h : FeltHdr) (body : ReplicaOpen) (s : State) : Host.Outcome State Fault Refusal :=
  onChip s fun c => receive c h 0x07 false false (fun c =>
    match replicaCtx c body.sessionId h.src with
    | some x =>
      sendAck (setCtx c x { ctxOf c x with primary := body.primary }) h.src body.sessionId (ctxOf c x).replCycle 0
    | none =>
      match firstFree c with
      | none => sendAck c h.src body.sessionId 0 1
      | some x =>
        have _ := (body.originCtx, body.calId)
        let k : Context := { Context.init with
          bstate := .replica, outlet := body.outlet, point := body.point, sessionId := body.sessionId,
          authRef := body.authRef, startCycle := body.startCycle, endCycle := body.startCycle, startWall := body.startWall,
          endWall := body.startWall, price := body.price, origin := h.src, replOrigin := h.src, primary := body.primary,
          since := c.sess.counter }
        let c := setCtx c x k
        let c := { c with sess := { c.sess with counter := c.sess.counter + 1 },
                          acc := { c.acc with ctxs := c.acc.ctxs.filter (fun e => e.1 / 64 != x) } }
        sendAck c h.src body.sessionId 0 0)

/-- The values of an update written to the slots of context x, in the order of R376. -/
def putSlots (c : Chip) (x : Nat) (values : List Nat) : Chip :=
  { c with acc := { c.acc with
      ctxs := (ctxSlots.zip values).foldl (fun t (k, v) => tput t (64 * x + k) (v % 2 ^ 128)) c.acc.ctxs } }

/-- REPLICA_UPDATE (R164, R396): written into the replica, and only then acknowledged. -/
def execReplicaUpdate (h : FeltHdr) (body : ReplicaUpdate) (s : State) : Host.Outcome State Fault Refusal :=
  onChip s fun c => receive c h 0x08 false false (fun c =>
    match replicaCtx c body.sessionId h.src with
    | none => sendAck c h.src body.sessionId body.cycle 2
    | some x =>
      let k := ctxOf c x
      let c := setCtx c x { k with energised := body.energisedMs * 2 ^ 32, flags := body.flags, replCycle := body.cycle,
                                   endCycle := body.cycle, endWall := body.wall }
      sendAck (putSlots c x body.values) h.src body.sessionId body.cycle 0)

/-! ### The origin's side (R395, R396) -/

/-- The holder of a session at an address. -/
def holderAt (c : Chip) (sid : BitVec 128) (a : Nat) : Option Holder :=
  c.repl.holders.find? (fun h => h.sessionId == sid && h.addr == a)

/-- A holder of a session is no longer one. -/
def dropHolder (c : Chip) (sid : BitVec 128) (a : Nat) : Chip :=
  { c with repl := { c.repl with holders := c.repl.holders.filter (fun h => !(h.sessionId == sid && h.addr == a)) } }

/-- The context of a session changed by f. -/
def modSession (c : Chip) (sid : BitVec 128) (f : Context → Context) : Chip :=
  match ctxOfSession c sid with
  | some x => setCtx c x (f (ctxOf c x))
  | none => c

/-- R395: the missing replicas of a LIVE session are placed. -/
def replaceSession (c : Chip) (sid : BitVec 128) : Chip :=
  match ctxOfSession c sid with
  | some x => if (ctxOf c x).bstate = .live then placeReplicas c x else c
  | none => c

/-- R198, R396: a holder counts as told; the context may be freed. -/
def holderTold (c : Chip) (sid : BitVec 128) (a : Nat) : Chip :=
  let c := modSession (dropHolder c sid a) sid (fun k => { k with told := a :: k.told })
  match ctxOfSession c sid with
  | some x => tryFree c x
  | none => c

/-- R396: a holder is lost: REPL_LOST, a close with reason 1 where it is reachable, and a new replica. -/
def holderLost (c : Chip) (sid : BitVec 128) (a : Nat) : Chip :=
  let c := sendClose (fabEvt c 8) sid a 1 0
  let c := modSession (dropHolder c sid a) sid (fun k => { k with peers := k.peers.filter (· != a) })
  replaceSession c sid

/-- R395: a member that refused is passed over. -/
def holderRefused (c : Chip) (sid : BitVec 128) (a : Nat) : Chip :=
  let c := modSession (dropHolder c sid a) sid (fun k => { k with peers := k.peers.filter (· != a) })
  replaceSession { c with repl := { c.repl with refused := (sid, a) :: c.repl.refused } } sid

/-- REPLICA_ACK (R376, R395, R396). -/
def execReplicaAck (h : FeltHdr) (sessionId : BitVec 128) (cycle result : Nat) (s : State) :
    Host.Outcome State Fault Refusal :=
  onChip s fun c => receive c h 0x09 false false (fun c =>
    match holderAt c sessionId h.src with
    | none => c
    | some x =>
      if x.state = .closing then
        if result = 2 ∨ result = 3 then holderTold c sessionId h.src else c
      else if result = 0 then
        { c with repl := { c.repl with holders := c.repl.holders.map (fun y =>
          if y.sessionId = sessionId ∧ y.addr = h.src then { y with state := .held, ackCycle := cycle } else y) } }
      else if result = 1 then holderRefused c sessionId h.src
      else holderLost c sessionId h.src)

/-- REPLICA_CLOSE (R376, R396): at a holder it frees the replica, which is answered; from a holder it reports an
eviction. -/
def execReplicaClose (h : FeltHdr) (sessionId : BitVec 128) (reason seq : Nat) (s : State) :
    Host.Outcome State Fault Refusal :=
  onChip s fun c => receive c h 0x0A false false (fun c =>
    have _ := seq
    if reason = 2 then
      match holderAt c sessionId h.src with
      | none => c
      | some x => if x.state = .closing then holderTold c sessionId h.src else holderLost c sessionId h.src
    else
      match replicaCtx c sessionId h.src with
      | some x => sendAck (freeCtx c x) h.src sessionId (ctxOf c x).replCycle 3
      | none => sendAck c h.src sessionId 0 2)

/-- REPLICA_HOLDER_LOST (R396): no acknowledgement for 1 s, or unreachable. -/
def execReplicaHolderLost (sessionId : BitVec 128) (holder : Nat) (s : State) : Host.Outcome State Fault Refusal :=
  onChip s fun c =>
    match holderAt c sessionId holder with
    | some x => if x.state = .closing then c else holderLost c sessionId holder
    | none => c

/-- REPLICA_PLACE_RETRY (R395): members that refused are asked again. -/
def execReplicaPlaceRetry (outlet : Outlet) (s : State) : Host.Outcome State Fault Refusal :=
  onChip s fun c =>
    match liveCtx c outlet.val with
    | some x =>
      let sid := (ctxOf c x).sessionId
      placeReplicas { c with repl := { c.repl with refused := c.repl.refused.filter (fun e => e.1 != sid) } } x
    | none => c

/-- REPLICA_CLOSE_RETRY (R396). -/
def execReplicaCloseRetry (sessionId : BitVec 128) (holder : Nat) (s : State) : Host.Outcome State Fault Refusal :=
  onChip s fun c =>
    match holderAt c sessionId holder with
    | some x => if x.state = .closing then sendClose c sessionId holder x.reason x.seq else c
    | none => c

/-! ### Adoption and settlement by another (R198, R397) -/

/-- R198, R397: this module settles a replica from its last replicated values. -/
def adoptReplica (c : Chip) (x : Nat) : Chip :=
  let k := ctxOf c x
  if k.bstate = .replica then
    let c := setCtx c x { k with
      bstate := .settling, stopDue := true, flags := k.flags ||| flagBit 10 ||| flagBit 11, settler := c.fab.addr,
      peers := [], told := [] }
    settleCtx (fabEvt c 9) x
  else c

/-- R397: the origin of a replica is out of reach: unreachable, or no member any more. -/
def originGone (c : Chip) (k : Context) : Bool :=
  !(c.fab.db.any (fun r => r.addr == k.replOrigin)) || !reachable c k.replOrigin

/-- REPLICA_ADOPT (R397): the origin has been unreachable for ADOPT seconds; a secondary adopts only if the primary has
been too. -/
def execReplicaAdopt (ctx : Ctx) (primaryAlso : Bool) (s : State) : Host.Outcome State Fault Refusal :=
  onChip s fun c =>
    let k := ctxOf c ctx.val
    if k.bstate = .replica ∧ originGone c k = true ∧ (k.primary = true ∨ primaryAlso = true) then adoptReplica c ctx.val else c

/-- R397: the LIVE session of a context is stopped at once. -/
def stopOwn (c : Chip) (x : Nat) : Chip :=
  let k := ctxOf c x
  if h : k.outlet < 8 then
    if k.bstate = .live then stopOutlet c ⟨k.outlet, h⟩ 0 else c
  else c

/-- R397: the replica that a notice names: its ORIGIN is the origin's address, or the one it had at the start. -/
def noticedReplica (c : Chip) (sid : BitVec 128) (origin : Nat) : Option Nat :=
  match replicaCtx c sid origin with
  | some x => some x
  | none => (c.sess.ctxs.find? (fun (_, k) => k.bstate == .replica && k.sessionId == sid && k.origin == origin)).map (·.1)

/-- R397: another has settled a session of this module: DUP_SETTLE, and where it is still LIVE it stops. -/
def dupSettled (c : Chip) (sid : BitVec 128) : Chip :=
  let c := fabEvt c 10
  match ctxOfSession c sid with
  | some x => stopOwn c x
  | none => c

/-- SETTLED (R397). A session of this module's own is told by ORIGIN, or after a change of address by its record. -/
def execSettled (h : FeltHdr) (sessionId : BitVec 128) (origin settler : Nat) (adopted : Bool) (seq : Nat) (s : State) :
    Host.Outcome State Fault Refusal :=
  onChip s fun c => receive c h 0x0B true (ownFlood c h) (fun c =>
    have _ := (adopted, seq)
    if origin = c.fab.addr ∧ settler ≠ c.fab.addr then dupSettled c sessionId
    else
      match noticedReplica c sessionId origin with
      | some x => freeCtx c x
      | none => if ownStart c sessionId && settler != c.fab.addr then dupSettled c sessionId else c)

/-! ### FORGET (R379, R396, R397) -/

/-- R396, R397: a member is forgotten: as a holder it counts as told or is lost; its primary replicas are adopted at
once; and it is removed from the membership. -/
def forgetMember (c : Chip) (addr : Nat) : Chip :=
  let mine := c.repl.holders.filter (fun h => h.addr == addr)
  let held := (c.sess.ctxs.filter (fun (_, k) => k.bstate == .replica && k.replOrigin == addr && k.primary)).map (·.1)
  let c := removeMember c addr
  let c := mine.foldl (fun c h => if h.state = .closing then holderTold c h.sessionId addr else holderLost c h.sessionId addr) c
  held.foldl adoptReplica c

/-- FORGET (R379). -/
def execForget (h : FeltHdr) (addr : Nat) (unit : BitVec 128) (s : State) : Host.Outcome State Fault Refusal :=
  onChip s fun c => receive c h 0x0E true (ownFlood c h) (fun c =>
    if c.fab.db.any (fun r => r.addr == addr && r.unit == unit) then forgetMember c addr else c)

/-- R379: FORGET floods the frame for the address given; the unit of an address that is no member's is open (log 28). -/
def forgetAddr (c : Chip) (addr : Nat) : Chip :=
  match c.fab.db.find? (fun r => r.addr == addr) with
  | some r => forgetMember (sendFlood c 0x0E (beBytes 2 addr ++ id16 r.unit)) addr
  | none => takeFree (sendFlood c 0x0E (beBytes 2 addr ++ beBytes 16 (Config.freeNat c.freeCount 6404)))

/-- FAB_CTRL_FORGET (R379, R394): the same write may set RETRY too. -/
def execFabCtrlForget (addr : BitVec 10) (retry : Bool) (s : State) : Host.Outcome State Fault Refusal :=
  onChip s fun c => reach c Reg.FAB_CTRL fun c =>
    let c := forgetAddr c addr.toNat
    if retry then retryResume c else c

end Sys2Proof.Machine
end

