-- ==== Sys2Proof/Machine/Update.lean ====
section
/-! DEFINITION. Field update (R433 to R455): the manifest and its checks, the session, chunks, verification,
activation, confirmation and rollback. -/

namespace Sys2Proof.Machine

/-- R453: a bit of UPD_EVT. -/
def updEvt (c : Chip) (b : Nat) : Chip := raiseEvt c Reg.UPD_EVT b

/-- The update engine changed by f. -/
def modUpd (c : Chip) (f : Upd → Upd) : Chip := { c with upd := f c.upd }

/-! ### Parts and manifests (R433, R436) -/

/-- R433: the ROLLBACK counter and the bank size in KiB of an updatable part. -/
def partInfo (stage : Nat) : Option (Nat × Nat) :=
  match stage with
  | 1 => some (0, 256)
  | 2 => some (1, 256)
  | 4 => some (2, 64)
  | 5 => some (3, 512)
  | 6 => some (4, 512)
  | 7 => some (5, 128)
  | 8 => some (6, 4096)
  | _ => none

/-- R433, R436: the part is privileged. -/
def partPriv (stage : Nat) : Bool := stage == 1 || stage == 2

/-- n bytes of a buffer from byte a. -/
def sliceOf (bs : List Byte) (a n : Nat) : List Byte := (bs.drop a).take n

/-- The big-endian number in n bytes of a buffer from byte a. -/
def sliceNat (bs : List Byte) (a n : Nat) : Nat := beNat (sliceOf bs a n)

/-- R436: the entry of 64 bytes at byte a. -/
def readEntry (bs : List Byte) (a : Nat) : PartEntry :=
  { part := sliceNat bs a 1, pflags := sliceNat bs (a + 1) 1, schema := sliceNat bs (a + 2) 2,
    version := wordOf (sliceNat bs (a + 4) 4), offset := sliceNat bs (a + 8) 4, length := sliceNat bs (a + 12) 4,
    svn := sliceNat bs (a + 16) 2, digest := BitVec.ofNat 256 (sliceNat bs (a + 32) 32), zeros := sliceNat bs (a + 18) 14 }

/-- R436: a manifest read from its bytes. -/
def readManifest (bs : List Byte) : Manifest :=
  let n := sliceNat bs 5 1
  { magic := sliceNat bs 0 4, version := sliceNat bs 4 1, nparts := n, flags := sliceNat bs 6 1, zero7 := sliceNat bs 7 1,
    hwType := sliceNat bs 8 2, stepMask := sliceNat bs 10 2, unit := BitVec.ofNat 128 (sliceNat bs 12 16),
    id := sliceNat bs 28 8, payloadLen := sliceNat bs 36 4, created := sliceNat bs 40 6, zero46 := sliceNat bs 46 2,
    pubkey := sliceOf bs 48 68, entries := (List.range n).map (fun e => readEntry bs (116 + 64 * e)),
    signed := bs.take (116 + 64 * n), signature := sliceOf bs (116 + 64 * n) 2820 }

/-- R441: chunks of the payload. -/
def Manifest.total (m : Manifest) : Nat := (m.payloadLen + 65535) / 65536

/-- R441: the length of chunk n. -/
def Manifest.chunkLen (m : Manifest) (n : Nat) : Nat := min 65536 (m.payloadLen - 65536 * n)

/-- R437, cause 1. -/
def formatWrong (m : Manifest) (len : Nat) : Bool :=
  m.magic != 0x51584D46 || m.version != 1 || m.nparts == 0 || decide (7 < m.nparts) || decide (1 < m.flags) || m.zero7 != 0
    || m.zero46 != 0 || m.entries.any (fun e => decide (1 < e.pflags) || e.zeros != 0) || len != 2936 + 64 * m.nparts

/-- R437, cause 5: the key of the manifest is an image key that is not revoked. -/
def keyKnown (f : Fuses) (pubkey : List Byte) : Bool :=
  let d := Config.shake256 pubkey
  (f.img0 == some d && !f.revoke.getLsbD 0) || (f.img1 == some d && !f.revoke.getLsbD 1)

/-- R436: the offsets follow one another without gaps from `at'`. -/
def layoutOk : Nat → List PartEntry → Nat → Bool
  | at', [], len => at' == len
  | at', e :: es, len =>
    e.offset == at' && decide (1 ≤ e.length)
      && (match partInfo e.part with | some (_, kib) => decide (e.length + 4096 ≤ kib * 1024) | none => false)
      && layoutOk (at' + e.length) es len

/-- R437, cause 8: a stage outside R433 or repeated, or PRIV in disagreement with it. -/
def partsWrong (es : List PartEntry) : Bool :=
  es.any (fun e => (partInfo e.part).isNone || bitOf (wordOf e.pflags) 0 != partPriv e.part)
    || !(es.map (·.part)).Nodup

/-- R437, cause 10: blown bits of the part's counter. -/
def blownBits (f : Fuses) (stage : Nat) : Nat :=
  match partInfo stage with | some (k, _) => f.rollback.getD k 0 | none => 0

/-- R437: stage k was absent or failed at the last start. -/
def stageFailed (c : Chip) (k : Nat) : Bool := match c.tru.stages[k]? with | some m => m.code == 0xFF | none => true

/-- R437: the first check that fails. -/
def manifestCause (c : Chip) (f : Fuses) (m : Manifest) (len : Nat) (sigOk : Bool) : Option Nat :=
  let bound := bitOf (wordOf m.flags) 0
  if formatWrong m len then some 1
  else if m.hwType ≠ 0x0880 then some 2
  else if !bitOf (wordOf m.stepMask) (fieldOf (regReset Reg.SUP_ID) 15 8) then some 3
  else if (bound && m.unit != c.tru.unit) || (!bound && m.unit != 0) then some 4
  else if !keyKnown f m.pubkey then some 5
  else if !sigOk then some 6
  else if m.entries.any (fun e => e.part == 3) then some 7
  else if partsWrong m.entries then some 8
  else if !layoutOk 0 m.entries m.payloadLen then some 9
  else if m.entries.any (fun e => decide (e.svn < blownBits f e.part)) then some 10
  else if c.sup.mode == .quarantine
      && [1, 2, 4, 5, 6, 7, 8].any (fun k => stageFailed c k && !m.entries.any (fun e => e.part == k)) then some 11
  else none

/-- R437: the detail of a cause. -/
def causeDetail (k : Nat) : Detail :=
  if k = 1 ∨ k = 8 ∨ k = 9 then .field else if k = 7 ∨ k = 11 ∨ k = 12 ∨ k = 15 then .rule else .verify

/-- R437: a refusal with its cause in AUX and UPD_STATUS.CAUSE. -/
def updRefuse (c : Chip) (req : Requester) (cause : Nat) : Chip :=
  complete (modUpd c (fun u => { u with cause := cause })) req { ansReject (causeDetail cause) with aux := cause }

/-! ### The session (R438 to R440, R455) -/

/-- R438: the source of a request: every host request is of source 1. -/
def sourceOf (req : Requester) (src : UpdSource) : UpdSource := match req with | .host _ _ => .host | .service _ => src

/-- R454: seconds counted in PENDING. -/
def pendingSec (c : Chip) : Nat := min 1800 (c.upd.savedS + (c.tb.aon - c.upd.confirmFrom) / 2 ^ 32)

/-- R454: UPD_CONFIRM_LEFT.SEC. -/
def confirmLeft (c : Chip) : Nat := if c.upd.state = .pending then 1800 - pendingSec c else 0

/-- MANIFEST_ID of the open session. -/
def manifestId (c : Chip) : Nat := match c.upd.manifest with | some m => m.id | none => 0

/-- TOTAL of the open session. -/
def chunkTotal (c : Chip) : Nat := match c.upd.manifest with | some m => m.total | none => 0

/-- R454: UPD_STATUS.SOURCE. -/
def sourceCode (c : Chip) : Nat := match c.upd.source with | some s => s.code | none => 0

/-- R455: the answer of UPD_QUERY. -/
def queryAnswer (c : Chip) : Answer :=
  { ansOk with aux := c.upd.state.code, aux32 := c.upd.chunks.length,
               result := leBytes 8 (manifestId c) ++ leBytes 1 (chunkTotal c) ++ leBytes 1 (sourceCode c)
                 ++ leBytes 1 c.upd.cause ++ leBytes 1 c.upd.starts ++ leBytes 4 (confirmLeft c) }

/-- UPD_QUERY (R438, R455). -/
def execUpdQuery (req : Requester) (s : State) : Host.Outcome State Fault Refusal :=
  onChip s fun c => perform c req 0x0707 .update (fun c => complete c req (queryAnswer c))

/-- R438: an opcode of a session of another source is turned away. -/
def asOwner (c : Chip) (req : Requester) (src : UpdSource) (act : Chip → Chip) : Chip :=
  match c.upd.source with
  | some o => if o = sourceOf req src then act c else complete (updEvt c 7) req (ansStatus .busyOther)
  | none => act c

/-- R439: the session ends: its record is cleared. -/
def clearSession (c : Chip) : Chip :=
  modUpd c (fun u => { u with
    state := .idle, source := none, manifest := none, chunks := [], journal := .none, starts := 0, savedS := 0,
    restartDue := false, savedSchemas := [], savedVars := none, waiting := [], activateBy := none, abortBy := none,
    pauseDue := false, rollbackDue := false })

/-- R439, R440: UPD_OPEN of the owner, or of anyone while no session exists. -/
def updOpen (c : Chip) (f : Fuses) (req : Requester) (src : UpdSource) (bs : List Byte) (sigOk : Bool) : Chip :=
  let m := readManifest bs
  match c.upd.manifest with
  | some old =>
    if old.id = m.id ∧ old.signature = m.signature then
      complete c req (ansReplay { queryAnswer c with aux := 0, aux32 := old.total })
    else if c.upd.state = .downloading ∨ c.upd.state = .verifying ∨ c.upd.state = .verified then updRefuse c req 15
    else complete c req (ansStatus .busyRegion)
  | none =>
    match manifestCause c f m bs.length sigOk with
    | some k => updRefuse c req k
    | none =>
      let c := modUpd c (fun u => { u with
        state := .downloading, source := some (sourceOf req src), manifest := some m, chunks := [], journal := .none, starts := 0,
        savedS := 0 })
      complete (updEvt c 0) req { ansOk with aux32 := m.total, result := leBytes 8 m.id }

/-- UPD_OPEN (R362, R437 to R440, R455). -/
def execUpdOpen (req : Requester) (src : UpdSource) (buffer : Option (List Byte)) (sigOk : Bool) (s : State) :
    Host.Outcome State Fault Refusal :=
  onChip s fun c => perform c req 0x0701 .update (fun c => asOwner c req src (fun c =>
    match buffer with
    | none => complete c req (ansReject .buffer)
    | some bs => updOpen c s.fuses req src bs sigOk))

/-- R441: a chunk of the owner. -/
def updChunk (c : Chip) (req : Requester) (n : Nat) (data : Option (List Byte)) (readback : Bool) : Chip :=
  match c.upd.state, c.upd.manifest with
  | .downloading, some m =>
    match data with
    | none => if n < m.total then complete c req (ansReject .buffer) else complete c req (ansReject .field)
    | some bs =>
      if m.total ≤ n ∨ bs.length ≠ m.chunkLen n then complete c req (ansReject .field)
      else if (tfind c.upd.chunks n).isSome then complete c req (ansReplay ansOk)
      else if readback then complete (modUpd c (fun u => { u with chunks := tput u.chunks n bs })) req ansOk
      else complete c req (ansReject .verify)
  | _, _ => updRefuse c req 15

/-- UPD_CHUNK (R441): `readback` says that the chunk read back as written (log 30). -/
def execUpdChunk (req : Requester) (src : UpdSource) (chunk : Nat) (data : Option (List Byte)) (readback : Bool) (s : State) :
    Host.Outcome State Fault Refusal :=
  onChip s fun c => perform c req 0x0702 .update (fun c => asOwner c req src (fun c => updChunk c req chunk data readback))

/-! ### Verification (R442) -/

/-- UPD_VERIFY (R439, R442). -/
def execUpdVerify (req : Requester) (src : UpdSource) (s : State) : Host.Outcome State Fault Refusal :=
  onChip s fun c => perform c req 0x0703 .update (fun c => asOwner c req src (fun c =>
    match c.upd.state, c.upd.manifest with
    | .downloading, some m =>
      if (List.range m.total).all (fun n => (tfind c.upd.chunks n).isSome) then
        modUpd c (fun u => { u with state := .verifying, waiting := [(req, false)] })
      else updRefuse c req 12
    | .verifying, _ => modUpd c (fun u => { u with waiting := u.waiting ++ [(req, false)] })
    | _, _ => updRefuse c req 15))

/-- The payload that the chunks hold. -/
def payload (c : Chip) (m : Manifest) : List Byte := (List.range m.total).flatMap (fun n => tget [] c.upd.chunks n)

/-- R442, R444: the image of an entry has the entry's digest. -/
def imageOk (e : PartEntry) (image : List Byte) : Bool := Config.shake256 image == e.digest

/-- R439: the chunks that hold part of an entry are cleared. -/
def clearChunks (c : Chip) (es : List PartEntry) : Chip :=
  modUpd c (fun u => { u with chunks := u.chunks.filter (fun (n, _) =>
    !es.any (fun e => decide (e.offset < 65536 * (n + 1)) && decide (65536 * n < e.offset + e.length))) })

/-- R434: the key of the bank of a part that is selected (or not). -/
def bankKey (c : Chip) (stage : Nat) (sel : Bool) : Nat := 2 * stage + (c.upd.bankB.getLsbD stage == sel).toNat

/-- R434, R442: the images and their headers stand in the inactive banks. -/
def writeBanks (c : Chip) (m : Manifest) : Chip :=
  modUpd c (fun u => { u with banks := m.entries.foldl (fun t e =>
    tput t (bankKey c e.part false) { entry := e, pubkey := m.pubkey, image := sliceOf (payload c m) e.offset e.length }) u.banks })

/-- R443: the modes from which R50 permits Activation-pause. -/
def pauseMode (m : Mode) : Bool :=
  m == .operational || m == .degraded || m == .safeStop || m == .standby || m == .quarantine

/-- R443, R447: the set is placed at a restart: the manifest is privileged, or the module is in Quarantine. -/
def placedByRestart (c : Chip) (m : Manifest) : Bool :=
  m.priv || c.sup.mode == .quarantine || (c.sup.mode == .activationPause && c.sup.pausedFrom == .quarantine)

/-- R455: the answer of an UPD_ACTIVATE that completes OK. -/
def activateAnswer (c : Chip) : Answer :=
  { ansOk with aux := (match c.upd.manifest with | some m => m.priv.toNat | none => 0), result := leBytes 8 (manifestId c) }

/-- R443: UPD_ACTIVATE of the owner. -/
def updActivate (c : Chip) (req : Requester) : Chip :=
  match c.upd.state, c.upd.manifest with
  | .verified, some m =>
    if !pauseMode c.sup.mode then complete c req (ansReject .mode)
    else if m.priv && anyEnergised c then complete c req (ansStatus .busyEnergised)
    else modUpd c (fun u => { u with state := .activating, activateBy := some req, pauseDue := true })
  | .verifying, _ => modUpd c (fun u => { u with waiting := u.waiting ++ [(req, true)] })
  | .pending, _ => complete c req (ansReplay (activateAnswer c))
  | _, _ => updRefuse c req 15

/-- UPD_ACTIVATE (R443, R445, R446). -/
def execUpdActivate (req : Requester) (src : UpdSource) (s : State) : Host.Outcome State Fault Refusal :=
  onChip s fun c => perform c req 0x0704 .update (fun c => asOwner c req src (fun c => updActivate c req))

/-- R442: the requests that waited for the verification are answered, in order. -/
def answerVerify (c : Chip) (ok : Bool) : Chip :=
  let ws := c.upd.waiting
  ws.foldl (fun c (r, act) =>
    if act then updActivate c r
    else complete c r (if ok then ansOk else { ansReject .verify with aux := 13 })) (modUpd c (fun u => { u with waiting := [] }))

/-- UPD_VERIFY_DONE (R439, R442). -/
def execUpdVerifyDone (s : State) : Host.Outcome State Fault Refusal :=
  onChip s fun c =>
    match c.upd.state, c.upd.manifest with
    | .verifying, some m =>
      let bad := m.entries.filter (fun e => !imageOk e (sliceOf (payload c m) e.offset e.length))
      if bad.isEmpty then answerVerify (updEvt (modUpd (writeBanks c m) (fun u => { u with state := .verified })) 1) true
      else answerVerify (updEvt (clearChunks (modUpd c (fun u => { u with state := .downloading, cause := 13 })) bad) 2) false
    | _, _ => c

/-! ### Activation (R443 to R446) -/

/-- R434: every named part selects its other bank, in one write of the journal. -/
def switchBanks (c : Chip) (m : Manifest) (j : Journal) : Chip :=
  modUpd c (fun u => { u with
    journal := j, bankB := m.entries.foldl (fun b e => setBitV b e.part (!b.getLsbD e.part)) u.bankB })

/-- R450: the settings groups whose schema differs are saved and reset. -/
def resetSettings (c : Chip) (m : Manifest) : Chip :=
  m.entries.foldl (fun c e =>
    let old := tget 0 c.upd.schemas e.part
    if old = e.schema then c
    else
      let c := modUpd c (fun u => { u with
        schemas := tput u.schemas e.part e.schema, savedSchemas := tput u.savedSchemas e.part old,
        savedVars := if e.part = 8 then some c.outl.ocppVars else u.savedVars })
      let c := if e.part = 8 then { c with outl := { c.outl with ocppVars := [] } } else c
      updEvt (blotEvent c (0x0100 + e.part) 4 (old + place 16 e.schema)) 8) c

/-- R449: the saved settings are restored. -/
def restoreSettings (c : Chip) : Chip :=
  let c := match c.upd.savedVars with
    | some v => { c with outl := { c.outl with ocppVars := v } }
    | none => c
  modUpd c (fun u => { u with
    schemas := u.savedSchemas.foldl (fun t (k, v) => tput t k v) u.schemas, savedSchemas := [], savedVars := none })

/-- R443, R444: the module enters Activation-pause; a service part placed while running is placed as a reset of its region
(R445). -/
def enterPause (c : Chip) (m : Manifest) (running : Bool) : Chip :=
  let c := { c with sup := { c.sup with pausedFrom := c.sup.mode } }
  let c := setMode c .activationPause 0x09
  if running && m.entries.any (fun e => e.part == 8) then resetRegion c .svc else c

/-- R443, R444, R449: what the update does at angle 0, after a mode change: an accepted activation, or a running-image
rollback, enters Activation-pause. -/
def updAngleZero (c : Chip) : Chip :=
  match c.upd.manifest with
  | none => c
  | some m =>
    if !pauseMode c.sup.mode then c
    else if c.upd.pauseDue then
      let by' := c.upd.activateBy
      let c := modUpd c (fun u => { u with pauseDue := false })
      if m.priv && anyEnergised c then
        completeOpt (modUpd c (fun u => { u with state := .verified, activateBy := none })) by' (ansStatus .busyEnergised)
      else enterPause (updEvt (switchBanks c m .switched) 3) m (!placedByRestart c m)
    else if c.upd.rollbackDue then enterPause (modUpd c (fun u => { u with rollbackDue := false })) m true
    else c

/-- R443: a brown-out before that angle 0 cancels the activation. -/
def updBrownOut (c : Chip) : Chip :=
  if c.upd.pauseDue then
    let by' := c.upd.activateBy
    completeOpt (modUpd c (fun u => { u with state := .verified, activateBy := none, pauseDue := false })) by' (ansStatus .discarded)
  else c

/-- R50: the module leaves Activation-pause for the mode it came from; a safety cause or a cause of Degraded that arose
in between takes effect (R49). -/
def leavePause (c : Chip) : Chip :=
  if c.sup.mode = .activationPause then
    let c := setMode c c.sup.pausedFrom 0x09
    let c := if !c.sup.safeCauses.isEmpty && (c.sup.mode == .operational || c.sup.mode == .degraded) then enterSafeStop c 0x0C else c
    settleMode c
  else c

/-- R444: step 6: a service region reset for its placement runs again. -/
def serviceUp (c : Chip) (m : Manifest) : Chip :=
  if m.entries.any (fun e => e.part == 8) then
    { c with sup := { c.sup with fence := setBitV c.sup.fence Region.svc.idx false, ready := setBitV c.sup.ready Func.svc.idx true } }
  else c

/-- R439, R449: the old set runs and its settings are back: the session ends. -/
def rolledBack (c : Chip) : Chip :=
  let by' := c.upd.abortBy
  completeOpt (updEvt (clearSession (restoreSettings c)) 5) by' ansOk

/-- R444: the entries whose image in the selected bank has another digest. -/
def badImages (c : Chip) (m : Manifest) : List PartEntry :=
  m.entries.filter (fun e => match tfind c.upd.banks (bankKey c e.part true) with
    | some b => !imageOk e b.image
    | none => true)

/-- R444: step 7 of an activation, or the failure of step 4. -/
def placeActivation (c : Chip) (m : Manifest) : Chip :=
  let by' := c.upd.activateBy
  let bad := badImages c m
  let c := leavePause (serviceUp c m)
  if bad.isEmpty then
    let c := resetSettings c m
    let c := modUpd c (fun u => { u with
      journal := .placed, state := .pending, starts := 0, savedS := 0, confirmFrom := c.tb.aon, activateBy := none })
    completeOpt c by' (activateAnswer c)
  else
    let c := clearChunks (modUpd (switchBanks c m .none) (fun u => { u with state := .downloading, activateBy := none, cause := 13 })) bad
    completeOpt c by' { ansReject .verify with aux := 13 }

/-- R445: a placed outlet firmware acts on what was latched, and its limits follow again. -/
def outletUp (c : Chip) : Chip := if c.latched.isEmpty then updateIlims c else playAll (updateIlims c)

/-- ACTIVATION_PLACED (R444, R449): every part of a running-image activation or rollback is placed. -/
def execActivationPlaced (s : State) : Host.Outcome State Fault Refusal :=
  onChip s fun c =>
    match c.upd.manifest with
    | none => c
    | some m =>
      if c.sup.mode ≠ .activationPause then c
      else match c.upd.state with
        | .activating => if placedByRestart c m then c else takeWaiting (outletUp (placeActivation c m))
        | .rollback => takeWaiting (outletUp (rolledBack (leavePause (serviceUp c m))))
        | _ => c

/-- PRIV_QUIESCE (R446): step 3 of a privileged activation. -/
def execPrivQuiesce (s : State) : Host.Outcome State Fault Refusal :=
  onChip s fun c =>
    match c.upd.manifest with
    | some m =>
      if c.sup.mode = .activationPause ∧ c.upd.state = .activating ∧ placedByRestart c m = true then resetModule c .update false
      else c
    | none => c

/-! ### Confirmation and rollback (R448, R449) -/

/-- R448: the ready bits of R433 of the named parts. -/
def partsReady (c : Chip) (m : Manifest) : Bool :=
  m.entries.all (fun e => match e.part with
    | 1 => ready c .tru
    | 6 => ready c .fab
    | 7 => ready c .dsp
    | 8 => ready c .svc
    | _ => ready c .out)

/-- R448: the old banks are released. -/
def releaseBanks (c : Chip) (m : Manifest) : Chip :=
  modUpd c (fun u => { u with banks := m.entries.foldl (fun t e => terase t (bankKey c e.part false)) u.banks })

/-- R448: step 3 of a confirmation. -/
def confirmEnd (c : Chip) (m : Manifest) : Chip := updEvt (clearSession (releaseBanks c m)) 4

/-- R448: step 2 of a confirmation: each named part's counter is blown up to its SVN. -/
def blowRollback (f : Fuses) (m : Manifest) : Fuses :=
  m.entries.foldl (fun f e => match partInfo e.part with
    | some (k, _) => { f with rollback := f.rollback.set k (max (f.rollback.getD k 0) e.svn) }
    | none => f) f

/-- R439, R448: UPD_CONFIRM of the owner. -/
def updConfirm (c : Chip) (req : Requester) : Chip :=
  match c.upd.state, c.upd.manifest with
  | .pending, some m =>
    if !partsReady c m || c.sup.mode == .activationPause then complete c req (ansStatus .notReady)
    else complete (confirmEnd (modUpd c (fun u => { u with journal := .confirmed })) m) req ansOk
  | _, _ => updRefuse c req 15

/-- UPD_CONFIRM (R448): where the session ends so, the counters are blown. -/
def execUpdConfirm (req : Requester) (src : UpdSource) (s : State) : Host.Outcome State Fault Refusal :=
  let c := perform s.chip req 0x0705 .update (fun c => asOwner c req src (fun c => updConfirm c req))
  let f := match s.chip.upd.manifest with
    | some m => if s.chip.upd.state = .pending ∧ c.upd.state = .idle then blowRollback s.fuses m else s.fuses
    | none => s.fuses
  .next { s with chip := c, fuses := f }

/-- R449: the rollback of a PENDING session: REVERTED selects the old banks; a privileged set waits for a restart, a
running-image set for the next angle 0. -/
def rollBack (c : Chip) (by' : Option Requester) : Chip :=
  match c.upd.state, c.upd.manifest with
  | .pending, some m =>
    let c := restoreSettings (switchBanks c m .reverted)
    modUpd c (fun u => { u with state := .rollback, abortBy := by', restartDue := m.priv, rollbackDue := !m.priv })
  | _, _ => c

/-- UPD_ABORT (R439, R449). -/
def execUpdAbort (req : Requester) (src : UpdSource) (s : State) : Host.Outcome State Fault Refusal :=
  onChip s fun c => perform c req 0x0706 .update (fun c => asOwner c req src (fun c =>
    match c.upd.state with
    | .downloading => complete (updEvt (clearSession c) 6) req ansOk
    | .verified => complete (updEvt (clearSession c) 6) req ansOk
    | .verifying =>
      let ws := c.upd.waiting.map (·.1)
      complete (completeAll (updEvt (clearSession c) 6) ws (ansReject .cancelled)) req ansOk
    | .pending => rollBack c (some req)
    | _ => updRefuse c req 15))

/-- UPD_IDLE_TIMEOUT (R439). -/
def execUpdIdleTimeout (s : State) : Host.Outcome State Fault Refusal :=
  onChip s fun c =>
    if c.upd.state = .downloading ∨ c.upd.state = .verified then updEvt (clearSession c) 6 else c

/-- CONFIRM_TIMEOUT (R449): the clocks reach an instant, `since` angle 0; 1,800 s have then been counted in PENDING. -/
def execConfirmTimeout (since : Nat) (s : State) : Host.Outcome State Fault Refusal :=
  onChip s fun c =>
    let c := runTo c since
    if 1800 ≤ pendingSec c then rollBack c none else c

/-- CONFIRM_TIMER_SAVE (R449). -/
def execConfirmTimerSave (s : State) : Host.Outcome State Fault Refusal :=
  onChip s fun c =>
    if c.upd.state = .pending then modUpd c (fun u => { u with savedS := pendingSec c, confirmFrom := c.tb.aon }) else c

/-- ROLLBACK_RESTART (R449). -/
def execRollbackRestart (s : State) : Host.Outcome State Fault Refusal :=
  onChip s fun c => if c.upd.restartDue && !anyEnergised c then resetModule c .update false else c

/-- R442, R446, R449, R452: Quill reads the session record at a start: the outcome of what the reset interrupted. A
session found CONFIRMED has its counters blown (`blowRollback`). -/
def quillStart (c : Chip) : Chip :=
  let c := modUpd c (fun u => { u with
    shown := true, restartDue := false, rollbackDue := false, pauseDue := false, confirmFrom := c.tb.aon })
  match c.upd.manifest with
  | none => c
  | some m =>
    if c.upd.journal = .confirmed then confirmEnd c m
    else match c.upd.state with
      | .verifying => c
      | .verified => modUpd c (fun u => { u with state := .verifying })
      | .activating =>
        if c.upd.journal = .switched then
          modUpd (resetSettings c m) (fun u => { u with journal := .placed, state := .pending, starts := 1, savedS := 0 })
        else modUpd c (fun u => { u with state := .verifying, journal := .none })
      | .pending =>
        let c := modUpd c (fun u => { u with starts := sat 15 (u.starts + 1) })
        if 3 < c.upd.starts then rolledBack (rollBack c none) else c
      | .rollback => rolledBack c
      | _ => c

end Sys2Proof.Machine
end

