-- ==== Sys2Proof/Machine/Power.lean ====
section
/-! DEFINITION. Supplies and the hold-up store (R84 to R91), Hold-up (R51), the power link (R19, R38) and the
power-on of the power die and the safety die (R85), with their commands. -/

namespace Sys2Proof.Machine

/-! ### The hold-up store (R87, R88, R93) -/

/-- R93: the energy above 18.0 V in units of 10 µJ, of a capacitance in µF and a voltage in mV; its rounding is open
(log 2). -/
def budgetOf (c : Chip) (cap mv : Nat) : Nat :=
  sat 0xFFFF (roundOpenNat c 9000 (cap * (mv ^ 2 - 18000 ^ 2)) 20000000)

/-- The store as measured: VHOLD in mV, and the budget that follows from it. -/
def setVhold (c : Chip) (mv : Nat) : Chip :=
  takeFree { c with pwd := { c.pwd with vhold := mv, budget := budgetOf c c.pwd.capUf mv } }

/-- R88: the conditions of HOLD_OK. -/
def holdConditions (c : Chip) : Bool :=
  decide (35500 ≤ c.pwd.vhold) && c.pwd.measured && decide (470 ≤ c.pwd.capUf) && decide (c.pwd.esrMohm ≤ 500)

/-- R93: VMAIN, once measured, stands below BO_THR (clamped) now. -/
def belowThr (c : Chip) : Bool :=
  (c.pwd.holdup || decide (0 < c.pwd.vmain))
    && decide (c.pwd.vmain < 200 * max 70 (min 100 (imm c Reg.PWD_BO_CFG 7 0)))

/-- R93: VMAIN in mV and the supplies within their limits, of which VMAIN's are 18.0 V to 32.0 V (R82). -/
def setSupplies (c : Chip) (vmain supplies : Nat) : Chip :=
  let ok := supplies % 64 / 2 * 2 + (decide (18000 ≤ vmain) && decide (vmain ≤ 32000)).toNat
  { c with pwd := { c.pwd with vmain := vmain, supplyOk := ok } }

/-- R87: the hold-up source and its cause of Degraded; what is found while the compute die is off or in reset is reported
at its start. -/
def holdFault (c : Chip) : Chip :=
  if c.sup.mode = .holdUp then c
  else if c.sup.mode = .off ∨ c.sup.mode = .reset then addDegCause c .holdUp
  else addDegCause (reportSrc c 121 0) .holdUp

/-- R87: the source of a cause found before the start. -/
def reportHold (c : Chip) : Chip :=
  if c.sup.degCauses.contains .holdUp && !(srcOf c 121).present then reportSrc c 121 0 else c

/-- R87, R88: HOLD_OK follows its conditions, but for a load check in progress; a fall outside Hold-up raises the
hold-up source, and a rise clears it. -/
def updateHold (c : Chip) : Chip :=
  let now := if c.pwd.loadCheck then c.pwd.holdOk else holdConditions c
  let was := c.pwd.holdOk
  let c := { c with pwd := { c.pwd with holdOk := now } }
  if was && !now then holdFault c
  else if now && !was then dropDegCause (clearSrc c 121) .holdUp
  else c

/-- HOLD_OK_FALL (R87): VHOLD as measured, in mV. -/
def execHoldOkFall (vhold : Nat) (s : State) : Host.Outcome State Fault Refusal :=
  onChip s fun c => updateHold (setVhold c vhold)

/-- HOLD_OK_RISE (R87): VHOLD as measured, in mV. -/
def execHoldOkRise (vhold : Nat) (s : State) : Host.Outcome State Fault Refusal :=
  onChip s fun c => updateHold (setVhold c vhold)

/-- LOAD_CHECK_START (R88): at 35.5 V or above the charger stops and 20 mA is drawn. -/
def execLoadCheckStart (vhold : Nat) (s : State) : Host.Outcome State Fault Refusal :=
  onChip s fun c =>
    if 35500 ≤ vhold ∧ c.pwd.loadCheck = false ∧ c.pwd.holdup = false then
      let c := updateHold (setVhold c vhold)
      { c with pwd := { c.pwd with loadCheck := true, charging := false } }
    else c

/-- R87, R88: a load check ends: its results, and the store recharged to where the check began (log 34). UNDERSIZED raises
the hold-up source, once where HOLD_OK falls with it. -/
def loadCheckDone (c : Chip) (capUf esrMohm : Nat) : Chip :=
  let cap := min 4700 capUf
  let bad := decide (cap < 470) || decide (500 < esrMohm)
  let c := { c with pwd := { c.pwd with
    loadCheck := false, charging := !c.pwd.holdup, measured := true, capUf := cap, esrMohm := esrMohm, undersized := bad } }
  let was := c.pwd.holdOk
  let c := updateHold (setVhold c c.pwd.vhold)
  if bad && !was then holdFault c else c

/-- LOAD_CHECK_DONE (R88): capacitance in µF and ESR in mΩ. -/
def execLoadCheckDone (capUf esrMohm : Nat) (s : State) : Host.Outcome State Fault Refusal :=
  onChip s fun c => if c.pwd.loadCheck then loadCheckDone c capUf esrMohm else c

/-- CHARGE_RISE_MEASURED (R88): the rise from 20 V to 30 V replaces the capacitance; UNDERSIZED waits for a load check
(log 73). -/
def execChargeRiseMeasured (capUf : Nat) (s : State) : Host.Outcome State Fault Refusal :=
  onChip s fun c =>
    let cap := min 4700 capUf
    let c := { c with pwd := { c.pwd with
      capUf := cap, undersized := c.pwd.measured && (decide (cap < 470) || decide (500 < c.pwd.esrMohm)) } }
    updateHold (setVhold c 30000)

/-! ### Hold-up (R51, R86) -/

/-- A Felt port and its neighbour go down. -/
def portDown (c : Chip) (p : Nat) : Chip :=
  let x := fport c p
  if x.state = .retired ∨ x.state = .disabled then c
  else setFport c p { FPortSt.init with state := .down }

/-- Every Felt port goes down (R51, R62, R25). -/
def portsDown (c : Chip) : Chip := (List.range 4).foldl portDown c

/-- R51: step 1: the controller draws on VHOLD. -/
def holdupDraw (c : Chip) (vmain vhold supplies : Nat) : Chip :=
  let c := { c with pwd := { c.pwd with
    holdup := true, charging := false, loadCheck := false } }
  let c := floodLeave (setSupplies c vmain supplies) 2
  let c := setVhold (setMode c .holdUp 0x04) vhold
  lswBrownOut (updateHold c)

/-- R51: step 2; R112: bookings of classes 1, 2, 6, 7 and 8 are cancelled; R366: everything in flight is discarded. -/
def holdupStop (c : Chip) : Chip :=
  let c := updBrownOut (dropModeReq (nsInterrupt (abandonForPower c)))
  let c := { c with tb := { c.tb with step := none } }
  discardWork (unbook c (fun k => k.cls != 3 && k.cls != 4 && k.cls != 5)) (fun _ => true)

/-- R51: step 3; `done` phases of a bistable update have finished (R343). -/
def holdupOpen (c : Chip) (done : Nat) : Chip := bpBrownOut (panelAbrupt (openAllNow c)) done

/-- R51: step 5; attestation jobs of the service region are dropped with it. -/
def holdupFence (c : Chip) : Chip :=
  let c := fenceRegion (fenceRegion (fenceRegion c .svc) .lnk) .dsp
  let c := { c with
    tru := { c.tru with signQueue := c.tru.signQueue.filter (fun j => match j with | .attest _ _ => false | _ => true) },
    host := { c.host with linkUp := false },
    sup := { c.sup with ready := setBitV c.sup.ready Func.hst.idx false } }
  portsDown c

/-- BROWN_OUT (R51): the hold-up sequence up to step 5. VMAIN and VHOLD in mV; `supplies` is PWD_SUPPLY_STATUS.OK. -/
def execBrownOut (vmain vhold : Nat) (supplies : BitVec 6) (done : Nat) (s : State) :
    Host.Outcome State Fault Refusal :=
  onChip s fun c =>
    if c.sup.mode = .off ∨ c.sup.mode = .holdUp then c
    else holdupFence (holdupOpen (holdupStop (holdupDraw c vmain vhold supplies.toNat)) done)

/-- R50, R86: VHOLD reaches 18.0 V: VSYS_OUT stops, and with it the compute die. -/
def holdupOff (c : Chip) : Chip :=
  let c := tearRecord (tearEntry (tearSlot (updateHold (setVhold c 18000))))
  { c with
    pwd := { c.pwd with holdup := false, loadCheck := false, rails := c.pwd.rails &&& 0x100, supplyOk := c.pwd.supplyOk &&& 0x2F, posted := [] },
    host := { c.host with inflight := [] },
    sup := { c.sup with mode := .off, prevMode := c.sup.mode, modeCause := 0, ready := 0, fence := 0x7F, held := false } }

/-- HOLDUP_OFF (R86). -/
def execHoldupOff (s : State) : Host.Outcome State Fault Refusal :=
  onChip s fun c => if c.pwd.holdup then holdupOff c else c

/-- The main supply is back. -/
def supplyBack (c : Chip) (vmain supplies : Nat) : Chip :=
  setSupplies { c with pwd := { c.pwd with holdup := false, charging := !c.pwd.loadCheck } } vmain supplies

/-- HOLDUP_RECOVERY (R50). -/
def execHoldupRecovery (vmain : Nat) (supplies : BitVec 6) (s : State) : Host.Outcome State Fault Refusal :=
  onChip s fun c =>
    if c.sup.mode = .holdUp then resetModule (supplyBack c vmain supplies.toNat) .holdUp false else c

/-! ### Power-good (R84) -/

/-- R50, R84: the cold reset that power-good starts: no clock is lost any more. `fromOff` says that the module was Off. -/
def powerGood (c : Chip) (vmain supplies : Nat) : Chip :=
  let off := c.sup.mode == .off
  let c := supplyBack c vmain supplies
  let c := { c with
    pwd := { c.pwd with rails := c.pwd.rails ||| 0xFF },
    met := { c.met with fallback := false },
    sup := { c.sup with held := false, refLost := false, fromOff := off || c.sup.fromOff,
                        degCauses := c.sup.degCauses.filter (fun k => k != .refClock) } }
  resetModule c .cold true

/-- POWER_GOOD (R84): from Off, or with the compute die held in reset. -/
def execPowerGood (vmain : Nat) (supplies : BitVec 6) (s : State) : Host.Outcome State Fault Refusal :=
  onChip s fun c => if c.sup.mode = .off ∨ c.sup.held = true then powerGood c vmain supplies.toNat else c

/-- POWER_GOOD_LOST (R84): the compute die is held in reset until power-good returns. -/
def execPowerGoodLost (rail : Fin 8) (s : State) : Host.Outcome State Fault Refusal :=
  onChip s fun c =>
    let c := { c with pwd := { c.pwd with rails := c.pwd.rails &&& (0x1FF - 2 ^ rail.val) } }
    if c.sup.mode = .off then c
    else
      let c := resetModule c .cold true
      { c with sup := { c.sup with held := true } }

/-! ### Power-on of the power die and of the safety die (R85) -/

/-- R10, R92: the power-die registers at their reset values; the safety-die mirror is none of them. -/
def resetPwdRegs (c : Chip) : Chip :=
  let keep := fun (e : Nat × Word) => memberOf e.1 != 7 || decide (0x7800000 ≤ e.1)
  { c with regs := c.regs.filter keep, live := c.live.filter keep, cg := { c.cg with pdSent := none } }

/-- R85: the power die leaves power-on reset: every output off, the pilots at 0 V, the store charging. -/
def powerDiePor (c : Chip) (vmain vhold supplies : Nat) : Chip :=
  let was := c.pwd.holdOk
  let c := resetPwdRegs c
  let c := { c with
    pwd := { Pwd.reset with
      fb := c.pwd.fb, fbAt := c.pwd.fbAt, supTemp := c.pwd.supTemp, rails := c.pwd.rails, charging := true, pilots := (List.range 8).map (fun o => (o, .zero)) },
    lsw := LswAll.reset }
  let c := setVhold (setSupplies c vmain supplies) vhold
  if was && c.sup.mode != .off && c.sup.mode != .holdUp then holdFault c
  else if c.sup.mode = .off then dropDegCause c .holdUp
  else c

/-- POWER_DIE_POR (R85). -/
def execPowerDiePor (vmain vhold : Nat) (supplies : BitVec 6) (s : State) : Host.Outcome State Fault Refusal :=
  onChip s fun c => powerDiePor c vmain vhold supplies.toNat

/-- R85, R281, R286: Nib starts: no gate permitted, the seal inputs as they read, and the weld latch of each outlet
whose FBn reads closed with no coil driven. -/
def safetyDiePor (c : Chip) (levels : List Nat) (selfTest : Bool) : Chip :=
  let weld := (List.range 8).foldl (fun v o => setBitV v o (fbClosed c o && !(coilOf c o).driven)) (0 : BitVec 8)
  let c := (List.range 8).foldl (fun c o => setGate c o false) c
  let seals := sealsClosed levels
  { c with
    nib := { Nib.reset with sealNow := seals, sealInvalid := sealsInvalid levels, parityOk := parityOkOf seals,
                            selftestOk := selfTest, weld := weld },
    sup := { c.sup with ready := setBitV c.sup.ready Func.nib.idx false } }

/-- SAFETY_DIE_POR (R85): the levels of the seal inputs in mV and the outcome of the self-test. -/
def execSafetyDiePor (levels : List Nat) (selfTest : Bool) (s : State) : Host.Outcome State Fault Refusal :=
  onChip s fun c => safetyDiePor c levels selfTest

/-! ### The power link (R19, R38) -/

/-- POWER_LINK_TIMEOUT (R19): the power die holds every output; a power-link fault is raised. -/
def execPowerLinkTimeout (s : State) : Host.Outcome State Fault Refusal :=
  onChip s fun c => powerLinkFault (nsLinkLost (bookTestPulses { c with pwd := { c.pwd with linkUp := false } }))

/-- FAULT_CLEARED (R459); POWER_LINK clears once frames are valid again. -/
def execFaultCleared (source : Nat) (s : State) : Host.Outcome State Fault Refusal :=
  onChip s fun c => clearSrc (if source = 117 then linkBack c else c) source

/-- R38, R321: the power die confirms the values sent: they are live, and the channels follow. -/
def pdConfirmed (c : Chip) (sent : Tab Word) : Chip :=
  let old := c
  let keep := fun (e : Nat × Word) => !memberShadow 0x80 e.1
  let c := { c with
    live := sent.foldl (fun t e => tput t e.1 e.2) (c.live.filter keep),
    cg := { c.cg with pdSent := none }, pwd := { c.pwd with linkUp := true } }
  bookTestPulses (lswSettleAll old (pwdCount c))

/-- POWER_DIE_CONFIRM (R38). -/
def execPowerDieConfirm (s : State) : Host.Outcome State Fault Refusal :=
  onChip s fun c => match c.cg.pdSent with | some t => pdConfirmed c t | none => c

/-- PD_CONFIRM_TIMEOUT (R38): the values confirmed last stay in force. -/
def execPdConfirmTimeout (s : State) : Host.Outcome State Fault Refusal :=
  onChip s fun c =>
    if c.cg.pdSent.isSome then powerLinkFault { c with cg := { c.cg with pdSent := none } } else c

end Sys2Proof.Machine
end

