-- ==== Sys2Proof/Machine/Modes.lean ====
section
/-! DEFINITION. Mode requests (R47 to R49, R86), Standby and Deep-standby (R60 to R63), software and pin resets
(R52 to R55, R63), clock losses (R24, R25), disabling and its draining (R69 to R71), the RTC alarm (R118), and
their commands. -/

namespace Sys2Proof.Machine

/-! ### Mode requests (R47 to R49) -/

/-- R50: the transitions that a request may cause. -/
def modeAllowed (c : Chip) (target : Nat) : Bool :=
  match target with
  | 4 => c.sup.mode == .safeStop && c.sup.safeCauses.isEmpty
  | 6 => c.sup.mode == .operational || c.sup.mode == .degraded
  | 7 => c.sup.mode == .operational
  | 8 => c.sup.mode == .operational || c.sup.mode == .standby
  | 10 => c.sup.mode == .operational && c.sup.lcs == .factory
  | _ => false

/-- R62: what refuses Deep-standby: no acknowledgement, a session in a context, an entry not yet written. -/
def deepRefused (c : Chip) : Bool :=
  !immBit c Reg.SUP_STBY_CFG 16
    || c.sess.ctxs.any (fun e => e.2.bstate == .live || e.2.bstate == .settling || e.2.bstate == .adopted
         || e.2.bstate == .replica)
    || !c.leg.causes.isEmpty

/-- R48: the first check that a request fails. -/
def modeRefusal (c : Chip) (target : Nat) : Option Answer :=
  if ¬ [4, 6, 7, 8, 10].contains target then some (ansReject .field)
  else if target = 10 ∧ c.sup.lcs ≠ .factory then some (ansReject .mode)
  else if c.sup.mode = .bringUp then some (ansStatus .notReady)
  else if !modeAllowed c target then some (ansReject .mode)
  else if (target = 7 ∨ target = 8) ∧ anyEnergised c = true then some (ansStatus .busyEnergised)
  else if target = 8 ∧ deepRefused c = true then some (ansReject .rule)
  else none

/-- R48, R362: a request is decided: a descriptor completes with it, but one that prepares for removal of supply waits
for PREP_DONE. -/
def submitMode (c : Chip) (target : Nat) (prepOff : Bool) (cause : Nat) (owner : Option Requester) : Chip :=
  match modeRefusal c target with
  | some a => completeOpt { c with sup := { c.sup with modeResult := a.status.code } } owner a
  | none =>
    let prep := prepOff && target == 6
    let c := { c with sup := { c.sup with
      modeResult := Status.ok.code,
      modeReq := some { target := target, prepOff := prep, cause := cause, owner := if prep then owner else none,
                        accepted := true } } }
    if prep then c else completeOpt c owner ansOk

/-- MODE_REQ_GO (R47, R48): the fields of a write of GO; it is discarded whole while a request is pending. -/
def execModeReqGo (target : BitVec 4) (prepOff : Bool) (s : State) : Host.Outcome State Fault Refusal :=
  onChip s fun c => reach c Reg.SUP_MODE_REQ fun c =>
    if !dieRuns c || c.sup.modeReq.isSome then c
    else submitMode (regPut c Reg.SUP_MODE_REQ (wordOf (target.toNat + placeBit 9 prepOff))) target.toNat prepOff 1 none

/-- MODE_REQ (R362): CAUSE 2 for a host descriptor, 3 for the service firmware (R46). -/
def execModeReq (req : Requester) (target : Nat) (prepOff : Bool) (s : State) : Host.Outcome State Fault Refusal :=
  onChip s fun c => perform c req 0x0005 .supervisor (fun c =>
    if c.sup.modeReq.isSome then complete c req (ansReject .rule)
    else submitMode c target prepOff (match req with | .service _ => 3 | .host _ _ => 2) (some req))

/-- R62: Deep-standby is entered: "metering suspended" is written with what waits before it, peers are told, the ports
go down, the lanes are OFF, the pilots are at +12 V, and no gate is permitted. Work in flight is discarded and every region is
fenced (log 72). -/
def enterDeep (c : Chip) (cause : Nat) : Chip :=
  let c := (List.range 8).foldl (fun c m => if pointEnabled c m then openUnmeasured c m 2 else c) c
  let c := legalEntry c tySuspend 0xFF [] none
  let c := c.leg.causes.foldl (fun c _ => writeEntry c) c
  let c := portsDown (floodLeave c 0)
  let c := (List.range 64).foldl laneOff c
  let c := (List.range 8).foldl (fun c o => pilotSteady (setGate c o false) o) c
  let c := discardWork c (fun _ => true)
  let c := setMode c .deepStandby cause
  { c with
    saf := { c.saf with permit := 0 }, nib := { c.nib with permit := 0 },
    tb := { c.tb with sched := [] },
    sup := { c.sup with ready := c.sup.ready &&& 1, fence := 0x7F, fromDeep := true } }

/-- R61: Standby is entered: the Felt ports drop their rate, and the emissive panel goes off. -/
def enterStandby (c : Chip) (cause : Nat) : Chip :=
  let c := allRates (setMode c .standby cause) true
  { c with sup := { c.sup with ready := setBitV c.sup.ready Func.dsp.idx false } }

/-- R48: the accepted request takes effect at angle 0; a transition that the mode no longer has lapses (R49). What else it was
accepted under is not judged again (log 51). -/
def applyModeReq (c : Chip) : Chip :=
  match c.sup.modeReq with
  | none => c
  | some r =>
    let c := { c with sup := { c.sup with modeReq := none } }
    if !modeAllowed c r.target then completeOpt c r.owner (ansStatus .discarded)
    else match r.target with
      | 4 =>
        let c := setMode c (if c.sup.degCauses.isEmpty then .operational else .degraded) r.cause
        (List.range 8).foldl tryAvailable c
      | 6 =>
        let c := enterSafeStop c r.cause
        if r.prepOff then
          { c with dsp := { c.dsp with offKept := true }, sup := { c.sup with prepOwner := r.owner } }
        else c
      | 7 => enterStandby c r.cause
      | 8 => enterDeep c r.cause
      | _ => (List.range 8).foldl tryAvailable (setMode c .factoryTest r.cause)

/-- PREP_DONE (R86): panel off, no bistable update in progress, and the ageing counters saved. -/
def execPrepDone (s : State) : Host.Outcome State Fault Refusal :=
  onChip s fun c =>
    if c.sup.mode = .safeStop ∧ c.dsp.offKept = true ∧ c.sup.prepDone = false ∧ c.dsp.pstate = .off ∧ c.bp.busy = false then
      let who := c.sup.prepOwner
      completeOpt { ageSave c with sup := { c.sup with prepDone := true, prepOwner := none } } who ansOk
    else c

/-! ### Wake events (R60 to R63, R118, R372) -/

/-- R60: the wake source is enabled. -/
def wakeEnabled (c : Chip) (k : Nat) : Bool := k != 7 && decide (k < 16) && immBit c Reg.SUP_STBY_CFG k

/-- R48: a wake event cancels an accepted change that has not taken place. -/
def cancelModeReq (c : Chip) : Chip :=
  match c.sup.modeReq with
  | some r =>
    completeOpt { c with sup := { c.sup with modeReq := none, modeResult := Status.rejected.code } } r.owner
      (ansReject .cancelled)
  | none => c

/-- R61: an enabled wake event. -/
def wakeUp (c : Chip) (k : Nat) : Chip :=
  if wakeEnabled c k && dieRuns c then
    let c := cancelModeReq c
    if c.sup.mode = .standby then settleMode (allRates (setMode c .operational 0x08) false) else c
  else c

/-- WAKE_EVENT (R61): the bit of SUP_STBY_CFG that names the source. -/
def execWakeEvent (source : Fin 16) (s : State) : Host.Outcome State Fault Refusal := onChip s fun c => wakeUp c source.val

/-- R63: what ends Deep-standby. -/
def deepWake (c : Chip) (k : Nat) : Chip :=
  if c.sup.mode = .deepStandby ∧ wakeEnabled c k = true ∧ (k = 0 ∨ k = 1 ∨ k = 5 ∨ 8 ≤ k) then resetModule c .deep false
  else c

/-- DEEP_STANDBY_WAKE (R63). -/
def execDeepStandbyWake (source : Fin 16) (s : State) : Host.Outcome State Fault Refusal :=
  onChip s fun c => deepWake c source.val

/-- WAKE (R372, R60): the wake frame on a link at standby rate. -/
def execWake (port : FPort) (s : State) : Host.Outcome State Fault Refusal :=
  onChip s fun c => if (fport c port.val).state = .standby then wakeUp c 3 else c

/-- RTC_ALARM (R118): the clocks reach an instant, `since` angle 0; wall seconds equal to an alarm that is not off set
ALARM, and WK_RTC wakes the module. -/
def execRtcAlarm (since : Nat) (s : State) : Host.Outcome State Fault Refusal :=
  onChip s fun c =>
    let c := runTo c since
    let a := (regGet c Reg.SUP_RTC_ALARM).toNat
    if c.sup.mode = .off ∨ c.sup.mode = .reset ∨ a = 0 ∨ c.tb.wall / 2 ^ 32 % 2 ^ 32 ≠ a then c
    else
      let c := raiseEvt c Reg.SUP_TB_EVT 6
      if c.sup.mode = .deepStandby then deepWake c 5
      else if c.sup.mode = .standby then wakeUp c 5
      else c

/-! ### Resets by pin and by SUP_RST_CTRL (R52 to R55, R63) -/

/-- RST_N_RESET (R63): a cold reset with cause PIN in every mode but Off and Hold-up (R50). -/
def execRstNReset (s : State) : Host.Outcome State Fault Refusal :=
  onChip s fun c => if c.sup.mode = .off ∨ c.sup.mode = .holdUp then c else resetModule c .pin true

/-- RST_CTRL_MODULE (R54, R55). -/
def execRstCtrlModule (s : State) : Host.Outcome State Fault Refusal :=
  onChip s fun c => reach c Reg.SUP_RST_CTRL fun c => if mayAskReset c then softReset c false else c

/-- RST_CTRL_COLD (R54, R55). -/
def execRstCtrlCold (s : State) : Host.Outcome State Fault Refusal :=
  onChip s fun c => reach c Reg.SUP_RST_CTRL fun c => if mayAskReset c then softReset c true else c

/-- R55: a region whose reset is refused while an outlet is energised. -/
def resetGuarded (r : Region) : Bool := r == .met || r == .out

/-- R52 to R55: one region reset asked for by software; the link region starts again at once (R378). -/
def softRegion (c : Chip) (r : Region) : Chip :=
  if r = .sup then c
  else if resetGuarded r && anyEnergised c then refuseReset c
  else
    let c := recordCause (resetRegion c r) (11 + r.idx)
    if r = .lnk then fabStart c else c

/-- R54: the region bits of a write, in SUP_FENCE order. -/
def softRegions (c : Chip) (regions : BitVec 7) : Chip :=
  [Region.met, .out, .tru, .lnk, .dsp, .svc].foldl (fun c r => if regions.getLsbD r.idx then softRegion c r else c) c

/-- RST_CTRL_REGION (R54, R55). -/
def execRstCtrlRegion (regions : BitVec 7) (s : State) : Host.Outcome State Fault Refusal :=
  onChip s fun c => reach c Reg.SUP_RST_CTRL fun c => if mayAskReset c then softRegions c regions else c

/-! ### Clocks (R24, R25) -/

/-- R25: REF is lost: metering runs on the fallback clock; the service, link and display regions stop and are fenced;
the ports go down. -/
def loseRef (c : Chip) : Chip :=
  let c := { c with sup := { c.sup with refLost := true }, met := { c.met with fallback := true } }
  let c := fenceRegion (fenceRegion (fenceRegion c .svc) .lnk) .dsp
  addDegCause (portsDown c) .refClock

/-- CLOCK_LOSS (R24, R25). -/
def execClockLoss (dom : Domain) (s : State) : Host.Outcome State Fault Refusal :=
  onChip s fun c =>
    if !dieRuns c then c
    else
      let c := reportSrc c (139 + dom.idx) 0
      match dom with
      | .ref => if c.sup.refLost then c else loseRef c
      | _ => c

/-- CLOCK_EXCURSION (R24). -/
def execClockExcursion (dom : Domain) (s : State) : Host.Outcome State Fault Refusal :=
  onChip s fun c => if dieRuns c then reportSrc c (139 + dom.idx) 0 else c

/-- R25: the fences that the loss of REF set lift, but for what Hold-up (R51) and Quarantine (R479) hold fenced. -/
def refUnfence (c : Chip) : Chip :=
  if c.sup.mode = .holdUp then c
  else
    let fe := setBitV (setBitV c.sup.fence Region.svc.idx false) Region.lnk.idx false
    let held := c.sup.mode == .quarantine || c.sup.quarantineDue.isSome
    fabStart { c with sup := { c.sup with fence := if held then fe else setBitV fe Region.dsp.idx false } }

/-- R25: REF is back: metering returns to it with DTCORR at 1.0 (R156), the fences lift, and the link region starts. -/
def refBack (c : Chip) : Chip :=
  let c := { c with
    sup := { c.sup with refLost := false }, met := { c.met with fallback := false, dtCorr := 0x40000000 } }
  dropDegCause (clearSrc (refUnfence c) 140) .refClock

/-- REF_RESTORED (R25). -/
def execRefRestored (s : State) : Host.Outcome State Fault Refusal :=
  onChip s fun c => if c.sup.refLost && dieRuns c then refBack c else c

/-! ### Disabling (R69 to R71) -/

/-- R71: SUP_DISABLE takes a write: while the die runs, or the reset is entered. -/
def mayDisable (c : Chip) : Bool := dieRuns c || c.sup.mode == .reset

/-- DISABLE_WRITE (R69, R70). -/
def execDisableWrite (value : Word) (s : State) : Host.Outcome State Fault Refusal :=
  onChip s fun c => reach c Reg.SUP_DISABLE fun c => if mayDisable c then writeDisable c value else c

/-- R70: the work in flight of a function has ended. -/
def drained (c : Chip) (k : Nat) : Bool :=
  if k < 8 then
    let st := (outletOf c k).state
    (st == .unavailable || (!immBit c Reg.SUP_DISABLE k && (st == .finishing || st == .faulted || st == .idle)))
      && !energised c k && outletSettled c k
  else if k < 16 then !c.sup.pointsOff.contains (k - 8)
  else if k = 22 then c.dsp.pstate == .off
  else if k = 23 then !c.bp.busy
  else true

/-- R57, R71: what follows the end of draining: the disabled state, or the return to service of a function whose bit has
been cleared meanwhile. -/
def drainEnd (c : Chip) (k : Nat) : Chip :=
  let off := immBit c Reg.SUP_DISABLE k
  if k < 8 then (if off then pilotF c k else tryAvailable (modOutlet c k (fun x => { x with draining := false })) k)
  else if 16 ≤ k ∧ k < 20 then
    if !off || portHeld (fport c (k - 16)) then c
    else
      let c := topoChanged (floodLsa (setFport c (k - 16) { FPortSt.init with state := .disabled })) false
      if [16, 17, 18, 19].all (fun p => immBit c Reg.SUP_DISABLE p) then
        { c with sup := { c.sup with ready := setBitV c.sup.ready Func.fab.idx false } }
      else c
  else if (k = 22 ∨ k = 23) ∧ dsiDisabled c = true ∧ bpDisabled c = true then
    { c with sup := { c.sup with ready := setBitV c.sup.ready Func.dsp.idx false } }
  else c

/-- DRAIN_DONE (R70): a function of SUP_DISABLE_STATUS has finished draining. -/
def execDrainDone (k : Fin 25) (s : State) : Host.Outcome State Fault Refusal :=
  onChip s fun c =>
    if c.sup.draining.getLsbD k.val && drained c k.val then
      functionsChanged (drainEnd { c with sup := { c.sup with draining := setBitV c.sup.draining k.val false } } k.val)
    else c

/-- OUTLET_DRAIN_TIMEOUT (R70): the contactors of an outlet still draining after 6 s are opened at once. -/
def execOutletDrainTimeout (outlet : Outlet) (s : State) : Host.Outcome State Fault Refusal :=
  onChip s fun c =>
    let o := outlet.val
    if c.sup.draining.getLsbD o = false then c
    else if energised c o then
      let c := releaseForOpening c o
      let c := modOutlet c o (fun x => { x with state := .weldCheck, why := .stop })
      if isDc c o then stopConverters c o else c
    else settleOutlet c o

end Sys2Proof.Machine
end

