-- ==== Sys2Proof/Machine/Start.lean ====
section
/-! DEFINITION. The start after a reset: the release (R50, R56), the lifecycle wipe (R65 to R67), measurement (R407,
R408, R435), the device key (R415, R420), the restore of the commit ring and the cycle count (R100, R171), the legal core
(R214, R222), the calendars (R480), ready bits and their deadlines (R56, R57), and their commands. -/

namespace Sys2Proof.Machine

/-! ### Fuses at a start (R427) -/

/-- Bits blown of a group. -/
def groupBits (lcs : BitVec 15) (g : Nat) : Nat :=
  (lcs.getLsbD (3 * g)).toNat + (lcs.getLsbD (3 * g + 1)).toNat + (lcs.getLsbD (3 * g + 2)).toNat

/-- R427: groups with one or two bits blown. -/
def partGroups (f : Fuses) : List Nat := (List.range 5).filter (fun g => groupBits f.lcs g == 1 || groupBits f.lcs g == 2)

/-- R427: partly blown groups are completed; in Scrapped every bit of ROOT is blown. -/
def repairFuses (f : Fuses) : Fuses :=
  let f := { f with lcs := (partGroups f).foldl (fun v g => v ||| BitVec.ofNat 15 (7 * 2 ^ (3 * g))) f.lcs }
  if f.state = .scrapped then { f with root := BitVec.allOnes 256, rootSet := true } else f

/-- R448: a session found CONFIRMED has its counters completed before any part runs. -/
def startFuses (f : Fuses) (c : Chip) : Fuses :=
  match c.upd.journal, c.upd.manifest with
  | .confirmed, some m => blowRollback (repairFuses f) m
  | _, _ => repairFuses f

/-! ### The lifecycle wipe (R65 to R67) -/

/-- R65: the state's transition wiped the whole MRAM. -/
def wholeWipe (l : Lifecycle) : Bool := l == .factory || l == .scrapped

/-- R65: the settings of the compute die, wiped with CONFIG: every shadowed register outside the calibration class has
its reset value again, shadow and live, and so has OFS_TRACK (R142). -/
def wipeSettings (c : Chip) : Chip :=
  let keep := fun (e : Nat × Word) => !isShadowed e.1 || calClass e.1 || memberOf e.1 == 7
  let untrack := fun (e : Nat × Word) =>
    if 0x1000000 ≤ e.1 ∧ e.1 < 0x1004000 ∧ e.1 % 0x100 = 0 then (e.1, withBit e.2 5 false) else e
  let settled := fun (t : Tab Word) => ((t.filter keep).map untrack).filter (fun e => e.2 != regReset e.1)
  { c with regs := settled c.regs, live := settled c.live }

/-- The CONFIG, AUTH, SESSION, BLOTTER, CERT and IMAGE partitions, wiped. -/
def wipeOthers (c : Chip) : Chip :=
  { wipeSettings c with
    tar := { Tar.reset with rateAt := c.tar.rateAt, lastB := c.tar.lastB },
    outl := { c.outl with list := [], listVersion := 0, ocppVars := [], macs := Outl.reset.macs, certs := [] },
    tru := { c.tru with siteKeys := [], siteLoaded := false, sendKey := none, cert := none, generation := [] },
    age := { c.age with saved := none, savedOld := none }, fab := { c.fab with storedAddr := none },
    sess := Sess.reset, repl := Repl.reset,
    acc := { c.acc with ctxs := [], bound := [], boundNext := [] },
    flt := { c.flt with srcs := [] },
    blt := { c.blt with slots := [], nextSeq := 0, drop := 0, queue := [] },
    upd := Upd.reset }

/-- The LEGAL partition, wiped: ring, log, calibration, legal firmware and the state of the device key. -/
def wipeLegal (c : Chip) : Chip :=
  { c with
    regs := c.regs.filter (fun e => !calClass e.1), live := c.live.filter (fun e => !calClass e.1),
    acc := AccBlock.reset, leg := Leg.reset,
    tru := { c.tru with keyRecord := none, copyA := Tru.reset.copyA, copyB := Tru.reset.copyB, sigsMade := 0, checkpoints := 0 } }

/-- R66, R67: at a start whose lifecycle state is not the wiped epoch the wipe runs from its beginning; nothing reads
what it wipes before it is done, so its effect on the partitions is taken at its start (log 35). The first record after
it is LIFECYCLE (R475). -/
def startWipe (c : Chip) : Chip :=
  let old := c.wipe.epoch
  let new := c.sup.lcs
  if old = new then { c with wipe := { c.wipe with mramBusy := false }, blt := { c.blt with ready := true } }
  else
    let c := wipeOthers c
    let c := if wholeWipe new then wipeLegal c else c
    let c := { c with wipe := { c.wipe with mramBusy := true, progress := 0 } }
    blotEvent c 0x0007 5 (old.code + new.code * 256)

/-! ### Measurement (R407, R408, R435, R442) -/

/-- R407: a stage that is absent or failed. -/
def absentStage : StageMeas := { code := 0xFF, slot := 0xFF, version := 0, digest := 0 }

/-- R435: the selected bank of a part passes Quill's checks: a key of an image slot, SVN and digest. -/
def bankOk (f : Fuses) (k : Nat) (b : Bank) : Bool :=
  keyKnown f b.pubkey && decide (blownBits f k ≤ b.entry.svn) && imageOk b.entry b.image

/-- R214: the legal firmware may run: its digest is LEGAL_DIG once that is blown; before, the stored image, whose signature
the load has found good, must be the image authority's again. -/
def legalFirmwareOk (f : Fuses) (c : Chip) : Bool :=
  match c.leg.firmware with
  | none => false
  | some i => match f.legalDig with
    | some e => Config.shake256 i.image == e
    | none => keyKnown f i.key

/-- R407: the measurement of stage k. -/
def measureStage (f : Fuses) (c : Chip) (k : Nat) : StageMeas :=
  if k = 0 then { code := 0, slot := 0xFF, version := Config.romVersion, digest := Config.romDigest }
  else if k = 3 then
    match c.leg.firmware with
    | some i =>
      if legalFirmwareOk f c then { code := 2, slot := 0xFF, version := i.version, digest := Config.shake256 i.image }
      else absentStage
    | none => absentStage
  else match tfind c.upd.banks (bankKey c k true) with
    | some b =>
      if bankOk f k b then
        { code := 1, slot := (imageSlot f b.pubkey).getD 0xFF, version := b.entry.version, digest := b.entry.digest }
      else absentStage
    | none => absentStage

/-- R50, R435: the selected image of some part fails verification. -/
def imageFailed (f : Fuses) (c : Chip) : Bool :=
  [1, 2, 4, 5, 6, 7, 8].any (fun k => match tfind c.upd.banks (bankKey c k true) with
    | some b => !bankOk f k b
    | none => false)

/-- R67: some updatable part is absent. -/
def imageAbsent (c : Chip) : Bool := [1, 2, 4, 5, 6, 7, 8].any (fun k => (tfind c.upd.banks (bankKey c k true)).isNone)

/-- R408: the MEAS chain over the stages. -/
def measFold (l : List StageMeas) : BitVec 256 :=
  (l.foldl (fun (a : BitVec 256 × Nat) m =>
    (Config.shake256 (id32 a.1 ++ beBytes 1 a.2 ++ beBytes 4 m.version.toNat ++ id32 m.digest), a.2 + 1)) (0, 0)).1

/-- A cause of Quarantine found at a start; the first one stands. -/
def dueQuarantine (c : Chip) (cause : Nat) : Chip :=
  { c with sup := { c.sup with quarantineDue := some (c.sup.quarantineDue.getD cause) } }

/-- R415, R420: the state of the device key at a start. -/
def startXmt (f : Fuses) (c : Chip) : Chip :=
  let set := fun (c : Chip) (x : XmtState) => { c with tru := { c.tru with xmt := x } }
  match c.tru.keyRecord with
  | none => set c .noKey
  | some r =>
    if (currentCopy c.tru).isNone && c.sup.lcs != .blank && c.sup.lcs != .factory then dueQuarantine (set c .lost) 0x0A
    else if stageAbsent c.tru then set c .unbound
    else if keyCheck (deviceKey f.root c.tru.authChain c.tru.unit "XMT-SKSEED") = r.check then set c .ready
    else dueQuarantine (raiseEvt (set c .wrongKey) Reg.TRU_EVT 2) 0x0A

/-- R407 to R409, R428: the start of the trust region up to its ready bit. -/
def startTru (f : Fuses) (c : Chip) : Chip :=
  let stages := (List.range 9).map (measureStage f c)
  let c := { c with tru := { c.tru with
    unit := f.unit, rootOk := f.rootSet, stages := stages, meas := measFold stages,
    authChain := authFold (stages.map (·.code)), chainsClosed := true, lcNonce := drawn c } }
  let c := startXmt f (takeFree c)
  let c := if imageFailed f c then dueQuarantine c 0x0A else c
  if imageAbsent c && c.wipe.epoch != .blank then dueQuarantine c 0x0B else c

/-! ### Restore (R100, R171) -/

/-- R100: the cycles of the wall time since a stamp (2^-16 s) at a frequency in mHz. -/
def cyclesSince (c : Chip) (stamp freq : Nat) : Nat :=
  if c.tb.valid ∧ stamp ≤ wall16 c then (wall16 c - stamp) * freq / (1000 * 2 ^ 16) else 0

/-- R171: places whose stored image no longer checks. -/
def corruptSlots (c : Chip) (bad : List Nat) : Chip :=
  { c with acc := { c.acc with
    ring := c.acc.ring.map (fun e => if bad.contains e.1 then (e.1, { e.2 with written := 0 }) else e) } }

/-- R171: slots that fail show in SLOT_BAD. -/
def countBad (c : Chip) : Chip :=
  if (c.acc.ring ++ c.acc.gaspRing).all (fun e => slotValid e.2) then c else raiseEvt c Reg.MET_QE_EVT 5

/-- R164: the bindings of the LIVE contexts; none is reinstated after Off (R198). -/
def liveBindings (c : Chip) : Tab Nat :=
  if c.sup.fromOff then []
  else c.sess.ctxs.foldl (fun t e => if e.2.bstate = .live then tput t e.2.point e.1 else t) []

/-- R171: counters of the points from a slot. -/
def restoreCounts (c : Chip) (sl : CommitSlot) : Chip :=
  (List.range 8).foldl (fun c m =>
    setPt c m { ptOf c m with cntSubst := tget 0 sl.counts (4 * m), cntOvr := tget 0 sl.counts (4 * m + 1),
                              cntFb := tget 0 sl.counts (4 * m + 2) }) c

/-- R99, R100: the count and the mark that a start restores; a timebase that has run on, through a reset of the metering
region alone, keeps its own. -/
def restoredTb (c : Chip) (cycle hwm : Nat) : Timebase :=
  if c.tb.known then c.tb else { c.tb with known := true, cycle := cycle, hwm := hwm }

/-- R100, R171: what the newest valid slot restores. -/
def restoreSlot (c : Chip) (place : Nat) (sl : CommitSlot) : Chip :=
  let ctxs := sl.sess.foldl (fun t e => e.2.2.foldl (fun t v => tput t (64 * e.1 + v.1) v.2) t) c.acc.ctxs
  let b := liveBindings c
  let c := restoreCounts c sl
  let c := { c with
    acc := { c.acc with
      points := sl.points, ctxs := ctxs, bound := b, boundNext := b, lastSeq := sl.seq, lastSlot := place,
      lastKind := sl.kind, lastNoHold := sl.noHold, lastFallback := sl.fallback, finCycle := sl.cycle, finWall := sl.wall * 2 ^ 16,
      restored := true },
    tb := restoredTb c (sl.cycle + 1 + cyclesSince c sl.wall sl.freq) (max (sl.hwm * 2 ^ 16) c.tb.wall) }
  if sl.kind = 1 ∨ sl.kind = 2 then raiseEvt c Reg.MET_QE_EVT 3
  else if sl.kind = 3 then raiseEvt c Reg.MET_QE_EVT 4
  else c

/-- R171: the ring is formatted in Blank and Factory. -/
def formatRing (c : Chip) : Chip :=
  { c with
    acc := { AccBlock.reset with restored := true },
    met := { c.met with points := c.met.points.map (fun e => (e.1, { e.2 with cntSubst := 0, cntOvr := 0, cntFb := 0 })) },
    tb := restoredTb c 0 0 }

/-- R221: the valid legal log entry with the highest SEQ: the head. -/
def newestEntry (c : Chip) : Option LegEntry :=
  (c.leg.log.filter (fun e => e.2.whole)).foldl (fun a e => match a with
    | some b => if b.seq < e.2.seq then some e.2 else a
    | none => some e.2) none

/-- R171: no valid slot from Provisioned onwards: count and mark from the newest log entry, no accumulator restored, and
Quarantine. -/
def ringLost (c : Chip) : Chip :=
  let (cyc, mark) := match newestEntry c with
    | some e => (e.stamp.cycle + 1 + cyclesSince c e.stamp.wall 50000, e.stamp.bill * 2 ^ 16)
    | none => (0, 0)
  dueQuarantine { c with tb := restoredTb c cyc mark } 0x0A

/-- R171: the restore of the accumulator block; `bad` names places found corrupt. A ring without a valid slot is left as it
is, but in Blank and Factory formatted. -/
def restoreRing (c : Chip) (bad : List Nat) : Chip :=
  let c := corruptSlots { c with acc := { c.acc with cutDur := 0 } } bad
  match newestSlot c with
  | some (place, sl) => restoreSlot (countBad c) place sl
  | none => if c.sup.lcs = .blank ∨ c.sup.lcs = .factory then formatRing c else ringLost (countBad c)

/-- R480: the calendars are checked again. -/
def restoreCalendars (c : Chip) : Chip :=
  let c := match c.tar.active with
    | some cal =>
      if badImage cal ≠ 0 then
        blotEvent { c with tar := { c.tar with active := none } } 0x000A 5 (calWord cal 0).toNat
      else c
    | none => c
  if c.tar.pasState = .armed then
    let why := badImage (passiveImage c)
    if why ≠ 0 then { c with tar := { c.tar with pasState := .checkFailed, pasCause := why } } else c
  else c

/-! ### The legal core's start (R214, R216, R222) -/

/-- R222: the body of START. -/
def startBody (c : Chip) : List Byte :=
  let (v, d) := c.leg.loaded.getD (0, 0)
  beBytes 4 v.toNat ++ (id32 d).take 16 ++ beBytes 8 c.acc.lastSeq ++ beBytes 1 c.acc.lastKind
    ++ beBytes 2 (imm c Reg.SUP_RST_CAUSE 9 0) ++ beBytes 1 0

/-- R174, R222: the span from the final commit, or through Off, is recorded as unmeasured for the points of the restored
slot; a span already open stands. -/
def outageSpans (c : Chip) : Chip :=
  match newestSlot c with
  | none => c
  | some (_, sl) =>
    if sl.kind = 3 ∨ c.sup.fromOff then
      (List.range 8).foldl (fun c m =>
        if bitOf (wordOf sl.pmask) m && (tfind c.leg.unmeasured m).isNone then
          let c := unmeasuredEntry c m sl.cycle c.tb.cycle sl.wall (time16 c.tb.wall) 0
          let c := setInt c m { intOf c m with flags := (intOf c m).flags ||| flagBit 11,
                                               billFlags := (intOf c m).billFlags ||| flagBit 11 }
          { c with sess := { c.sess with ctxs := c.sess.ctxs.map (fun e =>
            if e.2.bstate = .live ∧ e.2.point = m then (e.1, { e.2 with flags := e.2.flags ||| flagBit 11 }) else e) } }
        else c) c
    else c

/-- R221: the head found at the start: a slot that fails its CRC counts as never written, and its SEQ is given again. -/
def findHead (c : Chip) : Chip :=
  match newestEntry c with
  | some e => { c with leg := { c.leg with nextSeq := e.seq + 1, chain := entryChain c e } }
  | none => { c with leg := { c.leg with nextSeq := 1, chain := 0 } }

/-- R214: the head is consistent: every whole slot stands at its place, and no acknowledgement or signature lies beyond
it. -/
def headConsistent (c : Chip) : Bool :=
  c.leg.log.all (fun e => !e.2.whole || e.1 == legSlot e.2.seq) && decide (c.leg.ack < c.leg.nextSeq)
    && decide (c.leg.signedSeq < c.leg.nextSeq)

/-- R212, R214: one copy of each store passes its CRC. -/
def copiesOk (bad : BitVec 4) : Bool := (!bad.getLsbD 0 || !bad.getLsbD 1) && (!bad.getLsbD 2 || !bad.getLsbD 3)

/-- R216: the seal as the start finds it on the pin: an entry only where it differs from the one stored. -/
def startSeal (c : Chip) (pin : Bool) : Chip :=
  if pin = c.leg.sealOpen then c else sealEntry { c with leg := { c.leg with sealOpen := pin } }

/-- R214: the legal core starts: its firmware with its four further checks, or the bootstrap while there is none in Blank
and Factory. `bad` tells the copies that fail their CRC; `sealPin` is METSEAL after 10 ms, true for OPEN. -/
def startLegal (f : Fuses) (c : Chip) (bad : BitVec 4) (sealPin : Bool) : Chip :=
  let early := c.sup.lcs == .blank || c.sup.lcs == .factory
  let boot := c.leg.firmware.isNone && early
  let c := findHead { c with leg := { c.leg with badCopies := bad } }
  let runs := legalFirmwareOk f c && c.acc.restored && copiesOk bad && headConsistent c
  let c := { c with leg := { c.leg with
    running := runs, bootstrap := boot,
    loaded := if runs then c.leg.firmware.map (fun i => (i.version, Config.shake256 i.image)) else none } }
  let c := if runs || boot then c else dueQuarantine c 0x0A
  let c := legalEntry c tyStart 0xFF (startBody c) none
  let c := if c.wipe.due then legalEntry c tyLifecycle 0xFF (beBytes 1 c.wipe.epoch.code ++ beBytes 1 c.sup.lcs.code) none
    else c
  let c := { c with wipe := { c.wipe with due := false } }
  startSeal (outageSpans c) sealPin

/-- R142, R171, R480: everything the metering region restores before MET rises. -/
def startMet (f : Fuses) (c : Chip) (bad : List Nat) (badCopies : BitVec 4) (sealPin : Bool) : Chip :=
  let c := startLegal f (restoreCalendars (restoreRing c bad)) badCopies sealPin
  assignLanes c (pointState c)

/-- R15, R458: a reset that the collector started has ended: the link region starts again (R378), and so does the legal
core (R214, R222). -/
def resetEnded (f : Fuses) (c : Chip) (block : Block) : Chip :=
  let c := { c with flt := { c.flt with
    resets := c.flt.resets.filter (fun b => b != block),
    checks := c.flt.checks.map (fun k => if k.block == block then { k with complete := true } else k) } }
  match block with
  | .region .lnk => fabStart c
  | .legalCore => startLegal f c c.leg.badCopies c.leg.sealOpen
  | _ => c

/-- BLOCK_RESET_COMPLETE (R15, R458). -/
def execBlockResetComplete (block : Block) (s : State) : Host.Outcome State Fault Refusal :=
  onChip s fun c => if c.flt.resets.contains block then resetEnded s.fuses c block else c

/-! ### The release (R50, R56) -/

/-- R50: Bring-up begins. -/
def release (f : Fuses) (elapsed : Nat) (store : StoreCopy) (bad : List Nat) (badCopies : BitVec 4) (sealPin : Bool)
    (c : Chip) : Chip :=
  let c := runTo c elapsed
  let c := regPut { c with tb := { c.tb with into := 0 } } Reg.SUP_DISABLE (wordOf c.sup.disableLate.toNat)
  let c := { c with
    sup := { c.sup with lcs := f.state, fence := setBitV c.sup.fence Region.sup.idx false, disableLate := 0 } }
  let c := setMode (startWipe c) .bringUp 0
  let c := startTru f (quillStart c)
  let c := reportHold (restoreStore (startMet f c bad badCopies sealPin) store)
  let c := if c.sup.refLost then c else fabStart c
  let c := if c.sup.lcs = .returned ∨ c.sup.lcs = .scrapped then dueQuarantine c 0x0B else c
  settleMode c

/-- RESET_RELEASE (R50, R56): time since the last angle 0 in 2^-32 s, what the copies of the fault store hold, the
slots of the commit ring found corrupt, the legal core's copies that fail, and the seal. -/
def execResetRelease (elapsed : Nat) (store : StoreCopy) (badSlots : List Nat) (badCopies : BitVec 4) (sealPin : Bool)
    (s : State) : Host.Outcome State Fault Refusal :=
  if s.chip.sup.mode = .reset ∧ s.chip.sup.held = false then
    let f := startFuses s.fuses s.chip
    let c := { s.chip with tru := { s.chip.tru with repaired := !(partGroups s.fuses).isEmpty } }
    .next { s with chip := release f elapsed store badSlots badCopies sealPin c, fuses := f }
  else .next s

/-! ### The AON domain (R53, R113, R463) -/

/-- R113, R117: the high-water mark that MRAM holds. -/
def mramMark (c : Chip) : Nat :=
  match newestSlot c with
  | some (_, sl) => sl.hwm * 2 ^ 16
  | none => match newestEntry c with
    | some e => e.stamp.bill * 2 ^ 16
    | none => 0

/-- AON_POWER_ON (R53, R113, R463): the AON domain and the RTC start; the wall clock starts from the high-water mark,
not valid; every occurrence history is empty. -/
def execAonPowerOn (s : State) : Host.Outcome State Fault Refusal :=
  onChip s fun c =>
    let m := mramMark c
    let c := regPut (regPut c Reg.SUP_RST_CAUSE 1) Reg.SUP_RTC_ALARM 0
    { c with
      tb := { c.tb with aon := 0, wall := m, hwm := m, valid := false, src := .none, slewRem := 0, step := none },
      pwd := { c.pwd with rails := c.pwd.rails ||| 0x100 },
      outl := { c.outl with outlets := c.outl.outlets.map (fun e => (e.1, { e.2 with preclosed := none })) },
      tru := { c.tru with prevUntil := 0 }, upd := { c.upd with confirmFrom := 0 },
      fab := { c.fab with missingFrom := [], divergeAt := [] },
      flt := { c.flt with srcs := c.flt.srcs.map (fun e => (e.1, { e.2 with occ := [] })) } }

/-! ### Wipes (R52, R66 to R68) -/

/-- SRAM_WIPE_DONE (R52): its duration in units of 10 µs. -/
def execSramWipeDone (us10 : Nat) (s : State) : Host.Outcome State Fault Refusal :=
  onChip s fun c =>
    if c.wipe.sramBusy then { c with wipe := { c.wipe with sramBusy := false, sramTime := sat 255 us10 } } else c

/-- DRAM_WIPE_DONE (R52): every byte of the LPDDR4X die is wiped; its duration in ms. -/
def execDramWipeDone (ms : Nat) (s : State) : Host.Outcome State Fault Refusal :=
  if s.chip.wipe.dramBusy then
    .next { s with
      chip := { s.chip with wipe := { s.chip.wipe with dramBusy := false, dramTime := sat 255 ms } }, dram := [] }
  else .next s

/-- MRAM_WIPE_DONE (R66, R67): the new state is the wiped epoch, and the module enters Quarantine; its duration in ms. -/
def execMramWipeDone (ms : Nat) (s : State) : Host.Outcome State Fault Refusal :=
  onChip s fun c =>
    if c.wipe.mramBusy then
      let c := { c with
        wipe := { c.wipe with mramBusy := false, epoch := c.sup.lcs, progress := 255, mramTime := sat 65535 ms },
        blt := { c.blt with ready := true } }
      settleMode (dueQuarantine c 0x0B)
    else c

/-! ### Ready bits (R56, R57) -/

/-- The region that a function's ready bit stands for. -/
def Func.region : Func → Option Region
  | .nib => none | .tru => some .tru | .met => some .met | .out => some .out | .fab => some .lnk | .dsp => some .dsp
  | .svc => some .svc | .hst => none

/-- R56: the ready bit rises, the fence of its region is lifted, and a missed deadline is over. -/
def riseReady (c : Chip) (f : Func) : Chip :=
  let fe := match f.region with | some r => setBitV c.sup.fence r.idx false | none => c.sup.fence
  let c := { c with sup := { c.sup with ready := setBitV c.sup.ready f.idx true, fence := fe } }
  dropDegCause (clearSrc c (131 + f.idx)) (.ready f)

/-- R56, R67, R479: a ready bit may rise: the die runs, the wipe is done but for NIB, TRU, MET and HST, the region's
clock runs, and Quarantine does not hold it. In Scrapped only NIB and HST rise (log 72). -/
def mayRise (c : Chip) (f : Func) : Bool :=
  let early := f == .nib || f == .tru || f == .met || f == .hst
  dieRuns c && c.sup.mode != .holdUp && !ready c f && !funcDisabled c f
    && (early || c.wipe.epoch == c.sup.lcs)
    && !(c.sup.refLost && (f == .fab || f == .dsp || f == .svc))
    && !((c.sup.mode == .quarantine || c.sup.quarantineDue.isSome) && (f == .out || f == .dsp))
    && (c.sup.lcs != .scrapped || f == .nib || f == .hst)

/-- R128: every lane of every enabled point has left TRAIN at least once. -/
def lanesTrained (c : Chip) : Bool :=
  (List.range 64).all (fun n => (pointOfLane c n).isNone || (laneOf c n).leftTrain || (laneOf c n).state == .failed
    || (laneOf c n).state == .retired)

/-- R205: the open intervals close with POWER_END at the restored slot's CYCLE and WALL; new ones open at the next
angle 0. -/
def closeAtSlot (c0 : Chip) (sl : CommitSlot) : Chip :=
  let c := c0
  let now := c.tb
  let at' := { c with tb := { now with cycle := sl.cycle, wall := sl.wall * 2 ^ 16, hwm := sl.hwm * 2 ^ 16 } }
  let ms := (List.range 8).filter (fun m => (tfind c.tar.ints m).isSome)
  let c := ms.foldl (fun c m => closeDemand c m (flagBit 3) true c.tar.rateAt.rate) at'
  let c := (ms.filter (billed c)).foldl (fun c m => closeBilling c m (flagBit 3) (billTime c) c.tar.rateAt.rate) c
  let c := { c with tb := now, tar := { c.tar with ints := [], openDue := true } }
  -- R219, R220: the entries' cause arises now
  let old := c0.leg.causes.length
  { c with leg := { c.leg with
      causes := c.leg.causes.take old ++ (c.leg.causes.drop old).map (fun k => { k with stamp := stampNow c }) } }

/-- R189, R192: the rate in force changes as MET rises after a reset not through Off: the demand intervals close under the
old one, as no energy has been counted since. -/
def splitAtStart (c : Chip) (old : Nat) : Chip :=
  ((List.range 8).filter (fun m => pointEnabled c m && (tfind c.tar.ints m).isSome)).foldl
    (fun c m => openDemand (closeDemand c m (flagBit 4) true old) m 0) c

/-- R205: after Off the open intervals close with the restored slot; with none they are gone. -/
def intervalsAfterOff (c : Chip) : Chip :=
  match newestSlot c with
  | some (_, sl) =>
    let c := closeAtSlot c sl
    { c with tar := { c.tar with endDue := some (sl.cycle, sl.wall) } }
  | none => { c with tar := { c.tar with ints := [], openDue := true } }

/-- R298: how long the metering region has been down, from the restored slot on. -/
def spanDown (c : Chip) : Chip :=
  match newestSlot c with
  | some (_, sl) => { c with acc := { c.acc with gap := some (sl.cycle, c.tb.cycle, sl.wall, time16 c.tb.wall) } }
  | none => c

/-- R180, R205, R189, R63: what MET's rise does with intervals, sessions, the rate and the log. B goes on from where it was
judged last, but that boundaries of an outage through Off produce no records. -/
def metRises (c : Chip) : Chip :=
  let off := c.sup.fromOff || c.tar.ints.isEmpty
  let old := c.tar.rateAt.rate
  let c := if c.sup.fromOff then intervalsAfterOff c else flagLive (spanDown c) (flagBit 2)
  let c := if c.sup.fromDeep then
      (List.range 8).foldl closeUnmeasured (legalEntry c tyResume 0xFF [] none)
    else c
  let now := rateOf c.tar.active (billTime c)
  let c := if !off && now.rate != old then splitAtStart c old else c
  { c with
    tar := { c.tar with rateAt := now, lastB := if off then billTime c else c.tar.lastB },
    sup := { c.sup with fromOff := false, fromDeep := false } }

/-- R255, R257, R244: an outlet as OUT rises: UNAVAILABLE, or its LIVE session held for its vehicle, or IDLE. -/
def outletRises (c : Chip) (o : Fin 8) : Chip :=
  if mustBeUnavailable c o then (if energised c o then drainOutlet c o else enterUnavailable (stopSession c o 0) o)
  else match (if c.tar.endDue.isSome then none else liveCtx c o) with
    | some x =>
      if fbClosed c o then
        let c := modOutlet c o (fun y => { y with state := .energised, ctx := some x, resume := !basicMode c o })
        if basicMode c o then c else pilotDuty c o 50
      else if basicMode c o then modOutlet c o (fun y => { y with state := .authorised, ctx := some x })
      else pilotDuty (modOutlet c o (fun y => { y with state := .plugged, ctx := some x, resume := true })) o 50
    | none => pilotSteady c o

/-- R56: what a function's readiness needs besides. -/
def functionMet (c : Chip) (f : Func) : Bool :=
  match f with
  | .nib => true
  | .tru => decide (c.tru.entStarts < 3) && c.tru.chainsClosed
  | .met => c.acc.restored && (c.leg.running || c.leg.bootstrap) && lanesTrained c
  | .out => true
  | .fab => !cfgBit c Reg.FAB_CFG 0 || c.fab.addrValid
  | .dsp => (c.dsp.pstate == .on || dsiDisabled c) && (c.bp.redrawn || bpDisabled c)
  | .svc => true
  | .hst => true

/-- R56: what the rise of a ready bit brings about. -/
def afterReady (c : Chip) (f : Func) (ageBad : BitVec 2) : Chip :=
  match f with
  | .nib => c
  | .tru =>
    let c := { c with tru := { c.tru with siteLoaded := !c.tru.siteKeys.isEmpty && !stageAbsent c.tru, sendKey := currentKey c } }
    if c.fab.mode != .off && !c.fab.addrValid then claimStart (helloAll c) else c
  | .met => metRises c
  | .out => bookTestPulses (identReq ((List.finRange 8).foldl outletRises c))
  | .fab => if cfgBit c Reg.FAB_CFG 0 then fabEvt c 0 else c
  | .dsp => ageLoad c ageBad
  | .svc => emit c (.ocpp 0 0 true)
  | .hst => c

/-- R52: a region reset alone leaves what its start must restore. -/
def regionStart (fu : Fuses) (c : Chip) (f : Func) (bad : List Nat) (badCopies : BitVec 4) (sealPin : Bool) : Chip :=
  match f with
  | .met => if c.acc.restored then c else startMet fu c bad badCopies sealPin
  | .tru => if c.tru.chainsClosed then c else startTru fu c
  | _ => c

/-- FUNCTION_READY (R56): the operands are read where a region reset has left the restore to this start: slots of the
commit ring found corrupt, the legal core's copies that fail, and the seal; and for DSP the copies of the stress counters that fail.
Reports that waited for the bit are taken (R461). -/
def execFunctionReady (f : Func) (badSlots : List Nat) (badCopies : BitVec 4) (sealPin : Bool)
    (ageBad : BitVec 2) (s : State) : Host.Outcome State Fault Refusal :=
  onChip s fun c =>
    if mayRise c f then
      let c := regionStart s.fuses c f badSlots badCopies sealPin
      if functionMet c f then takeWaiting (settleMode (afterReady (riseReady c f) f ageBad)) else settleMode c
    else c

/-- READY_TIMEOUT (R57): a deadline is missed; none runs for a disabled function, nor in Quarantine for OUT and DSP
(R479). -/
def execReadyTimeout (f : Func) (s : State) : Host.Outcome State Fault Refusal :=
  onChip s fun c =>
    if !dieRuns c || c.sup.mode == .holdUp || ready c f || funcDisabled c f
        || (c.sup.mode == .quarantine && (f == .out || f == .dsp)) then c
    else addDegCause (reportSrc c (131 + f.idx) 0) (.ready f)

end Sys2Proof.Machine
end

