-- ==== Sys2Proof/Machine/Checks.lean ====
section
/-! DEFINITION. The consistency checks of the commit group's members, each on the settings that would be in force
after the swap, and the poll of the group (R30 to R38). -/

namespace Sys2Proof.Machine

/-! ### The settings after the swap -/

/-- R36: the chip with the live settings that the swap of the group would leave. -/
def swapped (c : Chip) : Chip :=
  { c with live := copyRegs c.regs c.live (memberShadow c.cg.members), dsp := { c.dsp with held := none } }

/-- Does a register's live word change in the swap. -/
def changes (c n : Chip) (a : Nat) : Bool := liveGet c a != liveGet n a

/-- A number in a closed range. -/
def within (lo hi v : Nat) : Bool := decide (lo ≤ v) && decide (v ≤ hi)

/-! ### Supervisor (R101, R210, R453, R469) -/

/-- R101: point m has a voltage lane on phase ph and is enabled. -/
def refFits (n : Chip) (m ph : Nat) : Bool :=
  !pointDisabled n m && (match mpType n m with
    | 1 => decide (ph < 3)
    | 2 => ph == 0
    | _ => false)

/-- R101, R453, R469: the check of the supervisor region. -/
def supCheck (n : Chip) : Bool :=
  let g := cfg n Reg.SUP_TB_CFG
  let alt := cfgBit n Reg.SUP_TB_CFG 6
  refFits n (g 2 0) (g 5 4) && cfg n Reg.SUP_TB_SITE 1 0 != 3
    && (!alt || (refFits n (g 10 8) (g 13 12) && cfg n Reg.SUP_TB_SITE 3 2 != 3))
    && within 1 168 (cfg n Reg.UPD_CFG 7 0)
    && cfg n Reg.FLT_GCFG 3 0 != 0 && cfg n Reg.FLT_GCFG 15 8 != 0

/-! ### Metering (R120, R143, R146, R150, R152, R210) -/

/-- R120: an outlet bound to point m is energised; a point of TYPE 0 binds none (DEDUCED, log 37). -/
def boundEnergised (c n : Chip) (m : Nat) : Bool :=
  mpType n m != 0 && decide (mpBind n m < 8) && energised c (mpBind n m)

/-- R120: TYPE, BASE or BIND of point m changes. -/
def pointMoves (c n : Chip) (m : Nat) : Bool :=
  mpType c m != mpType n m || mpBase c m != mpBase n m || mpBind c m != mpBind n m

/-- The lanes of point m. -/
def lanesOf (n : Chip) (m : Nat) : List Nat := (List.range (laneCount (mpType n m))).map (mpBase n m + ·)

/-- R120: the configuration of point m fits, by itself and beside the others. -/
def pointFits (c n : Chip) (m : Nat) : Bool :=
  !(pointMoves c n m && (boundEnergised c c m || boundEnergised c n m))
    && decide (mpBind n m ≤ 8)
    && decide (mpBase n m + laneCount (mpType n m) ≤ 64)
    && (List.range 8).all (fun k => k == m || !pointEnabled n m || !pointEnabled n k
      || (!(lanesOf n m).any (fun l => pointHasLane n k l) && (mpBind n m != mpBind n k || mpBind n m == 8)))

/-- The points that name lane l, enabled or not. -/
def pointsNaming (n : Chip) (l : Nat) : List Nat := (List.range 8).filter (fun m => (lanesOf n m).contains l)

/-- R143: the settings of lane l lie in their ranges, and suit what every point that names it makes of it. -/
def laneFits (n : Chip) (l : Nat) : Bool :=
  let g := cfg n
  let ofs := fun (a : Nat) => decide ((unsgn 32 (liveGet n a).toNat).natAbs ≤ 2 ^ 26)
  let range := g (Reg.MET_LANE_CFG l) 1 0
  let ofPoint := (pointsNaming n l).all (fun m =>
      !(range == 2 && decide (laneRole n m l < voltageCount (mpType n m)))
        && !(cfgBit n (Reg.MET_LANE_CFG l) 5 && mpType n m == 3)
        && liveGet n (Reg.MET_QE_FS l) != 0)
  range != 3 && ofPoint
    && within 0x20000000 0x80000000 (g (Reg.MET_LANE_GAIN l) 31 0)
    && ofs (Reg.MET_LANE_OFS1 l) && ofs (Reg.MET_LANE_OFS16 l)
    && within 0x0E000000 0x12000000 (g (Reg.MET_LANE_GRATIO l) 31 0)

/-- R142, R150: the calibration class of lane l: RANGE and INVERT of MET_LANE_CFG, and the other registers whole. -/
def laneCalMoves (c n : Chip) (l : Nat) : Bool :=
  cfg c (Reg.MET_LANE_CFG l) 1 0 != cfg n (Reg.MET_LANE_CFG l) 1 0
    || cfgBit c (Reg.MET_LANE_CFG l) 4 != cfgBit n (Reg.MET_LANE_CFG l) 4
    || [Reg.MET_LANE_GAIN l, Reg.MET_LANE_OFS1 l, Reg.MET_LANE_OFS16 l, Reg.MET_LANE_PHASE l,
        Reg.MET_LANE_GRATIO l, Reg.MET_LANE_D16 l, Reg.MET_QE_FS l].any (changes c n)

/-- R146: a calibration change of lane l or point m is allowed. -/
def calAllowed (c n : Chip) (m : Option Nat) : Bool :=
  c.leg.sealOpen && (match m with
    | some m => !(boundEnergised c c m || boundEnergised c n m)
    | none => true)

/-- R146, R150: every calibration change of the swap is allowed. -/
def calFits (c n : Chip) : Bool :=
  (List.range 64).all (fun l => !laneCalMoves c n l
      || (calAllowed c n (pointOfLane c l) && calAllowed c n (pointOfLane n l)))
    && (List.range 8).all (fun m => !changes c n (Reg.MET_QE_PCFG m) || calAllowed c n (some m))

/-- R152: the smallest full scale of the phase-current lanes of point m. -/
def smallestScale (n : Chip) (m : Nat) : Nat :=
  let v := voltageCount (mpType n m)
  let ls := (List.range (essentialCount (mpType n m) - v)).map (fun j => fullScale n (mpBase n m + v + j))
  ls.foldl min (ls.headD 0)

/-- R152: RATED lies between Imax / 20 and Imax / 1.2, Imax being the full scale, over √2 on an AC point. -/
def ratedFits (n : Chip) (m : Nat) : Bool :=
  let i := cfg n (Reg.MET_QE_PCFG m) 31 16 * 100
  let f := smallestScale n m
  mpType n m == 0 ||
    (if mpType n m = 3 then decide (f ≤ 20 * i) && decide (12 * i ≤ 10 * f)
     else decide (f ^ 2 ≤ 2 * (20 * i) ^ 2) && decide (2 * (12 * i) ^ 2 ≤ (10 * f) ^ 2))

/-- R210: a divisor of 60. -/
def divides60 (v : Nat) : Bool := v != 0 && 60 % v == 0

/-- R210: the lengths of the demand and billing intervals. -/
def intervalsFit (n : Chip) : Bool :=
  let len := cfg n Reg.TAR_DEM_CFG 5 0
  let subs := cfg n Reg.TAR_DEM_CFG 11 8
  divides60 len && divides60 (cfg n Reg.TAR_BILL_CFG 5 0)
    && (!cfgBit n Reg.TAR_DEM_CFG 6 || (subs != 0 && len % subs == 0 && divides60 (len / subs)))

/-- The check of the metering region. -/
def metCheck (c n : Chip) : Bool :=
  (List.range 8).all (fun m => pointFits c n m && ratedFits n m) && (List.range 64).all (laneFits n)
    && calFits c n && intervalsFit n

/-! ### Outlet (R237, R268, R269, R299) -/

/-- R237: an outlet that is used. -/
def outletUsed (n : Chip) (o : Nat) : Bool := outKind n o != 0

/-- R237: TYPE of the point bound to outlet o; 0 where none is. A disabled point still counts as bound. -/
def boundType (n : Chip) (o : Nat) : Nat :=
  match pointOfOutlet n o with
  | some m => mpType n m
  | none =>
    match (List.range 8).find? (fun m => mpType n m != 0 && mpBind n m == o) with
    | some m => mpType n m
    | none => 0

/-- R268: FIRST and COUNT of the converters of outlet o. -/
def convFirst (n : Chip) (o : Nat) : Nat := cfg n (Reg.OUT_CONV o) 13 8
def convCount (n : Chip) (o : Nat) : Nat := cfg n (Reg.OUT_CONV o) 20 16

/-- R237: two outlets share an injector or a converter address. -/
def outletsClash (n : Chip) (o p : Nat) : Bool :=
  let i := cfg n (Reg.OUT_CFG o) 10 8
  (i != 0 && i == cfg n (Reg.OUT_CFG p) 10 8)
    || (cfgBit n (Reg.OUT_CONV o) 0 == cfgBit n (Reg.OUT_CONV p) 0
      && convCount n o != 0 && convCount n p != 0
      && decide (convFirst n o < convFirst n p + convCount n p)
      && decide (convFirst n p < convFirst n o + convCount n o))

/-- R237: KIND, IMD, OUT_CONV or OUT_LOCK_CFG of outlet o changes. -/
def outletMoves (c n : Chip) (o : Nat) : Bool :=
  outKind c o != outKind n o || cfg c (Reg.OUT_CFG o) 10 8 != cfg n (Reg.OUT_CFG o) 10 8
    || changes c n (Reg.OUT_CONV o) || changes c n (Reg.OUT_LOCK_CFG o)

/-- R237, R268: the configuration of outlet o fits. -/
def outletFits (c n : Chip) (o : Nat) : Bool :=
  let g := cfg n (Reg.OUT_CFG o)
  let lock := Reg.OUT_LOCK_CFG o
  let st := (outletOf c o).state
  let ty := boundType n o
  let kind := match outKind n o with
    | 0 => true
    | 1 => (ty == 1 || ty == 2) && (cfgBit n (Reg.OUT_CFG o) 2 == (ty == 1)) && within 60 800 (cfg n (Reg.OUT_LIMIT o) 15 0)
    | _ => g 10 8 != 0 && convCount n o != 0 && ty == 3 && decide (cfg n (Reg.OUT_LIMIT o) 15 0 ≤ 10000)
  kind
    && (outKind n o != 3 || cfgBit n (Reg.OUT_CFG o) 14)
    && (List.range 8).all (fun p => p == o || !outletUsed n o || !outletUsed n p || !outletsClash n o p)
    && (!cfgBit n (Reg.OUT_CFG o) 6 || (cfg n lock 3 0 != cfg n lock 7 4 && cfg n lock 23 16 != 0))
    && (st == .idle || st == .unavailable || !outletMoves c n o)
    && cfg n (Reg.OUT_POW_CFG o) 2 1 != 3 && within 10 80 (cfg n (Reg.OUT_POW_CFG o) 15 8)
    && decide (convFirst n o + convCount n o ≤ 64)
    && cfg n (Reg.OUT_AUTH_CFG o) 1 0 != 3 && within 1 60 (cfg n (Reg.OUT_AUTH_CFG o) 15 8)

/-- R269: the bit rates of CAN bus b. -/
def canFits (n : Chip) (b : Nat) : Bool :=
  decide (cfg n (Reg.OUT_CAN_CFG b) 3 0 ≤ 3) && decide (cfg n (Reg.OUT_CAN_CFG b) 7 4 ≤ 4)

/-- R299: the safety settings lie in their ranges and agree with the outlets; the feedback input of an outlet
counts while its lock is used (DEDUCED, log 36). -/
def safetyFits (n : Chip) : Bool :=
  let t := cfg n Reg.SAF_TEMP_CFG
  let fault := cfg n Reg.SAF_IMD_CFG 15 0
  within 1 20 (cfg n Reg.SAF_PE_CFG 4 0) && within 100 1000 fault && within fault 5000 (cfg n Reg.SAF_IMD_CFG 31 16)
    && within 0xA4 0xEA (t 7 0) && within 0xA4 0xC7 (t 15 8)
    && (List.range 8).all (fun k => !cfgBit n Reg.SAF_TEMP_CFG (16 + k)
      || (List.range 8).all (fun o => !cfgBit n (Reg.OUT_CFG o) 6 || cfg n (Reg.OUT_LOCK_CFG o) 12 8 != 24 + k))
    && (List.range 8).all (fun o => !isDc n o || cfg n (Reg.SAF_DC_CFG o) 15 0 != 0)

/-- R299: a value moves away from the safe side: a limit up, an insulation limit down, a switch off or read with the
other polarity, a weld threshold up (DEDUCED from R39, log 38). -/
def safetyLoosens (c n : Chip) : Bool :=
  let t := Reg.SAF_TEMP_CFG
  decide (cfg c Reg.SAF_PE_CFG 4 0 < cfg n Reg.SAF_PE_CFG 4 0)
    || decide (cfg n Reg.SAF_IMD_CFG 15 0 < cfg c Reg.SAF_IMD_CFG 15 0)
    || decide (cfg n Reg.SAF_IMD_CFG 31 16 < cfg c Reg.SAF_IMD_CFG 31 16)
    || decide (cfg c t 7 0 < cfg n t 7 0) || decide (cfg c t 15 8 < cfg n t 15 8)
    || (List.range 8).any (fun k => cfgBit c t (16 + k) && !cfgBit n t (16 + k))
    || cfgBit c t 24 != cfgBit n t 24
    || (List.range 8).any (fun o => decide (cfg c (Reg.SAF_DC_CFG o) 15 0 < cfg n (Reg.SAF_DC_CFG o) 15 0))

/-- The check of the outlet region, the safety processor's frame included. -/
def outCheck (c n : Chip) : Bool :=
  (List.range 8).all (outletFits c n) && (List.range 2).all (canFits n) && safetyFits n
    && !(anyEnergised c && safetyLoosens c n)

/-! ### Trust, link, display, power die -/

/-- R432: the check of the trust region. -/
def truCheck (n : Chip) : Bool := cfg n Reg.TRU_TLS_POLICY 1 0 != 0 && cfg n Reg.TRU_TLS_POLICY 3 2 != 0

/-- R400: the check of the link region. -/
def lnkCheck (n : Chip) : Bool :=
  !(cfgBit n Reg.FAB_CFG 2 && (liveGet n Reg.FAB_SITE_IMP == 0 || cfg n Reg.FAB_MOD_CFG 15 0 == 0))
    && within 30 3600 (cfg n Reg.FAB_CFG 31 16)
    && !(cfgBit n Reg.FAB_MOD_CFG 19 && mpBind n (cfg n Reg.FAB_MOD_CFG 18 16) != 8)
    && (List.range 8).all (fun o => cfg n (Reg.FAB_OUT_CFG o) 15 8 != 0)

/-- R326, R327, R345: timing and DSI settings. -/
def timingFits (n : Chip) : Bool :=
  let h := cfg n Reg.DSP_HTIME
  let v := cfg n Reg.DSP_VTIME
  let d := cfg n Reg.DSP_DSI_CFG
  let sync := cfgBit n Reg.DSP_DSI_CFG 3
  let lanes := match d 1 0 with | 0 => 1 | 1 => 2 | _ => 4
  let bpp := if cfgBit n Reg.DSP_DSI_CFG 2 then 30 else 24
  let pix := (h 15 0 + h 31 16) * (v 15 0 + v 31 16) * (if sync then 70 else d 15 8)
  within 64 1920 (h 15 0) && within 16 1024 (h 31 16) && within 64 1200 (v 15 0) && within 4 1024 (v 31 16)
    && d 1 0 != 3 && (sync || within 24 60 (d 15 8)) && within 80 1500 (d 27 16)
    && decide (5 ≤ cfg n Reg.DSP_PWR_CFG 23 16)
    && decide (pix ≤ 150000000) && decide (pix * bpp * 105 ≤ d 27 16 * 1000000 * 100 * lanes)

/-- R331, R334, R345: ageing settings; METHOD 2 cannot be applied while a baseline scan runs: the check
fails (log 68). -/
def ageFits (c n : Chip) : Bool :=
  let g := cfg n Reg.DSP_AGE_CFG
  g 1 0 != 3 && (g 1 0 != 2 || (c.age.baselined && !c.age.baselineScan && cfg n Reg.DSP_AGE_SCMD 7 0 != 0))
    && within 128 255 (g 15 8) && within 128 255 (g 23 16) && decide (g 28 24 ≤ 26)
    && cfg n Reg.DSP_AGE_SENSE 7 0 != 0
    && (List.range 3).all (fun k => (List.range 64).all (fun j => within 1 0x8000 (cfg n (Reg.DSP_AGE_LUT k j) 15 0)))

/-- R340: waveform w of set t is balanced, and short enough where it is a full one. -/
def waveFits (n : Chip) (t w : Nat) : Bool :=
  let ph := bpWave n t w
  ph.count 1 == ph.count 2 && (decide (w < 2) || decide (ph.length * cfg n Reg.DSP_BP_CFG 7 0 ≤ 500))

/-- R340, R345: settings of the bistable panel. -/
def bpFits (n : Chip) : Bool :=
  let g := cfg n Reg.DSP_BP_CFG
  let w := cfg n Reg.DSP_BP_GEOM 15 0
  within 10 40 (g 7 0) && g 15 8 != 0 && within 1 20 (g 23 16)
    && within 384 1024 w && w % 8 == 0 && within 480 1024 (cfg n Reg.DSP_BP_GEOM 31 16)
    && decide (18330 ≤ cfg n Reg.DSP_BP_PF 31 16)
    && (List.range 6).all (fun b => decide (bpBoundary n b < bpBoundary n (b + 1)))
    && (List.range 8).all (fun t => (List.range 4).all (waveFits n t))

/-- The check of the display region; R336: the initialisation table ends within its bytes. -/
def dspCheck (c n : Chip) : Bool := timingFits n && ageFits c n && bpFits n && (initWrites 257 (initTable n)).2

/-- R308, R322: the settings of load-switch channel k. -/
def lswFits (n : Chip) (k : Nat) : Bool :=
  let g := cfg n (Reg.LSW_CFG k)
  let tp := Reg.LSW_TP_CFG k
  g 1 0 != 3 && !((List.range 8).any (fun o => lockChannel n o k) && g 1 0 != 0)
    && within 1 50 (g 7 2) && within 1 100 (g 14 8) && g 27 20 != 0
    && (!cfgBit n (Reg.LSW_CFG k) 15 || cfgBit n tp 0)
    && (!cfgBit n tp 0 || (within 50 400 (cfg n tp 9 1) && cfg n (Reg.LSW_TP_PER k) 15 0 != 0))

/-- The check of the power die's settings, which are held on the compute die (R38). -/
def pwdCheck (n : Chip) : Bool :=
  (List.range 12).all (lswFits n) && within 10 120 (cfg n Reg.LSW_GRP_CFG 7 0) && within 10 120 (cfg n Reg.LSW_GRP_CFG 15 8)

/-- R32: the consistency check of member m. The service region has no shadowed register. -/
def memberChecks (c : Chip) (m : Nat) : Bool :=
  let n := swapped c
  match m with
  | 0 => supCheck n | 1 => metCheck c n | 2 => outCheck c n | 3 => truCheck n
  | 4 => lnkCheck n | 5 => dspCheck c n | 7 => pwdCheck n | _ => true

/-! ### The poll (R32, R36) -/

/-- R32: an indivisible operation of member m spans the boundary: an XMSS signature, a latched readout, or the commit
of a session context, which waits while its settlement is under way. -/
def atomicNow (c : Chip) (m : Nat) : Bool :=
  match m with
  | 1 => c.acc.latchWait.isSome
  | 3 => c.tru.signNow.isSome
  | _ => false

/-- R32: member m is fenced or in reset; the power die, which has no fence, is so while its link is down (log 65). -/
def memberInReset (c : Chip) (m : Nat) : Bool :=
  if m = 7 then !c.pwd.linkUp else c.sup.fence.getLsbD m

/-- R32: the region of a member. -/
def memberRegion (m : Nat) : Region :=
  match m with
  | 0 => .sup | 1 => .met | 2 => .out | 3 => .tru | 4 => .lnk | 5 => .dsp | _ => .svc

/-- R32: the first cause of member m, in the order POWER, RESET, CHECK, UPDATE, ATOMIC. -/
def pollCause (c : Chip) (contextCommit : Bool) (m : Nat) : Nat :=
  if c.sup.mode == .holdUp then 5
  else if memberInReset c m then 1
  else if !memberChecks c m then 4
  else if (if m = 7 then powerDieUpdating c else regionUpdating c (memberRegion m)) then 2
  else if atomicNow c m || (m == 2 && contextCommit) then 3
  else 0

/-- R32: SUP_CG_REFUSE as a poll leaves it. -/
def pollWord (c : Chip) (contextCommit : Bool) : Word :=
  wordOf (((List.range 8).filter (fun m => c.cg.members.getLsbD m)).foldl
    (fun a m => a + pollCause c contextCommit m * 2 ^ (4 * m)) 0)

/-- R36: the poll at angle 64,512 of cycle t + k − 1. -/
def poll (c : Chip) (contextCommit : Bool) : Chip :=
  if cgActive c && !c.cg.locked && c.tb.cycle + 1 == c.cg.target + c.cg.deferrals then
    let w := pollWord c contextCommit
    let c := { c with cg := { c.cg with refuse := w } }
    if w = 0 then { c with cg := { c.cg with locked := true } }
    else if refusedFor w 4 || refusedFor w 5 then abandonGroup c
    else if c.cg.deferrals < c.cg.maxDefer then
      { c with cg := { c.cg with state := .deferred, deferrals := c.cg.deferrals + 1 } }
    else abandonGroup c
  else c

end Sys2Proof.Machine
end

