-- ==== Sys2Proof/Machine/Boundary.lean ====
section
/-! DEFINITION. Angle 0 (R37, R99, R110, R206): the timebase's cycle, netting and routing, the coincident events, the
per-cycle commit, the swap of a commit group with what it changes in each region, and mode changes; and the dispatch of
bookings (R111). -/

namespace Sys2Proof.Machine

/-! ### The timebase at angle 0 (R99, R104 to R106) -/

/-- R104: the length in 2^-32 s of the cycle that ends: the running frequency's period, longer by the correction (log 59). -/
def cycleLength (c : Chip) (period : Nat) : Nat := ((period : Int) * (65536 + c.tb.corr) / 65536).toNat

/-- R105: the frequency of a synthetic cycle comes 50 mHz nearer to 50.000 Hz. -/
def towards50 (f : Nat) : Nat := if f < 50000 then min 50000 (f + 50) else max 50000 (f - 50)

/-- R108: the frequency in mHz of a period in 2^-16 sample (log 59). -/
def refFreq (per old : Nat) : Nat := if per = 0 then old else 16000 * 1000 * 65536 / per % 2 ^ 20

/-- R104, R105: the error of the cycle that ends, and the correction of the next one. -/
def tracked (t : Timebase) (limit freq : Nat) (err : Option Int) : Timebase :=
  match err with
  | none => { t with corr := 0, errLow := 0, errHigh := 0 }
  | some e =>
    { t with freq := freq, phaseErr := satInt 16 e, corr := pulled limit e,
             errLow := if e.natAbs ≤ 32 then t.errLow + 1 else 0, errHigh := if 2048 < e.natAbs then t.errHigh + 1 else 0 }

/-- R99, R102 to R106: angle 0: the cycle count, the references measured in the cycle that ends, and the frequency and the
correction of the next one: following a reference or beacons, returning to 50 Hz, or held. -/
def tbCycle (c : Chip) : Chip :=
  let err := angleError c
  let t := c.tb
  let t := { t with cycle := if t.known then t.cycle + 1 else t.cycle, angle := 0, frac := 0, into := 0,
                    prim := refCycle c false, alt := refCycle c true }
  let per := if t.follow = .alternate then t.alt.per else t.prim.per
  { c with tb :=
    match t.state with
    | .acquire => tracked t 8192 (refFreq per t.freq) err
    | .locked => tracked t 256 (refFreq per t.freq) err
    | .holdover => { t with held := t.held + 1, corr := 0 }
    | .synth => { t with freq := towards50 t.freq, corr := 0 }
    | .synthFab => let k := pulled 8192 t.phaseErr; { t with corr := k, phaseErr := t.phaseErr - k } }

/-- R263: the crossings of voltage and current at the point of outlet o over the last 8 cycles, and whether the current's
RMS is below 1 A. -/
def outletZeros (c : Chip) (o : Nat) : Chip :=
  match pointOfOutlet c o with
  | none => c
  | some m =>
    let ph := cfg c (Reg.OUT_POW_CFG o) 2 1
    let nv := mpBase c m + ph
    let ni := mpBase c m + voltageCount (mpType c m) + ph
    if mpType c m = 3 ∨ voltageCount (mpType c m) ≤ ph then c
    else
      let more := fun (l : List Nat) (n : Nat) => match zeroAngle c (laneOf c n) with
        | some z => (z :: l).take 8
        | none => l
      let i := (laneOf c ni).cur
      modOutlet c o (fun x => { x with
        vZeros := more x.vZeros nv, iZeros := more x.iZeros ni,
        iSmall := decide ((i.map (·.natAbs ^ 2)).sum * fullScale c ni ^ 2 < i.length * 10 ^ 6 * 2 ^ 60) })

/-! ### The cycle that ends, and the events of billing (R157, R163, R206) -/

/-- Metering runs: its region is up, its accumulators are restored, and no final commit has been made (R171, R174). -/
def metRuns (c : Chip) : Bool := regionReady c .met && c.acc.restored && !c.acc.ended

/-- R203: the duration of the cycle enters ENERGISED_MS (units of 2^-32 ms) of each session credited in it whose
contactors are closed. -/
def countEnergised (dur : Nat) (c : Chip) (mx : Nat × Nat) : Chip :=
  let k := ctxOf c mx.2
  if fbClosed c k.outlet then setCtx c mx.2 { k with energised := k.energised + dur * 1000 } else c

/-- R157 to R163, R190, R203: a cycle, or a part of one (R173), of duration dur is netted and accounted for. -/
def accountPart (dur : Nat) (c : Chip) : Chip :=
  let c := (List.range 8).foldl (accountCycle dur) (netAll dur c)
  c.acc.bound.foldl (countEnergised dur) c

/-- R157, R173: what is left of a cycle of duration dur is netted and accounted for. -/
def endCycle (dur : Nat) (c : Chip) : Chip :=
  let c := accountPart (dur - c.acc.cutDur) c
  { c with acc := { c.acc with cutDur := 0, finalising := true, finCycle := c.tb.cycle, finWall := c.tb.wall } }

/-- R116: the wall clock and the high-water mark after a pending step. -/
def steppedTb (t : Timebase) : Timebase :=
  match t.step with
  | some p =>
    let w := ((t.wall : Int) + p.offset).toNat
    { t with wall := w, hwm := max t.hwm w, valid := true, src := p.src, slewRem := 0, step := none }
  | none => t

/-- R222: the body of STEP. -/
def stepBody (c : Chip) : List Byte :=
  let n := steppedTb c.tb
  beBytes 8 (time16 c.tb.wall) ++ beBytes 8 (time16 n.wall) ++ beBytes 1 n.src.code ++ beBytes 1 0
    ++ beBytes 2 (stepLimit c) ++ beBytes 8 (time16 n.hwm)

/-- R113, R116, R204: a pending step is logged and taken, and LIVE sessions are marked. The class of this module's clock
may change with it (R382). -/
def takeStep (c : Chip) : Chip :=
  if c.tb.step.isNone then c
  else
    let c := legalEntry c tyStep 0xFF (stepBody c) none
    let c := raiseEvt (flagLive { c with tb := steppedTb c.tb, acc := { c.acc with finWall := (steppedTb c.tb).wall } }
      (flagBit 0)) Reg.SUP_TB_EVT 3
    if c.fab.mode = .off then c else chooseRoot c

/-- R36: the group swaps at this angle 0. -/
def swapDue (c : Chip) : Bool := cgActive c && c.cg.locked && c.cg.target + c.cg.deferrals == c.tb.cycle

/-- R194: the swap of this angle 0 changes an interval setting. -/
def intervalsChange (c : Chip) : Bool :=
  swapDue c && (changes c (swapped c) Reg.TAR_DEM_CFG || changes c (swapped c) Reg.TAR_BILL_CFG)

/-- R192, R194, R206: what closes intervals at this angle 0; a switch is judged by the billing time that follows the
step. -/
def closesNow (c : Chip) (brownOut : Bool) : Closes :=
  let b := billTime { c with tb := steppedTb c.tb }
  { step := c.tb.step.isSome, split := (rateOf (nextCalendar c b) b).rate != c.tar.rateAt.rate,
    cfg := !brownOut && intervalsChange c }

/-- R206: events 1 to 3 with the step between 2 and 3; natural boundaries are those that billing time crosses before the
step. -/
def coincident (c : Chip) (k : Closes) : Chip :=
  let b0 := c.tar.lastB
  let b := billTime c
  let c := mdEvent (billingEvent (takeFree (demandEvent c k b0 b)) k b0 b)
  let c := takeStep c
  tariffEvent c (billTime c)

/-- R396: updates of the live sessions to their holders. -/
def updatePeers (c : Chip) : Chip :=
  ((c.sess.ctxs.filter (fun e => e.2.bstate == .live || e.2.bstate == .settling)).map (·.1)).foldl sendUpdates c

/-- R172, R173: event 4: the per-cycle commit, or the merged slot of a brown-out at this angle 0; after every second one
the holders of replicas are told (R396). -/
def commitCycle (c : Chip) (stepped brownOut : Bool) : Chip :=
  let sl := buildSlot c (if brownOut then 2 else 0) 0 stepped
  let c := dispatchSlot c (if brownOut then { sl with noHold := false } else sl)
  let odd := !c.repl.odd
  let c := { c with repl := { c.repl with odd := odd } }
  if odd then c else updatePeers c

/-- R164, R203: a session whose first credited cycle starts here. -/
def startWalls (c : Chip) : Chip :=
  { c with sess := { c.sess with ctxs := c.sess.ctxs.map (fun (x, k) =>
    if (k.bstate = .live ∨ k.bstate = .settling) ∧ k.startCycle = c.tb.cycle then
      (x, { k with startWall := time16 c.tb.wall }) else (x, k)) } }

/-- R206, R198, R164: the metering side of angle 0 up to the settlements; bindings made in the cycle that ended hold from
here on. -/
def billAngleZero (dur : Nat) (c : Chip) (brownOut : Bool) : Chip :=
  if metRuns c then
    let c := endCycle dur c
    let k := closesNow c brownOut
    let b0 := c.tar.lastB
    let b := billTime c
    let c := commitCycle (coincident c k) k.step brownOut
    let c := openIntervals c k b0 b
    let c := settleAll (endSessions (startWalls { c with tar := { c.tar with lastB := billTime c } }))
    { c with acc := { c.acc with bound := c.acc.boundNext } }
  else takeStep c

/-! ### What a swap changes (R37, R127, R134, R146, R328) -/

/-- R222: the eight calibration words of lane l. -/
def calWords (c : Chip) (l : Nat) : List Byte :=
  [Reg.MET_LANE_CFG l, Reg.MET_LANE_GAIN l, Reg.MET_LANE_OFS1 l, Reg.MET_LANE_OFS16 l, Reg.MET_LANE_PHASE l,
   Reg.MET_LANE_GRATIO l, Reg.MET_LANE_D16 l, Reg.MET_QE_FS l].flatMap (fun a => beBytes 4 (liveGet c a).toNat)

/-- R146, R218: the accepted calibration change of lane l is logged, and the lane counts as recalibrated. -/
def logCalib (old : Chip) (c : Chip) (l : Nat) : Chip :=
  if laneCalMoves old c l then
    let c := legalEntry c tyCalib ((pointOfLane c l).getD 0xFF)
      (beBytes 1 l ++ beBytes 1 0 ++ beBytes 2 (laneOf c l).id1 ++ calWords old l ++ calWords c l) none
    if c.leg.sealOpen && !c.leg.recalLanes.contains l then
      { c with leg := { c.leg with recalLanes := l :: c.leg.recalLanes } } else c
  else c

/-- R222: PCFG of point m. -/
def logPcfg (old : Chip) (c : Chip) (m : Nat) : Chip :=
  let a := Reg.MET_QE_PCFG m
  if changes old c a then
    legalEntry c tyPcfg m (beBytes 4 (liveGet old a).toNat ++ beBytes 4 (liveGet c a).toNat) none
  else c

/-- R134: the range that the settings force a running lane to: a voltage lane has the single stage. -/
def wantedRange (c : Chip) (n : Nat) : Bool :=
  if !currentLane c n then false
  else if cfg c (Reg.MET_LANE_CFG n) 1 0 = 2 then true
  else if cfg c (Reg.MET_LANE_CFG n) 1 0 = 1 then false
  else (laneOf c n).range16

/-- R134, R145: a running lane takes the range it is forced to. -/
def forceRange (c : Chip) (n : Nat) : Chip :=
  let k := laneOf c n
  let want := wantedRange c n
  if k.state = .run ∧ want ≠ k.range16 then
    let c := calSwitched (setLane c n { k with swCnt := (k.swCnt + 1) % 2 ^ 32, quiet := 0 }) n
    sendGain (raiseEvt c (Reg.MET_LANE_EVT n) (if want then 4 else 5)) n want
  else c

/-- The metering region after a swap. -/
def metSwapped (old c : Chip) : Chip :=
  let c := (List.range 64).foldl (logCalib old) c
  let c := (List.range 8).foldl (logPcfg old) c
  (List.range 64).foldl forceRange (assignLanes c (pointState old))

/-- R328: the timing of the display changes. -/
def timingMoves (old c : Chip) : Bool :=
  changes old c Reg.DSP_HTIME || changes old c Reg.DSP_VTIME || changes old c Reg.DSP_DSI_CFG

/-- R327, R328: the display region after a swap: the settings in force stay until the next frame start, or a change of
timing stops the video for two frames. -/
def dspSwapped (old c : Chip) : Chip :=
  if videoOn c.dsp then
    if timingMoves old c then bookDisplay (modDsp c (fun d => { d with stopFrames := 2, held := none }))
    else if c.dsp.held.isSome then c
    else bookDisplay (modDsp c (fun d => { d with held := some old.live }))
  else c

/-- R379, R400: the link region after a swap; what its LSA carries is told again. -/
def lnkSwapped (old c : Chip) : Chip :=
  if cfgBit old Reg.FAB_CFG 0 != cfgBit c Reg.FAB_CFG 0 then enChanged c
  else if c.fab.mode != .off
      && [Reg.FAB_CFG, Reg.FAB_SITE_IMP, Reg.FAB_SITE_EXP, Reg.FAB_SITE_VER, Reg.FAB_MOD_CFG].any (changes old c) then
    followMilliner (floodLsa c)
  else c

/-- R37: a commit-locked group swaps, or ends for POWER once a brown-out has been detected; the regions of its members
take their new settings. -/
def swapAngleZero (c : Chip) (brownOut : Bool) : Chip :=
  if brownOut || c.sup.mode == .holdUp then abandonForPower c
  else if swapDue c then
    let mem := c.cg.members
    let n := swapGroup c
    let n := if mem.getLsbD 1 then metSwapped c n else n
    let n := if mem.getLsbD 5 then dspSwapped c n else n
    let n := if mem.getLsbD 4 then lnkSwapped c n else n
    if mem.getLsbD 2 || mem.getLsbD 1 then updateIlims n else n
  else c

/-! ### Points disabled and enabled (R70, R71) -/

/-- R70, R71: points named for this angle 0 go OFF or start training, each with its POINT_STATE entry. -/
def pointsAngleZero (c : Chip) : Chip :=
  let offs := c.sup.pointsOff
  let ons := c.sup.pointsOn.filter (fun m => !offs.contains m)
  let olds := offs.map (fun m => (m, pointState c m))
  let was := pointState c
  let c := assignLanes { c with sup := { c.sup with
    pointsOff := [], pointsOn := c.sup.pointsOn.filter (fun m => offs.contains m),
    draining := offs.foldl (fun v m => setBitV v (8 + m) false) c.sup.draining } } was
  let c := olds.foldl (fun c e => pointStateEntry c e.1 e.2 (pointState c e.1) 1 0xFF) c
  ons.foldl (fun c m => pointStateEntry c m 0 (pointState c m) 2 0xFF) c

/-- R190, R195: intervals of a point enabled at this angle 0 open at it. -/
def openEnabled (c : Chip) : Chip :=
  if metRuns c then openIntervals c { step := false, split := false, cfg := false } c.tar.lastB c.tar.lastB else c

/-! ### Bookings at their instants (R111) -/

/-- R262: a coil command given at its booked instant is timed to the change of FBn. -/
def timedCoil (c : Chip) (o : Nat) : Chip := modOutlet c o (fun x => { x with timing := true })

/-- R109, R111, R262: the effect of a booking. -/
def fireBooking (c : Chip) (b : Booking) : Chip :=
  match b.kind with
  | .coilClose o => timedCoil (commandClose c o.val) o.val
  | .coilOpen o => timedCoil (releaseForOpening c o.val) o.val
  | .testPulse n => startPulse c n.val
  | .displayStart => frameStart c
  | .allocRound => runRound c
  | .marker req =>
    complete c req { ansOk with result := leBytes 6 b.cycle ++ leBytes 2 b.angle ++ leBytes 8 (wall16 c) }

/-- R109: a booking that has fired leaves the table, a periodic one names its next cycle. -/
def afterFire (b : Booking) : Option Booking := if b.period = 0 then none else some { b with cycle := b.cycle + b.period }

/-- R111: the bookings of an instant and of some classes, in the order of their classes. -/
def dueBookings (c : Chip) (angle : Nat) (classes : List Nat) : List Booking :=
  classes.flatMap (fun k => c.tb.sched.filter (fun b => b.cycle == c.tb.cycle && b.angle == angle && b.kind.cls == k))

/-- R111: they are dispatched. -/
def fireAt (c : Chip) (angle : Nat) (classes : List Nat) : Chip :=
  let due := dueBookings c angle classes
  due.foldl fireBooking
    { c with tb := { c.tb with sched := c.tb.sched.filterMap (fun b => if due.contains b then afterFire b else some b) } }

/-- R98, R111: the accumulator runs up to an angle of the running cycle; bookings on the way fire at theirs, of every class
but those of the boundary. `fuel` bounds the angles. -/
def fireThrough : Nat → Chip → Nat → Chip
  | 0, c, _ => c
  | fuel + 1, c, angle =>
    match (anglesAhead c).filter (fun a => decide (a ≤ angle)) with
    | [] => { c with tb := { c.tb with angle := max c.tb.angle angle } }
    | a :: rest =>
      let next := rest.foldl min a
      fireThrough fuel (fireAt { c with tb := { c.tb with angle := next, frac := 0 } } next [1, 2, 6, 7, 8]) angle

/-- R98: the instant (angle, fraction), `since` angle 0 in 2^-32 s: no angle is passed over, and none comes again. -/
def reachInstant (c : Chip) (angle frac since : Nat) : Chip :=
  let c := runTo c since
  if angle < c.tb.angle then c
  else
    let c := fireThrough 65536 c (min angle 65535)
    { c with tb := { c.tb with frac := if c.tb.angle = angle then max c.tb.frac (frac % 65536) else c.tb.frac } }

/-- SCHED_FIRE (R98, R109, R111): the timebase reaches an angle of the present cycle. -/
def execSchedFire (angle since : Nat) (s : State) : Host.Outcome State Fault Refusal :=
  onChip s fun c => if dieRuns c then reachInstant c angle 0 since else c

/-- R108: cycle, angle and wall time latched together. -/
def tbLatch (c : Chip) : Chip :=
  let c := regPut c Reg.SUP_TB_CYC_LO (loWord c.tb.cycle)
  let c := regPut c Reg.SUP_TB_CYC_HI (wordOf (c.tb.cycle / 2 ^ 32 % 65536))
  let c := regPut c Reg.SUP_TB_ANGLE (wordOf (place 16 (c.tb.angle % 65536) + c.tb.frac % 65536))
  let c := regPut c Reg.SUP_WALL_SEC_LO (loWord (c.tb.wall / 2 ^ 32))
  let c := regPut c Reg.SUP_WALL_SEC_HI (wordOf (c.tb.wall / 2 ^ 64 % 65536))
  regPut c Reg.SUP_WALL_FRAC (loWord c.tb.wall)

/-- TB_LATCH (R108): the instant is (angle, fraction), `since` angle 0 in 2^-32 s. -/
def execTbLatch (angle fraction since : Nat) (s : State) : Host.Outcome State Fault Refusal :=
  onChip s fun c => reach (reachInstant c angle fraction since) Reg.SUP_TB_LATCH tbLatch

/-- CG_POLL (R32, R36, R38): angle 64,512; `contextCommit` says that the write of a session context to the MRAM is under
way, which the model does not hold. -/
def execCgPoll (contextCommit : Bool) (s : State) : Host.Outcome State Fault Refusal :=
  onChip s fun c => poll (reachInstant c 64512 0 0) contextCommit

/-! ### The commits of Hold-up (R173, R174) -/

/-- R173: the cycle in progress is cut at an instant. -/
def cutCycle (c : Chip) (angle since : Nat) : Chip :=
  let c := reachInstant c angle 0 since
  let c := accountPart (since - c.acc.cutDur) c
  { c with acc := { c.acc with cutDur := max c.acc.cutDur since } }

/-- LAST_GASP_COMMIT (R173): in Hold-up, for a brown-out at an angle above 0, `since` angle 0 in 2^-32 s. -/
def execLastGaspCommit (angle since : Nat) (s : State) : Host.Outcome State Fault Refusal :=
  onChip s fun c =>
    if c.sup.mode = .holdUp ∧ 0 < angle ∧ c.acc.ended = false then
      let c := cutCycle c angle since
      dispatchSlot c (buildSlot c 1 angle false)
    else c

/-- R174: the voltage RMS of the cycle last netted was below 5 % of FS, on every phase of the point. -/
def voltsGone (c : Chip) (m : Nat) : Bool :=
  let low := fun (row n : Nat) =>
    decide ((unsgn 32 (regGet c (Reg.MET_QE_INST m row 0)).toNat).natAbs * 20 < fullScale c n)
  let b := mpBase c m
  if mpType c m = 1 then low 0 b && low 1 (b + 1) && low 2 (b + 2)
  else if mpType c m = 2 then low 0 b
  else low 3 b

/-- R174: the final commit is due. -/
def finalDue (c : Chip) : Bool :=
  decide (c.pwd.budget < 1000)
    || ((List.range 8).filter (pointEnabled c)).all (fun m => pointState c m == 5 || voltsGone c m)

/-- FINAL_COMMIT (R174): at an angle, `since` angle 0 in 2^-32 s. -/
def execFinalCommit (angle since : Nat) (s : State) : Host.Outcome State Fault Refusal :=
  onChip s fun c =>
    if c.sup.mode = .holdUp ∧ c.acc.ended = false ∧ finalDue c = true then
      let c := cutCycle c angle since
      let c := dispatchSlot c (buildSlot c 3 angle false)
      { c with acc := { c.acc with ended := true } }
    else c

/-! ### Angle 0 -/

/-- R263: the crossings of every AC outlet. -/
def zerosAngleZero (c : Chip) : Chip := (List.range 8).foldl (fun c o => if isAc c o then outletZeros c o else c) c

/-- R44, R257: sessions held back, by Activation-pause for one, start when they can. -/
def retryOutlets (c : Chip) : Chip :=
  if c.sup.mode = .holdUp then c else (List.finRange 8).foldl (fun c o => tryClose (tryStart c o) o) c

/-- ANGLE_ZERO (R37, R98, R99, R110, R111, R206): what is still booked in the cycle that ends fires, then the boundary, the
classes of R111 in their order. `period` is the time in 2^-32 s that the cycle takes at the running frequency before its
correction; `brownOut` says that a brown-out is detected at this angle 0. Nothing runs while the compute die does not. -/
def execAngleZero (period : Nat) (brownOut : Bool) (s : State) : Host.Outcome State Fault Refusal :=
  onChip s fun c =>
    if dieRuns c then
      let dur := cycleLength c period
      let c := runTo (fireThrough 65536 c 65535) dur
      let c := fireAt (rebook (tbCycle (zerosAngleZero c))) 0 [1, 2]
      let c := swapAngleZero (billAngleZero dur c brownOut) brownOut
      let c := if brownOut then c else applyModeReq (updAngleZero (fireAt c 0 [6, 7, 8]))
      retryOutlets (calCycle (laneCycles (openEnabled (pointsAngleZero c))))
    else c

end Sys2Proof.Machine
end

