-- ==== Sys2Proof/Machine/Views.lean ====
section
/-! DEFINITION. What a read of each register returns (R7, R8, R10, R16, R26): configuration, event and measured
words are words of the register file; the read-only registers show the state of their block. A read without a
side effect is no command of the table; the registers whose read has one (R143, R210, R235, R400) have rows of
their own. -/

namespace Sys2Proof.Machine

/-- Word i of a string of bytes: bytes 4i to 4i + 3, little-endian (R9). -/
def byteWord (bs : List Byte) (i : Nat) : Nat := leNat ((bs.drop (4 * i)).take 4)

/-- R235, R431: word i of a string of bytes, the lowest-numbered byte in [31:24]. -/
def bigWord (bs : List Byte) (i : Nat) : Nat := beNat ((bs.drop (4 * i)).take 4)

/-- A row of flags from bit b upwards. -/
def flagsFrom (b : Nat) : List Bool → Nat
  | [] => 0
  | v :: vs => placeBit b v + flagsFrom (b + 1) vs

/-! ### Supervisor frames -/

/-- R43: SUP_NS_STATUS; DONE and TOTAL are counts of 8 bits, which a longer sequence wraps (log 71). -/
def nsStatusView (c : Chip) : Nat :=
  let head := placeBit 0 c.ns.active.isSome + placeBit 1 c.ns.queued.isSome + place 24 c.ns.result
  match c.ns.active with
  | some q => head + place 2 (if 0 < q.safeLeft then 1 else 2) + place 8 (q.done % 256) + place 16 (q.total % 256)
  | none => head + place 8 (c.ns.lastDone % 256) + place 16 (c.ns.lastTotal % 256)

/-- R46: SUP_MODE; in mode Reset it shows the Bring-up that its end begins, as its reset value does. -/
def modeView (c : Chip) : Nat :=
  if c.sup.mode = .reset then 0x23
  else c.sup.mode.code + place 4 c.sup.prevMode.code + place 8 (c.sup.modeCause % 256)

/-- R28 to R93: the read-only registers of the supervisor's first frame. -/
def supView (c : Chip) : Nat → Nat
  | 0x8000 => 0x08800300
  | 0x8004 => c.sup.ready.toNat
  | 0x801C => c.cg.state.code + place 3 (c.cg.deferrals % 16) + place 8 (c.cg.src % 4)
  | 0x8020 => c.cg.refuse.toNat
  | 0x8024 => c.cg.doneCycle % 2 ^ 32
  | 0x8028 => c.cg.doneCycle / 2 ^ 32 % 2 ^ 16
  | 0x8030 => nsStatusView c
  | 0x8034 => c.sup.fence.toNat
  | 0x8038 => modeView c
  | 0x8050 => c.sup.draining.toNat + placeBit 31 c.sup.mpRefused
  | 0x8054 => c.sup.lcs.code
  | 0x8058 => c.pwd.rails % 512
  | 0x805C => c.pwd.supTemp % 256
  | _ => 0

/-- R108: the remaining slew in ms, saturating at ±32,767; a part of a ms goes towards minus infinity (log 60). -/
def slewMs (c : Chip) : Nat :=
  let v := c.tb.slewRem * 1000 / 2 ^ 32
  sgn 16 (if v < -32767 then -32767 else if 32767 < v then 32767 else v)

/-- R108: the read-only registers of the timebase frame that are not latched words. -/
def tbView (c : Chip) (a : Nat) : Nat :=
  match a % 0x10000 with
  | 0x8000 => c.tb.state.code + place 3 c.tb.follow.code + place 16 (sgn 16 c.tb.phaseErr)
  | 0x8004 => c.tb.freq % 2 ^ 20
  | 0x8024 => placeBit 0 c.tb.valid + place 1 c.tb.src.code + placeBit 4 (c.tb.slewRem != 0)
      + placeBit 5 (decide (c.tb.wall < c.tb.hwm)) + placeBit 6 c.tb.step.isSome + place 16 (slewMs c)
  | 0x8028 => c.tb.hwm / 2 ^ 32 % 2 ^ 32
  | 0x802C => c.tb.hwm / 2 ^ 64 % 2 ^ 16
  | 0x8034 => sat 255 c.tb.sched.length + place 8 (sat 255 c.tb.schedHigh) + place 16 (sat 255 c.tb.schedRefused)
  | _ => (regGet c a).toNat

/-- R459, R470: the source stands in ACTIVE or QUIET; in PERMANENT or RETIRED. -/
def srcActive (c : Chip) (s : Nat) : Bool := (srcOf c s).state == .active || (srcOf c s).state == .quiet
def srcPerm (c : Chip) (s : Nat) : Bool := (srcOf c s).state == .permanent || (srcOf c s).state == .retired

/-- R470: FLT_SRC_STATUS of source s. -/
def srcView (c : Chip) (s : Nat) : Nat :=
  let x := srcOf c s
  x.state.code + placeBit 3 (classS c s) + place 4 (x.level % 8) + placeBit 7 x.forced + place 8 (sat 255 x.recov)
    + place 16 (sat 15 (occurrences c x))

/-- R466: a source routed to the pin stands outside OK. -/
def pinSource (c : Chip) (s : Nat) : Bool := cfgBit c (Reg.FLT_SRC_CFG s) 3 && (srcOf c s).state != .ok

/-- R466: the ALIVE pin is held low. -/
def aliveStopped (c : Chip) : Bool :=
  c.sup.mode == .off || c.sup.mode == .reset || c.sup.mode == .deepStandby || !c.flt.restored
    || (List.range 152).any (pinSource c)

/-- R462, R470: the read-only registers of the collector; they read 0 before the store is restored. -/
def fltView (c : Chip) (a : Nat) : Nat :=
  let o := a % 0x10000
  if !c.flt.restored then 0
  else if o = 0x8000 then
    ((List.range 512).filter (srcActive c)).length + place 16 ((List.range 512).filter (srcPerm c)).length
      + placeBit 29 (c.sup.mode == .factoryTest) + placeBit 30 c.flt.storeOk
      + placeBit 31 (aliveStopped c)
  else if 0x8020 ≤ o ∧ o < 0x8060 then
    flagsFrom 0 ((List.range 32).map (fun b => srcActive c (32 * ((o - 0x8020) / 4) + b)))
  else if 0x8060 ≤ o ∧ o < 0x80A0 then
    flagsFrom 0 ((List.range 32).map (fun b => srcPerm c (32 * ((o - 0x8060) / 4) + b)))
  else if 0x8400 ≤ o then srcView c ((o - 0x8400) / 4)
  else (regGet c a).toNat

/-- The lowest SEQ held; 0 with no record. -/
def bltOldest (c : Chip) : Nat :=
  match c.blt.slots with
  | [] => 0
  | (_, r) :: t => t.foldl (fun m e => min m e.2.seq) r.seq

/-- R477: the read-only registers of Blotter; they read 0 until the restore. -/
def bltView (c : Chip) (a : Nat) : Nat :=
  let o := a % 0x10000
  if !c.blt.ready then 0
  else if o = 0x8000 then
    sat 65536 c.blt.slots.length + placeBit 17 (decide (65536 ≤ c.blt.slots.length)) + placeBit 18 c.blt.ready
      + place 24 (sat 255 c.blt.queue.length)
  else if o = 0x8004 then c.blt.nextSeq % 2 ^ 32
  else if o = 0x8008 then c.blt.nextSeq / 2 ^ 32 % 2 ^ 16
  else if o = 0x800C then c.blt.drop % 2 ^ 32
  else if o = 0x801C then
    c.blt.window.length % 16 + placeBit 4 c.blt.winBusy + placeBit 5 c.blt.winStale + placeBit 6 c.blt.winEnd
  else if 0x8020 ≤ o ∧ o < 0x8040 then (c.blt.slots.filter (fun e => e.2.sev == (o - 0x8020) / 4)).length
  else if o = 0x8044 then bltOldest c % 2 ^ 32
  else if o = 0x8048 then bltOldest c / 2 ^ 32 % 2 ^ 16
  else if 0x8100 ≤ o then if c.blt.winBusy then 0 else byteWord (c.blt.window.flatMap BltRec.bytes) ((o - 0x8100) / 4)
  else 0

/-- R68: the wipe engine. -/
def wipeView (c : Chip) (o : Nat) : Nat :=
  if o = 0x8000 then
    placeBit 0 c.wipe.sramBusy + placeBit 1 c.wipe.dramBusy + placeBit 2 c.wipe.mramBusy + place 4 c.wipe.epoch.code
      + place 8 (c.wipe.progress % 256)
  else c.wipe.sramTime % 256 + place 8 (c.wipe.dramTime % 256) + place 16 (c.wipe.mramTime % 65536)

/-- R454: the version of the image of stage k now selected; the legal partition's is the one loaded. -/
def partVersion (c : Chip) (k : Nat) : Nat :=
  match tfind c.upd.banks (bankKey c k true) with
  | some b => b.entry.version.toNat
  | none =>
    if k = 0 then Config.romVersion.toNat
    else if k = 3 then (match c.leg.loaded with | some (v, _) => v.toNat | none => 0)
    else 0

/-- R454: UPD_STATUS. -/
def updStatusView (c : Chip) : Nat :=
  c.upd.state.code + place 4 (sourceCode c)
    + placeBit 6 (match c.upd.manifest with | some m => m.priv | none => false)
    + placeBit 7 c.upd.restartDue + place 8 c.upd.journal.code + place 12 (c.upd.starts % 16)
    + place 16 (c.upd.cause % 256)

/-- R454: stage k is named by the manifest. -/
def updNames (c : Chip) (k : Nat) : Bool :=
  match c.upd.manifest with | some m => m.entries.any (fun e => e.part == k) | none => false

/-- R454: the read-only registers of the update engine. -/
def updView (c : Chip) (o : Nat) : Nat :=
  if o = 0x8000 then updStatusView c
  else if o = 0x8004 then manifestId c % 2 ^ 32
  else if o = 0x8008 then manifestId c / 2 ^ 32 % 2 ^ 32
  else if o = 0x800C then c.upd.chunks.length % 128 + place 16 (chunkTotal c % 128)
  else if o < 0x8020 then
    flagsFrom 0 ((List.range 32).map (fun b => (tfind c.upd.chunks (32 * ((o - 0x8010) / 4) + b)).isSome))
  else if o = 0x8020 then confirmLeft c
  else if o = 0x8024 then flagsFrom 0 ((List.range 9).map (updNames c)) + place 16 c.upd.bankB.toNat
  else if o < 0x804C then partVersion c ((o - 0x8028) / 4)
  else 0

/-! ### Metering region -/

/-- R143: the read-only registers of lane n. -/
def laneView (c : Chip) (n o : Nat) : Nat :=
  let l := laneOf c n
  match o with
  | 0x00 => l.state.code + placeBit 3 l.range16 + place 4 (l.cause % 16) + place 8 (l.eye % 256)
  | 0x04 => sat 65535 l.cv
  | 0x0C => l.swCnt % 2 ^ 32
  | 0x10 => l.peak % 2 ^ 32
  | 0x14 => l.id0 % 65536 + place 16 (l.id1 % 65536)
  | 0x18 => l.subst % 2 ^ 32
  | _ => 0

/-- R145: MET_MP_STATUS of point m. -/
def pointView (c : Chip) (m : Nat) : Nat :=
  pointState c m + placeBit 8 (ptOf c m).substCyc + placeBit 9 (ptOf c m).ovrCyc + placeBit 10 c.met.fallback

/-- R145: MET_CAL_STATUS. -/
def calView (c : Chip) : Nat :=
  let k := c.met.cal
  flagsFrom 0 [k.busy, k.done, k.switched, k.subst, k.aborted] + place 16 (k.cycDone % 65536)

/-- R177: the registers of the quantity engine that are not measured words. -/
def qeView (c : Chip) (a : Nat) : Nat :=
  let o := a % 0x10000
  if 0x8400 ≤ o ∧ o < 0x8480 then
    let p := ptOf c ((o - 0x8400) / 0x10)
    if o % 0x10 = 0 then p.cntSubst % 2 ^ 32 else if o % 0x10 = 4 then p.cntOvr % 2 ^ 32 else p.cntFb % 2 ^ 32
  else if o = 0x8508 then c.met.dtCorr % 2 ^ 32
  else (regGet c a).toNat

/-- R179: the accumulator block and its readout window. -/
def accView (c : Chip) (o : Nat) : Nat :=
  let w := c.acc.window
  if o = 0x8004 then
    flagsFrom 0 [w.valid, c.acc.latchWait.isSome, w.empty, w.replica] + place 8 (w.index % 256) + place 16 (w.target % 2)
  else if o = 0x8008 then w.cycle % 2 ^ 32
  else if o = 0x800C then w.cycle / 2 ^ 32 % 2 ^ 16
  else if o = 0x8010 then
    c.acc.lastSlot % 64 + place 8 (c.acc.lastKind % 4) + placeBit 10 c.acc.lastNoHold + placeBit 11 c.acc.lastFallback
  else if o = 0x8014 then c.acc.lastSeq % 2 ^ 32
  else if o = 0x8018 then c.acc.lastSeq / 2 ^ 32 % 2 ^ 32
  else if o = 0x801C then sat 65535 c.acc.lastUs + place 16 (sat 65535 c.acc.maxUs)
  else if o < 0x8040 then
    (match tfind c.acc.boundNext ((o - 0x8020) / 4) with
     | some x => x % 256 + placeBit 8 ((ctxOf c x).bstate == .live)
     | none => 0)
  else
    let r := w.readings.getD ((o - 0x8100) / 0x10) 0
    if o % 0x10 = 0 then r / 2 ^ 32 % 2 ^ 32
    else if o % 0x10 = 4 then r / 2 ^ 64 % 2 ^ 32
    else if o % 0x10 = 8 then r % 2 ^ 32
    else w.legacy.getD ((o - 0x8100) / 0x10) 0

/-- R210: TAR_STATUS. -/
def tarStatusView (c : Chip) : Nat :=
  let r := c.tar.rateAt
  r.rate % 32 + place 8 (r.season % 16) + place 12 (r.week % 16) + place 16 (r.day % 32) + placeBit 21 r.special
    + placeBit 22 c.tar.active.isNone + placeBit 23 (decide (c.tb.wall < c.tb.hwm))

/-- R210: TAR_CTX_STATUS of the selected context; a FREE context has no point. -/
def ctxView (c : Chip) : Nat :=
  let k := ctxOf c (imm c Reg.TAR_CTX_SEL 7 0)
  if k.bstate = .free then place 8 0xFF
  else k.bstate.code + place 8 (k.point % 256) + place 16 (k.ptable % 16) + place 24 (k.flags.toNat % 256)

/-- R210: the selected point and direction of the demand registers. -/
def mdPoint (c : Chip) : Nat := imm c Reg.TAR_MD_SEL 2 0
def mdDir (c : Chip) : Nat := imm c Reg.TAR_MD_SEL 8 8

/-- R210: the tariff frame; the addressed words of the passive calendar and of the staging table among them. -/
def tarView (c : Chip) (a : Nat) : Nat :=
  let o := a % 0x10000
  if o = 0x8000 then tarStatusView c
  else if o = 0x8004 then (match c.tar.active with | some ws => (ws.getD 0 0#32).toNat | none => 0)
  else if o = 0x800C then (tblRead c).toNat
  else if o = 0x8014 then c.tar.pasState.code + place 8 (c.tar.pasCause % 16)
  else if o = 0x8018 then c.tar.pasAt % 2 ^ 32
  else if o = 0x801C then c.tar.pasAt / 2 ^ 32 % 2 ^ 16
  else if o = 0x8024 then (tget 0#32 c.tar.staging (imm c Reg.TAR_PRICE_ADDR 5 0)).toNat
  else if o = 0x8028 then place 16 (flagsFrom 0 ((List.range 16).map (fun t => (tfind c.tar.prices t).isSome)))
  else if o = 0x8030 then c.tar.mdPending.toNat
  else if o = 0x8038 then ctxView c
  else if 0x8100 ≤ o ∧ o < 0x8188 then
    let v := tget (0, 0) c.tar.md (34 * mdPoint c + 17 * mdDir c + (o - 0x8100) / 8)
    if o % 8 = 0 then v.1 % 2 ^ 32 else v.2 % 2 ^ 32
  else if o = 0x8188 then (tget (0, 0, 0) c.tar.lastDem (2 * mdPoint c + mdDir c)).1 % 2 ^ 32
  else if o = 0x818C then
    let v := tget (0, 0, 0) c.tar.lastDem (2 * mdPoint c + mdDir c)
    v.2.1 % 65536 + place 16 (v.2.2 % 32)
  else (regGet c a).toNat

/-- R235: the legal core's publication. -/
def legView (c : Chip) (a : Nat) : Nat :=
  let o := a % 0x10000
  let l := c.leg
  if o = 0x8000 then
    flagsFrom 0 [l.running, l.sealOpen, logFull c, logHardFull c, l.dispFault, l.bootstrap] + place 8 l.uncal.toNat
      + place 16 (sat 255 (l.log.filter (fun e => e.2.whole && !e.2.signed)).length)
  else if o = 0x8004 then (match l.loaded with | some (v, _) => v.toNat | none => 0)
  else if o < 0x8018 then (match l.loaded with | some (_, d) => bigWord (id32 d) ((o - 0x8008) / 4) | none => 0)
  else if o = 0x8018 then sat 65535 l.sealCnt
  else if o = 0x8020 then l.nextSeq % 2 ^ 32
  else if o = 0x8024 then l.nextSeq / 2 ^ 32 % 2 ^ 32
  else if o = 0x8028 then l.ack % 2 ^ 32
  else if o = 0x802C then l.ack / 2 ^ 32 % 2 ^ 32
  else if o = 0x8030 then l.signedSeq % 2 ^ 32
  else if o = 0x8034 then l.signedSeq / 2 ^ 32 % 2 ^ 32
  else if o = 0x8038 then unacked c
  else if o = 0x803C then l.lost % 2 ^ 32
  else if 0x8060 ≤ o then bigWord (id32 l.chain) ((o - 0x8060) / 4)
  else (regGet c a).toNat

/-! ### Outlet region -/

/-- A learned time in 10 µs units; 0 not learned (R268). -/
def learned (c : Chip) (place : Nat) (l : List Nat) : Nat :=
  if l.isEmpty then 0 else sat 65535 (roundOpenNat c place l.sum (10 * l.length))

/-- R268: the read-only registers of outlet n. -/
def outView (c : Chip) (n o : Nat) : Nat :=
  let x := outletOf c n
  match o with
  | 0x8000 =>
    x.state.code + place 4 x.cp.code + placeBit 7 x.pwm + place 8 x.pp.code + place 11 x.lock.code + place 13 x.hlc.code
      + placeBit 16 (fbClosed c n) + placeBit 17 (c.saf.permit.getLsbD n) + placeBit 18 (immBit c Reg.NIB_STATUS n)
      + placeBit 19 x.ctx.isSome + place 24 (match x.ctx with | some k => k % 256 | none => 0)
  | 0x8004 => sgn 16 x.vpos + place 16 (sgn 16 x.vneg)
  | 0x8008 => sat 65535 x.ohm + place 16 (x.capA % 256)
  | 0x800C => x.duty % 1024 + place 16 (x.ilim % 65536)
  | 0x8010 => learned c (9000 + n) x.tClose + place 16 (learned c (9010 + n) x.tOpen)
  | _ => 0

/-- R269: the error state of a controller; the limits of error passive are those of CAN (PRESUMED, log 40). -/
def canState (b : CanBus) : Nat := if b.busOff then 2 else if 127 < b.txErr ∨ 127 < b.rxErr then 1 else 0

/-- R269: the read-only registers of a CAN controller. -/
def canView (c : Chip) (bus o : Nat) : Nat :=
  let pres := fun (lo : Nat) => flagsFrom 0 ((List.range 32).map (fun k => (moduleOf c bus (lo + k)).present))
  match o with
  | 0x0 => sat 255 (busOf c bus).txErr + place 8 (sat 255 (busOf c bus).rxErr) + place 16 (canState (busOf c bus))
  | 0x4 => pres 0
  | 0x8 => pres 32
  | _ => 0

/-- R269: OUT_CTX_CNT. -/
def ctxCntView (c : Chip) : Nat :=
  (256 - (c.sess.ctxs.filter (fun e => e.2.bstate != .free)).length) + place 16 ((ctxsIn c .live).length % 16)
    + place 20 ((ctxsIn c .replica).length % 512)

/-- R299: the safety processor's registers. -/
def safView (c : Chip) (o : Nat) : Nat :=
  let n := (o - 0x8100) / 0x10
  if o = 0x8000 then
    c.saf.permit.toNat + place 8 (imm c Reg.NIB_STATUS 7 0) + place 16 c.saf.retired.toNat + placeBit 24 c.saf.nibOk
      + placeBit 25 c.saf.lockstepOk + place 28 (imm c Reg.NIB_SEAL 17 16)
  else if o = 0x8004 then
    c.saf.lastOutlet % 8 + placeBit 3 c.saf.lastAll + place 4 (c.saf.lastSf % 8) + place 8 (c.saf.lastChannel % 4)
      + place 16 (c.saf.trips % 65536)
  else if o % 0x10 = 0 then sgn 32 (tget 0 c.saf.rcDc n)
  else if o % 0x10 = 4 then tget 0 c.saf.rcAc n % 2 ^ 32
  else if o % 0x10 = 8 then sat 0xFFFFFFFF (tget 0xFFFFFFFF c.saf.peRes n)
  else sat 0xFFFFFF (tget 0 c.saf.insKohm n) + place 24 (tget 0 c.saf.insState n % 8)
    + place 27 (sat 31 (insulationAge c n))

/-! ### Trust region -/

/-- R432: the registers of Inkwell. -/
def truView (c : Chip) : Nat → Nat
  | 0x8000 => flagsFrom 0 [c.tru.rootOk, c.tru.chainsClosed, c.tru.debugOpen]
  | 0x8004 => c.tru.accesses % 65536 + place 16 (c.tru.remasks % 65536)
  | 0x8008 => flagsFrom 0 [c.tru.healthOk, c.tru.rctFail, c.tru.aptFail] + place 16 (sat 65535 c.tru.entFails)
  | _ => 0

/-- R432: signatures waiting. -/
def signWaiting (c : Chip) : Nat := sat 255 c.tru.signQueue.length

/-- R432: BUILDING; when the next bottom tree is under construction is stated nowhere, so it is free while the key signs
(log 10). -/
def building (c : Chip) : Bool := (c.tru.xmt == .ready || c.tru.xmt == .signing) && freeBelow c 7601 2 == 1

/-- R432: the crypto engines. -/
def cryptoView (c : Chip) (o : Nat) : Nat :=
  if o = 0x8000 then
    c.tru.xmt.code + placeBit 3 (c.tru.keyRecord.isSome && decide (2 ^ 40 - nextIndex c < 2 ^ 20))
      + placeBit 4 (building c) + place 8 (signWaiting c) + place 16 (sat 65535 c.tru.keygenProg)
  else if o = 0x8004 then nextIndex c % 2 ^ 32
  else if o = 0x8008 then nextIndex c / 2 ^ 32 % 256
  else if o = 0x800C then aesUsed c % 64
  else (match c.tru.keyRecord with | some k => bigWord k.pub ((o - 0x8100) / 4) | none => 0)

/-- R432: the measurement chain. -/
def measView (c : Chip) (o : Nat) : Nat :=
  if o < 0x8020 then bigWord (id32 c.tru.meas) ((o - 0x8000) / 4)
  else if o < 0x8040 then bigWord (id32 c.tru.authChain) ((o - 0x8020) / 4)
  else flagsFrom 0 (c.tru.stages.map (fun m => m.code != 0xFF))
    + place 16 (flagsFrom 0 (c.tru.stages.map (fun m => m.code == 0xFF)))

/-- R427, R432: the lifecycle fuses. -/
def fuseView (c : Chip) (f : Fuses) (o : Nat) : Nat :=
  if o = 0x8000 then c.sup.lcs.code
  else if o < 0x8014 then bigWord (id16 c.tru.unit) ((o - 0x8004) / 4)
  else if o = 0x8014 then
    flagsFrom 0 [f.rootSet, f.unitSet, f.legalDig.isSome, f.img0.isSome, f.img1.isSome, f.prov.isSome, f.dbg.isSome,
      c.tru.repaired] + place 8 f.revoke.toNat
  else if o < 0x8038 then bigWord (id32 c.tru.lcNonce) ((o - 0x8018) / 4)
  else if o = 0x8038 then
    placeBit 0 c.tru.debugOpen + placeBit 1 c.tru.locked + place 4 (c.tru.fails % 4) + place 8 (c.tru.scope % 256)
  else c.tru.lcResult % 256 + place 8 (c.tru.lcFrom % 8) + place 12 (c.tru.lcTo % 8)

/-! ### The safety-die mirror -/

/-- R21, R300: the age of the mirror in µs, which the clocks as they have been run give; before the first refresh its reset
value (log 66). -/
def mirrorAge (c : Chip) : Nat :=
  match c.saf.mirrorAt with
  | some t => sat 65535 ((c.tb.aon - t) * 1000000 / 2 ^ 32)
  | none => 65535

/-! ### Link region -/

/-- R400: FAB_STATUS. -/
def fabStatusView (c : Chip) : Nat :=
  c.fab.addr % 1024 + placeBit 10 c.fab.addrValid + place 12 c.fab.mode.code
    + placeBit 14 (c.fab.milliner == some c.fab.addr)
    + placeBit 15 (match c.fab.root with | some r => r.addr == c.fab.addr && c.fab.addrValid | none => false)
    + flagsFrom 16 [keyOk c, c.fab.partition, c.fab.hold]

/-- R376, R400: a replica of outlet n's LIVE session, in the role, acknowledged within 1 s. -/
def replicaOk (c : Chip) (primary : Bool) (n : Nat) : Bool :=
  match liveCtx c n with
  | some x => c.repl.holders.any (fun h => h.sessionId == (ctxOf c x).sessionId && h.primary == primary
      && h.state == .held && decide ((c.tb.cycle - h.ackCycle) * 1000 ≤ c.tb.freq))
  | none => false

/-- R400: FAB_ROOT. -/
def fabRootView (c : Chip) : Nat :=
  match c.fab.root with
  | some r => r.addr % 1024 + placeBit 10 true + place 12 (r.cls % 8) + place 16 (r.hops % 64)
  | none => 0

/-- R400: FAB_MEMBERS. -/
def fabMembersView (c : Chip) : Nat :=
  if c.fab.addrValid then
    sat 1024 (members c).length + place 16 (sat 1024 ((members c).filter (fun m => reachable c m.addr)).length)
  else 0

/-- R400: the registers of port p. -/
def portView (c : Chip) (p o : Nat) : Nat :=
  let x := fport c p
  match o with
  | 0x0 => x.state.code + placeBit 3 x.wakeSent + place 16 (x.nbr.getD 0 % 1024) + placeBit 26 x.nbr.isSome
  | 0x4 => sat 65535 x.fcs + place 16 (sat 65535 x.authErr)
  | 0x8 => sat 65535 x.delayNs
  | _ => 0

/-- R400: the fabric's read-only registers. -/
def fabView (c : Chip) (o : Nat) : Nat :=
  if o = 0x8010 then fabStatusView c
  else if o = 0x8014 then fabMembersView c
  else if o = 0x8018 then c.fab.roundShown % 2 ^ 32
  else if o = 0x801C then c.fab.diverge % 65536 + place 16 (c.fab.fallbacks % 65536)
  else if o = 0x8020 then fabRootView c
  else if o = 0x8024 then (match c.fab.milliner with | some a => a % 1024 + placeBit 10 true | none => 0)
  else if o = 0x8028 then sgn 32 (satInt 32 c.fab.ofsNs)
  else if o = 0x8034 then
    flagsFrom 0 ((List.range 8).map (replicaOk c true)) + place 8 (flagsFrom 0 ((List.range 8).map (replicaOk c false)))
  else if o < 0x8080 then portView c ((o - 0x8040) / 0x10) (o % 0x10)
  else
    let n := (o - 0x8080) / 8
    if o % 8 = 0 then tget 0 c.fab.grantImp n % 2 ^ 32 else tget 0 c.fab.grantExp n % 2 ^ 32

/-- R369: descriptors of a ring pair in flight. -/
def ringInflight (c : Chip) (q : Nat) : Nat := (c.host.inflight.filter (fun d => d.ring.val == q)).length

/-- R369: the HST frame's read-only registers. -/
def hstView (c : Chip) (o : Nat) : Nat :=
  let h := c.host
  if o = 0x8004 then
    placeBit 0 h.linkUp + place 1 (h.speed % 4) + place 3 (h.width % 4) + placeBit 5 h.perst + placeBit 6 h.wlock
      + place 8 (h.epoch % 256)
  else if o = 0x800C then sat 64 h.inflight.length + place 16 (h.discards % 65536)
  else
    let q := (o - 0x8100) / 0x20
    let r := ringOf c q
    if o % 0x20 = 0x18 then
      r.state.code + place 4 (r.err % 16) + place 8 (ringInflight c q % 32) + placeBit 16 r.phase
    else r.sqHead % 4096 + place 16 (r.cqTail % 4096)

/-! ### Display region -/

/-- R345: the pixel pipeline. -/
def dspView (c : Chip) : Nat → Nat
  | 0x8000 => c.dsp.pstate.code + placeBit 3 c.dsp.fallback + placeBit 4 c.dsp.pend.isSome
      + placeBit 5 c.dsp.front.isSome
  | 0x8010 => (match c.dsp.front with | some b => b.addr / 4096 * 4096 % 2 ^ 32 | none => 0)
  | 0x8014 => c.dsp.frameCnt % 2 ^ 32
  | _ => 0

/-- R345: ageing compensation. -/
def ageView (c : Chip) : Nat → Nat
  | 0x8000 => c.age.active % 4 + placeBit 2 c.age.baselined + placeBit 3 c.age.scanning
      + place 16 (c.age.target % 65536)
  | 0x8008 => c.age.prog % 2 ^ 17 + place 24 (sat 255 c.age.errors)
  | 0x800C => sat 0xFFFFFFFF c.age.clip
  | _ => 0

/-- R345: the frame-memory checksum. -/
def crcView (c : Chip) : Nat → Nat
  | 0x8000 => c.dsp.crcMatch.toNat + place 8 (sat 255 c.dsp.crcRun)
  | 0x8004 => c.dsp.crcCalc.toNat
  | 0x8008 => c.dsp.crcFails % 2 ^ 32
  | _ => 0

/-- R345: the bistable engine. -/
def bpView (c : Chip) : Nat → Nat
  | 0x8000 => c.bp.state.code + placeBit 3 c.bp.busy + place 8 (c.bp.phase % 256) + placeBit 16 c.bp.redrawn
      + place 24 (sgn 8 c.bp.temp)
  | 0x8004 => c.bp.crc.toNat
  | 0x8008 => c.bp.updates % 65536 + place 16 (c.bp.aborts % 65536)
  | _ => 0

/-! ### Power die and safety die -/

/-- R93, R270: the power die's general registers; a part of a unit of 0.2 V is not shown (log 73). -/
def pwdView (c : Chip) (o : Nat) : Nat :=
  let p := c.pwd
  if o = 0x8040 then
    p.supplyOk % 64 + placeBit 6 (belowThr c) + placeBit 7 p.holdup + place 8 (sat 255 (p.vmain / 200))
  else if o = 0x8048 then
    flagsFrom 0 [p.charging, p.holdOk, p.undersized, p.measured] + place 8 (sat 255 (p.vhold / 200))
  else if o = 0x804C then sat 65535 p.capUf + place 16 (sat 65535 p.esrMohm)
  else if o = 0x8050 then sat 65535 p.budget
  else if o = 0x8054 then p.temp % 256
  else
    let n := (o - 0x8104) / 0x10
    let k := coilOf c n
    k.state.code + placeBit 2 (gateOpen c n) + placeBit 3 k.cmd + placeBit 4 k.pend + place 16 (sat 4095 k.ma)

/-- R322: the read-only registers of load-switch channel n. -/
def lswView (c : Chip) (n o : Nat) : Nat :=
  let x := lswOf c n
  if o = 0x4 then
    x.state.code + placeBit 3 (lswDemand c n) + flagsFrom 4 [x.pin, x.limiting, x.openLoad, x.shortVbb, x.paused, x.grpWait,
      x.shed, lswDisabled c n] + place 12 (x.trips % 16) + place 24 (x.tj % 256)
  else sat 65535 x.ma + place 16 (sat 65535 x.v10)

/-- R319: a disabled channel drains until its output is off. -/
def lswDraining (c : Chip) (n : Nat) : Bool := lswDisabled c n && lswOn (lswOf c n)

/-- R304, R322: the frame of the load switches. -/
def lswFrameView (c : Chip) (o : Nat) : Nat :=
  if o = 0x8100 then
    sat 255 c.lsw.iA + place 8 (sat 255 c.lsw.iB) + flagsFrom 16 [decide (lswBudget c false < c.lsw.iA),
      decide (lswBudget c true < c.lsw.iB), c.lsw.uvA, c.lsw.uvB]
  else if o = 0x8108 then flagsFrom 0 ((List.range 12).map (lswDraining c))
  else lswView c ((o - 0x8000) / 0x10) (o % 0x10)

/-! ### Reads -/

/-- What a read-only register of the map shows, by frame. -/
def statusView (c : Chip) (f : Fuses) (a : Nat) : Nat :=
  let o := a % 0x10000
  match a / 0x10000 with
  | 0x000 => supView c o
  | 0x001 => tbView c a
  | 0x002 => fltView c a
  | 0x003 => bltView c a
  | 0x004 => wipeView c o
  | 0x006 => updView c o
  | 0x100 => laneView c ((o - 0x8000) / 0x100) (o % 0x100)
  | 0x101 =>
    if o < 0x8020 then pointView c ((o - 0x8000) / 4) else if o = 0x8024 then calView c else (regGet c a).toNat
  | 0x102 => qeView c a
  | 0x103 => accView c o
  | 0x104 => tarView c a
  | 0x105 => legView c a
  | 0x208 => canView c ((o - 0x8000) / 0x10) (o % 0x10)
  | 0x209 => safView c o
  | 0x20A => ctxCntView c
  | 0x300 => truView c o
  | 0x301 => cryptoView c o
  | 0x302 => measView c o
  | 0x303 => fuseView c f o
  | 0x402 => fabView c o
  | 0x404 => hstView c o
  | 0x500 => dspView c o
  | 0x502 => ageView c o
  | 0x503 => crcView c o
  | 0x504 => bpView c o
  | 0x700 => pwdView c o
  | 0x701 => lswFrameView c o
  | 0x780 => if a = Reg.NIB_MIRROR_AGE then mirrorAge c else (regGet c a).toNat
  | fr => if 0x200 ≤ fr ∧ fr ≤ 0x207 then outView c (fr - 0x200) o else 0

/-- R470, R477: the immediate registers of the collector and of Blotter read 0 before their stores are restored. -/
def storeUnread (c : Chip) (a : Nat) : Bool :=
  decide (0x8000 ≤ a % 0x10000)
    && ((a / 0x10000 == 0x002 && !c.flt.restored) || (a / 0x10000 == 0x003 && !c.blt.ready))

/-- The registers of type RW whose read shows more than the word last written: SUP_MODE_REQ (R47), MET_CAL_CTRL
(R145), TAR (R210) and HST_CTRL (R369). -/
def controlView (c : Chip) (a : Nat) : Nat :=
  if a = Reg.SUP_MODE_REQ then
    imm c a 3 0 + placeBit 9 (immBit c a 9) + placeBit 10 c.sup.prepDone + place 16 (c.sup.modeResult % 256)
  else if a = Reg.HST_CTRL then c.host.wlock.toNat
  else if a / 0x10000 = 0x104 ∧ 0x8000 ≤ a % 0x10000 then tarView c a
  else if storeUnread c a then 0
  else (regGet c a).toNat

/-! ### Reads (R7, R8, R16, R26) -/

/-- R7, R8, R10, R16, R26: the word that a read of an address returns. -/
def readReg (s : State) (a : Nat) : Word :=
  let c := s.chip
  if windowClosed c a || a % 4 != 0 then 0#32
  else match regRow a with
    | some r =>
      (match r.acc with
       | .wo => 0#32
       | .w1s => 0#32
       | .w1c => if storeUnread c a then 0#32 else regGet c a
       | .rw => wordOf (controlView c a)
       | .ro => wordOf (statusView c s.fuses a)
       | .rc => wordOf (statusView c s.fuses a))
    | none =>
      match aliasOf a with
      | some b => if (regRow b).isSome then liveGet c b else 0#32
      | none => 0#32

/-- R347: a double word of an MSI-X table entry. -/
def msixWord (e : MsixEntry) (dword : Nat) : Word :=
  match dword with
  | 0 => e.addrLo
  | 1 => e.addrHi
  | 2 => e.data
  | _ => if e.mask then 1#32 else 0#32

/-- R347: the word that a read of BAR0 returns: the mirrors, the MSI-X table and its pending bits; unused offsets and the
doorbells read 0. -/
def readBar0 (s : State) (o : Nat) : Word :=
  let c := s.chip
  if !ready c .hst || o % 4 != 0 then 0#32
  else if o = 0x0 then readReg s Reg.SUP_ID
  else if o = 0x4 then readReg s Reg.SUP_READY
  else if o = 0x8 then readReg s Reg.HST_STATUS
  else if 0x2000 ≤ o ∧ o < 0x2200 then msixWord (msixEntry c ((o - 0x2000) / 16)) (o % 16 / 4)
  else if o = 0x3000 then c.host.msixPending
  else 0#32

/-- R339: the level of BP_RST_N, low while the display region is in reset. -/
def bpRstN (c : Chip) : Bool := dspRuns c

end Sys2Proof.Machine
end

