-- ==== Sys2Proof/Machine/Arch.lean ====
section
/-! DEFINITION. The register accesses of BAR2 (R7 to R10, R16, R26, R347, R348): a write to a register, an access
that is not a whole word of a register, and an access to a window that does not answer. -/

namespace Sys2Proof.Machine

/-! ### Registers whose write is a command -/

/-- R30, R34 to R36: SUP_CG_CTRL. -/
def writeCgCtrl (c : Chip) (w : Word) : Chip :=
  let c := cgFields c (BitVec.ofNat 8 (fieldOf w 15 8)) (BitVec.ofNat 4 (fieldOf w 19 16))
  if bitOf w 0 && bitOf w 1 then raiseEvt c Reg.SUP_CG_EVT 3
  else if bitOf w 0 then (armGroup c 0 (BitVec.ofNat 8 (fieldOf w 15 8)) (fieldOf w 19 16) (cgTarget c) none).1
  else if bitOf w 1 then cancelGroup c
  else c

/-- R47, R48: SUP_MODE_REQ; while a request is pending the whole write is discarded. -/
def writeModeReq (c : Chip) (w : Word) : Chip :=
  if !dieRuns c || c.sup.modeReq.isSome then c
  else
    let c := regPut c Reg.SUP_MODE_REQ (wordOf (fieldOf w 3 0 + placeBit 9 (bitOf w 9)))
    if bitOf w 8 then submitMode c (fieldOf w 3 0) (bitOf w 9) 1 none else c

/-- R54, R55: SUP_RST_CTRL with its key. COLD goes before MODULE (log 42); a module reset takes in every region, and where it
is refused the region bits stand. -/
def writeRstCtrl (c : Chip) (w : Word) : Chip :=
  if fieldOf w 31 16 ≠ 0xA5C3 ∨ mayAskReset c = false then c
  else
    let regions := BitVec.ofNat 7 (fieldOf w 8 2)
    if bitOf w 1 || bitOf w 0 then
      if anyEnergised c then softRegions (refuseReset c) regions else softReset c (bitOf w 1)
    else softRegions c regions

/-- R145: MET_CAL_CTRL. -/
def writeCalCtrl (c : Chip) (w : Word) : Chip :=
  let c :=
    if bitOf w 24 then calStart c (fieldOf w 5 0) (fieldOf w 13 8) (fieldOf w 23 16)
    else regPut c Reg.MET_CAL_CTRL (w &&& 0xFF3F3F#32)
  if bitOf w 25 then calAbort c else c

/-- R166, R179: MET_ACC_CTRL. -/
def writeAccCtrl (c : Chip) (w : Word) : Chip :=
  if bitOf w 16 then accLatch c (bitOf w 0) (fieldOf w 15 8)
  else if !bitOf w 0 && decide (7 < fieldOf w 15 8) then c
  else regPut c Reg.MET_ACC_CTRL (w &&& 0xFF01#32)

/-- R187, R210: TAR_PAS_CTRL; more than one command bit performs none. -/
def writePasCtrl (c : Chip) (w : Word) : Chip :=
  match fieldOf w 2 0 with
  | 1 => armPassive c
  | 2 => disarmPassive c
  | 4 => clearPassive c
  | _ => c

/-- R187: the activation instant, locked while the calendar is ARMED. -/
def writePasAt (c : Chip) (hi : Bool) (w : Word) : Chip :=
  if c.tar.pasState = .armed then raiseEvt c Reg.TAR_EVT 5
  else
    let v := c.tar.pasAt
    { c with tar := { c.tar with
      pasAt := if hi then v % 2 ^ 32 + fieldOf w 15 0 * 2 ^ 32 else v / 2 ^ 32 * 2 ^ 32 + w.toNat } }

/-- R210: TAR_PRICE_CTRL; PUBLISH acts before CLEAR (DESIGN CHOICE, log 42). -/
def writePriceCtrl (c : Chip) (w : Word) : Chip :=
  let c := if bitOf w 0 then publishPrices c (imm c Reg.TAR_PRICE_ADDR 11 8) (stagingWords c) else c
  if bitOf w 1 then { c with tar := { c.tar with staging := [] } } else c

/-- R476, R477: BLT_WIN_CTRL. -/
def writeWinCtrl (c : Chip) (w : Word) : Chip :=
  let c := regPut c Reg.BLT_WIN_CTRL (w &&& 0x70#32)
  if bitOf w 1 then bltNext c else if bitOf w 0 then bltLatch c else c

/-- R324: DSP_PUB_CTRL.GO. -/
def writePubCtrl (c : Chip) (w : Word) : Chip :=
  if bitOf w 0 && regionReady c .dsp && !dsiDisabled c then
    publish c (imm c Reg.DSP_PUB_ADDR 31 12 * 4096) (regGet c Reg.DSP_PUB_CRC) none
  else c

/-- R379, R394: FAB_CTRL. -/
def writeFabCtrl (c : Chip) (w : Word) : Chip :=
  let c := if bitOf w 0 then forgetAddr c (fieldOf w 25 16) else c
  if bitOf w 1 then retryResume c else c

/-- R351, R352, R369: a ring set-up register of ring pair q; the bases keep while the ring pair is not OFF. -/
def writeRing (c : Chip) (q : Ring) (o : Nat) (w : Word) : Chip :=
  let a := Reg.HST_SQ_BASE_LO q.val + o
  if o = 0x10 then (if bitOf w 0 then ringEnable c q w else ringDisable c q w)
  else if o < 0x10 ∧ (ringOf c q.val).state ≠ .off then c
  else match regRow a with
    | some r => regPut c a (w &&& r.wmask)
    | none => c

/-- R10: an immediate register of type RW, W1S or WO. -/
def writeImm (c : Chip) (a : Nat) (w : Word) (r : RegRow) : Chip :=
  let o := a % 0x10000
  match a / 0x10000 with
  | 0x000 =>
    if a = Reg.SUP_CG_CTRL then writeCgCtrl c w
    else if a = Reg.SUP_MODE_REQ then writeModeReq c w
    else if a = Reg.SUP_RST_CTRL then writeRstCtrl c w
    else if a = Reg.SUP_DISABLE then (if mayDisable c then writeDisable c w else c)
    else regPut c a (w &&& r.wmask)
  | 0x001 => if a = Reg.SUP_TB_LATCH then tbLatch c else regPut c a (w &&& r.wmask)
  | 0x002 =>
    if a = Reg.FLT_CMD then writeFltCmd c w
    else if 0x80E0 ≤ o ∧ o < 0x8120 then forceWrite c ((o - 0x80E0) / 4) w
    else c
  | 0x003 => if a = Reg.BLT_WIN_CTRL then writeWinCtrl c w else regPut c a (w &&& r.wmask)
  | 0x101 => writeCalCtrl c w
  | 0x103 => writeAccCtrl c w
  | 0x104 =>
    if a = Reg.TAR_TBL_DATA then tblWrite c w
    else if a = Reg.TAR_PAS_CTRL then writePasCtrl c w
    else if a = Reg.TAR_PAS_AT_LO then writePasAt c false w
    else if a = Reg.TAR_PAS_AT_HI then writePasAt c true w
    else if a = Reg.TAR_PRICE_DATA then priceWrite c w
    else if a = Reg.TAR_PRICE_CTRL then writePriceCtrl c w
    else if a = Reg.TAR_MD_CTRL then
      (if bitOf w 0 then { c with tar := { c.tar with mdPending := true } } else c)
    else regPut c a (w &&& r.wmask)
  | 0x402 =>
    if isNs a then nsWrite c a w else if a = Reg.FAB_CTRL then writeFabCtrl c w else regPut c a (w &&& r.wmask)
  | 0x404 =>
    if a = Reg.HST_CTRL then (if bitOf w 0 then setWlock c else c)
    else if 0x8100 ≤ o then writeRing c (Fin.ofNat 16 ((o - 0x8100) / 0x20)) (o % 0x20) w
    else regPut c a (w &&& r.wmask)
  | 0x500 => if a = Reg.DSP_PUB_CTRL then writePubCtrl c w else regPut c a (w &&& r.wmask)
  | 0x502 => if a = Reg.DSP_AGE_CTRL then (if bitOf w 0 then ageBaseline c else c) else regPut c a (w &&& r.wmask)
  | 0x700 => if isNs a then nsWrite c a w else c
  | 0x701 => postPwd c a (w &&& r.wmask) none
  | fr =>
    if 0x200 ≤ fr ∧ fr ≤ 0x207 then
      (if a = Reg.OUT_CTRL (fr - 0x200) ∧ bitOf w 0 = true then
        modOutlet c (fr - 0x200) (fun x => { x with tClose := [], tOpen := [] }) else c)
    else regPut c a (w &&& r.wmask)

/-- R35: a shadowed register, unless its member belongs to an armed group. -/
def writeShadow (c : Chip) (a : Nat) (w : Word) : Chip :=
  if shadowBlocked c a then raiseEvt c Reg.SUP_CG_EVT 2 else shadowPut c a w

/-- R10, R22, R26: a write that reaches a register. -/
def writeReg (c : Chip) (a : Nat) (w : Word) : Chip :=
  match regRow a with
  | some r =>
    if r.acc = .ro ∨ r.acc = .rc then c
    else if r.acc = .w1c then (if a / 0x10000 = 0x701 then postPwd c a (w &&& r.wmask) none else clearBits c a (w &&& r.wmask))
    else if isShadowed a then writeShadow c a w
    else writeImm c a w r
  | none => c

/-! ### Commands -/

/-- R7, R8, R16, R26: a write of a whole word that the lock lets through. -/
def busWrite (c : Chip) (a : Nat) (w : Word) : Chip :=
  if windowClosed c a then c
  else if noRegister a then accessFault c a
  else writeReg c a w

/-- REGISTER_WRITE (R10): a write of a word through BAR2. -/
def execRegisterWrite (addr : Nat) (value : Word) (s : State) : Host.Outcome State Fault Refusal :=
  if 0x8000000 ≤ addr then .fault .outsideBar2
  else onChip s fun c => if lockedOut c addr then lockWrite c addr (noRegister addr) else busWrite c addr value

/-- R8: an access that reaches no register. -/
def missAccess (c : Chip) (a : Nat) (write : Bool) : Chip :=
  let c := if write then c else emit c (.readData a 0#32)
  if windowClosed c a then c else accessFault c a

/-- UNMAPPED_ACCESS (R7, R8, R26): an access at an unmapped offset, or one that is not a whole aligned word, whatever
register stands at its address. -/
def execUnmappedAccess (addr : Nat) (write : Bool) (s : State) : Host.Outcome State Fault Refusal :=
  if 0x8000000 ≤ addr then .fault .outsideBar2
  else onChip s fun c => if write && lockedOut c addr then lockWrite c addr true else missAccess c addr write

/-- FENCED_WINDOW_ACCESS (R16): an access to a window that does not answer; at an open window it is not this command. -/
def execFencedWindowAccess (addr : Nat) (write : Bool) (s : State) : Host.Outcome State Fault Refusal :=
  if 0x8000000 ≤ addr then .fault .outsideBar2
  else onChip s fun c =>
    if !windowClosed c addr then c
    else if !write then emit c (.readData addr 0#32)
    else if lockedOut c addr then lockWrite c addr false
    else c

end Sys2Proof.Machine
end

