-- ==== Sys2Proof/Machine/Dispatch.lean ====
section
/-! DEFINITION. The meaning of each command: one arm per constructor of Instr. -/

namespace Sys2Proof.Machine

def exec (i : Instr) (s : State) : Host.Outcome State Fault Refusal :=
  match i with
  | .registerWrite addr value => Sys2Proof.Machine.execRegisterWrite addr value s
  | .unmappedAccess addr write => Sys2Proof.Machine.execUnmappedAccess addr write s
  | .fencedWindowAccess addr write => Sys2Proof.Machine.execFencedWindowAccess addr write s
  | .cgCtrlArm members maxDefer => Sys2Proof.Machine.execCgCtrlArm members maxDefer s
  | .cgCtrlCancel members maxDefer => Sys2Proof.Machine.execCgCtrlCancel members maxDefer s
  | .cgPoll contextCommit => Sys2Proof.Machine.execCgPoll contextCommit s
  | .powerDieConfirm => Sys2Proof.Machine.execPowerDieConfirm s
  | .pdConfirmTimeout => Sys2Proof.Machine.execPdConfirmTimeout s
  | .nsWrite addr value => Sys2Proof.Machine.execNsWrite addr value s
  | .nsSettingLanded => Sys2Proof.Machine.execNsSettingLanded s
  | .pwdWriteLanded m => Sys2Proof.Machine.execPwdWriteLanded m s
  | .powerLinkTimeout => Sys2Proof.Machine.execPowerLinkTimeout s
  | .nibMirrorRefresh bad since => Sys2Proof.Machine.execNibMirrorRefresh bad since s
  | .clockLoss dom => Sys2Proof.Machine.execClockLoss dom s
  | .clockExcursion dom => Sys2Proof.Machine.execClockExcursion dom s
  | .refRestored => Sys2Proof.Machine.execRefRestored s
  | .modeReqGo target prepOff => Sys2Proof.Machine.execModeReqGo target prepOff s
  | .prepDone => Sys2Proof.Machine.execPrepDone s
  | .brownOut vmain vhold supplies done => Sys2Proof.Machine.execBrownOut vmain vhold supplies done s
  | .holdupOff => Sys2Proof.Machine.execHoldupOff s
  | .holdupRecovery vmain supplies => Sys2Proof.Machine.execHoldupRecovery vmain supplies s
  | .powerGood vmain supplies => Sys2Proof.Machine.execPowerGood vmain supplies s
  | .powerGoodLost rail => Sys2Proof.Machine.execPowerGoodLost rail s
  | .powerDiePor vmain vhold supplies => Sys2Proof.Machine.execPowerDiePor vmain vhold supplies s
  | .safetyDiePor levels selfTest => Sys2Proof.Machine.execSafetyDiePor levels selfTest s
  | .rstNReset => Sys2Proof.Machine.execRstNReset s
  | .rstCtrlModule => Sys2Proof.Machine.execRstCtrlModule s
  | .rstCtrlCold => Sys2Proof.Machine.execRstCtrlCold s
  | .rstCtrlRegion regions => Sys2Proof.Machine.execRstCtrlRegion regions s
  | .watchdogExpiry => Sys2Proof.Machine.execWatchdogExpiry s
  | .resetRelease elapsed store badSlots badCopies sealPin => Sys2Proof.Machine.execResetRelease elapsed store badSlots badCopies sealPin s
  | .sramWipeDone us10 => Sys2Proof.Machine.execSramWipeDone us10 s
  | .dramWipeDone ms => Sys2Proof.Machine.execDramWipeDone ms s
  | .mramWipeDone ms => Sys2Proof.Machine.execMramWipeDone ms s
  | .functionReady f badSlots badCopies sealPin ageBad => Sys2Proof.Machine.execFunctionReady f badSlots badCopies sealPin ageBad s
  | .readyTimeout f => Sys2Proof.Machine.execReadyTimeout f s
  | .wakeEvent source => Sys2Proof.Machine.execWakeEvent source s
  | .deepStandbyWake source => Sys2Proof.Machine.execDeepStandbyWake source s
  | .disableWrite value => Sys2Proof.Machine.execDisableWrite value s
  | .drainDone k => Sys2Proof.Machine.execDrainDone k s
  | .outletDrainTimeout outlet => Sys2Proof.Machine.execOutletDrainTimeout outlet s
  | .lifecycleToken token sigOk => Sys2Proof.Machine.execLifecycleToken token sigOk s
  | .loadCheckStart vhold => Sys2Proof.Machine.execLoadCheckStart vhold s
  | .loadCheckDone capUf esrMohm => Sys2Proof.Machine.execLoadCheckDone capUf esrMohm s
  | .chargeRiseMeasured capUf => Sys2Proof.Machine.execChargeRiseMeasured capUf s
  | .holdOkFall vhold => Sys2Proof.Machine.execHoldOkFall vhold s
  | .holdOkRise vhold => Sys2Proof.Machine.execHoldOkRise vhold s
  | .angleZero period brownOut => Sys2Proof.Machine.execAngleZero period brownOut s
  | .finalisationDone => Sys2Proof.Machine.execFinalisationDone s
  | .commitSlotWritten us => Sys2Proof.Machine.execCommitSlotWritten us s
  | .lastGaspCommit angle since => Sys2Proof.Machine.execLastGaspCommit angle since s
  | .finalCommit angle since => Sys2Proof.Machine.execFinalCommit angle since s
  | .dtcorrMeasure ratio => Sys2Proof.Machine.execDtcorrMeasure ratio s
  | .harmWindow => Sys2Proof.Machine.execHarmWindow s
  | .meterSample samples => Sys2Proof.Machine.execMeterSample samples s
  | .cvLimitExceeded lane => Sys2Proof.Machine.execCvLimitExceeded lane s
  | .rangeDown lane periods => Sys2Proof.Machine.execRangeDown lane periods s
  | .laneTrained lane scan => Sys2Proof.Machine.execLaneTrained lane scan s
  | .trainTimeout lane => Sys2Proof.Machine.execTrainTimeout lane s
  | .laneSignalLoss lane periods => Sys2Proof.Machine.execLaneSignalLoss lane periods s
  | .retrainDone lane periods by' => Sys2Proof.Machine.execRetrainDone lane periods by' s
  | .retrainTimeout lane => Sys2Proof.Machine.execRetrainTimeout lane s
  | .laneFailedRetry lane => Sys2Proof.Machine.execLaneFailedRetry lane s
  | .calMeasStart laneA laneB cycles => Sys2Proof.Machine.execCalMeasStart laneA laneB cycles s
  | .calMeasAbort => Sys2Proof.Machine.execCalMeasAbort s
  | .calMeasDone => Sys2Proof.Machine.execCalMeasDone s
  | .accLatch context index => Sys2Proof.Machine.execAccLatch context index s
  | .tbLatch angle fraction since => Sys2Proof.Machine.execTbLatch angle fraction since s
  | .refQualified alternate => Sys2Proof.Machine.execRefQualified alternate s
  | .refLost alternate => Sys2Proof.Machine.execRefLost alternate s
  | .tbLockAcquired => Sys2Proof.Machine.execTbLockAcquired s
  | .tbPhaseJump => Sys2Proof.Machine.execTbPhaseJump s
  | .holdoverExpiry => Sys2Proof.Machine.execHoldoverExpiry s
  | .beaconTimeout => Sys2Proof.Machine.execBeaconTimeout s
  | .schedBook b => Sys2Proof.Machine.execSchedBook b s
  | .schedCancel kind => Sys2Proof.Machine.execSchedCancel kind s
  | .schedFire angle since => Sys2Proof.Machine.execSchedFire angle since s
  | .wallOffset src offset => Sys2Proof.Machine.execWallOffset src offset s
  | .slewDone since => Sys2Proof.Machine.execSlewDone since s
  | .rtcAlarm since => Sys2Proof.Machine.execRtcAlarm since s
  | .calTblWrite value => Sys2Proof.Machine.execCalTblWrite value s
  | .calTblRead => Sys2Proof.Machine.execCalTblRead s
  | .pasCtrlArm => Sys2Proof.Machine.execPasCtrlArm s
  | .pasCtrlDisarm => Sys2Proof.Machine.execPasCtrlDisarm s
  | .pasCtrlClear => Sys2Proof.Machine.execPasCtrlClear s
  | .priceDataWrite value => Sys2Proof.Machine.execPriceDataWrite value s
  | .priceDataRead => Sys2Proof.Machine.execPriceDataRead s
  | .priceCtrlPublish => Sys2Proof.Machine.execPriceCtrlPublish s
  | .priceCtrlClear => Sys2Proof.Machine.execPriceCtrlClear s
  | .mdCtrlReset => Sys2Proof.Machine.execMdCtrlReset s
  | .sealOpened => Sys2Proof.Machine.execSealOpened s
  | .sealClosed => Sys2Proof.Machine.execSealClosed s
  | .legEntryWrite => Sys2Proof.Machine.execLegEntryWrite s
  | .legSignStart => Sys2Proof.Machine.execLegSignStart s
  | .signatureDone => Sys2Proof.Machine.execSignatureDone s
  | .legDisplayRebuild => Sys2Proof.Machine.execLegDisplayRebuild s
  | .legEvtRead => Sys2Proof.Machine.execLegEvtRead s
  | .laneCvRead lane => Sys2Proof.Machine.execLaneCvRead lane s
  | .legalLoad data version sigOk => Sys2Proof.Machine.execLegalLoad data version sigOk s
  | .pilotStateAccepted outlet vpos vneg angle => Sys2Proof.Machine.execPilotStateAccepted outlet vpos vneg angle s
  | .pilotError outlet => Sys2Proof.Machine.execPilotError outlet s
  | .pwmOffTimeout outlet angle => Sys2Proof.Machine.execPwmOffTimeout outlet angle s
  | .overcurrentTimeout outlet angle => Sys2Proof.Machine.execOvercurrentTimeout outlet angle s
  | .ppClassAccepted outlet mv => Sys2Proof.Machine.execPpClassAccepted outlet mv s
  | .lockTimeout outlet => Sys2Proof.Machine.execLockTimeout outlet s
  | .lockRetry outlet => Sys2Proof.Machine.execLockRetry outlet s
  | .lockFeedbackChange outlet high => Sys2Proof.Machine.execLockFeedbackChange outlet high s
  | .cmSlacParm outlet runId => Sys2Proof.Machine.execCmSlacParm outlet runId s
  | .cmStartAttenChar outlet runId => Sys2Proof.Machine.execCmStartAttenChar outlet runId s
  | .cmMnbcSound outlet runId atten => Sys2Proof.Machine.execCmMnbcSound outlet runId atten s
  | .cmAttenChar outlet runId => Sys2Proof.Machine.execCmAttenChar outlet runId s
  | .cmSlacMatch outlet runId => Sys2Proof.Machine.execCmSlacMatch outlet runId s
  | .cmSetKey outlet runId => Sys2Proof.Machine.execCmSetKey outlet runId s
  | .cmValidate outlet runId => Sys2Proof.Machine.execCmValidate outlet runId s
  | .slacTimeout outlet => Sys2Proof.Machine.execSlacTimeout outlet s
  | .slacRetryTimer outlet => Sys2Proof.Machine.execSlacRetryTimer outlet s
  | .gpLinkUp outlet => Sys2Proof.Machine.execGpLinkUp outlet s
  | .sessionSetupReq outlet proto tls sessionId => Sys2Proof.Machine.execSessionSetupReq outlet proto tls sessionId s
  | .sessionResumeTimeout outlet angle => Sys2Proof.Machine.execSessionResumeTimeout outlet angle s
  | .cableCheckReq outlet => Sys2Proof.Machine.execCableCheckReq outlet s
  | .preChargeReq outlet mv ma => Sys2Proof.Machine.execPreChargeReq outlet mv ma s
  | .powerDeliveryReq outlet req angle => Sys2Proof.Machine.execPowerDeliveryReq outlet req angle s
  | .currentDemandReq outlet mv ma => Sys2Proof.Machine.execCurrentDemandReq outlet mv ma s
  | .weldingDetectionReq outlet => Sys2Proof.Machine.execWeldingDetectionReq outlet s
  | .sessionStopReq outlet angle => Sys2Proof.Machine.execSessionStopReq outlet angle s
  | .meteringReceiptReq outlet => Sys2Proof.Machine.execMeteringReceiptReq outlet s
  | .certificateInstallationReq outlet update cert => Sys2Proof.Machine.execCertificateInstallationReq outlet update cert s
  | .authBackendResponse outlet accepted group expiry => Sys2Proof.Machine.execAuthBackendResponse outlet accepted group expiry s
  | .authBackendTimeout outlet => Sys2Proof.Machine.execAuthBackendTimeout outlet s
  | .authExpiry outlet angle => Sys2Proof.Machine.execAuthExpiry outlet angle s
  | .nfcCardRead uid ptable selected angle => Sys2Proof.Machine.execNfcCardRead uid ptable selected angle s
  | .nfcCardHoldExpiry => Sys2Proof.Machine.execNfcCardHoldExpiry s
  | .ocppRemoteStart outlet ptable ident => Sys2Proof.Machine.execOcppRemoteStart outlet ptable ident s
  | .ocppRemoteStop sessionId angle => Sys2Proof.Machine.execOcppRemoteStop sessionId angle s
  | .ocppUnlockConnector outlet => Sys2Proof.Machine.execOcppUnlockConnector outlet s
  | .ocppChangeAvailability outlet operative => Sys2Proof.Machine.execOcppChangeAvailability outlet operative s
  | .ocppReset => Sys2Proof.Machine.execOcppReset s
  | .ocppTriggerMessage kind => Sys2Proof.Machine.execOcppTriggerMessage kind s
  | .ocppReservation outlet ident => Sys2Proof.Machine.execOcppReservation outlet ident s
  | .ocppChargingProfile outlet id stack limit => Sys2Proof.Machine.execOcppChargingProfile outlet id stack limit s
  | .ocppLocalList diff version entries => Sys2Proof.Machine.execOcppLocalList diff version entries s
  | .ocppFirmwareUpdate => Sys2Proof.Machine.execOcppFirmwareUpdate s
  | .ocppDataTransfer walduca => Sys2Proof.Machine.execOcppDataTransfer walduca s
  | .canStatus bus addr state fault mv ma temp avail => Sys2Proof.Machine.execCanStatus bus addr state fault mv ma temp avail s
  | .canIdent bus addr serial ratedV ratedI ratedP reverse version => Sys2Proof.Machine.execCanIdent bus addr serial ratedV ratedI ratedP reverse version s
  | .convLost bus addr => Sys2Proof.Machine.execConvLost bus addr s
  | .canBusOff bus tec rec' => Sys2Proof.Machine.execCanBusOff bus tec rec' s
  | .setpointTick outlet => Sys2Proof.Machine.execSetpointTick outlet s
  | .identReqTick => Sys2Proof.Machine.execIdentReqTick s
  | .fbChange outlet closed us angle since => Sys2Proof.Machine.execFbChange outlet closed us angle since s
  | .closeTimeout outlet => Sys2Proof.Machine.execCloseTimeout outlet s
  | .checkTimeout outlet => Sys2Proof.Machine.execCheckTimeout outlet s
  | .prechargeTimeout outlet => Sys2Proof.Machine.execPrechargeTimeout outlet s
  | .openingTimeout outlet => Sys2Proof.Machine.execOpeningTimeout outlet s
  | .relearn outlet => Sys2Proof.Machine.execRelearn outlet s
  | .coilPullinEnd outlet => Sys2Proof.Machine.execCoilPullinEnd outlet s
  | .imdResult outlet kohm plus minus => Sys2Proof.Machine.execImdResult outlet kohm plus minus s
  | .nibChallenge value => Sys2Proof.Machine.execNibChallenge value s
  | .nibAnswer us correct angle => Sys2Proof.Machine.execNibAnswer us correct angle s
  | .nibAnswerTimeout => Sys2Proof.Machine.execNibAnswerTimeout s
  | .nibLost since => Sys2Proof.Machine.execNibLost since s
  | .lockstepMismatch => Sys2Proof.Machine.execLockstepMismatch s
  | .residualCurrentTrip outlet channel dc ac => Sys2Proof.Machine.execResidualCurrentTrip outlet channel dc ac s
  | .peLossTrip outlet channel mohm => Sys2Proof.Machine.execPeLossTrip outlet channel mohm s
  | .pilotTrip outlet channel vpos vneg => Sys2Proof.Machine.execPilotTrip outlet channel vpos vneg s
  | .nibBBandWithdraw outlet vpos vneg => Sys2Proof.Machine.execNibBBandWithdraw outlet vpos vneg s
  | .contactorMismatch outlet channel => Sys2Proof.Machine.execContactorMismatch outlet channel s
  | .failToClose outlet channel => Sys2Proof.Machine.execFailToClose outlet channel s
  | .weldDetected outlet channel => Sys2Proof.Machine.execWeldDetected outlet channel s
  | .poleTestDone outlet plus minus => Sys2Proof.Machine.execPoleTestDone outlet plus minus s
  | .shuntTripDirect => Sys2Proof.Machine.execShuntTripDirect s
  | .shuntTripEnd => Sys2Proof.Machine.execShuntTripEnd s
  | .tempReading pwd sup => Sys2Proof.Machine.execTempReading pwd sup s
  | .tempSwitchTrip outlet high => Sys2Proof.Machine.execTempSwitchTrip outlet high s
  | .sealSwitchChange levels => Sys2Proof.Machine.execSealSwitchChange levels s
  | .sealSettingAdopt => Sys2Proof.Machine.execSealSettingAdopt s
  | .precloseTest outlet run angle => Sys2Proof.Machine.execPrecloseTest outlet run angle s
  | .tripLatchClear outlet cause => Sys2Proof.Machine.execTripLatchClear outlet cause s
  | .degradedWindowEnd => Sys2Proof.Machine.execDegradedWindowEnd s
  | .nibAimedWithdraw outlet => Sys2Proof.Machine.execNibAimedWithdraw outlet s
  | .outletAdopt outlet clean => Sys2Proof.Machine.execOutletAdopt outlet clean s
  | .lswOn channel dur m => Sys2Proof.Machine.execLswOn channel dur m s
  | .lswOff channel m => Sys2Proof.Machine.execLswOff channel m s
  | .lswDurExpiry channel => Sys2Proof.Machine.execLswDurExpiry channel s
  | .lswInEdge channel level recent m => Sys2Proof.Machine.execLswInEdge channel level recent m s
  | .lswRampDone channel m => Sys2Proof.Machine.execLswRampDone channel m s
  | .lswWindowEnd channel m => Sys2Proof.Machine.execLswWindowEnd channel m s
  | .lswRailSag channel m => Sys2Proof.Machine.execLswRailSag channel m s
  | .lswRampResume channel ms m => Sys2Proof.Machine.execLswRampResume channel ms m s
  | .lswPauseTimeout channel ms => Sys2Proof.Machine.execLswPauseTimeout channel ms s
  | .lswThermalShutdown channel m => Sys2Proof.Machine.execLswThermalShutdown channel m s
  | .lswRetry channel m => Sys2Proof.Machine.execLswRetry channel m s
  | .lswTripsReset channel => Sys2Proof.Machine.execLswTripsReset channel s
  | .lswOvercurrent channel m => Sys2Proof.Machine.execLswOvercurrent channel m s
  | .lswShed groupB current => Sys2Proof.Machine.execLswShed groupB current s
  | .lswGroupUv groupB rail => Sys2Proof.Machine.execLswGroupUv groupB rail s
  | .lswGroupUvRecover groupB rail current => Sys2Proof.Machine.execLswGroupUvRecover groupB rail current s
  | .lswTestPulse channel => Sys2Proof.Machine.execLswTestPulse channel s
  | .lswTestPulseEnd channel fellUs maxMa m => Sys2Proof.Machine.execLswTestPulseEnd channel fellUs maxMa m s
  | .lswOffCheckFail channel m => Sys2Proof.Machine.execLswOffCheckFail channel m s
  | .lswOpenLoad channel sourceOn sourceOff m => Sys2Proof.Machine.execLswOpenLoad channel sourceOn sourceOff m s
  | .lswDisableWrite value => Sys2Proof.Machine.execLswDisableWrite value s
  | .dspPubGo => Sys2Proof.Machine.execDspPubGo s
  | .dspFrameStart => Sys2Proof.Machine.execDspFrameStart s
  | .dspFrameEnd dur dramError => Sys2Proof.Machine.execDspFrameEnd dur dramError s
  | .frameFree => Sys2Proof.Machine.execFrameFree s
  | .ageRecompute => Sys2Proof.Machine.execAgeRecompute s
  | .ageSave => Sys2Proof.Machine.execAgeSave s
  | .ageSense => Sys2Proof.Machine.execAgeSense s
  | .ageSenseRead sum => Sys2Proof.Machine.execAgeSenseRead sum s
  | .ageBaseline => Sys2Proof.Machine.execAgeBaseline s
  | .panelPowerOn => Sys2Proof.Machine.execPanelPowerOn s
  | .panelPowerOnStep => Sys2Proof.Machine.execPanelPowerOnStep s
  | .panelPowerOff => Sys2Proof.Machine.execPanelPowerOff s
  | .panelPowerOffStep => Sys2Proof.Machine.execPanelPowerOffStep s
  | .bpUpdateStart temp panelFault => Sys2Proof.Machine.execBpUpdateStart temp panelFault s
  | .bpBusyFall image panelFault => Sys2Proof.Machine.execBpBusyFall image panelFault s
  | .bpFaultRetry temp panelFault => Sys2Proof.Machine.execBpFaultRetry temp panelFault s
  | .perst asserted => Sys2Proof.Machine.execPerst asserted s
  | .pcieLinkDown => Sys2Proof.Machine.execPcieLinkDown s
  | .wlockSet => Sys2Proof.Machine.execWlockSet s
  | .lockedWrite addr value => Sys2Proof.Machine.execLockedWrite addr value s
  | .ringEnable ring value => Sys2Proof.Machine.execRingEnable ring value s
  | .ringDisable ring value => Sys2Proof.Machine.execRingDisable ring value s
  | .sqDoorbell ring tail => Sys2Proof.Machine.execSqDoorbell ring tail s
  | .cqDoorbell ring head => Sys2Proof.Machine.execCqDoorbell ring head s
  | .descriptorFetch ring fetched => Sys2Proof.Machine.execDescriptorFetch ring fetched s
  | .coalTimer ring => Sys2Proof.Machine.execCoalTimer ring s
  | .msixTableWrite w => Sys2Proof.Machine.execMsixTableWrite w s
  | .nop req => Sys2Proof.Machine.execNop req s
  | .marker req cycle angle => Sys2Proof.Machine.execMarker req cycle angle s
  | .markerCancel req target => Sys2Proof.Machine.execMarkerCancel req target s
  | .timeSet req utc => Sys2Proof.Machine.execTimeSet req utc s
  | .modeReq req target prepOff => Sys2Proof.Machine.execModeReq req target prepOff s
  | .shadowWrite req pairs => Sys2Proof.Machine.execShadowWrite req pairs s
  | .cgArm req members maxDefer target => Sys2Proof.Machine.execCgArm req members maxDefer target s
  | .cgCancel req => Sys2Proof.Machine.execCgCancel req s
  | .nsSeq req wait pairs => Sys2Proof.Machine.execNsSeq req wait pairs s
  | .accRead req kind index xfer => Sys2Proof.Machine.execAccRead req kind index xfer s
  | .calLoad req instant words => Sys2Proof.Machine.execCalLoad req instant words s
  | .calCtrl req command => Sys2Proof.Machine.execCalCtrl req command s
  | .pricePublish req table words => Sys2Proof.Machine.execPricePublish req table words s
  | .mdReset req creq => Sys2Proof.Machine.execMdReset req creq s
  | .legExport req first length xfer => Sys2Proof.Machine.execLegExport req first length xfer s
  | .legAck req seq => Sys2Proof.Machine.execLegAck req seq s
  | .sessionStart req outlet ptable auth kind ident => Sys2Proof.Machine.execSessionStart req outlet ptable auth kind ident s
  | .sessionStop req sessionId => Sys2Proof.Machine.execSessionStop req sessionId s
  | .authList req mode version buffer => Sys2Proof.Machine.execAuthList req mode version buffer s
  | .lswCmd req channel on off dur => Sys2Proof.Machine.execLswCmd req channel on off dur s
  | .dspWrite req offset data => Sys2Proof.Machine.execDspWrite req offset data s
  | .dspPublish req offset crc => Sys2Proof.Machine.execDspPublish req offset crc s
  | .attest req nonce xfer => Sys2Proof.Machine.execAttest req nonce xfer s
  | .updOpen req src buffer sigOk => Sys2Proof.Machine.execUpdOpen req src buffer sigOk s
  | .updChunk req src chunk data readback => Sys2Proof.Machine.execUpdChunk req src chunk data readback s
  | .updVerify req src => Sys2Proof.Machine.execUpdVerify req src s
  | .updVerifyDone => Sys2Proof.Machine.execUpdVerifyDone s
  | .updActivate req src => Sys2Proof.Machine.execUpdActivate req src s
  | .activationPlaced => Sys2Proof.Machine.execActivationPlaced s
  | .privQuiesce => Sys2Proof.Machine.execPrivQuiesce s
  | .updConfirm req src => Sys2Proof.Machine.execUpdConfirm req src s
  | .updAbort req src => Sys2Proof.Machine.execUpdAbort req src s
  | .updQuery req => Sys2Proof.Machine.execUpdQuery req s
  | .updIdleTimeout => Sys2Proof.Machine.execUpdIdleTimeout s
  | .confirmTimeout since => Sys2Proof.Machine.execConfirmTimeout since s
  | .confirmTimerSave => Sys2Proof.Machine.execConfirmTimerSave s
  | .rollbackRestart => Sys2Proof.Machine.execRollbackRestart s
  | .hello h unit addr tentative nport rate rated flags => Sys2Proof.Machine.execHello h unit addr tentative nport rate rated flags s
  | .helloTick port => Sys2Proof.Machine.execHelloTick port s
  | .claim h unit addr => Sys2Proof.Machine.execClaim h unit addr s
  | .addrClaimValid => Sys2Proof.Machine.execAddrClaimValid s
  | .lsa h unit lsaSeq rated flags links => Sys2Proof.Machine.execLsa h unit lsaSeq rated flags links s
  | .lsaRefresh => Sys2Proof.Machine.execLsaRefresh s
  | .lsaAgeOut addr => Sys2Proof.Machine.execLsaAgeOut addr s
  | .sync h sync rxTime => Sys2Proof.Machine.execSync h sync rxTime s
  | .syncTick port => Sys2Proof.Machine.execSyncTick port s
  | .demand h demand => Sys2Proof.Machine.execDemand h demand s
  | .allocCollectionClose => Sys2Proof.Machine.execAllocCollectionClose s
  | .grant h round digest milliner segment segments items => Sys2Proof.Machine.execGrant h round digest milliner segment segments items s
  | .grantTimeout => Sys2Proof.Machine.execGrantTimeout s
  | .partitionHoldEnd => Sys2Proof.Machine.execPartitionHoldEnd s
  | .resume h round milliner => Sys2Proof.Machine.execResume h round milliner s
  | .replicaOpen h body => Sys2Proof.Machine.execReplicaOpen h body s
  | .replicaUpdate h body => Sys2Proof.Machine.execReplicaUpdate h body s
  | .replicaAck h sessionId cycle result => Sys2Proof.Machine.execReplicaAck h sessionId cycle result s
  | .replicaClose h sessionId reason seq => Sys2Proof.Machine.execReplicaClose h sessionId reason seq s
  | .replicaHolderLost sessionId holder => Sys2Proof.Machine.execReplicaHolderLost sessionId holder s
  | .replicaPlaceRetry outlet => Sys2Proof.Machine.execReplicaPlaceRetry outlet s
  | .replicaCloseRetry sessionId holder => Sys2Proof.Machine.execReplicaCloseRetry sessionId holder s
  | .replicaAdopt ctx primaryAlso => Sys2Proof.Machine.execReplicaAdopt ctx primaryAlso s
  | .settled h sessionId origin settler adopted seq => Sys2Proof.Machine.execSettled h sessionId origin settler adopted seq s
  | .leave h unit reason => Sys2Proof.Machine.execLeave h unit reason s
  | .wake port => Sys2Proof.Machine.execWake port s
  | .forget h addr unit => Sys2Proof.Machine.execForget h addr unit s
  | .rate port standby => Sys2Proof.Machine.execRate port standby s
  | .portLock port full => Sys2Proof.Machine.execPortLock port full s
  | .portTrainTimeout port => Sys2Proof.Machine.execPortTrainTimeout port s
  | .portLockLoss port neighbourPower => Sys2Proof.Machine.execPortLockLoss port neighbourPower s
  | .portErrRead port => Sys2Proof.Machine.execPortErrRead port s
  | .fabCtrlForget addr retry => Sys2Proof.Machine.execFabCtrlForget addr retry s
  | .fabCtrlRetry => Sys2Proof.Machine.execFabCtrlRetry s
  | .deriveRequest cls isSealed accesses => Sys2Proof.Machine.execDeriveRequest cls isSealed accesses s
  | .remask => Sys2Proof.Machine.execRemask s
  | .entropyOutput rctOk aptOk starting => Sys2Proof.Machine.execEntropyOutput rctOk aptOk starting s
  | .xmssSign readback => Sys2Proof.Machine.execXmssSign readback s
  | .xmssVerify ok who => Sys2Proof.Machine.execXmssVerify ok who s
  | .keygen => Sys2Proof.Machine.execKeygen s
  | .keygenDone => Sys2Proof.Machine.execKeygenDone s
  | .dbgChal => Sys2Proof.Machine.execDbgChal s
  | .dbgResp response sigOk => Sys2Proof.Machine.execDbgResp response sigOk s
  | .tlsHandshakeMessage session peer ev => Sys2Proof.Machine.execTlsHandshakeMessage session peer ev s
  | .csrSign req peer newGeneration request => Sys2Proof.Machine.execCsrSign req peer newGeneration request s
  | .siteKeyDelivery keyId activation key authentic => Sys2Proof.Machine.execSiteKeyDelivery keyId activation key authentic s
  | .siteKeyActivate keyId since => Sys2Proof.Machine.execSiteKeyActivate keyId since s
  | .faultReport reports => Sys2Proof.Machine.execFaultReport reports s
  | .faultCleared source => Sys2Proof.Machine.execFaultCleared source s
  | .quietTimerExpiry source => Sys2Proof.Machine.execQuietTimerExpiry source s
  | .escalationCheck source => Sys2Proof.Machine.execEscalationCheck source s
  | .clearRetire source => Sys2Proof.Machine.execClearRetire source s
  | .clearRecov source => Sys2Proof.Machine.execClearRecov source s
  | .faultForceWrite w value => Sys2Proof.Machine.execFaultForceWrite w value s
  | .blotterWrite => Sys2Proof.Machine.execBlotterWrite s
  | .bltLatch => Sys2Proof.Machine.execBltLatch s
  | .bltNext => Sys2Proof.Machine.execBltNext s
  | .bltLatchDone => Sys2Proof.Machine.execBltLatchDone s
  | .aonPowerOn => Sys2Proof.Machine.execAonPowerOn s
  | .blockResetComplete block => Sys2Proof.Machine.execBlockResetComplete block s
  | .lswGroupWithinBudget groupB current => Sys2Proof.Machine.execLswGroupWithinBudget groupB current s
  | .feltFrameRejected h typ why => Sys2Proof.Machine.execFeltFrameRejected h typ why s
  | .blankToFactory unit img0 img1 prov dbg => Sys2Proof.Machine.execBlankToFactory unit img0 img1 prov dbg s
  | .pcieLinkUp speed width => Sys2Proof.Machine.execPcieLinkUp speed width s
  | .authorizationReq outlet pnc chainOk ident ptable => Sys2Proof.Machine.execAuthorizationReq outlet pnc chainOk ident ptable s
  | .chargeParameterDiscoveryReq outlet bpt dynamic schedules => Sys2Proof.Machine.execChargeParameterDiscoveryReq outlet bpt dynamic schedules s
  | .hlcTimeout outlet => Sys2Proof.Machine.execHlcTimeout outlet s
  | .ocppSetVariables id value => Sys2Proof.Machine.execOcppSetVariables id value s
  | .ocppSetDisplayMessage text => Sys2Proof.Machine.execOcppSetDisplayMessage text s
  | .ocppGetLog first count monitor => Sys2Proof.Machine.execOcppGetLog first count monitor s

end Sys2Proof.Machine
end

