-- ==== Sys2Proof/Safety.lean ====
section
/-! DEFINITION. What claims call a sound state and a safe run: the memory has its one form, and no step stops. -/

namespace Sys2Proof

open Machine

/-- The invariant of every state a step can reach: the memory of the LPDDR4X die lists rising addresses and no byte
that reads 0. -/
def Inv (s : State) : Prop := Memory.wf s.dram = true

/-- R427: every fuse bit blown in f is blown in g, a field programmed in f keeps its value in g, but for a root secret
whose unblown bits are blown in Scrapped, and no rollback counter of f is higher than in g. -/
def FusesKept (f g : Fuses) : Prop :=
  f.lcs &&& g.lcs = f.lcs ∧ f.revoke &&& g.revoke = f.revoke
    ∧ (f.rootSet = true → g.rootSet = true ∧ g.scramble = f.scramble ∧
        (g.root = f.root ∨ (g.state = .scrapped ∧ f.root &&& g.root = f.root)))
    ∧ (f.unitSet = true → g.unitSet = true ∧ g.unit = f.unit)
    ∧ (f.legalDig.isSome = true → g.legalDig = f.legalDig) ∧ (f.img0.isSome = true → g.img0 = f.img0)
    ∧ (f.img1.isSome = true → g.img1 = f.img1) ∧ (f.prov.isSome = true → g.prov = f.prov)
    ∧ (f.dbg.isSome = true → g.dbg = f.dbg) ∧ ∀ k, f.rollback.getD k 0 ≤ g.rollback.getD k 0

/-- R64, R427, R428: a Blank module has no field of its fuses programmed: they are programmed as it becomes Factory. -/
def FusesSound (f : Fuses) : Prop :=
  f.state = .blank → f.rootSet = false ∧ f.unitSet = false ∧ f.img0 = none ∧ f.img1 = none ∧ f.prov = none ∧ f.dbg = none

/-- A step answers a next state. -/
def Steps (s : State) : Prop := ∃ t, step s = .next t

/-- The command answers a next state, of which P holds. -/
def Answers (i : Instr) (s : State) (P : State → Prop) : Prop := ∃ t, exec i s = .next t ∧ P t

/-- The queue, the fuses and the memory are as before. -/
def StoresKept (s t : State) : Prop := t.pending = s.pending ∧ t.fuses = s.fuses ∧ t.dram = s.dram

/-- The chip with the descriptor of a host request marked as started (R354); the service firmware has none. -/
def begun (c : Chip) (req : Requester) (op : Nat) : Chip :=
  match req with
  | .service _ => c
  | .host q tag => { c with host := { c.host with inflight := markStarted q tag op c.host.inflight } }

/-- The command has its effect and answers its request: P relates the chip before to the chip to which the answer is
then given. -/
def Replies (i : Instr) (s : State) (req : Requester) (op : Nat) (a : Answer) (P : Chip → Chip → Prop) : Prop :=
  Answers i s fun t => StoresKept s t ∧ ∃ e, P (begun s.chip req op) e ∧ t.chip = complete e req a

/-- The command has its effect and ends with a report to the collector (R457): P relates the chip before to the chip that
the report finds. -/
def Reports (i : Instr) (s : State) (src detail : Nat) (P : Chip → Chip → Prop) : Prop :=
  Answers i s fun t => StoresKept s t ∧ ∃ e, P s.chip e ∧ t.chip = reportSrc e src detail

/-- R52, R53, R56, R366: what a reset of the whole compute die leaves: mode Reset with its cause recorded, no function
ready but Nib, no group, no sequence, no booking and nothing in flight, SRAM under its wipe and on a cold reset DRAM,
the settings in force held and every shadow reloaded from them (log 48); the cycle count, the outputs of the power die
and Nib are held. -/
def ModuleReset (c d : Chip) (cause : ResetCause) (cold : Bool) : Prop :=
  d.sup.mode = .reset ∧ immBit d Reg.SUP_RST_CAUSE cause.bit = true ∧ d.sup.ready = c.sup.ready &&& 1 ∧
  d.sup.lcs = c.sup.lcs ∧ d.cg = CommitGroup.reset ∧ d.ns = NsState.reset ∧ d.tb.sched = [] ∧ d.host.inflight = [] ∧
  d.wipe.sramBusy = true ∧ d.wipe.dramBusy = (c.wipe.dramBusy || cold) ∧
  (∀ a, isShadowed a = true → liveGet d a = liveGet c a) ∧
  (sortedKeys c.live = true → ∀ a, isShadowed a = true → regGet d a = liveGet c a) ∧
  d.tb.cycle = c.tb.cycle ∧ (∀ o, { coilOf d o with pend := false } = { coilOf c o with pend := false }) ∧
  d.lsw = c.lsw ∧ d.nib = c.nib

/-- R140, R141, R145: what follows on the point of lane n, and on a calibration measurement, once the lane has changed
from its state in c to that in e. -/
def pointFollows (c e : Chip) (n : Nat) : Chip :=
  let d := match pointOfLane c n with
    | none => e
    | some m => pointChanged e m (pointState c m) 0 n
  calLeft d n (laneOf c n).state

/-- Every word of the register file outside a list is as before. -/
def RegsKeptBut (as : List Nat) (c d : Chip) : Prop := ∀ a, a ∉ as → regGet d a = regGet c a

/-- The parts of the chip, one for each field of `Chip`. -/
inductive Part where
  | regs | live | sup | wipe | cg | ns | tb | met | acc | tar | sess | leg | outl | saf | nib
  | pwd | lsw | dsp | age | bp | host | fab | repl | tru | upd | flt | blt | out | latched | freeCount
  deriving DecidableEq, Repr

/-- A part has the same value in two chips. -/
def samePart (c d : Chip) : Part → Prop
  | .regs => d.regs = c.regs
  | .live => d.live = c.live
  | .sup => d.sup = c.sup
  | .wipe => d.wipe = c.wipe
  | .cg => d.cg = c.cg
  | .ns => d.ns = c.ns
  | .tb => d.tb = c.tb
  | .met => d.met = c.met
  | .acc => d.acc = c.acc
  | .tar => d.tar = c.tar
  | .sess => d.sess = c.sess
  | .leg => d.leg = c.leg
  | .outl => d.outl = c.outl
  | .saf => d.saf = c.saf
  | .nib => d.nib = c.nib
  | .pwd => d.pwd = c.pwd
  | .lsw => d.lsw = c.lsw
  | .dsp => d.dsp = c.dsp
  | .age => d.age = c.age
  | .bp => d.bp = c.bp
  | .host => d.host = c.host
  | .fab => d.fab = c.fab
  | .repl => d.repl = c.repl
  | .tru => d.tru = c.tru
  | .upd => d.upd = c.upd
  | .flt => d.flt = c.flt
  | .blt => d.blt = c.blt
  | .out => d.out = c.out
  | .latched => d.latched = c.latched
  | .freeCount => d.freeCount = c.freeCount

/-- Every part of the chip outside a list is as before. -/
def ChipKeptBut (ps : List Part) (c d : Chip) : Prop := ∀ p, p ∉ ps → samePart c d p

/-- Queue, fuses, memory and every part of the chip outside a list are as before. -/
def KeptBut (ps : List Part) (s t : State) : Prop := StoresKept s t ∧ ChipKeptBut ps s.chip t.chip

/-- R51, R445: a modem's message is acted on at once: the outlet region is not fenced, the module not in Hold-up, and the
outlet firmware not being placed. -/
def modemsRun (c : Chip) : Bool := !fenced c .out && c.sup.mode != .holdUp && !outletPlacing c

/-- R350: the service firmware runs. -/
def svcRuns (c : Chip) : Bool := ready c .svc && !fenced c .svc

/-- R254, R350: the service firmware runs and takes a vehicle's messages over a modem. -/
def hlcRuns (c : Chip) : Bool := svcRuns c && modemsRun c

/-- Every outlet but o is as before. -/
def OthersKept (o : Nat) (c d : Chip) : Prop := ∀ p, p ≠ o → outletOf d p = outletOf c p

/-- R271, R274: the coil of outlet o is not driven, its command is off and the processor's permission clear. -/
def CoilOff (d : Chip) (o : Nat) : Prop :=
  (coilOf d o).driven = false ∧ (coilOf d o).cmd = false ∧ d.saf.permit.getLsbD o = false

/-- R257: outlet o opens: OPENING until its booked instant or the end of its ramp, or at once WELD_CHECK with its coil
off. -/
def Opens (c d : Chip) (o : Nat) (why : StopWhy) : Prop :=
  ChipKeptBut [.freeCount, .host, .out, .outl, .pwd, .regs, .saf, .tb] c d ∧ OthersKept o c d ∧
  (outletOf d o).why = why ∧ ((outletOf d o).state = .opening ∨ ((outletOf d o).state = .weldCheck ∧ CoilOff d o))

/-- R257, R289: outlet o is FAULTED (unless it is UNAVAILABLE), its coil off and its session stopped. -/
def FaultedAt (c d : Chip) (o : Nat) : Prop :=
  OthersKept o c d ∧ ((outletOf c o).state ≠ .unavailable → (outletOf d o).state = .faulted) ∧ CoilOff d o ∧
  (∀ x, liveCtx c o = some x → (ctxOf c x).bstate = .live → (ctxOf d x).bstate = .settling)

/-- R272, R289: the channel that acts on a trip condition, if any: a processor that does not run sees none, and what both have
seen is then Nib's. -/
def seenBy (c : Chip) (ch : Channel) : Option Channel :=
  if procAnswers c then some ch else if ch = .processor then none else some .nib

/-- R289, R299: a trip of outlet o for a cause: FAULTED, latched, counted and recorded; Nib's line withdrawn where Nib
saw it. -/
def Tripped (c d : Chip) (o : Nat) (sf : Sf) (ch : Channel) : Prop :=
  ChipKeptBut [.acc, .blt, .host, .nib, .out, .outl, .pwd, .regs, .saf, .sess, .tb] c d ∧ FaultedAt c d o ∧
  (o, sf) ∈ d.saf.latches ∧ d.saf.trips = (c.saf.trips + 1) % 2 ^ 16 ∧ d.saf.lastOutlet = o ∧ d.saf.lastSf = sf.num ∧
  d.saf.lastChannel = ch.code ∧ immBit d Reg.SAF_EVT (sf.num - 1) = true ∧
  (ch ≠ .processor → d.nib.gate.getLsbD o = false ∧ d.nib.latch.getLsbD o = true)

/-- R273, R300: Nib withdraws the line of outlet o for a cause and its coil is released. -/
def Withdrawn (c d : Chip) (o cause : Nat) : Prop :=
  ChipKeptBut [.nib, .out, .outl, .pwd] c d ∧ OthersKept o c d ∧ d.nib.gate = setBitV c.nib.gate o false ∧
  tget 0 d.nib.causes o = cause ∧ (coilOf d o).driven = false

/-- Every load-switch channel but n is as before. -/
def OtherChansKept (n : Nat) (c d : Chip) : Prop := ∀ k, k ≠ n → lswOf d k = lswOf c k

/-- R311: the next trip of channel n takes TRIPS above RETRY: the channel latches. -/
def lswLatches (c : Chip) (n : Nat) : Bool := decide (cfg c (Reg.LSW_CFG n) 19 17 < min 8 ((lswOf c n).trips + 1))

/-- R311, R312: channel n has tripped: COOL in its episode, or LATCHED once TRIPS exceeds RETRY. -/
def LswTripped (n : Nat) (c e : Chip) : Prop :=
  ChipKeptBut [.host, .lsw, .out, .pwd, .regs] c e ∧ OtherChansKept n c e ∧ RegsKeptBut [Reg.LSW_EVT n] c e ∧
  (lswOf e n).trips = min 8 ((lswOf c n).trips + 1) ∧ (lswOf e n).episode = !lswLatches c n ∧
  (lswOf e n).state = (if lswLatches c n then .latched else .cool) ∧
  immBit e (Reg.LSW_EVT n) 0 = true

/-- R374, R375, R380: this module uses a frame: it holds the key, the port is up, the frame has not run out of hops, is
for this module and is not held already. -/
def usesFrame (c : Chip) (h : FeltHdr) (typ : Nat) : Bool :=
  keyOk c && portUp (fport c h.port.val) && h.ttl != 0 && forMe c h typ && !stale c h typ

/-- R375, R381: a frame is held, and a flood has gone on. -/
def noted (c : Chip) (h : FeltHdr) (typ : Nat) (flood : Bool) : Chip :=
  let d := if flood then forwardFlood c h typ else c
  { d with fab := { d.fab with heard := tput d.fab.heard (64 * h.src + typ) (h.epoch, h.seq) } }

/-- R376: the header, the TYPE and the delivery (a flood or not) of the frame that a command receives. -/
def frameOf : Instr → Option (FeltHdr × Nat × Bool)
  | .hello h _ _ _ _ _ _ _ => some (h, 0x01, false)
  | .claim h _ _ => some (h, 0x02, true)
  | .lsa h _ _ _ _ _ => some (h, 0x03, true)
  | .sync h _ _ => some (h, 0x04, false)
  | .demand h _ => some (h, 0x05, true)
  | .grant h _ _ _ _ _ _ => some (h, 0x06, true)
  | .replicaOpen h _ => some (h, 0x07, false)
  | .replicaUpdate h _ => some (h, 0x08, false)
  | .replicaAck h _ _ _ => some (h, 0x09, false)
  | .replicaClose h _ _ _ => some (h, 0x0A, false)
  | .settled h _ _ _ _ _ => some (h, 0x0B, true)
  | .leave h _ _ => some (h, 0x0C, true)
  | .forget h _ _ => some (h, 0x0E, true)
  | .resume h _ _ => some (h, 0x10, true)
  | _ => none

/-- R375, R377: the frame is a flood of this module's own, come back: a CLAIM or LSA by its UNIT, the others by SRC. -/
def ownEcho (c : Chip) : Instr → Bool
  | .claim _ u _ => u == c.tru.unit
  | .lsa _ u _ _ _ _ => u == c.tru.unit
  | i => match frameOf i with
    | some (h, _, true) => h.src == c.fab.addr
    | _ => false

/-- R380: where a member can be reached over a port that carries the TYPE, the frame has been sent to it. -/
def Sends (c d : Chip) (typ dst : Nat) (payload : List Byte) : Prop :=
  ∀ p, portToward c dst = some p → keyOk c = true → reachable c dst = true → carries c p typ = true →
    .felt p (feltFrame c typ dst payload) ∈ d.out

/-- Every session context but x is as before. -/
def OtherCtxsKept (x : Nat) (c d : Chip) : Prop := ∀ y, y ≠ x → ctxOf d y = ctxOf c y

/-- R457, R461, R462: the collector takes a report of a source. -/
def Accepts (c : Chip) (s : Nat) : Prop :=
  s < 152 ∧ c.flt.restored = true ∧ underReset c (ownerBlock s) = false ∧ ownerSilent c s = false

/-- R16, R350, R354: a request may be admitted: the service firmware runs, or the descriptor stands in flight and may
start. -/
def admitted (c : Chip) (req : Requester) (op : Nat) : Bool :=
  match req with
  | .service _ => ready c .svc
  | .host q tag => mayStart [] c.host.inflight q tag op

/-- R347, R359: the operand of a command is one that the hardware can be sent: an address within BAR2, a descriptor of 64
bytes. -/
def wellSent : Instr → Bool
  | .registerWrite a _ => decide (a < 0x8000000)
  | .unmappedAccess a _ => decide (a < 0x8000000)
  | .fencedWindowAccess a _ => decide (a < 0x8000000)
  | .descriptorFetch _ (.desc bs) => bs.length == 64
  | _ => true

end Sys2Proof
end

