-- ==== Sys2Proof/Certificates/Slice0/Obligations.lean ====
section
/-! DEFINITION. The statements for the provers: the commands family by family, then the machine as a whole. -/

open Sys2Proof Sys2Proof.Machine

/-- REGISTER_WRITE, UNMAPPED_ACCESS and FENCED_WINDOW_ACCESS below the end of BAR2 (R7, R8, R10, R16, R35, R348).
Rests on the model's choices of log 41, 42, 47. -/
def Obligations.RegisterAccess : Prop :=
  -- a write of 1 clears the bit of a W1C register, and nothing else changes
  (∀ (s : State) (a : Nat) (w : Word) (r : RegRow), a < 0x7800000 → a % 4 = 0 → regRow a = some r → r.acc = .w1c →
    a / 0x10000 ≠ 0x701 → windowClosed s.chip a = false → lockedOut s.chip a = false →
    Answers (.registerWrite a w) s fun t => KeptBut [.regs] s t ∧
      regGet t.chip a = regGet s.chip a &&& ~~~(w &&& r.wmask) ∧ RegsKeptBut [a] s.chip t.chip) ∧
  -- a shadowed register outside an armed group takes the written bits into its shadow; the live value stays
  (∀ (s : State) (a : Nat) (w : Word) (r : RegRow), a < 0x7800000 → a % 4 = 0 → regRow a = some r → r.acc = .rw →
    isShadowed a = true → ¬ (0x20000 ≤ a ∧ a < 0x20800) → shadowBlocked s.chip a = false →
    windowClosed s.chip a = false → lockedOut s.chip a = false →
    Answers (.registerWrite a w) s fun t => KeptBut [.regs] s t ∧
      regGet t.chip a = (regGet s.chip a &&& ~~~r.wmask) ||| (w &&& r.wmask) ∧ RegsKeptBut [a] s.chip t.chip) ∧
  -- while the member of the register belongs to an armed group the write is discarded and CFG_BLOCKED is set
  (∀ (s : State) (a : Nat) (w : Word) (r : RegRow), a < 0x7800000 → a % 4 = 0 → regRow a = some r → r.acc = .rw →
    isShadowed a = true → shadowBlocked s.chip a = true →
    windowClosed s.chip a = false → lockedOut s.chip a = false →
    Answers (.registerWrite a w) s fun t => KeptBut [.regs, .host, .out] s t ∧
      immBit t.chip Reg.SUP_CG_EVT 2 = true ∧ RegsKeptBut [Reg.SUP_CG_EVT] s.chip t.chip) ∧
  -- a write to a read-only register changes nothing
  (∀ (s : State) (a : Nat) (w : Word) (r : RegRow), a < 0x7800000 → a % 4 = 0 → regRow a = some r → r.acc = .ro →
    lockedOut s.chip a = false → exec (.registerWrite a w) s = .next s) ∧
  -- while WLOCK is set a write outside the HST frame is discarded and LOCKED_WRITE is set
  (∀ (s : State) (a : Nat) (w : Word), a < 0x8000000 → lockedOut s.chip a = true → noRegister a = false →
    Answers (.registerWrite a w) s fun t => KeptBut [.regs, .host, .out] s t ∧ immBit t.chip Reg.HST_EVT 4 = true ∧
      RegsKeptBut [Reg.HST_EVT] s.chip t.chip) ∧
  -- an access to an offset of no register: a read returns 0, and the access-fault source of the region reports
  (∀ (s : State) (a : Nat), a < 0x8000000 → windowClosed s.chip a = false →
    Reports (.unmappedAccess a false) s (124 + (accessRegion a).idx) 0 fun c e =>
      e.out = .readData a 0#32 :: c.out ∧ ChipKeptBut [.out] c e) ∧
  (∀ (s : State) (a : Nat), a < 0x8000000 → windowClosed s.chip a = false → lockedOut s.chip a = false →
    Reports (.unmappedAccess a true) s (124 + (accessRegion a).idx) 0 fun c e => e = c) ∧
  -- an access to the window of a fenced region: a read returns 0, a write is discarded, no access fault
  (∀ (s : State) (a : Nat), a < 0x8000000 → windowClosed s.chip a = true →
    Answers (.fencedWindowAccess a false) s fun t => KeptBut [.out] s t ∧
      t.chip.out = .readData a 0#32 :: s.chip.out) ∧
  (∀ (s : State) (a : Nat), a < 0x8000000 → windowClosed s.chip a = true → lockedOut s.chip a = false →
    exec (.fencedWindowAccess a true) s = .next s)

/-- The commit group's commands where they act: CG_CTRL_ARM, CG_CTRL_CANCEL, CG_POLL, POWER_DIE_CONFIRM,
PD_CONFIRM_TIMEOUT, CG_ARM, CG_CANCEL, SHADOW_WRITE (R30 to R38, R362). Rests on the model's choices of log 13, 39,
49, 65, 68. -/
def Obligations.CommitGroupCommands : Prop :=
  -- ARM with no group active, the cycle known and the target 0 or two cycles ahead
  (∀ (s : State) (m : BitVec 8) (d : BitVec 4), windowClosed s.chip Reg.SUP_CG_CTRL = false →
    cgActive s.chip = false → s.chip.tb.known = true →
    (cgTarget s.chip = 0 ∨ s.chip.tb.cycle + 2 ≤ cgTarget s.chip) →
    Answers (.cgCtrlArm m d) s fun t => KeptBut [.cg, .regs] s t ∧ RegsKeptBut [Reg.SUP_CG_CTRL] s.chip t.chip ∧
      t.chip.cg.state = .armed ∧ t.chip.cg.members = m ∧ t.chip.cg.maxDefer = min d.toNat 8 ∧
      t.chip.cg.deferrals = 0 ∧ t.chip.cg.src = 0 ∧ t.chip.cg.locked = false ∧
      t.chip.cg.target = (if cgTarget s.chip = 0 then s.chip.tb.cycle + 2 else cgTarget s.chip)) ∧
  -- CANCEL of an active group loads its members' shadows from the live values again
  (∀ (s : State) (m : BitVec 8) (d : BitVec 4), windowClosed s.chip Reg.SUP_CG_CTRL = false →
    cgActive s.chip = true → sortedKeys s.chip.live = true →
    Answers (.cgCtrlCancel m d) s fun t => StoresKept s t ∧ t.chip.cg.state = .cancelled ∧ t.chip.cg.locked = false ∧
      t.chip.live = s.chip.live ∧ t.chip.tb = s.chip.tb ∧
      ∀ a, memberShadow s.chip.cg.members a = true → regGet t.chip a = liveGet s.chip a) ∧
  -- a poll, once the bookings before angle 64,512 have fired: with no member refusing, it locks the group; refused for
  -- other causes than UPDATE and POWER, it defers it
  (∀ (s : State) (k : Bool), let c := reachInstant s.chip 64512 0 0
    cgActive c = true → c.cg.locked = false → c.tb.cycle + 1 = c.cg.target + c.cg.deferrals → pollWord c k = 0#32 →
    Answers (.cgPoll k) s fun t => StoresKept s t ∧ ChipKeptBut [.cg] c t.chip ∧ t.chip.cg.locked = true ∧
      t.chip.cg.refuse = 0#32 ∧ t.chip.cg.state = c.cg.state) ∧
  (∀ (s : State) (k : Bool), let c := reachInstant s.chip 64512 0 0
    cgActive c = true → c.cg.locked = false → c.tb.cycle + 1 = c.cg.target + c.cg.deferrals → pollWord c k ≠ 0#32 →
    refusedFor (pollWord c k) 4 = false → refusedFor (pollWord c k) 5 = false → c.cg.deferrals < c.cg.maxDefer →
    Answers (.cgPoll k) s fun t => StoresKept s t ∧ ChipKeptBut [.cg] c t.chip ∧ t.chip.cg.state = .deferred ∧
      t.chip.cg.deferrals = c.cg.deferrals + 1 ∧ t.chip.cg.refuse = pollWord c k ∧ t.chip.cg.locked = false) ∧
  -- the power die's confirmation takes the values sent into force; its absence raises POWER_LINK and changes none
  (∀ (s : State) (sent : Tab Word), s.chip.cg.pdSent = some sent →
    Answers .powerDieConfirm s fun t => StoresKept s t ∧ t.chip.cg.pdSent = none ∧ t.chip.pwd.linkUp = true ∧
      t.chip.live = sent.foldl (fun t e => tput t e.1 e.2) (s.chip.live.filter (fun e => !memberShadow 0x80 e.1))) ∧
  (∀ (s : State), s.chip.cg.pdSent.isSome = true →
    Reports .pdConfirmTimeout s 117 0 fun c e => ChipKeptBut [.cg] c e ∧ e.cg.pdSent = none) ∧
  -- CG_ARM by a descriptor or the service firmware is answered when the group ends
  (∀ (s : State) (req : Requester) (m : BitVec 8) (d : BitVec 4) (target : Nat),
    performs s.chip req 0x0102 .supervisor = true → cgActive s.chip = false → s.chip.tb.known = true →
    (target = 0 ∨ s.chip.tb.cycle + 2 ≤ target) →
    Answers (.cgArm req m d target) s fun t => StoresKept s t ∧ ChipKeptBut [.cg] (begun s.chip req 0x0102) t.chip ∧
      t.chip.cg.state = .armed ∧ t.chip.cg.members = m ∧ t.chip.cg.owner = some req ∧
      t.chip.cg.src = ownerCode req ∧
      t.chip.cg.target = (if target = 0 then s.chip.tb.cycle + 2 else target)) ∧
  (∀ (s : State) (req : Requester), performs s.chip req 0x0103 .supervisor = true → cgActive s.chip = true →
    Replies (.cgCancel req) s req 0x0103 { ansOk with aux := s.chip.cg.state.code } fun c e =>
      e.cg.state = .cancelled ∧ e.live = c.live ∧ e.tb = c.tb) ∧
  -- SHADOW_WRITE: every pair, where each names a shadowed register that may be written
  (∀ (s : State) (req : Requester) (ps : List (Word × Word)), performs s.chip req 0x0101 .supervisor = true →
    ps ≠ [] → ps.length ≤ 512 → (∀ p ∈ ps, isShadowed p.1.toNat = true ∧ (regRow p.1.toNat).isSome = true ∧
      shadowFenced s.chip p.1.toNat = false ∧ shadowBlocked s.chip p.1.toNat = false) →
    Replies (.shadowWrite req (some ps)) s req 0x0101 ansOk fun c e => ChipKeptBut [.regs] c e ∧
      RegsKeptBut (ps.map (fun p => p.1.toNat)) c e ∧
      ∀ a w r, ps.getLast? = some (a, w) → regRow a.toNat = some r → ¬ (0x20000 ≤ a.toNat ∧ a.toNat < 0x20800) →
        regGet e a.toNat &&& r.wmask = w &&& r.wmask)

/-- Sequences of non-shadowable settings and posted writes of the power die: NS_WRITE, NS_SETTING_LANDED, NS_SEQ,
PWD_WRITE_LANDED, POWER_LINK_TIMEOUT, NIB_MIRROR_REFRESH (R19, R21, R22, R39 to R43, R478). Rests on the model's
choices of log 71. -/
def Obligations.SequenceAndPowerLinkCommands : Prop :=
  -- a write that changes a setting starts a sequence of its register's settings; no value has changed yet
  (∀ (s : State) (a : Nat) (w : Word), windowClosed s.chip a = false → isNs a = true → s.chip.ns.active = none →
    (∃ k ∈ nsSettings a w, nsOld s.chip k ≠ k.value) →
    Answers (.nsWrite a w) s fun t => KeptBut [.ns, .pwd, .regs, .host, .out] s t ∧ t.chip.regs = s.chip.regs ∧
      ∃ q, t.chip.ns.active = some q ∧ q.todo ≠ [] ∧ q.total = (nsSettings a w).length ∧ q.owner = none) ∧
  -- a second one queues; with one queued already the write is discarded and NS_REFUSED is set
  (∀ (s : State) (a : Nat) (w : Word), windowClosed s.chip a = false → isNs a = true → s.chip.ns.active.isSome = true → s.chip.ns.queued = none →
    Answers (.nsWrite a w) s fun t => KeptBut [.ns] s t ∧ t.chip.ns.active = s.chip.ns.active ∧
      ∃ q, t.chip.ns.queued = some q ∧ q.todo = nsSettings a w ∧ q.owner = none) ∧
  (∀ (s : State) (a : Nat) (w : Word), windowClosed s.chip a = false → isNs a = true → s.chip.ns.active.isSome = true →
    s.chip.ns.queued.isSome = true →
    Answers (.nsWrite a w) s fun t => KeptBut [.regs, .host, .out] s t ∧ immBit t.chip Reg.SUP_CG_EVT 5 = true ∧
      RegsKeptBut [Reg.SUP_CG_EVT] s.chip t.chip) ∧
  -- the setting under way lands: its register takes it, and one more is done
  (∀ (s : State) (q : NsSeq) (k k2 : NsSetting) (ks : List NsSetting), s.chip.ns.active = some q →
    q.todo = k :: k2 :: ks → nsHeld s.chip k = false → isNs k.reg = true → k2.reg ≠ k.reg →
    nsOld s.chip k2 ≠ k2.value →
    Answers .nsSettingLanded s fun t => KeptBut [.ns, .pwd, .regs, .fab, .host, .out] s t ∧
      regGet t.chip k.reg = withField (regGet s.chip k.reg) k.hi k.lo k.value ∧
      RegsKeptBut [k.reg] s.chip t.chip ∧
      ∃ q', t.chip.ns.active = some q' ∧ q'.done = q.done + 1 ∧ q'.todo = k2 :: ks ∧ q'.total = q.total) ∧
  -- the last one ends the sequence: NS_DONE
  (∀ (s : State) (q : NsSeq) (k : NsSetting), s.chip.ns.active = some q → s.chip.ns.queued = none →
    q.todo = [k] → nsHeld s.chip k = false → isNs k.reg = true →
    Answers .nsSettingLanded s fun t => KeptBut [.ns, .pwd, .regs, .fab, .host, .out] s t ∧
      regGet t.chip k.reg = withField (regGet s.chip k.reg) k.hi k.lo k.value ∧
      RegsKeptBut [k.reg, Reg.SUP_CG_EVT] s.chip t.chip ∧ immBit t.chip Reg.SUP_CG_EVT 4 = true ∧
      t.chip.ns.active = none ∧ t.chip.ns.lastDone = q.done + 1) ∧
  -- NS_SEQ submitted without waiting while one is active: queued, and answered PART with the number of settings
  (∀ (s : State) (req : Requester) (ps : List (Word × Word)), performs s.chip req 0x0104 .supervisor = true →
    ps ≠ [] → ps.length ≤ 255 → (∀ p ∈ ps, isNs p.1.toNat = true) → nsOwned s.chip req = false →
    s.chip.ns.active.isSome = true → s.chip.ns.queued = none →
    Replies (.nsSeq req false (some ps)) s req 0x0104
      { ansStatus .part with aux := (ps.flatMap (fun p => nsSettings p.1.toNat p.2)).length % 256 } fun c e =>
        ChipKeptBut [.ns] c e ∧ e.ns.active = c.ns.active ∧
        ∃ q, e.ns.queued = some q ∧ q.todo = ps.flatMap (fun p => nsSettings p.1.toNat p.2) ∧ q.owner = some req) ∧
  -- a posted write lands: it leaves the queue and is counted; a W1C register loses the bits written as 1
  (∀ (s : State) (m : LswMeas) (p : PwdWrite) (r : RegRow), nextPosted s.chip.pwd.posted = some p →
    s.chip.pwd.linkUp = true → regRow p.addr = some r → r.acc = .w1c →
    Answers (.pwdWriteLanded m) s fun t => KeptBut [.pwd, .regs] s t ∧
      t.chip.pwd.posted = s.chip.pwd.posted.erase p ∧ t.chip.pwd.linkUp = true ∧
      t.chip.pwd.writeSeq = (s.chip.pwd.writeSeq + 1) % 2 ^ 32 ∧
      regGet t.chip p.addr = regGet s.chip p.addr &&& ~~~p.value ∧ RegsKeptBut [p.addr] s.chip t.chip) ∧
  -- no valid frame: the link is down, the power die holds every output, and POWER_LINK reports
  (∀ (s : State), (∀ q, s.chip.ns.active = some q → q.todo.any (fun k => memberOf k.reg == 7) = false) →
    Reports .powerLinkTimeout s 117 0 fun c e => ChipKeptBut [.pwd, .tb] c e ∧ e.pwd.linkUp = false ∧
      e.pwd.coils = c.pwd.coils ∧ e.pwd.pilots = c.pwd.pilots) ∧
  -- a sequence with a setting for the power die ends DISCARDED with the link
  (∀ (s : State) (q : NsSeq), s.chip.ns.active = some q → q.todo.any (fun k => memberOf k.reg == 7) = true →
    Reports .powerLinkTimeout s 117 0 fun c e => ChipKeptBut [.fab, .host, .ns, .out, .pwd, .regs, .tb] c e ∧
      e.pwd.linkUp = false ∧ e.ns.active = none ∧ e.ns.queued = none ∧ e.ns.result = Status.discarded.code ∧
      ∀ o, (coilOf e o).driven = (coilOf c o).driven) ∧
  -- the mirror of Nib is refreshed: its words show Nib; a driver whose line reads open or contradictory is released
  (∀ (s : State) (bad : BitVec 8) (since : Nat), let c := runTo s.chip since
    Answers (.nibMirrorRefresh bad since) s fun t => StoresKept s t ∧
      ChipKeptBut [.regs, .saf, .sup, .flt, .pwd] c t.chip ∧
      RegsKeptBut [Reg.NIB_STATUS, Reg.NIB_SEAL, Reg.NIB_CAUSE, Reg.NIB_DEGRADED, Reg.NIB_QA] c t.chip ∧
      fieldOf (regGet t.chip Reg.NIB_STATUS) 7 0 = s.chip.nib.gate.toNat ∧
      fieldOf (regGet t.chip Reg.NIB_STATUS) 15 8 = s.chip.nib.latch.toNat ∧
      t.chip.saf.mirrorAt = some c.tb.aon ∧ t.chip.pwd.badLines = bad ∧
      ∀ o, o < 8 → bad.getLsbD o = true → (coilOf t.chip o).driven = false) ∧
  -- the channel has been healthy for 1 s: the loss of Nib is over
  (∀ (s : State) (bad : BitVec 8) (since u : Nat), let c := runTo s.chip since
    nibHealthy (setBadLines c bad) = true → overMs c c.saf.mirrorAt = false → c.saf.healthyFrom = some u →
    u + 2 ^ 32 ≤ c.tb.aon →
    Answers (.nibMirrorRefresh bad since) s fun t => t.chip.saf.nibOk = true ∧ SafeCause.nib ∉ t.chip.sup.safeCauses)

/-- The commands that reset the module: HOLDUP_RECOVERY, POWER_GOOD, POWER_GOOD_LOST, RST_N_RESET, RST_CTRL_MODULE,
RST_CTRL_COLD, WATCHDOG_EXPIRY, DEEP_STANDBY_WAKE (R50, R52 to R55, R63, R84). Rests on the model's choices of log 16,
44, 48, 50. -/
def Obligations.ModuleResetCommands : Prop :=
  (∀ (s : State) (v : Nat) (u : BitVec 6), s.chip.sup.mode = .holdUp →
    Answers (.holdupRecovery v u) s fun t => StoresKept s t ∧ ModuleReset s.chip t.chip .holdUp false ∧
      t.chip.pwd.holdup = false ∧ t.chip.pwd.vmain = v) ∧
  (∀ (s : State) (v : Nat) (u : BitVec 6), s.chip.sup.mode = .off →
    Answers (.powerGood v u) s fun t => StoresKept s t ∧ ModuleReset s.chip t.chip .cold true ∧
      t.chip.sup.fromOff = true ∧ t.chip.pwd.holdup = false) ∧
  (∀ (s : State) (r : Fin 8), s.chip.sup.mode ≠ .off →
    Answers (.powerGoodLost r) s fun t => StoresKept s t ∧ ModuleReset s.chip t.chip .cold true ∧
      t.chip.sup.held = true) ∧
  (∀ (s : State), s.chip.sup.mode ≠ .off → s.chip.sup.mode ≠ .holdUp →
    Answers .rstNReset s fun t => StoresKept s t ∧ ModuleReset s.chip t.chip .pin true) ∧
  (∀ (s : State), windowClosed s.chip Reg.SUP_RST_CTRL = false → mayAskReset s.chip = true → anyEnergised s.chip = false →
    Answers .rstCtrlModule s fun t => StoresKept s t ∧ ModuleReset s.chip t.chip .soft false) ∧
  (∀ (s : State), windowClosed s.chip Reg.SUP_RST_CTRL = false → mayAskReset s.chip = true → anyEnergised s.chip = false →
    Answers .rstCtrlCold s fun t => StoresKept s t ∧ ModuleReset s.chip t.chip .cold true) ∧
  (∀ (s : State), mayAskReset s.chip = true → Answers .watchdogExpiry s fun t => StoresKept s t ∧ ModuleReset s.chip t.chip .wdog false ∧
    t.chip.flt.waiting = [{ src := 151, level := 3, detail := 0, forced := false }]) ∧
  (∀ (s : State) (k : Fin 16), s.chip.sup.mode = .deepStandby → wakeEnabled s.chip k.val = true →
    (k.val = 0 ∨ k.val = 1 ∨ k.val = 5 ∨ 8 ≤ k.val) →
    Answers (.deepStandbyWake k) s fun t => StoresKept s t ∧ ModuleReset s.chip t.chip .deep false)

/-- R55: while an outlet is energised RST_CTRL_MODULE and RST_CTRL_COLD are refused, and so is a reset of the metering or
the outlet region; the watchdog and the fault collector are not. A reset of another region is taken, and RST_CTRL_REGION
then answers a next state in which that region is fenced and no longer ready. -/
def Obligations.SoftwareResetRefusal : Prop :=
  (∀ (s : State), windowClosed s.chip Reg.SUP_RST_CTRL = false → mayAskReset s.chip = true → anyEnergised s.chip = true →
    Answers .rstCtrlModule s fun t => KeptBut [.regs] s t ∧ immBit t.chip Reg.SUP_RST_CAUSE 31 = true ∧
      RegsKeptBut [Reg.SUP_RST_CAUSE] s.chip t.chip) ∧
  (∀ (s : State), windowClosed s.chip Reg.SUP_RST_CTRL = false → mayAskReset s.chip = true → anyEnergised s.chip = true →
    Answers .rstCtrlCold s fun t => KeptBut [.regs] s t ∧ immBit t.chip Reg.SUP_RST_CAUSE 31 = true ∧
      RegsKeptBut [Reg.SUP_RST_CAUSE] s.chip t.chip) ∧
  (∀ (s : State) (r : Region), windowClosed s.chip Reg.SUP_RST_CTRL = false → mayAskReset s.chip = true → anyEnergised s.chip = true → resetGuarded r = true →
    Answers (.rstCtrlRegion (BitVec.ofNat 7 (2 ^ r.idx))) s fun t => KeptBut [.regs] s t ∧
      immBit t.chip Reg.SUP_RST_CAUSE 31 = true ∧ RegsKeptBut [Reg.SUP_RST_CAUSE] s.chip t.chip) ∧
  (∀ r, resetGuarded r = true ↔ r = .met ∨ r = .out) ∧
  -- a reset by the watchdog or by the fault collector is never refused
  (∀ (s : State), mayAskReset s.chip = true → anyEnergised s.chip = true →
    Answers .watchdogExpiry s fun t => StoresKept s t ∧ ModuleReset s.chip t.chip .wdog false) ∧
  (∀ (s : State) (r : Report) (x : Src), anyEnergised s.chip = true → Accepts s.chip r.src → x = srcOf s.chip r.src →
    x.state = .ok ∨ x.state = .active ∨ x.state = .quiet → r.src ≠ 151 → reactOf s.chip r.src = 3 →
    occurrences s.chip { x with occ := (aonSec s.chip :: x.occ).take 15 } < permLimit s.chip r.src →
    s.chip.sup.mode ≠ .holdUp →
    Answers (.faultReport [r]) s fun t => StoresKept s t ∧ ModuleReset s.chip t.chip .fault false) ∧
  (∀ (s : State) (r : Region), windowClosed s.chip Reg.SUP_RST_CTRL = false → mayAskReset s.chip = true → r ≠ .sup → resetGuarded r = false →
    Answers (.rstCtrlRegion (BitVec.ofNat 7 (2 ^ r.idx))) s fun t => StoresKept s t ∧ fenced t.chip r = true ∧
      regionReady t.chip r = false ∧ t.chip.sup.mode = s.chip.sup.mode ∧
      immBit t.chip Reg.SUP_RST_CAUSE (11 + r.idx) = true) ∧
  (∀ (s : State) (r : Region), windowClosed s.chip Reg.SUP_RST_CTRL = false → mayAskReset s.chip = true → anyEnergised s.chip = false → resetGuarded r = true →
    Answers (.rstCtrlRegion (BitVec.ofNat 7 (2 ^ r.idx))) s fun t => StoresKept s t ∧ fenced t.chip r = true ∧
      regionReady t.chip r = false ∧ t.chip.pwd = s.chip.pwd ∧
      immBit t.chip Reg.SUP_RST_CAUSE (11 + r.idx) = true)

/-- Clocks, mode requests and wake events: CLOCK_LOSS, CLOCK_EXCURSION, REF_RESTORED, MODE_REQ_GO, MODE_REQ, PREP_DONE,
WAKE_EVENT, WAKE, RTC_ALARM (R24, R25, R47, R48, R60, R61, R86, R118, R372). Rests on the model's choices of log 31,
51, 72. -/
def Obligations.ClockAndModeCommands : Prop :=
  -- a lost or erring clock is reported by its own source; the loss of REF fences three regions besides
  (∀ (s : State) (d : Domain), dieRuns s.chip = true → d ≠ .ref → Reports (.clockLoss d) s (139 + d.idx) 0 fun c e => e = c) ∧
  (∀ (s : State), dieRuns s.chip = true → (reportSrc s.chip 140 0).sup.refLost = false →
    Answers (.clockLoss .ref) s fun t => StoresKept s t ∧ ∃ e, e.sup.refLost = true ∧ e.met.fallback = true ∧
      fenced e .svc = true ∧ fenced e .lnk = true ∧ fenced e .dsp = true ∧ t.chip = addDegCause e .refClock) ∧
  (∀ (s : State) (d : Domain), dieRuns s.chip = true → Reports (.clockExcursion d) s (139 + d.idx) 0 fun c e => e = c) ∧
  (∀ (s : State), dieRuns s.chip = true → s.chip.sup.refLost = true →
    s.chip.sup.mode ≠ .holdUp → s.chip.sup.mode ≠ .quarantine → s.chip.sup.quarantineDue = none →
    Answers .refRestored s fun t => StoresKept s t ∧ ∃ e, ChipKeptBut [.sup, .met] s.chip e ∧ e.sup.refLost = false ∧
      e.met.fallback = false ∧ e.met.dtCorr = 0x40000000 ∧ fenced e .svc = false ∧ fenced e .lnk = false ∧
      fenced e .dsp = false ∧ t.chip = dropDegCause (clearSrc (fabStart e) 140) .refClock) ∧
  (∀ (s : State), s.chip.sup.refLost = true → s.chip.sup.mode = .quarantine →
    Answers .refRestored s fun t => StoresKept s t ∧ t.chip.sup.refLost = false ∧ fenced t.chip .svc = false ∧
      fenced t.chip .lnk = false ∧ fenced t.chip .dsp = fenced s.chip .dsp ∧ t.chip.sup.mode = .quarantine) ∧
  -- GO with no request pending: accepted with CAUSE 1, or refused with the status of the first check that fails
  (∀ (s : State) (m : BitVec 4) (p : Bool), windowClosed s.chip Reg.SUP_MODE_REQ = false → dieRuns s.chip = true → s.chip.sup.modeReq = none →
    modeRefusal s.chip m.toNat = none →
    Answers (.modeReqGo m p) s fun t => KeptBut [.sup, .regs] s t ∧ RegsKeptBut [Reg.SUP_MODE_REQ] s.chip t.chip ∧
      t.chip.sup.mode = s.chip.sup.mode ∧ t.chip.sup.modeResult = Status.ok.code ∧
      t.chip.sup.modeReq = some { target := m.toNat, prepOff := p && m.toNat == 6, cause := 1, owner := none,
                                  accepted := true }) ∧
  (∀ (s : State) (m : BitVec 4) (p : Bool) (a : Answer), windowClosed s.chip Reg.SUP_MODE_REQ = false → dieRuns s.chip = true → s.chip.sup.modeReq = none →
    modeRefusal s.chip m.toNat = some a →
    Answers (.modeReqGo m p) s fun t => KeptBut [.sup, .regs] s t ∧ t.chip.sup.modeReq = none ∧
      t.chip.sup.modeResult = a.status.code) ∧
  (∀ (s : State) (req : Requester) (target : Nat), performs s.chip req 0x0005 .supervisor = true →
    s.chip.sup.modeReq = none → modeRefusal s.chip target = none →
    Replies (.modeReq req target false) s req 0x0005 ansOk fun c e => ChipKeptBut [.sup] c e ∧ e.sup.mode = c.sup.mode ∧
      e.sup.modeReq = some ⟨target, false, match req with | .service _ => 3 | .host _ _ => 2, none, true⟩) ∧
  -- preparation for the removal of supply ends: the counters are saved and the waiting request is answered
  (∀ (s : State), s.chip.sup.mode = .safeStop → s.chip.dsp.offKept = true → s.chip.sup.prepDone = false →
    s.chip.dsp.pstate = .off → s.chip.bp.busy = false →
    Answers .prepDone s fun t => StoresKept s t ∧ ∃ e, ChipKeptBut [.sup, .age] s.chip e ∧ e.sup.prepDone = true ∧
      e.age = (ageSave s.chip).age ∧ t.chip = completeOpt e s.chip.sup.prepOwner ansOk) ∧
  -- an enabled wake event ends Standby
  (∀ (s : State) (k : Fin 16), wakeEnabled s.chip k.val = true → s.chip.sup.mode = .standby → s.chip.sup.modeReq = none →
    s.chip.sup.degCauses = [] →
    Answers (.wakeEvent k) s fun t => StoresKept s t ∧ t.chip.sup.mode = .operational ∧ t.chip.sup.prevMode = .standby ∧
      t.chip.sup.modeCause = 8) ∧
  (∀ (s : State) (p : FPort), (fport s.chip p.val).state = .standby → wakeEnabled s.chip 3 = true →
    s.chip.sup.mode = .standby → s.chip.sup.modeReq = none → s.chip.sup.degCauses = [] →
    Answers (.wake p) s fun t => StoresKept s t ∧ t.chip.sup.mode = .operational ∧ t.chip.sup.modeCause = 8) ∧
  -- wall seconds equal to an alarm that is set raise ALARM; an alarm of 0 raises nothing
  (∀ (s : State) (since : Nat), let c := runTo s.chip since
    s.chip.sup.mode ≠ .off → s.chip.sup.mode ≠ .reset → s.chip.sup.mode ≠ .deepStandby → s.chip.sup.mode ≠ .standby →
    regGet c Reg.SUP_RTC_ALARM ≠ 0#32 → c.tb.wall / 2 ^ 32 % 2 ^ 32 = (regGet c Reg.SUP_RTC_ALARM).toNat →
    Answers (.rtcAlarm since) s fun t => StoresKept s t ∧ ChipKeptBut [.regs, .host, .out] c t.chip ∧
      immBit t.chip Reg.SUP_TB_EVT 6 = true ∧ RegsKeptBut [Reg.SUP_TB_EVT] c t.chip) ∧
  (∀ (s : State) (since : Nat), let c := runTo s.chip since
    regGet c Reg.SUP_RTC_ALARM = 0#32 → Answers (.rtcAlarm since) s fun t => StoresKept s t ∧ t.chip = c)

/-- The start after a reset: RESET_RELEASE, SRAM_WIPE_DONE, DRAM_WIPE_DONE, MRAM_WIPE_DONE, FUNCTION_READY,
READY_TIMEOUT, AON_POWER_ON, BLOCK_RESET_COMPLETE (R15, R50, R52, R53, R56, R57, R66, R67, R463). Rests on the model's
choices of log 15, 16, 32, 35, 48, 50, 72. -/
def Obligations.StartCommands : Prop :=
  -- the release: Bring-up begins in the lifecycle state of the fuses, the store restored
  (∀ (s : State) (el : Nat) (st : StoreCopy) (bad : List Nat) (cp : BitVec 4) (sp : Bool), s.chip.sup.mode = .reset →
    s.chip.sup.held = false → s.chip.flt.waiting = [] → DegCause.holdUp ∉ s.chip.sup.degCauses →
    ∃ t, exec (.resetRelease el st bad cp sp) s = .next t ∧ t.pending = s.pending ∧ t.dram = s.dram ∧
      t.fuses = startFuses s.fuses s.chip ∧
      ∃ e, e.sup.mode = .bringUp ∧ e.sup.lcs = t.fuses.state ∧ fenced e .sup = false ∧ e.flt.restored = true ∧
        e.tru.unit = t.fuses.unit ∧ t.chip = settleMode e) ∧
  -- the wipes: SRAM; DRAM, of which every byte then reads 0; the MRAM, whose epoch is then the new state
  (∀ (s : State) (u : Nat), s.chip.wipe.sramBusy = true →
    Answers (.sramWipeDone u) s fun t => KeptBut [.wipe] s t ∧ t.chip.wipe.sramBusy = false ∧
      t.chip.wipe.sramTime = min 255 u ∧ t.chip.wipe.dramBusy = s.chip.wipe.dramBusy) ∧
  (∀ (s : State) (u : Nat), s.chip.wipe.dramBusy = true →
    ∃ t, exec (.dramWipeDone u) s = .next t ∧ t.pending = s.pending ∧ t.fuses = s.fuses ∧
      (∀ a, mget t.dram a = 0#8) ∧ ChipKeptBut [.wipe] s.chip t.chip ∧ t.chip.wipe.dramBusy = false ∧
      t.chip.wipe.dramTime = min 255 u) ∧
  (∀ (s : State) (u : Nat), s.chip.wipe.mramBusy = true →
    Answers (.mramWipeDone u) s fun t => StoresKept s t ∧ ∃ e, ChipKeptBut [.wipe, .blt, .sup] s.chip e ∧
      e.wipe.mramBusy = false ∧ e.wipe.epoch = s.chip.sup.lcs ∧ e.wipe.progress = 255 ∧ e.blt.ready = true ∧
      e.sup.quarantineDue.isSome = true ∧ e.sup.mode = s.chip.sup.mode ∧ t.chip = settleMode e) ∧
  -- a ready bit rises and the fence of its region lifts
  (∀ (s : State) (f : Func) (bad : List Nat) (cp : BitVec 4) (sp : Bool) (age : BitVec 2), mayRise s.chip f = true →
    (f = .met → s.chip.acc.restored = true) → (f = .tru → s.chip.tru.chainsClosed = true) →
    functionMet s.chip f = true →
    Answers (.functionReady f bad cp sp age) s fun t => StoresKept s t ∧ ∃ e, ChipKeptBut [.sup] s.chip e ∧
      ready e f = true ∧ (∀ r, f.region = some r → fenced e r = false) ∧ e.sup.mode = s.chip.sup.mode ∧
      t.chip = takeWaiting (settleMode (afterReady (dropDegCause (clearSrc e (131 + f.idx)) (.ready f)) f age))) ∧
  -- a missed deadline: its source reports, and the function is a cause of Degraded
  (∀ (s : State) (f : Func), dieRuns s.chip = true → s.chip.sup.mode ≠ .holdUp → s.chip.sup.mode ≠ .quarantine →
    ready s.chip f = false → funcDisabled s.chip f = false →
    Answers (.readyTimeout f) s fun t => StoresKept s t ∧
      t.chip = addDegCause (reportSrc s.chip (131 + f.idx) 0) (.ready f)) ∧
  -- the AON domain starts: cause AON_POR, no alarm, no valid wall time, no history of occurrences
  (∀ (s : State), Answers .aonPowerOn s fun t =>
    KeptBut [.regs, .tb, .pwd, .outl, .tru, .upd, .fab, .flt] s t ∧
      regGet t.chip Reg.SUP_RST_CAUSE = 1#32 ∧ regGet t.chip Reg.SUP_RTC_ALARM = 0#32 ∧
      RegsKeptBut [Reg.SUP_RST_CAUSE, Reg.SUP_RTC_ALARM] s.chip t.chip ∧ t.chip.tb.aon = 0 ∧
      t.chip.tb.valid = false ∧ t.chip.tb.wall = mramMark s.chip ∧ t.chip.tb.hwm = mramMark s.chip ∧
      t.chip.tb.cycle = s.chip.tb.cycle ∧ ∀ e ∈ t.chip.flt.srcs, e.2.occ = []) ∧
  -- a reset that the collector started has ended: its checks may run
  (∀ (s : State) (b : Block), s.chip.flt.resets.contains b = true → b ≠ .region .lnk → b ≠ .legalCore →
    Answers (.blockResetComplete b) s fun t => KeptBut [.flt] s t ∧ t.chip.flt.resets.contains b = false ∧
      (∀ k ∈ t.chip.flt.checks, k.block = b → k.complete = true) ∧ t.chip.flt.srcs = s.chip.flt.srcs) ∧
  -- the link region starts again, with a new EPOCH, and so does the legal core
  (∀ (s : State), s.chip.flt.resets.contains (.region .lnk) = true →
    Answers (.blockResetComplete (.region .lnk)) s fun t => KeptBut [.fab, .flt, .host, .out, .regs] s t ∧
      t.chip.flt.resets.contains (.region .lnk) = false ∧ t.chip.fab.epoch = (s.chip.fab.epoch + 1) % 2 ^ 32) ∧
  (∀ (s : State), s.chip.flt.resets.contains .legalCore = true →
    Answers (.blockResetComplete .legalCore) s fun t => StoresKept s t ∧
      t.chip.flt.resets.contains .legalCore = false ∧ t.chip.leg.running = (legalFirmwareOk s.fuses s.chip &&
        s.chip.acc.restored && copiesOk s.chip.leg.badCopies && headConsistent (findHead s.chip)))

/-- Disabling functions: DISABLE_WRITE, DRAIN_DONE, OUTLET_DRAIN_TIMEOUT (R69, R70). Rests on the model's choices of
log 33, 49. -/
def Obligations.DisableCommands : Prop :=
  -- a write that leaves the outlet bits: each newly disabled port, panel or reader drains
  (∀ (s : State) (w : Word), windowClosed s.chip Reg.SUP_DISABLE = false → dieRuns s.chip = true →
    s.chip.sup.mode ≠ .holdUp → s.chip.sup.mode ≠ .bringUp → s.chip.sup.mode ≠ .degraded → s.chip.sup.degCauses = [] →
    w &&& 0xFF#32 = regGet s.chip Reg.SUP_DISABLE &&& 0xFF#32 →
    Answers (.disableWrite w) s fun t => KeptBut [.regs, .sup, .bp, .fab, .dsp, .host, .out] s t ∧
      regGet t.chip Reg.SUP_DISABLE = disableTaken s.chip (w &&& 0x1FFFFFF#32) ∧
      RegsKeptBut [Reg.SUP_DISABLE] s.chip t.chip ∧ t.chip.sup.mode = s.chip.sup.mode ∧
      ∀ k, 16 ≤ k → k < 25 → bitOf w k = true → immBit s.chip Reg.SUP_DISABLE k = false →
        t.chip.sup.draining.getLsbD k = true) ∧
  (∀ (s : State) (k : Fin 25), s.chip.sup.draining.getLsbD k.val = true → drained s.chip k.val = true →
    s.chip.sup.mode ≠ .bringUp → s.chip.sup.mode ≠ .degraded → s.chip.sup.degCauses = [] →
    Answers (.drainDone k) s fun t => StoresKept s t ∧ t.chip.sup.draining.getLsbD k.val = false ∧
      t.chip.sup.mode = s.chip.sup.mode ∧ t.chip.flt = s.chip.flt) ∧
  -- an outlet still energised 6 s after its disabling is opened at once
  (∀ (s : State) (o : Outlet), s.chip.sup.draining.getLsbD o.val = true → energised s.chip o.val = true →
    isDc s.chip o.val = false →
    Answers (.outletDrainTimeout o) s fun t => StoresKept s t ∧ (outletOf t.chip o.val).state = .weldCheck ∧
      (outletOf t.chip o.val).why = .stop ∧ t.chip.saf.permit.getLsbD o.val = false) ∧
  (∀ (s : State) (o : Outlet), s.chip.sup.draining.getLsbD o.val = true → energised s.chip o.val = true →
    isDc s.chip o.val = true →
    Answers (.outletDrainTimeout o) s fun t => StoresKept s t ∧ (outletOf t.chip o.val).state = .weldCheck ∧
      (outletOf t.chip o.val).setMa = 0 ∧ (outletOf t.chip o.val).setW = 0 ∧ t.chip.saf.permit.getLsbD o.val = false) ∧
  -- one that is open by then is UNAVAILABLE
  (∀ (s : State) (o : Outlet), s.chip.sup.draining.getLsbD o.val = true → energised s.chip o.val = false →
    mustBeUnavailable s.chip o.val = true →
    Answers (.outletDrainTimeout o) s fun t => KeptBut [.acc, .host, .out, .outl, .pwd, .sess] s t ∧
      OthersKept o.val s.chip t.chip ∧ (outletOf t.chip o.val).state = .unavailable)

/-- Supplies and the hold-up store: BROWN_OUT, HOLDUP_OFF, POWER_DIE_POR, SAFETY_DIE_POR, LOAD_CHECK_START,
LOAD_CHECK_DONE, CHARGE_RISE_MEASURED, HOLD_OK_FALL, HOLD_OK_RISE (R51, R85 to R88). Rests on the model's choices of
log 34, 50, 73. -/
def Obligations.SupplyCommands : Prop :=
  -- a brown-out: mode Hold-up first, then the steps up to the fences of service, link and display
  (∀ (s : State) (v h : Nat) (u : BitVec 6) (done : Nat), s.chip.sup.mode ≠ .off → s.chip.sup.mode ≠ .holdUp →
    Answers (.brownOut v h u done) s fun t => StoresKept s t ∧ fenced t.chip .svc = true ∧ fenced t.chip .lnk = true ∧
      fenced t.chip .dsp = true ∧ ready t.chip .hst = false ∧
      ∃ e, e.sup.mode = .holdUp ∧ e.pwd.holdup = true ∧ e.pwd.vhold = h ∧ e.pwd.vmain = v ∧
        t.chip = holdupFence (holdupOpen (holdupStop e) done)) ∧
  -- VHOLD reaches 18.0 V: the module is Off
  (∀ (s : State), s.chip.pwd.holdup = true → s.chip.sup.mode = .holdUp →
    Answers .holdupOff s fun t => KeptBut [.acc, .blt, .leg, .pwd, .freeCount, .host, .sup] s t ∧ t.chip.sup.mode = .off ∧
      t.chip.blt.queue = [] ∧
      t.chip.sup.prevMode = s.chip.sup.mode ∧ t.chip.sup.ready = 0 ∧ t.chip.sup.fence = 0x7F ∧
      t.chip.pwd.vhold = 18000 ∧ (s.chip.pwd.loadCheck = false → t.chip.pwd.holdOk = false) ∧ t.chip.pwd.holdup = false ∧ t.chip.host.inflight = [] ∧
      t.chip.pwd.coils = s.chip.pwd.coils) ∧
  -- the power die's power-on reset: its registers, outputs and results at their reset values
  (∀ (s : State) (v h : Nat) (u : BitVec 6),
    (s.chip.sup.mode = .off ∨ s.chip.sup.mode = .holdUp ∨ s.chip.pwd.holdOk = false) →
    Answers (.powerDiePor v h u) s fun t => KeptBut [.pwd, .lsw, .regs, .live, .cg, .sup, .freeCount] s t ∧
      t.chip.lsw = LswAll.reset ∧ t.chip.pwd.coils = [] ∧ t.chip.pwd.posted = [] ∧ t.chip.pwd.writeSeq = 0 ∧
      t.chip.pwd.measured = false ∧ t.chip.pwd.holdOk = false ∧ t.chip.pwd.vhold = h ∧
      t.chip.pwd.fb = s.chip.pwd.fb ∧
      ∀ a, memberOf a = 7 → a < 0x7800000 → regGet t.chip a = regReset a ∧ liveGet t.chip a = regReset a) ∧
  -- Nib's power-on: every gate closed, nothing permitted, the seals as they read
  (∀ (s : State) (levels : List Nat) (ok : Bool),
    Answers (.safetyDiePor levels ok) s fun t => StoresKept s t ∧ t.chip.nib.gate = 0 ∧ t.chip.nib.permit = 0 ∧
      t.chip.nib.latch = 0 ∧ t.chip.nib.procOk = false ∧ t.chip.nib.selftestOk = ok ∧ t.chip.nib.sealNow = sealsClosed levels ∧
      t.chip.nib.sealInvalid = sealsInvalid levels ∧ ready t.chip .nib = false ∧
      ∀ o, o < 8 → t.chip.nib.weld.getLsbD o = (fbClosed s.chip o && !(coilOf s.chip o).driven)) ∧
  -- a load check starts; it ends with its results, and HOLD_OK stands where they are good
  (∀ (s : State) (h : Nat), 35500 ≤ h → s.chip.pwd.loadCheck = false → s.chip.pwd.holdup = false →
    s.chip.pwd.holdOk = holdConditions { s.chip with pwd := { s.chip.pwd with vhold := h } } →
    Answers (.loadCheckStart h) s fun t => KeptBut [.pwd, .freeCount] s t ∧ t.chip.pwd.loadCheck = true ∧
      t.chip.pwd.charging = false ∧ t.chip.pwd.vhold = h ∧ t.chip.pwd.holdOk = s.chip.pwd.holdOk) ∧
  (∀ (s : State) (cap esr : Nat), s.chip.pwd.loadCheck = true → s.chip.pwd.holdup = false → 470 ≤ cap → esr ≤ 500 → 35500 ≤ s.chip.pwd.vhold →
    s.chip.pwd.holdOk = true →
    Answers (.loadCheckDone cap esr) s fun t => KeptBut [.pwd, .freeCount] s t ∧ t.chip.pwd.loadCheck = false ∧
      t.chip.pwd.charging = true ∧ t.chip.pwd.measured = true ∧ t.chip.pwd.capUf = min 4700 cap ∧
      t.chip.pwd.esrMohm = esr ∧ t.chip.pwd.undersized = false ∧ t.chip.pwd.holdOk = true) ∧
  -- a check that finds the store undersized raises the hold-up source and a cause of Degraded
  (∀ (s : State) (cap esr : Nat), s.chip.pwd.loadCheck = true → (cap < 470 ∨ 500 < esr) →
    s.chip.sup.mode ≠ .off → s.chip.sup.mode ≠ .reset → s.chip.sup.mode ≠ .holdUp →
    Answers (.loadCheckDone cap esr) s fun t => StoresKept s t ∧ ∃ e, ChipKeptBut [.pwd, .freeCount] s.chip e ∧
      e.pwd.undersized = true ∧ e.pwd.holdOk = false ∧ t.chip = addDegCause (reportSrc e 121 0) .holdUp) ∧
  (∀ (s : State) (cap esr : Nat), s.chip.pwd.loadCheck = true → (cap < 470 ∨ 500 < esr) →
    (s.chip.sup.mode = .off ∨ s.chip.sup.mode = .reset) →
    Answers (.loadCheckDone cap esr) s fun t => KeptBut [.pwd, .sup, .freeCount] s t ∧ t.chip.pwd.undersized = true ∧
      t.chip.pwd.holdOk = false ∧ DegCause.holdUp ∈ t.chip.sup.degCauses ∧ t.chip.sup.mode = s.chip.sup.mode) ∧
  (∀ (s : State) (cap : Nat), s.chip.pwd.holdOk = false → s.chip.pwd.loadCheck = false →
    Answers (.chargeRiseMeasured cap) s fun t => KeptBut [.pwd, .freeCount] s t ∧ t.chip.pwd.capUf = min 4700 cap ∧
      t.chip.pwd.vhold = 30000 ∧ t.chip.pwd.holdOk = false) ∧
  -- HOLD_OK falls: the hold-up source reports; it rises: the source clears and the cause of Degraded ends
  (∀ (s : State) (h : Nat), h < 35500 → s.chip.pwd.holdOk = true → s.chip.pwd.loadCheck = false →
    s.chip.sup.mode ≠ .off → s.chip.sup.mode ≠ .reset → s.chip.sup.mode ≠ .holdUp →
    Answers (.holdOkFall h) s fun t => StoresKept s t ∧ ∃ e, ChipKeptBut [.pwd, .freeCount] s.chip e ∧
      e.pwd.holdOk = false ∧ e.pwd.vhold = h ∧ t.chip = addDegCause (reportSrc e 121 0) .holdUp) ∧
  (∀ (s : State) (h : Nat), 35500 ≤ h → s.chip.pwd.measured = true → 470 ≤ s.chip.pwd.capUf →
    s.chip.pwd.esrMohm ≤ 500 → s.chip.pwd.holdOk = false → s.chip.pwd.loadCheck = false →
    Answers (.holdOkRise h) s fun t => StoresKept s t ∧ ∃ e, ChipKeptBut [.pwd, .freeCount] s.chip e ∧
      e.pwd.holdOk = true ∧ e.pwd.vhold = h ∧ t.chip = dropDegCause (clearSrc e 121) .holdUp)

/-- The states of the timebase: TB_LATCH, REF_QUALIFIED, REF_LOST, TB_LOCK_ACQUIRED, TB_PHASE_JUMP, HOLDOVER_EXPIRY,
BEACON_TIMEOUT (R102, R104, R105, R108). Rests on the model's choices of log 2, 59. -/
def Obligations.TimebaseCommands : Prop :=
  -- the instant is reached, what is booked on the way fires, and the registers are latched together
  (∀ (s : State) (a f n : Nat), let c := reachInstant s.chip a f n
    windowClosed c Reg.SUP_TB_LATCH = false →
    Answers (.tbLatch a f n) s fun t => StoresKept s t ∧ ChipKeptBut [.regs] c t.chip ∧
      RegsKeptBut [Reg.SUP_TB_CYC_LO, Reg.SUP_TB_CYC_HI, Reg.SUP_TB_ANGLE, Reg.SUP_WALL_SEC_LO, Reg.SUP_WALL_SEC_HI,
        Reg.SUP_WALL_FRAC] c t.chip ∧
      (regGet t.chip Reg.SUP_TB_CYC_LO).toNat = c.tb.cycle % 2 ^ 32 ∧
      (regGet t.chip Reg.SUP_TB_CYC_HI).toNat = c.tb.cycle / 2 ^ 32 % 2 ^ 16 ∧
      fieldOf (regGet t.chip Reg.SUP_TB_ANGLE) 31 16 = c.tb.angle % 65536 ∧
      fieldOf (regGet t.chip Reg.SUP_TB_ANGLE) 15 0 = c.tb.frac % 65536 ∧
      (regGet t.chip Reg.SUP_WALL_SEC_LO).toNat = c.tb.wall / 2 ^ 32 % 2 ^ 32 ∧
      (regGet t.chip Reg.SUP_WALL_FRAC).toNat = c.tb.wall % 2 ^ 32) ∧
  (∀ (s : State) (a f n : Nat), a < 65536 → f < 65536 → s.chip.tb.angle < a → s.chip.tb.sched = [] →
    s.chip.tb.slewRem = 0 → s.chip.tb.into ≤ n → windowClosed s.chip Reg.SUP_TB_LATCH = false →
    Answers (.tbLatch a f n) s fun t => KeptBut [.regs, .tb] s t ∧ t.chip.tb.cycle = s.chip.tb.cycle ∧
      fieldOf (regGet t.chip Reg.SUP_TB_ANGLE) 31 16 = a ∧
      t.chip.tb.wall = s.chip.tb.wall + (n - s.chip.tb.into)) ∧
  -- ten qualified cycles of the primary reference in SYNTH or SYNTH_FAB: ACQUIRE on it
  (∀ (s : State), qualifiedFor s.chip false 10 = true → (s.chip.tb.state = .synth ∨ s.chip.tb.state = .synthFab) →
    Answers (.refQualified false) s fun t => KeptBut [.tb, .regs] s t ∧ t.chip.tb.state = .acquire ∧
      t.chip.tb.follow = .primary ∧ t.chip.tb.cycle = s.chip.tb.cycle) ∧
  -- of the alternate, while the primary is not qualified: ACQUIRE on the alternate
  (∀ (s : State), qualifiedFor s.chip true 10 = true → qualifiedFor s.chip false 10 = false → altEn s.chip = true →
    (s.chip.tb.state = .synth ∨ s.chip.tb.state = .synthFab) →
    Answers (.refQualified true) s fun t => KeptBut [.tb] s t ∧ t.chip.tb.state = .acquire ∧
      t.chip.tb.follow = .alternate) ∧
  -- LOCKED on the alternate: ten cycles of the primary switch to it, and REF_SWITCH is set
  (∀ (s : State), qualifiedFor s.chip false 10 = true → s.chip.tb.state = .locked → s.chip.tb.follow = .alternate →
    Answers (.refQualified false) s fun t => KeptBut [.tb, .regs, .host, .out] s t ∧ t.chip.tb.state = .acquire ∧
      t.chip.tb.follow = .primary ∧ immBit t.chip Reg.SUP_TB_EVT 2 = true) ∧
  -- HOLDOVER: three qualified cycles of the reference followed return to ACQUIRE
  (∀ (s : State) (alt : Bool), qualifiedFor s.chip alt 3 = true → s.chip.tb.state = .holdover →
    s.chip.tb.follow = ownFollow alt →
    Answers (.refQualified alt) s fun t => KeptBut [.tb] s t ∧ t.chip.tb.state = .acquire ∧
      t.chip.tb.follow = s.chip.tb.follow) ∧
  -- the reference followed is lost in LOCKED: HOLDOVER and its event; in ACQUIRE: SYNTH or SYNTH_FAB
  (∀ (s : State) (alt : Bool), refGone s.chip alt = true → s.chip.tb.state = .locked →
    s.chip.tb.follow = ownFollow alt →
    Answers (.refLost alt) s fun t => KeptBut [.tb, .regs, .host, .out] s t ∧ t.chip.tb.state = .holdover ∧
      t.chip.tb.held = 0 ∧ t.chip.tb.freq = s.chip.tb.freq ∧ immBit t.chip Reg.SUP_TB_EVT 1 = true) ∧
  (∀ (s : State) (alt : Bool), refGone s.chip alt = true → s.chip.tb.state = .acquire →
    s.chip.tb.follow = ownFollow alt → s.chip.tb.beacons = false →
    Answers (.refLost alt) s fun t => KeptBut [.tb] s t ∧ t.chip.tb.state = .synth ∧ t.chip.tb.follow = .crystal) ∧
  -- an error of at most 32 AU for 8 cycles locks; one above 2,048 AU for 3 cycles unlocks
  (∀ (s : State), s.chip.tb.state = .acquire → 8 ≤ s.chip.tb.errLow →
    Answers .tbLockAcquired s fun t => KeptBut [.tb, .regs, .host, .out] s t ∧ t.chip.tb.state = .locked ∧
      t.chip.tb.follow = s.chip.tb.follow ∧ immBit t.chip Reg.SUP_TB_EVT 0 = true) ∧
  (∀ (s : State), s.chip.tb.state = .locked → 3 ≤ s.chip.tb.errHigh →
    Answers .tbPhaseJump s fun t => KeptBut [.tb] s t ∧ t.chip.tb.state = .acquire ∧
      t.chip.tb.follow = s.chip.tb.follow ∧ t.chip.tb.cycle = s.chip.tb.cycle) ∧
  -- HOLD cycles without the primary: the alternate where it is enabled and qualified
  (∀ (s : State), s.chip.tb.state = .holdover → s.chip.tb.follow = .primary →
    max 1 (cfg s.chip Reg.SUP_TB_CFG 31 24) ≤ s.chip.tb.held → altEn s.chip = true → qualifiedFor s.chip true 10 = true →
    Answers .holdoverExpiry s fun t => KeptBut [.tb, .regs, .host, .out] s t ∧ t.chip.tb.state = .acquire ∧
      t.chip.tb.follow = .alternate ∧ immBit t.chip Reg.SUP_TB_EVT 2 = true) ∧
  (∀ (s : State), s.chip.tb.state = .holdover → max 1 (cfg s.chip Reg.SUP_TB_CFG 31 24) ≤ s.chip.tb.held →
    altEn s.chip = false → s.chip.tb.beacons = true → cfgBit s.chip Reg.SUP_TB_SITE 16 = true →
    Answers .holdoverExpiry s fun t => KeptBut [.tb] s t ∧ t.chip.tb.state = .synthFab ∧ t.chip.tb.follow = .beacons) ∧
  (∀ (s : State), s.chip.tb.state = .synthFab →
    Answers .beaconTimeout s fun t => KeptBut [.tb] s t ∧ t.chip.tb.beacons = false ∧ t.chip.tb.state = .synth ∧
      t.chip.tb.follow = .crystal)

/-- Angle 0, bookings and the wall clock: ANGLE_ZERO, SCHED_BOOK, SCHED_CANCEL, SCHED_FIRE, WALL_OFFSET, SLEW_DONE
(R98, R99, R105, R109, R111, R113 to R116). Rests on the model's choices of log 2, 55, 59, 60, 63. -/
def Obligations.SchedulerAndWallClockCommands : Prop :=
  -- angle 0 with nothing booked or due: the count rises by one, time advances by what is left of the cycle
  (∀ (s : State) (per : Nat), let left := cycleLength s.chip per - s.chip.tb.into
    dieRuns s.chip = true → s.chip.tb.known = true → metRuns s.chip = false → s.chip.tb.sched = [] →
    s.chip.tb.retry = [] → s.chip.tb.step = none → s.chip.tb.slewRem = 0 → s.chip.sup.modeReq = none →
    s.chip.upd.manifest = none → cgActive s.chip = false → s.chip.sup.mode ≠ .holdUp →
    Answers (.angleZero per false) s fun t => StoresKept s t ∧ t.chip.tb.cycle = s.chip.tb.cycle + 1 ∧
      t.chip.tb.angle = 0 ∧ t.chip.tb.into = 0 ∧ t.chip.tb.wall = s.chip.tb.wall + left ∧
      t.chip.tb.aon = s.chip.tb.aon + left ∧ t.chip.tb.state = s.chip.tb.state ∧
      (s.chip.tb.state = .synth → t.chip.tb.freq = towards50 s.chip.tb.freq) ∧
      (s.chip.tb.state = .holdover → t.chip.tb.held = s.chip.tb.held + 1) ∧ t.chip.sup.mode = s.chip.sup.mode) ∧
  -- the classes of one angle 0 act in their order on the advanced clock, what the cycle still held having fired
  (∀ (s : State) (per : Nat), let c := fireThrough 65536 s.chip 65535
    dieRuns s.chip = true →
    Answers (.angleZero per false) s fun t => StoresKept s t ∧ ∃ e,
      e.tb.cycle = (if c.tb.known then c.tb.cycle + 1 else c.tb.cycle) ∧ e.tb.angle = 0 ∧ e.tb.into = 0 ∧
      e.tb.aon = c.tb.aon + (cycleLength s.chip per - c.tb.into) ∧ ChipKeptBut [.tb, .outl, .regs, .host, .out] c e ∧
      t.chip = retryOutlets (calCycle (laneCycles (openEnabled (pointsAngleZero (applyModeReq (updAngleZero (fireAt
        (swapAngleZero (billAngleZero (cycleLength s.chip per) (fireAt e 0 [1, 2]) false) false) 0 [6, 7, 8])))))))) ∧
  -- a booking at an instant ahead within the window is kept; past the 256th it is refused and counted, and made again
  -- at the next cycle; its owner is told
  (∀ (s : State) (b : Booking), cannotBook s.chip b = false → s.chip.tb.sched.length < 256 →
    Answers (.schedBook b) s fun t => KeptBut [.tb, .out] s t ∧ t.chip.tb.sched = s.chip.tb.sched ++ [b] ∧
      s.chip.tb.schedHigh ≤ t.chip.tb.schedHigh ∧ t.chip.tb.cycle = s.chip.tb.cycle ∧
      t.chip.out = .booking b true :: s.chip.out) ∧
  (∀ (s : State) (b : Booking), cannotBook s.chip b = false → 256 ≤ s.chip.tb.sched.length → b.kind.cls ≠ 8 →
    Answers (.schedBook b) s fun t => KeptBut [.tb, .regs, .host, .out] s t ∧ t.chip.tb.sched = s.chip.tb.sched ∧
      t.chip.tb.retry = s.chip.tb.retry ++ [b] ∧
      t.chip.tb.schedRefused = min 255 (s.chip.tb.schedRefused + 1) ∧ immBit t.chip Reg.SUP_TB_EVT 7 = true) ∧
  (∀ (s : State) (b : Booking), cannotBook s.chip b = true →
    Answers (.schedBook b) s fun t => KeptBut [.out] s t ∧ t.chip.out = .booking b false :: s.chip.out) ∧
  (∀ (s : State) (k : BookKind), Answers (.schedCancel k) s fun t => KeptBut [.tb] s t ∧
    t.chip.tb.sched = s.chip.tb.sched.filter (fun b => b.kind != k) ∧ t.chip.tb.cycle = s.chip.tb.cycle) ∧
  -- the one booking ahead is a MARKER at this angle: it leaves the table and its descriptor completes
  (∀ (s : State) (a n : Nat) (b : Booking) (req : Requester), dieRuns s.chip = true → a < 65536 →
    s.chip.tb.angle < a → s.chip.tb.sched = [b] → b.cycle = s.chip.tb.cycle → b.angle = a → b.kind = .marker req →
    b.period = 0 →
    Answers (.schedFire a n) s fun t => StoresKept s t ∧ t.chip.tb.sched = [] ∧ t.chip.tb.angle = a ∧
      ∃ e, ChipKeptBut [.tb, .regs, .host, .out] s.chip e ∧ e.tb.sched = [] ∧ e.tb.angle = a ∧
        ChipKeptBut [.tb] (complete e req
          { ansOk with result := leBytes 6 b.cycle ++ leBytes 2 a ++ leBytes 8 (wall16 e) }) t.chip) ∧
  -- an offset from an enabled source: slewed within the limit, stepped at the next angle 0 beyond it, refused of an
  -- unauthenticated network
  (∀ (s : State) (src : TimeSrc) (o : Int), srcEnabled s.chip src = true → offsetIgnored s.chip src = false →
    s.chip.tb.valid = true → o.natAbs ≤ stepLimit s.chip * 2 ^ 32 →
    Answers (.wallOffset src o) s fun t => KeptBut [.tb] s t ∧ t.chip.tb.slewRem = o ∧ t.chip.tb.src = src ∧
      t.chip.tb.step = none ∧ t.chip.tb.wall = s.chip.tb.wall) ∧
  (∀ (s : State) (src : TimeSrc) (o : Int), srcEnabled s.chip src = true → offsetIgnored s.chip src = false →
    s.chip.tb.valid = true → stepLimit s.chip * 2 ^ 32 < o.natAbs → src ≠ .network → s.chip.sup.mode ≠ .holdUp →
    Answers (.wallOffset src o) s fun t => KeptBut [.tb] s t ∧ t.chip.tb.step = some { offset := o, src := src } ∧
      t.chip.tb.slewRem = 0 ∧ t.chip.tb.wall = s.chip.tb.wall) ∧
  (∀ (s : State) (o : Int), srcEnabled s.chip .network = true → offsetIgnored s.chip .network = false →
    s.chip.tb.valid = true → stepLimit s.chip * 2 ^ 32 < o.natAbs → cfgBit s.chip Reg.SUP_WALL_CFG 20 = false →
    Answers (.wallOffset .network o) s fun t => KeptBut [.blt, .regs, .host, .out] s t ∧
      immBit t.chip Reg.SUP_TB_EVT 5 = true) ∧
  -- the clocks run by a time in which the remaining slew ends: SLEW_DONE
  (∀ (s : State) (n : Nat), s.chip.tb.slewRem ≠ 0 →
    s.chip.tb.slewRem.natAbs ≤ (n - s.chip.tb.into) * slewPpm s.chip / 1000000 →
    Answers (.slewDone n) s fun t => KeptBut [.tb, .regs, .host, .out] s t ∧ t.chip.tb.slewRem = 0 ∧
      t.chip.tb.wall = ((s.chip.tb.wall + (n - s.chip.tb.into) : Nat) + s.chip.tb.slewRem).toNat ∧
      t.chip.tb.wall ≤ t.chip.tb.hwm ∧ s.chip.tb.hwm ≤ t.chip.tb.hwm ∧ immBit t.chip Reg.SUP_TB_EVT 4 = true)

/-- The descriptors of the ring engine and the timebase: NOP, MARKER, MARKER_CANCEL, TIME_SET (R354, R362). Rests on
the model's choices of log 26. -/
def Obligations.TimebaseDescriptors : Prop :=
  (∀ (s : State) (req : Requester), performs s.chip req 0x0001 .ringEngine = true →
    Replies (.nop req) s req 0x0001 ansOk fun c e => e = c) ∧
  (∀ (s : State) (req : Requester) (cyc a : Nat), performs s.chip req 0x0002 .timebase = true →
    cannotBook s.chip { cycle := cyc, angle := a, kind := .marker req, period := 0 } = false →
    s.chip.tb.sched.length < 256 →
    Answers (.marker req cyc a) s fun t => StoresKept s t ∧ ChipKeptBut [.tb] (begun s.chip req 0x0002) t.chip ∧
      t.chip.tb.sched = s.chip.tb.sched ++ [{ cycle := cyc, angle := a, kind := .marker req, period := 0 }]) ∧
  (∀ (s : State) (req : Requester) (cyc a : Nat), performs s.chip req 0x0002 .timebase = true →
    cannotBook s.chip { cycle := cyc, angle := a, kind := .marker req, period := 0 } = true →
    Replies (.marker req cyc a) s req 0x0002 (ansReject .rule) fun c e => e = c) ∧
  (∀ (s : State) (req : Requester) (tag : Word), performs s.chip req 0x0003 .timebase = true →
    s.chip.tb.sched.any (fun b => b.kind == .marker (siblingReq req tag)) = true →
    Replies (.markerCancel req tag) s req 0x0003 { ansOk with aux := 1 } fun c e => ∃ d, ChipKeptBut [.tb] c d ∧
      d.tb.sched = c.tb.sched.filter (fun b => b.kind != .marker (siblingReq req tag)) ∧
      e = complete d (siblingReq req tag) (ansReject .cancelled)) ∧
  (∀ (s : State) (req : Requester) (tag : Word), performs s.chip req 0x0003 .timebase = true →
    s.chip.tb.sched.any (fun b => b.kind == .marker (siblingReq req tag)) = false →
    Replies (.markerCancel req tag) s req 0x0003 ansOk fun c e => e = c) ∧
  -- TIME_SET: the offset against the wall clock, handled as any offset of the host
  (∀ (s : State) (req : Requester) (utc : Nat), performs s.chip req 0x0004 .timebase = true →
    srcEnabled s.chip .host = true → s.chip.tb.valid = true → offsetIgnored s.chip .host = false →
    ((utc * 2 ^ 16 : Nat) - (s.chip.tb.wall : Int)).natAbs ≤ stepLimit s.chip * 2 ^ 32 →
    s.chip.tb.wall % 2 ^ 16 = 0 →
    Replies (.timeSet req utc) s req 0x0004
      { ansOk with result := leBytes 8 (sgn 64 (((utc * 2 ^ 16 : Nat) - (s.chip.tb.wall : Int)) / 2 ^ 16)) } fun c e =>
        ChipKeptBut [.tb] c e ∧ e.tb.slewRem = (utc * 2 ^ 16 : Nat) - (s.chip.tb.wall : Int) ∧ e.tb.src = .host) ∧
  (∀ (s : State) (req : Requester) (utc : Nat), performs s.chip req 0x0004 .timebase = true →
    srcEnabled s.chip .host = false → Replies (.timeSet req utc) s req 0x0004 (ansReject .mode) fun c e => e = c)

/-- The states of a modulator lane: LANE_TRAINED, TRAIN_TIMEOUT, CV_LIMIT_EXCEEDED, LANE_SIGNAL_LOSS, RETRAIN_DONE,
RETRAIN_TIMEOUT, LANE_FAILED_RETRY, RANGE_DOWN, LANE_CV_READ (R127, R128, R131, R132, R143). Rests on the model's
choices of log 9, 56, 58. -/
def Obligations.LaneCommands : Prop :=
  -- training succeeds: both ID words are read, and with a TYPE that fits the lane is in RUN in ×1, then in its forced range
  (∀ (s : State) (n : Lane) (scan : LaneScan) (step a b : Nat), (laneOf s.chip n.val).state = .train →
    eyeCentre scan.openings = some step → isTraining scan.pattern = true → idWord scan.word0 = some a →
    idWord scan.word1 = some b → typeFits s.chip n.val a = true →
    Answers (.laneTrained n scan) s fun t => StoresKept s t ∧ ∃ e, ChipKeptBut [.met, .out] s.chip e ∧
      (laneOf e n.val).state = .run ∧ (laneOf e n.val).range16 = false ∧ (laneOf e n.val).id0 = a ∧
      (laneOf e n.val).id1 = b ∧ (laneOf e n.val).step = step ∧ (laneOf e n.val).slicer = scan.thresholds ∧
      e.out = .laneFrame n.val (frameReadId 1) :: .laneFrame n.val (frameReadId 0) :: s.chip.out ∧
      let y := emits (pointFollows s.chip e n.val) [.laneFrame n.val (frameGain false), .laneFrame n.val frameRun]
      t.chip = checkSerial (clearSrc (if forced16 y n.val then sendGain y n.val true else y) n.val) n.val b) ∧
  -- a TYPE that does not fit: FAILED with CAUSE 2, FAIL set, and the lane's source reports
  (∀ (s : State) (n : Lane) (scan : LaneScan) (step a b : Nat), (laneOf s.chip n.val).state = .train →
    eyeCentre scan.openings = some step → isTraining scan.pattern = true → idWord scan.word0 = some a →
    idWord scan.word1 = some b → typeFits s.chip n.val a = false →
    Reports (.laneTrained n scan) s n.val 2 fun c e => ∃ d, ChipKeptBut [.met, .regs, .host, .out] c d ∧
      (laneOf d n.val).state = .failed ∧ (laneOf d n.val).cause = 2 ∧ (laneOf d n.val).id0 = a ∧
      immBit d (Reg.MET_LANE_EVT n.val) 2 = true ∧ e = pointFollows c d n.val) ∧
  -- training times out: FAILED with CAUSE 1, FAIL set, and the lane's source reports
  (∀ (s : State) (n : Lane), (laneOf s.chip n.val).state = .train →
    Reports (.trainTimeout n) s n.val 1 fun c e => ∃ d, ChipKeptBut [.met, .regs, .host, .out] c d ∧
      (laneOf d n.val).state = .failed ∧ (laneOf d n.val).cause = 1 ∧ immBit d (Reg.MET_LANE_EVT n.val) 2 = true ∧
      e = pointFollows c d n.val) ∧
  -- RUN to RETRAIN on more than 64 code violations of a cycle
  (∀ (s : State) (n : Lane), (laneOf s.chip n.val).state = .run → 64 < (laneOf s.chip n.val).cvNow →
    Answers (.cvLimitExceeded n) s fun t => StoresKept s t ∧ ∃ d, ChipKeptBut [.met, .regs, .host, .out] s.chip d ∧
      (laneOf d n.val).state = .retrain ∧ (laneOf d n.val).range16 = false ∧
      immBit d (Reg.MET_LANE_EVT n.val) 0 = true ∧
      t.chip = reportSrc (pointFollows s.chip d n.val) n.val (laneOf (pointFollows s.chip d n.val) n.val).cause) ∧
  -- 16 periods on end without a valid symbol, counting those that now bring none: RETRAIN, in Hold-up the lane stops
  (∀ (s : State) (n : Lane) (k : Nat), (laneOf s.chip n.val).state = .run →
    let c := feedLane s.chip n.val [] (min k (periodsLeft (laneOf s.chip n.val) - 1))
    16 ≤ (laneOf c n.val).chain.invalid → c.sup.mode ≠ .holdUp →
    Answers (.laneSignalLoss n k) s fun t => StoresKept s t ∧ ∃ d, ChipKeptBut [.met, .regs, .host, .out] c d ∧
      (laneOf d n.val).state = .retrain ∧ (laneOf d n.val).range16 = false ∧
      immBit d (Reg.MET_LANE_EVT n.val) 0 = true ∧
      t.chip = reportSrc (pointFollows c d n.val) n.val (laneOf (pointFollows c d n.val) n.val).cause) ∧
  (∀ (s : State) (n : Lane) (k : Nat), laneMeters (laneOf s.chip n.val) = true →
    let c := feedLane s.chip n.val [] (min k (periodsLeft (laneOf s.chip n.val) - 1))
    16 ≤ (laneOf c n.val).chain.invalid → c.sup.mode = .holdUp →
    Answers (.laneSignalLoss n k) s fun t => StoresKept s t ∧ ∃ d, ChipKeptBut [.met] c d ∧
      (laneOf d n.val).state = .stopped ∧ t.chip = pointFollows c d n.val) ∧
  (∀ (s : State) (n : Lane) (k : Nat), laneMeters (laneOf s.chip n.val) = true →
    let c := feedLane s.chip n.val [] (min k (periodsLeft (laneOf s.chip n.val) - 1))
    (laneOf c n.val).chain.invalid < 16 → Answers (.laneSignalLoss n k) s fun t => StoresKept s t ∧ t.chip = c) ∧
  -- RETRAIN ends in RUN on 128 valid symbols on end within 100 µs, the lane realigned, in ×1 and then its forced range
  (∀ (s : State) (n : Lane) (ps : List Period) (k : Int), (laneOf s.chip n.val).state = .retrain →
    let c := feedLane s.chip n.val (ps.take (periodsLeft (laneOf s.chip n.val) - 1)) 0
    128 ≤ (laneOf c n.val).chain.valid → (laneOf c n.val).retrain ≤ 2000 →
    Answers (.retrainDone n ps k) s fun t => StoresKept s t ∧ ∃ d, ChipKeptBut [.met] c d ∧
      (laneOf d n.val).state = .run ∧ (laneOf d n.val).range16 = false ∧
      (laneOf d n.val).step = nudgeStep (laneOf c n.val).step k ∧
      let y := emit (pointFollows c d n.val) (.laneFrame n.val (frameGain false))
      t.chip = clearSrc (if forced16 y n.val then sendGain y n.val true else y) n.val) ∧
  -- or after its time in FAILED with CAUSE 3; a FAILED lane trains again from a RESET frame
  (∀ (s : State) (n : Lane), (laneOf s.chip n.val).state = .retrain →
    Answers (.retrainTimeout n) s fun t => StoresKept s t ∧ ∃ d, ChipKeptBut [.met, .regs, .host, .out] s.chip d ∧
      (laneOf d n.val).state = .failed ∧ (laneOf d n.val).cause = 3 ∧ immBit d (Reg.MET_LANE_EVT n.val) 2 = true ∧
      t.chip = pointFollows s.chip d n.val) ∧
  (∀ (s : State) (n : Lane), (laneOf s.chip n.val).state = .failed →
    Answers (.laneFailedRetry n) s fun t => StoresKept s t ∧ ∃ d, ChipKeptBut [.met, .out] s.chip d ∧
      (laneOf d n.val).state = .train ∧ (laneOf d n.val).cause = 0 ∧ (laneOf d n.val).range16 = false ∧
      d.out = .laneFrame n.val frameTrain :: .laneFrame n.val frameReset :: s.chip.out ∧
      t.chip = pointFollows s.chip d n.val) ∧
  -- a switch down to ×1 by the fast detector: GAIN ×1 goes out and DOWN is set; without one only the lane takes its periods
  (∀ (s : State) (n : Lane) (ps : List Period), (laneOf s.chip n.val).state = .run →
    let l := takePeriods s.chip (1200 + n.val) (streamCfg s.chip n.val) (laneOf s.chip n.val)
      (ps.take (periodsLeft (laneOf s.chip n.val) - 1)) 0
    (laneOf s.chip n.val).range16 = true → l.range16 = false →
    Answers (.rangeDown n ps) s fun t => KeptBut [.met, .regs, .host, .out] s t ∧ laneOf t.chip n.val = l ∧
      immBit t.chip (Reg.MET_LANE_EVT n.val) 5 = true ∧ RegsKeptBut [Reg.MET_LANE_EVT n.val] s.chip t.chip ∧
      t.chip.out.head? = some (.laneFrame n.val (frameGain false))) ∧
  (∀ (s : State) (n : Lane) (ps : List Period), (laneOf s.chip n.val).state = .run →
    let l := takePeriods s.chip (1200 + n.val) (streamCfg s.chip n.val) (laneOf s.chip n.val)
      (ps.take (periodsLeft (laneOf s.chip n.val) - 1)) 0
    ((laneOf s.chip n.val).range16 = false ∨ l.range16 = true) →
    Answers (.rangeDown n ps) s fun t => KeptBut [.met] s t ∧ laneOf t.chip n.val = l ∧
      ∀ k, k ≠ n.val → laneOf t.chip k = laneOf s.chip k) ∧
  -- a read of MET_LANE_CV returns the count and clears it; while its window does not answer it gives 0 and clears nothing
  (∀ (s : State) (n : Lane), windowClosed s.chip (Reg.MET_LANE_CV n.val) = false →
    Answers (.laneCvRead n) s fun t => KeptBut [.met, .out] s t ∧
    t.chip.out = .readData (Reg.MET_LANE_CV n.val) (wordOf (laneOf s.chip n.val).cv) :: s.chip.out ∧
    (laneOf t.chip n.val) = { laneOf s.chip n.val with cv := 0 }) ∧
  (∀ (s : State) (n : Lane), windowClosed s.chip (Reg.MET_LANE_CV n.val) = true →
    Answers (.laneCvRead n) s fun t => KeptBut [.out] s t ∧
    t.chip.out = .readData (Reg.MET_LANE_CV n.val) 0 :: s.chip.out)

/-- Samples, the commit ring, the readout window and calibration: METER_SAMPLE, FINALISATION_DONE, COMMIT_SLOT_WRITTEN,
LAST_GASP_COMMIT, FINAL_COMMIT, DTCORR_MEASURE, HARM_WINDOW, CAL_MEAS_START, CAL_MEAS_ABORT, CAL_MEAS_DONE, ACC_LATCH,
ACC_READ (R19, R139, R145, R153, R156, R166, R170 to R174, R177, R362). Rests on the model's choices of log 2, 10, 58. -/
def Obligations.MeteringCommands : Prop :=
  -- an instant adds one sample, of 63 samples ago, to every metering point and to no other
  (∀ (s : State) (xs : List LaneSample), Answers (.meterSample xs) s fun t =>
    KeptBut [.met, .regs, .host, .out, .freeCount] s t ∧
    (∀ m, m < 8 → pointMeters s.chip m = true → (ptOf t.chip m).tot.n = (ptOf s.chip m).tot.n + 1) ∧
    (∀ m, m < 8 → pointMeters s.chip m = false → ptOf t.chip m = ptOf s.chip m)) ∧
  -- a substituted sample of an essential lane marks its cycle and sets QE_EVT.SUBST
  (∀ (s : State) (xs : List LaneSample) (m j : Nat) (p : Sample), m < 8 → pointMeters s.chip m = true →
    j < essentialCount (mpType s.chip m) → laneMeters (laneOf s.chip (mpBase s.chip m + j)) = true →
    (∀ k, k < 8 → k ≠ m → pointEnabled s.chip k = true → mpBase s.chip m + j < mpBase s.chip k ∨
      mpBase s.chip k + laneCount (mpType s.chip k) ≤ mpBase s.chip m + j) →
    (laneOf s.chip (mpBase s.chip m + j)).past[62]? = some p → p.subst = true →
    Answers (.meterSample xs) s fun t => KeptBut [.met, .regs, .host, .out, .freeCount] s t ∧
      immBit t.chip Reg.MET_QE_EVT 0 = true ∧ (ptOf t.chip m).substNow = true) ∧
  -- the end of finalisation lets a held-back latch through
  (∀ (s : State) (k i : Nat), s.chip.acc.latchWait = some (k, i) →
    Answers .finalisationDone s fun t => KeptBut [.acc] s t ∧ t.chip.acc.finalising = false ∧
      t.chip.acc.latchWait = none ∧ t.chip.acc.window.valid = true ∧ t.chip.acc.window.index = i ∧
      t.chip.acc.window.cycle = s.chip.acc.finCycle ∧ t.chip.acc.points = s.chip.acc.points) ∧
  (∀ (s : State), s.chip.acc.latchWait = none →
    Answers .finalisationDone s fun t => KeptBut [.acc] s t ∧
      t.chip.acc = { s.chip.acc with finalising := false }) ∧
  -- the oldest slot that waits is written whole at the next place of the ring of 64, of the last-gasp ring while the MRAM
  -- interface is lost
  (∀ (s : State) (us : Nat) (sl : CommitSlot) (rest : List CommitSlot), s.chip.acc.due = sl :: rest →
    Answers (.commitSlotWritten us) s fun t => KeptBut [.acc] s t ∧ t.chip.acc.due = rest ∧
      t.chip.acc.lastSeq = sl.seq ∧ t.chip.acc.lastKind = sl.kind ∧ t.chip.acc.lastSlot = nextPlace s.chip ∧
      t.chip.acc.lastUs = min 65535 us ∧ t.chip.acc.maxUs = max s.chip.acc.maxUs (min 65535 us) ∧
      t.chip.acc.points = s.chip.acc.points ∧
      (mramLost s.chip = false → t.chip.acc.gaspRing = s.chip.acc.gaspRing ∧
        t.chip.acc.ring = tput s.chip.acc.ring (nextPlace s.chip) { slot := sl, written := slotSize }) ∧
      (mramLost s.chip = true → t.chip.acc.ring = s.chip.acc.ring ∧
        t.chip.acc.gaspRing = tput s.chip.acc.gaspRing (nextPlace s.chip) { slot := sl, written := slotSize })) ∧
  -- in Hold-up: the last-gasp slot for a cycle cut above angle 0, and the final slot, after which nothing is committed
  (∀ (s : State) (a n : Nat), s.chip.sup.mode = .holdUp → 0 < a → s.chip.acc.ended = false →
    let c := cutCycle s.chip a n
    mayCommit c = true →
    Answers (.lastGaspCommit a n) s fun t => StoresKept s t ∧ ChipKeptBut [.acc] c t.chip ∧
      t.chip.acc.points = c.acc.points ∧ t.chip.acc.ended = false ∧
      ∃ sl, t.chip.acc.due = c.acc.due ++ [sl] ∧ sl.kind = 1 ∧ sl.angle = a ∧ sl.cycle = c.tb.cycle ∧
        sl.points = c.acc.points ∧ sl.seq = c.acc.lastSeq + c.acc.due.length + 1) ∧
  (∀ (s : State) (a n : Nat), s.chip.sup.mode = .holdUp → s.chip.acc.ended = false → finalDue s.chip = true →
    let c := cutCycle s.chip a n
    mayCommit c = true →
    Answers (.finalCommit a n) s fun t => StoresKept s t ∧ ChipKeptBut [.acc] c t.chip ∧ t.chip.acc.ended = true ∧
      ∃ sl, t.chip.acc.due = c.acc.due ++ [sl] ∧ sl.kind = 3 ∧ sl.angle = a ∧ sl.points = c.acc.points) ∧
  (∀ (s : State) (w : Word), s.chip.met.fallback = true →
    Answers (.dtcorrMeasure w) s fun t => KeptBut [.met] s t ∧ t.chip.met = { s.chip.met with dtCorr := w.toNat }) ∧
  -- 8 cycles of the selected lane: its harmonics are renewed and a new selection takes effect
  (∀ (s : State), s.chip.met.hcyc = 8 → Answers .harmWindow s fun t => KeptBut [.met, .regs, .freeCount] s t ∧
    RegsKeptBut ((List.range 64).map Reg.MET_QE_HARM) s.chip t.chip ∧
    t.chip.met = { s.chip.met with hselNow := imm s.chip Reg.MET_QE_HSEL 5 0, hbuf := [], hcyc := 0 } ∧
    ∀ k w, k < 64 → (harmWords s.chip)[k]? = some w → regGet t.chip (Reg.MET_QE_HARM k) = w) ∧
  -- a calibration measurement: due, stopped, done
  (∀ (s : State) (a b : Lane) (n : BitVec 8), windowClosed s.chip Reg.MET_CAL_CTRL = false →
    s.chip.met.cal.busy = false → s.chip.met.cal.due = false →
    Answers (.calMeasStart a b n) s fun t => KeptBut [.met, .regs] s t ∧ t.chip.met.cal.due = true ∧
      t.chip.met.cal.laneA = a.val ∧ t.chip.met.cal.laneB = b.val ∧ t.chip.met.cal.cycles = max 1 n.toNat ∧
      fieldOf (regGet t.chip Reg.MET_CAL_CTRL) 5 0 = a.val ∧ RegsKeptBut [Reg.MET_CAL_CTRL] s.chip t.chip) ∧
  (∀ (s : State), windowClosed s.chip Reg.MET_CAL_CTRL = false → s.chip.met.cal.busy = true →
    Answers .calMeasAbort s fun t => KeptBut [.met] s t ∧ t.chip.met.cal.busy = false ∧ t.chip.met.cal.due = false ∧
      t.chip.met.cal.aborted = true) ∧
  (∀ (s : State), s.chip.met.cal.busy = true → s.chip.met.cal.cycles ≤ s.chip.met.cal.cycDone →
    Answers .calMeasDone s fun t => KeptBut [.met, .regs, .freeCount] s t ∧ t.chip.met.cal.busy = false ∧
      t.chip.met.cal.done = true ∧ RegsKeptBut [Reg.MET_CAL_RMS_A, Reg.MET_CAL_RMS_B, Reg.MET_CAL_MEAN_A,
        Reg.MET_CAL_PROD_LO, Reg.MET_CAL_PROD_HI] s.chip t.chip) ∧
  -- LATCH outside finalisation fills the window at once; during it the latch is held back; a point above 7 is refused
  (∀ (s : State) (i : BitVec 8), windowClosed s.chip Reg.MET_ACC_CTRL = false → i.toNat ≤ 7 →
    s.chip.acc.latchWait = none → s.chip.acc.finalising = false →
    Answers (.accLatch false i) s fun t => KeptBut [.acc, .regs] s t ∧ t.chip.acc.window.valid = true ∧
      t.chip.acc.window.index = i.toNat ∧ t.chip.acc.window.target = 0 ∧
      t.chip.acc.window.cycle = s.chip.acc.finCycle ∧
      t.chip.acc.window.readings = (List.range 64).map (fun k => reading (pointAcc s.chip i.toNat k)) ∧
      t.chip.acc.points = s.chip.acc.points) ∧
  (∀ (s : State) (i : BitVec 8), windowClosed s.chip Reg.MET_ACC_CTRL = false → i.toNat ≤ 7 →
    s.chip.acc.latchWait = none → s.chip.acc.finalising = true →
    Answers (.accLatch false i) s fun t => KeptBut [.acc, .regs] s t ∧ t.chip.acc.latchWait = some (0, i.toNat) ∧
      t.chip.acc.window = s.chip.acc.window) ∧
  (∀ (s : State) (i : BitVec 8), 7 < i.toNat → Answers (.accLatch false i) s fun t => t = s) ∧
  -- ACC_READ delivers the accumulators of a point as of the last angle 0, and leaves the window
  (∀ (s : State) (req : Requester) (i : Nat), performs s.chip req 0x0301 .accumulator = true → i ≤ 7 →
    Replies (.accRead req 0 i true) s req 0x0301
      { ansOk with aux32 := 1024, result := leBytes 6 s.chip.acc.finCycle } fun c e =>
        e = deliver c req (accBytes ((List.range 64).map (pointAcc c i))))

/-- Calendars, prices and maximum demand: CAL_TBL_WRITE, CAL_TBL_READ, PAS_CTRL_ARM, PAS_CTRL_DISARM, PAS_CTRL_CLEAR,
PRICE_DATA_WRITE, PRICE_DATA_READ, PRICE_CTRL_PUBLISH, PRICE_CTRL_CLEAR, MD_CTRL_RESET, CAL_LOAD, CAL_CTRL,
PRICE_PUBLISH, MD_RESET (R185, R187, R194, R210, R362). Rests on the model's choices of log 20, 55. -/
def Obligations.TariffCommands : Prop :=
  -- a word of the passive calendar, the address standing still: LOADING; while ARMED the write is refused
  (∀ (s : State) (w : Word), windowClosed s.chip Reg.TAR_TBL_DATA = false → s.chip.tar.pasState ≠ .armed → immBit s.chip Reg.TAR_TBL_ADDR 17 = false →
    immBit s.chip Reg.TAR_TBL_ADDR 16 = false → imm s.chip Reg.TAR_TBL_ADDR 10 0 ≤ 1182 →
    Answers (.calTblWrite w) s fun t => KeptBut [.tar] s t ∧ t.chip.tar.pasState = .loading ∧
      tget 0#32 t.chip.tar.passive (imm s.chip Reg.TAR_TBL_ADDR 10 0) = w ∧
      (∀ k, k ≠ imm s.chip Reg.TAR_TBL_ADDR 10 0 → tget 0#32 t.chip.tar.passive k = tget 0#32 s.chip.tar.passive k) ∧
      t.chip.tar.active = s.chip.tar.active) ∧
  (∀ (s : State) (w : Word), windowClosed s.chip Reg.TAR_TBL_DATA = false → s.chip.tar.pasState = .armed →
    Answers (.calTblWrite w) s fun t => KeptBut [.regs, .host, .out] s t ∧ immBit t.chip Reg.TAR_EVT 5 = true) ∧
  -- a read returns the selected word, and steps WORD where AUTOINC is 1
  (∀ (s : State), windowClosed s.chip Reg.TAR_TBL_DATA = false → immBit s.chip Reg.TAR_TBL_ADDR 16 = true → imm s.chip Reg.TAR_TBL_ADDR 10 0 < 2047 →
    Answers .calTblRead s fun t => KeptBut [.regs, .out] s t ∧
      t.chip.out = .readData Reg.TAR_TBL_DATA (tblRead s.chip) :: s.chip.out ∧
      RegsKeptBut [Reg.TAR_TBL_ADDR] s.chip t.chip ∧
      imm t.chip Reg.TAR_TBL_ADDR 10 0 = imm s.chip Reg.TAR_TBL_ADDR 10 0 + 1) ∧
  -- ARM passes or fails its check; DISARM; CLEAR
  (∀ (s : State), windowClosed s.chip Reg.TAR_PAS_CTRL = false → s.chip.tar.pasState ≠ .armed →
    armCause s.chip (passiveImage s.chip) s.chip.tar.pasAt = 0 →
    Answers .pasCtrlArm s fun t => KeptBut [.tar] s t ∧ t.chip.tar.pasState = .armed ∧ t.chip.tar.pasCause = 0 ∧
      t.chip.tar.passive = s.chip.tar.passive ∧ t.chip.tar.active = s.chip.tar.active) ∧
  (∀ (s : State), windowClosed s.chip Reg.TAR_PAS_CTRL = false → s.chip.tar.pasState ≠ .armed →
    armCause s.chip (passiveImage s.chip) s.chip.tar.pasAt ≠ 0 →
    Answers .pasCtrlArm s fun t => KeptBut [.tar, .regs, .host, .out] s t ∧ t.chip.tar.pasState = .checkFailed ∧
      t.chip.tar.pasCause = armCause s.chip (passiveImage s.chip) s.chip.tar.pasAt ∧
      immBit t.chip Reg.TAR_EVT 4 = true ∧ t.chip.tar.active = s.chip.tar.active) ∧
  (∀ (s : State), windowClosed s.chip Reg.TAR_PAS_CTRL = false → s.chip.tar.pasState = .armed →
    Answers .pasCtrlDisarm s fun t => KeptBut [.tar] s t ∧ t.chip.tar = { s.chip.tar with pasState := .loading }) ∧
  (∀ (s : State), windowClosed s.chip Reg.TAR_PAS_CTRL = false → Answers .pasCtrlClear s fun t => KeptBut [.tar] s t ∧ t.chip.tar.pasState = .empty ∧
    t.chip.tar.passive = [] ∧ t.chip.tar.active = s.chip.tar.active) ∧
  -- the price staging words: written, read, published, cleared
  (∀ (s : State) (w : Word), windowClosed s.chip Reg.TAR_PRICE_DATA = false →
    immBit s.chip Reg.TAR_PRICE_ADDR 16 = false → imm s.chip Reg.TAR_PRICE_ADDR 5 0 ≤ 35 →
    Answers (.priceDataWrite w) s fun t => KeptBut [.tar] s t ∧
      tget 0#32 t.chip.tar.staging (imm s.chip Reg.TAR_PRICE_ADDR 5 0) = w ∧
      t.chip.tar.prices = s.chip.tar.prices) ∧
  (∀ (s : State), windowClosed s.chip Reg.TAR_PRICE_DATA = false → immBit s.chip Reg.TAR_PRICE_ADDR 16 = false →
    Answers .priceDataRead s fun t => KeptBut [.out] s t ∧ t.chip.out =
      .readData Reg.TAR_PRICE_DATA (tget 0#32 s.chip.tar.staging (imm s.chip Reg.TAR_PRICE_ADDR 5 0)) :: s.chip.out) ∧
  (∀ (s : State), windowClosed s.chip Reg.TAR_PRICE_CTRL = false → Answers .priceCtrlPublish s fun t => KeptBut [.tar] s t ∧
    tget [] t.chip.tar.prices (imm s.chip Reg.TAR_PRICE_ADDR 11 8) = (List.range 36).map (tget 0#32 s.chip.tar.staging) ∧
    t.chip.tar.staging = s.chip.tar.staging) ∧
  (∀ (s : State), windowClosed s.chip Reg.TAR_PRICE_CTRL = false → Answers .priceCtrlClear s fun t => KeptBut [.tar] s t ∧
    t.chip.tar = { s.chip.tar with staging := [] }) ∧
  -- a write while the tariff window does not answer is discarded, and a read gives 0
  (∀ (s : State) (w : Word), windowClosed s.chip Reg.TAR_TBL_DATA = true → exec (.calTblWrite w) s = .next s) ∧
  (∀ (s : State), windowClosed s.chip Reg.TAR_PRICE_DATA = true → Answers .priceDataRead s fun t => KeptBut [.out] s t ∧
    t.chip.out = .readData Reg.TAR_PRICE_DATA 0 :: s.chip.out) ∧
  -- a reset of the maximum demand waits for the next angle 0
  (∀ (s : State), windowClosed s.chip Reg.TAR_MD_CTRL = false → Answers .mdCtrlReset s fun t => KeptBut [.tar] s t ∧
    t.chip.tar = { s.chip.tar with mdPending := true }) ∧
  -- the descriptors
  (∀ (s : State) (req : Requester) (at' : Nat) (ws : List Word), performs s.chip req 0x0302 .tariff = true →
    ws.length = 1183 → s.chip.tar.pasState = .armed → s.chip.tar.active = none →
    ¬ (calWord (passiveImage s.chip) 0 = calWord ws 0 ∧ calWord (passiveImage s.chip) 1182 = calWord ws 1182) →
    Replies (.calLoad req at' (some ws)) s req 0x0302 (ansReject .rule) fun c e => e = c) ∧
  (∀ (s : State) (req : Requester) (at' : Nat) (ws : List Word), performs s.chip req 0x0302 .tariff = true →
    ws.length = 1183 → s.chip.tar.pasState ≠ .armed → s.chip.tar.active = none →
    armCause s.chip (passiveImage { s.chip with tar := { s.chip.tar with passive := imageTab ws } }) at' = 0 →
    Replies (.calLoad req at' (some ws)) s req 0x0302 ansOk fun c e => ChipKeptBut [.tar] c e ∧
      e.tar.pasState = .armed ∧ e.tar.passive = imageTab ws ∧ e.tar.pasAt = at' ∧ e.tar.active = none) ∧
  (∀ (s : State) (req : Requester), performs s.chip req 0x0303 .tariff = true →
    Replies (.calCtrl req 2) s req 0x0303 ansOk fun c e => ChipKeptBut [.tar] c e ∧ e.tar.pasState = .empty ∧
      e.tar.passive = []) ∧
  (∀ (s : State) (req : Requester) (n : Nat) (ws : List Word), performs s.chip req 0x0304 .tariff = true → n < 16 →
    ws.length = 36 →
    Replies (.pricePublish req n (some ws)) s req 0x0304 ansOk fun c e => ChipKeptBut [.tar] c e ∧
      tget [] e.tar.prices n = ws ∧ e.tar.staging = c.tar.staging) ∧
  (∀ (s : State) (req : Requester) (cr : Nat), performs s.chip req 0x0305 .tariff = true → s.chip.tar.mdLast ≤ cr →
    Answers (.mdReset req cr) s fun t => StoresKept s t ∧ ChipKeptBut [.tar] (begun s.chip req 0x0305) t.chip ∧
      t.chip.tar.mdPending = true ∧ t.chip.tar.mdReqs = s.chip.tar.mdReqs ++ [{ owner := some req, creq := cr }])

/-- The legally relevant part: SEAL_OPENED, SEAL_CLOSED, LEG_ENTRY_WRITE, LEG_SIGN_START, SIGNATURE_DONE,
LEG_DISPLAY_REBUILD, LEG_EVT_READ, LEGAL_LOAD, LEG_EXPORT, LEG_ACK (R214, R216, R219, R223 to R232, R235, R362). Rests
on the model's choices of log 4, 17, 54, 61. -/
def Obligations.LegalCommands : Prop :=
  -- the running legal core sees the seal open and close, and logs it; while it is not running nothing changes
  (∀ (s : State), s.chip.leg.running = false →
    exec .sealOpened s = .next s ∧ exec .sealClosed s = .next s) ∧
  (∀ (s : State), s.chip.leg.sealOpen = false → s.chip.leg.running = true →
    Answers .sealOpened s fun t => KeptBut [.leg, .regs, .host, .out] s t ∧ t.chip.leg.sealOpen = true ∧
      (∃ k, t.chip.leg.causes = s.chip.leg.causes ++ [k] ∧ k.typ = tySeal) ∧
      t.chip.leg.sealCnt = min 65535 (s.chip.leg.sealCnt + 1) ∧ immBit t.chip Reg.LEG_EVT 0 = true ∧
      t.chip.leg.log = s.chip.leg.log) ∧
  (∀ (s : State), s.chip.leg.sealOpen = true → s.chip.leg.running = true →
    Answers .sealClosed s fun t => KeptBut [.leg] s t ∧ t.chip.leg.sealOpen = false ∧
      (∃ k, t.chip.leg.causes = s.chip.leg.causes ++ [k] ∧ k.typ = tySeal) ∧
      t.chip.leg.sealCnt = s.chip.leg.sealCnt ∧ t.chip.leg.recalLanes = [] ∧ t.chip.leg.log = s.chip.leg.log) ∧
  -- the oldest cause is written with the next SEQ and chained to the entry before it
  (∀ (s : State) (k : LegCause) (rest : List LegCause), s.chip.leg.causes = k :: rest → s.chip.leg.running = true →
    logHardFull s.chip = false → s.chip.leg.gap = none → k.ctx = none →
    Answers .legEntryWrite s fun t => KeptBut [.leg, .regs, .host, .out] s t ∧ t.chip.leg.causes = rest ∧
      t.chip.leg.nextSeq = s.chip.leg.nextSeq + 1 ∧
      ∃ e, legEntryOf t.chip s.chip.leg.nextSeq = some e ∧ e.seq = s.chip.leg.nextSeq ∧ e.typ = k.typ ∧
        e.stamp = k.stamp ∧ e.body = k.body ∧ e.prevChain = s.chip.leg.chain ∧ e.signed = false ∧
        t.chip.leg.chain = Config.shake256 (id16 s.chip.tru.unit ++ headerBytes e ++ e.body)) ∧
  -- while HARDFULL the entry is lost and counted
  (∀ (s : State) (k : LegCause) (rest : List LegCause), s.chip.leg.causes = k :: rest → s.chip.leg.running = true →
    logHardFull s.chip = true →
    Answers .legEntryWrite s fun t => KeptBut [.leg] s t ∧ t.chip.leg.causes = rest ∧
      t.chip.leg.lost = (s.chip.leg.lost + 1) % 2 ^ 32 ∧ t.chip.leg.nextSeq = s.chip.leg.nextSeq ∧
      t.chip.leg.log = s.chip.leg.log ∧ t.chip.leg.gap.isSome = true) ∧
  (∀ (s : State) (n : Nat) (ns : List Nat), unsignedSeqs s.chip = n :: ns → signAllowed s.chip = true →
    Answers .legSignStart s fun t => KeptBut [.tru] s t ∧
      t.chip.tru.signQueue = s.chip.tru.signQueue ++ [.legal n]) ∧
  -- a signature of a log entry is done: the entry is signed with its index, and SIGNED_SEQ follows
  (∀ (s : State) (n i : Nat) (e : LegEntry), s.chip.tru.signNow = some (.legal n, i) →
    legEntryOf s.chip n = some e →
    Answers .signatureDone s fun t => KeptBut [.tru, .leg] s t ∧ t.chip.tru.signNow = none ∧
      t.chip.tru.sigsMade = s.chip.tru.sigsMade + 1 ∧ t.chip.leg.signedSeq = max s.chip.leg.signedSeq n ∧
      legEntryOf t.chip n = some { e with signed := true, sigIndex := i } ∧
      t.chip.leg.sigRing.head? = some (n, i)) ∧
  (∀ (s : State), s.chip.leg.running = true →
    Answers .legDisplayRebuild s fun t => KeptBut [.leg, .bp, .freeCount, .regs, .host, .out] s t ∧
      t.chip.leg.display.length = 640 ∧ t.chip.leg.displayCrc = crc32 t.chip.leg.display ∧
      t.chip.bp.waiting = true ∧ t.chip.leg.log = s.chip.leg.log) ∧
  (∀ (s : State), windowClosed s.chip Reg.LEG_EVT = false → Answers .legEvtRead s fun t => KeptBut [.regs, .out] s t ∧
    t.chip.out = .readData Reg.LEG_EVT (regGet s.chip Reg.LEG_EVT) :: s.chip.out ∧
    regGet t.chip Reg.LEG_EVT = 0#32 ∧ RegsKeptBut [Reg.LEG_EVT] s.chip t.chip) ∧
  -- a load of the legal firmware: the last status goes out; a good image is kept, a refused one is not
  (∀ (s : State) (bs : List Byte) (v : Word) (ok : Bool), bs ≠ [] →
    Answers (.legalLoad bs v ok) s fun t => KeptBut [.leg, .out] s t ∧
      t.chip.out = .jtag (beBytes 4 s.chip.leg.loadStatus) :: s.chip.out ∧
      t.chip.leg.loadStatus = legalLoadStatus s.fuses s.chip bs ok ∧
      t.chip.leg.firmware = (if legalLoadStatus s.fuses s.chip bs ok = 0 then
        some { version := v, image := (bs.drop 4).take (beNat (bs.take 4)),
               key := (bs.drop (4 + beNat (bs.take 4))).take 68 } else s.chip.leg.firmware)) ∧
  -- an export past the signed entries is OK and empty; one of an entry no longer held is GONE
  (∀ (s : State) (req : Requester) (n len : Nat), performs s.chip req 0x0306 .legalLog = true →
    s.chip.leg.signedSeq < n → Replies (.legExport req n len true) s req 0x0306 ansOk fun c e => e = c) ∧
  (∀ (s : State) (req : Requester) (n len : Nat), performs s.chip req 0x0306 .legalLog = true →
    n ≤ s.chip.leg.signedSeq → legEntryOf s.chip n = none →
    Replies (.legExport req n len true) s req 0x0306 (ansReject .gone) fun c e => e = c) ∧
  -- an export of one signed entry whose signature is still held delivers its record
  (∀ (s : State) (req : Requester) (n i len : Nat) (e : LegEntry), performs s.chip req 0x0306 .legalLog = true →
    n ≤ s.chip.leg.signedSeq → legEntryOf s.chip n = some e → e.signed = true →
    s.chip.leg.sigRing.find? (fun r => r.1 == n) = some (n, i) → legEntryOf s.chip (n + 1) = none →
    5741 + e.body.length ≤ len → Replies (.legExport req n len true) s req 0x0306
      { ansOk with aux := 1, aux32 := (recordBytes s.fuses.root s.chip e i false).length,
                   result := leBytes 8 n ++ leBytes 8 n } fun c x =>
        x = deliver c req (recordBytes s.fuses.root s.chip e i false)) ∧
  -- an acknowledgement within the signed entries moves ACK; one beyond them is refused
  (∀ (s : State) (req : Requester) (n : Nat), performs s.chip req 0x0307 .legalLog = true → s.chip.leg.ack < n →
    n ≤ s.chip.leg.signedSeq →
    Replies (.legAck req n) s req 0x0307 ansOk fun c e => ChipKeptBut [.leg, .sess] c e ∧
      e.leg = { c.leg with ack := n } ∧ (ctxsIn c .awaiting = [] → e.sess = c.sess)) ∧
  (∀ (s : State) (req : Requester) (n : Nat), performs s.chip req 0x0307 .legalLog = true → s.chip.leg.signedSeq < n →
    Replies (.legAck req n) s req 0x0307 (ansReject .rule) fun c e => e = c)

/-- The pilot, proximity and the lock: PILOT_STATE_ACCEPTED, PILOT_ERROR, PWM_OFF_TIMEOUT, OVERCURRENT_TIMEOUT,
PP_CLASS_ACCEPTED, LOCK_TIMEOUT, LOCK_RETRY, LOCK_FEEDBACK_CHANGE (R241, R244 to R249, R257, R280). Rests on the
model's choices of log 10. -/
def Obligations.PilotCommands : Prop :=
  -- a vehicle on an IDLE outlet: PLUGGED, OUT_EVT bit 0, and with a cable the 5 % duty where HLC is offered
  (∀ (s : State) (o : Outlet) (vp vn : Int) (a : Nat), fenced s.chip .out = false → outletPlacing s.chip = false →
    (outletOf s.chip o.val).state = .idle → cpConnected (pilotAt s.chip o.val vp vn) = true →
    s.chip.outl.heldCard = none →
    Answers (.pilotStateAccepted o vp vn a) s fun t => KeptBut [.host, .out, .outl, .pwd, .regs, .tb] s t ∧
      OthersKept o.val s.chip t.chip ∧ (outletOf t.chip o.val).state = .plugged ∧
      (outletOf t.chip o.val).cp = pilotAt s.chip o.val vp vn ∧ (outletOf t.chip o.val).vpos = vp ∧
      (outletOf t.chip o.val).vneg = vn ∧
      (outletOf t.chip o.val).waitSince = s.chip.outl.waitCounter + 1 ∧
      immBit t.chip (Reg.OUT_EVT o.val) 0 = true ∧
      (ppValid (outletOf s.chip o.val) = true → offersHlc s.chip o.val = true →
        (outletOf t.chip o.val).pwm = true ∧ (outletOf t.chip o.val).duty = 50)) ∧
  -- the vehicle leaves before energisation: the session ends and the outlet is IDLE
  (∀ (s : State) (o : Outlet) (vp vn : Int) (a : Nat), fenced s.chip .out = false → outletPlacing s.chip = false →
    pilotAt s.chip o.val vp vn = .a → cpConnected (outletOf s.chip o.val).cp = true →
    ((outletOf s.chip o.val).state = .plugged ∨ (outletOf s.chip o.val).state = .linking ∨
      (outletOf s.chip o.val).state = .negotiating ∨ (outletOf s.chip o.val).state = .authorised) →
    energised s.chip o.val = false → mustBeUnavailable s.chip o.val = false →
    Answers (.pilotStateAccepted o vp vn a) s fun t =>
      KeptBut [.acc, .host, .out, .outl, .pwd, .regs, .saf, .sess, .tb] s t ∧ OthersKept o.val s.chip t.chip ∧
      (outletOf t.chip o.val).state = .idle ∧ (outletOf t.chip o.val).cp = .a ∧
      immBit t.chip (Reg.OUT_EVT o.val) 1 = true) ∧
  -- the vehicle leaves an energised outlet, or the pilot stays in an error: SF3
  (∀ (s : State) (o : Outlet) (vp vn : Int) (a : Nat), procAnswers s.chip = true → outletPlacing s.chip = false →
    pilotAt s.chip o.val vp vn = .a → (outletOf s.chip o.val).cp ≠ .a → energised s.chip o.val = true →
    Answers (.pilotStateAccepted o vp vn a) s fun t => StoresKept s t ∧ Tripped s.chip t.chip o.val .sf3 .processor) ∧
  (∀ (s : State) (o : Outlet), procAnswers s.chip = true → presentCp s.chip o = .e ∨ presentCp s.chip o = .invalid →
    Answers (.pilotError o) s fun t => StoresKept s t ∧ Tripped s.chip t.chip o.val .sf3 .processor) ∧
  (∀ (s : State) (o : Outlet), presentCp s.chip o ≠ .e → presentCp s.chip o ≠ .invalid →
    exec (.pilotError o) s = .next s) ∧
  -- while the outlet firmware is being placed a pilot state is latched; the safety processor sees state A all the same
  (∀ (s : State) (o : Outlet) (vp vn : Int) (a : Nat), outletPlacing s.chip = true →
    ¬ (pilotAt s.chip o.val vp vn = .a ∧ energised s.chip o.val = true) →
    Answers (.pilotStateAccepted o vp vn a) s fun t => KeptBut [.latched] s t ∧
      t.chip.latched = s.chip.latched ++ [.pilotStateAccepted o vp vn a]) ∧
  (∀ (s : State) (o : Outlet) (vp vn : Int) (a : Nat), procAnswers s.chip = true → outletPlacing s.chip = true →
    pilotAt s.chip o.val vp vn = .a → energised s.chip o.val = true →
    Answers (.pilotStateAccepted o vp vn a) s fun t => StoresKept s t ∧
      Tripped (latch s.chip (.pilotStateAccepted o vp vn a)) t.chip o.val .sf3 .processor) ∧
  -- still in C after PWM went off: the contactors open as in a pause; an overcurrent stops the session
  (∀ (s : State) (o : Outlet) (a : Nat), fenced s.chip .out = false → (outletOf s.chip o.val).state = .energised →
    (outletOf s.chip o.val).pwm = false → (outletOf s.chip o.val).hlc = .none → isAc s.chip o.val = true →
    Answers (.pwmOffTimeout o a) s fun t => StoresKept s t ∧ Opens s.chip t.chip o.val .pause) ∧
  (∀ (s : State) (o : Outlet) (a : Nat), fenced s.chip .out = false → (outletOf s.chip o.val).state = .energised →
    isAc s.chip o.val = true →
    Answers (.overcurrentTimeout o a) s fun t => StoresKept s t ∧ Opens s.chip t.chip o.val .stop ∧
      immBit t.chip (Reg.OUT_EVT o.val) 11 = true) ∧
  -- a cable class gives the capacity; a change of it while closed is a loss of the cable
  (∀ (s : State) (o : Outlet) (mv : Nat), fenced s.chip .out = false → outletPlacing s.chip = false →
    let p := ppOf (ppLatch s.chip o.val) mv
    closedSide (outletOf s.chip o.val).state = false → (outletOf s.chip o.val).state ≠ .authorised →
    (outletOf s.chip o.val).auth = none →
    Answers (.ppClassAccepted o mv) s fun t => KeptBut [.freeCount, .outl, .pwd] s t ∧
      OthersKept o.val s.chip t.chip ∧ (outletOf t.chip o.val).pp = p ∧ (outletOf t.chip o.val).capA = ppAmps p ∧
      (outletOf t.chip o.val).ohm = min 65535 (ohmOf s.chip o.val mv) ∧
      (outletOf t.chip o.val).state = (outletOf s.chip o.val).state) ∧
  (∀ (s : State) (o : Outlet) (mv : Nat), fenced s.chip .out = false → outletPlacing s.chip = false →
    closedSide (outletOf s.chip o.val).state = true → ppValid (outletOf s.chip o.val) = true →
    ppOf (ppLatch s.chip o.val) mv ≠ (outletOf s.chip o.val).pp →
    Answers (.ppClassAccepted o mv) s fun t =>
      KeptBut [.acc, .freeCount, .host, .out, .outl, .pwd, .saf, .sess, .tb] s t ∧ FaultedAt s.chip t.chip o.val) ∧
  -- the lock fails, is tried again, and after the third failure the session is FAULTED
  (∀ (s : State) (o : Outlet), fenced s.chip .out = false →
    ((outletOf s.chip o.val).state = .plugged ∨ (outletOf s.chip o.val).state = .linking ∨
      (outletOf s.chip o.val).state = .negotiating ∨ (outletOf s.chip o.val).state = .authorised) →
    (outletOf s.chip o.val).lock = .moving → (outletOf s.chip o.val).locking = true →
    Answers (.lockTimeout o) s fun t => immBit t.chip (Reg.OUT_EVT o.val) 8 = true ∧
      (if 2 ≤ (outletOf s.chip o.val).lockTries then
        KeptBut [.acc, .host, .out, .outl, .pwd, .regs, .saf, .sess, .tb] s t ∧ FaultedAt s.chip t.chip o.val
      else KeptBut [.host, .out, .outl, .regs] s t ∧ OthersKept o.val s.chip t.chip ∧
        outletOf t.chip o.val = { outletOf s.chip o.val with
          lock := .fault, lockTries := (outletOf s.chip o.val).lockTries + 1 })) ∧
  -- an unlock pulse that ends leaves what the feedback reads
  (∀ (s : State) (o : Outlet), fenced s.chip .out = false → (outletOf s.chip o.val).lock = .moving →
    (outletOf s.chip o.val).locking = false →
    Answers (.lockTimeout o) s fun t => KeptBut [.outl] s t ∧ OthersKept o.val s.chip t.chip ∧
      outletOf t.chip o.val = { outletOf s.chip o.val with
        lock := if (outletOf s.chip o.val).lockIn then .locked else .unlocked }) ∧
  (∀ (s : State) (o : Outlet), fenced s.chip .out = false →
    ((outletOf s.chip o.val).state = .plugged ∨ (outletOf s.chip o.val).state = .linking ∨
      (outletOf s.chip o.val).state = .negotiating ∨ (outletOf s.chip o.val).state = .authorised) →
    (outletOf s.chip o.val).lock = .fault → cfgBit s.chip (Reg.OUT_CFG o.val) 6 = true →
    Answers (.lockRetry o) s fun t => KeptBut [.outl, .pwd] s t ∧ OthersKept o.val s.chip t.chip ∧
      outletOf t.chip o.val = { outletOf s.chip o.val with
        locking := true, lock := if (outletOf s.chip o.val).lockIn then .locked else .moving } ∧
      t.chip.pwd = { s.chip.pwd with posted := s.chip.pwd.posted ++
        [⟨Reg.LSW_CMD (cfg s.chip (Reg.OUT_LOCK_CFG o.val) 3 0),
          wordOf (1 + place 8 (cfg s.chip (Reg.OUT_LOCK_CFG o.val) 23 16)), none⟩] }) ∧
  -- the feedback of the lock; unlocked while ENERGISED is as a loss of the cable
  (∀ (s : State) (o : Outlet) (h : Bool), fenced s.chip .out = false → fbLocked s.chip o.val h = true →
    (outletOf s.chip o.val).state ≠ .authorised →
    ((outletOf s.chip o.val).locking = true ∨
      ((outletOf s.chip o.val).lock ≠ .moving ∧ (outletOf s.chip o.val).lock ≠ .fault)) →
    Answers (.lockFeedbackChange o h) s fun t => KeptBut [.outl] s t ∧ OthersKept o.val s.chip t.chip ∧
      outletOf t.chip o.val = { outletOf s.chip o.val with lock := .locked, lockIn := true, lockTries := 0 }) ∧
  (∀ (s : State) (o : Outlet) (h : Bool), fenced s.chip .out = false → fbLocked s.chip o.val h = false →
    (outletOf s.chip o.val).state = .energised → cfgBit s.chip (Reg.OUT_CFG o.val) 6 = true →
    Answers (.lockFeedbackChange o h) s fun t =>
      KeptBut [.acc, .host, .out, .outl, .pwd, .saf, .sess, .tb] s t ∧ FaultedAt s.chip t.chip o.val)

/-- SLAC: CM_SLAC_PARM, CM_START_ATTEN_CHAR, CM_MNBC_SOUND, CM_ATTEN_CHAR, CM_SLAC_MATCH, CM_SET_KEY, CM_VALIDATE,
SLAC_TIMEOUT, SLAC_RETRY_TIMER, GP_LINK_UP (R251 to R253, R257). -/
def Obligations.SlacCommands : Prop :=
  (∀ (s : State) (o : Outlet) (r : Nat), modemsRun s.chip = true → (outletOf s.chip o.val).state = .plugged →
    offers5 (outletOf s.chip o.val) = true →
    Answers (.cmSlacParm o r) s fun t => KeptBut [.outl, .out] s t ∧ OthersKept o.val s.chip t.chip ∧
      outletOf t.chip o.val = { outletOf s.chip o.val with state := .linking, runId := some r, atten := none } ∧
      t.chip.out = .slac o.val 1 (beBytes 6 (tget 0 s.chip.outl.macs o.val)) :: s.chip.out) ∧
  -- while the outlet firmware is being placed the message is latched; in a fenced region and in Hold-up it is lost
  (∀ (s : State) (o : Outlet) (r : Nat), outletPlacing s.chip = true →
    exec (.cmSlacParm o r) s = .next { s with chip := latch s.chip (.cmSlacParm o r) }) ∧
  (∀ (s : State) (o : Outlet) (r : Nat), outletPlacing s.chip = false →
    fenced s.chip .out = true ∨ s.chip.sup.mode = .holdUp → exec (.cmSlacParm o r) s = .next s) ∧
  -- the messages of the matching under way, and of no other
  (∀ (s : State) (o : Outlet) (r : Nat), modemsRun s.chip = true → inMatch s.chip o.val r = true →
    Answers (.cmStartAttenChar o r) s fun t => KeptBut [.out] s t ∧ t.chip.out = .slac o.val 2 [] :: s.chip.out) ∧
  (∀ (s : State) (o : Outlet) (r a : Nat), modemsRun s.chip = true → inMatch s.chip o.val r = true →
    Answers (.cmMnbcSound o r a) s fun t => KeptBut [.outl] s t ∧ OthersKept o.val s.chip t.chip ∧
      outletOf t.chip o.val = { outletOf s.chip o.val with atten := some a }) ∧
  (∀ (s : State) (o : Outlet) (r a : Nat), modemsRun s.chip = true → inMatch s.chip o.val r = false →
    exec (.cmStartAttenChar o r) s = .next s ∧ exec (.cmMnbcSound o r a) s = .next s ∧
    exec (.cmAttenChar o r) s = .next s ∧ exec (.cmSlacMatch o r) s = .next s ∧
    exec (.cmSetKey o r) s = .next s ∧ exec (.cmValidate o r) s = .next s) ∧
  -- no confirmation where another outlet sounds at least 3 dB lower
  (∀ (s : State) (o : Outlet) (r : Nat), modemsRun s.chip = true → inMatch s.chip o.val r = true →
    clearlyLower s.chip o.val r = false →
    Answers (.cmAttenChar o r) s fun t => KeptBut [.out] s t ∧ t.chip.out = .slac o.val 4 [] :: s.chip.out) ∧
  (∀ (s : State) (o p : Outlet) (r a b : Nat), modemsRun s.chip = true → inMatch s.chip o.val r = true → p ≠ o →
    inMatch s.chip p.val r = true →
    (outletOf s.chip o.val).atten = some a → (outletOf s.chip p.val).atten = some b → b + 30 ≤ a →
    exec (.cmAttenChar o r) s = .next s) ∧
  -- the match hands over a membership key of 16 bytes
  (∀ (s : State) (o : Outlet) (r : Nat), modemsRun s.chip = true → inMatch s.chip o.val r = true →
    Answers (.cmSlacMatch o r) s fun t => KeptBut [.outl, .out, .freeCount] s t ∧ OthersKept o.val s.chip t.chip ∧
      (∃ key : List Byte, key.length = 16 ∧
        t.chip.out = .slac o.val 5 (key ++ beBytes 7 (Config.networkId key)) :: s.chip.out) ∧
      t.chip.freeCount = s.chip.freeCount + 1) ∧
  (∀ (s : State) (o : Outlet) (r : Nat), modemsRun s.chip = true → inMatch s.chip o.val r = true →
    Answers (.cmSetKey o r) s fun t => KeptBut [.out] s t ∧ t.chip.out = .slac o.val 6 [] :: s.chip.out) ∧
  (∀ (s : State) (o : Outlet) (r : Nat), modemsRun s.chip = true → inMatch s.chip o.val r = true →
    Answers (.cmValidate o r) s fun t => KeptBut [.out] s t ∧
      t.chip.out = if cfgBit s.chip (Reg.OUT_GP_CFG o.val) 8 then .slac o.val 7 [] :: s.chip.out else s.chip.out) ∧
  -- a failure holds +12 V and counts; the third ends in FAULTED where no basic charging is offered
  (∀ (s : State) (o : Outlet), fenced s.chip .out = false → s.chip.sup.mode ≠ .holdUp →
    ((outletOf s.chip o.val).state = .linking ∨
      ((outletOf s.chip o.val).state = .plugged ∧ offers5 (outletOf s.chip o.val) = true)) →
    (outletOf s.chip o.val).slacFails < 2 →
    Answers (.slacTimeout o) s fun t => KeptBut [.outl, .pwd] s t ∧ OthersKept o.val s.chip t.chip ∧
      (outletOf t.chip o.val).state = .plugged ∧
      (outletOf t.chip o.val).slacFails = (outletOf s.chip o.val).slacFails + 1 ∧
      (outletOf t.chip o.val).slacHold = true ∧ (outletOf t.chip o.val).pwm = false ∧
      tfind t.chip.pwd.pilots o.val = some .steady12) ∧
  (∀ (s : State) (o : Outlet), fenced s.chip .out = false → s.chip.sup.mode ≠ .holdUp →
    (outletOf s.chip o.val).state = .linking → 2 ≤ (outletOf s.chip o.val).slacFails →
    isDc s.chip o.val = true →
    Answers (.slacTimeout o) s fun t => KeptBut [.acc, .host, .out, .outl, .pwd, .regs, .saf, .sess, .tb] s t ∧
      FaultedAt s.chip t.chip o.val ∧ immBit t.chip (Reg.OUT_EVT o.val) 6 = true) ∧
  (∀ (s : State) (o : Outlet), fenced s.chip .out = false → s.chip.sup.mode ≠ .holdUp →
    (outletOf s.chip o.val).state = .plugged → (outletOf s.chip o.val).slacHold = true →
    Answers (.slacRetryTimer o) s fun t => KeptBut [.outl, .pwd] s t ∧ OthersKept o.val s.chip t.chip ∧
      outletOf t.chip o.val = { outletOf s.chip o.val with slacHold := false, pwm := true, duty := 50 } ∧
      t.chip.pwd = { s.chip.pwd with pilots := tput s.chip.pwd.pilots o.val (.pwm 50) }) ∧
  (∀ (s : State) (o : Outlet), modemsRun s.chip = true → (outletOf s.chip o.val).state = .linking →
    Answers (.gpLinkUp o) s fun t => KeptBut [.outl] s t ∧ OthersKept o.val s.chip t.chip ∧
      outletOf t.chip o.val = { outletOf s.chip o.val with state := .negotiating })

/-- The vehicle protocols before energisation: SESSION_SETUP_REQ, SESSION_RESUME_TIMEOUT, AUTHORIZATION_REQ,
CHARGE_PARAMETER_DISCOVERY_REQ, CABLE_CHECK_REQ, PRE_CHARGE_REQ, HLC_TIMEOUT, CERTIFICATE_INSTALLATION_REQ,
METERING_RECEIPT_REQ (R254, R255, R257, R264). Rests on the model's choices of log 11, 63. -/
def Obligations.VehicleNegotiation : Prop :=
  -- a protocol that the outlet serves, over the TLS version it needs: the session runs it at the 5 % duty
  (∀ (s : State) (o : Outlet) (p : Hlc) (tls : Nat) (sid : BitVec 128), hlcRuns s.chip = true →
    protoServed s.chip o.val p = true → tlsFits p tls = true → resumes s.chip o.val sid = false →
    (outletOf s.chip o.val).state = .negotiating →
    Answers (.sessionSetupReq o p tls sid) s fun t => KeptBut [.outl, .out, .pwd] s t ∧ OthersKept o.val s.chip t.chip ∧
      outletOf t.chip o.val = { outletOf s.chip o.val with hlc := p, tls := tls, resume := false, pwm := true, duty := 50 } ∧
      t.chip.out = .hlc o.val 1 true :: s.chip.out) ∧
  (∀ (s : State) (o : Outlet) (p : Hlc) (tls : Nat) (sid : BitVec 128), hlcRuns s.chip = true →
    protoServed s.chip o.val p = false ∨ tlsFits p tls = false →
    Answers (.sessionSetupReq o p tls sid) s fun t => KeptBut [.out] s t ∧
      t.chip.out = .hlc o.val 1 false :: s.chip.out) ∧
  -- an energised session is resumed by its SESSION_ID
  (∀ (s : State) (o : Outlet) (p : Hlc) (tls x : Nat) (sid : BitVec 128), hlcRuns s.chip = true →
    protoServed s.chip o.val p = true → tlsFits p tls = true → (outletOf s.chip o.val).resume = true →
    liveCtx s.chip o.val = some x → (ctxOf s.chip x).sessionId = sid → (outletOf s.chip o.val).state = .energised →
    Answers (.sessionSetupReq o p tls sid) s fun t => KeptBut [.outl, .out, .pwd] s t ∧ OthersKept o.val s.chip t.chip ∧
      (outletOf t.chip o.val).resume = false ∧ (outletOf t.chip o.val).hlc = p ∧
      (outletOf t.chip o.val).state = .energised ∧ t.chip.out = .hlc o.val 1 true :: s.chip.out) ∧
  -- a session that no vehicle resumes is stopped
  (∀ (s : State) (o : Outlet) (a : Nat), fenced s.chip .out = false → (outletOf s.chip o.val).resume = true →
    (outletOf s.chip o.val).state = .energised → energised s.chip o.val = true →
    Answers (.sessionResumeTimeout o a) s fun t =>
      KeptBut [.freeCount, .host, .out, .outl, .pwd, .regs, .saf, .sess, .tb] s t ∧ OthersKept o.val s.chip t.chip ∧
      (outletOf t.chip o.val).resume = false ∧ (outletOf t.chip o.val).why = .stop ∧
      ((outletOf t.chip o.val).state = .opening ∨ (outletOf t.chip o.val).state = .weldCheck) ∧
      ∀ x, liveCtx s.chip o.val = some x → (ctxOf t.chip x).flags.getLsbD 2 = true) ∧
  (∀ (s : State) (o : Outlet) (a : Nat), fenced s.chip .out = false → (outletOf s.chip o.val).resume = true →
    energised s.chip o.val = false →
    Answers (.sessionResumeTimeout o a) s fun t =>
      KeptBut [.acc, .host, .out, .outl, .pwd, .sess, .tb] s t ∧ OthersKept o.val s.chip t.chip ∧
      (outletOf t.chip o.val).resume = false ∧ (outletOf t.chip o.val).state = .finishing) ∧
  -- External Identification Means answers whether an authorisation stands; Plug & Charge asks the backend, and a contract
  -- chain that does not verify ends the start
  (∀ (s : State) (o : Outlet) (ok : Bool) (i : List Byte) (pt : Nat), hlcRuns s.chip = true →
    (outletOf s.chip o.val).state = .negotiating →
    Answers (.authorizationReq o false ok i pt) s fun t => KeptBut [.out] s t ∧
      t.chip.out = .hlc o.val 2 (outletOf s.chip o.val).auth.isSome :: s.chip.out) ∧
  (∀ (s : State) (o : Outlet) (i : List Byte) (pt : Nat), hlcRuns s.chip = true →
    (outletOf s.chip o.val).state = .negotiating → cfgBit s.chip (Reg.OUT_CFG o.val) 16 = true →
    (outletOf s.chip o.val).hlc ≠ .din → (outletOf s.chip o.val).tls ≠ 0 →
    mayAuthorise s.chip o.val (authRefOf i) = true → backendUp s.chip = true →
    Answers (.authorizationReq o true true i pt) s fun t => KeptBut [.outl, .out] s t ∧
      OthersKept o.val s.chip t.chip ∧
      (outletOf t.chip o.val).authWait = some ⟨.plugCharge, true, authRefOf i, pt, none⟩ ∧
      t.chip.out = .ocpp 1 o.val true :: s.chip.out) ∧
  (∀ (s : State) (o : Outlet) (i : List Byte) (pt : Nat), hlcRuns s.chip = true →
    (outletOf s.chip o.val).state = .negotiating → cfgBit s.chip (Reg.OUT_CFG o.val) 16 = true →
    (outletOf s.chip o.val).hlc ≠ .din → (outletOf s.chip o.val).tls ≠ 0 →
    mayAuthorise s.chip o.val (authRefOf i) = true →
    Answers (.authorizationReq o true false i pt) s fun t => KeptBut [.host, .out, .outl, .pwd, .regs] s t ∧
      OthersKept o.val s.chip t.chip ∧ (outletOf t.chip o.val).state = .finishing ∧
      (outletOf t.chip o.val).authWait = none ∧ immBit t.chip (Reg.OUT_EVT o.val) 3 = true) ∧
  -- the parameters: the answer carries the limits in force; a service that is not the protocol's is refused
  (∀ (s : State) (o : Outlet) (b d : Bool) (ss : List (List Nat)), hlcRuns s.chip = true →
    (outletOf s.chip o.val).state = .negotiating → (outletOf s.chip o.val).auth = none →
    serviceFits s.chip o.val b d = true →
    Answers (.chargeParameterDiscoveryReq o b d ss) s fun t => KeptBut [.freeCount, .outl, .out, .pwd] s t ∧
      OthersKept o.val s.chip t.chip ∧ (outletOf t.chip o.val).paramDone = true ∧
      (outletOf t.chip o.val).state = .negotiating ∧ (outletOf t.chip o.val).bpt = b ∧
      (outletOf t.chip o.val).dynamic = d ∧ .hlc o.val 3 true ∈ t.chip.out ∧
      .limits o.val (outletOf t.chip o.val).ilim (if b then cfg s.chip (Reg.OUT_LIMIT o.val) 31 16 else 0) ∈ t.chip.out ∧
      ((outletOf s.chip o.val).hlc = .iso2 → .schedules o.val ((ss.take 3).map (·.take 24)) ∈ t.chip.out)) ∧
  (∀ (s : State) (o : Outlet) (b d : Bool) (ss : List (List Nat)), hlcRuns s.chip = true →
    (outletOf s.chip o.val).state = .negotiating → serviceFits s.chip o.val b d = false →
    Answers (.chargeParameterDiscoveryReq o b d ss) s fun t => KeptBut [.out] s t ∧
      t.chip.out = .hlc o.val 3 false :: s.chip.out) ∧
  -- CableCheck: closes a DC outlet in state C with its output below 60 V; in CHECKING it has the insulation's answer
  (∀ (s : State) (o : Outlet) (u : Nat), hlcRuns s.chip = true → isDc s.chip o.val = true →
    (outletOf s.chip o.val).state = .authorised →
    cpReady s.chip o.val = true → outputMv s.chip o.val < 60000 → mayClose s.chip o.val = true →
    (outletOf s.chip o.val).preclosed = some u → aonSec s.chip ≤ u + 60 → (coilOf s.chip o.val).driven = false →
    Answers (.cableCheckReq o) s fun t => KeptBut [.outl, .pwd] s t ∧ OthersKept o.val s.chip t.chip ∧
      (outletOf t.chip o.val).state = .closing ∧ (coilOf t.chip o.val).state = .pullin ∧
      (coilOf t.chip o.val).cmd = true) ∧
  (∀ (s : State) (o : Outlet), hlcRuns s.chip = true → (outletOf s.chip o.val).state = .checking →
    Answers (.cableCheckReq o) s fun t => KeptBut [.out] s t ∧
      t.chip.out = .hlc o.val 4 (decide (2 ≤ tget 0 s.chip.saf.imdGood o.val)) :: s.chip.out) ∧
  -- PreCharge after a valid insulation result, at most 2 A and VMAX
  (∀ (s : State) (o : Outlet) (mv ma : Nat), hlcRuns s.chip = true →
    ((outletOf s.chip o.val).state = .checking ∧ 2 ≤ tget 0 s.chip.saf.imdGood o.val) ∨
      (outletOf s.chip o.val).state = .precharge →
    Answers (.preChargeReq o mv ma) s fun t => KeptBut [.outl, .out, .freeCount] s t ∧
      OthersKept o.val s.chip t.chip ∧ (outletOf t.chip o.val).state = .precharge ∧
      (outletOf t.chip o.val).setMv = min mv (cfg s.chip (Reg.OUT_DCLIM o.val) 15 0 * 100) ∧
      (outletOf t.chip o.val).setMa = (min ma 2000 : Nat) ∧ t.chip.out.head? = some (.hlc o.val 5 true)) ∧
  (∀ (s : State) (o : Outlet) (mv ma : Nat), hlcRuns s.chip = true → (outletOf s.chip o.val).state = .checking →
    tget 0 s.chip.saf.imdGood o.val < 2 → exec (.preChargeReq o mv ma) s = .next s) ∧
  (∀ (s : State) (o : Outlet), hlcRuns s.chip = true → (outletOf s.chip o.val).state = .negotiating →
    Answers (.hlcTimeout o) s fun t => KeptBut [.host, .out, .outl, .pwd, .regs] s t ∧
      OthersKept o.val s.chip t.chip ∧ (outletOf t.chip o.val).state = .finishing ∧
      immBit t.chip (Reg.OUT_EVT o.val) 7 = true) ∧
  -- certificates and meter information are ISO 15118-2's
  (∀ (s : State) (o : Outlet) (u : Bool) (cert : List Byte), hlcRuns s.chip = true →
    (outletOf s.chip o.val).hlc = .iso2 →
    Answers (.certificateInstallationReq o u cert) s fun t => KeptBut [.outl, .out] s t ∧
      cert ∈ t.chip.outl.certs ∧ (∀ p, outletOf t.chip p = outletOf s.chip p) ∧
      t.chip.out = .hlc o.val (if u then 12 else 9) true :: s.chip.out) ∧
  (∀ (s : State) (o : Outlet) (u : Bool) (cert : List Byte), hlcRuns s.chip = true →
    (outletOf s.chip o.val).hlc ≠ .iso2 →
    Answers (.certificateInstallationReq o u cert) s fun t => KeptBut [.out] s t ∧
      t.chip.out = .hlc o.val (if u then 12 else 9) false :: s.chip.out) ∧
  (∀ (s : State) (o : Outlet) (x : Nat), hlcRuns s.chip = true → liveCtx s.chip o.val = some x →
    (outletOf s.chip o.val).hlc = .iso2 →
    Answers (.meteringReceiptReq o) s fun t => KeptBut [.out] s t ∧
      t.chip.out = .meterInfo o.val (reading (ctxAcc s.chip x 24) / 2 ^ 32 / 1000) :: s.chip.out)

/-- The vehicle protocols during a charge: POWER_DELIVERY_REQ, CURRENT_DEMAND_REQ, WELDING_DETECTION_REQ,
SESSION_STOP_REQ (R254, R257, R268). Rests on the model's choices of log 63. -/
def Obligations.VehicleEnergyTransfer : Prop :=
  -- PowerDelivery stop and pause open, but DIN SPEC 70121 has no pause; start ends the pre-charge within 20 V and 2 A
  (∀ (s : State) (o : Outlet) (a : Nat), hlcRuns s.chip = true → (outletOf s.chip o.val).hlc ≠ .none →
    (outletOf s.chip o.val).state = .energised →
    (Answers (.powerDeliveryReq o .stop a) s fun t => StoresKept s t ∧ Opens s.chip t.chip o.val .stop ∧
      .hlc o.val 11 true ∈ t.chip.out) ∧
    ((outletOf s.chip o.val).hlc ≠ .din → Answers (.powerDeliveryReq o .pause a) s fun t => StoresKept s t ∧
      Opens s.chip t.chip o.val .pause ∧ .hlc o.val 11 true ∈ t.chip.out) ∧
    ((outletOf s.chip o.val).hlc = .din → Answers (.powerDeliveryReq o .pause a) s fun t => KeptBut [.out, .tb] s t ∧
      t.chip.out = .hlc o.val 11 false :: s.chip.out)) ∧
  (∀ (s : State) (o : Outlet) (a : Nat), hlcRuns s.chip = true → (outletOf s.chip o.val).hlc ≠ .none →
    (outletOf s.chip o.val).state = .precharge →
    ((outputMv s.chip o.val : Int) - (outletOf s.chip o.val).setMv).natAbs ≤ 20000 →
    (outputMa s.chip o.val).natAbs ≤ 2000 →
    Answers (.powerDeliveryReq o .start a) s fun t =>
      KeptBut [.freeCount, .host, .out, .outl, .pwd, .regs, .tb] s t ∧ OthersKept o.val s.chip t.chip ∧
      (outletOf t.chip o.val).state = .energised ∧ immBit t.chip (Reg.OUT_EVT o.val) 4 = true ∧
      .hlc o.val 11 true ∈ t.chip.out) ∧
  (∀ (s : State) (o : Outlet) (r : PowerReq) (a : Nat), hlcRuns s.chip = true → (outletOf s.chip o.val).hlc = .none →
    Answers (.powerDeliveryReq o r a) s fun t => KeptBut [.tb] s t ∧ t.chip = atAngle s.chip a) ∧
  -- a current demand goes to the converters within ILIM, VMAX and PMAX; in reverse only as DC_BPT under ISO 15118-20
  (∀ (s : State) (o : Outlet) (mv : Nat) (ma : Int), hlcRuns s.chip = true → isDc s.chip o.val = true →
    (outletOf s.chip o.val).state = .energised → 0 ≤ ma →
    Answers (.currentDemandReq o mv ma) s fun t => KeptBut [.outl, .out, .freeCount] s t ∧
      OthersKept o.val s.chip t.chip ∧ (outletOf t.chip o.val).reqMa = some ma ∧
      (outletOf t.chip o.val).setMode = 1 ∧
      (outletOf t.chip o.val).setMv = min mv (cfg s.chip (Reg.OUT_DCLIM o.val) 15 0 * 100) ∧
      (outletOf t.chip o.val).setMa = min ma ((outletOf s.chip o.val).ilim * 100 : Nat) ∧
      (outletOf t.chip o.val).setW = cfg s.chip (Reg.OUT_DCLIM o.val) 31 16 * 100 ∧ .hlc o.val 10 true ∈ t.chip.out) ∧
  (∀ (s : State) (o : Outlet) (mv : Nat) (ma : Int), hlcRuns s.chip = true → isDc s.chip o.val = true →
    (outKind s.chip o.val ≠ 3 ∨ (outletOf s.chip o.val).hlc ≠ .iso20 ∨ (outletOf s.chip o.val).bpt = false) →
    (outletOf s.chip o.val).state = .energised → ma < 0 →
    Answers (.currentDemandReq o mv ma) s fun t => KeptBut [.outl, .out, .freeCount] s t ∧
      OthersKept o.val s.chip t.chip ∧ (outletOf t.chip o.val).setMa = 0) ∧
  (∀ (s : State) (o : Outlet) (mv : Nat) (ma : Int), hlcRuns s.chip = true → outKind s.chip o.val = 3 →
    (outletOf s.chip o.val).hlc = .iso20 → (outletOf s.chip o.val).bpt = true →
    (outletOf s.chip o.val).state = .energised → ma < 0 →
    Answers (.currentDemandReq o mv ma) s fun t => KeptBut [.outl, .out, .freeCount] s t ∧
      OthersKept o.val s.chip t.chip ∧ (outletOf t.chip o.val).setMa ≤ 0 ∧ ma ≤ (outletOf t.chip o.val).setMa ∧
      -((cfg s.chip (Reg.OUT_LIMIT o.val) 31 16 * 100 : Nat) : Int) ≤ (outletOf t.chip o.val).setMa) ∧
  -- WeldingDetection is answered in FINISHING, and the lock that waited for it opens then
  (∀ (s : State) (o : Outlet), hlcRuns s.chip = true → isDc s.chip o.val = true →
    (outletOf s.chip o.val).state = .finishing →
    Answers (.weldingDetectionReq o) s fun t => KeptBut [.outl, .out, .pwd] s t ∧ OthersKept o.val s.chip t.chip ∧
      t.chip.out = .hlc o.val 6 true :: s.chip.out ∧ (outletOf t.chip o.val).unlockDue = false ∧
      ((outletOf s.chip o.val).unlockDue = true → cfgBit s.chip (Reg.OUT_CFG o.val) 6 = true →
        fbClosed s.chip o.val = false → (outletOf t.chip o.val).locking = false)) ∧
  (∀ (s : State) (o : Outlet) (a : Nat), hlcRuns s.chip = true → (outletOf s.chip o.val).hlc ≠ .none →
    (outletOf s.chip o.val).state = .energised →
    Answers (.sessionStopReq o a) s fun t => StoresKept s t ∧ Opens s.chip t.chip o.val .stop ∧
      t.chip.out.head? = some (.hlc o.val 7 true))

/-- Authorisation: AUTH_BACKEND_RESPONSE, AUTH_BACKEND_TIMEOUT, AUTH_EXPIRY, NFC_CARD_READ, NFC_CARD_HOLD_EXPIRY,
AUTH_LIST, OCPP_LOCAL_LIST (R256, R257, R264 to R266, R362). Rests on the model's choices of log 19, 20, 62. -/
def Obligations.AuthorisationCommands : Prop :=
  -- the backend accepts while SLAC runs: the authorisation stands until the session can open, and is cached
  (∀ (s : State) (o : Outlet) (w : AuthWait) (g e : Nat), svcRuns s.chip = true →
    (outletOf s.chip o.val).authWait = some w →
    (outletOf s.chip o.val).auth = none → (outletOf s.chip o.val).state = .linking →
    (outletOf s.chip o.val).cp ≠ .a → liveCtx s.chip o.val = none →
    unbilled s.chip = true ∨ startRefused s.chip o.val w.ptable = false →
    Answers (.authBackendResponse o true g e) s fun t => KeptBut [.host, .out, .outl, .regs] s t ∧
      OthersKept o.val s.chip t.chip ∧ (outletOf t.chip o.val).auth = some (w.authRef, w.ptable) ∧
      (outletOf t.chip o.val).authGroup = g ∧ (outletOf t.chip o.val).state = .linking ∧
      t.chip.outl.list = addCache s.chip.outl.list ⟨w.authRef, 0, true, w.src == .plugCharge, g, e⟩ ∧
      immBit t.chip (Reg.OUT_EVT o.val) 2 = true) ∧
  -- it rejects, or the offline rule refuses: OUT_EVT bit 3, and a host start is answered REJECTED
  (∀ (s : State) (o : Outlet) (w : AuthWait) (g e : Nat), svcRuns s.chip = true →
    (outletOf s.chip o.val).authWait = some w →
    (outletOf s.chip o.val).auth = none → (outletOf s.chip o.val).state = .plugged →
    (Answers (.authBackendResponse o false g e) s fun t => KeptBut [.host, .out, .outl, .regs] s t ∧
      OthersKept o.val s.chip t.chip ∧ (outletOf t.chip o.val).authWait = none ∧
      (outletOf t.chip o.val).state = .plugged ∧ immBit t.chip (Reg.OUT_EVT o.val) 3 = true) ∧
    (cfg s.chip (Reg.OUT_AUTH_CFG o.val) 1 0 ≠ 2 → w.chain = false →
      Answers (.authBackendTimeout o) s fun t => KeptBut [.host, .out, .outl, .regs] s t ∧
        OthersKept o.val s.chip t.chip ∧ (outletOf t.chip o.val).authWait = none ∧
        (outletOf t.chip o.val).state = .plugged ∧ immBit t.chip (Reg.OUT_EVT o.val) 3 = true)) ∧
  -- no answer at all: the offline rule may accept, and nothing is cached
  (∀ (s : State) (o : Outlet) (w : AuthWait), svcRuns s.chip = true → (outletOf s.chip o.val).authWait = some w →
    (outletOf s.chip o.val).auth = none → (outletOf s.chip o.val).state = .linking →
    (outletOf s.chip o.val).cp ≠ .a → liveCtx s.chip o.val = none →
    unbilled s.chip = true ∨ startRefused s.chip o.val w.ptable = false →
    cfg s.chip (Reg.OUT_AUTH_CFG o.val) 1 0 = 2 → w.chain = false →
    Answers (.authBackendTimeout o) s fun t => KeptBut [.host, .out, .outl, .regs] s t ∧
      OthersKept o.val s.chip t.chip ∧ (outletOf t.chip o.val).auth = some (w.authRef, w.ptable) ∧
      (outletOf t.chip o.val).state = .linking ∧ t.chip.outl.list = s.chip.outl.list ∧
      immBit t.chip (Reg.OUT_EVT o.val) 2 = true) ∧
  -- nothing waits: an answer changes nothing
  (∀ (s : State) (o : Outlet) (ok : Bool) (g e : Nat), (outletOf s.chip o.val).authWait = none →
    exec (.authBackendResponse o ok g e) s = .next s ∧ exec (.authBackendTimeout o) s = .next s) ∧
  (∀ (s : State) (o : Outlet) (a : Nat), svcRuns s.chip = true → (outletOf s.chip o.val).auth.isSome = true →
    (outletOf s.chip o.val).state = .energised →
    Answers (.authExpiry o a) s fun t => StoresKept s t ∧ Opens s.chip t.chip o.val .stop) ∧
  -- a card stops the session it started; with nowhere to go it is held until its time ends
  (∀ (s : State) (u : List Byte) (pt a : Nat) (sel : Option Outlet) (o : Outlet),
    svcRuns s.chip = true → immBit s.chip Reg.SUP_DISABLE 24 = false → cardStops s.chip (authRefOf u) = some o →
    (outletOf s.chip o.val).state = .energised →
    Answers (.nfcCardRead u pt sel a) s fun t => StoresKept s t ∧ Opens s.chip t.chip o.val .stop) ∧
  (∀ (s : State) (u : List Byte) (pt a : Nat) (sel : Option Outlet), svcRuns s.chip = true →
    immBit s.chip Reg.SUP_DISABLE 24 = false →
    cardStops s.chip (authRefOf u) = none → cardOutlet s.chip sel (authRefOf u) = none →
    Answers (.nfcCardRead u pt sel a) s fun t => KeptBut [.outl, .tb] s t ∧
      t.chip.outl = { s.chip.outl with heldCard := some (authRefOf u, pt) } ∧
      t.chip.tb = (atAngle s.chip a).tb) ∧
  -- with NFC disabled a card does nothing
  (∀ (s : State) (u : List Byte) (pt a : Nat) (sel : Option Outlet), svcRuns s.chip = true →
    immBit s.chip Reg.SUP_DISABLE 24 = true →
    Answers (.nfcCardRead u pt sel a) s fun t => KeptBut [.tb] s t ∧ t.chip = atAngle s.chip a) ∧
  (∀ (s : State), Answers .nfcCardHoldExpiry s fun t => KeptBut [.outl] s t ∧
    t.chip.outl = { s.chip.outl with heldCard := none }) ∧
  -- the local list, from the host or from the backend
  (∀ (s : State) (req : Requester) (mode v : Nat) (bs : List Byte), performs s.chip req 0x0403 .service = true →
    mode ≤ 1 → bs.length % 32 = 0 → bs.length / 32 ≤ 65536 →
    (parseEntries (bs.length / 32) bs).any (fun e => e.cache) = false →
    Replies (.authList req mode v (some bs)) s req 0x0403 ansOk fun c e => ChipKeptBut [.outl] c e ∧
      e.outl = { c.outl with
        list := (putList c.outl.list (parseEntries (bs.length / 32) bs) (mode == 1)).take 65536, listVersion := v }) ∧
  (∀ (s : State) (d : Bool) (v : Nat) (es : List AuthEntry), svcRuns s.chip = true → es.length ≤ 65536 →
    es.any (fun e => e.cache) = false →
    Answers (.ocppLocalList d v es) s fun t => KeptBut [.outl, .out] s t ∧
      t.chip.outl = { s.chip.outl with list := (putList s.chip.outl.list es d).take 65536, listVersion := v } ∧
      t.chip.out = .ocpp 10 v true :: s.chip.out)

/-- Sessions of the host and of the backend: SESSION_START, SESSION_STOP, OCPP_REMOTE_START, OCPP_REMOTE_STOP,
OCPP_UNLOCK_CONNECTOR, OCPP_CHANGE_AVAILABILITY, OCPP_RESET (R55, R70, R198, R249, R256, R257, R264, R362, R364).
Rests on the model's choices of log 8, 11, 26, 52. -/
def Obligations.SessionCommands : Prop :=
  -- a host start that carries its own authorisation opens the session of a PLUGGED outlet in basic charging, and is
  -- answered with its context and identifier
  (∀ (s : State) (req : Requester) (o : Outlet) (pt kind : Nat) (i : List Byte),
    performs s.chip req 0x0401 (.outletEngine o) = true → recordedStart s.chip o.val req = none →
    outletDisabled s.chip o.val = false → i ≠ [] → i.length ≤ 40 → kind ≤ 2 → pt ≤ 15 →
    (outletOf s.chip o.val).state = .plugged → (outletOf s.chip o.val).cp ≠ .a →
    basicMode s.chip o.val = true → ppValid (outletOf s.chip o.val) = true →
    mayAuthorise s.chip o.val (authRefOf i) = true → startRefused s.chip o.val pt = false →
    authRemote s.chip = false →
    Answers (.sessionStart req o pt false kind i) s fun t =>
      KeptBut [.acc, .fab, .freeCount, .host, .out, .outl, .pwd, .regs, .repl, .saf, .sess] s t ∧
      OthersKept o.val s.chip t.chip ∧ (outletOf t.chip o.val).state = .authorised ∧
      immBit t.chip (Reg.OUT_EVT o.val) 2 = true ∧
      ∃ k, (outletOf t.chip o.val).ctx = some k ∧ (ctxOf t.chip k).bstate = .live ∧ (ctxOf t.chip k).outlet = o.val ∧
        (ctxOf t.chip k).ptable = pt ∧ (ctxOf t.chip k).authRef = authRefOf i ∧
        (ctxOf t.chip k).price = tget [] s.chip.tar.prices pt ∧
        (ctxOf t.chip k).startCycle = s.chip.tb.cycle + 1 ∧
        ∃ e, t.chip = enterAuthorised (complete e req
          { ansOk with aux := k, result := sidResult (ctxOf t.chip k).sessionId }) o (some k)) ∧
  -- a start whose tag the outlet has recorded is answered from the record
  (∀ (s : State) (req : Requester) (o : Outlet) (pt kind : Nat) (a : Bool) (i : List Byte) (r : StartRec),
    performs s.chip req 0x0401 (.outletEngine o) = true → recordedStart s.chip o.val req = some r →
    Replies (.sessionStart req o pt a kind i) s req 0x0401 (recordedAnswer s.chip r) fun c e => e = c) ∧
  -- a stop waits for the body of its session; an unknown session answers GONE
  (∀ (s : State) (req : Requester) (sid : BitVec 128) (x : Nat) (o : Outlet),
    performs s.chip req 0x0402 (stopBlock s.chip sid) = true → ctxOfSession s.chip sid = some x →
    (ctxOf s.chip x).bstate = .live → (ctxOf s.chip x).outlet = o.val → (outletOf s.chip o.val).state = .energised →
    Answers (.sessionStop req sid) s fun t =>
      KeptBut [.freeCount, .host, .out, .outl, .pwd, .regs, .saf, .sess, .tb] s t ∧ OthersKept o.val s.chip t.chip ∧
      (outletOf t.chip o.val).why = .stop ∧
      ((outletOf t.chip o.val).state = .opening ∨ (outletOf t.chip o.val).state = .weldCheck) ∧
      ctxOf t.chip x = { ctxOf s.chip x with waiters := (ctxOf s.chip x).waiters ++ [req] }) ∧
  (∀ (s : State) (req : Requester) (sid : BitVec 128) (x : Nat),
    performs s.chip req 0x0402 (stopBlock s.chip sid) = true → ctxOfSession s.chip sid = some x →
    (ctxOf s.chip x).bstate = .settling →
    Answers (.sessionStop req sid) s fun t => KeptBut [.host, .sess] s t ∧
      ctxOf t.chip x = { ctxOf s.chip x with waiters := (ctxOf s.chip x).waiters ++ [req] }) ∧
  (∀ (s : State) (req : Requester) (sid : BitVec 128), performs s.chip req 0x0402 (stopBlock s.chip sid) = true →
    ctxOfSession s.chip sid = none → settledRecord s.chip sid = none →
    Replies (.sessionStop req sid) s req 0x0402 (ansReject .gone) fun c e => e = c) ∧
  -- the backend starts and stops a session
  (∀ (s : State) (o : Outlet) (pt : Nat) (i : List Byte), svcRuns s.chip = true →
    (outletOf s.chip o.val).state = .linking →
    (outletOf s.chip o.val).cp ≠ .a → mayAuthorise s.chip o.val (authRefOf i) = true →
    unbilled s.chip = true ∨ startRefused s.chip o.val pt = false → authRemote s.chip = false →
    Answers (.ocppRemoteStart o pt i) s fun t => KeptBut [.host, .out, .outl, .regs] s t ∧
      OthersKept o.val s.chip t.chip ∧ (outletOf t.chip o.val).auth = some (authRefOf i, pt) ∧
      immBit t.chip (Reg.OUT_EVT o.val) 2 = true ∧ .ocpp 2 o.val true ∈ t.chip.out) ∧
  (∀ (s : State) (o : Outlet) (pt : Nat) (i : List Byte), svcRuns s.chip = true →
    (outletOf s.chip o.val).state = .idle →
    Answers (.ocppRemoteStart o pt i) s fun t => KeptBut [.out] s t ∧
      t.chip.out = .ocpp 2 o.val false :: s.chip.out) ∧
  (∀ (s : State) (sid : BitVec 128) (a x : Nat) (o : Outlet), svcRuns s.chip = true → ctxOfSession s.chip sid = some x →
    (ctxOf s.chip x).bstate = .live → (ctxOf s.chip x).outlet = o.val → (outletOf s.chip o.val).state = .energised →
    Answers (.ocppRemoteStop sid a) s fun t => StoresKept s t ∧ Opens s.chip t.chip o.val .stop ∧
      t.chip.out.head? = some (.ocpp 3 o.val true)) ∧
  -- the connector unlocks only when it is not energised and no session is in progress
  (∀ (s : State) (o : Outlet), svcRuns s.chip = true → energised s.chip o.val = false → ((outletOf s.chip o.val).state = .finishing ∨
      (outletOf s.chip o.val).state = .faulted ∨ (outletOf s.chip o.val).state = .unavailable) →
    Answers (.ocppUnlockConnector o) s fun t => KeptBut [.out, .outl, .pwd] s t ∧ OthersKept o.val s.chip t.chip ∧
      t.chip.out = .ocpp 4 o.val true :: s.chip.out ∧
      (cfgBit s.chip (Reg.OUT_CFG o.val) 6 = true → (outletOf t.chip o.val).locking = false ∧
        ((outletOf s.chip o.val).lockIn = true → (outletOf t.chip o.val).lock = .moving))) ∧
  (∀ (s : State) (o : Outlet), svcRuns s.chip = true → energised s.chip o.val = true →
    Answers (.ocppUnlockConnector o) s fun t => KeptBut [.out] s t ∧
      t.chip.out = .ocpp 4 o.val false :: s.chip.out) ∧
  -- Inoperative disables the outlet: UNAVAILABLE at once where nothing is in progress
  (∀ (s : State) (o : Outlet), svcRuns s.chip = true → immBit s.chip Reg.SUP_DISABLE o.val = false →
    s.chip.sup.mode ≠ .holdUp → s.chip.sup.mode ≠ .reset → s.chip.sup.mode ≠ .bringUp → s.chip.sup.mode ≠ .degraded →
    s.chip.sup.degCauses = [] → (outletOf s.chip o.val).state = .idle → energised s.chip o.val = false →
    Answers (.ocppChangeAvailability o false) s fun t =>
      KeptBut [.acc, .host, .out, .outl, .pwd, .regs, .sess, .sup] s t ∧ OthersKept o.val s.chip t.chip ∧
      immBit t.chip Reg.SUP_DISABLE o.val = true ∧ (outletOf t.chip o.val).state = .unavailable ∧
      t.chip.out.head? = some (.ocpp 5 o.val true)) ∧
  -- a reset by the backend is refused while an outlet is energised
  (∀ (s : State), svcRuns s.chip = true → mayAskReset s.chip = true → anyEnergised s.chip = false →
    Answers .ocppReset s fun t => StoresKept s t ∧ ModuleReset s.chip t.chip .soft false) ∧
  (∀ (s : State), svcRuns s.chip = true → anyEnergised s.chip = true →
    Answers .ocppReset s fun t => KeptBut [.out, .regs] s t ∧ RegsKeptBut [Reg.SUP_RST_CAUSE] s.chip t.chip ∧
      immBit t.chip Reg.SUP_RST_CAUSE 31 = true ∧ t.chip.out = .ocpp 6 0 false :: s.chip.out)

/-- The backend's other messages: OCPP_TRIGGER_MESSAGE, OCPP_RESERVATION, OCPP_CHARGING_PROFILE, OCPP_FIRMWARE_UPDATE,
OCPP_DATA_TRANSFER, OCPP_SET_VARIABLES, OCPP_SET_DISPLAY_MESSAGE, OCPP_GET_LOG (R243, R256). Rests on the model's
choices of log 20, 62. -/
def Obligations.BackendMessages : Prop :=
  -- a triggered message: meter values and a transaction event speak of every LIVE session
  (∀ (s : State) (k : Nat), svcRuns s.chip = true → k ≠ 3 → k ≠ 4 →
    Answers (.ocppTriggerMessage k) s fun t => KeptBut [.out] s t ∧ t.chip.out = .ocpp 7 k true :: s.chip.out) ∧
  (∀ (s : State) (o : Outlet) (x : Nat), svcRuns s.chip = true → liveCtx s.chip o.val = some x →
    (Answers (.ocppTriggerMessage 3) s fun t => KeptBut [.out] s t ∧ .ocpp 7 3 true ∈ t.chip.out ∧
      .ocppMeter o.val (sessionReading s.chip o.val) ∈ t.chip.out) ∧
    (Answers (.ocppTriggerMessage 4) s fun t => KeptBut [.out] s t ∧ .ocpp 7 4 true ∈ t.chip.out ∧
      .ocppTx 1 o.val (ctxOf s.chip x).sessionId (sessionReading s.chip o.val) ∈ t.chip.out)) ∧
  -- one reservation for each outlet
  (∀ (s : State) (o : Outlet) (i : List Byte), svcRuns s.chip = true → (outletOf s.chip o.val).reserved = none →
    Answers (.ocppReservation o (some i)) s fun t => KeptBut [.out, .outl] s t ∧ OthersKept o.val s.chip t.chip ∧
      outletOf t.chip o.val = { outletOf s.chip o.val with reserved := some (authRefOf i) } ∧
      t.chip.out = .ocpp 8 o.val true :: s.chip.out) ∧
  (∀ (s : State) (o : Outlet) (i : List Byte), svcRuns s.chip = true → (outletOf s.chip o.val).reserved ≠ none →
    Answers (.ocppReservation o (some i)) s fun t => KeptBut [.out] s t ∧
      t.chip.out = .ocpp 8 o.val false :: s.chip.out) ∧
  (∀ (s : State) (o : Outlet), svcRuns s.chip = true → Answers (.ocppReservation o none) s fun t => KeptBut [.out, .outl] s t ∧
    OthersKept o.val s.chip t.chip ∧ outletOf t.chip o.val = { outletOf s.chip o.val with reserved := none } ∧
    t.chip.out = .ocpp 8 o.val true :: s.chip.out) ∧
  -- up to 16 charging profiles at stack levels 0 to 15
  (∀ (s : State) (o : Outlet) (id st l : Nat), svcRuns s.chip = true → st ≤ 15 →
    ((outletOf s.chip o.val).profiles.filter (fun p => p.id != id)).length < 16 →
    Answers (.ocppChargingProfile o id st (some l)) s fun t => KeptBut [.freeCount, .host, .out, .outl, .pwd, .regs, .saf, .tb] s t ∧
      OthersKept o.val s.chip t.chip ∧
      (outletOf t.chip o.val).profiles = (outletOf s.chip o.val).profiles.filter (fun p => p.id != id) ++ [⟨id, st, l⟩] ∧
      t.chip.out.head? = some (.ocpp 9 o.val true)) ∧
  (∀ (s : State) (o : Outlet) (id st l : Nat), svcRuns s.chip = true → 15 < st →
    Answers (.ocppChargingProfile o id st (some l)) s fun t => KeptBut [.out] s t ∧
      t.chip.out = .ocpp 9 o.val false :: s.chip.out) ∧
  (∀ (s : State) (o : Outlet) (id st : Nat), svcRuns s.chip = true →
    Answers (.ocppChargingProfile o id st none) s fun t => KeptBut [.freeCount, .host, .out, .outl, .pwd, .regs, .saf, .tb] s t ∧
      OthersKept o.val s.chip t.chip ∧
      (outletOf t.chip o.val).profiles = (outletOf s.chip o.val).profiles.filter (fun p => p.id != id)) ∧
  (∀ (s : State), svcRuns s.chip = true → Answers .ocppFirmwareUpdate s fun t => KeptBut [.out] s t ∧
    t.chip.out = .ocpp 11 0 true :: s.chip.out) ∧
  (∀ (s : State) (w : Bool), svcRuns s.chip = true → Answers (.ocppDataTransfer w) s fun t => KeptBut [.out] s t ∧
    t.chip.out = .ocpp 12 0 w :: s.chip.out) ∧
  -- variables, and the monitoring of one above its threshold
  (∀ (s : State) (id v : Nat), svcRuns s.chip = true → tfind s.chip.outl.monitors id = none →
    Answers (.ocppSetVariables id (some v)) s fun t => KeptBut [.out, .outl] s t ∧
    t.chip.outl = { s.chip.outl with ocppVars := tput s.chip.outl.ocppVars id v } ∧
    t.chip.out = .ocpp 13 v true :: s.chip.out) ∧
  (∀ (s : State) (id v top : Nat), svcRuns s.chip = true → tfind s.chip.outl.monitors id = some top → top < v →
    Answers (.ocppSetVariables id (some v)) s fun t => KeptBut [.out, .outl] s t ∧
    t.chip.outl = { s.chip.outl with ocppVars := tput s.chip.outl.ocppVars id v } ∧
    t.chip.out = .ocpp 13 v true :: .ocpp 14 id true :: s.chip.out) ∧
  (∀ (s : State) (id : Nat), svcRuns s.chip = true → Answers (.ocppSetVariables id none) s fun t => KeptBut [.out] s t ∧
    t.chip.out = .ocpp 13 (tget 0 s.chip.outl.ocppVars id) true :: s.chip.out) ∧
  (∀ (s : State) (x : List Byte), svcRuns s.chip = true → Answers (.ocppSetDisplayMessage x) s fun t => KeptBut [.out] s t ∧
    t.chip.out = .message x :: s.chip.out) ∧
  -- an extract of Blotter in order of SEQ, from a SEQ on
  (∀ (s : State) (f n : Nat), svcRuns s.chip = true → Answers (.ocppGetLog f n none) s fun t => KeptBut [.out] s t ∧
    ∃ rs : List BltRec, rs.length ≤ n ∧ (∀ r ∈ rs, f ≤ r.seq ∧ ∃ k, (k, r) ∈ s.chip.blt.slots) ∧
      t.chip.out = .logUpload (rs.flatMap BltRec.bytes) :: s.chip.out) ∧
  (∀ (s : State) (f n id top : Nat), svcRuns s.chip = true →
    Answers (.ocppGetLog f n (some (id, top))) s fun t => KeptBut [.out, .outl] s t ∧
      t.chip.outl = { s.chip.outl with monitors := tput s.chip.outl.monitors id top } ∧
      t.chip.out = .ocpp 15 id true :: s.chip.out)

/-- Converters on CAN: CAN_STATUS, CAN_IDENT, CONV_LOST, CAN_BUS_OFF, SETPOINT_TICK, IDENT_REQ_TICK (R257, R259,
R260). Rests on the model's choices of log 40. -/
def Obligations.ConverterCommands : Prop :=
  -- STATUS is kept for its module; a ramp that has come down to 1 A ends the OPENING of its outlet
  (∀ (s : State) (b : Fin 2) (a st f mv av : Nat) (ma tp : Int), fenced s.chip .out = false →
    canAddr a = true → outletOfModule s.chip b.val a = none →
    Answers (.canStatus b a st f mv ma tp av) s fun t => KeptBut [.outl] s t ∧
      (∀ o, outletOf t.chip o = outletOf s.chip o) ∧
      moduleOf t.chip b.val a =
        { moduleOf s.chip b.val a with state := st, fault := f, mv := mv, ma := ma, temp := tp, avail := av }) ∧
  (∀ (s : State) (b : Fin 2) (a st f mv av : Nat) (ma tp : Int) (o : Outlet),
    fenced s.chip .out = false → canAddr a = true → outletOfModule s.chip b.val a = some o → (outletOf s.chip o.val).state = .opening →
    outletModules s.chip o.val = [(b.val, a)] → ma.natAbs ≤ 1000 →
    Answers (.canStatus b a st f mv ma tp av) s fun t => KeptBut [.out, .outl, .pwd, .saf, .tb] s t ∧
      OthersKept o.val s.chip t.chip ∧ (outletOf t.chip o.val).state = .weldCheck ∧ CoilOff t.chip o.val) ∧
  -- IDENT of profile version 1 makes a module of address 1 to 63 present
  (∀ (s : State) (b : Fin 2) (a ser v i p : Nat) (r : Bool), fenced s.chip .out = false → canAddr a = true →
    Answers (.canIdent b a ser v i p r 1) s fun t => KeptBut [.freeCount, .outl] s t ∧
      moduleOf t.chip b.val a =
        { moduleOf s.chip b.val a with
          present := true, serial := ser, ratedV := v, ratedI := i, ratedP := p, reverse := r } ∧
      (busOf t.chip b.val).busOff = false) ∧
  (∀ (s : State) (b : Fin 2) (a ser v i p k : Nat) (r : Bool), k ≠ 1 ∨ a = 0 ∨ 63 < a →
    exec (.canIdent b a ser v i p r k) s = .next s) ∧
  -- a module is lost: CONV_LOST on its outlet, which opens when none is left
  (∀ (s : State) (b : Fin 2) (a : Nat), fenced s.chip .out = false → canAddr a = true → (moduleOf s.chip b.val a).present = true → outletOfModule s.chip b.val a = none →
    Answers (.convLost b a) s fun t => KeptBut [.outl] s t ∧
      moduleOf t.chip b.val a = { moduleOf s.chip b.val a with present := false }) ∧
  (∀ (s : State) (b : Fin 2) (a : Nat) (o : Outlet), fenced s.chip .out = false → canAddr a = true → (moduleOf s.chip b.val a).present = true →
    outletOfModule s.chip b.val a = some o → ((outletOf s.chip o.val).state = .energised ∨
      (outletOf s.chip o.val).state = .checking ∨ (outletOf s.chip o.val).state = .precharge) →
    energised s.chip o.val = true → outletModules s.chip o.val = [(b.val, a)] →
    Answers (.convLost b a) s fun t => StoresKept s t ∧ Opens s.chip t.chip o.val .stop ∧
      (moduleOf t.chip b.val a).present = false ∧ immBit t.chip (Reg.OUT_EVT o.val) 10 = true) ∧
  (∀ (s : State) (b : Fin 2) (te re : Nat), fenced s.chip .out = false → Answers (.canBusOff b te re) s fun t =>
    KeptBut [.freeCount, .host, .out, .outl, .pwd, .regs, .saf, .tb] s t ∧ (busOf t.chip b.val).busOff = true ∧
    (busOf t.chip b.val).txErr = min 255 te ∧ (busOf t.chip b.val).rxErr = min 255 re ∧
    ∀ a, a < 64 → (moduleOf t.chip b.val a).present = false) ∧
  -- every 100 ms a SETPOINT to each present module of a DC outlet that delivers, and IDENT_REQ on each bus
  (∀ (s : State) (o : Outlet) (b a : Nat), fenced s.chip .out = false → isDc s.chip o.val = true →
    ((outletOf s.chip o.val).state = .checking ∨ (outletOf s.chip o.val).state = .precharge ∨
      (outletOf s.chip o.val).state = .energised ∨ (outletOf s.chip o.val).state = .opening) →
    (b, a) ∈ presentModules s.chip o.val → cfgBit s.chip (Reg.OUT_CAN_CFG b) 8 = true →
    (busOf s.chip b).busOff = false →
    Answers (.setpointTick o) s fun t => KeptBut [.freeCount, .out, .outl] s t ∧
      (∀ p, outletOf t.chip p = outletOf s.chip p) ∧
      ∃ n data, Emit.can b (0x01 * 2 ^ 24 + a * 2 ^ 16 + n) data ∈ t.chip.out) ∧
  (∀ (s : State) (b : Nat), b < 2 → fenced s.chip .out = false → cfgBit s.chip (Reg.OUT_CAN_CFG b) 8 = true → (busOf s.chip b).busOff = false →
    Answers .identReqTick s fun t => KeptBut [.out, .outl] s t ∧
      Emit.can b (0x04 * 2 ^ 24 + 0xFF * 2 ^ 16 + tget 0 (busOf s.chip b).seqs 0x04) [] ∈ t.chip.out)

/-- Contactors: FB_CHANGE, CLOSE_TIMEOUT, CHECK_TIMEOUT, PRECHARGE_TIMEOUT, OPENING_TIMEOUT, RELEARN, COIL_PULLIN_END,
OUTLET_ADOPT (R257, R262, R270, R271, R281, R297, R298). Rests on the model's choices of log 63. -/
def Obligations.ContactorCommands : Prop :=
  -- a contactor closes: an AC outlet is ENERGISED, a DC outlet CHECKING at 0 A; the time of a booked operation is
  -- learned
  (∀ (s : State) (o : Outlet) (us a n : Nat), fenced s.chip .out = false →
    (outletOf s.chip o.val).state = .closing → isDc s.chip o.val = false →
    (outletOf s.chip o.val).why = .pause → cpReady s.chip o.val = true →
    Answers (.fbChange o true us a n) s fun t =>
      KeptBut [.freeCount, .host, .out, .outl, .pwd, .regs, .tb] s t ∧ OthersKept o.val s.chip t.chip ∧
      (outletOf t.chip o.val).state = .energised ∧ (outletOf t.chip o.val).timing = false ∧
      t.chip.pwd.fb = setBitV s.chip.pwd.fb o.val true ∧ immBit t.chip (Reg.OUT_EVT o.val) 4 = true ∧
      (outletOf t.chip o.val).tClose = (if (outletOf s.chip o.val).timing then learn (outletOf s.chip o.val).tClose us
        else (outletOf s.chip o.val).tClose)) ∧
  (∀ (s : State) (o : Outlet) (us a n : Nat), fenced s.chip .out = false →
    (outletOf s.chip o.val).state = .closing → isDc s.chip o.val = true →
    (outletOf s.chip o.val).why = .pause →
    Answers (.fbChange o true us a n) s fun t => KeptBut [.freeCount, .host, .out, .outl, .pwd, .regs, .saf, .tb] s t ∧
      OthersKept o.val s.chip t.chip ∧ (outletOf t.chip o.val).state = .checking ∧
      (outletOf t.chip o.val).setMa = 0 ∧ tget 0 t.chip.saf.imdGood o.val = 0) ∧
  -- it opens: the driver is OFF, and a WELD_CHECK of an AC outlet ends as its opening was meant
  (∀ (s : State) (o : Outlet) (us a n : Nat), fenced s.chip .out = false →
    (outletOf s.chip o.val).state = .weldCheck → isDc s.chip o.val = false →
    (outletOf s.chip o.val).draining = false → (coilOf s.chip o.val).state = .release →
    (outletOf s.chip o.val).why = .pause →
    Answers (.fbChange o false us a n) s fun t => KeptBut [.host, .out, .outl, .pwd, .regs, .tb] s t ∧
      OthersKept o.val s.chip t.chip ∧ (outletOf t.chip o.val).state = .authorised ∧
      (outletOf t.chip o.val).preclosed = none ∧ (coilOf t.chip o.val).state = .off ∧
      t.chip.pwd.fb = setBitV s.chip.pwd.fb o.val false ∧ immBit t.chip (Reg.OUT_EVT o.val) 5 = true) ∧
  (∀ (s : State) (o : Outlet) (us a n : Nat), fenced s.chip .out = false →
    (outletOf s.chip o.val).state = .weldCheck → isDc s.chip o.val = false →
    (outletOf s.chip o.val).why = .stop → mustBeUnavailable s.chip o.val = false →
    Answers (.fbChange o false us a n) s fun t => KeptBut [.acc, .host, .out, .outl, .pwd, .regs, .sess, .tb] s t ∧
      OthersKept o.val s.chip t.chip ∧ (outletOf t.chip o.val).state = .finishing ∧
      ∀ x, liveCtx s.chip o.val = some x → (ctxOf s.chip x).bstate = .live →
        (ctxOf t.chip x).bstate = .settling ∧ (ctxOf t.chip x).endCycle = s.chip.tb.cycle) ∧
  -- while the outlet region is fenced only the reading changes
  (∀ (s : State) (o : Outlet) (cl : Bool) (us a n : Nat), fenced s.chip .out = true →
    Answers (.fbChange o cl us a n) s fun t => KeptBut [.host, .out, .pwd, .regs, .tb] s t ∧
      t.chip.pwd.fb = setBitV s.chip.pwd.fb o.val cl) ∧
  -- it does not close in its time: a trip and the fault source of the contactor
  (∀ (s : State) (o : Outlet), procAnswers s.chip = true → (outletOf s.chip o.val).state = .closing → (coilOf s.chip o.val).cmd = true →
    fbClosed s.chip o.val = false →
    Answers (.closeTimeout o) s fun t => StoresKept s t ∧ ∃ e, Tripped s.chip e o.val .failClose .processor ∧
      t.chip = reportSrc e (80 + o.val) (safTripLow e % 1024)) ∧
  -- no valid insulation result, or no pre-charge, in time
  (∀ (s : State) (o : Outlet), fenced s.chip .out = false → (outletOf s.chip o.val).state = .checking → tget 0 s.chip.saf.imdGood o.val < 2 →
    Answers (.checkTimeout o) s fun t => KeptBut [.acc, .host, .out, .outl, .pwd, .saf, .sess, .tb] s t ∧
      FaultedAt s.chip t.chip o.val) ∧
  (∀ (s : State) (o : Outlet), fenced s.chip .out = false → (outletOf s.chip o.val).state = .precharge →
    Answers (.prechargeTimeout o) s fun t => KeptBut [.acc, .host, .out, .outl, .pwd, .saf, .sess, .tb] s t ∧
      FaultedAt s.chip t.chip o.val) ∧
  (∀ (s : State) (o : Outlet), fenced s.chip .out = false → isDc s.chip o.val = true →
    (outletOf s.chip o.val).state = .opening →
    Answers (.openingTimeout o) s fun t => KeptBut [.out, .outl, .pwd, .saf, .tb] s t ∧
      OthersKept o.val s.chip t.chip ∧ (outletOf t.chip o.val).state = .weldCheck ∧
      (outletOf t.chip o.val).why = (outletOf s.chip o.val).why ∧ CoilOff t.chip o.val) ∧
  (∀ (s : State) (o : Outlet), windowClosed s.chip (Reg.OUT_CTRL o.val) = false → Answers (.relearn o) s fun t => KeptBut [.outl] s t ∧
    OthersKept o.val s.chip t.chip ∧ outletOf t.chip o.val = { outletOf s.chip o.val with tClose := [], tOpen := [] }) ∧
  (∀ (s : State) (o : Outlet), (coilOf s.chip o.val).state = .pullin → (coilOf s.chip o.val).pend = false →
    Answers (.coilPullinEnd o) s fun t => KeptBut [.pwd] s t ∧
      t.chip.pwd = { s.chip.pwd with
        coils := tput s.chip.pwd.coils o.val { coilOf s.chip o.val with
          state := .hold, ma := coilHold s.chip o.val } }) ∧
  (∀ (s : State) (o : Outlet), (coilOf s.chip o.val).state ≠ .pullin → exec (.coilPullinEnd o) s = .next s) ∧
  -- an outlet in its degraded window is adopted
  (∀ (s : State) (o : Outlet) (x n : Nat), liveCtx s.chip o.val = some x → mayAdopt s.chip o.val = true → 20 ≤ n →
    Answers (.outletAdopt o n) s fun t =>
      KeptBut [.host, .leg, .nib, .out, .outl, .pwd, .regs, .saf, .sess, .tar] s t ∧
      OthersKept o.val s.chip t.chip ∧ (outletOf t.chip o.val).state = .energised ∧
      (outletOf t.chip o.val).ctx = some x ∧ (outletOf t.chip o.val).setMa = 0 ∧
      (coilOf t.chip o.val).cmd = true ∧ t.chip.saf.permit = setBitV s.chip.saf.permit o.val true ∧
      t.chip.nib.degraded = setBitV s.chip.nib.degraded o.val false ∧
      (ctxOf t.chip x).flags.getLsbD 2 = true ∧ immBit t.chip Reg.SAF_EVT 8 = true) ∧
  (∀ (s : State) (o : Outlet) (n : Nat), mayAdopt s.chip o.val = false ∨ n < 20 → exec (.outletAdopt o n) s = .next s)

/-- Safety functions and their trips: RESIDUAL_CURRENT_TRIP, PE_LOSS_TRIP, PILOT_TRIP, CONTACTOR_MISMATCH,
FAIL_TO_CLOSE, WELD_DETECTED, POLE_TEST_DONE, IMD_RESULT, TEMP_SWITCH_TRIP, TEMP_READING (R278 to R285, R289). Rests
on the model's choices of log 38, 64, 67. -/
def Obligations.SafetyTrips : Prop :=
  -- SF1: AC outlets only, DC 6 mA while RDC_EN, AC 30 mA, and not in Nib's pre-close test
  (∀ (s : State) (o : Outlet) (ch k : Channel) (dc : Int) (ac : Nat), isAc s.chip o.val = true →
    residualTrips s.chip dc ac = true → underTest s.chip o.val ch = false → seenBy s.chip ch = some k →
    Answers (.residualCurrentTrip o ch dc ac) s fun t => StoresKept s t ∧ Tripped s.chip t.chip o.val .sf1 k) ∧
  (∀ (s : State) (o : Outlet) (ch : Channel) (dc : Int) (ac : Nat),
    ((dc.natAbs < 6000 ∧ ac < 30000) ∨ isAc s.chip o.val = false ∨ underTest s.chip o.val ch = true ∨
      seenBy s.chip ch = none) →
    Answers (.residualCurrentTrip o ch dc ac) s fun t => KeptBut [.saf] s t ∧
      tget 0 t.chip.saf.rcDc o.val = dc ∧ tget 0 t.chip.saf.rcAc o.val = ac ∧
      t.chip.saf.latches = s.chip.saf.latches ∧ t.chip.saf.permit = s.chip.saf.permit) ∧
  -- SF2 while PE_EN: 20 Ω for Nib, PE_LIMIT on 5 results on end for the processor
  (∀ (s : State) (o : Outlet) (ch k : Channel) (r : Nat), s.chip.nib.peEn = true → underTest s.chip o.val ch = false →
    (if ch = .nib then 20000 < r else peLimit s.chip < r ∧ 4 ≤ tget 0 s.chip.saf.peBad o.val) →
    seenBy s.chip ch = some k →
    Answers (.peLossTrip o ch r) s fun t => StoresKept s t ∧ Tripped s.chip t.chip o.val .sf2 k) ∧
  (∀ (s : State) (o : Outlet) (ch : Channel) (r : Nat), s.chip.nib.peEn = false →
    Answers (.peLossTrip o ch r) s fun t => KeptBut [.saf] s t ∧ tget 0 t.chip.saf.peRes o.val = r ∧
      t.chip.saf.latches = s.chip.saf.latches ∧ t.chip.saf.permit = s.chip.saf.permit) ∧
  -- SF3 on an outlet that is permitted or energised
  (∀ (s : State) (o : Outlet) (ch k : Channel) (vp vn : Int),
    (s.chip.nib.gate.getLsbD o.val = true ∨ energised s.chip o.val = true) →
    pilotTrips s.chip o.val vp vn ch = true → seenBy s.chip ch = some k →
    Answers (.pilotTrip o ch vp vn) s fun t => StoresKept s t ∧ Tripped s.chip t.chip o.val .sf3 k) ∧
  (∀ (s : State) (o : Outlet) (vp vn : Int), pilotBand (outletOf s.chip o.val).pwm vp vn ≠ .fault →
    exec (.pilotTrip o .nib vp vn) s = .next s) ∧
  -- SF4: a mismatch, or in CLOSING a failure to close, and a weld
  (∀ (s : State) (o : Outlet) (ch k : Channel), (coilOf s.chip o.val).driven = true → fbClosed s.chip o.val = false →
    seenBy s.chip ch = some k →
    ((outletOf s.chip o.val).state ≠ .closing →
      Answers (.contactorMismatch o ch) s fun t => StoresKept s t ∧ ∃ e, Tripped s.chip e o.val .mismatch k ∧
        t.chip = reportSrc e (80 + o.val) (safTripLow e % 1024)) ∧
    ((outletOf s.chip o.val).state = .closing →
      Answers (.failToClose o ch) s fun t => StoresKept s t ∧ ∃ e, Tripped s.chip e o.val .failClose k ∧
        t.chip = reportSrc e (80 + o.val) (safTripLow e % 1024))) ∧
  (∀ (s : State) (o : Outlet) (ch k : Channel), fbClosed s.chip o.val = true → (coilOf s.chip o.val).driven = false →
    seenBy s.chip ch = some k →
    Answers (.weldDetected o ch) s fun t => StoresKept s t ∧ ∃ e, Tripped s.chip e o.val .weld k ∧
      e.nib.weld.getLsbD o.val = true ∧ o.val ∈ e.saf.shuntFired ∧
      (o.val ∉ s.chip.saf.shuntFired → if k = .processor then e.saf.shuntReq = true else e.pwd.shunt = true) ∧
      t.chip = reportSrc e (88 + o.val) (safTripLow e % 1024)) ∧
  -- the pole test of a DC outlet finds a welded pole, or ends WELD_CHECK
  (∀ (s : State) (o : Outlet) (p m : Nat), procAnswers s.chip = true → isDc s.chip o.val = true →
    (outletOf s.chip o.val).state = .weldCheck →
    fbClosed s.chip o.val = false → poleWelded s.chip o.val p m = true →
    Answers (.poleTestDone o p m) s fun t => StoresKept s t ∧ ∃ e, Tripped s.chip e o.val .weld .processor ∧
      e.nib.weld.getLsbD o.val = true ∧ t.chip = reportSrc e (88 + o.val) (safTripLow e % 1024)) ∧
  (∀ (s : State) (o : Outlet) (p m : Nat), procAnswers s.chip = true → isDc s.chip o.val = true →
    (outletOf s.chip o.val).state = .weldCheck →
    fbClosed s.chip o.val = false → poleWelded s.chip o.val p m = false → (outletOf s.chip o.val).why = .pause →
    (outletOf s.chip o.val).draining = false →
    Answers (.poleTestDone o p m) s fun t => KeptBut [.outl] s t ∧ OthersKept o.val s.chip t.chip ∧
      (outletOf t.chip o.val).state = .authorised ∧ (outletOf t.chip o.val).preclosed = none) ∧
  -- SF5: a result below the limit while energised trips; in CHECKING good results are counted
  (∀ (s : State) (o : Outlet) (k p m : Nat), procAnswers s.chip = true → isDc s.chip o.val = true → p + m ≤ 5000 →
    insBelow s.chip o.val k (cfg s.chip Reg.SAF_IMD_CFG 15 0) = true → energised s.chip o.val = true →
    Answers (.imdResult o k p m) s fun t => StoresKept s t ∧ Tripped s.chip t.chip o.val .sf5 .processor) ∧
  (∀ (s : State) (o : Outlet) (k p m : Nat), isDc s.chip o.val = true → p + m ≤ 5000 →
    insBelow s.chip o.val k (cfg s.chip Reg.SAF_IMD_CFG 15 0) = false → insAbove s.chip o.val k = true →
    (outletOf s.chip o.val).state = .checking →
    Answers (.imdResult o k p m) s fun t => KeptBut [.host, .out, .regs, .saf] s t ∧
      RegsKeptBut [Reg.SAF_EVT] s.chip t.chip ∧
      tget 0 t.chip.saf.imdGood o.val = tget 0 s.chip.saf.imdGood o.val + 1 ∧
      tget (0, 0) t.chip.saf.poles o.val = (p, m) ∧ tget 0 t.chip.saf.insKohm o.val = min 0xFFFFFF k) ∧
  (∀ (s : State) (o : Outlet) (k p m : Nat), 5000 < p + m → exec (.imdResult o k p m) s = .next s) ∧
  -- SF6: a temperature switch trips its outlet; the third hot reading in a row trips every outlet
  (∀ (s : State) (o : Outlet) (h : Bool), procAnswers s.chip = true → cfgBit s.chip Reg.SAF_TEMP_CFG (16 + o.val) = true →
    switchHot s.chip h = true →
    Answers (.tempSwitchTrip o h) s fun t => StoresKept s t ∧ Tripped s.chip t.chip o.val .sf6 .processor) ∧
  (∀ (s : State) (p q : BitVec 8), p.toNat < cfg s.chip Reg.SAF_TEMP_CFG 7 0 →
    q.toNat < cfg s.chip Reg.SAF_TEMP_CFG 15 8 →
    Answers (.tempReading p q) s fun t => KeptBut [.pwd, .saf] s t ∧
      t.chip.saf = { s.chip.saf with hotPwd := 0, hotSup := 0 } ∧
      t.chip.pwd = { s.chip.pwd with temp := p.toNat, supTemp := q.toNat }) ∧
  (∀ (s : State) (p q : BitVec 8) (x : Outlet), procAnswers s.chip = true → cfg s.chip Reg.SAF_TEMP_CFG 7 0 ≤ p.toNat →
    2 ≤ s.chip.saf.hotPwd → (x.val, Sf.sf6) ∉ s.chip.saf.latches →
    Answers (.tempReading p q) s fun t => StoresKept s t ∧ immBit t.chip Reg.SAF_EVT 5 = true ∧
      t.chip.saf.trips = (s.chip.saf.trips + 1) % 2 ^ 16 ∧ t.chip.saf.lastAll = true ∧
      ∀ o : Outlet, (o.val, Sf.sf6) ∈ t.chip.saf.latches ∧ (coilOf t.chip o.val).driven = false)

/-- The shunt trip, the pre-close test and the clearing of a latch: SHUNT_TRIP_DIRECT, SHUNT_TRIP_END, PRECLOSE_TEST,
TRIP_LATCH_CLEAR (R283, R288, R289). Rests on the model's choices of log 53. -/
def Obligations.SafetyRecovery : Prop :=
  (∀ (s : State), procAnswers s.chip = true → s.chip.saf.shuntReq = true → s.chip.nib.shtr = false → s.chip.pwd.shunt = false →
    Answers .shuntTripDirect s fun t => KeptBut [.host, .out, .pwd, .regs, .saf] s t ∧
      RegsKeptBut [Reg.SAF_EVT] s.chip t.chip ∧ t.chip.saf = { s.chip.saf with shuntReq := false } ∧
      t.chip.pwd = { s.chip.pwd with shunt := true } ∧ .shunt true ∈ t.chip.out ∧
      immBit t.chip Reg.SAF_EVT 10 = true) ∧
  (∀ (s : State), s.chip.pwd.shunt = true →
    Answers .shuntTripEnd s fun t => KeptBut [.nib, .out, .pwd] s t ∧
      t.chip.pwd = { s.chip.pwd with shunt := false } ∧ t.chip.nib = { s.chip.nib with shtr := false } ∧
      t.chip.out = .shunt false :: s.chip.out) ∧
  -- a passed test: both channels permit the outlet, which closes where its vehicle already asks for energy; a failed one
  -- ends in FAULTED with the source of the outlet
  (∀ (s : State) (o : Outlet) (r : PrecloseRun) (a : Nat), procAnswers s.chip = true →
    (outletOf s.chip o.val).state = .authorised → (coilOf s.chip o.val).driven = false →
    nibMayPermit s.chip o.val = true → precloseFits s.chip o.val r = true → r.readBack = true →
    Answers (.precloseTest o r a) s fun t => StoresKept s t ∧ ∃ e, ChipKeptBut [.nib, .outl, .saf, .tb] s.chip e ∧
      OthersKept o.val s.chip e ∧
      outletOf e o.val = { outletOf s.chip o.val with preclosed := some (aonSec s.chip), testDue := false } ∧
      e.saf = { s.chip.saf with permit := setBitV s.chip.saf.permit o.val true, precloseReq := none } ∧
      e.nib.gate = setBitV s.chip.nib.gate o.val true ∧ e.nib.permit = setBitV s.chip.nib.permit o.val true ∧
      t.chip = tryClose e o ∧ (cpReady s.chip o.val = false → t.chip = e)) ∧
  (∀ (s : State) (o : Outlet) (r : PrecloseRun) (a : Nat), procAnswers s.chip = true →
    (outletOf s.chip o.val).state = .authorised → (coilOf s.chip o.val).driven = false →
    (precloseFits s.chip o.val r = false ∨ r.readBack = false ∨ nibMayPermit s.chip o.val = false) →
    Answers (.precloseTest o r a) s fun t => StoresKept s t ∧ ∃ e, FaultedAt s.chip e o.val ∧
      immBit e Reg.SAF_EVT 12 = true ∧ e.saf.precloseReq = none ∧ t.chip = reportSrc e (96 + o.val) 0) ∧
  -- a latch clears only in its state: state A accepted, for a contactor also open; a weld and SF7 never here
  (∀ (s : State) (o : Outlet) (f : Sf), latchMayClear s.chip o.val f = true →
    Answers (.tripLatchClear o f) s fun t => KeptBut [.flt, .host, .nib, .out, .outl, .pwd, .saf, .sup] s t ∧
      t.chip.saf.latches = s.chip.saf.latches.filter (fun l => l != (o.val, f)) ∧
      ((∀ g, g ≠ f → (o.val, g) ∉ s.chip.saf.latches) → s.chip.nib.weld.getLsbD o.val = false →
        t.chip.nib.latch.getLsbD o.val = false)) ∧
  (∀ (s : State) (o : Outlet), exec (.tripLatchClear o .weld) s = .next s ∧
    exec (.tripLatchClear o .sf7) s = .next s) ∧
  (∀ (s : State) (o : Outlet) (f : Sf), f ≠ .sf6 → (outletOf s.chip o.val).cp ≠ .a →
    exec (.tripLatchClear o f) s = .next s)

/-- Nib and the heartbeat: NIB_CHALLENGE, NIB_ANSWER, NIB_ANSWER_TIMEOUT, NIB_LOST, LOCKSTEP_MISMATCH,
NIB_B_BAND_WITHDRAW, NIB_AIMED_WITHDRAW, DEGRADED_WINDOW_END, SEAL_SWITCH_CHANGE, SEAL_SETTING_ADOPT
(R272, R273, R275, R276, R280, R286, R287, R293, R294). Rests on the model's choices of log 53, 64. -/
def Obligations.NibCommands : Prop :=
  (∀ (s : State) (v : BitVec 16), Answers (.nibChallenge v) s fun t => KeptBut [.nib, .out] s t ∧
    t.chip.nib = { s.chip.nib with challenge := some v, ticks := s.chip.nib.ticks + 1,
                                   remainMs := if s.chip.nib.degraded = 0 then 0 else s.chip.nib.remainMs - 1 } ∧
    t.chip.out = .challenge v.toNat :: s.chip.out) ∧
  -- a good answer in its window of 200 µs to 800 µs: counted, and its permission bits taken; a line whose bit is clear
  -- is withdrawn, but for an outlet in its degraded window
  (∀ (s : State) (us a : Nat), s.chip.nib.challenge ≠ none → procAnswers s.chip = true →
    200 ≤ us → us ≤ 800 → s.chip.nib.procOk = true → s.chip.saf.shuntReq = false →
    Answers (.nibAnswer us true a) s fun t => KeptBut [.freeCount, .nib, .out, .outl, .pwd, .tb] s t ∧
      t.chip.nib.challenge = none ∧ t.chip.nib.good = (s.chip.nib.good + 1) % 65536 ∧ t.chip.nib.badRun = 0 ∧
      t.chip.nib.goodRun = s.chip.nib.goodRun + 1 ∧ t.chip.nib.permit = s.chip.saf.permit ∧
      t.chip.nib.precloseOf = s.chip.saf.precloseReq ∧ .answer s.chip.saf.permit.toNat ∈ t.chip.out ∧
      ∀ o : Outlet, t.chip.nib.gate.getLsbD o.val = (s.chip.nib.gate.getLsbD o.val &&
        (s.chip.saf.permit.getLsbD o.val || s.chip.nib.degraded.getLsbD o.val))) ∧
  -- a bad answer, or none: counted; the third in a row loses the processor channel
  (∀ (s : State), s.chip.nib.challenge ≠ none → s.chip.nib.procOk = false →
    Answers .nibAnswerTimeout s fun t => KeptBut [.nib] s t ∧ t.chip.nib.challenge = none ∧
      t.chip.nib.bad = min 65535 (s.chip.nib.bad + 1) ∧ t.chip.nib.badRun = s.chip.nib.badRun + 1 ∧
      t.chip.nib.goodRun = 0) ∧
  (∀ (s : State), s.chip.nib.challenge ≠ none → s.chip.nib.procOk = true → 2 ≤ s.chip.nib.badRun →
    Answers .nibAnswerTimeout s fun t => StoresKept s t ∧ ∃ e, t.chip = reportSrc e 114 0 ∧
      ChipKeptBut [.acc, .host, .nib, .out, .outl, .pwd, .regs] s.chip e ∧ e.nib.procOk = false ∧ e.nib.permit = 0 ∧
      e.nib.remainMs = windowMs s.chip ∧ immBit e Reg.SAF_EVT 7 = true ∧
      ∀ o : Outlet, e.nib.gate.getLsbD o.val = (s.chip.nib.gate.getLsbD o.val && fbClosed s.chip o.val &&
        decide (0 < windowMs s.chip))) ∧
  -- the processor loses Nib: it opens every energised outlet
  (∀ (s : State) (n src : Nat), let c := runTo s.chip n
    procAnswers c = true → c.saf.mirrorAt ≠ none → (c.saf.nibOk = true ∨ c.saf.healthyFrom ≠ none) →
    nibFailure c = some src →
    Answers (.nibLost n) s fun t => StoresKept s t ∧ ∃ e,
      t.chip = reportSrc e src 0 ∧ e.saf.nibOk = false ∧ immBit e Reg.SAF_EVT 9 = true ∧
      ∀ o : Outlet, energised s.chip o.val = true → (coilOf e o.val).driven = false) ∧
  (∀ (s : State) (n : Nat), nibFailure (runTo s.chip n) = none →
    Answers (.nibLost n) s fun t => StoresKept s t ∧ t.chip = runTo s.chip n) ∧
  (∀ (s : State), Reports .lockstepMismatch s 112 0 fun c e => e = { c with
    saf := { c.saf with lockstepOk := false } }) ∧
  -- withdrawals of Nib by itself
  (∀ (s : State) (o : Outlet) (vp vn : Int), pilotBand (outletOf s.chip o.val).pwm vp vn = .b →
    s.chip.nib.gate.getLsbD o.val = true → s.chip.nib.degraded.getLsbD o.val = false →
    Answers (.nibBBandWithdraw o vp vn) s fun t => StoresKept s t ∧ Withdrawn s.chip t.chip o.val 6) ∧
  (∀ (s : State) (o : Outlet) (vp vn : Int), pilotBand (outletOf s.chip o.val).pwm vp vn = .b →
    s.chip.nib.degraded.getLsbD o.val = true → forecastValid s.chip o.val = true →
    Answers (.nibBBandWithdraw o vp vn) s fun t => KeptBut [.nib] s t ∧
      t.chip.nib = { s.chip.nib with bBand := setBitV s.chip.nib.bBand o.val true }) ∧
  (∀ (s : State) (o : Outlet), s.chip.nib.gate.getLsbD o.val = true →
    s.chip.nib.degraded.getLsbD o.val = true → forecastValid s.chip o.val = true →
    Answers (.nibAimedWithdraw o) s fun t => StoresKept s t ∧
      Withdrawn s.chip t.chip o.val (if s.chip.nib.bBand.getLsbD o.val then 6 else 11)) ∧
  (∀ (s : State), s.chip.nib.remainMs = 0 →
    Answers .degradedWindowEnd s fun t => KeptBut [.nib, .out, .outl, .pwd] s t ∧
    t.chip.nib.degraded = 0 ∧ t.chip.nib.remainMs = 0 ∧
    ∀ o : Outlet, t.chip.nib.gate.getLsbD o.val =
      (s.chip.nib.gate.getLsbD o.val && !s.chip.nib.degraded.getLsbD o.val)) ∧
  (∀ (s : State), s.chip.nib.remainMs ≠ 0 → exec .degradedWindowEnd s = .next s) ∧
  -- the seal inputs change: SF7 while an outlet is energised; an invalid input withdraws every line
  (∀ (s : State) (l : List Nat), anyEnergised s.chip = true →
    (sealsClosed l ≠ s.chip.nib.sealNow ∨ sealsInvalid l ≠ 0) →
    Answers (.sealSwitchChange l) s fun t => StoresKept s t ∧ t.chip.nib.sealNow = sealsClosed l ∧
      t.chip.nib.sealInvalid = sealsInvalid l ∧ t.chip.nib.sealFault = true ∧ immBit t.chip Reg.SAF_EVT 6 = true ∧
      ∀ o : Outlet, (o.val, Sf.sf7) ∈ t.chip.saf.latches ∧ (coilOf t.chip o.val).driven = false ∧
        t.chip.nib.gate.getLsbD o.val = false) ∧
  (∀ (s : State) (l : List Nat), anyEnergised s.chip = false → sealsInvalid l ≠ 0 →
    Answers (.sealSwitchChange l) s fun t => KeptBut [.nib, .out, .outl, .pwd] s t ∧
      t.chip.nib.sealNow = sealsClosed l ∧
      t.chip.nib.sealInvalid = sealsInvalid l ∧ ∀ o : Outlet, t.chip.nib.gate.getLsbD o.val = false) ∧
  -- the setting is adopted with no outlet energised and every input valid; SF7 clears
  (∀ (s : State), anyEnergised s.chip = false → s.chip.nib.sealInvalid = 0 →
    Answers .sealSettingAdopt s fun t => KeptBut [.host, .nib, .out, .outl, .pwd, .saf, .sup] s t ∧
      t.chip.nib.window = (s.chip.nib.sealNow.getLsbD 1).toNat * 2 + (s.chip.nib.sealNow.getLsbD 0).toNat ∧
      t.chip.nib.rdcEn = s.chip.nib.sealNow.getLsbD 2 ∧ t.chip.nib.peEn = s.chip.nib.sealNow.getLsbD 3 ∧
      t.chip.nib.parityOk = parityOkOf s.chip.nib.sealNow ∧ t.chip.nib.sealFault = false ∧
      (∀ o, (o, Sf.sf7) ∉ t.chip.saf.latches) ∧
      (parityOkOf s.chip.nib.sealNow = false → ∀ o : Outlet, t.chip.nib.gate.getLsbD o.val = false)) ∧
  (∀ (s : State), anyEnergised s.chip = true → exec .sealSettingAdopt s = .next s)

/-- The turn-on of a load switch: LSW_ON, LSW_OFF, LSW_CMD, LSW_DUR_EXPIRY, LSW_IN_EDGE, LSW_RAMP_DONE, LSW_WINDOW_END,
LSW_RAIL_SAG, LSW_RAMP_RESUME, LSW_PAUSE_TIMEOUT, LSW_DISABLE_WRITE (R304 to R310, R313, R319). Rests on the model's
choices of log 21. -/
def Obligations.LoadSwitchDemand : Prop :=
  -- ON of an OFF channel whose demand is its register: it ramps, or waits while its group is over budget
  (∀ (s : State) (n : Lsw) (d : BitVec 8) (m : LswMeas), lswDisabled s.chip n.val = false →
    cfg s.chip (Reg.LSW_CFG n.val) 1 0 = 0 → (lswOf s.chip n.val).state = .off →
    (lswOf s.chip n.val).regOn = false → lswUv s.chip (lswInB n.val) = false → 8000 ≤ m.rail →
    Answers (.lswOn n d m) s fun t => KeptBut [.lsw, .pwd] s t ∧ OtherChansKept n.val s.chip t.chip ∧
      t.chip.pwd.writeSeq = (s.chip.pwd.writeSeq + 1) % 2 ^ 32 ∧
      (lswOf t.chip n.val).regOn = true ∧ (lswOf t.chip n.val).dur = d.toNat ∧ (lswOf t.chip n.val).shed = false ∧
      (if m.group ≤ lswBudget s.chip (lswInB n.val) then (lswOf t.chip n.val).state = .ramp ∧
        (lswOf t.chip n.val).refMv = m.rail else (lswOf t.chip n.val).state = .off ∧
        (lswOf t.chip n.val).grpWait = true)) ∧
  (∀ (s : State) (n : Lsw) (m : LswMeas), lswDisabled s.chip n.val = false →
    cfg s.chip (Reg.LSW_CFG n.val) 1 0 = 0 → (lswOf s.chip n.val).state = .on → (lswOf s.chip n.val).regOn = true →
    (lswOf s.chip n.val).cleared = false → (lswOf s.chip n.val).episode = false →
    Answers (.lswOff n m) s fun t => KeptBut [.lsw, .pwd] s t ∧ OtherChansKept n.val s.chip t.chip ∧
      (lswOf t.chip n.val).state = .off ∧ (lswOf t.chip n.val).regOn = false ∧ (lswOf t.chip n.val).trips = 0) ∧
  -- a command to a disabled channel is discarded
  (∀ (s : State) (n : Lsw) (d : BitVec 8) (m : LswMeas), lswDisabled s.chip n.val = true →
    Answers (.lswOn n d m) s fun t => KeptBut [.lsw, .pwd] s t ∧ OtherChansKept n.val s.chip t.chip ∧
      (lswOf t.chip n.val).state = (lswOf s.chip n.val).state ∧
      (lswOf t.chip n.val).regOn = (lswOf s.chip n.val).regOn) ∧
  -- the opcode posts the write and completes when it lands; a disabled channel answers DISABLED
  (∀ (s : State) (req : Requester) (n : Lsw) (on off : Bool) (d : Nat),
    performs s.chip req 0x0501 (.lswChannel n) = true → lswDisabled s.chip n.val = false →
    (lswOf s.chip n.val).state ≠ .retired →
    Answers (.lswCmd req n on off d) s fun t => KeptBut [.host, .pwd] s t ∧
      t.chip.pwd = { s.chip.pwd with posted := s.chip.pwd.posted ++ [⟨Reg.LSW_CMD n.val,
        wordOf (placeBit 0 on + placeBit 1 off + place 8 (d % 256)), some req⟩] }) ∧
  (∀ (s : State) (req : Requester) (n : Lsw) (on off : Bool) (d : Nat),
    performs s.chip req 0x0501 (.lswChannel n) = true → lswDisabled s.chip n.val = true →
    Replies (.lswCmd req n on off d) s req 0x0501 (ansStatus .disabled) fun c e => e = c) ∧
  -- the end of a timed demand
  (∀ (s : State) (n : Lsw), (lswOf s.chip n.val).dur ≠ 0 → cfg s.chip (Reg.LSW_CFG n.val) 1 0 = 0 →
    (lswOf s.chip n.val).state = .on → (lswOf s.chip n.val).regOn = true →
    (lswOf s.chip n.val).cleared = false → (lswOf s.chip n.val).episode = false →
    Answers (.lswDurExpiry n) s fun t => KeptBut [.lsw] s t ∧ OtherChansKept n.val s.chip t.chip ∧
      (lswOf t.chip n.val).state = .off ∧ (lswOf t.chip n.val).regOn = false ∧ (lswOf t.chip n.val).dur = 0) ∧
  -- a rising pin: ON at once after less than 10 ms off, and otherwise a ramp
  (∀ (s : State) (n : Lsw) (r : Bool) (m : LswMeas), lswDisabled s.chip n.val = false →
    cfg s.chip (Reg.LSW_CFG n.val) 1 0 = 1 → (lswOf s.chip n.val).state = .off →
    (lswOf s.chip n.val).pin = false → lswUv s.chip (lswInB n.val) = false → 8000 ≤ m.rail →
    m.group ≤ lswBudget s.chip (lswInB n.val) →
    Answers (.lswInEdge n true r m) s fun t => KeptBut [.lsw, .pwd] s t ∧ OtherChansKept n.val s.chip t.chip ∧
      (lswOf t.chip n.val).pin = true ∧ (lswOf t.chip n.val).state = (if r then .on else .ramp)) ∧
  -- the ramp, its pauses and its window
  (∀ (s : State) (n : Lsw) (m : LswMeas), (lswOf s.chip n.val).state = .ramp → (lswOf s.chip n.val).paused = false →
    Answers (.lswRampDone n m) s fun t => KeptBut [.lsw, .pwd] s t ∧ OtherChansKept n.val s.chip t.chip ∧
      (lswOf t.chip n.val).state = .window) ∧
  (∀ (s : State) (n : Lsw) (m : LswMeas), (lswOf s.chip n.val).state = .window →
    m.rail * 90 ≤ m.v10 * 10 * 100 →
    Answers (.lswWindowEnd n m) s fun t => KeptBut [.lsw, .pwd] s t ∧ OtherChansKept n.val s.chip t.chip ∧
      (lswOf t.chip n.val).state = .on) ∧
  (∀ (s : State) (n : Lsw) (m : LswMeas), (lswOf s.chip n.val).state = .window →
    m.v10 * 10 * 100 < m.rail * 90 → (lswOf s.chip n.val).trips = 0 → lswLatches s.chip n.val = false →
    Reports (.lswWindowEnd n m) s (64 + n.val) 0 fun c e => LswTripped n.val c e ∧
      immBit e (Reg.LSW_EVT n.val) 2 = true) ∧
  (∀ (s : State) (n : Lsw) (m : LswMeas), (lswOf s.chip n.val).state = .ramp →
    m.rail * 100 < (lswOf s.chip n.val).refMv * 80 →
    Answers (.lswRailSag n m) s fun t => KeptBut [.lsw, .pwd] s t ∧ OtherChansKept n.val s.chip t.chip ∧
      (lswOf t.chip n.val).state = .ramp ∧ (lswOf t.chip n.val).paused = true) ∧
  (∀ (s : State) (n : Lsw) (ms : Nat) (m : LswMeas), (lswOf s.chip n.val).state = .ramp →
    (lswOf s.chip n.val).paused = true → (lswOf s.chip n.val).refMv * 85 ≤ m.rail * 100 →
    (lswOf s.chip n.val).pausedMs + ms ≤ 200 →
    Answers (.lswRampResume n ms m) s fun t => KeptBut [.lsw, .pwd] s t ∧ OtherChansKept n.val s.chip t.chip ∧
      (lswOf t.chip n.val).state = .ramp ∧ (lswOf t.chip n.val).paused = false ∧
      (lswOf t.chip n.val).pausedMs = (lswOf s.chip n.val).pausedMs + ms) ∧
  (∀ (s : State) (n : Lsw) (ms : Nat), (lswOf s.chip n.val).state = .ramp → (lswOf s.chip n.val).paused = true →
    200 < (lswOf s.chip n.val).pausedMs + ms → (lswOf s.chip n.val).trips = 0 → lswLatches s.chip n.val = false →
    Reports (.lswPauseTimeout n ms) s (64 + n.val) 0 fun c e => LswTripped n.val c e ∧
      immBit e (Reg.LSW_EVT n.val) 2 = true) ∧
  -- disabling ends a steady demand
  (∀ (s : State) (v : BitVec 12), Answers (.lswDisableWrite v) s fun t => KeptBut [.flt, .lsw, .pwd, .regs] s t ∧
    RegsKeptBut [Reg.LSW_DISABLE] s.chip t.chip ∧ regGet t.chip Reg.LSW_DISABLE = wordOf v.toNat ∧
    ∀ n : Lsw, v.getLsbD n.val = true → lswDisabled s.chip n.val = false →
      cfg s.chip (Reg.LSW_CFG n.val) 1 0 = 0 → (lswOf s.chip n.val).state = .on →
      (lswOf s.chip n.val).regOn = true → (lswOf s.chip n.val).dur = 0 → (lswOf s.chip n.val).cleared = false →
      (lswOf t.chip n.val).state = .off ∧ (lswOf t.chip n.val).regOn = false)

/-- Trips, groups, pulses and diagnostics of the load switches: LSW_THERMAL_SHUTDOWN, LSW_RETRY, LSW_TRIPS_RESET,
LSW_OVERCURRENT, LSW_SHED, LSW_GROUP_UV, LSW_GROUP_UV_RECOVER, LSW_GROUP_WITHIN_BUDGET, LSW_TEST_PULSE,
LSW_TEST_PULSE_END, LSW_OFF_CHECK_FAIL, LSW_OPEN_LOAD (R303 to R305, R310 to R316, R320). Rests on the model's choices
of log 21, 22, 23, 54. -/
def Obligations.LoadSwitchProtection : Prop :=
  -- the first trip of an episode reports it, a later one does not; the channel that latches ends it
  (∀ (s : State) (n : Lsw) (m : LswMeas), 239 ≤ m.tj → ((lswOf s.chip n.val).state = .ramp ∨
      (lswOf s.chip n.val).state = .window ∨ (lswOf s.chip n.val).state = .on) → (lswOf s.chip n.val).trips = 0 →
    lswLatches s.chip n.val = false →
    Reports (.lswThermalShutdown n m) s (64 + n.val) 0 (LswTripped n.val)) ∧
  (∀ (s : State) (n : Lsw) (m : LswMeas), 239 ≤ m.tj → ((lswOf s.chip n.val).state = .ramp ∨
      (lswOf s.chip n.val).state = .window ∨ (lswOf s.chip n.val).state = .on) → (lswOf s.chip n.val).trips ≠ 0 →
    lswLatches s.chip n.val = false →
    Answers (.lswThermalShutdown n m) s fun t => StoresKept s t ∧ LswTripped n.val s.chip t.chip) ∧
  (∀ (s : State) (n : Lsw) (m : LswMeas), 239 ≤ m.tj → ((lswOf s.chip n.val).state = .ramp ∨
      (lswOf s.chip n.val).state = .window ∨ (lswOf s.chip n.val).state = .on) → lswLatches s.chip n.val = true →
    Answers (.lswThermalShutdown n m) s fun t => StoresKept s t ∧ ∃ e, LswTripped n.val s.chip e ∧
      t.chip = clearSrc (lswEvt (if (lswOf s.chip n.val).trips = 0 then reportSrc e (64 + n.val) 0 else e) n.val 1)
        (64 + n.val)) ∧
  (∀ (s : State) (n : Lsw) (m : LswMeas), 239 ≤ m.tj → (lswOf s.chip n.val).state = .test →
    Answers (.lswThermalShutdown n m) s fun t => KeptBut [.lsw, .pwd] s t ∧ OtherChansKept n.val s.chip t.chip ∧
      (lswOf t.chip n.val).state = .test ∧ (lswOf t.chip n.val).tripDue = true) ∧
  -- a retry at 155 °C or below with the demand still on
  (∀ (s : State) (n : Lsw) (m : LswMeas), (lswOf s.chip n.val).state = .cool → m.tj ≤ 219 →
    lswDemand s.chip n.val = true → lswUv s.chip (lswInB n.val) = false → 8000 ≤ m.rail →
    m.group ≤ lswBudget s.chip (lswInB n.val) →
    Answers (.lswRetry n m) s fun t => KeptBut [.lsw, .pwd] s t ∧ OtherChansKept n.val s.chip t.chip ∧
      (lswOf t.chip n.val).state = .ramp ∧ (lswOf t.chip n.val).trips = (lswOf s.chip n.val).trips) ∧
  (∀ (s : State) (n : Lsw), (lswOf s.chip n.val).state = .on →
    Answers (.lswTripsReset n) s fun t => KeptBut [.flt, .lsw] s t ∧ OtherChansKept n.val s.chip t.chip ∧
      lswOf t.chip n.val = { lswOf s.chip n.val with trips := 0, episode := false }) ∧
  (∀ (s : State) (n : Lsw) (m : LswMeas), (lswOf s.chip n.val).state = .on →
    Answers (.lswOvercurrent n m) s fun t => KeptBut [.host, .lsw, .out, .pwd, .regs] s t ∧
      OtherChansKept n.val s.chip t.chip ∧ (lswOf t.chip n.val).limiting = true ∧
      (lswOf t.chip n.val).state = .on ∧ immBit t.chip (Reg.LSW_EVT n.val) 3 = true) ∧
  -- a group above 1.25 times its budget sheds one channel, or says that it has none to shed
  (∀ (s : State) (g : Bool) (i n : Nat), lswBudget s.chip g * 5 < i * 4 → lswShedding s.chip g = some n →
    Answers (.lswShed g i) s fun t => KeptBut [.flt, .host, .lsw, .out, .regs] s t ∧
      OtherChansKept n s.chip t.chip ∧ (lswOf t.chip n).state = .off ∧ (lswOf t.chip n).shed = true ∧
      (lswOf t.chip n).regOn = false ∧ immBit t.chip (Reg.LSW_EVT n) 8 = true ∧ lswCurrent t.chip g = i) ∧
  (∀ (s : State) (g : Bool) (i : Nat), lswBudget s.chip g * 5 < i * 4 → lswShedding s.chip g = none →
    Answers (.lswShed g i) s fun t => KeptBut [.host, .lsw, .out, .regs] s t ∧ t.chip.lsw.chans = s.chip.lsw.chans ∧
      ∀ n ∈ lswGroup g, immBit t.chip (Reg.LSW_EVT n) 9 = true) ∧
  -- undervoltage turns the group off, and it comes back from 8.0 V
  (∀ (s : State) (g : Bool) (v : Nat), v < 7000 →
    Answers (.lswGroupUv g v) s fun t => KeptBut [.lsw, .pwd] s t ∧ lswUv t.chip g = true ∧ lswRail t.chip g = v ∧
      (∀ n ∈ lswGroup g, lswOn (lswOf s.chip n) = true → (lswOf t.chip n).state = .off) ∧
      ∀ n, n ∉ lswGroup g → lswOf t.chip n = lswOf s.chip n) ∧
  (∀ (s : State) (g : Bool) (v i : Nat), 8000 ≤ v → i ≤ lswBudget s.chip g →
    Answers (.lswGroupUvRecover g v i) s fun t => KeptBut [.lsw, .pwd] s t ∧ lswUv t.chip g = false ∧
      (∀ n ∈ lswGroup g, lswDemand s.chip n = true → (lswOf s.chip n).state = .off → (lswOf t.chip n).state = .ramp) ∧
      ∀ n, n ∉ lswGroup g → lswOf t.chip n = lswOf s.chip n) ∧
  (∀ (s : State) (g : Bool) (i : Nat), i ≤ lswBudget s.chip g → lswUv s.chip g = false → 8000 ≤ lswRail s.chip g →
    Answers (.lswGroupWithinBudget g i) s fun t => KeptBut [.lsw] s t ∧
      ∀ n ∈ lswGroup g, (lswOf s.chip n).grpWait = true → (lswOf s.chip n).state = .off →
        (lswOf t.chip n).grpWait = false ∧
        (lswOf t.chip n).state = (if lswDemand s.chip n then .ramp else .off)) ∧
  -- dark test pulses
  (∀ (s : State) (n : Lsw), (lswOf s.chip n.val).state = .on → lswDisabled s.chip n.val = false →
    Answers (.lswTestPulse n) s fun t => KeptBut [.host, .lsw, .out, .regs, .tb] s t ∧
      OtherChansKept n.val s.chip t.chip ∧
      lswOf t.chip n.val = { lswOf s.chip n.val with state := .test, tripDue := false }) ∧
  (∀ (s : State) (n : Lsw), (lswOf s.chip n.val).state ≠ .on ∨ lswDisabled s.chip n.val = true →
    Answers (.lswTestPulse n) s fun t => KeptBut [.host, .out, .regs, .tb] s t ∧
      immBit t.chip (Reg.LSW_EVT n.val) 7 = true) ∧
  (∀ (s : State) (n : Lsw) (f a : Nat) (m : LswMeas), (lswOf s.chip n.val).state = .test →
    (lswOf s.chip n.val).tripDue = false → f ≤ 50 → a * 100 ≤ lswRated n.val →
    Answers (.lswTestPulseEnd n f a m) s fun t => KeptBut [.lsw, .pwd] s t ∧ OtherChansKept n.val s.chip t.chip ∧
      (lswOf t.chip n.val).state = (if lswDemand s.chip n.val then .on else .off)) ∧
  (∀ (s : State) (n : Lsw) (m : LswMeas), (lswOf s.chip n.val).state = .off → lswRated n.val < m.ma * 100 →
    Reports (.lswOffCheckFail n m) s (64 + n.val) 0 fun c e =>
    ChipKeptBut [.host, .lsw, .out, .pwd, .regs] c e ∧ OtherChansKept n.val c e ∧
    RegsKeptBut [Reg.LSW_EVT n.val] c e ∧ immBit e (Reg.LSW_EVT n.val) 6 = true) ∧
  -- the open-load diagnostics where they are enabled
  (∀ (s : State) (n : Lsw) (a b : Nat) (m : LswMeas), cfgBit s.chip (Reg.LSW_CFG n.val) 28 = true →
    let x := { lswOf s.chip n.val with ma := m.ma, v10 := m.v10, tj := m.tj, limiting := m.limiting }
    Answers (.lswOpenLoad n a b m) s fun t => KeptBut [.host, .lsw, .out, .pwd, .regs] s t ∧
      OtherChansKept n.val s.chip t.chip ∧ RegsKeptBut [Reg.LSW_EVT n.val] s.chip t.chip ∧
      lswOf t.chip n.val = { x with openLoad := openLoadOf x n.val m a b, shortVbb := shortOf x m a b } ∧
      (openLoadOf x n.val m a b = true → x.openLoad = false → immBit t.chip (Reg.LSW_EVT n.val) 4 = true) ∧
      (shortOf x m a b = true → x.shortVbb = false → immBit t.chip (Reg.LSW_EVT n.val) 5 = true)) ∧
  (∀ (s : State) (n : Lsw) (a b : Nat) (m : LswMeas), cfgBit s.chip (Reg.LSW_CFG n.val) 28 = false →
    Answers (.lswOpenLoad n a b m) s fun t => KeptBut [.lsw, .pwd] s t ∧ OtherChansKept n.val s.chip t.chip ∧
      (lswOf t.chip n.val).openLoad = (lswOf s.chip n.val).openLoad ∧
      (lswOf t.chip n.val).shortVbb = (lswOf s.chip n.val).shortVbb)

/-- Publication and frames: DSP_PUB_GO, DSP_PUBLISH, DSP_WRITE, DSP_FRAME_START, FRAME_FREE, DSP_FRAME_END (R324, R327 to
R330, R345, R362). Rests on the model's choices of log 3, 25, 54, 70. -/
def Obligations.DisplayFrames : Prop :=
  -- a publication waits for the next frame start; one beyond 512 MiB is refused
  (∀ (s : State), windowClosed s.chip Reg.DSP_PUB_CTRL = false → regionReady s.chip .dsp = true →
    dsiDisabled s.chip = false → s.chip.dsp.pend = none →
    imm s.chip Reg.DSP_PUB_ADDR 31 12 * 4096 + hact s.chip * vact s.chip * 4 ≤ 2 ^ 29 →
    Answers .dspPubGo s fun t => KeptBut [.dsp] s t ∧
      t.chip.dsp = { s.chip.dsp with
        pend := some ⟨imm s.chip Reg.DSP_PUB_ADDR 31 12 * 4096, regGet s.chip Reg.DSP_PUB_CRC, none⟩ }) ∧
  (∀ (s : State), windowClosed s.chip Reg.DSP_PUB_CTRL = false → regionReady s.chip .dsp = true →
    dsiDisabled s.chip = false → 2 ^ 29 < imm s.chip Reg.DSP_PUB_ADDR 31 12 * 4096 + hact s.chip * vact s.chip * 4 →
    Answers .dspPubGo s fun t => KeptBut [.host, .out, .regs] s t ∧ RegsKeptBut [Reg.DSP_EVT] s.chip t.chip ∧
      immBit t.chip Reg.DSP_EVT 2 = true) ∧
  (∀ (s : State) (req : Requester) (a : Nat) (w : Word), performs s.chip req 0x0602 .pixel = true →
    dsiDisabled s.chip = false → a % 4096 = 0 → a + hact s.chip * vact s.chip * 4 ≤ 2 ^ 29 →
    s.chip.dsp.pend = none →
    Answers (.dspPublish req a w) s fun t => KeptBut [.dsp, .host] s t ∧
      t.chip.dsp = { s.chip.dsp with pend := some ⟨a, w, some req⟩ }) ∧
  -- a publication that replaces a pending one answers it SUPERSEDED
  (∀ (s : State) (req old : Requester) (a b : Nat) (w v : Word), performs s.chip req 0x0602 .pixel = true →
    dsiDisabled s.chip = false → a % 4096 = 0 → a + hact s.chip * vact s.chip * 4 ≤ 2 ^ 29 →
    s.chip.dsp.pend = some ⟨b, v, some old⟩ →
    Answers (.dspPublish req a w) s fun t => KeptBut [.dsp, .host, .out] s t ∧
      t.chip.dsp = { s.chip.dsp with pend := some ⟨a, w, some req⟩ } ∧
      t.chip.host = (complete (begun s.chip req 0x0602) old (ansReject .superseded)).host) ∧
  -- DSP_WRITE stores exactly its bytes from its offset on, in the host frame-buffer area
  (∀ (s : State) (req : Requester) (a : Nat) (bs : List Byte), performs s.chip req 0x0601 .pixel = true →
    dsiDisabled s.chip = false → bs.length % 4 = 0 → bs ≠ [] → dspWriteFits a bs = true →
    Answers (.dspWrite req a (some bs)) s fun t => t.pending = s.pending ∧ t.fuses = s.fuses ∧
      t.chip = complete (begun s.chip req 0x0601) req ansOk ∧ t.dram = mputs s.dram a bs ∧
      (∀ k, k < bs.length → mget t.dram (a + k) = bs.getD k 0#8) ∧
      ∀ k, k < a ∨ a + bs.length ≤ k → mget t.dram k = mget s.dram k) ∧
  (∀ (s : State) (req : Requester) (a : Nat) (bs : List Byte), performs s.chip req 0x0601 .pixel = true →
    dsiDisabled s.chip = false → bs.length % 4 = 0 → bs ≠ [] → dspWriteFits a bs = false →
    Replies (.dspWrite req a (some bs)) s req 0x0601 (ansReject .field) fun c e => e = c) ∧
  -- the flip at a frame start; a change of timing first stops the video
  (∀ (s : State) (b : Buffer), frameLocked s.chip = false → dspRuns s.chip = true → videoOn s.chip.dsp = true → s.chip.dsp.stopFrames = 0 →
    s.chip.dsp.pend = some b →
    Answers .dspFrameStart s fun t => KeptBut [.age, .dsp, .freeCount, .host, .out, .regs] s t ∧
      t.chip.dsp = { s.chip.dsp with
        held := none, inFrame := true, front := some { b with owner := none }, pend := none, noFlip := false } ∧
      immBit t.chip Reg.DSP_EVT 0 = true) ∧
  (∀ (s : State), frameLocked s.chip = false → dspRuns s.chip = true → videoOn s.chip.dsp = true →
    s.chip.dsp.stopFrames ≠ 0 →
    Answers .dspFrameStart s fun t => KeptBut [.dsp] s t ∧ t.chip.dsp = { s.chip.dsp with
      held := none, stopFrames := s.chip.dsp.stopFrames - 1, inFrame := false }) ∧
  (∀ (s : State), dspRuns s.chip = true → videoOn s.chip.dsp = true → frameLocked s.chip = true →
    s.chip.dsp.stopFrames = 0 →
    Answers .frameFree s fun t => KeptBut [.age, .dsp, .freeCount, .host, .out, .regs] s t ∧
      t.chip.dsp.inFrame = true ∧ immBit t.chip Reg.DSP_EVT 6 = true) ∧
  -- the end of a frame: counted, sent, its checksum compared; the second mismatch shows the fallback colour
  (∀ (s : State) (d : Nat) (e : Bool), s.chip.dsp.inFrame = true → s.chip.dsp.front = none →
    Answers (.dspFrameEnd d e) s fun t => KeptBut [.age, .dsp, .freeCount, .out] s t ∧
      t.chip.dsp = { s.chip.dsp with
        inFrame := false, frameCnt := (s.chip.dsp.frameCnt + 1) % 2 ^ 32, framed := true } ∧
      t.chip.out = .frame none (pixelType s.chip) (sentPixels s.chip s.dram) :: s.chip.out) ∧
  (∀ (s : State) (d : Nat) (b : Buffer), s.chip.dsp.inFrame = true → s.chip.dsp.front = some b →
    s.chip.dsp.fallback = false → crc32 (mgets s.dram b.addr (hact s.chip * vact s.chip * 4)) = b.crc →
    Answers (.dspFrameEnd d false) s fun t => KeptBut [.age, .dsp, .freeCount, .out] s t ∧
      t.chip.out = .frame (some b.addr) (pixelType s.chip) (sentPixels s.chip s.dram) :: s.chip.out ∧ t.chip.dsp.crcMatch = true ∧ t.chip.dsp.crcRun = 0 ∧
      t.chip.dsp.crcCalc = b.crc ∧ t.chip.dsp.crcFails = s.chip.dsp.crcFails) ∧
  (∀ (s : State) (d : Nat) (b : Buffer) (x : Bool), s.chip.dsp.inFrame = true → s.chip.dsp.front = some b →
    s.chip.dsp.fallback = false → s.chip.dsp.crcRun = 1 →
    crc32 (mgets s.dram b.addr (hact s.chip * vact s.chip * 4)) ≠ b.crc →
    Answers (.dspFrameEnd d x) s fun t => StoresKept s t ∧ ∃ e, t.chip = takeFree (reportSrc e 147 0) ∧
      ChipKeptBut [.age, .dsp, .host, .out, .regs] s.chip e ∧ e.dsp.fallback = true ∧ e.dsp.crcRun = 2 ∧
      e.dsp.crcFails = (s.chip.dsp.crcFails + 1) % 2 ^ 32 ∧ immBit e Reg.DSP_EVT 1 = true)

/-- Ageing and the emissive panel: AGE_RECOMPUTE, AGE_SAVE, AGE_SENSE, AGE_SENSE_READ, AGE_BASELINE, PANEL_POWER_ON,
PANEL_POWER_ON_STEP, PANEL_POWER_OFF, PANEL_POWER_OFF_STEP (R332 to R337). Rests on the model's choices of log 24, 25,
69. -/
def Obligations.PanelCommands : Prop :=
  (∀ (s : State), dspRuns s.chip = true → s.chip.age.active ≠ 0 → Answers .ageRecompute s fun t => KeptBut [.age, .freeCount] s t ∧
    t.chip.age.target = ageTarget s.chip ∧
    t.chip.age.gains = (List.range (ageKeys s.chip)).map (fun k => (k, tileGain s.chip (ageTarget s.chip) k))) ∧
  (∀ (s : State), dspRuns s.chip = true → Answers .ageSave s fun t => KeptBut [.age, .host, .out, .regs] s t ∧
    t.chip.age = { s.chip.age with
      saved := some (s.chip.age.stress, s.chip.age.base, s.chip.age.baselined), savedOld := s.chip.age.saved } ∧
    immBit t.chip Reg.DSP_AGE_EVT 2 = true) ∧
  -- a measurement: its command, then its reading, out of range or taken as a baseline
  (∀ (s : State), dspRuns s.chip = true → s.chip.age.scanning = true → s.chip.dsp.pstate = .on →
    s.chip.dsp.inFrame = false → s.chip.age.sensing = none →
    s.chip.dsp.frameCnt % max 1 (dspCfg s.chip Reg.DSP_AGE_SENSE 7 0) = 0 →
    Answers .ageSense s fun t => KeptBut [.age, .out] s t ∧
      t.chip.age = { s.chip.age with sensing := some s.chip.age.prog } ∧
      ∃ cmd, t.chip.out = .dcs cmd :: s.chip.out ∧ cmd.length = 8 ∧
        cmd.head? = some (BitVec.ofNat 8 (dspCfg s.chip Reg.DSP_AGE_SCMD 7 0))) ∧
  (∀ (s : State) (k v : Nat), s.chip.age.sensing = some k → s.chip.age.prog + 1 < ageKeys s.chip →
    v * 100 < 5 * 65520 ∨ 65520 < v →
    Answers (.ageSenseRead v) s fun t => KeptBut [.age, .host, .out, .regs] s t ∧
      t.chip.age = { s.chip.age with
        errors := min 255 (s.chip.age.errors + 1), prog := s.chip.age.prog + 1, sensing := none } ∧
      immBit t.chip Reg.DSP_AGE_EVT 1 = true) ∧
  (∀ (s : State) (k v : Nat), s.chip.age.sensing = some k → s.chip.age.prog + 1 < ageKeys s.chip →
    5 * 65520 ≤ v * 100 → v ≤ 65520 → s.chip.age.baselineScan = true →
    Answers (.ageSenseRead v) s fun t => KeptBut [.age] s t ∧
      t.chip.age = { s.chip.age with
        base := tput s.chip.age.base k v, prog := s.chip.age.prog + 1, sensing := none }) ∧
  (∀ (s : State), windowClosed s.chip Reg.DSP_AGE_CTRL = false → regionReady s.chip .dsp = true →
    s.chip.age.baselineScan = false →
    Answers .ageBaseline s fun t => KeptBut [.age] s t ∧ t.chip.age = { s.chip.age with
      baselineScan := true, scanning := true, prog := 0, errors := 0, sensing := none }) ∧
  -- the steps of power-on
  (∀ (s : State), dspRuns s.chip = true → s.chip.dsp.pstate = .off → dsiDisabled s.chip = false →
    s.chip.dsp.offKept = false → s.chip.sup.mode ≠ .standby →
    Answers .panelPowerOn s fun t => KeptBut [.dsp] s t ∧ t.chip.dsp = { s.chip.dsp with
      pstate := .rails, step := 1, pnlDis := false, pnlEn := true, pnlRst := true }) ∧
  (∀ (s : State), dspRuns s.chip = true → s.chip.dsp.pstate = .rails → s.chip.dsp.step = 1 →
    Answers .panelPowerOnStep s fun t => KeptBut [.dsp] s t ∧ t.chip.dsp = { s.chip.dsp with step := 2 }) ∧
  (∀ (s : State), dspRuns s.chip = true → s.chip.dsp.pstate = .rails → s.chip.dsp.step = 2 →
    Answers .panelPowerOnStep s fun t => KeptBut [.dsp] s t ∧ t.chip.dsp = { s.chip.dsp with
      pstate := .init, step := 3, pnlRst := false }) ∧
  (∀ (s : State), dspRuns s.chip = true → s.chip.dsp.pstate = .init → s.chip.dsp.step = 3 →
    Answers .panelPowerOnStep s fun t => KeptBut [.dsp, .out] s t ∧ t.chip.dsp = { s.chip.dsp with step := 4 } ∧
      t.chip.out = ((initWrites 257 (initTable s.chip)).1.map Emit.dcs).reverse ++ s.chip.out) ∧
  (∀ (s : State), dspRuns s.chip = true → s.chip.dsp.pstate = .init → s.chip.dsp.step = 4 →
    Answers .panelPowerOnStep s fun t => KeptBut [.dsp, .host, .out, .regs, .tb] s t ∧
      t.chip.dsp = { s.chip.dsp with step := 5, framed := false } ∧ videoOn t.chip.dsp = true) ∧
  (∀ (s : State), dspRuns s.chip = true → s.chip.dsp.pstate = .init → s.chip.dsp.step = 5 →
    s.chip.dsp.framed = true →
    Answers .panelPowerOnStep s fun t => KeptBut [.dsp, .host, .out, .regs] s t ∧
      t.chip.dsp = { s.chip.dsp with pstate := .on, step := 6 } ∧ .dcs [0x29#8] ∈ t.chip.out ∧
      immBit t.chip Reg.DSP_EVT 3 = true) ∧
  -- the steps of power-off
  (∀ (s : State), panelOffDue s.chip = true → s.chip.dsp.inFrame = false →
    s.chip.dsp.pstate = .on ∨ s.chip.dsp.pstate = .init → Answers .panelPowerOff s fun t => KeptBut [.dsp, .out] s t ∧
    t.chip.dsp = { s.chip.dsp with pstate := .offseq, step := 1 } ∧ t.chip.out = .dcs [0x28#8] :: s.chip.out) ∧
  (∀ (s : State), panelOffDue s.chip = true → s.chip.dsp.inFrame = false → s.chip.dsp.pstate = .rails →
    Answers .panelPowerOff s fun t => KeptBut [.dsp] s t ∧
      t.chip.dsp = { s.chip.dsp with pstate := .offseq, step := 2 }) ∧
  (∀ (s : State), s.chip.dsp.pstate = .offseq → s.chip.dsp.step = 1 →
    Answers .panelPowerOffStep s fun t => KeptBut [.dsp, .out] s t ∧ t.chip.dsp = { s.chip.dsp with step := 2 } ∧
      t.chip.out = .dcs [0x10#8] :: s.chip.out) ∧
  (∀ (s : State), s.chip.dsp.pstate = .offseq → s.chip.dsp.step = 2 →
    Answers .panelPowerOffStep s fun t => KeptBut [.age, .dsp, .host, .out, .regs, .tb] s t ∧
      t.chip.dsp = { s.chip.dsp with step := 3, pnlRst := true, inFrame := false, held := none } ∧
      t.chip.age = { s.chip.age with saved := some (s.chip.age.stress, s.chip.age.base, s.chip.age.baselined),
                                     savedOld := s.chip.age.saved } ∧
      videoOn t.chip.dsp = false) ∧
  (∀ (s : State), s.chip.dsp.pstate = .offseq → s.chip.dsp.step = 3 →
    Answers .panelPowerOffStep s fun t => KeptBut [.dsp, .host, .out, .regs] s t ∧
      t.chip.dsp = { s.chip.dsp with pstate := .discharge, step := 4, pnlEn := false, pnlDis := true } ∧
      immBit t.chip Reg.DSP_EVT 5 = true) ∧
  (∀ (s : State), s.chip.dsp.pstate = .discharge → s.chip.dsp.step = 4 →
    Answers .panelPowerOffStep s fun t => KeptBut [.dsp, .host, .out, .regs] s t ∧
      t.chip.dsp = { s.chip.dsp with pstate := .off, step := 5, pnlDis := false } ∧
      immBit t.chip Reg.DSP_EVT 4 = true)

/-- The bistable legal panel: BP_UPDATE_START, BP_BUSY_FALL, BP_FAULT_RETRY (R232, R339 to R342, R345). Rests on the
model's choices of log 25. -/
def Obligations.BistableCommands : Prop :=
  -- an update shows the content that the legal core committed; a full one every FULL_EVERY updates and at the first
  (∀ (s : State) (v : Int), bpMayUpdate s.chip = true → s.chip.bp.state = .idle →
    Answers (.bpUpdateStart v false) s fun t => KeptBut [.bp, .out] s t ∧ t.chip.bp.state = .updating ∧
      t.chip.bp.busy = true ∧ t.chip.bp.phase = 0 ∧ t.chip.bp.updates = (s.chip.bp.updates + 1) % 2 ^ 16 ∧ t.chip.bp.waiting = false ∧
      t.chip.bp.rendering = s.chip.leg.display ∧ t.chip.bp.temp = v ∧ t.chip.bp.shown = s.chip.bp.shown ∧
      t.chip.bp.sinceFull = (if s.chip.bp.first || decide (dspCfg s.chip Reg.DSP_BP_CFG 15 8 ≤ s.chip.bp.sinceFull + 1)
        then 0 else s.chip.bp.sinceFull + 1)) ∧
  (∀ (s : State) (v : Int) (f : Bool), bpMayUpdate s.chip = false ∨ s.chip.bp.state ≠ .idle →
    exec (.bpUpdateStart v f) s = .next s) ∧
  -- a panel fault
  (∀ (s : State) (v : Int), bpMayUpdate s.chip = true → s.chip.bp.state = .idle →
    Reports (.bpUpdateStart v true) s 148 0 fun c e => ChipKeptBut [.bp, .host, .out, .regs] c e ∧
      e.bp = { c.bp with state := .fault, waiting := true } ∧ immBit e Reg.DSP_BP_EVT 2 = true) ∧
  -- the end of an update: the image read back is that of the content committed
  (∀ (s : State) (img : List Bool), s.chip.bp.state = .updating →
    crc32 (recovered s.chip img) = crc32 s.chip.bp.rendering →
    Answers (.bpBusyFall img false) s fun t => KeptBut [.bp, .flt, .host, .leg, .out, .regs] s t ∧
      t.chip.bp.state = .idle ∧ t.chip.bp.busy = false ∧ t.chip.bp.shown = img ∧ t.chip.bp.first = false ∧
      t.chip.bp.crc = crc32 (recovered s.chip img) ∧ .bpCmd 0x07 [] ∈ t.chip.out ∧ t.chip.bp.redrawn = true ∧ t.chip.leg = { s.chip.leg with dispFault := false } ∧
      immBit t.chip Reg.DSP_BP_EVT 0 = true) ∧
  (∀ (s : State) (img : List Bool) (f : Bool), s.chip.bp.state = .cleanup →
    Answers (.bpBusyFall img f) s fun t => KeptBut [.bp] s t ∧
      t.chip.bp = { s.chip.bp with state := .idle, busy := false, phasesLeft := 0 }) ∧
  -- one second after a panel fault the update is tried again
  (∀ (s : State) (v : Int), s.chip.bp.state = .fault → dspRuns s.chip = true → bpDisabled s.chip = false →
    s.chip.bp.disableDue = false → s.chip.dsp.offKept = false → s.chip.bp.waiting = true →
    s.chip.leg.running = true →
    Answers (.bpFaultRetry v false) s fun t => KeptBut [.bp, .flt, .out] s t ∧ t.chip.bp.state = .updating ∧
      t.chip.bp.rendering = s.chip.leg.display ∧ t.chip.bp.waiting = false)

/-- The endpoint and the ring pairs: PERST, PCIE_LINK_UP, PCIE_LINK_DOWN, WLOCK_SET, LOCKED_WRITE, RING_ENABLE,
RING_DISABLE, SQ_DOORBELL, CQ_DOORBELL, COAL_TIMER, MSIX_TABLE_WRITE (R347 to R352, R356, R358, R369). Rests on the
model's choices of log 5, 26. -/
def Obligations.HostInterfaceCommands : Prop :=
  -- PERST resets the HST block and nothing else
  (∀ (s : State), Answers (.perst true) s fun t => KeptBut [.host, .regs, .tb] s t ∧ t.chip.host.inflight = [] ∧
    t.chip.host.perst = true ∧ t.chip.host.wlock = false ∧ t.chip.host.linkUp = false ∧
    (∀ q, (ringOf t.chip q).state = .off) ∧ t.chip.tb.cycle = s.chip.tb.cycle ∧
    ∀ a, a / 0x10000 ≠ 0x404 → regGet t.chip a = regGet s.chip a) ∧
  (∀ (s : State), Answers (.perst false) s fun t => KeptBut [.host] s t ∧
    t.chip.host = { s.chip.host with perst := false }) ∧
  (∀ (s : State) (v w : Nat), ready s.chip .hst = true → s.chip.host.perst = false →
    Answers (.pcieLinkUp v w) s fun t => KeptBut [.host] s t ∧
      t.chip.host = { s.chip.host with linkUp := true, speed := v, width := w }) ∧
  (∀ (s : State), s.chip.host.linkUp = true → Answers .pcieLinkDown s fun t => KeptBut [.host, .out, .regs] s t ∧
    t.chip.host.linkUp = false ∧ t.chip.host.speed = 0 ∧ t.chip.host.width = 0 ∧
    t.chip.host.rings = s.chip.host.rings ∧ t.chip.host.inflight = s.chip.host.inflight ∧
    immBit t.chip Reg.HST_EVT 2 = true) ∧
  -- the write lock holds until the endpoint's reset, and a write it discards is only flagged
  (∀ (s : State), windowClosed s.chip Reg.HST_CTRL = false → ready s.chip .hst = true → Answers .wlockSet s fun t => KeptBut [.host] s t ∧
    t.chip.host = { s.chip.host with wlock := true }) ∧
  (∀ (s : State) (a : Nat) (w : Word), lockedOut s.chip a = true → noRegister a = false →
    Answers (.lockedWrite a w) s fun t => KeptBut [.host, .out, .regs] s t ∧ RegsKeptBut [Reg.HST_EVT] s.chip t.chip ∧
      immBit t.chip Reg.HST_EVT 4 = true) ∧
  -- a ring pair starts with its heads and tails at 0 and phase 1; with a base of 0 it is in ERROR
  (∀ (s : State) (q : Ring) (w : Word), windowClosed s.chip (Reg.HST_RING_CFG q.val) = false →
    ready s.chip .hst = true → (ringOf s.chip q.val).state = .off →
    bitOf w 0 = true → ringSizesOk w = true → ringBaseZero s.chip q.val = false →
    Answers (.ringEnable q w) s fun t => KeptBut [.host, .regs] s t ∧
      RegsKeptBut [Reg.HST_RING_CFG q.val] s.chip t.chip ∧
      regGet t.chip (Reg.HST_RING_CFG q.val) = w &&& ringCfgMask ∧
      ringOf t.chip q.val = ⟨.run, 0, 0, 0, 0, 0, true, 0⟩ ∧ ∀ p, p ≠ q.val → ringOf t.chip p = ringOf s.chip p) ∧
  (∀ (s : State) (q : Ring) (w : Word), windowClosed s.chip (Reg.HST_RING_CFG q.val) = false →
    ready s.chip .hst = true → (ringOf s.chip q.val).state = .off →
    bitOf w 0 = true → ringSizesOk w = true → ringBaseZero s.chip q.val = true →
    Answers (.ringEnable q w) s fun t => KeptBut [.host, .out, .regs, .tb] s t ∧
      (ringOf t.chip q.val).state = .error ∧ (ringOf t.chip q.val).err = 5 ∧ immBit t.chip Reg.HST_EVT 0 = true) ∧
  -- EN 0 drains a running ring pair: what has not started is answered DISABLED, and with nothing in flight it is OFF
  (∀ (s : State) (q : Ring) (w : Word), windowClosed s.chip (Reg.HST_RING_CFG q.val) = false →
    ready s.chip .hst = true → (ringOf s.chip q.val).state = .run →
    bitOf w 0 = false →
    Answers (.ringDisable q w) s fun t => KeptBut [.host, .out, .regs] s t ∧
      immBit t.chip (Reg.HST_RING_CFG q.val) 0 = false ∧
      (s.chip.host.inflight = [] → (ringOf t.chip q.val).state = .off) ∧
      ∃ e, (ringOf e q.val).state = .draining ∧ t.chip = settleDrain (flush e) q.val ∧
        e.host.inflight = s.chip.host.inflight.map (fun d =>
          if d.ring == q && !d.started && d.answer == none then
            { d with dup := false, answer := some (ansStatus .disabled) } else d)) ∧
  -- doorbells within the queue, and beyond it
  (∀ (s : State) (q : Ring) (v : BitVec 12), ready s.chip .hst = true → (ringOf s.chip q.val).state = .run →
    v.toNat < sqSize s.chip q.val →
    Answers (.sqDoorbell q v) s fun t => KeptBut [.host] s t ∧
      ringOf t.chip q.val = { ringOf s.chip q.val with sqTail := v.toNat } ∧
      ∀ p, p ≠ q.val → ringOf t.chip p = ringOf s.chip p) ∧
  (∀ (s : State) (q : Ring) (v : BitVec 12), ready s.chip .hst = true → (ringOf s.chip q.val).state = .run →
    sqSize s.chip q.val ≤ v.toNat →
    Answers (.sqDoorbell q v) s fun t => KeptBut [.host, .out, .regs, .tb] s t ∧
      (ringOf t.chip q.val).state = .error ∧ (ringOf t.chip q.val).err = 1 ∧ immBit t.chip Reg.HST_EVT 0 = true) ∧
  (∀ (s : State) (q : Ring) (v : BitVec 12), ready s.chip .hst = true → (ringOf s.chip q.val).state = .run →
    v.toNat < cqSize s.chip q.val →
    (v.toNat + cqSize s.chip q.val - (ringOf s.chip q.val).cqHead) % cqSize s.chip q.val ≤ cqUsed s.chip q.val →
    Answers (.cqDoorbell q v) s fun t => KeptBut [.host] s t ∧
      ringOf t.chip q.val = { ringOf s.chip q.val with cqHead := v.toNat } ∧
      ∀ p, p ≠ q.val → ringOf t.chip p = ringOf s.chip p) ∧
  -- COAL's time signals what is not yet signalled
  (∀ (s : State) (q : Ring), imm s.chip (Reg.HST_RING_COAL q.val) 23 8 ≠ 0 → 0 < (ringOf s.chip q.val).unsignalled →
    Answers (.coalTimer q) s fun t => KeptBut [.host, .out] s t ∧
      ringOf t.chip q.val = { ringOf s.chip q.val with unsignalled := 0 } ∧
      t.chip = sendMsix (setRing s.chip q.val { ringOf s.chip q.val with unsignalled := 0 })
        (imm s.chip (Reg.HST_RING_CFG q.val) 20 16)) ∧
  -- the MSI-X table; a pending message is sent once its entry and the function are unmasked
  (∀ (s : State) (v : Fin 32) (k : Fin 4) (w : Word), ready s.chip .hst = true →
    Answers (.msixTableWrite (.entry v k w)) s fun t => KeptBut [.host, .out] s t ∧
      t.chip.host.msix = tput s.chip.host.msix v.val (msixPut (msixEntry s.chip v.val) k.val w) ∧
      (s.chip.host.msixPending.getLsbD v.val = true → (msixEntry t.chip v.val).mask = false →
        s.chip.host.fnMask = false → t.chip.out = .msix v.val :: s.chip.out ∧
          t.chip.host.msixPending.getLsbD v.val = false)) ∧
  (∀ (s : State), ready s.chip .hst = true →
    Answers (.msixTableWrite (.functionMask true)) s fun t => KeptBut [.host] s t ∧
      t.chip.host = { s.chip.host with fnMask := true })

/-- DESCRIPTOR_FETCH: the next descriptor of a ring pair (R352, R353, R359, R362, R365, R366). Rests on the model's
choices of log 26. -/
def Obligations.DescriptorFetch : Prop :=
  -- a descriptor of 64 bytes that names a fresh tag and holds valid fields is in flight, not started and unanswered
  (∀ (s : State) (q : Ring) (bs : List Byte) (b : Block), bs.length = 64 → mayFetch s.chip q = true → ownTurn s.chip q = true →
    ready s.chip .svc = true → s.chip.sup.refLost = false → opBlock s.chip bs = some b → recovering s.chip = false →
    wordOf (descNum bs 4 7) ≠ 0 → sessionOp (descNum bs 0 1) = false →
    recorded s.chip q.val (wordOf (descNum bs 4 7)) (descNum bs 0 1) = none →
    tagKnown s.chip q.val (wordOf (descNum bs 4 7)) = false →
    tagFlying s.chip q (wordOf (descNum bs 4 7)) (descNum bs 0 1) = false → descFieldsOk bs = true →
    descBufferOk bs = true →
    Answers (.descriptorFetch q (.desc bs)) s fun t => KeptBut [.host, .out] s t ∧
      ∃ e, t.chip = flush e ∧ (ringOf e q.val).sqHead = ((ringOf s.chip q.val).sqHead + 1) % sqSize s.chip q.val ∧
        e.host.inflight = s.chip.host.inflight ++ [⟨q, (ringOf s.chip q.val).sqHead, wordOf (descNum bs 4 7),
          descNum bs 0 1, descByte bs 2, b, false, false, none⟩]) ∧
  -- a tag that is recorded under this opcode is answered again with REPLAY
  (∀ (s : State) (q : Ring) (bs : List Byte) (b : Block) (a : Answer), bs.length = 64 → mayFetch s.chip q = true → ownTurn s.chip q = true →
    ready s.chip .svc = true → s.chip.sup.refLost = false → opBlock s.chip bs = some b → recovering s.chip = false →
    wordOf (descNum bs 4 7) ≠ 0 → sessionOp (descNum bs 0 1) = false →
    recorded s.chip q.val (wordOf (descNum bs 4 7)) (descNum bs 0 1) = some a →
    Answers (.descriptorFetch q (.desc bs)) s fun t => KeptBut [.host, .out] s t ∧
      ∃ e, t.chip = flush e ∧ e.host.inflight = s.chip.host.inflight ++ [⟨q, (ringOf s.chip q.val).sqHead,
        wordOf (descNum bs 4 7), descNum bs 0 1, descByte bs 2, b, false, false, some (ansReplay a)⟩]) ∧
  -- an unknown opcode is answered REJECTED, and while the service firmware is not ready everything is NOT_READY
  (∀ (s : State) (q : Ring) (bs : List Byte), bs.length = 64 → mayFetch s.chip q = true → ownTurn s.chip q = true →
    ready s.chip .svc = true → s.chip.sup.refLost = false → opBlock s.chip bs = none →
    Answers (.descriptorFetch q (.desc bs)) s fun t => KeptBut [.host, .out] s t ∧
      ∃ e, t.chip = flush e ∧ e.host.inflight = s.chip.host.inflight ++ [⟨q, (ringOf s.chip q.val).sqHead,
        wordOf (descNum bs 4 7), descNum bs 0 1, descByte bs 2, .ringEngine, false, false,
        some (ansReject .opcode)⟩]) ∧
  (∀ (s : State) (q : Ring) (bs : List Byte), bs.length = 64 → mayFetch s.chip q = true → ownTurn s.chip q = true →
    ready s.chip .svc = false →
    Answers (.descriptorFetch q (.desc bs)) s fun t => KeptBut [.host, .out] s t ∧
      ∃ e, t.chip = flush e ∧ e.host.inflight = s.chip.host.inflight ++ [⟨q, (ringOf s.chip q.val).sqHead,
        wordOf (descNum bs 4 7), descNum bs 0 1, descByte bs 2, .ringEngine, false, false,
        some (ansStatus .notReady)⟩]) ∧
  -- nothing is fetched while the ring pair may not fetch; an error of the DMA puts it in ERROR
  (∀ (s : State) (q : Ring) (bs : List Byte), bs.length = 64 → mayFetch s.chip q = false ∨ ownTurn s.chip q = false →
    exec (.descriptorFetch q (.desc bs)) s = .next s) ∧
  (∀ (s : State) (q : Ring), mayFetch s.chip q = true → ownTurn s.chip q = true →
    Answers (.descriptorFetch q .fetchError) s fun t => KeptBut [.host, .out, .regs, .tb] s t ∧
      (ringOf t.chip q.val).state = .error ∧ (ringOf t.chip q.val).err = 3 ∧ immBit t.chip Reg.HST_EVT 1 = true ∧
      ∀ d ∈ t.chip.host.inflight, d.ring ≠ q) ∧
  (∀ (s : State) (q : Ring), (ringOf s.chip q.val).state = .run ∨ (ringOf s.chip q.val).state = .draining →
    Answers (.descriptorFetch q .writeError) s fun t => KeptBut [.host, .out, .regs, .tb] s t ∧
      (ringOf t.chip q.val).state = .error ∧ (ringOf t.chip q.val).err = 4 ∧ immBit t.chip Reg.HST_EVT 1 = true ∧
      ∀ d ∈ t.chip.host.inflight, d.ring ≠ q)

/-- Keys and signatures: DERIVE_REQUEST, REMASK, ENTROPY_OUTPUT, KEYGEN, KEYGEN_DONE, XMSS_SIGN, XMSS_VERIFY, ATTEST (R402,
R405, R406, R412, R414 to R420, R362). Rests on the model's choices of log 4, 18. -/
def Obligations.TrustKeyCommands : Prop :=
  -- a derivation is counted; while debug is open it is refused, but for a SEALED one in Factory
  (∀ (s : State) (k : DeriveClass) (x : Bool) (n : Nat), deriveRefused s.chip x = false →
    Answers (.deriveRequest k x n) s fun t => KeptBut [.out, .tru] s t ∧
      t.chip.tru = { s.chip.tru with accesses := s.chip.tru.accesses + n } ∧
      t.chip.out = .derived true :: s.chip.out) ∧
  (∀ (s : State) (k : DeriveClass) (x : Bool) (n : Nat), s.chip.tru.debugOpen = true →
    x = false ∨ s.chip.sup.lcs ≠ .factory →
    Answers (.deriveRequest k x n) s fun t => KeptBut [.host, .out, .regs] s t ∧
      RegsKeptBut [Reg.TRU_EVT] s.chip t.chip ∧ immBit t.chip Reg.TRU_EVT 1 = true ∧ t.chip.out.head? = some (.derived false)) ∧
  -- every 2^16 accesses the register is masked anew
  (∀ (s : State), 65536 ≤ s.chip.tru.accesses → Answers .remask s fun t => KeptBut [.tru] s t ∧
    t.chip.tru = { s.chip.tru with
      accesses := s.chip.tru.accesses - 65536, remasks := (s.chip.tru.remasks + 1) % 65536 }) ∧
  (∀ (s : State), s.chip.tru.accesses < 65536 → exec .remask s = .next s) ∧
  -- the entropy source's health tests
  (∀ (s : State) (st : Bool), Answers (.entropyOutput true true st) s fun t => KeptBut [.flt, .tru] s t ∧
    t.chip.tru = { s.chip.tru with healthOk := true, entStarts := if st then 0 else s.chip.tru.entStarts }) ∧
  (∀ (s : State) (r a st : Bool), r = false ∨ a = false →
    Reports (.entropyOutput r a st) s 123 0 fun c e => ChipKeptBut [.host, .out, .regs, .tru] c e ∧
      e.tru = { c.tru with
        healthOk := false, rctFail := c.tru.rctFail || !r, aptFail := c.tru.aptFail || !a,
        entFails := min 65535 (c.tru.entFails + 1), entStarts := if st then c.tru.entStarts + 1 else c.tru.entStarts } ∧
      immBit e Reg.TRU_EVT 0 = true) ∧
  -- the device key is made once, in Factory, with every stage present
  (∀ (s : State), s.chip.sup.lcs = .factory → s.chip.tru.keyRecord = none → stageAbsent s.chip.tru = false →
    ready s.chip .tru = true → s.chip.tru.debugOpen = false →
    Answers .keygen s fun t => KeptBut [.tru] s t ∧
      t.chip.tru = { s.chip.tru with xmt := .keygen, keygenProg := 0 }) ∧
  (∀ (s : State), s.chip.sup.lcs ≠ .factory ∨ s.chip.tru.keyRecord ≠ none → exec .keygen s = .next s) ∧
  (∀ (s : State), s.chip.tru.xmt = .keygen → Answers .keygenDone s fun t => KeptBut [.freeCount, .tru] s t ∧
    t.chip.tru.xmt = .ready ∧ t.chip.tru.keyRecord = some (makeKeyRecord s.fuses.root s.chip) ∧
    nextIndex t.chip = 0) ∧
  -- an index is reserved before it is used and never given twice
  (∀ (s : State) (j : SignJob) (js : List SignJob) (isA : Bool) (k : XmtCopy), s.chip.tru.signQueue = j :: js →
    s.chip.tru.xmt = .ready → s.chip.tru.signNow = none → ready s.chip .tru = true → memberLocked s.chip 3 = false →
    currentCopy s.chip.tru = some (isA, k) → k.next + 1 < 2 ^ 40 → k.rseq + 1 < 2 ^ 64 →
    s.chip.sup.mode ≠ .holdUp ∨ 12000 ≤ s.chip.pwd.budget →
    Answers (.xmssSign true) s fun t => KeptBut [.host, .out, .regs, .tru] s t ∧ t.chip.tru.signQueue = js ∧
      t.chip.tru.signNow = some (j, k.next) ∧ t.chip.tru.xmt = .signing ∧ nextIndex s.chip = k.next ∧
      nextIndex t.chip = k.next + 1 ∧
      (2 ^ 40 - k.next = 2 ^ 20 → immBit t.chip Reg.TRU_EVT 3 = true)) ∧
  -- a reservation that does not read back as written
  (∀ (s : State) (j : SignJob) (js : List SignJob) (isA : Bool) (k : XmtCopy), s.chip.tru.signQueue = j :: js →
    s.chip.tru.xmt = .ready → s.chip.tru.signNow = none → ready s.chip .tru = true → memberLocked s.chip 3 = false →
    currentCopy s.chip.tru = some (isA, k) → k.next + 1 < 2 ^ 40 → k.rseq + 1 < 2 ^ 64 →
    s.chip.sup.mode ≠ .holdUp ∨ 12000 ≤ s.chip.pwd.budget →
    Answers (.xmssSign false) s fun t => StoresKept s t ∧ ∃ e, t.chip = refuseSign (reportSrc e 122 0) j ∧
      ChipKeptBut [.host, .out, .regs, .tru] s.chip e ∧ e.tru.signNow = none ∧
      immBit e Reg.TRU_EVT 2 = true) ∧
  -- a certificate is kept only if it verifies and is of this unit and its device key
  (∀ (s : State) (bs : List Byte), certFits s.chip bs = true →
    Answers (.xmssVerify true (.certificate bs)) s fun t => KeptBut [.tru] s t ∧
      t.chip.tru = { s.chip.tru with cert := some bs }) ∧
  (∀ (s : State) (ok : Bool) (bs : List Byte), ok = false ∨ certFits s.chip bs = false →
    exec (.xmssVerify ok (.certificate bs)) s = .next s) ∧
  -- an attestation waits behind the legal entries that need a signature
  (∀ (s : State) (req : Requester) (n : BitVec 256), performs s.chip req 0x0901 .crypto = true →
    s.chip.tru.xmt = .ready → Answers (.attest req n true) s fun t => KeptBut [.host, .tru] s t ∧
      ∃ legal : List SignJob, (∀ j ∈ legal, ∃ k, j = .legal k) ∧
        t.chip.tru = { s.chip.tru with signQueue := s.chip.tru.signQueue ++ legal ++ [.attest req n] }) ∧
  (∀ (s : State) (req : Requester) (n : BitVec 256), performs s.chip req 0x0901 .crypto = true →
    Replies (.attest req n false) s req 0x0901 (ansReject .buffer) fun c e => e = c)

/-- Debug, TLS and site keys: DBG_CHAL, DBG_RESP, TLS_HANDSHAKE_MESSAGE, CSR_SIGN, SITE_KEY_DELIVERY, SITE_KEY_ACTIVATE (R404,
R412, R423 to R425, R429, R430). Rests on the model's choices of log 4, 18. -/
def Obligations.TrustSessionCommands : Prop :=
  -- a challenge in Factory gives a fresh nonce, elsewhere zeros
  (∀ (s : State), s.chip.sup.lcs = .factory → s.chip.tru.locked = false →
    Answers .dbgChal s fun t => KeptBut [.freeCount, .out, .tru] s t ∧
      t.chip.tru = { s.chip.tru with challenge := drawn s.chip } ∧ t.chip.freeCount = s.chip.freeCount + 1 ∧
      t.chip.out = .jtag (id16 s.chip.tru.unit ++ id32 (drawn s.chip)) :: s.chip.out) ∧
  (∀ (s : State), s.chip.sup.lcs ≠ .factory → Answers .dbgChal s fun t => KeptBut [.out] s t ∧
    t.chip.out = .jtag (List.replicate 48 0#8) :: s.chip.out) ∧
  -- a response that fits opens debug: sessions, site keys and the signing of this start are gone
  (∀ (s : State) (r : List Byte), s.chip.sup.lcs = .factory → s.chip.tru.locked = false → dbgFits s.chip r = true →
    Answers (.dbgResp r true) s fun t => KeptBut [.host, .leg, .out, .regs, .tru] s t ∧
      t.chip.tru.debugOpen = true ∧ t.chip.tru.scope = beNat ((r.drop 5).take 1) ∧ t.chip.tru.tls = [] ∧
      t.chip.tru.siteLoaded = false ∧ t.chip.tru.signQueue = [] ∧ t.chip.tru.signNow = none ∧
      t.chip.tru.xmt = .disabled ∧ immBit t.chip Reg.TRU_EVT 4 = true) ∧
  -- one that does not is counted, and the third locks the port
  (∀ (s : State) (r : List Byte) (g : Bool), s.chip.sup.lcs = .factory → s.chip.tru.locked = false →
    g = false ∨ dbgFits s.chip r = false →
    Answers (.dbgResp r g) s fun t => KeptBut [.tru] s t ∧
      t.chip.tru = { s.chip.tru with fails := s.chip.tru.fails + 1, locked := decide (2 ≤ s.chip.tru.fails) }) ∧
  (∀ (s : State) (r : List Byte) (g : Bool), s.chip.sup.lcs ≠ .factory ∨ s.chip.tru.locked = true →
    exec (.dbgResp r g) s = .next s) ∧
  -- TLS sessions: at most 15
  (∀ (s : State) (i p : Nat), s.chip.tru.debugOpen = false → ready s.chip .tru = true →
    (s.chip.tru.tls.filter (fun x => x.id != i)).length < 15 →
    Answers (.tlsHandshakeMessage i p .hello) s fun t => KeptBut [.out, .tru] s t ∧
      t.chip.tru = { s.chip.tru with tls := s.chip.tru.tls.filter (fun x => x.id != i) ++
        [⟨i, false, p, liveGet s.chip Reg.TRU_TLS_POLICY⟩] } ∧ t.chip.out = .tls i true (tlsOffer s.chip p) :: s.chip.out) ∧
  (∀ (s : State) (i p : Nat), s.chip.tru.debugOpen = false →
    15 ≤ (s.chip.tru.tls.filter (fun x => x.id != i)).length →
    Answers (.tlsHandshakeMessage i p .hello) s fun t => KeptBut [.out] s t ∧
      t.chip.out = .tls i false 0 :: s.chip.out) ∧
  (∀ (s : State) (i p : Nat), Answers (.tlsHandshakeMessage i p (.finished true)) s fun t =>
    KeptBut [.out, .tru] s t ∧ t.chip.out = .tls i true 0 :: s.chip.out ∧
    t.chip.tru.tls = s.chip.tru.tls.map (fun x => if x.id = i then { x with established := true } else x)) ∧
  (∀ (s : State) (i p : Nat), Answers (.tlsHandshakeMessage i p .close) s fun t => KeptBut [.tru] s t ∧
    t.chip.tru = { s.chip.tru with tls := s.chip.tru.tls.filter (fun x => x.id != i) }) ∧
  -- a request for a certificate is signed; a renewal takes the next generation
  (∀ (s : State) (req : Requester) (p g : Nat) (n : Bool) (r : List Byte), ready s.chip .tru = true →
    s.chip.tru.debugOpen = false → g = tget 0 s.chip.tru.generation p + (if n then 1 else 0) →
    Answers (.csrSign req p n r) s fun t => StoresKept s t ∧ ∃ e, t.chip = complete e req ansOk ∧
      ChipKeptBut [.freeCount, .out, .tru] s.chip e ∧
      e.out = .csr p g (Config.ecdsaSign (onP384 s.chip p) (tlsScalar s.fuses.root s.chip p g) r (drawn s.chip))
        :: s.chip.out ∧
      (n = true → tget 0 e.tru.generation p = tget 0 s.chip.tru.generation p + 1)) ∧
  -- site keys
  (∀ (s : State) (k : Word) (a : Nat) (key : BitVec 256), ready s.chip .tru = true →
    s.chip.tru.debugOpen = false →
    Answers (.siteKeyDelivery k a key true) s fun t => KeptBut [.tru] s t ∧ t.chip.tru.siteLoaded = true ∧
      t.chip.tru.siteKeys.length ≤ 2 ∧
      (t.chip.tru.siteKeys.getLast?.map (·.keyId)) = some k ∧
      (t.chip.tru.siteKeys.getLast?.map (·.activation)) = some a) ∧
  (∀ (s : State) (k : Word) (a : Nat) (key : BitVec 256), exec (.siteKeyDelivery k a key false) s = .next s) ∧
  (∀ (s : State) (k : Word) (since : Nat), s.chip.tru.siteLoaded = true →
    currentKey (runTo s.chip since) = some k → s.chip.tru.sendKey ≠ some k →
    Answers (.siteKeyActivate k since) s fun t => KeptBut [.host, .out, .regs, .tb, .tru] s t ∧
      t.chip.tb = (runTo s.chip since).tb ∧ t.chip.tru = { s.chip.tru with
        sendKey := some k, prevUntil := t.chip.tb.aon + 10 * 2 ^ 32 })

/-- The lifecycle: LIFECYCLE_TOKEN, BLANK_TO_FACTORY (R65, R66, R427, R428). Rests on the model's choices of log 2,
18. -/
def Obligations.LifecycleCommands : Prop :=
  -- an authentic token that fits: the group is blown, and the warm reset with the wipe follows
  (∀ (s : State) (k : List Byte), ready s.chip .tru = true → tokenFits s.chip k = true →
    lcPair (beNat ((k.drop 5).take 1)) (beNat ((k.drop 6).take 1)) = true →
    lcRefusal s.fuses s.chip (beNat ((k.drop 6).take 1)) = none →
    Answers (.lifecycleToken k true) s fun t => t.pending = s.pending ∧ t.dram = s.dram ∧
      t.fuses = blowGroup (blowLegalDig s.fuses s.chip (beNat ((k.drop 6).take 1))) (beNat ((k.drop 6).take 1)) ∧
      groupBlown t.fuses.lcs (beNat ((k.drop 6).take 1) - 1) = true ∧
      ModuleReset s.chip t.chip .lifecycle false ∧ t.chip.wipe.due = true) ∧
  -- a token that does not fit, or does not verify, is REJECTED; the other refusals
  (∀ (s : State) (k : List Byte) (g : Bool), ready s.chip .tru = true → g = false ∨ tokenFits s.chip k = false →
    Answers (.lifecycleToken k g) s fun t => KeptBut [.freeCount, .host, .out, .regs, .tru] s t ∧
      t.chip.tru.lcResult = 0x24 ∧ immBit t.chip Reg.TRU_EVT 6 = true) ∧
  (∀ (s : State) (k : List Byte) (st : Status), ready s.chip .tru = true → tokenFits s.chip k = true →
    lcPair (beNat ((k.drop 5).take 1)) (beNat ((k.drop 6).take 1)) = true →
    lcRefusal s.fuses s.chip (beNat ((k.drop 6).take 1)) = some st →
    Answers (.lifecycleToken k true) s fun t => KeptBut [.freeCount, .host, .out, .regs, .tru] s t ∧
      t.chip.tru.lcResult = st.code ∧ immBit t.chip Reg.TRU_EVT 6 = true) ∧
  (∀ (s : State), anyEnergised s.chip = true → ∀ b, lcRefusal s.fuses s.chip b = some .busyEnergised) ∧
  (∀ (s : State) (k : List Byte) (g : Bool), ready s.chip .tru = false → exec (.lifecycleToken k g) s = .next s) ∧
  -- Blank to Factory programs the unit's fields and needs no token; in every other state it does nothing
  (∀ (s : State) (u : BitVec 128) (a b p d : BitVec 256), s.fuses.state = .blank →
    Answers (.blankToFactory u a b p d) s fun t => t.pending = s.pending ∧ t.dram = s.dram ∧
      t.fuses.unit = u ∧ t.fuses.img0 = some a ∧ t.fuses.img1 = some b ∧ t.fuses.prov = some p ∧
      t.fuses.dbg = some d ∧ t.fuses.rootSet = true ∧ t.fuses.root = drawn s.chip ∧ t.fuses.state = .factory ∧
      ModuleReset s.chip t.chip .lifecycle false ∧ t.chip.wipe.due = true) ∧
  (∀ (s : State) (u : BitVec 128) (a b p d : BitVec 256), s.fuses.state ≠ .blank →
    exec (.blankToFactory u a b p d) s = .next s)

/-- The update session: UPD_OPEN, UPD_CHUNK, UPD_VERIFY, UPD_VERIFY_DONE, UPD_QUERY, UPD_ABORT, UPD_IDLE_TIMEOUT (R437 to R442,
R455). Rests on the model's choices of log 18, 30. -/
def Obligations.UpdateSessionCommands : Prop :=
  (∀ (s : State) (req : Requester), performs s.chip req 0x0707 .update = true →
    Replies (.updQuery req) s req 0x0707 (queryAnswer s.chip) fun c e => e = c) ∧
  -- a manifest that passes every check opens the session; the first check that fails refuses it with its cause
  (∀ (s : State) (req : Requester) (src : UpdSource) (bs : List Byte) (g : Bool),
    performs s.chip req 0x0701 .update = true → s.chip.upd.source = none → s.chip.upd.manifest = none →
    manifestCause s.chip s.fuses (readManifest bs) bs.length g = none →
    Replies (.updOpen req src (some bs) g) s req 0x0701
      { ansOk with aux32 := (readManifest bs).total, result := leBytes 8 (readManifest bs).id } fun c e =>
        ChipKeptBut [.host, .out, .regs, .upd] c e ∧ immBit e Reg.UPD_EVT 0 = true ∧
        e.upd = { c.upd with
          state := .downloading, source := some (sourceOf req src), manifest := some (readManifest bs), chunks := [],
          journal := .none, starts := 0, savedS := 0 }) ∧
  (∀ (s : State) (req : Requester) (src : UpdSource) (bs : List Byte) (g : Bool) (k : Nat),
    performs s.chip req 0x0701 .update = true → s.chip.upd.source = none → s.chip.upd.manifest = none →
    manifestCause s.chip s.fuses (readManifest bs) bs.length g = some k →
    Replies (.updOpen req src (some bs) g) s req 0x0701 { ansReject (causeDetail k) with aux := k } fun c e =>
      ChipKeptBut [.upd] c e ∧ e.upd = { c.upd with cause := k }) ∧
  -- an operation of another source than the owner is turned away
  (∀ (s : State) (req : Requester) (src o : UpdSource) (b : Option (List Byte)) (g : Bool),
    performs s.chip req 0x0701 .update = true → s.chip.upd.source = some o → o ≠ sourceOf req src →
    Replies (.updOpen req src b g) s req 0x0701 (ansStatus .busyOther) fun c e =>
      ChipKeptBut [.host, .out, .regs] c e ∧ RegsKeptBut [Reg.UPD_EVT] c e ∧ immBit e Reg.UPD_EVT 7 = true) ∧
  -- a chunk is stored once
  (∀ (s : State) (req : Requester) (src : UpdSource) (n : Nat) (bs : List Byte) (m : Manifest),
    performs s.chip req 0x0702 .update = true → s.chip.upd.source = some (sourceOf req src) →
    s.chip.upd.state = .downloading → s.chip.upd.manifest = some m → n < m.total → bs.length = m.chunkLen n →
    tfind s.chip.upd.chunks n = none →
    Replies (.updChunk req src n (some bs) true) s req 0x0702 ansOk fun c e => ChipKeptBut [.upd] c e ∧
      e.upd = { c.upd with chunks := tput c.upd.chunks n bs }) ∧
  (∀ (s : State) (req : Requester) (src : UpdSource) (n : Nat) (bs : List Byte) (m : Manifest) (r : Bool),
    performs s.chip req 0x0702 .update = true → s.chip.upd.source = some (sourceOf req src) →
    s.chip.upd.state = .downloading → s.chip.upd.manifest = some m → n < m.total → bs.length = m.chunkLen n →
    (tfind s.chip.upd.chunks n).isSome = true →
    Replies (.updChunk req src n (some bs) r) s req 0x0702 (ansReplay ansOk) fun c e => e = c) ∧
  -- verification needs every chunk, and is answered once every image has the digest of its entry
  (∀ (s : State) (req : Requester) (src : UpdSource) (m : Manifest), performs s.chip req 0x0703 .update = true →
    s.chip.upd.source = some (sourceOf req src) → s.chip.upd.state = .downloading → s.chip.upd.manifest = some m →
    (∀ n, n < m.total → (tfind s.chip.upd.chunks n).isSome = true) →
    Answers (.updVerify req src) s fun t => KeptBut [.host, .upd] s t ∧
      t.chip.upd = { s.chip.upd with state := .verifying, waiting := [(req, false)] }) ∧
  (∀ (s : State) (req : Requester) (src : UpdSource) (m : Manifest) (n : Nat), performs s.chip req 0x0703 .update = true →
    s.chip.upd.source = some (sourceOf req src) → s.chip.upd.state = .downloading → s.chip.upd.manifest = some m →
    n < m.total → tfind s.chip.upd.chunks n = none →
    Replies (.updVerify req src) s req 0x0703 { ansReject .rule with aux := 12 } fun c e =>
      ChipKeptBut [.upd] c e ∧ e.upd = { c.upd with cause := 12 }) ∧
  (∀ (s : State) (m : Manifest) (req : Requester), s.chip.upd.state = .verifying → s.chip.upd.manifest = some m →
    s.chip.upd.waiting = [(req, false)] →
    (∀ x ∈ m.entries, imageOk x (sliceOf (payload s.chip m) x.offset x.length) = true) →
    Answers .updVerifyDone s fun t => StoresKept s t ∧ ∃ e, t.chip = complete e req ansOk ∧
      ChipKeptBut [.host, .out, .regs, .upd] s.chip e ∧ e.upd.state = .verified ∧ e.upd.waiting = [] ∧
      immBit e Reg.UPD_EVT 1 = true) ∧
  (∀ (s : State) (m : Manifest) (req : Requester) (x : PartEntry), s.chip.upd.state = .verifying →
    s.chip.upd.manifest = some m → s.chip.upd.waiting = [(req, false)] → x ∈ m.entries →
    imageOk x (sliceOf (payload s.chip m) x.offset x.length) = false →
    Answers .updVerifyDone s fun t => StoresKept s t ∧ ∃ e,
      t.chip = complete e req { ansReject .verify with aux := 13 } ∧
      ChipKeptBut [.host, .out, .regs, .upd] s.chip e ∧ e.upd.state = .downloading ∧ e.upd.cause = 13 ∧
      e.upd.banks = s.chip.upd.banks ∧ immBit e Reg.UPD_EVT 2 = true) ∧
  -- the session is given up
  (∀ (s : State) (req : Requester) (src : UpdSource), performs s.chip req 0x0706 .update = true →
    s.chip.upd.source = some (sourceOf req src) →
    (s.chip.upd.state = .downloading ∨ s.chip.upd.state = .verified) →
    Replies (.updAbort req src) s req 0x0706 ansOk fun c e => ChipKeptBut [.host, .out, .regs, .upd] c e ∧
      e.upd.state = .idle ∧ e.upd.source = none ∧ e.upd.manifest = none ∧ e.upd.chunks = [] ∧
      e.upd.banks = c.upd.banks ∧ immBit e Reg.UPD_EVT 6 = true) ∧
  (∀ (s : State), (s.chip.upd.state = .downloading ∨ s.chip.upd.state = .verified) →
    Answers .updIdleTimeout s fun t => KeptBut [.host, .out, .regs, .upd] s t ∧ t.chip.upd.state = .idle ∧
      t.chip.upd.manifest = none ∧ t.chip.upd.chunks = [] ∧ immBit t.chip Reg.UPD_EVT 6 = true)

/-- Activation, confirmation and rollback: UPD_ACTIVATE, ACTIVATION_PLACED, PRIV_QUIESCE, UPD_CONFIRM, CONFIRM_TIMEOUT,
CONFIRM_TIMER_SAVE, ROLLBACK_RESTART (R439, R443 to R449). Rests on the model's choices of log 15, 30, 31. -/
def Obligations.UpdateActivationCommands : Prop :=
  -- an accepted activation waits for the next angle 0; a privileged one is refused while an outlet is energised
  (∀ (s : State) (req : Requester) (src : UpdSource) (m : Manifest), performs s.chip req 0x0704 .update = true →
    s.chip.upd.source = some (sourceOf req src) → s.chip.upd.state = .verified → s.chip.upd.manifest = some m →
    pauseMode s.chip.sup.mode = true → (m.priv = false ∨ anyEnergised s.chip = false) →
    Answers (.updActivate req src) s fun t => KeptBut [.host, .upd] s t ∧
      t.chip.upd = { s.chip.upd with state := .activating, activateBy := some req, pauseDue := true }) ∧
  (∀ (s : State) (req : Requester) (src : UpdSource) (m : Manifest), performs s.chip req 0x0704 .update = true →
    s.chip.upd.source = some (sourceOf req src) → s.chip.upd.state = .verified → s.chip.upd.manifest = some m →
    pauseMode s.chip.sup.mode = true → m.priv = true → anyEnergised s.chip = true →
    Replies (.updActivate req src) s req 0x0704 (ansStatus .busyEnergised) fun c e => e = c) ∧
  -- every part is placed with its digest: PENDING; a part that is not takes the session back to DOWNLOADING
  (∀ (s : State) (m : Manifest), s.chip.upd.manifest = some m → s.chip.sup.mode = .activationPause →
    placedByRestart s.chip m = false → s.chip.upd.state = .activating → badImages s.chip m = [] →
    Answers .activationPlaced s fun t => StoresKept s t ∧ ∃ e, t.chip = takeWaiting (outletUp e) ∧ e.upd.state = .pending ∧
      e.upd.journal = .placed ∧ e.upd.starts = 0 ∧ e.upd.savedS = 0 ∧
      e.upd.activateBy = none ∧ e.upd.banks = s.chip.upd.banks) ∧
  (∀ (s : State) (m : Manifest), s.chip.upd.manifest = some m → s.chip.sup.mode = .activationPause →
    placedByRestart s.chip m = false → s.chip.upd.state = .activating → badImages s.chip m ≠ [] →
    Answers .activationPlaced s fun t => StoresKept s t ∧ ∃ e, t.chip = takeWaiting (outletUp e) ∧ e.upd.state = .downloading ∧
      e.upd.journal = .none ∧ e.upd.cause = 13 ∧ e.upd.activateBy = none) ∧
  -- a privileged activation is placed through a warm reset
  (∀ (s : State) (m : Manifest), s.chip.upd.manifest = some m → s.chip.sup.mode = .activationPause →
    s.chip.upd.state = .activating → placedByRestart s.chip m = true →
    Answers .privQuiesce s fun t => StoresKept s t ∧ ModuleReset s.chip t.chip .update false) ∧
  -- the confirmation: the parts run, the counters are blown and the session ends
  (∀ (s : State) (req : Requester) (src : UpdSource) (m : Manifest), performs s.chip req 0x0705 .update = true →
    s.chip.upd.source = some (sourceOf req src) → s.chip.upd.state = .pending → s.chip.upd.manifest = some m →
    partsReady s.chip m = true → s.chip.sup.mode ≠ .activationPause →
    Answers (.updConfirm req src) s fun t => t.pending = s.pending ∧ t.dram = s.dram ∧
      t.fuses = blowRollback s.fuses m ∧ ∃ e, t.chip = complete e req ansOk ∧
        ChipKeptBut [.host, .out, .regs, .upd] s.chip e ∧ e.upd.state = .idle ∧ e.upd.manifest = none ∧
        immBit e Reg.UPD_EVT 4 = true) ∧
  (∀ (s : State) (req : Requester) (src : UpdSource) (m : Manifest), performs s.chip req 0x0705 .update = true →
    s.chip.upd.source = some (sourceOf req src) → s.chip.upd.state = .pending → s.chip.upd.manifest = some m →
    partsReady s.chip m = false →
    Replies (.updConfirm req src) s req 0x0705 (ansStatus .notReady) fun c e => e = c) ∧
  -- a rollback, asked for or because the time of confirmation has ended, selects the old banks
  (∀ (s : State) (m : Manifest) (since : Nat), s.chip.upd.state = .pending → s.chip.upd.manifest = some m →
    1800 ≤ pendingSec (runTo s.chip since) →
    Answers (.confirmTimeout since) s fun t => KeptBut [.host, .out, .outl, .regs, .tb, .upd] s t ∧ t.chip.upd.state = .rollback ∧
      t.chip.upd.journal = .reverted ∧ t.chip.upd.restartDue = m.priv ∧ t.chip.upd.rollbackDue = !m.priv ∧
      t.chip.upd.abortBy = none ∧ t.chip.upd.bankB =
        m.entries.foldl (fun b e => setBitV b e.part (!b.getLsbD e.part)) s.chip.upd.bankB) ∧
  (∀ (s : State) (req : Requester) (src : UpdSource) (m : Manifest), performs s.chip req 0x0706 .update = true →
    s.chip.upd.source = some (sourceOf req src) → s.chip.upd.state = .pending → s.chip.upd.manifest = some m →
    Answers (.updAbort req src) s fun t => KeptBut [.host, .outl, .upd] s t ∧ t.chip.upd.state = .rollback ∧
      t.chip.upd.abortBy = some req ∧ t.chip.upd.restartDue = m.priv) ∧
  (∀ (s : State), s.chip.upd.state = .pending → Answers .confirmTimerSave s fun t => KeptBut [.upd] s t ∧
    t.chip.upd = { s.chip.upd with savedS := pendingSec s.chip, confirmFrom := s.chip.tb.aon }) ∧
  -- the restart of a privileged rollback waits until no outlet is energised
  (∀ (s : State), s.chip.upd.restartDue = true → anyEnergised s.chip = false →
    Answers .rollbackRestart s fun t => StoresKept s t ∧ ModuleReset s.chip t.chip .update false) ∧
  (∀ (s : State), anyEnergised s.chip = true → exec .rollbackRestart s = .next s)

/-- The reception of a Felt frame, whichever its TYPE: HELLO, CLAIM, LSA, SYNC, DEMAND, GRANT, REPLICA_OPEN,
REPLICA_UPDATE, REPLICA_ACK, REPLICA_CLOSE, SETTLED, LEAVE, FORGET, RESUME (R372, R374, R375, R380, R381). Rests on
the model's choices of log 28. -/
def Obligations.FeltReception : Prop :=
  -- without the site key, on a port that is down, or with no hop left, nothing happens; nor does it for an own flood
  (∀ (s : State) (i : Instr) (h : FeltHdr) (typ : Nat) (flood : Bool), frameOf i = some (h, typ, flood) →
    (keyOk s.chip = false ∨ portUp (fport s.chip h.port.val) = false ∨ h.ttl = 0 ∨ ownEcho s.chip i = true) →
    exec i s = .next s) ∧
  -- a frame held already is not used again; a flood still goes on
  (∀ (s : State) (i : Instr) (h : FeltHdr) (typ : Nat) (flood : Bool), frameOf i = some (h, typ, flood) →
    keyOk s.chip = true → portUp (fport s.chip h.port.val) = true → h.ttl ≠ 0 → ownEcho s.chip i = false →
    forMe s.chip h typ = true → stale s.chip h typ = true →
    exec i s = .next { s with chip := if flood then forwardFlood s.chip h typ else s.chip }) ∧
  -- a flood goes on once, on every other up port that carries its TYPE
  (∀ (c : Chip) (h : FeltHdr) (typ : Nat), (h.src, typ, h.epoch, h.seq) ∉ c.fab.forwarded →
    ChipKeptBut [.fab, .out] c (forwardFlood c h typ) ∧
    (h.src, typ, h.epoch, h.seq) ∈ (forwardFlood c h typ).fab.forwarded ∧
    (∀ p, .feltForward p typ h.src h.epoch h.seq (h.ttl - 1) ∈ (forwardFlood c h typ).out ↔
      (p < 4 ∧ p ≠ h.port.val ∧ carries c p typ = true) ∨
        .feltForward p typ h.src h.epoch h.seq (h.ttl - 1) ∈ c.out)) ∧
  (∀ (c : Chip) (h : FeltHdr) (typ : Nat), (h.src, typ, h.epoch, h.seq) ∈ c.fab.forwarded →
    forwardFlood c h typ = c) ∧
  -- a frame of the link goes no further, and a frame for another member goes on along its route
  (∀ (c : Chip) (h : FeltHdr) (typ : Nat) (flood : Bool), linkType typ = true → passOn c h typ flood = c) ∧
  (∀ (s : State) (i : Instr) (h : FeltHdr) (typ a p : Nat), frameOf i = some (h, typ, false) →
    linkType typ = false → keyOk s.chip = true → portUp (fport s.chip h.port.val) = true → h.ttl ≠ 0 →
    h.dst = some a → a ≠ s.chip.fab.addr → portToward s.chip a = some p → carries s.chip p typ = true →
    Answers i s fun t => KeptBut [.out] s t ∧
      t.chip.out = .feltForward p typ h.src h.epoch h.seq (h.ttl - 1) :: s.chip.out)

/-- The Felt ports: HELLO, HELLO_TICK, PORT_LOCK, PORT_TRAIN_TIMEOUT, PORT_LOCK_LOSS, RATE, PORT_ERR_READ,
FELT_FRAME_REJECTED (R10, R372, R373, R376, R378, R400). Rests on the model's choices of log 28. -/
def Obligations.FeltPorts : Prop :=
  -- the neighbour becomes known; the first HELLO on a link is answered, a change of the neighbour changes the topology
  (∀ (s : State) (h : FeltHdr) (u : BitVec 128) (a np r rt f : Nat), usesFrame s.chip h 0x01 = true →
    Answers (.hello h u a false np r rt f) s fun t => KeptBut [.fab, .host, .out, .regs] s t ∧
      RegsKeptBut [Reg.FAB_EVT] s.chip t.chip ∧ t.chip.fab.db = s.chip.fab.db ∧
      (fport t.chip h.port.val).nbr = some a ∧ (fport t.chip h.port.val).answered = true ∧
      (fport t.chip h.port.val).state = (fport s.chip h.port.val).state ∧
      ((fport s.chip h.port.val).nbr ≠ some a → immBit t.chip Reg.FAB_EVT 2 = true) ∧
      ((fport s.chip h.port.val).answered = false →
        .felt h.port.val (feltFrame s.chip 0x01 a (helloBytes s.chip h.port.val)) ∈ t.chip.out)) ∧
  (∀ (s : State) (h : FeltHdr) (u : BitVec 128) (a np r rt f : Nat), usesFrame s.chip h 0x01 = true →
    Answers (.hello h u a true np r rt f) s fun t => KeptBut [.fab, .out] s t ∧
      (fport t.chip h.port.val).nbr = (fport s.chip h.port.val).nbr ∧ (fport t.chip h.port.val).answered = true) ∧
  (∀ (s : State) (p : FPort), s.chip.fab.mode ≠ .off → keyOk s.chip = true → portUp (fport s.chip p.val) = true →
    Answers (.helloTick p) s fun t => KeptBut [.fab, .out] s t ∧
      t.chip.fab = { s.chip.fab with seqs := tput s.chip.fab.seqs 0x01 (nextFeltSeq s.chip 0x01) } ∧
      t.chip.out = .felt p.val (feltFrame s.chip 0x01 (linkDst s.chip p.val) (helloBytes s.chip p.val)) :: s.chip.out) ∧
  (∀ (s : State) (p : FPort), (s.chip.fab.mode = .off ∨ keyOk s.chip = false ∨ portUp (fport s.chip p.val) = false) →
    exec (.helloTick p) s = .next s) ∧
  -- lock brings the link up at its rate; without lock the port tries the other rate
  (∀ (s : State) (p : FPort) (full : Bool), (fport s.chip p.val).state = .training →
    Answers (.portLock p full) s fun t => KeptBut [.fab, .flt, .out] s t ∧
      (fport t.chip p.val).state = (if full then .full else .standby) ∧ (fport t.chip p.val).nbr = none ∧
      (∀ q, q ≠ p.val → fport t.chip q = fport s.chip q) ∧
      (keyOk s.chip = true → ∃ dst b,
        t.chip.out = .felt p.val (feltFrame s.chip 0x01 dst b) :: s.chip.out ∧ t.chip.fab.seqs = tput s.chip.fab.seqs 0x01
          (nextFeltSeq s.chip 0x01))) ∧
  (∀ (s : State) (p : FPort) (full : Bool), (fport s.chip p.val).state ≠ .training →
    exec (.portLock p full) s = .next s) ∧
  (∀ (s : State) (p : FPort), (fport s.chip p.val).state = .training →
    Answers (.portTrainTimeout p) s fun t => KeptBut [.fab] s t ∧
      fport t.chip p.val = { fport s.chip p.val with tryFull := !(fport s.chip p.val).tryFull } ∧
      ∀ q, q ≠ p.val → fport t.chip q = fport s.chip q) ∧
  -- loss of lock: the port trains again; unless explained it is a fault
  (∀ (s : State) (p : FPort) (n : Bool), portUp (fport s.chip p.val) = true →
    ((fport s.chip p.val).explained = true ∨ n = true) →
    Answers (.portLockLoss p n) s fun t => KeptBut [.fab, .host, .out, .regs] s t ∧
      RegsKeptBut [Reg.FAB_EVT] s.chip t.chip ∧ (fport t.chip p.val).state = .training ∧
      (fport t.chip p.val).nbr = none ∧ immBit t.chip Reg.FAB_EVT 2 = true) ∧
  (∀ (s : State) (p : FPort), portUp (fport s.chip p.val) = true → (fport s.chip p.val).explained = false →
    Reports (.portLockLoss p false) s (76 + p.val) 0 fun c e => ChipKeptBut [.fab, .host, .out, .regs] c e ∧
      RegsKeptBut [Reg.FAB_EVT] c e ∧ (fport e p.val).state = .training ∧ (fport e p.val).nbr = none ∧
      immBit e Reg.FAB_EVT 2 = true) ∧
  (∀ (s : State) (p : FPort) (n : Bool), portUp (fport s.chip p.val) = false →
    exec (.portLockLoss p n) s = .next s) ∧
  -- RATE changes the link's rate
  (∀ (s : State) (p : FPort) (sb : Bool), portUp (fport s.chip p.val) = true →
    (fport s.chip p.val).state ≠ (if sb then .standby else .full) →
    Answers (.rate p sb) s fun t => KeptBut [.fab, .host, .out, .regs] s t ∧ RegsKeptBut [Reg.FAB_EVT] s.chip t.chip ∧
      (fport t.chip p.val).state = (if sb then .standby else .full) ∧
      (fport t.chip p.val).nbr = (fport s.chip p.val).nbr ∧ immBit t.chip Reg.FAB_EVT 2 = true) ∧
  (∀ (s : State) (p : FPort) (sb : Bool), (portUp (fport s.chip p.val) = false ∨
      (fport s.chip p.val).state = (if sb then .standby else .full)) → exec (.rate p sb) s = .next s) ∧
  -- the error counts are returned and cleared
  (∀ (s : State) (p : FPort), windowClosed s.chip (Reg.FAB_PORT_ERR p.val) = false → Answers (.portErrRead p) s fun t => KeptBut [.fab, .out] s t ∧
    t.chip.out = .readData (Reg.FAB_PORT_ERR p.val)
      (wordOf ((fport s.chip p.val).fcs + place 16 (fport s.chip p.val).authErr)) :: s.chip.out ∧
    fport t.chip p.val = { fport s.chip p.val with fcs := 0, authErr := 0 } ∧
    ∀ q, q ≠ p.val → fport t.chip q = fport s.chip q) ∧
  -- rejected frames are counted, and more than 16 of one kind within 1 s are a port fault
  (∀ (s : State) (h : FeltHdr) (typ : Nat) (w : FrameFault), (w = .hcrc ∨ w = .typ ∨ keyOk s.chip = false ∨
      portUp (fport s.chip h.port.val) = false) → exec (.feltFrameRejected h typ w) s = .next s) ∧
  (∀ (s : State) (h : FeltHdr) (typ : Nat), keyOk s.chip = true → portUp (fport s.chip h.port.val) = true →
    (lastSecond s.chip (fport s.chip h.port.val).fcsAt).length < 16 →
    Answers (.feltFrameRejected h typ .fcs) s fun t => KeptBut [.fab, .out] s t ∧
      t.chip.out = (passOn s.chip h typ (floodType typ)).out ∧
      fport t.chip h.port.val = { fport s.chip h.port.val with
        fcs := sat 65535 ((fport s.chip h.port.val).fcs + 1)
        fcsAt := s.chip.tb.aon :: lastSecond s.chip (fport s.chip h.port.val).fcsAt } ∧
      ∀ q, q ≠ h.port.val → fport t.chip q = fport s.chip q) ∧
  (∀ (s : State) (h : FeltHdr) (typ : Nat), keyOk s.chip = true → portUp (fport s.chip h.port.val) = true →
    16 ≤ (lastSecond s.chip (fport s.chip h.port.val).fcsAt).length →
    Reports (.feltFrameRejected h typ .fcs) s (76 + h.port.val) 0 fun c e => ChipKeptBut [.fab, .out] c e ∧
      e.out = (passOn c h typ (floodType typ)).out ∧
      fport e h.port.val = { fport c h.port.val with fcs := sat 65535 ((fport c h.port.val).fcs + 1), fcsAt := [] }) ∧
  (∀ (s : State) (h : FeltHdr) (typ : Nat), keyOk s.chip = true → portUp (fport s.chip h.port.val) = true →
    (lastSecond s.chip (fport s.chip h.port.val).authAt).length < 16 →
    Answers (.feltFrameRejected h typ .tag) s fun t => KeptBut [.fab, .host, .out, .regs] s t ∧
      RegsKeptBut [Reg.FAB_EVT] s.chip t.chip ∧
      (fport t.chip h.port.val).authErr = sat 65535 ((fport s.chip h.port.val).authErr + 1) ∧
      immBit t.chip Reg.FAB_EVT 12 = true) ∧
  (∀ (s : State) (h : FeltHdr) (typ : Nat), keyOk s.chip = true → portUp (fport s.chip h.port.val) = true →
    16 ≤ (lastSecond s.chip (fport s.chip h.port.val).authAt).length →
    Reports (.feltFrameRejected h typ .tag) s (76 + h.port.val) 0 fun c e =>
      ChipKeptBut [.fab, .host, .out, .regs] c e ∧ RegsKeptBut [Reg.FAB_EVT] c e ∧
      (fport e h.port.val).authErr = sat 65535 ((fport c h.port.val).authErr + 1) ∧
      immBit e Reg.FAB_EVT 12 = true)

/-- The membership: CLAIM, ADDR_CLAIM_VALID, LSA, LSA_REFRESH, LSA_AGE_OUT, LEAVE, FORGET, FAB_CTRL_FORGET
(R376 to R379, R394, R396, R397). Rests on the model's choices of log 28. -/
def Obligations.FabricMembership : Prop :=
  -- a conflict of addresses: the lower identity keeps the address, the other claims its next free probe
  (∀ (s : State) (h : FeltHdr) (u : BitVec 128) (a : Nat), usesFrame s.chip h 0x02 = true → u ≠ s.chip.tru.unit →
    a = s.chip.fab.addr → s.chip.fab.mode ≠ .off → s.chip.tru.unit.toNat ≤ u.toNat →
    Answers (.claim h u a) s fun t => KeptBut [.fab, .host, .out, .regs] s t ∧
      RegsKeptBut [Reg.FAB_EVT] s.chip t.chip ∧ immBit t.chip Reg.FAB_EVT 1 = true ∧
      t.chip.fab.addr = s.chip.fab.addr ∧ t.chip.fab.addrValid = s.chip.fab.addrValid) ∧
  (∀ (s : State) (h : FeltHdr) (u : BitVec 128) (a k : Nat), usesFrame s.chip h 0x02 = true → u ≠ s.chip.tru.unit →
    a = s.chip.fab.addr → s.chip.fab.mode ≠ .off → u.toNat < s.chip.tru.unit.toNat →
    k < 1024 → s.chip.fab.probe ≤ k → taken s.chip ((homeAddr s.chip + k) % 1024) = false →
    (homeAddr s.chip + k) % 1024 ≠ a →
    Answers (.claim h u a) s fun t => KeptBut [.blt, .fab, .host, .out, .regs] s t ∧
      immBit t.chip Reg.FAB_EVT 1 = true ∧ t.chip.fab.addr ≠ a ∧ taken s.chip t.chip.fab.addr = false ∧
      t.chip.fab.addrValid = false ∧ t.chip.fab.storedAddr = some (t.chip.fab.addr, s.chip.tru.unit) ∧
      s.chip.fab.probe < t.chip.fab.probe ∧
      (s.chip.blt.queue.length < 256 → ∃ r ∈ t.chip.blt.queue, r.code = 0x0005)) ∧
  (∀ (s : State) (h : FeltHdr) (u : BitVec 128) (a : Nat), usesFrame s.chip h 0x02 = true → u ≠ s.chip.tru.unit →
    a ≠ s.chip.fab.addr → exec (.claim h u a) s = .next { s with chip := noted s.chip h 0x02 true }) ∧
  -- 50 ms without a conflict
  (∀ (s : State), s.chip.fab.addrValid = false → s.chip.fab.mode ≠ .off →
    Answers .addrClaimValid s fun t => KeptBut [.fab, .host, .out, .regs] s t ∧
      RegsKeptBut [Reg.FAB_EVT] s.chip t.chip ∧ t.chip.fab.addrValid = true ∧
      t.chip.fab.addr = s.chip.fab.addr ∧ t.chip.fab.lsaSeq = s.chip.fab.lsaSeq + 1 ∧
      t.chip.fab.mode = (if s.chip.fab.mode = .discover then .deterministic else s.chip.fab.mode)) ∧
  (∀ (s : State), (s.chip.fab.addrValid = true ∨ s.chip.fab.mode = .off) → exec .addrClaimValid s = .next s) ∧
  -- an LSA of another module takes its place in the database; a new member changes the topology
  (∀ (s : State) (h : FeltHdr) (u : BitVec 128) (q r f : Nat) (l : List FLink), usesFrame s.chip h 0x03 = true →
    u ≠ s.chip.tru.unit → h.src ≠ s.chip.fab.addr →
    Answers (.lsa h u q r f l) s fun t => KeptBut [.fab, .host, .out, .regs, .repl, .sess] s t ∧
      ((∀ e ∈ s.chip.fab.db, e.unit = u → e.addr = h.src) → KeptBut [.fab, .host, .out, .regs] s t) ∧
      RegsKeptBut [Reg.FAB_EVT] s.chip t.chip ∧
      t.chip.fab.db = s.chip.fab.db.filter (fun e => e.unit != u && e.addr != h.src) ++ [⟨u, h.src, q, r, f, l, false, h.ttl⟩] ∧
      ((∀ e ∈ s.chip.fab.db, e.unit ≠ u) → immBit t.chip Reg.FAB_EVT 2 = true ∧ t.chip.fab.steady = 0)) ∧
  (∀ (s : State), s.chip.fab.mode ≠ .off → s.chip.fab.addrValid = true → keyOk s.chip = true →
    Answers .lsaRefresh s fun t => KeptBut [.fab, .out] s t ∧
      t.chip.fab = { s.chip.fab with
        lsaSeq := s.chip.fab.lsaSeq + 1, seqs := tput s.chip.fab.seqs 0x03 (nextFeltSeq s.chip 0x03) } ∧
      ∀ p, p < 4 → carries s.chip p 0x03 = true → ∃ b, .felt p (feltFrame s.chip 0x03 floodDst
        (id16 s.chip.tru.unit ++ beBytes 4 (s.chip.fab.lsaSeq + 1) ++ beBytes 2 (ownRated s.chip) ++
          beBytes 1 (ownFlags s.chip) ++ b)) ∈ t.chip.out) ∧
  -- a member aged out stays a member
  (∀ (s : State) (r : LsaRec), r ∈ s.chip.fab.db → r.aged = false →
    Answers (.lsaAgeOut r.addr) s fun t => KeptBut [.fab, .host, .out, .regs] s t ∧
      RegsKeptBut [Reg.FAB_EVT] s.chip t.chip ∧ immBit t.chip Reg.FAB_EVT 2 = true ∧
      t.chip.fab.db = s.chip.fab.db.map (fun e => if e.addr == r.addr then { e with aged := true } else e)) ∧
  -- LEAVE and FORGET remove it
  (∀ (s : State) (h : FeltHdr) (u : BitVec 128) (w : Nat) (r : LsaRec), usesFrame s.chip h 0x0C = true →
    h.src ≠ s.chip.fab.addr → s.chip.fab.db.find? (fun e => e.unit == u) = some r →
    Answers (.leave h u w) s fun t => KeptBut [.fab, .host, .out, .regs] s t ∧
      RegsKeptBut [Reg.FAB_EVT] s.chip t.chip ∧ immBit t.chip Reg.FAB_EVT 2 = true ∧
      t.chip.fab.db = s.chip.fab.db.filter (fun e => e.addr != r.addr) ∧ t.chip.fab.steady = 0 ∧
      ∀ p, p < 4 → (fport s.chip p).nbr = some r.addr → (fport t.chip p).explained = true) ∧
  (∀ (s : State) (h : FeltHdr) (u : BitVec 128) (w : Nat), usesFrame s.chip h 0x0C = true →
    h.src ≠ s.chip.fab.addr → (∀ e ∈ s.chip.fab.db, e.unit ≠ u) →
    exec (.leave h u w) s = .next { s with chip := noted s.chip h 0x0C true }) ∧
  (∀ (s : State) (h : FeltHdr) (r : LsaRec), usesFrame s.chip h 0x0E = true → h.src ≠ s.chip.fab.addr →
    r ∈ s.chip.fab.db →
    Answers (.forget h r.addr r.unit) s fun t =>
      KeptBut [.fab, .freeCount, .host, .leg, .out, .regs, .repl, .sess] s t ∧ immBit t.chip Reg.FAB_EVT 2 = true ∧
      t.chip.fab.db = s.chip.fab.db.filter (fun e => e.addr != r.addr) ∧
      ∀ x ∈ t.chip.repl.holders, x.addr ≠ r.addr) ∧
  (∀ (s : State) (h : FeltHdr) (a : Nat) (u : BitVec 128), usesFrame s.chip h 0x0E = true →
    h.src ≠ s.chip.fab.addr → (∀ e ∈ s.chip.fab.db, ¬ (e.addr = a ∧ e.unit = u)) →
    exec (.forget h a u) s = .next { s with chip := noted s.chip h 0x0E true }) ∧
  -- the write of FORGET floods the frame and removes the member here too
  (∀ (s : State) (a : BitVec 10) (r : LsaRec), windowClosed s.chip Reg.FAB_CTRL = false →
    s.chip.fab.db.find? (fun e => e.addr == a.toNat) = some r →
    keyOk s.chip = true →
    Answers (.fabCtrlForget a false) s fun t =>
      KeptBut [.fab, .freeCount, .host, .leg, .out, .regs, .repl, .sess] s t ∧ immBit t.chip Reg.FAB_EVT 2 = true ∧
      t.chip.fab.db = s.chip.fab.db.filter (fun e => e.addr != a.toNat) ∧
      ∀ p, p < 4 → carries s.chip p 0x0E = true →
        .felt p (feltFrame s.chip 0x0E floodDst (beBytes 2 a.toNat ++ id16 r.unit)) ∈ t.chip.out) ∧
  (∀ (s : State) (a : BitVec 10), windowClosed s.chip Reg.FAB_CTRL = false → (∀ e ∈ s.chip.fab.db, e.addr ≠ a.toNat) →
    Answers (.fabCtrlForget a false) s fun t => KeptBut [.fab, .freeCount, .out] s t ∧
      t.chip.fab.db = s.chip.fab.db)

/-- The time of the fabric: SYNC, SYNC_TICK (R106, R376, R382 to R384). Rests on the model's choices of log 2, 28. -/
def Obligations.FabricTime : Prop :=
  -- a SYNC is noted at its port; a neighbour without a root offers none
  (∀ (s : State) (h : FeltHdr) (y : SyncBody) (rx : Nat), usesFrame s.chip h 0x04 = true →
    Answers (.sync h y rx) s fun t => KeptBut [.blt, .fab, .freeCount, .host, .out, .regs, .tb] s t ∧
      t.chip.fab.db = s.chip.fab.db ∧
      (fport t.chip h.port.val).syncTx = y.tTx ∧ (fport t.chip h.port.val).syncRx = rx ∧
      (fport t.chip h.port.val).lockHops = y.lockHops ∧
      (fport t.chip h.port.val).nbr = (fport s.chip h.port.val).nbr ∧
      (fport t.chip h.port.val).rootSeen = (if y.rootClass ≤ 3 then some ⟨y.root, y.rootClass, y.hops⟩ else none) ∧
      (fport t.chip h.port.val).delayNs = (if y.tEcho = 0 then (fport s.chip h.port.val).delayNs
        else sat 65535 (linkDelay s.chip y rx)) ∧
      -- no round number that has been seen is given out again
      s.chip.fab.roundSeen ≤ t.chip.fab.roundSeen ∧ y.roundNext - 1 ≤ t.chip.fab.roundSeen ∧
      -- the offset to the root, while this module follows it through this neighbour
      (∀ r, t.chip.fab.root = some r → r.addr ≠ t.chip.fab.addr → y.rootClass ≤ 3 → y.root = r.addr →
        y.hops + 1 = r.hops →
        t.chip.fab.ofsNs = satInt 32 (((y.tTx + (fport t.chip h.port.val).delayNs : Nat) : Int) - (rx : Int)) ∧
        t.chip.fab.roundAt = y.roundAt ∧ t.chip.fab.roundNext = max y.roundNext (s.chip.fab.roundRun + 1))) ∧
  (∀ (s : State) (p : FPort), s.chip.fab.mode ≠ .off → keyOk s.chip = true → portUp (fport s.chip p.val) = true →
    Answers (.syncTick p) s fun t => KeptBut [.fab, .out] s t ∧
      t.chip.fab = { s.chip.fab with seqs := tput s.chip.fab.seqs 0x04 (nextFeltSeq s.chip 0x04) } ∧
      t.chip.out = .felt p.val (feltFrame s.chip 0x04 (linkDst s.chip p.val) (syncBytes s.chip p.val)) :: s.chip.out) ∧
  (∀ (s : State) (p : FPort), (s.chip.fab.mode = .off ∨ keyOk s.chip = false ∨ portUp (fport s.chip p.val) = false) →
    exec (.syncTick p) s = .next s) ∧
  -- of two candidates the lower class is the better root, then the lower identity
  (∀ (c : Chip) (a b : RootInfo), a.cls < b.cls → betterRoot c a b = true ∧ betterRoot c b a = false) ∧
  (∀ (c : Chip) (a b : RootInfo), a.cls = b.cls → unitOf c a.addr < unitOf c b.addr → a.addr ≠ b.addr →
    betterRoot c a b = true ∧ betterRoot c b a = false)

/-- The allocation of site power: DEMAND, ALLOC_COLLECTION_CLOSE, GRANT, GRANT_TIMEOUT, PARTITION_HOLD_END, RESUME,
FAB_CTRL_RETRY (R385, R387 to R389, R391 to R394). Rests on the model's choices of log 27, 29. -/
def Obligations.AllocationCommands : Prop :=
  -- a DEMAND in time is kept; a late one is not, and another site version is told
  (∀ (s : State) (h : FeltHdr) (d : Demand), usesFrame s.chip h 0x05 = true → h.src ≠ s.chip.fab.addr →
    participates s.chip = true →
    (if s.chip.fab.collecting then s.chip.fab.roundRun ≤ d.round else s.chip.fab.roundRun < d.round) →
    Answers (.demand h d) s fun t => KeptBut [.fab, .host, .out, .regs] s t ∧ RegsKeptBut [Reg.FAB_EVT] s.chip t.chip ∧
      t.chip.fab.demands = s.chip.fab.demands.filter (fun e => !(e.addr == h.src && e.round == d.round)) ++
        [{ d with addr := h.src }] ∧
      t.chip.fab.roundSeen = max s.chip.fab.roundSeen d.round ∧
      (d.siteVer ≠ liveGet s.chip Reg.FAB_SITE_VER → immBit t.chip Reg.FAB_EVT 11 = true)) ∧
  (∀ (s : State) (h : FeltHdr) (d : Demand), usesFrame s.chip h 0x05 = true → h.src ≠ s.chip.fab.addr →
    (participates s.chip = false ∨ d.round < s.chip.fab.roundRun) →
    Answers (.demand h d) s fun t => KeptBut [.fab, .host, .out, .regs] s t ∧ RegsKeptBut [Reg.FAB_EVT] s.chip t.chip ∧
      t.chip.fab.demands = s.chip.fab.demands) ∧
  -- the collection closes: with digests that agree the round before is agreed and the result is computed
  (∀ (s : State), s.chip.fab.collecting = true → participates s.chip = true → s.chip.sup.mode ≠ .standby →
    s.chip.fab.mode = .deterministic → diverges s.chip s.chip.fab.roundRun = false → partitioned s.chip = false →
    Answers .allocCollectionClose s fun t => KeptBut [.fab, .freeCount] s t ∧
      t.chip.fab.mode = .deterministic ∧ t.chip.fab.collecting = false ∧
      t.chip.fab.roundShown = s.chip.fab.roundRun ∧ t.chip.fab.computed = min 2 (s.chip.fab.computed + 1) ∧
      (∀ a, resultOf s.chip (s.chip.fab.roundRun - 1) = some a → 0 < s.chip.fab.roundRun → a.digest ≠ 0 →
        t.chip.fab.agreed = some a) ∧
      ∃ a, t.chip.fab.results.head? = some a ∧ a.round = s.chip.fab.roundRun ∧
        a.cap = capacity s.chip (usedDemands s.chip s.chip.fab.roundRun)) ∧
  -- a member out of reach is fallback, and so is a digest that differs, which is a fault
  (∀ (s : State), s.chip.fab.collecting = true → participates s.chip = true → s.chip.sup.mode ≠ .standby →
    s.chip.fab.mode = .deterministic → diverges s.chip s.chip.fab.roundRun = false → partitioned s.chip = true →
    Answers .allocCollectionClose s fun t => KeptBut [.fab, .host, .out, .regs] s t ∧
      RegsKeptBut [Reg.FAB_EVT] s.chip t.chip ∧ t.chip.fab.mode = .fallback ∧ t.chip.fab.hold = true ∧
      t.chip.fab.fallbacks = (s.chip.fab.fallbacks + 1) % 2 ^ 16 ∧ t.chip.fab.diverge = s.chip.fab.diverge ∧
      t.chip.fab.milliner = electMilliner s.chip ∧ t.chip.fab.grantImp = s.chip.fab.grantImp ∧
      immBit t.chip Reg.FAB_EVT 4 = true ∧ immBit t.chip Reg.FAB_EVT 14 = true) ∧
  (∀ (s : State), s.chip.fab.collecting = true → participates s.chip = true → s.chip.sup.mode ≠ .standby →
    s.chip.fab.mode = .deterministic → diverges s.chip s.chip.fab.roundRun = true → partitioned s.chip = false →
    Answers .allocCollectionClose s fun t => StoresKept s t ∧ ∃ e, ChipKeptBut [.fab, .host, .out, .regs] s.chip e ∧
      RegsKeptBut [Reg.FAB_EVT] s.chip e ∧ e.fab.mode = .fallback ∧ e.fab.hold = true ∧
      e.fab.fallbacks = (s.chip.fab.fallbacks + 1) % 2 ^ 16 ∧ e.fab.diverge = (s.chip.fab.diverge + 1) % 2 ^ 16 ∧
      immBit e Reg.FAB_EVT 3 = true ∧ immBit e Reg.FAB_EVT 4 = true ∧
      t.chip = followMilliner (skipRound (reportSrc e 150 0))) ∧
  -- in fallback the Milliner computes, the others wait for its GRANT
  (∀ (s : State), s.chip.fab.collecting = true → participates s.chip = true → s.chip.sup.mode ≠ .standby →
    s.chip.fab.mode = .fallback → s.chip.fab.milliner = some s.chip.fab.addr →
    Answers .allocCollectionClose s fun t => KeptBut [.fab, .freeCount, .out] s t ∧
      ∃ a, t.chip.fab.results.head? = some a ∧ a.round = s.chip.fab.roundRun ∧ a.digest = 0 ∧
        a.cap = capacity s.chip (usedDemands s.chip s.chip.fab.roundRun)) ∧
  (∀ (s : State), s.chip.fab.collecting = true → participates s.chip = true → s.chip.sup.mode ≠ .standby →
    s.chip.fab.mode = .fallback → s.chip.fab.milliner ≠ some s.chip.fab.addr →
    Answers .allocCollectionClose s fun t => KeptBut [.fab] s t ∧ t.chip.fab.results = s.chip.fab.results ∧
      t.chip.fab.collecting = false) ∧
  -- a GRANT of this module's Milliner is taken once every segment of its round is there
  (∀ (s : State) (h : FeltHdr) (r m k n : Nat) (g : BitVec 128) (l : List GrantItem), usesFrame s.chip h 0x06 = true →
    h.src ≠ s.chip.fab.addr → participates s.chip = true → s.chip.fab.mode = .fallback →
    s.chip.fab.milliner = some m → m ≠ s.chip.fab.addr → k < n → resultOf s.chip r = none →
    Answers (.grant h r g m k n l) s fun t => KeptBut [.fab, .out] s t ∧
      ∃ ps, ps = ⟨r, k, n, l⟩ :: s.chip.fab.grantParts.filter (fun q => q.round == r && q.segment != k) ∧
        if grantComplete ps r n then
          t.chip.fab.results.head? = some ⟨r, 0, 0, ps.flatMap (·.items), []⟩ ∧ t.chip.fab.grantParts = []
        else t.chip.fab.grantParts = ps ∧ t.chip.fab.results = s.chip.fab.results) ∧
  (∀ (s : State) (h : FeltHdr) (r m k n : Nat) (g : BitVec 128) (l : List GrantItem), usesFrame s.chip h 0x06 = true →
    h.src ≠ s.chip.fab.addr → s.chip.fab.mode ≠ .fallback →
    exec (.grant h r g m k n l) s = .next { s with chip := noted s.chip h 0x06 true }) ∧
  -- 10 s without a result: the total is no more than the proportional share
  (∀ (s : State), cfgBit s.chip Reg.FAB_CFG 2 = true → s.chip.fab.capped = false →
    Answers .grantTimeout s fun t => KeptBut [.fab, .freeCount, .host, .out, .outl, .pwd, .regs, .tb] s t ∧
      t.chip.fab.capped = true ∧
      t.chip.fab.grantExp = s.chip.fab.grantExp ∧
      t.chip.fab.grantImp.map (·.1) = s.chip.fab.grantImp.map (·.1) ∧
      (t.chip.fab.grantImp.map (·.2)).sum ≤ shareOf s.chip s.chip.fab.addr) ∧
  (∀ (s : State), (cfgBit s.chip Reg.FAB_CFG 2 = false ∨ s.chip.fab.capped = true) →
    exec .grantTimeout s = .next s) ∧
  (∀ (s : State), Answers .partitionHoldEnd s fun t => KeptBut [.fab] s t ∧
    t.chip.fab = { s.chip.fab with hold := false }) ∧
  -- RESUME of the Milliner names the round of the return; RETRY lifts the hold at the Milliner
  (∀ (s : State) (h : FeltHdr) (r m : Nat), usesFrame s.chip h 0x10 = true → h.src ≠ s.chip.fab.addr →
    s.chip.fab.mode = .fallback → s.chip.fab.milliner = some m →
    Answers (.resume h r m) s fun t => KeptBut [.fab, .out] s t ∧ t.chip.fab.resumeRound = some r ∧
      t.chip.fab.mode = .fallback) ∧
  (∀ (s : State) (h : FeltHdr) (r m : Nat), usesFrame s.chip h 0x10 = true → h.src ≠ s.chip.fab.addr →
    s.chip.fab.milliner ≠ some m → exec (.resume h r m) s = .next { s with chip := noted s.chip h 0x10 true }) ∧
  (∀ (s : State), windowClosed s.chip Reg.FAB_CTRL = false → s.chip.fab.mode = .fallback →
    s.chip.fab.milliner = some s.chip.fab.addr →
    Answers .fabCtrlRetry s fun t => KeptBut [.fab] s t ∧ t.chip.fab = { s.chip.fab with liftHold := true }) ∧
  (∀ (s : State), (s.chip.fab.mode ≠ .fallback ∨ s.chip.fab.milliner ≠ some s.chip.fab.addr) →
    exec .fabCtrlRetry s = .next s)

/-- R388: the procedure fill gives every entry nothing or from its minimum to its bound, and the grants together are
within the capacity; the level of a class is the largest that fits. -/
def Obligations.FillWithinCapacity : Prop :=
  (∀ (es : List FillEntry) (cap : Nat), ((fill es cap).map (·.g)).sum ≤ cap) ∧
  (∀ (es : List FillEntry) (cap : Nat) (e : FillEntry), e ∈ fill es cap → e.g = 0 ∨ (e.lo ≤ e.g ∧ e.g ≤ e.hi)) ∧
  (∀ (es : List FillEntry) (cap : Nat), List.Perm
    ((fill es cap).map fun e => (e.addr, e.outlet, e.prio, e.weight, e.lo, e.hi, e.start))
    (es.map fun e => (e.addr, e.outlet, e.prio, e.weight, e.lo, e.hi, e.start))) ∧
  (∀ (a : List FillEntry) (rem : Nat), findLevel a rem 31 0 ≤ 2 ^ 31 ∧ levelSum a (findLevel a rem 31 0) ≤ rem ∧
    ∀ l, l ≤ 2 ^ 31 → levelSum a l ≤ rem → l ≤ findLevel a rem 31 0)

/-- Session replicas: REPLICA_OPEN, REPLICA_UPDATE, REPLICA_ACK, REPLICA_CLOSE, REPLICA_HOLDER_LOST,
REPLICA_PLACE_RETRY, REPLICA_CLOSE_RETRY, REPLICA_ADOPT, SETTLED (R198, R200, R376, R395 to R397). Rests on the
model's choices of log 57. -/
def Obligations.ReplicaCommands : Prop :=
  -- a FREE context takes a replica; with none it is refused
  (∀ (s : State) (h : FeltHdr) (b : ReplicaOpen) (x : Nat), usesFrame s.chip h 0x07 = true →
    replicaCtx s.chip b.sessionId h.src = none → firstFree s.chip = some x →
    Answers (.replicaOpen h b) s fun t => KeptBut [.acc, .fab, .out, .sess] s t ∧ OtherCtxsKept x s.chip t.chip ∧
      (ctxOf t.chip x).bstate = .replica ∧ (ctxOf t.chip x).sessionId = b.sessionId ∧
      (ctxOf t.chip x).authRef = b.authRef ∧ (ctxOf t.chip x).replOrigin = h.src ∧
      (ctxOf t.chip x).primary = b.primary ∧ (ctxOf t.chip x).price = b.price ∧
      (ctxOf t.chip x).startCycle = b.startCycle ∧ (∀ k, k < 64 → ctxAcc t.chip x k = 0) ∧
      Sends s.chip t.chip 0x09 h.src (id16 b.sessionId ++ beBytes 6 0 ++ beBytes 1 0)) ∧
  (∀ (s : State) (h : FeltHdr) (b : ReplicaOpen), usesFrame s.chip h 0x07 = true →
    replicaCtx s.chip b.sessionId h.src = none → firstFree s.chip = none →
    Answers (.replicaOpen h b) s fun t => KeptBut [.fab, .out] s t ∧
      Sends s.chip t.chip 0x09 h.src (id16 b.sessionId ++ beBytes 6 0 ++ beBytes 1 1)) ∧
  -- an update is written into the replica and acknowledged; one of an unknown session is answered so
  (∀ (s : State) (h : FeltHdr) (b : ReplicaUpdate) (x : Nat), usesFrame s.chip h 0x08 = true →
    replicaCtx s.chip b.sessionId h.src = some x →
    Answers (.replicaUpdate h b) s fun t => KeptBut [.acc, .fab, .out, .sess] s t ∧ OtherCtxsKept x s.chip t.chip ∧
      ctxOf t.chip x = { ctxOf s.chip x with
        energised := b.energisedMs * 2 ^ 32, flags := b.flags, replCycle := b.cycle, endCycle := b.cycle,
        endWall := b.wall } ∧
      (∀ k v, (k, v) ∈ ctxSlots.zip b.values → ctxAcc t.chip x k = v % 2 ^ 128) ∧
      Sends s.chip t.chip 0x09 h.src (id16 b.sessionId ++ beBytes 6 b.cycle ++ beBytes 1 0)) ∧
  (∀ (s : State) (h : FeltHdr) (b : ReplicaUpdate), usesFrame s.chip h 0x08 = true →
    replicaCtx s.chip b.sessionId h.src = none →
    Answers (.replicaUpdate h b) s fun t => KeptBut [.fab, .out] s t ∧
      Sends s.chip t.chip 0x09 h.src (id16 b.sessionId ++ beBytes 6 b.cycle ++ beBytes 1 2)) ∧
  -- the acknowledgements of a holder
  (∀ (s : State) (h : FeltHdr) (i : BitVec 128) (y : Nat) (x : Holder), usesFrame s.chip h 0x09 = true →
    holderAt s.chip i h.src = some x → x.state ≠ .closing →
    Answers (.replicaAck h i y 0) s fun t => KeptBut [.fab, .repl] s t ∧
      t.chip.repl = { s.chip.repl with holders := s.chip.repl.holders.map (fun z =>
        if z.sessionId = i ∧ z.addr = h.src then { z with state := .held, ackCycle := y } else z) }) ∧
  (∀ (s : State) (h : FeltHdr) (i : BitVec 128) (y : Nat) (x : Holder), usesFrame s.chip h 0x09 = true →
    holderAt s.chip i h.src = some x → x.state ≠ .closing →
    Answers (.replicaAck h i y 1) s fun t => KeptBut [.fab, .out, .repl, .sess] s t ∧
      (i, h.src) ∈ t.chip.repl.refused ∧ holderAt t.chip i h.src = none) ∧
  (∀ (s : State) (h : FeltHdr) (i : BitVec 128) (y r : Nat) (x : Holder), usesFrame s.chip h 0x09 = true →
    holderAt s.chip i h.src = some x → x.state = .closing → r = 2 ∨ r = 3 →
    Answers (.replicaAck h i y r) s fun t => KeptBut [.fab, .repl, .sess] s t ∧ holderAt t.chip i h.src = none) ∧
  -- a close by the origin frees the replica, which is answered; a holder that evicts is lost
  (∀ (s : State) (h : FeltHdr) (i : BitVec 128) (w q x : Nat), usesFrame s.chip h 0x0A = true → w ≠ 2 →
    replicaCtx s.chip i h.src = some x →
    Answers (.replicaClose h i w q) s fun t => KeptBut [.fab, .out, .sess] s t ∧ OtherCtxsKept x s.chip t.chip ∧
      ctxOf t.chip x = Context.init ∧
      Sends s.chip t.chip 0x09 h.src (id16 i ++ beBytes 6 (ctxOf s.chip x).replCycle ++ beBytes 1 3)) ∧
  (∀ (s : State) (h : FeltHdr) (i : BitVec 128) (w q : Nat), usesFrame s.chip h 0x0A = true → w ≠ 2 →
    replicaCtx s.chip i h.src = none →
    Answers (.replicaClose h i w q) s fun t => KeptBut [.fab, .out] s t ∧
      Sends s.chip t.chip 0x09 h.src (id16 i ++ beBytes 6 0 ++ beBytes 1 2)) ∧
  (∀ (s : State) (h : FeltHdr) (i : BitVec 128) (q : Nat) (x : Holder), usesFrame s.chip h 0x0A = true →
    holderAt s.chip i h.src = some x → x.state ≠ .closing →
    Answers (.replicaClose h i 2 q) s fun t => KeptBut [.fab, .host, .out, .regs, .repl, .sess] s t ∧
      immBit t.chip Reg.FAB_EVT 8 = true) ∧
  -- a holder that is silent is lost: it is told with reason 1, and the replica is placed again
  (∀ (s : State) (i : BitVec 128) (a : Nat) (x : Holder), holderAt s.chip i a = some x → x.state ≠ .closing →
    Answers (.replicaHolderLost i a) s fun t => KeptBut [.fab, .host, .out, .regs, .repl, .sess] s t ∧
      RegsKeptBut [Reg.FAB_EVT] s.chip t.chip ∧ immBit t.chip Reg.FAB_EVT 8 = true ∧
      Sends s.chip t.chip 0x0A a (id16 i ++ beBytes 1 1 ++ beBytes 7 0 ++ beBytes 8 0)) ∧
  (∀ (s : State) (i : BitVec 128) (a : Nat), holderAt s.chip i a = none →
    exec (.replicaHolderLost i a) s = .next s) ∧
  -- every second what is missing is placed, the primary first, at the nearest member that may hold it
  (∀ (s : State) (o : Outlet) (x : Nat) (r : LsaRec) (l : List LsaRec), liveCtx s.chip o.val = some x →
    roleMissing s.chip (ctxOf s.chip x).sessionId true = true →
    replicaCandidates { s.chip with repl := { s.chip.repl with refused := s.chip.repl.refused.filter (fun e =>
      e.1 != (ctxOf s.chip x).sessionId) } } (ctxOf s.chip x).sessionId = r :: l →
    Answers (.replicaPlaceRetry o) s fun t => KeptBut [.fab, .out, .repl, .sess] s t ∧ OtherCtxsKept x s.chip t.chip ∧
      (∃ y ∈ t.chip.repl.holders, y.sessionId = (ctxOf s.chip x).sessionId ∧ y.addr = r.addr ∧ y.primary = true ∧
        y.state = .asked) ∧
      Sends s.chip t.chip 0x07 r.addr (replicaOpenBytes s.chip x true)) ∧
  (∀ (s : State) (o : Outlet), liveCtx s.chip o.val = none → exec (.replicaPlaceRetry o) s = .next s) ∧
  (∀ (s : State) (i : BitVec 128) (a : Nat) (x : Holder), holderAt s.chip i a = some x → x.state = .closing →
    Answers (.replicaCloseRetry i a) s fun t => KeptBut [.fab, .out] s t ∧
      Sends s.chip t.chip 0x0A a (id16 i ++ beBytes 1 x.reason ++ beBytes 7 0 ++
        beBytes 8 (if x.reason = 0 then x.seq else 0))) ∧
  -- a replica whose origin is gone is settled here, with ADOPTED and UNMEASURED
  (∀ (s : State) (x : Ctx) (also : Bool), (ctxOf s.chip x.val).bstate = .replica →
    originGone s.chip (ctxOf s.chip x.val) = true → (ctxOf s.chip x.val).primary = true ∨ also = true →
    Answers (.replicaAdopt x also) s fun t => KeptBut [.freeCount, .host, .leg, .out, .regs, .sess] s t ∧
      RegsKeptBut [Reg.FAB_EVT] s.chip t.chip ∧ OtherCtxsKept x.val s.chip t.chip ∧
      immBit t.chip Reg.FAB_EVT 9 = true ∧ (ctxOf t.chip x.val).bstate = .settling ∧
      (ctxOf t.chip x.val).flags = (ctxOf s.chip x.val).flags ||| flagBit 10 ||| flagBit 11 ∧
      (ctxOf t.chip x.val).settler = s.chip.fab.addr ∧
      (s.chip.leg.running = true → t.chip.leg.causes.length = s.chip.leg.causes.length + 1)) ∧
  (∀ (s : State) (x : Ctx) (also : Bool), originGone s.chip (ctxOf s.chip x.val) = false →
    exec (.replicaAdopt x also) s = .next s) ∧
  -- SETTLED frees a replica; at the origin it is told, and a session still LIVE stops
  (∀ (s : State) (h : FeltHdr) (i : BitVec 128) (g st q x : Nat) (ad : Bool), usesFrame s.chip h 0x0B = true →
    h.src ≠ s.chip.fab.addr → g ≠ s.chip.fab.addr → replicaCtx s.chip i g = some x →
    Answers (.settled h i g st ad q) s fun t => KeptBut [.fab, .out, .sess] s t ∧ OtherCtxsKept x s.chip t.chip ∧
      ctxOf t.chip x = Context.init) ∧
  (∀ (s : State) (h : FeltHdr) (i : BitVec 128) (st q x : Nat) (ad : Bool) (o : Outlet), usesFrame s.chip h 0x0B = true →
    h.src ≠ s.chip.fab.addr → st ≠ s.chip.fab.addr → ctxOfSession s.chip i = some x →
    (ctxOf s.chip x).bstate = .live → (ctxOf s.chip x).outlet = o.val → (outletOf s.chip o.val).state = .energised →
    Answers (.settled h i s.chip.fab.addr st ad q) s fun t =>
      KeptBut [.fab, .freeCount, .host, .out, .outl, .pwd, .regs, .saf, .tb] s t ∧
      OthersKept o.val s.chip t.chip ∧ immBit t.chip Reg.FAB_EVT 10 = true ∧ (outletOf t.chip o.val).why = .stop ∧
      ((outletOf t.chip o.val).state = .opening ∨ (outletOf t.chip o.val).state = .weldCheck)) ∧
  (∀ (s : State) (h : FeltHdr) (i : BitVec 128) (st q : Nat) (ad : Bool), usesFrame s.chip h 0x0B = true →
    h.src ≠ s.chip.fab.addr → st ≠ s.chip.fab.addr → ctxOfSession s.chip i = none →
    Answers (.settled h i s.chip.fab.addr st ad q) s fun t => KeptBut [.fab, .host, .out, .regs] s t ∧
      RegsKeptBut [Reg.FAB_EVT] s.chip t.chip ∧ immBit t.chip Reg.FAB_EVT 10 = true)

/-- FAULT_REPORT: what the collector does with a report (R456 to R459, R461 to R464). Rests on the model's choices of
log 14, 15. -/
def Obligations.FaultReports : Prop :=
  -- reserved sources never report, reports wait for the restore of the store and for the ready bit of the owner's
  -- region, and those of a block under reset are lost
  (∀ (s : State) (r : Report), 152 ≤ r.src → exec (.faultReport [r]) s = .next s) ∧
  (∀ (s : State) (r : Report), r.src < 152 → s.chip.flt.restored = false →
    Answers (.faultReport [r]) s fun t => KeptBut [.flt] s t ∧
      t.chip.flt = { s.chip.flt with waiting := s.chip.flt.waiting ++ [{ r with forced := false }] }) ∧
  (∀ (s : State) (r : Report), s.chip.flt.restored = true → underReset s.chip (ownerBlock r.src) = true →
    exec (.faultReport [r]) s = .next s) ∧
  (∀ (s : State) (r : Report), r.src < 152 → underReset s.chip (ownerBlock r.src) = false →
    ownerSilent s.chip r.src = true →
    Answers (.faultReport [r]) s fun t => KeptBut [.flt] s t ∧
      t.chip.flt = { s.chip.flt with waiting := s.chip.flt.waiting ++ [{ r with forced := false }] }) ∧
  -- a report of a source in OK, ACTIVE or QUIET: an occurrence, ACTIVE, told and recorded
  (∀ (s : State) (r : Report) (x : Src), Accepts s.chip r.src → x = srcOf s.chip r.src →
    x.state = .ok ∨ x.state = .active ∨ x.state = .quiet → reactOf s.chip r.src = 0 ∨ 4 ≤ reactOf s.chip r.src →
    occurrences s.chip { x with occ := (aonSec s.chip :: x.occ).take 15 } < permLimit s.chip r.src →
    s.chip.blt.queue.length < 256 →
    Answers (.faultReport [r]) s fun t => KeptBut [.blt, .flt, .host, .out, .regs] s t ∧
      RegsKeptBut [Reg.FLT_NEW (r.src / 32), Reg.FLT_LAST, Reg.FLT_EVT] s.chip t.chip ∧
      srcOf t.chip r.src = { x with
        state := if autoClears r.src then .quiet else .active, present := !autoClears r.src
        level := max r.level (ownLevel r.src), forced := false, occ := (aonSec s.chip :: x.occ).take 15 } ∧
      (∀ k, k ≠ r.src → srcOf t.chip k = srcOf s.chip k) ∧
      immBit t.chip (Reg.FLT_NEW (r.src / 32)) (r.src % 32) = true ∧ immBit t.chip Reg.FLT_EVT 0 = true ∧
      regGet t.chip Reg.FLT_LAST = wordOf (r.src + place 12 (max r.level (ownLevel r.src)) +
        placeBit 15 (classS s.chip r.src) + place 20 (r.detail.toNat % 4096)) ∧
      ∃ b, t.chip.blt.queue = s.chip.blt.queue ++ [b] ∧ b.kind = 0 ∧ b.code = r.src ∧ b.sev = sevOf s.chip r.src ∧
        b.data = r.detail) ∧
  -- the occurrence that reaches the limit makes a source without a channel PERMANENT
  (∀ (s : State) (r : Report) (x : Src), Accepts s.chip r.src → x = srcOf s.chip r.src →
    x.state = .ok ∨ x.state = .active ∨ x.state = .quiet → reactOf s.chip r.src = 0 ∨ 4 ≤ reactOf s.chip r.src →
    permLimit s.chip r.src ≤ occurrences s.chip { x with occ := (aonSec s.chip :: x.occ).take 15 } →
    chanOf r.src = none → classS s.chip r.src = false →
    Answers (.faultReport [r]) s fun t => KeptBut [.blt, .flt, .host, .out, .regs] s t ∧
      (srcOf t.chip r.src).state = .permanent ∧ immBit t.chip Reg.FLT_EVT 2 = true ∧
      (∀ k, k ≠ r.src → srcOf t.chip k = srcOf s.chip k)) ∧
  -- and one with a channel RETIRED: a load switch is off and held, a port is held down
  (∀ (s : State) (r : Report) (x : Src), Accepts s.chip r.src → x = srcOf s.chip r.src →
    x.state = .ok ∨ x.state = .active ∨ x.state = .quiet → reactOf s.chip r.src = 0 ∨ 4 ≤ reactOf s.chip r.src →
    permLimit s.chip r.src ≤ occurrences s.chip { x with occ := (aonSec s.chip :: x.occ).take 15 } →
    64 ≤ r.src → r.src < 80 →
    Answers (.faultReport [r]) s fun t => KeptBut [.blt, .fab, .flt, .host, .lsw, .out, .outl, .regs] s t ∧
      (srcOf t.chip r.src).state = .retired ∧ immBit t.chip Reg.FLT_EVT 3 = true ∧
      (r.src < 76 → (lswOf t.chip (r.src - 64)).state = .retired) ∧
      (76 ≤ r.src → (fport t.chip (r.src - 76)).state = .retired)) ∧
  -- PERMANENT or RETIRED: a record only
  (∀ (s : State) (r : Report) (x : Src), Accepts s.chip r.src → x = srcOf s.chip r.src →
    x.state = .permanent ∨ x.state = .retired → s.chip.blt.queue.length < 256 →
    Answers (.faultReport [r]) s fun t => KeptBut [.blt, .flt, .regs] s t ∧
      RegsKeptBut [Reg.FLT_NEW (r.src / 32), Reg.FLT_LAST] s.chip t.chip ∧
      (srcOf t.chip r.src).state = x.state ∧ (srcOf t.chip r.src).occ = x.occ ∧
      ∃ b, t.chip.blt.queue = s.chip.blt.queue ++ [b] ∧ b.kind = 0 ∧ b.code = r.src) ∧
  -- TRAP: the service firmware is informed first
  (∀ (s : State) (r : Report) (x : Src), Accepts s.chip r.src → x = srcOf s.chip r.src →
    x.state = .ok ∨ x.state = .active ∨ x.state = .quiet → reactOf s.chip r.src = 1 →
    occurrences s.chip { x with occ := (aonSec s.chip :: x.occ).take 15 } < permLimit s.chip r.src →
    Answers (.faultReport [r]) s fun t => KeptBut [.blt, .flt, .host, .out, .regs] s t ∧
      immBit t.chip Reg.FLT_EVT 0 = true ∧ t.chip.out.head? = some (.inform 3 true)) ∧
  -- BLOCK: the owning block is reset and its source is checked afterwards; not in Hold-up
  (∀ (s : State) (r : Report) (x : Src), Accepts s.chip r.src → x = srcOf s.chip r.src →
    x.state = .ok ∨ x.state = .active ∨ x.state = .quiet → reactOf s.chip r.src = 2 →
    occurrences s.chip { x with occ := (aonSec s.chip :: x.occ).take 15 } < permLimit s.chip r.src →
    (ownerBlock r.src).resettable = true → s.chip.sup.mode ≠ .holdUp →
    Answers (.faultReport [r]) s fun t => StoresKept s t ∧ ∃ d, ChipKeptBut [.blt, .flt, .host, .out, .regs] s.chip d ∧
      d.flt.resets = s.chip.flt.resets ∧ d.flt.checks = s.chip.flt.checks ∧
      (srcOf d r.src).level = max 1 (max r.level (ownLevel r.src)) ∧ immBit d Reg.FLT_EVT 0 = true ∧
      t.chip = addCheck (resetBlock d (ownerBlock r.src)) r.src 1 (ownerBlock r.src)) ∧
  (∀ (s : State) (r : Report) (x : Src), Accepts s.chip r.src → x = srcOf s.chip r.src →
    x.state = .ok ∨ x.state = .active ∨ x.state = .quiet → reactOf s.chip r.src = 2 ∨ reactOf s.chip r.src = 3 →
    occurrences s.chip { x with occ := (aonSec s.chip :: x.occ).take 15 } < permLimit s.chip r.src →
    s.chip.sup.mode = .holdUp → r.src ≠ 151 → s.chip.blt.queue.length < 256 →
    Answers (.faultReport [r]) s fun t => KeptBut [.blt, .flt, .host, .out, .regs] s t ∧
      ∃ b, t.chip.blt.queue = s.chip.blt.queue ++ [b] ∧ b.kind = 0 ∧ b.code = r.src ∧ b.holdup = true) ∧
  -- the reports of one MET cycle: two sources of one block reset it once, and both are checked
  (∀ (c : Chip) (a b : Nat), reactOf c a = 2 → reactOf c b = 2 → ownerBlock a = ownerBlock b →
    (ownerBlock a).resettable = true → underReset c (ownerBlock a) = false → c.sup.mode ≠ .holdUp →
    react c [a, b] = addCheck (addCheck (resetBlock (reactInt c) (ownerBlock a)) a 1 (ownerBlock a)) b 1 (ownerBlock b)) ∧
  -- MODULE: a warm reset of the module, never refused
  (∀ (s : State) (r : Report) (x : Src), Accepts s.chip r.src → x = srcOf s.chip r.src →
    x.state = .ok ∨ x.state = .active ∨ x.state = .quiet → r.src ≠ 151 → reactOf s.chip r.src = 3 →
    occurrences s.chip { x with occ := (aonSec s.chip :: x.occ).take 15 } < permLimit s.chip r.src →
    s.chip.sup.mode ≠ .holdUp →
    Answers (.faultReport [r]) s fun t => StoresKept s t ∧ ModuleReset s.chip t.chip .fault false)

/-- What follows a report: FAULT_CLEARED, QUIET_TIMER_EXPIRY, ESCALATION_CHECK, CLEAR_RETIRE, CLEAR_RECOV,
FAULT_FORCE_WRITE (R15, R38, R459, R465, R467, R468). Rests on the model's choices of log 14. -/
def Obligations.FaultFollowUp : Prop :=
  (∀ (s : State) (n : Nat), n ≠ 117 → Answers (.faultCleared n) s fun t => KeptBut [.flt] s t ∧
    srcOf t.chip n = { srcOf s.chip n with
      state := if (srcOf s.chip n).state = .active then .quiet else (srcOf s.chip n).state
      present := false } ∧
    ∀ k, k ≠ n → srcOf t.chip k = srcOf s.chip k) ∧
  (∀ (s : State), Answers (.faultCleared 117) s fun t => KeptBut [.flt, .host, .out, .pwd, .regs, .tb] s t ∧ t.chip.pwd.linkUp = true ∧
    (srcOf t.chip 117).present = false) ∧
  -- the end of the quiet time counts a recovery
  (∀ (s : State) (n : Nat), (srcOf s.chip n).state = .quiet → s.chip.blt.queue.length < 256 →
    Answers (.quietTimerExpiry n) s fun t => KeptBut [.blt, .flt, .host, .out, .regs] s t ∧
      RegsKeptBut [Reg.FLT_EVT] s.chip t.chip ∧
      srcOf t.chip n = { srcOf s.chip n with state := .ok, recov := sat 255 ((srcOf s.chip n).recov + 1) } ∧
      immBit t.chip Reg.FLT_EVT 1 = true ∧
      ∃ b, t.chip.blt.queue = s.chip.blt.queue ++ [b] ∧ b.kind = 1 ∧ b.code = n) ∧
  (∀ (s : State) (n : Nat), (srcOf s.chip n).state ≠ .quiet → exec (.quietTimerExpiry n) s = .next s) ∧
  -- R15: a source still present after a reset is treated at the next level
  (∀ (s : State) (n : Nat), s.chip.flt.checks.find? (fun k => k.src == n && k.complete) = none →
    exec (.escalationCheck n) s = .next s) ∧
  (∀ (s : State) (n : Nat) (k : Check), s.chip.flt.checks.find? (fun k => k.src == n && k.complete) = some k →
    (srcOf s.chip n).present = false →
    Answers (.escalationCheck n) s fun t => KeptBut [.flt] s t ∧
      t.chip.flt = { s.chip.flt with checks := s.chip.flt.checks.filter (fun j => j != k) }) ∧
  (∀ (s : State) (n : Nat) (k : Check) (r : Region),
    s.chip.flt.checks.find? (fun k => k.src == n && k.complete) = some k → (srcOf s.chip n).present = true →
    s.chip.sup.mode ≠ .holdUp → k.level = 1 → k.block.region? = some r → r ≠ .sup →
    Answers (.escalationCheck n) s fun t => StoresKept s t ∧ fenced t.chip r = true ∧
      t.chip.sup.mode = s.chip.sup.mode ∧ (srcOf t.chip n).level = 2 ∧ .region r ∈ t.chip.flt.resets ∧
      (⟨n, 2, .region r, false⟩ : Check) ∈ t.chip.flt.checks ∧
      immBit t.chip Reg.SUP_RST_CAUSE (11 + r.idx) = true) ∧
  (∀ (s : State) (n : Nat) (k : Check), s.chip.flt.checks.find? (fun k => k.src == n && k.complete) = some k →
    (srcOf s.chip n).present = true → s.chip.sup.mode ≠ .holdUp →
    (k.level ≠ 1 ∨ k.block.region? = some .sup ∨ k.block.region? = none) →
    Answers (.escalationCheck n) s fun t => StoresKept s t ∧ ModuleReset s.chip t.chip .fault false) ∧
  (∀ (s : State) (n : Nat) (k : Check), s.chip.flt.checks.find? (fun k => k.src == n && k.complete) = some k →
    (srcOf s.chip n).present = true → s.chip.sup.mode = .holdUp → s.chip.blt.queue.length < 256 →
    Answers (.escalationCheck n) s fun t => KeptBut [.blt, .flt, .host, .out, .regs] s t ∧
      immBit t.chip Reg.FLT_EVT 4 = true ∧
      ∃ b, t.chip.blt.queue = s.chip.blt.queue ++ [b] ∧ b.escalated = true ∧ b.holdup = true) ∧
  -- a clear of a source that is neither PERMANENT nor RETIRED reads OK and changes nothing
  (∀ (s : State) (n : Nat), windowClosed s.chip Reg.FLT_CMD = false → (srcOf s.chip n).state ≠ .permanent → (srcOf s.chip n).state ≠ .retired →
    Answers (.clearRetire n) s fun t => KeptBut [.regs] s t ∧ RegsKeptBut [Reg.FLT_CMD_RESULT] s.chip t.chip ∧
      regGet t.chip Reg.FLT_CMD_RESULT = wordOf (Status.ok.code + place 16 (n % 512))) ∧
  (∀ (s : State) (n : Nat), windowClosed s.chip Reg.FLT_CMD = false → (srcOf s.chip n).state = .permanent ∨ (srcOf s.chip n).state = .retired →
    clearAccepted s.chip n = false →
    Answers (.clearRetire n) s fun t => KeptBut [.host, .out, .regs] s t ∧
      RegsKeptBut [Reg.FLT_CMD_RESULT, Reg.FLT_EVT] s.chip t.chip ∧ immBit t.chip Reg.FLT_EVT 7 = true ∧
      regGet t.chip Reg.FLT_CMD_RESULT = wordOf (Status.rejected.code + place 16 (n % 512))) ∧
  -- accepted: OK with an empty history; without a channel the safe-stop cause ends, a load switch is OFF, a port trains
  (∀ (s : State) (n : Nat), windowClosed s.chip Reg.FLT_CMD = false → (srcOf s.chip n).state = .permanent ∨ (srcOf s.chip n).state = .retired →
    clearAccepted s.chip n = true → chanOf n = none →
    Answers (.clearRetire n) s fun t => KeptBut [.blt, .flt, .host, .out, .regs, .sup] s t ∧
      (srcOf t.chip n).state = .ok ∧ (srcOf t.chip n).occ = [] ∧ immBit t.chip Reg.FLT_EVT 6 = true ∧
      t.chip.sup = { s.chip.sup with safeCauses := s.chip.sup.safeCauses.filter (fun k => k != .source n) } ∧
      regGet t.chip Reg.FLT_CMD_RESULT = wordOf (Status.ok.code + place 16 (n % 512))) ∧
  (∀ (s : State) (n : Nat), windowClosed s.chip Reg.FLT_CMD = false → (srcOf s.chip n).state = .retired → 64 ≤ n → n < 80 →
    Answers (.clearRetire n) s fun t => KeptBut [.blt, .fab, .flt, .host, .lsw, .out, .regs, .sup] s t ∧
      (srcOf t.chip n).state = .ok ∧ (srcOf t.chip n).occ = [] ∧ immBit t.chip Reg.FLT_EVT 6 = true ∧
      (n < 76 → (lswOf t.chip (n - 64)).state = .off ∧ (lswOf t.chip (n - 64)).regOn = false) ∧
      (76 ≤ n → (fport t.chip (n - 76)).state = .training)) ∧
  (∀ (s : State) (n : Nat), windowClosed s.chip Reg.FLT_CMD = false → (srcOf s.chip n).state = .retired → n < 64 →
    Answers (.clearRetire n) s fun t => StoresKept s t ∧ (srcOf t.chip n).state = .ok ∧ (srcOf t.chip n).occ = [] ∧
      immBit t.chip Reg.FLT_EVT 6 = true ∧
      ((pointOfLane s.chip n).isSome = true → (laneOf t.chip n).state = .train)) ∧
  (∀ (s : State) (n : Nat), windowClosed s.chip Reg.FLT_CMD = false →
    Answers (.clearRecov n) s fun t => KeptBut [.flt, .regs] s t ∧
      RegsKeptBut [Reg.FLT_CMD_RESULT] s.chip t.chip ∧
      regGet t.chip Reg.FLT_CMD_RESULT = wordOf (Status.ok.code + place 16 (n % 512)) ∧
      srcOf t.chip n = { srcOf s.chip n with recov := 0 } ∧ ∀ k, k ≠ n → srcOf t.chip k = srcOf s.chip k) ∧
  -- a force bit of a Class G source reports it present with FORCED, and its clearing clears it
  (∀ (s : State) (w : Fin 16) (b : Nat), windowClosed s.chip (Reg.FLT_FORCE w.val) = false → b < 32 → 32 * w.val + b < 152 → classS s.chip (32 * w.val + b) = false →
    bitOf (regGet s.chip (Reg.FLT_FORCE w.val)) b = false →
    Answers (.faultForceWrite w (withBit (regGet s.chip (Reg.FLT_FORCE w.val)) b true)) s fun t => StoresKept s t ∧
      ∃ e, ChipKeptBut [.regs] s.chip e ∧ RegsKeptBut [Reg.FLT_FORCE w.val] s.chip e ∧
        regGet e (Reg.FLT_FORCE w.val) = withBit (regGet s.chip (Reg.FLT_FORCE w.val)) b true ∧
        t.chip = report e [⟨32 * w.val + b, ownLevel (32 * w.val + b), 0, true⟩]) ∧
  (∀ (s : State) (w : Fin 16) (b : Nat), windowClosed s.chip (Reg.FLT_FORCE w.val) = false → b < 32 → bitOf (regGet s.chip (Reg.FLT_FORCE w.val)) b = true →
    Answers (.faultForceWrite w (withBit (regGet s.chip (Reg.FLT_FORCE w.val)) b false)) s fun t =>
      KeptBut [.flt, .regs] s t ∧ RegsKeptBut [Reg.FLT_FORCE w.val] s.chip t.chip ∧
      regGet t.chip (Reg.FLT_FORCE w.val) = withBit (regGet s.chip (Reg.FLT_FORCE w.val)) b false ∧
      (srcOf t.chip (32 * w.val + b)).present = false) ∧
  -- that of a Class S source acts in Factory-test only, at its detection input; elsewhere it is discarded
  (∀ (s : State) (w : Fin 16) (b : Nat), windowClosed s.chip (Reg.FLT_FORCE w.val) = false → b < 32 → 32 * w.val + b < 152 → classS s.chip (32 * w.val + b) = true →
    s.chip.sup.mode ≠ .factoryTest → bitOf (regGet s.chip (Reg.FLT_FORCE w.val)) b = false →
    Answers (.faultForceWrite w (withBit (regGet s.chip (Reg.FLT_FORCE w.val)) b true)) s fun t =>
      KeptBut [.host, .out, .regs] s t ∧ RegsKeptBut [Reg.FLT_EVT] s.chip t.chip ∧
      immBit t.chip Reg.FLT_EVT 5 = true) ∧
  (∀ (s : State) (w : Fin 16) (b : Nat), windowClosed s.chip (Reg.FLT_FORCE w.val) = false → b < 32 → 80 ≤ 32 * w.val + b → 32 * w.val + b < 88 →
    s.chip.sup.mode = .factoryTest → bitOf (regGet s.chip (Reg.FLT_FORCE w.val)) b = false →
    Answers (.faultForceWrite w (withBit (regGet s.chip (Reg.FLT_FORCE w.val)) b true)) s fun t => StoresKept s t ∧
      ∃ e d, ChipKeptBut [.regs] s.chip e ∧ Tripped e d ((32 * w.val + b) % 8) .mismatch .both ∧
        t.chip = reportSrc d (32 * w.val + b) (safTripLow d % 1024))

/-- Blotter: BLOTTER_WRITE, BLT_LATCH, BLT_NEXT, BLT_LATCH_DONE (R472 to R474, R476, R477). -/
def Obligations.BlotterCommands : Prop :=
  (∀ (s : State), (s.chip.blt.ready = false ∨ s.chip.blt.queue = []) → exec .blotterWrite s = .next s) ∧
  -- a new record takes the next SEQ and the lowest free slot; NEW tells it from IRQ_SEV on
  (∀ (s : State) (r : BltRec) (l : List BltRec), s.chip.blt.ready = true → s.chip.blt.queue = r :: l →
    cfgBit s.chip Reg.BLT_CFG 3 = false → s.chip.blt.slots.length < bltSlots →
    Answers .blotterWrite s fun t => KeptBut [.blt, .host, .out, .regs] s t ∧ RegsKeptBut [Reg.BLT_EVT] s.chip t.chip ∧
      t.chip.blt.slots = tput s.chip.blt.slots (firstGap 0 s.chip.blt.slots) { r with seq := s.chip.blt.nextSeq } ∧
      t.chip.blt.nextSeq = (s.chip.blt.nextSeq + 1) % 2 ^ 48 ∧ t.chip.blt.queue = l ∧
      t.chip.blt.drop = s.chip.blt.drop ∧
      (cfg s.chip Reg.BLT_CFG 2 0 ≤ r.sev → immBit t.chip Reg.BLT_EVT 0 = true)) ∧
  -- with MERGE a repetition of the newest record counts in it
  (∀ (s : State) (r n : BltRec) (l : List BltRec) (k : Nat), s.chip.blt.ready = true → s.chip.blt.queue = r :: l →
    cfgBit s.chip Reg.BLT_CFG 3 = true → newestRec s.chip.blt.slots = some (k, n) → mergesInto r n = true →
    Answers .blotterWrite s fun t => KeptBut [.blt, .host, .out, .regs] s t ∧ RegsKeptBut [Reg.BLT_EVT] s.chip t.chip ∧
      t.chip.blt.slots = tput s.chip.blt.slots k { n with rept := n.rept + 1, lastS := sat 65535 (r.since - n.since) } ∧
      t.chip.blt.nextSeq = s.chip.blt.nextSeq ∧ t.chip.blt.queue = l) ∧
  -- a full recorder gives up the oldest record of the lowest severity, or drops the new one
  (∀ (s : State) (r v : BltRec) (l : List BltRec) (k : Nat), s.chip.blt.ready = true → s.chip.blt.queue = r :: l →
    cfgBit s.chip Reg.BLT_CFG 3 = false → bltSlots ≤ s.chip.blt.slots.length →
    victim s.chip.blt.slots r.sev = some (k, v) →
    Answers .blotterWrite s fun t => KeptBut [.blt, .host, .out, .regs] s t ∧ RegsKeptBut [Reg.BLT_EVT] s.chip t.chip ∧
      t.chip.blt.slots = tput s.chip.blt.slots k { r with seq := s.chip.blt.nextSeq } ∧
      t.chip.blt.queue = l ∧ immBit t.chip Reg.BLT_EVT 3 = true ∧ v.sev ≤ r.sev ∧
      ∀ e ∈ s.chip.blt.slots, v.sev < e.2.sev ∨ (v.sev = e.2.sev ∧ v.seq ≤ e.2.seq)) ∧
  (∀ (s : State) (r : BltRec) (l : List BltRec), s.chip.blt.ready = true → s.chip.blt.queue = r :: l →
    cfgBit s.chip Reg.BLT_CFG 3 = false → bltSlots ≤ s.chip.blt.slots.length → victim s.chip.blt.slots r.sev = none →
    Answers .blotterWrite s fun t => KeptBut [.blt, .host, .out, .regs] s t ∧ RegsKeptBut [Reg.BLT_EVT] s.chip t.chip ∧
      t.chip.blt.slots = s.chip.blt.slots ∧ t.chip.blt.queue = l ∧
      t.chip.blt.drop = (s.chip.blt.drop + 1) % 2 ^ 32 ∧ immBit t.chip Reg.BLT_EVT 2 = true) ∧
  -- the window: LATCH, NEXT, and the end of a latch
  (∀ (s : State), windowClosed s.chip Reg.BLT_WIN_CTRL = false → Answers .bltLatch s fun t => KeptBut [.blt] s t ∧
    t.chip.blt = { s.chip.blt with winBusy := true, winStale := false }) ∧
  (∀ (s : State) (r : BltRec), windowClosed s.chip Reg.BLT_WIN_CTRL = false →
    s.chip.blt.window.getLast? = some r →
    Answers .bltNext s fun t => KeptBut [.blt, .regs] s t ∧
      RegsKeptBut [Reg.BLT_CURSOR_LO, Reg.BLT_CURSOR_HI] s.chip t.chip ∧
      t.chip.blt = { s.chip.blt with winBusy := true, winStale := false } ∧
      (r.seq + 1 < 2 ^ 48 → bltCursor t.chip = r.seq + 1)) ∧
  (∀ (s : State), s.chip.blt.winBusy = true →
    Answers .bltLatchDone s fun t => KeptBut [.blt] s t ∧ t.chip.blt.winBusy = false ∧
      t.chip.blt.slots = s.chip.blt.slots ∧ t.chip.blt.window.length ≤ 8 ∧
      (∀ r ∈ t.chip.blt.window, (∃ k, (k, r) ∈ s.chip.blt.slots) ∧ bltCursor s.chip ≤ r.seq ∧
        imm s.chip Reg.BLT_WIN_CTRL 6 4 ≤ r.sev) ∧
      t.chip.blt.window.Pairwise (fun a b => a.seq ≤ b.seq)) ∧
  (∀ (s : State), s.chip.blt.winBusy = false → exec .bltLatchDone s = .next s)

/-- A step takes the command at the front of the queue and runs it with the rest; with no command waiting the block idles
(log 1). Rests on the model's choices of log 1, 45. -/
def Obligations.StepRunsFront : Prop :=
  (∀ (s : State) (i : Instr) (rest : List Instr), step { s with pending := i :: rest } = exec i { s with pending := rest }) ∧
  (∀ (s : State), s.pending = [] → step s = .next s)

/-- The state after reset: sound memory and fuses, every register of the file at its reset value, nothing waiting.
Rests on the model's choices of log 3, 7, 43. -/
def Obligations.ResetIsSound : Prop :=
  Inv State.reset ∧ FusesSound State.reset.fuses ∧ State.reset.pending = [] ∧ State.reset.chip.out = [] ∧
  (∀ a, regGet State.reset.chip a = regReset a ∧ liveGet State.reset.chip a = regReset a) ∧
  (∀ a, mget State.reset.dram a = 0#8)

/-- R29: SUP_ID. -/
def Obligations.HardwareIdentity : Prop :=
  ∀ (s : State), fenced s.chip .sup = false →
    fieldOf (readReg s Reg.SUP_ID) 31 16 = 0x0880 ∧ fieldOf (readReg s Reg.SUP_ID) 15 8 = 0x03 ∧
    fieldOf (readReg s Reg.SUP_ID) 7 0 = 0 ∧ regReset Reg.SUP_ID = readReg s Reg.SUP_ID ∧
    ∃ r, regRow Reg.SUP_ID = some r ∧ r.acc = .ro

/-- Every step keeps the one form of the memory. -/
def Obligations.StepKeepsMemoryForm : Prop :=
  ∀ (s t : State), Inv s → step s = .next t → Inv t

/-- R427: fuses are blown one way only, and only by LIFECYCLE_TOKEN, BLANK_TO_FACTORY, UPD_CONFIRM and RESET_RELEASE. -/
def Obligations.FusesOneWay : Prop :=
  (∀ (s t : State), FusesSound s.fuses → step s = .next t → FusesSound t.fuses ∧ FusesKept s.fuses t.fuses) ∧
  (∀ (s t : State) (i : Instr), exec i s = .next t → (∀ k v, i ≠ .lifecycleToken k v) →
    (∀ u a b c d, i ≠ .blankToFactory u a b c d) → (∀ r q, i ≠ .updConfirm r q) →
    (∀ a b c d e, i ≠ .resetRelease a b c d e) → t.fuses = s.fuses)

/-- Only DSP_WRITE and DRAM_WIPE_DONE change the memory: DSP_WRITE the bytes it names, DRAM_WIPE_DONE to zeros. Rests
on the model's choices of log 3. -/
def Obligations.MemoryFrame : Prop :=
  (∀ (s t : State) (i : Instr), exec i s = .next t → (∀ r a b, i ≠ .dspWrite r a b) → (∀ u, i ≠ .dramWipeDone u) →
    ∀ a, mget t.dram a = mget s.dram a) ∧
  (∀ (s t : State) (r : Requester) (o : Nat) (bs : List Byte), exec (.dspWrite r o (some bs)) s = .next t →
    ∀ a, a < o ∨ o + bs.length ≤ a → mget t.dram a = mget s.dram a) ∧
  (∀ (s t : State) (r : Requester) (o : Nat), exec (.dspWrite r o none) s = .next t → t.dram = s.dram) ∧
  (∀ (s t : State) (u : Nat), exec (.dramWipeDone u) s = .next t →
    ∀ a, mget t.dram a = mget s.dram a ∨ mget t.dram a = 0#8)

/-- Every command that can be sent answers a next state, and leaves the queue to the step; the others fault by name. -/
def Obligations.EveryCommandAnswers : Prop :=
  (∀ (s : State) (i : Instr), wellSent i = true → Answers i s fun t => t.pending = s.pending) ∧
  (∀ (s : State) (a : Nat) (w : Word), 0x8000000 ≤ a → exec (.registerWrite a w) s = .fault .outsideBar2) ∧
  (∀ (s : State) (a : Nat) (w : Bool), 0x8000000 ≤ a → exec (.unmappedAccess a w) s = .fault .outsideBar2 ∧
    exec (.fencedWindowAccess a w) s = .fault .outsideBar2) ∧
  (∀ (s : State) (q : Ring) (bs : List Byte), bs.length ≠ 64 →
    exec (.descriptorFetch q (.desc bs)) s = .fault .malformedDescriptor)

/-- R16, R440, R350, R354: work for a region that is fenced or not ready is answered NOT_READY, for one under update
BUSY_REGION, with no other effect; a request that is not admitted has none. For MD_RESET, LEG_EXPORT,
SESSION_START, SESSION_STOP and DSP_WRITE. Rests on the model's choices of log 8. -/
def Obligations.WorkTurnedAway : Prop :=
  (∀ (s : State) (req : Requester) (op : Nat) (b : Block) (st : Status) (i : Instr), admitted s.chip req op = true →
    turnAway s.chip b = some st →
    ((∃ cr, i = .mdReset req cr ∧ op = 0x0305 ∧ b = .tariff) ∨
     (∃ n len q, i = .legExport req n len q ∧ op = 0x0306 ∧ b = .legalLog) ∨
     (∃ o pt a k l, i = .sessionStart req o pt a k l ∧ op = 0x0401 ∧ b = .outletEngine o) ∨
     (∃ sid, i = .sessionStop req sid ∧ op = 0x0402 ∧ b = stopBlock s.chip sid) ∨
     (∃ a d, i = .dspWrite req a d ∧ op = 0x0601 ∧ b = .pixel)) →
    Replies i s req op (ansStatus st) fun c e => e = c) ∧
  (∀ (s : State) (req : Requester) (i : Instr),
    ((∃ cr, i = .mdReset req cr ∧ admitted s.chip req 0x0305 = false) ∨
     (∃ n len q, i = .legExport req n len q ∧ admitted s.chip req 0x0306 = false) ∨
     (∃ o pt a k l, i = .sessionStart req o pt a k l ∧ admitted s.chip req 0x0401 = false) ∨
     (∃ sid, i = .sessionStop req sid ∧ admitted s.chip req 0x0402 = false) ∨
     (∃ a d, i = .dspWrite req a d ∧ admitted s.chip req 0x0601 = false)) → exec i s = .next s) ∧
  (∀ (c : Chip) (b : Block) (r : Region), b.region? = some r → b ≠ .ringEngine → regionReady c r = false →
    (regionUpdating c r = false ∨ r = .svc) → turnAway c b = some .notReady) ∧
  (∀ (c : Chip) (b : Block) (r : Region), b.region? = some r → regionUpdating c r = true → r ≠ .svc →
    turnAway c b = some .busyRegion)

/-- R99: the cycle count. While it is known it changes at ANGLE_ZERO only, by one. -/
def Obligations.CycleCount : Prop :=
  (∀ (s t : State) (i : Instr), exec i s = .next t → s.chip.tb.known = true →
    (∀ p b, i ≠ .angleZero p b) → t.chip.tb.cycle = s.chip.tb.cycle) ∧
  (∀ (s : State) (p : Nat) (b : Bool), s.chip.tb.known = true → dieRuns s.chip = true →
    Answers (.angleZero p b) s fun t => t.chip.tb.cycle = s.chip.tb.cycle + 1) ∧
  (∀ (s : State) (p : Nat) (b : Bool), dieRuns s.chip = false →
    exec (.angleZero p b) s = .next s)

/-- R390: the DEMAND of a module in Standby, and of one that has woken. -/
def Obligations.StandbyDemand : Prop :=
  (∀ (c : Chip) (r : Nat), c.sup.mode = .standby → (ownDemand c r).entries = [] ∧ (ownDemand c r).digest = 0 ∧
    (ownDemand c r).mode / 2 % 2 = 1) ∧
  -- it computes nothing
  (∀ (s : State), s.chip.sup.mode = .standby → s.chip.fab.collecting = true →
    Answers .allocCollectionClose s fun t => KeptBut [.fab] s t ∧
      t.chip.fab = { s.chip.fab with collecting := false }) ∧
  -- after wake the digest is zero until two rounds in a row have been computed
  (∀ (c : Chip) (r : Nat), c.sup.mode = .standby → (roundStep1 c r).fab.computed = 0) ∧
  (∀ (c : Chip) (r : Nat), c.fab.computed < 2 → (ownDemand c r).digest = 0) ∧
  (∀ (c : Chip), c.fab.computed < 2 → (skipRound c).fab.computed = 0) ∧
  (∀ (c : Chip) (r : Nat) (a : AllocResult), c.sup.mode ≠ .standby → c.fab.mode = .deterministic → c.fab.computed = 2 →
    resultOf c r = some a → (ownDemand c (r + 1)).digest = a.digest)
end

