-- ==== Sys2Proof/Laws/Memory.lean ====
section
/-! SUPPORT. Tables and memory: reading after writing, and that every operation keeps the one form. -/

namespace Sys2Proof.Machine

@[simp] theorem tget_nil {α : Type} (d : α) (k : Nat) : tget d [] k = d := rfl

theorem sortedKeys_iff {α : Type} (t : Tab α) : sortedKeys t = true ↔ t.Pairwise (fun x y => x.1 < y.1) := by
  induction t with
  | nil => simp [sortedKeys]
  | cons x t ih =>
    cases t with
    | nil => simp [sortedKeys]
    | cons y t =>
      obtain ⟨j, v⟩ := x
      obtain ⟨k, w⟩ := y
      rw [sortedKeys, Bool.and_eq_true, ih, decide_eq_true_eq]
      simp only [List.pairwise_cons, List.mem_cons, forall_eq_or_imp]
      constructor
      · rintro ⟨hjk, hk, ht⟩
        exact ⟨⟨hjk, fun e he => lt_trans hjk (hk e he)⟩, hk, ht⟩
      · rintro ⟨⟨hjk, _⟩, hk, ht⟩
        exact ⟨hjk, hk, ht⟩

theorem mem_tinsert {α : Type} (t : Tab α) (k : Nat) (v : α) (e : Nat × α) :
    e ∈ tinsert t k v ↔ e = (k, v) ∨ e ∈ t := by
  induction t with
  | nil => simp [tinsert]
  | cons x t ih =>
    obtain ⟨j, w⟩ := x
    unfold tinsert
    split
    · simp
    · simp only [List.mem_cons, ih]; tauto

theorem mem_terase {α : Type} (t : Tab α) (k : Nat) (e : Nat × α) :
    e ∈ terase t k ↔ e ∈ t ∧ e.1 ≠ k := by simp [terase]

theorem tget_terase_self {α : Type} (d : α) (t : Tab α) (k : Nat) : tget d (terase t k) k = d := by
  induction t with
  | nil => rfl
  | cons x t ih =>
    obtain ⟨j, w⟩ := x
    unfold terase at ih ⊢
    by_cases h : j = k
    · subst h; simpa using ih
    · simp [h, tget, ih]

theorem tget_terase_ne {α : Type} (d : α) (t : Tab α) {k a : Nat} (h : a ≠ k) :
    tget d (terase t k) a = tget d t a := by
  induction t with
  | nil => rfl
  | cons x t ih =>
    obtain ⟨j, w⟩ := x
    unfold terase at ih ⊢
    by_cases hj : j = k
    · subst hj
      simp only [bne_self_eq_false, Bool.false_eq_true, not_false_eq_true, List.filter_cons_of_neg, ih, tget]
      rw [if_neg (Ne.symm h)]
    · simp [hj, tget, ih]

theorem tget_tinsert_self {α : Type} (d : α) (t : Tab α) (k : Nat) (v : α) (h : ∀ e ∈ t, e.1 ≠ k) :
    tget d (tinsert t k v) k = v := by
  induction t with
  | nil => simp [tinsert, tget]
  | cons x t ih =>
    obtain ⟨j, w⟩ := x
    have hj : j ≠ k := h (j, w) (by simp)
    unfold tinsert
    split
    · simp [tget]
    · simp [tget, hj, ih (fun e he => h e (by simp [he]))]

theorem tget_tinsert_ne {α : Type} (d : α) (t : Tab α) {k a : Nat} (v : α) (h : a ≠ k) :
    tget d (tinsert t k v) a = tget d t a := by
  induction t with
  | nil => simp [tinsert, tget, Ne.symm h]
  | cons x t ih =>
    obtain ⟨j, w⟩ := x
    unfold tinsert
    split
    · simp [tget, Ne.symm h]
    · simp [tget, ih]

@[simp] theorem tget_tput_self {α : Type} (d : α) (t : Tab α) (k : Nat) (v : α) : tget d (tput t k v) k = v :=
  tget_tinsert_self d _ k v fun e he => ((mem_terase t k e).1 he).2

theorem tget_tput_ne {α : Type} (d : α) (t : Tab α) {k a : Nat} (v : α) (h : a ≠ k) :
    tget d (tput t k v) a = tget d t a := by
  rw [tput, tget_tinsert_ne d _ v h, tget_terase_ne d t h]

theorem sortedKeys_terase {α : Type} (t : Tab α) (k : Nat) (h : sortedKeys t = true) : sortedKeys (terase t k) = true := by
  rw [sortedKeys_iff] at h ⊢
  exact h.filter _

theorem sortedKeys_tinsert {α : Type} (t : Tab α) (k : Nat) (v : α) (h : sortedKeys t = true)
    (hk : ∀ e ∈ t, e.1 ≠ k) : sortedKeys (tinsert t k v) = true := by
  rw [sortedKeys_iff] at h ⊢
  induction t with
  | nil => simp [tinsert]
  | cons x t ih =>
    obtain ⟨j, w⟩ := x
    rw [List.pairwise_cons] at h
    have hj : j ≠ k := hk (j, w) (by simp)
    unfold tinsert
    split
    case isTrue hlt =>
      refine List.pairwise_cons.2 ⟨fun e he => ?_, List.pairwise_cons.2 h⟩
      rcases List.mem_cons.1 he with rfl | he
      · exact hlt
      · exact lt_trans hlt (h.1 e he)
    case isFalse hnlt =>
      refine List.pairwise_cons.2 ⟨fun e he => ?_, ih h.2 fun e he => hk e (by simp [he])⟩
      rcases (mem_tinsert t k v e).1 he with rfl | he
      · simp only; omega
      · exact h.1 e he

theorem sortedKeys_tput {α : Type} (t : Tab α) (k : Nat) (v : α) (h : sortedKeys t = true) :
    sortedKeys (tput t k v) = true :=
  sortedKeys_tinsert _ k v (sortedKeys_terase t k h) fun e he => ((mem_terase t k e).1 he).2

theorem wf_sorted {m : List Host.Cell} (h : Memory.wf m = true) : sortedKeys m = true := by
  simp only [Memory.wf, Bool.and_eq_true] at h
  exact h.1

@[simp] theorem memory_wf_nil : Memory.wf [] = true := rfl

/-- Writing one byte keeps the memory's one form. -/
theorem mput_wf (m : List Host.Cell) (a : Nat) (b : Byte) (h : Memory.wf m = true) : Memory.wf (mput m a b) = true := by
  have hs := wf_sorted h
  simp only [Memory.wf, Bool.and_eq_true, List.all_eq_true] at h ⊢
  unfold mput
  split
  · exact ⟨sortedKeys_terase m a hs, fun e he => h.2 e ((mem_terase m a e).1 he).1⟩
  case isFalse hb =>
    refine ⟨sortedKeys_tput m a b hs, fun e he => ?_⟩
    rcases (mem_tinsert _ a b e).1 he with rfl | he
    · simpa using hb
    · exact h.2 e ((mem_terase m a e).1 he).1

/-- Writing bytes keeps the memory's one form. -/
theorem mputs_wf (m : List Host.Cell) (a : Nat) (bs : List Byte) (h : Memory.wf m = true) :
    Memory.wf (mputs m a bs) = true := by
  induction bs generalizing m a with
  | nil => exact h
  | cons b bs ih => exact ih _ _ (mput_wf m a b h)

@[simp] theorem mget_mput_self (m : List Host.Cell) (a : Nat) (b : Byte) : mget (mput m a b) a = b := by
  unfold mput mget
  split
  case isTrue hb => rw [tget_terase_self, hb]
  case isFalse => rw [tget_tput_self]

theorem mget_mput_ne (m : List Host.Cell) {a x : Nat} (b : Byte) (h : x ≠ a) : mget (mput m a b) x = mget m x := by
  unfold mput mget
  split
  · rw [tget_terase_ne _ _ h]
  · rw [tget_tput_ne _ _ _ h]

/-- A write of bytes leaves every address outside them. -/
theorem mget_mputs_outside (m : List Host.Cell) (a x : Nat) (bs : List Byte) (h : x < a ∨ a + bs.length ≤ x) :
    mget (mputs m a bs) x = mget m x := by
  induction bs generalizing m a with
  | nil => rfl
  | cons b bs ih =>
    simp only [List.length_cons] at h
    rw [mputs, ih _ _ (by omega), mget_mput_ne _ _ (by omega)]

/-- A byte written reads back. -/
theorem mget_mputs_inside (m : List Host.Cell) (a i : Nat) (bs : List Byte) (h : i < bs.length) :
    mget (mputs m a bs) (a + i) = bs[i] := by
  induction bs generalizing m a i with
  | nil => simp at h
  | cons b bs ih =>
    cases i with
    | zero => rw [mputs, mget_mputs_outside _ _ _ _ (by omega), Nat.add_zero, mget_mput_self]; rfl
    | succ i =>
      have := ih (mput m a b) (a + 1) i (by simpa using h)
      rw [mputs, show a + (i + 1) = a + 1 + i by omega, this]; rfl

/-- An address that nothing lists reads 0. -/
theorem mget_of_unlisted (m : List Host.Cell) (x : Nat) (h : ∀ e ∈ m, e.1 ≠ x) : mget m x = 0#8 := by
  unfold mget
  induction m with
  | nil => rfl
  | cons e m ih =>
    obtain ⟨j, w⟩ := e
    rw [tget, if_neg (h (j, w) (by simp)), ih (fun e he => h e (by simp [he]))]

/-! ### The register file -/

theorem tfind_terase_self {α : Type} (t : Tab α) (k : Nat) : tfind (terase t k) k = none := by
  induction t with
  | nil => rfl
  | cons x t ih =>
    obtain ⟨j, w⟩ := x
    unfold terase at ih ⊢
    by_cases h : j = k
    · subst h; simpa using ih
    · simp [h, tfind, ih]

theorem tfind_terase_ne {α : Type} (t : Tab α) {k a : Nat} (h : a ≠ k) : tfind (terase t k) a = tfind t a := by
  induction t with
  | nil => rfl
  | cons x t ih =>
    obtain ⟨j, w⟩ := x
    unfold terase at ih ⊢
    by_cases hj : j = k
    · subst hj
      simp only [bne_self_eq_false, Bool.false_eq_true, not_false_eq_true, List.filter_cons_of_neg, ih, tfind]
      rw [if_neg (Ne.symm h)]
    · simp [hj, tfind, ih]

theorem tfind_tinsert_self {α : Type} (t : Tab α) (k : Nat) (v : α) (h : ∀ e ∈ t, e.1 ≠ k) :
    tfind (tinsert t k v) k = some v := by
  induction t with
  | nil => simp [tinsert, tfind]
  | cons x t ih =>
    obtain ⟨j, w⟩ := x
    have hj : j ≠ k := h (j, w) (by simp)
    unfold tinsert
    split
    · simp [tfind]
    · simp [tfind, hj, ih (fun e he => h e (by simp [he]))]

theorem tfind_tinsert_ne {α : Type} (t : Tab α) {k a : Nat} (v : α) (h : a ≠ k) :
    tfind (tinsert t k v) a = tfind t a := by
  induction t with
  | nil => simp [tinsert, tfind, Ne.symm h]
  | cons x t ih =>
    obtain ⟨j, w⟩ := x
    unfold tinsert
    split
    · simp [tfind, Ne.symm h]
    · simp [tfind, ih]

@[simp] theorem rget_rput_self (t : Tab Word) (a : Nat) (w : Word) : rget (rput t a w) a = w := by
  unfold rput
  split
  case isTrue h => rw [rget, tfind_terase_self, h]
  case isFalse =>
    rw [rget, tput, tfind_tinsert_self _ _ _ (fun e he => ((mem_terase t a e).1 he).2)]

theorem tfind_rput_ne (t : Tab Word) {a x : Nat} (w : Word) (h : x ≠ a) : tfind (rput t a w) x = tfind t x := by
  unfold rput
  split
  · exact tfind_terase_ne t h
  · exact (tfind_tinsert_ne _ _ h).trans (tfind_terase_ne t h)

theorem rget_rput_ne (t : Tab Word) {a x : Nat} (w : Word) (h : x ≠ a) : rget (rput t a w) x = rget t x := by
  simp only [rget, tfind_rput_ne t w h]

@[simp] theorem regGet_regPut_self (c : Chip) (a : Nat) (w : Word) : regGet (regPut c a w) a = w :=
  rget_rput_self c.regs a w

theorem regGet_regPut_ne (c : Chip) {a x : Nat} (w : Word) (h : x ≠ a) : regGet (regPut c a w) x = regGet c x :=
  rget_rput_ne c.regs w h

theorem regsWf_rput (t : Tab Word) (a : Nat) (w : Word) (h : regsWf t = true) : regsWf (rput t a w) = true := by
  simp only [regsWf, Bool.and_eq_true, List.all_eq_true] at h ⊢
  unfold rput
  split
  · exact ⟨sortedKeys_terase t a h.1, fun e he => h.2 e ((mem_terase t a e).1 he).1⟩
  case isFalse hw =>
    refine ⟨sortedKeys_tput t a w h.1, fun e he => ?_⟩
    rcases (mem_tinsert _ a w e).1 he with rfl | he
    · simpa using hw
    · exact h.2 e ((mem_terase t a e).1 he).1

end Sys2Proof.Machine
end

