-- ==== Sys2Proof/Laws/State.lean ====
section
/-! SUPPORT. One lemma per field per update: what the operations every block uses leave as it is. -/

namespace Sys2Proof.Machine

@[simp] theorem regPut_live (c : Chip) (a : Nat) (w : Word) : (regPut c a w).live = c.live := rfl
@[simp] theorem regPut_sup (c : Chip) (a : Nat) (w : Word) : (regPut c a w).sup = c.sup := rfl
@[simp] theorem regPut_wipe (c : Chip) (a : Nat) (w : Word) : (regPut c a w).wipe = c.wipe := rfl
@[simp] theorem regPut_cg (c : Chip) (a : Nat) (w : Word) : (regPut c a w).cg = c.cg := rfl
@[simp] theorem regPut_ns (c : Chip) (a : Nat) (w : Word) : (regPut c a w).ns = c.ns := rfl
@[simp] theorem regPut_tb (c : Chip) (a : Nat) (w : Word) : (regPut c a w).tb = c.tb := rfl
@[simp] theorem regPut_met (c : Chip) (a : Nat) (w : Word) : (regPut c a w).met = c.met := rfl
@[simp] theorem regPut_acc (c : Chip) (a : Nat) (w : Word) : (regPut c a w).acc = c.acc := rfl
@[simp] theorem regPut_tar (c : Chip) (a : Nat) (w : Word) : (regPut c a w).tar = c.tar := rfl
@[simp] theorem regPut_sess (c : Chip) (a : Nat) (w : Word) : (regPut c a w).sess = c.sess := rfl
@[simp] theorem regPut_leg (c : Chip) (a : Nat) (w : Word) : (regPut c a w).leg = c.leg := rfl
@[simp] theorem regPut_outl (c : Chip) (a : Nat) (w : Word) : (regPut c a w).outl = c.outl := rfl
@[simp] theorem regPut_saf (c : Chip) (a : Nat) (w : Word) : (regPut c a w).saf = c.saf := rfl
@[simp] theorem regPut_nib (c : Chip) (a : Nat) (w : Word) : (regPut c a w).nib = c.nib := rfl
@[simp] theorem regPut_pwd (c : Chip) (a : Nat) (w : Word) : (regPut c a w).pwd = c.pwd := rfl
@[simp] theorem regPut_lsw (c : Chip) (a : Nat) (w : Word) : (regPut c a w).lsw = c.lsw := rfl
@[simp] theorem regPut_dsp (c : Chip) (a : Nat) (w : Word) : (regPut c a w).dsp = c.dsp := rfl
@[simp] theorem regPut_age (c : Chip) (a : Nat) (w : Word) : (regPut c a w).age = c.age := rfl
@[simp] theorem regPut_bp (c : Chip) (a : Nat) (w : Word) : (regPut c a w).bp = c.bp := rfl
@[simp] theorem regPut_host (c : Chip) (a : Nat) (w : Word) : (regPut c a w).host = c.host := rfl
@[simp] theorem regPut_fab (c : Chip) (a : Nat) (w : Word) : (regPut c a w).fab = c.fab := rfl
@[simp] theorem regPut_latched (c : Chip) (a : Nat) (w : Word) : (regPut c a w).latched = c.latched := rfl
@[simp] theorem regPut_repl (c : Chip) (a : Nat) (w : Word) : (regPut c a w).repl = c.repl := rfl
@[simp] theorem regPut_tru (c : Chip) (a : Nat) (w : Word) : (regPut c a w).tru = c.tru := rfl
@[simp] theorem regPut_upd (c : Chip) (a : Nat) (w : Word) : (regPut c a w).upd = c.upd := rfl
@[simp] theorem regPut_flt (c : Chip) (a : Nat) (w : Word) : (regPut c a w).flt = c.flt := rfl
@[simp] theorem regPut_blt (c : Chip) (a : Nat) (w : Word) : (regPut c a w).blt = c.blt := rfl
@[simp] theorem regPut_out (c : Chip) (a : Nat) (w : Word) : (regPut c a w).out = c.out := rfl
@[simp] theorem regPut_freeCount (c : Chip) (a : Nat) (w : Word) : (regPut c a w).freeCount = c.freeCount := rfl
@[simp] theorem livePut_regs (c : Chip) (a : Nat) (w : Word) : (livePut c a w).regs = c.regs := rfl
@[simp] theorem livePut_sup (c : Chip) (a : Nat) (w : Word) : (livePut c a w).sup = c.sup := rfl
@[simp] theorem livePut_wipe (c : Chip) (a : Nat) (w : Word) : (livePut c a w).wipe = c.wipe := rfl
@[simp] theorem livePut_cg (c : Chip) (a : Nat) (w : Word) : (livePut c a w).cg = c.cg := rfl
@[simp] theorem livePut_ns (c : Chip) (a : Nat) (w : Word) : (livePut c a w).ns = c.ns := rfl
@[simp] theorem livePut_tb (c : Chip) (a : Nat) (w : Word) : (livePut c a w).tb = c.tb := rfl
@[simp] theorem livePut_met (c : Chip) (a : Nat) (w : Word) : (livePut c a w).met = c.met := rfl
@[simp] theorem livePut_acc (c : Chip) (a : Nat) (w : Word) : (livePut c a w).acc = c.acc := rfl
@[simp] theorem livePut_tar (c : Chip) (a : Nat) (w : Word) : (livePut c a w).tar = c.tar := rfl
@[simp] theorem livePut_sess (c : Chip) (a : Nat) (w : Word) : (livePut c a w).sess = c.sess := rfl
@[simp] theorem livePut_leg (c : Chip) (a : Nat) (w : Word) : (livePut c a w).leg = c.leg := rfl
@[simp] theorem livePut_outl (c : Chip) (a : Nat) (w : Word) : (livePut c a w).outl = c.outl := rfl
@[simp] theorem livePut_saf (c : Chip) (a : Nat) (w : Word) : (livePut c a w).saf = c.saf := rfl
@[simp] theorem livePut_nib (c : Chip) (a : Nat) (w : Word) : (livePut c a w).nib = c.nib := rfl
@[simp] theorem livePut_pwd (c : Chip) (a : Nat) (w : Word) : (livePut c a w).pwd = c.pwd := rfl
@[simp] theorem livePut_lsw (c : Chip) (a : Nat) (w : Word) : (livePut c a w).lsw = c.lsw := rfl
@[simp] theorem livePut_dsp (c : Chip) (a : Nat) (w : Word) : (livePut c a w).dsp = c.dsp := rfl
@[simp] theorem livePut_age (c : Chip) (a : Nat) (w : Word) : (livePut c a w).age = c.age := rfl
@[simp] theorem livePut_bp (c : Chip) (a : Nat) (w : Word) : (livePut c a w).bp = c.bp := rfl
@[simp] theorem livePut_host (c : Chip) (a : Nat) (w : Word) : (livePut c a w).host = c.host := rfl
@[simp] theorem livePut_fab (c : Chip) (a : Nat) (w : Word) : (livePut c a w).fab = c.fab := rfl
@[simp] theorem livePut_latched (c : Chip) (a : Nat) (w : Word) : (livePut c a w).latched = c.latched := rfl
@[simp] theorem livePut_repl (c : Chip) (a : Nat) (w : Word) : (livePut c a w).repl = c.repl := rfl
@[simp] theorem livePut_tru (c : Chip) (a : Nat) (w : Word) : (livePut c a w).tru = c.tru := rfl
@[simp] theorem livePut_upd (c : Chip) (a : Nat) (w : Word) : (livePut c a w).upd = c.upd := rfl
@[simp] theorem livePut_flt (c : Chip) (a : Nat) (w : Word) : (livePut c a w).flt = c.flt := rfl
@[simp] theorem livePut_blt (c : Chip) (a : Nat) (w : Word) : (livePut c a w).blt = c.blt := rfl
@[simp] theorem livePut_out (c : Chip) (a : Nat) (w : Word) : (livePut c a w).out = c.out := rfl
@[simp] theorem livePut_freeCount (c : Chip) (a : Nat) (w : Word) : (livePut c a w).freeCount = c.freeCount := rfl
@[simp] theorem emit_regs (c : Chip) (e : Emit) : (emit c e).regs = c.regs := rfl
@[simp] theorem emit_live (c : Chip) (e : Emit) : (emit c e).live = c.live := rfl
@[simp] theorem emit_sup (c : Chip) (e : Emit) : (emit c e).sup = c.sup := rfl
@[simp] theorem emit_wipe (c : Chip) (e : Emit) : (emit c e).wipe = c.wipe := rfl
@[simp] theorem emit_cg (c : Chip) (e : Emit) : (emit c e).cg = c.cg := rfl
@[simp] theorem emit_ns (c : Chip) (e : Emit) : (emit c e).ns = c.ns := rfl
@[simp] theorem emit_tb (c : Chip) (e : Emit) : (emit c e).tb = c.tb := rfl
@[simp] theorem emit_met (c : Chip) (e : Emit) : (emit c e).met = c.met := rfl
@[simp] theorem emit_acc (c : Chip) (e : Emit) : (emit c e).acc = c.acc := rfl
@[simp] theorem emit_tar (c : Chip) (e : Emit) : (emit c e).tar = c.tar := rfl
@[simp] theorem emit_sess (c : Chip) (e : Emit) : (emit c e).sess = c.sess := rfl
@[simp] theorem emit_leg (c : Chip) (e : Emit) : (emit c e).leg = c.leg := rfl
@[simp] theorem emit_outl (c : Chip) (e : Emit) : (emit c e).outl = c.outl := rfl
@[simp] theorem emit_saf (c : Chip) (e : Emit) : (emit c e).saf = c.saf := rfl
@[simp] theorem emit_nib (c : Chip) (e : Emit) : (emit c e).nib = c.nib := rfl
@[simp] theorem emit_pwd (c : Chip) (e : Emit) : (emit c e).pwd = c.pwd := rfl
@[simp] theorem emit_lsw (c : Chip) (e : Emit) : (emit c e).lsw = c.lsw := rfl
@[simp] theorem emit_dsp (c : Chip) (e : Emit) : (emit c e).dsp = c.dsp := rfl
@[simp] theorem emit_age (c : Chip) (e : Emit) : (emit c e).age = c.age := rfl
@[simp] theorem emit_bp (c : Chip) (e : Emit) : (emit c e).bp = c.bp := rfl
@[simp] theorem emit_host (c : Chip) (e : Emit) : (emit c e).host = c.host := rfl
@[simp] theorem emit_fab (c : Chip) (e : Emit) : (emit c e).fab = c.fab := rfl
@[simp] theorem emit_latched (c : Chip) (e : Emit) : (emit c e).latched = c.latched := rfl
@[simp] theorem emit_repl (c : Chip) (e : Emit) : (emit c e).repl = c.repl := rfl
@[simp] theorem emit_tru (c : Chip) (e : Emit) : (emit c e).tru = c.tru := rfl
@[simp] theorem emit_upd (c : Chip) (e : Emit) : (emit c e).upd = c.upd := rfl
@[simp] theorem emit_flt (c : Chip) (e : Emit) : (emit c e).flt = c.flt := rfl
@[simp] theorem emit_blt (c : Chip) (e : Emit) : (emit c e).blt = c.blt := rfl
@[simp] theorem emit_freeCount (c : Chip) (e : Emit) : (emit c e).freeCount = c.freeCount := rfl
@[simp] theorem emits_regs (c : Chip) (es : List Emit) : (emits c es).regs = c.regs := rfl
@[simp] theorem emits_live (c : Chip) (es : List Emit) : (emits c es).live = c.live := rfl
@[simp] theorem emits_sup (c : Chip) (es : List Emit) : (emits c es).sup = c.sup := rfl
@[simp] theorem emits_wipe (c : Chip) (es : List Emit) : (emits c es).wipe = c.wipe := rfl
@[simp] theorem emits_cg (c : Chip) (es : List Emit) : (emits c es).cg = c.cg := rfl
@[simp] theorem emits_ns (c : Chip) (es : List Emit) : (emits c es).ns = c.ns := rfl
@[simp] theorem emits_tb (c : Chip) (es : List Emit) : (emits c es).tb = c.tb := rfl
@[simp] theorem emits_met (c : Chip) (es : List Emit) : (emits c es).met = c.met := rfl
@[simp] theorem emits_acc (c : Chip) (es : List Emit) : (emits c es).acc = c.acc := rfl
@[simp] theorem emits_tar (c : Chip) (es : List Emit) : (emits c es).tar = c.tar := rfl
@[simp] theorem emits_sess (c : Chip) (es : List Emit) : (emits c es).sess = c.sess := rfl
@[simp] theorem emits_leg (c : Chip) (es : List Emit) : (emits c es).leg = c.leg := rfl
@[simp] theorem emits_outl (c : Chip) (es : List Emit) : (emits c es).outl = c.outl := rfl
@[simp] theorem emits_saf (c : Chip) (es : List Emit) : (emits c es).saf = c.saf := rfl
@[simp] theorem emits_nib (c : Chip) (es : List Emit) : (emits c es).nib = c.nib := rfl
@[simp] theorem emits_pwd (c : Chip) (es : List Emit) : (emits c es).pwd = c.pwd := rfl
@[simp] theorem emits_lsw (c : Chip) (es : List Emit) : (emits c es).lsw = c.lsw := rfl
@[simp] theorem emits_dsp (c : Chip) (es : List Emit) : (emits c es).dsp = c.dsp := rfl
@[simp] theorem emits_age (c : Chip) (es : List Emit) : (emits c es).age = c.age := rfl
@[simp] theorem emits_bp (c : Chip) (es : List Emit) : (emits c es).bp = c.bp := rfl
@[simp] theorem emits_host (c : Chip) (es : List Emit) : (emits c es).host = c.host := rfl
@[simp] theorem emits_fab (c : Chip) (es : List Emit) : (emits c es).fab = c.fab := rfl
@[simp] theorem emits_latched (c : Chip) (es : List Emit) : (emits c es).latched = c.latched := rfl
@[simp] theorem emits_repl (c : Chip) (es : List Emit) : (emits c es).repl = c.repl := rfl
@[simp] theorem emits_tru (c : Chip) (es : List Emit) : (emits c es).tru = c.tru := rfl
@[simp] theorem emits_upd (c : Chip) (es : List Emit) : (emits c es).upd = c.upd := rfl
@[simp] theorem emits_flt (c : Chip) (es : List Emit) : (emits c es).flt = c.flt := rfl
@[simp] theorem emits_blt (c : Chip) (es : List Emit) : (emits c es).blt = c.blt := rfl
@[simp] theorem emits_freeCount (c : Chip) (es : List Emit) : (emits c es).freeCount = c.freeCount := rfl
@[simp] theorem clearBits_live (c : Chip) (a : Nat) (w : Word) : (clearBits c a w).live = c.live := rfl
@[simp] theorem clearBits_sup (c : Chip) (a : Nat) (w : Word) : (clearBits c a w).sup = c.sup := rfl
@[simp] theorem clearBits_wipe (c : Chip) (a : Nat) (w : Word) : (clearBits c a w).wipe = c.wipe := rfl
@[simp] theorem clearBits_cg (c : Chip) (a : Nat) (w : Word) : (clearBits c a w).cg = c.cg := rfl
@[simp] theorem clearBits_ns (c : Chip) (a : Nat) (w : Word) : (clearBits c a w).ns = c.ns := rfl
@[simp] theorem clearBits_tb (c : Chip) (a : Nat) (w : Word) : (clearBits c a w).tb = c.tb := rfl
@[simp] theorem clearBits_met (c : Chip) (a : Nat) (w : Word) : (clearBits c a w).met = c.met := rfl
@[simp] theorem clearBits_acc (c : Chip) (a : Nat) (w : Word) : (clearBits c a w).acc = c.acc := rfl
@[simp] theorem clearBits_tar (c : Chip) (a : Nat) (w : Word) : (clearBits c a w).tar = c.tar := rfl
@[simp] theorem clearBits_sess (c : Chip) (a : Nat) (w : Word) : (clearBits c a w).sess = c.sess := rfl
@[simp] theorem clearBits_leg (c : Chip) (a : Nat) (w : Word) : (clearBits c a w).leg = c.leg := rfl
@[simp] theorem clearBits_outl (c : Chip) (a : Nat) (w : Word) : (clearBits c a w).outl = c.outl := rfl
@[simp] theorem clearBits_saf (c : Chip) (a : Nat) (w : Word) : (clearBits c a w).saf = c.saf := rfl
@[simp] theorem clearBits_nib (c : Chip) (a : Nat) (w : Word) : (clearBits c a w).nib = c.nib := rfl
@[simp] theorem clearBits_pwd (c : Chip) (a : Nat) (w : Word) : (clearBits c a w).pwd = c.pwd := rfl
@[simp] theorem clearBits_lsw (c : Chip) (a : Nat) (w : Word) : (clearBits c a w).lsw = c.lsw := rfl
@[simp] theorem clearBits_dsp (c : Chip) (a : Nat) (w : Word) : (clearBits c a w).dsp = c.dsp := rfl
@[simp] theorem clearBits_age (c : Chip) (a : Nat) (w : Word) : (clearBits c a w).age = c.age := rfl
@[simp] theorem clearBits_bp (c : Chip) (a : Nat) (w : Word) : (clearBits c a w).bp = c.bp := rfl
@[simp] theorem clearBits_host (c : Chip) (a : Nat) (w : Word) : (clearBits c a w).host = c.host := rfl
@[simp] theorem clearBits_fab (c : Chip) (a : Nat) (w : Word) : (clearBits c a w).fab = c.fab := rfl
@[simp] theorem clearBits_latched (c : Chip) (a : Nat) (w : Word) : (clearBits c a w).latched = c.latched := rfl
@[simp] theorem clearBits_repl (c : Chip) (a : Nat) (w : Word) : (clearBits c a w).repl = c.repl := rfl
@[simp] theorem clearBits_tru (c : Chip) (a : Nat) (w : Word) : (clearBits c a w).tru = c.tru := rfl
@[simp] theorem clearBits_upd (c : Chip) (a : Nat) (w : Word) : (clearBits c a w).upd = c.upd := rfl
@[simp] theorem clearBits_flt (c : Chip) (a : Nat) (w : Word) : (clearBits c a w).flt = c.flt := rfl
@[simp] theorem clearBits_blt (c : Chip) (a : Nat) (w : Word) : (clearBits c a w).blt = c.blt := rfl
@[simp] theorem clearBits_out (c : Chip) (a : Nat) (w : Word) : (clearBits c a w).out = c.out := rfl
@[simp] theorem clearBits_freeCount (c : Chip) (a : Nat) (w : Word) : (clearBits c a w).freeCount = c.freeCount := rfl
@[simp] theorem takeFree_regs (c : Chip) : (takeFree c).regs = c.regs := rfl
@[simp] theorem takeFree_live (c : Chip) : (takeFree c).live = c.live := rfl
@[simp] theorem takeFree_sup (c : Chip) : (takeFree c).sup = c.sup := rfl
@[simp] theorem takeFree_wipe (c : Chip) : (takeFree c).wipe = c.wipe := rfl
@[simp] theorem takeFree_cg (c : Chip) : (takeFree c).cg = c.cg := rfl
@[simp] theorem takeFree_ns (c : Chip) : (takeFree c).ns = c.ns := rfl
@[simp] theorem takeFree_tb (c : Chip) : (takeFree c).tb = c.tb := rfl
@[simp] theorem takeFree_met (c : Chip) : (takeFree c).met = c.met := rfl
@[simp] theorem takeFree_acc (c : Chip) : (takeFree c).acc = c.acc := rfl
@[simp] theorem takeFree_tar (c : Chip) : (takeFree c).tar = c.tar := rfl
@[simp] theorem takeFree_sess (c : Chip) : (takeFree c).sess = c.sess := rfl
@[simp] theorem takeFree_leg (c : Chip) : (takeFree c).leg = c.leg := rfl
@[simp] theorem takeFree_outl (c : Chip) : (takeFree c).outl = c.outl := rfl
@[simp] theorem takeFree_saf (c : Chip) : (takeFree c).saf = c.saf := rfl
@[simp] theorem takeFree_nib (c : Chip) : (takeFree c).nib = c.nib := rfl
@[simp] theorem takeFree_pwd (c : Chip) : (takeFree c).pwd = c.pwd := rfl
@[simp] theorem takeFree_lsw (c : Chip) : (takeFree c).lsw = c.lsw := rfl
@[simp] theorem takeFree_dsp (c : Chip) : (takeFree c).dsp = c.dsp := rfl
@[simp] theorem takeFree_age (c : Chip) : (takeFree c).age = c.age := rfl
@[simp] theorem takeFree_bp (c : Chip) : (takeFree c).bp = c.bp := rfl
@[simp] theorem takeFree_host (c : Chip) : (takeFree c).host = c.host := rfl
@[simp] theorem takeFree_fab (c : Chip) : (takeFree c).fab = c.fab := rfl
@[simp] theorem takeFree_latched (c : Chip) : (takeFree c).latched = c.latched := rfl
@[simp] theorem takeFree_repl (c : Chip) : (takeFree c).repl = c.repl := rfl
@[simp] theorem takeFree_tru (c : Chip) : (takeFree c).tru = c.tru := rfl
@[simp] theorem takeFree_upd (c : Chip) : (takeFree c).upd = c.upd := rfl
@[simp] theorem takeFree_flt (c : Chip) : (takeFree c).flt = c.flt := rfl
@[simp] theorem takeFree_blt (c : Chip) : (takeFree c).blt = c.blt := rfl
@[simp] theorem takeFree_out (c : Chip) : (takeFree c).out = c.out := rfl
@[simp] theorem setLane_regs (c : Chip) (n : Nat) (l : LaneSt) : (setLane c n l).regs = c.regs := rfl
@[simp] theorem setLane_live (c : Chip) (n : Nat) (l : LaneSt) : (setLane c n l).live = c.live := rfl
@[simp] theorem setLane_sup (c : Chip) (n : Nat) (l : LaneSt) : (setLane c n l).sup = c.sup := rfl
@[simp] theorem setLane_wipe (c : Chip) (n : Nat) (l : LaneSt) : (setLane c n l).wipe = c.wipe := rfl
@[simp] theorem setLane_cg (c : Chip) (n : Nat) (l : LaneSt) : (setLane c n l).cg = c.cg := rfl
@[simp] theorem setLane_ns (c : Chip) (n : Nat) (l : LaneSt) : (setLane c n l).ns = c.ns := rfl
@[simp] theorem setLane_tb (c : Chip) (n : Nat) (l : LaneSt) : (setLane c n l).tb = c.tb := rfl
@[simp] theorem setLane_acc (c : Chip) (n : Nat) (l : LaneSt) : (setLane c n l).acc = c.acc := rfl
@[simp] theorem setLane_tar (c : Chip) (n : Nat) (l : LaneSt) : (setLane c n l).tar = c.tar := rfl
@[simp] theorem setLane_sess (c : Chip) (n : Nat) (l : LaneSt) : (setLane c n l).sess = c.sess := rfl
@[simp] theorem setLane_leg (c : Chip) (n : Nat) (l : LaneSt) : (setLane c n l).leg = c.leg := rfl
@[simp] theorem setLane_outl (c : Chip) (n : Nat) (l : LaneSt) : (setLane c n l).outl = c.outl := rfl
@[simp] theorem setLane_saf (c : Chip) (n : Nat) (l : LaneSt) : (setLane c n l).saf = c.saf := rfl
@[simp] theorem setLane_nib (c : Chip) (n : Nat) (l : LaneSt) : (setLane c n l).nib = c.nib := rfl
@[simp] theorem setLane_pwd (c : Chip) (n : Nat) (l : LaneSt) : (setLane c n l).pwd = c.pwd := rfl
@[simp] theorem setLane_lsw (c : Chip) (n : Nat) (l : LaneSt) : (setLane c n l).lsw = c.lsw := rfl
@[simp] theorem setLane_dsp (c : Chip) (n : Nat) (l : LaneSt) : (setLane c n l).dsp = c.dsp := rfl
@[simp] theorem setLane_age (c : Chip) (n : Nat) (l : LaneSt) : (setLane c n l).age = c.age := rfl
@[simp] theorem setLane_bp (c : Chip) (n : Nat) (l : LaneSt) : (setLane c n l).bp = c.bp := rfl
@[simp] theorem setLane_host (c : Chip) (n : Nat) (l : LaneSt) : (setLane c n l).host = c.host := rfl
@[simp] theorem setLane_fab (c : Chip) (n : Nat) (l : LaneSt) : (setLane c n l).fab = c.fab := rfl
@[simp] theorem setLane_latched (c : Chip) (n : Nat) (l : LaneSt) : (setLane c n l).latched = c.latched := rfl
@[simp] theorem setLane_repl (c : Chip) (n : Nat) (l : LaneSt) : (setLane c n l).repl = c.repl := rfl
@[simp] theorem setLane_tru (c : Chip) (n : Nat) (l : LaneSt) : (setLane c n l).tru = c.tru := rfl
@[simp] theorem setLane_upd (c : Chip) (n : Nat) (l : LaneSt) : (setLane c n l).upd = c.upd := rfl
@[simp] theorem setLane_flt (c : Chip) (n : Nat) (l : LaneSt) : (setLane c n l).flt = c.flt := rfl
@[simp] theorem setLane_blt (c : Chip) (n : Nat) (l : LaneSt) : (setLane c n l).blt = c.blt := rfl
@[simp] theorem setLane_out (c : Chip) (n : Nat) (l : LaneSt) : (setLane c n l).out = c.out := rfl
@[simp] theorem setLane_freeCount (c : Chip) (n : Nat) (l : LaneSt) : (setLane c n l).freeCount = c.freeCount := rfl
@[simp] theorem setPt_regs (c : Chip) (m : Nat) (x : PointSt) : (setPt c m x).regs = c.regs := rfl
@[simp] theorem setPt_live (c : Chip) (m : Nat) (x : PointSt) : (setPt c m x).live = c.live := rfl
@[simp] theorem setPt_sup (c : Chip) (m : Nat) (x : PointSt) : (setPt c m x).sup = c.sup := rfl
@[simp] theorem setPt_wipe (c : Chip) (m : Nat) (x : PointSt) : (setPt c m x).wipe = c.wipe := rfl
@[simp] theorem setPt_cg (c : Chip) (m : Nat) (x : PointSt) : (setPt c m x).cg = c.cg := rfl
@[simp] theorem setPt_ns (c : Chip) (m : Nat) (x : PointSt) : (setPt c m x).ns = c.ns := rfl
@[simp] theorem setPt_tb (c : Chip) (m : Nat) (x : PointSt) : (setPt c m x).tb = c.tb := rfl
@[simp] theorem setPt_acc (c : Chip) (m : Nat) (x : PointSt) : (setPt c m x).acc = c.acc := rfl
@[simp] theorem setPt_tar (c : Chip) (m : Nat) (x : PointSt) : (setPt c m x).tar = c.tar := rfl
@[simp] theorem setPt_sess (c : Chip) (m : Nat) (x : PointSt) : (setPt c m x).sess = c.sess := rfl
@[simp] theorem setPt_leg (c : Chip) (m : Nat) (x : PointSt) : (setPt c m x).leg = c.leg := rfl
@[simp] theorem setPt_outl (c : Chip) (m : Nat) (x : PointSt) : (setPt c m x).outl = c.outl := rfl
@[simp] theorem setPt_saf (c : Chip) (m : Nat) (x : PointSt) : (setPt c m x).saf = c.saf := rfl
@[simp] theorem setPt_nib (c : Chip) (m : Nat) (x : PointSt) : (setPt c m x).nib = c.nib := rfl
@[simp] theorem setPt_pwd (c : Chip) (m : Nat) (x : PointSt) : (setPt c m x).pwd = c.pwd := rfl
@[simp] theorem setPt_lsw (c : Chip) (m : Nat) (x : PointSt) : (setPt c m x).lsw = c.lsw := rfl
@[simp] theorem setPt_dsp (c : Chip) (m : Nat) (x : PointSt) : (setPt c m x).dsp = c.dsp := rfl
@[simp] theorem setPt_age (c : Chip) (m : Nat) (x : PointSt) : (setPt c m x).age = c.age := rfl
@[simp] theorem setPt_bp (c : Chip) (m : Nat) (x : PointSt) : (setPt c m x).bp = c.bp := rfl
@[simp] theorem setPt_host (c : Chip) (m : Nat) (x : PointSt) : (setPt c m x).host = c.host := rfl
@[simp] theorem setPt_fab (c : Chip) (m : Nat) (x : PointSt) : (setPt c m x).fab = c.fab := rfl
@[simp] theorem setPt_latched (c : Chip) (m : Nat) (x : PointSt) : (setPt c m x).latched = c.latched := rfl
@[simp] theorem setPt_repl (c : Chip) (m : Nat) (x : PointSt) : (setPt c m x).repl = c.repl := rfl
@[simp] theorem setPt_tru (c : Chip) (m : Nat) (x : PointSt) : (setPt c m x).tru = c.tru := rfl
@[simp] theorem setPt_upd (c : Chip) (m : Nat) (x : PointSt) : (setPt c m x).upd = c.upd := rfl
@[simp] theorem setPt_flt (c : Chip) (m : Nat) (x : PointSt) : (setPt c m x).flt = c.flt := rfl
@[simp] theorem setPt_blt (c : Chip) (m : Nat) (x : PointSt) : (setPt c m x).blt = c.blt := rfl
@[simp] theorem setPt_out (c : Chip) (m : Nat) (x : PointSt) : (setPt c m x).out = c.out := rfl
@[simp] theorem setPt_freeCount (c : Chip) (m : Nat) (x : PointSt) : (setPt c m x).freeCount = c.freeCount := rfl
@[simp] theorem setOutlet_regs (c : Chip) (o : Nat) (x : OutletSt) : (setOutlet c o x).regs = c.regs := rfl
@[simp] theorem setOutlet_live (c : Chip) (o : Nat) (x : OutletSt) : (setOutlet c o x).live = c.live := rfl
@[simp] theorem setOutlet_sup (c : Chip) (o : Nat) (x : OutletSt) : (setOutlet c o x).sup = c.sup := rfl
@[simp] theorem setOutlet_wipe (c : Chip) (o : Nat) (x : OutletSt) : (setOutlet c o x).wipe = c.wipe := rfl
@[simp] theorem setOutlet_cg (c : Chip) (o : Nat) (x : OutletSt) : (setOutlet c o x).cg = c.cg := rfl
@[simp] theorem setOutlet_ns (c : Chip) (o : Nat) (x : OutletSt) : (setOutlet c o x).ns = c.ns := rfl
@[simp] theorem setOutlet_tb (c : Chip) (o : Nat) (x : OutletSt) : (setOutlet c o x).tb = c.tb := rfl
@[simp] theorem setOutlet_met (c : Chip) (o : Nat) (x : OutletSt) : (setOutlet c o x).met = c.met := rfl
@[simp] theorem setOutlet_acc (c : Chip) (o : Nat) (x : OutletSt) : (setOutlet c o x).acc = c.acc := rfl
@[simp] theorem setOutlet_tar (c : Chip) (o : Nat) (x : OutletSt) : (setOutlet c o x).tar = c.tar := rfl
@[simp] theorem setOutlet_sess (c : Chip) (o : Nat) (x : OutletSt) : (setOutlet c o x).sess = c.sess := rfl
@[simp] theorem setOutlet_leg (c : Chip) (o : Nat) (x : OutletSt) : (setOutlet c o x).leg = c.leg := rfl
@[simp] theorem setOutlet_saf (c : Chip) (o : Nat) (x : OutletSt) : (setOutlet c o x).saf = c.saf := rfl
@[simp] theorem setOutlet_nib (c : Chip) (o : Nat) (x : OutletSt) : (setOutlet c o x).nib = c.nib := rfl
@[simp] theorem setOutlet_pwd (c : Chip) (o : Nat) (x : OutletSt) : (setOutlet c o x).pwd = c.pwd := rfl
@[simp] theorem setOutlet_lsw (c : Chip) (o : Nat) (x : OutletSt) : (setOutlet c o x).lsw = c.lsw := rfl
@[simp] theorem setOutlet_dsp (c : Chip) (o : Nat) (x : OutletSt) : (setOutlet c o x).dsp = c.dsp := rfl
@[simp] theorem setOutlet_age (c : Chip) (o : Nat) (x : OutletSt) : (setOutlet c o x).age = c.age := rfl
@[simp] theorem setOutlet_bp (c : Chip) (o : Nat) (x : OutletSt) : (setOutlet c o x).bp = c.bp := rfl
@[simp] theorem setOutlet_host (c : Chip) (o : Nat) (x : OutletSt) : (setOutlet c o x).host = c.host := rfl
@[simp] theorem setOutlet_fab (c : Chip) (o : Nat) (x : OutletSt) : (setOutlet c o x).fab = c.fab := rfl
@[simp] theorem setOutlet_latched (c : Chip) (o : Nat) (x : OutletSt) : (setOutlet c o x).latched = c.latched := rfl
@[simp] theorem setOutlet_repl (c : Chip) (o : Nat) (x : OutletSt) : (setOutlet c o x).repl = c.repl := rfl
@[simp] theorem setOutlet_tru (c : Chip) (o : Nat) (x : OutletSt) : (setOutlet c o x).tru = c.tru := rfl
@[simp] theorem setOutlet_upd (c : Chip) (o : Nat) (x : OutletSt) : (setOutlet c o x).upd = c.upd := rfl
@[simp] theorem setOutlet_flt (c : Chip) (o : Nat) (x : OutletSt) : (setOutlet c o x).flt = c.flt := rfl
@[simp] theorem setOutlet_blt (c : Chip) (o : Nat) (x : OutletSt) : (setOutlet c o x).blt = c.blt := rfl
@[simp] theorem setOutlet_out (c : Chip) (o : Nat) (x : OutletSt) : (setOutlet c o x).out = c.out := rfl
@[simp] theorem setOutlet_freeCount (c : Chip) (o : Nat) (x : OutletSt) : (setOutlet c o x).freeCount = c.freeCount := rfl
@[simp] theorem modOutlet_regs (c : Chip) (o : Nat) (f : OutletSt → OutletSt) : (modOutlet c o f).regs = c.regs := rfl
@[simp] theorem modOutlet_live (c : Chip) (o : Nat) (f : OutletSt → OutletSt) : (modOutlet c o f).live = c.live := rfl
@[simp] theorem modOutlet_sup (c : Chip) (o : Nat) (f : OutletSt → OutletSt) : (modOutlet c o f).sup = c.sup := rfl
@[simp] theorem modOutlet_wipe (c : Chip) (o : Nat) (f : OutletSt → OutletSt) : (modOutlet c o f).wipe = c.wipe := rfl
@[simp] theorem modOutlet_cg (c : Chip) (o : Nat) (f : OutletSt → OutletSt) : (modOutlet c o f).cg = c.cg := rfl
@[simp] theorem modOutlet_ns (c : Chip) (o : Nat) (f : OutletSt → OutletSt) : (modOutlet c o f).ns = c.ns := rfl
@[simp] theorem modOutlet_tb (c : Chip) (o : Nat) (f : OutletSt → OutletSt) : (modOutlet c o f).tb = c.tb := rfl
@[simp] theorem modOutlet_met (c : Chip) (o : Nat) (f : OutletSt → OutletSt) : (modOutlet c o f).met = c.met := rfl
@[simp] theorem modOutlet_acc (c : Chip) (o : Nat) (f : OutletSt → OutletSt) : (modOutlet c o f).acc = c.acc := rfl
@[simp] theorem modOutlet_tar (c : Chip) (o : Nat) (f : OutletSt → OutletSt) : (modOutlet c o f).tar = c.tar := rfl
@[simp] theorem modOutlet_sess (c : Chip) (o : Nat) (f : OutletSt → OutletSt) : (modOutlet c o f).sess = c.sess := rfl
@[simp] theorem modOutlet_leg (c : Chip) (o : Nat) (f : OutletSt → OutletSt) : (modOutlet c o f).leg = c.leg := rfl
@[simp] theorem modOutlet_saf (c : Chip) (o : Nat) (f : OutletSt → OutletSt) : (modOutlet c o f).saf = c.saf := rfl
@[simp] theorem modOutlet_nib (c : Chip) (o : Nat) (f : OutletSt → OutletSt) : (modOutlet c o f).nib = c.nib := rfl
@[simp] theorem modOutlet_pwd (c : Chip) (o : Nat) (f : OutletSt → OutletSt) : (modOutlet c o f).pwd = c.pwd := rfl
@[simp] theorem modOutlet_lsw (c : Chip) (o : Nat) (f : OutletSt → OutletSt) : (modOutlet c o f).lsw = c.lsw := rfl
@[simp] theorem modOutlet_dsp (c : Chip) (o : Nat) (f : OutletSt → OutletSt) : (modOutlet c o f).dsp = c.dsp := rfl
@[simp] theorem modOutlet_age (c : Chip) (o : Nat) (f : OutletSt → OutletSt) : (modOutlet c o f).age = c.age := rfl
@[simp] theorem modOutlet_bp (c : Chip) (o : Nat) (f : OutletSt → OutletSt) : (modOutlet c o f).bp = c.bp := rfl
@[simp] theorem modOutlet_host (c : Chip) (o : Nat) (f : OutletSt → OutletSt) : (modOutlet c o f).host = c.host := rfl
@[simp] theorem modOutlet_fab (c : Chip) (o : Nat) (f : OutletSt → OutletSt) : (modOutlet c o f).fab = c.fab := rfl
@[simp] theorem modOutlet_latched (c : Chip) (o : Nat) (f : OutletSt → OutletSt) : (modOutlet c o f).latched = c.latched := rfl
@[simp] theorem modOutlet_repl (c : Chip) (o : Nat) (f : OutletSt → OutletSt) : (modOutlet c o f).repl = c.repl := rfl
@[simp] theorem modOutlet_tru (c : Chip) (o : Nat) (f : OutletSt → OutletSt) : (modOutlet c o f).tru = c.tru := rfl
@[simp] theorem modOutlet_upd (c : Chip) (o : Nat) (f : OutletSt → OutletSt) : (modOutlet c o f).upd = c.upd := rfl
@[simp] theorem modOutlet_flt (c : Chip) (o : Nat) (f : OutletSt → OutletSt) : (modOutlet c o f).flt = c.flt := rfl
@[simp] theorem modOutlet_blt (c : Chip) (o : Nat) (f : OutletSt → OutletSt) : (modOutlet c o f).blt = c.blt := rfl
@[simp] theorem modOutlet_out (c : Chip) (o : Nat) (f : OutletSt → OutletSt) : (modOutlet c o f).out = c.out := rfl
@[simp] theorem modOutlet_freeCount (c : Chip) (o : Nat) (f : OutletSt → OutletSt) : (modOutlet c o f).freeCount = c.freeCount := rfl
@[simp] theorem setCoil_regs (c : Chip) (o : Nat) (k : Coil) : (setCoil c o k).regs = c.regs := rfl
@[simp] theorem setCoil_live (c : Chip) (o : Nat) (k : Coil) : (setCoil c o k).live = c.live := rfl
@[simp] theorem setCoil_sup (c : Chip) (o : Nat) (k : Coil) : (setCoil c o k).sup = c.sup := rfl
@[simp] theorem setCoil_wipe (c : Chip) (o : Nat) (k : Coil) : (setCoil c o k).wipe = c.wipe := rfl
@[simp] theorem setCoil_cg (c : Chip) (o : Nat) (k : Coil) : (setCoil c o k).cg = c.cg := rfl
@[simp] theorem setCoil_ns (c : Chip) (o : Nat) (k : Coil) : (setCoil c o k).ns = c.ns := rfl
@[simp] theorem setCoil_tb (c : Chip) (o : Nat) (k : Coil) : (setCoil c o k).tb = c.tb := rfl
@[simp] theorem setCoil_met (c : Chip) (o : Nat) (k : Coil) : (setCoil c o k).met = c.met := rfl
@[simp] theorem setCoil_acc (c : Chip) (o : Nat) (k : Coil) : (setCoil c o k).acc = c.acc := rfl
@[simp] theorem setCoil_tar (c : Chip) (o : Nat) (k : Coil) : (setCoil c o k).tar = c.tar := rfl
@[simp] theorem setCoil_sess (c : Chip) (o : Nat) (k : Coil) : (setCoil c o k).sess = c.sess := rfl
@[simp] theorem setCoil_leg (c : Chip) (o : Nat) (k : Coil) : (setCoil c o k).leg = c.leg := rfl
@[simp] theorem setCoil_outl (c : Chip) (o : Nat) (k : Coil) : (setCoil c o k).outl = c.outl := rfl
@[simp] theorem setCoil_saf (c : Chip) (o : Nat) (k : Coil) : (setCoil c o k).saf = c.saf := rfl
@[simp] theorem setCoil_nib (c : Chip) (o : Nat) (k : Coil) : (setCoil c o k).nib = c.nib := rfl
@[simp] theorem setCoil_lsw (c : Chip) (o : Nat) (k : Coil) : (setCoil c o k).lsw = c.lsw := rfl
@[simp] theorem setCoil_dsp (c : Chip) (o : Nat) (k : Coil) : (setCoil c o k).dsp = c.dsp := rfl
@[simp] theorem setCoil_age (c : Chip) (o : Nat) (k : Coil) : (setCoil c o k).age = c.age := rfl
@[simp] theorem setCoil_bp (c : Chip) (o : Nat) (k : Coil) : (setCoil c o k).bp = c.bp := rfl
@[simp] theorem setCoil_host (c : Chip) (o : Nat) (k : Coil) : (setCoil c o k).host = c.host := rfl
@[simp] theorem setCoil_fab (c : Chip) (o : Nat) (k : Coil) : (setCoil c o k).fab = c.fab := rfl
@[simp] theorem setCoil_latched (c : Chip) (o : Nat) (k : Coil) : (setCoil c o k).latched = c.latched := rfl
@[simp] theorem setCoil_repl (c : Chip) (o : Nat) (k : Coil) : (setCoil c o k).repl = c.repl := rfl
@[simp] theorem setCoil_tru (c : Chip) (o : Nat) (k : Coil) : (setCoil c o k).tru = c.tru := rfl
@[simp] theorem setCoil_upd (c : Chip) (o : Nat) (k : Coil) : (setCoil c o k).upd = c.upd := rfl
@[simp] theorem setCoil_flt (c : Chip) (o : Nat) (k : Coil) : (setCoil c o k).flt = c.flt := rfl
@[simp] theorem setCoil_blt (c : Chip) (o : Nat) (k : Coil) : (setCoil c o k).blt = c.blt := rfl
@[simp] theorem setCoil_out (c : Chip) (o : Nat) (k : Coil) : (setCoil c o k).out = c.out := rfl
@[simp] theorem setCoil_freeCount (c : Chip) (o : Nat) (k : Coil) : (setCoil c o k).freeCount = c.freeCount := rfl
@[simp] theorem setLsw_regs (c : Chip) (n : Nat) (x : LswSt) : (setLsw c n x).regs = c.regs := rfl
@[simp] theorem setLsw_live (c : Chip) (n : Nat) (x : LswSt) : (setLsw c n x).live = c.live := rfl
@[simp] theorem setLsw_sup (c : Chip) (n : Nat) (x : LswSt) : (setLsw c n x).sup = c.sup := rfl
@[simp] theorem setLsw_wipe (c : Chip) (n : Nat) (x : LswSt) : (setLsw c n x).wipe = c.wipe := rfl
@[simp] theorem setLsw_cg (c : Chip) (n : Nat) (x : LswSt) : (setLsw c n x).cg = c.cg := rfl
@[simp] theorem setLsw_ns (c : Chip) (n : Nat) (x : LswSt) : (setLsw c n x).ns = c.ns := rfl
@[simp] theorem setLsw_tb (c : Chip) (n : Nat) (x : LswSt) : (setLsw c n x).tb = c.tb := rfl
@[simp] theorem setLsw_met (c : Chip) (n : Nat) (x : LswSt) : (setLsw c n x).met = c.met := rfl
@[simp] theorem setLsw_acc (c : Chip) (n : Nat) (x : LswSt) : (setLsw c n x).acc = c.acc := rfl
@[simp] theorem setLsw_tar (c : Chip) (n : Nat) (x : LswSt) : (setLsw c n x).tar = c.tar := rfl
@[simp] theorem setLsw_sess (c : Chip) (n : Nat) (x : LswSt) : (setLsw c n x).sess = c.sess := rfl
@[simp] theorem setLsw_leg (c : Chip) (n : Nat) (x : LswSt) : (setLsw c n x).leg = c.leg := rfl
@[simp] theorem setLsw_outl (c : Chip) (n : Nat) (x : LswSt) : (setLsw c n x).outl = c.outl := rfl
@[simp] theorem setLsw_saf (c : Chip) (n : Nat) (x : LswSt) : (setLsw c n x).saf = c.saf := rfl
@[simp] theorem setLsw_nib (c : Chip) (n : Nat) (x : LswSt) : (setLsw c n x).nib = c.nib := rfl
@[simp] theorem setLsw_pwd (c : Chip) (n : Nat) (x : LswSt) : (setLsw c n x).pwd = c.pwd := rfl
@[simp] theorem setLsw_dsp (c : Chip) (n : Nat) (x : LswSt) : (setLsw c n x).dsp = c.dsp := rfl
@[simp] theorem setLsw_age (c : Chip) (n : Nat) (x : LswSt) : (setLsw c n x).age = c.age := rfl
@[simp] theorem setLsw_bp (c : Chip) (n : Nat) (x : LswSt) : (setLsw c n x).bp = c.bp := rfl
@[simp] theorem setLsw_host (c : Chip) (n : Nat) (x : LswSt) : (setLsw c n x).host = c.host := rfl
@[simp] theorem setLsw_fab (c : Chip) (n : Nat) (x : LswSt) : (setLsw c n x).fab = c.fab := rfl
@[simp] theorem setLsw_latched (c : Chip) (n : Nat) (x : LswSt) : (setLsw c n x).latched = c.latched := rfl
@[simp] theorem setLsw_repl (c : Chip) (n : Nat) (x : LswSt) : (setLsw c n x).repl = c.repl := rfl
@[simp] theorem setLsw_tru (c : Chip) (n : Nat) (x : LswSt) : (setLsw c n x).tru = c.tru := rfl
@[simp] theorem setLsw_upd (c : Chip) (n : Nat) (x : LswSt) : (setLsw c n x).upd = c.upd := rfl
@[simp] theorem setLsw_flt (c : Chip) (n : Nat) (x : LswSt) : (setLsw c n x).flt = c.flt := rfl
@[simp] theorem setLsw_blt (c : Chip) (n : Nat) (x : LswSt) : (setLsw c n x).blt = c.blt := rfl
@[simp] theorem setLsw_out (c : Chip) (n : Nat) (x : LswSt) : (setLsw c n x).out = c.out := rfl
@[simp] theorem setLsw_freeCount (c : Chip) (n : Nat) (x : LswSt) : (setLsw c n x).freeCount = c.freeCount := rfl
@[simp] theorem modLsw_regs (c : Chip) (n : Nat) (f : LswSt → LswSt) : (modLsw c n f).regs = c.regs := rfl
@[simp] theorem modLsw_live (c : Chip) (n : Nat) (f : LswSt → LswSt) : (modLsw c n f).live = c.live := rfl
@[simp] theorem modLsw_sup (c : Chip) (n : Nat) (f : LswSt → LswSt) : (modLsw c n f).sup = c.sup := rfl
@[simp] theorem modLsw_wipe (c : Chip) (n : Nat) (f : LswSt → LswSt) : (modLsw c n f).wipe = c.wipe := rfl
@[simp] theorem modLsw_cg (c : Chip) (n : Nat) (f : LswSt → LswSt) : (modLsw c n f).cg = c.cg := rfl
@[simp] theorem modLsw_ns (c : Chip) (n : Nat) (f : LswSt → LswSt) : (modLsw c n f).ns = c.ns := rfl
@[simp] theorem modLsw_tb (c : Chip) (n : Nat) (f : LswSt → LswSt) : (modLsw c n f).tb = c.tb := rfl
@[simp] theorem modLsw_met (c : Chip) (n : Nat) (f : LswSt → LswSt) : (modLsw c n f).met = c.met := rfl
@[simp] theorem modLsw_acc (c : Chip) (n : Nat) (f : LswSt → LswSt) : (modLsw c n f).acc = c.acc := rfl
@[simp] theorem modLsw_tar (c : Chip) (n : Nat) (f : LswSt → LswSt) : (modLsw c n f).tar = c.tar := rfl
@[simp] theorem modLsw_sess (c : Chip) (n : Nat) (f : LswSt → LswSt) : (modLsw c n f).sess = c.sess := rfl
@[simp] theorem modLsw_leg (c : Chip) (n : Nat) (f : LswSt → LswSt) : (modLsw c n f).leg = c.leg := rfl
@[simp] theorem modLsw_outl (c : Chip) (n : Nat) (f : LswSt → LswSt) : (modLsw c n f).outl = c.outl := rfl
@[simp] theorem modLsw_saf (c : Chip) (n : Nat) (f : LswSt → LswSt) : (modLsw c n f).saf = c.saf := rfl
@[simp] theorem modLsw_nib (c : Chip) (n : Nat) (f : LswSt → LswSt) : (modLsw c n f).nib = c.nib := rfl
@[simp] theorem modLsw_pwd (c : Chip) (n : Nat) (f : LswSt → LswSt) : (modLsw c n f).pwd = c.pwd := rfl
@[simp] theorem modLsw_dsp (c : Chip) (n : Nat) (f : LswSt → LswSt) : (modLsw c n f).dsp = c.dsp := rfl
@[simp] theorem modLsw_age (c : Chip) (n : Nat) (f : LswSt → LswSt) : (modLsw c n f).age = c.age := rfl
@[simp] theorem modLsw_bp (c : Chip) (n : Nat) (f : LswSt → LswSt) : (modLsw c n f).bp = c.bp := rfl
@[simp] theorem modLsw_host (c : Chip) (n : Nat) (f : LswSt → LswSt) : (modLsw c n f).host = c.host := rfl
@[simp] theorem modLsw_fab (c : Chip) (n : Nat) (f : LswSt → LswSt) : (modLsw c n f).fab = c.fab := rfl
@[simp] theorem modLsw_latched (c : Chip) (n : Nat) (f : LswSt → LswSt) : (modLsw c n f).latched = c.latched := rfl
@[simp] theorem modLsw_repl (c : Chip) (n : Nat) (f : LswSt → LswSt) : (modLsw c n f).repl = c.repl := rfl
@[simp] theorem modLsw_tru (c : Chip) (n : Nat) (f : LswSt → LswSt) : (modLsw c n f).tru = c.tru := rfl
@[simp] theorem modLsw_upd (c : Chip) (n : Nat) (f : LswSt → LswSt) : (modLsw c n f).upd = c.upd := rfl
@[simp] theorem modLsw_flt (c : Chip) (n : Nat) (f : LswSt → LswSt) : (modLsw c n f).flt = c.flt := rfl
@[simp] theorem modLsw_blt (c : Chip) (n : Nat) (f : LswSt → LswSt) : (modLsw c n f).blt = c.blt := rfl
@[simp] theorem modLsw_out (c : Chip) (n : Nat) (f : LswSt → LswSt) : (modLsw c n f).out = c.out := rfl
@[simp] theorem modLsw_freeCount (c : Chip) (n : Nat) (f : LswSt → LswSt) : (modLsw c n f).freeCount = c.freeCount := rfl
@[simp] theorem setCtx_regs (c : Chip) (x : Nat) (k : Context) : (setCtx c x k).regs = c.regs := rfl
@[simp] theorem setCtx_live (c : Chip) (x : Nat) (k : Context) : (setCtx c x k).live = c.live := rfl
@[simp] theorem setCtx_sup (c : Chip) (x : Nat) (k : Context) : (setCtx c x k).sup = c.sup := rfl
@[simp] theorem setCtx_wipe (c : Chip) (x : Nat) (k : Context) : (setCtx c x k).wipe = c.wipe := rfl
@[simp] theorem setCtx_cg (c : Chip) (x : Nat) (k : Context) : (setCtx c x k).cg = c.cg := rfl
@[simp] theorem setCtx_ns (c : Chip) (x : Nat) (k : Context) : (setCtx c x k).ns = c.ns := rfl
@[simp] theorem setCtx_tb (c : Chip) (x : Nat) (k : Context) : (setCtx c x k).tb = c.tb := rfl
@[simp] theorem setCtx_met (c : Chip) (x : Nat) (k : Context) : (setCtx c x k).met = c.met := rfl
@[simp] theorem setCtx_acc (c : Chip) (x : Nat) (k : Context) : (setCtx c x k).acc = c.acc := rfl
@[simp] theorem setCtx_tar (c : Chip) (x : Nat) (k : Context) : (setCtx c x k).tar = c.tar := rfl
@[simp] theorem setCtx_leg (c : Chip) (x : Nat) (k : Context) : (setCtx c x k).leg = c.leg := rfl
@[simp] theorem setCtx_outl (c : Chip) (x : Nat) (k : Context) : (setCtx c x k).outl = c.outl := rfl
@[simp] theorem setCtx_saf (c : Chip) (x : Nat) (k : Context) : (setCtx c x k).saf = c.saf := rfl
@[simp] theorem setCtx_nib (c : Chip) (x : Nat) (k : Context) : (setCtx c x k).nib = c.nib := rfl
@[simp] theorem setCtx_pwd (c : Chip) (x : Nat) (k : Context) : (setCtx c x k).pwd = c.pwd := rfl
@[simp] theorem setCtx_lsw (c : Chip) (x : Nat) (k : Context) : (setCtx c x k).lsw = c.lsw := rfl
@[simp] theorem setCtx_dsp (c : Chip) (x : Nat) (k : Context) : (setCtx c x k).dsp = c.dsp := rfl
@[simp] theorem setCtx_age (c : Chip) (x : Nat) (k : Context) : (setCtx c x k).age = c.age := rfl
@[simp] theorem setCtx_bp (c : Chip) (x : Nat) (k : Context) : (setCtx c x k).bp = c.bp := rfl
@[simp] theorem setCtx_host (c : Chip) (x : Nat) (k : Context) : (setCtx c x k).host = c.host := rfl
@[simp] theorem setCtx_fab (c : Chip) (x : Nat) (k : Context) : (setCtx c x k).fab = c.fab := rfl
@[simp] theorem setCtx_latched (c : Chip) (x : Nat) (k : Context) : (setCtx c x k).latched = c.latched := rfl
@[simp] theorem setCtx_repl (c : Chip) (x : Nat) (k : Context) : (setCtx c x k).repl = c.repl := rfl
@[simp] theorem setCtx_tru (c : Chip) (x : Nat) (k : Context) : (setCtx c x k).tru = c.tru := rfl
@[simp] theorem setCtx_upd (c : Chip) (x : Nat) (k : Context) : (setCtx c x k).upd = c.upd := rfl
@[simp] theorem setCtx_flt (c : Chip) (x : Nat) (k : Context) : (setCtx c x k).flt = c.flt := rfl
@[simp] theorem setCtx_blt (c : Chip) (x : Nat) (k : Context) : (setCtx c x k).blt = c.blt := rfl
@[simp] theorem setCtx_out (c : Chip) (x : Nat) (k : Context) : (setCtx c x k).out = c.out := rfl
@[simp] theorem setCtx_freeCount (c : Chip) (x : Nat) (k : Context) : (setCtx c x k).freeCount = c.freeCount := rfl
@[simp] theorem setFport_regs (c : Chip) (p : Nat) (x : FPortSt) : (setFport c p x).regs = c.regs := rfl
@[simp] theorem setFport_live (c : Chip) (p : Nat) (x : FPortSt) : (setFport c p x).live = c.live := rfl
@[simp] theorem setFport_sup (c : Chip) (p : Nat) (x : FPortSt) : (setFport c p x).sup = c.sup := rfl
@[simp] theorem setFport_wipe (c : Chip) (p : Nat) (x : FPortSt) : (setFport c p x).wipe = c.wipe := rfl
@[simp] theorem setFport_cg (c : Chip) (p : Nat) (x : FPortSt) : (setFport c p x).cg = c.cg := rfl
@[simp] theorem setFport_ns (c : Chip) (p : Nat) (x : FPortSt) : (setFport c p x).ns = c.ns := rfl
@[simp] theorem setFport_tb (c : Chip) (p : Nat) (x : FPortSt) : (setFport c p x).tb = c.tb := rfl
@[simp] theorem setFport_met (c : Chip) (p : Nat) (x : FPortSt) : (setFport c p x).met = c.met := rfl
@[simp] theorem setFport_acc (c : Chip) (p : Nat) (x : FPortSt) : (setFport c p x).acc = c.acc := rfl
@[simp] theorem setFport_tar (c : Chip) (p : Nat) (x : FPortSt) : (setFport c p x).tar = c.tar := rfl
@[simp] theorem setFport_sess (c : Chip) (p : Nat) (x : FPortSt) : (setFport c p x).sess = c.sess := rfl
@[simp] theorem setFport_leg (c : Chip) (p : Nat) (x : FPortSt) : (setFport c p x).leg = c.leg := rfl
@[simp] theorem setFport_outl (c : Chip) (p : Nat) (x : FPortSt) : (setFport c p x).outl = c.outl := rfl
@[simp] theorem setFport_saf (c : Chip) (p : Nat) (x : FPortSt) : (setFport c p x).saf = c.saf := rfl
@[simp] theorem setFport_nib (c : Chip) (p : Nat) (x : FPortSt) : (setFport c p x).nib = c.nib := rfl
@[simp] theorem setFport_pwd (c : Chip) (p : Nat) (x : FPortSt) : (setFport c p x).pwd = c.pwd := rfl
@[simp] theorem setFport_lsw (c : Chip) (p : Nat) (x : FPortSt) : (setFport c p x).lsw = c.lsw := rfl
@[simp] theorem setFport_dsp (c : Chip) (p : Nat) (x : FPortSt) : (setFport c p x).dsp = c.dsp := rfl
@[simp] theorem setFport_age (c : Chip) (p : Nat) (x : FPortSt) : (setFport c p x).age = c.age := rfl
@[simp] theorem setFport_bp (c : Chip) (p : Nat) (x : FPortSt) : (setFport c p x).bp = c.bp := rfl
@[simp] theorem setFport_host (c : Chip) (p : Nat) (x : FPortSt) : (setFport c p x).host = c.host := rfl
@[simp] theorem setFport_repl (c : Chip) (p : Nat) (x : FPortSt) : (setFport c p x).repl = c.repl := rfl
@[simp] theorem setFport_tru (c : Chip) (p : Nat) (x : FPortSt) : (setFport c p x).tru = c.tru := rfl
@[simp] theorem setFport_upd (c : Chip) (p : Nat) (x : FPortSt) : (setFport c p x).upd = c.upd := rfl
@[simp] theorem setFport_flt (c : Chip) (p : Nat) (x : FPortSt) : (setFport c p x).flt = c.flt := rfl
@[simp] theorem setFport_blt (c : Chip) (p : Nat) (x : FPortSt) : (setFport c p x).blt = c.blt := rfl
@[simp] theorem setFport_out (c : Chip) (p : Nat) (x : FPortSt) : (setFport c p x).out = c.out := rfl
@[simp] theorem setFport_freeCount (c : Chip) (p : Nat) (x : FPortSt) : (setFport c p x).freeCount = c.freeCount := rfl
@[simp] theorem setRing_regs (c : Chip) (q : Nat) (r : RingSt) : (setRing c q r).regs = c.regs := rfl
@[simp] theorem setRing_live (c : Chip) (q : Nat) (r : RingSt) : (setRing c q r).live = c.live := rfl
@[simp] theorem setRing_sup (c : Chip) (q : Nat) (r : RingSt) : (setRing c q r).sup = c.sup := rfl
@[simp] theorem setRing_wipe (c : Chip) (q : Nat) (r : RingSt) : (setRing c q r).wipe = c.wipe := rfl
@[simp] theorem setRing_cg (c : Chip) (q : Nat) (r : RingSt) : (setRing c q r).cg = c.cg := rfl
@[simp] theorem setRing_ns (c : Chip) (q : Nat) (r : RingSt) : (setRing c q r).ns = c.ns := rfl
@[simp] theorem setRing_tb (c : Chip) (q : Nat) (r : RingSt) : (setRing c q r).tb = c.tb := rfl
@[simp] theorem setRing_met (c : Chip) (q : Nat) (r : RingSt) : (setRing c q r).met = c.met := rfl
@[simp] theorem setRing_acc (c : Chip) (q : Nat) (r : RingSt) : (setRing c q r).acc = c.acc := rfl
@[simp] theorem setRing_tar (c : Chip) (q : Nat) (r : RingSt) : (setRing c q r).tar = c.tar := rfl
@[simp] theorem setRing_sess (c : Chip) (q : Nat) (r : RingSt) : (setRing c q r).sess = c.sess := rfl
@[simp] theorem setRing_leg (c : Chip) (q : Nat) (r : RingSt) : (setRing c q r).leg = c.leg := rfl
@[simp] theorem setRing_outl (c : Chip) (q : Nat) (r : RingSt) : (setRing c q r).outl = c.outl := rfl
@[simp] theorem setRing_saf (c : Chip) (q : Nat) (r : RingSt) : (setRing c q r).saf = c.saf := rfl
@[simp] theorem setRing_nib (c : Chip) (q : Nat) (r : RingSt) : (setRing c q r).nib = c.nib := rfl
@[simp] theorem setRing_pwd (c : Chip) (q : Nat) (r : RingSt) : (setRing c q r).pwd = c.pwd := rfl
@[simp] theorem setRing_lsw (c : Chip) (q : Nat) (r : RingSt) : (setRing c q r).lsw = c.lsw := rfl
@[simp] theorem setRing_dsp (c : Chip) (q : Nat) (r : RingSt) : (setRing c q r).dsp = c.dsp := rfl
@[simp] theorem setRing_age (c : Chip) (q : Nat) (r : RingSt) : (setRing c q r).age = c.age := rfl
@[simp] theorem setRing_bp (c : Chip) (q : Nat) (r : RingSt) : (setRing c q r).bp = c.bp := rfl
@[simp] theorem setRing_fab (c : Chip) (q : Nat) (r : RingSt) : (setRing c q r).fab = c.fab := rfl
@[simp] theorem setRing_latched (c : Chip) (q : Nat) (r : RingSt) : (setRing c q r).latched = c.latched := rfl
@[simp] theorem setRing_repl (c : Chip) (q : Nat) (r : RingSt) : (setRing c q r).repl = c.repl := rfl
@[simp] theorem setRing_tru (c : Chip) (q : Nat) (r : RingSt) : (setRing c q r).tru = c.tru := rfl
@[simp] theorem setRing_upd (c : Chip) (q : Nat) (r : RingSt) : (setRing c q r).upd = c.upd := rfl
@[simp] theorem setRing_flt (c : Chip) (q : Nat) (r : RingSt) : (setRing c q r).flt = c.flt := rfl
@[simp] theorem setRing_blt (c : Chip) (q : Nat) (r : RingSt) : (setRing c q r).blt = c.blt := rfl
@[simp] theorem setRing_out (c : Chip) (q : Nat) (r : RingSt) : (setRing c q r).out = c.out := rfl
@[simp] theorem setRing_freeCount (c : Chip) (q : Nat) (r : RingSt) : (setRing c q r).freeCount = c.freeCount := rfl
@[simp] theorem setSrc_regs (c : Chip) (s : Nat) (x : Src) : (setSrc c s x).regs = c.regs := rfl
@[simp] theorem setSrc_live (c : Chip) (s : Nat) (x : Src) : (setSrc c s x).live = c.live := rfl
@[simp] theorem setSrc_sup (c : Chip) (s : Nat) (x : Src) : (setSrc c s x).sup = c.sup := rfl
@[simp] theorem setSrc_wipe (c : Chip) (s : Nat) (x : Src) : (setSrc c s x).wipe = c.wipe := rfl
@[simp] theorem setSrc_cg (c : Chip) (s : Nat) (x : Src) : (setSrc c s x).cg = c.cg := rfl
@[simp] theorem setSrc_ns (c : Chip) (s : Nat) (x : Src) : (setSrc c s x).ns = c.ns := rfl
@[simp] theorem setSrc_tb (c : Chip) (s : Nat) (x : Src) : (setSrc c s x).tb = c.tb := rfl
@[simp] theorem setSrc_met (c : Chip) (s : Nat) (x : Src) : (setSrc c s x).met = c.met := rfl
@[simp] theorem setSrc_acc (c : Chip) (s : Nat) (x : Src) : (setSrc c s x).acc = c.acc := rfl
@[simp] theorem setSrc_tar (c : Chip) (s : Nat) (x : Src) : (setSrc c s x).tar = c.tar := rfl
@[simp] theorem setSrc_sess (c : Chip) (s : Nat) (x : Src) : (setSrc c s x).sess = c.sess := rfl
@[simp] theorem setSrc_leg (c : Chip) (s : Nat) (x : Src) : (setSrc c s x).leg = c.leg := rfl
@[simp] theorem setSrc_outl (c : Chip) (s : Nat) (x : Src) : (setSrc c s x).outl = c.outl := rfl
@[simp] theorem setSrc_saf (c : Chip) (s : Nat) (x : Src) : (setSrc c s x).saf = c.saf := rfl
@[simp] theorem setSrc_nib (c : Chip) (s : Nat) (x : Src) : (setSrc c s x).nib = c.nib := rfl
@[simp] theorem setSrc_pwd (c : Chip) (s : Nat) (x : Src) : (setSrc c s x).pwd = c.pwd := rfl
@[simp] theorem setSrc_lsw (c : Chip) (s : Nat) (x : Src) : (setSrc c s x).lsw = c.lsw := rfl
@[simp] theorem setSrc_dsp (c : Chip) (s : Nat) (x : Src) : (setSrc c s x).dsp = c.dsp := rfl
@[simp] theorem setSrc_age (c : Chip) (s : Nat) (x : Src) : (setSrc c s x).age = c.age := rfl
@[simp] theorem setSrc_bp (c : Chip) (s : Nat) (x : Src) : (setSrc c s x).bp = c.bp := rfl
@[simp] theorem setSrc_host (c : Chip) (s : Nat) (x : Src) : (setSrc c s x).host = c.host := rfl
@[simp] theorem setSrc_fab (c : Chip) (s : Nat) (x : Src) : (setSrc c s x).fab = c.fab := rfl
@[simp] theorem setSrc_latched (c : Chip) (s : Nat) (x : Src) : (setSrc c s x).latched = c.latched := rfl
@[simp] theorem setSrc_repl (c : Chip) (s : Nat) (x : Src) : (setSrc c s x).repl = c.repl := rfl
@[simp] theorem setSrc_tru (c : Chip) (s : Nat) (x : Src) : (setSrc c s x).tru = c.tru := rfl
@[simp] theorem setSrc_upd (c : Chip) (s : Nat) (x : Src) : (setSrc c s x).upd = c.upd := rfl
@[simp] theorem setSrc_blt (c : Chip) (s : Nat) (x : Src) : (setSrc c s x).blt = c.blt := rfl
@[simp] theorem setSrc_out (c : Chip) (s : Nat) (x : Src) : (setSrc c s x).out = c.out := rfl
@[simp] theorem setSrc_freeCount (c : Chip) (s : Nat) (x : Src) : (setSrc c s x).freeCount = c.freeCount := rfl
@[simp] theorem postPwd_regs (c : Chip) (a : Nat) (w : Word) (r : Option Requester) : (postPwd c a w r).regs = c.regs := rfl
@[simp] theorem postPwd_live (c : Chip) (a : Nat) (w : Word) (r : Option Requester) : (postPwd c a w r).live = c.live := rfl
@[simp] theorem postPwd_sup (c : Chip) (a : Nat) (w : Word) (r : Option Requester) : (postPwd c a w r).sup = c.sup := rfl
@[simp] theorem postPwd_wipe (c : Chip) (a : Nat) (w : Word) (r : Option Requester) : (postPwd c a w r).wipe = c.wipe := rfl
@[simp] theorem postPwd_cg (c : Chip) (a : Nat) (w : Word) (r : Option Requester) : (postPwd c a w r).cg = c.cg := rfl
@[simp] theorem postPwd_ns (c : Chip) (a : Nat) (w : Word) (r : Option Requester) : (postPwd c a w r).ns = c.ns := rfl
@[simp] theorem postPwd_tb (c : Chip) (a : Nat) (w : Word) (r : Option Requester) : (postPwd c a w r).tb = c.tb := rfl
@[simp] theorem postPwd_met (c : Chip) (a : Nat) (w : Word) (r : Option Requester) : (postPwd c a w r).met = c.met := rfl
@[simp] theorem postPwd_acc (c : Chip) (a : Nat) (w : Word) (r : Option Requester) : (postPwd c a w r).acc = c.acc := rfl
@[simp] theorem postPwd_tar (c : Chip) (a : Nat) (w : Word) (r : Option Requester) : (postPwd c a w r).tar = c.tar := rfl
@[simp] theorem postPwd_sess (c : Chip) (a : Nat) (w : Word) (r : Option Requester) : (postPwd c a w r).sess = c.sess := rfl
@[simp] theorem postPwd_leg (c : Chip) (a : Nat) (w : Word) (r : Option Requester) : (postPwd c a w r).leg = c.leg := rfl
@[simp] theorem postPwd_outl (c : Chip) (a : Nat) (w : Word) (r : Option Requester) : (postPwd c a w r).outl = c.outl := rfl
@[simp] theorem postPwd_saf (c : Chip) (a : Nat) (w : Word) (r : Option Requester) : (postPwd c a w r).saf = c.saf := rfl
@[simp] theorem postPwd_nib (c : Chip) (a : Nat) (w : Word) (r : Option Requester) : (postPwd c a w r).nib = c.nib := rfl
@[simp] theorem postPwd_lsw (c : Chip) (a : Nat) (w : Word) (r : Option Requester) : (postPwd c a w r).lsw = c.lsw := rfl
@[simp] theorem postPwd_dsp (c : Chip) (a : Nat) (w : Word) (r : Option Requester) : (postPwd c a w r).dsp = c.dsp := rfl
@[simp] theorem postPwd_age (c : Chip) (a : Nat) (w : Word) (r : Option Requester) : (postPwd c a w r).age = c.age := rfl
@[simp] theorem postPwd_bp (c : Chip) (a : Nat) (w : Word) (r : Option Requester) : (postPwd c a w r).bp = c.bp := rfl
@[simp] theorem postPwd_host (c : Chip) (a : Nat) (w : Word) (r : Option Requester) : (postPwd c a w r).host = c.host := rfl
@[simp] theorem postPwd_fab (c : Chip) (a : Nat) (w : Word) (r : Option Requester) : (postPwd c a w r).fab = c.fab := rfl
@[simp] theorem postPwd_latched (c : Chip) (a : Nat) (w : Word) (r : Option Requester) : (postPwd c a w r).latched = c.latched := rfl
@[simp] theorem postPwd_repl (c : Chip) (a : Nat) (w : Word) (r : Option Requester) : (postPwd c a w r).repl = c.repl := rfl
@[simp] theorem postPwd_tru (c : Chip) (a : Nat) (w : Word) (r : Option Requester) : (postPwd c a w r).tru = c.tru := rfl
@[simp] theorem postPwd_upd (c : Chip) (a : Nat) (w : Word) (r : Option Requester) : (postPwd c a w r).upd = c.upd := rfl
@[simp] theorem postPwd_flt (c : Chip) (a : Nat) (w : Word) (r : Option Requester) : (postPwd c a w r).flt = c.flt := rfl
@[simp] theorem postPwd_blt (c : Chip) (a : Nat) (w : Word) (r : Option Requester) : (postPwd c a w r).blt = c.blt := rfl
@[simp] theorem postPwd_out (c : Chip) (a : Nat) (w : Word) (r : Option Requester) : (postPwd c a w r).out = c.out := rfl
@[simp] theorem postPwd_freeCount (c : Chip) (a : Nat) (w : Word) (r : Option Requester) : (postPwd c a w r).freeCount = c.freeCount := rfl
@[simp] theorem modHost_regs (c : Chip) (f : HostIf → HostIf) : (modHost c f).regs = c.regs := rfl
@[simp] theorem modHost_live (c : Chip) (f : HostIf → HostIf) : (modHost c f).live = c.live := rfl
@[simp] theorem modHost_sup (c : Chip) (f : HostIf → HostIf) : (modHost c f).sup = c.sup := rfl
@[simp] theorem modHost_wipe (c : Chip) (f : HostIf → HostIf) : (modHost c f).wipe = c.wipe := rfl
@[simp] theorem modHost_cg (c : Chip) (f : HostIf → HostIf) : (modHost c f).cg = c.cg := rfl
@[simp] theorem modHost_ns (c : Chip) (f : HostIf → HostIf) : (modHost c f).ns = c.ns := rfl
@[simp] theorem modHost_tb (c : Chip) (f : HostIf → HostIf) : (modHost c f).tb = c.tb := rfl
@[simp] theorem modHost_met (c : Chip) (f : HostIf → HostIf) : (modHost c f).met = c.met := rfl
@[simp] theorem modHost_acc (c : Chip) (f : HostIf → HostIf) : (modHost c f).acc = c.acc := rfl
@[simp] theorem modHost_tar (c : Chip) (f : HostIf → HostIf) : (modHost c f).tar = c.tar := rfl
@[simp] theorem modHost_sess (c : Chip) (f : HostIf → HostIf) : (modHost c f).sess = c.sess := rfl
@[simp] theorem modHost_leg (c : Chip) (f : HostIf → HostIf) : (modHost c f).leg = c.leg := rfl
@[simp] theorem modHost_outl (c : Chip) (f : HostIf → HostIf) : (modHost c f).outl = c.outl := rfl
@[simp] theorem modHost_saf (c : Chip) (f : HostIf → HostIf) : (modHost c f).saf = c.saf := rfl
@[simp] theorem modHost_nib (c : Chip) (f : HostIf → HostIf) : (modHost c f).nib = c.nib := rfl
@[simp] theorem modHost_pwd (c : Chip) (f : HostIf → HostIf) : (modHost c f).pwd = c.pwd := rfl
@[simp] theorem modHost_lsw (c : Chip) (f : HostIf → HostIf) : (modHost c f).lsw = c.lsw := rfl
@[simp] theorem modHost_dsp (c : Chip) (f : HostIf → HostIf) : (modHost c f).dsp = c.dsp := rfl
@[simp] theorem modHost_age (c : Chip) (f : HostIf → HostIf) : (modHost c f).age = c.age := rfl
@[simp] theorem modHost_bp (c : Chip) (f : HostIf → HostIf) : (modHost c f).bp = c.bp := rfl
@[simp] theorem modHost_fab (c : Chip) (f : HostIf → HostIf) : (modHost c f).fab = c.fab := rfl
@[simp] theorem modHost_latched (c : Chip) (f : HostIf → HostIf) : (modHost c f).latched = c.latched := rfl
@[simp] theorem modHost_repl (c : Chip) (f : HostIf → HostIf) : (modHost c f).repl = c.repl := rfl
@[simp] theorem modHost_tru (c : Chip) (f : HostIf → HostIf) : (modHost c f).tru = c.tru := rfl
@[simp] theorem modHost_upd (c : Chip) (f : HostIf → HostIf) : (modHost c f).upd = c.upd := rfl
@[simp] theorem modHost_flt (c : Chip) (f : HostIf → HostIf) : (modHost c f).flt = c.flt := rfl
@[simp] theorem modHost_blt (c : Chip) (f : HostIf → HostIf) : (modHost c f).blt = c.blt := rfl
@[simp] theorem modHost_out (c : Chip) (f : HostIf → HostIf) : (modHost c f).out = c.out := rfl
@[simp] theorem modHost_freeCount (c : Chip) (f : HostIf → HostIf) : (modHost c f).freeCount = c.freeCount := rfl
@[simp] theorem modFab_regs (c : Chip) (f : Fab → Fab) : (modFab c f).regs = c.regs := rfl
@[simp] theorem modFab_live (c : Chip) (f : Fab → Fab) : (modFab c f).live = c.live := rfl
@[simp] theorem modFab_sup (c : Chip) (f : Fab → Fab) : (modFab c f).sup = c.sup := rfl
@[simp] theorem modFab_wipe (c : Chip) (f : Fab → Fab) : (modFab c f).wipe = c.wipe := rfl
@[simp] theorem modFab_cg (c : Chip) (f : Fab → Fab) : (modFab c f).cg = c.cg := rfl
@[simp] theorem modFab_ns (c : Chip) (f : Fab → Fab) : (modFab c f).ns = c.ns := rfl
@[simp] theorem modFab_tb (c : Chip) (f : Fab → Fab) : (modFab c f).tb = c.tb := rfl
@[simp] theorem modFab_met (c : Chip) (f : Fab → Fab) : (modFab c f).met = c.met := rfl
@[simp] theorem modFab_acc (c : Chip) (f : Fab → Fab) : (modFab c f).acc = c.acc := rfl
@[simp] theorem modFab_tar (c : Chip) (f : Fab → Fab) : (modFab c f).tar = c.tar := rfl
@[simp] theorem modFab_sess (c : Chip) (f : Fab → Fab) : (modFab c f).sess = c.sess := rfl
@[simp] theorem modFab_leg (c : Chip) (f : Fab → Fab) : (modFab c f).leg = c.leg := rfl
@[simp] theorem modFab_outl (c : Chip) (f : Fab → Fab) : (modFab c f).outl = c.outl := rfl
@[simp] theorem modFab_saf (c : Chip) (f : Fab → Fab) : (modFab c f).saf = c.saf := rfl
@[simp] theorem modFab_nib (c : Chip) (f : Fab → Fab) : (modFab c f).nib = c.nib := rfl
@[simp] theorem modFab_pwd (c : Chip) (f : Fab → Fab) : (modFab c f).pwd = c.pwd := rfl
@[simp] theorem modFab_lsw (c : Chip) (f : Fab → Fab) : (modFab c f).lsw = c.lsw := rfl
@[simp] theorem modFab_dsp (c : Chip) (f : Fab → Fab) : (modFab c f).dsp = c.dsp := rfl
@[simp] theorem modFab_age (c : Chip) (f : Fab → Fab) : (modFab c f).age = c.age := rfl
@[simp] theorem modFab_bp (c : Chip) (f : Fab → Fab) : (modFab c f).bp = c.bp := rfl
@[simp] theorem modFab_host (c : Chip) (f : Fab → Fab) : (modFab c f).host = c.host := rfl
@[simp] theorem modFab_repl (c : Chip) (f : Fab → Fab) : (modFab c f).repl = c.repl := rfl
@[simp] theorem modFab_tru (c : Chip) (f : Fab → Fab) : (modFab c f).tru = c.tru := rfl
@[simp] theorem modFab_upd (c : Chip) (f : Fab → Fab) : (modFab c f).upd = c.upd := rfl
@[simp] theorem modFab_flt (c : Chip) (f : Fab → Fab) : (modFab c f).flt = c.flt := rfl
@[simp] theorem modFab_blt (c : Chip) (f : Fab → Fab) : (modFab c f).blt = c.blt := rfl
@[simp] theorem modFab_out (c : Chip) (f : Fab → Fab) : (modFab c f).out = c.out := rfl
@[simp] theorem modFab_freeCount (c : Chip) (f : Fab → Fab) : (modFab c f).freeCount = c.freeCount := rfl
@[simp] theorem modDsp_regs (c : Chip) (f : Dsp → Dsp) : (modDsp c f).regs = c.regs := rfl
@[simp] theorem modDsp_live (c : Chip) (f : Dsp → Dsp) : (modDsp c f).live = c.live := rfl
@[simp] theorem modDsp_sup (c : Chip) (f : Dsp → Dsp) : (modDsp c f).sup = c.sup := rfl
@[simp] theorem modDsp_wipe (c : Chip) (f : Dsp → Dsp) : (modDsp c f).wipe = c.wipe := rfl
@[simp] theorem modDsp_cg (c : Chip) (f : Dsp → Dsp) : (modDsp c f).cg = c.cg := rfl
@[simp] theorem modDsp_ns (c : Chip) (f : Dsp → Dsp) : (modDsp c f).ns = c.ns := rfl
@[simp] theorem modDsp_tb (c : Chip) (f : Dsp → Dsp) : (modDsp c f).tb = c.tb := rfl
@[simp] theorem modDsp_met (c : Chip) (f : Dsp → Dsp) : (modDsp c f).met = c.met := rfl
@[simp] theorem modDsp_acc (c : Chip) (f : Dsp → Dsp) : (modDsp c f).acc = c.acc := rfl
@[simp] theorem modDsp_tar (c : Chip) (f : Dsp → Dsp) : (modDsp c f).tar = c.tar := rfl
@[simp] theorem modDsp_sess (c : Chip) (f : Dsp → Dsp) : (modDsp c f).sess = c.sess := rfl
@[simp] theorem modDsp_leg (c : Chip) (f : Dsp → Dsp) : (modDsp c f).leg = c.leg := rfl
@[simp] theorem modDsp_outl (c : Chip) (f : Dsp → Dsp) : (modDsp c f).outl = c.outl := rfl
@[simp] theorem modDsp_saf (c : Chip) (f : Dsp → Dsp) : (modDsp c f).saf = c.saf := rfl
@[simp] theorem modDsp_nib (c : Chip) (f : Dsp → Dsp) : (modDsp c f).nib = c.nib := rfl
@[simp] theorem modDsp_pwd (c : Chip) (f : Dsp → Dsp) : (modDsp c f).pwd = c.pwd := rfl
@[simp] theorem modDsp_lsw (c : Chip) (f : Dsp → Dsp) : (modDsp c f).lsw = c.lsw := rfl
@[simp] theorem modDsp_age (c : Chip) (f : Dsp → Dsp) : (modDsp c f).age = c.age := rfl
@[simp] theorem modDsp_bp (c : Chip) (f : Dsp → Dsp) : (modDsp c f).bp = c.bp := rfl
@[simp] theorem modDsp_host (c : Chip) (f : Dsp → Dsp) : (modDsp c f).host = c.host := rfl
@[simp] theorem modDsp_fab (c : Chip) (f : Dsp → Dsp) : (modDsp c f).fab = c.fab := rfl
@[simp] theorem modDsp_latched (c : Chip) (f : Dsp → Dsp) : (modDsp c f).latched = c.latched := rfl
@[simp] theorem modDsp_repl (c : Chip) (f : Dsp → Dsp) : (modDsp c f).repl = c.repl := rfl
@[simp] theorem modDsp_tru (c : Chip) (f : Dsp → Dsp) : (modDsp c f).tru = c.tru := rfl
@[simp] theorem modDsp_upd (c : Chip) (f : Dsp → Dsp) : (modDsp c f).upd = c.upd := rfl
@[simp] theorem modDsp_flt (c : Chip) (f : Dsp → Dsp) : (modDsp c f).flt = c.flt := rfl
@[simp] theorem modDsp_blt (c : Chip) (f : Dsp → Dsp) : (modDsp c f).blt = c.blt := rfl
@[simp] theorem modDsp_out (c : Chip) (f : Dsp → Dsp) : (modDsp c f).out = c.out := rfl
@[simp] theorem modDsp_freeCount (c : Chip) (f : Dsp → Dsp) : (modDsp c f).freeCount = c.freeCount := rfl
@[simp] theorem modUpd_regs (c : Chip) (f : Upd → Upd) : (modUpd c f).regs = c.regs := rfl
@[simp] theorem modUpd_live (c : Chip) (f : Upd → Upd) : (modUpd c f).live = c.live := rfl
@[simp] theorem modUpd_sup (c : Chip) (f : Upd → Upd) : (modUpd c f).sup = c.sup := rfl
@[simp] theorem modUpd_wipe (c : Chip) (f : Upd → Upd) : (modUpd c f).wipe = c.wipe := rfl
@[simp] theorem modUpd_cg (c : Chip) (f : Upd → Upd) : (modUpd c f).cg = c.cg := rfl
@[simp] theorem modUpd_ns (c : Chip) (f : Upd → Upd) : (modUpd c f).ns = c.ns := rfl
@[simp] theorem modUpd_tb (c : Chip) (f : Upd → Upd) : (modUpd c f).tb = c.tb := rfl
@[simp] theorem modUpd_met (c : Chip) (f : Upd → Upd) : (modUpd c f).met = c.met := rfl
@[simp] theorem modUpd_acc (c : Chip) (f : Upd → Upd) : (modUpd c f).acc = c.acc := rfl
@[simp] theorem modUpd_tar (c : Chip) (f : Upd → Upd) : (modUpd c f).tar = c.tar := rfl
@[simp] theorem modUpd_sess (c : Chip) (f : Upd → Upd) : (modUpd c f).sess = c.sess := rfl
@[simp] theorem modUpd_leg (c : Chip) (f : Upd → Upd) : (modUpd c f).leg = c.leg := rfl
@[simp] theorem modUpd_outl (c : Chip) (f : Upd → Upd) : (modUpd c f).outl = c.outl := rfl
@[simp] theorem modUpd_saf (c : Chip) (f : Upd → Upd) : (modUpd c f).saf = c.saf := rfl
@[simp] theorem modUpd_nib (c : Chip) (f : Upd → Upd) : (modUpd c f).nib = c.nib := rfl
@[simp] theorem modUpd_pwd (c : Chip) (f : Upd → Upd) : (modUpd c f).pwd = c.pwd := rfl
@[simp] theorem modUpd_lsw (c : Chip) (f : Upd → Upd) : (modUpd c f).lsw = c.lsw := rfl
@[simp] theorem modUpd_dsp (c : Chip) (f : Upd → Upd) : (modUpd c f).dsp = c.dsp := rfl
@[simp] theorem modUpd_age (c : Chip) (f : Upd → Upd) : (modUpd c f).age = c.age := rfl
@[simp] theorem modUpd_bp (c : Chip) (f : Upd → Upd) : (modUpd c f).bp = c.bp := rfl
@[simp] theorem modUpd_host (c : Chip) (f : Upd → Upd) : (modUpd c f).host = c.host := rfl
@[simp] theorem modUpd_fab (c : Chip) (f : Upd → Upd) : (modUpd c f).fab = c.fab := rfl
@[simp] theorem modUpd_latched (c : Chip) (f : Upd → Upd) : (modUpd c f).latched = c.latched := rfl
@[simp] theorem modUpd_repl (c : Chip) (f : Upd → Upd) : (modUpd c f).repl = c.repl := rfl
@[simp] theorem modUpd_tru (c : Chip) (f : Upd → Upd) : (modUpd c f).tru = c.tru := rfl
@[simp] theorem modUpd_flt (c : Chip) (f : Upd → Upd) : (modUpd c f).flt = c.flt := rfl
@[simp] theorem modUpd_blt (c : Chip) (f : Upd → Upd) : (modUpd c f).blt = c.blt := rfl
@[simp] theorem modUpd_out (c : Chip) (f : Upd → Upd) : (modUpd c f).out = c.out := rfl
@[simp] theorem modUpd_freeCount (c : Chip) (f : Upd → Upd) : (modUpd c f).freeCount = c.freeCount := rfl
@[simp] theorem sendMsix_regs (c : Chip) (v : Nat) : (sendMsix c v).regs = c.regs := by
  unfold sendMsix; split_ifs <;> rfl
@[simp] theorem sendMsix_live (c : Chip) (v : Nat) : (sendMsix c v).live = c.live := by
  unfold sendMsix; split_ifs <;> rfl
@[simp] theorem sendMsix_sup (c : Chip) (v : Nat) : (sendMsix c v).sup = c.sup := by
  unfold sendMsix; split_ifs <;> rfl
@[simp] theorem sendMsix_wipe (c : Chip) (v : Nat) : (sendMsix c v).wipe = c.wipe := by
  unfold sendMsix; split_ifs <;> rfl
@[simp] theorem sendMsix_cg (c : Chip) (v : Nat) : (sendMsix c v).cg = c.cg := by
  unfold sendMsix; split_ifs <;> rfl
@[simp] theorem sendMsix_ns (c : Chip) (v : Nat) : (sendMsix c v).ns = c.ns := by
  unfold sendMsix; split_ifs <;> rfl
@[simp] theorem sendMsix_tb (c : Chip) (v : Nat) : (sendMsix c v).tb = c.tb := by
  unfold sendMsix; split_ifs <;> rfl
@[simp] theorem sendMsix_met (c : Chip) (v : Nat) : (sendMsix c v).met = c.met := by
  unfold sendMsix; split_ifs <;> rfl
@[simp] theorem sendMsix_acc (c : Chip) (v : Nat) : (sendMsix c v).acc = c.acc := by
  unfold sendMsix; split_ifs <;> rfl
@[simp] theorem sendMsix_tar (c : Chip) (v : Nat) : (sendMsix c v).tar = c.tar := by
  unfold sendMsix; split_ifs <;> rfl
@[simp] theorem sendMsix_sess (c : Chip) (v : Nat) : (sendMsix c v).sess = c.sess := by
  unfold sendMsix; split_ifs <;> rfl
@[simp] theorem sendMsix_leg (c : Chip) (v : Nat) : (sendMsix c v).leg = c.leg := by
  unfold sendMsix; split_ifs <;> rfl
@[simp] theorem sendMsix_outl (c : Chip) (v : Nat) : (sendMsix c v).outl = c.outl := by
  unfold sendMsix; split_ifs <;> rfl
@[simp] theorem sendMsix_saf (c : Chip) (v : Nat) : (sendMsix c v).saf = c.saf := by
  unfold sendMsix; split_ifs <;> rfl
@[simp] theorem sendMsix_nib (c : Chip) (v : Nat) : (sendMsix c v).nib = c.nib := by
  unfold sendMsix; split_ifs <;> rfl
@[simp] theorem sendMsix_pwd (c : Chip) (v : Nat) : (sendMsix c v).pwd = c.pwd := by
  unfold sendMsix; split_ifs <;> rfl
@[simp] theorem sendMsix_lsw (c : Chip) (v : Nat) : (sendMsix c v).lsw = c.lsw := by
  unfold sendMsix; split_ifs <;> rfl
@[simp] theorem sendMsix_dsp (c : Chip) (v : Nat) : (sendMsix c v).dsp = c.dsp := by
  unfold sendMsix; split_ifs <;> rfl
@[simp] theorem sendMsix_age (c : Chip) (v : Nat) : (sendMsix c v).age = c.age := by
  unfold sendMsix; split_ifs <;> rfl
@[simp] theorem sendMsix_bp (c : Chip) (v : Nat) : (sendMsix c v).bp = c.bp := by
  unfold sendMsix; split_ifs <;> rfl
@[simp] theorem sendMsix_fab (c : Chip) (v : Nat) : (sendMsix c v).fab = c.fab := by
  unfold sendMsix; split_ifs <;> rfl
@[simp] theorem sendMsix_latched (c : Chip) (v : Nat) : (sendMsix c v).latched = c.latched := by
  unfold sendMsix; split_ifs <;> rfl
@[simp] theorem sendMsix_repl (c : Chip) (v : Nat) : (sendMsix c v).repl = c.repl := by
  unfold sendMsix; split_ifs <;> rfl
@[simp] theorem sendMsix_tru (c : Chip) (v : Nat) : (sendMsix c v).tru = c.tru := by
  unfold sendMsix; split_ifs <;> rfl
@[simp] theorem sendMsix_upd (c : Chip) (v : Nat) : (sendMsix c v).upd = c.upd := by
  unfold sendMsix; split_ifs <;> rfl
@[simp] theorem sendMsix_flt (c : Chip) (v : Nat) : (sendMsix c v).flt = c.flt := by
  unfold sendMsix; split_ifs <;> rfl
@[simp] theorem sendMsix_blt (c : Chip) (v : Nat) : (sendMsix c v).blt = c.blt := by
  unfold sendMsix; split_ifs <;> rfl
@[simp] theorem sendMsix_freeCount (c : Chip) (v : Nat) : (sendMsix c v).freeCount = c.freeCount := by
  unfold sendMsix; split_ifs <;> rfl
@[simp] theorem routeEvt_regs (c : Chip) (k : Nat) : (routeEvt c k).regs = c.regs := by
  unfold routeEvt; dsimp only; split_ifs <;> simp
@[simp] theorem routeEvt_live (c : Chip) (k : Nat) : (routeEvt c k).live = c.live := by
  unfold routeEvt; dsimp only; split_ifs <;> simp
@[simp] theorem routeEvt_sup (c : Chip) (k : Nat) : (routeEvt c k).sup = c.sup := by
  unfold routeEvt; dsimp only; split_ifs <;> simp
@[simp] theorem routeEvt_wipe (c : Chip) (k : Nat) : (routeEvt c k).wipe = c.wipe := by
  unfold routeEvt; dsimp only; split_ifs <;> simp
@[simp] theorem routeEvt_cg (c : Chip) (k : Nat) : (routeEvt c k).cg = c.cg := by
  unfold routeEvt; dsimp only; split_ifs <;> simp
@[simp] theorem routeEvt_ns (c : Chip) (k : Nat) : (routeEvt c k).ns = c.ns := by
  unfold routeEvt; dsimp only; split_ifs <;> simp
@[simp] theorem routeEvt_tb (c : Chip) (k : Nat) : (routeEvt c k).tb = c.tb := by
  unfold routeEvt; dsimp only; split_ifs <;> simp
@[simp] theorem routeEvt_met (c : Chip) (k : Nat) : (routeEvt c k).met = c.met := by
  unfold routeEvt; dsimp only; split_ifs <;> simp
@[simp] theorem routeEvt_acc (c : Chip) (k : Nat) : (routeEvt c k).acc = c.acc := by
  unfold routeEvt; dsimp only; split_ifs <;> simp
@[simp] theorem routeEvt_tar (c : Chip) (k : Nat) : (routeEvt c k).tar = c.tar := by
  unfold routeEvt; dsimp only; split_ifs <;> simp
@[simp] theorem routeEvt_sess (c : Chip) (k : Nat) : (routeEvt c k).sess = c.sess := by
  unfold routeEvt; dsimp only; split_ifs <;> simp
@[simp] theorem routeEvt_leg (c : Chip) (k : Nat) : (routeEvt c k).leg = c.leg := by
  unfold routeEvt; dsimp only; split_ifs <;> simp
@[simp] theorem routeEvt_outl (c : Chip) (k : Nat) : (routeEvt c k).outl = c.outl := by
  unfold routeEvt; dsimp only; split_ifs <;> simp
@[simp] theorem routeEvt_saf (c : Chip) (k : Nat) : (routeEvt c k).saf = c.saf := by
  unfold routeEvt; dsimp only; split_ifs <;> simp
@[simp] theorem routeEvt_nib (c : Chip) (k : Nat) : (routeEvt c k).nib = c.nib := by
  unfold routeEvt; dsimp only; split_ifs <;> simp
@[simp] theorem routeEvt_pwd (c : Chip) (k : Nat) : (routeEvt c k).pwd = c.pwd := by
  unfold routeEvt; dsimp only; split_ifs <;> simp
@[simp] theorem routeEvt_lsw (c : Chip) (k : Nat) : (routeEvt c k).lsw = c.lsw := by
  unfold routeEvt; dsimp only; split_ifs <;> simp
@[simp] theorem routeEvt_dsp (c : Chip) (k : Nat) : (routeEvt c k).dsp = c.dsp := by
  unfold routeEvt; dsimp only; split_ifs <;> simp
@[simp] theorem routeEvt_age (c : Chip) (k : Nat) : (routeEvt c k).age = c.age := by
  unfold routeEvt; dsimp only; split_ifs <;> simp
@[simp] theorem routeEvt_bp (c : Chip) (k : Nat) : (routeEvt c k).bp = c.bp := by
  unfold routeEvt; dsimp only; split_ifs <;> simp
@[simp] theorem routeEvt_fab (c : Chip) (k : Nat) : (routeEvt c k).fab = c.fab := by
  unfold routeEvt; dsimp only; split_ifs <;> simp
@[simp] theorem routeEvt_latched (c : Chip) (k : Nat) : (routeEvt c k).latched = c.latched := by
  unfold routeEvt; dsimp only; split_ifs <;> simp
@[simp] theorem routeEvt_repl (c : Chip) (k : Nat) : (routeEvt c k).repl = c.repl := by
  unfold routeEvt; dsimp only; split_ifs <;> simp
@[simp] theorem routeEvt_tru (c : Chip) (k : Nat) : (routeEvt c k).tru = c.tru := by
  unfold routeEvt; dsimp only; split_ifs <;> simp
@[simp] theorem routeEvt_upd (c : Chip) (k : Nat) : (routeEvt c k).upd = c.upd := by
  unfold routeEvt; dsimp only; split_ifs <;> simp
@[simp] theorem routeEvt_flt (c : Chip) (k : Nat) : (routeEvt c k).flt = c.flt := by
  unfold routeEvt; dsimp only; split_ifs <;> simp
@[simp] theorem routeEvt_blt (c : Chip) (k : Nat) : (routeEvt c k).blt = c.blt := by
  unfold routeEvt; dsimp only; split_ifs <;> simp
@[simp] theorem routeEvt_freeCount (c : Chip) (k : Nat) : (routeEvt c k).freeCount = c.freeCount := by
  unfold routeEvt; dsimp only; split_ifs <;> simp
@[simp] theorem raiseEvt_live (c : Chip) (a b : Nat) : (raiseEvt c a b).live = c.live := by
  unfold raiseEvt; split_ifs <;> simp
@[simp] theorem raiseEvt_sup (c : Chip) (a b : Nat) : (raiseEvt c a b).sup = c.sup := by
  unfold raiseEvt; split_ifs <;> simp
@[simp] theorem raiseEvt_wipe (c : Chip) (a b : Nat) : (raiseEvt c a b).wipe = c.wipe := by
  unfold raiseEvt; split_ifs <;> simp
@[simp] theorem raiseEvt_cg (c : Chip) (a b : Nat) : (raiseEvt c a b).cg = c.cg := by
  unfold raiseEvt; split_ifs <;> simp
@[simp] theorem raiseEvt_ns (c : Chip) (a b : Nat) : (raiseEvt c a b).ns = c.ns := by
  unfold raiseEvt; split_ifs <;> simp
@[simp] theorem raiseEvt_tb (c : Chip) (a b : Nat) : (raiseEvt c a b).tb = c.tb := by
  unfold raiseEvt; split_ifs <;> simp
@[simp] theorem raiseEvt_met (c : Chip) (a b : Nat) : (raiseEvt c a b).met = c.met := by
  unfold raiseEvt; split_ifs <;> simp
@[simp] theorem raiseEvt_acc (c : Chip) (a b : Nat) : (raiseEvt c a b).acc = c.acc := by
  unfold raiseEvt; split_ifs <;> simp
@[simp] theorem raiseEvt_tar (c : Chip) (a b : Nat) : (raiseEvt c a b).tar = c.tar := by
  unfold raiseEvt; split_ifs <;> simp
@[simp] theorem raiseEvt_sess (c : Chip) (a b : Nat) : (raiseEvt c a b).sess = c.sess := by
  unfold raiseEvt; split_ifs <;> simp
@[simp] theorem raiseEvt_leg (c : Chip) (a b : Nat) : (raiseEvt c a b).leg = c.leg := by
  unfold raiseEvt; split_ifs <;> simp
@[simp] theorem raiseEvt_outl (c : Chip) (a b : Nat) : (raiseEvt c a b).outl = c.outl := by
  unfold raiseEvt; split_ifs <;> simp
@[simp] theorem raiseEvt_saf (c : Chip) (a b : Nat) : (raiseEvt c a b).saf = c.saf := by
  unfold raiseEvt; split_ifs <;> simp
@[simp] theorem raiseEvt_nib (c : Chip) (a b : Nat) : (raiseEvt c a b).nib = c.nib := by
  unfold raiseEvt; split_ifs <;> simp
@[simp] theorem raiseEvt_pwd (c : Chip) (a b : Nat) : (raiseEvt c a b).pwd = c.pwd := by
  unfold raiseEvt; split_ifs <;> simp
@[simp] theorem raiseEvt_lsw (c : Chip) (a b : Nat) : (raiseEvt c a b).lsw = c.lsw := by
  unfold raiseEvt; split_ifs <;> simp
@[simp] theorem raiseEvt_dsp (c : Chip) (a b : Nat) : (raiseEvt c a b).dsp = c.dsp := by
  unfold raiseEvt; split_ifs <;> simp
@[simp] theorem raiseEvt_age (c : Chip) (a b : Nat) : (raiseEvt c a b).age = c.age := by
  unfold raiseEvt; split_ifs <;> simp
@[simp] theorem raiseEvt_bp (c : Chip) (a b : Nat) : (raiseEvt c a b).bp = c.bp := by
  unfold raiseEvt; split_ifs <;> simp
@[simp] theorem raiseEvt_fab (c : Chip) (a b : Nat) : (raiseEvt c a b).fab = c.fab := by
  unfold raiseEvt; split_ifs <;> simp
@[simp] theorem raiseEvt_latched (c : Chip) (a b : Nat) : (raiseEvt c a b).latched = c.latched := by
  unfold raiseEvt; split_ifs <;> simp
@[simp] theorem raiseEvt_repl (c : Chip) (a b : Nat) : (raiseEvt c a b).repl = c.repl := by
  unfold raiseEvt; split_ifs <;> simp
@[simp] theorem raiseEvt_tru (c : Chip) (a b : Nat) : (raiseEvt c a b).tru = c.tru := by
  unfold raiseEvt; split_ifs <;> simp
@[simp] theorem raiseEvt_upd (c : Chip) (a b : Nat) : (raiseEvt c a b).upd = c.upd := by
  unfold raiseEvt; split_ifs <;> simp
@[simp] theorem raiseEvt_flt (c : Chip) (a b : Nat) : (raiseEvt c a b).flt = c.flt := by
  unfold raiseEvt; split_ifs <;> simp
@[simp] theorem raiseEvt_blt (c : Chip) (a b : Nat) : (raiseEvt c a b).blt = c.blt := by
  unfold raiseEvt; split_ifs <;> simp
@[simp] theorem raiseEvt_freeCount (c : Chip) (a b : Nat) : (raiseEvt c a b).freeCount = c.freeCount := by
  unfold raiseEvt; split_ifs <;> simp
@[simp] theorem blot_live (c : Chip) (sev kind level code data : Nat) (channel forced esc held : Bool) : (blot c sev kind level code data channel forced esc held).live = c.live := by
  unfold blot; split_ifs <;> simp
@[simp] theorem blot_sup (c : Chip) (sev kind level code data : Nat) (channel forced esc held : Bool) : (blot c sev kind level code data channel forced esc held).sup = c.sup := by
  unfold blot; split_ifs <;> simp
@[simp] theorem blot_wipe (c : Chip) (sev kind level code data : Nat) (channel forced esc held : Bool) : (blot c sev kind level code data channel forced esc held).wipe = c.wipe := by
  unfold blot; split_ifs <;> simp
@[simp] theorem blot_cg (c : Chip) (sev kind level code data : Nat) (channel forced esc held : Bool) : (blot c sev kind level code data channel forced esc held).cg = c.cg := by
  unfold blot; split_ifs <;> simp
@[simp] theorem blot_ns (c : Chip) (sev kind level code data : Nat) (channel forced esc held : Bool) : (blot c sev kind level code data channel forced esc held).ns = c.ns := by
  unfold blot; split_ifs <;> simp
@[simp] theorem blot_tb (c : Chip) (sev kind level code data : Nat) (channel forced esc held : Bool) : (blot c sev kind level code data channel forced esc held).tb = c.tb := by
  unfold blot; split_ifs <;> simp
@[simp] theorem blot_met (c : Chip) (sev kind level code data : Nat) (channel forced esc held : Bool) : (blot c sev kind level code data channel forced esc held).met = c.met := by
  unfold blot; split_ifs <;> simp
@[simp] theorem blot_acc (c : Chip) (sev kind level code data : Nat) (channel forced esc held : Bool) : (blot c sev kind level code data channel forced esc held).acc = c.acc := by
  unfold blot; split_ifs <;> simp
@[simp] theorem blot_tar (c : Chip) (sev kind level code data : Nat) (channel forced esc held : Bool) : (blot c sev kind level code data channel forced esc held).tar = c.tar := by
  unfold blot; split_ifs <;> simp
@[simp] theorem blot_sess (c : Chip) (sev kind level code data : Nat) (channel forced esc held : Bool) : (blot c sev kind level code data channel forced esc held).sess = c.sess := by
  unfold blot; split_ifs <;> simp
@[simp] theorem blot_leg (c : Chip) (sev kind level code data : Nat) (channel forced esc held : Bool) : (blot c sev kind level code data channel forced esc held).leg = c.leg := by
  unfold blot; split_ifs <;> simp
@[simp] theorem blot_outl (c : Chip) (sev kind level code data : Nat) (channel forced esc held : Bool) : (blot c sev kind level code data channel forced esc held).outl = c.outl := by
  unfold blot; split_ifs <;> simp
@[simp] theorem blot_saf (c : Chip) (sev kind level code data : Nat) (channel forced esc held : Bool) : (blot c sev kind level code data channel forced esc held).saf = c.saf := by
  unfold blot; split_ifs <;> simp
@[simp] theorem blot_nib (c : Chip) (sev kind level code data : Nat) (channel forced esc held : Bool) : (blot c sev kind level code data channel forced esc held).nib = c.nib := by
  unfold blot; split_ifs <;> simp
@[simp] theorem blot_pwd (c : Chip) (sev kind level code data : Nat) (channel forced esc held : Bool) : (blot c sev kind level code data channel forced esc held).pwd = c.pwd := by
  unfold blot; split_ifs <;> simp
@[simp] theorem blot_lsw (c : Chip) (sev kind level code data : Nat) (channel forced esc held : Bool) : (blot c sev kind level code data channel forced esc held).lsw = c.lsw := by
  unfold blot; split_ifs <;> simp
@[simp] theorem blot_dsp (c : Chip) (sev kind level code data : Nat) (channel forced esc held : Bool) : (blot c sev kind level code data channel forced esc held).dsp = c.dsp := by
  unfold blot; split_ifs <;> simp
@[simp] theorem blot_age (c : Chip) (sev kind level code data : Nat) (channel forced esc held : Bool) : (blot c sev kind level code data channel forced esc held).age = c.age := by
  unfold blot; split_ifs <;> simp
@[simp] theorem blot_bp (c : Chip) (sev kind level code data : Nat) (channel forced esc held : Bool) : (blot c sev kind level code data channel forced esc held).bp = c.bp := by
  unfold blot; split_ifs <;> simp
@[simp] theorem blot_fab (c : Chip) (sev kind level code data : Nat) (channel forced esc held : Bool) : (blot c sev kind level code data channel forced esc held).fab = c.fab := by
  unfold blot; split_ifs <;> simp
@[simp] theorem blot_latched (c : Chip) (sev kind level code data : Nat) (channel forced esc held : Bool) : (blot c sev kind level code data channel forced esc held).latched = c.latched := by
  unfold blot; split_ifs <;> simp
@[simp] theorem blot_repl (c : Chip) (sev kind level code data : Nat) (channel forced esc held : Bool) : (blot c sev kind level code data channel forced esc held).repl = c.repl := by
  unfold blot; split_ifs <;> simp
@[simp] theorem blot_tru (c : Chip) (sev kind level code data : Nat) (channel forced esc held : Bool) : (blot c sev kind level code data channel forced esc held).tru = c.tru := by
  unfold blot; split_ifs <;> simp
@[simp] theorem blot_upd (c : Chip) (sev kind level code data : Nat) (channel forced esc held : Bool) : (blot c sev kind level code data channel forced esc held).upd = c.upd := by
  unfold blot; split_ifs <;> simp
@[simp] theorem blot_flt (c : Chip) (sev kind level code data : Nat) (channel forced esc held : Bool) : (blot c sev kind level code data channel forced esc held).flt = c.flt := by
  unfold blot; split_ifs <;> simp
@[simp] theorem blot_freeCount (c : Chip) (sev kind level code data : Nat) (channel forced esc held : Bool) : (blot c sev kind level code data channel forced esc held).freeCount = c.freeCount := by
  unfold blot; split_ifs <;> simp
@[simp] theorem blotEvent_live (c : Chip) (code sev data : Nat) : (blotEvent c code sev data).live = c.live := by
  unfold blotEvent; simp
@[simp] theorem blotEvent_sup (c : Chip) (code sev data : Nat) : (blotEvent c code sev data).sup = c.sup := by
  unfold blotEvent; simp
@[simp] theorem blotEvent_wipe (c : Chip) (code sev data : Nat) : (blotEvent c code sev data).wipe = c.wipe := by
  unfold blotEvent; simp
@[simp] theorem blotEvent_cg (c : Chip) (code sev data : Nat) : (blotEvent c code sev data).cg = c.cg := by
  unfold blotEvent; simp
@[simp] theorem blotEvent_ns (c : Chip) (code sev data : Nat) : (blotEvent c code sev data).ns = c.ns := by
  unfold blotEvent; simp
@[simp] theorem blotEvent_tb (c : Chip) (code sev data : Nat) : (blotEvent c code sev data).tb = c.tb := by
  unfold blotEvent; simp
@[simp] theorem blotEvent_met (c : Chip) (code sev data : Nat) : (blotEvent c code sev data).met = c.met := by
  unfold blotEvent; simp
@[simp] theorem blotEvent_acc (c : Chip) (code sev data : Nat) : (blotEvent c code sev data).acc = c.acc := by
  unfold blotEvent; simp
@[simp] theorem blotEvent_tar (c : Chip) (code sev data : Nat) : (blotEvent c code sev data).tar = c.tar := by
  unfold blotEvent; simp
@[simp] theorem blotEvent_sess (c : Chip) (code sev data : Nat) : (blotEvent c code sev data).sess = c.sess := by
  unfold blotEvent; simp
@[simp] theorem blotEvent_leg (c : Chip) (code sev data : Nat) : (blotEvent c code sev data).leg = c.leg := by
  unfold blotEvent; simp
@[simp] theorem blotEvent_outl (c : Chip) (code sev data : Nat) : (blotEvent c code sev data).outl = c.outl := by
  unfold blotEvent; simp
@[simp] theorem blotEvent_saf (c : Chip) (code sev data : Nat) : (blotEvent c code sev data).saf = c.saf := by
  unfold blotEvent; simp
@[simp] theorem blotEvent_nib (c : Chip) (code sev data : Nat) : (blotEvent c code sev data).nib = c.nib := by
  unfold blotEvent; simp
@[simp] theorem blotEvent_pwd (c : Chip) (code sev data : Nat) : (blotEvent c code sev data).pwd = c.pwd := by
  unfold blotEvent; simp
@[simp] theorem blotEvent_lsw (c : Chip) (code sev data : Nat) : (blotEvent c code sev data).lsw = c.lsw := by
  unfold blotEvent; simp
@[simp] theorem blotEvent_dsp (c : Chip) (code sev data : Nat) : (blotEvent c code sev data).dsp = c.dsp := by
  unfold blotEvent; simp
@[simp] theorem blotEvent_age (c : Chip) (code sev data : Nat) : (blotEvent c code sev data).age = c.age := by
  unfold blotEvent; simp
@[simp] theorem blotEvent_bp (c : Chip) (code sev data : Nat) : (blotEvent c code sev data).bp = c.bp := by
  unfold blotEvent; simp
@[simp] theorem blotEvent_fab (c : Chip) (code sev data : Nat) : (blotEvent c code sev data).fab = c.fab := by
  unfold blotEvent; simp
@[simp] theorem blotEvent_latched (c : Chip) (code sev data : Nat) : (blotEvent c code sev data).latched = c.latched := by
  unfold blotEvent; simp
@[simp] theorem blotEvent_repl (c : Chip) (code sev data : Nat) : (blotEvent c code sev data).repl = c.repl := by
  unfold blotEvent; simp
@[simp] theorem blotEvent_tru (c : Chip) (code sev data : Nat) : (blotEvent c code sev data).tru = c.tru := by
  unfold blotEvent; simp
@[simp] theorem blotEvent_upd (c : Chip) (code sev data : Nat) : (blotEvent c code sev data).upd = c.upd := by
  unfold blotEvent; simp
@[simp] theorem blotEvent_flt (c : Chip) (code sev data : Nat) : (blotEvent c code sev data).flt = c.flt := by
  unfold blotEvent; simp
@[simp] theorem blotEvent_freeCount (c : Chip) (code sev data : Nat) : (blotEvent c code sev data).freeCount = c.freeCount := by
  unfold blotEvent; simp
@[simp] theorem signalRing_regs (c : Chip) (q : Nat) (b : Bool) : (signalRing c q b).regs = c.regs := by
  unfold signalRing; dsimp only; split_ifs <;> simp
@[simp] theorem signalRing_live (c : Chip) (q : Nat) (b : Bool) : (signalRing c q b).live = c.live := by
  unfold signalRing; dsimp only; split_ifs <;> simp
@[simp] theorem signalRing_sup (c : Chip) (q : Nat) (b : Bool) : (signalRing c q b).sup = c.sup := by
  unfold signalRing; dsimp only; split_ifs <;> simp
@[simp] theorem signalRing_wipe (c : Chip) (q : Nat) (b : Bool) : (signalRing c q b).wipe = c.wipe := by
  unfold signalRing; dsimp only; split_ifs <;> simp
@[simp] theorem signalRing_cg (c : Chip) (q : Nat) (b : Bool) : (signalRing c q b).cg = c.cg := by
  unfold signalRing; dsimp only; split_ifs <;> simp
@[simp] theorem signalRing_ns (c : Chip) (q : Nat) (b : Bool) : (signalRing c q b).ns = c.ns := by
  unfold signalRing; dsimp only; split_ifs <;> simp
@[simp] theorem signalRing_tb (c : Chip) (q : Nat) (b : Bool) : (signalRing c q b).tb = c.tb := by
  unfold signalRing; dsimp only; split_ifs <;> simp
@[simp] theorem signalRing_met (c : Chip) (q : Nat) (b : Bool) : (signalRing c q b).met = c.met := by
  unfold signalRing; dsimp only; split_ifs <;> simp
@[simp] theorem signalRing_acc (c : Chip) (q : Nat) (b : Bool) : (signalRing c q b).acc = c.acc := by
  unfold signalRing; dsimp only; split_ifs <;> simp
@[simp] theorem signalRing_tar (c : Chip) (q : Nat) (b : Bool) : (signalRing c q b).tar = c.tar := by
  unfold signalRing; dsimp only; split_ifs <;> simp
@[simp] theorem signalRing_sess (c : Chip) (q : Nat) (b : Bool) : (signalRing c q b).sess = c.sess := by
  unfold signalRing; dsimp only; split_ifs <;> simp
@[simp] theorem signalRing_leg (c : Chip) (q : Nat) (b : Bool) : (signalRing c q b).leg = c.leg := by
  unfold signalRing; dsimp only; split_ifs <;> simp
@[simp] theorem signalRing_outl (c : Chip) (q : Nat) (b : Bool) : (signalRing c q b).outl = c.outl := by
  unfold signalRing; dsimp only; split_ifs <;> simp
@[simp] theorem signalRing_saf (c : Chip) (q : Nat) (b : Bool) : (signalRing c q b).saf = c.saf := by
  unfold signalRing; dsimp only; split_ifs <;> simp
@[simp] theorem signalRing_nib (c : Chip) (q : Nat) (b : Bool) : (signalRing c q b).nib = c.nib := by
  unfold signalRing; dsimp only; split_ifs <;> simp
@[simp] theorem signalRing_pwd (c : Chip) (q : Nat) (b : Bool) : (signalRing c q b).pwd = c.pwd := by
  unfold signalRing; dsimp only; split_ifs <;> simp
@[simp] theorem signalRing_lsw (c : Chip) (q : Nat) (b : Bool) : (signalRing c q b).lsw = c.lsw := by
  unfold signalRing; dsimp only; split_ifs <;> simp
@[simp] theorem signalRing_dsp (c : Chip) (q : Nat) (b : Bool) : (signalRing c q b).dsp = c.dsp := by
  unfold signalRing; dsimp only; split_ifs <;> simp
@[simp] theorem signalRing_age (c : Chip) (q : Nat) (b : Bool) : (signalRing c q b).age = c.age := by
  unfold signalRing; dsimp only; split_ifs <;> simp
@[simp] theorem signalRing_bp (c : Chip) (q : Nat) (b : Bool) : (signalRing c q b).bp = c.bp := by
  unfold signalRing; dsimp only; split_ifs <;> simp
@[simp] theorem signalRing_fab (c : Chip) (q : Nat) (b : Bool) : (signalRing c q b).fab = c.fab := by
  unfold signalRing; dsimp only; split_ifs <;> simp
@[simp] theorem signalRing_latched (c : Chip) (q : Nat) (b : Bool) : (signalRing c q b).latched = c.latched := by
  unfold signalRing; dsimp only; split_ifs <;> simp
@[simp] theorem signalRing_repl (c : Chip) (q : Nat) (b : Bool) : (signalRing c q b).repl = c.repl := by
  unfold signalRing; dsimp only; split_ifs <;> simp
@[simp] theorem signalRing_tru (c : Chip) (q : Nat) (b : Bool) : (signalRing c q b).tru = c.tru := by
  unfold signalRing; dsimp only; split_ifs <;> simp
@[simp] theorem signalRing_upd (c : Chip) (q : Nat) (b : Bool) : (signalRing c q b).upd = c.upd := by
  unfold signalRing; dsimp only; split_ifs <;> simp
@[simp] theorem signalRing_flt (c : Chip) (q : Nat) (b : Bool) : (signalRing c q b).flt = c.flt := by
  unfold signalRing; dsimp only; split_ifs <;> simp
@[simp] theorem signalRing_blt (c : Chip) (q : Nat) (b : Bool) : (signalRing c q b).blt = c.blt := by
  unfold signalRing; dsimp only; split_ifs <;> simp
@[simp] theorem signalRing_freeCount (c : Chip) (q : Nat) (b : Bool) : (signalRing c q b).freeCount = c.freeCount := by
  unfold signalRing; dsimp only; split_ifs <;> simp
@[simp] theorem recordTag_regs (c : Chip) (d : Desc) (a : Answer) : (recordTag c d a).regs = c.regs := by
  unfold recordTag; split_ifs <;> rfl
@[simp] theorem recordTag_live (c : Chip) (d : Desc) (a : Answer) : (recordTag c d a).live = c.live := by
  unfold recordTag; split_ifs <;> rfl
@[simp] theorem recordTag_sup (c : Chip) (d : Desc) (a : Answer) : (recordTag c d a).sup = c.sup := by
  unfold recordTag; split_ifs <;> rfl
@[simp] theorem recordTag_wipe (c : Chip) (d : Desc) (a : Answer) : (recordTag c d a).wipe = c.wipe := by
  unfold recordTag; split_ifs <;> rfl
@[simp] theorem recordTag_cg (c : Chip) (d : Desc) (a : Answer) : (recordTag c d a).cg = c.cg := by
  unfold recordTag; split_ifs <;> rfl
@[simp] theorem recordTag_ns (c : Chip) (d : Desc) (a : Answer) : (recordTag c d a).ns = c.ns := by
  unfold recordTag; split_ifs <;> rfl
@[simp] theorem recordTag_tb (c : Chip) (d : Desc) (a : Answer) : (recordTag c d a).tb = c.tb := by
  unfold recordTag; split_ifs <;> rfl
@[simp] theorem recordTag_met (c : Chip) (d : Desc) (a : Answer) : (recordTag c d a).met = c.met := by
  unfold recordTag; split_ifs <;> rfl
@[simp] theorem recordTag_acc (c : Chip) (d : Desc) (a : Answer) : (recordTag c d a).acc = c.acc := by
  unfold recordTag; split_ifs <;> rfl
@[simp] theorem recordTag_tar (c : Chip) (d : Desc) (a : Answer) : (recordTag c d a).tar = c.tar := by
  unfold recordTag; split_ifs <;> rfl
@[simp] theorem recordTag_sess (c : Chip) (d : Desc) (a : Answer) : (recordTag c d a).sess = c.sess := by
  unfold recordTag; split_ifs <;> rfl
@[simp] theorem recordTag_leg (c : Chip) (d : Desc) (a : Answer) : (recordTag c d a).leg = c.leg := by
  unfold recordTag; split_ifs <;> rfl
@[simp] theorem recordTag_outl (c : Chip) (d : Desc) (a : Answer) : (recordTag c d a).outl = c.outl := by
  unfold recordTag; split_ifs <;> rfl
@[simp] theorem recordTag_saf (c : Chip) (d : Desc) (a : Answer) : (recordTag c d a).saf = c.saf := by
  unfold recordTag; split_ifs <;> rfl
@[simp] theorem recordTag_nib (c : Chip) (d : Desc) (a : Answer) : (recordTag c d a).nib = c.nib := by
  unfold recordTag; split_ifs <;> rfl
@[simp] theorem recordTag_pwd (c : Chip) (d : Desc) (a : Answer) : (recordTag c d a).pwd = c.pwd := by
  unfold recordTag; split_ifs <;> rfl
@[simp] theorem recordTag_lsw (c : Chip) (d : Desc) (a : Answer) : (recordTag c d a).lsw = c.lsw := by
  unfold recordTag; split_ifs <;> rfl
@[simp] theorem recordTag_dsp (c : Chip) (d : Desc) (a : Answer) : (recordTag c d a).dsp = c.dsp := by
  unfold recordTag; split_ifs <;> rfl
@[simp] theorem recordTag_age (c : Chip) (d : Desc) (a : Answer) : (recordTag c d a).age = c.age := by
  unfold recordTag; split_ifs <;> rfl
@[simp] theorem recordTag_bp (c : Chip) (d : Desc) (a : Answer) : (recordTag c d a).bp = c.bp := by
  unfold recordTag; split_ifs <;> rfl
@[simp] theorem recordTag_fab (c : Chip) (d : Desc) (a : Answer) : (recordTag c d a).fab = c.fab := by
  unfold recordTag; split_ifs <;> rfl
@[simp] theorem recordTag_latched (c : Chip) (d : Desc) (a : Answer) : (recordTag c d a).latched = c.latched := by
  unfold recordTag; split_ifs <;> rfl
@[simp] theorem recordTag_repl (c : Chip) (d : Desc) (a : Answer) : (recordTag c d a).repl = c.repl := by
  unfold recordTag; split_ifs <;> rfl
@[simp] theorem recordTag_tru (c : Chip) (d : Desc) (a : Answer) : (recordTag c d a).tru = c.tru := by
  unfold recordTag; split_ifs <;> rfl
@[simp] theorem recordTag_upd (c : Chip) (d : Desc) (a : Answer) : (recordTag c d a).upd = c.upd := by
  unfold recordTag; split_ifs <;> rfl
@[simp] theorem recordTag_flt (c : Chip) (d : Desc) (a : Answer) : (recordTag c d a).flt = c.flt := by
  unfold recordTag; split_ifs <;> rfl
@[simp] theorem recordTag_blt (c : Chip) (d : Desc) (a : Answer) : (recordTag c d a).blt = c.blt := by
  unfold recordTag; split_ifs <;> rfl
@[simp] theorem recordTag_out (c : Chip) (d : Desc) (a : Answer) : (recordTag c d a).out = c.out := by
  unfold recordTag; split_ifs <;> rfl
@[simp] theorem recordTag_freeCount (c : Chip) (d : Desc) (a : Answer) : (recordTag c d a).freeCount = c.freeCount := by
  unfold recordTag; split_ifs <;> rfl
@[simp] theorem writeCompletion_regs (c : Chip) (d : Desc) (a : Answer) : (writeCompletion c d a).regs = c.regs := by
  simp [writeCompletion]
@[simp] theorem writeCompletion_live (c : Chip) (d : Desc) (a : Answer) : (writeCompletion c d a).live = c.live := by
  simp [writeCompletion]
@[simp] theorem writeCompletion_sup (c : Chip) (d : Desc) (a : Answer) : (writeCompletion c d a).sup = c.sup := by
  simp [writeCompletion]
@[simp] theorem writeCompletion_wipe (c : Chip) (d : Desc) (a : Answer) : (writeCompletion c d a).wipe = c.wipe := by
  simp [writeCompletion]
@[simp] theorem writeCompletion_cg (c : Chip) (d : Desc) (a : Answer) : (writeCompletion c d a).cg = c.cg := by
  simp [writeCompletion]
@[simp] theorem writeCompletion_ns (c : Chip) (d : Desc) (a : Answer) : (writeCompletion c d a).ns = c.ns := by
  simp [writeCompletion]
@[simp] theorem writeCompletion_tb (c : Chip) (d : Desc) (a : Answer) : (writeCompletion c d a).tb = c.tb := by
  simp [writeCompletion]
@[simp] theorem writeCompletion_met (c : Chip) (d : Desc) (a : Answer) : (writeCompletion c d a).met = c.met := by
  simp [writeCompletion]
@[simp] theorem writeCompletion_acc (c : Chip) (d : Desc) (a : Answer) : (writeCompletion c d a).acc = c.acc := by
  simp [writeCompletion]
@[simp] theorem writeCompletion_tar (c : Chip) (d : Desc) (a : Answer) : (writeCompletion c d a).tar = c.tar := by
  simp [writeCompletion]
@[simp] theorem writeCompletion_sess (c : Chip) (d : Desc) (a : Answer) : (writeCompletion c d a).sess = c.sess := by
  simp [writeCompletion]
@[simp] theorem writeCompletion_leg (c : Chip) (d : Desc) (a : Answer) : (writeCompletion c d a).leg = c.leg := by
  simp [writeCompletion]
@[simp] theorem writeCompletion_outl (c : Chip) (d : Desc) (a : Answer) : (writeCompletion c d a).outl = c.outl := by
  simp [writeCompletion]
@[simp] theorem writeCompletion_saf (c : Chip) (d : Desc) (a : Answer) : (writeCompletion c d a).saf = c.saf := by
  simp [writeCompletion]
@[simp] theorem writeCompletion_nib (c : Chip) (d : Desc) (a : Answer) : (writeCompletion c d a).nib = c.nib := by
  simp [writeCompletion]
@[simp] theorem writeCompletion_pwd (c : Chip) (d : Desc) (a : Answer) : (writeCompletion c d a).pwd = c.pwd := by
  simp [writeCompletion]
@[simp] theorem writeCompletion_lsw (c : Chip) (d : Desc) (a : Answer) : (writeCompletion c d a).lsw = c.lsw := by
  simp [writeCompletion]
@[simp] theorem writeCompletion_dsp (c : Chip) (d : Desc) (a : Answer) : (writeCompletion c d a).dsp = c.dsp := by
  simp [writeCompletion]
@[simp] theorem writeCompletion_age (c : Chip) (d : Desc) (a : Answer) : (writeCompletion c d a).age = c.age := by
  simp [writeCompletion]
@[simp] theorem writeCompletion_bp (c : Chip) (d : Desc) (a : Answer) : (writeCompletion c d a).bp = c.bp := by
  simp [writeCompletion]
@[simp] theorem writeCompletion_fab (c : Chip) (d : Desc) (a : Answer) : (writeCompletion c d a).fab = c.fab := by
  simp [writeCompletion]
@[simp] theorem writeCompletion_latched (c : Chip) (d : Desc) (a : Answer) : (writeCompletion c d a).latched = c.latched := by
  simp [writeCompletion]
@[simp] theorem writeCompletion_repl (c : Chip) (d : Desc) (a : Answer) : (writeCompletion c d a).repl = c.repl := by
  simp [writeCompletion]
@[simp] theorem writeCompletion_tru (c : Chip) (d : Desc) (a : Answer) : (writeCompletion c d a).tru = c.tru := by
  simp [writeCompletion]
@[simp] theorem writeCompletion_upd (c : Chip) (d : Desc) (a : Answer) : (writeCompletion c d a).upd = c.upd := by
  simp [writeCompletion]
@[simp] theorem writeCompletion_flt (c : Chip) (d : Desc) (a : Answer) : (writeCompletion c d a).flt = c.flt := by
  simp [writeCompletion]
@[simp] theorem writeCompletion_blt (c : Chip) (d : Desc) (a : Answer) : (writeCompletion c d a).blt = c.blt := by
  simp [writeCompletion]
@[simp] theorem writeCompletion_freeCount (c : Chip) (d : Desc) (a : Answer) : (writeCompletion c d a).freeCount = c.freeCount := by
  simp [writeCompletion]
@[simp] theorem settleDrain_regs (c : Chip) (q : Nat) : (settleDrain c q).regs = c.regs := by
  unfold settleDrain; dsimp only; split_ifs <;> simp
@[simp] theorem settleDrain_live (c : Chip) (q : Nat) : (settleDrain c q).live = c.live := by
  unfold settleDrain; dsimp only; split_ifs <;> simp
@[simp] theorem settleDrain_sup (c : Chip) (q : Nat) : (settleDrain c q).sup = c.sup := by
  unfold settleDrain; dsimp only; split_ifs <;> simp
@[simp] theorem settleDrain_wipe (c : Chip) (q : Nat) : (settleDrain c q).wipe = c.wipe := by
  unfold settleDrain; dsimp only; split_ifs <;> simp
@[simp] theorem settleDrain_cg (c : Chip) (q : Nat) : (settleDrain c q).cg = c.cg := by
  unfold settleDrain; dsimp only; split_ifs <;> simp
@[simp] theorem settleDrain_ns (c : Chip) (q : Nat) : (settleDrain c q).ns = c.ns := by
  unfold settleDrain; dsimp only; split_ifs <;> simp
@[simp] theorem settleDrain_tb (c : Chip) (q : Nat) : (settleDrain c q).tb = c.tb := by
  unfold settleDrain; dsimp only; split_ifs <;> simp
@[simp] theorem settleDrain_met (c : Chip) (q : Nat) : (settleDrain c q).met = c.met := by
  unfold settleDrain; dsimp only; split_ifs <;> simp
@[simp] theorem settleDrain_acc (c : Chip) (q : Nat) : (settleDrain c q).acc = c.acc := by
  unfold settleDrain; dsimp only; split_ifs <;> simp
@[simp] theorem settleDrain_tar (c : Chip) (q : Nat) : (settleDrain c q).tar = c.tar := by
  unfold settleDrain; dsimp only; split_ifs <;> simp
@[simp] theorem settleDrain_sess (c : Chip) (q : Nat) : (settleDrain c q).sess = c.sess := by
  unfold settleDrain; dsimp only; split_ifs <;> simp
@[simp] theorem settleDrain_leg (c : Chip) (q : Nat) : (settleDrain c q).leg = c.leg := by
  unfold settleDrain; dsimp only; split_ifs <;> simp
@[simp] theorem settleDrain_outl (c : Chip) (q : Nat) : (settleDrain c q).outl = c.outl := by
  unfold settleDrain; dsimp only; split_ifs <;> simp
@[simp] theorem settleDrain_saf (c : Chip) (q : Nat) : (settleDrain c q).saf = c.saf := by
  unfold settleDrain; dsimp only; split_ifs <;> simp
@[simp] theorem settleDrain_nib (c : Chip) (q : Nat) : (settleDrain c q).nib = c.nib := by
  unfold settleDrain; dsimp only; split_ifs <;> simp
@[simp] theorem settleDrain_pwd (c : Chip) (q : Nat) : (settleDrain c q).pwd = c.pwd := by
  unfold settleDrain; dsimp only; split_ifs <;> simp
@[simp] theorem settleDrain_lsw (c : Chip) (q : Nat) : (settleDrain c q).lsw = c.lsw := by
  unfold settleDrain; dsimp only; split_ifs <;> simp
@[simp] theorem settleDrain_dsp (c : Chip) (q : Nat) : (settleDrain c q).dsp = c.dsp := by
  unfold settleDrain; dsimp only; split_ifs <;> simp
@[simp] theorem settleDrain_age (c : Chip) (q : Nat) : (settleDrain c q).age = c.age := by
  unfold settleDrain; dsimp only; split_ifs <;> simp
@[simp] theorem settleDrain_bp (c : Chip) (q : Nat) : (settleDrain c q).bp = c.bp := by
  unfold settleDrain; dsimp only; split_ifs <;> simp
@[simp] theorem settleDrain_fab (c : Chip) (q : Nat) : (settleDrain c q).fab = c.fab := by
  unfold settleDrain; dsimp only; split_ifs <;> simp
@[simp] theorem settleDrain_latched (c : Chip) (q : Nat) : (settleDrain c q).latched = c.latched := by
  unfold settleDrain; dsimp only; split_ifs <;> simp
@[simp] theorem settleDrain_repl (c : Chip) (q : Nat) : (settleDrain c q).repl = c.repl := by
  unfold settleDrain; dsimp only; split_ifs <;> simp
@[simp] theorem settleDrain_tru (c : Chip) (q : Nat) : (settleDrain c q).tru = c.tru := by
  unfold settleDrain; dsimp only; split_ifs <;> simp
@[simp] theorem settleDrain_upd (c : Chip) (q : Nat) : (settleDrain c q).upd = c.upd := by
  unfold settleDrain; dsimp only; split_ifs <;> simp
@[simp] theorem settleDrain_flt (c : Chip) (q : Nat) : (settleDrain c q).flt = c.flt := by
  unfold settleDrain; dsimp only; split_ifs <;> simp
@[simp] theorem settleDrain_blt (c : Chip) (q : Nat) : (settleDrain c q).blt = c.blt := by
  unfold settleDrain; dsimp only; split_ifs <;> simp
@[simp] theorem settleDrain_out (c : Chip) (q : Nat) : (settleDrain c q).out = c.out := by
  unfold settleDrain; dsimp only; split_ifs <;> simp
@[simp] theorem settleDrain_freeCount (c : Chip) (q : Nat) : (settleDrain c q).freeCount = c.freeCount := by
  unfold settleDrain; dsimp only; split_ifs <;> simp
@[simp] theorem flushCompletions_regs (n : Nat) (c : Chip) : (flushCompletions n c).regs = c.regs := by
  induction n generalizing c with
  | zero => rfl
  | succ n ih => unfold flushCompletions; split <;> simp [ih]
@[simp] theorem flushCompletions_live (n : Nat) (c : Chip) : (flushCompletions n c).live = c.live := by
  induction n generalizing c with
  | zero => rfl
  | succ n ih => unfold flushCompletions; split <;> simp [ih]
@[simp] theorem flushCompletions_sup (n : Nat) (c : Chip) : (flushCompletions n c).sup = c.sup := by
  induction n generalizing c with
  | zero => rfl
  | succ n ih => unfold flushCompletions; split <;> simp [ih]
@[simp] theorem flushCompletions_wipe (n : Nat) (c : Chip) : (flushCompletions n c).wipe = c.wipe := by
  induction n generalizing c with
  | zero => rfl
  | succ n ih => unfold flushCompletions; split <;> simp [ih]
@[simp] theorem flushCompletions_cg (n : Nat) (c : Chip) : (flushCompletions n c).cg = c.cg := by
  induction n generalizing c with
  | zero => rfl
  | succ n ih => unfold flushCompletions; split <;> simp [ih]
@[simp] theorem flushCompletions_ns (n : Nat) (c : Chip) : (flushCompletions n c).ns = c.ns := by
  induction n generalizing c with
  | zero => rfl
  | succ n ih => unfold flushCompletions; split <;> simp [ih]
@[simp] theorem flushCompletions_tb (n : Nat) (c : Chip) : (flushCompletions n c).tb = c.tb := by
  induction n generalizing c with
  | zero => rfl
  | succ n ih => unfold flushCompletions; split <;> simp [ih]
@[simp] theorem flushCompletions_met (n : Nat) (c : Chip) : (flushCompletions n c).met = c.met := by
  induction n generalizing c with
  | zero => rfl
  | succ n ih => unfold flushCompletions; split <;> simp [ih]
@[simp] theorem flushCompletions_acc (n : Nat) (c : Chip) : (flushCompletions n c).acc = c.acc := by
  induction n generalizing c with
  | zero => rfl
  | succ n ih => unfold flushCompletions; split <;> simp [ih]
@[simp] theorem flushCompletions_tar (n : Nat) (c : Chip) : (flushCompletions n c).tar = c.tar := by
  induction n generalizing c with
  | zero => rfl
  | succ n ih => unfold flushCompletions; split <;> simp [ih]
@[simp] theorem flushCompletions_sess (n : Nat) (c : Chip) : (flushCompletions n c).sess = c.sess := by
  induction n generalizing c with
  | zero => rfl
  | succ n ih => unfold flushCompletions; split <;> simp [ih]
@[simp] theorem flushCompletions_leg (n : Nat) (c : Chip) : (flushCompletions n c).leg = c.leg := by
  induction n generalizing c with
  | zero => rfl
  | succ n ih => unfold flushCompletions; split <;> simp [ih]
@[simp] theorem flushCompletions_outl (n : Nat) (c : Chip) : (flushCompletions n c).outl = c.outl := by
  induction n generalizing c with
  | zero => rfl
  | succ n ih => unfold flushCompletions; split <;> simp [ih]
@[simp] theorem flushCompletions_saf (n : Nat) (c : Chip) : (flushCompletions n c).saf = c.saf := by
  induction n generalizing c with
  | zero => rfl
  | succ n ih => unfold flushCompletions; split <;> simp [ih]
@[simp] theorem flushCompletions_nib (n : Nat) (c : Chip) : (flushCompletions n c).nib = c.nib := by
  induction n generalizing c with
  | zero => rfl
  | succ n ih => unfold flushCompletions; split <;> simp [ih]
@[simp] theorem flushCompletions_pwd (n : Nat) (c : Chip) : (flushCompletions n c).pwd = c.pwd := by
  induction n generalizing c with
  | zero => rfl
  | succ n ih => unfold flushCompletions; split <;> simp [ih]
@[simp] theorem flushCompletions_lsw (n : Nat) (c : Chip) : (flushCompletions n c).lsw = c.lsw := by
  induction n generalizing c with
  | zero => rfl
  | succ n ih => unfold flushCompletions; split <;> simp [ih]
@[simp] theorem flushCompletions_dsp (n : Nat) (c : Chip) : (flushCompletions n c).dsp = c.dsp := by
  induction n generalizing c with
  | zero => rfl
  | succ n ih => unfold flushCompletions; split <;> simp [ih]
@[simp] theorem flushCompletions_age (n : Nat) (c : Chip) : (flushCompletions n c).age = c.age := by
  induction n generalizing c with
  | zero => rfl
  | succ n ih => unfold flushCompletions; split <;> simp [ih]
@[simp] theorem flushCompletions_bp (n : Nat) (c : Chip) : (flushCompletions n c).bp = c.bp := by
  induction n generalizing c with
  | zero => rfl
  | succ n ih => unfold flushCompletions; split <;> simp [ih]
@[simp] theorem flushCompletions_fab (n : Nat) (c : Chip) : (flushCompletions n c).fab = c.fab := by
  induction n generalizing c with
  | zero => rfl
  | succ n ih => unfold flushCompletions; split <;> simp [ih]
@[simp] theorem flushCompletions_latched (n : Nat) (c : Chip) : (flushCompletions n c).latched = c.latched := by
  induction n generalizing c with
  | zero => rfl
  | succ n ih => unfold flushCompletions; split <;> simp [ih]
@[simp] theorem flushCompletions_repl (n : Nat) (c : Chip) : (flushCompletions n c).repl = c.repl := by
  induction n generalizing c with
  | zero => rfl
  | succ n ih => unfold flushCompletions; split <;> simp [ih]
@[simp] theorem flushCompletions_tru (n : Nat) (c : Chip) : (flushCompletions n c).tru = c.tru := by
  induction n generalizing c with
  | zero => rfl
  | succ n ih => unfold flushCompletions; split <;> simp [ih]
@[simp] theorem flushCompletions_upd (n : Nat) (c : Chip) : (flushCompletions n c).upd = c.upd := by
  induction n generalizing c with
  | zero => rfl
  | succ n ih => unfold flushCompletions; split <;> simp [ih]
@[simp] theorem flushCompletions_flt (n : Nat) (c : Chip) : (flushCompletions n c).flt = c.flt := by
  induction n generalizing c with
  | zero => rfl
  | succ n ih => unfold flushCompletions; split <;> simp [ih]
@[simp] theorem flushCompletions_blt (n : Nat) (c : Chip) : (flushCompletions n c).blt = c.blt := by
  induction n generalizing c with
  | zero => rfl
  | succ n ih => unfold flushCompletions; split <;> simp [ih]
@[simp] theorem flushCompletions_freeCount (n : Nat) (c : Chip) : (flushCompletions n c).freeCount = c.freeCount := by
  induction n generalizing c with
  | zero => rfl
  | succ n ih => unfold flushCompletions; split <;> simp [ih]
@[simp] theorem flush_regs (c : Chip) : (flush c).regs = c.regs := by
  simp [flush]
@[simp] theorem flush_live (c : Chip) : (flush c).live = c.live := by
  simp [flush]
@[simp] theorem flush_sup (c : Chip) : (flush c).sup = c.sup := by
  simp [flush]
@[simp] theorem flush_wipe (c : Chip) : (flush c).wipe = c.wipe := by
  simp [flush]
@[simp] theorem flush_cg (c : Chip) : (flush c).cg = c.cg := by
  simp [flush]
@[simp] theorem flush_ns (c : Chip) : (flush c).ns = c.ns := by
  simp [flush]
@[simp] theorem flush_tb (c : Chip) : (flush c).tb = c.tb := by
  simp [flush]
@[simp] theorem flush_met (c : Chip) : (flush c).met = c.met := by
  simp [flush]
@[simp] theorem flush_acc (c : Chip) : (flush c).acc = c.acc := by
  simp [flush]
@[simp] theorem flush_tar (c : Chip) : (flush c).tar = c.tar := by
  simp [flush]
@[simp] theorem flush_sess (c : Chip) : (flush c).sess = c.sess := by
  simp [flush]
@[simp] theorem flush_leg (c : Chip) : (flush c).leg = c.leg := by
  simp [flush]
@[simp] theorem flush_outl (c : Chip) : (flush c).outl = c.outl := by
  simp [flush]
@[simp] theorem flush_saf (c : Chip) : (flush c).saf = c.saf := by
  simp [flush]
@[simp] theorem flush_nib (c : Chip) : (flush c).nib = c.nib := by
  simp [flush]
@[simp] theorem flush_pwd (c : Chip) : (flush c).pwd = c.pwd := by
  simp [flush]
@[simp] theorem flush_lsw (c : Chip) : (flush c).lsw = c.lsw := by
  simp [flush]
@[simp] theorem flush_dsp (c : Chip) : (flush c).dsp = c.dsp := by
  simp [flush]
@[simp] theorem flush_age (c : Chip) : (flush c).age = c.age := by
  simp [flush]
@[simp] theorem flush_bp (c : Chip) : (flush c).bp = c.bp := by
  simp [flush]
@[simp] theorem flush_fab (c : Chip) : (flush c).fab = c.fab := by
  simp [flush]
@[simp] theorem flush_latched (c : Chip) : (flush c).latched = c.latched := by
  simp [flush]
@[simp] theorem flush_repl (c : Chip) : (flush c).repl = c.repl := by
  simp [flush]
@[simp] theorem flush_tru (c : Chip) : (flush c).tru = c.tru := by
  simp [flush]
@[simp] theorem flush_upd (c : Chip) : (flush c).upd = c.upd := by
  simp [flush]
@[simp] theorem flush_flt (c : Chip) : (flush c).flt = c.flt := by
  simp [flush]
@[simp] theorem flush_blt (c : Chip) : (flush c).blt = c.blt := by
  simp [flush]
@[simp] theorem flush_freeCount (c : Chip) : (flush c).freeCount = c.freeCount := by
  simp [flush]
@[simp] theorem complete_regs (c : Chip) (r : Requester) (a : Answer) : (complete c r a).regs = c.regs := by
  cases r <;> simp [complete]
@[simp] theorem complete_live (c : Chip) (r : Requester) (a : Answer) : (complete c r a).live = c.live := by
  cases r <;> simp [complete]
@[simp] theorem complete_sup (c : Chip) (r : Requester) (a : Answer) : (complete c r a).sup = c.sup := by
  cases r <;> simp [complete]
@[simp] theorem complete_wipe (c : Chip) (r : Requester) (a : Answer) : (complete c r a).wipe = c.wipe := by
  cases r <;> simp [complete]
@[simp] theorem complete_cg (c : Chip) (r : Requester) (a : Answer) : (complete c r a).cg = c.cg := by
  cases r <;> simp [complete]
@[simp] theorem complete_ns (c : Chip) (r : Requester) (a : Answer) : (complete c r a).ns = c.ns := by
  cases r <;> simp [complete]
@[simp] theorem complete_tb (c : Chip) (r : Requester) (a : Answer) : (complete c r a).tb = c.tb := by
  cases r <;> simp [complete]
@[simp] theorem complete_met (c : Chip) (r : Requester) (a : Answer) : (complete c r a).met = c.met := by
  cases r <;> simp [complete]
@[simp] theorem complete_acc (c : Chip) (r : Requester) (a : Answer) : (complete c r a).acc = c.acc := by
  cases r <;> simp [complete]
@[simp] theorem complete_tar (c : Chip) (r : Requester) (a : Answer) : (complete c r a).tar = c.tar := by
  cases r <;> simp [complete]
@[simp] theorem complete_sess (c : Chip) (r : Requester) (a : Answer) : (complete c r a).sess = c.sess := by
  cases r <;> simp [complete]
@[simp] theorem complete_leg (c : Chip) (r : Requester) (a : Answer) : (complete c r a).leg = c.leg := by
  cases r <;> simp [complete]
@[simp] theorem complete_outl (c : Chip) (r : Requester) (a : Answer) : (complete c r a).outl = c.outl := by
  cases r <;> simp [complete]
@[simp] theorem complete_saf (c : Chip) (r : Requester) (a : Answer) : (complete c r a).saf = c.saf := by
  cases r <;> simp [complete]
@[simp] theorem complete_nib (c : Chip) (r : Requester) (a : Answer) : (complete c r a).nib = c.nib := by
  cases r <;> simp [complete]
@[simp] theorem complete_pwd (c : Chip) (r : Requester) (a : Answer) : (complete c r a).pwd = c.pwd := by
  cases r <;> simp [complete]
@[simp] theorem complete_lsw (c : Chip) (r : Requester) (a : Answer) : (complete c r a).lsw = c.lsw := by
  cases r <;> simp [complete]
@[simp] theorem complete_dsp (c : Chip) (r : Requester) (a : Answer) : (complete c r a).dsp = c.dsp := by
  cases r <;> simp [complete]
@[simp] theorem complete_age (c : Chip) (r : Requester) (a : Answer) : (complete c r a).age = c.age := by
  cases r <;> simp [complete]
@[simp] theorem complete_bp (c : Chip) (r : Requester) (a : Answer) : (complete c r a).bp = c.bp := by
  cases r <;> simp [complete]
@[simp] theorem complete_fab (c : Chip) (r : Requester) (a : Answer) : (complete c r a).fab = c.fab := by
  cases r <;> simp [complete]
@[simp] theorem complete_latched (c : Chip) (r : Requester) (a : Answer) : (complete c r a).latched = c.latched := by
  cases r <;> simp [complete]
@[simp] theorem complete_repl (c : Chip) (r : Requester) (a : Answer) : (complete c r a).repl = c.repl := by
  cases r <;> simp [complete]
@[simp] theorem complete_tru (c : Chip) (r : Requester) (a : Answer) : (complete c r a).tru = c.tru := by
  cases r <;> simp [complete]
@[simp] theorem complete_upd (c : Chip) (r : Requester) (a : Answer) : (complete c r a).upd = c.upd := by
  cases r <;> simp [complete]
@[simp] theorem complete_flt (c : Chip) (r : Requester) (a : Answer) : (complete c r a).flt = c.flt := by
  cases r <;> simp [complete]
@[simp] theorem complete_blt (c : Chip) (r : Requester) (a : Answer) : (complete c r a).blt = c.blt := by
  cases r <;> simp [complete]
@[simp] theorem complete_freeCount (c : Chip) (r : Requester) (a : Answer) : (complete c r a).freeCount = c.freeCount := by
  cases r <;> simp [complete]
@[simp] theorem completeOpt_regs (c : Chip) (r : Option Requester) (a : Answer) : (completeOpt c r a).regs = c.regs := by
  cases r <;> simp [completeOpt]
@[simp] theorem completeOpt_live (c : Chip) (r : Option Requester) (a : Answer) : (completeOpt c r a).live = c.live := by
  cases r <;> simp [completeOpt]
@[simp] theorem completeOpt_sup (c : Chip) (r : Option Requester) (a : Answer) : (completeOpt c r a).sup = c.sup := by
  cases r <;> simp [completeOpt]
@[simp] theorem completeOpt_wipe (c : Chip) (r : Option Requester) (a : Answer) : (completeOpt c r a).wipe = c.wipe := by
  cases r <;> simp [completeOpt]
@[simp] theorem completeOpt_cg (c : Chip) (r : Option Requester) (a : Answer) : (completeOpt c r a).cg = c.cg := by
  cases r <;> simp [completeOpt]
@[simp] theorem completeOpt_ns (c : Chip) (r : Option Requester) (a : Answer) : (completeOpt c r a).ns = c.ns := by
  cases r <;> simp [completeOpt]
@[simp] theorem completeOpt_tb (c : Chip) (r : Option Requester) (a : Answer) : (completeOpt c r a).tb = c.tb := by
  cases r <;> simp [completeOpt]
@[simp] theorem completeOpt_met (c : Chip) (r : Option Requester) (a : Answer) : (completeOpt c r a).met = c.met := by
  cases r <;> simp [completeOpt]
@[simp] theorem completeOpt_acc (c : Chip) (r : Option Requester) (a : Answer) : (completeOpt c r a).acc = c.acc := by
  cases r <;> simp [completeOpt]
@[simp] theorem completeOpt_tar (c : Chip) (r : Option Requester) (a : Answer) : (completeOpt c r a).tar = c.tar := by
  cases r <;> simp [completeOpt]
@[simp] theorem completeOpt_sess (c : Chip) (r : Option Requester) (a : Answer) : (completeOpt c r a).sess = c.sess := by
  cases r <;> simp [completeOpt]
@[simp] theorem completeOpt_leg (c : Chip) (r : Option Requester) (a : Answer) : (completeOpt c r a).leg = c.leg := by
  cases r <;> simp [completeOpt]
@[simp] theorem completeOpt_outl (c : Chip) (r : Option Requester) (a : Answer) : (completeOpt c r a).outl = c.outl := by
  cases r <;> simp [completeOpt]
@[simp] theorem completeOpt_saf (c : Chip) (r : Option Requester) (a : Answer) : (completeOpt c r a).saf = c.saf := by
  cases r <;> simp [completeOpt]
@[simp] theorem completeOpt_nib (c : Chip) (r : Option Requester) (a : Answer) : (completeOpt c r a).nib = c.nib := by
  cases r <;> simp [completeOpt]
@[simp] theorem completeOpt_pwd (c : Chip) (r : Option Requester) (a : Answer) : (completeOpt c r a).pwd = c.pwd := by
  cases r <;> simp [completeOpt]
@[simp] theorem completeOpt_lsw (c : Chip) (r : Option Requester) (a : Answer) : (completeOpt c r a).lsw = c.lsw := by
  cases r <;> simp [completeOpt]
@[simp] theorem completeOpt_dsp (c : Chip) (r : Option Requester) (a : Answer) : (completeOpt c r a).dsp = c.dsp := by
  cases r <;> simp [completeOpt]
@[simp] theorem completeOpt_age (c : Chip) (r : Option Requester) (a : Answer) : (completeOpt c r a).age = c.age := by
  cases r <;> simp [completeOpt]
@[simp] theorem completeOpt_bp (c : Chip) (r : Option Requester) (a : Answer) : (completeOpt c r a).bp = c.bp := by
  cases r <;> simp [completeOpt]
@[simp] theorem completeOpt_fab (c : Chip) (r : Option Requester) (a : Answer) : (completeOpt c r a).fab = c.fab := by
  cases r <;> simp [completeOpt]
@[simp] theorem completeOpt_latched (c : Chip) (r : Option Requester) (a : Answer) : (completeOpt c r a).latched = c.latched := by
  cases r <;> simp [completeOpt]
@[simp] theorem completeOpt_repl (c : Chip) (r : Option Requester) (a : Answer) : (completeOpt c r a).repl = c.repl := by
  cases r <;> simp [completeOpt]
@[simp] theorem completeOpt_tru (c : Chip) (r : Option Requester) (a : Answer) : (completeOpt c r a).tru = c.tru := by
  cases r <;> simp [completeOpt]
@[simp] theorem completeOpt_upd (c : Chip) (r : Option Requester) (a : Answer) : (completeOpt c r a).upd = c.upd := by
  cases r <;> simp [completeOpt]
@[simp] theorem completeOpt_flt (c : Chip) (r : Option Requester) (a : Answer) : (completeOpt c r a).flt = c.flt := by
  cases r <;> simp [completeOpt]
@[simp] theorem completeOpt_blt (c : Chip) (r : Option Requester) (a : Answer) : (completeOpt c r a).blt = c.blt := by
  cases r <;> simp [completeOpt]
@[simp] theorem completeOpt_freeCount (c : Chip) (r : Option Requester) (a : Answer) : (completeOpt c r a).freeCount = c.freeCount := by
  cases r <;> simp [completeOpt]
@[simp] theorem completeAll_regs (c : Chip) (rs : List Requester) (a : Answer) : (completeAll c rs a).regs = c.regs := by
  induction rs generalizing c with
  | nil => rfl
  | cons r rs ih => simpa [completeAll] using (ih (complete c r a))
@[simp] theorem completeAll_live (c : Chip) (rs : List Requester) (a : Answer) : (completeAll c rs a).live = c.live := by
  induction rs generalizing c with
  | nil => rfl
  | cons r rs ih => simpa [completeAll] using (ih (complete c r a))
@[simp] theorem completeAll_sup (c : Chip) (rs : List Requester) (a : Answer) : (completeAll c rs a).sup = c.sup := by
  induction rs generalizing c with
  | nil => rfl
  | cons r rs ih => simpa [completeAll] using (ih (complete c r a))
@[simp] theorem completeAll_wipe (c : Chip) (rs : List Requester) (a : Answer) : (completeAll c rs a).wipe = c.wipe := by
  induction rs generalizing c with
  | nil => rfl
  | cons r rs ih => simpa [completeAll] using (ih (complete c r a))
@[simp] theorem completeAll_cg (c : Chip) (rs : List Requester) (a : Answer) : (completeAll c rs a).cg = c.cg := by
  induction rs generalizing c with
  | nil => rfl
  | cons r rs ih => simpa [completeAll] using (ih (complete c r a))
@[simp] theorem completeAll_ns (c : Chip) (rs : List Requester) (a : Answer) : (completeAll c rs a).ns = c.ns := by
  induction rs generalizing c with
  | nil => rfl
  | cons r rs ih => simpa [completeAll] using (ih (complete c r a))
@[simp] theorem completeAll_tb (c : Chip) (rs : List Requester) (a : Answer) : (completeAll c rs a).tb = c.tb := by
  induction rs generalizing c with
  | nil => rfl
  | cons r rs ih => simpa [completeAll] using (ih (complete c r a))
@[simp] theorem completeAll_met (c : Chip) (rs : List Requester) (a : Answer) : (completeAll c rs a).met = c.met := by
  induction rs generalizing c with
  | nil => rfl
  | cons r rs ih => simpa [completeAll] using (ih (complete c r a))
@[simp] theorem completeAll_acc (c : Chip) (rs : List Requester) (a : Answer) : (completeAll c rs a).acc = c.acc := by
  induction rs generalizing c with
  | nil => rfl
  | cons r rs ih => simpa [completeAll] using (ih (complete c r a))
@[simp] theorem completeAll_tar (c : Chip) (rs : List Requester) (a : Answer) : (completeAll c rs a).tar = c.tar := by
  induction rs generalizing c with
  | nil => rfl
  | cons r rs ih => simpa [completeAll] using (ih (complete c r a))
@[simp] theorem completeAll_sess (c : Chip) (rs : List Requester) (a : Answer) : (completeAll c rs a).sess = c.sess := by
  induction rs generalizing c with
  | nil => rfl
  | cons r rs ih => simpa [completeAll] using (ih (complete c r a))
@[simp] theorem completeAll_leg (c : Chip) (rs : List Requester) (a : Answer) : (completeAll c rs a).leg = c.leg := by
  induction rs generalizing c with
  | nil => rfl
  | cons r rs ih => simpa [completeAll] using (ih (complete c r a))
@[simp] theorem completeAll_outl (c : Chip) (rs : List Requester) (a : Answer) : (completeAll c rs a).outl = c.outl := by
  induction rs generalizing c with
  | nil => rfl
  | cons r rs ih => simpa [completeAll] using (ih (complete c r a))
@[simp] theorem completeAll_saf (c : Chip) (rs : List Requester) (a : Answer) : (completeAll c rs a).saf = c.saf := by
  induction rs generalizing c with
  | nil => rfl
  | cons r rs ih => simpa [completeAll] using (ih (complete c r a))
@[simp] theorem completeAll_nib (c : Chip) (rs : List Requester) (a : Answer) : (completeAll c rs a).nib = c.nib := by
  induction rs generalizing c with
  | nil => rfl
  | cons r rs ih => simpa [completeAll] using (ih (complete c r a))
@[simp] theorem completeAll_pwd (c : Chip) (rs : List Requester) (a : Answer) : (completeAll c rs a).pwd = c.pwd := by
  induction rs generalizing c with
  | nil => rfl
  | cons r rs ih => simpa [completeAll] using (ih (complete c r a))
@[simp] theorem completeAll_lsw (c : Chip) (rs : List Requester) (a : Answer) : (completeAll c rs a).lsw = c.lsw := by
  induction rs generalizing c with
  | nil => rfl
  | cons r rs ih => simpa [completeAll] using (ih (complete c r a))
@[simp] theorem completeAll_dsp (c : Chip) (rs : List Requester) (a : Answer) : (completeAll c rs a).dsp = c.dsp := by
  induction rs generalizing c with
  | nil => rfl
  | cons r rs ih => simpa [completeAll] using (ih (complete c r a))
@[simp] theorem completeAll_age (c : Chip) (rs : List Requester) (a : Answer) : (completeAll c rs a).age = c.age := by
  induction rs generalizing c with
  | nil => rfl
  | cons r rs ih => simpa [completeAll] using (ih (complete c r a))
@[simp] theorem completeAll_bp (c : Chip) (rs : List Requester) (a : Answer) : (completeAll c rs a).bp = c.bp := by
  induction rs generalizing c with
  | nil => rfl
  | cons r rs ih => simpa [completeAll] using (ih (complete c r a))
@[simp] theorem completeAll_fab (c : Chip) (rs : List Requester) (a : Answer) : (completeAll c rs a).fab = c.fab := by
  induction rs generalizing c with
  | nil => rfl
  | cons r rs ih => simpa [completeAll] using (ih (complete c r a))
@[simp] theorem completeAll_latched (c : Chip) (rs : List Requester) (a : Answer) : (completeAll c rs a).latched = c.latched := by
  induction rs generalizing c with
  | nil => rfl
  | cons r rs ih => simpa [completeAll] using (ih (complete c r a))
@[simp] theorem completeAll_repl (c : Chip) (rs : List Requester) (a : Answer) : (completeAll c rs a).repl = c.repl := by
  induction rs generalizing c with
  | nil => rfl
  | cons r rs ih => simpa [completeAll] using (ih (complete c r a))
@[simp] theorem completeAll_tru (c : Chip) (rs : List Requester) (a : Answer) : (completeAll c rs a).tru = c.tru := by
  induction rs generalizing c with
  | nil => rfl
  | cons r rs ih => simpa [completeAll] using (ih (complete c r a))
@[simp] theorem completeAll_upd (c : Chip) (rs : List Requester) (a : Answer) : (completeAll c rs a).upd = c.upd := by
  induction rs generalizing c with
  | nil => rfl
  | cons r rs ih => simpa [completeAll] using (ih (complete c r a))
@[simp] theorem completeAll_flt (c : Chip) (rs : List Requester) (a : Answer) : (completeAll c rs a).flt = c.flt := by
  induction rs generalizing c with
  | nil => rfl
  | cons r rs ih => simpa [completeAll] using (ih (complete c r a))
@[simp] theorem completeAll_blt (c : Chip) (rs : List Requester) (a : Answer) : (completeAll c rs a).blt = c.blt := by
  induction rs generalizing c with
  | nil => rfl
  | cons r rs ih => simpa [completeAll] using (ih (complete c r a))
@[simp] theorem completeAll_freeCount (c : Chip) (rs : List Requester) (a : Answer) : (completeAll c rs a).freeCount = c.freeCount := by
  induction rs generalizing c with
  | nil => rfl
  | cons r rs ih => simpa [completeAll] using (ih (complete c r a))
@[simp] theorem deliver_regs (c : Chip) (r : Requester) (bs : List Byte) : (deliver c r bs).regs = c.regs := by
  unfold deliver; split
  · simp
  · split_ifs <;> simp
@[simp] theorem deliver_live (c : Chip) (r : Requester) (bs : List Byte) : (deliver c r bs).live = c.live := by
  unfold deliver; split
  · simp
  · split_ifs <;> simp
@[simp] theorem deliver_sup (c : Chip) (r : Requester) (bs : List Byte) : (deliver c r bs).sup = c.sup := by
  unfold deliver; split
  · simp
  · split_ifs <;> simp
@[simp] theorem deliver_wipe (c : Chip) (r : Requester) (bs : List Byte) : (deliver c r bs).wipe = c.wipe := by
  unfold deliver; split
  · simp
  · split_ifs <;> simp
@[simp] theorem deliver_cg (c : Chip) (r : Requester) (bs : List Byte) : (deliver c r bs).cg = c.cg := by
  unfold deliver; split
  · simp
  · split_ifs <;> simp
@[simp] theorem deliver_ns (c : Chip) (r : Requester) (bs : List Byte) : (deliver c r bs).ns = c.ns := by
  unfold deliver; split
  · simp
  · split_ifs <;> simp
@[simp] theorem deliver_tb (c : Chip) (r : Requester) (bs : List Byte) : (deliver c r bs).tb = c.tb := by
  unfold deliver; split
  · simp
  · split_ifs <;> simp
@[simp] theorem deliver_met (c : Chip) (r : Requester) (bs : List Byte) : (deliver c r bs).met = c.met := by
  unfold deliver; split
  · simp
  · split_ifs <;> simp
@[simp] theorem deliver_acc (c : Chip) (r : Requester) (bs : List Byte) : (deliver c r bs).acc = c.acc := by
  unfold deliver; split
  · simp
  · split_ifs <;> simp
@[simp] theorem deliver_tar (c : Chip) (r : Requester) (bs : List Byte) : (deliver c r bs).tar = c.tar := by
  unfold deliver; split
  · simp
  · split_ifs <;> simp
@[simp] theorem deliver_sess (c : Chip) (r : Requester) (bs : List Byte) : (deliver c r bs).sess = c.sess := by
  unfold deliver; split
  · simp
  · split_ifs <;> simp
@[simp] theorem deliver_leg (c : Chip) (r : Requester) (bs : List Byte) : (deliver c r bs).leg = c.leg := by
  unfold deliver; split
  · simp
  · split_ifs <;> simp
@[simp] theorem deliver_outl (c : Chip) (r : Requester) (bs : List Byte) : (deliver c r bs).outl = c.outl := by
  unfold deliver; split
  · simp
  · split_ifs <;> simp
@[simp] theorem deliver_saf (c : Chip) (r : Requester) (bs : List Byte) : (deliver c r bs).saf = c.saf := by
  unfold deliver; split
  · simp
  · split_ifs <;> simp
@[simp] theorem deliver_nib (c : Chip) (r : Requester) (bs : List Byte) : (deliver c r bs).nib = c.nib := by
  unfold deliver; split
  · simp
  · split_ifs <;> simp
@[simp] theorem deliver_pwd (c : Chip) (r : Requester) (bs : List Byte) : (deliver c r bs).pwd = c.pwd := by
  unfold deliver; split
  · simp
  · split_ifs <;> simp
@[simp] theorem deliver_lsw (c : Chip) (r : Requester) (bs : List Byte) : (deliver c r bs).lsw = c.lsw := by
  unfold deliver; split
  · simp
  · split_ifs <;> simp
@[simp] theorem deliver_dsp (c : Chip) (r : Requester) (bs : List Byte) : (deliver c r bs).dsp = c.dsp := by
  unfold deliver; split
  · simp
  · split_ifs <;> simp
@[simp] theorem deliver_age (c : Chip) (r : Requester) (bs : List Byte) : (deliver c r bs).age = c.age := by
  unfold deliver; split
  · simp
  · split_ifs <;> simp
@[simp] theorem deliver_bp (c : Chip) (r : Requester) (bs : List Byte) : (deliver c r bs).bp = c.bp := by
  unfold deliver; split
  · simp
  · split_ifs <;> simp
@[simp] theorem deliver_host (c : Chip) (r : Requester) (bs : List Byte) : (deliver c r bs).host = c.host := by
  unfold deliver; split
  · simp
  · split_ifs <;> simp
@[simp] theorem deliver_fab (c : Chip) (r : Requester) (bs : List Byte) : (deliver c r bs).fab = c.fab := by
  unfold deliver; split
  · simp
  · split_ifs <;> simp
@[simp] theorem deliver_latched (c : Chip) (r : Requester) (bs : List Byte) : (deliver c r bs).latched = c.latched := by
  unfold deliver; split
  · simp
  · split_ifs <;> simp
@[simp] theorem deliver_repl (c : Chip) (r : Requester) (bs : List Byte) : (deliver c r bs).repl = c.repl := by
  unfold deliver; split
  · simp
  · split_ifs <;> simp
@[simp] theorem deliver_tru (c : Chip) (r : Requester) (bs : List Byte) : (deliver c r bs).tru = c.tru := by
  unfold deliver; split
  · simp
  · split_ifs <;> simp
@[simp] theorem deliver_upd (c : Chip) (r : Requester) (bs : List Byte) : (deliver c r bs).upd = c.upd := by
  unfold deliver; split
  · simp
  · split_ifs <;> simp
@[simp] theorem deliver_flt (c : Chip) (r : Requester) (bs : List Byte) : (deliver c r bs).flt = c.flt := by
  unfold deliver; split
  · simp
  · split_ifs <;> simp
@[simp] theorem deliver_blt (c : Chip) (r : Requester) (bs : List Byte) : (deliver c r bs).blt = c.blt := by
  unfold deliver; split
  · simp
  · split_ifs <;> simp
@[simp] theorem deliver_freeCount (c : Chip) (r : Requester) (bs : List Byte) : (deliver c r bs).freeCount = c.freeCount := by
  unfold deliver; split
  · simp
  · split_ifs <;> simp
@[simp] theorem discardWork_regs (c : Chip) (p : Block → Bool) : (discardWork c p).regs = c.regs := by
  simp [discardWork]
@[simp] theorem discardWork_live (c : Chip) (p : Block → Bool) : (discardWork c p).live = c.live := by
  simp [discardWork]
@[simp] theorem discardWork_sup (c : Chip) (p : Block → Bool) : (discardWork c p).sup = c.sup := by
  simp [discardWork]
@[simp] theorem discardWork_wipe (c : Chip) (p : Block → Bool) : (discardWork c p).wipe = c.wipe := by
  simp [discardWork]
@[simp] theorem discardWork_cg (c : Chip) (p : Block → Bool) : (discardWork c p).cg = c.cg := by
  simp [discardWork]
@[simp] theorem discardWork_ns (c : Chip) (p : Block → Bool) : (discardWork c p).ns = c.ns := by
  simp [discardWork]
@[simp] theorem discardWork_tb (c : Chip) (p : Block → Bool) : (discardWork c p).tb = c.tb := by
  simp [discardWork]
@[simp] theorem discardWork_met (c : Chip) (p : Block → Bool) : (discardWork c p).met = c.met := by
  simp [discardWork]
@[simp] theorem discardWork_acc (c : Chip) (p : Block → Bool) : (discardWork c p).acc = c.acc := by
  simp [discardWork]
@[simp] theorem discardWork_tar (c : Chip) (p : Block → Bool) : (discardWork c p).tar = c.tar := by
  simp [discardWork]
@[simp] theorem discardWork_sess (c : Chip) (p : Block → Bool) : (discardWork c p).sess = c.sess := by
  simp [discardWork]
@[simp] theorem discardWork_leg (c : Chip) (p : Block → Bool) : (discardWork c p).leg = c.leg := by
  simp [discardWork]
@[simp] theorem discardWork_outl (c : Chip) (p : Block → Bool) : (discardWork c p).outl = c.outl := by
  simp [discardWork]
@[simp] theorem discardWork_saf (c : Chip) (p : Block → Bool) : (discardWork c p).saf = c.saf := by
  simp [discardWork]
@[simp] theorem discardWork_nib (c : Chip) (p : Block → Bool) : (discardWork c p).nib = c.nib := by
  simp [discardWork]
@[simp] theorem discardWork_pwd (c : Chip) (p : Block → Bool) : (discardWork c p).pwd = c.pwd := by
  simp [discardWork]
@[simp] theorem discardWork_lsw (c : Chip) (p : Block → Bool) : (discardWork c p).lsw = c.lsw := by
  simp [discardWork]
@[simp] theorem discardWork_dsp (c : Chip) (p : Block → Bool) : (discardWork c p).dsp = c.dsp := by
  simp [discardWork]
@[simp] theorem discardWork_age (c : Chip) (p : Block → Bool) : (discardWork c p).age = c.age := by
  simp [discardWork]
@[simp] theorem discardWork_bp (c : Chip) (p : Block → Bool) : (discardWork c p).bp = c.bp := by
  simp [discardWork]
@[simp] theorem discardWork_fab (c : Chip) (p : Block → Bool) : (discardWork c p).fab = c.fab := by
  simp [discardWork]
@[simp] theorem discardWork_latched (c : Chip) (p : Block → Bool) : (discardWork c p).latched = c.latched := by
  simp [discardWork]
@[simp] theorem discardWork_repl (c : Chip) (p : Block → Bool) : (discardWork c p).repl = c.repl := by
  simp [discardWork]
@[simp] theorem discardWork_tru (c : Chip) (p : Block → Bool) : (discardWork c p).tru = c.tru := by
  simp [discardWork]
@[simp] theorem discardWork_upd (c : Chip) (p : Block → Bool) : (discardWork c p).upd = c.upd := by
  simp [discardWork]
@[simp] theorem discardWork_flt (c : Chip) (p : Block → Bool) : (discardWork c p).flt = c.flt := by
  simp [discardWork]
@[simp] theorem discardWork_blt (c : Chip) (p : Block → Bool) : (discardWork c p).blt = c.blt := by
  simp [discardWork]
@[simp] theorem discardWork_freeCount (c : Chip) (p : Block → Bool) : (discardWork c p).freeCount = c.freeCount := by
  simp [discardWork]

end Sys2Proof.Machine
end

