-- ==== Sys2Proof/Laws/Ops.lean ====
section
/-! SUPPORT. What the shared operations do, once each: bit fields, event bits, admission of a request, answers. -/

namespace Sys2Proof.Machine

/-! ### Bit fields -/

theorem fieldOf_bit (w : Word) (b : Nat) : fieldOf w b b = (w.getLsbD b).toNat := by
  simp only [fieldOf, Nat.sub_self, Nat.zero_add, pow_one, BitVec.getLsbD, Nat.testBit, Nat.and_comm 1,
    Nat.and_one_is_mod]
  rcases Nat.mod_two_eq_zero_or_one (w.toNat >>> b) with h | h <;> simp [h]

/-- Setting a bit sets it. -/
theorem bitOf_withBit_self (w : Word) (b : Nat) (hb : b < 32) : bitOf (withBit w b true) b = true := by
  have hw := w.isLt
  simp only [bitOf, withBit, withField, fieldOf, Nat.sub_self, Nat.zero_add, pow_one, Bool.toNat_true,
    BitVec.getLsbD_ofNat, hb, decide_true, Bool.true_and, Nat.testBit_eq_decide_div_mod_eq, Nat.shiftRight_eq_div_pow]
  have hp : 0 < 2 ^ b := Nat.two_pow_pos b
  have h2 : w.toNat / 2 ^ b % 2 * 2 ^ b ≤ w.toNat :=
    le_trans (Nat.mul_le_mul_right _ (Nat.mod_le _ _)) (Nat.div_mul_le_self _ _)
  have key : (w.toNat - w.toNat / 2 ^ b % 2 * 2 ^ b + 1 % 2 * 2 ^ b) / 2 ^ b
      = w.toNat / 2 ^ b - w.toNat / 2 ^ b % 2 + 1 := by
    rw [Nat.mul_comm (_ % 2) (2 ^ b)] at h2 ⊢
    rw [Nat.one_mod, one_mul, Nat.add_div_right _ hp, Nat.sub_mul_div_of_le _ _ _ h2]
  rw [key]
  simp only [decide_eq_true_eq]
  omega

/-! ### Event bits (R357) -/

@[simp] theorem regGet_routeEvt (c : Chip) (k x : Nat) : regGet (routeEvt c k) x = regGet c x := by simp [regGet]

theorem bitOf_eq_fieldOf (w : Word) (b : Nat) : (fieldOf w b b = 1) ↔ bitOf w b = true := by
  rw [fieldOf_bit]; cases h : w.getLsbD b <;> simp [bitOf, h]

/-- An event raised is set. -/
@[simp] theorem immBit_raiseEvt (c : Chip) (a b : Nat) (hb : b < 32) : immBit (raiseEvt c a b) a b = true := by
  unfold raiseEvt
  split
  · assumption
  · simp only [immBit, regGet_routeEvt, regGet_regPut_self]
    exact bitOf_withBit_self _ _ hb

/-- An event raised changes no other register. -/
theorem regGet_raiseEvt_ne (c : Chip) {a x : Nat} (b : Nat) (h : x ≠ a) : regGet (raiseEvt c a b) x = regGet c x := by
  unfold raiseEvt
  split
  · rfl
  · rw [regGet_routeEvt, regGet_regPut_ne _ _ h]

/-- An event that stands changes nothing. -/
theorem raiseEvt_of_set (c : Chip) (a b : Nat) (h : immBit c a b = true) : raiseEvt c a b = c := by
  simp [raiseEvt, h]

/-! ### Requests (R16, R350, R354) -/

theorem begun_sup (c : Chip) (req : Requester) (op : Nat) : (begun c req op).sup = c.sup := by
  cases req <;> rfl

theorem turnAway_begun (c : Chip) (req : Requester) (op : Nat) (b : Block) :
    turnAway (begun c req op) b = turnAway c b := by
  cases req <;> rfl

/-- An admitted request is performed on the chip with its descriptor started. -/
theorem perform_of_performs (c : Chip) (req : Requester) (op : Nat) (b : Block) (act : Chip → Chip)
    (h : performs c req op b = true) : perform c req op b act = act (begun c req op) := by
  have hb := turnAway_begun c req op b
  cases req with
  | service tag =>
    simp only [performs, Bool.and_eq_true, Option.isNone_iff_eq_none] at h
    simp [perform, begun, h.1, h.2]
  | host q tag =>
    simp only [performs, Bool.and_eq_true, Option.isNone_iff_eq_none] at h
    simp only [begun] at hb ⊢
    simp [perform, h.1, hb, h.2]

/-- A request turned away is answered and has no other effect. -/
theorem perform_of_turned (c : Chip) (req : Requester) (op : Nat) (b : Block) (act : Chip → Chip) (st : Status)
    (hs : match req with | .service _ => ready c .svc = true | .host q tag => mayStart [] c.host.inflight q tag op = true)
    (h : turnAway c b = some st) : perform c req op b act = complete (begun c req op) req (ansStatus st) := by
  have hb := turnAway_begun c req op b
  cases req with
  | service tag =>
    simp only at hs
    simp [perform, begun, hs, h]
  | host q tag =>
    simp only at hs
    simp only [begun] at hb ⊢
    simp [perform, hs, hb, h]

end Sys2Proof.Machine
end

