-- ==== Sys2Proof/WellFormed.lean ====
section
/-! DEFINITION. Well-formed commands: the bounds that the spec's own formats put on operands whose types are wider
(R7, R170, R347, R359, R374, R456). The meanings are total; these bounds say which commands stand for something the
hardware can meet. -/

namespace Sys2Proof

open Machine

/-- What a check looks at. -/
inductive Bound where
  /-- An address of BAR2 (R347), or of a converter module (R259). -/
  | address
  /-- An angle of the mains cycle in AU (R98). -/
  | angle
  /-- A slot of the commit ring (R170). -/
  | slot
  /-- The length of a fixed-size content. -/
  | length
  /-- A modulator lane. -/
  | lane
  /-- A field narrower than its operand. -/
  | field
  /-- A member address or a frame header of the fabric (R374). -/
  | member
  /-- A fault source (R456). -/
  | source
  deriving DecidableEq, Repr

/-- R347: an address that BAR2 reaches. -/
def inBar2 (a : Nat) : Bool := decide (a < 0x8000000)

/-- R7: the address of a whole word in BAR2. -/
def aligned (a : Nat) : Bool := inBar2 a && a % 4 == 0

/-- R374: the fields of a header fit their widths. -/
def header (h : FeltHdr) : Bool :=
  decide (h.src < 1024 ∧ h.ttl < 256) && (match h.dst with | some d => decide (d < 1024) | none => true)

/-- The checks on a command's operands. -/
def Instr.checks : Instr → List (Bound × Bool)
  | .registerWrite addr _ => [(.address, (aligned addr))]
  | .unmappedAccess addr _ => [(.address, (inBar2 addr))]
  | .fencedWindowAccess addr _ => [(.address, (inBar2 addr))]
  | .cgCtrlArm _ _ => []
  | .cgCtrlCancel _ _ => []
  | .cgPoll _ => []
  | .powerDieConfirm => []
  | .pdConfirmTimeout => []
  | .nsWrite addr _ => [(.address, (aligned addr))]
  | .nsSettingLanded => []
  | .pwdWriteLanded _ => []
  | .powerLinkTimeout => []
  | .nibMirrorRefresh _ _ => []
  | .clockLoss _ => []
  | .clockExcursion _ => []
  | .refRestored => []
  | .modeReqGo _ _ => []
  | .prepDone => []
  | .brownOut _ _ _ _ => []
  | .holdupOff => []
  | .holdupRecovery _ _ => []
  | .powerGood _ _ => []
  | .powerGoodLost _ => []
  | .powerDiePor _ _ _ => []
  | .safetyDiePor levels _ => [(.length, decide (levels.length = 8))]
  | .rstNReset => []
  | .rstCtrlModule => []
  | .rstCtrlCold => []
  | .rstCtrlRegion _ => []
  | .watchdogExpiry => []
  | .resetRelease _ _ bad _ _ => [(.slot, (bad.all (fun k => decide (k < 64))))]
  | .sramWipeDone _ => []
  | .dramWipeDone _ => []
  | .mramWipeDone _ => []
  | .functionReady _ bad _ _ _ => [(.slot, (bad.all (fun k => decide (k < 64))))]
  | .readyTimeout _ => []
  | .wakeEvent _ => []
  | .deepStandbyWake _ => []
  | .disableWrite _ => []
  | .drainDone _ => []
  | .outletDrainTimeout _ => []
  | .lifecycleToken tk _ => [(.length, (tk.length == 2876))]
  | .loadCheckStart _ => []
  | .loadCheckDone _ _ => []
  | .chargeRiseMeasured _ => []
  | .holdOkFall _ => []
  | .holdOkRise _ => []
  | .angleZero _ _ => []
  | .finalisationDone => []
  | .commitSlotWritten _ => []
  | .lastGaspCommit a _ => [(.angle, (decide (a < 65536)))]
  | .finalCommit a _ => [(.angle, (decide (a < 65536)))]
  | .dtcorrMeasure _ => []
  | .harmWindow => []
  | .meterSample l => [(.lane, (l.all (fun x => decide (x.lane < 64))))]
  | .cvLimitExceeded _ => []
  | .rangeDown _ _ => []
  | .laneTrained _ x => [(.length, (x.openings.length == 32))]
  | .trainTimeout _ => []
  | .laneSignalLoss _ _ => []
  | .retrainDone _ _ _ => []
  | .retrainTimeout _ => []
  | .laneFailedRetry _ => []
  | .calMeasStart _ _ _ => []
  | .calMeasAbort => []
  | .calMeasDone => []
  | .accLatch _ _ => []
  | .tbLatch a f _ => [(.angle, (decide (a < 65536 ∧ f < 65536)))]
  | .refQualified _ => []
  | .refLost _ => []
  | .tbLockAcquired => []
  | .tbPhaseJump => []
  | .holdoverExpiry => []
  | .beaconTimeout => []
  | .schedBook b => [(.angle, (decide (b.angle < 65536)))]
  | .schedCancel _ => []
  | .schedFire a _ => [(.angle, (decide (a < 65536)))]
  | .wallOffset _ _ => []
  | .slewDone _ => []
  | .rtcAlarm _ => []
  | .calTblWrite _ => []
  | .calTblRead => []
  | .pasCtrlArm => []
  | .pasCtrlDisarm => []
  | .pasCtrlClear => []
  | .priceDataWrite _ => []
  | .priceDataRead => []
  | .priceCtrlPublish => []
  | .priceCtrlClear => []
  | .mdCtrlReset => []
  | .sealOpened => []
  | .sealClosed => []
  | .legEntryWrite => []
  | .legSignStart => []
  | .signatureDone => []
  | .legDisplayRebuild => []
  | .legEvtRead => []
  | .laneCvRead _ => []
  | .legalLoad _ _ _ => []
  | .pilotStateAccepted _ _ _ a => [(.angle, (decide (a < 65536)))]
  | .pilotError _ => []
  | .pwmOffTimeout _ a => [(.angle, (decide (a < 65536)))]
  | .overcurrentTimeout _ a => [(.angle, (decide (a < 65536)))]
  | .ppClassAccepted _ _ => []
  | .lockTimeout _ => []
  | .lockRetry _ => []
  | .lockFeedbackChange _ _ => []
  | .cmSlacParm _ _ => []
  | .cmStartAttenChar _ _ => []
  | .cmMnbcSound _ _ _ => []
  | .cmAttenChar _ _ => []
  | .cmSlacMatch _ _ => []
  | .cmSetKey _ _ => []
  | .cmValidate _ _ => []
  | .slacTimeout _ => []
  | .slacRetryTimer _ => []
  | .gpLinkUp _ => []
  | .sessionSetupReq _ _ _ _ => []
  | .sessionResumeTimeout _ a => [(.angle, (decide (a < 65536)))]
  | .cableCheckReq _ => []
  | .preChargeReq _ _ _ => []
  | .powerDeliveryReq _ _ a => [(.angle, (decide (a < 65536)))]
  | .currentDemandReq _ _ _ => []
  | .weldingDetectionReq _ => []
  | .sessionStopReq _ a => [(.angle, (decide (a < 65536)))]
  | .meteringReceiptReq _ => []
  | .certificateInstallationReq _ _ _ => []
  | .authBackendResponse _ _ _ _ => []
  | .authBackendTimeout _ => []
  | .authExpiry _ a => [(.angle, (decide (a < 65536)))]
  | .nfcCardRead _ p _ a => [(.angle, (decide (a < 65536 ∧ p < 16)))]
  | .nfcCardHoldExpiry => []
  | .ocppRemoteStart _ p _ => [(.field, (decide (p < 16)))]
  | .ocppRemoteStop _ a => [(.angle, (decide (a < 65536)))]
  | .ocppUnlockConnector _ => []
  | .ocppChangeAvailability _ _ => []
  | .ocppReset => []
  | .ocppTriggerMessage _ => []
  | .ocppReservation _ _ => []
  | .ocppChargingProfile _ _ _ _ => []
  | .ocppLocalList _ _ _ => []
  | .ocppFirmwareUpdate => []
  | .ocppDataTransfer _ => []
  | .canStatus _ a _ _ _ _ _ _ => [(.address, (decide (a < 64)))]
  | .canIdent _ a _ _ _ _ _ _ => [(.address, (decide (a < 64)))]
  | .convLost _ a => [(.address, (decide (a < 64)))]
  | .canBusOff _ a b => [(.field, (decide (a ≤ 256 ∧ b ≤ 255)))]
  | .setpointTick _ => []
  | .identReqTick => []
  | .fbChange _ _ _ a _ => [(.angle, (decide (a < 65536)))]
  | .closeTimeout _ => []
  | .checkTimeout _ => []
  | .prechargeTimeout _ => []
  | .openingTimeout _ => []
  | .relearn _ => []
  | .coilPullinEnd _ => []
  | .imdResult _ _ _ _ => []
  | .nibChallenge _ => []
  | .nibAnswer _ _ a => [(.angle, (decide (a < 65536)))]
  | .nibAnswerTimeout => []
  | .nibLost _ => []
  | .lockstepMismatch => []
  | .residualCurrentTrip _ _ _ _ => []
  | .peLossTrip _ _ _ => []
  | .pilotTrip _ _ _ _ => []
  | .nibBBandWithdraw _ _ _ => []
  | .contactorMismatch _ _ => []
  | .failToClose _ _ => []
  | .weldDetected _ _ => []
  | .poleTestDone _ _ _ => []
  | .shuntTripDirect => []
  | .shuntTripEnd => []
  | .tempReading _ _ => []
  | .tempSwitchTrip _ _ => []
  | .sealSwitchChange levels => [(.length, decide (levels.length = 8))]
  | .sealSettingAdopt => []
  | .precloseTest _ _ a => [(.angle, (decide (a < 65536)))]
  | .tripLatchClear _ _ => []
  | .degradedWindowEnd => []
  | .nibAimedWithdraw _ => []
  | .outletAdopt _ _ => []
  | .lswOn _ _ _ => []
  | .lswOff _ _ => []
  | .lswDurExpiry _ => []
  | .lswInEdge _ _ _ _ => []
  | .lswRampDone _ _ => []
  | .lswWindowEnd _ _ => []
  | .lswRailSag _ _ => []
  | .lswRampResume _ _ _ => []
  | .lswPauseTimeout _ _ => []
  | .lswThermalShutdown _ _ => []
  | .lswRetry _ _ => []
  | .lswTripsReset _ => []
  | .lswOvercurrent _ _ => []
  | .lswShed _ _ => []
  | .lswGroupUv _ _ => []
  | .lswGroupUvRecover _ _ _ => []
  | .lswTestPulse _ => []
  | .lswTestPulseEnd _ _ _ _ => []
  | .lswOffCheckFail _ _ => []
  | .lswOpenLoad _ _ _ _ => []
  | .lswDisableWrite _ => []
  | .dspPubGo => []
  | .dspFrameStart => []
  | .dspFrameEnd _ _ => []
  | .frameFree => []
  | .ageRecompute => []
  | .ageSave => []
  | .ageSense => []
  | .ageSenseRead _ => []
  | .ageBaseline => []
  | .panelPowerOn => []
  | .panelPowerOnStep => []
  | .panelPowerOff => []
  | .panelPowerOffStep => []
  | .bpUpdateStart _ _ => []
  | .bpBusyFall _ _ => []
  | .bpFaultRetry _ _ => []
  | .perst _ => []
  | .pcieLinkDown => []
  | .wlockSet => []
  | .lockedWrite addr _ => [(.address, (inBar2 addr))]
  | .ringEnable _ _ => []
  | .ringDisable _ _ => []
  | .sqDoorbell _ _ => []
  | .cqDoorbell _ _ => []
  | .descriptorFetch _ f => [(.length, (match f with | .desc bs => bs.length == 64 | _ => true))]
  | .coalTimer _ => []
  | .msixTableWrite _ => []
  | .nop _ => []
  | .marker _ _ a => [(.angle, (decide (a < 65536)))]
  | .markerCancel _ _ => []
  | .timeSet _ _ => []
  | .modeReq _ _ _ => []
  | .shadowWrite _ _ => []
  | .cgArm _ _ _ _ => []
  | .cgCancel _ => []
  | .nsSeq _ _ _ => []
  | .accRead _ _ _ _ => []
  | .calLoad _ _ _ => []
  | .calCtrl _ _ => []
  | .pricePublish _ _ _ => []
  | .mdReset _ _ => []
  | .legExport _ _ _ _ => []
  | .legAck _ _ => []
  | .sessionStart _ _ _ _ _ _ => []
  | .sessionStop _ _ => []
  | .authList _ _ _ _ => []
  | .lswCmd _ _ _ _ _ => []
  | .dspWrite _ _ _ => []
  | .dspPublish _ _ _ => []
  | .attest _ _ _ => []
  | .updOpen _ _ _ _ => []
  | .updChunk _ _ _ _ _ => []
  | .updVerify _ _ => []
  | .updVerifyDone => []
  | .updActivate _ _ => []
  | .activationPlaced => []
  | .privQuiesce => []
  | .updConfirm _ _ => []
  | .updAbort _ _ => []
  | .updQuery _ => []
  | .updIdleTimeout => []
  | .confirmTimeout _ => []
  | .confirmTimerSave => []
  | .rollbackRestart => []
  | .hello h _ a _ _ _ _ _ => [(.member, (header h && decide (a < 1024)))]
  | .helloTick _ => []
  | .claim h _ a => [(.member, (header h && decide (a < 1024)))]
  | .addrClaimValid => []
  | .lsa h _ _ _ _ _ => [(.member, header h)]
  | .lsaRefresh => []
  | .lsaAgeOut a => [(.member, (decide (a < 1024)))]
  | .sync h _ _ => [(.member, header h)]
  | .syncTick _ => []
  | .demand h _ => [(.member, header h)]
  | .allocCollectionClose => []
  | .grant h _ _ m _ _ _ => [(.member, (header h && decide (m < 1024)))]
  | .grantTimeout => []
  | .partitionHoldEnd => []
  | .resume h _ m => [(.member, (header h && decide (m < 1024)))]
  | .replicaOpen h _ => [(.member, header h)]
  | .replicaUpdate h _ => [(.member, header h)]
  | .replicaAck h _ _ _ => [(.member, header h)]
  | .replicaClose h _ _ _ => [(.member, header h)]
  | .replicaHolderLost _ a => [(.member, (decide (a < 1024)))]
  | .replicaPlaceRetry _ => []
  | .replicaCloseRetry _ a => [(.member, (decide (a < 1024)))]
  | .replicaAdopt _ _ => []
  | .settled h _ _ _ _ _ => [(.member, header h)]
  | .leave h _ _ => [(.member, header h)]
  | .wake _ => []
  | .forget h a _ => [(.member, (header h && decide (a < 1024)))]
  | .rate _ _ => []
  | .portLock _ _ => []
  | .portTrainTimeout _ => []
  | .portLockLoss _ _ => []
  | .portErrRead _ => []
  | .fabCtrlForget _ _ => []
  | .fabCtrlRetry => []
  | .deriveRequest _ _ _ => []
  | .remask => []
  | .entropyOutput _ _ _ => []
  | .xmssSign _ => []
  | .xmssVerify _ _ => []
  | .keygen => []
  | .keygenDone => []
  | .dbgChal => []
  | .dbgResp _ _ => []
  | .tlsHandshakeMessage _ _ _ => []
  | .csrSign _ _ _ _ => []
  | .siteKeyDelivery _ _ _ _ => []
  | .siteKeyActivate _ _ => []
  | .faultReport rs => [(.source, (rs.all (fun r => decide (r.src < 512))))]
  | .faultCleared n => [(.source, (decide (n < 512)))]
  | .quietTimerExpiry n => [(.source, (decide (n < 512)))]
  | .escalationCheck n => [(.source, (decide (n < 512)))]
  | .clearRetire n => [(.source, (decide (n < 512)))]
  | .clearRecov n => [(.source, (decide (n < 512)))]
  | .faultForceWrite _ _ => []
  | .blotterWrite => []
  | .bltLatch => []
  | .bltNext => []
  | .bltLatchDone => []
  | .aonPowerOn => []
  | .blockResetComplete _ => []
  | .lswGroupWithinBudget _ _ => []
  | .feltFrameRejected _ _ _ => []
  | .blankToFactory _ _ _ _ _ => []
  | .pcieLinkUp sp w => [(.field, (decide (1 ≤ sp ∧ sp ≤ 3 ∧ 1 ≤ w ∧ w ≤ 2)))]
  | .authorizationReq _ _ _ _ p => [(.field, (decide (p < 16)))]
  | .chargeParameterDiscoveryReq _ _ _ _ => []
  | .hlcTimeout _ => []
  | .ocppSetVariables _ _ => []
  | .ocppSetDisplayMessage _ => []
  | .ocppGetLog _ _ _ => []

/-- The checks that a command fails. -/
def Instr.defects (i : Instr) : List Bound := (i.checks.filter (fun e => !e.2)).map (·.1)

/-- A well-formed command fails no check. -/
def Instr.wf (i : Instr) : Bool := i.defects.isEmpty

end Sys2Proof
end

