-- ==== Sys2Proof/Tests/Slice0.lean ====
section
/-! SUPPORT. Tests of single commands and operations, and for each statement that has hypotheses a state and operands
that meet them, clause by clause. -/

namespace Sys2Proof.Tests

set_option Elab.async false

open Sys2Proof.Machine

/-- A deployed module in Operational, every function ready, the timebase and the fabric running. -/
def baseChip : Chip :=
  { Chip.reset with
    sup := { Sup.reset with mode := .operational, lcs := .deployed, ready := 0xFF, fence := 0 }
    tb := { Timebase.reset with known := true, cycle := 1000 }
    fab := { Fab.reset with mode := .deterministic, addr := 5, addrValid := true, ports := [(0, { FPortSt.init with state := .full })] }
    tru := { Tru.reset with siteLoaded := true, unit := 7 }
    acc := { AccBlock.reset with restored := true }
    saf := { Saf.reset with nibOk := true, lockstepOk := true }
    pwd := { Pwd.reset with linkUp := true, holdOk := true } }

/-- A state on which the listed changes have been made in turn. -/
def st (l : List (Chip → Chip)) : State := { State.reset with chip := l.foldl (fun c f => f c) baseChip }

/-- Changes of one context, ring pair, source, lane, coil or setting. -/
def wCtx (c : Chip) (x : Nat) (f : Context → Context) : Chip := setCtx c x (f (ctxOf c x))
def wRing (c : Chip) (q : Nat) (f : RingSt → RingSt) : Chip := setRing c q (f (ringOf c q))
def wSrc (c : Chip) (n : Nat) (f : Src → Src) : Chip := setSrc c n (f (srcOf c n))
def wLane (c : Chip) (n : Nat) (f : LaneSt → LaneSt) : Chip := setLane c n (f (laneOf c n))
def wCoil (c : Chip) (n : Nat) (f : Coil → Coil) : Chip := setCoil c n (f (coilOf c n))
def wLive (c : Chip) (a : Nat) (w : Word) : Chip := regPut (livePut c a w) a w

/-- Outlet o is a DC outlet; its FBn reads closed. -/
def wKind (o k : Nat) (c : Chip) : Chip := wLive c (Reg.OUT_CFG o) (withField (liveGet c (Reg.OUT_CFG o)) 1 0 k)
/-- Every FBn reads closed. -/
def wFb (c : Chip) : Chip := { c with pwd := { c.pwd with fb := 0xFF#8 } }
/-- The mode. -/
def wMode (m : Mode) (c : Chip) : Chip := { c with sup := { c.sup with mode := m } }
/-- Context 0 holds session 0x33 of outlet 0 in a state. -/
def wSess (b : BState) (c : Chip) : Chip :=
  setCtx c 0 { Context.init with bstate := b, outlet := 0, sessionId := 0x33#128, price := List.replicate 36 0#32 }
/-- Outlet 0 charges from module 1 of bus 0. -/
def wConv (c : Chip) : Chip :=
  let d := wLive (wLive (wKind 0 2 c) (Reg.OUT_CONV 0) 0x10100#32) (Reg.OUT_CAN_CFG 0) 0x101#32
  { d with outl := { d.outl with modules := [(1, { Module.init with present := true })] } }
/-- Point 0 is a single-phase point bound to outlet 0, all lanes running. -/
def wPoint (c : Chip) : Chip :=
  let d := wLive c (Reg.MET_MP_CFG 0) (withField (liveGet c (Reg.MET_MP_CFG 0)) 1 0 2)
  { d with met := { d.met with lanes := [0, 1, 2].map (fun n => (n, { LaneSt.init with state := .run })) } }
/-- Billed sessions may start on outlet 0. -/
def wBill (c : Chip) : Chip :=
  let d := wPoint (wLive c (Reg.OUT_CFG 0) 0x21#32)
  { d with tb := { d.tb with valid := true }, tar := { d.tar with prices := [(0, List.replicate 36 0#32)] },
           leg := { d.leg with uncal := 0, sealOpen := false } }
/-- Nib gives and the processor permits outlet 0. -/
def wPermit (c : Chip) : Chip :=
  { c with saf := { c.saf with permit := 1, lockstepOk := true, nibOk := true },
           nib := { c.nib with gate := 1, permit := 1, selftestOk := true, procOk := true, parityOk := true } }
/-- This module takes part in allocation, and a round's collection is open. -/
def wAlloc (c : Chip) : Chip :=
  let d := wLive c Reg.FAB_CFG (withBit (liveGet c Reg.FAB_CFG) 2 true)
  { d with fab := { d.fab with collecting := true, roundRun := 5, db := [⟨7, 5, 1, 0, 0, [], false, 3600⟩] } }
/-- Ring pair 0 runs, with one descriptor waiting. -/
def wRun (c : Chip) : Chip :=
  wRing (regPut c (Reg.HST_RING_CFG 0) 0x441#32) 0 (fun x => { x with state := .run, sqTail := 1, sqHead := 0, cqHead := 0, cqTail := 0 })
/-- The period that carries a symbol code (R125). -/
def wPam (k : Nat) : Pam := ([.m3, .m1, .p1, .p3].find? (fun p => p.bits == k)).getD .m3
def wSym (n : Nat) : Period := some (wPam (n / 4), wPam (n % 4))
/-- What training finds on a lane whose modulator is of a TYPE: every step open, the sequence of R128, two ID words. -/
def wScan (ty : Nat) : LaneScan :=
  ⟨List.replicate 32 40, [], trainSequence, [wSym 0, wSym ty, wSym 0, wSym 0, wSym 1], [0, 1, 2, 3, 4].map wSym⟩
/-- Point 0 as wPoint has it, its lanes as they are. -/
def wPoint2 (c : Chip) : Chip := wLive c (Reg.MET_MP_CFG 0) (withField (liveGet c (Reg.MET_MP_CFG 0)) 1 0 2)
/-- The steps of a pre-close test that passes. -/
def wRunOk : PrecloseRun := ⟨true, 6000, true, 30000, true, 0, 0, true, 100, true, true⟩
/-- A panel of 4 by 2 pixels. -/
def wSmall (c : Chip) : Chip :=
  wLive (wLive c Reg.DSP_HTIME (withField (liveGet c Reg.DSP_HTIME) 15 0 4)) Reg.DSP_VTIME
    (withField (liveGet c Reg.DSP_VTIME) 15 0 2)
/-- A descriptor: opcode and tag, the rest 0. -/
def wDesc (op tag : Nat) : List Byte :=
  [BitVec.ofNat 8 op, BitVec.ofNat 8 (op / 256), 0, 0, BitVec.ofNat 8 tag] ++ List.replicate 59 0
/-- A manifest of one part (service firmware, 8 bytes) for any unit. -/
def wManifest : List Byte :=
  beBytes 4 0x51584D46 ++ beBytes 1 1 ++ beBytes 1 1 ++ beBytes 2 0 ++ beBytes 2 0x0880 ++ beBytes 2 0xFFFF
   ++ List.replicate 24 0 ++ beBytes 4 8 ++ List.replicate 8 0 ++ List.replicate 68 0
   ++ (beBytes 1 8 ++ List.replicate 11 0 ++ beBytes 4 8 ++ List.replicate 48 0) ++ List.replicate 2820 0
/-- A token for a lifecycle transition. -/
def wToken (a b : Nat) (c : Chip) : List Byte :=
  beBytes 4 0x51584C54 ++ beBytes 1 1 ++ beBytes 1 a ++ beBytes 1 b ++ beBytes 1 0 ++ id16 c.tru.unit ++ id32 c.tru.lcNonce
   ++ List.replicate 2820 0

/-- Operands and entries that meet hypotheses. -/
def wStamp : Stamp := ⟨1, 0, 0⟩
def wNs : NsSetting := ⟨Reg.PWD_BO_CFG, 7, 0, 100⟩
def wSeq : NsSeq := ⟨[wNs], 0, 0, 1, none, false⟩
def wBook : Booking := ⟨2000, 0, .displayStart, 0⟩
def wSlot : CommitSlot := ⟨1, 1000, 0, false, false, false, 0, 0, 0, 0, 0, 0, [], [], []⟩
def wCause : LegCause := ⟨1, 0, wStamp, [], false, none⟩
def wEntry : LegEntry := ⟨1, 1, 0, wStamp, [], 0, false, false, 0, false, 0, true⟩
def wHolder : Holder := ⟨0x33#128, 0, 9, true, .held, 0, 0, 0⟩
def wBlt : BltRec := ⟨1, 1000, 0, 0, false, false, false, false, 0, 0, false, 5, 1, 0, 0, 0⟩
def wOpen : ReplicaOpen := ⟨0x33#128, 0, 0, 0, 0, true, 0, 0, 0, List.replicate 36 0#32⟩
def wUpdate : ReplicaUpdate := ⟨0x33#128, 1001, 0, 0, 0, List.replicate 28 0⟩
def wPart : PartEntry := ⟨8, 0, 0, 0, 0, 8, 0, 0, 0⟩
def wMan : Manifest := readManifest wManifest

/-! ### Well-formed commands: a term for each check, which the check refuses -/

theorem test_wf_address : (Instr.registerWrite 0x8000000 0#32).defects = [.address] := by decide +kernel
theorem test_wf_aligned : (Instr.registerWrite 0x8001 0#32).defects = [.address] := by decide +kernel
theorem test_wf_angle : (Instr.schedFire 65536 0).defects = [.angle] := by decide +kernel
theorem test_wf_slot : (Instr.resetRelease 0 .valid [64] 0 false).defects = [.slot] := by decide +kernel
theorem test_wf_length : (Instr.descriptorFetch 0 (.desc (List.replicate 63 0#8))).defects = [.length] := by decide +kernel
theorem test_wf_lane : (Instr.meterSample [⟨64, [], 100⟩]).defects = [.lane] := by decide +kernel
theorem test_wf_field : (Instr.pcieLinkUp 4 1).defects = [.field] := by decide +kernel
theorem test_wf_member : (Instr.hello ⟨0, 1024, 1, 1, 1, none⟩ 0 0 false 0 0 0 0).defects = [.member] := by
  decide +kernel
theorem test_wf_source : (Instr.faultCleared 512).defects = [.source] := by decide +kernel
theorem test_wf_good : (Instr.registerWrite 0x8000 0#32).wf = true := by decide +kernel

/-! ### Values that the spec works out -/

/-- R388, its worked example: the grants of the round that the table gives. -/
theorem test_fill_example : ((fill
    [⟨0x1C2, 0, 2, 1, 4140, 22080, 90, 0, true⟩, ⟨0x051, 0, 1, 2, 0, 150000, 100, 0, true⟩,
     ⟨0x051, 1, 1, 1, 0, 100000, 120, 0, true⟩, ⟨0x1C2, 3, 1, 1, 0, 120000, 130, 0, true⟩,
     ⟨0x2E7, 2, 1, 1, 4140, 22080, 140, 0, true⟩] 280000).map (fun e => (e.addr, e.outlet, e.g))).Perm
    [(0x1C2, 0, 22080), (0x051, 0, 117920), (0x051, 1, 58960), (0x1C2, 3, 58960), (0x2E7, 2, 22080)] := by
  rw [fill, List.mergeSort_of_pairwise (by decide +kernel)]
  decide +kernel

/-- R242: 32.0 A gives 53.3 %; 5.9 A gives none. -/
theorem test_duty : dutyOf 320 = some 533 ∧ dutyOf 59 = none := by decide +kernel

/-- R179, its worked example: 4,294,960,000 Wh is the legacy word of 8,589,927,296 Wh. -/
theorem test_legacy : legacyWh (8589927296 * 2 ^ 40) = 4294960000 ∧
    reading (8589927296 * 2 ^ 40) / 2 ^ 32 = 8589927296000 := by decide +kernel

/-- R170, R183, R436: the CRC-32 of the nine digits, as that polynomial has it. -/
theorem test_crc : crc32 [0x31, 0x32, 0x33, 0x34, 0x35, 0x36, 0x37, 0x38, 0x39] = 0xCBF43926#32 := by decide +kernel

/-- R125: the four levels, Gray-coded, in a period's two intervals. -/
theorem test_gray : symCode (.m3, .m1) = 0x1 ∧ symCode (.p1, .p3) = 0xE ∧ symValue (some (.p3, .p3)) = some 2 ∧
    symValue (some (.m3, .m3)) = none := by decide +kernel

/-- R240: state B, and the diode missing while PWM runs. -/
theorem test_pilot : pilotStateOf .zero true 9000 (-12000) = .b ∧ pilotStateOf .zero true 9000 (-10900) = .invalid := by
  decide +kernel

/-- R246: 330 ohm × 2.06 V / 2.94 V is 231 ohm, the class of 32 A. -/
theorem test_cable : ppOf false 2060 = .a32 ∧ ppOf false 4900 = .noCable := by decide +kernel

/-- R212, R220: a header of 72 bytes, in a slot of 640. -/
theorem test_slot : (headerBytes wEntry).length = 72 ∧ (legSlotImage wEntry).length = 640 := by decide +kernel

/-- R10: after reset a register reads its reset value, and outside the map a read finds nothing. -/
theorem test_reset_value : regGet State.reset.chip Reg.SUP_RST_CAUSE = 1#32 ∧ regRow 0xFFFC = none := by decide +kernel

/-! ### One command -/

/-- R26: a shadow is written, the live value stays. -/
theorem test_shadow : (match execRegisterWrite Reg.SUP_TB_CFG 0#32 (st []) with
    | .next t => regGet t.chip Reg.SUP_TB_CFG == 0#32 && liveGet t.chip Reg.SUP_TB_CFG == liveGet (st []).chip Reg.SUP_TB_CFG
    | _ => false) = true := by decide +kernel

/-- R347: beyond BAR2 there is nothing to write to. -/
theorem test_outside : execRegisterWrite 0x8000000 0#32 (st []) = .fault .outsideBar2 := rfl

/-- R98: an angle 0 counts one cycle. -/
theorem test_cycle : (match execAngleZero (20 * 2 ^ 32 / 1000) false (st []) with
    | .next t => t.chip.tb.cycle | _ => 0) = 1001 := by decide +kernel

/-- R362: DSP_WRITE stores its bytes where it says. -/
theorem test_dspWrite : (match execDspWrite (.service 1#32) 0x1C000010 (some [1, 2, 3, 4]) (st []) with
    | .next t => t.dram | _ => []) = [⟨0x1C000010, 1⟩, ⟨0x1C000011, 2⟩, ⟨0x1C000012, 3⟩, ⟨0x1C000013, 4⟩] := by
  decide +kernel

/-- R427: the fuses of a Blank module are unblown. -/
theorem test_blank : State.reset.fuses.state = .blank := by decide +kernel

/-- The queue is served first in, first out, and an empty one leaves the block idle. -/
theorem test_front : step { st [] with pending := [.remask, .keygen] } = exec .remask { st [] with pending := [.keygen] } ∧
    step (st []) = .next (st []) := ⟨rfl, rfl⟩

/-- Mnemonics carry no bits: no word spells a command. -/
theorem test_words : decodeTableWord 32 0 = none ∧ (st []).withFetchWord 32 0 = st [] := ⟨rfl, rfl⟩

/-- R347: BAR0 mirrors SUP_READY at 0x4, and its unused offsets read 0. -/
theorem test_bar0 : readBar0 (st []) 4 = readReg (st []) Reg.SUP_READY ∧ readReg (st []) Reg.SUP_READY ≠ 0#32 ∧
    readBar0 (st []) 0xC = 0#32 := by decide +kernel

/-- R379, R395: a holder that is back under a new address stays the holder. -/
theorem test_move : ((moveMember (st [fun c => { c with repl := { c.repl with holders := [wHolder] } }]).chip 9 12).repl.holders).map
    (·.addr) = [12] := by decide +kernel

/-! ### Images and requests whose checks are proved by cases -/

/-- A calendar of one season and one rate (R183), but for its CRC. -/
def wDay : Tab Word := [(0, 5#32), (34, 0x101#32), (158, 0x10000#32)] ++ (List.range 23).map (fun i => (159 + i, 2047#32))

/-- The 1,182 words that the CRC covers. -/
def wCalBody : List Word := (List.range 1182).map (tget 0#32 wDay)

/-- The calendar with a word in the place of its CRC. -/
def wCalOf (x : Word) : List Word := wCalBody ++ [x]

theorem wCalBody_length : wCalBody.length = 1182 := by simp [wCalBody]

theorem wCalOf_last (x : Word) : calWord (wCalOf x) 1182 = x := by
  simp [calWord, wCalOf, List.getD, wCalBody_length]

theorem wCalOf_crc (x : Word) : calCrc (wCalOf x) = calCrc wCalBody := by
  simp [calCrc, wCalOf, wCalBody_length, List.take_of_length_le]

/-- The calendar with its CRC. -/
def wCal : List Word := wCalOf (calCrc wCalBody)

theorem wCal_length : wCal.length = 1183 := by simp [wCal, wCalOf, wCalBody_length]

theorem wCalOf_word (x : Word) {i : Nat} (h : i < 1182) : calWord (wCalOf x) i = tget 0#32 wDay i := by
  simp [calWord, wCalOf, wCalBody, List.getD, h, List.getElem?_append_left]

theorem wCalOf_seasons (x : Word) : usedSeasons (wCalOf x) = [(0, 1, 1, 0)] := by
  have h : (List.range 12).map (fun s => (s, season (wCalOf x) s)) = (List.range 12).map (fun s =>
      (s, fieldOf (tget 0#32 wDay (34 + s)) 7 0, fieldOf (tget 0#32 wDay (34 + s)) 15 8,
        fieldOf (tget 0#32 wDay (34 + s)) 19 16)) := by
    refine List.map_congr_left fun s hs => ?_
    simp [season, wCalOf_word x (show 34 + s < 1182 by simp at hs; omega)]
  rw [usedSeasons, h]
  decide +kernel

theorem wCalOf_specials (x : Word) : usedSpecials (wCalOf x) = [] := by
  have h : (List.range 256).map (specialDay (wCalOf x)) = (List.range 256).map (fun s =>
      (fieldOf (tget 0#32 wDay (926 + s)) 7 0, fieldOf (tget 0#32 wDay (926 + s)) 15 8,
        fieldOf (tget 0#32 wDay (926 + s)) 20 16, if fieldOf (tget 0#32 wDay (926 + s)) 31 21 = 0 then 0
          else fieldOf (tget 0#32 wDay (926 + s)) 31 21 + 2000)) := by
    refine List.map_congr_left fun s hs => ?_
    simp [specialDay, wCalOf_word x (show 926 + s < 1182 by simp at hs; omega)]
  rw [usedSpecials, h]
  decide +kernel

theorem wCalOf_day (x : Word) : badDayProfile (wCalOf x) 0 = false := by
  have h : dayPoints (wCalOf x) 0 = (List.range 24).map (fun j =>
      (fieldOf (tget 0#32 wDay (158 + 24 * 0 + j)) 10 0, fieldOf (tget 0#32 wDay (158 + 24 * 0 + j)) 20 16)) := by
    refine List.map_congr_left fun s hs => ?_
    simp [switchPoint, wCalOf_word x (show 158 + s < 1182 by simp at hs; omega)]
  rw [badDayProfile, h]
  decide +kernel

theorem wCalOf_days (x : Word) : checkedDays (wCalOf x) = [0] := by
  have h : (List.range 7).map (weekDay (wCalOf x) 0) = (List.range 7).map (fun k =>
      fieldOf (tget 0#32 wDay (46 + 7 * 0 + k)) 4 0) := by
    refine List.map_congr_left fun s hs => ?_
    simp [weekDay, wCalOf_word x (show 46 + s < 1182 by simp at hs; omega)]
  simp only [checkedDays, wCalOf_seasons, wCalOf_specials, List.flatMap_cons, List.flatMap_nil, h]
  decide +kernel

theorem wCal_good : badImage wCal = 0 := by
  have e : calWord wCal 1 = 0#32 := by rw [wCal, wCalOf_word _ (by omega)]; rfl
  have h1 : badOffset wCal = false := by rw [badOffset, e]; rfl
  have h2 : badSeason wCal = false := by rw [badSeason, wCal, wCalOf_seasons]; decide +kernel
  have h4 : badSpecial wCal = false := by rw [badSpecial, wCal, wCalOf_specials]; rfl
  have h0 : calWord wCal 1182 = calCrc wCal := by rw [wCal, wCalOf_last, wCalOf_crc]
  have h3 : (checkedDays wCal).any (badDayProfile wCal) = false := by
    rw [wCal, wCalOf_days, List.any_cons, wCalOf_day]; rfl
  simp [badImage, h0, h1, h2, h3, h4]

theorem armCause_wCal (c : Chip) (hc : c.tar.active = none) (hb : billTime c < 5 * 2 ^ 32) : armCause c wCal 5 = 0 := by
  have h0 : (calWord wCal 0).toNat = 5 := by rw [wCal, wCalOf_word _ (by omega)]; rfl
  have h1 : calWord wCal 1182 = calCrc wCal := by rw [wCal, wCalOf_last, wCalOf_crc]
  simp only [armCause, h1, h0, calId, hc, wCal_good]
  simp
  omega

theorem tget_image (ws : List Word) (k i : Nat) :
    tget 0#32 (((List.range' k ws.length).zip ws).filter (fun e => e.2 != 0)) (k + i) = ws.getD i 0#32 := by
  induction ws generalizing k i with
  | nil => rfl
  | cons w t ih =>
    have hs := fun i => ih (k + 1) i
    simp only [List.length_cons, List.range'_succ, List.zip_cons_cons, List.filter_cons]
    cases i with
    | zero =>
      by_cases h : w = 0
      · have key : ∀ (l : List (Nat × Word)), (∀ e ∈ l, k < e.1) → tget 0#32 l k = 0#32 := by
          intro l
          induction l with
          | nil => intro _; rfl
          | cons e l hl =>
            intro h
            obtain ⟨j, v⟩ := e
            have hj := h (j, v) (by simp)
            simp only [tget]
            rw [if_neg (by simp at hj; omega)]
            exact hl (fun e he => h e (by simp [he]))
        simp only [h, bne_self_eq_false, Bool.false_eq_true, if_false, Nat.add_zero, List.getD_cons_zero]
        refine key _ (fun e he => ?_)
        have := (List.of_mem_zip (List.mem_filter.mp he).1).1
        simp [List.mem_range'] at this
        omega
      · have h' : ¬ w = 0#32 := h
        simp [h', tget]
    | succ i =>
      have e : k + (i + 1) = k + 1 + i := by omega
      by_cases h : w = 0
      · simp only [h, bne_self_eq_false, Bool.false_eq_true, if_false, List.getD_cons_succ, e]
        exact hs i
      · simp only [bne_iff_ne, ne_eq, h, not_false_eq_true, if_true, tget, List.getD_cons_succ]
        rw [if_neg (by omega), e]
        exact hs i

theorem passiveImage_wCal (c : Chip) (h : c.tar.passive = imageTab wCal) : passiveImage c = wCal := by
  have hl := wCal_length
  apply List.ext_getElem
  · simp [passiveImage, hl]
  · intro i h1 h2
    have := tget_image wCal 0 i
    rw [hl, ← List.range_eq_range', Nat.zero_add] at this
    simp only [passiveImage, h, imageTab, List.getElem_map, List.getElem_range, this]
    simp [List.getD, h2]

theorem wTariff3 : armCause (st [fun c => { c with tar := { c.tar with passive := imageTab wCal, pasAt := 5 } }]).chip
    (passiveImage (st [fun c => { c with tar := { c.tar with passive := imageTab wCal, pasAt := 5 } }]).chip)
    (st [fun c => { c with tar := { c.tar with passive := imageTab wCal, pasAt := 5 } }]).chip.tar.pasAt = 0 := by
  generalize hc : (st [fun c => { c with tar := { c.tar with passive := imageTab wCal, pasAt := 5 } }]).chip = c
  have e : c.tar = { baseChip.tar with passive := imageTab wCal, pasAt := 5 } := by rw [← hc]; rfl
  have b : billTime c < 5 * 2 ^ 32 := by rw [← hc]; decide +kernel
  rw [passiveImage_wCal c (by rw [e]), show c.tar.pasAt = 5 by rw [e]]
  exact armCause_wCal c (by rw [e]; decide +kernel) b

theorem wTariff4 : armCause (st []).chip (passiveImage (st []).chip) (st []).chip.tar.pasAt ≠ 0 := by
  unfold armCause
  split
  · decide
  · rw [if_pos (Or.inl (by decide +kernel))]; decide

theorem wTariff12 : ¬ (calWord (passiveImage (st [fun c => { c with tar := { c.tar with pasState := .armed } }]).chip) 0
      = calWord (1#32 :: List.replicate 1182 0#32) 0 ∧
    calWord (passiveImage (st [fun c => { c with tar := { c.tar with pasState := .armed } }]).chip) 1182
      = calWord (1#32 :: List.replicate 1182 0#32) 1182) := fun h => absurd h.1 (by decide +kernel)

theorem wTariff13 : armCause (st []).chip
    (passiveImage { (st []).chip with tar := { (st []).chip.tar with passive := imageTab wCal } }) 5 = 0 := by
  generalize hc : ({ (st []).chip with tar := { (st []).chip.tar with passive := imageTab wCal } } : Chip) = c
  rw [passiveImage_wCal c (by rw [← hc])]
  exact armCause_wCal _ (by decide +kernel) (by decide +kernel)

/-- Outlet 0 in session under an AUTH_REF. -/
def wCard (r : BitVec 128) : State := st [fun c => modOutlet c 0 (fun x => { x with state := .energised }), wSess .live,
  fun c => wCtx c 0 (fun k => { k with authRef := r })]

theorem wCard_stops (r : BitVec 128) : cardStops (wCard r).chip r = some 0 := by
  have h : liveCtx (wCard r).chip ((0 : Outlet).val) = some 0 := rfl
  have e : (ctxOf (wCard r).chip 0).authRef = r := rfl
  rw [cardStops, show List.finRange 8 = 0 :: (List.finRange 8).tail from rfl, List.find?_cons_of_pos]
  simp only [h, e]
  simp

theorem recovered_congr {c d : Chip} (hw : bpWidth c = bpWidth d) (hh : bpHeight c = bpHeight d) (i : List Bool) :
    recovered c i = recovered d i := by simp only [recovered, cellCode, hw, hh]

/-- The bistable panel before and after its content is rendered. -/
def wDrawn : Chip := { baseChip with bp := { baseChip.bp with state := .updating } }
def wShown : State := { State.reset with chip := { wDrawn with bp := { wDrawn.bp with rendering := recovered wDrawn [] } } }

theorem wRecovered : crc32 (recovered wShown.chip []) = crc32 wShown.chip.bp.rendering := by
  have e : wShown.chip.bp.rendering = recovered wDrawn [] := by simp only [wShown]
  rw [e, recovered_congr (c := wShown.chip) (d := wDrawn) (by decide +kernel) (by decide +kernel)]

/-- The key of the manifest is fused. -/
def wKeyed : State := { st [] with fuses := { (st []).fuses with img0 := some (Config.shake256 (readManifest wManifest).pubkey) } }

theorem wManifest_passes : manifestCause wKeyed.chip wKeyed.fuses (readManifest wManifest) wManifest.length true = none := by
  have hk : keyKnown wKeyed.fuses (readManifest wManifest).pubkey = true := by
    unfold keyKnown
    have e : wKeyed.fuses.img0 = some (Config.shake256 (readManifest wManifest).pubkey) := rfl
    have r : wKeyed.fuses.revoke.getLsbD 0 = false := by decide +kernel
    rw [e, r]; simp
  unfold manifestCause
  rw [hk]
  rw [if_neg (by decide +kernel), if_neg (by decide +kernel), if_neg (by decide +kernel), if_neg (by decide +kernel),
    if_neg (by decide), if_neg (by decide), if_neg (by decide +kernel), if_neg (by decide +kernel),
    if_neg (by decide +kernel), if_neg (by decide +kernel), if_neg (by decide +kernel)]

theorem wNever (x : BitVec 256) : (x == ~~~x) = false := by
  rw [beq_eq_false_iff_ne]
  intro h
  have := congrArg (fun y => y.getLsbD 0) h
  simp at this

theorem wMoves : ∃ (s : State) (h : FeltHdr) (u : BitVec 128) (a k : Nat), usesFrame s.chip h 0x02 = true ∧
    u ≠ s.chip.tru.unit ∧ a = s.chip.fab.addr ∧ s.chip.fab.mode ≠ .off ∧ u.toNat < s.chip.tru.unit.toNat ∧ k < 1024 ∧
    s.chip.fab.probe ≤ k ∧ taken s.chip ((homeAddr s.chip + k) % 1024) = false ∧
    (homeAddr s.chip + k) % 1024 ≠ a := by
  have ht : ∀ n, taken (st []).chip n = false := fun n => rfl
  by_cases h : homeAddr (st []).chip % 1024 = 5
  · exact ⟨st [], ⟨0, 9, 5, 1, 1, none⟩, 3, 5, 1, by decide +kernel, by decide +kernel, by decide +kernel,
      by decide +kernel, by decide +kernel, by decide, by decide +kernel, ht _, by omega⟩
  · exact ⟨st [], ⟨0, 9, 5, 1, 1, none⟩, 3, 5, 0, by decide +kernel, by decide +kernel, by decide +kernel,
      by decide +kernel, by decide +kernel, by decide, by decide +kernel, ht _, by omega⟩

theorem foldl_same {α β : Type} {f : α → β → α} {x : α} {e : β} (h : f x e = x) (n : Nat) :
    (List.replicate n e).foldl f x = x := by
  induction n with
  | zero => rfl
  | succ n ih => rw [List.replicate_succ, List.foldl_cons, h, ih]

theorem victim_same (r : BltRec) (n : Nat) (s : Nat) :
    victim (List.replicate (n + 1) (0, r)) s = if r.sev ≤ s then some (0, r) else none := by
  simp only [victim, List.replicate_succ, List.foldl_cons]
  rw [foldl_same (by simp)]

/-- A part whose image has another digest. -/
def wBrokenPart : PartEntry := { wPart with digest := ~~~Config.shake256 [] }
def wBrokenMan : Manifest := { wMan with entries := [wBrokenPart] }
def wBroken : State := st [fun c => { c with upd := { c.upd with state := .verifying, manifest := some wBrokenMan, waiting := [(.service 1#32, false)] } }]

/-- Every region is fenced. -/
def wFenced : State := st [fun c => { c with sup := { c.sup with fence := 127, ready := 0x40 } }]

/-! ### The hypotheses of the statements, met clause by clause -/

theorem witness_RegisterAccess :
    (∃ (s : State) (a : Nat) (r : RegRow), a < 0x7800000 ∧ a % 4 = 0 ∧ regRow a = some r ∧ r.acc = .w1c ∧ a /
      0x10000 ≠ 0x701 ∧ windowClosed s.chip a = false ∧ lockedOut s.chip a = false) ∧
    (∃ (s : State) (a : Nat) (r : RegRow), a < 0x7800000 ∧ a % 4 = 0 ∧ regRow a = some r ∧ r.acc = .rw ∧ isShadowed
      a = true ∧ ¬ (0x20000 ≤ a ∧ a < 0x20800) ∧ shadowBlocked s.chip a = false ∧ windowClosed s.chip a = false ∧
      lockedOut s.chip a = false) ∧
    (∃ (s : State) (a : Nat) (r : RegRow), a < 0x7800000 ∧ a % 4 = 0 ∧ regRow a = some r ∧ r.acc = .rw ∧ isShadowed
      a = true ∧ shadowBlocked s.chip a = true ∧ windowClosed s.chip a = false ∧ lockedOut s.chip a = false) ∧
    (∃ (s : State) (a : Nat) (r : RegRow), a < 0x7800000 ∧ a % 4 = 0 ∧ regRow a = some r ∧ r.acc = .ro ∧ lockedOut
      s.chip a = false) ∧
    (∃ (s : State) (a : Nat), a < 0x8000000 ∧ lockedOut s.chip a = true ∧ noRegister a = false) ∧
    (∃ (s : State) (a : Nat), a < 0x8000000 ∧ windowClosed s.chip a = false) ∧
    (∃ (s : State) (a : Nat), a < 0x8000000 ∧ windowClosed s.chip a = false ∧ lockedOut s.chip a = false) ∧
    (∃ (s : State) (a : Nat), a < 0x8000000 ∧ windowClosed s.chip a = true) ∧
    (∃ (s : State) (a : Nat), a < 0x8000000 ∧ windowClosed s.chip a = true ∧ lockedOut s.chip a = false) :=
  ⟨⟨(st [] : State), Reg.SUP_CG_EVT, ((regRow Reg.SUP_CG_EVT).getD ⟨"", 0, [], .ro, 0, 0⟩), by decide +kernel⟩,
   ⟨(st [] : State), Reg.SUP_TB_CFG, ((regRow Reg.SUP_TB_CFG).getD ⟨"", 0, [], .ro, 0, 0⟩), by decide +kernel⟩,
   ⟨(st [fun c => { c with cg := { c.cg with state := .armed, members := 255#8 } }] : State), Reg.SUP_TB_CFG,
     ((regRow Reg.SUP_TB_CFG).getD ⟨"", 0, [], .ro, 0, 0⟩), by decide +kernel⟩,
   ⟨(st [] : State), Reg.SUP_ID, ((regRow Reg.SUP_ID).getD ⟨"", 0, [], .ro, 0, 0⟩), by decide +kernel⟩,
   ⟨(st [fun c => { c with host := { c.host with wlock := true } }] : State), Reg.SUP_TB_CFG, by decide +kernel⟩,
   ⟨(st [] : State), 0, by decide +kernel⟩,
   ⟨(st [] : State), 0, by decide +kernel⟩,
   ⟨(st [fun c => { c with sup := { c.sup with fence := 127 } }] : State), 0, by decide +kernel⟩,
   ⟨(st [fun c => { c with sup := { c.sup with fence := 127 } }] : State), 0, by decide +kernel⟩⟩

theorem witness_CommitGroupCommands :
    (∃ (s : State), windowClosed s.chip Reg.SUP_CG_CTRL = false ∧ cgActive s.chip = false ∧ s.chip.tb.known = true
      ∧ (cgTarget s.chip = 0 ∨ s.chip.tb.cycle + 2 ≤ cgTarget s.chip)) ∧
    (∃ (s : State), windowClosed s.chip Reg.SUP_CG_CTRL = false ∧ cgActive s.chip = true ∧ sortedKeys s.chip.live =
      true) ∧
    (∃ (s : State) (k : Bool), cgActive (reachInstant s.chip 64512 0 0) = true ∧ (reachInstant s.chip 64512 0
      0).cg.locked = false ∧ (reachInstant s.chip 64512 0 0).tb.cycle + 1 = (reachInstant s.chip 64512 0
      0).cg.target + (reachInstant s.chip 64512 0 0).cg.deferrals ∧ pollWord (reachInstant s.chip 64512 0 0) k =
      0#32) ∧
    (∃ (s : State) (k : Bool), cgActive (reachInstant s.chip 64512 0 0) = true ∧ (reachInstant s.chip 64512 0
      0).cg.locked = false ∧ (reachInstant s.chip 64512 0 0).tb.cycle + 1 = (reachInstant s.chip 64512 0
      0).cg.target + (reachInstant s.chip 64512 0 0).cg.deferrals ∧ pollWord (reachInstant s.chip 64512 0 0) k ≠
      0#32 ∧ refusedFor (pollWord (reachInstant s.chip 64512 0 0) k) 4 = false ∧ refusedFor (pollWord (reachInstant
      s.chip 64512 0 0) k) 5 = false ∧ (reachInstant s.chip 64512 0 0).cg.deferrals < (reachInstant s.chip 64512 0
      0).cg.maxDefer) ∧
    (∃ (s : State) (sent : Tab Word), s.chip.cg.pdSent = some sent) ∧
    (∃ (s : State), s.chip.cg.pdSent.isSome = true) ∧
    (∃ (s : State) (req : Requester) (target : Nat), performs s.chip req 0x0102 .supervisor = true ∧ cgActive
      s.chip = false ∧ s.chip.tb.known = true ∧ (target = 0 ∨ s.chip.tb.cycle + 2 ≤ target)) ∧
    (∃ (s : State) (req : Requester), performs s.chip req 0x0103 .supervisor = true ∧ cgActive s.chip = true) ∧
    (∃ (s : State) (req : Requester) (ps : List (Word × Word)), performs s.chip req 0x0101 .supervisor = true ∧ ps
      ≠ [] ∧ ps.length ≤ 512 ∧ (∀ p ∈ ps, isShadowed p.1.toNat = true ∧ (regRow p.1.toNat).isSome = true ∧
      shadowFenced s.chip p.1.toNat = false ∧ shadowBlocked s.chip p.1.toNat = false)) :=
  ⟨⟨(st [fun c => { c with tb := { c.tb with known := true } }] : State), by decide +kernel⟩,
   ⟨(st [fun c => { c with cg := { c.cg with state := .armed } }] : State), by decide +kernel⟩,
   ⟨(st [fun c => { c with cg := { c.cg with state := .armed, target := 1001, members := 0#8 } }] : State), false,
     by decide +kernel⟩,
   ⟨(st [fun c => { c with cg := { c.cg with state := .armed, target := 1001, maxDefer := 3, members := 4#8 } }] :
     State), true, by decide +kernel⟩,
   ⟨(st [fun c => { c with cg := { c.cg with pdSent := some ([] : Tab Word) } }] : State), ([] : Tab Word),
     by decide +kernel⟩,
   ⟨(st [fun c => { c with cg := { c.cg with pdSent := some [] } }] : State), by decide +kernel⟩,
   ⟨(st [fun c => { c with tb := { c.tb with known := true } }] : State), ((.service 1#32) : Requester), 0,
     by decide +kernel⟩,
   ⟨(st [fun c => { c with cg := { c.cg with state := .armed } }] : State), ((.service 1#32) : Requester),
     by decide +kernel⟩,
   ⟨st [], .service 1#32, [(wordOf Reg.SUP_TB_CFG, 3#32)], by decide +kernel, by decide, by decide,
     List.forall_mem_singleton.mpr (by decide +kernel)⟩⟩

theorem witness_SequenceAndPowerLinkCommands :
    (∃ (s : State) (a : Nat) (w : Word), windowClosed s.chip a = false ∧ isNs a = true ∧ s.chip.ns.active = none ∧
      (∃ k ∈ nsSettings a w, nsOld s.chip k ≠ k.value)) ∧
    (∃ (s : State) (a : Nat), windowClosed s.chip a = false ∧ isNs a = true ∧ s.chip.ns.active.isSome = true ∧
      s.chip.ns.queued = none) ∧
    (∃ (s : State) (a : Nat), windowClosed s.chip a = false ∧ isNs a = true ∧ s.chip.ns.active.isSome = true ∧
      s.chip.ns.queued.isSome = true) ∧
    (∃ (s : State) (q : NsSeq) (k : NsSetting) (k2 : NsSetting) (ks : List NsSetting), s.chip.ns.active = some q ∧
      q.todo = k :: k2 :: ks ∧ nsHeld s.chip k = false ∧ isNs k.reg = true ∧ k2.reg ≠ k.reg ∧ nsOld s.chip k2 ≠
      k2.value) ∧
    (∃ (s : State) (q : NsSeq) (k : NsSetting), s.chip.ns.active = some q ∧ s.chip.ns.queued = none ∧ q.todo = [k]
      ∧ nsHeld s.chip k = false ∧ isNs k.reg = true) ∧
    (∃ (s : State) (req : Requester) (ps : List (Word × Word)), performs s.chip req 0x0104 .supervisor = true ∧ ps
      ≠ [] ∧ ps.length ≤ 255 ∧ (∀ p ∈ ps, isNs p.1.toNat = true) ∧ nsOwned s.chip req = false ∧
      s.chip.ns.active.isSome = true ∧ s.chip.ns.queued = none) ∧
    (∃ (s : State) (p : PwdWrite) (r : RegRow), nextPosted s.chip.pwd.posted = some p ∧ s.chip.pwd.linkUp = true ∧
      regRow p.addr = some r ∧ r.acc = .w1c) ∧
    (∃ (s : State), (∀ q, s.chip.ns.active = some q → q.todo.any (fun k => memberOf k.reg == 7) = false)) ∧
    (∃ (s : State) (q : NsSeq), s.chip.ns.active = some q ∧ q.todo.any (fun k => memberOf k.reg == 7) = true) ∧
    (∃ (s : State) (bad : BitVec 8) (since : Nat) (u : Nat), nibHealthy (setBadLines (runTo s.chip since) bad) =
      true ∧ overMs (runTo s.chip since) (runTo s.chip since).saf.mirrorAt = false ∧ (runTo s.chip
      since).saf.healthyFrom = some u ∧ u + 2 ^ 32 ≤ (runTo s.chip since).tb.aon) :=
  ⟨⟨(st [fun c => { c with ns := { c.ns with active := none } }] : State), Reg.PWD_BO_CFG, 100#32,
     by decide +kernel⟩,
   ⟨(st [fun c => { c with ns := { c.ns with queued := none } }, fun c =>
     { c with ns := { c.ns with active := (some ⟨[], 0, 0, 1, none, false⟩) } }] : State), Reg.PWD_BO_CFG,
     by decide +kernel⟩,
   ⟨(st [fun c => { c with ns := { c.ns with active := (some ⟨[], 0, 0, 1, none, false⟩) } }, fun c =>
     { c with ns := { c.ns with queued := (some ⟨[], 0, 0, 1, none, false⟩) } }] : State), Reg.PWD_BO_CFG,
     by decide +kernel⟩,
   ⟨(st [fun c =>
     { c with ns := { c.ns with active := some ⟨[wNs, ⟨Reg.PWD_COIL_PROF 0, 11, 0, 200⟩], 0, 0, 2, none, false⟩ } }]
     : State), (⟨[wNs, ⟨Reg.PWD_COIL_PROF 0, 11, 0, 200⟩], 0, 0, 2, none, false⟩ : NsSeq), wNs, (⟨Reg.PWD_COIL_PROF
     0, 11, 0, 200⟩ : NsSetting), ([] : List NsSetting), by decide +kernel⟩,
   ⟨(st [fun c => { c with ns := { c.ns with active := some wSeq } }, fun c =>
     { c with ns := { c.ns with queued := none } }] : State), wSeq, wNs, by decide +kernel⟩,
   ⟨st [fun c => { c with ns := { c.ns with active := some wSeq } }], .service 1#32, [(wordOf Reg.PWD_BO_CFG,
     90#32)], by decide +kernel, by decide, by decide, List.forall_mem_singleton.mpr (by decide +kernel),
     by decide +kernel⟩,
   ⟨(st [fun c => { c with pwd := { c.pwd with linkUp := true } }, fun c =>
     { c with pwd := { c.pwd with posted := [⟨Reg.LSW_EVT 0, 1#32, none⟩] } }] : State), (⟨Reg.LSW_EVT 0, 1#32,
     none⟩ : PwdWrite), ((regRow (Reg.LSW_EVT 0)).getD ⟨"", 0, [], .ro, 0, 0⟩), by decide +kernel⟩,
   ⟨(st [] : State), by decide +kernel⟩,
   ⟨(st [fun c => { c with ns := { c.ns with active := some wSeq } }] : State), wSeq, by decide +kernel⟩,
   ⟨(st [fun c =>
     { c with nib := { c.nib with selftestOk := true, procOk := true, parityOk := true }, tb := { c.tb with aon := 2 ^ 33 }, saf := { c.saf with healthyFrom := some 0, mirrorAt := some (2 ^ 33) } }]
     : State), 0, 0, 0, by decide +kernel⟩⟩

theorem witness_ModuleResetCommands :
    (∃ (s : State), s.chip.sup.mode = .holdUp) ∧
    (∃ (s : State), s.chip.sup.mode = .off) ∧
    (∃ (s : State), s.chip.sup.mode ≠ .off) ∧
    (∃ (s : State), s.chip.sup.mode ≠ .off ∧ s.chip.sup.mode ≠ .holdUp) ∧
    (∃ (s : State), windowClosed s.chip Reg.SUP_RST_CTRL = false ∧ mayAskReset s.chip = true ∧ anyEnergised s.chip
      = false) ∧
    (∃ (s : State), windowClosed s.chip Reg.SUP_RST_CTRL = false ∧ mayAskReset s.chip = true ∧ anyEnergised s.chip
      = false) ∧
    (∃ (s : State), mayAskReset s.chip = true) ∧
    (∃ (s : State) (k : Fin 16), s.chip.sup.mode = .deepStandby ∧ wakeEnabled s.chip k.val = true ∧ (k.val = 0 ∨
      k.val = 1 ∨ k.val = 5 ∨ 8 ≤ k.val)) :=
  ⟨⟨(st [fun c => { c with sup := { c.sup with mode := .holdUp } }] : State), by decide +kernel⟩,
   ⟨(st [fun c => { c with sup := { c.sup with mode := .off } }] : State), by decide +kernel⟩,
   ⟨(st [] : State), by decide +kernel⟩,
   ⟨(st [] : State), by decide +kernel⟩,
   ⟨(st [] : State), by decide +kernel⟩,
   ⟨(st [] : State), by decide +kernel⟩,
   ⟨(st [] : State), by decide +kernel⟩,
   ⟨(st [fun c => { c with sup := { c.sup with mode := .deepStandby } }] : State), 0, by decide +kernel⟩⟩

theorem witness_SoftwareResetRefusal :
    (∃ (s : State), windowClosed s.chip Reg.SUP_RST_CTRL = false ∧ mayAskReset s.chip = true ∧ anyEnergised s.chip
      = true) ∧
    (∃ (s : State), windowClosed s.chip Reg.SUP_RST_CTRL = false ∧ mayAskReset s.chip = true ∧ anyEnergised s.chip
      = true) ∧
    (∃ (s : State) (r : Region), windowClosed s.chip Reg.SUP_RST_CTRL = false ∧ mayAskReset s.chip = true ∧
      anyEnergised s.chip = true ∧ resetGuarded r = true) ∧
    (∃ (s : State), mayAskReset s.chip = true ∧ anyEnergised s.chip = true) ∧
    (∃ (s : State) (r : Report) (x : Src), anyEnergised s.chip = true ∧ Accepts s.chip r.src ∧ x = srcOf s.chip
      r.src ∧ (x.state = .ok ∨ x.state = .active ∨ x.state = .quiet) ∧ r.src ≠ 151 ∧ reactOf s.chip r.src = 3 ∧
      occurrences s.chip { x with occ := (aonSec s.chip :: x.occ).take 15 } < permLimit s.chip r.src ∧
      s.chip.sup.mode ≠ .holdUp) ∧
    (∃ (s : State) (r : Region), windowClosed s.chip Reg.SUP_RST_CTRL = false ∧ mayAskReset s.chip = true ∧ r ≠
      .sup ∧ resetGuarded r = false) ∧
    (∃ (s : State) (r : Region), windowClosed s.chip Reg.SUP_RST_CTRL = false ∧ mayAskReset s.chip = true ∧
      anyEnergised s.chip = false ∧ resetGuarded r = true) :=
  ⟨⟨(st [wFb] : State), by decide +kernel⟩,
   ⟨(st [wFb] : State), by decide +kernel⟩,
   ⟨(st [wFb] : State), (.met : Region), by decide +kernel⟩,
   ⟨(st [wFb] : State), by decide +kernel⟩,
   ⟨(st [fun c => { c with flt := { c.flt with restored := true } }, wFb, fun c => wLive c (Reg.FLT_SRC_CFG 124)
     0x23#32] : State), (⟨124,2,0,false⟩ : Report), (srcOf (st [fun c =>
     { c with flt := { c.flt with restored := true } }, wFb, fun c => wLive c (Reg.FLT_SRC_CFG 124) 0x23#32]).chip
     (⟨124,2,0,false⟩ : Report).src), by unfold Accepts; decide +kernel⟩,
   ⟨(st [] : State), (.dsp : Region), by decide +kernel⟩,
   ⟨(st [] : State), (.met : Region), by decide +kernel⟩⟩

theorem witness_ClockAndModeCommands :
    (∃ (s : State) (d : Domain), dieRuns s.chip = true ∧ d ≠ .ref) ∧
    (∃ (s : State), dieRuns s.chip = true ∧ (reportSrc s.chip 140 0).sup.refLost = false) ∧
    (∃ (s : State), dieRuns s.chip = true) ∧
    (∃ (s : State), dieRuns s.chip = true ∧ s.chip.sup.refLost = true ∧ s.chip.sup.mode ≠ .holdUp ∧ s.chip.sup.mode
      ≠ .quarantine ∧ s.chip.sup.quarantineDue = none) ∧
    (∃ (s : State), s.chip.sup.refLost = true ∧ s.chip.sup.mode = .quarantine) ∧
    (∃ (s : State) (m : BitVec 4), windowClosed s.chip Reg.SUP_MODE_REQ = false ∧ dieRuns s.chip = true ∧
      s.chip.sup.modeReq = none ∧ modeRefusal s.chip m.toNat = none) ∧
    (∃ (s : State) (m : BitVec 4) (a : Answer), windowClosed s.chip Reg.SUP_MODE_REQ = false ∧ dieRuns s.chip =
      true ∧ s.chip.sup.modeReq = none ∧ modeRefusal s.chip m.toNat = some a) ∧
    (∃ (s : State) (req : Requester) (target : Nat), performs s.chip req 0x0005 .supervisor = true ∧
      s.chip.sup.modeReq = none ∧ modeRefusal s.chip target = none) ∧
    (∃ (s : State), s.chip.sup.mode = .safeStop ∧ s.chip.dsp.offKept = true ∧ s.chip.sup.prepDone = false ∧
      s.chip.dsp.pstate = .off ∧ s.chip.bp.busy = false) ∧
    (∃ (s : State) (k : Fin 16), wakeEnabled s.chip k.val = true ∧ s.chip.sup.mode = .standby ∧ s.chip.sup.modeReq
      = none ∧ s.chip.sup.degCauses = []) ∧
    (∃ (s : State) (p : FPort), (fport s.chip p.val).state = .standby ∧ wakeEnabled s.chip 3 = true ∧
      s.chip.sup.mode = .standby ∧ s.chip.sup.modeReq = none ∧ s.chip.sup.degCauses = []) ∧
    (∃ (s : State) (since : Nat), s.chip.sup.mode ≠ .off ∧ s.chip.sup.mode ≠ .reset ∧ s.chip.sup.mode ≠
      .deepStandby ∧ s.chip.sup.mode ≠ .standby ∧ regGet (runTo s.chip since) Reg.SUP_RTC_ALARM ≠ 0#32 ∧ (runTo
      s.chip since).tb.wall / 2 ^ 32 % 2 ^ 32 = (regGet (runTo s.chip since) Reg.SUP_RTC_ALARM).toNat) ∧
    (∃ (s : State) (since : Nat), regGet (runTo s.chip since) Reg.SUP_RTC_ALARM = 0#32) :=
  ⟨⟨(st [] : State), (.svc : Domain), by decide +kernel⟩,
   ⟨(st [] : State), by decide +kernel⟩,
   ⟨(st [] : State), by decide +kernel⟩,
   ⟨(st [fun c => { c with sup := { c.sup with refLost := true } }, fun c =>
     { c with sup := { c.sup with quarantineDue := none } }] : State), by decide +kernel⟩,
   ⟨(st [fun c => { c with sup := { c.sup with refLost := true } }, fun c =>
     { c with sup := { c.sup with mode := .quarantine } }] : State), by decide +kernel⟩,
   ⟨(st [fun c => { c with sup := { c.sup with modeReq := none } }] : State), 7, by decide +kernel⟩,
   ⟨(st [fun c => { c with sup := { c.sup with modeReq := none } }] : State), 3, (ansReject .field),
     by decide +kernel⟩,
   ⟨(st [fun c => { c with sup := { c.sup with modeReq := none } }] : State), ((.service 1#32) : Requester), 7,
     by decide +kernel⟩,
   ⟨(st [fun c => { c with sup := { c.sup with mode := .safeStop } }, fun c =>
     { c with dsp := { c.dsp with offKept := true } }, fun c => { c with sup := { c.sup with prepDone := false } },
     fun c => { c with dsp := { c.dsp with pstate := .off } }, fun c =>
     { c with bp := { c.bp with busy := false } }] : State), by decide +kernel⟩,
   ⟨(st [fun c => { c with sup := { c.sup with mode := .standby } }, fun c =>
     { c with sup := { c.sup with modeReq := none } }, fun c => { c with sup := { c.sup with degCauses := [] } }] :
     State), 0, by decide +kernel⟩,
   ⟨(st [fun c => modPort c ((0 : FPort).val) (fun x => { x with state := .standby }), fun c =>
     { c with sup := { c.sup with mode := .standby } }, fun c => { c with sup := { c.sup with modeReq := none } },
     fun c => { c with sup := { c.sup with degCauses := [] } }] : State), 0, by decide +kernel⟩,
   ⟨(st [fun c => regPut c Reg.SUP_RTC_ALARM 5#32, fun c => { c with tb := { c.tb with wall := 5 * 2 ^ 32 } }] :
     State), 0, by decide +kernel⟩,
   ⟨(st [] : State), 0, by decide +kernel⟩⟩

theorem witness_StartCommands :
    (∃ (s : State), s.chip.sup.mode = .reset ∧ s.chip.sup.held = false ∧ s.chip.flt.waiting = [] ∧ DegCause.holdUp
      ∉ s.chip.sup.degCauses) ∧
    (∃ (s : State), s.chip.wipe.sramBusy = true) ∧
    (∃ (s : State), s.chip.wipe.dramBusy = true) ∧
    (∃ (s : State), s.chip.wipe.mramBusy = true) ∧
    (∃ (s : State) (f : Func), mayRise s.chip f = true ∧ (f = .met → s.chip.acc.restored = true) ∧ (f = .tru →
      s.chip.tru.chainsClosed = true) ∧ functionMet s.chip f = true) ∧
    (∃ (s : State) (f : Func), dieRuns s.chip = true ∧ s.chip.sup.mode ≠ .holdUp ∧ s.chip.sup.mode ≠ .quarantine ∧
      ready s.chip f = false ∧ funcDisabled s.chip f = false) ∧
    (∃ (s : State) (b : Block), s.chip.flt.resets.contains b = true ∧ b ≠ .region .lnk ∧ b ≠ .legalCore) ∧
    (∃ (s : State), s.chip.flt.resets.contains (.region .lnk) = true) ∧
    (∃ (s : State), s.chip.flt.resets.contains .legalCore = true) :=
  ⟨⟨(st [fun c => { c with sup := { c.sup with mode := .reset } }, fun c =>
     { c with sup := { c.sup with held := false } }, fun c => { c with flt := { c.flt with waiting := [] } }] :
     State), by decide +kernel⟩,
   ⟨(st [fun c => { c with wipe := { c.wipe with sramBusy := true } }] : State), by decide +kernel⟩,
   ⟨(st [fun c => { c with wipe := { c.wipe with dramBusy := true } }] : State), by decide +kernel⟩,
   ⟨(st [fun c => { c with wipe := { c.wipe with mramBusy := true } }] : State), by decide +kernel⟩,
   ⟨(st [fun c => { c with sup := { c.sup with ready := 0xF7 } }, fun c =>
     { c with wipe := { c.wipe with epoch := c.sup.lcs } }] : State), (.out : Func), by decide +kernel⟩,
   ⟨(st [fun c => { c with sup := { c.sup with ready := 0xF7 } }] : State), (.out : Func), by decide +kernel⟩,
   ⟨(st [fun c => { c with flt := { c.flt with resets := [.pixel] } }] : State), (.pixel : Block),
     by decide +kernel⟩,
   ⟨(st [fun c => { c with flt := { c.flt with resets := [.region .lnk] } }] : State), by decide +kernel⟩,
   ⟨(st [fun c => { c with flt := { c.flt with resets := [.legalCore] } }] : State), by decide +kernel⟩⟩

theorem witness_DisableCommands :
    (∃ (s : State) (w : Word), windowClosed s.chip Reg.SUP_DISABLE = false ∧ dieRuns s.chip = true ∧
      s.chip.sup.mode ≠ .holdUp ∧ s.chip.sup.mode ≠ .bringUp ∧ s.chip.sup.mode ≠ .degraded ∧ s.chip.sup.degCauses =
      [] ∧ w &&& 0xFF#32 = regGet s.chip Reg.SUP_DISABLE &&& 0xFF#32) ∧
    (∃ (s : State) (k : Fin 25), s.chip.sup.draining.getLsbD k.val = true ∧ drained s.chip k.val = true ∧
      s.chip.sup.mode ≠ .bringUp ∧ s.chip.sup.mode ≠ .degraded ∧ s.chip.sup.degCauses = []) ∧
    (∃ (s : State) (o : Outlet), s.chip.sup.draining.getLsbD o.val = true ∧ energised s.chip o.val = true ∧ isDc
      s.chip o.val = false) ∧
    (∃ (s : State) (o : Outlet), s.chip.sup.draining.getLsbD o.val = true ∧ energised s.chip o.val = true ∧ isDc
      s.chip o.val = true) ∧
    (∃ (s : State) (o : Outlet), s.chip.sup.draining.getLsbD o.val = true ∧ energised s.chip o.val = false ∧
      mustBeUnavailable s.chip o.val = true) :=
  ⟨⟨(st [fun c => { c with sup := { c.sup with degCauses := [] } }] : State), 0#32, by decide +kernel⟩,
   ⟨(st [fun c => { c with sup := { c.sup with degCauses := [] } }, fun c =>
     { c with sup := { c.sup with draining := 0x1000000 } }] : State), 24, by decide +kernel⟩,
   ⟨(st [wFb, fun c => { c with sup := { c.sup with draining := 1 } }] : State), 0, by decide +kernel⟩,
   ⟨(st [wFb, wKind 0 2, fun c => { c with sup := { c.sup with draining := 1 } }] : State), 0, by decide +kernel⟩,
   ⟨(st [fun c => { c with saf := { c.saf with retired := 1 } }, fun c =>
     { c with sup := { c.sup with draining := 1 } }] : State), 0, by decide +kernel⟩⟩

theorem witness_SupplyCommands :
    (∃ (s : State), s.chip.sup.mode ≠ .off ∧ s.chip.sup.mode ≠ .holdUp) ∧
    (∃ (s : State), s.chip.pwd.holdup = true ∧ s.chip.sup.mode = .holdUp) ∧
    (∃ (s : State), (s.chip.sup.mode = .off ∨ s.chip.sup.mode = .holdUp ∨ s.chip.pwd.holdOk = false)) ∧
    (∃ (s : State) (h : Nat), 35500 ≤ h ∧ s.chip.pwd.loadCheck = false ∧ s.chip.pwd.holdup = false ∧
      s.chip.pwd.holdOk = holdConditions { s.chip with pwd := { s.chip.pwd with vhold := h } }) ∧
    (∃ (s : State) (cap : Nat) (esr : Nat), s.chip.pwd.loadCheck = true ∧ s.chip.pwd.holdup = false ∧ 470 ≤ cap ∧
      esr ≤ 500 ∧ 35500 ≤ s.chip.pwd.vhold ∧ s.chip.pwd.holdOk = true) ∧
    (∃ (s : State) (cap : Nat) (esr : Nat), s.chip.pwd.loadCheck = true ∧ (cap < 470 ∨ 500 < esr) ∧ s.chip.sup.mode
      ≠ .off ∧ s.chip.sup.mode ≠ .reset ∧ s.chip.sup.mode ≠ .holdUp) ∧
    (∃ (s : State) (cap : Nat) (esr : Nat), s.chip.pwd.loadCheck = true ∧ (cap < 470 ∨ 500 < esr) ∧
      (s.chip.sup.mode = .off ∨ s.chip.sup.mode = .reset)) ∧
    (∃ (s : State), s.chip.pwd.holdOk = false ∧ s.chip.pwd.loadCheck = false) ∧
    (∃ (s : State) (h : Nat), h < 35500 ∧ s.chip.pwd.holdOk = true ∧ s.chip.pwd.loadCheck = false ∧ s.chip.sup.mode
      ≠ .off ∧ s.chip.sup.mode ≠ .reset ∧ s.chip.sup.mode ≠ .holdUp) ∧
    (∃ (s : State) (h : Nat), 35500 ≤ h ∧ s.chip.pwd.measured = true ∧ 470 ≤ s.chip.pwd.capUf ∧ s.chip.pwd.esrMohm
      ≤ 500 ∧ s.chip.pwd.holdOk = false ∧ s.chip.pwd.loadCheck = false) :=
  ⟨⟨(st [] : State), by decide +kernel⟩,
   ⟨(st [fun c => { c with pwd := { c.pwd with holdup := true } }, fun c =>
     { c with sup := { c.sup with mode := .holdUp } }] : State), by decide +kernel⟩,
   ⟨(st [wMode .off] : State), by decide +kernel⟩,
   ⟨(st [fun c => { c with pwd := { c.pwd with loadCheck := false } }, fun c =>
     { c with pwd := { c.pwd with holdup := false } }, fun c =>
     { c with pwd := { c.pwd with measured := true, capUf := 500, esrMohm := 10 } }] : State), 36000,
     by decide +kernel⟩,
   ⟨(st [fun c => { c with pwd := { c.pwd with loadCheck := true } }, fun c =>
     { c with pwd := { c.pwd with holdup := false } }, fun c => { c with pwd := { c.pwd with holdOk := true } },
     fun c => { c with pwd := { c.pwd with vhold := 36000 } }] : State), 470, 500, by decide +kernel⟩,
   ⟨(st [fun c => { c with pwd := { c.pwd with loadCheck := true } }] : State), 0, 0, by decide +kernel⟩,
   ⟨(st [fun c => { c with pwd := { c.pwd with loadCheck := true } }, wMode .off] : State), 0, 0,
     by decide +kernel⟩,
   ⟨(st [fun c => { c with pwd := { c.pwd with holdOk := false } }, fun c =>
     { c with pwd := { c.pwd with loadCheck := false } }] : State), by decide +kernel⟩,
   ⟨(st [fun c => { c with pwd := { c.pwd with holdOk := true } }, fun c =>
     { c with pwd := { c.pwd with loadCheck := false } }] : State), 0, by decide +kernel⟩,
   ⟨(st [fun c => { c with pwd := { c.pwd with measured := true } }, fun c =>
     { c with pwd := { c.pwd with holdOk := false } }, fun c =>
     { c with pwd := { c.pwd with loadCheck := false } }, fun c =>
     { c with pwd := { c.pwd with capUf := 470, esrMohm := 10 } }] : State), 35500, by decide +kernel⟩⟩

theorem witness_TimebaseCommands :
    (∃ (s : State) (a : Nat) (f : Nat) (n : Nat), windowClosed (reachInstant s.chip a f n) Reg.SUP_TB_LATCH =
      false) ∧
    (∃ (s : State) (a : Nat) (f : Nat) (n : Nat), a < 65536 ∧ f < 65536 ∧ s.chip.tb.angle < a ∧ s.chip.tb.sched =
      [] ∧ s.chip.tb.slewRem = 0 ∧ s.chip.tb.into ≤ n ∧ windowClosed s.chip Reg.SUP_TB_LATCH = false) ∧
    (∃ (s : State), qualifiedFor s.chip false 10 = true ∧ (s.chip.tb.state = .synth ∨ s.chip.tb.state = .synthFab)) ∧
    (∃ (s : State), qualifiedFor s.chip true 10 = true ∧ qualifiedFor s.chip false 10 = false ∧ altEn s.chip = true
      ∧ (s.chip.tb.state = .synth ∨ s.chip.tb.state = .synthFab)) ∧
    (∃ (s : State), qualifiedFor s.chip false 10 = true ∧ s.chip.tb.state = .locked ∧ s.chip.tb.follow =
      .alternate) ∧
    (∃ (s : State) (alt : Bool), qualifiedFor s.chip alt 3 = true ∧ s.chip.tb.state = .holdover ∧ s.chip.tb.follow
      = ownFollow alt) ∧
    (∃ (s : State) (alt : Bool), refGone s.chip alt = true ∧ s.chip.tb.state = .locked ∧ s.chip.tb.follow =
      ownFollow alt) ∧
    (∃ (s : State) (alt : Bool), refGone s.chip alt = true ∧ s.chip.tb.state = .acquire ∧ s.chip.tb.follow =
      ownFollow alt ∧ s.chip.tb.beacons = false) ∧
    (∃ (s : State), s.chip.tb.state = .acquire ∧ 8 ≤ s.chip.tb.errLow) ∧
    (∃ (s : State), s.chip.tb.state = .locked ∧ 3 ≤ s.chip.tb.errHigh) ∧
    (∃ (s : State), s.chip.tb.state = .holdover ∧ s.chip.tb.follow = .primary ∧ max 1 (cfg s.chip Reg.SUP_TB_CFG 31
      24) ≤ s.chip.tb.held ∧ altEn s.chip = true ∧ qualifiedFor s.chip true 10 = true) ∧
    (∃ (s : State), s.chip.tb.state = .holdover ∧ max 1 (cfg s.chip Reg.SUP_TB_CFG 31 24) ≤ s.chip.tb.held ∧ altEn
      s.chip = false ∧ s.chip.tb.beacons = true ∧ cfgBit s.chip Reg.SUP_TB_SITE 16 = true) ∧
    (∃ (s : State), s.chip.tb.state = .synthFab) :=
  ⟨⟨(st [] : State), 0, 0, 0, by decide +kernel⟩,
   ⟨(st [fun c => { c with tb := { c.tb with sched := [] } }, fun c => { c with tb := { c.tb with slewRem := 0 } }]
     : State), 5, 0, 0, by decide +kernel⟩,
   ⟨(st [fun c => { c with tb := { c.tb with prim := { RefSt.init with run := 10 } } }] : State),
     by decide +kernel⟩,
   ⟨(st [fun c => { c with tb := { c.tb with alt := { RefSt.init with run := 10 } } }, fun c => wLive c
     Reg.SUP_TB_CFG (withBit (liveGet c Reg.SUP_TB_CFG) 6 true)] : State), by decide +kernel⟩,
   ⟨(st [fun c => { c with tb := { c.tb with state := .locked } }, fun c =>
     { c with tb := { c.tb with follow := .alternate } }, fun c =>
     { c with tb := { c.tb with prim := { RefSt.init with run := 10 } } }] : State), by decide +kernel⟩,
   ⟨(st [fun c => { c with tb := { c.tb with state := .holdover } }, fun c =>
     { c with tb := { c.tb with follow := ownFollow false } }, fun c =>
     { c with tb := { c.tb with prim := { RefSt.init with run := 10 } } }] : State), false, by decide +kernel⟩,
   ⟨(st [fun c => { c with tb := { c.tb with state := .locked } }, fun c =>
     { c with tb := { c.tb with follow := ownFollow false } }] : State), false, by decide +kernel⟩,
   ⟨(st [fun c => { c with tb := { c.tb with state := .acquire } }, fun c =>
     { c with tb := { c.tb with follow := ownFollow false } }, fun c =>
     { c with tb := { c.tb with beacons := false } }] : State), false, by decide +kernel⟩,
   ⟨(st [fun c => { c with tb := { c.tb with state := .acquire } }, fun c =>
     { c with tb := { c.tb with errLow := 8 } }] : State), by decide +kernel⟩,
   ⟨(st [fun c => { c with tb := { c.tb with state := .locked } }, fun c =>
     { c with tb := { c.tb with errHigh := 3 } }] : State), by decide +kernel⟩,
   ⟨(st [fun c => { c with tb := { c.tb with state := .holdover } }, fun c =>
     { c with tb := { c.tb with follow := .primary } }, fun c => { c with tb := { c.tb with held := 300 } }, fun c
     => { c with tb := { c.tb with alt := { RefSt.init with run := 10 } } }, fun c => wLive c Reg.SUP_TB_CFG
     (withBit (liveGet c Reg.SUP_TB_CFG) 6 true)] : State), by decide +kernel⟩,
   ⟨(st [fun c => { c with tb := { c.tb with state := .holdover } }, fun c =>
     { c with tb := { c.tb with beacons := true } }, fun c => wLive c Reg.SUP_TB_SITE (withBit (liveGet c
     Reg.SUP_TB_SITE) 16 true), fun c => { c with tb := { c.tb with held := 300 } }] : State), by decide +kernel⟩,
   ⟨(st [fun c => { c with tb := { c.tb with state := .synthFab } }] : State), by decide +kernel⟩⟩

theorem witness_SchedulerAndWallClockCommands :
    (∃ (s : State), dieRuns s.chip = true ∧ s.chip.tb.known = true ∧ metRuns s.chip = false ∧ s.chip.tb.sched = []
      ∧ s.chip.tb.retry = [] ∧ s.chip.tb.step = none ∧ s.chip.tb.slewRem = 0 ∧ s.chip.sup.modeReq = none ∧
      s.chip.upd.manifest = none ∧ cgActive s.chip = false ∧ s.chip.sup.mode ≠ .holdUp) ∧
    (∃ (s : State), dieRuns s.chip = true) ∧
    (∃ (s : State) (b : Booking), cannotBook s.chip b = false ∧ s.chip.tb.sched.length < 256) ∧
    (∃ (s : State) (b : Booking), cannotBook s.chip b = false ∧ 256 ≤ s.chip.tb.sched.length ∧ b.kind.cls ≠ 8) ∧
    (∃ (s : State) (b : Booking), cannotBook s.chip b = true) ∧
    (∃ (s : State) (a : Nat) (b : Booking) (req : Requester), dieRuns s.chip = true ∧ a < 65536 ∧ s.chip.tb.angle <
      a ∧ s.chip.tb.sched = [b] ∧ b.cycle = s.chip.tb.cycle ∧ b.angle = a ∧ b.kind = .marker req ∧ b.period = 0) ∧
    (∃ (s : State) (src : TimeSrc) (o : Int), srcEnabled s.chip src = true ∧ offsetIgnored s.chip src = false ∧
      s.chip.tb.valid = true ∧ o.natAbs ≤ stepLimit s.chip * 2 ^ 32) ∧
    (∃ (s : State) (src : TimeSrc) (o : Int), srcEnabled s.chip src = true ∧ offsetIgnored s.chip src = false ∧
      s.chip.tb.valid = true ∧ stepLimit s.chip * 2 ^ 32 < o.natAbs ∧ src ≠ .network ∧ s.chip.sup.mode ≠ .holdUp) ∧
    (∃ (s : State) (o : Int), srcEnabled s.chip .network = true ∧ offsetIgnored s.chip .network = false ∧
      s.chip.tb.valid = true ∧ stepLimit s.chip * 2 ^ 32 < o.natAbs ∧ cfgBit s.chip Reg.SUP_WALL_CFG 20 = false) ∧
    (∃ (s : State) (n : Nat), s.chip.tb.slewRem ≠ 0 ∧ s.chip.tb.slewRem.natAbs ≤ (n - s.chip.tb.into) * slewPpm
      s.chip / 1000000) :=
  ⟨⟨(st [fun c => { c with tb := { c.tb with known := true } }, fun c =>
     { c with tb := { c.tb with sched := [] } }, fun c => { c with tb := { c.tb with retry := [] } }, fun c =>
     { c with tb := { c.tb with step := none } }, fun c => { c with tb := { c.tb with slewRem := 0 } }, fun c =>
     { c with sup := { c.sup with modeReq := none } }, fun c => { c with upd := { c.upd with manifest := none } },
     fun c => { c with acc := { c.acc with ended := true } }] : State), by decide +kernel⟩,
   ⟨(st [] : State), by decide +kernel⟩,
   ⟨(st [] : State), wBook, by decide +kernel⟩,
   ⟨(st [fun c => { c with tb := { c.tb with sched := List.replicate 256 wBook } }] : State), wBook,
     by decide +kernel⟩,
   ⟨(st [] : State), (⟨0, 0, .displayStart, 0⟩ : Booking), by decide +kernel⟩,
   ⟨(st [fun c => { c with tb := { c.tb with sched := [⟨1000, 5, .marker (.service 1#32), 0⟩] } }] : State), 5,
     (⟨1000, 5, .marker (.service 1#32), 0⟩ : Booking), ((.service 1#32) : Requester), by decide +kernel⟩,
   ⟨(st [fun c => { c with tb := { c.tb with valid := true } }] : State), (.host : TimeSrc), 0, by decide +kernel⟩,
   ⟨(st [fun c => { c with tb := { c.tb with valid := true } }] : State), (.host : TimeSrc), (301 * 2 ^ 32),
     by decide +kernel⟩,
   ⟨(st [fun c => { c with tb := { c.tb with valid := true } }, fun c => wLive c Reg.SUP_WALL_CFG (withBit (liveGet
     c Reg.SUP_WALL_CFG) 20 false)] : State), (301 * 2 ^ 32), by decide +kernel⟩,
   ⟨(st [fun c => { c with tb := { c.tb with slewRem := 5 } }] : State), 100000000, by decide +kernel⟩⟩

theorem witness_TimebaseDescriptors :
    (∃ (s : State) (req : Requester), performs s.chip req 0x0001 .ringEngine = true) ∧
    (∃ (s : State) (req : Requester) (cyc : Nat) (a : Nat), performs s.chip req 0x0002 .timebase = true ∧
      cannotBook s.chip { cycle := cyc, angle := a, kind := .marker req, period := 0 } = false ∧
      s.chip.tb.sched.length < 256) ∧
    (∃ (s : State) (req : Requester) (cyc : Nat) (a : Nat), performs s.chip req 0x0002 .timebase = true ∧
      cannotBook s.chip { cycle := cyc, angle := a, kind := .marker req, period := 0 } = true) ∧
    (∃ (s : State) (req : Requester) (tag : Word), performs s.chip req 0x0003 .timebase = true ∧
      s.chip.tb.sched.any (fun b => b.kind == .marker (siblingReq req tag)) = true) ∧
    (∃ (s : State) (req : Requester) (tag : Word), performs s.chip req 0x0003 .timebase = true ∧
      s.chip.tb.sched.any (fun b => b.kind == .marker (siblingReq req tag)) = false) ∧
    (∃ (s : State) (req : Requester) (utc : Nat), performs s.chip req 0x0004 .timebase = true ∧ srcEnabled s.chip
      .host = true ∧ s.chip.tb.valid = true ∧ offsetIgnored s.chip .host = false ∧ ((utc * 2 ^ 16 : Nat) -
      (s.chip.tb.wall : Int)).natAbs ≤ stepLimit s.chip * 2 ^ 32 ∧ s.chip.tb.wall % 2 ^ 16 = 0) ∧
    (∃ (s : State) (req : Requester), performs s.chip req 0x0004 .timebase = true ∧ srcEnabled s.chip .host =
      false) :=
  ⟨⟨(st [] : State), ((.service 1#32) : Requester), by decide +kernel⟩,
   ⟨(st [] : State), ((.service 1#32) : Requester), 1001, 0, by decide +kernel⟩,
   ⟨(st [] : State), ((.service 1#32) : Requester), 0, 0, by decide +kernel⟩,
   ⟨(st [fun c =>
     { c with tb := { c.tb with sched := [⟨2000, 0, .marker (siblingReq (.service 1#32) 0#32), 0⟩] } }] : State),
     ((.service 1#32) : Requester), 0#32, by decide +kernel⟩,
   ⟨(st [] : State), ((.service 1#32) : Requester), 0#32, by decide +kernel⟩,
   ⟨(st [fun c => { c with tb := { c.tb with valid := true } }] : State), ((.service 1#32) : Requester), 0,
     by decide +kernel⟩,
   ⟨(st [fun c => wLive c Reg.SUP_WALL_CFG 0#32] : State), ((.service 1#32) : Requester), by decide +kernel⟩⟩

theorem witness_LaneCommands :
    (∃ (s : State) (n : Lane) (scan : LaneScan) (step : Nat) (a : Nat) (b : Nat), (laneOf s.chip n.val).state =
      .train ∧ eyeCentre scan.openings = some step ∧ isTraining scan.pattern = true ∧ idWord scan.word0 = some a ∧
      idWord scan.word1 = some b ∧ typeFits s.chip n.val a = true) ∧
    (∃ (s : State) (n : Lane) (scan : LaneScan) (step : Nat) (a : Nat) (b : Nat), (laneOf s.chip n.val).state =
      .train ∧ eyeCentre scan.openings = some step ∧ isTraining scan.pattern = true ∧ idWord scan.word0 = some a ∧
      idWord scan.word1 = some b ∧ typeFits s.chip n.val a = false) ∧
    (∃ (s : State) (n : Lane), (laneOf s.chip n.val).state = .train) ∧
    (∃ (s : State) (n : Lane), (laneOf s.chip n.val).state = .run ∧ 64 < (laneOf s.chip n.val).cvNow) ∧
    (∃ (s : State) (n : Lane) (k : Nat), (laneOf s.chip n.val).state = .run ∧ 16 ≤ (laneOf (feedLane s.chip n.val
      [] (min k (periodsLeft (laneOf s.chip n.val) - 1))) n.val).chain.invalid ∧ (feedLane s.chip n.val [] (min k
      (periodsLeft (laneOf s.chip n.val) - 1))).sup.mode ≠ .holdUp) ∧
    (∃ (s : State) (n : Lane) (k : Nat), laneMeters (laneOf s.chip n.val) = true ∧ 16 ≤ (laneOf (feedLane s.chip
      n.val [] (min k (periodsLeft (laneOf s.chip n.val) - 1))) n.val).chain.invalid ∧ (feedLane s.chip n.val []
      (min k (periodsLeft (laneOf s.chip n.val) - 1))).sup.mode = .holdUp) ∧
    (∃ (s : State) (n : Lane) (k : Nat), laneMeters (laneOf s.chip n.val) = true ∧ (laneOf (feedLane s.chip n.val
      [] (min k (periodsLeft (laneOf s.chip n.val) - 1))) n.val).chain.invalid < 16) ∧
    (∃ (s : State) (n : Lane) (ps : List Period), (laneOf s.chip n.val).state = .retrain ∧ 128 ≤ (laneOf (feedLane
      s.chip n.val (ps.take (periodsLeft (laneOf s.chip n.val) - 1)) 0) n.val).chain.valid ∧ (laneOf (feedLane
      s.chip n.val (ps.take (periodsLeft (laneOf s.chip n.val) - 1)) 0) n.val).retrain ≤ 2000) ∧
    (∃ (s : State) (n : Lane), (laneOf s.chip n.val).state = .retrain) ∧
    (∃ (s : State) (n : Lane), (laneOf s.chip n.val).state = .failed) ∧
    (∃ (s : State) (n : Lane) (ps : List Period), (laneOf s.chip n.val).state = .run ∧ (laneOf s.chip
      n.val).range16 = true ∧ (takePeriods s.chip (1200 + n.val) (streamCfg s.chip n.val) (laneOf s.chip n.val)
      (ps.take (periodsLeft (laneOf s.chip n.val) - 1)) 0).range16 = false) ∧
    (∃ (s : State) (n : Lane) (ps : List Period), (laneOf s.chip n.val).state = .run ∧ ((laneOf s.chip
      n.val).range16 = false ∨ (takePeriods s.chip (1200 + n.val) (streamCfg s.chip n.val) (laneOf s.chip n.val)
      (ps.take (periodsLeft (laneOf s.chip n.val) - 1)) 0).range16 = true)) ∧
    (∃ (s : State) (n : Lane), windowClosed s.chip (Reg.MET_LANE_CV n.val) = false) ∧
    (∃ (s : State) (n : Lane), windowClosed s.chip (Reg.MET_LANE_CV n.val) = true) :=
  ⟨⟨(st [fun c => wLane c ((0 : Lane).val) (fun x => { x with state := .train })] : State), 0, (wScan 2), 16,
     0x2001, 0x1234, by decide +kernel⟩,
   ⟨(st [fun c => wLane c ((0 : Lane).val) (fun x => { x with state := .train })] : State), 0, (wScan 3), 16,
     0x3001, 0x1234, by decide +kernel⟩,
   ⟨(st [fun c => wLane c ((0 : Lane).val) (fun x => { x with state := .train })] : State), 0, by decide +kernel⟩,
   ⟨(st [fun c => wLane c ((0 : Lane).val) (fun x => { x with state := .run }), fun c => wLane c 0 (fun x =>
     { x with cvNow := 65 })] : State), 0, by decide +kernel⟩,
   ⟨(st [fun c => wLane c ((0 : Lane).val) (fun x => { x with state := .run }), fun c => wLane c 0 (fun x =>
     { x with state := .run, chain := { Chain.init with invalid := 16 } })] : State), 0, 0, by decide +kernel⟩,
   ⟨(st [fun c => wLane c 0 (fun x => { x with state := .run, chain := { Chain.init with invalid := 16 } }), wMode
     .holdUp] : State), 0, 0, by decide +kernel⟩,
   ⟨(st [fun c => wLane c 0 (fun x => { x with state := .run })] : State), 0, 0, by decide +kernel⟩,
   ⟨(st [fun c => wLane c ((0 : Lane).val) (fun x => { x with state := .retrain }), fun c => wLane c 0 (fun x =>
     { x with chain := { Chain.init with valid := 128 } })] : State), 0, ([] : List Period), by decide +kernel⟩,
   ⟨(st [fun c => wLane c ((0 : Lane).val) (fun x => { x with state := .retrain })] : State), 0, by decide +kernel⟩,
   ⟨(st [fun c => wLane c ((0 : Lane).val) (fun x => { x with state := .failed })] : State), 0, by decide +kernel⟩,
   ⟨(st [fun c => wLane c 2 (fun x =>
     { x with state := .run, range16 := true, chain := { Chain.init with rx16 := true, fCnt := 15, fInts := [0, 0, 30000] } }),
     wPoint2] : State), 2, ([wSym 15] : List Period), by decide +kernel⟩,
   ⟨(st [fun c => wLane c ((0 : Lane).val) (fun x => { x with state := .run })] : State), 0, ([] : List Period),
     by decide +kernel⟩,
   ⟨(st [] : State), 0, by decide +kernel⟩,
   ⟨(st [fun c => { c with sup := { c.sup with fence := 127 } }] : State), 0, by decide +kernel⟩⟩

theorem witness_MeteringCommands :
    (∃ (s : State) (m : Nat) (j : Nat) (p : Sample), m < 8 ∧ pointMeters s.chip m = true ∧ j < essentialCount
      (mpType s.chip m) ∧ laneMeters (laneOf s.chip (mpBase s.chip m + j)) = true ∧ (∀ k, k < 8 → k ≠ m →
      pointEnabled s.chip k = true → mpBase s.chip m + j < mpBase s.chip k ∨ mpBase s.chip k + laneCount (mpType
      s.chip k) ≤ mpBase s.chip m + j) ∧ (laneOf s.chip (mpBase s.chip m + j)).past[62]? = some p ∧ p.subst = true) ∧
    (∃ (s : State) (k : Nat) (i : Nat), s.chip.acc.latchWait = some (k, i)) ∧
    (∃ (s : State), s.chip.acc.latchWait = none) ∧
    (∃ (s : State) (sl : CommitSlot) (rest : List CommitSlot), s.chip.acc.due = sl :: rest) ∧
    (∃ (s : State) (a : Nat) (n : Nat), s.chip.sup.mode = .holdUp ∧ 0 < a ∧ s.chip.acc.ended = false ∧ mayCommit
      (cutCycle s.chip a n) = true) ∧
    (∃ (s : State) (a : Nat) (n : Nat), s.chip.sup.mode = .holdUp ∧ s.chip.acc.ended = false ∧ finalDue s.chip =
      true ∧ mayCommit (cutCycle s.chip a n) = true) ∧
    (∃ (s : State), s.chip.met.fallback = true) ∧
    (∃ (s : State), s.chip.met.hcyc = 8) ∧
    (∃ (s : State), windowClosed s.chip Reg.MET_CAL_CTRL = false ∧ s.chip.met.cal.busy = false ∧ s.chip.met.cal.due
      = false) ∧
    (∃ (s : State), windowClosed s.chip Reg.MET_CAL_CTRL = false ∧ s.chip.met.cal.busy = true) ∧
    (∃ (s : State), s.chip.met.cal.busy = true ∧ s.chip.met.cal.cycles ≤ s.chip.met.cal.cycDone) ∧
    (∃ (s : State) (i : BitVec 8), windowClosed s.chip Reg.MET_ACC_CTRL = false ∧ i.toNat ≤ 7 ∧
      s.chip.acc.latchWait = none ∧ s.chip.acc.finalising = false) ∧
    (∃ (s : State) (i : BitVec 8), windowClosed s.chip Reg.MET_ACC_CTRL = false ∧ i.toNat ≤ 7 ∧
      s.chip.acc.latchWait = none ∧ s.chip.acc.finalising = true) ∧
    (∃ (i : BitVec 8), 7 < i.toNat) ∧
    (∃ (s : State) (req : Requester) (i : Nat), performs s.chip req 0x0301 .accumulator = true ∧ i ≤ 7) :=
  ⟨⟨(st [wPoint, fun c => wLane c 0 (fun x => { x with past := List.replicate 63 ⟨0, false, true, false, false⟩ })]
     : State), 0, 0, (⟨0, false, true, false, false⟩ : Sample), by decide +kernel⟩,
   ⟨(st [fun c => { c with acc := { c.acc with latchWait := some (0, 0) } }] : State), 0, 0, by decide +kernel⟩,
   ⟨(st [fun c => { c with acc := { c.acc with latchWait := none } }] : State), by decide +kernel⟩,
   ⟨(st [fun c => { c with acc := { c.acc with due := wSlot :: ([] : List CommitSlot) } }] : State), wSlot, ([] :
     List CommitSlot), by decide +kernel⟩,
   ⟨(st [fun c => { c with sup := { c.sup with mode := .holdUp } }, fun c =>
     { c with acc := { c.acc with ended := false } }] : State), 1, 0, by decide +kernel⟩,
   ⟨(st [fun c => { c with sup := { c.sup with mode := .holdUp } }, fun c =>
     { c with acc := { c.acc with ended := false } }] : State), 0, 0, by decide +kernel⟩,
   ⟨(st [fun c => { c with met := { c.met with fallback := true } }] : State), by decide +kernel⟩,
   ⟨(st [fun c => { c with met := { c.met with hcyc := 8 } }] : State), by decide +kernel⟩,
   ⟨(st [fun c => { c with met := { c.met with cal := { c.met.cal with busy := false } } }, fun c =>
     { c with met := { c.met with cal := { c.met.cal with due := false } } }] : State), by decide +kernel⟩,
   ⟨(st [fun c => { c with met := { c.met with cal := { c.met.cal with busy := true } } }] : State),
     by decide +kernel⟩,
   ⟨(st [fun c => { c with met := { c.met with cal := { c.met.cal with busy := true } } }] : State),
     by decide +kernel⟩,
   ⟨(st [fun c => { c with acc := { c.acc with latchWait := none } }, fun c =>
     { c with acc := { c.acc with finalising := false } }] : State), 0, by decide +kernel⟩,
   ⟨(st [fun c => { c with acc := { c.acc with latchWait := none } }, fun c =>
     { c with acc := { c.acc with finalising := true } }] : State), 0, by decide +kernel⟩,
   ⟨8, by decide +kernel⟩,
   ⟨(st [] : State), ((.service 1#32) : Requester), 0, by decide +kernel⟩⟩

theorem witness_TariffCommands :
    (∃ (s : State), windowClosed s.chip Reg.TAR_TBL_DATA = false ∧ s.chip.tar.pasState ≠ .armed ∧ immBit s.chip
      Reg.TAR_TBL_ADDR 17 = false ∧ immBit s.chip Reg.TAR_TBL_ADDR 16 = false ∧ imm s.chip Reg.TAR_TBL_ADDR 10 0 ≤
      1182) ∧
    (∃ (s : State), windowClosed s.chip Reg.TAR_TBL_DATA = false ∧ s.chip.tar.pasState = .armed) ∧
    (∃ (s : State), windowClosed s.chip Reg.TAR_TBL_DATA = false ∧ immBit s.chip Reg.TAR_TBL_ADDR 16 = true ∧ imm
      s.chip Reg.TAR_TBL_ADDR 10 0 < 2047) ∧
    (∃ (s : State), windowClosed s.chip Reg.TAR_PAS_CTRL = false ∧ s.chip.tar.pasState ≠ .armed ∧ armCause s.chip
      (passiveImage s.chip) s.chip.tar.pasAt = 0) ∧
    (∃ (s : State), windowClosed s.chip Reg.TAR_PAS_CTRL = false ∧ s.chip.tar.pasState ≠ .armed ∧ armCause s.chip
      (passiveImage s.chip) s.chip.tar.pasAt ≠ 0) ∧
    (∃ (s : State), windowClosed s.chip Reg.TAR_PAS_CTRL = false ∧ s.chip.tar.pasState = .armed) ∧
    (∃ (s : State), windowClosed s.chip Reg.TAR_PAS_CTRL = false) ∧
    (∃ (s : State), windowClosed s.chip Reg.TAR_PRICE_DATA = false ∧ immBit s.chip Reg.TAR_PRICE_ADDR 16 = false ∧
      imm s.chip Reg.TAR_PRICE_ADDR 5 0 ≤ 35) ∧
    (∃ (s : State), windowClosed s.chip Reg.TAR_PRICE_DATA = false ∧ immBit s.chip Reg.TAR_PRICE_ADDR 16 = false) ∧
    (∃ (s : State), windowClosed s.chip Reg.TAR_PRICE_CTRL = false) ∧
    (∃ (s : State), windowClosed s.chip Reg.TAR_PRICE_CTRL = false) ∧
    (∃ (s : State), windowClosed s.chip Reg.TAR_TBL_DATA = true) ∧
    (∃ (s : State), windowClosed s.chip Reg.TAR_PRICE_DATA = true) ∧
    (∃ (s : State), windowClosed s.chip Reg.TAR_MD_CTRL = false) ∧
    (∃ (s : State) (req : Requester) (ws : List Word), performs s.chip req 0x0302 .tariff = true ∧ ws.length = 1183
      ∧ s.chip.tar.pasState = .armed ∧ s.chip.tar.active = none ∧ ¬ (calWord (passiveImage s.chip) 0 = calWord ws 0
      ∧ calWord (passiveImage s.chip) 1182 = calWord ws 1182)) ∧
    (∃ (s : State) (req : Requester) (at' : Nat) (ws : List Word), performs s.chip req 0x0302 .tariff = true ∧
      ws.length = 1183 ∧ s.chip.tar.pasState ≠ .armed ∧ s.chip.tar.active = none ∧ armCause s.chip (passiveImage
      { s.chip with tar := { s.chip.tar with passive := imageTab ws } }) at' = 0) ∧
    (∃ (s : State) (req : Requester), performs s.chip req 0x0303 .tariff = true) ∧
    (∃ (s : State) (req : Requester) (n : Nat) (ws : List Word), performs s.chip req 0x0304 .tariff = true ∧ n < 16
      ∧ ws.length = 36) ∧
    (∃ (s : State) (req : Requester) (cr : Nat), performs s.chip req 0x0305 .tariff = true ∧ s.chip.tar.mdLast ≤
      cr) :=
  ⟨⟨(st [fun c => regPut c Reg.TAR_TBL_ADDR (withBit (regGet c Reg.TAR_TBL_ADDR) (17) false), fun c => regPut c
     Reg.TAR_TBL_ADDR (withBit (regGet c Reg.TAR_TBL_ADDR) (16) false)] : State), by decide +kernel⟩,
   ⟨(st [fun c => { c with tar := { c.tar with pasState := .armed } }] : State), by decide +kernel⟩,
   ⟨(st [fun c => regPut c Reg.TAR_TBL_ADDR (withBit (regGet c Reg.TAR_TBL_ADDR) (16) true)] : State),
     by decide +kernel⟩,
   ⟨_, by decide +kernel, by decide +kernel, wTariff3⟩,
   ⟨st [], by decide +kernel, by decide +kernel, wTariff4⟩,
   ⟨(st [fun c => { c with tar := { c.tar with pasState := .armed } }] : State), by decide +kernel⟩,
   ⟨(st [] : State), by decide +kernel⟩,
   ⟨(st [fun c => regPut c Reg.TAR_PRICE_ADDR (withBit (regGet c Reg.TAR_PRICE_ADDR) (16) false)] : State),
     by decide +kernel⟩,
   ⟨(st [fun c => regPut c Reg.TAR_PRICE_ADDR (withBit (regGet c Reg.TAR_PRICE_ADDR) (16) false)] : State),
     by decide +kernel⟩,
   ⟨(st [] : State), by decide +kernel⟩,
   ⟨(st [] : State), by decide +kernel⟩,
   ⟨(st [fun c => { c with sup := { c.sup with fence := 127 } }] : State), by decide +kernel⟩,
   ⟨(st [fun c => { c with sup := { c.sup with fence := 127 } }] : State), by decide +kernel⟩,
   ⟨(st [] : State), by decide +kernel⟩,
   ⟨st [fun c => { c with tar := { c.tar with pasState := .armed } }], .service 1#32, 1#32 :: List.replicate 1182
     0#32, by decide +kernel, by rw [List.length_cons, List.length_replicate], by decide +kernel,
     by decide +kernel, wTariff12⟩,
   ⟨st [], .service 1#32, 5, wCal, by decide +kernel, wCal_length, by decide +kernel, by decide +kernel, wTariff13⟩,
   ⟨(st [] : State), ((.service 1#32) : Requester), by decide +kernel⟩,
   ⟨(st [] : State), ((.service 1#32) : Requester), 0, (List.replicate 36 0#32), by decide +kernel⟩,
   ⟨(st [] : State), ((.service 1#32) : Requester), 0, by decide +kernel⟩⟩

theorem witness_LegalCommands :
    (∃ (s : State), s.chip.leg.running = false) ∧
    (∃ (s : State), s.chip.leg.sealOpen = false ∧ s.chip.leg.running = true) ∧
    (∃ (s : State), s.chip.leg.sealOpen = true ∧ s.chip.leg.running = true) ∧
    (∃ (s : State) (k : LegCause) (rest : List LegCause), s.chip.leg.causes = k :: rest ∧ s.chip.leg.running = true
      ∧ logHardFull s.chip = false ∧ s.chip.leg.gap = none ∧ k.ctx = none) ∧
    (∃ (s : State) (k : LegCause) (rest : List LegCause), s.chip.leg.causes = k :: rest ∧ s.chip.leg.running = true
      ∧ logHardFull s.chip = true) ∧
    (∃ (s : State) (n : Nat) (ns : List Nat), unsignedSeqs s.chip = n :: ns ∧ signAllowed s.chip = true) ∧
    (∃ (s : State) (n : Nat) (i : Nat) (e : LegEntry), s.chip.tru.signNow = some (.legal n, i) ∧ legEntryOf s.chip
      n = some e) ∧
    (∃ (s : State), s.chip.leg.running = true) ∧
    (∃ (s : State), windowClosed s.chip Reg.LEG_EVT = false) ∧
    (∃ (bs : List Byte), bs ≠ []) ∧
    (∃ (s : State) (req : Requester) (n : Nat), performs s.chip req 0x0306 .legalLog = true ∧ s.chip.leg.signedSeq
      < n) ∧
    (∃ (s : State) (req : Requester) (n : Nat), performs s.chip req 0x0306 .legalLog = true ∧ n ≤
      s.chip.leg.signedSeq ∧ legEntryOf s.chip n = none) ∧
    (∃ (s : State) (req : Requester) (n : Nat) (i : Nat) (len : Nat) (e : LegEntry), performs s.chip req 0x0306
      .legalLog = true ∧ n ≤ s.chip.leg.signedSeq ∧ legEntryOf s.chip n = some e ∧ e.signed = true ∧
      s.chip.leg.sigRing.find? (fun r => r.1 == n) = some (n, i) ∧ legEntryOf s.chip (n + 1) = none ∧ 5741 +
      e.body.length ≤ len) ∧
    (∃ (s : State) (req : Requester) (n : Nat), performs s.chip req 0x0307 .legalLog = true ∧ s.chip.leg.ack < n ∧
      n ≤ s.chip.leg.signedSeq) ∧
    (∃ (s : State) (req : Requester) (n : Nat), performs s.chip req 0x0307 .legalLog = true ∧ s.chip.leg.signedSeq
      < n) :=
  ⟨⟨(st [fun c => { c with leg := { c.leg with running := false } }] : State), by decide +kernel⟩,
   ⟨(st [fun c => { c with leg := { c.leg with sealOpen := false } }, fun c =>
     { c with leg := { c.leg with running := true } }] : State), by decide +kernel⟩,
   ⟨(st [fun c => { c with leg := { c.leg with sealOpen := true } }, fun c =>
     { c with leg := { c.leg with running := true } }] : State), by decide +kernel⟩,
   ⟨(st [fun c => { c with leg := { c.leg with causes := wCause :: ([] : List LegCause) } }, fun c =>
     { c with leg := { c.leg with running := true } }, fun c => { c with leg := { c.leg with gap := none } }] :
     State), wCause, ([] : List LegCause), by decide +kernel⟩,
   ⟨(st [fun c => { c with leg := { c.leg with causes := wCause :: ([] : List LegCause) } }, fun c =>
     { c with leg := { c.leg with running := true } }, fun c => { c with leg := { c.leg with nextSeq := 65600 } }]
     : State), wCause, ([] : List LegCause), by decide +kernel⟩,
   ⟨(st [fun c => { c with leg := { c.leg with running := true, nextSeq := 2, log := [(1, wEntry)] } }] : State),
     1, ([] : List Nat), by decide +kernel⟩,
   ⟨(st [fun c => { c with leg := { c.leg with nextSeq := 2, log := [(1, wEntry)] } }, fun c =>
     { c with tru := { c.tru with signNow := some (.legal 1, 0) } }] : State), 1, 0, wEntry, by decide +kernel⟩,
   ⟨(st [fun c => { c with leg := { c.leg with running := true } }] : State), by decide +kernel⟩,
   ⟨(st [] : State), by decide +kernel⟩,
   ⟨([1] : List Byte), by decide +kernel⟩,
   ⟨(st [fun c => { c with leg := { c.leg with signedSeq := 0 } }] : State), ((.service 1#32) : Requester), 1,
     by decide +kernel⟩,
   ⟨(st [] : State), ((.service 1#32) : Requester), 0, by decide +kernel⟩,
   ⟨(st [fun c =>
     { c with leg := { c.leg with nextSeq := 2, signedSeq := 1, sigRing := [(1, 0)], log := [(1, { wEntry with signed := true })] } }]
     : State), ((.service 1#32) : Requester), 1, 0, 6000, { wEntry with signed := true }, by decide +kernel⟩,
   ⟨(st [fun c => { c with leg := { c.leg with signedSeq := 1 } }] : State), ((.service 1#32) : Requester), 1,
     by decide +kernel⟩,
   ⟨(st [fun c => { c with leg := { c.leg with signedSeq := 0 } }] : State), ((.service 1#32) : Requester), 1,
     by decide +kernel⟩⟩

theorem witness_PilotCommands :
    (∃ (s : State) (o : Outlet) (vp : Int) (vn : Int), fenced s.chip .out = false ∧ outletPlacing s.chip = false ∧
      (outletOf s.chip o.val).state = .idle ∧ cpConnected (pilotAt s.chip o.val vp vn) = true ∧
      s.chip.outl.heldCard = none) ∧
    (∃ (s : State) (o : Outlet) (vp : Int) (vn : Int), fenced s.chip .out = false ∧ outletPlacing s.chip = false ∧
      pilotAt s.chip o.val vp vn = .a ∧ cpConnected (outletOf s.chip o.val).cp = true ∧ ((outletOf s.chip
      o.val).state = .plugged ∨ (outletOf s.chip o.val).state = .linking ∨ (outletOf s.chip o.val).state =
      .negotiating ∨ (outletOf s.chip o.val).state = .authorised) ∧ energised s.chip o.val = false ∧
      mustBeUnavailable s.chip o.val = false) ∧
    (∃ (s : State) (o : Outlet) (vp : Int) (vn : Int), procAnswers s.chip = true ∧ outletPlacing s.chip = false ∧
      pilotAt s.chip o.val vp vn = .a ∧ (outletOf s.chip o.val).cp ≠ .a ∧ energised s.chip o.val = true) ∧
    (∃ (s : State) (o : Outlet), procAnswers s.chip = true ∧ (presentCp s.chip o = .e ∨ presentCp s.chip o =
      .invalid)) ∧
    (∃ (s : State) (o : Outlet), presentCp s.chip o ≠ .e ∧ presentCp s.chip o ≠ .invalid) ∧
    (∃ (s : State) (o : Outlet) (vp : Int) (vn : Int), outletPlacing s.chip = true ∧ ¬ (pilotAt s.chip o.val vp vn
      = .a ∧ energised s.chip o.val = true)) ∧
    (∃ (s : State) (o : Outlet) (vp : Int) (vn : Int), procAnswers s.chip = true ∧ outletPlacing s.chip = true ∧
      pilotAt s.chip o.val vp vn = .a ∧ energised s.chip o.val = true) ∧
    (∃ (s : State) (o : Outlet), fenced s.chip .out = false ∧ (outletOf s.chip o.val).state = .energised ∧
      (outletOf s.chip o.val).pwm = false ∧ (outletOf s.chip o.val).hlc = .none ∧ isAc s.chip o.val = true) ∧
    (∃ (s : State) (o : Outlet), fenced s.chip .out = false ∧ (outletOf s.chip o.val).state = .energised ∧ isAc
      s.chip o.val = true) ∧
    (∃ (s : State) (o : Outlet), fenced s.chip .out = false ∧ outletPlacing s.chip = false ∧ closedSide (outletOf
      s.chip o.val).state = false ∧ (outletOf s.chip o.val).state ≠ .authorised ∧ (outletOf s.chip o.val).auth =
      none) ∧
    (∃ (s : State) (o : Outlet) (mv : Nat), fenced s.chip .out = false ∧ outletPlacing s.chip = false ∧ closedSide
      (outletOf s.chip o.val).state = true ∧ ppValid (outletOf s.chip o.val) = true ∧ ppOf (ppLatch s.chip o.val)
      mv ≠ (outletOf s.chip o.val).pp) ∧
    (∃ (s : State) (o : Outlet), fenced s.chip .out = false ∧ ((outletOf s.chip o.val).state = .plugged ∨ (outletOf
      s.chip o.val).state = .linking ∨ (outletOf s.chip o.val).state = .negotiating ∨ (outletOf s.chip o.val).state
      = .authorised) ∧ (outletOf s.chip o.val).lock = .moving ∧ (outletOf s.chip o.val).locking = true) ∧
    (∃ (s : State) (o : Outlet), fenced s.chip .out = false ∧ (outletOf s.chip o.val).lock = .moving ∧ (outletOf
      s.chip o.val).locking = false) ∧
    (∃ (s : State) (o : Outlet), fenced s.chip .out = false ∧ ((outletOf s.chip o.val).state = .plugged ∨ (outletOf
      s.chip o.val).state = .linking ∨ (outletOf s.chip o.val).state = .negotiating ∨ (outletOf s.chip o.val).state
      = .authorised) ∧ (outletOf s.chip o.val).lock = .fault ∧ cfgBit s.chip (Reg.OUT_CFG o.val) 6 = true) ∧
    (∃ (s : State) (o : Outlet) (h : Bool), fenced s.chip .out = false ∧ fbLocked s.chip o.val h = true ∧ (outletOf
      s.chip o.val).state ≠ .authorised ∧ ((outletOf s.chip o.val).locking = true ∨ ((outletOf s.chip o.val).lock ≠
      .moving ∧ (outletOf s.chip o.val).lock ≠ .fault))) ∧
    (∃ (s : State) (o : Outlet) (h : Bool), fenced s.chip .out = false ∧ fbLocked s.chip o.val h = false ∧
      (outletOf s.chip o.val).state = .energised ∧ cfgBit s.chip (Reg.OUT_CFG o.val) 6 = true) :=
  ⟨⟨(st [fun c => modOutlet c ((0 : Outlet).val) (fun x => { x with state := .idle }), fun c =>
     { c with outl := { c.outl with heldCard := none } }] : State), 0, 9000, 9000, by decide +kernel⟩,
   ⟨(st [fun c => modOutlet c 0 (fun x => { x with cp := .b, state := .plugged })] : State), 0, 12000, 12000,
     by decide +kernel⟩,
   ⟨(st [fun c => modOutlet c 0 (fun x => { x with cp := .c, state := .energised }), wFb] : State), 0, 12000,
     12000, by decide +kernel⟩,
   ⟨(st [fun c => modOutlet c 0 (fun x => { x with cp := .e })] : State), 0, by decide +kernel⟩,
   ⟨(st [] : State), 0, by decide +kernel⟩,
   ⟨(st [wMode .activationPause, fun c => { c with sup := { c.sup with pausedFrom := .operational } }, fun c =>
     { c with upd := { c.upd with manifest := some { wMan with entries := [{ wPart with part := 5 }] } } }] :
     State), 0, 0, 0, by decide +kernel⟩,
   ⟨(st [wMode .activationPause, fun c => { c with sup := { c.sup with pausedFrom := .operational } }, fun c =>
     { c with upd := { c.upd with manifest := some { wMan with entries := [{ wPart with part := 5 }] } } }, wFb] :
     State), 0, 12000, 12000, by decide +kernel⟩,
   ⟨(st [fun c => modOutlet c ((0 : Outlet).val) (fun x => { x with state := .energised }), fun c => modOutlet c
     ((0 : Outlet).val) (fun x => { x with pwm := false }), fun c => modOutlet c ((0 : Outlet).val) (fun x =>
     { x with hlc := .none }), wKind 0 1] : State), 0, by decide +kernel⟩,
   ⟨(st [fun c => modOutlet c ((0 : Outlet).val) (fun x => { x with state := .energised }), wKind 0 1] : State), 0,
     by decide +kernel⟩,
   ⟨(st [fun c => modOutlet c ((0 : Outlet).val) (fun x => { x with auth := none })] : State), 0,
     by decide +kernel⟩,
   ⟨(st [fun c => modOutlet c 0 (fun x => { x with state := .energised, pp := .a32 })] : State), 0, 0,
     by decide +kernel⟩,
   ⟨(st [fun c => modOutlet c ((0 : Outlet).val) (fun x => { x with lock := .moving }), fun c => modOutlet c ((0 :
     Outlet).val) (fun x => { x with locking := true }), fun c => modOutlet c 0 (fun x =>
     { x with state := .plugged })] : State), 0, by decide +kernel⟩,
   ⟨(st [fun c => modOutlet c ((0 : Outlet).val) (fun x => { x with lock := .moving }), fun c => modOutlet c ((0 :
     Outlet).val) (fun x => { x with locking := false })] : State), 0, by decide +kernel⟩,
   ⟨(st [fun c => modOutlet c ((0 : Outlet).val) (fun x => { x with lock := .fault }), fun c => wLive c
     (Reg.OUT_CFG (0 : Outlet).val) (withBit (liveGet c (Reg.OUT_CFG (0 : Outlet).val)) 6 true), fun c => modOutlet
     c 0 (fun x => { x with state := .plugged })] : State), 0, by decide +kernel⟩,
   ⟨(st [] : State), 0, true, by decide +kernel⟩,
   ⟨(st [fun c => modOutlet c ((0 : Outlet).val) (fun x => { x with state := .energised }), fun c => wLive c
     (Reg.OUT_CFG (0 : Outlet).val) (withBit (liveGet c (Reg.OUT_CFG (0 : Outlet).val)) 6 true)] : State), 0,
     false, by decide +kernel⟩⟩

theorem witness_SlacCommands :
    (∃ (s : State) (o : Outlet), modemsRun s.chip = true ∧ (outletOf s.chip o.val).state = .plugged ∧ offers5
      (outletOf s.chip o.val) = true) ∧
    (∃ (s : State), outletPlacing s.chip = true) ∧
    (∃ (s : State), outletPlacing s.chip = false ∧ (fenced s.chip .out = true ∨ s.chip.sup.mode = .holdUp)) ∧
    (∃ (s : State) (o : Outlet) (r : Nat), modemsRun s.chip = true ∧ inMatch s.chip o.val r = true) ∧
    (∃ (s : State) (o : Outlet) (r : Nat), modemsRun s.chip = true ∧ inMatch s.chip o.val r = true) ∧
    (∃ (s : State) (o : Outlet) (r : Nat), modemsRun s.chip = true ∧ inMatch s.chip o.val r = false) ∧
    (∃ (s : State) (o : Outlet) (r : Nat), modemsRun s.chip = true ∧ inMatch s.chip o.val r = true ∧ clearlyLower
      s.chip o.val r = false) ∧
    (∃ (s : State) (o : Outlet) (p : Outlet) (r : Nat) (a : Nat) (b : Nat), modemsRun s.chip = true ∧ inMatch
      s.chip o.val r = true ∧ p ≠ o ∧ inMatch s.chip p.val r = true ∧ (outletOf s.chip o.val).atten = some a ∧
      (outletOf s.chip p.val).atten = some b ∧ b + 30 ≤ a) ∧
    (∃ (s : State) (o : Outlet) (r : Nat), modemsRun s.chip = true ∧ inMatch s.chip o.val r = true) ∧
    (∃ (s : State) (o : Outlet) (r : Nat), modemsRun s.chip = true ∧ inMatch s.chip o.val r = true) ∧
    (∃ (s : State) (o : Outlet) (r : Nat), modemsRun s.chip = true ∧ inMatch s.chip o.val r = true) ∧
    (∃ (s : State) (o : Outlet), fenced s.chip .out = false ∧ s.chip.sup.mode ≠ .holdUp ∧ ((outletOf s.chip
      o.val).state = .linking ∨ ((outletOf s.chip o.val).state = .plugged ∧ offers5 (outletOf s.chip o.val) =
      true)) ∧ (outletOf s.chip o.val).slacFails < 2) ∧
    (∃ (s : State) (o : Outlet), fenced s.chip .out = false ∧ s.chip.sup.mode ≠ .holdUp ∧ (outletOf s.chip
      o.val).state = .linking ∧ 2 ≤ (outletOf s.chip o.val).slacFails ∧ isDc s.chip o.val = true) ∧
    (∃ (s : State) (o : Outlet), fenced s.chip .out = false ∧ s.chip.sup.mode ≠ .holdUp ∧ (outletOf s.chip
      o.val).state = .plugged ∧ (outletOf s.chip o.val).slacHold = true) ∧
    (∃ (s : State) (o : Outlet), modemsRun s.chip = true ∧ (outletOf s.chip o.val).state = .linking) :=
  ⟨⟨(st [fun c => modOutlet c ((0 : Outlet).val) (fun x => { x with state := .plugged }), fun c => modOutlet c 0
     (fun x => { x with pwm := true, duty := 50 })] : State), 0, by decide +kernel⟩,
   ⟨(st [wMode .activationPause, fun c => { c with sup := { c.sup with pausedFrom := .operational } }, fun c =>
     { c with upd := { c.upd with manifest := some { wMan with entries := [{ wPart with part := 5 }] } } }] :
     State), by decide +kernel⟩,
   ⟨(st [wMode .holdUp] : State), by decide +kernel⟩,
   ⟨(st [fun c => modOutlet c 0 (fun x => { x with state := .linking, runId := some 0, nmkUsed := 3 })] : State),
     0, 0, by decide +kernel⟩,
   ⟨(st [fun c => modOutlet c 0 (fun x => { x with state := .linking, runId := some 0, nmkUsed := 3 })] : State),
     0, 0, by decide +kernel⟩,
   ⟨(st [] : State), 0, 0, by decide +kernel⟩,
   ⟨(st [fun c => modOutlet c 0 (fun x => { x with state := .linking, runId := some 0, nmkUsed := 3 })] : State),
     0, 0, by decide +kernel⟩,
   ⟨(st [fun c => modOutlet c ((0 : Outlet).val) (fun x => { x with atten := some 30 }), fun c => modOutlet c ((1 :
     Outlet).val) (fun x => { x with atten := some 0 }), fun c => modOutlet c 0 (fun x =>
     { x with state := .linking, runId := some 0, nmkUsed := 3 }), fun c => modOutlet c 1 (fun x =>
     { x with state := .linking, runId := some 0, atten := some 0 }), fun c => modOutlet c 0 (fun x =>
     { x with atten := some 30 })] : State), 0, 1, 0, 30, 0, by decide +kernel⟩,
   ⟨(st [fun c => modOutlet c 0 (fun x => { x with state := .linking, runId := some 0, nmkUsed := 3 })] : State),
     0, 0, by decide +kernel⟩,
   ⟨(st [fun c => modOutlet c 0 (fun x => { x with state := .linking, runId := some 0, nmkUsed := 3 })] : State),
     0, 0, by decide +kernel⟩,
   ⟨(st [fun c => modOutlet c 0 (fun x => { x with state := .linking, runId := some 0, nmkUsed := 3 })] : State),
     0, 0, by decide +kernel⟩,
   ⟨(st [fun c => modOutlet c 0 (fun x => { x with state := .linking })] : State), 0, by decide +kernel⟩,
   ⟨(st [fun c => modOutlet c ((0 : Outlet).val) (fun x => { x with state := .linking }), wKind 0 2, fun c =>
     modOutlet c 0 (fun x => { x with slacFails := 2 })] : State), 0, by decide +kernel⟩,
   ⟨(st [fun c => modOutlet c ((0 : Outlet).val) (fun x => { x with state := .plugged }), fun c => modOutlet c ((0
     : Outlet).val) (fun x => { x with slacHold := true })] : State), 0, by decide +kernel⟩,
   ⟨(st [fun c => modOutlet c ((0 : Outlet).val) (fun x => { x with state := .linking })] : State), 0,
     by decide +kernel⟩⟩

theorem witness_VehicleNegotiation :
    (∃ (s : State) (o : Outlet) (p : Hlc) (tls : Nat) (sid : BitVec 128), hlcRuns s.chip = true ∧ protoServed
      s.chip o.val p = true ∧ tlsFits p tls = true ∧ resumes s.chip o.val sid = false ∧ (outletOf s.chip
      o.val).state = .negotiating) ∧
    (∃ (s : State) (o : Outlet) (p : Hlc) (tls : Nat), hlcRuns s.chip = true ∧ (protoServed s.chip o.val p = false
      ∨ tlsFits p tls = false)) ∧
    (∃ (s : State) (o : Outlet) (p : Hlc) (tls : Nat) (x : Nat) (sid : BitVec 128), hlcRuns s.chip = true ∧
      protoServed s.chip o.val p = true ∧ tlsFits p tls = true ∧ (outletOf s.chip o.val).resume = true ∧ liveCtx
      s.chip o.val = some x ∧ (ctxOf s.chip x).sessionId = sid ∧ (outletOf s.chip o.val).state = .energised) ∧
    (∃ (s : State) (o : Outlet), fenced s.chip .out = false ∧ (outletOf s.chip o.val).resume = true ∧ (outletOf
      s.chip o.val).state = .energised ∧ energised s.chip o.val = true) ∧
    (∃ (s : State) (o : Outlet), fenced s.chip .out = false ∧ (outletOf s.chip o.val).resume = true ∧ energised
      s.chip o.val = false) ∧
    (∃ (s : State) (o : Outlet), hlcRuns s.chip = true ∧ (outletOf s.chip o.val).state = .negotiating) ∧
    (∃ (s : State) (o : Outlet) (i : List Byte), hlcRuns s.chip = true ∧ (outletOf s.chip o.val).state =
      .negotiating ∧ cfgBit s.chip (Reg.OUT_CFG o.val) 16 = true ∧ (outletOf s.chip o.val).hlc ≠ .din ∧ (outletOf
      s.chip o.val).tls ≠ 0 ∧ mayAuthorise s.chip o.val (authRefOf i) = true ∧ backendUp s.chip = true) ∧
    (∃ (s : State) (o : Outlet) (i : List Byte), hlcRuns s.chip = true ∧ (outletOf s.chip o.val).state =
      .negotiating ∧ cfgBit s.chip (Reg.OUT_CFG o.val) 16 = true ∧ (outletOf s.chip o.val).hlc ≠ .din ∧ (outletOf
      s.chip o.val).tls ≠ 0 ∧ mayAuthorise s.chip o.val (authRefOf i) = true) ∧
    (∃ (s : State) (o : Outlet) (b : Bool) (d : Bool), hlcRuns s.chip = true ∧ (outletOf s.chip o.val).state =
      .negotiating ∧ (outletOf s.chip o.val).auth = none ∧ serviceFits s.chip o.val b d = true) ∧
    (∃ (s : State) (o : Outlet) (b : Bool) (d : Bool), hlcRuns s.chip = true ∧ (outletOf s.chip o.val).state =
      .negotiating ∧ serviceFits s.chip o.val b d = false) ∧
    (∃ (s : State) (o : Outlet) (u : Nat), hlcRuns s.chip = true ∧ isDc s.chip o.val = true ∧ (outletOf s.chip
      o.val).state = .authorised ∧ cpReady s.chip o.val = true ∧ outputMv s.chip o.val < 60000 ∧ mayClose s.chip
      o.val = true ∧ (outletOf s.chip o.val).preclosed = some u ∧ aonSec s.chip ≤ u + 60 ∧ (coilOf s.chip
      o.val).driven = false) ∧
    (∃ (s : State) (o : Outlet), hlcRuns s.chip = true ∧ (outletOf s.chip o.val).state = .checking) ∧
    (∃ (s : State) (o : Outlet), hlcRuns s.chip = true ∧ (((outletOf s.chip o.val).state = .checking ∧ 2 ≤ tget 0
      s.chip.saf.imdGood o.val) ∨ (outletOf s.chip o.val).state = .precharge)) ∧
    (∃ (s : State) (o : Outlet), hlcRuns s.chip = true ∧ (outletOf s.chip o.val).state = .checking ∧ tget 0
      s.chip.saf.imdGood o.val < 2) ∧
    (∃ (s : State) (o : Outlet), hlcRuns s.chip = true ∧ (outletOf s.chip o.val).state = .negotiating) ∧
    (∃ (s : State) (o : Outlet), hlcRuns s.chip = true ∧ (outletOf s.chip o.val).hlc = .iso2) ∧
    (∃ (s : State) (o : Outlet), hlcRuns s.chip = true ∧ (outletOf s.chip o.val).hlc ≠ .iso2) ∧
    (∃ (s : State) (o : Outlet) (x : Nat), hlcRuns s.chip = true ∧ liveCtx s.chip o.val = some x ∧ (outletOf s.chip
      o.val).hlc = .iso2) :=
  ⟨⟨(st [fun c => modOutlet c ((0 : Outlet).val) (fun x => { x with state := .negotiating }), fun c => wLive c
     (Reg.OUT_CFG 0) 0x7022#32] : State), 0, (.iso2 : Hlc), 0, 0x33#128, by decide +kernel⟩,
   ⟨(st [] : State), 0, (.iso2 : Hlc), 0, by decide +kernel⟩,
   ⟨(st [fun c => modOutlet c ((0 : Outlet).val) (fun x => { x with resume := true }), fun c => wCtx c (0) (fun x
     => { x with sessionId := (0x33#128 : BitVec 128) }), fun c => modOutlet c ((0 : Outlet).val) (fun x =>
     { x with state := .energised }), fun c => wLive c (Reg.OUT_CFG 0) 0x7022#32, wSess .live, fun c => modOutlet c
     0 (fun x => { x with ctx := some 0, resume := true, state := .energised })] : State), 0, (.iso2 : Hlc), 0, 0,
     0x33#128, by decide +kernel⟩,
   ⟨(st [fun c => modOutlet c ((0 : Outlet).val) (fun x => { x with resume := true }), fun c => modOutlet c ((0 :
     Outlet).val) (fun x => { x with state := .energised }), wFb] : State), 0, by decide +kernel⟩,
   ⟨(st [fun c => modOutlet c ((0 : Outlet).val) (fun x => { x with resume := true })] : State), 0,
     by decide +kernel⟩,
   ⟨(st [fun c => modOutlet c ((0 : Outlet).val) (fun x => { x with state := .negotiating })] : State), 0,
     by decide +kernel⟩,
   ⟨(st [fun c => modOutlet c ((0 : Outlet).val) (fun x => { x with state := .negotiating }), fun c => wLive c
     (Reg.OUT_CFG (0 : Outlet).val) (withBit (liveGet c (Reg.OUT_CFG (0 : Outlet).val)) 16 true), fun c =>
     modOutlet c 0 (fun x => { x with tls := 2 }), fun c =>
     { c with tru := { c.tru with tls := [⟨0, true, 0, 0⟩] } }] : State), 0, ([] : List Byte), by decide +kernel⟩,
   ⟨(st [fun c => modOutlet c ((0 : Outlet).val) (fun x => { x with state := .negotiating }), fun c => wLive c
     (Reg.OUT_CFG (0 : Outlet).val) (withBit (liveGet c (Reg.OUT_CFG (0 : Outlet).val)) 16 true), fun c =>
     modOutlet c 0 (fun x => { x with tls := 2 })] : State), 0, ([] : List Byte), by decide +kernel⟩,
   ⟨(st [fun c => modOutlet c ((0 : Outlet).val) (fun x => { x with state := .negotiating }), fun c => modOutlet c
     ((0 : Outlet).val) (fun x => { x with auth := none })] : State), 0, false, false, by decide +kernel⟩,
   ⟨(st [fun c => modOutlet c ((0 : Outlet).val) (fun x => { x with state := .negotiating })] : State), 0, true,
     false, by decide +kernel⟩,
   ⟨(st [wConv, wPermit, fun c => modOutlet c 0 (fun x =>
     { x with state := .authorised, cp := .c, preclosed := some 0, lock := .locked, lockIn := true })] : State), 0,
     0, by decide +kernel⟩,
   ⟨(st [fun c => modOutlet c ((0 : Outlet).val) (fun x => { x with state := .checking })] : State), 0,
     by decide +kernel⟩,
   ⟨(st [fun c => { c with saf := { c.saf with imdGood := [(0, 2)] } }, fun c => modOutlet c 0 (fun x =>
     { x with state := .checking })] : State), 0, by decide +kernel⟩,
   ⟨(st [fun c => modOutlet c ((0 : Outlet).val) (fun x => { x with state := .checking })] : State), 0,
     by decide +kernel⟩,
   ⟨(st [fun c => modOutlet c ((0 : Outlet).val) (fun x => { x with state := .negotiating })] : State), 0,
     by decide +kernel⟩,
   ⟨(st [fun c => modOutlet c ((0 : Outlet).val) (fun x => { x with hlc := .iso2 })] : State), 0,
     by decide +kernel⟩,
   ⟨(st [] : State), 0, by decide +kernel⟩,
   ⟨(st [fun c => modOutlet c ((0 : Outlet).val) (fun x => { x with hlc := .iso2 }), wSess .live, fun c =>
     modOutlet c 0 (fun x => { x with ctx := some 0 })] : State), 0, 0, by decide +kernel⟩⟩

theorem witness_VehicleEnergyTransfer :
    (∃ (s : State) (o : Outlet), hlcRuns s.chip = true ∧ (outletOf s.chip o.val).hlc ≠ .none ∧ (outletOf s.chip
      o.val).state = .energised) ∧
    (∃ (s : State) (o : Outlet), hlcRuns s.chip = true ∧ (outletOf s.chip o.val).hlc ≠ .none ∧ (outletOf s.chip
      o.val).state = .precharge ∧ ((outputMv s.chip o.val : Int) - (outletOf s.chip o.val).setMv).natAbs ≤ 20000 ∧
      (outputMa s.chip o.val).natAbs ≤ 2000) ∧
    (∃ (s : State) (o : Outlet), hlcRuns s.chip = true ∧ (outletOf s.chip o.val).hlc = .none) ∧
    (∃ (s : State) (o : Outlet) (ma : Int), hlcRuns s.chip = true ∧ isDc s.chip o.val = true ∧ (outletOf s.chip
      o.val).state = .energised ∧ 0 ≤ ma) ∧
    (∃ (s : State) (o : Outlet) (ma : Int), hlcRuns s.chip = true ∧ isDc s.chip o.val = true ∧ (outKind s.chip
      o.val ≠ 3 ∨ (outletOf s.chip o.val).hlc ≠ .iso20 ∨ (outletOf s.chip o.val).bpt = false) ∧ (outletOf s.chip
      o.val).state = .energised ∧ ma < 0) ∧
    (∃ (s : State) (o : Outlet) (ma : Int), hlcRuns s.chip = true ∧ outKind s.chip o.val = 3 ∧ (outletOf s.chip
      o.val).hlc = .iso20 ∧ (outletOf s.chip o.val).bpt = true ∧ (outletOf s.chip o.val).state = .energised ∧ ma <
      0) ∧
    (∃ (s : State) (o : Outlet), hlcRuns s.chip = true ∧ isDc s.chip o.val = true ∧ (outletOf s.chip o.val).state =
      .finishing) ∧
    (∃ (s : State) (o : Outlet), hlcRuns s.chip = true ∧ (outletOf s.chip o.val).hlc ≠ .none ∧ (outletOf s.chip
      o.val).state = .energised) :=
  ⟨⟨(st [fun c => modOutlet c ((0 : Outlet).val) (fun x => { x with state := .energised }), fun c => modOutlet c 0
     (fun x => { x with hlc := .iso2 })] : State), 0, by decide +kernel⟩,
   ⟨(st [fun c => modOutlet c ((0 : Outlet).val) (fun x => { x with state := .precharge }), fun c => modOutlet c 0
     (fun x => { x with hlc := .iso2 })] : State), 0, by decide +kernel⟩,
   ⟨(st [fun c => modOutlet c ((0 : Outlet).val) (fun x => { x with hlc := .none })] : State), 0,
     by decide +kernel⟩,
   ⟨(st [fun c => modOutlet c ((0 : Outlet).val) (fun x => { x with state := .energised }), wKind 0 2] : State), 0,
     0, by decide +kernel⟩,
   ⟨(st [fun c => modOutlet c ((0 : Outlet).val) (fun x => { x with state := .energised }), wKind 0 2] : State), 0,
     (-5), by decide +kernel⟩,
   ⟨(st [fun c => modOutlet c ((0 : Outlet).val) (fun x => { x with hlc := .iso20 }), fun c => modOutlet c ((0 :
     Outlet).val) (fun x => { x with bpt := true }), fun c => modOutlet c ((0 : Outlet).val) (fun x =>
     { x with state := .energised }), wKind 0 3, fun c => modOutlet c 0 (fun x => { x with hlc := .iso20 })] :
     State), 0, (-5), by decide +kernel⟩,
   ⟨(st [fun c => modOutlet c ((0 : Outlet).val) (fun x => { x with state := .finishing }), wKind 0 2] : State), 0,
     by decide +kernel⟩,
   ⟨(st [fun c => modOutlet c ((0 : Outlet).val) (fun x => { x with state := .energised }), fun c => modOutlet c 0
     (fun x => { x with hlc := .iso2 })] : State), 0, by decide +kernel⟩⟩

theorem witness_AuthorisationCommands :
    (∃ (s : State) (o : Outlet) (w : AuthWait), svcRuns s.chip = true ∧ (outletOf s.chip o.val).authWait = some w ∧
      (outletOf s.chip o.val).auth = none ∧ (outletOf s.chip o.val).state = .linking ∧ (outletOf s.chip o.val).cp ≠
      .a ∧ liveCtx s.chip o.val = none ∧ (unbilled s.chip = true ∨ startRefused s.chip o.val w.ptable = false)) ∧
    (∃ (s : State) (o : Outlet) (w : AuthWait), svcRuns s.chip = true ∧ (outletOf s.chip o.val).authWait = some w ∧
      (outletOf s.chip o.val).auth = none ∧ (outletOf s.chip o.val).state = .plugged) ∧
    (∃ (s : State) (o : Outlet) (w : AuthWait), svcRuns s.chip = true ∧ (outletOf s.chip o.val).authWait = some w ∧
      (outletOf s.chip o.val).auth = none ∧ (outletOf s.chip o.val).state = .linking ∧ (outletOf s.chip o.val).cp ≠
      .a ∧ liveCtx s.chip o.val = none ∧ (unbilled s.chip = true ∨ startRefused s.chip o.val w.ptable = false) ∧
      cfg s.chip (Reg.OUT_AUTH_CFG o.val) 1 0 = 2 ∧ w.chain = false) ∧
    (∃ (s : State) (o : Outlet), (outletOf s.chip o.val).authWait = none) ∧
    (∃ (s : State) (o : Outlet), svcRuns s.chip = true ∧ (outletOf s.chip o.val).auth.isSome = true ∧ (outletOf
      s.chip o.val).state = .energised) ∧
    (∃ (s : State) (u : List Byte) (o : Outlet), svcRuns s.chip = true ∧ immBit s.chip Reg.SUP_DISABLE 24 = false ∧
      cardStops s.chip (authRefOf u) = some o ∧ (outletOf s.chip o.val).state = .energised) ∧
    (∃ (s : State) (u : List Byte) (sel : Option Outlet), svcRuns s.chip = true ∧ immBit s.chip Reg.SUP_DISABLE 24
      = false ∧ cardStops s.chip (authRefOf u) = none ∧ cardOutlet s.chip sel (authRefOf u) = none) ∧
    (∃ (s : State), svcRuns s.chip = true ∧ immBit s.chip Reg.SUP_DISABLE 24 = true) ∧
    (∃ (s : State) (req : Requester) (mode : Nat) (bs : List Byte), performs s.chip req 0x0403 .service = true ∧
      mode ≤ 1 ∧ bs.length % 32 = 0 ∧ bs.length / 32 ≤ 65536 ∧ (parseEntries (bs.length / 32) bs).any (fun e =>
      e.cache) = false) ∧
    (∃ (s : State) (es : List AuthEntry), svcRuns s.chip = true ∧ es.length ≤ 65536 ∧ es.any (fun e => e.cache) =
      false) :=
  ⟨⟨(st [fun c => modOutlet c ((0 : Outlet).val) (fun x =>
     { x with authWait := some (⟨.nfc, false, 0, 0, none⟩ : AuthWait) }), fun c => modOutlet c ((0 : Outlet).val)
     (fun x => { x with auth := none }), fun c => modOutlet c ((0 : Outlet).val) (fun x =>
     { x with state := .linking }), wBill, fun c => modOutlet c 0 (fun x => { x with cp := .c })] : State), 0,
     (⟨.nfc, false, 0, 0, none⟩ : AuthWait), by decide +kernel⟩,
   ⟨(st [fun c => modOutlet c ((0 : Outlet).val) (fun x =>
     { x with authWait := some (⟨.nfc, false, 0, 0, none⟩ : AuthWait) }), fun c => modOutlet c ((0 : Outlet).val)
     (fun x => { x with auth := none }), fun c => modOutlet c ((0 : Outlet).val) (fun x =>
     { x with state := .plugged })] : State), 0, (⟨.nfc, false, 0, 0, none⟩ : AuthWait), by decide +kernel⟩,
   ⟨(st [fun c => modOutlet c ((0 : Outlet).val) (fun x =>
     { x with authWait := some (⟨.nfc, false, 0, 0, none⟩ : AuthWait) }), fun c => modOutlet c ((0 : Outlet).val)
     (fun x => { x with auth := none }), fun c => modOutlet c ((0 : Outlet).val) (fun x =>
     { x with state := .linking }), fun c => wLive c (Reg.OUT_AUTH_CFG (0 : Outlet).val) (withField (liveGet c
     (Reg.OUT_AUTH_CFG (0 : Outlet).val)) 1 0 2), wBill, fun c => modOutlet c 0 (fun x => { x with cp := .c })] :
     State), 0, (⟨.nfc, false, 0, 0, none⟩ : AuthWait), by decide +kernel⟩,
   ⟨(st [fun c => modOutlet c ((0 : Outlet).val) (fun x => { x with authWait := none })] : State), 0,
     by decide +kernel⟩,
   ⟨(st [fun c => modOutlet c ((0 : Outlet).val) (fun x => { x with state := .energised }), fun c => modOutlet c 0
     (fun x => { x with auth := some (0, 0) })] : State), 0, by decide +kernel⟩,
   ⟨wCard (authRefOf []), [], 0, by decide +kernel, by decide +kernel, wCard_stops _, by decide +kernel⟩,
   ⟨(st [fun c => regPut c Reg.SUP_DISABLE (withBit (regGet c Reg.SUP_DISABLE) (24) false)] : State), ([] : List
     Byte), none, by decide +kernel⟩,
   ⟨(st [fun c => regPut c Reg.SUP_DISABLE (withBit (regGet c Reg.SUP_DISABLE) (24) true)] : State),
     by decide +kernel⟩,
   ⟨(st [] : State), ((.service 1#32) : Requester), 0, ([] : List Byte), by decide +kernel⟩,
   ⟨(st [] : State), ([] : List AuthEntry), by decide +kernel⟩⟩

theorem witness_SessionCommands :
    (∃ (s : State) (req : Requester) (o : Outlet) (pt : Nat) (kind : Nat) (i : List Byte), performs s.chip req
      0x0401 (.outletEngine o) = true ∧ recordedStart s.chip o.val req = none ∧ outletDisabled s.chip o.val = false
      ∧ i ≠ [] ∧ i.length ≤ 40 ∧ kind ≤ 2 ∧ pt ≤ 15 ∧ (outletOf s.chip o.val).state = .plugged ∧ (outletOf s.chip
      o.val).cp ≠ .a ∧ basicMode s.chip o.val = true ∧ ppValid (outletOf s.chip o.val) = true ∧ mayAuthorise s.chip
      o.val (authRefOf i) = true ∧ startRefused s.chip o.val pt = false ∧ authRemote s.chip = false) ∧
    (∃ (s : State) (req : Requester) (o : Outlet) (r : StartRec), performs s.chip req 0x0401 (.outletEngine o) =
      true ∧ recordedStart s.chip o.val req = some r) ∧
    (∃ (s : State) (req : Requester) (sid : BitVec 128) (x : Nat) (o : Outlet), performs s.chip req 0x0402
      (stopBlock s.chip sid) = true ∧ ctxOfSession s.chip sid = some x ∧ (ctxOf s.chip x).bstate = .live ∧ (ctxOf
      s.chip x).outlet = o.val ∧ (outletOf s.chip o.val).state = .energised) ∧
    (∃ (s : State) (req : Requester) (sid : BitVec 128) (x : Nat), performs s.chip req 0x0402 (stopBlock s.chip
      sid) = true ∧ ctxOfSession s.chip sid = some x ∧ (ctxOf s.chip x).bstate = .settling) ∧
    (∃ (s : State) (req : Requester) (sid : BitVec 128), performs s.chip req 0x0402 (stopBlock s.chip sid) = true ∧
      ctxOfSession s.chip sid = none ∧ settledRecord s.chip sid = none) ∧
    (∃ (s : State) (o : Outlet) (pt : Nat) (i : List Byte), svcRuns s.chip = true ∧ (outletOf s.chip o.val).state =
      .linking ∧ (outletOf s.chip o.val).cp ≠ .a ∧ mayAuthorise s.chip o.val (authRefOf i) = true ∧ (unbilled
      s.chip = true ∨ startRefused s.chip o.val pt = false) ∧ authRemote s.chip = false) ∧
    (∃ (s : State) (o : Outlet), svcRuns s.chip = true ∧ (outletOf s.chip o.val).state = .idle) ∧
    (∃ (s : State) (sid : BitVec 128) (x : Nat) (o : Outlet), svcRuns s.chip = true ∧ ctxOfSession s.chip sid =
      some x ∧ (ctxOf s.chip x).bstate = .live ∧ (ctxOf s.chip x).outlet = o.val ∧ (outletOf s.chip o.val).state =
      .energised) ∧
    (∃ (s : State) (o : Outlet), svcRuns s.chip = true ∧ energised s.chip o.val = false ∧ ((outletOf s.chip
      o.val).state = .finishing ∨ (outletOf s.chip o.val).state = .faulted ∨ (outletOf s.chip o.val).state =
      .unavailable)) ∧
    (∃ (s : State) (o : Outlet), svcRuns s.chip = true ∧ energised s.chip o.val = true) ∧
    (∃ (s : State) (o : Outlet), svcRuns s.chip = true ∧ immBit s.chip Reg.SUP_DISABLE o.val = false ∧
      s.chip.sup.mode ≠ .holdUp ∧ s.chip.sup.mode ≠ .reset ∧ s.chip.sup.mode ≠ .bringUp ∧ s.chip.sup.mode ≠
      .degraded ∧ s.chip.sup.degCauses = [] ∧ (outletOf s.chip o.val).state = .idle ∧ energised s.chip o.val =
      false) ∧
    (∃ (s : State), svcRuns s.chip = true ∧ mayAskReset s.chip = true ∧ anyEnergised s.chip = false) ∧
    (∃ (s : State), svcRuns s.chip = true ∧ anyEnergised s.chip = true) :=
  ⟨⟨(st [fun c => modOutlet c ((0 : Outlet).val) (fun x => { x with state := .plugged }), wBill, fun c => modOutlet
     c 0 (fun x => { x with cp := .c, state := .plugged, pp := .a32 })] : State), ((.service 1#32) : Requester), 0,
     0, 0, ([1] : List Byte), by decide +kernel⟩,
   ⟨(st [fun c =>
     { c with host := { c.host with inflight := [⟨0, 0, 1, 0x0401, 0, .outletEngine 0, false, false, none⟩] } },
     fun c => { c with sess := { c.sess with starts := [(0, [⟨true, 1, 0x33, 0⟩])] } }] : State), ((.host 0 1) :
     Requester), 0, (⟨true, 1, 0x33, 0⟩ : StartRec), by decide +kernel⟩,
   ⟨(st [fun c => wCtx c (0) (fun x => { x with bstate := .live }), fun c => wCtx c (0) (fun x =>
     { x with outlet := (0 : Outlet).val }), fun c => modOutlet c ((0 : Outlet).val) (fun x =>
     { x with state := .energised }), wSess .live] : State), ((.service 1#32) : Requester), 0x33#128, 0, 0,
     by decide +kernel⟩,
   ⟨(st [fun c => wCtx c (0) (fun x => { x with bstate := .settling }), wSess .settling] : State), ((.service 1#32)
     : Requester), 0x33#128, 0, by decide +kernel⟩,
   ⟨(st [] : State), ((.service 1#32) : Requester), 0x33#128, by decide +kernel⟩,
   ⟨(st [fun c => modOutlet c ((0 : Outlet).val) (fun x => { x with state := .linking }), wBill, fun c => modOutlet
     c 0 (fun x => { x with cp := .c, state := .linking })] : State), 0, 0, ([1] : List Byte), by decide +kernel⟩,
   ⟨(st [fun c => modOutlet c ((0 : Outlet).val) (fun x => { x with state := .idle })] : State), 0,
     by decide +kernel⟩,
   ⟨(st [fun c => wCtx c (0) (fun x => { x with bstate := .live }), fun c => wCtx c (0) (fun x =>
     { x with outlet := (0 : Outlet).val }), fun c => modOutlet c ((0 : Outlet).val) (fun x =>
     { x with state := .energised }), wSess .live] : State), 0x33#128, 0, 0, by decide +kernel⟩,
   ⟨(st [fun c => modOutlet c 0 (fun x => { x with state := .finishing })] : State), 0, by decide +kernel⟩,
   ⟨(st [wFb] : State), 0, by decide +kernel⟩,
   ⟨(st [fun c => regPut c Reg.SUP_DISABLE (withBit (regGet c Reg.SUP_DISABLE) ((0 : Outlet).val) false), fun c =>
     { c with sup := { c.sup with degCauses := [] } }, fun c => modOutlet c ((0 : Outlet).val) (fun x =>
     { x with state := .idle })] : State), 0, by decide +kernel⟩,
   ⟨(st [] : State), by decide +kernel⟩,
   ⟨(st [wFb] : State), by decide +kernel⟩⟩

theorem witness_BackendMessages :
    (∃ (s : State) (k : Nat), svcRuns s.chip = true ∧ k ≠ 3 ∧ k ≠ 4) ∧
    (∃ (s : State) (o : Outlet) (x : Nat), svcRuns s.chip = true ∧ liveCtx s.chip o.val = some x) ∧
    (∃ (s : State) (o : Outlet), svcRuns s.chip = true ∧ (outletOf s.chip o.val).reserved = none) ∧
    (∃ (s : State) (o : Outlet), svcRuns s.chip = true ∧ (outletOf s.chip o.val).reserved ≠ none) ∧
    (∃ (s : State), svcRuns s.chip = true) ∧
    (∃ (s : State) (o : Outlet) (id : Nat) (st : Nat), svcRuns s.chip = true ∧ st ≤ 15 ∧ ((outletOf s.chip
      o.val).profiles.filter (fun p => p.id != id)).length < 16) ∧
    (∃ (s : State) (st : Nat), svcRuns s.chip = true ∧ 15 < st) ∧
    (∃ (s : State), svcRuns s.chip = true) ∧
    (∃ (s : State), svcRuns s.chip = true) ∧
    (∃ (s : State), svcRuns s.chip = true) ∧
    (∃ (s : State) (id : Nat), svcRuns s.chip = true ∧ tfind s.chip.outl.monitors id = none) ∧
    (∃ (s : State) (id : Nat) (v : Nat) (top : Nat), svcRuns s.chip = true ∧ tfind s.chip.outl.monitors id = some
      top ∧ top < v) ∧
    (∃ (s : State), svcRuns s.chip = true) ∧
    (∃ (s : State), svcRuns s.chip = true) ∧
    (∃ (s : State), svcRuns s.chip = true) ∧
    (∃ (s : State), svcRuns s.chip = true) :=
  ⟨⟨(st [] : State), 0, by decide +kernel⟩,
   ⟨(st [wSess .live, fun c => modOutlet c 0 (fun x => { x with ctx := some 0 })] : State), 0, 0,
     by decide +kernel⟩,
   ⟨(st [fun c => modOutlet c ((0 : Outlet).val) (fun x => { x with reserved := none })] : State), 0,
     by decide +kernel⟩,
   ⟨(st [fun c => modOutlet c 0 (fun x => { x with reserved := some 0 })] : State), 0, by decide +kernel⟩,
   ⟨(st [] : State), by decide +kernel⟩,
   ⟨(st [] : State), 0, 0, 0, by decide +kernel⟩,
   ⟨(st [] : State), 16, by decide +kernel⟩,
   ⟨(st [] : State), by decide +kernel⟩,
   ⟨(st [] : State), by decide +kernel⟩,
   ⟨(st [] : State), by decide +kernel⟩,
   ⟨(st [] : State), 0, by decide +kernel⟩,
   ⟨(st [fun c => { c with outl := { c.outl with monitors := [(0, 0)] } }] : State), 0, 1, 0, by decide +kernel⟩,
   ⟨(st [] : State), by decide +kernel⟩,
   ⟨(st [] : State), by decide +kernel⟩,
   ⟨(st [] : State), by decide +kernel⟩,
   ⟨(st [] : State), by decide +kernel⟩⟩

theorem witness_ConverterCommands :
    (∃ (s : State) (b : Fin 2) (a : Nat), fenced s.chip .out = false ∧ canAddr a = true ∧ outletOfModule s.chip
      b.val a = none) ∧
    (∃ (s : State) (b : Fin 2) (a : Nat) (ma : Int) (o : Outlet), fenced s.chip .out = false ∧ canAddr a = true ∧
      outletOfModule s.chip b.val a = some o ∧ (outletOf s.chip o.val).state = .opening ∧ outletModules s.chip
      o.val = [(b.val, a)] ∧ ma.natAbs ≤ 1000) ∧
    (∃ (s : State) (a : Nat), fenced s.chip .out = false ∧ canAddr a = true) ∧
    (∃ (a : Nat) (k : Nat), (k ≠ 1 ∨ a = 0 ∨ 63 < a)) ∧
    (∃ (s : State) (b : Fin 2) (a : Nat), fenced s.chip .out = false ∧ canAddr a = true ∧ (moduleOf s.chip b.val
      a).present = true ∧ outletOfModule s.chip b.val a = none) ∧
    (∃ (s : State) (b : Fin 2) (a : Nat) (o : Outlet), fenced s.chip .out = false ∧ canAddr a = true ∧ (moduleOf
      s.chip b.val a).present = true ∧ outletOfModule s.chip b.val a = some o ∧ ((outletOf s.chip o.val).state =
      .energised ∨ (outletOf s.chip o.val).state = .checking ∨ (outletOf s.chip o.val).state = .precharge) ∧
      energised s.chip o.val = true ∧ outletModules s.chip o.val = [(b.val, a)]) ∧
    (∃ (s : State), fenced s.chip .out = false) ∧
    (∃ (s : State) (o : Outlet) (b : Nat) (a : Nat), fenced s.chip .out = false ∧ isDc s.chip o.val = true ∧
      ((outletOf s.chip o.val).state = .checking ∨ (outletOf s.chip o.val).state = .precharge ∨ (outletOf s.chip
      o.val).state = .energised ∨ (outletOf s.chip o.val).state = .opening) ∧ (b, a) ∈ presentModules s.chip o.val
      ∧ cfgBit s.chip (Reg.OUT_CAN_CFG b) 8 = true ∧ (busOf s.chip b).busOff = false) ∧
    (∃ (s : State) (b : Nat), b < 2 ∧ fenced s.chip .out = false ∧ cfgBit s.chip (Reg.OUT_CAN_CFG b) 8 = true ∧
      (busOf s.chip b).busOff = false) :=
  ⟨⟨(st [] : State), 0, 1, by decide +kernel⟩,
   ⟨(st [fun c => modOutlet c ((0 : Outlet).val) (fun x => { x with state := .opening }), wConv, fun c => modOutlet
     c 0 (fun x => { x with state := .opening })] : State), 0, 1, 0, 0, by decide +kernel⟩,
   ⟨(st [] : State), 1, by decide +kernel⟩,
   ⟨0, 0, by decide +kernel⟩,
   ⟨(st [fun c => { c with outl := { c.outl with modules := [(2, { Module.init with present := true })] } }] :
     State), 0, 2, by decide +kernel⟩,
   ⟨(st [wConv, fun c => modOutlet c 0 (fun x => { x with state := .energised }), wFb] : State), 0, 1, 0,
     by decide +kernel⟩,
   ⟨(st [] : State), by decide +kernel⟩,
   ⟨(st [fun c => wLive c (Reg.OUT_CAN_CFG 0) (withBit (liveGet c (Reg.OUT_CAN_CFG 0)) 8 true), wConv, fun c =>
     modOutlet c 0 (fun x => { x with state := .energised })] : State), 0, 0, 1, by decide +kernel⟩,
   ⟨(st [fun c => wLive c (Reg.OUT_CAN_CFG 0) (withBit (liveGet c (Reg.OUT_CAN_CFG 0)) 8 true)] : State), 0,
     by decide +kernel⟩⟩

theorem witness_ContactorCommands :
    (∃ (s : State) (o : Outlet), fenced s.chip .out = false ∧ (outletOf s.chip o.val).state = .closing ∧ isDc
      s.chip o.val = false ∧ (outletOf s.chip o.val).why = .pause ∧ cpReady s.chip o.val = true) ∧
    (∃ (s : State) (o : Outlet), fenced s.chip .out = false ∧ (outletOf s.chip o.val).state = .closing ∧ isDc
      s.chip o.val = true ∧ (outletOf s.chip o.val).why = .pause) ∧
    (∃ (s : State) (o : Outlet), fenced s.chip .out = false ∧ (outletOf s.chip o.val).state = .weldCheck ∧ isDc
      s.chip o.val = false ∧ (outletOf s.chip o.val).draining = false ∧ (coilOf s.chip o.val).state = .release ∧
      (outletOf s.chip o.val).why = .pause) ∧
    (∃ (s : State) (o : Outlet), fenced s.chip .out = false ∧ (outletOf s.chip o.val).state = .weldCheck ∧ isDc
      s.chip o.val = false ∧ (outletOf s.chip o.val).why = .stop ∧ mustBeUnavailable s.chip o.val = false) ∧
    (∃ (s : State), fenced s.chip .out = true) ∧
    (∃ (s : State) (o : Outlet), procAnswers s.chip = true ∧ (outletOf s.chip o.val).state = .closing ∧ (coilOf
      s.chip o.val).cmd = true ∧ fbClosed s.chip o.val = false) ∧
    (∃ (s : State) (o : Outlet), fenced s.chip .out = false ∧ (outletOf s.chip o.val).state = .checking ∧ tget 0
      s.chip.saf.imdGood o.val < 2) ∧
    (∃ (s : State) (o : Outlet), fenced s.chip .out = false ∧ (outletOf s.chip o.val).state = .precharge) ∧
    (∃ (s : State) (o : Outlet), fenced s.chip .out = false ∧ isDc s.chip o.val = true ∧ (outletOf s.chip
      o.val).state = .opening) ∧
    (∃ (s : State) (o : Outlet), windowClosed s.chip (Reg.OUT_CTRL o.val) = false) ∧
    (∃ (s : State) (o : Outlet), (coilOf s.chip o.val).state = .pullin ∧ (coilOf s.chip o.val).pend = false) ∧
    (∃ (s : State) (o : Outlet), (coilOf s.chip o.val).state ≠ .pullin) ∧
    (∃ (s : State) (o : Outlet) (x : Nat) (n : Nat), liveCtx s.chip o.val = some x ∧ mayAdopt s.chip o.val = true ∧
      20 ≤ n) ∧
    (∃ (s : State) (o : Outlet) (n : Nat), (mayAdopt s.chip o.val = false ∨ n < 20)) :=
  ⟨⟨(st [fun c => modOutlet c ((0 : Outlet).val) (fun x => { x with state := .closing }), fun c => modOutlet c ((0
     : Outlet).val) (fun x => { x with why := .pause }), fun c => modOutlet c 0 (fun x => { x with cp := .c })] :
     State), 0, by decide +kernel⟩,
   ⟨(st [fun c => modOutlet c ((0 : Outlet).val) (fun x => { x with state := .closing }), fun c => modOutlet c ((0
     : Outlet).val) (fun x => { x with why := .pause }), wKind 0 2] : State), 0, by decide +kernel⟩,
   ⟨(st [fun c => modOutlet c ((0 : Outlet).val) (fun x => { x with state := .weldCheck }), fun c => modOutlet c
     ((0 : Outlet).val) (fun x => { x with draining := false }), fun c => wCoil c ((0 : Outlet).val) (fun x =>
     { x with state := .release }), fun c => modOutlet c ((0 : Outlet).val) (fun x => { x with why := .pause })] :
     State), 0, by decide +kernel⟩,
   ⟨(st [fun c => modOutlet c ((0 : Outlet).val) (fun x => { x with state := .weldCheck }), fun c => modOutlet c
     ((0 : Outlet).val) (fun x => { x with why := .stop })] : State), 0, by decide +kernel⟩,
   ⟨(st [fun c => { c with sup := { c.sup with fence := 127 } }] : State), by decide +kernel⟩,
   ⟨(st [fun c => modOutlet c ((0 : Outlet).val) (fun x => { x with state := .closing }), fun c => wCoil c ((0 :
     Outlet).val) (fun x => { x with cmd := true })] : State), 0, by decide +kernel⟩,
   ⟨(st [fun c => modOutlet c ((0 : Outlet).val) (fun x => { x with state := .checking })] : State), 0,
     by decide +kernel⟩,
   ⟨(st [fun c => modOutlet c ((0 : Outlet).val) (fun x => { x with state := .precharge })] : State), 0,
     by decide +kernel⟩,
   ⟨(st [fun c => modOutlet c ((0 : Outlet).val) (fun x => { x with state := .opening }), wKind 0 2] : State), 0,
     by decide +kernel⟩,
   ⟨(st [] : State), 0, by decide +kernel⟩,
   ⟨(st [fun c => wCoil c ((0 : Outlet).val) (fun x => { x with state := .pullin }), fun c => wCoil c ((0 :
     Outlet).val) (fun x => { x with pend := false })] : State), 0, by decide +kernel⟩,
   ⟨(st [] : State), 0, by decide +kernel⟩,
   ⟨(st [wSess .live, wPermit, wFb, fun c => modOutlet c 0 (fun x => { x with ctx := some 0 }), fun c =>
     { c with nib := { c.nib with degraded := 1, goodRun := 10 } }] : State), 0, 0, 20, by decide +kernel⟩,
   ⟨(st [] : State), 0, 0, by decide +kernel⟩⟩

theorem witness_SafetyTrips :
    (∃ (s : State) (o : Outlet) (ch : Channel) (k : Channel) (dc : Int) (ac : Nat), isAc s.chip o.val = true ∧
      residualTrips s.chip dc ac = true ∧ underTest s.chip o.val ch = false ∧ seenBy s.chip ch = some k) ∧
    (∃ (s : State) (o : Outlet) (ch : Channel) (dc : Int) (ac : Nat), ((dc.natAbs < 6000 ∧ ac < 30000) ∨ isAc
      s.chip o.val = false ∨ underTest s.chip o.val ch = true ∨ seenBy s.chip ch = none)) ∧
    (∃ (s : State) (o : Outlet) (ch : Channel) (k : Channel) (r : Nat), s.chip.nib.peEn = true ∧ underTest s.chip
      o.val ch = false ∧ (if ch = .nib then 20000 < r else peLimit s.chip < r ∧ 4 ≤ tget 0 s.chip.saf.peBad o.val)
      ∧ seenBy s.chip ch = some k) ∧
    (∃ (s : State), s.chip.nib.peEn = false) ∧
    (∃ (s : State) (o : Outlet) (ch : Channel) (k : Channel) (vp : Int) (vn : Int), (s.chip.nib.gate.getLsbD o.val
      = true ∨ energised s.chip o.val = true) ∧ pilotTrips s.chip o.val vp vn ch = true ∧ seenBy s.chip ch = some
      k) ∧
    (∃ (s : State) (o : Outlet) (vp : Int) (vn : Int), pilotBand (outletOf s.chip o.val).pwm vp vn ≠ .fault) ∧
    (∃ (s : State) (o : Outlet) (ch : Channel) (k : Channel), (coilOf s.chip o.val).driven = true ∧ fbClosed s.chip
      o.val = false ∧ seenBy s.chip ch = some k) ∧
    (∃ (s : State) (o : Outlet) (ch : Channel) (k : Channel), fbClosed s.chip o.val = true ∧ (coilOf s.chip
      o.val).driven = false ∧ seenBy s.chip ch = some k) ∧
    (∃ (s : State) (o : Outlet) (p : Nat) (m : Nat), procAnswers s.chip = true ∧ isDc s.chip o.val = true ∧
      (outletOf s.chip o.val).state = .weldCheck ∧ fbClosed s.chip o.val = false ∧ poleWelded s.chip o.val p m =
      true) ∧
    (∃ (s : State) (o : Outlet) (p : Nat) (m : Nat), procAnswers s.chip = true ∧ isDc s.chip o.val = true ∧
      (outletOf s.chip o.val).state = .weldCheck ∧ fbClosed s.chip o.val = false ∧ poleWelded s.chip o.val p m =
      false ∧ (outletOf s.chip o.val).why = .pause ∧ (outletOf s.chip o.val).draining = false) ∧
    (∃ (s : State) (o : Outlet) (k : Nat) (p : Nat) (m : Nat), procAnswers s.chip = true ∧ isDc s.chip o.val = true
      ∧ p + m ≤ 5000 ∧ insBelow s.chip o.val k (cfg s.chip Reg.SAF_IMD_CFG 15 0) = true ∧ energised s.chip o.val =
      true) ∧
    (∃ (s : State) (o : Outlet) (k : Nat) (p : Nat) (m : Nat), isDc s.chip o.val = true ∧ p + m ≤ 5000 ∧ insBelow
      s.chip o.val k (cfg s.chip Reg.SAF_IMD_CFG 15 0) = false ∧ insAbove s.chip o.val k = true ∧ (outletOf s.chip
      o.val).state = .checking) ∧
    (∃ (p : Nat) (m : Nat), 5000 < p + m) ∧
    (∃ (s : State) (o : Outlet) (h : Bool), procAnswers s.chip = true ∧ cfgBit s.chip Reg.SAF_TEMP_CFG (16 + o.val)
      = true ∧ switchHot s.chip h = true) ∧
    (∃ (s : State) (p : BitVec 8) (q : BitVec 8), p.toNat < cfg s.chip Reg.SAF_TEMP_CFG 7 0 ∧ q.toNat < cfg s.chip
      Reg.SAF_TEMP_CFG 15 8) ∧
    (∃ (s : State) (p : BitVec 8) (x : Outlet), procAnswers s.chip = true ∧ cfg s.chip Reg.SAF_TEMP_CFG 7 0 ≤
      p.toNat ∧ 2 ≤ s.chip.saf.hotPwd ∧ (x.val, Sf.sf6) ∉ s.chip.saf.latches) :=
  ⟨⟨(st [wKind 0 1] : State), 0, (.processor : Channel), (.processor : Channel), 0, 30000, by decide +kernel⟩,
   ⟨(st [] : State), 0, (.processor : Channel), 0, 0, by decide +kernel⟩,
   ⟨(st [fun c => { c with nib := { c.nib with peEn := true } }, fun c =>
     { c with saf := { c.saf with peBad := [(0, 4)] } }] : State), 0, (.processor : Channel), (.processor :
     Channel), 20001, by decide +kernel⟩,
   ⟨(st [fun c => { c with nib := { c.nib with peEn := false } }] : State), by decide +kernel⟩,
   ⟨(st [wFb] : State), 0, (.processor : Channel), (.processor : Channel), 0, 0, by decide +kernel⟩,
   ⟨(st [] : State), 0, 6000, 0, by decide +kernel⟩,
   ⟨(st [fun c => wCoil c ((0 : Outlet).val) (fun x => { x with state := .hold })] : State), 0, (.processor :
     Channel), (.processor : Channel), by decide +kernel⟩,
   ⟨(st [fun c => wCoil c ((0 : Outlet).val) (fun x => { x with state := .off }), wFb] : State), 0, (.processor :
     Channel), (.processor : Channel), by decide +kernel⟩,
   ⟨(st [fun c => modOutlet c ((0 : Outlet).val) (fun x => { x with state := .weldCheck }), wKind 0 2] : State), 0,
     65535, 0, by decide +kernel⟩,
   ⟨(st [fun c => modOutlet c ((0 : Outlet).val) (fun x => { x with state := .weldCheck }), fun c => modOutlet c
     ((0 : Outlet).val) (fun x => { x with why := .pause }), fun c => modOutlet c ((0 : Outlet).val) (fun x =>
     { x with draining := false }), wKind 0 2, fun c => wLive c (Reg.SAF_DC_CFG 0) 0xFFFF#32] : State), 0, 0, 0,
     by decide +kernel⟩,
   ⟨(st [wKind 0 2, wFb, fun c => wLive c (Reg.OUT_DCLIM 0) 0x2710#32] : State), 0, 0, 0, 0, by decide +kernel⟩,
   ⟨(st [fun c => modOutlet c ((0 : Outlet).val) (fun x => { x with state := .checking }), wKind 0 2] : State), 0,
     65535, 0, 0, by decide +kernel⟩,
   ⟨5001, 0, by decide +kernel⟩,
   ⟨(st [fun c => wLive c Reg.SAF_TEMP_CFG 0x15F55#32] : State), 0, false, by decide +kernel⟩,
   ⟨(st [] : State), 0, 0, by decide +kernel⟩,
   ⟨(st [fun c => wLive c Reg.SAF_TEMP_CFG 0x15F55#32, fun c => { c with saf := { c.saf with hotPwd := 2 } }] :
     State), 255, 0, by decide +kernel⟩⟩

theorem witness_SafetyRecovery :
    (∃ (s : State), procAnswers s.chip = true ∧ s.chip.saf.shuntReq = true ∧ s.chip.nib.shtr = false ∧
      s.chip.pwd.shunt = false) ∧
    (∃ (s : State), s.chip.pwd.shunt = true) ∧
    (∃ (s : State) (o : Outlet) (r : PrecloseRun), procAnswers s.chip = true ∧ (outletOf s.chip o.val).state =
      .authorised ∧ (coilOf s.chip o.val).driven = false ∧ nibMayPermit s.chip o.val = true ∧ precloseFits s.chip
      o.val r = true ∧ r.readBack = true) ∧
    (∃ (s : State) (o : Outlet) (r : PrecloseRun), procAnswers s.chip = true ∧ (outletOf s.chip o.val).state =
      .authorised ∧ (coilOf s.chip o.val).driven = false ∧ (precloseFits s.chip o.val r = false ∨ r.readBack =
      false ∨ nibMayPermit s.chip o.val = false)) ∧
    (∃ (s : State) (o : Outlet) (f : Sf), latchMayClear s.chip o.val f = true) ∧
    (∃ (s : State) (o : Outlet) (f : Sf), f ≠ .sf6 ∧ (outletOf s.chip o.val).cp ≠ .a) :=
  ⟨⟨(st [fun c => { c with saf := { c.saf with shuntReq := true } }, fun c =>
     { c with nib := { c.nib with shtr := false } }, fun c => { c with pwd := { c.pwd with shunt := false } }] :
     State), by decide +kernel⟩,
   ⟨(st [fun c => { c with pwd := { c.pwd with shunt := true } }] : State), by decide +kernel⟩,
   ⟨(st [fun c => modOutlet c ((0 : Outlet).val) (fun x => { x with state := .authorised }), fun c => wCoil c ((0 :
     Outlet).val) (fun x => { x with state := .off }), wPermit] : State), 0, wRunOk, by decide +kernel⟩,
   ⟨(st [fun c => modOutlet c ((0 : Outlet).val) (fun x => { x with state := .authorised }), fun c => wCoil c ((0 :
     Outlet).val) (fun x => { x with state := .off })] : State), 0, { wRunOk with readBack := false },
     by decide +kernel⟩,
   ⟨(st [] : State), 0, (.sf1 : Sf), by decide +kernel⟩,
   ⟨(st [fun c => modOutlet c 0 (fun x => { x with cp := .b })] : State), 0, (.sf1 : Sf), by decide +kernel⟩⟩

theorem witness_NibCommands :
    (∃ (s : State) (us : Nat), s.chip.nib.challenge ≠ none ∧ procAnswers s.chip = true ∧ 200 ≤ us ∧ us ≤ 800 ∧
      s.chip.nib.procOk = true ∧ s.chip.saf.shuntReq = false) ∧
    (∃ (s : State), s.chip.nib.challenge ≠ none ∧ s.chip.nib.procOk = false) ∧
    (∃ (s : State), s.chip.nib.challenge ≠ none ∧ s.chip.nib.procOk = true ∧ 2 ≤ s.chip.nib.badRun) ∧
    (∃ (s : State) (n : Nat) (src : Nat), procAnswers (runTo s.chip n) = true ∧ (runTo s.chip n).saf.mirrorAt ≠
      none ∧ ((runTo s.chip n).saf.nibOk = true ∨ (runTo s.chip n).saf.healthyFrom ≠ none) ∧ nibFailure (runTo
      s.chip n) = some src) ∧
    (∃ (s : State) (n : Nat), nibFailure (runTo s.chip n) = none) ∧
    (∃ (s : State) (o : Outlet) (vp : Int) (vn : Int), pilotBand (outletOf s.chip o.val).pwm vp vn = .b ∧
      s.chip.nib.gate.getLsbD o.val = true ∧ s.chip.nib.degraded.getLsbD o.val = false) ∧
    (∃ (s : State) (o : Outlet) (vp : Int) (vn : Int), pilotBand (outletOf s.chip o.val).pwm vp vn = .b ∧
      s.chip.nib.degraded.getLsbD o.val = true ∧ forecastValid s.chip o.val = true) ∧
    (∃ (s : State) (o : Outlet), s.chip.nib.gate.getLsbD o.val = true ∧ s.chip.nib.degraded.getLsbD o.val = true ∧
      forecastValid s.chip o.val = true) ∧
    (∃ (s : State), s.chip.nib.remainMs = 0) ∧
    (∃ (s : State), s.chip.nib.remainMs ≠ 0) ∧
    (∃ (s : State) (l : List Nat), anyEnergised s.chip = true ∧ (sealsClosed l ≠ s.chip.nib.sealNow ∨ sealsInvalid
      l ≠ 0)) ∧
    (∃ (s : State) (l : List Nat), anyEnergised s.chip = false ∧ sealsInvalid l ≠ 0) ∧
    (∃ (s : State), anyEnergised s.chip = false ∧ s.chip.nib.sealInvalid = 0) ∧
    (∃ (s : State), anyEnergised s.chip = true) :=
  ⟨⟨(st [fun c => { c with nib := { c.nib with procOk := true } }, fun c =>
     { c with saf := { c.saf with shuntReq := false } }, fun c =>
     { c with nib := { c.nib with challenge := some 7, procOk := true, badRun := 2 } }] : State), 200,
     by decide +kernel⟩,
   ⟨(st [fun c => { c with nib := { c.nib with procOk := false } }, fun c =>
     { c with nib := { c.nib with challenge := some 7, procOk := false } }] : State), by decide +kernel⟩,
   ⟨(st [fun c => { c with nib := { c.nib with procOk := true } }, fun c =>
     { c with nib := { c.nib with challenge := some 7, procOk := true, badRun := 2 } }] : State),
     by decide +kernel⟩,
   ⟨(st [fun c => { c with saf := { c.saf with mirrorAt := some 0 } }] : State), 0, 113, by decide +kernel⟩,
   ⟨(st [fun c => regPut c Reg.NIB_STATUS 0x8000000#32] : State), 0, by decide +kernel⟩,
   ⟨(st [fun c => { c with nib := { c.nib with gate := 1 } }] : State), 0, 9000, 0, by decide +kernel⟩,
   ⟨(st [wKind 0 1, fun c =>
     { c with nib := { c.nib with gate := 1, degraded := 1, forecasts := [(0, ⟨10, 10, 0⟩)] } }] : State), 0, 9000,
     0, by decide +kernel⟩,
   ⟨(st [wKind 0 1, fun c =>
     { c with nib := { c.nib with gate := 1, degraded := 1, forecasts := [(0, ⟨10, 10, 0⟩)] } }] : State), 0,
     by decide +kernel⟩,
   ⟨(st [fun c => { c with nib := { c.nib with remainMs := 0 } }] : State), by decide +kernel⟩,
   ⟨(st [fun c => { c with nib := { c.nib with remainMs := 1 } }] : State), by decide +kernel⟩,
   ⟨(st [wFb] : State), ([2000] : List Nat), by decide +kernel⟩,
   ⟨(st [] : State), ([2000] : List Nat), by decide +kernel⟩,
   ⟨(st [fun c => { c with nib := { c.nib with sealInvalid := 0 } }] : State), by decide +kernel⟩,
   ⟨(st [wFb] : State), by decide +kernel⟩⟩

theorem witness_LoadSwitchDemand :
    (∃ (s : State) (n : Lsw) (m : LswMeas), lswDisabled s.chip n.val = false ∧ cfg s.chip (Reg.LSW_CFG n.val) 1 0 =
      0 ∧ (lswOf s.chip n.val).state = .off ∧ (lswOf s.chip n.val).regOn = false ∧ lswUv s.chip (lswInB n.val) =
      false ∧ 8000 ≤ m.rail) ∧
    (∃ (s : State) (n : Lsw), lswDisabled s.chip n.val = false ∧ cfg s.chip (Reg.LSW_CFG n.val) 1 0 = 0 ∧ (lswOf
      s.chip n.val).state = .on ∧ (lswOf s.chip n.val).regOn = true ∧ (lswOf s.chip n.val).cleared = false ∧ (lswOf
      s.chip n.val).episode = false) ∧
    (∃ (s : State) (n : Lsw), lswDisabled s.chip n.val = true) ∧
    (∃ (s : State) (req : Requester) (n : Lsw), performs s.chip req 0x0501 (.lswChannel n) = true ∧ lswDisabled
      s.chip n.val = false ∧ (lswOf s.chip n.val).state ≠ .retired) ∧
    (∃ (s : State) (req : Requester) (n : Lsw), performs s.chip req 0x0501 (.lswChannel n) = true ∧ lswDisabled
      s.chip n.val = true) ∧
    (∃ (s : State) (n : Lsw), (lswOf s.chip n.val).dur ≠ 0 ∧ cfg s.chip (Reg.LSW_CFG n.val) 1 0 = 0 ∧ (lswOf s.chip
      n.val).state = .on ∧ (lswOf s.chip n.val).regOn = true ∧ (lswOf s.chip n.val).cleared = false ∧ (lswOf s.chip
      n.val).episode = false) ∧
    (∃ (s : State) (n : Lsw) (m : LswMeas), lswDisabled s.chip n.val = false ∧ cfg s.chip (Reg.LSW_CFG n.val) 1 0 =
      1 ∧ (lswOf s.chip n.val).state = .off ∧ (lswOf s.chip n.val).pin = false ∧ lswUv s.chip (lswInB n.val) =
      false ∧ 8000 ≤ m.rail ∧ m.group ≤ lswBudget s.chip (lswInB n.val)) ∧
    (∃ (s : State) (n : Lsw), (lswOf s.chip n.val).state = .ramp ∧ (lswOf s.chip n.val).paused = false) ∧
    (∃ (s : State) (n : Lsw) (m : LswMeas), (lswOf s.chip n.val).state = .window ∧ m.rail * 90 ≤ m.v10 * 10 * 100) ∧
    (∃ (s : State) (n : Lsw) (m : LswMeas), (lswOf s.chip n.val).state = .window ∧ m.v10 * 10 * 100 < m.rail * 90 ∧
      (lswOf s.chip n.val).trips = 0 ∧ lswLatches s.chip n.val = false) ∧
    (∃ (s : State) (n : Lsw) (m : LswMeas), (lswOf s.chip n.val).state = .ramp ∧ m.rail * 100 < (lswOf s.chip
      n.val).refMv * 80) ∧
    (∃ (s : State) (n : Lsw) (ms : Nat) (m : LswMeas), (lswOf s.chip n.val).state = .ramp ∧ (lswOf s.chip
      n.val).paused = true ∧ (lswOf s.chip n.val).refMv * 85 ≤ m.rail * 100 ∧ (lswOf s.chip n.val).pausedMs + ms ≤
      200) ∧
    (∃ (s : State) (n : Lsw) (ms : Nat), (lswOf s.chip n.val).state = .ramp ∧ (lswOf s.chip n.val).paused = true ∧
      200 < (lswOf s.chip n.val).pausedMs + ms ∧ (lswOf s.chip n.val).trips = 0 ∧ lswLatches s.chip n.val = false) :=
  ⟨⟨(st [fun c => wLive c (Reg.LSW_CFG (0 : Lsw).val) (withField (liveGet c (Reg.LSW_CFG (0 : Lsw).val)) 1 0 0),
     fun c =>
     { c with lsw := { c.lsw with chans := tmod LswSt.init c.lsw.chans ((0 : Lsw).val) (fun x => { x with state := .off }) } },
     fun c =>
     { c with lsw := { c.lsw with chans := tmod LswSt.init c.lsw.chans ((0 : Lsw).val) (fun x => { x with regOn := false }) } }]
     : State), 0, (⟨0,0,0,false,0,8000⟩ : LswMeas), by decide +kernel⟩,
   ⟨(st [fun c => wLive c (Reg.LSW_CFG (0 : Lsw).val) (withField (liveGet c (Reg.LSW_CFG (0 : Lsw).val)) 1 0 0),
     fun c =>
     { c with lsw := { c.lsw with chans := tmod LswSt.init c.lsw.chans ((0 : Lsw).val) (fun x => { x with state := .on }) } },
     fun c =>
     { c with lsw := { c.lsw with chans := tmod LswSt.init c.lsw.chans ((0 : Lsw).val) (fun x => { x with regOn := true }) } },
     fun c =>
     { c with lsw := { c.lsw with chans := tmod LswSt.init c.lsw.chans ((0 : Lsw).val) (fun x => { x with cleared := false }) } },
     fun c =>
     { c with lsw := { c.lsw with chans := tmod LswSt.init c.lsw.chans ((0 : Lsw).val) (fun x => { x with episode := false }) } }]
     : State), 0, by decide +kernel⟩,
   ⟨(st [fun c => regPut c Reg.LSW_DISABLE 1#32] : State), 0, by decide +kernel⟩,
   ⟨(st [] : State), ((.service 1#32) : Requester), 0, by decide +kernel⟩,
   ⟨(st [fun c => regPut c Reg.LSW_DISABLE 1#32] : State), ((.service 1#32) : Requester), 0, by decide +kernel⟩,
   ⟨(st [fun c => wLive c (Reg.LSW_CFG (0 : Lsw).val) (withField (liveGet c (Reg.LSW_CFG (0 : Lsw).val)) 1 0 0),
     fun c =>
     { c with lsw := { c.lsw with chans := tmod LswSt.init c.lsw.chans ((0 : Lsw).val) (fun x => { x with state := .on }) } },
     fun c =>
     { c with lsw := { c.lsw with chans := tmod LswSt.init c.lsw.chans ((0 : Lsw).val) (fun x => { x with regOn := true }) } },
     fun c =>
     { c with lsw := { c.lsw with chans := tmod LswSt.init c.lsw.chans ((0 : Lsw).val) (fun x => { x with cleared := false }) } },
     fun c =>
     { c with lsw := { c.lsw with chans := tmod LswSt.init c.lsw.chans ((0 : Lsw).val) (fun x => { x with episode := false }) } },
     fun c =>
     { c with lsw := { c.lsw with chans := tmod LswSt.init c.lsw.chans 0 (fun x => { x with dur := 5 }) } }] :
     State), 0, by decide +kernel⟩,
   ⟨(st [fun c => wLive c (Reg.LSW_CFG (0 : Lsw).val) (withField (liveGet c (Reg.LSW_CFG (0 : Lsw).val)) 1 0 1),
     fun c =>
     { c with lsw := { c.lsw with chans := tmod LswSt.init c.lsw.chans ((0 : Lsw).val) (fun x => { x with state := .off }) } },
     fun c =>
     { c with lsw := { c.lsw with chans := tmod LswSt.init c.lsw.chans ((0 : Lsw).val) (fun x => { x with pin := false }) } }]
     : State), 0, (⟨0,0,0,false,0,8000⟩ : LswMeas), by decide +kernel⟩,
   ⟨(st [fun c =>
     { c with lsw := { c.lsw with chans := tmod LswSt.init c.lsw.chans ((0 : Lsw).val) (fun x => { x with state := .ramp }) } },
     fun c =>
     { c with lsw := { c.lsw with chans := tmod LswSt.init c.lsw.chans ((0 : Lsw).val) (fun x => { x with paused := false }) } }]
     : State), 0, by decide +kernel⟩,
   ⟨(st [fun c =>
     { c with lsw := { c.lsw with chans := tmod LswSt.init c.lsw.chans ((0 : Lsw).val) (fun x => { x with state := .window }) } }]
     : State), 0, (⟨12000,0,0,false,0,0⟩ : LswMeas), by decide +kernel⟩,
   ⟨(st [fun c =>
     { c with lsw := { c.lsw with chans := tmod LswSt.init c.lsw.chans ((0 : Lsw).val) (fun x => { x with state := .window }) } },
     fun c =>
     { c with lsw := { c.lsw with chans := tmod LswSt.init c.lsw.chans ((0 : Lsw).val) (fun x => { x with trips := 0 }) } }]
     : State), 0, (⟨0,0,0,false,0,8000⟩ : LswMeas), by decide +kernel⟩,
   ⟨(st [fun c =>
     { c with lsw := { c.lsw with chans := tmod LswSt.init c.lsw.chans ((0 : Lsw).val) (fun x => { x with state := .ramp }) } },
     fun c =>
     { c with lsw := { c.lsw with chans := tmod LswSt.init c.lsw.chans 0 (fun x => { x with refMv := 10000 }) } }]
     : State), 0, (⟨0,0,0,false,0,7999⟩ : LswMeas), by decide +kernel⟩,
   ⟨(st [fun c =>
     { c with lsw := { c.lsw with chans := tmod LswSt.init c.lsw.chans ((0 : Lsw).val) (fun x => { x with state := .ramp }) } },
     fun c =>
     { c with lsw := { c.lsw with chans := tmod LswSt.init c.lsw.chans ((0 : Lsw).val) (fun x => { x with paused := true }) } }]
     : State), 0, 0, (⟨12000,0,0,false,0,0⟩ : LswMeas), by decide +kernel⟩,
   ⟨(st [fun c =>
     { c with lsw := { c.lsw with chans := tmod LswSt.init c.lsw.chans ((0 : Lsw).val) (fun x => { x with state := .ramp }) } },
     fun c =>
     { c with lsw := { c.lsw with chans := tmod LswSt.init c.lsw.chans ((0 : Lsw).val) (fun x => { x with paused := true }) } },
     fun c =>
     { c with lsw := { c.lsw with chans := tmod LswSt.init c.lsw.chans ((0 : Lsw).val) (fun x => { x with trips := 0 }) } }]
     : State), 0, 201, by decide +kernel⟩⟩

theorem witness_LoadSwitchProtection :
    (∃ (s : State) (n : Lsw) (m : LswMeas), 239 ≤ m.tj ∧ ((lswOf s.chip n.val).state = .ramp ∨ (lswOf s.chip
      n.val).state = .window ∨ (lswOf s.chip n.val).state = .on) ∧ (lswOf s.chip n.val).trips = 0 ∧ lswLatches
      s.chip n.val = false) ∧
    (∃ (s : State) (n : Lsw) (m : LswMeas), 239 ≤ m.tj ∧ ((lswOf s.chip n.val).state = .ramp ∨ (lswOf s.chip
      n.val).state = .window ∨ (lswOf s.chip n.val).state = .on) ∧ (lswOf s.chip n.val).trips ≠ 0 ∧ lswLatches
      s.chip n.val = false) ∧
    (∃ (s : State) (n : Lsw) (m : LswMeas), 239 ≤ m.tj ∧ ((lswOf s.chip n.val).state = .ramp ∨ (lswOf s.chip
      n.val).state = .window ∨ (lswOf s.chip n.val).state = .on) ∧ lswLatches s.chip n.val = true) ∧
    (∃ (s : State) (n : Lsw) (m : LswMeas), 239 ≤ m.tj ∧ (lswOf s.chip n.val).state = .test) ∧
    (∃ (s : State) (n : Lsw) (m : LswMeas), (lswOf s.chip n.val).state = .cool ∧ m.tj ≤ 219 ∧ lswDemand s.chip
      n.val = true ∧ lswUv s.chip (lswInB n.val) = false ∧ 8000 ≤ m.rail ∧ m.group ≤ lswBudget s.chip (lswInB
      n.val)) ∧
    (∃ (s : State) (n : Lsw), (lswOf s.chip n.val).state = .on) ∧
    (∃ (s : State) (n : Lsw), (lswOf s.chip n.val).state = .on) ∧
    (∃ (s : State) (g : Bool) (i : Nat) (n : Nat), lswBudget s.chip g * 5 < i * 4 ∧ lswShedding s.chip g = some n) ∧
    (∃ (s : State) (g : Bool) (i : Nat), lswBudget s.chip g * 5 < i * 4 ∧ lswShedding s.chip g = none) ∧
    (∃ (v : Nat), v < 7000) ∧
    (∃ (s : State) (g : Bool) (v : Nat) (i : Nat), 8000 ≤ v ∧ i ≤ lswBudget s.chip g) ∧
    (∃ (s : State) (g : Bool) (i : Nat), i ≤ lswBudget s.chip g ∧ lswUv s.chip g = false ∧ 8000 ≤ lswRail s.chip g) ∧
    (∃ (s : State) (n : Lsw), (lswOf s.chip n.val).state = .on ∧ lswDisabled s.chip n.val = false) ∧
    (∃ (s : State) (n : Lsw), ((lswOf s.chip n.val).state ≠ .on ∨ lswDisabled s.chip n.val = true)) ∧
    (∃ (s : State) (n : Lsw) (f : Nat) (a : Nat), (lswOf s.chip n.val).state = .test ∧ (lswOf s.chip n.val).tripDue
      = false ∧ f ≤ 50 ∧ a * 100 ≤ lswRated n.val) ∧
    (∃ (s : State) (n : Lsw) (m : LswMeas), (lswOf s.chip n.val).state = .off ∧ lswRated n.val < m.ma * 100) ∧
    (∃ (s : State) (n : Lsw), cfgBit s.chip (Reg.LSW_CFG n.val) 28 = true) ∧
    (∃ (s : State) (n : Lsw), cfgBit s.chip (Reg.LSW_CFG n.val) 28 = false) :=
  ⟨⟨(st [fun c =>
     { c with lsw := { c.lsw with chans := tmod LswSt.init c.lsw.chans ((0 : Lsw).val) (fun x => { x with trips := 0 }) } },
     fun c =>
     { c with lsw := { c.lsw with chans := tmod LswSt.init c.lsw.chans 0 (fun x => { x with state := .on }) } }] :
     State), 0, (⟨0,0,239,false,0,8000⟩ : LswMeas), by decide +kernel⟩,
   ⟨(st [fun c =>
     { c with lsw := { c.lsw with chans := tmod LswSt.init c.lsw.chans 0 (fun x => { x with state := .on, trips := 1 }) } }]
     : State), 0, (⟨0,0,239,false,0,8000⟩ : LswMeas), by decide +kernel⟩,
   ⟨(st [fun c =>
     { c with lsw := { c.lsw with chans := tmod LswSt.init c.lsw.chans 0 (fun x => { x with state := .on, trips := 8 }) } }]
     : State), 0, (⟨0,0,239,false,0,8000⟩ : LswMeas), by decide +kernel⟩,
   ⟨(st [fun c =>
     { c with lsw := { c.lsw with chans := tmod LswSt.init c.lsw.chans ((0 : Lsw).val) (fun x => { x with state := .test }) } }]
     : State), 0, (⟨0,0,239,false,0,8000⟩ : LswMeas), by decide +kernel⟩,
   ⟨(st [fun c =>
     { c with lsw := { c.lsw with chans := tmod LswSt.init c.lsw.chans ((0 : Lsw).val) (fun x => { x with state := .cool }) } },
     fun c =>
     { c with lsw := { c.lsw with chans := tmod LswSt.init c.lsw.chans 0 (fun x => { x with regOn := true }) } },
     fun c => wLive c (Reg.LSW_CFG 0) 0x0A41428#32] : State), 0, (⟨0,0,219,false,0,8000⟩ : LswMeas),
     by decide +kernel⟩,
   ⟨(st [fun c =>
     { c with lsw := { c.lsw with chans := tmod LswSt.init c.lsw.chans ((0 : Lsw).val) (fun x => { x with state := .on }) } }]
     : State), 0, by decide +kernel⟩,
   ⟨(st [fun c =>
     { c with lsw := { c.lsw with chans := tmod LswSt.init c.lsw.chans ((0 : Lsw).val) (fun x => { x with state := .on }) } }]
     : State), 0, by decide +kernel⟩,
   ⟨(st [fun c =>
     { c with lsw := { c.lsw with chans := tmod LswSt.init c.lsw.chans 0 (fun x => { x with state := .on }) } },
     fun c => wLive c (Reg.LSW_CFG 0) 0x20A41428#32] : State), false, 1000, 0, by decide +kernel⟩,
   ⟨(st [] : State), false, 1000, by decide +kernel⟩,
   ⟨0, by decide +kernel⟩,
   ⟨(st [] : State), false, 8000, 0, by decide +kernel⟩,
   ⟨(st [fun c => { c with lsw := { c.lsw with railA := 8000, railB := 8000 } }] : State), false, 0,
     by decide +kernel⟩,
   ⟨(st [fun c =>
     { c with lsw := { c.lsw with chans := tmod LswSt.init c.lsw.chans ((0 : Lsw).val) (fun x => { x with state := .on }) } }]
     : State), 0, by decide +kernel⟩,
   ⟨(st [] : State), 0, by decide +kernel⟩,
   ⟨(st [fun c =>
     { c with lsw := { c.lsw with chans := tmod LswSt.init c.lsw.chans ((0 : Lsw).val) (fun x => { x with state := .test }) } },
     fun c =>
     { c with lsw := { c.lsw with chans := tmod LswSt.init c.lsw.chans ((0 : Lsw).val) (fun x => { x with tripDue := false }) } }]
     : State), 0, 0, 0, by decide +kernel⟩,
   ⟨(st [fun c =>
     { c with lsw := { c.lsw with chans := tmod LswSt.init c.lsw.chans ((0 : Lsw).val) (fun x => { x with state := .off }) } }]
     : State), 0, (⟨12000,0,0,false,0,0⟩ : LswMeas), by decide +kernel⟩,
   ⟨(st [fun c => wLive c (Reg.LSW_CFG (0 : Lsw).val) (withBit (liveGet c (Reg.LSW_CFG (0 : Lsw).val)) 28 true)] :
     State), 0, by decide +kernel⟩,
   ⟨(st [fun c => wLive c (Reg.LSW_CFG (0 : Lsw).val) (withBit (liveGet c (Reg.LSW_CFG (0 : Lsw).val)) 28 false)] :
     State), 0, by decide +kernel⟩⟩

theorem witness_DisplayFrames :
    (∃ (s : State), windowClosed s.chip Reg.DSP_PUB_CTRL = false ∧ regionReady s.chip .dsp = true ∧ dsiDisabled
      s.chip = false ∧ s.chip.dsp.pend = none ∧ imm s.chip Reg.DSP_PUB_ADDR 31 12 * 4096 + hact s.chip * vact
      s.chip * 4 ≤ 2 ^ 29) ∧
    (∃ (s : State), windowClosed s.chip Reg.DSP_PUB_CTRL = false ∧ regionReady s.chip .dsp = true ∧ dsiDisabled
      s.chip = false ∧ 2 ^ 29 < imm s.chip Reg.DSP_PUB_ADDR 31 12 * 4096 + hact s.chip * vact s.chip * 4) ∧
    (∃ (s : State) (req : Requester) (a : Nat), performs s.chip req 0x0602 .pixel = true ∧ dsiDisabled s.chip =
      false ∧ a % 4096 = 0 ∧ a + hact s.chip * vact s.chip * 4 ≤ 2 ^ 29 ∧ s.chip.dsp.pend = none) ∧
    (∃ (s : State) (req : Requester) (old : Requester) (a : Nat) (b : Nat) (v : Word), performs s.chip req 0x0602
      .pixel = true ∧ dsiDisabled s.chip = false ∧ a % 4096 = 0 ∧ a + hact s.chip * vact s.chip * 4 ≤ 2 ^ 29 ∧
      s.chip.dsp.pend = some ⟨b, v, some old⟩) ∧
    (∃ (s : State) (req : Requester) (a : Nat) (bs : List Byte), performs s.chip req 0x0601 .pixel = true ∧
      dsiDisabled s.chip = false ∧ bs.length % 4 = 0 ∧ bs ≠ [] ∧ dspWriteFits a bs = true) ∧
    (∃ (s : State) (req : Requester) (a : Nat) (bs : List Byte), performs s.chip req 0x0601 .pixel = true ∧
      dsiDisabled s.chip = false ∧ bs.length % 4 = 0 ∧ bs ≠ [] ∧ dspWriteFits a bs = false) ∧
    (∃ (s : State) (b : Buffer), frameLocked s.chip = false ∧ dspRuns s.chip = true ∧ videoOn s.chip.dsp = true ∧
      s.chip.dsp.stopFrames = 0 ∧ s.chip.dsp.pend = some b) ∧
    (∃ (s : State), frameLocked s.chip = false ∧ dspRuns s.chip = true ∧ videoOn s.chip.dsp = true ∧
      s.chip.dsp.stopFrames ≠ 0) ∧
    (∃ (s : State), dspRuns s.chip = true ∧ videoOn s.chip.dsp = true ∧ frameLocked s.chip = true ∧
      s.chip.dsp.stopFrames = 0) ∧
    (∃ (s : State), s.chip.dsp.inFrame = true ∧ s.chip.dsp.front = none) ∧
    (∃ (s : State) (b : Buffer), s.chip.dsp.inFrame = true ∧ s.chip.dsp.front = some b ∧ s.chip.dsp.fallback =
      false ∧ crc32 (mgets s.dram b.addr (hact s.chip * vact s.chip * 4)) = b.crc) ∧
    (∃ (s : State) (b : Buffer), s.chip.dsp.inFrame = true ∧ s.chip.dsp.front = some b ∧ s.chip.dsp.fallback =
      false ∧ s.chip.dsp.crcRun = 1 ∧ crc32 (mgets s.dram b.addr (hact s.chip * vact s.chip * 4)) ≠ b.crc) :=
  ⟨⟨(st [fun c => { c with dsp := { c.dsp with pend := none } }, wSmall] : State), by decide +kernel⟩,
   ⟨(st [fun c => regPut c Reg.DSP_PUB_ADDR 0x1FFFF000#32] : State), by decide +kernel⟩,
   ⟨(st [fun c => { c with dsp := { c.dsp with pend := none } }, wSmall] : State), ((.service 1#32) : Requester),
     0, by decide +kernel⟩,
   ⟨(st [fun c =>
     { c with dsp := { c.dsp with pend := some ⟨0, (0#32 : Word), some ((.service 1#32) : Requester)⟩ } }, wSmall]
     : State), ((.service 1#32) : Requester), ((.service 1#32) : Requester), 0, 0, 0#32, by decide +kernel⟩,
   ⟨(st [wSmall] : State), ((.service 1#32) : Requester), 0x1C000000, ([1,2,3,4] : List Byte), by decide +kernel⟩,
   ⟨(st [wSmall] : State), ((.service 1#32) : Requester), 0, ([1,2,3,4] : List Byte), by decide +kernel⟩,
   ⟨(st [fun c => { c with dsp := { c.dsp with stopFrames := 0 } }, fun c =>
     { c with dsp := { c.dsp with pend := some (⟨0x1C000000, 0, none⟩ : Buffer) } }, fun c =>
     { c with dsp := { c.dsp with pstate := .on } }, wSmall] : State), (⟨0x1C000000, 0, none⟩ : Buffer),
     by decide +kernel⟩,
   ⟨(st [fun c => { c with dsp := { c.dsp with pstate := .on, stopFrames := 2 } }, wSmall] : State),
     by decide +kernel⟩,
   ⟨(st [fun c => { c with dsp := { c.dsp with stopFrames := 0 } }, fun c =>
     { c with dsp := { c.dsp with pstate := .on } }, wSmall, fun c => wLive c Reg.DSP_DSI_CFG (withField (liveGet c
     Reg.DSP_DSI_CFG) 3 3 1)] : State), by decide +kernel⟩,
   ⟨(st [fun c => { c with dsp := { c.dsp with inFrame := true } }, fun c =>
     { c with dsp := { c.dsp with front := none } }, wSmall] : State), by decide +kernel⟩,
   ⟨(st [fun c => { c with dsp := { c.dsp with inFrame := true } }, fun c =>
     { c with dsp := { c.dsp with front := some (⟨0x1C000000, crc32 (List.replicate 32 0#8), none⟩ : Buffer) } },
     fun c => { c with dsp := { c.dsp with fallback := false } }, wSmall] : State), (⟨0x1C000000, crc32
     (List.replicate 32 0#8), none⟩ : Buffer), by decide +kernel⟩,
   ⟨(st [fun c => { c with dsp := { c.dsp with inFrame := true } }, fun c =>
     { c with dsp := { c.dsp with front := some (⟨0x1C000000, 0, none⟩ : Buffer) } }, fun c =>
     { c with dsp := { c.dsp with fallback := false } }, fun c => { c with dsp := { c.dsp with crcRun := 1 } },
     wSmall] : State), (⟨0x1C000000, 0, none⟩ : Buffer), by decide +kernel⟩⟩

theorem witness_PanelCommands :
    (∃ (s : State), dspRuns s.chip = true ∧ s.chip.age.active ≠ 0) ∧
    (∃ (s : State), dspRuns s.chip = true) ∧
    (∃ (s : State), dspRuns s.chip = true ∧ s.chip.age.scanning = true ∧ s.chip.dsp.pstate = .on ∧
      s.chip.dsp.inFrame = false ∧ s.chip.age.sensing = none ∧ s.chip.dsp.frameCnt % max 1 (dspCfg s.chip
      Reg.DSP_AGE_SENSE 7 0) = 0) ∧
    (∃ (s : State) (k : Nat) (v : Nat), s.chip.age.sensing = some k ∧ s.chip.age.prog + 1 < ageKeys s.chip ∧ (v *
      100 < 5 * 65520 ∨ 65520 < v)) ∧
    (∃ (s : State) (k : Nat) (v : Nat), s.chip.age.sensing = some k ∧ s.chip.age.prog + 1 < ageKeys s.chip ∧ 5 *
      65520 ≤ v * 100 ∧ v ≤ 65520 ∧ s.chip.age.baselineScan = true) ∧
    (∃ (s : State), windowClosed s.chip Reg.DSP_AGE_CTRL = false ∧ regionReady s.chip .dsp = true ∧
      s.chip.age.baselineScan = false) ∧
    (∃ (s : State), dspRuns s.chip = true ∧ s.chip.dsp.pstate = .off ∧ dsiDisabled s.chip = false ∧
      s.chip.dsp.offKept = false ∧ s.chip.sup.mode ≠ .standby) ∧
    (∃ (s : State), dspRuns s.chip = true ∧ s.chip.dsp.pstate = .rails ∧ s.chip.dsp.step = 1) ∧
    (∃ (s : State), dspRuns s.chip = true ∧ s.chip.dsp.pstate = .rails ∧ s.chip.dsp.step = 2) ∧
    (∃ (s : State), dspRuns s.chip = true ∧ s.chip.dsp.pstate = .init ∧ s.chip.dsp.step = 3) ∧
    (∃ (s : State), dspRuns s.chip = true ∧ s.chip.dsp.pstate = .init ∧ s.chip.dsp.step = 4) ∧
    (∃ (s : State), dspRuns s.chip = true ∧ s.chip.dsp.pstate = .init ∧ s.chip.dsp.step = 5 ∧ s.chip.dsp.framed =
      true) ∧
    (∃ (s : State), panelOffDue s.chip = true ∧ s.chip.dsp.inFrame = false ∧ (s.chip.dsp.pstate = .on ∨
      s.chip.dsp.pstate = .init)) ∧
    (∃ (s : State), panelOffDue s.chip = true ∧ s.chip.dsp.inFrame = false ∧ s.chip.dsp.pstate = .rails) ∧
    (∃ (s : State), s.chip.dsp.pstate = .offseq ∧ s.chip.dsp.step = 1) ∧
    (∃ (s : State), s.chip.dsp.pstate = .offseq ∧ s.chip.dsp.step = 2) ∧
    (∃ (s : State), s.chip.dsp.pstate = .offseq ∧ s.chip.dsp.step = 3) ∧
    (∃ (s : State), s.chip.dsp.pstate = .discharge ∧ s.chip.dsp.step = 4) :=
  ⟨⟨(st [wSmall, fun c => { c with age := { c.age with active := 1 } }] : State), by decide +kernel⟩,
   ⟨(st [wSmall] : State), by decide +kernel⟩,
   ⟨(st [fun c => { c with age := { c.age with scanning := true } }, fun c =>
     { c with dsp := { c.dsp with pstate := .on } }, fun c => { c with dsp := { c.dsp with inFrame := false } },
     fun c => { c with age := { c.age with sensing := none } }, wSmall] : State), by decide +kernel⟩,
   ⟨(st [fun c => { c with age := { c.age with sensing := some 0 } }, wSmall] : State), 0, 0, by decide +kernel⟩,
   ⟨(st [fun c => { c with age := { c.age with sensing := some 0 } }, fun c =>
     { c with age := { c.age with baselineScan := true } }, wSmall] : State), 0, 65520, by decide +kernel⟩,
   ⟨(st [fun c => { c with age := { c.age with baselineScan := false } }, wSmall] : State), by decide +kernel⟩,
   ⟨(st [fun c => { c with dsp := { c.dsp with pstate := .off } }, fun c =>
     { c with dsp := { c.dsp with offKept := false } }, wSmall] : State), by decide +kernel⟩,
   ⟨(st [fun c => { c with dsp := { c.dsp with pstate := .rails } }, fun c =>
     { c with dsp := { c.dsp with step := 1 } }, wSmall] : State), by decide +kernel⟩,
   ⟨(st [fun c => { c with dsp := { c.dsp with pstate := .rails } }, fun c =>
     { c with dsp := { c.dsp with step := 2 } }, wSmall] : State), by decide +kernel⟩,
   ⟨(st [fun c => { c with dsp := { c.dsp with pstate := .init } }, fun c =>
     { c with dsp := { c.dsp with step := 3 } }, wSmall] : State), by decide +kernel⟩,
   ⟨(st [fun c => { c with dsp := { c.dsp with pstate := .init } }, fun c =>
     { c with dsp := { c.dsp with step := 4 } }, wSmall] : State), by decide +kernel⟩,
   ⟨(st [fun c => { c with dsp := { c.dsp with pstate := .init } }, fun c =>
     { c with dsp := { c.dsp with step := 5 } }, fun c => { c with dsp := { c.dsp with framed := true } }, wSmall]
     : State), by decide +kernel⟩,
   ⟨(st [fun c => { c with dsp := { c.dsp with inFrame := false } }, wSmall, fun c =>
     { c with dsp := { c.dsp with offKept := true, pstate := .on } }] : State), by decide +kernel⟩,
   ⟨(st [fun c => { c with dsp := { c.dsp with inFrame := false } }, fun c =>
     { c with dsp := { c.dsp with pstate := .rails } }, wSmall, fun c =>
     { c with dsp := { c.dsp with offKept := true } }] : State), by decide +kernel⟩,
   ⟨(st [fun c => { c with dsp := { c.dsp with pstate := .offseq } }, fun c =>
     { c with dsp := { c.dsp with step := 1 } }, wSmall] : State), by decide +kernel⟩,
   ⟨(st [fun c => { c with dsp := { c.dsp with pstate := .offseq } }, fun c =>
     { c with dsp := { c.dsp with step := 2 } }, wSmall] : State), by decide +kernel⟩,
   ⟨(st [fun c => { c with dsp := { c.dsp with pstate := .offseq } }, fun c =>
     { c with dsp := { c.dsp with step := 3 } }, wSmall] : State), by decide +kernel⟩,
   ⟨(st [fun c => { c with dsp := { c.dsp with pstate := .discharge } }, fun c =>
     { c with dsp := { c.dsp with step := 4 } }, wSmall] : State), by decide +kernel⟩⟩

theorem witness_BistableCommands :
    (∃ (s : State), bpMayUpdate s.chip = true ∧ s.chip.bp.state = .idle) ∧
    (∃ (s : State), (bpMayUpdate s.chip = false ∨ s.chip.bp.state ≠ .idle)) ∧
    (∃ (s : State), bpMayUpdate s.chip = true ∧ s.chip.bp.state = .idle) ∧
    (∃ (s : State) (img : List Bool), s.chip.bp.state = .updating ∧ crc32 (recovered s.chip img) = crc32
      s.chip.bp.rendering) ∧
    (∃ (s : State), s.chip.bp.state = .cleanup) ∧
    (∃ (s : State), s.chip.bp.state = .fault ∧ dspRuns s.chip = true ∧ bpDisabled s.chip = false ∧
      s.chip.bp.disableDue = false ∧ s.chip.dsp.offKept = false ∧ s.chip.bp.waiting = true ∧ s.chip.leg.running =
      true) :=
  ⟨⟨(st [fun c => { c with bp := { c.bp with state := .idle } }, fun c =>
     { c with bp := { c.bp with waiting := true } }, fun c => { c with leg := { c.leg with running := true } }] :
     State), by decide +kernel⟩,
   ⟨(st [] : State), by decide +kernel⟩,
   ⟨(st [fun c => { c with bp := { c.bp with state := .idle } }, fun c =>
     { c with bp := { c.bp with waiting := true } }, fun c => { c with leg := { c.leg with running := true } }] :
     State), by decide +kernel⟩,
   ⟨wShown, [], by decide +kernel, wRecovered⟩,
   ⟨(st [fun c => { c with bp := { c.bp with state := .cleanup } }] : State), by decide +kernel⟩,
   ⟨(st [fun c => { c with bp := { c.bp with state := .fault } }, fun c =>
     { c with bp := { c.bp with disableDue := false } }, fun c =>
     { c with dsp := { c.dsp with offKept := false } }, fun c => { c with bp := { c.bp with waiting := true } },
     fun c => { c with leg := { c.leg with running := true } }] : State), by decide +kernel⟩⟩

theorem witness_HostInterfaceCommands :
    (∃ (s : State), ready s.chip .hst = true ∧ s.chip.host.perst = false) ∧
    (∃ (s : State), s.chip.host.linkUp = true) ∧
    (∃ (s : State), windowClosed s.chip Reg.HST_CTRL = false ∧ ready s.chip .hst = true) ∧
    (∃ (s : State) (a : Nat), lockedOut s.chip a = true ∧ noRegister a = false) ∧
    (∃ (s : State) (q : Ring) (w : Word), windowClosed s.chip (Reg.HST_RING_CFG q.val) = false ∧ ready s.chip .hst
      = true ∧ (ringOf s.chip q.val).state = .off ∧ bitOf w 0 = true ∧ ringSizesOk w = true ∧ ringBaseZero s.chip
      q.val = false) ∧
    (∃ (s : State) (q : Ring) (w : Word), windowClosed s.chip (Reg.HST_RING_CFG q.val) = false ∧ ready s.chip .hst
      = true ∧ (ringOf s.chip q.val).state = .off ∧ bitOf w 0 = true ∧ ringSizesOk w = true ∧ ringBaseZero s.chip
      q.val = true) ∧
    (∃ (s : State) (q : Ring) (w : Word), windowClosed s.chip (Reg.HST_RING_CFG q.val) = false ∧ ready s.chip .hst
      = true ∧ (ringOf s.chip q.val).state = .run ∧ bitOf w 0 = false) ∧
    (∃ (s : State) (q : Ring) (v : BitVec 12), ready s.chip .hst = true ∧ (ringOf s.chip q.val).state = .run ∧
      v.toNat < sqSize s.chip q.val) ∧
    (∃ (s : State) (q : Ring) (v : BitVec 12), ready s.chip .hst = true ∧ (ringOf s.chip q.val).state = .run ∧
      sqSize s.chip q.val ≤ v.toNat) ∧
    (∃ (s : State) (q : Ring) (v : BitVec 12), ready s.chip .hst = true ∧ (ringOf s.chip q.val).state = .run ∧
      v.toNat < cqSize s.chip q.val ∧ (v.toNat + cqSize s.chip q.val - (ringOf s.chip q.val).cqHead) % cqSize
      s.chip q.val ≤ cqUsed s.chip q.val) ∧
    (∃ (s : State) (q : Ring), imm s.chip (Reg.HST_RING_COAL q.val) 23 8 ≠ 0 ∧ 0 < (ringOf s.chip
      q.val).unsignalled) ∧
    (∃ (s : State), ready s.chip .hst = true) ∧
    (∃ (s : State), ready s.chip .hst = true) :=
  ⟨⟨(st [fun c => { c with host := { c.host with perst := false } }] : State), by decide +kernel⟩,
   ⟨(st [fun c => { c with host := { c.host with linkUp := true } }] : State), by decide +kernel⟩,
   ⟨(st [] : State), by decide +kernel⟩,
   ⟨(st [fun c => { c with host := { c.host with wlock := true } }] : State), Reg.SUP_TB_CFG, by decide +kernel⟩,
   ⟨(st [fun c => wRing c ((0 : Ring).val) (fun x => { x with state := .off }), fun c => regPut (regPut c
     (Reg.HST_SQ_BASE_LO 0) 0x1000#32) (Reg.HST_CQ_BASE_LO 0) 0x2000#32] : State), 0, 0x441#32, by decide +kernel⟩,
   ⟨(st [fun c => wRing c ((0 : Ring).val) (fun x => { x with state := .off })] : State), 0, 0x441#32,
     by decide +kernel⟩,
   ⟨(st [fun c => wRing c ((0 : Ring).val) (fun x => { x with state := .run })] : State), 0, 0#32,
     by decide +kernel⟩,
   ⟨(st [fun c => wRing c ((0 : Ring).val) (fun x => { x with state := .run })] : State), 0, 0, by decide +kernel⟩,
   ⟨(st [fun c => wRing c ((0 : Ring).val) (fun x => { x with state := .run })] : State), 0, 4095,
     by decide +kernel⟩,
   ⟨(st [fun c => wRing c ((0 : Ring).val) (fun x => { x with state := .run })] : State), 0, 0, by decide +kernel⟩,
   ⟨(st [fun c => regPut c (Reg.HST_RING_COAL 0) 0x500#32, fun c => wRing c 0 (fun x =>
     { x with unsignalled := 1 })] : State), 0, by decide +kernel⟩,
   ⟨(st [] : State), by decide +kernel⟩,
   ⟨(st [] : State), by decide +kernel⟩⟩

theorem witness_DescriptorFetch :
    (∃ (s : State) (q : Ring) (bs : List Byte) (b : Block), bs.length = 64 ∧ mayFetch s.chip q = true ∧ ownTurn
      s.chip q = true ∧ ready s.chip .svc = true ∧ s.chip.sup.refLost = false ∧ opBlock s.chip bs = some b ∧
      recovering s.chip = false ∧ wordOf (descNum bs 4 7) ≠ 0 ∧ sessionOp (descNum bs 0 1) = false ∧ recorded
      s.chip q.val (wordOf (descNum bs 4 7)) (descNum bs 0 1) = none ∧ tagKnown s.chip q.val (wordOf (descNum bs 4
      7)) = false ∧ tagFlying s.chip q (wordOf (descNum bs 4 7)) (descNum bs 0 1) = false ∧ descFieldsOk bs = true
      ∧ descBufferOk bs = true) ∧
    (∃ (s : State) (q : Ring) (bs : List Byte) (b : Block) (a : Answer), bs.length = 64 ∧ mayFetch s.chip q = true
      ∧ ownTurn s.chip q = true ∧ ready s.chip .svc = true ∧ s.chip.sup.refLost = false ∧ opBlock s.chip bs = some
      b ∧ recovering s.chip = false ∧ wordOf (descNum bs 4 7) ≠ 0 ∧ sessionOp (descNum bs 0 1) = false ∧ recorded
      s.chip q.val (wordOf (descNum bs 4 7)) (descNum bs 0 1) = some a) ∧
    (∃ (s : State) (q : Ring) (bs : List Byte), bs.length = 64 ∧ mayFetch s.chip q = true ∧ ownTurn s.chip q = true
      ∧ ready s.chip .svc = true ∧ s.chip.sup.refLost = false ∧ opBlock s.chip bs = none) ∧
    (∃ (s : State) (q : Ring) (bs : List Byte), bs.length = 64 ∧ mayFetch s.chip q = true ∧ ownTurn s.chip q = true
      ∧ ready s.chip .svc = false) ∧
    (∃ (s : State) (q : Ring) (bs : List Byte), bs.length = 64 ∧ (mayFetch s.chip q = false ∨ ownTurn s.chip q =
      false)) ∧
    (∃ (s : State) (q : Ring), mayFetch s.chip q = true ∧ ownTurn s.chip q = true) ∧
    (∃ (s : State) (q : Ring), ((ringOf s.chip q.val).state = .run ∨ (ringOf s.chip q.val).state = .draining)) :=
  ⟨⟨(st [fun c => { c with sup := { c.sup with refLost := false } }, wRun] : State), 0, (wDesc 1 7), (.ringEngine :
     Block), by decide +kernel⟩,
   ⟨(st [fun c => { c with sup := { c.sup with refLost := false } }, wRun, fun c =>
     { c with host := { c.host with tags := [(0, [⟨7#32, 1, ansOk⟩])] } }] : State), 0, (wDesc 1 7), (.ringEngine :
     Block), ansOk, by decide +kernel⟩,
   ⟨(st [fun c => { c with sup := { c.sup with refLost := false } }, wRun] : State), 0, (wDesc 0x999 7),
     by decide +kernel⟩,
   ⟨(st [fun c => { c with sup := { c.sup with ready := setBitV c.sup.ready (Func.idx .svc) false } }, wRun] :
     State), 0, (wDesc 1 7), by decide +kernel⟩,
   ⟨(st [] : State), 0, (wDesc 1 7), by decide +kernel⟩,
   ⟨(st [wRun] : State), 0, by decide +kernel⟩,
   ⟨(st [wRun] : State), 0, by decide +kernel⟩⟩

theorem witness_TrustKeyCommands :
    (∃ (s : State) (x : Bool), deriveRefused s.chip x = false) ∧
    (∃ (s : State) (x : Bool), s.chip.tru.debugOpen = true ∧ (x = false ∨ s.chip.sup.lcs ≠ .factory)) ∧
    (∃ (s : State), 65536 ≤ s.chip.tru.accesses) ∧
    (∃ (s : State), s.chip.tru.accesses < 65536) ∧
    (∃ (r : Bool) (a : Bool), (r = false ∨ a = false)) ∧
    (∃ (s : State), s.chip.sup.lcs = .factory ∧ s.chip.tru.keyRecord = none ∧ stageAbsent s.chip.tru = false ∧
      ready s.chip .tru = true ∧ s.chip.tru.debugOpen = false) ∧
    (∃ (s : State), (s.chip.sup.lcs ≠ .factory ∨ s.chip.tru.keyRecord ≠ none)) ∧
    (∃ (s : State), s.chip.tru.xmt = .keygen) ∧
    (∃ (s : State) (j : SignJob) (js : List SignJob) (isA : Bool) (k : XmtCopy), s.chip.tru.signQueue = j :: js ∧
      s.chip.tru.xmt = .ready ∧ s.chip.tru.signNow = none ∧ ready s.chip .tru = true ∧ memberLocked s.chip 3 =
      false ∧ currentCopy s.chip.tru = some (isA, k) ∧ k.next + 1 < 2 ^ 40 ∧ k.rseq + 1 < 2 ^ 64 ∧ (s.chip.sup.mode
      ≠ .holdUp ∨ 12000 ≤ s.chip.pwd.budget)) ∧
    (∃ (s : State) (j : SignJob) (js : List SignJob) (isA : Bool) (k : XmtCopy), s.chip.tru.signQueue = j :: js ∧
      s.chip.tru.xmt = .ready ∧ s.chip.tru.signNow = none ∧ ready s.chip .tru = true ∧ memberLocked s.chip 3 =
      false ∧ currentCopy s.chip.tru = some (isA, k) ∧ k.next + 1 < 2 ^ 40 ∧ k.rseq + 1 < 2 ^ 64 ∧ (s.chip.sup.mode
      ≠ .holdUp ∨ 12000 ≤ s.chip.pwd.budget)) ∧
    (∃ (s : State) (bs : List Byte), certFits s.chip bs = true) ∧
    (∃ (s : State) (ok : Bool) (bs : List Byte), (ok = false ∨ certFits s.chip bs = false)) ∧
    (∃ (s : State) (req : Requester), performs s.chip req 0x0901 .crypto = true ∧ s.chip.tru.xmt = .ready) ∧
    (∃ (s : State) (req : Requester), performs s.chip req 0x0901 .crypto = true) :=
  ⟨⟨(st [] : State), false, by decide +kernel⟩,
   ⟨(st [fun c => { c with tru := { c.tru with debugOpen := true } }] : State), false, by decide +kernel⟩,
   ⟨(st [fun c => { c with tru := { c.tru with accesses := 65536 } }] : State), by decide +kernel⟩,
   ⟨(st [] : State), by decide +kernel⟩,
   ⟨false, false, by decide +kernel⟩,
   ⟨(st [fun c => { c with sup := { c.sup with lcs := .factory } }, fun c =>
     { c with tru := { c.tru with keyRecord := none } }, fun c =>
     { c with tru := { c.tru with debugOpen := false } }, fun c =>
     { c with tru := { c.tru with stages := (List.replicate 9 ⟨0, 0, 0, 0⟩) } }] : State), by decide +kernel⟩,
   ⟨(st [] : State), by decide +kernel⟩,
   ⟨(st [fun c => { c with tru := { c.tru with xmt := .keygen } }] : State), by decide +kernel⟩,
   ⟨(st [fun c => { c with tru := { c.tru with signQueue := (.legal 1 : SignJob) :: ([] : List SignJob) } }, fun c
     => { c with tru := { c.tru with xmt := .ready } }, fun c => { c with tru := { c.tru with signNow := none } },
     fun c => { c with tru := { c.tru with copyA := copyImage ⟨0, 0⟩ } }] : State), (.legal 1 : SignJob), ([] :
     List SignJob), true, (⟨0, 0⟩ : XmtCopy), by decide +kernel⟩,
   ⟨(st [fun c => { c with tru := { c.tru with signQueue := (.legal 1 : SignJob) :: ([] : List SignJob) } }, fun c
     => { c with tru := { c.tru with xmt := .ready } }, fun c => { c with tru := { c.tru with signNow := none } },
     fun c => { c with tru := { c.tru with copyA := copyImage ⟨0, 0⟩ } }] : State), (.legal 1 : SignJob), ([] :
     List SignJob), true, (⟨0, 0⟩ : XmtCopy), by decide +kernel⟩,
   ⟨(st [fun c => { c with tru := { c.tru with keyRecord := some ⟨List.replicate 68 0, []⟩ } }] : State), (beBytes
     4 0x51584443 ++ beBytes 2 0x0102 ++ List.replicate 2 0 ++ id16 7 ++ List.replicate 2896 0), by decide +kernel⟩,
   ⟨(st [] : State), false, ([] : List Byte), by decide +kernel⟩,
   ⟨(st [fun c => { c with tru := { c.tru with xmt := .ready } }] : State), ((.service 1#32) : Requester),
     by decide +kernel⟩,
   ⟨(st [] : State), ((.service 1#32) : Requester), by decide +kernel⟩⟩

theorem witness_TrustSessionCommands :
    (∃ (s : State), s.chip.sup.lcs = .factory ∧ s.chip.tru.locked = false) ∧
    (∃ (s : State), s.chip.sup.lcs ≠ .factory) ∧
    (∃ (s : State) (r : List Byte), s.chip.sup.lcs = .factory ∧ s.chip.tru.locked = false ∧ dbgFits s.chip r =
      true) ∧
    (∃ (s : State) (r : List Byte) (g : Bool), s.chip.sup.lcs = .factory ∧ s.chip.tru.locked = false ∧ (g = false ∨
      dbgFits s.chip r = false)) ∧
    (∃ (s : State), (s.chip.sup.lcs ≠ .factory ∨ s.chip.tru.locked = true)) ∧
    (∃ (s : State) (i : Nat), s.chip.tru.debugOpen = false ∧ ready s.chip .tru = true ∧ (s.chip.tru.tls.filter (fun
      x => x.id != i)).length < 15) ∧
    (∃ (s : State) (i : Nat), s.chip.tru.debugOpen = false ∧ 15 ≤ (s.chip.tru.tls.filter (fun x => x.id !=
      i)).length) ∧
    (∃ (s : State) (p : Nat) (g : Nat) (n : Bool), ready s.chip .tru = true ∧ s.chip.tru.debugOpen = false ∧ g =
      tget 0 s.chip.tru.generation p + (if n then 1 else 0)) ∧
    (∃ (s : State), ready s.chip .tru = true ∧ s.chip.tru.debugOpen = false) ∧
    (∃ (s : State) (k : Word) (since : Nat), s.chip.tru.siteLoaded = true ∧ currentKey (runTo s.chip since) = some
      k ∧ s.chip.tru.sendKey ≠ some k) :=
  ⟨⟨(st [fun c => { c with sup := { c.sup with lcs := .factory } }, fun c =>
     { c with tru := { c.tru with locked := false } }] : State), by decide +kernel⟩,
   ⟨(st [] : State), by decide +kernel⟩,
   ⟨(st [fun c => { c with sup := { c.sup with lcs := .factory } }, fun c =>
     { c with tru := { c.tru with locked := false } }, fun c =>
     { c with tru := { c.tru with challenge := some 5 } }] : State), (beBytes 4 0x51584442 ++ beBytes 1 1 ++
     List.replicate 3 0 ++ id16 7 ++ id32 5 ++ List.replicate 2820 0), by decide +kernel⟩,
   ⟨(st [fun c => { c with sup := { c.sup with lcs := .factory } }, fun c =>
     { c with tru := { c.tru with locked := false } }] : State), ([] : List Byte), false, by decide +kernel⟩,
   ⟨(st [] : State), by decide +kernel⟩,
   ⟨(st [fun c => { c with tru := { c.tru with debugOpen := false } }] : State), 0, by decide +kernel⟩,
   ⟨(st [fun c => { c with tru := { c.tru with debugOpen := false } }, fun c =>
     { c with tru := { c.tru with tls := (List.range 15).map (fun n => ⟨n, true, 0, 0⟩) } }] : State), 99,
     by decide +kernel⟩,
   ⟨(st [fun c => { c with tru := { c.tru with debugOpen := false } }] : State), 0, 0, false, by decide +kernel⟩,
   ⟨(st [fun c => { c with tru := { c.tru with debugOpen := false } }] : State), by decide +kernel⟩,
   ⟨(st [fun c => { c with tru := { c.tru with siteLoaded := true } }, fun c =>
     { c with tru := { c.tru with siteKeys := [⟨0, 0, []⟩] } }] : State), 0#32, 0, by decide +kernel⟩⟩

theorem witness_LifecycleCommands :
    (∃ (s : State) (k : List Byte), ready s.chip .tru = true ∧ tokenFits s.chip k = true ∧ lcPair (beNat ((k.drop
      5).take 1)) (beNat ((k.drop 6).take 1)) = true ∧ lcRefusal s.fuses s.chip (beNat ((k.drop 6).take 1)) = none) ∧
    (∃ (s : State) (k : List Byte) (g : Bool), ready s.chip .tru = true ∧ (g = false ∨ tokenFits s.chip k = false)) ∧
    (∃ (s : State) (k : List Byte) (st : Status), ready s.chip .tru = true ∧ tokenFits s.chip k = true ∧ lcPair
      (beNat ((k.drop 5).take 1)) (beNat ((k.drop 6).take 1)) = true ∧ lcRefusal s.fuses s.chip (beNat ((k.drop
      6).take 1)) = some st) ∧
    (∃ (s : State), anyEnergised s.chip = true) ∧
    (∃ (s : State), ready s.chip .tru = false) ∧
    (∃ (s : State), s.fuses.state = .blank) ∧
    (∃ (s : State), s.fuses.state ≠ .blank) :=
  ⟨⟨(st [] : State), (wToken 3 4 (st []).chip), by decide +kernel⟩,
   ⟨(st [] : State), ([] : List Byte), false, by decide +kernel⟩,
   ⟨(st [wFb] : State), (wToken 3 4 (st [wFb]).chip), (.busyEnergised : Status), by decide +kernel⟩,
   ⟨(st [wFb] : State), by decide +kernel⟩,
   ⟨(st [fun c => { c with sup := { c.sup with ready := setBitV c.sup.ready (Func.idx .tru) false } }] : State),
     by decide +kernel⟩,
   ⟨(st [] : State), by decide +kernel⟩,
   ⟨({ st [] with fuses := { (st []).fuses with lcs := 7 } } : State), by decide +kernel⟩⟩

theorem witness_UpdateSessionCommands :
    (∃ (s : State) (req : Requester), performs s.chip req 0x0707 .update = true) ∧
    (∃ (s : State) (req : Requester) (bs : List Byte) (g : Bool), performs s.chip req 0x0701 .update = true ∧
      s.chip.upd.source = none ∧ s.chip.upd.manifest = none ∧ manifestCause s.chip s.fuses (readManifest bs)
      bs.length g = none) ∧
    (∃ (s : State) (req : Requester) (bs : List Byte) (g : Bool) (k : Nat), performs s.chip req 0x0701 .update =
      true ∧ s.chip.upd.source = none ∧ s.chip.upd.manifest = none ∧ manifestCause s.chip s.fuses (readManifest bs)
      bs.length g = some k) ∧
    (∃ (s : State) (req : Requester) (src : UpdSource) (o : UpdSource), performs s.chip req 0x0701 .update = true ∧
      s.chip.upd.source = some o ∧ o ≠ sourceOf req src) ∧
    (∃ (s : State) (req : Requester) (src : UpdSource) (n : Nat) (bs : List Byte) (m : Manifest), performs s.chip
      req 0x0702 .update = true ∧ s.chip.upd.source = some (sourceOf req src) ∧ s.chip.upd.state = .downloading ∧
      s.chip.upd.manifest = some m ∧ n < m.total ∧ bs.length = m.chunkLen n ∧ tfind s.chip.upd.chunks n = none) ∧
    (∃ (s : State) (req : Requester) (src : UpdSource) (n : Nat) (bs : List Byte) (m : Manifest), performs s.chip
      req 0x0702 .update = true ∧ s.chip.upd.source = some (sourceOf req src) ∧ s.chip.upd.state = .downloading ∧
      s.chip.upd.manifest = some m ∧ n < m.total ∧ bs.length = m.chunkLen n ∧ (tfind s.chip.upd.chunks n).isSome =
      true) ∧
    (∃ (s : State) (req : Requester) (src : UpdSource) (m : Manifest), performs s.chip req 0x0703 .update = true ∧
      s.chip.upd.source = some (sourceOf req src) ∧ s.chip.upd.state = .downloading ∧ s.chip.upd.manifest = some m
      ∧ (∀ n, n < m.total → (tfind s.chip.upd.chunks n).isSome = true)) ∧
    (∃ (s : State) (req : Requester) (src : UpdSource) (m : Manifest) (n : Nat), performs s.chip req 0x0703 .update
      = true ∧ s.chip.upd.source = some (sourceOf req src) ∧ s.chip.upd.state = .downloading ∧ s.chip.upd.manifest
      = some m ∧ n < m.total ∧ tfind s.chip.upd.chunks n = none) ∧
    (∃ (s : State) (m : Manifest) (req : Requester), s.chip.upd.state = .verifying ∧ s.chip.upd.manifest = some m ∧
      s.chip.upd.waiting = [(req, false)] ∧ (∀ x ∈ m.entries, imageOk x (sliceOf (payload s.chip m) x.offset
      x.length) = true)) ∧
    (∃ (s : State) (m : Manifest) (req : Requester) (x : PartEntry), s.chip.upd.state = .verifying ∧
      s.chip.upd.manifest = some m ∧ s.chip.upd.waiting = [(req, false)] ∧ x ∈ m.entries ∧ imageOk x (sliceOf
      (payload s.chip m) x.offset x.length) = false) ∧
    (∃ (s : State) (req : Requester) (src : UpdSource), performs s.chip req 0x0706 .update = true ∧
      s.chip.upd.source = some (sourceOf req src) ∧ (s.chip.upd.state = .downloading ∨ s.chip.upd.state =
      .verified)) ∧
    (∃ (s : State), (s.chip.upd.state = .downloading ∨ s.chip.upd.state = .verified)) :=
  ⟨⟨(st [] : State), ((.service 1#32) : Requester), by decide +kernel⟩,
   ⟨wKeyed, .service 1#32, wManifest, true, by decide +kernel, by decide +kernel, by decide +kernel,
     wManifest_passes⟩,
   ⟨st [], .service 1#32, [], true, 1, by decide +kernel⟩,
   ⟨(st [fun c => { c with upd := { c.upd with source := some (.ocpp : UpdSource) } }] : State), ((.service 1#32) :
     Requester), (.host : UpdSource), (.ocpp : UpdSource), by decide +kernel⟩,
   ⟨(st [fun c =>
     { c with upd := { c.upd with source := some (sourceOf ((.service 1#32) : Requester) (.host : UpdSource)) } },
     fun c => { c with upd := { c.upd with state := .downloading } }, fun c =>
     { c with upd := { c.upd with manifest := some wMan } }] : State), ((.service 1#32) : Requester), (.host :
     UpdSource), 0, (List.replicate 8 0), wMan, by decide +kernel⟩,
   ⟨(st [fun c =>
     { c with upd := { c.upd with source := some (sourceOf ((.service 1#32) : Requester) (.host : UpdSource)) } },
     fun c => { c with upd := { c.upd with state := .downloading } }, fun c =>
     { c with upd := { c.upd with manifest := some wMan } }, fun c =>
     { c with upd := { c.upd with chunks := [(0, [])] } }] : State), ((.service 1#32) : Requester), (.host :
     UpdSource), 0, (List.replicate 8 0), wMan, by decide +kernel⟩,
   ⟨(st [fun c =>
     { c with upd := { c.upd with source := some (sourceOf ((.service 1#32) : Requester) (.host : UpdSource)) } },
     fun c => { c with upd := { c.upd with state := .downloading } }, fun c =>
     { c with upd := { c.upd with manifest := some wMan } }, fun c =>
     { c with upd := { c.upd with chunks := [(0, [])] } }] : State), ((.service 1#32) : Requester), (.host :
     UpdSource), wMan, by decide +kernel⟩,
   ⟨(st [fun c =>
     { c with upd := { c.upd with source := some (sourceOf ((.service 1#32) : Requester) (.host : UpdSource)) } },
     fun c => { c with upd := { c.upd with state := .downloading } }, fun c =>
     { c with upd := { c.upd with manifest := some wMan } }] : State), ((.service 1#32) : Requester), (.host :
     UpdSource), wMan, 0, by decide +kernel⟩,
   ⟨st [fun c =>
     { c with upd := { c.upd with state := .verifying, manifest := some { wMan with entries := [] }, waiting := [(.service 1#32, false)] } }],
     { wMan with entries := [] }, .service 1#32, by decide +kernel, by simp [st], by decide +kernel, by simp⟩,
   ⟨wBroken, wBrokenMan, .service 1#32, wBrokenPart, by decide +kernel, rfl, by decide +kernel,
     List.mem_singleton.mpr rfl, wNever _⟩,
   ⟨(st [fun c =>
     { c with upd := { c.upd with source := some (sourceOf ((.service 1#32) : Requester) (.host : UpdSource)) } },
     fun c => { c with upd := { c.upd with state := .downloading } }] : State), ((.service 1#32) : Requester),
     (.host : UpdSource), by decide +kernel⟩,
   ⟨(st [fun c => { c with upd := { c.upd with state := .verified } }] : State), by decide +kernel⟩⟩

theorem witness_UpdateActivationCommands :
    (∃ (s : State) (req : Requester) (src : UpdSource) (m : Manifest), performs s.chip req 0x0704 .update = true ∧
      s.chip.upd.source = some (sourceOf req src) ∧ s.chip.upd.state = .verified ∧ s.chip.upd.manifest = some m ∧
      pauseMode s.chip.sup.mode = true ∧ (m.priv = false ∨ anyEnergised s.chip = false)) ∧
    (∃ (s : State) (req : Requester) (src : UpdSource) (m : Manifest), performs s.chip req 0x0704 .update = true ∧
      s.chip.upd.source = some (sourceOf req src) ∧ s.chip.upd.state = .verified ∧ s.chip.upd.manifest = some m ∧
      pauseMode s.chip.sup.mode = true ∧ m.priv = true ∧ anyEnergised s.chip = true) ∧
    (∃ (s : State) (m : Manifest), s.chip.upd.manifest = some m ∧ s.chip.sup.mode = .activationPause ∧
      placedByRestart s.chip m = false ∧ s.chip.upd.state = .activating ∧ badImages s.chip m = []) ∧
    (∃ (s : State) (m : Manifest), s.chip.upd.manifest = some m ∧ s.chip.sup.mode = .activationPause ∧
      placedByRestart s.chip m = false ∧ s.chip.upd.state = .activating ∧ badImages s.chip m ≠ []) ∧
    (∃ (s : State) (m : Manifest), s.chip.upd.manifest = some m ∧ s.chip.sup.mode = .activationPause ∧
      s.chip.upd.state = .activating ∧ placedByRestart s.chip m = true) ∧
    (∃ (s : State) (req : Requester) (src : UpdSource) (m : Manifest), performs s.chip req 0x0705 .update = true ∧
      s.chip.upd.source = some (sourceOf req src) ∧ s.chip.upd.state = .pending ∧ s.chip.upd.manifest = some m ∧
      partsReady s.chip m = true ∧ s.chip.sup.mode ≠ .activationPause) ∧
    (∃ (s : State) (req : Requester) (src : UpdSource) (m : Manifest), performs s.chip req 0x0705 .update = true ∧
      s.chip.upd.source = some (sourceOf req src) ∧ s.chip.upd.state = .pending ∧ s.chip.upd.manifest = some m ∧
      partsReady s.chip m = false) ∧
    (∃ (s : State) (m : Manifest) (since : Nat), s.chip.upd.state = .pending ∧ s.chip.upd.manifest = some m ∧ 1800
      ≤ pendingSec (runTo s.chip since)) ∧
    (∃ (s : State) (req : Requester) (src : UpdSource) (m : Manifest), performs s.chip req 0x0706 .update = true ∧
      s.chip.upd.source = some (sourceOf req src) ∧ s.chip.upd.state = .pending ∧ s.chip.upd.manifest = some m) ∧
    (∃ (s : State), s.chip.upd.state = .pending) ∧
    (∃ (s : State), s.chip.upd.restartDue = true ∧ anyEnergised s.chip = false) ∧
    (∃ (s : State), anyEnergised s.chip = true) :=
  ⟨⟨(st [fun c =>
     { c with upd := { c.upd with source := some (sourceOf ((.service 1#32) : Requester) (.host : UpdSource)) } },
     fun c => { c with upd := { c.upd with state := .verified } }, fun c =>
     { c with upd := { c.upd with manifest := some wMan } }] : State), ((.service 1#32) : Requester), (.host :
     UpdSource), wMan, by decide +kernel⟩,
   ⟨(st [fun c =>
     { c with upd := { c.upd with source := some (sourceOf ((.service 1#32) : Requester) (.host : UpdSource)) } },
     fun c => { c with upd := { c.upd with state := .verified } }, fun c =>
     { c with upd := { c.upd with manifest := some ({ wMan with entries := [{ wPart with part := 1, pflags := 1 }] } : Manifest) } },
     fun c =>
     { c with upd := { c.upd with manifest := some { wMan with entries := [{ wPart with part := 1, pflags := 1 }] } } },
     wFb] : State), ((.service 1#32) : Requester), (.host : UpdSource),
     { wMan with entries := [{ wPart with part := 1, pflags := 1 }] }, by decide +kernel⟩,
   ⟨(st [fun c => { c with upd := { c.upd with manifest := some ({ wMan with entries := [] } : Manifest) } }, fun c
     => { c with sup := { c.sup with mode := .activationPause } }, fun c =>
     { c with upd := { c.upd with state := .activating } }, fun c =>
     { c with upd := { c.upd with manifest := some { wMan with entries := [] } } }] : State),
     { wMan with entries := [] }, by decide +kernel⟩,
   ⟨(st [fun c => { c with upd := { c.upd with manifest := some wMan } }, fun c =>
     { c with sup := { c.sup with mode := .activationPause } }, fun c =>
     { c with upd := { c.upd with state := .activating } }] : State), wMan, by decide +kernel⟩,
   ⟨(st [fun c =>
     { c with upd := { c.upd with manifest := some ({ wMan with entries := [{ wPart with part := 1, pflags := 1 }] } : Manifest) } },
     fun c => { c with sup := { c.sup with mode := .activationPause } }, fun c =>
     { c with upd := { c.upd with state := .activating } }, fun c =>
     { c with upd := { c.upd with manifest := some { wMan with entries := [{ wPart with part := 1, pflags := 1 }] } } }]
     : State), { wMan with entries := [{ wPart with part := 1, pflags := 1 }] }, by decide +kernel⟩,
   ⟨(st [fun c =>
     { c with upd := { c.upd with source := some (sourceOf ((.service 1#32) : Requester) (.host : UpdSource)) } },
     fun c => { c with upd := { c.upd with state := .pending } }, fun c =>
     { c with upd := { c.upd with manifest := some wMan } }] : State), ((.service 1#32) : Requester), (.host :
     UpdSource), wMan, by decide +kernel⟩,
   ⟨(st [fun c =>
     { c with upd := { c.upd with source := some (sourceOf ((.host 0 1) : Requester) (.host : UpdSource)) } }, fun
     c => { c with upd := { c.upd with state := .pending } }, fun c =>
     { c with upd := { c.upd with manifest := some ({ wMan with entries := [{ wPart with part := 7 }] } : Manifest) } },
     fun c =>
     { c with upd := { c.upd with manifest := some { wMan with entries := [{ wPart with part := 7 }] }, source := some .host } },
     fun c => { c with sup := { c.sup with ready := 0x9F } }, fun c =>
     { c with host := { c.host with inflight := [⟨0, 0, 1, 0x0705, 0, .update, false, false, none⟩] } }] : State),
     ((.host 0 1) : Requester), (.host : UpdSource), { wMan with entries := [{ wPart with part := 7 }] },
     by decide +kernel⟩,
   ⟨(st [fun c => { c with upd := { c.upd with state := .pending } }, fun c =>
     { c with upd := { c.upd with manifest := some wMan } }, fun c =>
     { c with upd := { c.upd with savedS := 1800 } }] : State), wMan, 0, by decide +kernel⟩,
   ⟨(st [fun c =>
     { c with upd := { c.upd with source := some (sourceOf ((.service 1#32) : Requester) (.host : UpdSource)) } },
     fun c => { c with upd := { c.upd with state := .pending } }, fun c =>
     { c with upd := { c.upd with manifest := some wMan } }] : State), ((.service 1#32) : Requester), (.host :
     UpdSource), wMan, by decide +kernel⟩,
   ⟨(st [fun c => { c with upd := { c.upd with state := .pending } }] : State), by decide +kernel⟩,
   ⟨(st [fun c => { c with upd := { c.upd with restartDue := true } }] : State), by decide +kernel⟩,
   ⟨(st [wFb] : State), by decide +kernel⟩⟩

theorem witness_FeltReception :
    (∃ (c : Chip) (h : FeltHdr) (typ : Nat), (h.src, typ, h.epoch, h.seq) ∉ c.fab.forwarded) ∧
    (∃ (c : Chip) (h : FeltHdr) (typ : Nat), (h.src, typ, h.epoch, h.seq) ∈ c.fab.forwarded) ∧
    (∃ (typ : Nat), linkType typ = true) :=
  ⟨⟨(st []).chip, (⟨0,9,5,1,1,none⟩ : FeltHdr), 0, by decide +kernel⟩,
   ⟨(forwardFlood (st []).chip ⟨0, 9, 5, 1, 1, none⟩ 0), (⟨0,9,5,1,1,none⟩ : FeltHdr), 0, by decide +kernel⟩,
   ⟨1, by decide +kernel⟩⟩

theorem witness_FeltPorts :
    (∃ (s : State) (h : FeltHdr), usesFrame s.chip h 0x01 = true) ∧
    (∃ (s : State) (h : FeltHdr), usesFrame s.chip h 0x01 = true) ∧
    (∃ (s : State) (p : FPort), s.chip.fab.mode ≠ .off ∧ keyOk s.chip = true ∧ portUp (fport s.chip p.val) = true) ∧
    (∃ (s : State) (p : FPort), (s.chip.fab.mode = .off ∨ keyOk s.chip = false ∨ portUp (fport s.chip p.val) =
      false)) ∧
    (∃ (s : State) (p : FPort), (fport s.chip p.val).state = .training) ∧
    (∃ (s : State) (p : FPort), (fport s.chip p.val).state ≠ .training) ∧
    (∃ (s : State) (p : FPort), (fport s.chip p.val).state = .training) ∧
    (∃ (s : State) (p : FPort) (n : Bool), portUp (fport s.chip p.val) = true ∧ ((fport s.chip p.val).explained =
      true ∨ n = true)) ∧
    (∃ (s : State) (p : FPort), portUp (fport s.chip p.val) = true ∧ (fport s.chip p.val).explained = false) ∧
    (∃ (s : State) (p : FPort), portUp (fport s.chip p.val) = false) ∧
    (∃ (s : State) (p : FPort) (sb : Bool), portUp (fport s.chip p.val) = true ∧ (fport s.chip p.val).state ≠ (if
      sb then .standby else .full)) ∧
    (∃ (s : State) (p : FPort) (sb : Bool), (portUp (fport s.chip p.val) = false ∨ (fport s.chip p.val).state = (if
      sb then .standby else .full))) ∧
    (∃ (s : State) (p : FPort), windowClosed s.chip (Reg.FAB_PORT_ERR p.val) = false) ∧
    (∃ (s : State) (h : FeltHdr) (w : FrameFault), (w = .hcrc ∨ w = .typ ∨ keyOk s.chip = false ∨ portUp (fport
      s.chip h.port.val) = false)) ∧
    (∃ (s : State) (h : FeltHdr), keyOk s.chip = true ∧ portUp (fport s.chip h.port.val) = true ∧ (lastSecond
      s.chip (fport s.chip h.port.val).fcsAt).length < 16) ∧
    (∃ (s : State) (h : FeltHdr), keyOk s.chip = true ∧ portUp (fport s.chip h.port.val) = true ∧ 16 ≤ (lastSecond
      s.chip (fport s.chip h.port.val).fcsAt).length) ∧
    (∃ (s : State) (h : FeltHdr), keyOk s.chip = true ∧ portUp (fport s.chip h.port.val) = true ∧ (lastSecond
      s.chip (fport s.chip h.port.val).authAt).length < 16) ∧
    (∃ (s : State) (h : FeltHdr), keyOk s.chip = true ∧ portUp (fport s.chip h.port.val) = true ∧ 16 ≤ (lastSecond
      s.chip (fport s.chip h.port.val).authAt).length) :=
  ⟨⟨(st [] : State), (⟨0,9,5,1,1,none⟩ : FeltHdr), by decide +kernel⟩,
   ⟨(st [] : State), (⟨0,9,5,1,1,none⟩ : FeltHdr), by decide +kernel⟩,
   ⟨(st [] : State), 0, by decide +kernel⟩,
   ⟨(st [fun c => { c with fab := { c.fab with mode := .off } }] : State), 0, by decide +kernel⟩,
   ⟨(st [fun c => modPort c ((0 : FPort).val) (fun x => { x with state := .training })] : State), 0,
     by decide +kernel⟩,
   ⟨(st [] : State), 0, by decide +kernel⟩,
   ⟨(st [fun c => modPort c ((0 : FPort).val) (fun x => { x with state := .training })] : State), 0,
     by decide +kernel⟩,
   ⟨(st [] : State), 0, true, by decide +kernel⟩,
   ⟨(st [fun c => modPort c ((0 : FPort).val) (fun x => { x with explained := false })] : State), 0,
     by decide +kernel⟩,
   ⟨(st [fun c => modPort c 0 (fun x => { x with state := .down })] : State), 0, by decide +kernel⟩,
   ⟨(st [] : State), 0, true, by decide +kernel⟩,
   ⟨(st [] : State), 0, false, by decide +kernel⟩,
   ⟨(st [] : State), 0, by decide +kernel⟩,
   ⟨(st [] : State), (⟨0,9,5,1,1,none⟩ : FeltHdr), (.hcrc : FrameFault), by decide +kernel⟩,
   ⟨(st [] : State), (⟨0,9,5,1,1,none⟩ : FeltHdr), by decide +kernel⟩,
   ⟨(st [fun c => modPort c 0 (fun x => { x with fcsAt := List.replicate 16 c.tb.aon })] : State),
     (⟨0,9,5,1,1,none⟩ : FeltHdr), by decide +kernel⟩,
   ⟨(st [] : State), (⟨0,9,5,1,1,none⟩ : FeltHdr), by decide +kernel⟩,
   ⟨(st [fun c => modPort c 0 (fun x => { x with authAt := List.replicate 16 c.tb.aon })] : State),
     (⟨0,9,5,1,1,none⟩ : FeltHdr), by decide +kernel⟩⟩

theorem witness_FabricMembership :
    (∃ (s : State) (h : FeltHdr) (u : BitVec 128) (a : Nat), usesFrame s.chip h 0x02 = true ∧ u ≠ s.chip.tru.unit ∧
      a = s.chip.fab.addr ∧ s.chip.fab.mode ≠ .off ∧ s.chip.tru.unit.toNat ≤ u.toNat) ∧
    (∃ (s : State) (h : FeltHdr) (u : BitVec 128) (a : Nat) (k : Nat), usesFrame s.chip h 0x02 = true ∧ u ≠
      s.chip.tru.unit ∧ a = s.chip.fab.addr ∧ s.chip.fab.mode ≠ .off ∧ u.toNat < s.chip.tru.unit.toNat ∧ k < 1024 ∧
      s.chip.fab.probe ≤ k ∧ taken s.chip ((homeAddr s.chip + k) % 1024) = false ∧ (homeAddr s.chip + k) % 1024 ≠
      a) ∧
    (∃ (s : State) (h : FeltHdr) (u : BitVec 128) (a : Nat), usesFrame s.chip h 0x02 = true ∧ u ≠ s.chip.tru.unit ∧
      a ≠ s.chip.fab.addr) ∧
    (∃ (s : State), s.chip.fab.addrValid = false ∧ s.chip.fab.mode ≠ .off) ∧
    (∃ (s : State), (s.chip.fab.addrValid = true ∨ s.chip.fab.mode = .off)) ∧
    (∃ (s : State) (h : FeltHdr) (u : BitVec 128), usesFrame s.chip h 0x03 = true ∧ u ≠ s.chip.tru.unit ∧ h.src ≠
      s.chip.fab.addr) ∧
    (∃ (s : State), s.chip.fab.mode ≠ .off ∧ s.chip.fab.addrValid = true ∧ keyOk s.chip = true) ∧
    (∃ (s : State) (r : LsaRec), r ∈ s.chip.fab.db ∧ r.aged = false) ∧
    (∃ (s : State) (h : FeltHdr) (u : BitVec 128) (r : LsaRec), usesFrame s.chip h 0x0C = true ∧ h.src ≠
      s.chip.fab.addr ∧ s.chip.fab.db.find? (fun e => e.unit == u) = some r) ∧
    (∃ (s : State) (h : FeltHdr) (u : BitVec 128), usesFrame s.chip h 0x0C = true ∧ h.src ≠ s.chip.fab.addr ∧ (∀ e
      ∈ s.chip.fab.db, e.unit ≠ u)) ∧
    (∃ (s : State) (h : FeltHdr) (r : LsaRec), usesFrame s.chip h 0x0E = true ∧ h.src ≠ s.chip.fab.addr ∧ r ∈
      s.chip.fab.db) ∧
    (∃ (s : State) (h : FeltHdr) (a : Nat) (u : BitVec 128), usesFrame s.chip h 0x0E = true ∧ h.src ≠
      s.chip.fab.addr ∧ (∀ e ∈ s.chip.fab.db, ¬ (e.addr = a ∧ e.unit = u))) ∧
    (∃ (s : State) (a : BitVec 10) (r : LsaRec), windowClosed s.chip Reg.FAB_CTRL = false ∧ s.chip.fab.db.find?
      (fun e => e.addr == a.toNat) = some r ∧ keyOk s.chip = true) ∧
    (∃ (s : State) (a : BitVec 10), windowClosed s.chip Reg.FAB_CTRL = false ∧ (∀ e ∈ s.chip.fab.db, e.addr ≠
      a.toNat)) :=
  ⟨⟨(st [] : State), (⟨0,9,5,1,1,none⟩ : FeltHdr), 9, 5, by decide +kernel⟩,
   wMoves,
   ⟨(st [] : State), (⟨0,9,5,1,1,none⟩ : FeltHdr), 0x33#128, 0, by decide +kernel⟩,
   ⟨(st [fun c => { c with fab := { c.fab with addrValid := false } }] : State), by decide +kernel⟩,
   ⟨(st [] : State), by decide +kernel⟩,
   ⟨(st [] : State), (⟨0,9,5,1,1,none⟩ : FeltHdr), 0x33#128, by decide +kernel⟩,
   ⟨(st [fun c => { c with fab := { c.fab with addrValid := true } }] : State), by decide +kernel⟩,
   ⟨(st [fun c => { c with fab := { c.fab with db := [⟨8, 9, 1, 0, 8, [], false, 3600⟩] } }] : State), (⟨8, 9, 1,
     0, 8, [], false, 3600⟩ : LsaRec), by decide +kernel⟩,
   ⟨(st [fun c => { c with fab := { c.fab with db := [⟨8, 9, 1, 0, 8, [], false, 3600⟩] } }] : State),
     (⟨0,9,5,1,1,none⟩ : FeltHdr), 8, (⟨8, 9, 1, 0, 8, [], false, 3600⟩ : LsaRec), by decide +kernel⟩,
   ⟨(st [] : State), (⟨0,9,5,1,1,none⟩ : FeltHdr), 0x33#128, by decide +kernel⟩,
   ⟨(st [fun c => { c with fab := { c.fab with db := [⟨8, 9, 1, 0, 8, [], false, 3600⟩] } }] : State),
     (⟨0,9,5,1,1,none⟩ : FeltHdr), (⟨8, 9, 1, 0, 8, [], false, 3600⟩ : LsaRec), by decide +kernel⟩,
   ⟨(st [] : State), (⟨0,9,5,1,1,none⟩ : FeltHdr), 0, 0x33#128, by decide +kernel⟩,
   ⟨(st [fun c => { c with fab := { c.fab with db := [⟨8, 9, 1, 0, 8, [], false, 3600⟩] } }] : State), 9, (⟨8, 9,
     1, 0, 8, [], false, 3600⟩ : LsaRec), by decide +kernel⟩,
   ⟨(st [] : State), 0, by decide +kernel⟩⟩

theorem witness_FabricTime :
    (∃ (s : State) (h : FeltHdr), usesFrame s.chip h 0x04 = true) ∧
    (∃ (s : State) (p : FPort), s.chip.fab.mode ≠ .off ∧ keyOk s.chip = true ∧ portUp (fport s.chip p.val) = true) ∧
    (∃ (s : State) (p : FPort), (s.chip.fab.mode = .off ∨ keyOk s.chip = false ∨ portUp (fport s.chip p.val) =
      false)) ∧
    (∃ (a : RootInfo) (b : RootInfo), a.cls < b.cls) ∧
    (∃ (c : Chip) (a : RootInfo) (b : RootInfo), a.cls = b.cls ∧ unitOf c a.addr < unitOf c b.addr ∧ a.addr ≠
      b.addr) :=
  ⟨⟨(st [] : State), (⟨0,9,5,1,1,none⟩ : FeltHdr), by decide +kernel⟩,
   ⟨(st [] : State), 0, by decide +kernel⟩,
   ⟨(st [fun c => { c with fab := { c.fab with mode := .off } }] : State), 0, by decide +kernel⟩,
   ⟨(⟨9, 0, 1⟩ : RootInfo), (⟨9, 1, 1⟩ : RootInfo), by decide +kernel⟩,
   ⟨(st []).chip, (⟨5, 1, 1⟩ : RootInfo), (⟨9, 1, 1⟩ : RootInfo), by decide +kernel⟩⟩

theorem witness_AllocationCommands :
    (∃ (s : State) (h : FeltHdr) (d : Demand), usesFrame s.chip h 0x05 = true ∧ h.src ≠ s.chip.fab.addr ∧
      participates s.chip = true ∧ (if s.chip.fab.collecting then s.chip.fab.roundRun ≤ d.round else
      s.chip.fab.roundRun < d.round)) ∧
    (∃ (s : State) (h : FeltHdr) (d : Demand), usesFrame s.chip h 0x05 = true ∧ h.src ≠ s.chip.fab.addr ∧
      (participates s.chip = false ∨ d.round < s.chip.fab.roundRun)) ∧
    (∃ (s : State), s.chip.fab.collecting = true ∧ participates s.chip = true ∧ s.chip.sup.mode ≠ .standby ∧
      s.chip.fab.mode = .deterministic ∧ diverges s.chip s.chip.fab.roundRun = false ∧ partitioned s.chip = false) ∧
    (∃ (s : State), s.chip.fab.collecting = true ∧ participates s.chip = true ∧ s.chip.sup.mode ≠ .standby ∧
      s.chip.fab.mode = .deterministic ∧ diverges s.chip s.chip.fab.roundRun = false ∧ partitioned s.chip = true) ∧
    (∃ (s : State), s.chip.fab.collecting = true ∧ participates s.chip = true ∧ s.chip.sup.mode ≠ .standby ∧
      s.chip.fab.mode = .deterministic ∧ diverges s.chip s.chip.fab.roundRun = true ∧ partitioned s.chip = false) ∧
    (∃ (s : State), s.chip.fab.collecting = true ∧ participates s.chip = true ∧ s.chip.sup.mode ≠ .standby ∧
      s.chip.fab.mode = .fallback ∧ s.chip.fab.milliner = some s.chip.fab.addr) ∧
    (∃ (s : State), s.chip.fab.collecting = true ∧ participates s.chip = true ∧ s.chip.sup.mode ≠ .standby ∧
      s.chip.fab.mode = .fallback ∧ s.chip.fab.milliner ≠ some s.chip.fab.addr) ∧
    (∃ (s : State) (h : FeltHdr) (r : Nat) (m : Nat) (k : Nat) (n : Nat), usesFrame s.chip h 0x06 = true ∧ h.src ≠
      s.chip.fab.addr ∧ participates s.chip = true ∧ s.chip.fab.mode = .fallback ∧ s.chip.fab.milliner = some m ∧ m
      ≠ s.chip.fab.addr ∧ k < n ∧ resultOf s.chip r = none) ∧
    (∃ (s : State) (h : FeltHdr), usesFrame s.chip h 0x06 = true ∧ h.src ≠ s.chip.fab.addr ∧ s.chip.fab.mode ≠
      .fallback) ∧
    (∃ (s : State), cfgBit s.chip Reg.FAB_CFG 2 = true ∧ s.chip.fab.capped = false) ∧
    (∃ (s : State), (cfgBit s.chip Reg.FAB_CFG 2 = false ∨ s.chip.fab.capped = true)) ∧
    (∃ (s : State) (h : FeltHdr) (m : Nat), usesFrame s.chip h 0x10 = true ∧ h.src ≠ s.chip.fab.addr ∧
      s.chip.fab.mode = .fallback ∧ s.chip.fab.milliner = some m) ∧
    (∃ (s : State) (h : FeltHdr) (m : Nat), usesFrame s.chip h 0x10 = true ∧ h.src ≠ s.chip.fab.addr ∧
      s.chip.fab.milliner ≠ some m) ∧
    (∃ (s : State), windowClosed s.chip Reg.FAB_CTRL = false ∧ s.chip.fab.mode = .fallback ∧ s.chip.fab.milliner =
      some s.chip.fab.addr) ∧
    (∃ (s : State), (s.chip.fab.mode ≠ .fallback ∨ s.chip.fab.milliner ≠ some s.chip.fab.addr)) :=
  ⟨⟨(st [fun c => wLive c Reg.FAB_CFG (withBit (liveGet c Reg.FAB_CFG) 2 true)] : State), (⟨0,9,5,1,1,none⟩ :
     FeltHdr), (⟨9, 6, 0, 0, 0, 1, []⟩ : Demand), by decide +kernel⟩,
   ⟨(st [] : State), (⟨0,9,5,1,1,none⟩ : FeltHdr), (⟨9, 6, 0, 0, 0, 1, []⟩ : Demand), by decide +kernel⟩,
   ⟨(st [fun c => { c with fab := { c.fab with collecting := true } }, fun c =>
     { c with fab := { c.fab with mode := .deterministic } }, wAlloc] : State), by decide +kernel⟩,
   ⟨(st [fun c => { c with fab := { c.fab with collecting := true } }, fun c =>
     { c with fab := { c.fab with mode := .deterministic } }, wAlloc, fun c =>
     { c with fab := { c.fab with db := [⟨7, 5, 1, 0, 0, [], false, 3600⟩, ⟨8, 6, 1, 0, 0, [], false, 3600⟩] } }] :
     State), by decide +kernel⟩,
   ⟨(st [fun c => { c with fab := { c.fab with collecting := true } }, fun c =>
     { c with fab := { c.fab with mode := .deterministic } }, wAlloc, fun c =>
     { c with fab := { c.fab with results := [⟨4, 0, 1, [], []⟩], demands := [⟨6, 5, 2, 0, 0, 0, []⟩] } }] :
     State), by decide +kernel⟩,
   ⟨(st [fun c => { c with fab := { c.fab with collecting := true } }, fun c =>
     { c with fab := { c.fab with mode := .fallback } }, wAlloc, fun c =>
     { c with fab := { c.fab with milliner := some 5 } }] : State), by decide +kernel⟩,
   ⟨(st [fun c => { c with fab := { c.fab with collecting := true } }, fun c =>
     { c with fab := { c.fab with mode := .fallback } }, wAlloc] : State), by decide +kernel⟩,
   ⟨(st [fun c => { c with fab := { c.fab with mode := .fallback } }, fun c =>
     { c with fab := { c.fab with milliner := some 9 } }, wAlloc, fun c =>
     { c with fab := { c.fab with milliner := some 9 } }] : State), (⟨0,9,5,1,1,none⟩ : FeltHdr), 0, 9, 1, 2,
     by decide +kernel⟩,
   ⟨(st [] : State), (⟨0,9,5,1,1,none⟩ : FeltHdr), by decide +kernel⟩,
   ⟨(st [fun c => wLive c Reg.FAB_CFG (withBit (liveGet c Reg.FAB_CFG) 2 true), fun c =>
     { c with fab := { c.fab with capped := false } }] : State), by decide +kernel⟩,
   ⟨(st [] : State), by decide +kernel⟩,
   ⟨(st [fun c => { c with fab := { c.fab with mode := .fallback } }, fun c =>
     { c with fab := { c.fab with milliner := some 0 } }] : State), (⟨0,9,5,1,1,none⟩ : FeltHdr), 0,
     by decide +kernel⟩,
   ⟨(st [] : State), (⟨0,9,5,1,1,none⟩ : FeltHdr), 0, by decide +kernel⟩,
   ⟨(st [fun c => { c with fab := { c.fab with mode := .fallback } }, fun c =>
     { c with fab := { c.fab with milliner := some 5 } }] : State), by decide +kernel⟩,
   ⟨(st [] : State), by decide +kernel⟩⟩

theorem witness_FillWithinCapacity :
    (∃ (es : List FillEntry) (cap : Nat) (e : FillEntry), e ∈ fill es cap) :=
  ⟨([⟨1, 0, 1, 1, 0, 10, 0, 0, true⟩] : List FillEntry), 20, (⟨1, 0, 1, 1, 0, 10, 0, 10, true⟩ : FillEntry),
    by decide +kernel⟩

theorem witness_ReplicaCommands :
    (∃ (s : State) (h : FeltHdr) (b : ReplicaOpen) (x : Nat), usesFrame s.chip h 0x07 = true ∧ replicaCtx s.chip
      b.sessionId h.src = none ∧ firstFree s.chip = some x) ∧
    (∃ (s : State) (h : FeltHdr) (b : ReplicaOpen), usesFrame s.chip h 0x07 = true ∧ replicaCtx s.chip b.sessionId
      h.src = none ∧ firstFree s.chip = none) ∧
    (∃ (s : State) (h : FeltHdr) (b : ReplicaUpdate) (x : Nat), usesFrame s.chip h 0x08 = true ∧ replicaCtx s.chip
      b.sessionId h.src = some x) ∧
    (∃ (s : State) (h : FeltHdr) (b : ReplicaUpdate), usesFrame s.chip h 0x08 = true ∧ replicaCtx s.chip
      b.sessionId h.src = none) ∧
    (∃ (s : State) (h : FeltHdr) (i : BitVec 128) (x : Holder), usesFrame s.chip h 0x09 = true ∧ holderAt s.chip i
      h.src = some x ∧ x.state ≠ .closing) ∧
    (∃ (s : State) (h : FeltHdr) (i : BitVec 128) (x : Holder), usesFrame s.chip h 0x09 = true ∧ holderAt s.chip i
      h.src = some x ∧ x.state ≠ .closing) ∧
    (∃ (s : State) (h : FeltHdr) (i : BitVec 128) (r : Nat) (x : Holder), usesFrame s.chip h 0x09 = true ∧ holderAt
      s.chip i h.src = some x ∧ x.state = .closing ∧ (r = 2 ∨ r = 3)) ∧
    (∃ (s : State) (h : FeltHdr) (i : BitVec 128) (w : Nat) (x : Nat), usesFrame s.chip h 0x0A = true ∧ w ≠ 2 ∧
      replicaCtx s.chip i h.src = some x) ∧
    (∃ (s : State) (h : FeltHdr) (i : BitVec 128) (w : Nat), usesFrame s.chip h 0x0A = true ∧ w ≠ 2 ∧ replicaCtx
      s.chip i h.src = none) ∧
    (∃ (s : State) (h : FeltHdr) (i : BitVec 128) (x : Holder), usesFrame s.chip h 0x0A = true ∧ holderAt s.chip i
      h.src = some x ∧ x.state ≠ .closing) ∧
    (∃ (s : State) (i : BitVec 128) (a : Nat) (x : Holder), holderAt s.chip i a = some x ∧ x.state ≠ .closing) ∧
    (∃ (s : State) (i : BitVec 128) (a : Nat), holderAt s.chip i a = none) ∧
    (∃ (s : State) (o : Outlet) (x : Nat) (r : LsaRec) (l : List LsaRec), liveCtx s.chip o.val = some x ∧
      roleMissing s.chip (ctxOf s.chip x).sessionId true = true ∧ replicaCandidates
      { s.chip with repl := { s.chip.repl with refused := s.chip.repl.refused.filter (fun e => e.1 != (ctxOf s.chip x).sessionId) } }
      (ctxOf s.chip x).sessionId = r :: l) ∧
    (∃ (s : State) (o : Outlet), liveCtx s.chip o.val = none) ∧
    (∃ (s : State) (i : BitVec 128) (a : Nat) (x : Holder), holderAt s.chip i a = some x ∧ x.state = .closing) ∧
    (∃ (s : State) (x : Ctx) (also : Bool), (ctxOf s.chip x.val).bstate = .replica ∧ originGone s.chip (ctxOf
      s.chip x.val) = true ∧ ((ctxOf s.chip x.val).primary = true ∨ also = true)) ∧
    (∃ (s : State) (x : Ctx), originGone s.chip (ctxOf s.chip x.val) = false) ∧
    (∃ (s : State) (h : FeltHdr) (i : BitVec 128) (g : Nat) (x : Nat), usesFrame s.chip h 0x0B = true ∧ h.src ≠
      s.chip.fab.addr ∧ g ≠ s.chip.fab.addr ∧ replicaCtx s.chip i g = some x) ∧
    (∃ (s : State) (h : FeltHdr) (i : BitVec 128) (st : Nat) (x : Nat) (o : Outlet), usesFrame s.chip h 0x0B = true
      ∧ h.src ≠ s.chip.fab.addr ∧ st ≠ s.chip.fab.addr ∧ ctxOfSession s.chip i = some x ∧ (ctxOf s.chip x).bstate =
      .live ∧ (ctxOf s.chip x).outlet = o.val ∧ (outletOf s.chip o.val).state = .energised) ∧
    (∃ (s : State) (h : FeltHdr) (i : BitVec 128) (st : Nat), usesFrame s.chip h 0x0B = true ∧ h.src ≠
      s.chip.fab.addr ∧ st ≠ s.chip.fab.addr ∧ ctxOfSession s.chip i = none) :=
  ⟨⟨(st [] : State), (⟨0,9,5,1,1,none⟩ : FeltHdr), wOpen, 0, by decide +kernel⟩,
   ⟨(st [fun c =>
     { c with sess := { c.sess with ctxs := (List.range 256).map (fun n => (n, { Context.init with bstate := .live })) } }]
     : State), (⟨0,9,5,1,1,none⟩ : FeltHdr), wOpen, by decide +kernel⟩,
   ⟨(st [fun c => setCtx c 0
     { Context.init with bstate := .replica, sessionId := 0x33#128, replOrigin := 9, primary := true, price := List.replicate 36 0#32 }]
     : State), (⟨0,9,5,1,1,none⟩ : FeltHdr), wUpdate, 0, by decide +kernel⟩,
   ⟨(st [] : State), (⟨0,9,5,1,1,none⟩ : FeltHdr), wUpdate, by decide +kernel⟩,
   ⟨(st [fun c => { c with repl := { c.repl with holders := [wHolder] } }] : State), (⟨0,9,5,1,1,none⟩ : FeltHdr),
     0x33, wHolder, by decide +kernel⟩,
   ⟨(st [fun c => { c with repl := { c.repl with holders := [wHolder] } }] : State), (⟨0,9,5,1,1,none⟩ : FeltHdr),
     0x33, wHolder, by decide +kernel⟩,
   ⟨(st [fun c => { c with repl := { c.repl with holders := [{ wHolder with state := .closing }] } }] : State),
     (⟨0,9,5,1,1,none⟩ : FeltHdr), 0x33, 2, { wHolder with state := .closing }, by decide +kernel⟩,
   ⟨(st [fun c => setCtx c 0
     { Context.init with bstate := .replica, sessionId := 0x33#128, replOrigin := 9, primary := true, price := List.replicate 36 0#32 }]
     : State), (⟨0,9,5,1,1,none⟩ : FeltHdr), 0x33, 0, 0, by decide +kernel⟩,
   ⟨(st [] : State), (⟨0,9,5,1,1,none⟩ : FeltHdr), 0x33#128, 0, by decide +kernel⟩,
   ⟨(st [fun c => { c with repl := { c.repl with holders := [wHolder] } }] : State), (⟨0,9,5,1,1,none⟩ : FeltHdr),
     0x33, wHolder, by decide +kernel⟩,
   ⟨(st [fun c => { c with repl := { c.repl with holders := [wHolder] } }] : State), 0x33, 9, wHolder,
     by decide +kernel⟩,
   ⟨(st [] : State), 0x33#128, 0, by decide +kernel⟩,
   ⟨(st [wSess .live, fun c => modOutlet c 0 (fun x => { x with ctx := some 0 }), fun c =>
     { c with fab := { c.fab with db := [⟨8, 9, 1, 0, 8, [⟨5, 0, 100, 1⟩], false, 3600⟩] } }, fun c => modPort c 0
     (fun x => { x with nbr := some 9, answered := true, state := .full })] : State), 0, 0, (⟨8, 9, 1, 0, 8, [⟨5,
     0, 100, 1⟩], false, 3600⟩ : LsaRec), ([] : List LsaRec), by decide +kernel⟩,
   ⟨(st [] : State), 0, by decide +kernel⟩,
   ⟨(st [fun c => { c with repl := { c.repl with holders := [{ wHolder with state := .closing }] } }] : State),
     0x33, 9, { wHolder with state := .closing }, by decide +kernel⟩,
   ⟨(st [fun c => wCtx c ((0 : Ctx).val) (fun x => { x with bstate := .replica }), fun c => wCtx c ((0 : Ctx).val)
     (fun x => { x with primary := true ∨ false = true })] : State), 0, false, by decide +kernel⟩,
   ⟨(st [fun c => setCtx c 0
     { Context.init with bstate := .replica, sessionId := 0x33#128, replOrigin := 9, primary := true, price := List.replicate 36 0#32 },
     fun c => { c with fab := { c.fab with db := [⟨8, 9, 1, 0, 8, [], false, 3600⟩] } }, fun c =>
     { c with fab := { c.fab with addr := 9 } }] : State), 0, by decide +kernel⟩,
   ⟨(st [fun c => setCtx c 0
     { Context.init with bstate := .replica, sessionId := 0x33#128, replOrigin := 9, primary := true, price := List.replicate 36 0#32 }]
     : State), (⟨0,8,5,1,1,none⟩ : FeltHdr), 0x33, 9, 0, by decide +kernel⟩,
   ⟨(st [fun c => wCtx c (0) (fun x => { x with bstate := .live }), fun c => wCtx c (0) (fun x =>
     { x with outlet := (0 : Outlet).val }), fun c => modOutlet c ((0 : Outlet).val) (fun x =>
     { x with state := .energised }), wSess .live] : State), (⟨0,9,5,1,1,none⟩ : FeltHdr), 0x33, 9, 0, 0,
     by decide +kernel⟩,
   ⟨(st [] : State), (⟨0,9,5,1,1,none⟩ : FeltHdr), 0x33#128, 0, by decide +kernel⟩⟩

theorem witness_FaultReports :
    (∃ (r : Report), 152 ≤ r.src) ∧
    (∃ (s : State) (r : Report), r.src < 152 ∧ s.chip.flt.restored = false) ∧
    (∃ (s : State) (r : Report), s.chip.flt.restored = true ∧ underReset s.chip (ownerBlock r.src) = true) ∧
    (∃ (s : State) (r : Report), r.src < 152 ∧ underReset s.chip (ownerBlock r.src) = false ∧ ownerSilent s.chip
      r.src = true) ∧
    (∃ (s : State) (r : Report) (x : Src), Accepts s.chip r.src ∧ x = srcOf s.chip r.src ∧ (x.state = .ok ∨ x.state
      = .active ∨ x.state = .quiet) ∧ (reactOf s.chip r.src = 0 ∨ 4 ≤ reactOf s.chip r.src) ∧ occurrences s.chip
      { x with occ := (aonSec s.chip :: x.occ).take 15 } < permLimit s.chip r.src ∧ s.chip.blt.queue.length < 256) ∧
    (∃ (s : State) (r : Report) (x : Src), Accepts s.chip r.src ∧ x = srcOf s.chip r.src ∧ (x.state = .ok ∨ x.state
      = .active ∨ x.state = .quiet) ∧ (reactOf s.chip r.src = 0 ∨ 4 ≤ reactOf s.chip r.src) ∧ permLimit s.chip
      r.src ≤ occurrences s.chip { x with occ := (aonSec s.chip :: x.occ).take 15 } ∧ chanOf r.src = none ∧ classS
      s.chip r.src = false) ∧
    (∃ (s : State) (r : Report) (x : Src), Accepts s.chip r.src ∧ x = srcOf s.chip r.src ∧ (x.state = .ok ∨ x.state
      = .active ∨ x.state = .quiet) ∧ (reactOf s.chip r.src = 0 ∨ 4 ≤ reactOf s.chip r.src) ∧ permLimit s.chip
      r.src ≤ occurrences s.chip { x with occ := (aonSec s.chip :: x.occ).take 15 } ∧ 64 ≤ r.src ∧ r.src < 80) ∧
    (∃ (s : State) (r : Report) (x : Src), Accepts s.chip r.src ∧ x = srcOf s.chip r.src ∧ (x.state = .permanent ∨
      x.state = .retired) ∧ s.chip.blt.queue.length < 256) ∧
    (∃ (s : State) (r : Report) (x : Src), Accepts s.chip r.src ∧ x = srcOf s.chip r.src ∧ (x.state = .ok ∨ x.state
      = .active ∨ x.state = .quiet) ∧ reactOf s.chip r.src = 1 ∧ occurrences s.chip
      { x with occ := (aonSec s.chip :: x.occ).take 15 } < permLimit s.chip r.src) ∧
    (∃ (s : State) (r : Report) (x : Src), Accepts s.chip r.src ∧ x = srcOf s.chip r.src ∧ (x.state = .ok ∨ x.state
      = .active ∨ x.state = .quiet) ∧ reactOf s.chip r.src = 2 ∧ occurrences s.chip
      { x with occ := (aonSec s.chip :: x.occ).take 15 } < permLimit s.chip r.src ∧ (ownerBlock r.src).resettable =
      true ∧ s.chip.sup.mode ≠ .holdUp) ∧
    (∃ (s : State) (r : Report) (x : Src), Accepts s.chip r.src ∧ x = srcOf s.chip r.src ∧ (x.state = .ok ∨ x.state
      = .active ∨ x.state = .quiet) ∧ (reactOf s.chip r.src = 2 ∨ reactOf s.chip r.src = 3) ∧ occurrences s.chip
      { x with occ := (aonSec s.chip :: x.occ).take 15 } < permLimit s.chip r.src ∧ s.chip.sup.mode = .holdUp ∧
      r.src ≠ 151 ∧ s.chip.blt.queue.length < 256) ∧
    (∃ (c : Chip) (a : Nat) (b : Nat), reactOf c a = 2 ∧ reactOf c b = 2 ∧ ownerBlock a = ownerBlock b ∧
      (ownerBlock a).resettable = true ∧ underReset c (ownerBlock a) = false ∧ c.sup.mode ≠ .holdUp) ∧
    (∃ (s : State) (r : Report) (x : Src), Accepts s.chip r.src ∧ x = srcOf s.chip r.src ∧ (x.state = .ok ∨ x.state
      = .active ∨ x.state = .quiet) ∧ r.src ≠ 151 ∧ reactOf s.chip r.src = 3 ∧ occurrences s.chip
      { x with occ := (aonSec s.chip :: x.occ).take 15 } < permLimit s.chip r.src ∧ s.chip.sup.mode ≠ .holdUp) :=
  ⟨⟨(⟨152, 2, 0, false⟩ : Report), by decide +kernel⟩,
   ⟨(st [fun c => { c with flt := { c.flt with restored := false } }] : State), (⟨124,2,0,false⟩ : Report),
     by decide +kernel⟩,
   ⟨(st [fun c => { c with flt := { c.flt with restored := true } }, fun c =>
     { c with flt := { c.flt with resets := [.pixel] } }] : State), (⟨147, 2, 0, false⟩ : Report),
     by decide +kernel⟩,
   ⟨(st [fun c => { c with sup := { c.sup with fence := 127 } }] : State), (⟨147, 2, 0, false⟩ : Report),
     by decide +kernel⟩,
   ⟨(st [fun c => { c with flt := { c.flt with restored := true } }] : State), (⟨124,2,0,false⟩ : Report), (srcOf
     (st [fun c => { c with flt := { c.flt with restored := true } }]).chip (⟨124,2,0,false⟩ : Report).src), by
     unfold Accepts; decide +kernel⟩,
   ⟨(st [fun c => { c with flt := { c.flt with restored := true } }, fun c => wLive c (Reg.FLT_SRC_CFG 124)
     0x1020#32] : State), (⟨124,2,0,false⟩ : Report), (srcOf (st [fun c =>
     { c with flt := { c.flt with restored := true } }, fun c => wLive c (Reg.FLT_SRC_CFG 124) 0x1020#32]).chip
     (⟨124,2,0,false⟩ : Report).src), by unfold Accepts; decide +kernel⟩,
   ⟨(st [fun c => { c with flt := { c.flt with restored := true } }, fun c => wLive c (Reg.FLT_SRC_CFG 64)
     0x1020#32] : State), (⟨64, 2, 0, false⟩ : Report), (srcOf (st [fun c =>
     { c with flt := { c.flt with restored := true } }, fun c => wLive c (Reg.FLT_SRC_CFG 64) 0x1020#32]).chip
     (⟨64, 2, 0, false⟩ : Report).src), by unfold Accepts; decide +kernel⟩,
   ⟨(st [fun c => { c with flt := { c.flt with restored := true } }, fun c => wSrc c 124 (fun x =>
     { x with state := .permanent })] : State), (⟨124,2,0,false⟩ : Report), (srcOf (st [fun c =>
     { c with flt := { c.flt with restored := true } }, fun c => wSrc c 124 (fun x =>
     { x with state := .permanent })]).chip (⟨124,2,0,false⟩ : Report).src), by unfold Accepts; decide +kernel⟩,
   ⟨(st [fun c => { c with flt := { c.flt with restored := true } }, fun c => wLive c (Reg.FLT_SRC_CFG 124)
     0x5021#32] : State), (⟨124,2,0,false⟩ : Report), (srcOf (st [fun c =>
     { c with flt := { c.flt with restored := true } }, fun c => wLive c (Reg.FLT_SRC_CFG 124) 0x5021#32]).chip
     (⟨124,2,0,false⟩ : Report).src), by unfold Accepts; decide +kernel⟩,
   ⟨(st [fun c => { c with flt := { c.flt with restored := true } }, fun c => wLive c (Reg.FLT_SRC_CFG 147)
     0x5022#32] : State), (⟨147, 2, 0, false⟩ : Report), (srcOf (st [fun c =>
     { c with flt := { c.flt with restored := true } }, fun c => wLive c (Reg.FLT_SRC_CFG 147) 0x5022#32]).chip
     (⟨147, 2, 0, false⟩ : Report).src), by unfold Accepts; decide +kernel⟩,
   ⟨(st [fun c => { c with flt := { c.flt with restored := true } }, fun c =>
     { c with sup := { c.sup with mode := .holdUp } }, fun c => wLive c (Reg.FLT_SRC_CFG 124) 0x5023#32] : State),
     (⟨124,2,0,false⟩ : Report), (srcOf (st [fun c => { c with flt := { c.flt with restored := true } }, fun c =>
     { c with sup := { c.sup with mode := .holdUp } }, fun c => wLive c (Reg.FLT_SRC_CFG 124) 0x5023#32]).chip
     (⟨124,2,0,false⟩ : Report).src), by unfold Accepts; decide +kernel⟩,
   ⟨(wLive (st []).chip (Reg.FLT_SRC_CFG 147) 0x5022#32), 147, 147, by decide +kernel⟩,
   ⟨(st [fun c => { c with flt := { c.flt with restored := true } }, fun c => wLive c (Reg.FLT_SRC_CFG 124)
     0x5023#32] : State), (⟨124,2,0,false⟩ : Report), (srcOf (st [fun c =>
     { c with flt := { c.flt with restored := true } }, fun c => wLive c (Reg.FLT_SRC_CFG 124) 0x5023#32]).chip
     (⟨124,2,0,false⟩ : Report).src), by unfold Accepts; decide +kernel⟩⟩

theorem witness_FaultFollowUp :
    (∃ (n : Nat), n ≠ 117) ∧
    (∃ (s : State) (n : Nat), (srcOf s.chip n).state = .quiet ∧ s.chip.blt.queue.length < 256) ∧
    (∃ (s : State) (n : Nat), (srcOf s.chip n).state ≠ .quiet) ∧
    (∃ (s : State) (n : Nat), s.chip.flt.checks.find? (fun k => k.src == n && k.complete) = none) ∧
    (∃ (s : State) (n : Nat) (k : Check), s.chip.flt.checks.find? (fun k => k.src == n && k.complete) = some k ∧
      (srcOf s.chip n).present = false) ∧
    (∃ (s : State) (n : Nat) (k : Check) (r : Region), s.chip.flt.checks.find? (fun k => k.src == n && k.complete)
      = some k ∧ (srcOf s.chip n).present = true ∧ s.chip.sup.mode ≠ .holdUp ∧ k.level = 1 ∧ k.block.region? = some
      r ∧ r ≠ .sup) ∧
    (∃ (s : State) (n : Nat) (k : Check), s.chip.flt.checks.find? (fun k => k.src == n && k.complete) = some k ∧
      (srcOf s.chip n).present = true ∧ s.chip.sup.mode ≠ .holdUp ∧ (k.level ≠ 1 ∨ k.block.region? = some .sup ∨
      k.block.region? = none)) ∧
    (∃ (s : State) (n : Nat) (k : Check), s.chip.flt.checks.find? (fun k => k.src == n && k.complete) = some k ∧
      (srcOf s.chip n).present = true ∧ s.chip.sup.mode = .holdUp ∧ s.chip.blt.queue.length < 256) ∧
    (∃ (s : State) (n : Nat), windowClosed s.chip Reg.FLT_CMD = false ∧ (srcOf s.chip n).state ≠ .permanent ∧
      (srcOf s.chip n).state ≠ .retired) ∧
    (∃ (s : State) (n : Nat), windowClosed s.chip Reg.FLT_CMD = false ∧ ((srcOf s.chip n).state = .permanent ∨
      (srcOf s.chip n).state = .retired) ∧ clearAccepted s.chip n = false) ∧
    (∃ (s : State) (n : Nat), windowClosed s.chip Reg.FLT_CMD = false ∧ ((srcOf s.chip n).state = .permanent ∨
      (srcOf s.chip n).state = .retired) ∧ clearAccepted s.chip n = true ∧ chanOf n = none) ∧
    (∃ (s : State) (n : Nat), windowClosed s.chip Reg.FLT_CMD = false ∧ (srcOf s.chip n).state = .retired ∧ 64 ≤ n
      ∧ n < 80) ∧
    (∃ (s : State) (n : Nat), windowClosed s.chip Reg.FLT_CMD = false ∧ (srcOf s.chip n).state = .retired ∧ n < 64) ∧
    (∃ (s : State), windowClosed s.chip Reg.FLT_CMD = false) ∧
    (∃ (s : State) (w : Fin 16) (b : Nat), windowClosed s.chip (Reg.FLT_FORCE w.val) = false ∧ b < 32 ∧ 32 * w.val
      + b < 152 ∧ classS s.chip (32 * w.val + b) = false ∧ bitOf (regGet s.chip (Reg.FLT_FORCE w.val)) b = false) ∧
    (∃ (s : State) (w : Fin 16) (b : Nat), windowClosed s.chip (Reg.FLT_FORCE w.val) = false ∧ b < 32 ∧ bitOf
      (regGet s.chip (Reg.FLT_FORCE w.val)) b = true) ∧
    (∃ (s : State) (w : Fin 16) (b : Nat), windowClosed s.chip (Reg.FLT_FORCE w.val) = false ∧ b < 32 ∧ 32 * w.val
      + b < 152 ∧ classS s.chip (32 * w.val + b) = true ∧ s.chip.sup.mode ≠ .factoryTest ∧ bitOf (regGet s.chip
      (Reg.FLT_FORCE w.val)) b = false) ∧
    (∃ (s : State) (w : Fin 16) (b : Nat), windowClosed s.chip (Reg.FLT_FORCE w.val) = false ∧ b < 32 ∧ 80 ≤ 32 *
      w.val + b ∧ 32 * w.val + b < 88 ∧ s.chip.sup.mode = .factoryTest ∧ bitOf (regGet s.chip (Reg.FLT_FORCE
      w.val)) b = false) :=
  ⟨⟨0, by decide +kernel⟩,
   ⟨(st [fun c => wSrc c (0) (fun x => { x with state := .quiet })] : State), 0, by decide +kernel⟩,
   ⟨(st [] : State), 0, by decide +kernel⟩,
   ⟨(st [] : State), 0, by decide +kernel⟩,
   ⟨(st [fun c => wSrc c (124) (fun x => { x with present := false }), fun c =>
     { c with flt := { c.flt with checks := [⟨124, 2, .pixel, true⟩] } }] : State), 124, (⟨124, 2, .pixel, true⟩ :
     Check), by decide +kernel⟩,
   ⟨(st [fun c => wSrc c (124) (fun x => { x with present := true }), fun c =>
     { c with flt := { c.flt with checks := [⟨124, 1, .pixel, true⟩] } }] : State), 124, (⟨124, 1, .pixel, true⟩ :
     Check), (.dsp : Region), by decide +kernel⟩,
   ⟨(st [fun c => wSrc c (124) (fun x => { x with present := true }), fun c =>
     { c with flt := { c.flt with checks := [⟨124, 2, .pixel, true⟩] } }] : State), 124, (⟨124, 2, .pixel, true⟩ :
     Check), by decide +kernel⟩,
   ⟨(st [fun c => wSrc c (124) (fun x => { x with present := true }), fun c =>
     { c with sup := { c.sup with mode := .holdUp } }, fun c =>
     { c with flt := { c.flt with checks := [⟨124, 2, .pixel, true⟩] } }] : State), 124, (⟨124, 2, .pixel, true⟩ :
     Check), by decide +kernel⟩,
   ⟨(st [] : State), 0, by decide +kernel⟩,
   ⟨(st [fun c => wSrc c 80 (fun x => { x with state := .permanent }), wFb] : State), 80, by decide +kernel⟩,
   ⟨(st [fun c => wSrc c 124 (fun x => { x with state := .retired })] : State), 124, by decide +kernel⟩,
   ⟨(st [fun c => wSrc c (64) (fun x => { x with state := .retired })] : State), 64, by decide +kernel⟩,
   ⟨(st [fun c => wSrc c (0) (fun x => { x with state := .retired })] : State), 0, by decide +kernel⟩,
   ⟨(st [] : State), by decide +kernel⟩,
   ⟨(st [] : State), 0, 0, by decide +kernel⟩,
   ⟨(st [fun c => regPut c (Reg.FLT_FORCE 0) 1#32] : State), 0, 0, by decide +kernel⟩,
   ⟨(st [] : State), 2, 16, by decide +kernel⟩,
   ⟨(st [fun c => { c with sup := { c.sup with mode := .factoryTest } }] : State), 2, 16, by decide +kernel⟩⟩

theorem witness_BlotterCommands :
    (∃ (s : State), (s.chip.blt.ready = false ∨ s.chip.blt.queue = [])) ∧
    (∃ (s : State) (r : BltRec) (l : List BltRec), s.chip.blt.ready = true ∧ s.chip.blt.queue = r :: l ∧ cfgBit
      s.chip Reg.BLT_CFG 3 = false ∧ s.chip.blt.slots.length < bltSlots) ∧
    (∃ (s : State) (r : BltRec) (n : BltRec) (l : List BltRec) (k : Nat), s.chip.blt.ready = true ∧
      s.chip.blt.queue = r :: l ∧ cfgBit s.chip Reg.BLT_CFG 3 = true ∧ newestRec s.chip.blt.slots = some (k, n) ∧
      mergesInto r n = true) ∧
    (∃ (s : State) (r : BltRec) (v : BltRec) (l : List BltRec) (k : Nat), s.chip.blt.ready = true ∧
      s.chip.blt.queue = r :: l ∧ cfgBit s.chip Reg.BLT_CFG 3 = false ∧ bltSlots ≤ s.chip.blt.slots.length ∧ victim
      s.chip.blt.slots r.sev = some (k, v)) ∧
    (∃ (s : State) (r : BltRec) (l : List BltRec), s.chip.blt.ready = true ∧ s.chip.blt.queue = r :: l ∧ cfgBit
      s.chip Reg.BLT_CFG 3 = false ∧ bltSlots ≤ s.chip.blt.slots.length ∧ victim s.chip.blt.slots r.sev = none) ∧
    (∃ (s : State), windowClosed s.chip Reg.BLT_WIN_CTRL = false) ∧
    (∃ (s : State) (r : BltRec), windowClosed s.chip Reg.BLT_WIN_CTRL = false ∧ s.chip.blt.window.getLast? = some
      r) ∧
    (∃ (s : State), s.chip.blt.winBusy = true) ∧
    (∃ (s : State), s.chip.blt.winBusy = false) :=
  ⟨⟨(st [] : State), by decide +kernel⟩,
   ⟨(st [fun c => { c with blt := { c.blt with ready := true } }, fun c =>
     { c with blt := { c.blt with queue := wBlt :: ([] : List BltRec) } }, fun c => wLive c Reg.BLT_CFG (withBit
     (liveGet c Reg.BLT_CFG) 3 false)] : State), wBlt, ([] : List BltRec), by decide +kernel⟩,
   ⟨(st [fun c => { c with blt := { c.blt with ready := true } }, fun c =>
     { c with blt := { c.blt with queue := wBlt :: ([] : List BltRec) } }, fun c => wLive c Reg.BLT_CFG (withBit
     (liveGet c Reg.BLT_CFG) 3 true), fun c => { c with blt := { c.blt with slots := [(0, wBlt)] } }] : State),
     wBlt, wBlt, ([] : List BltRec), 0, by decide +kernel⟩,
   ⟨st [fun c =>
     { c with blt := { c.blt with ready := true, queue := [wBlt], slots := List.replicate 65536 (0, wBlt) } }, fun
     c => wLive c Reg.BLT_CFG 0#32], wBlt, wBlt, [], 0, by decide +kernel, by decide +kernel, by decide +kernel,
     le_of_eq List.length_replicate.symm, victim_same wBlt 65535 _⟩,
   ⟨st [fun c =>
     { c with blt := { c.blt with ready := true, queue := [wBlt], slots := List.replicate 65536 (0, { wBlt with sev := 3 }) } },
     fun c => wLive c Reg.BLT_CFG 0#32], wBlt, [], by decide +kernel, by decide +kernel, by decide +kernel,
     le_of_eq List.length_replicate.symm, victim_same { wBlt with sev := 3 } 65535 _⟩,
   ⟨(st [] : State), by decide +kernel⟩,
   ⟨(st [fun c => { c with blt := { c.blt with window := [wBlt] } }] : State), wBlt, by decide +kernel⟩,
   ⟨(st [fun c => { c with blt := { c.blt with winBusy := true } }] : State), by decide +kernel⟩,
   ⟨(st [fun c => { c with blt := { c.blt with winBusy := false } }] : State), by decide +kernel⟩⟩

theorem witness_StepRunsFront :
    (∃ (s : State), s.pending = []) :=
  ⟨(st [] : State), by decide +kernel⟩

theorem witness_HardwareIdentity :
    (∃ (s : State), fenced s.chip .sup = false) :=
  ⟨(st [] : State), by decide +kernel⟩

theorem witness_EveryCommandAnswers :
    (∃ (a : Nat), 0x8000000 ≤ a) ∧
    (∃ (a : Nat), 0x8000000 ≤ a) ∧
    (∃ (bs : List Byte), bs.length ≠ 64) :=
  ⟨⟨0x8000000, by decide +kernel⟩,
   ⟨0x8000000, by decide +kernel⟩,
   ⟨([] : List Byte), by decide +kernel⟩⟩

theorem witness_WorkTurnedAway :
    (∃ (c : Chip) (b : Block) (r : Region), b.region? = some r ∧ b ≠ .ringEngine ∧ regionReady c r = false ∧
      (regionUpdating c r = false ∨ r = .svc)) ∧
    (∃ (c : Chip) (b : Block) (r : Region), b.region? = some r ∧ regionUpdating c r = true ∧ r ≠ .svc) :=
  ⟨⟨(st [fun c => { c with sup := { c.sup with ready := 0 } }]).chip, (.pixel : Block), (.dsp : Region),
     by decide +kernel⟩,
   ⟨(st [fun c =>
     { c with upd := { c.upd with state := .activating, manifest := some { readManifest wManifest with entries := [{ readEntry [] 0 with part := 7 }] } } }]).chip,
     (.pixel : Block), (.dsp : Region), by decide +kernel⟩⟩

theorem witness_CycleCount :
    (∃ (s : State), s.chip.tb.known = true ∧ dieRuns s.chip = true) ∧
    (∃ (s : State), dieRuns s.chip = false) :=
  ⟨⟨(st [fun c => { c with tb := { c.tb with known := true } }] : State), by decide +kernel⟩,
   ⟨(st [wMode .off] : State), by decide +kernel⟩⟩

theorem witness_StandbyDemand :
    (∃ (c : Chip), c.sup.mode = .standby) ∧
    (∃ (s : State), s.chip.sup.mode = .standby ∧ s.chip.fab.collecting = true) ∧
    (∃ (c : Chip), c.sup.mode = .standby) ∧
    (∃ (c : Chip), c.fab.computed < 2) ∧
    (∃ (c : Chip), c.fab.computed < 2) ∧
    (∃ (c : Chip) (r : Nat) (a : AllocResult), c.sup.mode ≠ .standby ∧ c.fab.mode = .deterministic ∧ c.fab.computed
      = 2 ∧ resultOf c r = some a) :=
  ⟨⟨(st [wMode .standby]).chip, by decide +kernel⟩,
   ⟨(st [fun c => { c with sup := { c.sup with mode := .standby } }, fun c =>
     { c with fab := { c.fab with collecting := true } }] : State), by decide +kernel⟩,
   ⟨(st [wMode .standby]).chip, by decide +kernel⟩,
   ⟨{ (st []).chip with fab := { (st []).chip.fab with computed := 1 } }, by decide +kernel⟩,
   ⟨{ (st []).chip with fab := { (st []).chip.fab with computed := 1 } }, by decide +kernel⟩,
   ⟨{ (st []).chip with fab := { (st []).chip.fab with computed := 2, results := [⟨4, 0, 1, [], []⟩] } }, 4, (⟨4,
     0, 1, [], []⟩ : AllocResult), by decide +kernel⟩⟩

theorem witness_StepKeepsMemoryForm : ∃ s t : State, Sys2Proof.Inv s ∧ step s = .next t := ⟨st [], st [], by unfold Sys2Proof.Inv; decide +kernel, rfl⟩

theorem witness_FusesOneWay :
    (∃ s t : State, FusesSound s.fuses ∧ step s = .next t) ∧
    (∃ (s t : State) (i : Instr), exec i s = .next t ∧ (∀ k v, i ≠ .lifecycleToken k v) ∧
      (∀ u a b c d, i ≠ .blankToFactory u a b c d) ∧ (∀ r q, i ≠ .updConfirm r q) ∧
      (∀ a b c d e, i ≠ .resetRelease a b c d e)) :=
  ⟨⟨st [], st [], fun _ => by decide +kernel, rfl⟩,
   ⟨st [], _, .remask, rfl, by simp, by simp, by simp, by simp⟩⟩

theorem witness_MemoryFrame :
    (∃ (s t : State) (i : Instr), exec i s = .next t ∧ (∀ r a b, i ≠ .dspWrite r a b) ∧ ∀ u, i ≠ .dramWipeDone u) ∧
    (∃ (s t : State) (r : Requester) (o : Nat) (bs : List Byte) (a : Nat), exec (.dspWrite r o (some bs)) s = .next t ∧
      (a < o ∨ o + bs.length ≤ a)) ∧
    (∃ (s t : State) (r : Requester) (o : Nat), exec (.dspWrite r o none) s = .next t) ∧
    (∃ (s t : State) (u : Nat), exec (.dramWipeDone u) s = .next t) :=
  ⟨⟨st [], _, .remask, rfl, by simp, by simp⟩,
   ⟨st [], _, .service 1#32, 0x1C000000, [1, 2, 3, 4], 0x1C000004, rfl, by decide⟩,
   ⟨st [], _, .service 1#32, 0x1C000000, rfl⟩, ⟨st [], _, 5, rfl⟩⟩

theorem witness_EveryCommandAnswers_all : ∃ i : Instr, wellSent i = true := ⟨.registerWrite 0 0, rfl⟩

theorem witness_CycleCount_kept : ∃ (s t : State) (i : Instr), exec i s = .next t ∧ s.chip.tb.known = true ∧
    ∀ p b, i ≠ .angleZero p b :=
  ⟨st [], _, .remask, rfl, by decide +kernel, by simp⟩

theorem witness_FeltReception_frames :
    (∃ (s : State) (i : Instr) (h : FeltHdr) (typ : Nat) (flood : Bool), frameOf i = some (h, typ, flood) ∧
      (keyOk s.chip = false ∨ portUp (fport s.chip h.port.val) = false ∨ h.ttl = 0 ∨ ownEcho s.chip i = true)) ∧
    (∃ (s : State) (i : Instr) (h : FeltHdr) (typ : Nat) (flood : Bool), frameOf i = some (h, typ, flood) ∧
      keyOk s.chip = true ∧ portUp (fport s.chip h.port.val) = true ∧ h.ttl ≠ 0 ∧ ownEcho s.chip i = false ∧
      forMe s.chip h typ = true ∧ stale s.chip h typ = true) ∧
    (∃ (s : State) (i : Instr) (h : FeltHdr) (typ a p : Nat), frameOf i = some (h, typ, false) ∧ linkType typ = false ∧
      keyOk s.chip = true ∧ portUp (fport s.chip h.port.val) = true ∧ h.ttl ≠ 0 ∧ h.dst = some a ∧
      a ≠ s.chip.fab.addr ∧ portToward s.chip a = some p ∧ carries s.chip p typ = true) :=
  ⟨⟨st [], .leave ⟨0, 5, 4, 1, 1, none⟩ 7 0, _, _, _, rfl, by decide +kernel⟩,
   ⟨st [fun c => { c with fab := { c.fab with heard := [(64 * 9 + 0x0C, (1, 1))] } }], .leave ⟨0, 9, 4, 1, 1, none⟩ 9 0,
     _, _, _, rfl, by decide +kernel⟩,
   ⟨st [fun c => { c with fab := { c.fab with db := [⟨8, 9, 1, 0, 8, [⟨5, 0, 100, 1⟩], false, 3600⟩] } },
      fun c => modPort c 0 (fun x => { x with nbr := some 9, answered := true, state := .full })],
     .replicaAck ⟨0, 8, 4, 1, 1, some 9⟩ 0x33 0 0, _, _, 9, 0, rfl, by decide +kernel⟩⟩

theorem witness_WorkTurnedAway_requests :
    (∃ (s : State) (req : Requester) (st : Status), admitted s.chip req 0x0305 = true ∧
      turnAway s.chip .tariff = some st) ∧
    (∃ (s : State) (req : Requester) (st : Status), admitted s.chip req 0x0306 = true ∧
      turnAway s.chip .legalLog = some st) ∧
    (∃ (s : State) (req : Requester) (o : Outlet) (st : Status), admitted s.chip req 0x0401 = true ∧
      turnAway s.chip (.outletEngine o) = some st) ∧
    (∃ (s : State) (req : Requester) (sid : BitVec 128) (st : Status), admitted s.chip req 0x0402 = true ∧
      turnAway s.chip (stopBlock s.chip sid) = some st) ∧
    (∃ (s : State) (req : Requester) (st : Status), admitted s.chip req 0x0601 = true ∧
      turnAway s.chip .pixel = some st) ∧
    (∃ (s : State) (req : Requester), admitted s.chip req 0x0305 = false ∧ admitted s.chip req 0x0306 = false ∧
      admitted s.chip req 0x0401 = false ∧ admitted s.chip req 0x0402 = false ∧ admitted s.chip req 0x0601 = false) :=
  ⟨⟨wFenced, .service 1#32, .notReady, by decide +kernel⟩, ⟨wFenced, .service 1#32, .notReady, by decide +kernel⟩,
   ⟨wFenced, .service 1#32, 0, .notReady, by decide +kernel⟩, ⟨wFenced, .service 1#32, 0x33, .notReady, by decide +kernel⟩,
   ⟨wFenced, .service 1#32, .notReady, by decide +kernel⟩, ⟨wFenced, .host 0 1#32, by decide +kernel⟩⟩

end Sys2Proof.Tests
end

section
/-! PROOFS. What a read of a read-only register returns (R8), and the identity register SUP_ID (R29). -/

namespace Sys2Proof

open Machine

/-- R8, R10: a read of a read-only register whose window answers shows its view. -/
theorem readReg_ro (s : State) {a : Nat} {r : RegRow} (hopen : windowClosed s.chip a = false) (hal : a % 4 = 0)
    (hrow : regRow a = some r) (hacc : r.acc = .ro) : readReg s a = wordOf (statusView s.chip s.fuses a) := by
  simp [readReg, hopen, hal, hrow, hacc]

/-- R16, R64: only the supervisor's fence closes SUP_ID; Scrapped does not. -/
theorem windowClosed_SUP_ID (c : Chip) : windowClosed c Reg.SUP_ID = fenced c .sup := by
  simp [windowClosed, accessRegion, Reg.SUP_ID]

theorem regRow_SUP_ID : regRow Reg.SUP_ID = some ⟨"SUP_ID", 0x8000, [], .ro, 0x08800300, 0x0⟩ := by decide

theorem regReset_SUP_ID : regReset Reg.SUP_ID = 0x08800300#32 := by decide

theorem statusView_SUP_ID (c : Chip) (f : Fuses) : statusView c f Reg.SUP_ID = 0x08800300 := rfl

/-- R29: the word that SUP_ID returns, in every state whose supervisor window answers. -/
theorem readReg_SUP_ID (s : State) (hf : fenced s.chip .sup = false) : readReg s Reg.SUP_ID = 0x08800300#32 := by
  have hopen : windowClosed s.chip Reg.SUP_ID = false := (windowClosed_SUP_ID s.chip).trans hf
  rw [readReg_ro s hopen rfl regRow_SUP_ID rfl, statusView_SUP_ID]
  rfl

/-- Settles O53: SUP_ID returns the one word 0x08800300, its reset value, whose fields are read off. -/
theorem hardwareIdentity : Obligations.HardwareIdentity := by
  intro s hf
  rw [readReg_SUP_ID s hf]
  have htype : fieldOf 0x08800300#32 31 16 = 0x0880 := by decide
  have hstep : fieldOf 0x08800300#32 15 8 = 0x03 := by decide
  have hlow : fieldOf 0x08800300#32 7 0 = 0 := by decide
  exact ⟨htype, hstep, hlow, regReset_SUP_ID, _, regRow_SUP_ID, rfl⟩

end Sys2Proof
end

section
/-! PROOFS. A module reset lets the sequence under way land its setting after its cause is recorded (R41, R53), and what
that does to a cause bit when the setting names SUP_RST_CAUSE (R52, R55). -/

namespace Sys2Proof

open Machine

/-- A sequence with one setting, which clears WDOG of SUP_RST_CAUSE. NS_WRITE and NS_SEQ submit no such setting (R478), but
a state may hold it: nothing ties `ns.active` to the non-shadowable registers. -/
def wdogClearingSeq : NsSeq :=
  { todo := [⟨Reg.SUP_RST_CAUSE, ResetCause.wdog.bit, ResetCause.wdog.bit, 0⟩], safeLeft := 0, done := 0, total := 1,
    owner := none, wait := false }

/-- A module in Operational with every FBn closed and that sequence under way. -/
def wdogClearingState : State :=
  { State.reset with chip := { Chip.reset with
      sup := { Sup.reset with mode := .operational }
      ns := { NsState.reset with active := some wdogClearingSeq }
      pwd := { Pwd.reset with fb := 0xFF#8 } } }

theorem exec_watchdogExpiry (s : State) : exec .watchdogExpiry s = .next { s with chip := watchdog s.chip } := rfl

theorem ModuleReset.cause_recorded {c d : Chip} {cause : ResetCause} {cold : Bool} (h : ModuleReset c d cause cold) :
    immBit d Reg.SUP_RST_CAUSE cause.bit = true := by
  obtain ⟨_, hcause, _⟩ := h
  exact hcause

/-- WATCHDOG_EXPIRY answers one next state, so what it answers holds of the chip that `watchdog` leaves. -/
theorem watchdog_of_answers {s : State} {P : State → Prop} (h : Answers .watchdogExpiry s P) :
    P { s with chip := watchdog s.chip } := by
  obtain ⟨t, ht, hP⟩ := h
  rw [exec_watchdogExpiry] at ht
  cases ht
  exact hP

theorem mayAskReset_wdogClearingState : mayAskReset wdogClearingState.chip = true := by decide

theorem anyEnergised_wdogClearingState : anyEnergised wdogClearingState.chip = true := by decide

/-- R41: the landing clears the bit that the reset recorded before it. -/
theorem watchdog_loses_cause :
    immBit (watchdog wdogClearingState.chip) Reg.SUP_RST_CAUSE ResetCause.wdog.bit = false := by decide +kernel

/-- Refutes O5: a watchdog reset records its cause and then lets the setting of the sequence under way land (R41). Where that
setting names SUP_RST_CAUSE, which the statement does not exclude, it clears the bit again, and `ModuleReset` does not hold. -/
theorem not_softwareResetRefusal : ¬ Obligations.SoftwareResetRefusal := by
  unfold Obligations.SoftwareResetRefusal
  rintro ⟨-, -, -, -, hwatchdog, -⟩
  have hanswer := hwatchdog wdogClearingState mayAskReset_wdogClearingState anyEnergised_wdogClearingState
  obtain ⟨-, hreset⟩ := watchdog_of_answers hanswer
  have hkept := hreset.cause_recorded
  rw [watchdog_loses_cause] at hkept
  exact Bool.false_ne_true hkept

end Sys2Proof
end

section
/-! PROOFS. The frame of the cycle count (R99): what every operation leaves of the timebase. `f_tb` says that f leaves
the whole timebase, `f_cycle` that it leaves the count, `f_count` also whether the count is known. The rules of this
part carry a frame through branches and folds, and say of a command's outcome that it leaves the count.

Where the update of a register or a channel would be checked by unfolding it (`regPut_tb` and its like hold by `rfl`),
`simp -implicitDefEqProofs` has the kernel check the rule's use instead. -/

namespace Sys2Proof.Machine

@[simp] theorem ite_tb (p : Prop) [Decidable p] (c d : Chip) : (if p then c else d).tb = if p then c.tb else d.tb :=
  apply_ite Chip.tb p c d
@[simp] theorem ite_cycle (p : Prop) [Decidable p] (t u : Timebase) :
    (if p then t else u).cycle = if p then t.cycle else u.cycle := apply_ite Timebase.cycle p t u
@[simp] theorem ite_known (p : Prop) [Decidable p] (t u : Timebase) :
    (if p then t else u).known = if p then t.known else u.known := apply_ite Timebase.known p t u



@[simp] theorem foldl_tb {α : Type} (f : Chip → α → Chip) (l : List α) (c : Chip)
    (h : ∀ c a, (f c a).tb = c.tb) : (l.foldl f c).tb = c.tb := by
  induction l generalizing c with
  | nil => rfl
  | cons a l ih => rw [List.foldl_cons, ih, h]

@[simp] theorem foldl_cycle {α : Type} (f : Chip → α → Chip) (l : List α) (c : Chip)
    (h : ∀ c a, (f c a).tb.cycle = c.tb.cycle) : (l.foldl f c).tb.cycle = c.tb.cycle := by
  induction l generalizing c with
  | nil => rfl
  | cons a l ih => rw [List.foldl_cons, ih, h]

@[simp] theorem foldl_known {α : Type} (f : Chip → α → Chip) (l : List α) (c : Chip)
    (h : ∀ c a, (f c a).tb.known = c.tb.known) : (l.foldl f c).tb.known = c.tb.known := by
  induction l generalizing c with
  | nil => rfl
  | cons a l ih => rw [List.foldl_cons, ih, h]

/-- R99: what a command answers in the state `s` leaves the cycle count as it is. -/
def KeepsCycle (s : State) (o : Host.Outcome State Fault Refusal) : Prop :=
  ∀ t, o = .next t → t.chip.tb.cycle = s.chip.tb.cycle

@[simp] theorem keepsCycle_next (s t : State) : KeepsCycle s (.next t) ↔ t.chip.tb.cycle = s.chip.tb.cycle :=
  ⟨fun h => h t rfl, fun h _ e => by cases e; exact h⟩
@[simp] theorem keepsCycle_fault (s : State) (f : Fault) : KeepsCycle s (.fault f) := fun _ e => nomatch e
@[simp] theorem keepsCycle_onChip (s : State) (f : Chip → Chip) :
    KeepsCycle s (onChip s f) ↔ (f s.chip).tb.cycle = s.chip.tb.cycle := by rw [onChip, keepsCycle_next]
@[simp] theorem keepsCycle_ite (s : State) (p : Prop) [Decidable p] (o q : Host.Outcome State Fault Refusal) :
    KeepsCycle s (if p then o else q) ↔ if p then KeepsCycle s o else KeepsCycle s q := by
  split_ifs <;> rfl

end Sys2Proof.Machine
end

section
/-! PROOFS. The frame of the cycle count: registers, events and completions (R8, R26, R354, R472). -/

namespace Sys2Proof.Machine

@[simp] theorem reach_tb (c : Chip) (a : Nat) (f : Chip → Chip) (h : ∀ c, (f c).tb = c.tb) :
    (reach c a f).tb = c.tb := by
  unfold reach; split_ifs <;> simp [h]
@[simp] theorem reach_cycle (c : Chip) (a : Nat) (f : Chip → Chip) (h : ∀ c, (f c).tb.cycle = c.tb.cycle) :
    (reach c a f).tb.cycle = c.tb.cycle := by
  unfold reach; split_ifs <;> simp [h]
@[simp] theorem readActs_tb (c : Chip) (a : Nat) (f : Chip → Chip × Word) (h : ∀ c, (f c).1.tb = c.tb) :
    (readActs c a f).tb = c.tb := by
  unfold readActs; split_ifs <;> simp [h]
@[simp] theorem perform_tb (c : Chip) (req : Requester) (op : Nat) (b : Block) (act : Chip → Chip)
    (h : ∀ c, (act c).tb = c.tb) : (perform c req op b act).tb = c.tb := by
  unfold perform; dsimp only; (repeat' split) <;> simp [h]
@[simp] theorem perform_cycle (c : Chip) (req : Requester) (op : Nat) (b : Block) (act : Chip → Chip)
    (h : ∀ c, (act c).tb.cycle = c.tb.cycle) : (perform c req op b act).tb.cycle = c.tb.cycle := by
  unfold perform; dsimp only; (repeat' split) <;> simp [h]

end Sys2Proof.Machine
end

section
/-! PROOFS. The frame of the cycle count: causes of legal log entries (R219 to R222). -/

namespace Sys2Proof.Machine

@[simp] theorem legalEntry_tb (c : Chip) (typ point : Nat) (body : List Byte) (ctx : Option Nat) :
    (legalEntry c typ point body ctx).tb = c.tb := by simp [legalEntry]
@[simp] theorem pointStateEntry_tb (c : Chip) (m old new cause lane : Nat) :
    (pointStateEntry c m old new cause lane).tb = c.tb := by simp [pointStateEntry]
@[simp] theorem unmeasuredEntry_tb (c : Chip) (m first last wall0 wall1 reason : Nat) :
    (unmeasuredEntry c m first last wall0 wall1 reason).tb = c.tb := by simp [unmeasuredEntry]
@[simp] theorem openUnmeasured_tb (c : Chip) (m reason : Nat) : (openUnmeasured c m reason).tb = c.tb := by
  unfold openUnmeasured; split <;> simp
@[simp] theorem closeUnmeasured_tb (c : Chip) (m : Nat) : (closeUnmeasured c m).tb = c.tb := by
  unfold closeUnmeasured; split <;> simp

end Sys2Proof.Machine
end

section
/-! PROOFS. The frame of the cycle count: lanes, points and commit slots (R128, R139, R153 to R173). -/

namespace Sys2Proof.Machine

@[simp] theorem trainLane_tb (c : Chip) (n : Nat) : (trainLane c n).tb = c.tb := by simp [trainLane]
@[simp] theorem laneOff_tb (c : Chip) (n : Nat) : (laneOff c n).tb = c.tb := by simp [laneOff]
@[simp] theorem calSwitched_tb (c : Chip) (n : Nat) : (calSwitched c n).tb = c.tb := by simp [calSwitched]
@[simp] theorem feedLane_tb (c : Chip) (n : Nat) (ps : List Period) (miss : Nat) :
    (feedLane c n ps miss).tb = c.tb := by simp [feedLane]
@[simp] theorem finishSample_tb (c : Chip) (n : Nat) (dcPoint : Bool) :
    (finishSample c n dcPoint).tb = c.tb := by
  unfold finishSample; dsimp only; (repeat' split) <;> simp
@[simp] theorem takeSample_tb (xs : List LaneSample) (dcPoint : Bool) (c : Chip) (n : Nat) :
    (takeSample xs dcPoint c n).tb = c.tb := by simp [takeSample]
@[simp] theorem measurePoint_tb (c : Chip) (m : Nat) : (measurePoint c m).tb = c.tb := by simp [measurePoint]
@[simp] theorem samplePoint_tb (xs : List LaneSample) (c : Chip) (m : Nat) :
    (samplePoint xs c m).tb = c.tb := by simp [samplePoint]
@[simp] theorem sampleCal_tb (c : Chip) : (sampleCal c).tb = c.tb := by simp [sampleCal]
@[simp] theorem netTotal_tb (c : Chip) (m : Nat) (p : Int) : (netTotal c m p).tb = c.tb := by simp [netTotal]
@[simp] theorem putInst_tb (c : Chip) (m p : Nat) (vals : List Int) : (putInst c m p vals).tb = c.tb := by
  simp -implicitDefEqProofs [putInst]
@[simp] theorem clearInst_tb (c : Chip) (m : Nat) (rows : List Nat) : (clearInst c m rows).tb = c.tb := by
  simp [clearInst]
@[simp] theorem netPoint_tb (dur : Nat) (c : Chip) (m : Nat) : (netPoint dur c m).tb = c.tb := by simp [netPoint]
@[simp] theorem netAll_tb (dur : Nat) (c : Chip) : (netAll dur c).tb = c.tb := by simp [netAll]
@[simp] theorem putRing_tb (c : Chip) (k : Nat) (r : RingSlot) : (putRing c k r).tb = c.tb := by simp [putRing]
@[simp] theorem tearSlot_tb (c : Chip) : (tearSlot c).tb = c.tb := by
  unfold tearSlot; split <;> simp
@[simp] theorem dispatchSlot_tb (c : Chip) (sl : CommitSlot) : (dispatchSlot c sl).tb = c.tb := by simp [dispatchSlot]

end Sys2Proof.Machine
end

section
/-! PROOFS. The frame of the cycle count: Felt frames and the topology (R370 to R399). -/

namespace Sys2Proof.Machine

@[simp] theorem countFelt_tb (c : Chip) (typ : Nat) : (countFelt c typ).tb = c.tb := by simp [countFelt]
@[simp] theorem sendLink_tb (c : Chip) (p typ : Nat) (payload : List Byte) :
    (sendLink c p typ payload).tb = c.tb := by simp [sendLink]
@[simp] theorem sendFlood_tb (c : Chip) (typ : Nat) (payload : List Byte) :
    (sendFlood c typ payload).tb = c.tb := by simp [sendFlood]
@[simp] theorem sendTo_tb (c : Chip) (typ dst : Nat) (payload : List Byte) :
    (sendTo c typ dst payload).tb = c.tb := by
  unfold sendTo; split <;> simp
@[simp] theorem floodLsa_tb (c : Chip) : (floodLsa c).tb = c.tb := by simp [floodLsa]
@[simp] theorem floodLeave_tb (c : Chip) (reason : Nat) : (floodLeave c reason).tb = c.tb := by simp [floodLeave]
@[simp] theorem fabEvt_tb (c : Chip) (b : Nat) : (fabEvt c b).tb = c.tb := by simp [fabEvt]
@[simp] theorem modPort_tb (c : Chip) (p : Nat) (f : FPortSt → FPortSt) : (modPort c p f).tb = c.tb := by
  simp [modPort]
@[simp] theorem wakeLinks_tb (c : Chip) : (wakeLinks c).tb = c.tb := by simp [wakeLinks]
@[simp] theorem followMilliner_tb (c : Chip) : (followMilliner c).tb = c.tb := by simp [followMilliner]
@[simp] theorem yieldMilliner_tb (c : Chip) : (yieldMilliner c).tb = c.tb := by simp [yieldMilliner]
@[simp] theorem topoChanged_tb (c : Chip) (membership : Bool) : (topoChanged c membership).tb = c.tb := by
  simp [topoChanged]
@[simp] theorem askHolder_tb (c : Chip) (x : Nat) (primary : Bool) (r : LsaRec) :
    (askHolder c x primary r).tb = c.tb := by simp [askHolder]
@[simp] theorem placeReplicas_tb (c : Chip) (x : Nat) : (placeReplicas c x).tb = c.tb := by
  unfold placeReplicas; dsimp only; (repeat' split) <;> simp
@[simp] theorem sendUpdates_tb (c : Chip) (x : Nat) : (sendUpdates c x).tb = c.tb := by simp [sendUpdates]
@[simp] theorem sendClose_tb (c : Chip) (sid : BitVec 128) (addr reason seq : Nat) :
    (sendClose c sid addr reason seq).tb = c.tb := by simp [sendClose]
@[simp] theorem closeHolders_tb (c : Chip) (x seq : Nat) : (closeHolders c x seq).tb = c.tb := by simp [closeHolders]

end Sys2Proof.Machine
end

section
/-! PROOFS. The frame of the cycle count: session contexts (R198, R395). -/

namespace Sys2Proof.Machine

@[simp] theorem freeCtx_tb (c : Chip) (x : Nat) : (freeCtx c x).tb = c.tb := by simp [freeCtx]
theorem claimCtx_tb {c d : Chip} {x : Nat} (h : claimCtx c = some (x, d)) : d.tb = c.tb := by
  unfold claimCtx at h
  (repeat' split at h) <;> cases h <;> simp

theorem startSession_tb {c d : Chip} {o ptable : Nat} {authRef : BitVec 128} {host : Bool} {tag : Word} {x : Nat}
    (h : startSession c o ptable authRef host tag = some (x, d)) : d.tb = c.tb := by
  unfold startSession at h
  split at h
  · cases h
  · next hclaim => cases h; simp [claimCtx_tb hclaim]

@[simp] theorem stopCtx_tb (c : Chip) (x : Nat) (flags : BitVec 16) : (stopCtx c x flags).tb = c.tb := by
  simp [stopCtx]
@[simp] theorem settleCtx_tb (c : Chip) (x : Nat) : (settleCtx c x).tb = c.tb := by simp [settleCtx]
@[simp] theorem endSessions_tb (c : Chip) : (endSessions c).tb = c.tb := by
  unfold endSessions; split <;> simp
@[simp] theorem settleAll_tb (c : Chip) : (settleAll c).tb = c.tb := by simp [settleAll]
@[simp] theorem tryFree_tb (c : Chip) (x : Nat) : (tryFree c x).tb = c.tb := by
  unfold tryFree; dsimp only; (repeat' split) <;> simp
@[simp] theorem announceSettled_tb (c : Chip) (sid : BitVec 128) (origin seq : Nat) :
    (announceSettled c sid origin seq).tb = c.tb := by simp [announceSettled]
@[simp] theorem bodyLogged_tb (c : Chip) (x seq : Nat) : (bodyLogged c x seq).tb = c.tb := by
  unfold bodyLogged; dsimp only; (repeat' split) <;> simp
@[simp] theorem flagLive_tb (c : Chip) (flags : BitVec 16) : (flagLive c flags).tb = c.tb := by simp [flagLive]

end Sys2Proof.Machine
end

section
/-! PROOFS. The frame of the cycle count: calendars, intervals and prices (R180 to R206). -/

namespace Sys2Proof.Machine

@[simp] theorem armPassive_tb (c : Chip) : (armPassive c).tb = c.tb := by simp [armPassive]
@[simp] theorem disarmPassive_tb (c : Chip) : (disarmPassive c).tb = c.tb := by simp [disarmPassive]
@[simp] theorem clearPassive_tb (c : Chip) : (clearPassive c).tb = c.tb := by simp [clearPassive]
@[simp] theorem stepAddr_tb (c : Chip) (a hi : Nat) : (stepAddr c a hi).tb = c.tb := by simp [stepAddr]
@[simp] theorem tblWrite_tb (c : Chip) (w : Word) : (tblWrite c w).tb = c.tb := by simp [tblWrite]
@[simp] theorem loadCalendar_tb (c : Chip) (req : Requester) (instant : Nat) (ws : List Word) :
    (loadCalendar c req instant ws).tb = c.tb := by simp [loadCalendar]
@[simp] theorem publishPrices_tb (c : Chip) (table : Nat) (ws : List Word) :
    (publishPrices c table ws).tb = c.tb := by simp [publishPrices]
@[simp] theorem setInt_tb (c : Chip) (m : Nat) (i : Interval) : (setInt c m i).tb = c.tb := by simp [setInt]
@[simp] theorem closeDemand_tb (c : Chip) (m : Nat) (flags : BitVec 16) (restart : Bool) (rate : Nat) :
    (closeDemand c m flags restart rate).tb = c.tb := by simp [closeDemand]
@[simp] theorem openDemand_tb (c : Chip) (m : Nat) (flags : BitVec 16) : (openDemand c m flags).tb = c.tb := by
  simp [openDemand]
@[simp] theorem closeBilling_tb (c : Chip) (m : Nat) (flags : BitVec 16) (billEnd rate : Nat) :
    (closeBilling c m flags billEnd rate).tb = c.tb := by simp [closeBilling]
@[simp] theorem openBilling_tb (c : Chip) (m : Nat) (flags : BitVec 16) :
    (openBilling c m flags).tb = c.tb := by simp [openBilling]
@[simp] theorem accountCycle_tb (dur : Nat) (c : Chip) (m : Nat) : (accountCycle dur c m).tb = c.tb := by
  unfold accountCycle; dsimp only; (repeat' split) <;> simp
@[simp] theorem demandEvent_tb (c : Chip) (k : Closes) (b0 b : Nat) : (demandEvent c k b0 b).tb = c.tb := by
  simp [demandEvent]
@[simp] theorem billingEvent_tb (c : Chip) (k : Closes) (b0 b : Nat) : (billingEvent c k b0 b).tb = c.tb := by
  simp [billingEvent]
@[simp] theorem mdEvent_tb (c : Chip) : (mdEvent c).tb = c.tb := by simp [mdEvent]
@[simp] theorem activate_tb (c : Chip) : (activate c).tb = c.tb := by simp [activate]
@[simp] theorem tariffEvent_tb (c : Chip) (b : Nat) : (tariffEvent c b).tb = c.tb := by simp [tariffEvent]

@[simp] theorem openIntervals_tb (c : Chip) (k : Closes) (b0 b : Nat) :
    (openIntervals c k b0 b).tb = c.tb := by
  unfold openIntervals
  extract_lets +lift fresh start dem bil d
  have hd : d.tb = c.tb := foldl_tb _ _ _ fun c m => by simp
  clear_value d
  exact hd

@[simp] theorem priceWrite_tb (c : Chip) (w : Word) : (priceWrite c w).tb = c.tb := by simp [priceWrite]
theorem execCalTblWrite_keepsCycle (value : Word) (s : State) : KeepsCycle s (execCalTblWrite value s) := by
  simp [execCalTblWrite]
theorem execCalTblRead_keepsCycle (s : State) : KeepsCycle s (execCalTblRead s) := by simp [execCalTblRead]
theorem execPasCtrlArm_keepsCycle (s : State) : KeepsCycle s (execPasCtrlArm s) := by simp [execPasCtrlArm]
theorem execPasCtrlDisarm_keepsCycle (s : State) : KeepsCycle s (execPasCtrlDisarm s) := by simp [execPasCtrlDisarm]
theorem execPasCtrlClear_keepsCycle (s : State) : KeepsCycle s (execPasCtrlClear s) := by simp [execPasCtrlClear]
theorem execPriceDataWrite_keepsCycle (value : Word) (s : State) :
    KeepsCycle s (execPriceDataWrite value s) := by simp [execPriceDataWrite]
theorem execPriceDataRead_keepsCycle (s : State) : KeepsCycle s (execPriceDataRead s) := by simp [execPriceDataRead]
theorem execPriceCtrlPublish_keepsCycle (s : State) : KeepsCycle s (execPriceCtrlPublish s) := by
  simp [execPriceCtrlPublish]
theorem execPriceCtrlClear_keepsCycle (s : State) : KeepsCycle s (execPriceCtrlClear s) := by
  simp [execPriceCtrlClear]
theorem execMdCtrlReset_keepsCycle (s : State) : KeepsCycle s (execMdCtrlReset s) := by simp [execMdCtrlReset]
theorem execCalLoad_keepsCycle (req : Requester) (instant : Nat) (words : Option (List Word)) (s : State) :
    KeepsCycle s (execCalLoad req instant words s) := by
  unfold execCalLoad; split <;> simp
theorem execCalCtrl_keepsCycle (req : Requester) (command : Nat) (s : State) :
    KeepsCycle s (execCalCtrl req command s) := by simp [execCalCtrl]
theorem execPricePublish_keepsCycle (req : Requester) (table : Nat) (words : Option (List Word)) (s : State) :
    KeepsCycle s (execPricePublish req table words s) := by
  unfold execPricePublish; split <;> simp
theorem execMdReset_keepsCycle (req : Requester) (creq : Nat) (s : State) :
    KeepsCycle s (execMdReset req creq s) := by simp [execMdReset]

end Sys2Proof.Machine
end

section
/-! PROOFS. The frame of the cycle count: the scheduler and the outlets (R109, R244 to R268). -/

namespace Sys2Proof.Machine

@[simp] theorem atAngle_cycle (c : Chip) (angle : Nat) : (atAngle c angle).tb.cycle = c.tb.cycle := by simp [atAngle]
@[simp] theorem book_count (c : Chip) (b : Booking) :
    (book c b).1.tb.cycle = c.tb.cycle ∧ (book c b).1.tb.known = c.tb.known := by
  unfold book; dsimp only; (repeat' split) <;> simp
@[simp] theorem unbook_count (c : Chip) (p : BookKind → Bool) :
    (unbook c p).tb.cycle = c.tb.cycle ∧ (unbook c p).tb.known = c.tb.known := by simp [unbook]
@[simp] theorem rebook_cycle (c : Chip) : (rebook c).tb.cycle = c.tb.cycle := by simp [rebook]
@[simp] theorem releaseCoil_tb (c : Chip) (o : Nat) : (releaseCoil c o).tb = c.tb := by simp [releaseCoil]
@[simp] theorem commandCoil_tb (c : Chip) (o : Nat) (on : Bool) : (commandCoil c o on).tb = c.tb := by
  simp [commandCoil]
@[simp] theorem setBadLines_tb (c : Chip) (v : BitVec 8) : (setBadLines c v).tb = c.tb := by simp [setBadLines]
@[simp] theorem setGate_tb (c : Chip) (o : Nat) (b : Bool) : (setGate c o b).tb = c.tb := by simp [setGate]
@[simp] theorem withdrawLine_tb (c : Chip) (o cause : Nat) : (withdrawLine c o cause).tb = c.tb := by
  simp [withdrawLine]
@[simp] theorem processorOff_count (c : Chip) (o : Nat) :
    (processorOff c o).tb.cycle = c.tb.cycle ∧ (processorOff c o).tb.known = c.tb.known := by simp [processorOff]
@[simp] theorem pilotSteady_tb (c : Chip) (o : Nat) : (pilotSteady c o).tb = c.tb := by simp [pilotSteady]
@[simp] theorem pilotDuty_tb (c : Chip) (o duty : Nat) : (pilotDuty c o duty).tb = c.tb := by simp [pilotDuty]
@[simp] theorem pilotF_tb (c : Chip) (o : Nat) : (pilotF c o).tb = c.tb := by simp [pilotF]
@[simp] theorem driveLock_tb (c : Chip) (o : Nat) (lock : Bool) : (driveLock c o lock).tb = c.tb := by
  simp [driveLock]
@[simp] theorem sendCan_tb (c : Chip) (b typ dst : Nat) (data : List Byte) :
    (sendCan c b typ dst data).tb = c.tb := by simp [sendCan]
@[simp] theorem sendSetpoints_tb (c : Chip) (o : Nat) : (sendSetpoints c o).tb = c.tb := by simp [sendSetpoints]
@[simp] theorem stopConverters_tb (c : Chip) (o : Nat) : (stopConverters c o).tb = c.tb := by simp [stopConverters]
@[simp] theorem outEvt_tb (c : Chip) (o b : Nat) : (outEvt c o b).tb = c.tb := by simp [outEvt]
@[simp] theorem stopSession_tb (c : Chip) (o : Nat) (flags : BitVec 16) :
    (stopSession c o flags).tb = c.tb := by
  unfold stopSession; split <;> simp
@[simp] theorem dropAuth_tb (c : Chip) (o : Nat) (a : Answer) : (dropAuth c o a).tb = c.tb := by
  unfold dropAuth; split <;> simp
@[simp] theorem enterFinishing_cycle (c : Chip) (o : Nat) : (enterFinishing c o).tb.cycle = c.tb.cycle := by
  simp [enterFinishing]
@[simp] theorem unlockNow_tb (c : Chip) (o : Nat) : (unlockNow c o).tb = c.tb := by simp [unlockNow]
@[simp] theorem enterFaulted_cycle (c : Chip) (o : Nat) (flags : BitVec 16) :
    (enterFaulted c o flags).tb.cycle = c.tb.cycle := by simp [enterFaulted]
@[simp] theorem enterUnavailable_cycle (c : Chip) (o : Nat) :
    (enterUnavailable c o).tb.cycle = c.tb.cycle := by simp [enterUnavailable]
@[simp] theorem releaseForOpening_count (c : Chip) (o : Nat) :
    (releaseForOpening c o).tb.cycle = c.tb.cycle ∧ (releaseForOpening c o).tb.known = c.tb.known := by
  simp [releaseForOpening]

@[simp] theorem bookCoil_count (c : Chip) (k : BookKind) (t : Nat) (now : Chip → Chip)
    (hc : ∀ c, (now c).tb.cycle = c.tb.cycle) (hk : ∀ c, (now c).tb.known = c.tb.known) :
    (bookCoil c k t now).tb.cycle = c.tb.cycle ∧ (bookCoil c k t now).tb.known = c.tb.known := by
  unfold bookCoil
  have h := book_count c { cycle := t / 65536, angle := t % 65536, kind := k, period := 0 }
  split
  · next heq => rw [heq] at h; simpa [hc, hk] using h
  · next heq => rw [heq] at h; exact h

@[simp] theorem enterOpening_cycle (c : Chip) (o : Fin 8) (why : StopWhy) :
    (enterOpening c o why).tb.cycle = c.tb.cycle := by simp [enterOpening]
@[simp] theorem stopOutlet_cycle (c : Chip) (o : Fin 8) (flags : BitVec 16) :
    (stopOutlet c o flags).tb.cycle = c.tb.cycle := by
  unfold stopOutlet; dsimp only; (repeat' split) <;> simp
@[simp] theorem commandClose_tb (c : Chip) (o : Nat) : (commandClose c o).tb = c.tb := by simp [commandClose]
@[simp] theorem enterClosing_count (c : Chip) (o : Fin 8) :
    (enterClosing c o).tb.cycle = c.tb.cycle ∧ (enterClosing c o).tb.known = c.tb.known := by simp [enterClosing]
@[simp] theorem startClosing_count (c : Chip) (o : Fin 8) :
    (startClosing c o).tb.cycle = c.tb.cycle ∧ (startClosing c o).tb.known = c.tb.known := by
  unfold startClosing; dsimp only; (repeat' split) <;> simp
@[simp] theorem tryClose_count (c : Chip) (o : Fin 8) :
    (tryClose c o).tb.cycle = c.tb.cycle ∧ (tryClose c o).tb.known = c.tb.known := by simp [tryClose]
@[simp] theorem updateIlim_count (c : Chip) (o : Nat) :
    (updateIlim c o).tb.cycle = c.tb.cycle ∧ (updateIlim c o).tb.known = c.tb.known := by
  unfold updateIlim; dsimp only; (repeat' split) <;> simp
@[simp] theorem updateIlims_count (c : Chip) :
    (updateIlims c).tb.cycle = c.tb.cycle ∧ (updateIlims c).tb.known = c.tb.known := by simp [updateIlims]
@[simp] theorem drainOutlet_cycle (c : Chip) (o : Fin 8) : (drainOutlet c o).tb.cycle = c.tb.cycle := by
  simp [drainOutlet]
@[simp] theorem openAllNow_cycle (c : Chip) : (openAllNow c).tb.cycle = c.tb.cycle := by simp [openAllNow]

end Sys2Proof.Machine
end

section
/-! PROOFS. The frame of the cycle count: commit groups and sequences (R32 to R43). -/

namespace Sys2Proof.Machine

@[simp] theorem applyShadows_tb (c : Chip) (mem : BitVec 8) : (applyShadows c mem).tb = c.tb := by simp [applyShadows]
@[simp] theorem reloadShadows_tb (c : Chip) (mem : BitVec 8) : (reloadShadows c mem).tb = c.tb := by
  simp [reloadShadows]
@[simp] theorem shadowPut_tb (c : Chip) (a : Nat) (w : Word) : (shadowPut c a w).tb = c.tb := by
  unfold shadowPut; split <;> simp
@[simp] theorem armGroup_tb (c : Chip) (src : Nat) (members : BitVec 8) (maxDefer target : Nat)
    (owner : Option Requester) :
    (armGroup c src members maxDefer target owner).1.tb = c.tb := by
  unfold armGroup; split <;> simp
@[simp] theorem answerGroup_tb (c : Chip) : (answerGroup c).tb = c.tb := by simp [answerGroup]
@[simp] theorem abandonGroup_tb (c : Chip) : (abandonGroup c).tb = c.tb := by simp [abandonGroup]
@[simp] theorem abandonForPower_tb (c : Chip) : (abandonForPower c).tb = c.tb := by simp [abandonForPower]
@[simp] theorem cancelGroup_tb (c : Chip) : (cancelGroup c).tb = c.tb := by simp [cancelGroup]
@[simp] theorem swapGroup_tb (c : Chip) : (swapGroup c).tb = c.tb := by simp [swapGroup]
@[simp] theorem cgFields_tb (c : Chip) (members : BitVec 8) (maxDefer : BitVec 4) :
    (cgFields c members maxDefer).tb = c.tb := by simp -implicitDefEqProofs [cgFields]
@[simp] theorem nsPend_tb (c : Chip) (q : NsSeq) : (nsPend c q).tb = c.tb := by
  unfold nsPend; split <;> simp
@[simp] theorem nsStart_tb (c : Chip) (q : NsSeq) : (nsStart c q).tb = c.tb := by simp [nsStart]
@[simp] theorem nsFinish_tb (c : Chip) : (nsFinish c).tb = c.tb := by
  unfold nsFinish; dsimp only; (repeat' split) <;> simp
@[simp] theorem nsSubmit_tb (c : Chip) (l : List NsSetting) (owner : Option Requester) (wait : Bool) :
    (nsSubmit c l owner wait).1.tb = c.tb := by
  unfold nsSubmit; dsimp only; (repeat' split) <;> simp
@[simp] theorem pwdCount_tb (c : Chip) : (pwdCount c).tb = c.tb := by simp [pwdCount]
@[simp] theorem nsLandedAt_tb (c : Chip) (s : NsSetting) : (nsLandedAt c s).tb = c.tb := by simp [nsLandedAt]
@[simp] theorem nsLand_tb (c : Chip) : (nsLand c).tb = c.tb := by
  unfold nsLand; dsimp only; (repeat' split) <;> simp
@[simp] theorem nsSent_tb (c : Chip) (q : NsSeq) : (nsSent c q).1.tb = c.tb := by
  unfold nsSent; split <;> simp
@[simp] theorem nsCut_tb (c : Chip) : (nsCut c).tb = c.tb := by
  unfold nsCut; split <;> simp
@[simp] theorem nsInterrupt_tb (c : Chip) : (nsInterrupt c).tb = c.tb := by
  unfold nsInterrupt; dsimp only; (repeat' split) <;> simp
@[simp] theorem nsLinkLost_tb (c : Chip) : (nsLinkLost c).tb = c.tb := by
  unfold nsLinkLost; split <;> simp
@[simp] theorem nsRouterLost_tb (c : Chip) : (nsRouterLost c).tb = c.tb := by
  unfold nsRouterLost; split <;> simp
@[simp] theorem nsWrite_tb (c : Chip) (a : Nat) (w : Word) : (nsWrite c a w).tb = c.tb := by
  unfold nsWrite
  have h := nsSubmit_tb c (nsSettings a w) none false
  split <;> simp_all
theorem execCgCtrlArm_keepsCycle (members : BitVec 8) (maxDefer : BitVec 4) (s : State) :
    KeepsCycle s (execCgCtrlArm members maxDefer s) := by simp [execCgCtrlArm]
theorem execCgCtrlCancel_keepsCycle (members : BitVec 8) (maxDefer : BitVec 4) (s : State) :
    KeepsCycle s (execCgCtrlCancel members maxDefer s) := by simp [execCgCtrlCancel]

theorem execCgArm_keepsCycle (req : Requester) (members : BitVec 8) (maxDefer : BitVec 4) (target : Nat) (s : State) :
    KeepsCycle s (execCgArm req members maxDefer target s) := by
  refine (keepsCycle_next _ _).2 (perform_cycle _ _ _ _ _ fun c => ?_)
  split_ifs
  · rfl
  · have h := armGroup_tb c (ownerCode req) members maxDefer.toNat target (some req)
    split <;> simp_all

theorem execCgCancel_keepsCycle (req : Requester) (s : State) : KeepsCycle s (execCgCancel req s) := by
  simp [execCgCancel]
theorem execShadowWrite_keepsCycle (req : Requester) (pairs : Option (List (Word × Word))) (s : State) :
    KeepsCycle s (execShadowWrite req pairs s) := by
  unfold execShadowWrite; split <;> simp
theorem execNsWrite_keepsCycle (addr : Nat) (value : Word) (s : State) :
    KeepsCycle s (execNsWrite addr value s) := by simp [execNsWrite]
theorem execNsSettingLanded_keepsCycle (s : State) : KeepsCycle s (execNsSettingLanded s) := by
  simp [execNsSettingLanded]

theorem execNsSeq_keepsCycle (req : Requester) (wait : Bool) (pairs : Option (List (Word × Word))) (s : State) :
    KeepsCycle s (execNsSeq req wait pairs s) := by
  refine (keepsCycle_next _ _).2 (perform_cycle _ _ _ _ _ fun c => ?_)
  split
  · simp
  · next ps =>
    extract_lets l
    have h := nsSubmit_tb c l (some req) wait
    split_ifs
    · simp
    · simp
    · simp
    all_goals split <;> next heq => rw [heq] at h; simp [← h]

end Sys2Proof.Machine
end

section
/-! PROOFS. The frame of the cycle count: lanes assigned, modes and resets (R44 to R55, R120). -/

namespace Sys2Proof.Machine

@[simp] theorem stopBound_cycle (c : Chip) (m : Nat) : (stopBound c m).tb.cycle = c.tb.cycle := by
  unfold stopBound; split <;> simp
@[simp] theorem pointChanged_cycle (c : Chip) (m old cause lane : Nat) :
    (pointChanged c m old cause lane).tb.cycle = c.tb.cycle := by simp [pointChanged]
@[simp] theorem calAbort_tb (c : Chip) : (calAbort c).tb = c.tb := by simp [calAbort]
@[simp] theorem calLeft_tb (c : Chip) (n : Nat) (was : LaneState) : (calLeft c n was).tb = c.tb := by simp [calLeft]
@[simp] theorem withLane_cycle (c : Chip) (n : Nat) (f : Chip → Chip) (h : ∀ c, (f c).tb.cycle = c.tb.cycle) :
    (withLane c n f).tb.cycle = c.tb.cycle := by
  unfold withLane; dsimp only; split <;> simp [h]
@[simp] theorem retireLane_cycle (c : Chip) (n : Nat) : (retireLane c n).tb.cycle = c.tb.cycle := by
  unfold retireLane; split <;> simp -implicitDefEqProofs
@[simp] theorem assignLane_tb (c : Chip) (n : Nat) : (assignLane c n).tb = c.tb := by
  unfold assignLane; split <;> simp
@[simp] theorem assignLanes_cycle (c : Chip) (old : Nat → Nat) :
    (assignLanes c old).tb.cycle = c.tb.cycle := by simp [assignLanes]
@[simp] theorem setMode_tb (c : Chip) (m : Mode) (cause : Nat) : (setMode c m cause).tb = c.tb := by simp [setMode]
@[simp] theorem drainAll_cycle (c : Chip) : (drainAll c).tb.cycle = c.tb.cycle := by simp [drainAll]
@[simp] theorem enterSafeStop_cycle (c : Chip) (cause : Nat) :
    (enterSafeStop c cause).tb.cycle = c.tb.cycle := by simp [enterSafeStop]
@[simp] theorem addSafeCause_tb (c : Chip) (k : SafeCause) : (addSafeCause c k).tb = c.tb := by simp [addSafeCause]
@[simp] theorem dropSafeCause_tb (c : Chip) (k : SafeCause) : (dropSafeCause c k).tb = c.tb := by simp [dropSafeCause]
@[simp] theorem safetyReaction_cycle (c : Chip) (k : SafeCause) :
    (safetyReaction c k).tb.cycle = c.tb.cycle := by
  unfold safetyReaction; dsimp only; split <;> simp
@[simp] theorem enterQuarantine_cycle (c : Chip) (cause : Nat) :
    (enterQuarantine c cause).tb.cycle = c.tb.cycle := by simp [enterQuarantine]
@[simp] theorem settleMode_cycle (c : Chip) : (settleMode c).tb.cycle = c.tb.cycle := by
  unfold settleMode; (repeat' split) <;> simp
@[simp] theorem addDegCause_cycle (c : Chip) (k : DegCause) : (addDegCause c k).tb.cycle = c.tb.cycle := by
  simp [addDegCause]
@[simp] theorem dropDegCause_cycle (c : Chip) (k : DegCause) : (dropDegCause c k).tb.cycle = c.tb.cycle := by
  simp [dropDegCause]
@[simp] theorem dropModeReq_tb (c : Chip) : (dropModeReq c).tb = c.tb := by
  unfold dropModeReq; split <;> simp
@[simp] theorem resetWindow_tb (c : Chip) (w : Nat) : (resetWindow c w).tb = c.tb := by simp [resetWindow]
@[simp] theorem resetHost_tb (c : Chip) : (resetHost c).tb = c.tb := by simp [resetHost]
@[simp] theorem clearRegion_tb (c : Chip) (r : Region) : (clearRegion c r).tb = c.tb := by
  unfold clearRegion; split <;> simp
@[simp] theorem holdRegion_tb (c : Chip) (r : Region) : (holdRegion c r).tb = c.tb := by simp [holdRegion]
@[simp] theorem discardRegion_cycle (c : Chip) (r : Region) : (discardRegion c r).tb.cycle = c.tb.cycle := by
  simp [discardRegion]
@[simp] theorem resetRegion_cycle (c : Chip) (r : Region) : (resetRegion c r).tb.cycle = c.tb.cycle := by
  simp [resetRegion]
@[simp] theorem fenceRegion_cycle (c : Chip) (r : Region) : (fenceRegion c r).tb.cycle = c.tb.cycle := by
  simp [fenceRegion]
@[simp] theorem recordCause_tb (c : Chip) (b : Nat) : (recordCause c b).tb = c.tb := by simp [recordCause]

/-- R52, R112: a module reset forgets that the count is known; the count itself stands until the start restores one. -/
@[simp] theorem resetModule_cycle (c : Chip) (cause : ResetCause) (cold : Bool) :
    (resetModule c cause cold).tb.cycle = c.tb.cycle := by simp [resetModule]

end Sys2Proof.Machine
end

section
/-! PROOFS. The frame of the cycle count: reports, reactions and escalation (R456 to R465). -/

namespace Sys2Proof.Machine

@[simp] theorem retireChan_cycle (c : Chip) (k : Chan) : (retireChan c k).tb.cycle = c.tb.cycle := by
  unfold retireChan; split <;> simp
@[simp] theorem reviveChan_cycle (c : Chip) (k : Chan) : (reviveChan c k).tb.cycle = c.tb.cycle := by
  unfold reviveChan; split <;> simp
@[simp] theorem resetBlockState_cycle (c : Chip) (b : Block) :
    (resetBlockState c b).tb.cycle = c.tb.cycle := by
  unfold resetBlockState; split <;> simp
@[simp] theorem resetBlock_cycle (c : Chip) (b : Block) : (resetBlock c b).tb.cycle = c.tb.cycle := by
  simp [resetBlock]
@[simp] theorem reactInt_tb (c : Chip) : (reactInt c).tb = c.tb := by simp [reactInt]
@[simp] theorem reactTrap_tb (c : Chip) : (reactTrap c).tb = c.tb := by simp [reactTrap]
@[simp] theorem addCheck_tb (c : Chip) (s level : Nat) (b : Block) : (addCheck c s level b).tb = c.tb := by
  simp [addCheck]
@[simp] theorem resetBlocks_cycle (c : Chip) (ss : List Nat) : (resetBlocks c ss).tb.cycle = c.tb.cycle := by
  simp [resetBlocks]
@[simp] theorem react_cycle (c : Chip) (ss : List Nat) : (react c ss).tb.cycle = c.tb.cycle := by simp [react]
@[simp] theorem fltNew_tb (c : Chip) (s : Nat) : (fltNew c s).tb = c.tb := by simp -implicitDefEqProofs [fltNew]
@[simp] theorem fltLast_tb (c : Chip) (r : Report) (level : Nat) : (fltLast c r level).tb = c.tb := by
  simp -implicitDefEqProofs [fltLast]
@[simp] theorem makePermanent_cycle (c : Chip) (s level : Nat) (forced : Bool) :
    (makePermanent c s level forced).tb.cycle = c.tb.cycle := by
  unfold makePermanent; split <;> simp
@[simp] theorem recordReport_cycle (c : Chip) (r : Report) : (recordReport c r).tb.cycle = c.tb.cycle := by
  simp -implicitDefEqProofs [recordReport]

@[simp] theorem recordReports_cycle (c : Chip) (due : List Nat) (rs : List Report) :
    (recordReports c due rs).1.tb.cycle = c.tb.cycle := by
  induction rs generalizing c due with
  | nil => rfl
  | cons r rs ih => rw [recordReports, ih, recordReport_cycle]

@[simp] theorem takeReports_cycle (c : Chip) (rs : List Report) :
    (takeReports c rs).tb.cycle = c.tb.cycle := by simp [takeReports]
@[simp] theorem report_cycle (c : Chip) (rs : List Report) : (report c rs).tb.cycle = c.tb.cycle := by simp [report]
@[simp] theorem takeWaiting_cycle (c : Chip) : (takeWaiting c).tb.cycle = c.tb.cycle := by simp [takeWaiting]
@[simp] theorem reportSrc_cycle (c : Chip) (s detail : Nat) :
    (reportSrc c s detail).tb.cycle = c.tb.cycle := by simp [reportSrc]
@[simp] theorem clearSrc_tb (c : Chip) (s : Nat) : (clearSrc c s).tb = c.tb := by simp [clearSrc]
@[simp] theorem powerLinkFault_cycle (c : Chip) : (powerLinkFault c).tb.cycle = c.tb.cycle := by simp [powerLinkFault]
@[simp] theorem holdPermanent_tb (c : Chip) : (holdPermanent c).tb = c.tb := by simp [holdPermanent]
@[simp] theorem restoreStore_cycle (c : Chip) (copy : StoreCopy) :
    (restoreStore c copy).tb.cycle = c.tb.cycle := by simp [restoreStore]
@[simp] theorem quietOver_tb (c : Chip) (s : Nat) : (quietOver c s).tb = c.tb := by simp [quietOver]
@[simp] theorem escalate_cycle (c : Chip) (k : Check) : (escalate c k).tb.cycle = c.tb.cycle := by
  unfold escalate; dsimp only; (repeat' split) <;> simp -implicitDefEqProofs
@[simp] theorem checkEscalation_cycle (c : Chip) (s : Nat) : (checkEscalation c s).tb.cycle = c.tb.cycle := by
  unfold checkEscalation; split <;> simp
@[simp] theorem fltResult_tb (c : Chip) (s : Nat) (ok : Bool) : (fltResult c s ok).tb = c.tb := by
  simp -implicitDefEqProofs [fltResult]
@[simp] theorem clearRetire_cycle (c : Chip) (s : Nat) : (clearRetire c s).tb.cycle = c.tb.cycle := by
  unfold clearRetire; dsimp only; (repeat' split) <;> simp
@[simp] theorem clearRecov_tb (c : Chip) (s : Nat) : (clearRecov c s).tb = c.tb := by simp [clearRecov]
@[simp] theorem writeFltCmd_cycle (c : Chip) (w : Word) : (writeFltCmd c w).tb.cycle = c.tb.cycle := by
  simp [writeFltCmd]
@[simp] theorem watchdog_cycle (c : Chip) : (watchdog c).tb.cycle = c.tb.cycle := by simp [watchdog]
theorem execFaultReport_keepsCycle (reports : List Report) (s : State) :
    KeepsCycle s (execFaultReport reports s) := by simp [execFaultReport]
theorem execQuietTimerExpiry_keepsCycle (source : Nat) (s : State) :
    KeepsCycle s (execQuietTimerExpiry source s) := by simp [execQuietTimerExpiry]
theorem execEscalationCheck_keepsCycle (source : Nat) (s : State) :
    KeepsCycle s (execEscalationCheck source s) := by simp [execEscalationCheck]
theorem execClearRetire_keepsCycle (source : Nat) (s : State) : KeepsCycle s (execClearRetire source s) := by
  simp [execClearRetire]
theorem execClearRecov_keepsCycle (source : Nat) (s : State) : KeepsCycle s (execClearRecov source s) := by
  simp [execClearRecov]
theorem execWatchdogExpiry_keepsCycle (s : State) : KeepsCycle s (execWatchdogExpiry s) := by
  simp [execWatchdogExpiry]

end Sys2Proof.Machine
end

section
/-! PROOFS. The frame of the cycle count: the blotter (R472 to R477). -/

namespace Sys2Proof.Machine

@[simp] theorem staleIf_tb (c : Chip) (seq : Nat) : (staleIf c seq).tb = c.tb := by simp [staleIf]
@[simp] theorem bltNew_tb (c : Chip) (r : BltRec) : (bltNew c r).tb = c.tb := by simp [bltNew]
@[simp] theorem bltStore_tb (c : Chip) (slot : Nat) (r : BltRec) : (bltStore c slot r).tb = c.tb := by simp [bltStore]
@[simp] theorem bltWrite_tb (c : Chip) (r : BltRec) : (bltWrite c r).tb = c.tb := by
  unfold bltWrite; dsimp only; (repeat' split) <;> simp
@[simp] theorem bltPop_tb (c : Chip) : (bltPop c).tb = c.tb := by
  unfold bltPop; dsimp only; (repeat' split) <;> simp
@[simp] theorem tearRecord_tb (c : Chip) : (tearRecord c).tb = c.tb := by
  unfold tearRecord; dsimp only; (repeat' split) <;> simp
@[simp] theorem bltLatch_tb (c : Chip) : (bltLatch c).tb = c.tb := by simp [bltLatch]
@[simp] theorem bltNext_tb (c : Chip) : (bltNext c).tb = c.tb := by
  unfold bltNext; split <;> simp
@[simp] theorem bltLatched_tb (c : Chip) : (bltLatched c).tb = c.tb := by simp [bltLatched]
theorem execBlotterWrite_keepsCycle (s : State) : KeepsCycle s (execBlotterWrite s) := by simp [execBlotterWrite]
theorem execBltLatch_keepsCycle (s : State) : KeepsCycle s (execBltLatch s) := by simp [execBltLatch]
theorem execBltNext_keepsCycle (s : State) : KeepsCycle s (execBltNext s) := by simp [execBltNext]
theorem execBltLatchDone_keepsCycle (s : State) : KeepsCycle s (execBltLatchDone s) := by simp [execBltLatchDone]

end Sys2Proof.Machine
end

section
/-! PROOFS. The frame of the cycle count: the metering region (R127 to R177). -/

namespace Sys2Proof.Machine

@[simp] theorem failLane_cycle (c : Chip) (n cause : Nat) : (failLane c n cause).tb.cycle = c.tb.cycle := by
  simp [failLane]
@[simp] theorem sendGain_tb (c : Chip) (n : Nat) (x16 : Bool) : (sendGain c n x16).tb = c.tb := by simp [sendGain]
@[simp] theorem checkSerial_tb (c : Chip) (n id1 : Nat) : (checkSerial c n id1).tb = c.tb := by
  unfold checkSerial; split <;> simp
@[simp] theorem runLane_cycle (c : Chip) (n id0 id1 eye step : Nat) (slicer : List Int) :
    (runLane c n id0 id1 eye step slicer).tb.cycle = c.tb.cycle := by simp -implicitDefEqProofs [runLane]
@[simp] theorem trainedLane_cycle (c : Chip) (n step : Nat) (t : LaneScan) :
    (trainedLane c n step t).tb.cycle = c.tb.cycle := by
  unfold trainedLane; split <;> simp
@[simp] theorem retrainLane_cycle (c : Chip) (n : Nat) : (retrainLane c n).tb.cycle = c.tb.cycle := by
  simp [retrainLane]
@[simp] theorem signalLoss_cycle (c : Chip) (n : Nat) : (signalLoss c n).tb.cycle = c.tb.cycle := by
  simp -implicitDefEqProofs [signalLoss]
@[simp] theorem retrained_cycle (c : Chip) (n : Nat) (by' : Int) :
    (retrained c n by').tb.cycle = c.tb.cycle := by simp -implicitDefEqProofs [retrained]
@[simp] theorem harmCycle_tb (c : Chip) (n : Nat) : (harmCycle c n).tb = c.tb := by simp [harmCycle]
@[simp] theorem laneCycle_tb (c : Chip) (n : Nat) : (laneCycle c n).tb = c.tb := by simp [laneCycle]
@[simp] theorem laneCycles_tb (c : Chip) : (laneCycles c).tb = c.tb := by simp [laneCycles]
@[simp] theorem calStart_tb (c : Chip) (a b cycles : Nat) : (calStart c a b cycles).tb = c.tb := by
  simp -implicitDefEqProofs [calStart]
@[simp] theorem calCycle_tb (c : Chip) : (calCycle c).tb = c.tb := by simp [calCycle]
@[simp] theorem calDone_tb (c : Chip) : (calDone c).tb = c.tb := by simp [calDone]
@[simp] theorem latchWindow_tb (c : Chip) (context : Bool) (i : Nat) :
    (latchWindow c context i).tb = c.tb := by simp [latchWindow]
@[simp] theorem accLatch_tb (c : Chip) (context : Bool) (i : Nat) : (accLatch c context i).tb = c.tb := by
  unfold accLatch; dsimp only; (repeat' split) <;> simp
@[simp] theorem writeSlot_tb (c : Chip) (us : Nat) : (writeSlot c us).tb = c.tb := by
  unfold writeSlot; split <;> simp
theorem execLaneTrained_keepsCycle (lane : Lane) (scan : LaneScan) (s : State) :
    KeepsCycle s (execLaneTrained lane scan s) := by
  refine (keepsCycle_onChip _ _).2 ?_
  (repeat' split) <;> simp
theorem execTrainTimeout_keepsCycle (lane : Lane) (s : State) : KeepsCycle s (execTrainTimeout lane s) := by
  simp [execTrainTimeout]
theorem execCvLimitExceeded_keepsCycle (lane : Lane) (s : State) :
    KeepsCycle s (execCvLimitExceeded lane s) := by simp [execCvLimitExceeded]
theorem execLaneSignalLoss_keepsCycle (lane : Lane) (periods : Nat) (s : State) :
    KeepsCycle s (execLaneSignalLoss lane periods s) := by simp [execLaneSignalLoss]
theorem execRetrainDone_keepsCycle (lane : Lane) (periods : List Period) (by' : Int) (s : State) :
    KeepsCycle s (execRetrainDone lane periods by' s) := by simp [execRetrainDone]
theorem execRetrainTimeout_keepsCycle (lane : Lane) (s : State) : KeepsCycle s (execRetrainTimeout lane s) := by
  simp [execRetrainTimeout]
theorem execLaneFailedRetry_keepsCycle (lane : Lane) (s : State) :
    KeepsCycle s (execLaneFailedRetry lane s) := by simp [execLaneFailedRetry]
theorem execRangeDown_keepsCycle (lane : Lane) (periods : List Period) (s : State) :
    KeepsCycle s (execRangeDown lane periods s) := by simp [execRangeDown]
theorem execMeterSample_keepsCycle (samples : List LaneSample) (s : State) :
    KeepsCycle s (execMeterSample samples s) := by simp [execMeterSample]
theorem execLaneCvRead_keepsCycle (lane : Lane) (s : State) : KeepsCycle s (execLaneCvRead lane s) := by
  simp -implicitDefEqProofs [execLaneCvRead]
theorem execCalMeasStart_keepsCycle (laneA laneB : Lane) (cycles : BitVec 8) (s : State) :
    KeepsCycle s (execCalMeasStart laneA laneB cycles s) := by simp [execCalMeasStart]
theorem execCalMeasAbort_keepsCycle (s : State) : KeepsCycle s (execCalMeasAbort s) := by simp [execCalMeasAbort]
theorem execCalMeasDone_keepsCycle (s : State) : KeepsCycle s (execCalMeasDone s) := by simp [execCalMeasDone]
theorem execAccLatch_keepsCycle (context : Bool) (index : BitVec 8) (s : State) :
    KeepsCycle s (execAccLatch context index s) := by simp [execAccLatch]
theorem execFinalisationDone_keepsCycle (s : State) : KeepsCycle s (execFinalisationDone s) := by
  unfold execFinalisationDone; dsimp only; (repeat' split) <;> simp
theorem execAccRead_keepsCycle (req : Requester) (kind index : Nat) (xfer : Bool) (s : State) :
    KeepsCycle s (execAccRead req kind index xfer s) := by simp [execAccRead]
theorem execCommitSlotWritten_keepsCycle (us : Nat) (s : State) :
    KeepsCycle s (execCommitSlotWritten us s) := by simp [execCommitSlotWritten]
theorem execDtcorrMeasure_keepsCycle (ratio : Word) (s : State) : KeepsCycle s (execDtcorrMeasure ratio s) := by
  simp [execDtcorrMeasure]
theorem execHarmWindow_keepsCycle (s : State) : KeepsCycle s (execHarmWindow s) := by
  simp -implicitDefEqProofs [execHarmWindow]

end Sys2Proof.Machine
end

section
/-! PROOFS. The frame of the cycle count: timebase and wall clock (R98 to R117). -/

namespace Sys2Proof.Machine

@[simp] theorem toTbState_cycle (c : Chip) (st : TbState) (f : Follow) :
    (toTbState c st f).tb.cycle = c.tb.cycle := by simp [toTbState]
@[simp] theorem fallToSynth_cycle (c : Chip) : (fallToSynth c).tb.cycle = c.tb.cycle := by simp [fallToSynth]
@[simp] theorem acquire_cycle (c : Chip) (f : Follow) : (acquire c f).tb.cycle = c.tb.cycle := by simp [acquire]
@[simp] theorem switchTo_cycle (c : Chip) (f : Follow) : (switchTo c f).tb.cycle = c.tb.cycle := by simp [switchTo]
@[simp] theorem refQualified_cycle (c : Chip) (alternate : Bool) :
    (refQualified c alternate).tb.cycle = c.tb.cycle := by
  unfold refQualified; split <;> simp
@[simp] theorem refLost_cycle (c : Chip) : (refLost c).tb.cycle = c.tb.cycle := by
  unfold refLost; split <;> simp
@[simp] theorem holdoverOver_cycle (c : Chip) : (holdoverOver c).tb.cycle = c.tb.cycle := by
  unfold holdoverOver; (repeat' split) <;> simp
@[simp] theorem beaconSeen_cycle (c : Chip) : (beaconSeen c).tb.cycle = c.tb.cycle := by simp [beaconSeen]
@[simp] theorem advanceTime_count (c : Chip) (dur : Nat) :
    (advanceTime c dur).tb.cycle = c.tb.cycle ∧ (advanceTime c dur).tb.known = c.tb.known := by simp [advanceTime]
@[simp] theorem runTo_count (c : Chip) (since : Nat) :
    (runTo c since).tb.cycle = c.tb.cycle ∧ (runTo c since).tb.known = c.tb.known := by simp [runTo]
@[simp] theorem stepPending_cycle (c : Chip) (t : TimeSrc) (offset : Int) :
    (stepPending c t offset).tb.cycle = c.tb.cycle := by simp [stepPending]
@[simp] theorem wallOffset_cycle (c : Chip) (t : TimeSrc) (offset : Int) :
    (wallOffset c t offset).tb.cycle = c.tb.cycle := by simp [wallOffset]
theorem execRefQualified_keepsCycle (alternate : Bool) (s : State) :
    KeepsCycle s (execRefQualified alternate s) := by simp [execRefQualified]
theorem execRefLost_keepsCycle (alternate : Bool) (s : State) : KeepsCycle s (execRefLost alternate s) := by
  simp [execRefLost]
theorem execTbLockAcquired_keepsCycle (s : State) : KeepsCycle s (execTbLockAcquired s) := by
  simp [execTbLockAcquired]
theorem execTbPhaseJump_keepsCycle (s : State) : KeepsCycle s (execTbPhaseJump s) := by simp [execTbPhaseJump]
theorem execHoldoverExpiry_keepsCycle (s : State) : KeepsCycle s (execHoldoverExpiry s) := by
  simp [execHoldoverExpiry]
theorem execBeaconTimeout_keepsCycle (s : State) : KeepsCycle s (execBeaconTimeout s) := by simp [execBeaconTimeout]
theorem execSchedBook_keepsCycle (b : Booking) (s : State) : KeepsCycle s (execSchedBook b s) := by
  simp [execSchedBook]
theorem execSchedCancel_keepsCycle (kind : BookKind) (s : State) : KeepsCycle s (execSchedCancel kind s) := by
  simp [execSchedCancel]

theorem execMarker_keepsCycle (req : Requester) (cycle angle : Nat) (s : State) :
    KeepsCycle s (execMarker req cycle angle s) := by
  refine (keepsCycle_onChip _ _).2 (perform_cycle _ _ _ _ _ fun c => ?_)
  have h := book_count c { cycle := cycle, angle := angle, kind := .marker req, period := 0 }
  split <;> simp_all

theorem execMarkerCancel_keepsCycle (req : Requester) (target : Word) (s : State) :
    KeepsCycle s (execMarkerCancel req target s) := by simp [execMarkerCancel]
theorem execWallOffset_keepsCycle (src : TimeSrc) (offset : Int) (s : State) :
    KeepsCycle s (execWallOffset src offset s) := by simp [execWallOffset]
theorem execSlewDone_keepsCycle (since : Nat) (s : State) : KeepsCycle s (execSlewDone since s) := by
  simp [execSlewDone]
theorem execTimeSet_keepsCycle (req : Requester) (utc : Nat) (s : State) :
    KeepsCycle s (execTimeSet req utc s) := by simp [execTimeSet]
theorem execNop_keepsCycle (req : Requester) (s : State) : KeepsCycle s (execNop req s) := by simp [execNop]

end Sys2Proof.Machine
end

section
/-! PROOFS. The frame of the cycle count: the legal core (R210 to R235). -/

namespace Sys2Proof.Machine

@[simp] theorem tearEntry_tb (c : Chip) : (tearEntry c).tb = c.tb := by
  unfold tearEntry; split <;> simp
@[simp] theorem putEntry_tb (c : Chip) (k : LegCause) : (putEntry c k).tb = c.tb := by simp [putEntry]
@[simp] theorem loseEntry_tb (c : Chip) (k : LegCause) : (loseEntry c k).tb = c.tb := by simp [loseEntry]
@[simp] theorem writeEntry_tb (c : Chip) : (writeEntry c).tb = c.tb := by
  unfold writeEntry; dsimp only; (repeat' split) <;> simp
@[simp] theorem advanceExport_tb (root : BitVec 256) (c : Chip) (job : ExportJob) :
    (advanceExport root c job).tb = c.tb := by
  unfold advanceExport; split <;> simp
@[simp] theorem advanceExports_tb (root : BitVec 256) (c : Chip) : (advanceExports root c).tb = c.tb := by
  simp [advanceExports]
@[simp] theorem ackLog_tb (c : Chip) (seq : Nat) : (ackLog c seq).tb = c.tb := by simp [ackLog]
@[simp] theorem legalSigned_tb (c : Chip) (seq index : Nat) : (legalSigned c seq index).tb = c.tb := by
  unfold legalSigned; split <;> simp
@[simp] theorem resignedFor_tb (c : Chip) (seq index : Nat) : (resignedFor c seq index).tb = c.tb := by
  simp [resignedFor]
@[simp] theorem signDone_tb (root : BitVec 256) (c : Chip) : (signDone root c).tb = c.tb := by
  unfold signDone; dsimp only; (repeat' split) <;> simp
@[simp] theorem sealEntry_tb (c : Chip) : (sealEntry c).tb = c.tb := by simp [sealEntry]
@[simp] theorem sealOpens_tb (c : Chip) : (sealOpens c).tb = c.tb := by simp [sealOpens]
@[simp] theorem sealCloses_tb (c : Chip) : (sealCloses c).tb = c.tb := by simp [sealCloses]
@[simp] theorem rebuildDisplay_tb (c : Chip) : (rebuildDisplay c).tb = c.tb := by simp [rebuildDisplay]
@[simp] theorem legalLoad_tb (f : Fuses) (c : Chip) (data : List Byte) (version : Word) (sigOk : Bool) :
    (legalLoad f c data version sigOk).tb = c.tb := by simp [legalLoad]
theorem execLegEntryWrite_keepsCycle (s : State) : KeepsCycle s (execLegEntryWrite s) := by simp [execLegEntryWrite]
theorem execLegSignStart_keepsCycle (s : State) : KeepsCycle s (execLegSignStart s) := by
  refine (keepsCycle_onChip _ _).2 ?_
  dsimp only; (repeat' split) <;> simp
theorem execLegExport_keepsCycle (req : Requester) (first length : Nat) (xfer : Bool) (s : State) :
    KeepsCycle s (execLegExport req first length xfer s) := by
  refine (keepsCycle_onChip _ _).2 (perform_cycle _ _ _ _ _ fun c => ?_)
  (repeat' split) <;> simp
theorem execLegAck_keepsCycle (req : Requester) (seq : Nat) (s : State) :
    KeepsCycle s (execLegAck req seq s) := by simp [execLegAck]
theorem execLegEvtRead_keepsCycle (s : State) : KeepsCycle s (execLegEvtRead s) := by
  simp -implicitDefEqProofs [execLegEvtRead]
theorem execSignatureDone_keepsCycle (s : State) : KeepsCycle s (execSignatureDone s) := by simp [execSignatureDone]
theorem execSealOpened_keepsCycle (s : State) : KeepsCycle s (execSealOpened s) := by simp [execSealOpened]
theorem execSealClosed_keepsCycle (s : State) : KeepsCycle s (execSealClosed s) := by simp [execSealClosed]
theorem execLegDisplayRebuild_keepsCycle (s : State) : KeepsCycle s (execLegDisplayRebuild s) := by
  simp [execLegDisplayRebuild]
theorem execLegalLoad_keepsCycle (data : List Byte) (version : Word) (sigOk : Bool) (s : State) :
    KeepsCycle s (execLegalLoad data version sigOk s) := by simp [execLegalLoad]

end Sys2Proof.Machine
end

section
/-! PROOFS. The frame of the cycle count: keys, entropy, signatures and lifecycle (R412 to R432). -/

namespace Sys2Proof.Machine

@[simp] theorem refuseDerive_tb (c : Chip) : (refuseDerive c).tb = c.tb := by simp [refuseDerive]
@[simp] theorem derive_tb (c : Chip) (isSealed : Bool) (accesses : Nat) :
    (derive c isSealed accesses).tb = c.tb := by simp [derive]
@[simp] theorem entropyOutput_cycle (c : Chip) (rctOk aptOk starting : Bool) :
    (entropyOutput c rctOk aptOk starting).tb.cycle = c.tb.cycle := by simp [entropyOutput]
@[simp] theorem putCopy_tb (c : Chip) (curIsA ok : Bool) (rec' : XmtCopy) :
    (putCopy c curIsA ok rec').tb = c.tb := by simp [putCopy]
@[simp] theorem refuseSign_tb (c : Chip) (j : SignJob) : (refuseSign c j).tb = c.tb := by
  unfold refuseSign; split <;> simp
@[simp] theorem reserveIndex_cycle (c : Chip) (j : SignJob) (readback : Bool) :
    (reserveIndex c j readback).tb.cycle = c.tb.cycle := by
  unfold reserveIndex; split <;> simp
@[simp] theorem openDebug_tb (c : Chip) (scope : Nat) : (openDebug c scope).tb = c.tb := by simp [openDebug]
@[simp] theorem tlsMessage_tb (c : Chip) (session peer : Nat) (ev : TlsEvent) :
    (tlsMessage c session peer ev).tb = c.tb := by
  unfold tlsMessage; split <;> simp
@[simp] theorem lcResult_tb (c : Chip) (st : Status) (a b : Nat) : (lcResult c st a b).tb = c.tb := by simp [lcResult]
@[simp] theorem lifecycleReset_cycle (c : Chip) : (lifecycleReset c).tb.cycle = c.tb.cycle := by simp [lifecycleReset]
theorem execDeriveRequest_keepsCycle (cls : DeriveClass) (isSealed : Bool) (accesses : Nat) (s : State) :
    KeepsCycle s (execDeriveRequest cls isSealed accesses s) := by
  unfold execDeriveRequest; split <;> simp
theorem execRemask_keepsCycle (s : State) : KeepsCycle s (execRemask s) := by simp [execRemask]
theorem execEntropyOutput_keepsCycle (rctOk aptOk : Bool) (starting : Bool) (s : State) :
    KeepsCycle s (execEntropyOutput rctOk aptOk starting s) := by simp [execEntropyOutput]
theorem execXmssSign_keepsCycle (readback : Bool) (s : State) : KeepsCycle s (execXmssSign readback s) := by
  refine (keepsCycle_onChip _ _).2 ?_
  dsimp only; (repeat' split) <;> simp
theorem execXmssVerify_keepsCycle (ok : Bool) (who : VerifyFor) (s : State) :
    KeepsCycle s (execXmssVerify ok who s) := by
  unfold execXmssVerify; split <;> simp
theorem execKeygen_keepsCycle (s : State) : KeepsCycle s (execKeygen s) := by simp [execKeygen]
theorem execKeygenDone_keepsCycle (s : State) : KeepsCycle s (execKeygenDone s) := by simp [execKeygenDone]
theorem execAttest_keepsCycle (req : Requester) (nonce : BitVec 256) (xfer : Bool) (s : State) :
    KeepsCycle s (execAttest req nonce xfer s) := by simp [execAttest]
theorem execDbgChal_keepsCycle (s : State) : KeepsCycle s (execDbgChal s) := by simp [execDbgChal]
theorem execDbgResp_keepsCycle (response : List Byte) (sigOk : Bool) (s : State) :
    KeepsCycle s (execDbgResp response sigOk s) := by simp [execDbgResp]
theorem execTlsHandshakeMessage_keepsCycle (session peer : Nat) (ev : TlsEvent) (s : State) :
    KeepsCycle s (execTlsHandshakeMessage session peer ev s) := by simp [execTlsHandshakeMessage]
theorem execCsrSign_keepsCycle (req : Requester) (peer : Nat) (newGeneration : Bool) (request : List Byte)
    (s : State) :
    KeepsCycle s (execCsrSign req peer newGeneration request s) := by simp [execCsrSign]
theorem execSiteKeyDelivery_keepsCycle (keyId : Word) (activation : Nat) (key : BitVec 256) (authentic : Bool)
    (s : State) :
    KeepsCycle s (execSiteKeyDelivery keyId activation key authentic s) := by simp [execSiteKeyDelivery]
theorem execSiteKeyActivate_keepsCycle (keyId : Word) (since : Nat) (s : State) :
    KeepsCycle s (execSiteKeyActivate keyId since s) := by simp [execSiteKeyActivate]
theorem execLifecycleToken_keepsCycle (token : List Byte) (sigOk : Bool) (s : State) :
    KeepsCycle s (execLifecycleToken token sigOk s) := by
  unfold execLifecycleToken; dsimp only; (repeat' split) <;> simp
theorem execBlankToFactory_keepsCycle (unit : BitVec 128) (img0 img1 prov dbg : BitVec 256) (s : State) :
    KeepsCycle s (execBlankToFactory unit img0 img1 prov dbg s) := by simp [execBlankToFactory]

end Sys2Proof.Machine
end

section
/-! PROOFS. The frame of the cycle count: trips, welds and disabled functions (R70, R279 to R298). -/

namespace Sys2Proof.Machine

@[simp] theorem recordTrip_tb (c : Chip) (o : Nat) (all : Bool) (sf : Sf) (ch : Channel) :
    (recordTrip c o all sf ch).tb = c.tb := by simp [recordTrip]
@[simp] theorem latchTrip_tb (c : Chip) (o : Nat) (sf : Sf) (ch : Channel) :
    (latchTrip c o sf ch).tb = c.tb := by simp [latchTrip]
@[simp] theorem trip_cycle (c : Chip) (o : Nat) (sf : Sf) (ch : Channel) (cause : Nat) :
    (trip c o sf ch cause).tb.cycle = c.tb.cycle := by simp [trip]
@[simp] theorem tripAll_cycle (c : Chip) (sf : Sf) (ch : Channel) (cause : Nat) :
    (tripAll c sf ch cause).tb.cycle = c.tb.cycle := by simp [tripAll]
@[simp] theorem driveShunt_tb (c : Chip) : (driveShunt c).tb = c.tb := by simp [driveShunt]
@[simp] theorem assertShtr_tb (c : Chip) : (assertShtr c).tb = c.tb := by simp [assertShtr]
@[simp] theorem weldFound_cycle (c : Chip) (o : Nat) (ch : Channel) :
    (weldFound c o ch).tb.cycle = c.tb.cycle := by simp [weldFound]
@[simp] theorem releasedByNib_tb (c : Chip) (o : Nat) : (releasedByNib c o).tb = c.tb := by simp [releasedByNib]
@[simp] theorem nibWithdraw_tb (c : Chip) (o cause : Nat) : (nibWithdraw c o cause).tb = c.tb := by simp [nibWithdraw]
@[simp] theorem settleOutlet_cycle (c : Chip) (o : Nat) : (settleOutlet c o).tb.cycle = c.tb.cycle := by
  simp [settleOutlet]
@[simp] theorem weldCheckDone_cycle (c : Chip) (o : Nat) : (weldCheckDone c o).tb.cycle = c.tb.cycle := by
  simp [weldCheckDone]
@[simp] theorem tryIdle_cycle (c : Chip) (o : Nat) : (tryIdle c o).tb.cycle = c.tb.cycle := by simp [tryIdle]
@[simp] theorem tryAvailable_tb (c : Chip) (o : Nat) : (tryAvailable c o).tb = c.tb := by simp [tryAvailable]
@[simp] theorem cancelFlip_tb (c : Chip) : (cancelFlip c).tb = c.tb := by
  unfold cancelFlip; split <;> simp
@[simp] theorem disableOne_cycle (c : Chip) (k : Nat) : (disableOne c k).tb.cycle = c.tb.cycle := by
  unfold disableOne; dsimp only; (repeat' split) <;> simp
@[simp] theorem enableOne_tb (c : Chip) (k : Nat) : (enableOne c k).tb = c.tb := by simp [enableOne]
@[simp] theorem functionsChanged_cycle (c : Chip) : (functionsChanged c).tb.cycle = c.tb.cycle := by
  simp [functionsChanged]
@[simp] theorem writeDisable_cycle (c : Chip) (w : Word) : (writeDisable c w).tb.cycle = c.tb.cycle := by
  simp [writeDisable]
@[simp] theorem refuseReset_tb (c : Chip) : (refuseReset c).tb = c.tb := by simp [refuseReset]
@[simp] theorem softReset_cycle (c : Chip) (cold : Bool) : (softReset c cold).tb.cycle = c.tb.cycle := by
  simp [softReset]

end Sys2Proof.Machine
end

section
/-! PROOFS. The frame of the cycle count: the safety processor and Nib (R272 to R299). -/

namespace Sys2Proof.Machine

@[simp] theorem procLost_cycle (c : Chip) : (procLost c).tb.cycle = c.tb.cycle := by simp [procLost]
@[simp] theorem badAnswer_cycle (c : Chip) : (badAnswer c).tb.cycle = c.tb.cycle := by simp [badAnswer]
@[simp] theorem followPermits_tb (c : Chip) : (followPermits c).tb = c.tb := by simp [followPermits]
@[simp] theorem goodAnswer_tb (c : Chip) : (goodAnswer c).tb = c.tb := by simp [goodAnswer]
@[simp] theorem nibLost_cycle (c : Chip) (src : Nat) : (nibLost c src).tb.cycle = c.tb.cycle := by simp [nibLost]
@[simp] theorem lockstepMismatch_cycle (c : Chip) : (lockstepMismatch c).tb.cycle = c.tb.cycle := by
  simp [lockstepMismatch]
@[simp] theorem channelTrip_cycle (c : Chip) (ch : Channel) (act : Channel → Chip)
    (h : ∀ ch, (act ch).tb.cycle = c.tb.cycle) : (channelTrip c ch act).tb.cycle = c.tb.cycle := by
  unfold channelTrip; (repeat' split) <;> simp [h]
@[simp] theorem contactorTrip_cycle (c : Chip) (o : Nat) (sf : Sf) (ch : Channel) :
    (contactorTrip c o sf ch).tb.cycle = c.tb.cycle := by simp [contactorTrip]
@[simp] theorem imdResult_cycle (c : Chip) (o kohm plus minus : Nat) :
    (imdResult c o kohm plus minus).tb.cycle = c.tb.cycle := by simp [imdResult]
@[simp] theorem tempReading_cycle (c : Chip) (pwd sup : Nat) :
    (tempReading c pwd sup).tb.cycle = c.tb.cycle := by simp [tempReading]
@[simp] theorem sealTrip_cycle (c : Chip) : (sealTrip c).tb.cycle = c.tb.cycle := by simp [sealTrip]
@[simp] theorem adoptSeals_cycle (c : Chip) : (adoptSeals c).tb.cycle = c.tb.cycle := by simp [adoptSeals]
@[simp] theorem preclosePassed_cycle (c : Chip) (outlet : Outlet) :
    (preclosePassed c outlet).tb.cycle = c.tb.cycle := by simp [preclosePassed]
@[simp] theorem precloseFailed_cycle (c : Chip) (o : Nat) : (precloseFailed c o).tb.cycle = c.tb.cycle := by
  simp [precloseFailed]
@[simp] theorem clearLatch_cycle (c : Chip) (o : Nat) (sf : Sf) :
    (clearLatch c o sf).tb.cycle = c.tb.cycle := by simp [clearLatch]
@[simp] theorem gapUnmeasured_tb (c : Chip) (o x : Nat) : (gapUnmeasured c o x).tb = c.tb := by
  unfold gapUnmeasured; split <;> simp
@[simp] theorem adopt_tb (c : Chip) (o x : Nat) : (adopt c o x).tb = c.tb := by simp [adopt]
@[simp] theorem nibBack_tb (c : Chip) : (nibBack c).tb = c.tb := by
  unfold nibBack; split <;> simp
@[simp] theorem refreshMirror_tb (c : Chip) : (refreshMirror c).tb = c.tb := by
  simp -implicitDefEqProofs [refreshMirror]
@[simp] theorem injectSafety_cycle (c : Chip) (s : Nat) : (injectSafety c s).tb.cycle = c.tb.cycle := by
  simp [injectSafety]
@[simp] theorem forceOne_cycle (c : Chip) (s : Nat) : (forceOne c s).tb.cycle = c.tb.cycle := by simp [forceOne]
@[simp] theorem unforceOne_tb (c : Chip) (s : Nat) : (unforceOne c s).tb = c.tb := by simp [unforceOne]
@[simp] theorem forceWrite_cycle (c : Chip) (w : Nat) (v : Word) :
    (forceWrite c w v).tb.cycle = c.tb.cycle := by simp [forceWrite]
theorem execNibChallenge_keepsCycle (value : BitVec 16) (s : State) :
    KeepsCycle s (execNibChallenge value s) := by simp [execNibChallenge]
theorem execNibAnswer_keepsCycle (us : Nat) (correct : Bool) (angle : Nat) (s : State) :
    KeepsCycle s (execNibAnswer us correct angle s) := by simp [execNibAnswer]
theorem execNibAnswerTimeout_keepsCycle (s : State) : KeepsCycle s (execNibAnswerTimeout s) := by
  simp [execNibAnswerTimeout]
theorem execNibLost_keepsCycle (since : Nat) (s : State) : KeepsCycle s (execNibLost since s) := by
  refine (keepsCycle_onChip _ _).2 ?_
  dsimp only; (repeat' split) <;> simp
theorem execLockstepMismatch_keepsCycle (s : State) : KeepsCycle s (execLockstepMismatch s) := by
  simp [execLockstepMismatch]
theorem execResidualCurrentTrip_keepsCycle (outlet : Outlet) (channel : Channel) (dc : Int) (ac : Nat) (s : State) :
    KeepsCycle s (execResidualCurrentTrip outlet channel dc ac s) := by simp [execResidualCurrentTrip]
theorem execPeLossTrip_keepsCycle (outlet : Outlet) (channel : Channel) (mohm : Nat) (s : State) :
    KeepsCycle s (execPeLossTrip outlet channel mohm s) := by simp [execPeLossTrip]
theorem execPilotTrip_keepsCycle (outlet : Outlet) (channel : Channel) (vpos vneg : Int) (s : State) :
    KeepsCycle s (execPilotTrip outlet channel vpos vneg s) := by simp [execPilotTrip]
theorem execNibBBandWithdraw_keepsCycle (outlet : Outlet) (vpos vneg : Int) (s : State) :
    KeepsCycle s (execNibBBandWithdraw outlet vpos vneg s) := by simp [execNibBBandWithdraw]
theorem execContactorMismatch_keepsCycle (outlet : Outlet) (channel : Channel) (s : State) :
    KeepsCycle s (execContactorMismatch outlet channel s) := by simp [execContactorMismatch]
theorem execFailToClose_keepsCycle (outlet : Outlet) (channel : Channel) (s : State) :
    KeepsCycle s (execFailToClose outlet channel s) := by simp [execFailToClose]
theorem execWeldDetected_keepsCycle (outlet : Outlet) (channel : Channel) (s : State) :
    KeepsCycle s (execWeldDetected outlet channel s) := by simp [execWeldDetected]
theorem execPoleTestDone_keepsCycle (outlet : Outlet) (plus minus : Nat) (s : State) :
    KeepsCycle s (execPoleTestDone outlet plus minus s) := by simp [execPoleTestDone]
theorem execShuntTripDirect_keepsCycle (s : State) : KeepsCycle s (execShuntTripDirect s) := by
  simp [execShuntTripDirect]
theorem execShuntTripEnd_keepsCycle (s : State) : KeepsCycle s (execShuntTripEnd s) := by simp [execShuntTripEnd]
theorem execImdResult_keepsCycle (outlet : Outlet) (kohm plus minus : Nat) (s : State) :
    KeepsCycle s (execImdResult outlet kohm plus minus s) := by simp [execImdResult]
theorem execTempReading_keepsCycle (pwd sup : BitVec 8) (s : State) :
    KeepsCycle s (execTempReading pwd sup s) := by simp [execTempReading]
theorem execTempSwitchTrip_keepsCycle (outlet : Outlet) (high : Bool) (s : State) :
    KeepsCycle s (execTempSwitchTrip outlet high s) := by simp [execTempSwitchTrip]
theorem execSealSwitchChange_keepsCycle (levels : List Nat) (s : State) :
    KeepsCycle s (execSealSwitchChange levels s) := by simp [execSealSwitchChange]
theorem execSealSettingAdopt_keepsCycle (s : State) : KeepsCycle s (execSealSettingAdopt s) := by
  simp [execSealSettingAdopt]
theorem execPrecloseTest_keepsCycle (outlet : Outlet) (run : PrecloseRun) (angle : Nat) (s : State) :
    KeepsCycle s (execPrecloseTest outlet run angle s) := by simp [execPrecloseTest]
theorem execTripLatchClear_keepsCycle (outlet : Outlet) (cause : Sf) (s : State) :
    KeepsCycle s (execTripLatchClear outlet cause s) := by simp [execTripLatchClear]
theorem execDegradedWindowEnd_keepsCycle (s : State) : KeepsCycle s (execDegradedWindowEnd s) := by
  simp [execDegradedWindowEnd]
theorem execNibAimedWithdraw_keepsCycle (outlet : Outlet) (s : State) :
    KeepsCycle s (execNibAimedWithdraw outlet s) := by simp [execNibAimedWithdraw]
theorem execOutletAdopt_keepsCycle (outlet : Outlet) (clean : Nat) (s : State) :
    KeepsCycle s (execOutletAdopt outlet clean s) := by
  refine (keepsCycle_onChip _ _).2 ?_
  (repeat' split) <;> simp
theorem execNibMirrorRefresh_keepsCycle (bad : BitVec 8) (since : Nat) (s : State) :
    KeepsCycle s (execNibMirrorRefresh bad since s) := by simp [execNibMirrorRefresh]
theorem execFaultForceWrite_keepsCycle (w : Fin 16) (value : Word) (s : State) :
    KeepsCycle s (execFaultForceWrite w value s) := by simp [execFaultForceWrite]

end Sys2Proof.Machine
end

section
/-! PROOFS. The frame of the cycle count: outlets and vehicles (R240 to R268). -/

namespace Sys2Proof.Machine

@[simp] theorem outletGate_cycle (f : Chip → Chip) (c : Chip) (h : ∀ c, (f c).tb.cycle = c.tb.cycle) :
    (outletGate f c).tb.cycle = c.tb.cycle := by simp [outletGate, h]
@[simp] theorem modemGate_cycle (f : Chip → Chip) (c : Chip) (h : ∀ c, (f c).tb.cycle = c.tb.cycle) :
    (modemGate f c).tb.cycle = c.tb.cycle := by simp [modemGate, h]
@[simp] theorem hlcGate_cycle (f : Chip → Chip) (c : Chip) (h : ∀ c, (f c).tb.cycle = c.tb.cycle) :
    (hlcGate f c).tb.cycle = c.tb.cycle := by simp [hlcGate, h]
@[simp] theorem latch_tb (c : Chip) (i : OutEvent) : (latch c i).tb = c.tb := by simp [latch]
@[simp] theorem keepsCycle_viaOutlet (s : State) (f : Chip → Chip) (h : ∀ c, (f c).tb.cycle = c.tb.cycle) :
    KeepsCycle s (viaOutlet s f) := by simp [viaOutlet, h]
@[simp] theorem keepsCycle_viaModem (s : State) (f : Chip → Chip) (h : ∀ c, (f c).tb.cycle = c.tb.cycle) :
    KeepsCycle s (viaModem s f) := by simp [viaModem, h]
@[simp] theorem keepsCycle_viaService (s : State) (f : Chip → Chip) (h : ∀ c, (f c).tb.cycle = c.tb.cycle) :
    KeepsCycle s (viaService s f) := by simp [viaService, h]
@[simp] theorem keepsCycle_viaHlc (s : State) (f : Chip → Chip) (h : ∀ c, (f c).tb.cycle = c.tb.cycle) :
    KeepsCycle s (viaHlc s f) := by simp [viaHlc, h]
@[simp] theorem keepsCycle_takeOutlet (s : State) (i : OutEvent) (f : Chip → Chip)
    (h : ∀ c, (f c).tb.cycle = c.tb.cycle) : KeepsCycle s (takeOutlet s i f) := by simp [takeOutlet, latching, h]
@[simp] theorem keepsCycle_takeModem (s : State) (i : OutEvent) (f : Chip → Chip)
    (h : ∀ c, (f c).tb.cycle = c.tb.cycle) : KeepsCycle s (takeModem s i f) := by simp [takeModem, latching, h]
@[simp] theorem keepsCycle_takeHlc (s : State) (i : OutEvent) (f : Chip → Chip)
    (h : ∀ c, (f c).tb.cycle = c.tb.cycle) : KeepsCycle s (takeHlc s i f) := by simp [takeHlc, latching, h]
@[simp] theorem enterAuthorised_cycle (c : Chip) (o : Outlet) (ctx : Option Nat) :
    (enterAuthorised c o ctx).tb.cycle = c.tb.cycle := by simp [enterAuthorised]
@[simp] theorem startFailed_cycle (c : Chip) (o : Outlet) : (startFailed c o).tb.cycle = c.tb.cycle := by
  simp [startFailed]

@[simp] theorem tryStart_cycle (c : Chip) (o : Outlet) : (tryStart c o).tb.cycle = c.tb.cycle := by
  unfold tryStart; dsimp only
  split
  · rfl
  · split_ifs
    · rfl
    · simp
    · simp
    · split
      · simp
      · next hstart => simp [startSession_tb hstart]

@[simp] theorem authAccepted_cycle (c : Chip) (o : Outlet) (ref : BitVec 128) (pt group : Nat) :
    (authAccepted c o ref pt group).tb.cycle = c.tb.cycle := by simp [authAccepted]
@[simp] theorem offlineRule_cycle (c : Chip) (o : Outlet) (ref : BitVec 128) (pt : Nat) :
    (offlineRule c o ref pt).tb.cycle = c.tb.cycle := by simp [offlineRule]
@[simp] theorem askBackend_cycle (c : Chip) (o : Outlet) (w : AuthWait) :
    (askBackend c o w).tb.cycle = c.tb.cycle := by simp [askBackend]
@[simp] theorem askList_cycle (c : Chip) (o : Outlet) (w : AuthWait) :
    (askList c o w).tb.cycle = c.tb.cycle := by
  unfold askList; dsimp only; (repeat' split) <;> simp
@[simp] theorem askChain_cycle (c : Chip) (o : Outlet) (w : AuthWait) (chainOk : Bool) :
    (askChain c o w chainOk).tb.cycle = c.tb.cycle := by simp [askChain]
@[simp] theorem beginStart_cycle (c : Chip) (o : Outlet) (w : AuthWait) (own : Bool) :
    (beginStart c o w own).tb.cycle = c.tb.cycle := by simp [beginStart]
@[simp] theorem sessionStop_cycle (c : Chip) (req : Requester) (sid : BitVec 128) :
    (sessionStop c req sid).tb.cycle = c.tb.cycle := by
  unfold sessionStop; dsimp only; (repeat' split) <;> simp
@[simp] theorem plugIn_tb (c : Chip) (o : Outlet) : (plugIn c o).tb = c.tb := by simp [plugIn]
@[simp] theorem enterPlugged_cycle (c : Chip) (o : Outlet) : (enterPlugged c o).tb.cycle = c.tb.cycle := by
  unfold enterPlugged; dsimp only; (repeat' split) <;> simp
@[simp] theorem unplugged_cycle (c : Chip) (o : Outlet) : (unplugged c o).tb.cycle = c.tb.cycle := by
  unfold unplugged; dsimp only; (repeat' split) <;> simp
@[simp] theorem vehicleEnds_cycle (c : Chip) (o : Outlet) : (vehicleEnds c o).tb.cycle = c.tb.cycle := by
  unfold vehicleEnds; dsimp only; (repeat' split) <;> simp
@[simp] theorem pilotAccepted_cycle (c : Chip) (o : Outlet) (vpos vneg : Int) :
    (pilotAccepted c o vpos vneg).tb.cycle = c.tb.cycle := by simp [pilotAccepted]
@[simp] theorem onPilotStateAccepted_cycle (outlet : Outlet) (vpos vneg : Int) (angle : Nat) (c : Chip) :
    (onPilotStateAccepted outlet vpos vneg angle c).tb.cycle = c.tb.cycle := by simp [onPilotStateAccepted]
@[simp] theorem pilotSafety_cycle (c : Chip) (o : Outlet) (vpos vneg : Int) :
    (pilotSafety c o vpos vneg).tb.cycle = c.tb.cycle := by simp [pilotSafety]
@[simp] theorem ppAccepted_cycle (c : Chip) (o : Outlet) (mv : Nat) :
    (ppAccepted c o mv).tb.cycle = c.tb.cycle := by simp [ppAccepted]
@[simp] theorem onPpClassAccepted_cycle (outlet : Outlet) (mv : Nat) (c : Chip) :
    (onPpClassAccepted outlet mv c).tb.cycle = c.tb.cycle := by simp [onPpClassAccepted]
@[simp] theorem onCmSlacParm_tb (outlet : Outlet) (runId : Nat) (c : Chip) :
    (onCmSlacParm outlet runId c).tb = c.tb := by simp [onCmSlacParm]
@[simp] theorem onCmStartAttenChar_tb (outlet : Outlet) (runId : Nat) (c : Chip) :
    (onCmStartAttenChar outlet runId c).tb = c.tb := by simp [onCmStartAttenChar]
@[simp] theorem onCmMnbcSound_tb (outlet : Outlet) (runId atten : Nat) (c : Chip) :
    (onCmMnbcSound outlet runId atten c).tb = c.tb := by simp [onCmMnbcSound]
@[simp] theorem onCmAttenChar_tb (outlet : Outlet) (runId : Nat) (c : Chip) :
    (onCmAttenChar outlet runId c).tb = c.tb := by simp [onCmAttenChar]
@[simp] theorem onCmSlacMatch_tb (outlet : Outlet) (runId : Nat) (c : Chip) :
    (onCmSlacMatch outlet runId c).tb = c.tb := by simp [onCmSlacMatch]
@[simp] theorem onCmSetKey_tb (outlet : Outlet) (runId : Nat) (c : Chip) :
    (onCmSetKey outlet runId c).tb = c.tb := by simp [onCmSetKey]
@[simp] theorem onCmValidate_tb (outlet : Outlet) (runId : Nat) (c : Chip) :
    (onCmValidate outlet runId c).tb = c.tb := by simp [onCmValidate]
@[simp] theorem onGpLinkUp_tb (outlet : Outlet) (c : Chip) : (onGpLinkUp outlet c).tb = c.tb := by simp [onGpLinkUp]
@[simp] theorem runsHlc_tb (c : Chip) (o : Nat) (p : Hlc) (tls : Nat) : (runsHlc c o p tls).tb = c.tb := by
  simp [runsHlc]
@[simp] theorem onSessionSetupReq_cycle (outlet : Outlet) (proto : Hlc) (tls : Nat) (sessionId : BitVec 128)
    (c : Chip) :
    (onSessionSetupReq outlet proto tls sessionId c).tb.cycle = c.tb.cycle := by simp [onSessionSetupReq]
@[simp] theorem onAuthorizationReq_cycle (outlet : Outlet) (pnc chainOk : Bool) (ident : List Byte) (ptable : Nat)
    (c : Chip) :
    (onAuthorizationReq outlet pnc chainOk ident ptable c).tb.cycle = c.tb.cycle := by simp [onAuthorizationReq]
@[simp] theorem answerLimits_tb (c : Chip) (o kind : Nat) (ok : Bool) :
    (answerLimits c o kind ok).tb = c.tb := by simp [answerLimits]
@[simp] theorem offerSchedules_tb (c : Chip) (o : Nat) (schedules : List (List Nat)) :
    (offerSchedules c o schedules).tb = c.tb := by simp [offerSchedules]
@[simp] theorem onChargeParameterDiscoveryReq_cycle (outlet : Outlet) (bpt dynamic : Bool)
    (schedules : List (List Nat)) (c : Chip) :
    (onChargeParameterDiscoveryReq outlet bpt dynamic schedules c).tb.cycle = c.tb.cycle := by
  simp [onChargeParameterDiscoveryReq]
@[simp] theorem onCableCheckReq_cycle (outlet : Outlet) (c : Chip) :
    (onCableCheckReq outlet c).tb.cycle = c.tb.cycle := by simp [onCableCheckReq]
@[simp] theorem onPreChargeReq_tb (outlet : Outlet) (mv ma : Nat) (c : Chip) :
    (onPreChargeReq outlet mv ma c).tb = c.tb := by simp [onPreChargeReq]
@[simp] theorem powerStart_cycle (c : Chip) (o : Outlet) : (powerStart c o).tb.cycle = c.tb.cycle := by
  simp [powerStart]
@[simp] theorem onPowerDeliveryReq_cycle (outlet : Outlet) (req : PowerReq) (angle : Nat) (c : Chip) :
    (onPowerDeliveryReq outlet req angle c).tb.cycle = c.tb.cycle := by
  unfold onPowerDeliveryReq; split <;> simp
@[simp] theorem onCurrentDemandReq_tb (outlet : Outlet) (mv : Nat) (ma : Int) (c : Chip) :
    (onCurrentDemandReq outlet mv ma c).tb = c.tb := by simp [onCurrentDemandReq]
@[simp] theorem onWeldingDetectionReq_tb (outlet : Outlet) (c : Chip) :
    (onWeldingDetectionReq outlet c).tb = c.tb := by simp [onWeldingDetectionReq]
@[simp] theorem onSessionStopReq_cycle (outlet : Outlet) (angle : Nat) (c : Chip) :
    (onSessionStopReq outlet angle c).tb.cycle = c.tb.cycle := by simp [onSessionStopReq]
@[simp] theorem onMeteringReceiptReq_tb (outlet : Outlet) (c : Chip) :
    (onMeteringReceiptReq outlet c).tb = c.tb := by
  unfold onMeteringReceiptReq; split <;> simp
@[simp] theorem onCertificateInstallationReq_tb (outlet : Outlet) (update : Bool) (cert : List Byte) (c : Chip) :
    (onCertificateInstallationReq outlet update cert c).tb = c.tb := by simp [onCertificateInstallationReq]
@[simp] theorem playLatched_cycle (c : Chip) (e : OutEvent) : (playLatched c e).tb.cycle = c.tb.cycle := by
  cases e <;> simp [playLatched]
@[simp] theorem playAll_cycle (c : Chip) : (playAll c).tb.cycle = c.tb.cycle := by simp [playAll]
@[simp] theorem writeList_tb (c : Chip) (new : List AuthEntry) (diff : Bool) (version : Nat) :
    (writeList c new diff version).tb = c.tb := by simp [writeList]
@[simp] theorem triggered_tb (c : Chip) (kind : Nat) : (triggered c kind).tb = c.tb := by
  unfold triggered
  refine foldl_tb _ _ _ fun c o => ?_
  split <;> simp
@[simp] theorem setVariable_tb (c : Chip) (id v : Nat) : (setVariable c id v).tb = c.tb := by
  unfold setVariable; dsimp only; (repeat' split) <;> simp
@[simp] theorem closedNow_cycle (c : Chip) (o : Outlet) : (closedNow c o).tb.cycle = c.tb.cycle := by simp [closedNow]
@[simp] theorem openNow_cycle (c : Chip) (o : Outlet) : (openNow c o).tb.cycle = c.tb.cycle := by
  unfold openNow; dsimp only; (repeat' split) <;> simp
@[simp] theorem fbChange_cycle (c : Chip) (o : Outlet) (closed : Bool) (us : Nat) :
    (fbChange c o closed us).tb.cycle = c.tb.cycle := by simp [fbChange]
@[simp] theorem setModule_tb (c : Chip) (b a : Nat) (m : Module) : (setModule c b a m).tb = c.tb := by
  simp [setModule]
@[simp] theorem moduleLost_cycle (c : Chip) (b a : Nat) : (moduleLost c b a).tb.cycle = c.tb.cycle := by
  unfold moduleLost; dsimp only; (repeat' split) <;> simp
@[simp] theorem identReq_tb (c : Chip) : (identReq c).tb = c.tb := by simp [identReq]

theorem execSessionStart_keepsCycle (req : Requester) (outlet : Outlet) (ptable : Nat) (auth : Bool) (kind : Nat)
    (ident : List Byte) (s : State) :
    KeepsCycle s (execSessionStart req outlet ptable auth kind ident s) := by
  refine (keepsCycle_onChip _ _).2 (perform_cycle _ _ _ _ _ fun c => ?_)
  dsimp only; (repeat' split) <;> simp

theorem execSessionStop_keepsCycle (req : Requester) (sessionId : BitVec 128) (s : State) :
    KeepsCycle s (execSessionStop req sessionId s) := by simp [execSessionStop]
theorem execPilotStateAccepted_keepsCycle (outlet : Outlet) (vpos vneg : Int) (angle : Nat) (s : State) :
    KeepsCycle s (execPilotStateAccepted outlet vpos vneg angle s) := by simp [execPilotStateAccepted]
theorem execPilotError_keepsCycle (outlet : Outlet) (s : State) : KeepsCycle s (execPilotError outlet s) := by
  simp [execPilotError]
theorem execPwmOffTimeout_keepsCycle (outlet : Outlet) (angle : Nat) (s : State) :
    KeepsCycle s (execPwmOffTimeout outlet angle s) := by simp [execPwmOffTimeout]
theorem execOvercurrentTimeout_keepsCycle (outlet : Outlet) (angle : Nat) (s : State) :
    KeepsCycle s (execOvercurrentTimeout outlet angle s) := by simp [execOvercurrentTimeout]
theorem execPpClassAccepted_keepsCycle (outlet : Outlet) (mv : Nat) (s : State) :
    KeepsCycle s (execPpClassAccepted outlet mv s) := by simp [execPpClassAccepted]
theorem execLockTimeout_keepsCycle (outlet : Outlet) (s : State) : KeepsCycle s (execLockTimeout outlet s) := by
  simp [execLockTimeout]
theorem execLockRetry_keepsCycle (outlet : Outlet) (s : State) : KeepsCycle s (execLockRetry outlet s) := by
  simp [execLockRetry]
theorem execLockFeedbackChange_keepsCycle (outlet : Outlet) (high : Bool) (s : State) :
    KeepsCycle s (execLockFeedbackChange outlet high s) := by simp [execLockFeedbackChange]
theorem execCmSlacParm_keepsCycle (outlet : Outlet) (runId : Nat) (s : State) :
    KeepsCycle s (execCmSlacParm outlet runId s) := by simp [execCmSlacParm]
theorem execCmStartAttenChar_keepsCycle (outlet : Outlet) (runId : Nat) (s : State) :
    KeepsCycle s (execCmStartAttenChar outlet runId s) := by simp [execCmStartAttenChar]
theorem execCmMnbcSound_keepsCycle (outlet : Outlet) (runId atten : Nat) (s : State) :
    KeepsCycle s (execCmMnbcSound outlet runId atten s) := by simp [execCmMnbcSound]
theorem execCmAttenChar_keepsCycle (outlet : Outlet) (runId : Nat) (s : State) :
    KeepsCycle s (execCmAttenChar outlet runId s) := by simp [execCmAttenChar]
theorem execCmSlacMatch_keepsCycle (outlet : Outlet) (runId : Nat) (s : State) :
    KeepsCycle s (execCmSlacMatch outlet runId s) := by simp [execCmSlacMatch]
theorem execCmSetKey_keepsCycle (outlet : Outlet) (runId : Nat) (s : State) :
    KeepsCycle s (execCmSetKey outlet runId s) := by simp [execCmSetKey]
theorem execCmValidate_keepsCycle (outlet : Outlet) (runId : Nat) (s : State) :
    KeepsCycle s (execCmValidate outlet runId s) := by simp [execCmValidate]
theorem execSlacTimeout_keepsCycle (outlet : Outlet) (s : State) : KeepsCycle s (execSlacTimeout outlet s) := by
  simp [execSlacTimeout]
theorem execSlacRetryTimer_keepsCycle (outlet : Outlet) (s : State) :
    KeepsCycle s (execSlacRetryTimer outlet s) := by simp [execSlacRetryTimer]
theorem execGpLinkUp_keepsCycle (outlet : Outlet) (s : State) : KeepsCycle s (execGpLinkUp outlet s) := by
  simp [execGpLinkUp]
theorem execSessionSetupReq_keepsCycle (outlet : Outlet) (proto : Hlc) (tls : Nat) (sessionId : BitVec 128)
    (s : State) :
    KeepsCycle s (execSessionSetupReq outlet proto tls sessionId s) := by simp [execSessionSetupReq]
theorem execSessionResumeTimeout_keepsCycle (outlet : Outlet) (angle : Nat) (s : State) :
    KeepsCycle s (execSessionResumeTimeout outlet angle s) := by
  refine keepsCycle_viaOutlet _ _ fun c => ?_
  dsimp only; (repeat' split) <;> simp
theorem execAuthorizationReq_keepsCycle (outlet : Outlet) (pnc chainOk : Bool) (ident : List Byte) (ptable : Nat)
    (s : State) :
    KeepsCycle s (execAuthorizationReq outlet pnc chainOk ident ptable s) := by simp [execAuthorizationReq]
theorem execChargeParameterDiscoveryReq_keepsCycle (outlet : Outlet) (bpt dynamic : Bool)
    (schedules : List (List Nat)) (s : State) :
    KeepsCycle s (execChargeParameterDiscoveryReq outlet bpt dynamic schedules s) := by
  simp [execChargeParameterDiscoveryReq]
theorem execCableCheckReq_keepsCycle (outlet : Outlet) (s : State) :
    KeepsCycle s (execCableCheckReq outlet s) := by simp [execCableCheckReq]
theorem execPreChargeReq_keepsCycle (outlet : Outlet) (mv ma : Nat) (s : State) :
    KeepsCycle s (execPreChargeReq outlet mv ma s) := by simp [execPreChargeReq]
theorem execPowerDeliveryReq_keepsCycle (outlet : Outlet) (req : PowerReq) (angle : Nat) (s : State) :
    KeepsCycle s (execPowerDeliveryReq outlet req angle s) := by simp [execPowerDeliveryReq]
theorem execCurrentDemandReq_keepsCycle (outlet : Outlet) (mv : Nat) (ma : Int) (s : State) :
    KeepsCycle s (execCurrentDemandReq outlet mv ma s) := by simp [execCurrentDemandReq]
theorem execWeldingDetectionReq_keepsCycle (outlet : Outlet) (s : State) :
    KeepsCycle s (execWeldingDetectionReq outlet s) := by simp [execWeldingDetectionReq]
theorem execSessionStopReq_keepsCycle (outlet : Outlet) (angle : Nat) (s : State) :
    KeepsCycle s (execSessionStopReq outlet angle s) := by simp [execSessionStopReq]
theorem execMeteringReceiptReq_keepsCycle (outlet : Outlet) (s : State) :
    KeepsCycle s (execMeteringReceiptReq outlet s) := by simp [execMeteringReceiptReq]
theorem execCertificateInstallationReq_keepsCycle (outlet : Outlet) (update : Bool) (cert : List Byte) (s : State) :
    KeepsCycle s (execCertificateInstallationReq outlet update cert s) := by simp [execCertificateInstallationReq]
theorem execHlcTimeout_keepsCycle (outlet : Outlet) (s : State) : KeepsCycle s (execHlcTimeout outlet s) := by
  simp [execHlcTimeout]
theorem execAuthBackendResponse_keepsCycle (outlet : Outlet) (accepted : Bool) (group expiry : Nat) (s : State) :
    KeepsCycle s (execAuthBackendResponse outlet accepted group expiry s) := by
  refine keepsCycle_viaService _ _ fun c => ?_
  dsimp only; (repeat' split) <;> simp
theorem execAuthBackendTimeout_keepsCycle (outlet : Outlet) (s : State) :
    KeepsCycle s (execAuthBackendTimeout outlet s) := by
  refine keepsCycle_viaService _ _ fun c => ?_
  dsimp only; (repeat' split) <;> simp
theorem execAuthExpiry_keepsCycle (outlet : Outlet) (angle : Nat) (s : State) :
    KeepsCycle s (execAuthExpiry outlet angle s) := by simp [execAuthExpiry]

theorem execNfcCardRead_keepsCycle (uid : List Byte) (ptable : Nat) (selected : Option Outlet) (angle : Nat)
    (s : State) :
    KeepsCycle s (execNfcCardRead uid ptable selected angle s) := by
  refine keepsCycle_viaService _ _ fun c => ?_
  dsimp only; (repeat' split) <;> simp

theorem execNfcCardHoldExpiry_keepsCycle (s : State) : KeepsCycle s (execNfcCardHoldExpiry s) := by
  simp [execNfcCardHoldExpiry]
theorem execAuthList_keepsCycle (req : Requester) (mode version : Nat) (buffer : Option (List Byte)) (s : State) :
    KeepsCycle s (execAuthList req mode version buffer s) := by
  unfold execAuthList; split <;> simp
theorem execOcppRemoteStart_keepsCycle (outlet : Outlet) (ptable : Nat) (ident : List Byte) (s : State) :
    KeepsCycle s (execOcppRemoteStart outlet ptable ident s) := by simp [execOcppRemoteStart]
theorem execOcppRemoteStop_keepsCycle (sessionId : BitVec 128) (angle : Nat) (s : State) :
    KeepsCycle s (execOcppRemoteStop sessionId angle s) := by
  refine keepsCycle_viaService _ _ fun c => ?_
  dsimp only; (repeat' split) <;> simp
theorem execOcppUnlockConnector_keepsCycle (outlet : Outlet) (s : State) :
    KeepsCycle s (execOcppUnlockConnector outlet s) := by simp [execOcppUnlockConnector]
theorem execOcppChangeAvailability_keepsCycle (outlet : Outlet) (operative : Bool) (s : State) :
    KeepsCycle s (execOcppChangeAvailability outlet operative s) := by simp [execOcppChangeAvailability]
theorem execOcppReset_keepsCycle (s : State) : KeepsCycle s (execOcppReset s) := by
  simp -implicitDefEqProofs [execOcppReset]
theorem execOcppTriggerMessage_keepsCycle (kind : Nat) (s : State) :
    KeepsCycle s (execOcppTriggerMessage kind s) := by simp [execOcppTriggerMessage]
theorem execOcppReservation_keepsCycle (outlet : Outlet) (ident : Option (List Byte)) (s : State) :
    KeepsCycle s (execOcppReservation outlet ident s) := by
  refine keepsCycle_viaService _ _ fun c => ?_
  dsimp only; (repeat' split) <;> simp
theorem execOcppChargingProfile_keepsCycle (outlet : Outlet) (id stack : Nat) (limit : Option Nat) (s : State) :
    KeepsCycle s (execOcppChargingProfile outlet id stack limit s) := by
  unfold execOcppChargingProfile; split <;> simp
theorem execOcppLocalList_keepsCycle (diff : Bool) (version : Nat) (entries : List AuthEntry) (s : State) :
    KeepsCycle s (execOcppLocalList diff version entries s) := by simp [execOcppLocalList]
theorem execOcppFirmwareUpdate_keepsCycle (s : State) : KeepsCycle s (execOcppFirmwareUpdate s) := by
  simp -implicitDefEqProofs [execOcppFirmwareUpdate]
theorem execOcppDataTransfer_keepsCycle (walduca : Bool) (s : State) :
    KeepsCycle s (execOcppDataTransfer walduca s) := by simp -implicitDefEqProofs [execOcppDataTransfer]
theorem execOcppSetVariables_keepsCycle (id : Nat) (value : Option Nat) (s : State) :
    KeepsCycle s (execOcppSetVariables id value s) := by
  unfold execOcppSetVariables; (repeat' split) <;> simp -implicitDefEqProofs
theorem execOcppSetDisplayMessage_keepsCycle (text : List Byte) (s : State) :
    KeepsCycle s (execOcppSetDisplayMessage text s) := by simp -implicitDefEqProofs [execOcppSetDisplayMessage]
theorem execOcppGetLog_keepsCycle (first count : Nat) (monitor : Option (Nat × Nat)) (s : State) :
    KeepsCycle s (execOcppGetLog first count monitor s) := by
  refine keepsCycle_viaService _ _ fun c => ?_
  dsimp only; (repeat' split) <;> simp
theorem execFbChange_keepsCycle (outlet : Outlet) (closed : Bool) (us angle since : Nat) (s : State) :
    KeepsCycle s (execFbChange outlet closed us angle since s) := by simp [execFbChange]
theorem execCloseTimeout_keepsCycle (outlet : Outlet) (s : State) :
    KeepsCycle s (execCloseTimeout outlet s) := by simp [execCloseTimeout]
theorem execCheckTimeout_keepsCycle (outlet : Outlet) (s : State) :
    KeepsCycle s (execCheckTimeout outlet s) := by simp [execCheckTimeout]
theorem execPrechargeTimeout_keepsCycle (outlet : Outlet) (s : State) :
    KeepsCycle s (execPrechargeTimeout outlet s) := by simp [execPrechargeTimeout]
theorem execOpeningTimeout_keepsCycle (outlet : Outlet) (s : State) :
    KeepsCycle s (execOpeningTimeout outlet s) := by simp [execOpeningTimeout]
theorem execRelearn_keepsCycle (outlet : Outlet) (s : State) : KeepsCycle s (execRelearn outlet s) := by
  simp -implicitDefEqProofs [execRelearn]
theorem execCoilPullinEnd_keepsCycle (outlet : Outlet) (s : State) :
    KeepsCycle s (execCoilPullinEnd outlet s) := by simp [execCoilPullinEnd]
theorem execCanStatus_keepsCycle (bus : Fin 2) (addr state fault mv : Nat) (ma temp : Int) (avail : Nat) (s : State) :
    KeepsCycle s (execCanStatus bus addr state fault mv ma temp avail s) := by
  refine keepsCycle_viaOutlet _ _ fun c => ?_
  dsimp only; (repeat' split) <;> simp

theorem execCanIdent_keepsCycle (bus : Fin 2) (addr serial ratedV ratedI ratedP : Nat) (reverse : Bool)
    (version : Nat) (s : State) :
    KeepsCycle s (execCanIdent bus addr serial ratedV ratedI ratedP reverse version s) := by
  refine keepsCycle_viaOutlet _ _ fun c => ?_
  dsimp only; (repeat' split) <;> simp

theorem execConvLost_keepsCycle (bus : Fin 2) (addr : Nat) (s : State) :
    KeepsCycle s (execConvLost bus addr s) := by simp [execConvLost]
theorem execCanBusOff_keepsCycle (bus : Fin 2) (tec rec' : Nat) (s : State) :
    KeepsCycle s (execCanBusOff bus tec rec' s) := by simp [execCanBusOff]
theorem execSetpointTick_keepsCycle (outlet : Outlet) (s : State) :
    KeepsCycle s (execSetpointTick outlet s) := by simp [execSetpointTick]
theorem execIdentReqTick_keepsCycle (s : State) : KeepsCycle s (execIdentReqTick s) := by simp [execIdentReqTick]

end Sys2Proof.Machine
end

section
/-! PROOFS. The frame of the cycle count: the load switches (R302 to R322). -/

namespace Sys2Proof.Machine

@[simp] theorem lswEvt_tb (c : Chip) (n b : Nat) : (lswEvt c n b).tb = c.tb := by simp [lswEvt]
@[simp] theorem setLswCurrent_tb (c : Chip) (b : Bool) (i : Nat) : (setLswCurrent c b i).tb = c.tb := by
  simp [setLswCurrent]
@[simp] theorem setLswRail_tb (c : Chip) (b : Bool) (mv : Nat) : (setLswRail c b mv).tb = c.tb := by simp [setLswRail]
@[simp] theorem setLswUv_tb (c : Chip) (b v : Bool) : (setLswUv c b v).tb = c.tb := by simp [setLswUv]
@[simp] theorem lswMeasured_tb (c : Chip) (n : Nat) (m : LswMeas) : (lswMeasured c n m).tb = c.tb := by
  simp [lswMeasured]
@[simp] theorem lswEpisode_cycle (c : Chip) (n : Nat) : (lswEpisode c n).tb.cycle = c.tb.cycle := by simp [lswEpisode]
@[simp] theorem lswTripsZero_tb (c : Chip) (n : Nat) : (lswTripsZero c n).tb = c.tb := by simp [lswTripsZero]
@[simp] theorem lswStart_tb (c : Chip) (n : Nat) (fast : Bool) : (lswStart c n fast).tb = c.tb := by simp [lswStart]
@[simp] theorem lswOnDemand_tb (c : Chip) (n : Nat) (fast : Bool) : (lswOnDemand c n fast).tb = c.tb := by
  simp [lswOnDemand]
@[simp] theorem lswOffDemand_tb (c : Chip) (n : Nat) : (lswOffDemand c n).tb = c.tb := by simp [lswOffDemand]
@[simp] theorem lswSettle_tb (old : Chip) (fast : Bool) (c : Chip) (n : Nat) :
    (lswSettle old fast c n).tb = c.tb := by simp [lswSettle]
@[simp] theorem lswSettleAll_tb (old c : Chip) : (lswSettleAll old c).tb = c.tb := by simp [lswSettleAll]
@[simp] theorem lswCommand_tb (c : Chip) (n : Nat) (on off : Bool) (dur : Nat) :
    (lswCommand c n on off dur).tb = c.tb := by simp [lswCommand]
@[simp] theorem lswTrip_cycle (c : Chip) (n : Nat) : (lswTrip c n).tb.cycle = c.tb.cycle := by simp [lswTrip]
@[simp] theorem lswTurnOnFail_cycle (c : Chip) (n : Nat) : (lswTurnOnFail c n).tb.cycle = c.tb.cycle := by
  simp [lswTurnOnFail]
@[simp] theorem bookTestPulses_cycle (c : Chip) : (bookTestPulses c).tb.cycle = c.tb.cycle := by simp [bookTestPulses]
@[simp] theorem linkBack_cycle (c : Chip) : (linkBack c).tb.cycle = c.tb.cycle := by simp [linkBack]
@[simp] theorem startPulse_tb (c : Chip) (n : Nat) : (startPulse c n).tb = c.tb := by simp [startPulse]
@[simp] theorem lswTestFail_cycle (c : Chip) (n : Nat) : (lswTestFail c n).tb.cycle = c.tb.cycle := by
  simp [lswTestFail]
@[simp] theorem lswDisableWrite_tb (c : Chip) (w : Word) : (lswDisableWrite c w).tb = c.tb := by
  simp -implicitDefEqProofs [lswDisableWrite]
@[simp] theorem lswBrownOut_tb (c : Chip) : (lswBrownOut c).tb = c.tb := by simp [lswBrownOut]
@[simp] theorem pwdLand_tb (c : Chip) (p : PwdWrite) (m : LswMeas) : (pwdLand c p m).tb = c.tb := by
  unfold pwdLand; dsimp only; (repeat' split) <;> simp
theorem execLswOn_keepsCycle (channel : Lsw) (dur : BitVec 8) (m : LswMeas) (s : State) :
    KeepsCycle s (execLswOn channel dur m s) := by simp [execLswOn]
theorem execLswOff_keepsCycle (channel : Lsw) (m : LswMeas) (s : State) :
    KeepsCycle s (execLswOff channel m s) := by simp [execLswOff]
theorem execLswDurExpiry_keepsCycle (channel : Lsw) (s : State) :
    KeepsCycle s (execLswDurExpiry channel s) := by simp [execLswDurExpiry]
theorem execLswInEdge_keepsCycle (channel : Lsw) (level recent : Bool) (m : LswMeas) (s : State) :
    KeepsCycle s (execLswInEdge channel level recent m s) := by simp [execLswInEdge]
theorem execLswRampDone_keepsCycle (channel : Lsw) (m : LswMeas) (s : State) :
    KeepsCycle s (execLswRampDone channel m s) := by simp [execLswRampDone]
theorem execLswWindowEnd_keepsCycle (channel : Lsw) (m : LswMeas) (s : State) :
    KeepsCycle s (execLswWindowEnd channel m s) := by simp [execLswWindowEnd]
theorem execLswRailSag_keepsCycle (channel : Lsw) (m : LswMeas) (s : State) :
    KeepsCycle s (execLswRailSag channel m s) := by simp [execLswRailSag]
theorem execLswRampResume_keepsCycle (channel : Lsw) (ms : Nat) (m : LswMeas) (s : State) :
    KeepsCycle s (execLswRampResume channel ms m s) := by simp [execLswRampResume]
theorem execLswPauseTimeout_keepsCycle (channel : Lsw) (ms : Nat) (s : State) :
    KeepsCycle s (execLswPauseTimeout channel ms s) := by simp [execLswPauseTimeout]
theorem execLswThermalShutdown_keepsCycle (channel : Lsw) (m : LswMeas) (s : State) :
    KeepsCycle s (execLswThermalShutdown channel m s) := by
  refine (keepsCycle_onChip _ _).2 ?_
  dsimp only; (repeat' split) <;> simp
theorem execLswRetry_keepsCycle (channel : Lsw) (m : LswMeas) (s : State) :
    KeepsCycle s (execLswRetry channel m s) := by simp [execLswRetry]
theorem execLswTripsReset_keepsCycle (channel : Lsw) (s : State) :
    KeepsCycle s (execLswTripsReset channel s) := by simp [execLswTripsReset]
theorem execLswOvercurrent_keepsCycle (channel : Lsw) (m : LswMeas) (s : State) :
    KeepsCycle s (execLswOvercurrent channel m s) := by simp [execLswOvercurrent]
theorem execLswShed_keepsCycle (groupB : Bool) (current : Nat) (s : State) :
    KeepsCycle s (execLswShed groupB current s) := by
  refine (keepsCycle_onChip _ _).2 ?_
  dsimp only; (repeat' split) <;> simp
theorem execLswGroupUv_keepsCycle (groupB : Bool) (rail : Nat) (s : State) :
    KeepsCycle s (execLswGroupUv groupB rail s) := by simp [execLswGroupUv]
theorem execLswGroupUvRecover_keepsCycle (groupB : Bool) (rail current : Nat) (s : State) :
    KeepsCycle s (execLswGroupUvRecover groupB rail current s) := by simp [execLswGroupUvRecover]
theorem execLswGroupWithinBudget_keepsCycle (groupB : Bool) (current : Nat) (s : State) :
    KeepsCycle s (execLswGroupWithinBudget groupB current s) := by simp [execLswGroupWithinBudget]
theorem execLswTestPulse_keepsCycle (channel : Lsw) (s : State) :
    KeepsCycle s (execLswTestPulse channel s) := by simp [execLswTestPulse]
theorem execLswTestPulseEnd_keepsCycle (channel : Lsw) (fellUs maxMa : Nat) (m : LswMeas) (s : State) :
    KeepsCycle s (execLswTestPulseEnd channel fellUs maxMa m s) := by simp [execLswTestPulseEnd]
theorem execLswOffCheckFail_keepsCycle (channel : Lsw) (m : LswMeas) (s : State) :
    KeepsCycle s (execLswOffCheckFail channel m s) := by simp [execLswOffCheckFail]
theorem execLswOpenLoad_keepsCycle (channel : Lsw) (sourceOn sourceOff : Nat) (m : LswMeas) (s : State) :
    KeepsCycle s (execLswOpenLoad channel sourceOn sourceOff m s) := by simp [execLswOpenLoad]
theorem execLswDisableWrite_keepsCycle (value : BitVec 12) (s : State) :
    KeepsCycle s (execLswDisableWrite value s) := by simp [execLswDisableWrite]
theorem execPwdWriteLanded_keepsCycle (m : LswMeas) (s : State) : KeepsCycle s (execPwdWriteLanded m s) := by
  refine (keepsCycle_onChip _ _).2 ?_
  dsimp only; (repeat' split) <;> simp
theorem execLswCmd_keepsCycle (req : Requester) (channel : Lsw) (on off : Bool) (dur : Nat) (s : State) :
    KeepsCycle s (execLswCmd req channel on off dur s) := by simp [execLswCmd]

end Sys2Proof.Machine
end

section
/-! PROOFS. The frame of the cycle count: display, ageing and panels (R324 to R345). -/

namespace Sys2Proof.Machine

@[simp] theorem dspEvt_tb (c : Chip) (b : Nat) : (dspEvt c b).tb = c.tb := by simp [dspEvt]
@[simp] theorem publish_tb (c : Chip) (addr : Nat) (crc : Word) (owner : Option Requester) :
    (publish c addr crc owner).tb = c.tb := by
  unfold publish; dsimp only; (repeat' split) <;> simp
@[simp] theorem slewGains_tb (c : Chip) : (slewGains c).tb = c.tb := by simp [slewGains]
@[simp] theorem addStress_tb (c : Chip) (dram : List Host.Cell) (dur : Nat) :
    (addStress c dram dur).tb = c.tb := by simp [addStress]
@[simp] theorem takeMethod_tb (c : Chip) : (takeMethod c).tb = c.tb := by simp [takeMethod]
@[simp] theorem scanReported_tb (old c : Chip) : (scanReported old c).tb = c.tb := by simp [scanReported]
@[simp] theorem flip_tb (c : Chip) : (flip c).tb = c.tb := by
  unfold flip; split <;> simp
@[simp] theorem frameStart_tb (c : Chip) : (frameStart c).tb = c.tb := by simp [frameStart]
@[simp] theorem checkFrame_cycle (c : Chip) (dram : List Host.Cell) (dramError : Bool) :
    (checkFrame c dram dramError).tb.cycle = c.tb.cycle := by
  unfold checkFrame; split <;> simp
@[simp] theorem frameEnd_cycle (c : Chip) (dram : List Host.Cell) (dur : Nat) (dramError : Bool) :
    (frameEnd c dram dur dramError).tb.cycle = c.tb.cycle := by simp [frameEnd]
@[simp] theorem bookDisplay_cycle (c : Chip) : (bookDisplay c).tb.cycle = c.tb.cycle := by simp [bookDisplay]
@[simp] theorem ageSave_tb (c : Chip) : (ageSave c).tb = c.tb := by simp [ageSave]
@[simp] theorem ageLoad_tb (c : Chip) (bad : BitVec 2) : (ageLoad c bad).tb = c.tb := by
  unfold ageLoad; split <;> simp
@[simp] theorem scanStep_tb (c : Chip) : (scanStep c).tb = c.tb := by simp [scanStep]
@[simp] theorem ageBaseline_tb (c : Chip) : (ageBaseline c).tb = c.tb := by simp [ageBaseline]
@[simp] theorem panelAbrupt_tb (c : Chip) : (panelAbrupt c).tb = c.tb := by simp [panelAbrupt]
@[simp] theorem modBp_tb (c : Chip) (f : Bp → Bp) : (modBp c f).tb = c.tb := by simp [modBp]
@[simp] theorem bpFault_cycle (c : Chip) : (bpFault c).tb.cycle = c.tb.cycle := by simp [bpFault]
@[simp] theorem bpUpdate_cycle (c : Chip) (temp : Int) (panelFault : Bool) :
    (bpUpdate c temp panelFault).tb.cycle = c.tb.cycle := by simp [bpUpdate]
@[simp] theorem legalReadback_cycle (c : Chip) (crc : Word) : (legalReadback c crc).tb.cycle = c.tb.cycle := by
  simp [legalReadback]
@[simp] theorem bpBrownOut_tb (c : Chip) (done : Nat) : (bpBrownOut c done).tb = c.tb := by simp [bpBrownOut]
theorem execDspPubGo_keepsCycle (s : State) : KeepsCycle s (execDspPubGo s) := by simp [execDspPubGo]
theorem execDspPublish_keepsCycle (req : Requester) (offset : Nat) (crc : Word) (s : State) :
    KeepsCycle s (execDspPublish req offset crc s) := by simp [execDspPublish]
theorem execDspWrite_keepsCycle (req : Requester) (offset : Nat) (data : Option (List Byte)) (s : State) :
    KeepsCycle s (execDspWrite req offset data s) := by simp [execDspWrite]
theorem execDspFrameStart_keepsCycle (s : State) : KeepsCycle s (execDspFrameStart s) := by simp [execDspFrameStart]
theorem execFrameFree_keepsCycle (s : State) : KeepsCycle s (execFrameFree s) := by simp [execFrameFree]
theorem execDspFrameEnd_keepsCycle (dur : Nat) (dramError : Bool) (s : State) :
    KeepsCycle s (execDspFrameEnd dur dramError s) := by simp [execDspFrameEnd]
theorem execAgeRecompute_keepsCycle (s : State) : KeepsCycle s (execAgeRecompute s) := by simp [execAgeRecompute]
theorem execAgeSave_keepsCycle (s : State) : KeepsCycle s (execAgeSave s) := by simp [execAgeSave]
theorem execAgeSense_keepsCycle (s : State) : KeepsCycle s (execAgeSense s) := by simp [execAgeSense]
theorem execAgeSenseRead_keepsCycle (sum : Nat) (s : State) : KeepsCycle s (execAgeSenseRead sum s) := by
  refine (keepsCycle_onChip _ _).2 ?_
  dsimp only; (repeat' split) <;> simp
theorem execAgeBaseline_keepsCycle (s : State) : KeepsCycle s (execAgeBaseline s) := by simp [execAgeBaseline]
theorem execPanelPowerOn_keepsCycle (s : State) : KeepsCycle s (execPanelPowerOn s) := by simp [execPanelPowerOn]
theorem execPanelPowerOnStep_keepsCycle (s : State) : KeepsCycle s (execPanelPowerOnStep s) := by
  refine (keepsCycle_onChip _ _).2 ?_
  (repeat' split) <;> simp
theorem execPanelPowerOff_keepsCycle (s : State) : KeepsCycle s (execPanelPowerOff s) := by
  refine (keepsCycle_onChip _ _).2 ?_
  (repeat' split) <;> simp
theorem execPanelPowerOffStep_keepsCycle (s : State) : KeepsCycle s (execPanelPowerOffStep s) := by
  refine (keepsCycle_onChip _ _).2 ?_
  (repeat' split) <;> simp
theorem execBpUpdateStart_keepsCycle (temp : Int) (panelFault : Bool) (s : State) :
    KeepsCycle s (execBpUpdateStart temp panelFault s) := by simp [execBpUpdateStart]
theorem execBpFaultRetry_keepsCycle (temp : Int) (panelFault : Bool) (s : State) :
    KeepsCycle s (execBpFaultRetry temp panelFault s) := by simp [execBpFaultRetry]
theorem execBpBusyFall_keepsCycle (image : List Bool) (panelFault : Bool) (s : State) :
    KeepsCycle s (execBpBusyFall image panelFault s) := by simp [execBpBusyFall]

end Sys2Proof.Machine
end

section
/-! PROOFS. The frame of the cycle count: rings, doorbells and descriptors (R346 to R368). -/

namespace Sys2Proof.Machine

@[simp] theorem hstEvt_tb (c : Chip) (b : Nat) : (hstEvt c b).tb = c.tb := by simp [hstEvt]
@[simp] theorem dropMarkers_cycle (c : Chip) (p : Ring → Bool) : (dropMarkers c p).tb.cycle = c.tb.cycle := by
  simp [dropMarkers]
@[simp] theorem setWlock_tb (c : Chip) : (setWlock c).tb = c.tb := by simp [setWlock]
@[simp] theorem accessFault_cycle (c : Chip) (a : Nat) : (accessFault c a).tb.cycle = c.tb.cycle := by
  simp [accessFault]
@[simp] theorem lockWrite_cycle (c : Chip) (a : Nat) (miss : Bool) :
    (lockWrite c a miss).tb.cycle = c.tb.cycle := by simp [lockWrite]
@[simp] theorem ringError_cycle (c : Chip) (q : Ring) (err : Nat) (dma : Bool) :
    (ringError c q err dma).tb.cycle = c.tb.cycle := by simp [ringError]
@[simp] theorem startRing_cycle (c : Chip) (q : Ring) : (startRing c q).tb.cycle = c.tb.cycle := by simp [startRing]
@[simp] theorem ringEnable_cycle (c : Chip) (q : Ring) (w : Word) :
    (ringEnable c q w).tb.cycle = c.tb.cycle := by
  unfold ringEnable; (repeat' split) <;> simp
@[simp] theorem drainRing_tb (c : Chip) (q : Ring) : (drainRing c q).tb = c.tb := by simp [drainRing]
@[simp] theorem ringDisable_tb (c : Chip) (q : Ring) (w : Word) : (ringDisable c q w).tb = c.tb := by
  unfold ringDisable; dsimp only; (repeat' split) <;> simp
@[simp] theorem fly_tb (c : Chip) (d : Desc) : (fly c d).tb = c.tb := by simp [fly]
@[simp] theorem acceptDesc_tb (c : Chip) (q : Ring) (index : Nat) (bytes : List Byte) :
    (acceptDesc c q index bytes).tb = c.tb := by
  unfold acceptDesc; dsimp only; (repeat' split) <;> simp
@[simp] theorem fetchDesc_tb (c : Chip) (q : Ring) (bytes : List Byte) : (fetchDesc c q bytes).tb = c.tb := by
  simp [fetchDesc]
@[simp] theorem sendPending_tb (c : Chip) (v : Nat) : (sendPending c v).tb = c.tb := by simp [sendPending]
theorem execPerst_keepsCycle (asserted : Bool) (s : State) : KeepsCycle s (execPerst asserted s) := by
  simp [execPerst]
theorem execPcieLinkUp_keepsCycle (speed width : Nat) (s : State) :
    KeepsCycle s (execPcieLinkUp speed width s) := by simp [execPcieLinkUp]
theorem execPcieLinkDown_keepsCycle (s : State) : KeepsCycle s (execPcieLinkDown s) := by simp [execPcieLinkDown]
theorem execWlockSet_keepsCycle (s : State) : KeepsCycle s (execWlockSet s) := by simp [execWlockSet]
theorem execLockedWrite_keepsCycle (addr : Nat) (value : Word) (s : State) :
    KeepsCycle s (execLockedWrite addr value s) := by simp [execLockedWrite]
theorem execRingEnable_keepsCycle (ring : Ring) (value : Word) (s : State) :
    KeepsCycle s (execRingEnable ring value s) := by simp [execRingEnable]
theorem execRingDisable_keepsCycle (ring : Ring) (value : Word) (s : State) :
    KeepsCycle s (execRingDisable ring value s) := by simp [execRingDisable]
theorem execSqDoorbell_keepsCycle (ring : Ring) (tail : BitVec 12) (s : State) :
    KeepsCycle s (execSqDoorbell ring tail s) := by simp [execSqDoorbell]
theorem execCqDoorbell_keepsCycle (ring : Ring) (head : BitVec 12) (s : State) :
    KeepsCycle s (execCqDoorbell ring head s) := by simp [execCqDoorbell]
theorem execDescriptorFetch_keepsCycle (ring : Ring) (fetched : Fetched) (s : State) :
    KeepsCycle s (execDescriptorFetch ring fetched s) := by
  unfold execDescriptorFetch; split <;> simp
theorem execCoalTimer_keepsCycle (ring : Ring) (s : State) : KeepsCycle s (execCoalTimer ring s) := by
  simp [execCoalTimer]
theorem execMsixTableWrite_keepsCycle (w : MsixWrite) (s : State) : KeepsCycle s (execMsixTableWrite w s) := by
  unfold execMsixTableWrite; split <;> simp

end Sys2Proof.Machine
end

section
/-! PROOFS. The frame of the cycle count: the Felt fabric (R370 to R400). -/

namespace Sys2Proof.Machine

@[simp] theorem chooseRoot_tb (c : Chip) : (chooseRoot c).tb = c.tb := by simp [chooseRoot]
@[simp] theorem portTrain_tb (c : Chip) (p : Nat) : (portTrain c p).tb = c.tb := by simp [portTrain]
@[simp] theorem setRate_tb (c : Chip) (p : Nat) (standby : Bool) : (setRate c p standby).tb = c.tb := by
  simp [setRate]
@[simp] theorem allRates_tb (c : Chip) (standby : Bool) : (allRates c standby).tb = c.tb := by simp [allRates]
@[simp] theorem forwardFlood_tb (c : Chip) (h : FeltHdr) (typ : Nat) : (forwardFlood c h typ).tb = c.tb := by
  simp [forwardFlood]
@[simp] theorem passOn_tb (c : Chip) (h : FeltHdr) (typ : Nat) (flood : Bool) :
    (passOn c h typ flood).tb = c.tb := by
  unfold passOn; (repeat' split) <;> simp
@[simp] theorem badFrame_cycle (c : Chip) (p : Nat) (tag : Bool) :
    (badFrame c p tag).tb.cycle = c.tb.cycle := by simp [badFrame]
@[simp] theorem receive_cycle (c : Chip) (h : FeltHdr) (typ : Nat) (flood echo : Bool) (use : Chip → Chip)
    (hu : ∀ c, (use c).tb.cycle = c.tb.cycle) : (receive c h typ flood echo use).tb.cycle = c.tb.cycle := by
  simp [receive, hu]
@[simp] theorem floodClaim_tb (c : Chip) : (floodClaim c).tb = c.tb := by simp [floodClaim]
@[simp] theorem claimAddr_tb (c : Chip) (a : Nat) : (claimAddr c a).tb = c.tb := by simp [claimAddr]
@[simp] theorem claimNext_tb (c : Chip) (lost : Option Nat) : (claimNext c lost).tb = c.tb := by
  unfold claimNext; split <;> simp
@[simp] theorem claimStart_tb (c : Chip) : (claimStart c).tb = c.tb := by
  unfold claimStart; (repeat' split) <;> simp
@[simp] theorem fabStart_tb (c : Chip) : (fabStart c).tb = c.tb := by simp [fabStart]
@[simp] theorem enChanged_cycle (c : Chip) : (enChanged c).tb.cycle = c.tb.cycle := by simp [enChanged]
@[simp] theorem conflict_tb (c : Chip) (unit : BitVec 128) (addr : Nat) :
    (conflict c unit addr).tb = c.tb := by simp [conflict]
@[simp] theorem exchange_tb (c : Chip) (p : Nat) : (exchange c p).tb = c.tb := by simp [exchange]
@[simp] theorem floodNotices_tb (c : Chip) : (floodNotices c).tb = c.tb := by
  rw [floodNotices, List.foldr_eq_foldl_reverse]
  exact foldl_tb _ _ _ fun c n => sendFlood_tb c _ _
@[simp] theorem greet_tb (old c : Chip) : (greet old c).tb = c.tb := by simp [greet]
@[simp] theorem helloAll_tb (c : Chip) : (helloAll c).tb = c.tb := by simp [helloAll]
@[simp] theorem putLsa_tb (c : Chip) (r : LsaRec) : (putLsa c r).tb = c.tb := by simp [putLsa]
@[simp] theorem moveMember_tb (c : Chip) (old new : Nat) : (moveMember c old new).tb = c.tb := by simp [moveMember]
@[simp] theorem removeMember_tb (c : Chip) (addr : Nat) : (removeMember c addr).tb = c.tb := by simp [removeMember]
@[simp] theorem bookRound_cycle (c : Chip) : (bookRound c).tb.cycle = c.tb.cycle := by simp [bookRound]
@[simp] theorem takeBeacon_cycle (c : Chip) (p : Nat) (y : SyncBody) :
    (takeBeacon c p y).tb.cycle = c.tb.cycle := by simp [takeBeacon]
@[simp] theorem followRoot_cycle (c : Chip) (p : Nat) (y : SyncBody) (rx : Nat) :
    (followRoot c p y rx).tb.cycle = c.tb.cycle := by
  unfold followRoot; split <;> simp
theorem execPortLock_keepsCycle (port : FPort) (full : Bool) (s : State) :
    KeepsCycle s (execPortLock port full s) := by simp [execPortLock]
theorem execPortTrainTimeout_keepsCycle (port : FPort) (s : State) :
    KeepsCycle s (execPortTrainTimeout port s) := by simp [execPortTrainTimeout]
theorem execPortLockLoss_keepsCycle (port : FPort) (neighbourPower : Bool) (s : State) :
    KeepsCycle s (execPortLockLoss port neighbourPower s) := by simp [execPortLockLoss]
theorem execRate_keepsCycle (port : FPort) (standby : Bool) (s : State) :
    KeepsCycle s (execRate port standby s) := by simp [execRate]
theorem execPortErrRead_keepsCycle (port : FPort) (s : State) : KeepsCycle s (execPortErrRead port s) := by
  simp -implicitDefEqProofs [execPortErrRead]
theorem execFeltFrameRejected_keepsCycle (h : FeltHdr) (typ : Nat) (why : FrameFault) (s : State) :
    KeepsCycle s (execFeltFrameRejected h typ why s) := by
  unfold execFeltFrameRejected; split <;> simp
theorem execClaim_keepsCycle (h : FeltHdr) (unit : BitVec 128) (addr : Nat) (s : State) :
    KeepsCycle s (execClaim h unit addr s) := by simp [execClaim]
theorem execAddrClaimValid_keepsCycle (s : State) : KeepsCycle s (execAddrClaimValid s) := by
  simp [execAddrClaimValid]
theorem execHello_keepsCycle (h : FeltHdr) (unit : BitVec 128) (addr : Nat) (tentative : Bool)
    (nport rate rated flags : Nat) (s : State) :
    KeepsCycle s (execHello h unit addr tentative nport rate rated flags s) := by simp [execHello]
theorem execHelloTick_keepsCycle (port : FPort) (s : State) : KeepsCycle s (execHelloTick port s) := by
  simp [execHelloTick]

theorem execLsa_keepsCycle (h : FeltHdr) (unit : BitVec 128) (lsaSeq rated flags : Nat) (links : List FLink)
    (s : State) :
    KeepsCycle s (execLsa h unit lsaSeq rated flags links s) := by
  refine (keepsCycle_onChip _ _).2 (receive_cycle _ _ _ _ _ _ fun c => ?_)
  dsimp only; (repeat' split) <;> simp

theorem execLsaRefresh_keepsCycle (s : State) : KeepsCycle s (execLsaRefresh s) := by simp [execLsaRefresh]
theorem execLsaAgeOut_keepsCycle (addr : Nat) (s : State) : KeepsCycle s (execLsaAgeOut addr s) := by
  simp [execLsaAgeOut]
theorem execLeave_keepsCycle (h : FeltHdr) (unit : BitVec 128) (reason : Nat) (s : State) :
    KeepsCycle s (execLeave h unit reason s) := by
  refine (keepsCycle_onChip _ _).2 (receive_cycle _ _ _ _ _ _ fun c => ?_)
  dsimp only; (repeat' split) <;> simp
theorem execSync_keepsCycle (h : FeltHdr) (sync : SyncBody) (rxTime : Nat) (s : State) :
    KeepsCycle s (execSync h sync rxTime s) := by simp [execSync]
theorem execSyncTick_keepsCycle (port : FPort) (s : State) : KeepsCycle s (execSyncTick port s) := by
  simp [execSyncTick]

end Sys2Proof.Machine
end

section
/-! PROOFS. The frame of the cycle count: allocation rounds (R384 to R392). -/

namespace Sys2Proof.Machine

@[simp] theorem keepDemand_tb (c : Chip) (d : Demand) : (keepDemand c d).tb = c.tb := by simp [keepDemand]
@[simp] theorem applyGrants_tb (c : Chip) (r : Nat) : (applyGrants c r).tb = c.tb := by
  unfold applyGrants; split <;> simp
@[simp] theorem noteMissing_tb (c : Chip) (used : List Demand) : (noteMissing c used).tb = c.tb := by
  simp [noteMissing]
@[simp] theorem pushResult_tb (c : Chip) (a : AllocResult) : (pushResult c a).tb = c.tb := by simp [pushResult]
@[simp] theorem noteAgreed_tb (c : Chip) (r : Nat) : (noteAgreed c r).tb = c.tb := by
  unfold noteAgreed; split <;> simp
@[simp] theorem discardIncreases_tb (c : Chip) (k : Nat) : (discardIncreases c k).tb = c.tb := by
  simp [discardIncreases]
@[simp] theorem skipRound_tb (c : Chip) : (skipRound c).tb = c.tb := by simp [skipRound]
@[simp] theorem declareFallback_cycle (c : Chip) (r : Nat) (div part : Bool) :
    (declareFallback c r div part).tb.cycle = c.tb.cycle := by simp [declareFallback]
@[simp] theorem floodGrant_tb (c : Chip) (a : AllocResult) : (floodGrant c a).tb = c.tb := by simp [floodGrant]
@[simp] theorem roundStep3_cycle (c : Chip) (r : Nat) : (roundStep3 c r).tb.cycle = c.tb.cycle := by
  unfold roundStep3; dsimp only; (repeat' split) <;> simp
@[simp] theorem floodResume_tb (c : Chip) (r : Nat) : (floodResume c r).tb = c.tb := by simp [floodResume]
@[simp] theorem resumeNow_tb (c : Chip) (r : Nat) : (resumeNow c r).tb = c.tb := by
  unfold resumeNow; split <;> simp
@[simp] theorem countSteady_tb (c : Chip) : (countSteady c).tb = c.tb := by simp [countSteady]
@[simp] theorem noteStarts_tb (c : Chip) (r : Nat) : (noteStarts c r).tb = c.tb := by simp [noteStarts]
@[simp] theorem nextRound_tb (c : Chip) (r : Nat) : (nextRound c r).tb = c.tb := by simp [nextRound]
@[simp] theorem roundStep1_tb (c : Chip) (r : Nat) : (roundStep1 c r).tb = c.tb := by simp [roundStep1]
@[simp] theorem runRound_count (c : Chip) :
    (runRound c).tb.cycle = c.tb.cycle ∧ (runRound c).tb.known = c.tb.known := by simp [runRound]
@[simp] theorem retryResume_tb (c : Chip) : (retryResume c).tb = c.tb := by simp [retryResume]
theorem execGrantTimeout_keepsCycle (s : State) : KeepsCycle s (execGrantTimeout s) := by simp [execGrantTimeout]
theorem execAllocCollectionClose_keepsCycle (s : State) : KeepsCycle s (execAllocCollectionClose s) := by
  simp [execAllocCollectionClose]
theorem execPartitionHoldEnd_keepsCycle (s : State) : KeepsCycle s (execPartitionHoldEnd s) := by
  simp [execPartitionHoldEnd]
theorem execDemand_keepsCycle (h : FeltHdr) (demand : Demand) (s : State) :
    KeepsCycle s (execDemand h demand s) := by simp [execDemand]
theorem execGrant_keepsCycle (h : FeltHdr) (round : Nat) (digest : BitVec 128) (milliner segment segments : Nat)
    (items : List GrantItem) (s : State) :
    KeepsCycle s (execGrant h round digest milliner segment segments items s) := by simp [execGrant]
theorem execResume_keepsCycle (h : FeltHdr) (round milliner : Nat) (s : State) :
    KeepsCycle s (execResume h round milliner s) := by simp [execResume]
theorem execFabCtrlRetry_keepsCycle (s : State) : KeepsCycle s (execFabCtrlRetry s) := by simp [execFabCtrlRetry]

end Sys2Proof.Machine
end

section
/-! PROOFS. The frame of the cycle count: session replicas (R395 to R398). -/

namespace Sys2Proof.Machine

@[simp] theorem sendAck_tb (c : Chip) (dst : Nat) (sid : BitVec 128) (cycle result : Nat) :
    (sendAck c dst sid cycle result).tb = c.tb := by simp [sendAck]
@[simp] theorem putSlots_tb (c : Chip) (x : Nat) (values : List Nat) : (putSlots c x values).tb = c.tb := by
  simp [putSlots]
@[simp] theorem dropHolder_tb (c : Chip) (sid : BitVec 128) (a : Nat) : (dropHolder c sid a).tb = c.tb := by
  simp [dropHolder]
@[simp] theorem modSession_tb (c : Chip) (sid : BitVec 128) (f : Context → Context) :
    (modSession c sid f).tb = c.tb := by
  unfold modSession; split <;> simp
@[simp] theorem replaceSession_tb (c : Chip) (sid : BitVec 128) : (replaceSession c sid).tb = c.tb := by
  unfold replaceSession; split <;> simp
@[simp] theorem holderTold_tb (c : Chip) (sid : BitVec 128) (a : Nat) : (holderTold c sid a).tb = c.tb := by
  unfold holderTold; dsimp only; (repeat' split) <;> simp
@[simp] theorem holderLost_tb (c : Chip) (sid : BitVec 128) (a : Nat) : (holderLost c sid a).tb = c.tb := by
  simp [holderLost]
@[simp] theorem holderRefused_tb (c : Chip) (sid : BitVec 128) (a : Nat) :
    (holderRefused c sid a).tb = c.tb := by simp [holderRefused]
@[simp] theorem adoptReplica_tb (c : Chip) (x : Nat) : (adoptReplica c x).tb = c.tb := by simp [adoptReplica]
@[simp] theorem stopOwn_cycle (c : Chip) (x : Nat) : (stopOwn c x).tb.cycle = c.tb.cycle := by
  unfold stopOwn; dsimp only; (repeat' split) <;> simp
@[simp] theorem dupSettled_cycle (c : Chip) (sid : BitVec 128) : (dupSettled c sid).tb.cycle = c.tb.cycle := by
  unfold dupSettled; dsimp only; (repeat' split) <;> simp
@[simp] theorem forgetMember_tb (c : Chip) (addr : Nat) : (forgetMember c addr).tb = c.tb := by simp [forgetMember]
@[simp] theorem forgetAddr_tb (c : Chip) (addr : Nat) : (forgetAddr c addr).tb = c.tb := by
  unfold forgetAddr; split <;> simp
theorem execReplicaOpen_keepsCycle (h : FeltHdr) (body : ReplicaOpen) (s : State) :
    KeepsCycle s (execReplicaOpen h body s) := by
  refine (keepsCycle_onChip _ _).2 (receive_cycle _ _ _ _ _ _ fun c => ?_)
  dsimp only; (repeat' split) <;> simp
theorem execReplicaUpdate_keepsCycle (h : FeltHdr) (body : ReplicaUpdate) (s : State) :
    KeepsCycle s (execReplicaUpdate h body s) := by
  refine (keepsCycle_onChip _ _).2 (receive_cycle _ _ _ _ _ _ fun c => ?_)
  dsimp only; (repeat' split) <;> simp
theorem execReplicaAck_keepsCycle (h : FeltHdr) (sessionId : BitVec 128) (cycle result : Nat) (s : State) :
    KeepsCycle s (execReplicaAck h sessionId cycle result s) := by
  refine (keepsCycle_onChip _ _).2 (receive_cycle _ _ _ _ _ _ fun c => ?_)
  dsimp only; (repeat' split) <;> simp
theorem execReplicaClose_keepsCycle (h : FeltHdr) (sessionId : BitVec 128) (reason seq : Nat) (s : State) :
    KeepsCycle s (execReplicaClose h sessionId reason seq s) := by
  refine (keepsCycle_onChip _ _).2 (receive_cycle _ _ _ _ _ _ fun c => ?_)
  dsimp only; (repeat' split) <;> simp
theorem execReplicaHolderLost_keepsCycle (sessionId : BitVec 128) (holder : Nat) (s : State) :
    KeepsCycle s (execReplicaHolderLost sessionId holder s) := by
  refine (keepsCycle_onChip _ _).2 ?_
  (repeat' split) <;> simp
theorem execReplicaPlaceRetry_keepsCycle (outlet : Outlet) (s : State) :
    KeepsCycle s (execReplicaPlaceRetry outlet s) := by
  refine (keepsCycle_onChip _ _).2 ?_
  dsimp only; (repeat' split) <;> simp
theorem execReplicaCloseRetry_keepsCycle (sessionId : BitVec 128) (holder : Nat) (s : State) :
    KeepsCycle s (execReplicaCloseRetry sessionId holder s) := by
  refine (keepsCycle_onChip _ _).2 ?_
  (repeat' split) <;> simp
theorem execReplicaAdopt_keepsCycle (ctx : Ctx) (primaryAlso : Bool) (s : State) :
    KeepsCycle s (execReplicaAdopt ctx primaryAlso s) := by simp [execReplicaAdopt]

theorem execSettled_keepsCycle (h : FeltHdr) (sessionId : BitVec 128) (origin settler : Nat) (adopted : Bool)
    (seq : Nat) (s : State) :
    KeepsCycle s (execSettled h sessionId origin settler adopted seq s) := by
  refine (keepsCycle_onChip _ _).2 (receive_cycle _ _ _ _ _ _ fun c => ?_)
  dsimp only; (repeat' split) <;> simp

theorem execForget_keepsCycle (h : FeltHdr) (addr : Nat) (unit : BitVec 128) (s : State) :
    KeepsCycle s (execForget h addr unit s) := by simp [execForget]
theorem execFabCtrlForget_keepsCycle (addr : BitVec 10) (retry : Bool) (s : State) :
    KeepsCycle s (execFabCtrlForget addr retry s) := by simp [execFabCtrlForget]

end Sys2Proof.Machine
end

section
/-! PROOFS. The frame of the cycle count: field update (R433 to R453). -/

namespace Sys2Proof.Machine

@[simp] theorem updEvt_tb (c : Chip) (b : Nat) : (updEvt c b).tb = c.tb := by simp [updEvt]
@[simp] theorem updRefuse_tb (c : Chip) (req : Requester) (cause : Nat) :
    (updRefuse c req cause).tb = c.tb := by simp [updRefuse]
@[simp] theorem asOwner_cycle (c : Chip) (req : Requester) (src : UpdSource) (act : Chip → Chip)
    (h : ∀ c, (act c).tb.cycle = c.tb.cycle) : (asOwner c req src act).tb.cycle = c.tb.cycle := by
  unfold asOwner; (repeat' split) <;> simp [h]
@[simp] theorem clearSession_tb (c : Chip) : (clearSession c).tb = c.tb := by simp [clearSession]
@[simp] theorem updOpen_tb (c : Chip) (f : Fuses) (req : Requester) (src : UpdSource) (bs : List Byte)
    (sigOk : Bool) :
    (updOpen c f req src bs sigOk).tb = c.tb := by
  unfold updOpen; dsimp only; (repeat' split) <;> simp
@[simp] theorem updChunk_tb (c : Chip) (req : Requester) (n : Nat) (data : Option (List Byte)) (readback : Bool) :
    (updChunk c req n data readback).tb = c.tb := by
  unfold updChunk; (repeat' split) <;> simp
@[simp] theorem clearChunks_tb (c : Chip) (es : List PartEntry) : (clearChunks c es).tb = c.tb := by
  simp [clearChunks]
@[simp] theorem writeBanks_tb (c : Chip) (m : Manifest) : (writeBanks c m).tb = c.tb := by simp [writeBanks]
@[simp] theorem updActivate_tb (c : Chip) (req : Requester) : (updActivate c req).tb = c.tb := by
  unfold updActivate; split <;> simp
@[simp] theorem answerVerify_tb (c : Chip) (ok : Bool) : (answerVerify c ok).tb = c.tb := by simp [answerVerify]
@[simp] theorem switchBanks_tb (c : Chip) (m : Manifest) (j : Journal) : (switchBanks c m j).tb = c.tb := by
  simp [switchBanks]
@[simp] theorem resetSettings_tb (c : Chip) (m : Manifest) : (resetSettings c m).tb = c.tb := by simp [resetSettings]
@[simp] theorem restoreSettings_tb (c : Chip) : (restoreSettings c).tb = c.tb := by
  unfold restoreSettings; split <;> simp
@[simp] theorem enterPause_cycle (c : Chip) (m : Manifest) (running : Bool) :
    (enterPause c m running).tb.cycle = c.tb.cycle := by simp [enterPause]
@[simp] theorem updAngleZero_cycle (c : Chip) : (updAngleZero c).tb.cycle = c.tb.cycle := by
  unfold updAngleZero; split <;> simp
@[simp] theorem updBrownOut_tb (c : Chip) : (updBrownOut c).tb = c.tb := by simp [updBrownOut]
@[simp] theorem leavePause_cycle (c : Chip) : (leavePause c).tb.cycle = c.tb.cycle := by simp [leavePause]
@[simp] theorem serviceUp_tb (c : Chip) (m : Manifest) : (serviceUp c m).tb = c.tb := by simp [serviceUp]
@[simp] theorem rolledBack_tb (c : Chip) : (rolledBack c).tb = c.tb := by simp [rolledBack]
@[simp] theorem placeActivation_cycle (c : Chip) (m : Manifest) :
    (placeActivation c m).tb.cycle = c.tb.cycle := by simp [placeActivation]
@[simp] theorem outletUp_cycle (c : Chip) : (outletUp c).tb.cycle = c.tb.cycle := by simp [outletUp]
@[simp] theorem releaseBanks_tb (c : Chip) (m : Manifest) : (releaseBanks c m).tb = c.tb := by simp [releaseBanks]
@[simp] theorem confirmEnd_tb (c : Chip) (m : Manifest) : (confirmEnd c m).tb = c.tb := by simp [confirmEnd]
@[simp] theorem updConfirm_tb (c : Chip) (req : Requester) : (updConfirm c req).tb = c.tb := by
  unfold updConfirm; split <;> simp
@[simp] theorem rollBack_tb (c : Chip) (by' : Option Requester) : (rollBack c by').tb = c.tb := by
  unfold rollBack; split <;> simp
@[simp] theorem quillStart_tb (c : Chip) : (quillStart c).tb = c.tb := by
  unfold quillStart; dsimp only; (repeat' split) <;> simp
theorem execUpdQuery_keepsCycle (req : Requester) (s : State) : KeepsCycle s (execUpdQuery req s) := by
  simp [execUpdQuery]
theorem execUpdOpen_keepsCycle (req : Requester) (src : UpdSource) (buffer : Option (List Byte)) (sigOk : Bool)
    (s : State) :
    KeepsCycle s (execUpdOpen req src buffer sigOk s) := by
  unfold execUpdOpen; split <;> simp
theorem execUpdChunk_keepsCycle (req : Requester) (src : UpdSource) (chunk : Nat) (data : Option (List Byte))
    (readback : Bool) (s : State) :
    KeepsCycle s (execUpdChunk req src chunk data readback s) := by simp [execUpdChunk]
theorem execUpdVerify_keepsCycle (req : Requester) (src : UpdSource) (s : State) :
    KeepsCycle s (execUpdVerify req src s) := by
  refine (keepsCycle_onChip _ _).2 (perform_cycle _ _ _ _ _ fun c => asOwner_cycle _ _ _ _ fun c => ?_)
  (repeat' split) <;> simp
theorem execUpdActivate_keepsCycle (req : Requester) (src : UpdSource) (s : State) :
    KeepsCycle s (execUpdActivate req src s) := by simp [execUpdActivate]
theorem execUpdVerifyDone_keepsCycle (s : State) : KeepsCycle s (execUpdVerifyDone s) := by
  refine (keepsCycle_onChip _ _).2 ?_
  dsimp only; (repeat' split) <;> simp
theorem execActivationPlaced_keepsCycle (s : State) : KeepsCycle s (execActivationPlaced s) := by
  refine (keepsCycle_onChip _ _).2 ?_
  (repeat' split) <;> simp
theorem execPrivQuiesce_keepsCycle (s : State) : KeepsCycle s (execPrivQuiesce s) := by
  refine (keepsCycle_onChip _ _).2 ?_
  (repeat' split) <;> simp
theorem execUpdConfirm_keepsCycle (req : Requester) (src : UpdSource) (s : State) :
    KeepsCycle s (execUpdConfirm req src s) := by simp [execUpdConfirm]
theorem execUpdAbort_keepsCycle (req : Requester) (src : UpdSource) (s : State) :
    KeepsCycle s (execUpdAbort req src s) := by
  refine (keepsCycle_onChip _ _).2 (perform_cycle _ _ _ _ _ fun c => asOwner_cycle _ _ _ _ fun c => ?_)
  split <;> simp
theorem execUpdIdleTimeout_keepsCycle (s : State) : KeepsCycle s (execUpdIdleTimeout s) := by
  simp [execUpdIdleTimeout]
theorem execConfirmTimeout_keepsCycle (since : Nat) (s : State) :
    KeepsCycle s (execConfirmTimeout since s) := by simp [execConfirmTimeout]
theorem execConfirmTimerSave_keepsCycle (s : State) : KeepsCycle s (execConfirmTimerSave s) := by
  simp [execConfirmTimerSave]
theorem execRollbackRestart_keepsCycle (s : State) : KeepsCycle s (execRollbackRestart s) := by
  simp [execRollbackRestart]

end Sys2Proof.Machine
end

section
/-! PROOFS. The frame of the cycle count: power die and hold-up (R76 to R97, R479). -/

namespace Sys2Proof.Machine

@[simp] theorem setVhold_tb (c : Chip) (mv : Nat) : (setVhold c mv).tb = c.tb := by simp [setVhold]
@[simp] theorem setSupplies_tb (c : Chip) (vmain supplies : Nat) :
    (setSupplies c vmain supplies).tb = c.tb := by simp [setSupplies]
@[simp] theorem holdFault_cycle (c : Chip) : (holdFault c).tb.cycle = c.tb.cycle := by simp [holdFault]
@[simp] theorem reportHold_cycle (c : Chip) : (reportHold c).tb.cycle = c.tb.cycle := by simp [reportHold]
@[simp] theorem updateHold_cycle (c : Chip) : (updateHold c).tb.cycle = c.tb.cycle := by simp [updateHold]
@[simp] theorem loadCheckDone_cycle (c : Chip) (capUf esrMohm : Nat) :
    (loadCheckDone c capUf esrMohm).tb.cycle = c.tb.cycle := by simp [loadCheckDone]
@[simp] theorem portDown_tb (c : Chip) (p : Nat) : (portDown c p).tb = c.tb := by simp [portDown]
@[simp] theorem portsDown_tb (c : Chip) : (portsDown c).tb = c.tb := by simp [portsDown]
@[simp] theorem holdupDraw_cycle (c : Chip) (vmain vhold supplies : Nat) :
    (holdupDraw c vmain vhold supplies).tb.cycle = c.tb.cycle := by simp [holdupDraw]
@[simp] theorem holdupStop_cycle (c : Chip) : (holdupStop c).tb.cycle = c.tb.cycle := by simp [holdupStop]
@[simp] theorem holdupOpen_cycle (c : Chip) (done : Nat) : (holdupOpen c done).tb.cycle = c.tb.cycle := by
  simp [holdupOpen]
@[simp] theorem holdupFence_cycle (c : Chip) : (holdupFence c).tb.cycle = c.tb.cycle := by simp [holdupFence]
@[simp] theorem holdupOff_cycle (c : Chip) : (holdupOff c).tb.cycle = c.tb.cycle := by simp [holdupOff]
@[simp] theorem supplyBack_tb (c : Chip) (vmain supplies : Nat) : (supplyBack c vmain supplies).tb = c.tb := by
  simp [supplyBack]
@[simp] theorem powerGood_cycle (c : Chip) (vmain supplies : Nat) :
    (powerGood c vmain supplies).tb.cycle = c.tb.cycle := by simp [powerGood]
@[simp] theorem resetPwdRegs_tb (c : Chip) : (resetPwdRegs c).tb = c.tb := by simp [resetPwdRegs]
@[simp] theorem powerDiePor_cycle (c : Chip) (vmain vhold supplies : Nat) :
    (powerDiePor c vmain vhold supplies).tb.cycle = c.tb.cycle := by simp [powerDiePor]
@[simp] theorem safetyDiePor_tb (c : Chip) (levels : List Nat) (selfTest : Bool) :
    (safetyDiePor c levels selfTest).tb = c.tb := by simp [safetyDiePor]
@[simp] theorem pdConfirmed_cycle (c : Chip) (sent : Tab Word) :
    (pdConfirmed c sent).tb.cycle = c.tb.cycle := by simp [pdConfirmed]
theorem execHoldOkFall_keepsCycle (vhold : Nat) (s : State) : KeepsCycle s (execHoldOkFall vhold s) := by
  simp [execHoldOkFall]
theorem execHoldOkRise_keepsCycle (vhold : Nat) (s : State) : KeepsCycle s (execHoldOkRise vhold s) := by
  simp [execHoldOkRise]
theorem execLoadCheckStart_keepsCycle (vhold : Nat) (s : State) :
    KeepsCycle s (execLoadCheckStart vhold s) := by simp [execLoadCheckStart]
theorem execLoadCheckDone_keepsCycle (capUf esrMohm : Nat) (s : State) :
    KeepsCycle s (execLoadCheckDone capUf esrMohm s) := by simp [execLoadCheckDone]
theorem execChargeRiseMeasured_keepsCycle (capUf : Nat) (s : State) :
    KeepsCycle s (execChargeRiseMeasured capUf s) := by simp [execChargeRiseMeasured]
theorem execBrownOut_keepsCycle (vmain vhold : Nat) (supplies : BitVec 6) (done : Nat) (s : State) :
    KeepsCycle s (execBrownOut vmain vhold supplies done s) := by simp [execBrownOut]
theorem execHoldupOff_keepsCycle (s : State) : KeepsCycle s (execHoldupOff s) := by simp [execHoldupOff]
theorem execHoldupRecovery_keepsCycle (vmain : Nat) (supplies : BitVec 6) (s : State) :
    KeepsCycle s (execHoldupRecovery vmain supplies s) := by simp [execHoldupRecovery]
theorem execPowerGood_keepsCycle (vmain : Nat) (supplies : BitVec 6) (s : State) :
    KeepsCycle s (execPowerGood vmain supplies s) := by simp [execPowerGood]
theorem execPowerGoodLost_keepsCycle (rail : Fin 8) (s : State) : KeepsCycle s (execPowerGoodLost rail s) := by
  simp [execPowerGoodLost]
theorem execPowerDiePor_keepsCycle (vmain vhold : Nat) (supplies : BitVec 6) (s : State) :
    KeepsCycle s (execPowerDiePor vmain vhold supplies s) := by simp [execPowerDiePor]
theorem execSafetyDiePor_keepsCycle (levels : List Nat) (selfTest : Bool) (s : State) :
    KeepsCycle s (execSafetyDiePor levels selfTest s) := by simp [execSafetyDiePor]
theorem execPowerLinkTimeout_keepsCycle (s : State) : KeepsCycle s (execPowerLinkTimeout s) := by
  simp [execPowerLinkTimeout]
theorem execFaultCleared_keepsCycle (source : Nat) (s : State) : KeepsCycle s (execFaultCleared source s) := by
  simp [execFaultCleared]
theorem execPowerDieConfirm_keepsCycle (s : State) : KeepsCycle s (execPowerDieConfirm s) := by
  refine (keepsCycle_onChip _ _).2 ?_
  (repeat' split) <;> simp
theorem execPdConfirmTimeout_keepsCycle (s : State) : KeepsCycle s (execPdConfirmTimeout s) := by
  simp [execPdConfirmTimeout]

end Sys2Proof.Machine
end

section
/-! PROOFS. The frame of the cycle count: mode requests, Standby and resets (R46 to R71). -/

namespace Sys2Proof.Machine

@[simp] theorem submitMode_tb (c : Chip) (target : Nat) (prepOff : Bool) (cause : Nat) (owner : Option Requester) :
    (submitMode c target prepOff cause owner).tb = c.tb := by
  unfold submitMode; split <;> simp
@[simp] theorem enterDeep_cycle (c : Chip) (cause : Nat) : (enterDeep c cause).tb.cycle = c.tb.cycle := by
  simp [enterDeep]
@[simp] theorem enterStandby_tb (c : Chip) (cause : Nat) : (enterStandby c cause).tb = c.tb := by simp [enterStandby]
@[simp] theorem applyModeReq_cycle (c : Chip) : (applyModeReq c).tb.cycle = c.tb.cycle := by
  unfold applyModeReq; dsimp only; (repeat' split) <;> simp
@[simp] theorem cancelModeReq_tb (c : Chip) : (cancelModeReq c).tb = c.tb := by
  unfold cancelModeReq; split <;> simp
@[simp] theorem wakeUp_cycle (c : Chip) (k : Nat) : (wakeUp c k).tb.cycle = c.tb.cycle := by simp [wakeUp]
@[simp] theorem deepWake_cycle (c : Chip) (k : Nat) : (deepWake c k).tb.cycle = c.tb.cycle := by simp [deepWake]
@[simp] theorem softRegion_cycle (c : Chip) (r : Region) : (softRegion c r).tb.cycle = c.tb.cycle := by
  simp [softRegion]
@[simp] theorem softRegions_cycle (c : Chip) (regions : BitVec 7) :
    (softRegions c regions).tb.cycle = c.tb.cycle := by simp [softRegions]
@[simp] theorem loseRef_cycle (c : Chip) : (loseRef c).tb.cycle = c.tb.cycle := by simp [loseRef]
@[simp] theorem refUnfence_tb (c : Chip) : (refUnfence c).tb = c.tb := by simp [refUnfence]
@[simp] theorem refBack_cycle (c : Chip) : (refBack c).tb.cycle = c.tb.cycle := by simp [refBack]
@[simp] theorem drainEnd_tb (c : Chip) (k : Nat) : (drainEnd c k).tb = c.tb := by simp [drainEnd]
theorem execModeReqGo_keepsCycle (target : BitVec 4) (prepOff : Bool) (s : State) :
    KeepsCycle s (execModeReqGo target prepOff s) := by simp [execModeReqGo]
theorem execModeReq_keepsCycle (req : Requester) (target : Nat) (prepOff : Bool) (s : State) :
    KeepsCycle s (execModeReq req target prepOff s) := by simp [execModeReq]
theorem execPrepDone_keepsCycle (s : State) : KeepsCycle s (execPrepDone s) := by simp [execPrepDone]
theorem execWakeEvent_keepsCycle (source : Fin 16) (s : State) : KeepsCycle s (execWakeEvent source s) := by
  simp [execWakeEvent]
theorem execDeepStandbyWake_keepsCycle (source : Fin 16) (s : State) :
    KeepsCycle s (execDeepStandbyWake source s) := by simp [execDeepStandbyWake]
theorem execWake_keepsCycle (port : FPort) (s : State) : KeepsCycle s (execWake port s) := by simp [execWake]
theorem execRtcAlarm_keepsCycle (since : Nat) (s : State) : KeepsCycle s (execRtcAlarm since s) := by
  simp [execRtcAlarm]
theorem execRstNReset_keepsCycle (s : State) : KeepsCycle s (execRstNReset s) := by simp [execRstNReset]
theorem execRstCtrlModule_keepsCycle (s : State) : KeepsCycle s (execRstCtrlModule s) := by simp [execRstCtrlModule]
theorem execRstCtrlCold_keepsCycle (s : State) : KeepsCycle s (execRstCtrlCold s) := by simp [execRstCtrlCold]
theorem execRstCtrlRegion_keepsCycle (regions : BitVec 7) (s : State) :
    KeepsCycle s (execRstCtrlRegion regions s) := by simp [execRstCtrlRegion]
theorem execClockLoss_keepsCycle (dom : Domain) (s : State) : KeepsCycle s (execClockLoss dom s) := by
  unfold execClockLoss; split <;> simp
theorem execClockExcursion_keepsCycle (dom : Domain) (s : State) : KeepsCycle s (execClockExcursion dom s) := by
  simp [execClockExcursion]
theorem execRefRestored_keepsCycle (s : State) : KeepsCycle s (execRefRestored s) := by simp [execRefRestored]
theorem execDisableWrite_keepsCycle (value : Word) (s : State) : KeepsCycle s (execDisableWrite value s) := by
  simp [execDisableWrite]
theorem execDrainDone_keepsCycle (k : Fin 25) (s : State) : KeepsCycle s (execDrainDone k s) := by
  simp [execDrainDone]
theorem execOutletDrainTimeout_keepsCycle (outlet : Outlet) (s : State) :
    KeepsCycle s (execOutletDrainTimeout outlet s) := by simp [execOutletDrainTimeout]

end Sys2Proof.Machine
end

section
/-! PROOFS. The frame of the cycle count: the start after a reset (R50, R56, R65, R100, R171, R214). -/

namespace Sys2Proof.Machine

@[simp] theorem wipeSettings_tb (c : Chip) : (wipeSettings c).tb = c.tb := by simp [wipeSettings]
@[simp] theorem wipeOthers_tb (c : Chip) : (wipeOthers c).tb = c.tb := by simp [wipeOthers]
@[simp] theorem wipeLegal_tb (c : Chip) : (wipeLegal c).tb = c.tb := by simp [wipeLegal]
@[simp] theorem startWipe_tb (c : Chip) : (startWipe c).tb = c.tb := by simp [startWipe]
@[simp] theorem dueQuarantine_tb (c : Chip) (cause : Nat) : (dueQuarantine c cause).tb = c.tb := by
  simp [dueQuarantine]
@[simp] theorem startXmt_tb (f : Fuses) (c : Chip) : (startXmt f c).tb = c.tb := by
  unfold startXmt; split <;> simp
@[simp] theorem startTru_tb (f : Fuses) (c : Chip) : (startTru f c).tb = c.tb := by simp [startTru]
@[simp] theorem corruptSlots_tb (c : Chip) (bad : List Nat) : (corruptSlots c bad).tb = c.tb := by simp [corruptSlots]
@[simp] theorem countBad_tb (c : Chip) : (countBad c).tb = c.tb := by simp [countBad]
@[simp] theorem restoreCounts_tb (c : Chip) (sl : CommitSlot) : (restoreCounts c sl).tb = c.tb :=
  foldl_tb _ _ _ fun c m => setPt_tb c m _
theorem restoredTb_cycle {c : Chip} (h : c.tb.known = true) (n m : Nat) : (restoredTb c n m).cycle = c.tb.cycle := by
  simp [restoredTb, h]
theorem restoreSlot_cycle {c : Chip} (h : c.tb.known = true) (place : Nat) (sl : CommitSlot) :
    (restoreSlot c place sl).tb.cycle = c.tb.cycle := by simp [restoreSlot, restoredTb, h]
theorem formatRing_cycle {c : Chip} (h : c.tb.known = true) : (formatRing c).tb.cycle = c.tb.cycle :=
  restoredTb_cycle h 0 0
theorem ringLost_cycle {c : Chip} (h : c.tb.known = true) : (ringLost c).tb.cycle = c.tb.cycle := by
  simp [ringLost, restoredTb_cycle h]

/-- R99, R100: the restore of the commit ring finds a count that is known, and keeps it. -/
theorem restoreRing_cycle {c : Chip} (h : c.tb.known = true) (bad : List Nat) :
    (restoreRing c bad).tb.cycle = c.tb.cycle := by
  unfold restoreRing
  extract_lets acc d
  have hd : d.tb = c.tb := by simp [d]
  have hk : d.tb.known = true := by rw [hd, h]
  split
  · rw [restoreSlot_cycle (by simpa using hk)]; simp [hd]
  · split_ifs
    · rw [formatRing_cycle hk, hd]
    · rw [ringLost_cycle (by simpa using hk)]; simp [hd]

@[simp] theorem restoreCalendars_tb (c : Chip) : (restoreCalendars c).tb = c.tb := by
  unfold restoreCalendars; split <;> simp
@[simp] theorem outageSpans_tb (c : Chip) : (outageSpans c).tb = c.tb := by
  unfold outageSpans; split <;> simp
@[simp] theorem findHead_tb (c : Chip) : (findHead c).tb = c.tb := by
  unfold findHead; split <;> simp
@[simp] theorem startSeal_tb (c : Chip) (pin : Bool) : (startSeal c pin).tb = c.tb := by simp [startSeal]
@[simp] theorem startLegal_tb (f : Fuses) (c : Chip) (bad : BitVec 4) (sealPin : Bool) :
    (startLegal f c bad sealPin).tb = c.tb := by simp [startLegal]
theorem startMet_cycle {c : Chip} (h : c.tb.known = true) (f : Fuses) (bad : List Nat) (badCopies : BitVec 4)
    (sealPin : Bool) : (startMet f c bad badCopies sealPin).tb.cycle = c.tb.cycle := by
  simp [startMet, restoreRing_cycle h]
@[simp] theorem resetEnded_tb (f : Fuses) (c : Chip) (block : Block) : (resetEnded f c block).tb = c.tb := by
  unfold resetEnded; split <;> simp
theorem release_cycle {c : Chip} (h : c.tb.known = true) (f : Fuses) (elapsed : Nat) (store : StoreCopy)
    (bad : List Nat) (badCopies : BitVec 4) (sealPin : Bool) :
    (release f elapsed store bad badCopies sealPin c).tb.cycle = c.tb.cycle := by simp [release, startMet_cycle, h]
@[simp] theorem riseReady_cycle (c : Chip) (f : Func) : (riseReady c f).tb.cycle = c.tb.cycle := by simp [riseReady]

/-- R205: the clock stands at the restored slot while the intervals close, and comes back. -/
@[simp] theorem closeAtSlot_cycle (c0 : Chip) (sl : CommitSlot) :
    (closeAtSlot c0 sl).tb.cycle = c0.tb.cycle := by simp [closeAtSlot]

@[simp] theorem splitAtStart_tb (c : Chip) (old : Nat) : (splitAtStart c old).tb = c.tb := by simp [splitAtStart]
@[simp] theorem intervalsAfterOff_cycle (c : Chip) : (intervalsAfterOff c).tb.cycle = c.tb.cycle := by
  unfold intervalsAfterOff; split <;> simp
@[simp] theorem spanDown_tb (c : Chip) : (spanDown c).tb = c.tb := by
  unfold spanDown; split <;> simp
@[simp] theorem metRises_cycle (c : Chip) : (metRises c).tb.cycle = c.tb.cycle := by simp [metRises]
@[simp] theorem outletRises_cycle (c : Chip) (o : Fin 8) : (outletRises c o).tb.cycle = c.tb.cycle := by
  unfold outletRises; dsimp only; (repeat' split) <;> simp
@[simp] theorem afterReady_cycle (c : Chip) (f : Func) (ageBad : BitVec 2) :
    (afterReady c f ageBad).tb.cycle = c.tb.cycle := by
  unfold afterReady; split <;> simp
theorem regionStart_cycle {c : Chip} (h : c.tb.known = true) (fu : Fuses) (f : Func) (bad : List Nat)
    (badCopies : BitVec 4) (sealPin : Bool) :
    (regionStart fu c f bad badCopies sealPin).tb.cycle = c.tb.cycle := by
  unfold regionStart; split <;> simp [startMet_cycle h]
theorem execBlockResetComplete_keepsCycle (block : Block) (s : State) :
    KeepsCycle s (execBlockResetComplete block s) := by simp [execBlockResetComplete]

theorem execResetRelease_keepsCycle (elapsed : Nat) (store : StoreCopy) (badSlots : List Nat) (badCopies : BitVec 4)
    (sealPin : Bool) (s : State) (h : s.chip.tb.known = true) :
    KeepsCycle s (execResetRelease elapsed store badSlots badCopies sealPin s) := by
  unfold execResetRelease
  split_ifs
  · extract_lets f chip tru c
    rw [keepsCycle_next, release_cycle (c := c) h]
  · simp

theorem execAonPowerOn_keepsCycle (s : State) : KeepsCycle s (execAonPowerOn s) := by simp [execAonPowerOn]
theorem execSramWipeDone_keepsCycle (us10 : Nat) (s : State) : KeepsCycle s (execSramWipeDone us10 s) := by
  simp [execSramWipeDone]
theorem execDramWipeDone_keepsCycle (ms : Nat) (s : State) : KeepsCycle s (execDramWipeDone ms s) := by
  simp [execDramWipeDone]
theorem execMramWipeDone_keepsCycle (ms : Nat) (s : State) : KeepsCycle s (execMramWipeDone ms s) := by
  simp [execMramWipeDone]

theorem execFunctionReady_keepsCycle (f : Func) (badSlots : List Nat) (badCopies : BitVec 4) (sealPin : Bool)
    (ageBad : BitVec 2) (s : State) (h : s.chip.tb.known = true) :
    KeepsCycle s (execFunctionReady f badSlots badCopies sealPin ageBad s) := by
  refine (keepsCycle_onChip _ _).2 ?_
  have hstart := regionStart_cycle h s.fuses f badSlots badCopies sealPin
  split_ifs <;> simp [hstart]

theorem execReadyTimeout_keepsCycle (f : Func) (s : State) : KeepsCycle s (execReadyTimeout f s) := by
  simp [execReadyTimeout]

end Sys2Proof.Machine
end

section
/-! PROOFS. The frame of the cycle count: the poll of a commit group (R32, R36). -/

namespace Sys2Proof.Machine

@[simp] theorem poll_tb (c : Chip) (contextCommit : Bool) : (poll c contextCommit).tb = c.tb := by simp [poll]

end Sys2Proof.Machine
end

section
/-! PROOFS. The frame of the cycle count: angle 0 (R37, R99, R110, R206). -/

namespace Sys2Proof.Machine

theorem tracked_cycle (t : Timebase) (limit freq : Nat) (err : Option Int) :
    (tracked t limit freq err).cycle = t.cycle := by
  cases err <;> rfl
/-- R99: angle 0 counts. -/
theorem tbCycle_cycle {c : Chip} (h : c.tb.known = true) : (tbCycle c).tb.cycle = c.tb.cycle + 1 := by
  unfold tbCycle; dsimp only; split <;> simp [tracked_cycle, h]

@[simp] theorem outletZeros_tb (c : Chip) (o : Nat) : (outletZeros c o).tb = c.tb := by
  unfold outletZeros; split <;> simp
@[simp] theorem countEnergised_tb (dur : Nat) (c : Chip) (mx : Nat × Nat) :
    (countEnergised dur c mx).tb = c.tb := by simp [countEnergised]
@[simp] theorem accountPart_tb (dur : Nat) (c : Chip) : (accountPart dur c).tb = c.tb := by simp [accountPart]
@[simp] theorem endCycle_tb (dur : Nat) (c : Chip) : (endCycle dur c).tb = c.tb := by simp [endCycle]
theorem steppedTb_cycle (t : Timebase) : (steppedTb t).cycle = t.cycle := by
  unfold steppedTb; split <;> rfl
@[simp] theorem takeStep_cycle (c : Chip) : (takeStep c).tb.cycle = c.tb.cycle := by simp [takeStep, steppedTb_cycle]
@[simp] theorem coincident_cycle (c : Chip) (k : Closes) : (coincident c k).tb.cycle = c.tb.cycle := by
  simp -implicitDefEqProofs [coincident]
@[simp] theorem updatePeers_tb (c : Chip) : (updatePeers c).tb = c.tb := by simp [updatePeers]
@[simp] theorem commitCycle_tb (c : Chip) (stepped brownOut : Bool) :
    (commitCycle c stepped brownOut).tb = c.tb := by simp [commitCycle]
@[simp] theorem startWalls_tb (c : Chip) : (startWalls c).tb = c.tb := by simp [startWalls]

/-- R206, R164: what follows the commit of angle 0: the settlements, and the bindings of the cycle that starts. -/
def settleAngleZero (c : Chip) : Chip :=
  let d := settleAll (endSessions (startWalls { c with tar := { c.tar with lastB := billTime c } }))
  { d with acc := { d.acc with bound := d.acc.boundNext } }

theorem settleAngleZero_tb (c : Chip) : (settleAngleZero c).tb = c.tb := by simp [settleAngleZero]

theorem billAngleZero_eq (dur : Nat) (c : Chip) (brownOut : Bool) :
    billAngleZero dur c brownOut =
      if metRuns c then
        let d := endCycle dur c
        let k := closesNow d brownOut
        settleAngleZero (openIntervals (commitCycle (coincident d k) k.step brownOut) k d.tar.lastB (billTime d))
      else takeStep c := rfl

@[simp] theorem billAngleZero_cycle (dur : Nat) (c : Chip) (brownOut : Bool) :
    (billAngleZero dur c brownOut).tb.cycle = c.tb.cycle := by
  rw [billAngleZero_eq]
  split_ifs
  · rw [settleAngleZero_tb, openIntervals_tb, commitCycle_tb, coincident_cycle, endCycle_tb]
  · exact takeStep_cycle c

@[simp] theorem logCalib_tb (old : Chip) (c : Chip) (l : Nat) : (logCalib old c l).tb = c.tb := by simp [logCalib]
@[simp] theorem logPcfg_tb (old : Chip) (c : Chip) (m : Nat) : (logPcfg old c m).tb = c.tb := by simp [logPcfg]
@[simp] theorem forceRange_tb (c : Chip) (n : Nat) : (forceRange c n).tb = c.tb := by simp [forceRange]
@[simp] theorem metSwapped_cycle (old c : Chip) : (metSwapped old c).tb.cycle = c.tb.cycle := by simp [metSwapped]
@[simp] theorem dspSwapped_cycle (old c : Chip) : (dspSwapped old c).tb.cycle = c.tb.cycle := by simp [dspSwapped]
@[simp] theorem lnkSwapped_cycle (old c : Chip) : (lnkSwapped old c).tb.cycle = c.tb.cycle := by simp [lnkSwapped]
@[simp] theorem swapAngleZero_cycle (c : Chip) (brownOut : Bool) :
    (swapAngleZero c brownOut).tb.cycle = c.tb.cycle := by simp [swapAngleZero]
@[simp] theorem pointsAngleZero_cycle (c : Chip) : (pointsAngleZero c).tb.cycle = c.tb.cycle := by
  simp [pointsAngleZero]
@[simp] theorem openEnabled_tb (c : Chip) : (openEnabled c).tb = c.tb := by simp [openEnabled]
@[simp] theorem timedCoil_tb (c : Chip) (o : Nat) : (timedCoil c o).tb = c.tb := by simp [timedCoil]
@[simp] theorem fireBooking_count (c : Chip) (b : Booking) :
    (fireBooking c b).tb.cycle = c.tb.cycle ∧ (fireBooking c b).tb.known = c.tb.known := by
  unfold fireBooking; split <;> simp
@[simp] theorem fireAt_count (c : Chip) (angle : Nat) (classes : List Nat) :
    (fireAt c angle classes).tb.cycle = c.tb.cycle ∧ (fireAt c angle classes).tb.known = c.tb.known := by
  simp [fireAt]

/-- R98, R111: the accumulator runs through the booked angles of one cycle. -/
@[simp] theorem fireThrough_count (n : Nat) (c : Chip) (angle : Nat) :
    (fireThrough n c angle).tb.cycle = c.tb.cycle ∧ (fireThrough n c angle).tb.known = c.tb.known := by
  induction n generalizing c with
  | zero => exact ⟨rfl, rfl⟩
  | succ n ih => unfold fireThrough; split <;> simp [ih]

@[simp] theorem reachInstant_cycle (c : Chip) (angle frac since : Nat) :
    (reachInstant c angle frac since).tb.cycle = c.tb.cycle := by simp [reachInstant]
@[simp] theorem tbLatch_tb (c : Chip) : (tbLatch c).tb = c.tb := by simp [tbLatch]
@[simp] theorem cutCycle_cycle (c : Chip) (angle since : Nat) :
    (cutCycle c angle since).tb.cycle = c.tb.cycle := by simp [cutCycle]
@[simp] theorem zerosAngleZero_tb (c : Chip) : (zerosAngleZero c).tb = c.tb := by simp [zerosAngleZero]
@[simp] theorem retryOutlets_cycle (c : Chip) : (retryOutlets c).tb.cycle = c.tb.cycle := by simp [retryOutlets]
theorem execSchedFire_keepsCycle (angle since : Nat) (s : State) :
    KeepsCycle s (execSchedFire angle since s) := by simp [execSchedFire]
theorem execTbLatch_keepsCycle (angle fraction since : Nat) (s : State) :
    KeepsCycle s (execTbLatch angle fraction since s) := by simp [execTbLatch]
theorem execCgPoll_keepsCycle (contextCommit : Bool) (s : State) :
    KeepsCycle s (execCgPoll contextCommit s) := by simp [execCgPoll]
theorem execLastGaspCommit_keepsCycle (angle since : Nat) (s : State) :
    KeepsCycle s (execLastGaspCommit angle since s) := by simp [execLastGaspCommit]
theorem execFinalCommit_keepsCycle (angle since : Nat) (s : State) :
    KeepsCycle s (execFinalCommit angle since s) := by simp [execFinalCommit]

end Sys2Proof.Machine
end

section
/-! PROOFS. The frame of the cycle count: register writes (R10, R22, R26). -/

namespace Sys2Proof.Machine

@[simp] theorem writeCgCtrl_tb (c : Chip) (w : Word) : (writeCgCtrl c w).tb = c.tb := by simp [writeCgCtrl]
@[simp] theorem writeModeReq_tb (c : Chip) (w : Word) : (writeModeReq c w).tb = c.tb := by simp [writeModeReq]
@[simp] theorem writeRstCtrl_cycle (c : Chip) (w : Word) : (writeRstCtrl c w).tb.cycle = c.tb.cycle := by
  simp [writeRstCtrl]
@[simp] theorem writeCalCtrl_tb (c : Chip) (w : Word) : (writeCalCtrl c w).tb = c.tb := by simp [writeCalCtrl]
@[simp] theorem writeAccCtrl_tb (c : Chip) (w : Word) : (writeAccCtrl c w).tb = c.tb := by simp [writeAccCtrl]
@[simp] theorem writePasCtrl_tb (c : Chip) (w : Word) : (writePasCtrl c w).tb = c.tb := by
  unfold writePasCtrl; split <;> simp
@[simp] theorem writePasAt_tb (c : Chip) (hi : Bool) (w : Word) : (writePasAt c hi w).tb = c.tb := by
  simp [writePasAt]
@[simp] theorem writePriceCtrl_tb (c : Chip) (w : Word) : (writePriceCtrl c w).tb = c.tb := by simp [writePriceCtrl]
@[simp] theorem writeWinCtrl_tb (c : Chip) (w : Word) : (writeWinCtrl c w).tb = c.tb := by simp [writeWinCtrl]
@[simp] theorem writePubCtrl_tb (c : Chip) (w : Word) : (writePubCtrl c w).tb = c.tb := by simp [writePubCtrl]
@[simp] theorem writeFabCtrl_tb (c : Chip) (w : Word) : (writeFabCtrl c w).tb = c.tb := by simp [writeFabCtrl]
@[simp] theorem writeRing_cycle (c : Chip) (q : Ring) (o : Nat) (w : Word) :
    (writeRing c q o w).tb.cycle = c.tb.cycle := by
  unfold writeRing; dsimp only; (repeat' split) <;> simp
@[simp] theorem writeImm_cycle (c : Chip) (a : Nat) (w : Word) (r : RegRow) :
    (writeImm c a w r).tb.cycle = c.tb.cycle := by
  unfold writeImm; split <;> simp
@[simp] theorem writeShadow_tb (c : Chip) (a : Nat) (w : Word) : (writeShadow c a w).tb = c.tb := by
  simp [writeShadow]
@[simp] theorem writeReg_cycle (c : Chip) (a : Nat) (w : Word) : (writeReg c a w).tb.cycle = c.tb.cycle := by
  unfold writeReg; split <;> simp
@[simp] theorem busWrite_cycle (c : Chip) (a : Nat) (w : Word) : (busWrite c a w).tb.cycle = c.tb.cycle := by
  simp [busWrite]
@[simp] theorem missAccess_cycle (c : Chip) (a : Nat) (write : Bool) :
    (missAccess c a write).tb.cycle = c.tb.cycle := by simp [missAccess]
theorem execRegisterWrite_keepsCycle (addr : Nat) (value : Word) (s : State) :
    KeepsCycle s (execRegisterWrite addr value s) := by simp [execRegisterWrite]
theorem execUnmappedAccess_keepsCycle (addr : Nat) (write : Bool) (s : State) :
    KeepsCycle s (execUnmappedAccess addr write s) := by simp [execUnmappedAccess]
theorem execFencedWindowAccess_keepsCycle (addr : Nat) (write : Bool) (s : State) :
    KeepsCycle s (execFencedWindowAccess addr write s) := by simp [execFencedWindowAccess]

end Sys2Proof.Machine
end

section
/-! PROOFS. The cycle count over every command (R99). `tbCycle` alone counts, at ANGLE_ZERO; `restoredTb` alone gives the
count a value, and not while it is known; no other operation of an arm of `exec` changes it. From that, O59. -/

namespace Sys2Proof.Machine

/-- R99: a command other than ANGLE_ZERO leaves the cycle count that is known. -/
theorem exec_keepsCycle {s : State} {i : Instr} (h : s.chip.tb.known = true) (hi : ∀ p b, i ≠ .angleZero p b) :
    KeepsCycle s (exec i s) := by
  cases i with
  | registerWrite addr value => exact execRegisterWrite_keepsCycle addr value s
  | unmappedAccess addr write => exact execUnmappedAccess_keepsCycle addr write s
  | fencedWindowAccess addr write => exact execFencedWindowAccess_keepsCycle addr write s
  | cgCtrlArm members maxDefer => exact execCgCtrlArm_keepsCycle members maxDefer s
  | cgCtrlCancel members maxDefer => exact execCgCtrlCancel_keepsCycle members maxDefer s
  | cgPoll contextCommit => exact execCgPoll_keepsCycle contextCommit s
  | powerDieConfirm => exact execPowerDieConfirm_keepsCycle s
  | pdConfirmTimeout => exact execPdConfirmTimeout_keepsCycle s
  | nsWrite addr value => exact execNsWrite_keepsCycle addr value s
  | nsSettingLanded => exact execNsSettingLanded_keepsCycle s
  | pwdWriteLanded m => exact execPwdWriteLanded_keepsCycle m s
  | powerLinkTimeout => exact execPowerLinkTimeout_keepsCycle s
  | nibMirrorRefresh bad since => exact execNibMirrorRefresh_keepsCycle bad since s
  | clockLoss dom => exact execClockLoss_keepsCycle dom s
  | clockExcursion dom => exact execClockExcursion_keepsCycle dom s
  | refRestored => exact execRefRestored_keepsCycle s
  | modeReqGo target prepOff => exact execModeReqGo_keepsCycle target prepOff s
  | prepDone => exact execPrepDone_keepsCycle s
  | brownOut vmain vhold supplies done => exact execBrownOut_keepsCycle vmain vhold supplies done s
  | holdupOff => exact execHoldupOff_keepsCycle s
  | holdupRecovery vmain supplies => exact execHoldupRecovery_keepsCycle vmain supplies s
  | powerGood vmain supplies => exact execPowerGood_keepsCycle vmain supplies s
  | powerGoodLost rail => exact execPowerGoodLost_keepsCycle rail s
  | powerDiePor vmain vhold supplies => exact execPowerDiePor_keepsCycle vmain vhold supplies s
  | safetyDiePor levels selfTest => exact execSafetyDiePor_keepsCycle levels selfTest s
  | rstNReset => exact execRstNReset_keepsCycle s
  | rstCtrlModule => exact execRstCtrlModule_keepsCycle s
  | rstCtrlCold => exact execRstCtrlCold_keepsCycle s
  | rstCtrlRegion regions => exact execRstCtrlRegion_keepsCycle regions s
  | watchdogExpiry => exact execWatchdogExpiry_keepsCycle s
  | resetRelease elapsed store badSlots badCopies sealPin =>
    exact execResetRelease_keepsCycle elapsed store badSlots badCopies sealPin s h
  | sramWipeDone us10 => exact execSramWipeDone_keepsCycle us10 s
  | dramWipeDone ms => exact execDramWipeDone_keepsCycle ms s
  | mramWipeDone ms => exact execMramWipeDone_keepsCycle ms s
  | functionReady f badSlots badCopies sealPin ageBad =>
    exact execFunctionReady_keepsCycle f badSlots badCopies sealPin ageBad s h
  | readyTimeout f => exact execReadyTimeout_keepsCycle f s
  | wakeEvent source => exact execWakeEvent_keepsCycle source s
  | deepStandbyWake source => exact execDeepStandbyWake_keepsCycle source s
  | disableWrite value => exact execDisableWrite_keepsCycle value s
  | drainDone k => exact execDrainDone_keepsCycle k s
  | outletDrainTimeout outlet => exact execOutletDrainTimeout_keepsCycle outlet s
  | lifecycleToken token sigOk => exact execLifecycleToken_keepsCycle token sigOk s
  | loadCheckStart vhold => exact execLoadCheckStart_keepsCycle vhold s
  | loadCheckDone capUf esrMohm => exact execLoadCheckDone_keepsCycle capUf esrMohm s
  | chargeRiseMeasured capUf => exact execChargeRiseMeasured_keepsCycle capUf s
  | holdOkFall vhold => exact execHoldOkFall_keepsCycle vhold s
  | holdOkRise vhold => exact execHoldOkRise_keepsCycle vhold s
  | angleZero period brownOut => exact absurd rfl (hi period brownOut)
  | finalisationDone => exact execFinalisationDone_keepsCycle s
  | commitSlotWritten us => exact execCommitSlotWritten_keepsCycle us s
  | lastGaspCommit angle since => exact execLastGaspCommit_keepsCycle angle since s
  | finalCommit angle since => exact execFinalCommit_keepsCycle angle since s
  | dtcorrMeasure ratio => exact execDtcorrMeasure_keepsCycle ratio s
  | harmWindow => exact execHarmWindow_keepsCycle s
  | meterSample samples => exact execMeterSample_keepsCycle samples s
  | cvLimitExceeded lane => exact execCvLimitExceeded_keepsCycle lane s
  | rangeDown lane periods => exact execRangeDown_keepsCycle lane periods s
  | laneTrained lane scan => exact execLaneTrained_keepsCycle lane scan s
  | trainTimeout lane => exact execTrainTimeout_keepsCycle lane s
  | laneSignalLoss lane periods => exact execLaneSignalLoss_keepsCycle lane periods s
  | retrainDone lane periods by' => exact execRetrainDone_keepsCycle lane periods by' s
  | retrainTimeout lane => exact execRetrainTimeout_keepsCycle lane s
  | laneFailedRetry lane => exact execLaneFailedRetry_keepsCycle lane s
  | calMeasStart laneA laneB cycles => exact execCalMeasStart_keepsCycle laneA laneB cycles s
  | calMeasAbort => exact execCalMeasAbort_keepsCycle s
  | calMeasDone => exact execCalMeasDone_keepsCycle s
  | accLatch context index => exact execAccLatch_keepsCycle context index s
  | tbLatch angle fraction since => exact execTbLatch_keepsCycle angle fraction since s
  | refQualified alternate => exact execRefQualified_keepsCycle alternate s
  | refLost alternate => exact execRefLost_keepsCycle alternate s
  | tbLockAcquired => exact execTbLockAcquired_keepsCycle s
  | tbPhaseJump => exact execTbPhaseJump_keepsCycle s
  | holdoverExpiry => exact execHoldoverExpiry_keepsCycle s
  | beaconTimeout => exact execBeaconTimeout_keepsCycle s
  | schedBook b => exact execSchedBook_keepsCycle b s
  | schedCancel kind => exact execSchedCancel_keepsCycle kind s
  | schedFire angle since => exact execSchedFire_keepsCycle angle since s
  | wallOffset src offset => exact execWallOffset_keepsCycle src offset s
  | slewDone since => exact execSlewDone_keepsCycle since s
  | rtcAlarm since => exact execRtcAlarm_keepsCycle since s
  | calTblWrite value => exact execCalTblWrite_keepsCycle value s
  | calTblRead => exact execCalTblRead_keepsCycle s
  | pasCtrlArm => exact execPasCtrlArm_keepsCycle s
  | pasCtrlDisarm => exact execPasCtrlDisarm_keepsCycle s
  | pasCtrlClear => exact execPasCtrlClear_keepsCycle s
  | priceDataWrite value => exact execPriceDataWrite_keepsCycle value s
  | priceDataRead => exact execPriceDataRead_keepsCycle s
  | priceCtrlPublish => exact execPriceCtrlPublish_keepsCycle s
  | priceCtrlClear => exact execPriceCtrlClear_keepsCycle s
  | mdCtrlReset => exact execMdCtrlReset_keepsCycle s
  | sealOpened => exact execSealOpened_keepsCycle s
  | sealClosed => exact execSealClosed_keepsCycle s
  | legEntryWrite => exact execLegEntryWrite_keepsCycle s
  | legSignStart => exact execLegSignStart_keepsCycle s
  | signatureDone => exact execSignatureDone_keepsCycle s
  | legDisplayRebuild => exact execLegDisplayRebuild_keepsCycle s
  | legEvtRead => exact execLegEvtRead_keepsCycle s
  | laneCvRead lane => exact execLaneCvRead_keepsCycle lane s
  | legalLoad data version sigOk => exact execLegalLoad_keepsCycle data version sigOk s
  | pilotStateAccepted outlet vpos vneg angle => exact execPilotStateAccepted_keepsCycle outlet vpos vneg angle s
  | pilotError outlet => exact execPilotError_keepsCycle outlet s
  | pwmOffTimeout outlet angle => exact execPwmOffTimeout_keepsCycle outlet angle s
  | overcurrentTimeout outlet angle => exact execOvercurrentTimeout_keepsCycle outlet angle s
  | ppClassAccepted outlet mv => exact execPpClassAccepted_keepsCycle outlet mv s
  | lockTimeout outlet => exact execLockTimeout_keepsCycle outlet s
  | lockRetry outlet => exact execLockRetry_keepsCycle outlet s
  | lockFeedbackChange outlet high => exact execLockFeedbackChange_keepsCycle outlet high s
  | cmSlacParm outlet runId => exact execCmSlacParm_keepsCycle outlet runId s
  | cmStartAttenChar outlet runId => exact execCmStartAttenChar_keepsCycle outlet runId s
  | cmMnbcSound outlet runId atten => exact execCmMnbcSound_keepsCycle outlet runId atten s
  | cmAttenChar outlet runId => exact execCmAttenChar_keepsCycle outlet runId s
  | cmSlacMatch outlet runId => exact execCmSlacMatch_keepsCycle outlet runId s
  | cmSetKey outlet runId => exact execCmSetKey_keepsCycle outlet runId s
  | cmValidate outlet runId => exact execCmValidate_keepsCycle outlet runId s
  | slacTimeout outlet => exact execSlacTimeout_keepsCycle outlet s
  | slacRetryTimer outlet => exact execSlacRetryTimer_keepsCycle outlet s
  | gpLinkUp outlet => exact execGpLinkUp_keepsCycle outlet s
  | sessionSetupReq outlet proto tls sessionId => exact execSessionSetupReq_keepsCycle outlet proto tls sessionId s
  | sessionResumeTimeout outlet angle => exact execSessionResumeTimeout_keepsCycle outlet angle s
  | cableCheckReq outlet => exact execCableCheckReq_keepsCycle outlet s
  | preChargeReq outlet mv ma => exact execPreChargeReq_keepsCycle outlet mv ma s
  | powerDeliveryReq outlet req angle => exact execPowerDeliveryReq_keepsCycle outlet req angle s
  | currentDemandReq outlet mv ma => exact execCurrentDemandReq_keepsCycle outlet mv ma s
  | weldingDetectionReq outlet => exact execWeldingDetectionReq_keepsCycle outlet s
  | sessionStopReq outlet angle => exact execSessionStopReq_keepsCycle outlet angle s
  | meteringReceiptReq outlet => exact execMeteringReceiptReq_keepsCycle outlet s
  | certificateInstallationReq outlet update cert =>
    exact execCertificateInstallationReq_keepsCycle outlet update cert s
  | authBackendResponse outlet accepted group expiry =>
    exact execAuthBackendResponse_keepsCycle outlet accepted group expiry s
  | authBackendTimeout outlet => exact execAuthBackendTimeout_keepsCycle outlet s
  | authExpiry outlet angle => exact execAuthExpiry_keepsCycle outlet angle s
  | nfcCardRead uid ptable selected angle => exact execNfcCardRead_keepsCycle uid ptable selected angle s
  | nfcCardHoldExpiry => exact execNfcCardHoldExpiry_keepsCycle s
  | ocppRemoteStart outlet ptable ident => exact execOcppRemoteStart_keepsCycle outlet ptable ident s
  | ocppRemoteStop sessionId angle => exact execOcppRemoteStop_keepsCycle sessionId angle s
  | ocppUnlockConnector outlet => exact execOcppUnlockConnector_keepsCycle outlet s
  | ocppChangeAvailability outlet operative => exact execOcppChangeAvailability_keepsCycle outlet operative s
  | ocppReset => exact execOcppReset_keepsCycle s
  | ocppTriggerMessage kind => exact execOcppTriggerMessage_keepsCycle kind s
  | ocppReservation outlet ident => exact execOcppReservation_keepsCycle outlet ident s
  | ocppChargingProfile outlet id stack limit => exact execOcppChargingProfile_keepsCycle outlet id stack limit s
  | ocppLocalList diff version entries => exact execOcppLocalList_keepsCycle diff version entries s
  | ocppFirmwareUpdate => exact execOcppFirmwareUpdate_keepsCycle s
  | ocppDataTransfer walduca => exact execOcppDataTransfer_keepsCycle walduca s
  | canStatus bus addr state fault mv ma temp avail =>
    exact execCanStatus_keepsCycle bus addr state fault mv ma temp avail s
  | canIdent bus addr serial ratedV ratedI ratedP reverse version =>
    exact execCanIdent_keepsCycle bus addr serial ratedV ratedI ratedP reverse version s
  | convLost bus addr => exact execConvLost_keepsCycle bus addr s
  | canBusOff bus tec rec' => exact execCanBusOff_keepsCycle bus tec rec' s
  | setpointTick outlet => exact execSetpointTick_keepsCycle outlet s
  | identReqTick => exact execIdentReqTick_keepsCycle s
  | fbChange outlet closed us angle since => exact execFbChange_keepsCycle outlet closed us angle since s
  | closeTimeout outlet => exact execCloseTimeout_keepsCycle outlet s
  | checkTimeout outlet => exact execCheckTimeout_keepsCycle outlet s
  | prechargeTimeout outlet => exact execPrechargeTimeout_keepsCycle outlet s
  | openingTimeout outlet => exact execOpeningTimeout_keepsCycle outlet s
  | relearn outlet => exact execRelearn_keepsCycle outlet s
  | coilPullinEnd outlet => exact execCoilPullinEnd_keepsCycle outlet s
  | imdResult outlet kohm plus minus => exact execImdResult_keepsCycle outlet kohm plus minus s
  | nibChallenge value => exact execNibChallenge_keepsCycle value s
  | nibAnswer us correct angle => exact execNibAnswer_keepsCycle us correct angle s
  | nibAnswerTimeout => exact execNibAnswerTimeout_keepsCycle s
  | nibLost since => exact execNibLost_keepsCycle since s
  | lockstepMismatch => exact execLockstepMismatch_keepsCycle s
  | residualCurrentTrip outlet channel dc ac => exact execResidualCurrentTrip_keepsCycle outlet channel dc ac s
  | peLossTrip outlet channel mohm => exact execPeLossTrip_keepsCycle outlet channel mohm s
  | pilotTrip outlet channel vpos vneg => exact execPilotTrip_keepsCycle outlet channel vpos vneg s
  | nibBBandWithdraw outlet vpos vneg => exact execNibBBandWithdraw_keepsCycle outlet vpos vneg s
  | contactorMismatch outlet channel => exact execContactorMismatch_keepsCycle outlet channel s
  | failToClose outlet channel => exact execFailToClose_keepsCycle outlet channel s
  | weldDetected outlet channel => exact execWeldDetected_keepsCycle outlet channel s
  | poleTestDone outlet plus minus => exact execPoleTestDone_keepsCycle outlet plus minus s
  | shuntTripDirect => exact execShuntTripDirect_keepsCycle s
  | shuntTripEnd => exact execShuntTripEnd_keepsCycle s
  | tempReading pwd sup => exact execTempReading_keepsCycle pwd sup s
  | tempSwitchTrip outlet high => exact execTempSwitchTrip_keepsCycle outlet high s
  | sealSwitchChange levels => exact execSealSwitchChange_keepsCycle levels s
  | sealSettingAdopt => exact execSealSettingAdopt_keepsCycle s
  | precloseTest outlet run angle => exact execPrecloseTest_keepsCycle outlet run angle s
  | tripLatchClear outlet cause => exact execTripLatchClear_keepsCycle outlet cause s
  | degradedWindowEnd => exact execDegradedWindowEnd_keepsCycle s
  | nibAimedWithdraw outlet => exact execNibAimedWithdraw_keepsCycle outlet s
  | outletAdopt outlet clean => exact execOutletAdopt_keepsCycle outlet clean s
  | lswOn channel dur m => exact execLswOn_keepsCycle channel dur m s
  | lswOff channel m => exact execLswOff_keepsCycle channel m s
  | lswDurExpiry channel => exact execLswDurExpiry_keepsCycle channel s
  | lswInEdge channel level recent m => exact execLswInEdge_keepsCycle channel level recent m s
  | lswRampDone channel m => exact execLswRampDone_keepsCycle channel m s
  | lswWindowEnd channel m => exact execLswWindowEnd_keepsCycle channel m s
  | lswRailSag channel m => exact execLswRailSag_keepsCycle channel m s
  | lswRampResume channel ms m => exact execLswRampResume_keepsCycle channel ms m s
  | lswPauseTimeout channel ms => exact execLswPauseTimeout_keepsCycle channel ms s
  | lswThermalShutdown channel m => exact execLswThermalShutdown_keepsCycle channel m s
  | lswRetry channel m => exact execLswRetry_keepsCycle channel m s
  | lswTripsReset channel => exact execLswTripsReset_keepsCycle channel s
  | lswOvercurrent channel m => exact execLswOvercurrent_keepsCycle channel m s
  | lswShed groupB current => exact execLswShed_keepsCycle groupB current s
  | lswGroupUv groupB rail => exact execLswGroupUv_keepsCycle groupB rail s
  | lswGroupUvRecover groupB rail current => exact execLswGroupUvRecover_keepsCycle groupB rail current s
  | lswTestPulse channel => exact execLswTestPulse_keepsCycle channel s
  | lswTestPulseEnd channel fellUs maxMa m => exact execLswTestPulseEnd_keepsCycle channel fellUs maxMa m s
  | lswOffCheckFail channel m => exact execLswOffCheckFail_keepsCycle channel m s
  | lswOpenLoad channel sourceOn sourceOff m => exact execLswOpenLoad_keepsCycle channel sourceOn sourceOff m s
  | lswDisableWrite value => exact execLswDisableWrite_keepsCycle value s
  | dspPubGo => exact execDspPubGo_keepsCycle s
  | dspFrameStart => exact execDspFrameStart_keepsCycle s
  | dspFrameEnd dur dramError => exact execDspFrameEnd_keepsCycle dur dramError s
  | frameFree => exact execFrameFree_keepsCycle s
  | ageRecompute => exact execAgeRecompute_keepsCycle s
  | ageSave => exact execAgeSave_keepsCycle s
  | ageSense => exact execAgeSense_keepsCycle s
  | ageSenseRead sum => exact execAgeSenseRead_keepsCycle sum s
  | ageBaseline => exact execAgeBaseline_keepsCycle s
  | panelPowerOn => exact execPanelPowerOn_keepsCycle s
  | panelPowerOnStep => exact execPanelPowerOnStep_keepsCycle s
  | panelPowerOff => exact execPanelPowerOff_keepsCycle s
  | panelPowerOffStep => exact execPanelPowerOffStep_keepsCycle s
  | bpUpdateStart temp panelFault => exact execBpUpdateStart_keepsCycle temp panelFault s
  | bpBusyFall image panelFault => exact execBpBusyFall_keepsCycle image panelFault s
  | bpFaultRetry temp panelFault => exact execBpFaultRetry_keepsCycle temp panelFault s
  | perst asserted => exact execPerst_keepsCycle asserted s
  | pcieLinkDown => exact execPcieLinkDown_keepsCycle s
  | wlockSet => exact execWlockSet_keepsCycle s
  | lockedWrite addr value => exact execLockedWrite_keepsCycle addr value s
  | ringEnable ring value => exact execRingEnable_keepsCycle ring value s
  | ringDisable ring value => exact execRingDisable_keepsCycle ring value s
  | sqDoorbell ring tail => exact execSqDoorbell_keepsCycle ring tail s
  | cqDoorbell ring head => exact execCqDoorbell_keepsCycle ring head s
  | descriptorFetch ring fetched => exact execDescriptorFetch_keepsCycle ring fetched s
  | coalTimer ring => exact execCoalTimer_keepsCycle ring s
  | msixTableWrite w => exact execMsixTableWrite_keepsCycle w s
  | nop req => exact execNop_keepsCycle req s
  | marker req cycle angle => exact execMarker_keepsCycle req cycle angle s
  | markerCancel req target => exact execMarkerCancel_keepsCycle req target s
  | timeSet req utc => exact execTimeSet_keepsCycle req utc s
  | modeReq req target prepOff => exact execModeReq_keepsCycle req target prepOff s
  | shadowWrite req pairs => exact execShadowWrite_keepsCycle req pairs s
  | cgArm req members maxDefer target => exact execCgArm_keepsCycle req members maxDefer target s
  | cgCancel req => exact execCgCancel_keepsCycle req s
  | nsSeq req wait pairs => exact execNsSeq_keepsCycle req wait pairs s
  | accRead req kind index xfer => exact execAccRead_keepsCycle req kind index xfer s
  | calLoad req instant words => exact execCalLoad_keepsCycle req instant words s
  | calCtrl req command => exact execCalCtrl_keepsCycle req command s
  | pricePublish req table words => exact execPricePublish_keepsCycle req table words s
  | mdReset req creq => exact execMdReset_keepsCycle req creq s
  | legExport req first length xfer => exact execLegExport_keepsCycle req first length xfer s
  | legAck req seq => exact execLegAck_keepsCycle req seq s
  | sessionStart req outlet ptable auth kind ident =>
    exact execSessionStart_keepsCycle req outlet ptable auth kind ident s
  | sessionStop req sessionId => exact execSessionStop_keepsCycle req sessionId s
  | authList req mode version buffer => exact execAuthList_keepsCycle req mode version buffer s
  | lswCmd req channel on off dur => exact execLswCmd_keepsCycle req channel on off dur s
  | dspWrite req offset data => exact execDspWrite_keepsCycle req offset data s
  | dspPublish req offset crc => exact execDspPublish_keepsCycle req offset crc s
  | attest req nonce xfer => exact execAttest_keepsCycle req nonce xfer s
  | updOpen req src buffer sigOk => exact execUpdOpen_keepsCycle req src buffer sigOk s
  | updChunk req src chunk data readback => exact execUpdChunk_keepsCycle req src chunk data readback s
  | updVerify req src => exact execUpdVerify_keepsCycle req src s
  | updVerifyDone => exact execUpdVerifyDone_keepsCycle s
  | updActivate req src => exact execUpdActivate_keepsCycle req src s
  | activationPlaced => exact execActivationPlaced_keepsCycle s
  | privQuiesce => exact execPrivQuiesce_keepsCycle s
  | updConfirm req src => exact execUpdConfirm_keepsCycle req src s
  | updAbort req src => exact execUpdAbort_keepsCycle req src s
  | updQuery req => exact execUpdQuery_keepsCycle req s
  | updIdleTimeout => exact execUpdIdleTimeout_keepsCycle s
  | confirmTimeout since => exact execConfirmTimeout_keepsCycle since s
  | confirmTimerSave => exact execConfirmTimerSave_keepsCycle s
  | rollbackRestart => exact execRollbackRestart_keepsCycle s
  | hello h unit addr tentative nport rate rated flags =>
    exact execHello_keepsCycle h unit addr tentative nport rate rated flags s
  | helloTick port => exact execHelloTick_keepsCycle port s
  | claim h unit addr => exact execClaim_keepsCycle h unit addr s
  | addrClaimValid => exact execAddrClaimValid_keepsCycle s
  | lsa h unit lsaSeq rated flags links => exact execLsa_keepsCycle h unit lsaSeq rated flags links s
  | lsaRefresh => exact execLsaRefresh_keepsCycle s
  | lsaAgeOut addr => exact execLsaAgeOut_keepsCycle addr s
  | sync h sync rxTime => exact execSync_keepsCycle h sync rxTime s
  | syncTick port => exact execSyncTick_keepsCycle port s
  | demand h demand => exact execDemand_keepsCycle h demand s
  | allocCollectionClose => exact execAllocCollectionClose_keepsCycle s
  | grant h round digest milliner segment segments items =>
    exact execGrant_keepsCycle h round digest milliner segment segments items s
  | grantTimeout => exact execGrantTimeout_keepsCycle s
  | partitionHoldEnd => exact execPartitionHoldEnd_keepsCycle s
  | resume h round milliner => exact execResume_keepsCycle h round milliner s
  | replicaOpen h body => exact execReplicaOpen_keepsCycle h body s
  | replicaUpdate h body => exact execReplicaUpdate_keepsCycle h body s
  | replicaAck h sessionId cycle result => exact execReplicaAck_keepsCycle h sessionId cycle result s
  | replicaClose h sessionId reason seq => exact execReplicaClose_keepsCycle h sessionId reason seq s
  | replicaHolderLost sessionId holder => exact execReplicaHolderLost_keepsCycle sessionId holder s
  | replicaPlaceRetry outlet => exact execReplicaPlaceRetry_keepsCycle outlet s
  | replicaCloseRetry sessionId holder => exact execReplicaCloseRetry_keepsCycle sessionId holder s
  | replicaAdopt ctx primaryAlso => exact execReplicaAdopt_keepsCycle ctx primaryAlso s
  | settled h sessionId origin settler adopted seq =>
    exact execSettled_keepsCycle h sessionId origin settler adopted seq s
  | leave h unit reason => exact execLeave_keepsCycle h unit reason s
  | wake port => exact execWake_keepsCycle port s
  | forget h addr unit => exact execForget_keepsCycle h addr unit s
  | rate port standby => exact execRate_keepsCycle port standby s
  | portLock port full => exact execPortLock_keepsCycle port full s
  | portTrainTimeout port => exact execPortTrainTimeout_keepsCycle port s
  | portLockLoss port neighbourPower => exact execPortLockLoss_keepsCycle port neighbourPower s
  | portErrRead port => exact execPortErrRead_keepsCycle port s
  | fabCtrlForget addr retry => exact execFabCtrlForget_keepsCycle addr retry s
  | fabCtrlRetry => exact execFabCtrlRetry_keepsCycle s
  | deriveRequest cls isSealed accesses => exact execDeriveRequest_keepsCycle cls isSealed accesses s
  | remask => exact execRemask_keepsCycle s
  | entropyOutput rctOk aptOk starting => exact execEntropyOutput_keepsCycle rctOk aptOk starting s
  | xmssSign readback => exact execXmssSign_keepsCycle readback s
  | xmssVerify ok who => exact execXmssVerify_keepsCycle ok who s
  | keygen => exact execKeygen_keepsCycle s
  | keygenDone => exact execKeygenDone_keepsCycle s
  | dbgChal => exact execDbgChal_keepsCycle s
  | dbgResp response sigOk => exact execDbgResp_keepsCycle response sigOk s
  | tlsHandshakeMessage session peer ev => exact execTlsHandshakeMessage_keepsCycle session peer ev s
  | csrSign req peer newGeneration request => exact execCsrSign_keepsCycle req peer newGeneration request s
  | siteKeyDelivery keyId activation key authentic =>
    exact execSiteKeyDelivery_keepsCycle keyId activation key authentic s
  | siteKeyActivate keyId since => exact execSiteKeyActivate_keepsCycle keyId since s
  | faultReport reports => exact execFaultReport_keepsCycle reports s
  | faultCleared source => exact execFaultCleared_keepsCycle source s
  | quietTimerExpiry source => exact execQuietTimerExpiry_keepsCycle source s
  | escalationCheck source => exact execEscalationCheck_keepsCycle source s
  | clearRetire source => exact execClearRetire_keepsCycle source s
  | clearRecov source => exact execClearRecov_keepsCycle source s
  | faultForceWrite w value => exact execFaultForceWrite_keepsCycle w value s
  | blotterWrite => exact execBlotterWrite_keepsCycle s
  | bltLatch => exact execBltLatch_keepsCycle s
  | bltNext => exact execBltNext_keepsCycle s
  | bltLatchDone => exact execBltLatchDone_keepsCycle s
  | aonPowerOn => exact execAonPowerOn_keepsCycle s
  | blockResetComplete block => exact execBlockResetComplete_keepsCycle block s
  | lswGroupWithinBudget groupB current => exact execLswGroupWithinBudget_keepsCycle groupB current s
  | feltFrameRejected h typ why => exact execFeltFrameRejected_keepsCycle h typ why s
  | blankToFactory unit img0 img1 prov dbg => exact execBlankToFactory_keepsCycle unit img0 img1 prov dbg s
  | pcieLinkUp speed width => exact execPcieLinkUp_keepsCycle speed width s
  | authorizationReq outlet pnc chainOk ident ptable =>
    exact execAuthorizationReq_keepsCycle outlet pnc chainOk ident ptable s
  | chargeParameterDiscoveryReq outlet bpt dynamic schedules =>
    exact execChargeParameterDiscoveryReq_keepsCycle outlet bpt dynamic schedules s
  | hlcTimeout outlet => exact execHlcTimeout_keepsCycle outlet s
  | ocppSetVariables id value => exact execOcppSetVariables_keepsCycle id value s
  | ocppSetDisplayMessage text => exact execOcppSetDisplayMessage_keepsCycle text s
  | ocppGetLog first count monitor => exact execOcppGetLog_keepsCycle first count monitor s

/-- R99: ANGLE_ZERO adds one to the cycle count that is known, while the die runs. -/
theorem execAngleZero_cycle {s : State} (period : Nat) (brownOut : Bool) (h : s.chip.tb.known = true)
    (hr : dieRuns s.chip = true) :
    ∃ t, execAngleZero period brownOut s = .next t ∧ t.chip.tb.cycle = s.chip.tb.cycle + 1 := by
  unfold execAngleZero onChip
  refine ⟨_, rfl, ?_⟩
  have hk : (zerosAngleZero (runTo (fireThrough 65536 s.chip 65535) (cycleLength s.chip period))).tb.known = true := by
    simp [h]
  have hcount := tbCycle_cycle hk
  simp only [hr, if_true]
  split_ifs <;> simpa using hcount

theorem execAngleZero_stopped {s : State} (period : Nat) (brownOut : Bool) (hr : dieRuns s.chip = false) :
    execAngleZero period brownOut s = .next s := by simp [execAngleZero, onChip, hr]

end Sys2Proof.Machine

namespace Sys2Proof

open Machine

/-- Settles O59: every operation of the model but the counting at angle 0 leaves the cycle count, while it is known. -/
theorem cycleCount : Obligations.CycleCount := by
  unfold Obligations.CycleCount
  refine ⟨?others, ?counts, ?stopped⟩
  case others =>
    intro s t i hexec hknown hi
    exact exec_keepsCycle hknown hi t hexec
  case counts =>
    intro s p b hknown hruns
    exact execAngleZero_cycle p b hknown hruns
  case stopped =>
    intro s p b hstop
    exact execAngleZero_stopped p b hstop

end Sys2Proof
end

section
/-! PROOFS. DEMAND in Standby and after wake (R387, R390): what `ownDemand` carries, and what each step of a round does
to `computed`, the number of rounds computed in a row. -/

namespace Sys2Proof.Machine

/-! ### The demand of this module -/

theorem ownDemand_entries_standby {c : Chip} (r : Nat) (hm : c.sup.mode = .standby) : (ownDemand c r).entries = [] :=
  if_pos hm

/-- R387: MODE[1] is the bit of Standby, whatever the fallback bit below it is. -/
theorem ownDemand_mode_standby {c : Chip} (r : Nat) (hm : c.sup.mode = .standby) : (ownDemand c r).mode / 2 % 2 = 1 := by
  have hfallback := Bool.toNat_lt (c.fab.mode == .fallback)
  simp only [ownDemand, placeBit, hm, beq_self_eq_true, Bool.toNat_true]
  omega

theorem ownDemand_digest_standby {c : Chip} (r : Nat) (hm : c.sup.mode = .standby) : (ownDemand c r).digest = 0 := by
  simp [ownDemand, demandDigest, hm]

theorem ownDemand_digest_of_computed_lt_two {c : Chip} (r : Nat) (h : c.fab.computed < 2) : (ownDemand c r).digest = 0 :=
  if_neg fun ⟨_, htwo, _⟩ => h.ne htwo

/-- R387, R390: out of Standby and with two rounds computed, the digest is that of the last round's result. -/
theorem ownDemand_digest_of_result {c : Chip} {r : Nat} {a : AllocResult} (hm : c.sup.mode ≠ .standby)
    (hdet : c.fab.mode = .deterministic) (htwo : c.fab.computed = 2) (hres : resultOf c r = some a) :
    (ownDemand c (r + 1)).digest = a.digest := by
  simp [ownDemand, demandDigest, hm, hdet, htwo, hres]

/-! ### The rounds computed in a row -/

@[simp] theorem sendFlood_computed (c : Chip) (typ : Nat) (payload : List Byte) :
    (sendFlood c typ payload).fab.computed = c.fab.computed := by
  unfold sendFlood
  split
  · rw [emits_fab]; rfl
  · rfl

@[simp] theorem keepDemand_computed (c : Chip) (d : Demand) : (keepDemand c d).fab.computed = c.fab.computed := rfl

@[simp] theorem noteStarts_sup (c : Chip) (r : Nat) : (noteStarts c r).sup = c.sup := rfl

/-- R390: step 1 of a round that falls in Standby forgets the rounds computed before it. -/
theorem roundStep1_computed_standby {c : Chip} (r : Nat) (hm : c.sup.mode = .standby) :
    (roundStep1 c r).fab.computed = 0 := by
  simp [roundStep1, hm, modFab]

theorem skipRound_computed_of_lt_two {c : Chip} (h : c.fab.computed < 2) : (skipRound c).fab.computed = 0 :=
  if_pos h

/-! ### The close of the collection -/

/-- R385, R390: in Standby step 3 is not run: the collection closes, and that is all. -/
theorem execAllocCollectionClose_standby {s : State} (hm : s.chip.sup.mode = .standby)
    (hopen : s.chip.fab.collecting = true) :
    execAllocCollectionClose s =
      .next { s with chip := modFab s.chip (fun f => { f with collecting := false }) } := by
  simp [execAllocCollectionClose, onChip, hopen, hm]

end Sys2Proof.Machine

namespace Sys2Proof

open Machine

theorem modFab_keptBut_fab (c : Chip) (f : Fab → Fab) : ChipKeptBut [.fab] c (modFab c f) := by
  intro p hp
  cases p with
  | fab => exact absurd (List.mem_singleton_self _) hp
  | _ => rfl

/-- Settles O60: each clause is what `ownDemand`, or a step of the round, does in Standby or with fewer than two rounds
computed. -/
theorem standbyDemand : Obligations.StandbyDemand := by
  unfold Obligations.StandbyDemand
  refine ⟨?standby, ?close, ?step1, ?digestZero, ?skipped, ?digestResult⟩
  case standby =>
    intro c r hm
    exact ⟨ownDemand_entries_standby r hm, ownDemand_digest_standby r hm, ownDemand_mode_standby r hm⟩
  case close =>
    intro s hm hopen
    exact ⟨_, execAllocCollectionClose_standby hm hopen, ⟨⟨rfl, rfl, rfl⟩, modFab_keptBut_fab _ _⟩, rfl⟩
  case step1 =>
    intro c r hm
    exact roundStep1_computed_standby r hm
  case digestZero =>
    intro c r h
    exact ownDemand_digest_of_computed_lt_two r h
  case skipped =>
    intro c h
    exact skipRound_computed_of_lt_two h
  case digestResult =>
    intro c r a hm hdet htwo hres
    exact ownDemand_digest_of_result hm hdet htwo hres

end Sys2Proof
end

section
/-! PROOFS. The procedure fill (R388): each class adds to grants that stand within their bounds, and what it adds it takes
from the capacity that is left; the level of a class is the largest that fits. -/

namespace Sys2Proof.Machine

/-- R388: what of an entry no step of the procedure changes. -/
def fillKey (e : FillEntry) : Nat × Nat × Nat × Nat × Nat × Nat × Nat :=
  (e.addr, e.outlet, e.prio, e.weight, e.lo, e.hi, e.start)

/-- The watts granted so far. -/
def granted (l : List FillEntry) : Nat := (l.map (·.g)).sum

@[simp] theorem granted_nil : granted [] = 0 := rfl
@[simp] theorem granted_cons (e : FillEntry) (l : List FillEntry) : granted (e :: l) = e.g + granted l := rfl

/-- R388: an entry that is on is granted from its minimum to its bound, any other nothing. -/
def FillBounded (e : FillEntry) : Prop := if e.on then e.lo ≤ e.g ∧ e.g ≤ e.hi else e.g = 0

theorem FillBounded.nothing_or_within {e : FillEntry} (h : FillBounded e) : e.g = 0 ∨ (e.lo ≤ e.g ∧ e.g ≤ e.hi) := by
  unfold FillBounded at h
  split at h
  · exact .inr h
  · exact .inl h

/-- What holds between two classes: the classes of at least `p` have been filled. -/
structure FillState (cap p : Nat) (st : Nat × List FillEntry) : Prop where
  within : st.1 + granted st.2 ≤ cap
  bounded : ∀ e ∈ st.2, FillBounded e
  atMinimum : ∀ e ∈ st.2, e.prio < p → e.on = true → e.g = e.lo

/-! ### Pass 1 -/

/-- R388: what pass 1 leaves of an entry. -/
theorem mem_fillMinimums {rem : Nat} {es : List FillEntry} {e : FillEntry} (h : e ∈ (fillMinimums rem es).2) :
    FillBounded e ∧ (e.on = true → e.g = e.lo) := by
  induction es generalizing rem with
  | nil => simp [fillMinimums] at h
  | cons x es ih =>
    unfold fillMinimums at h
    split at h
    case isTrue hfit =>
      rcases List.mem_cons.1 h with rfl | h
      · simp [FillBounded, hfit.1]
      · exact ih h
    case isFalse =>
      rcases List.mem_cons.1 h with rfl | h
      · simp [FillBounded]
      · exact ih h

theorem fillMinimums_within (rem : Nat) (es : List FillEntry) :
    (fillMinimums rem es).1 + granted (fillMinimums rem es).2 ≤ rem := by
  induction es generalizing rem with
  | nil => simp [fillMinimums]
  | cons x es ih =>
    unfold fillMinimums
    split
    case isTrue hfit =>
      have := ih (rem - x.lo)
      simp only [granted_cons]
      omega
    case isFalse => simpa using ih rem

theorem fillMinimums_keys (rem : Nat) (es : List FillEntry) :
    (fillMinimums rem es).2.map fillKey = es.map fillKey := by
  induction es generalizing rem with
  | nil => rfl
  | cons x es ih =>
    unfold fillMinimums
    split
    · simp [ih, fillKey]
    · simp [ih, fillKey]

/-! ### The level of a class -/

theorem levelSum_zero (a : List FillEntry) : levelSum a 0 = 0 := by simp [levelSum]

theorem levelSum_mono (a : List FillEntry) {l m : Nat} (h : l ≤ m) : levelSum a l ≤ levelSum a m :=
  List.sum_le_sum fun e _ => min_le_min le_rfl (Nat.mul_le_mul_left e.weight h)

/-- A level that is at most 2^31 and whose sum fits. -/
def LevelFits (a : List FillEntry) (rem l : Nat) : Prop := l ≤ 2 ^ 31 ∧ levelSum a l ≤ rem

theorem LevelFits.of_le {a : List FillEntry} {rem l m : Nat} (hm : LevelFits a rem m) (h : l ≤ m) : LevelFits a rem l :=
  ⟨h.trans hm.1, (levelSum_mono a h).trans hm.2⟩

/-- The halving steps keep a level that fits, and the greatest one less than 2^(b+1) above it. -/
theorem findLevel_greatest {a : List FillEntry} {rem : Nat} (b l : Nat) (hl : LevelFits a rem l)
    (hlt : ∀ m, LevelFits a rem m → m < l + 2 ^ (b + 1)) :
    LevelFits a rem (findLevel a rem b l) ∧ ∀ m, LevelFits a rem m → m ≤ findLevel a rem b l := by
  induction b generalizing l with
  | zero =>
    unfold findLevel
    split
    case isTrue hfit => exact ⟨hfit, fun m hm => by have := hlt m hm; omega⟩
    case isFalse hnot =>
      refine ⟨hl, fun m hm => ?_⟩
      by_contra hgt
      exact hnot (hm.of_le (by omega))
  | succ b ih =>
    unfold findLevel
    have hpow : 2 ^ (b + 1 + 1) = 2 ^ (b + 1) + 2 ^ (b + 1) := by ring
    dsimp only
    split
    case isTrue hfit => exact ih _ hfit fun m hm => by have := hlt m hm; omega
    case isFalse hnot =>
      refine ih _ hl fun m hm => ?_
      by_contra hge
      exact hnot (hm.of_le (by omega))

/-- R388: the level of a class is the largest that fits. -/
theorem findLevel_spec (a : List FillEntry) (rem : Nat) :
    LevelFits a rem (findLevel a rem 31 0) ∧ ∀ m, LevelFits a rem m → m ≤ findLevel a rem 31 0 :=
  findLevel_greatest 31 0 ⟨Nat.zero_le _, by rw [levelSum_zero]; exact Nat.zero_le _⟩ fun m hm => by
    have := hm.1
    omega

/-! ### Pass 2 -/

/-- R388: an entry of the class at its level. -/
def liftEntry (p level : Nat) (e : FillEntry) : FillEntry × Bool :=
  if fillable p e then ({ e with g := e.lo + min (e.hi - e.lo) (e.weight * level) }, true) else (e, false)

theorem fillClass_eq (p : Nat) (st : Nat × List FillEntry) :
    fillClass p st = fillRemainder (st.1 - levelSum (st.2.filter (fillable p)) (findLevel (st.2.filter (fillable p)) st.1 31 0))
      (st.2.map (liftEntry p (findLevel (st.2.filter (fillable p)) st.1 31 0))) := rfl

@[simp] theorem fillKey_liftEntry (p level : Nat) (e : FillEntry) : fillKey (liftEntry p level e).1 = fillKey e := by
  unfold liftEntry; split <;> rfl

theorem liftEntry_bounded (p level : Nat) {e : FillEntry} (h : FillBounded e) : FillBounded (liftEntry p level e).1 := by
  unfold liftEntry
  split
  case isFalse => exact h
  case isTrue hfill =>
    simp only [fillable, Bool.and_eq_true] at hfill
    simp only [FillBounded, hfill.1.2, if_true] at h ⊢
    omega

/-- What an entry selected for the remainder is: on, and of the class. -/
theorem liftEntry_selected {p level : Nat} {e : FillEntry} (h : (liftEntry p level e).2 = true) :
    (liftEntry p level e).1.on = true ∧ e.prio = p := by
  unfold liftEntry at h ⊢
  split at h
  case isFalse => simp at h
  case isTrue hfill =>
    rw [if_pos hfill]
    simp only [fillable, Bool.and_eq_true, beq_iff_eq] at hfill
    exact ⟨hfill.1.2, hfill.1.1⟩

/-- The lift of a class takes `levelSum`. -/
theorem granted_lift (p level : Nat) (l : List FillEntry)
    (h : ∀ e ∈ l, e.prio < p + 1 → e.on = true → e.g = e.lo) :
    granted ((l.map (liftEntry p level)).map (·.1)) = granted l + levelSum (l.filter (fillable p)) level := by
  induction l with
  | nil => simp [levelSum]
  | cons e l ih =>
    have hl := ih fun x hx => h x (List.mem_cons_of_mem _ hx)
    simp only [List.map_cons, granted_cons, hl]
    by_cases hfill : fillable p e = true
    · have hparts := hfill
      simp only [fillable, Bool.and_eq_true, beq_iff_eq] at hparts
      have hmin := h e List.mem_cons_self (by omega) hparts.1.2
      simp only [liftEntry, hfill, if_true, List.filter_cons_of_pos, levelSum, List.map_cons, List.sum_cons]
      omega
    · simp only [liftEntry, hfill, List.filter_cons_of_neg, not_false_eq_true, if_false, Bool.false_eq_true]
      omega

/-- R388: what the remainder leaves of an entry that stands within its bounds. -/
theorem mem_fillRemainder {rem : Nat} {es : List (FillEntry × Bool)} {e : FillEntry} (h : e ∈ (fillRemainder rem es).2)
    (hon : ∀ x ∈ es, FillBounded x.1 ∧ (x.2 = true → x.1.on = true)) :
    ∃ x ∈ es, FillBounded e ∧ e.prio = x.1.prio ∧ e.on = x.1.on ∧ e.lo = x.1.lo ∧ (x.2 = false → e = x.1) := by
  induction es generalizing rem with
  | nil => simp [fillRemainder] at h
  | cons x es ih =>
    obtain ⟨x, sel⟩ := x
    rcases List.mem_cons.1 h with rfl | h
    · refine ⟨(x, sel), List.mem_cons_self, ?_, rfl, rfl, rfl, fun hsel => by simp at hsel; simp [hsel]⟩
      obtain ⟨hb, hsel⟩ := hon (x, sel) List.mem_cons_self
      cases sel with
      | false => simpa using hb
      | true =>
        have hxon : x.on = true := hsel rfl
        simp only [FillBounded, hxon, if_true] at hb ⊢
        omega
    · obtain ⟨y, hy, hrest⟩ := ih h fun y hy => hon y (List.mem_cons_of_mem _ hy)
      exact ⟨y, List.mem_cons_of_mem _ hy, hrest⟩

theorem fillRemainder_within (rem : Nat) (es : List (FillEntry × Bool)) :
    (fillRemainder rem es).1 + granted (fillRemainder rem es).2 ≤ rem + granted (es.map (·.1)) := by
  induction es generalizing rem with
  | nil => simp [fillRemainder]
  | cons x es ih =>
    obtain ⟨x, sel⟩ := x
    simp only [fillRemainder, List.map_cons, granted_cons]
    have := ih (rem - if sel then min rem (min x.weight (x.hi - x.g)) else 0)
    split_ifs at this ⊢ <;> omega

theorem fillRemainder_keys (rem : Nat) (es : List (FillEntry × Bool)) :
    (fillRemainder rem es).2.map fillKey = es.map (fun x => fillKey x.1) := by
  induction es generalizing rem with
  | nil => rfl
  | cons x es ih => simp [fillRemainder, ih, fillKey]

theorem fillClass_keys (p : Nat) (st : Nat × List FillEntry) : (fillClass p st).2.map fillKey = st.2.map fillKey := by
  rw [fillClass_eq, fillRemainder_keys]
  simp

/-- R388: one class keeps what holds between two classes. -/
theorem fillClass_keeps {cap p : Nat} {st : Nat × List FillEntry} (h : FillState cap (p + 1) st) :
    FillState cap p (fillClass p st) := by
  obtain ⟨hwithin, hbounded, hmin⟩ := h
  rw [fillClass_eq]
  obtain ⟨⟨-, hlevel⟩, -⟩ := findLevel_spec (st.2.filter (fillable p)) st.1
  have hsel : ∀ x ∈ st.2.map (liftEntry p (findLevel (st.2.filter (fillable p)) st.1 31 0)),
      FillBounded x.1 ∧ (x.2 = true → x.1.on = true) := by
    intro x hx
    obtain ⟨e, he, rfl⟩ := List.mem_map.1 hx
    exact ⟨liftEntry_bounded p _ (hbounded e he), fun hs => (liftEntry_selected hs).1⟩
  refine ⟨?within, ?bounded, ?atMinimum⟩
  case within =>
    refine (fillRemainder_within _ _).trans ?_
    rw [granted_lift p _ st.2 hmin]
    omega
  case bounded =>
    intro e he
    obtain ⟨x, -, hb, -⟩ := mem_fillRemainder he hsel
    exact hb
  case atMinimum =>
    intro e he hprio hon
    obtain ⟨x, hx, -, hp, ho, -, hsame⟩ := mem_fillRemainder he hsel
    obtain ⟨y, hy, rfl⟩ := List.mem_map.1 hx
    have hkey := congrArg (fun k => k.2.2.1) (fillKey_liftEntry p (findLevel (st.2.filter (fillable p)) st.1 31 0) y)
    have hpy : y.prio = e.prio := hkey.symm.trans hp.symm
    have hnot : fillable p y = false := by
      simp only [fillable, Bool.and_eq_false_iff, beq_eq_false_iff_ne]
      exact .inl (.inl (by omega))
    simp only [liftEntry, hnot, Bool.false_eq_true, if_false] at hsame ho
    rw [hsame trivial]
    exact hmin y hy (by omega) (ho.symm.trans hon)

theorem fillMinimums_state (cap : Nat) (es : List FillEntry) : FillState cap 4 (fillMinimums cap es) :=
  ⟨fillMinimums_within cap es, fun _ he => (mem_fillMinimums he).1, fun _ he _ => (mem_fillMinimums he).2⟩

/-- R388: what the procedure leaves. -/
theorem fill_state (es : List FillEntry) (cap : Nat) : ∃ rem, FillState cap 0 (rem, fill es cap) :=
  ⟨_, fillClass_keeps (fillClass_keeps (fillClass_keeps (fillClass_keeps (fillMinimums_state cap _))))⟩

theorem fill_keys_perm (es : List FillEntry) (cap : Nat) : ((fill es cap).map fillKey).Perm (es.map fillKey) := by
  simp only [fill, fillClass_keys, fillMinimums_keys]
  exact (List.mergeSort_perm es fillBefore).map fillKey

end Sys2Proof.Machine

namespace Sys2Proof

open Machine

/-- Settles O46: the grants and the remainder stay within the capacity through pass 1 and the four classes. -/
theorem fillWithinCapacity : Obligations.FillWithinCapacity := by
  unfold Obligations.FillWithinCapacity
  refine ⟨?capacity, ?bounds, ?entries, ?level⟩
  case capacity =>
    intro es cap
    obtain ⟨rem, hwithin, -, -⟩ := fill_state es cap
    exact (Nat.le_add_left _ _).trans hwithin
  case bounds =>
    intro es cap e he
    obtain ⟨rem, -, hbounded, -⟩ := fill_state es cap
    exact (hbounded e he).nothing_or_within
  case entries => exact fill_keys_perm
  case level =>
    intro a rem
    obtain ⟨⟨hle, hfits⟩, hgreatest⟩ := findLevel_spec a rem
    exact ⟨hle, hfits, fun l hl hsum => hgreatest l ⟨hl, hsum⟩⟩

end Sys2Proof
end

section
/-! PROOFS. The stores beside the chip: queue, fuses and memory. Six commands reach one of them; every other one changes
the chip alone. From that, O54 to O57. -/

namespace Sys2Proof.Machine

/-- The outcome is a next state that differs from `s` in its chip alone. -/
def OnlyChip (s : State) (o : Host.Outcome State Fault Refusal) : Prop := ∃ c, o = .next { s with chip := c }

/-- The commands that can change the fuses or the memory. -/
def reachesStores : Instr → Bool
  | .lifecycleToken _ _ | .blankToFactory _ _ _ _ _ | .updConfirm _ _ | .resetRelease _ _ _ _ _ | .dspWrite _ _ _
  | .dramWipeDone _ => true
  | _ => false

/-- Those commands, arm by arm. -/
inductive StoreCommand : Instr → Prop
  | lifecycleToken (k : List Byte) (v : Bool) : StoreCommand (.lifecycleToken k v)
  | blankToFactory (u : BitVec 128) (a b c d : BitVec 256) : StoreCommand (.blankToFactory u a b c d)
  | updConfirm (r : Requester) (q : UpdSource) : StoreCommand (.updConfirm r q)
  | resetRelease (e : Nat) (st : StoreCopy) (bad : List Nat) (bc : BitVec 4) (p : Bool) :
      StoreCommand (.resetRelease e st bad bc p)
  | dspWrite (r : Requester) (a : Nat) (d : Option (List Byte)) : StoreCommand (.dspWrite r a d)
  | dramWipeDone (ms : Nat) : StoreCommand (.dramWipeDone ms)

theorem storeCommand_of_reaches {i : Instr} (h : reachesStores i = true) : StoreCommand i := by
  cases i with
  | lifecycleToken k v => exact .lifecycleToken k v
  | blankToFactory u a b c d => exact .blankToFactory u a b c d
  | updConfirm r q => exact .updConfirm r q
  | resetRelease e st bad bc p => exact .resetRelease e st bad bc p
  | dspWrite r a d => exact .dspWrite r a d
  | dramWipeDone ms => exact .dramWipeDone ms
  | _ => exact absurd h Bool.false_ne_true

/-- The commands that the hardware cannot be sent. -/
inductive Malformed : Instr → Prop
  | registerWrite (a : Nat) (w : Word) (h : 0x8000000 ≤ a) : Malformed (.registerWrite a w)
  | unmappedAccess (a : Nat) (w : Bool) (h : 0x8000000 ≤ a) : Malformed (.unmappedAccess a w)
  | fencedWindowAccess (a : Nat) (w : Bool) (h : 0x8000000 ≤ a) : Malformed (.fencedWindowAccess a w)
  | descriptorFetch (q : Ring) (bs : List Byte) (h : bs.length ≠ 64) : Malformed (.descriptorFetch q (.desc bs))

theorem malformed_of_not_wellSent {i : Instr} (h : wellSent i = false) : Malformed i := by
  have hbar : ∀ a, decide (a < 0x8000000) = false → 0x8000000 ≤ a := by simp
  cases i with
  | registerWrite a w => exact .registerWrite a w (hbar a h)
  | unmappedAccess a w => exact .unmappedAccess a w (hbar a h)
  | fencedWindowAccess a w => exact .fencedWindowAccess a w (hbar a h)
  | descriptorFetch q f =>
    cases f with
    | desc bs => exact .descriptorFetch q bs (beq_eq_false_iff_ne.1 h)
    | fetchError => exact absurd h.symm Bool.false_ne_true
    | writeError => exact absurd h.symm Bool.false_ne_true
  | _ => exact absurd h.symm Bool.false_ne_true

theorem execDescriptorFetch_onlyChip {s : State} {q : Ring} {f : Fetched}
    (h : wellSent (.descriptorFetch q f) = true) : OnlyChip s (execDescriptorFetch q f s) := by
  cases f with
  | desc bs => exact ⟨_, if_pos (beq_iff_eq.1 h)⟩
  | fetchError => exact ⟨_, rfl⟩
  | writeError => exact ⟨_, rfl⟩

/-- Fuses, memory and queue of an outcome with a next state. -/
def storesOf : Host.Outcome State Fault Refusal → Option (Fuses × List Host.Cell × List Instr)
  | .next t => some (t.fuses, t.dram, t.pending)
  | _ => none

theorem onlyChip_of_storesOf {s : State} {o : Host.Outcome State Fault Refusal}
    (h : storesOf o = some (s.fuses, s.dram, s.pending)) : OnlyChip s o := by
  unfold storesOf at h
  split at h
  next t =>
    obtain ⟨c, f, m, q⟩ := t
    cases h
    exact ⟨c, rfl⟩
  · cases h

/-- Every arm of `exec` but those six is a function on the chip. -/
theorem exec_onlyChip {s : State} {i : Instr} (hsent : wellSent i = true) (hi : reachesStores i = false) :
    OnlyChip s (exec i s) := by
  have hbar : ∀ a, decide (a < 0x8000000) = true → ¬ 0x8000000 ≤ a := by simp
  cases i with
  | registerWrite a w => exact ⟨_, if_neg (hbar a hsent)⟩
  | unmappedAccess a w => exact ⟨_, if_neg (hbar a hsent)⟩
  | fencedWindowAccess a w => exact ⟨_, if_neg (hbar a hsent)⟩
  | descriptorFetch q f => exact execDescriptorFetch_onlyChip hsent
  | lifecycleToken | blankToFactory | updConfirm | resetRelease | dspWrite | dramWipeDone => cases hi
  | _ => exact onlyChip_of_storesOf rfl

/-! ### Commands that are not sent (R347, R359) -/

theorem execDescriptorFetch_malformed (s : State) (q : Ring) {bs : List Byte} (h : bs.length ≠ 64) :
    execDescriptorFetch q (.desc bs) s = .fault .malformedDescriptor := if_neg h

/-- R347, R359: an operand that the hardware cannot be sent faults. -/
theorem exec_fault_of_not_wellSent {s : State} {i : Instr} (h : wellSent i = false) : ∃ f, exec i s = .fault f := by
  cases malformed_of_not_wellSent h with
  | registerWrite a w ha => exact ⟨_, if_pos ha⟩
  | unmappedAccess a w ha => exact ⟨_, if_pos ha⟩
  | fencedWindowAccess a w ha => exact ⟨_, if_pos ha⟩
  | descriptorFetch q bs hbs => exact ⟨_, execDescriptorFetch_malformed s q hbs⟩

theorem wellSent_of_next {s t : State} {i : Instr} (h : exec i s = .next t) : wellSent i = true := by
  by_contra hsent
  obtain ⟨f, hf⟩ := exec_fault_of_not_wellSent (s := s) (Bool.eq_false_iff.2 hsent)
  rw [hf] at h
  cases h

theorem storesKept_of_next {s t : State} {i : Instr} (h : exec i s = .next t) (hi : reachesStores i = false) :
    StoresKept s t := by
  obtain ⟨c, hc⟩ := exec_onlyChip (s := s) (wellSent_of_next h) hi
  rw [hc] at h
  cases h
  exact ⟨rfl, rfl, rfl⟩

/-! ### Memory (R330, R362) -/

theorem exec_dramWipeDone (s : State) (ms : Nat) :
    ∃ c, exec (.dramWipeDone ms) s = .next { s with chip := c, dram := if s.chip.wipe.dramBusy then [] else s.dram } := by
  by_cases h : s.chip.wipe.dramBusy = true
  · exact ⟨_, (if_pos h).trans (by rw [if_pos h])⟩
  · exact ⟨s.chip, (if_neg h).trans (by rw [if_neg h])⟩

theorem dspWriteAnswer_none_status (c : Chip) (a : Nat) : (dspWriteAnswer c a none).status ≠ .ok := by
  simp [dspWriteAnswer, ansReject, ansStatus]

theorem exec_dspWrite (s : State) (r : Requester) (a : Nat) (d : Option (List Byte)) :
    ∃ c, exec (.dspWrite r a d) s = .next { s with chip := c, dram := if performs s.chip r 0x0601 .pixel &&
      (dspWriteAnswer s.chip a d).status == .ok then mputs s.dram a (d.getD []) else s.dram } := ⟨_, rfl⟩

/-! ### Fuses (R427, R428, R448) -/

theorem exec_lifecycleToken (s : State) (k : List Byte) (v : Bool) :
    ∃ c, exec (.lifecycleToken k v) s = .next { s with chip := c } ∨
      ∃ a b, lcPair a b = true ∧ exec (.lifecycleToken k v) s =
        .next { s with chip := c, fuses := blowGroup (blowLegalDig s.fuses s.chip b) b } := by
  change ∃ c, execLifecycleToken k v s = _ ∨ ∃ a b, _ ∧ execLifecycleToken k v s = _
  unfold execLifecycleToken
  dsimp only
  split_ifs with hready hfits
  · exact ⟨s.chip, .inl rfl⟩
  · exact ⟨_, .inl rfl⟩
  · simp only [Bool.and_eq_false_iff, not_or, Bool.not_eq_false] at hfits
    split
    · exact ⟨_, .inl rfl⟩
    · exact ⟨_, .inr ⟨_, _, hfits.2, rfl⟩⟩

/-- R428: the fuses that BLANK_TO_FACTORY programs. -/
def factoryFuses (s : State) (unit : BitVec 128) (img0 img1 prov dbg : BitVec 256) : Fuses :=
  blowGroup { s.fuses with
    root := drawn s.chip, rootSet := true, scramble := (drawn (takeFree s.chip)).truncate 64, unit := unit,
    unitSet := true, img0 := some img0, img1 := some img1, prov := some prov, dbg := some dbg } 1

theorem exec_blankToFactory (s : State) (unit : BitVec 128) (img0 img1 prov dbg : BitVec 256) :
    ∃ c, exec (.blankToFactory unit img0 img1 prov dbg) s =
      .next { s with chip := c, fuses := if s.fuses.state = .blank then factoryFuses s unit img0 img1 prov dbg else s.fuses } := by
  by_cases h : s.fuses.state = .blank
  · exact ⟨_, (if_pos h).trans (by rw [if_pos h]; rfl)⟩
  · exact ⟨s.chip, (if_neg h).trans (by rw [if_neg h])⟩

theorem exec_updConfirm (s : State) (r : Requester) (q : UpdSource) :
    ∃ c, exec (.updConfirm r q) s = .next { s with chip := c } ∨
      ∃ m, exec (.updConfirm r q) s = .next { s with chip := c, fuses := blowRollback s.fuses m } := by
  refine ⟨perform s.chip r 0x0705 .update fun c => asOwner c r q fun c => updConfirm c r, ?_⟩
  change execUpdConfirm r q s = _ ∨ ∃ m, execUpdConfirm r q s = _
  unfold execUpdConfirm
  dsimp only
  split
  next m _ =>
    split_ifs
    · exact .inr ⟨m, rfl⟩
    · exact .inl rfl
  · exact .inl rfl

theorem exec_resetRelease (s : State) (e : Nat) (st : StoreCopy) (bad : List Nat) (bc : BitVec 4) (p : Bool) :
    ∃ c, exec (.resetRelease e st bad bc p) s = .next { s with chip := c, fuses :=
      if s.chip.sup.mode = .reset ∧ s.chip.sup.held = false then startFuses s.fuses s.chip else s.fuses } := by
  by_cases h : s.chip.sup.mode = .reset ∧ s.chip.sup.held = false
  · exact ⟨_, (if_pos h).trans (by rw [if_pos h])⟩
  · exact ⟨s.chip, (if_neg h).trans (by rw [if_neg h])⟩

end Sys2Proof.Machine
end

section
/-! PROOFS. Fuses: what blowing keeps (R64, R427, R428, R448). -/

namespace Sys2Proof.Machine

/-! ### Lifecycle groups -/

theorem Fuses.state_blank_iff (f : Fuses) : f.state = .blank ↔ ∀ g < 5, groupBlown f.lcs g = false := by
  constructor
  · intro h g hg
    unfold Fuses.state at h
    split_ifs at h with h4 h3 h2 h1 h0
    interval_cases g <;> simp_all
  · intro h
    simp [Fuses.state, h]

theorem getLsbD_of_and_eq {n : Nat} {v w : BitVec n} (h : v &&& w = v) {i : Nat} (hi : v.getLsbD i = true) :
    w.getLsbD i = true := by
  rw [← h, BitVec.getLsbD_and, Bool.and_eq_true] at hi
  exact hi.2

/-- R427: a group that is blown stays so as more bits are. -/
theorem groupBlown_mono {v w : BitVec 15} (h : v &&& w = v) {g : Nat} (hg : groupBlown v g = true) :
    groupBlown w g = true := by
  have hbit : ∀ i, (v.getLsbD i).toNat ≤ (w.getLsbD i).toNat := fun i =>
    Bool.toNat_le_toNat fun hi => getLsbD_of_and_eq h hi
  simp only [groupBlown, decide_eq_true_eq] at hg ⊢
  have h0 := hbit (3 * g)
  have h1 := hbit (3 * g + 1)
  have h2 := hbit (3 * g + 2)
  omega

theorem Fuses.blank_of_blown {f g : Fuses} (h : f.lcs &&& g.lcs = f.lcs) (hg : g.state = .blank) : f.state = .blank := by
  rw [Fuses.state_blank_iff] at hg ⊢
  intro k hk
  by_contra hf
  have hblown := groupBlown_mono h (Bool.not_eq_false _ ▸ hf)
  rw [hg k hk] at hblown
  cases hblown

theorem and_or_self {n : Nat} (v w : BitVec n) : v &&& (v ||| w) = v := by
  ext i hi
  simp only [BitVec.getElem_and, BitVec.getElem_or]
  cases v[i] <;> simp

theorem and_foldl_or {n : Nat} {α : Type} (v : BitVec n) (f : α → BitVec n) (l : List α) (w : BitVec n)
    (h : v &&& w = v) : v &&& l.foldl (fun x a => x ||| f a) w = v := by
  induction l generalizing w with
  | nil => exact h
  | cons a l ih =>
    refine ih _ ?_
    calc v &&& (w ||| f a) = (v &&& w) &&& (w ||| f a) := by rw [h]
      _ = v &&& w := by rw [BitVec.and_assoc, and_or_self]
      _ = v := h

/-- R427: blowing a group leaves Blank. -/
theorem blowGroup_not_blank (f : Fuses) {b : Nat} (hb : 1 ≤ b ∧ b ≤ 5) : (blowGroup f b).state ≠ .blank := by
  intro h
  rw [Fuses.state_blank_iff] at h
  have hnot := h (b - 1) (by omega)
  obtain ⟨hlo, hhi⟩ := hb
  have hgroup : groupBlown (BitVec.ofNat 15 (7 * 2 ^ (3 * (b - 1)))) (b - 1) = true := by
    interval_cases b <;> decide
  have hblown := groupBlown_mono (w := (blowGroup f b).lcs)
    (by rw [blowGroup, BitVec.or_comm]; exact and_or_self _ _) hgroup
  rw [hnot] at hblown
  cases hblown

theorem lcPair_bounds {a b : Nat} (h : lcPair a b = true) : 2 ≤ b ∧ b ≤ 5 := by
  simp only [lcPair, List.mem_cons, Prod.mk.injEq, List.not_mem_nil, or_false, decide_eq_true_eq] at h
  omega

end Sys2Proof.Machine

namespace Sys2Proof

open Machine

/-! ### What is kept -/

theorem FusesKept.refl (f : Fuses) : FusesKept f f := by
  simp [FusesKept, BitVec.and_self]

theorem FusesSound.of_not_blank {f : Fuses} (h : f.state ≠ .blank) : FusesSound f := fun hb => absurd hb h

/-- R428: a token blows a group, and LEGAL_DIG where it is still unblown. -/
theorem blowGroup_blowLegalDig_kept (f : Fuses) (c : Chip) (b : Nat) :
    FusesKept f (blowGroup (blowLegalDig f c b) b) := by
  unfold blowLegalDig blowGroup
  split
  case isTrue h => simp [FusesKept, and_or_self, BitVec.and_self, h.2]
  case isFalse => simp [FusesKept, and_or_self, BitVec.and_self]

/-- R428: a Blank module has no field that BLANK_TO_FACTORY could change. -/
theorem factoryFuses_kept {s : State} (hs : FusesSound s.fuses) (hb : s.fuses.state = .blank)
    (unit : BitVec 128) (img0 img1 prov dbg : BitVec 256) :
    FusesKept s.fuses (factoryFuses s unit img0 img1 prov dbg) := by
  obtain ⟨hroot, hunit, himg0, himg1, hprov, hdbg⟩ := hs hb
  simp [FusesKept, factoryFuses, blowGroup, and_or_self, BitVec.and_self, hroot, hunit, himg0, himg1, hprov, hdbg]

/-- What a confirmation blows of one entry of its manifest (R448). -/
theorem getD_set_max_le (l : List Nat) (k n j : Nat) :
    l.getD j 0 ≤ (l.set k (max (l.getD k 0) n)).getD j 0 := by
  by_cases hk : k = j
  · subst hk
    by_cases hlt : k < l.length
    · simp [List.getD, hlt]
    · simp [List.getD, hlt]
  · simp [List.getD, List.getElem?_set_ne hk]

/-- R448: a confirmation raises rollback counters, and nothing else. -/
theorem blowRollback_raises (f : Fuses) (m : Manifest) :
    ∃ r, blowRollback f m = { f with rollback := r } ∧ ∀ k, f.rollback.getD k 0 ≤ r.getD k 0 := by
  unfold blowRollback
  generalize m.entries = es
  induction es generalizing f with
  | nil => exact ⟨_, rfl, fun _ => le_rfl⟩
  | cons e es ih =>
    rw [List.foldl_cons]
    split
    next k _ _ =>
      obtain ⟨r, hr, hle⟩ := ih { f with rollback := f.rollback.set k (max (f.rollback.getD k 0) e.svn) }
      exact ⟨r, hr, fun j => (getD_set_max_le _ _ _ _).trans (hle j)⟩
    next => exact ih f

theorem FusesKept.blowRollback {f g : Fuses} (h : FusesKept f g) (m : Manifest) : FusesKept f (blowRollback g m) := by
  obtain ⟨r, hr, hle⟩ := blowRollback_raises g m
  rw [hr]
  obtain ⟨hlcs, hrevoke, hroot, hunit, hlegal, himg0, himg1, hprov, hdbg, hroll⟩ := h
  exact ⟨hlcs, hrevoke, hroot, hunit, hlegal, himg0, himg1, hprov, hdbg, fun k => (hroll k).trans (hle k)⟩

theorem FusesSound.blowRollback {f : Fuses} (h : FusesSound f) (m : Manifest) : FusesSound (blowRollback f m) := by
  obtain ⟨r, hr, -⟩ := blowRollback_raises f m
  rw [hr]
  exact h

theorem repairFuses_lcs (f : Fuses) : f.lcs &&& (repairFuses f).lcs = f.lcs := by
  have hrepaired := and_foldl_or f.lcs (fun g => BitVec.ofNat 15 (7 * 2 ^ (3 * g))) (partGroups f) f.lcs BitVec.and_self
  unfold repairFuses
  dsimp only
  split <;> exact hrepaired

/-- R427: the repair at a start completes groups, and in Scrapped blows what is left of ROOT. -/
theorem repairFuses_kept (f : Fuses) : FusesKept f (repairFuses f) := by
  have hlcs := repairFuses_lcs f
  unfold repairFuses at hlcs ⊢
  dsimp only at hlcs ⊢
  split at hlcs
  case isTrue hscrapped =>
    rw [if_pos hscrapped]
    refine ⟨hlcs, BitVec.and_self, fun _ => ⟨rfl, rfl, .inr ⟨hscrapped, BitVec.and_allOnes⟩⟩, ?_⟩
    simp
  case isFalse hscrapped =>
    rw [if_neg hscrapped]
    refine ⟨hlcs, BitVec.and_self, fun h => ⟨h, rfl, .inl rfl⟩, ?_⟩
    simp

theorem repairFuses_of_blank {f : Fuses} (h : (repairFuses f).state = .blank) :
    ∃ v, repairFuses f = { f with lcs := v } := by
  unfold repairFuses at h ⊢
  dsimp only at h ⊢
  split at h
  case isTrue hscrapped =>
    exact absurd (h.symm.trans hscrapped) (by decide)
  case isFalse hscrapped =>
    rw [if_neg hscrapped]
    exact ⟨_, rfl⟩

theorem FusesSound.repairFuses {f : Fuses} (h : FusesSound f) : FusesSound (repairFuses f) := by
  intro hblank
  obtain ⟨v, hv⟩ := repairFuses_of_blank hblank
  have hf := h (Fuses.blank_of_blown (repairFuses_lcs f) hblank)
  rw [hv]
  exact hf

theorem startFuses_sound_kept {f : Fuses} (h : FusesSound f) (c : Chip) :
    FusesSound (startFuses f c) ∧ FusesKept f (startFuses f c) := by
  unfold startFuses
  split
  · exact ⟨h.repairFuses.blowRollback _, (repairFuses_kept f).blowRollback _⟩
  · exact ⟨h.repairFuses, repairFuses_kept f⟩

/-- R427: every command keeps the fuses sound and blows them one way. -/
theorem exec_fuses_sound_kept {s t : State} {i : Instr} (hs : FusesSound s.fuses) (h : exec i s = .next t) :
    FusesSound t.fuses ∧ FusesKept s.fuses t.fuses := by
  by_cases hi : reachesStores i = false
  · obtain ⟨-, hfuses, -⟩ := storesKept_of_next h hi
    rw [hfuses]
    exact ⟨hs, .refl _⟩
  cases storeCommand_of_reaches (Bool.eq_true_of_not_eq_false hi) with
  | lifecycleToken k v =>
    obtain ⟨c, hc | ⟨a, b, hpair, hc⟩⟩ := exec_lifecycleToken s k v
    · cases hc.symm.trans h
      exact ⟨hs, .refl _⟩
    · cases hc.symm.trans h
      obtain ⟨hlo, hhi⟩ := lcPair_bounds hpair
      exact ⟨.of_not_blank (blowGroup_not_blank _ ⟨by omega, hhi⟩), blowGroup_blowLegalDig_kept _ _ _⟩
  | blankToFactory u a b c d =>
    obtain ⟨e, he⟩ := exec_blankToFactory s u a b c d
    cases he.symm.trans h
    dsimp only
    split_ifs with hblank
    · exact ⟨.of_not_blank (blowGroup_not_blank _ ⟨le_rfl, by omega⟩), factoryFuses_kept hs hblank ..⟩
    · exact ⟨hs, .refl _⟩
  | updConfirm r q =>
    obtain ⟨c, hc | ⟨m, hc⟩⟩ := exec_updConfirm s r q
    · cases hc.symm.trans h
      exact ⟨hs, .refl _⟩
    · cases hc.symm.trans h
      exact ⟨hs.blowRollback m, (FusesKept.refl _).blowRollback m⟩
  | resetRelease e st bad bc p =>
    obtain ⟨c, hc⟩ := exec_resetRelease s e st bad bc p
    cases hc.symm.trans h
    dsimp only
    split_ifs
    · exact startFuses_sound_kept hs _
    · exact ⟨hs, .refl _⟩
  | dspWrite r a d =>
    obtain ⟨c, hc⟩ := exec_dspWrite s r a d
    cases hc.symm.trans h
    exact ⟨hs, .refl _⟩
  | dramWipeDone u =>
    obtain ⟨c, hc⟩ := exec_dramWipeDone s u
    cases hc.symm.trans h
    exact ⟨hs, .refl _⟩

/-- R427: the four commands that blow fuses. -/
theorem exec_fuses_of_other {s t : State} {i : Instr} (h : exec i s = .next t) (htoken : ∀ k v, i ≠ .lifecycleToken k v)
    (hblank : ∀ u a b c d, i ≠ .blankToFactory u a b c d) (hconfirm : ∀ r q, i ≠ .updConfirm r q)
    (hrelease : ∀ a b c d e, i ≠ .resetRelease a b c d e) : t.fuses = s.fuses := by
  by_cases hi : reachesStores i = false
  · exact (storesKept_of_next h hi).2.1
  cases storeCommand_of_reaches (Bool.eq_true_of_not_eq_false hi) with
  | lifecycleToken k v => exact absurd rfl (htoken k v)
  | blankToFactory u a b c d => exact absurd rfl (hblank u a b c d)
  | updConfirm r q => exact absurd rfl (hconfirm r q)
  | resetRelease a b c d e => exact absurd rfl (hrelease a b c d e)
  | dspWrite r a d =>
    obtain ⟨c, hc⟩ := exec_dspWrite s r a d
    cases hc.symm.trans h
    rfl
  | dramWipeDone u =>
    obtain ⟨c, hc⟩ := exec_dramWipeDone s u
    cases hc.symm.trans h
    rfl

/-! ### The memory over a command (R52, R362) -/

theorem exec_dram_of_other {s t : State} {i : Instr} (h : exec i s = .next t) (hwrite : ∀ r a b, i ≠ .dspWrite r a b)
    (hwipe : ∀ u, i ≠ .dramWipeDone u) : t.dram = s.dram := by
  by_cases hi : reachesStores i = false
  · exact (storesKept_of_next h hi).2.2
  cases storeCommand_of_reaches (Bool.eq_true_of_not_eq_false hi) with
  | lifecycleToken k v =>
    obtain ⟨c, hc | ⟨_, _, -, hc⟩⟩ := exec_lifecycleToken s k v <;> cases hc.symm.trans h <;> rfl
  | blankToFactory u a b c d =>
    obtain ⟨e, he⟩ := exec_blankToFactory s u a b c d
    cases he.symm.trans h
    rfl
  | updConfirm r q =>
    obtain ⟨c, hc | ⟨m, hc⟩⟩ := exec_updConfirm s r q <;> cases hc.symm.trans h <;> rfl
  | resetRelease e st bad bc p =>
    obtain ⟨c, hc⟩ := exec_resetRelease s e st bad bc p
    cases hc.symm.trans h
    rfl
  | dspWrite r a d => exact absurd rfl (hwrite r a d)
  | dramWipeDone u => exact absurd rfl (hwipe u)

/-- R330: DSP_WRITE leaves the memory or writes its bytes from its offset on. -/
theorem dspWrite_dram {s t : State} {r : Requester} {a : Nat} {d : Option (List Byte)}
    (h : exec (.dspWrite r a d) s = .next t) : t.dram = s.dram ∨ ∃ bs, d = some bs ∧ t.dram = mputs s.dram a bs := by
  obtain ⟨c, hc⟩ := exec_dspWrite s r a d
  cases hc.symm.trans h
  cases d with
  | none =>
    refine .inl (if_neg ?_)
    simp [dspWriteAnswer_none_status]
  | some bs =>
    dsimp only
    split_ifs
    · exact .inr ⟨bs, rfl, rfl⟩
    · exact .inl rfl

theorem dramWipeDone_dram {s t : State} {u : Nat} (h : exec (.dramWipeDone u) s = .next t) :
    t.dram = s.dram ∨ t.dram = [] := by
  obtain ⟨c, hc⟩ := exec_dramWipeDone s u
  cases hc.symm.trans h
  dsimp only
  split_ifs
  · exact .inr rfl
  · exact .inl rfl

theorem exec_keeps_inv {s t : State} {i : Instr} (hs : Inv s) (h : exec i s = .next t) : Inv t := by
  unfold Inv at hs ⊢
  by_cases hwrite : ∃ r a d, i = .dspWrite r a d
  · obtain ⟨r, a, d, rfl⟩ := hwrite
    rcases dspWrite_dram h with hd | ⟨bs, -, hd⟩ <;> rw [hd]
    · exact hs
    · exact mputs_wf _ _ _ hs
  by_cases hwipe : ∃ u, i = .dramWipeDone u
  · obtain ⟨u, rfl⟩ := hwipe
    rcases dramWipeDone_dram h with hd | hd <;> rw [hd]
    · exact hs
    · exact memory_wf_nil
  rw [exec_dram_of_other h (fun r a d e => hwrite ⟨r, a, d, e⟩) (fun u e => hwipe ⟨u, e⟩)]
  exact hs

/-! ### The queue -/

/-- R347, R359: a command that can be sent answers, and leaves the queue. -/
theorem exec_answers {s : State} {i : Instr} (h : wellSent i = true) : Answers i s fun t => t.pending = s.pending := by
  by_cases hi : reachesStores i = false
  · obtain ⟨c, hc⟩ := exec_onlyChip (s := s) h hi
    exact ⟨_, hc, rfl⟩
  cases storeCommand_of_reaches (Bool.eq_true_of_not_eq_false hi) with
  | lifecycleToken k v =>
    obtain ⟨c, hc | ⟨_, _, -, hc⟩⟩ := exec_lifecycleToken s k v
    · exact ⟨_, hc, rfl⟩
    · exact ⟨_, hc, rfl⟩
  | blankToFactory u a b c d =>
    obtain ⟨e, he⟩ := exec_blankToFactory s u a b c d
    exact ⟨_, he, rfl⟩
  | updConfirm r q =>
    obtain ⟨c, hc | ⟨m, hc⟩⟩ := exec_updConfirm s r q
    · exact ⟨_, hc, rfl⟩
    · exact ⟨_, hc, rfl⟩
  | resetRelease e st bad bc p =>
    obtain ⟨c, hc⟩ := exec_resetRelease s e st bad bc p
    exact ⟨_, hc, rfl⟩
  | dspWrite r a d =>
    obtain ⟨c, hc⟩ := exec_dspWrite s r a d
    exact ⟨_, hc, rfl⟩
  | dramWipeDone u =>
    obtain ⟨c, hc⟩ := exec_dramWipeDone s u
    exact ⟨_, hc, rfl⟩

/-- A step is idle, or runs the front command on the state with the rest of its queue. -/
theorem step_cases {s t : State} (h : step s = .next t) :
    (s.pending = [] ∧ t = s) ∨ ∃ i rest, s.pending = i :: rest ∧ exec i { s with pending := rest } = .next t := by
  unfold step at h
  split at h
  next hq =>
    cases h
    exact .inl ⟨hq, rfl⟩
  next i rest hq => exact .inr ⟨i, rest, hq, h⟩

/-- Settles O54: only DSP_WRITE and DRAM_WIPE_DONE reach the memory, and both leave it in its one form. -/
theorem stepKeepsMemoryForm : Obligations.StepKeepsMemoryForm := by
  intro s t hinv hstep
  rcases step_cases hstep with ⟨-, rfl⟩ | ⟨i, rest, -, hexec⟩
  · exact hinv
  · exact exec_keeps_inv (s := { s with pending := rest }) hinv hexec

/-- Settles O55: four commands blow fuses, each one way. -/
theorem fusesOneWay : Obligations.FusesOneWay := by
  refine ⟨?step, ?others⟩
  case step =>
    intro s t hsound hstep
    rcases step_cases hstep with ⟨-, rfl⟩ | ⟨i, rest, -, hexec⟩
    · exact ⟨hsound, .refl _⟩
    · exact exec_fuses_sound_kept (s := { s with pending := rest }) hsound hexec
  case others =>
    intro s t i hexec htoken hblank hconfirm hrelease
    exact exec_fuses_of_other hexec htoken hblank hconfirm hrelease

/-- Settles O56: the memory is reached by DSP_WRITE, which writes its own bytes, and by DRAM_WIPE_DONE, which clears it. -/
theorem memoryFrame : Obligations.MemoryFrame := by
  unfold Obligations.MemoryFrame
  refine ⟨?others, ?bytes, ?noBytes, ?wipe⟩
  case others =>
    intro s t i hexec hwrite hwipe a
    rw [exec_dram_of_other hexec hwrite hwipe]
  case bytes =>
    intro s t r o bs hexec a ha
    rcases dspWrite_dram hexec with hd | ⟨cs, hcs, hd⟩
    · rw [hd]
    · cases hcs
      rw [hd, mget_mputs_outside _ _ _ _ ha]
  case noBytes =>
    intro s t r o hexec
    rcases dspWrite_dram hexec with hd | ⟨cs, hcs, -⟩
    · exact hd
    · cases hcs
  case wipe =>
    intro s t u hexec a
    rcases dramWipeDone_dram hexec with hd | hd
    · exact .inl (by rw [hd])
    · exact .inr (by rw [hd]; rfl)

/-- Settles O57: an arm of `exec` faults only on an operand that the hardware cannot be sent. -/
theorem everyCommandAnswers : Obligations.EveryCommandAnswers := by
  unfold Obligations.EveryCommandAnswers
  refine ⟨fun s i hsent => exec_answers hsent, ?write, ?access, ?descriptor⟩
  case write => exact fun s a w ha => if_pos ha
  case access => exact fun s a w ha => ⟨if_pos ha, if_pos ha⟩
  case descriptor => exact fun s q bs hlen => execDescriptorFetch_malformed s q hlen

/-- Settles O51: what a step takes from its queue. -/
theorem stepRunsFront : Obligations.StepRunsFront := by
  refine ⟨fun s i rest => rfl, fun s hq => ?_⟩
  unfold step
  rw [hq]

/-- Settles O52: the state after reset lists nothing in its memory and registers, so each reads its reset value. -/
theorem resetIsSound : Obligations.ResetIsSound :=
  ⟨memory_wf_nil, fun _ => ⟨rfl, rfl, rfl, rfl, rfl, rfl⟩, rfl, rfl, fun _ => ⟨rfl, rfl⟩, fun _ => rfl⟩

end Sys2Proof
end

section
/-! PROOFS. Frames of the chip: what an operation leaves of its parts. `kept_f` says that f changes no part outside a list, in
the form that `simp` peels f off a chip with: the parts of the list belong to those that may change. -/

namespace Sys2Proof

open Machine

theorem ChipKeptBut.refl (ps : List Part) (c : Chip) : ChipKeptBut ps c c := fun p _ => by cases p <;> rfl

theorem ChipKeptBut.symm {ps : List Part} {c d : Chip} (h : ChipKeptBut ps c d) : ChipKeptBut ps d c := fun p hp => by
  have hsame := h p hp
  cases p <;> exact Eq.symm hsame

theorem ChipKeptBut.trans {ps : List Part} {c d e : Chip} (h : ChipKeptBut ps c d) (g : ChipKeptBut ps d e) :
    ChipKeptBut ps c e := fun p hp => by
  have hfirst := h p hp
  have hthen := g p hp
  cases p <;> exact Eq.trans hthen hfirst

theorem ChipKeptBut.mono {ps qs : List Part} {c d : Chip} (h : ChipKeptBut qs c d) (hs : qs ⊆ ps) : ChipKeptBut ps c d :=
  fun p hp => h p fun hq => hp (hs hq)

/-- An operation that changes no part outside `qs` can be peeled off where those of `qs` may change. -/
theorem kept_of {ps qs : List Part} {c d e : Chip} (h : ChipKeptBut qs d e) (hs : qs ⊆ ps) :
    ChipKeptBut ps c e ↔ ChipKeptBut ps c d :=
  ⟨fun g => g.trans (h.mono hs).symm, fun g => g.trans (h.mono hs)⟩

theorem kept_refl (ps : List Part) (c : Chip) : ChipKeptBut ps c c ↔ True := iff_true_intro (.refl ps c)

theorem kept_ite {ps : List Part} {c d e : Chip} (q : Prop) [Decidable q] :
    ChipKeptBut ps c (if q then d else e) ↔ if q then ChipKeptBut ps c d else ChipKeptBut ps c e := by
  split <;> rfl

theorem ChipKeptBut.foldl {ps : List Part} {α : Type} {f : Chip → α → Chip} {c d : Chip} (l : List α)
    (hf : ∀ d a, ChipKeptBut ps d (f d a)) (h : ChipKeptBut ps c d) : ChipKeptBut ps c (l.foldl f d) := by
  induction l generalizing d with
  | nil => exact h
  | cons a l ih => exact ih (h.trans (hf d a))

theorem kept_foldl {ps : List Part} {α : Type} {f : Chip → α → Chip} {c d : Chip} (l : List α)
    (hf : ∀ d a, ChipKeptBut ps d (f d a)) : ChipKeptBut ps c (l.foldl f d) ↔ ChipKeptBut ps c d :=
  ⟨fun h => h.trans (ChipKeptBut.foldl l hf (.refl ps d)).symm, .foldl l hf⟩

/-- A part is set: no other changes. -/
theorem keptSet {ps : List Part} {c d e : Chip} (p : Part) (h : p ∈ ps) (hsame : ∀ q, q ≠ p → samePart d e q) :
    ChipKeptBut ps c e ↔ ChipKeptBut ps c d :=
  kept_of (qs := [p]) (fun q hq => hsame q (by simpa using hq)) (by simpa using h)

section
variable {ps : List Part} {c d : Chip}

theorem kept_set_regs {x} (h : Part.regs ∈ ps) : ChipKeptBut ps c { d with regs := x } ↔ ChipKeptBut ps c d :=
  keptSet .regs h fun q hq => by cases q with | regs => exact absurd rfl hq | _ => rfl
theorem kept_set_live {x} (h : Part.live ∈ ps) : ChipKeptBut ps c { d with live := x } ↔ ChipKeptBut ps c d :=
  keptSet .live h fun q hq => by cases q with | live => exact absurd rfl hq | _ => rfl
theorem kept_set_sup {x} (h : Part.sup ∈ ps) : ChipKeptBut ps c { d with sup := x } ↔ ChipKeptBut ps c d :=
  keptSet .sup h fun q hq => by cases q with | sup => exact absurd rfl hq | _ => rfl
theorem kept_set_wipe {x} (h : Part.wipe ∈ ps) : ChipKeptBut ps c { d with wipe := x } ↔ ChipKeptBut ps c d :=
  keptSet .wipe h fun q hq => by cases q with | wipe => exact absurd rfl hq | _ => rfl
theorem kept_set_cg {x} (h : Part.cg ∈ ps) : ChipKeptBut ps c { d with cg := x } ↔ ChipKeptBut ps c d :=
  keptSet .cg h fun q hq => by cases q with | cg => exact absurd rfl hq | _ => rfl
theorem kept_set_ns {x} (h : Part.ns ∈ ps) : ChipKeptBut ps c { d with ns := x } ↔ ChipKeptBut ps c d :=
  keptSet .ns h fun q hq => by cases q with | ns => exact absurd rfl hq | _ => rfl
theorem kept_set_tb {x} (h : Part.tb ∈ ps) : ChipKeptBut ps c { d with tb := x } ↔ ChipKeptBut ps c d :=
  keptSet .tb h fun q hq => by cases q with | tb => exact absurd rfl hq | _ => rfl
theorem kept_set_met {x} (h : Part.met ∈ ps) : ChipKeptBut ps c { d with met := x } ↔ ChipKeptBut ps c d :=
  keptSet .met h fun q hq => by cases q with | met => exact absurd rfl hq | _ => rfl
theorem kept_set_acc {x} (h : Part.acc ∈ ps) : ChipKeptBut ps c { d with acc := x } ↔ ChipKeptBut ps c d :=
  keptSet .acc h fun q hq => by cases q with | acc => exact absurd rfl hq | _ => rfl
theorem kept_set_tar {x} (h : Part.tar ∈ ps) : ChipKeptBut ps c { d with tar := x } ↔ ChipKeptBut ps c d :=
  keptSet .tar h fun q hq => by cases q with | tar => exact absurd rfl hq | _ => rfl
theorem kept_set_sess {x} (h : Part.sess ∈ ps) : ChipKeptBut ps c { d with sess := x } ↔ ChipKeptBut ps c d :=
  keptSet .sess h fun q hq => by cases q with | sess => exact absurd rfl hq | _ => rfl
theorem kept_set_leg {x} (h : Part.leg ∈ ps) : ChipKeptBut ps c { d with leg := x } ↔ ChipKeptBut ps c d :=
  keptSet .leg h fun q hq => by cases q with | leg => exact absurd rfl hq | _ => rfl
theorem kept_set_outl {x} (h : Part.outl ∈ ps) : ChipKeptBut ps c { d with outl := x } ↔ ChipKeptBut ps c d :=
  keptSet .outl h fun q hq => by cases q with | outl => exact absurd rfl hq | _ => rfl
theorem kept_set_saf {x} (h : Part.saf ∈ ps) : ChipKeptBut ps c { d with saf := x } ↔ ChipKeptBut ps c d :=
  keptSet .saf h fun q hq => by cases q with | saf => exact absurd rfl hq | _ => rfl
theorem kept_set_nib {x} (h : Part.nib ∈ ps) : ChipKeptBut ps c { d with nib := x } ↔ ChipKeptBut ps c d :=
  keptSet .nib h fun q hq => by cases q with | nib => exact absurd rfl hq | _ => rfl
theorem kept_set_pwd {x} (h : Part.pwd ∈ ps) : ChipKeptBut ps c { d with pwd := x } ↔ ChipKeptBut ps c d :=
  keptSet .pwd h fun q hq => by cases q with | pwd => exact absurd rfl hq | _ => rfl
theorem kept_set_lsw {x} (h : Part.lsw ∈ ps) : ChipKeptBut ps c { d with lsw := x } ↔ ChipKeptBut ps c d :=
  keptSet .lsw h fun q hq => by cases q with | lsw => exact absurd rfl hq | _ => rfl
theorem kept_set_dsp {x} (h : Part.dsp ∈ ps) : ChipKeptBut ps c { d with dsp := x } ↔ ChipKeptBut ps c d :=
  keptSet .dsp h fun q hq => by cases q with | dsp => exact absurd rfl hq | _ => rfl
theorem kept_set_age {x} (h : Part.age ∈ ps) : ChipKeptBut ps c { d with age := x } ↔ ChipKeptBut ps c d :=
  keptSet .age h fun q hq => by cases q with | age => exact absurd rfl hq | _ => rfl
theorem kept_set_bp {x} (h : Part.bp ∈ ps) : ChipKeptBut ps c { d with bp := x } ↔ ChipKeptBut ps c d :=
  keptSet .bp h fun q hq => by cases q with | bp => exact absurd rfl hq | _ => rfl
theorem kept_set_host {x} (h : Part.host ∈ ps) : ChipKeptBut ps c { d with host := x } ↔ ChipKeptBut ps c d :=
  keptSet .host h fun q hq => by cases q with | host => exact absurd rfl hq | _ => rfl
theorem kept_set_fab {x} (h : Part.fab ∈ ps) : ChipKeptBut ps c { d with fab := x } ↔ ChipKeptBut ps c d :=
  keptSet .fab h fun q hq => by cases q with | fab => exact absurd rfl hq | _ => rfl
theorem kept_set_repl {x} (h : Part.repl ∈ ps) : ChipKeptBut ps c { d with repl := x } ↔ ChipKeptBut ps c d :=
  keptSet .repl h fun q hq => by cases q with | repl => exact absurd rfl hq | _ => rfl
theorem kept_set_tru {x} (h : Part.tru ∈ ps) : ChipKeptBut ps c { d with tru := x } ↔ ChipKeptBut ps c d :=
  keptSet .tru h fun q hq => by cases q with | tru => exact absurd rfl hq | _ => rfl
theorem kept_set_upd {x} (h : Part.upd ∈ ps) : ChipKeptBut ps c { d with upd := x } ↔ ChipKeptBut ps c d :=
  keptSet .upd h fun q hq => by cases q with | upd => exact absurd rfl hq | _ => rfl
theorem kept_set_flt {x} (h : Part.flt ∈ ps) : ChipKeptBut ps c { d with flt := x } ↔ ChipKeptBut ps c d :=
  keptSet .flt h fun q hq => by cases q with | flt => exact absurd rfl hq | _ => rfl
theorem kept_set_blt {x} (h : Part.blt ∈ ps) : ChipKeptBut ps c { d with blt := x } ↔ ChipKeptBut ps c d :=
  keptSet .blt h fun q hq => by cases q with | blt => exact absurd rfl hq | _ => rfl
theorem kept_set_out {x} (h : Part.out ∈ ps) : ChipKeptBut ps c { d with out := x } ↔ ChipKeptBut ps c d :=
  keptSet .out h fun q hq => by cases q with | out => exact absurd rfl hq | _ => rfl
theorem kept_set_latched {x} (h : Part.latched ∈ ps) : ChipKeptBut ps c { d with latched := x } ↔ ChipKeptBut ps c d :=
  keptSet .latched h fun q hq => by cases q with | latched => exact absurd rfl hq | _ => rfl
theorem kept_set_freeCount {x} (h : Part.freeCount ∈ ps) : ChipKeptBut ps c { d with freeCount := x } ↔ ChipKeptBut ps c d :=
  keptSet .freeCount h fun q hq => by cases q with | freeCount => exact absurd rfl hq | _ => rfl
theorem kept_set_acc_sess {x0 x1} (h : [Part.acc, .sess] ⊆ ps) :
    ChipKeptBut ps c { d with acc := x0, sess := x1 } ↔ ChipKeptBut ps c d :=
  kept_of (qs := [Part.acc, .sess]) (fun q hq => by cases q with
    | acc | sess => exact absurd (by decide) hq
    | _ => rfl) h
theorem kept_set_acc_tar_sess_outl_age_fab_repl_tru_upd_flt_blt {x0 x1 x2 x3 x4 x5 x6 x7 x8 x9 x10} (h : [Part.acc, .tar, .sess, .outl, .age, .fab, .repl, .tru, .upd, .flt, .blt] ⊆ ps) :
    ChipKeptBut ps c { d with acc := x0, tar := x1, sess := x2, outl := x3, age := x4, fab := x5, repl := x6, tru := x7, upd := x8, flt := x9, blt := x10 } ↔ ChipKeptBut ps c d :=
  kept_of (qs := [Part.acc, .tar, .sess, .outl, .age, .fab, .repl, .tru, .upd, .flt, .blt]) (fun q hq => by cases q with
    | acc | tar | sess | outl | age | fab | repl | tru | upd | flt | blt => exact absurd (by decide) hq
    | _ => rfl) h
theorem kept_set_leg_bp {x0 x1} (h : [Part.leg, .bp] ⊆ ps) :
    ChipKeptBut ps c { d with leg := x0, bp := x1 } ↔ ChipKeptBut ps c d :=
  kept_of (qs := [Part.leg, .bp]) (fun q hq => by cases q with
    | leg | bp => exact absurd (by decide) hq
    | _ => rfl) h
theorem kept_set_pwd_lsw {x0 x1} (h : [Part.pwd, .lsw] ⊆ ps) :
    ChipKeptBut ps c { d with pwd := x0, lsw := x1 } ↔ ChipKeptBut ps c d :=
  kept_of (qs := [Part.pwd, .lsw]) (fun q hq => by cases q with
    | pwd | lsw => exact absurd (by decide) hq
    | _ => rfl) h
theorem kept_set_regs_host {x0 x1} (h : [Part.regs, .host] ⊆ ps) :
    ChipKeptBut ps c { d with regs := x0, host := x1 } ↔ ChipKeptBut ps c d :=
  kept_of (qs := [Part.regs, .host]) (fun q hq => by cases q with
    | regs | host => exact absurd (by decide) hq
    | _ => rfl) h
theorem kept_set_regs_live {x0 x1} (h : [Part.regs, .live] ⊆ ps) :
    ChipKeptBut ps c { d with regs := x0, live := x1 } ↔ ChipKeptBut ps c d :=
  kept_of (qs := [Part.regs, .live]) (fun q hq => by cases q with
    | regs | live => exact absurd (by decide) hq
    | _ => rfl) h
theorem kept_set_regs_live_acc_leg_tru {x0 x1 x2 x3 x4} (h : [Part.regs, .live, .acc, .leg, .tru] ⊆ ps) :
    ChipKeptBut ps c { d with regs := x0, live := x1, acc := x2, leg := x3, tru := x4 } ↔ ChipKeptBut ps c d :=
  kept_of (qs := [Part.regs, .live, .acc, .leg, .tru]) (fun q hq => by cases q with
    | regs | live | acc | leg | tru => exact absurd (by decide) hq
    | _ => rfl) h
theorem kept_set_regs_live_cg {x0 x1 x2} (h : [Part.regs, .live, .cg] ⊆ ps) :
    ChipKeptBut ps c { d with regs := x0, live := x1, cg := x2 } ↔ ChipKeptBut ps c d :=
  kept_of (qs := [Part.regs, .live, .cg]) (fun q hq => by cases q with
    | regs | live | cg => exact absurd (by decide) hq
    | _ => rfl) h
theorem kept_set_saf_nib {x0 x1} (h : [Part.saf, .nib] ⊆ ps) :
    ChipKeptBut ps c { d with saf := x0, nib := x1 } ↔ ChipKeptBut ps c d :=
  kept_of (qs := [Part.saf, .nib]) (fun q hq => by cases q with
    | saf | nib => exact absurd (by decide) hq
    | _ => rfl) h
theorem kept_set_saf_pwd {x0 x1} (h : [Part.saf, .pwd] ⊆ ps) :
    ChipKeptBut ps c { d with saf := x0, pwd := x1 } ↔ ChipKeptBut ps c d :=
  kept_of (qs := [Part.saf, .pwd]) (fun q hq => by cases q with
    | saf | pwd => exact absurd (by decide) hq
    | _ => rfl) h
theorem kept_set_sess_repl {x0 x1} (h : [Part.sess, .repl] ⊆ ps) :
    ChipKeptBut ps c { d with sess := x0, repl := x1 } ↔ ChipKeptBut ps c d :=
  kept_of (qs := [Part.sess, .repl]) (fun q hq => by cases q with
    | sess | repl => exact absurd (by decide) hq
    | _ => rfl) h
theorem kept_set_sup_dsp {x0 x1} (h : [Part.sup, .dsp] ⊆ ps) :
    ChipKeptBut ps c { d with sup := x0, dsp := x1 } ↔ ChipKeptBut ps c d :=
  kept_of (qs := [Part.sup, .dsp]) (fun q hq => by cases q with
    | sup | dsp => exact absurd (by decide) hq
    | _ => rfl) h
theorem kept_set_sup_met {x0 x1} (h : [Part.sup, .met] ⊆ ps) :
    ChipKeptBut ps c { d with sup := x0, met := x1 } ↔ ChipKeptBut ps c d :=
  kept_of (qs := [Part.sup, .met]) (fun q hq => by cases q with
    | sup | met => exact absurd (by decide) hq
    | _ => rfl) h
theorem kept_set_tb_acc {x0 x1} (h : [Part.tb, .acc] ⊆ ps) :
    ChipKeptBut ps c { d with tb := x0, acc := x1 } ↔ ChipKeptBut ps c d :=
  kept_of (qs := [Part.tb, .acc]) (fun q hq => by cases q with
    | tb | acc => exact absurd (by decide) hq
    | _ => rfl) h
theorem kept_set_tb_met_acc {x0 x1 x2} (h : [Part.tb, .met, .acc] ⊆ ps) :
    ChipKeptBut ps c { d with tb := x0, met := x1, acc := x2 } ↔ ChipKeptBut ps c d :=
  kept_of (qs := [Part.tb, .met, .acc]) (fun q hq => by cases q with
    | tb | met | acc => exact absurd (by decide) hq
    | _ => rfl) h
theorem kept_set_wipe_blt {x0 x1} (h : [Part.wipe, .blt] ⊆ ps) :
    ChipKeptBut ps c { d with wipe := x0, blt := x1 } ↔ ChipKeptBut ps c d :=
  kept_of (qs := [Part.wipe, .blt]) (fun q hq => by cases q with
    | wipe | blt => exact absurd (by decide) hq
    | _ => rfl) h
end

end Sys2Proof
end

section
/-! PROOFS. Frames of the chip, operation by operation, in the order of the model: each is peeled off by the frames of the
operations it calls. -/

namespace Sys2Proof
open Machine
section
variable {ps : List Part} {c d : Chip}
theorem kept_reloadShadows (mem : BitVec 8) (h : [Part.regs] ⊆ ps) :
    ChipKeptBut ps c (reloadShadows d mem) ↔ ChipKeptBut ps c d :=
  kept_of (by simp +decide only [reloadShadows, kept_set_regs, kept_refl]) h
theorem kept_setRing (q : Nat) (r : RingSt) (h : [Part.host] ⊆ ps) :
    ChipKeptBut ps c (setRing d q r) ↔ ChipKeptBut ps c d :=
  kept_of (by simp +decide only [setRing, kept_set_host, kept_refl]) h
theorem kept_recordTag (d' : Desc) (a : Answer) (h : [Part.host] ⊆ ps) :
    ChipKeptBut ps c (recordTag d d' a) ↔ ChipKeptBut ps c d :=
  kept_of (by simp +decide only [recordTag, kept_set_host, kept_ite, kept_refl, ite_self]) h
theorem kept_emit (e : Emit) (h : [Part.out] ⊆ ps) :
    ChipKeptBut ps c (emit d e) ↔ ChipKeptBut ps c d :=
  kept_of (by simp +decide only [emit, kept_set_out, kept_refl]) h
theorem kept_sendMsix (v : Nat) (h : [Part.host, .out] ⊆ ps) :
    ChipKeptBut ps c (sendMsix d v) ↔ ChipKeptBut ps c d :=
  kept_of (by simp +decide only [sendMsix, kept_set_host, kept_emit, kept_ite, kept_refl, ite_self]) h
theorem kept_signalRing (q : Nat) (now : Bool) (h : [Part.host, .out] ⊆ ps) :
    ChipKeptBut ps c (signalRing d q now) ↔ ChipKeptBut ps c d :=
  kept_of (by simp +decide only [signalRing, kept_sendMsix, kept_setRing, kept_ite, kept_refl, ite_self]) h
theorem kept_writeCompletion (d' : Desc) (a : Answer) (h : [Part.host, .out] ⊆ ps) :
    ChipKeptBut ps c (writeCompletion d d' a) ↔ ChipKeptBut ps c d :=
  kept_of (by simp +decide only [writeCompletion, kept_set_host, kept_emit, kept_recordTag, kept_setRing, kept_signalRing, kept_refl]) h
theorem kept_settleDrain (q : Nat) (h : [Part.host] ⊆ ps) :
    ChipKeptBut ps c (settleDrain d q) ↔ ChipKeptBut ps c d :=
  kept_of (by simp +decide only [settleDrain, kept_setRing, kept_ite, kept_refl, ite_self]) h
theorem kept_flushCompletions (n : Nat) (h : [Part.host, .out] ⊆ ps) :
    ChipKeptBut ps c (flushCompletions n d) ↔ ChipKeptBut ps c d := by
  induction n generalizing d with
  | zero => rfl
  | succ n ih =>
    unfold flushCompletions
    split
    · rfl
    · rw [ih, kept_settleDrain _ (fun _ hp => h (by simp_all)), kept_writeCompletion _ _ h,
        kept_set_host (h (by simp))]
theorem kept_flush (h : [Part.host, .out] ⊆ ps) :
    ChipKeptBut ps c (flush d) ↔ ChipKeptBut ps c d :=
  kept_of (by simp +decide only [flush, kept_flushCompletions, kept_refl]) h
theorem kept_complete (req : Requester) (a : Answer) (h : [Part.host, .out] ⊆ ps) :
    ChipKeptBut ps c (complete d req a) ↔ ChipKeptBut ps c d :=
  kept_of (by unfold complete; split <;> simp +decide only [kept_set_host, kept_emit, kept_flush, kept_refl]) h
theorem kept_completeAll (reqs : List Requester) (a : Answer) (h : [Part.host, .out] ⊆ ps) :
    ChipKeptBut ps c (completeAll d reqs a) ↔ ChipKeptBut ps c d :=
  kept_of (by simp +decide only [completeAll, kept_complete, kept_foldl, kept_refl, implies_true]) h
theorem kept_answerGroup (h : [Part.cg, .host, .out] ⊆ ps) :
    ChipKeptBut ps c (answerGroup d) ↔ ChipKeptBut ps c d :=
  kept_of (by simp +decide only [answerGroup, kept_set_cg, kept_completeAll, kept_refl]) h
theorem kept_routeEvt (k : Nat) (h : [Part.host, .out] ⊆ ps) :
    ChipKeptBut ps c (routeEvt d k) ↔ ChipKeptBut ps c d :=
  kept_of (by simp +decide only [routeEvt, kept_emit, kept_sendMsix, kept_ite, kept_refl, ite_self]) h
theorem kept_regPut (a : Nat) (w : Word) (h : [Part.regs] ⊆ ps) :
    ChipKeptBut ps c (regPut d a w) ↔ ChipKeptBut ps c d :=
  kept_of (by simp +decide only [regPut, kept_set_regs, kept_refl]) h
theorem kept_raiseEvt (a : Nat) (b : Nat) (h : [Part.regs, .host, .out] ⊆ ps) :
    ChipKeptBut ps c (raiseEvt d a b) ↔ ChipKeptBut ps c d :=
  kept_of (by simp +decide only [raiseEvt, kept_regPut, kept_routeEvt, kept_ite, kept_refl, ite_self]) h
theorem kept_latchWindow (context : Bool) (i : Nat) (h : [Part.acc] ⊆ ps) :
    ChipKeptBut ps c (latchWindow d context i) ↔ ChipKeptBut ps c d :=
  kept_of (by simp +decide only [latchWindow, kept_set_acc, kept_refl]) h
theorem kept_hstEvt (b : Nat) (h : [Part.regs, .host, .out] ⊆ ps) :
    ChipKeptBut ps c (hstEvt d b) ↔ ChipKeptBut ps c d :=
  kept_of (by simp +decide only [hstEvt, kept_raiseEvt, kept_refl]) h
theorem kept_modHost (f : HostIf → HostIf) (h : [Part.host] ⊆ ps) :
    ChipKeptBut ps c (modHost d f) ↔ ChipKeptBut ps c d :=
  kept_of (by simp +decide only [modHost, kept_set_host, kept_refl]) h
theorem kept_resetHost (h : [Part.regs, .host] ⊆ ps) :
    ChipKeptBut ps c (resetHost d) ↔ ChipKeptBut ps c d :=
  kept_of (by simp +decide only [resetHost, kept_set_regs_host, kept_refl]) h
theorem kept_putRing (k : Nat) (r : RingSlot) (h : [Part.acc] ⊆ ps) :
    ChipKeptBut ps c (putRing d k r) ↔ ChipKeptBut ps c d :=
  kept_of (by simp +decide only [putRing, kept_set_acc, kept_ite, kept_refl, ite_self]) h
theorem kept_takeFree (h : [Part.freeCount] ⊆ ps) :
    ChipKeptBut ps c (takeFree d) ↔ ChipKeptBut ps c d :=
  kept_of (by simp +decide only [takeFree, kept_set_freeCount, kept_refl]) h
theorem kept_tearSlot (h : [Part.acc, .freeCount] ⊆ ps) :
    ChipKeptBut ps c (tearSlot d) ↔ ChipKeptBut ps c d :=
  kept_of (by unfold tearSlot; split <;> simp +decide only [kept_set_acc, kept_putRing, kept_takeFree, kept_refl]) h
theorem kept_setCoil (o : Nat) (k : Coil) (h : [Part.pwd] ⊆ ps) :
    ChipKeptBut ps c (setCoil d o k) ↔ ChipKeptBut ps c d :=
  kept_of (by simp +decide only [setCoil, kept_set_pwd, kept_refl]) h
theorem kept_pwdCount (h : [Part.pwd] ⊆ ps) :
    ChipKeptBut ps c (pwdCount d) ↔ ChipKeptBut ps c d :=
  kept_of (by simp +decide only [pwdCount, kept_set_pwd, kept_refl]) h
theorem kept_emits (es : List Emit) (h : [Part.out] ⊆ ps) :
    ChipKeptBut ps c (emits d es) ↔ ChipKeptBut ps c d :=
  kept_of (by simp +decide only [emits, kept_set_out, kept_refl]) h
theorem kept_countFelt (typ : Nat) (h : [Part.fab] ⊆ ps) :
    ChipKeptBut ps c (countFelt d typ) ↔ ChipKeptBut ps c d :=
  kept_of (by simp +decide only [countFelt, kept_set_fab, kept_refl]) h
theorem kept_sendFlood (typ : Nat) (payload : List Byte) (h : [Part.fab, .out] ⊆ ps) :
    ChipKeptBut ps c (sendFlood d typ payload) ↔ ChipKeptBut ps c d :=
  kept_of (by simp +decide only [sendFlood, kept_countFelt, kept_emits, kept_ite, kept_refl, ite_self]) h
theorem kept_floodLsa (h : [Part.fab, .out] ⊆ ps) :
    ChipKeptBut ps c (floodLsa d) ↔ ChipKeptBut ps c d :=
  kept_of (by simp +decide only [floodLsa, kept_set_fab, kept_sendFlood, kept_ite, kept_refl, ite_self]) h
theorem kept_nsLandedAt (s : NsSetting) (h : [Part.regs, .pwd, .fab, .out] ⊆ ps) :
    ChipKeptBut ps c (nsLandedAt d s) ↔ ChipKeptBut ps c d :=
  kept_of (by simp +decide only [nsLandedAt, kept_floodLsa, kept_pwdCount, kept_regPut, kept_setCoil, kept_foldl, kept_ite, kept_refl, ite_self, implies_true]) h
theorem kept_nsSent (q : NsSeq) (h : [Part.regs, .pwd, .fab, .out] ⊆ ps) :
    ChipKeptBut ps c (nsSent d q).1 ↔ ChipKeptBut ps c d := by
  unfold nsSent
  split
  · exact kept_nsLandedAt _ h
  · rfl
theorem kept_discardWork (p : Block → Bool) (h : [Part.host, .out] ⊆ ps) :
    ChipKeptBut ps c (discardWork d p) ↔ ChipKeptBut ps c d :=
  kept_of (by simp +decide only [discardWork, kept_set_host, kept_flush, kept_refl]) h
theorem kept_unbook (p : BookKind → Bool) (h : [Part.tb] ⊆ ps) :
    ChipKeptBut ps c (unbook d p) ↔ ChipKeptBut ps c d :=
  kept_of (by simp +decide only [unbook, kept_set_tb, kept_refl]) h
theorem kept_calAbort (h : [Part.met] ⊆ ps) :
    ChipKeptBut ps c (calAbort d) ↔ ChipKeptBut ps c d :=
  kept_of (by simp +decide only [calAbort, kept_set_met, kept_ite, kept_refl, ite_self]) h
theorem kept_calLeft (n : Nat) (was : LaneState) (h : [Part.met] ⊆ ps) :
    ChipKeptBut ps c (calLeft d n was) ↔ ChipKeptBut ps c d :=
  kept_of (by simp +decide only [calLeft, kept_calAbort, kept_ite, kept_refl, ite_self]) h
theorem kept_legalEntry (typ : Nat) (point : Nat) (body : List Byte) (ctx : Option Nat) (h : [Part.leg] ⊆ ps) :
    ChipKeptBut ps c (legalEntry d typ point body ctx) ↔ ChipKeptBut ps c d :=
  kept_of (by simp +decide only [legalEntry, kept_set_leg, kept_ite, kept_refl, ite_self]) h
theorem kept_unmeasuredEntry (m : Nat) (first : Nat) (last : Nat) (wall0 : Nat) (wall1 : Nat) (reason : Nat) (h : [Part.leg] ⊆ ps) :
    ChipKeptBut ps c (unmeasuredEntry d m first last wall0 wall1 reason) ↔ ChipKeptBut ps c d :=
  kept_of (by simp +decide only [unmeasuredEntry, kept_legalEntry, kept_refl]) h
theorem kept_closeUnmeasured (m : Nat) (h : [Part.leg] ⊆ ps) :
    ChipKeptBut ps c (closeUnmeasured d m) ↔ ChipKeptBut ps c d :=
  kept_of (by unfold closeUnmeasured; split <;> simp +decide only [kept_set_leg, kept_unmeasuredEntry, kept_refl]) h
theorem kept_pointStateEntry (m : Nat) (old : Nat) (new : Nat) (cause : Nat) (lane : Nat) (h : [Part.leg] ⊆ ps) :
    ChipKeptBut ps c (pointStateEntry d m old new cause lane) ↔ ChipKeptBut ps c d :=
  kept_of (by simp +decide only [pointStateEntry, kept_legalEntry, kept_refl]) h
theorem kept_openUnmeasured (m : Nat) (reason : Nat) (h : [Part.leg] ⊆ ps) :
    ChipKeptBut ps c (openUnmeasured d m reason) ↔ ChipKeptBut ps c d :=
  kept_of (by unfold openUnmeasured; split <;> simp +decide only [kept_set_leg, kept_refl]) h
theorem kept_setPt (m : Nat) (p : PointSt) (h : [Part.met] ⊆ ps) :
    ChipKeptBut ps c (setPt d m p) ↔ ChipKeptBut ps c d :=
  kept_of (by simp +decide only [setPt, kept_set_met, kept_refl]) h
theorem kept_setOutlet (o : Nat) (x : OutletSt) (h : [Part.outl] ⊆ ps) :
    ChipKeptBut ps c (setOutlet d o x) ↔ ChipKeptBut ps c d :=
  kept_of (by simp +decide only [setOutlet, kept_set_outl, kept_refl]) h
theorem kept_modOutlet (o : Nat) (f : OutletSt → OutletSt) (h : [Part.outl] ⊆ ps) :
    ChipKeptBut ps c (modOutlet d o f) ↔ ChipKeptBut ps c d :=
  kept_of (by simp +decide only [modOutlet, kept_setOutlet, kept_refl]) h
theorem kept_sendCan (b : Nat) (typ : Nat) (dst : Nat) (data : List Byte) (h : [Part.outl, .out] ⊆ ps) :
    ChipKeptBut ps c (sendCan d b typ dst data) ↔ ChipKeptBut ps c d :=
  kept_of (by simp +decide only [sendCan, kept_set_outl, kept_emit, kept_ite, kept_refl, ite_self]) h
theorem kept_stopConverters (o : Nat) (h : [Part.outl, .out] ⊆ ps) :
    ChipKeptBut ps c (stopConverters d o) ↔ ChipKeptBut ps c d :=
  kept_of (by simp +decide only [stopConverters, kept_modOutlet, kept_sendCan, kept_foldl, kept_refl, implies_true]) h
theorem kept_releaseCoil (o : Nat) (h : [Part.pwd] ⊆ ps) :
    ChipKeptBut ps c (releaseCoil d o) ↔ ChipKeptBut ps c d :=
  kept_of (by simp +decide only [releaseCoil, kept_setCoil, kept_ite, kept_refl, ite_self]) h
theorem kept_commandCoil (o : Nat) (on : Bool) (h : [Part.outl, .pwd] ⊆ ps) :
    ChipKeptBut ps c (commandCoil d o on) ↔ ChipKeptBut ps c d :=
  kept_of (by simp +decide only [commandCoil, kept_modOutlet, kept_releaseCoil, kept_setCoil, kept_ite, kept_refl, ite_self]) h
theorem kept_processorOff (o : Nat) (h : [Part.tb, .outl, .saf, .pwd] ⊆ ps) :
    ChipKeptBut ps c (processorOff d o) ↔ ChipKeptBut ps c d :=
  kept_of (by simp +decide only [processorOff, kept_set_saf, kept_commandCoil, kept_unbook, kept_refl]) h
theorem kept_releaseForOpening (o : Nat) (h : [Part.tb, .outl, .saf, .pwd, .out] ⊆ ps) :
    ChipKeptBut ps c (releaseForOpening d o) ↔ ChipKeptBut ps c d :=
  kept_of (by simp +decide only [releaseForOpening, kept_modOutlet, kept_processorOff, kept_stopConverters, kept_ite, kept_refl, ite_self]) h
theorem kept_book (b : Booking) (h : [Part.regs, .tb, .host, .out] ⊆ ps) :
    ChipKeptBut ps c (book d b).1 ↔ ChipKeptBut ps c d :=
  kept_of (by unfold book; (repeat' split) <;> simp +decide only [kept_set_tb, kept_raiseEvt, kept_refl]) h
theorem kept_bookCoil (k : BookKind) (at' : Nat) (now : Chip → Chip) (h : [Part.regs, .tb, .host, .out] ⊆ ps)
    (hnow : ∀ e, ChipKeptBut ps e (now e)) : ChipKeptBut ps c (bookCoil d k at' now) ↔ ChipKeptBut ps c d := by
  have hbook := fun b => kept_book (c := c) (d := d) b h
  unfold bookCoil
  split
  next hb => rw [← hbook, hb, kept_of (hnow _) (List.Subset.refl ps)]
  next hb => rw [← hbook, hb]
theorem kept_sendSetpoints (o : Nat) (h : [Part.outl, .out, .freeCount] ⊆ ps) :
    ChipKeptBut ps c (sendSetpoints d o) ↔ ChipKeptBut ps c d :=
  kept_of (by simp +decide only [sendSetpoints, kept_sendCan, kept_takeFree, kept_foldl, kept_refl, implies_true]) h
theorem kept_outEvt (o : Nat) (b : Nat) (h : [Part.regs, .host, .out] ⊆ ps) :
    ChipKeptBut ps c (outEvt d o b) ↔ ChipKeptBut ps c d :=
  kept_of (by simp +decide only [outEvt, kept_raiseEvt, kept_refl]) h
theorem kept_enterOpening (o : Fin 8) (why : StopWhy) (h : [Part.regs, .tb, .outl, .saf, .pwd, .host, .out, .freeCount] ⊆ ps) :
    ChipKeptBut ps c (enterOpening d o why) ↔ ChipKeptBut ps c d :=
  kept_of (by simp +decide only [enterOpening, kept_bookCoil, kept_modOutlet, kept_outEvt, kept_releaseForOpening, kept_sendSetpoints, kept_ite, kept_refl, ite_self, implies_true]) h
theorem kept_postPwd (a : Nat) (w : Word) (owner : Option Requester) (h : [Part.pwd] ⊆ ps) :
    ChipKeptBut ps c (postPwd d a w owner) ↔ ChipKeptBut ps c d :=
  kept_of (by simp +decide only [postPwd, kept_set_pwd, kept_refl]) h
theorem kept_driveLock (o : Nat) (lock : Bool) (h : [Part.outl, .pwd] ⊆ ps) :
    ChipKeptBut ps c (driveLock d o lock) ↔ ChipKeptBut ps c d :=
  kept_of (by simp +decide only [driveLock, kept_modOutlet, kept_postPwd, kept_ite, kept_refl, ite_self]) h
theorem kept_completeOpt (req : Option Requester) (a : Answer) (h : [Part.host, .out] ⊆ ps) :
    ChipKeptBut ps c (completeOpt d req a) ↔ ChipKeptBut ps c d :=
  kept_of (by unfold completeOpt; split <;> simp +decide only [kept_complete, kept_refl]) h
theorem kept_dropAuth (o : Nat) (a : Answer) (h : [Part.outl, .host, .out] ⊆ ps) :
    ChipKeptBut ps c (dropAuth d o a) ↔ ChipKeptBut ps c d :=
  kept_of (by unfold dropAuth; split <;> simp +decide only [kept_completeOpt, kept_modOutlet, kept_refl]) h
theorem kept_pilotSteady (o : Nat) (h : [Part.outl, .pwd] ⊆ ps) :
    ChipKeptBut ps c (pilotSteady d o) ↔ ChipKeptBut ps c d :=
  kept_of (by simp +decide only [pilotSteady, kept_set_pwd, kept_modOutlet, kept_refl]) h
theorem kept_enterFinishing (o : Nat) (h : [Part.outl, .pwd, .host, .out] ⊆ ps) :
    ChipKeptBut ps c (enterFinishing d o) ↔ ChipKeptBut ps c d :=
  kept_of (by simp +decide only [enterFinishing, kept_driveLock, kept_dropAuth, kept_modOutlet, kept_pilotSteady, kept_ite, kept_refl, ite_self]) h
theorem kept_setCtx (x : Nat) (k : Machine.Context) (h : [Part.sess] ⊆ ps) :
    ChipKeptBut ps c (setCtx d x k) ↔ ChipKeptBut ps c d :=
  kept_of (by simp +decide only [setCtx, kept_set_sess, kept_refl]) h
theorem kept_stopCtx (x : Nat) (flags : BitVec 16) (h : [Part.acc, .sess] ⊆ ps) :
    ChipKeptBut ps c (stopCtx d x flags) ↔ ChipKeptBut ps c d :=
  kept_of (by simp +decide only [stopCtx, kept_set_acc, kept_setCtx, kept_ite, kept_refl, ite_self]) h
theorem kept_stopSession (o : Nat) (flags : BitVec 16) (h : [Part.acc, .sess] ⊆ ps) :
    ChipKeptBut ps c (stopSession d o flags) ↔ ChipKeptBut ps c d :=
  kept_of (by unfold stopSession; split <;> simp +decide only [kept_stopCtx, kept_refl]) h
theorem kept_stopOutlet (o : Fin 8) (flags : BitVec 16) (h : [Part.regs, .tb, .acc, .sess, .outl, .saf, .pwd, .host, .out, .freeCount] ⊆ ps) :
    ChipKeptBut ps c (stopOutlet d o flags) ↔ ChipKeptBut ps c d :=
  kept_of (by simp +decide only [stopOutlet]; split <;> simp +decide only [kept_enterFinishing, kept_enterOpening, kept_modOutlet, kept_processorOff, kept_stopSession, kept_ite, kept_refl, ite_self]) h
theorem kept_stopBound (m : Nat) (h : [Part.regs, .tb, .acc, .sess, .outl, .saf, .pwd, .host, .out, .freeCount] ⊆ ps) :
    ChipKeptBut ps c (stopBound d m) ↔ ChipKeptBut ps c d :=
  kept_of (by unfold stopBound; split <;> simp +decide only [kept_stopOutlet, kept_ite, kept_refl, ite_self]) h
theorem kept_pointChanged (m : Nat) (old : Nat) (cause : Nat) (lane : Nat) (h : [Part.regs, .tb, .met, .acc, .sess, .leg, .outl, .saf, .pwd, .host, .out, .freeCount] ⊆ ps) :
    ChipKeptBut ps c (pointChanged d m old cause lane) ↔ ChipKeptBut ps c d :=
  kept_of (by simp +decide only [pointChanged, kept_closeUnmeasured, kept_openUnmeasured, kept_pointStateEntry, kept_setPt, kept_stopBound, kept_ite, kept_refl, ite_self]) h
theorem kept_withLane (n : Nat) (f : Chip → Chip)
    (h : [Part.regs, .tb, .met, .acc, .sess, .leg, .outl, .saf, .pwd, .host, .out, .freeCount] ⊆ ps)
    (hf : ∀ e, ChipKeptBut ps e (f e)) : ChipKeptBut ps c (withLane d n f) ↔ ChipKeptBut ps c d := by
  refine kept_of (qs := ps) ?_ (List.Subset.refl ps)
  unfold withLane
  dsimp only
  split
  · rw [kept_calLeft _ _ (fun _ hp => h (by simp_all))]
    exact hf d
  · rw [kept_calLeft _ _ (fun _ hp => h (by simp_all)), kept_pointChanged _ _ _ _ (fun _ hp => h (by simp_all))]
    exact hf d
theorem kept_nsInterrupt (h : [Part.regs, .ns, .pwd, .host, .fab, .out] ⊆ ps) :
    ChipKeptBut ps c (nsInterrupt d) ↔ ChipKeptBut ps c d := by
  refine kept_of ?_ h
  unfold nsInterrupt
  split
  next q _ =>
    have hsent : ChipKeptBut [Part.regs, .ns, .pwd, .host, .fab, .out] d (nsSent d q).1 := (kept_nsSent q (by decide)).2 (.refl _ _)
    dsimp only
    split <;> simp +decide only [kept_ite, kept_completeOpt, kept_set_ns, hsent, ite_self]
  · exact .refl _ _
theorem kept_nsRouterLost (h : [Part.regs, .ns, .pwd, .host, .fab, .out] ⊆ ps) :
    ChipKeptBut ps c (nsRouterLost d) ↔ ChipKeptBut ps c d :=
  kept_of (by unfold nsRouterLost; split <;> simp +decide only [kept_nsInterrupt, kept_ite, kept_refl, ite_self]) h
theorem kept_discardRegion (r : Region) (h : [Part.regs, .ns, .tb, .pwd, .host, .fab, .out] ⊆ ps) :
    ChipKeptBut ps c (discardRegion d r) ↔ ChipKeptBut ps c d :=
  kept_of (by simp +decide only [discardRegion, kept_set_host, kept_discardWork, kept_nsRouterLost, kept_unbook, kept_ite, kept_refl, ite_self]) h
theorem kept_setFport (p : Nat) (x : FPortSt) (h : [Part.fab] ⊆ ps) :
    ChipKeptBut ps c (setFport d p x) ↔ ChipKeptBut ps c d :=
  kept_of (by simp +decide only [setFport, kept_set_fab, kept_refl]) h
theorem kept_setLane (n : Nat) (l : LaneSt) (h : [Part.met] ⊆ ps) :
    ChipKeptBut ps c (setLane d n l) ↔ ChipKeptBut ps c d :=
  kept_of (by simp +decide only [setLane, kept_set_met, kept_refl]) h
theorem kept_trainLane (n : Nat) (h : [Part.met, .out] ⊆ ps) :
    ChipKeptBut ps c (trainLane d n) ↔ ChipKeptBut ps c d :=
  kept_of (by simp +decide only [trainLane, kept_emits, kept_setLane, kept_refl]) h
theorem kept_blot (sev : Nat) (kind : Nat) (level : Nat) (code : Nat) (data : Nat) (channel : Bool) (forced : Bool) (esc : Bool) (held : Bool) (h : [Part.regs, .host, .blt, .out] ⊆ ps) :
    ChipKeptBut ps c (blot d sev kind level code data channel forced esc held) ↔ ChipKeptBut ps c d :=
  kept_of (by simp +decide only [blot, kept_set_blt, kept_raiseEvt, kept_ite, kept_refl, ite_self]) h
theorem kept_setSrc (s : Nat) (x : Src) (h : [Part.flt] ⊆ ps) :
    ChipKeptBut ps c (setSrc d s x) ↔ ChipKeptBut ps c d :=
  kept_of (by simp +decide only [setSrc, kept_set_flt, kept_refl]) h
theorem kept_modPort (p : Nat) (f : FPortSt → FPortSt) (h : [Part.fab] ⊆ ps) :
    ChipKeptBut ps c (modPort d p f) ↔ ChipKeptBut ps c d :=
  kept_of (by simp +decide only [modPort, kept_setFport, kept_refl]) h
theorem kept_sendLink (p : Nat) (typ : Nat) (payload : List Byte) (h : [Part.fab, .out] ⊆ ps) :
    ChipKeptBut ps c (sendLink d p typ payload) ↔ ChipKeptBut ps c d :=
  kept_of (by simp +decide only [sendLink, kept_countFelt, kept_emit, kept_ite, kept_refl, ite_self]) h
theorem kept_wakeLinks (h : [Part.fab, .out] ⊆ ps) :
    ChipKeptBut ps c (wakeLinks d) ↔ ChipKeptBut ps c d :=
  kept_of (by simp +decide only [wakeLinks, kept_modPort, kept_sendLink, kept_foldl, kept_ite, kept_refl, ite_self, implies_true]) h
theorem kept_fabEvt (b : Nat) (h : [Part.regs, .host, .out] ⊆ ps) :
    ChipKeptBut ps c (fabEvt d b) ↔ ChipKeptBut ps c d :=
  kept_of (by simp +decide only [fabEvt, kept_raiseEvt, kept_refl]) h
theorem kept_modFab (f : Fab → Fab) (h : [Part.fab] ⊆ ps) :
    ChipKeptBut ps c (modFab d f) ↔ ChipKeptBut ps c d :=
  kept_of (by simp +decide only [modFab, kept_set_fab, kept_refl]) h
theorem kept_followMilliner (h : [Part.regs, .host, .fab, .out] ⊆ ps) :
    ChipKeptBut ps c (followMilliner d) ↔ ChipKeptBut ps c d :=
  kept_of (by simp +decide only [followMilliner, kept_fabEvt, kept_modFab, kept_ite, kept_refl, ite_self]) h
theorem kept_yieldMilliner (h : [Part.regs, .host, .fab, .out] ⊆ ps) :
    ChipKeptBut ps c (yieldMilliner d) ↔ ChipKeptBut ps c d :=
  kept_of (by simp +decide only [yieldMilliner, kept_followMilliner, kept_ite, kept_refl, ite_self]) h
theorem kept_topoChanged (membership : Bool) (h : [Part.regs, .host, .fab, .out] ⊆ ps) :
    ChipKeptBut ps c (topoChanged d membership) ↔ ChipKeptBut ps c d :=
  kept_of (by simp +decide only [topoChanged, kept_fabEvt, kept_modFab, kept_wakeLinks, kept_yieldMilliner, kept_ite, kept_refl, ite_self]) h
theorem kept_pilotF (o : Nat) (h : [Part.outl, .pwd] ⊆ ps) :
    ChipKeptBut ps c (pilotF d o) ↔ ChipKeptBut ps c d :=
  kept_of (by simp +decide only [pilotF, kept_set_pwd, kept_modOutlet, kept_refl]) h
theorem kept_enterUnavailable (o : Nat) (h : [Part.outl, .pwd, .host, .out] ⊆ ps) :
    ChipKeptBut ps c (enterUnavailable d o) ↔ ChipKeptBut ps c d :=
  kept_of (by simp +decide only [enterUnavailable, kept_driveLock, kept_dropAuth, kept_modOutlet, kept_pilotF, kept_refl]) h
theorem kept_drainOutlet (o : Fin 8) (h : [Part.regs, .tb, .acc, .sess, .outl, .saf, .pwd, .host, .out, .freeCount] ⊆ ps) :
    ChipKeptBut ps c (drainOutlet d o) ↔ ChipKeptBut ps c d :=
  kept_of (by simp +decide only [drainOutlet, kept_enterUnavailable, kept_modOutlet, kept_stopOutlet, kept_stopSession, kept_ite, kept_refl, ite_self]) h
theorem kept_retireLane (n : Nat) (h : [Part.regs, .tb, .met, .acc, .sess, .leg, .outl, .saf, .pwd, .host, .out, .freeCount] ⊆ ps) :
    ChipKeptBut ps c (retireLane d n) ↔ ChipKeptBut ps c d :=
  kept_of (by unfold retireLane; split <;> simp +decide only [kept_raiseEvt, kept_setLane, kept_withLane, kept_refl, implies_true]) h
theorem kept_retireChan (k : Chan) (h : [Part.regs, .tb, .met, .acc, .sess, .leg, .outl, .saf, .pwd, .lsw, .host, .fab, .out, .freeCount] ⊆ ps) :
    ChipKeptBut ps c (retireChan d k) ↔ ChipKeptBut ps c d :=
  kept_of (by unfold retireChan; split <;> simp +decide only [kept_set_saf, kept_set_lsw, kept_drainOutlet, kept_floodLsa, kept_modOutlet, kept_outEvt, kept_retireLane, kept_setFport, kept_topoChanged, kept_foldl, kept_ite, kept_refl, ite_self, implies_true]) h
theorem kept_blotEvent (code : Nat) (sev : Nat) (data : Nat) (h : [Part.regs, .host, .blt, .out] ⊆ ps) :
    ChipKeptBut ps c (blotEvent d code sev data) ↔ ChipKeptBut ps c d :=
  kept_of (by simp +decide only [blotEvent, kept_blot, kept_refl]) h
theorem kept_setMode (m : Mode) (cause : Nat) (h : [Part.regs, .sup, .dsp, .host, .blt, .out] ⊆ ps) :
    ChipKeptBut ps c (setMode d m cause) ↔ ChipKeptBut ps c d :=
  kept_of (by simp +decide only [setMode, kept_set_sup_dsp, kept_blotEvent, kept_completeOpt, kept_routeEvt, kept_ite, kept_refl, ite_self]) h
theorem kept_addSafeCause (k : SafeCause) (h : [Part.sup] ⊆ ps) :
    ChipKeptBut ps c (addSafeCause d k) ↔ ChipKeptBut ps c d :=
  kept_of (by simp +decide only [addSafeCause, kept_set_sup, kept_ite, kept_refl, ite_self]) h
theorem kept_setInt (m : Nat) (i : Machine.Interval) (h : [Part.tar] ⊆ ps) :
    ChipKeptBut ps c (setInt d m i) ↔ ChipKeptBut ps c d :=
  kept_of (by simp +decide only [setInt, kept_set_tar, kept_refl]) h
theorem kept_freeCtx (x : Nat) (h : [Part.sess] ⊆ ps) :
    ChipKeptBut ps c (freeCtx d x) ↔ ChipKeptBut ps c d :=
  kept_of (by simp +decide only [freeCtx, kept_setCtx, kept_refl]) h
theorem kept_tryFree (x : Nat) (h : [Part.sess] ⊆ ps) :
    ChipKeptBut ps c (tryFree d x) ↔ ChipKeptBut ps c d :=
  kept_of (by simp +decide only [tryFree]; split <;> simp +decide only [kept_freeCtx, kept_ite, kept_refl, ite_self]) h
theorem kept_toTbState (st : TbState) (f : Follow) (h : [Part.tb] ⊆ ps) :
    ChipKeptBut ps c (toTbState d st f) ↔ ChipKeptBut ps c d :=
  kept_of (by simp +decide only [toTbState, kept_set_tb, kept_refl]) h
theorem kept_addStress (dram : List Host.Cell) (dur : Nat) (h : [Part.age] ⊆ ps) :
    ChipKeptBut ps c (addStress d dram dur) ↔ ChipKeptBut ps c d :=
  kept_of (by simp +decide only [addStress, kept_set_age, kept_ite, kept_refl, ite_self]) h
theorem kept_gapUnmeasured (o : Nat) (x : Nat) (h : [Part.tar, .sess, .leg] ⊆ ps) :
    ChipKeptBut ps c (gapUnmeasured d o x) ↔ ChipKeptBut ps c d :=
  kept_of (by unfold gapUnmeasured; split <;> simp +decide only [kept_setCtx, kept_setInt, kept_unmeasuredEntry, kept_refl]) h
theorem kept_adopt (o : Nat) (x : Nat) (h : [Part.regs, .tar, .sess, .leg, .outl, .saf, .nib, .pwd, .host, .out] ⊆ ps) :
    ChipKeptBut ps c (adopt d o x) ↔ ChipKeptBut ps c d :=
  kept_of (by simp +decide only [adopt, kept_set_saf_nib, kept_commandCoil, kept_gapUnmeasured, kept_modOutlet, kept_raiseEvt, kept_setCtx, kept_refl]) h
theorem kept_settleCtx (x : Nat) (h : [Part.sess, .leg, .freeCount] ⊆ ps) :
    ChipKeptBut ps c (settleCtx d x) ↔ ChipKeptBut ps c d :=
  kept_of (by simp +decide only [settleCtx, kept_set_leg, kept_legalEntry, kept_setCtx, kept_takeFree, kept_ite, kept_refl, ite_self]) h
theorem kept_adoptReplica (x : Nat) (h : [Part.regs, .sess, .leg, .host, .out, .freeCount] ⊆ ps) :
    ChipKeptBut ps c (adoptReplica d x) ↔ ChipKeptBut ps c d :=
  kept_of (by simp +decide only [adoptReplica, kept_fabEvt, kept_setCtx, kept_settleCtx, kept_ite, kept_refl, ite_self]) h
theorem kept_dropSafeCause (k : SafeCause) (h : [Part.sup] ⊆ ps) :
    ChipKeptBut ps c (dropSafeCause d k) ↔ ChipKeptBut ps c d :=
  kept_of (by simp +decide only [dropSafeCause, kept_set_sup, kept_refl]) h
theorem kept_setGate (o : Nat) (b : Bool) (h : [Part.nib, .pwd] ⊆ ps) :
    ChipKeptBut ps c (setGate d o b) ↔ ChipKeptBut ps c d :=
  kept_of (by simp +decide only [setGate, kept_set_nib, kept_releaseCoil, kept_ite, kept_refl, ite_self]) h
theorem kept_withdrawLine (o : Nat) (cause : Nat) (h : [Part.nib, .pwd] ⊆ ps) :
    ChipKeptBut ps c (withdrawLine d o cause) ↔ ChipKeptBut ps c d :=
  kept_of (by simp +decide only [withdrawLine, kept_set_nib, kept_setGate, kept_refl]) h
theorem kept_advanceTime (dur : Nat) (h : [Part.regs, .tb, .host, .out] ⊆ ps) :
    ChipKeptBut ps c (advanceTime d dur) ↔ ChipKeptBut ps c d :=
  kept_of (by simp +decide only [advanceTime, kept_set_tb, kept_raiseEvt, kept_ite, kept_refl, ite_self]) h
theorem kept_floodClaim (h : [Part.fab, .out] ⊆ ps) :
    ChipKeptBut ps c (floodClaim d) ↔ ChipKeptBut ps c d :=
  kept_of (by simp +decide only [floodClaim, kept_sendFlood, kept_refl]) h
theorem kept_claimAddr (a : Nat) (h : [Part.fab, .out] ⊆ ps) :
    ChipKeptBut ps c (claimAddr d a) ↔ ChipKeptBut ps c d :=
  kept_of (by simp +decide only [claimAddr, kept_floodClaim, kept_modFab, kept_refl]) h
theorem kept_claimNext (lost : Option Nat) (h : [Part.regs, .host, .fab, .out] ⊆ ps) :
    ChipKeptBut ps c (claimNext d lost) ↔ ChipKeptBut ps c d :=
  kept_of (by
    unfold claimNext
    split <;> simp +decide only [kept_claimAddr, kept_fabEvt, kept_modFab, kept_refl]) h
theorem kept_claimStart (h : [Part.regs, .host, .fab, .out] ⊆ ps) :
    ChipKeptBut ps c (claimStart d) ↔ ChipKeptBut ps c d :=
  kept_of (by simp +decide only [claimStart, kept_modFab, kept_ite, kept_refl]; (repeat' split) <;> simp +decide only [kept_claimAddr, kept_claimNext, kept_refl]) h
theorem kept_pilotDuty (o : Nat) (duty : Nat) (h : [Part.outl, .pwd] ⊆ ps) :
    ChipKeptBut ps c (pilotDuty d o duty) ↔ ChipKeptBut ps c d :=
  kept_of (by simp +decide only [pilotDuty, kept_set_pwd, kept_modOutlet, kept_refl]) h
theorem kept_bookTestPulses (h : [Part.regs, .tb, .host, .out] ⊆ ps) :
    ChipKeptBut ps c (bookTestPulses d) ↔ ChipKeptBut ps c d :=
  kept_of (by
    unfold bookTestPulses
    simp +decide only [kept_ite, kept_foldl, kept_book, kept_unbook, kept_refl, ite_self, implies_true]) h
theorem kept_identReq (h : [Part.outl, .out] ⊆ ps) :
    ChipKeptBut ps c (identReq d) ↔ ChipKeptBut ps c d :=
  kept_of (by simp +decide only [identReq, kept_sendCan, kept_refl]) h
theorem kept_openDemand (m : Nat) (flags : BitVec 16) (h : [Part.tar] ⊆ ps) :
    ChipKeptBut ps c (openDemand d m flags) ↔ ChipKeptBut ps c d :=
  kept_of (by simp +decide only [openDemand, kept_setInt, kept_refl]) h
theorem kept_ageSave (h : [Part.age] ⊆ ps) :
    ChipKeptBut ps c (ageSave d) ↔ ChipKeptBut ps c d :=
  kept_of (by simp +decide only [ageSave, kept_set_age, kept_refl]) h
theorem kept_setRate (p : Nat) (standby : Bool) (h : [Part.regs, .host, .fab, .out] ⊆ ps) :
    ChipKeptBut ps c (setRate d p standby) ↔ ChipKeptBut ps c d :=
  kept_of (by simp +decide only [setRate, kept_floodLsa, kept_modPort, kept_topoChanged, kept_ite, kept_refl, ite_self]) h
theorem kept_allRates (standby : Bool) (h : [Part.regs, .host, .fab, .out] ⊆ ps) :
    ChipKeptBut ps c (allRates d standby) ↔ ChipKeptBut ps c d :=
  kept_of (by simp +decide only [allRates, kept_sendLink, kept_setRate, kept_foldl, kept_refl, implies_true]) h
theorem kept_answerLimits (o : Nat) (kind : Nat) (ok : Bool) (h : [Part.out] ⊆ ps) :
    ChipKeptBut ps c (answerLimits d o kind ok) ↔ ChipKeptBut ps c d :=
  kept_of (by simp +decide only [answerLimits, kept_emits, kept_refl]) h
theorem kept_modUpd (f : Upd → Upd) (h : [Part.upd] ⊆ ps) :
    ChipKeptBut ps c (modUpd d f) ↔ ChipKeptBut ps c d :=
  kept_of (by simp +decide only [modUpd, kept_set_upd, kept_refl]) h
theorem kept_tryAvailable (o : Nat) (h : [Part.outl, .pwd] ⊆ ps) :
    ChipKeptBut ps c (tryAvailable d o) ↔ ChipKeptBut ps c d :=
  kept_of (by simp +decide only [tryAvailable, kept_modOutlet, kept_pilotSteady, kept_ite, kept_refl, ite_self]) h
theorem kept_floodLeave (reason : Nat) (h : [Part.fab, .out] ⊆ ps) :
    ChipKeptBut ps c (floodLeave d reason) ↔ ChipKeptBut ps c d :=
  kept_of (by simp +decide only [floodLeave, kept_sendFlood, kept_ite, kept_refl, ite_self]) h
theorem kept_laneOff (n : Nat) (h : [Part.met] ⊆ ps) :
    ChipKeptBut ps c (laneOff d n) ↔ ChipKeptBut ps c d :=
  kept_of (by simp +decide only [laneOff, kept_setLane, kept_refl]) h
theorem kept_portDown (p : Nat) (h : [Part.fab] ⊆ ps) :
    ChipKeptBut ps c (portDown d p) ↔ ChipKeptBut ps c d :=
  kept_of (by simp +decide only [portDown, kept_setFport, kept_ite, kept_refl, ite_self]) h
theorem kept_portsDown (h : [Part.fab] ⊆ ps) :
    ChipKeptBut ps c (portsDown d) ↔ ChipKeptBut ps c d :=
  kept_of (by simp +decide only [portsDown, kept_portDown, kept_foldl, kept_refl, implies_true]) h
theorem kept_putEntry (k : LegCause) (h : [Part.regs, .leg, .host, .out] ⊆ ps) :
    ChipKeptBut ps c (putEntry d k) ↔ ChipKeptBut ps c d :=
  kept_of (by simp +decide only [putEntry, kept_set_leg, kept_raiseEvt, kept_ite, kept_refl, ite_self]) h
theorem kept_loseEntry (k : LegCause) (h : [Part.leg] ⊆ ps) :
    ChipKeptBut ps c (loseEntry d k) ↔ ChipKeptBut ps c d :=
  kept_of (by simp +decide only [loseEntry, kept_set_leg, kept_refl]) h
theorem kept_sendTo (typ : Nat) (dst : Nat) (payload : List Byte) (h : [Part.fab, .out] ⊆ ps) :
    ChipKeptBut ps c (sendTo d typ dst payload) ↔ ChipKeptBut ps c d :=
  kept_of (by unfold sendTo; split <;> simp +decide only [kept_countFelt, kept_emit, kept_ite, kept_refl, ite_self]) h
theorem kept_sendClose (sid : BitVec 128) (addr : Nat) (reason : Nat) (seq : Nat) (h : [Part.fab, .out] ⊆ ps) :
    ChipKeptBut ps c (sendClose d sid addr reason seq) ↔ ChipKeptBut ps c d :=
  kept_of (by simp +decide only [sendClose, kept_sendTo, kept_refl]) h
theorem kept_updEvt (b : Nat) (h : [Part.regs, .host, .out] ⊆ ps) :
    ChipKeptBut ps c (updEvt d b) ↔ ChipKeptBut ps c d :=
  kept_of (by simp +decide only [updEvt, kept_raiseEvt, kept_refl]) h
theorem kept_startFailed (o : Outlet) (h : [Part.regs, .outl, .pwd, .host, .out] ⊆ ps) :
    ChipKeptBut ps c (startFailed d o) ↔ ChipKeptBut ps c d :=
  kept_of (by simp +decide only [startFailed, kept_dropAuth, kept_enterFinishing, kept_modOutlet, kept_outEvt, kept_ite, kept_refl, ite_self]) h
theorem kept_claimCtx {x : Nat} {e : Chip} (hx : claimCtx d = some (x, e))
    (h : [Part.regs, .sess, .host, .fab, .out] ⊆ ps) : ChipKeptBut ps c e ↔ ChipKeptBut ps c d := by
  refine kept_of ?_ h
  unfold claimCtx at hx
  (repeat' split at hx) <;> cases hx <;>
    simp +decide only [kept_raiseEvt, kept_freeCtx, kept_sendClose, kept_refl]
theorem kept_askHolder (x : Nat) (primary : Bool) (r : LsaRec) (h : [Part.sess, .fab, .repl, .out] ⊆ ps) :
    ChipKeptBut ps c (askHolder d x primary r) ↔ ChipKeptBut ps c d :=
  kept_of (by simp +decide only [askHolder, kept_set_repl, kept_sendTo, kept_setCtx, kept_refl]) h
theorem kept_placeReplicas (x : Nat) (h : [Part.sess, .fab, .repl, .out] ⊆ ps) :
    ChipKeptBut ps c (placeReplicas d x) ↔ ChipKeptBut ps c d :=
  kept_of (by simp +decide only [placeReplicas, kept_ite, kept_refl]; (repeat' split) <;> simp +decide only [kept_askHolder, kept_refl]) h
theorem kept_startSession {o ptable : Nat} {authRef : BitVec 128} {host : Bool} {tag : Word} {k : Nat} {e : Chip}
    (hk : startSession d o ptable authRef host tag = some (k, e))
    (h : [Part.regs, .acc, .sess, .host, .fab, .repl, .out, .freeCount] ⊆ ps) :
    ChipKeptBut ps c e ↔ ChipKeptBut ps c d := by
  refine kept_of ?_ h
  unfold startSession at hk
  split at hk
  · cases hk
  next hx =>
    cases hk
    simp +decide only [kept_placeReplicas, kept_set_acc_sess, kept_takeFree, kept_claimCtx hx, kept_refl]
theorem kept_commandClose (o : Nat) (h : [Part.outl, .pwd] ⊆ ps) :
    ChipKeptBut ps c (commandClose d o) ↔ ChipKeptBut ps c d :=
  kept_of (by simp +decide only [commandClose, kept_commandCoil, kept_modOutlet, kept_ite, kept_refl, ite_self]) h
theorem kept_enterClosing (o : Fin 8) (h : [Part.regs, .tb, .outl, .pwd, .host, .out] ⊆ ps) :
    ChipKeptBut ps c (enterClosing d o) ↔ ChipKeptBut ps c d :=
  kept_of (by simp +decide only [enterClosing, kept_bookCoil, kept_commandClose, kept_modOutlet, kept_ite, kept_refl, ite_self, implies_true]) h
theorem kept_startClosing (o : Fin 8) (h : [Part.regs, .tb, .outl, .saf, .pwd, .host, .out] ⊆ ps) :
    ChipKeptBut ps c (startClosing d o) ↔ ChipKeptBut ps c d :=
  kept_of (by simp +decide only [startClosing, kept_ite, kept_refl]; (repeat' split) <;> simp +decide only [kept_set_saf, kept_enterClosing, kept_modOutlet, kept_refl]) h
theorem kept_tryClose (o : Fin 8) (h : [Part.regs, .tb, .outl, .saf, .pwd, .host, .out] ⊆ ps) :
    ChipKeptBut ps c (tryClose d o) ↔ ChipKeptBut ps c d :=
  kept_of (by simp +decide only [tryClose, kept_startClosing, kept_ite, kept_refl, ite_self]) h
theorem kept_updateIlim (o : Nat) (h : [Part.regs, .tb, .outl, .saf, .pwd, .host, .out] ⊆ ps) :
    ChipKeptBut ps c (updateIlim d o) ↔ ChipKeptBut ps c d :=
  kept_of (by simp +decide only [updateIlim, kept_modOutlet, kept_ite, kept_refl]; (repeat' split) <;> simp +decide only [kept_modOutlet, kept_pilotDuty, kept_pilotSteady, kept_tryClose, kept_refl]) h
theorem kept_enterAuthorised (o : Outlet) (ctx : Option Nat) (h : [Part.regs, .tb, .outl, .saf, .pwd, .host, .out] ⊆ ps) :
    ChipKeptBut ps c (enterAuthorised d o ctx) ↔ ChipKeptBut ps c d :=
  kept_of (by simp +decide only [enterAuthorised, kept_set_saf, kept_modOutlet, kept_updateIlim, kept_refl]) h
theorem kept_tryStart (o : Outlet) (h : [Part.regs, .tb, .acc, .sess, .outl, .saf, .pwd, .host, .fab, .repl, .out, .freeCount] ⊆ ps) :
    ChipKeptBut ps c (tryStart d o) ↔ ChipKeptBut ps c d := by
  refine kept_of ?_ h
  unfold tryStart
  dsimp only
  split
  · exact .refl _ d
  · split_ifs
    · exact .refl _ d
    · simp +decide only [kept_enterAuthorised, kept_modOutlet, kept_refl]
    · simp +decide only [kept_startFailed, kept_raiseEvt, kept_refl]
    · split
      · simp +decide only [kept_startFailed, kept_raiseEvt, kept_refl]
      next hk =>
        simp +decide only [kept_enterAuthorised, kept_completeOpt, kept_emit, kept_modOutlet, kept_startSession hk, kept_refl]
theorem kept_driveShunt (h : [Part.regs, .pwd, .host, .out] ⊆ ps) :
    ChipKeptBut ps c (driveShunt d) ↔ ChipKeptBut ps c d :=
  kept_of (by simp +decide only [driveShunt, kept_set_pwd, kept_emit, kept_raiseEvt, kept_ite, kept_refl, ite_self]) h
theorem kept_assignLane (n : Nat) (h : [Part.met, .out] ⊆ ps) :
    ChipKeptBut ps c (assignLane d n) ↔ ChipKeptBut ps c d :=
  kept_of (by unfold assignLane; split <;> simp +decide only [kept_calLeft, kept_laneOff, kept_setLane, kept_trainLane, kept_ite, kept_refl, ite_self]) h
theorem kept_assignLanes (old : Nat → Nat) (h : [Part.regs, .tb, .met, .acc, .sess, .leg, .outl, .saf, .pwd, .host, .out, .freeCount] ⊆ ps) :
    ChipKeptBut ps c (assignLanes d old) ↔ ChipKeptBut ps c d :=
  kept_of (by simp +decide only [assignLanes, kept_assignLane, kept_pointChanged, kept_foldl, kept_ite, kept_refl, ite_self, implies_true]) h
theorem kept_atAngle (angle : Nat) (h : [Part.tb] ⊆ ps) :
    ChipKeptBut ps c (atAngle d angle) ↔ ChipKeptBut ps c d :=
  kept_of (by simp +decide only [atAngle, kept_set_tb, kept_refl]) h
theorem kept_beaconSeen (h : [Part.tb] ⊆ ps) :
    ChipKeptBut ps c (beaconSeen d) ↔ ChipKeptBut ps c d :=
  kept_of (by simp +decide only [beaconSeen, kept_set_tb, kept_toTbState, kept_ite, kept_refl, ite_self]) h
theorem kept_openBilling (m : Nat) (flags : BitVec 16) (h : [Part.tar] ⊆ ps) :
    ChipKeptBut ps c (openBilling d m flags) ↔ ChipKeptBut ps c d :=
  kept_of (by simp +decide only [openBilling, kept_setInt, kept_refl]) h
theorem kept_openIntervals (k : Closes) (b0 : Nat) (b : Nat) (h : [Part.tar] ⊆ ps) :
    ChipKeptBut ps c (openIntervals d k b0 b) ↔ ChipKeptBut ps c d :=
  kept_of (by simp +decide only [openIntervals, kept_set_tar, kept_openBilling, kept_openDemand, kept_foldl, kept_ite, kept_refl, ite_self, implies_true]) h
theorem kept_chooseRoot (h : [Part.regs, .host, .fab, .out] ⊆ ps) :
    ChipKeptBut ps c (chooseRoot d) ↔ ChipKeptBut ps c d :=
  kept_of (by simp +decide only [chooseRoot, kept_fabEvt, kept_modFab, kept_ite, kept_refl, ite_self]) h
theorem kept_bltLatch (h : [Part.blt] ⊆ ps) :
    ChipKeptBut ps c (bltLatch d) ↔ ChipKeptBut ps c d :=
  kept_of (by simp +decide only [bltLatch, kept_set_blt, kept_refl]) h
theorem kept_bltLatched (h : [Part.blt] ⊆ ps) :
    ChipKeptBut ps c (bltLatched d) ↔ ChipKeptBut ps c d :=
  kept_of (by simp +decide only [bltLatched, kept_set_blt, kept_ite, kept_refl, ite_self]) h
theorem kept_bltNew (r : BltRec) (h : [Part.regs, .host, .out] ⊆ ps) :
    ChipKeptBut ps c (bltNew d r) ↔ ChipKeptBut ps c d :=
  kept_of (by simp +decide only [bltNew, kept_raiseEvt, kept_ite, kept_refl, ite_self]) h
theorem kept_bltStore (slot : Nat) (r : BltRec) (h : [Part.regs, .host, .blt, .out] ⊆ ps) :
    ChipKeptBut ps c (bltStore d slot r) ↔ ChipKeptBut ps c d :=
  kept_of (by simp +decide only [bltStore, kept_set_blt, kept_bltNew, kept_raiseEvt, kept_ite, kept_refl, ite_self]) h
theorem kept_staleIf (seq : Nat) (h : [Part.blt] ⊆ ps) :
    ChipKeptBut ps c (staleIf d seq) ↔ ChipKeptBut ps c d :=
  kept_of (by simp +decide only [staleIf, kept_set_blt, kept_ite, kept_refl, ite_self]) h
theorem kept_bltWrite (r : BltRec) (h : [Part.regs, .host, .blt, .out] ⊆ ps) :
    ChipKeptBut ps c (bltWrite d r) ↔ ChipKeptBut ps c d :=
  kept_of (by simp +decide only [bltWrite]; (repeat' split) <;> simp +decide only [kept_set_blt, kept_bltNew, kept_bltStore, kept_raiseEvt, kept_staleIf, kept_refl]) h
theorem kept_bookDisplay (h : [Part.regs, .tb, .host, .out] ⊆ ps) :
    ChipKeptBut ps c (bookDisplay d) ↔ ChipKeptBut ps c d :=
  kept_of (by simp +decide only [bookDisplay, kept_book, kept_unbook, kept_ite, kept_refl, ite_self]) h
theorem kept_bookRound (h : [Part.regs, .tb, .host, .out, .freeCount] ⊆ ps) :
    ChipKeptBut ps c (bookRound d) ↔ ChipKeptBut ps c d :=
  kept_of (by simp +decide only [bookRound, kept_book, kept_takeFree, kept_unbook, kept_ite, kept_refl, ite_self]) h
theorem kept_modBp (f : Bp → Bp) (h : [Part.bp] ⊆ ps) :
    ChipKeptBut ps c (modBp d f) ↔ ChipKeptBut ps c d :=
  kept_of (by simp +decide only [modBp, kept_set_bp, kept_refl]) h
theorem kept_clearBits (a : Nat) (w : Word) (h : [Part.regs] ⊆ ps) :
    ChipKeptBut ps c (clearBits d a w) ↔ ChipKeptBut ps c d :=
  kept_of (by simp +decide only [clearBits, kept_regPut, kept_refl]) h
theorem kept_dropHolder (sid : BitVec 128) (a : Nat) (h : [Part.repl] ⊆ ps) :
    ChipKeptBut ps c (dropHolder d sid a) ↔ ChipKeptBut ps c d :=
  kept_of (by simp +decide only [dropHolder, kept_set_repl, kept_refl]) h
theorem kept_modSession (sid : BitVec 128) (f : Machine.Context → Machine.Context) (h : [Part.sess] ⊆ ps) :
    ChipKeptBut ps c (modSession d sid f) ↔ ChipKeptBut ps c d :=
  kept_of (by unfold modSession; split <;> simp +decide only [kept_setCtx, kept_refl]) h
theorem kept_holderTold (sid : BitVec 128) (a : Nat) (h : [Part.sess, .repl] ⊆ ps) :
    ChipKeptBut ps c (holderTold d sid a) ↔ ChipKeptBut ps c d :=
  kept_of (by simp +decide only [holderTold]; split <;> simp +decide only [kept_dropHolder, kept_modSession, kept_tryFree, kept_refl]) h
theorem kept_removeMember (addr : Nat) (h : [Part.regs, .host, .fab, .out] ⊆ ps) :
    ChipKeptBut ps c (removeMember d addr) ↔ ChipKeptBut ps c d :=
  kept_of (by simp +decide only [removeMember, kept_chooseRoot, kept_modFab, kept_topoChanged, kept_refl]) h
theorem kept_replaceSession (sid : BitVec 128) (h : [Part.sess, .fab, .repl, .out] ⊆ ps) :
    ChipKeptBut ps c (replaceSession d sid) ↔ ChipKeptBut ps c d :=
  kept_of (by unfold replaceSession; split <;> simp +decide only [kept_placeReplicas, kept_ite, kept_refl, ite_self]) h
theorem kept_holderLost (sid : BitVec 128) (a : Nat) (h : [Part.regs, .sess, .host, .fab, .repl, .out] ⊆ ps) :
    ChipKeptBut ps c (holderLost d sid a) ↔ ChipKeptBut ps c d :=
  kept_of (by simp +decide only [holderLost, kept_dropHolder, kept_fabEvt, kept_modSession, kept_replaceSession, kept_sendClose, kept_refl]) h
theorem kept_forgetMember (addr : Nat) (h : [Part.regs, .sess, .leg, .host, .fab, .repl, .out, .freeCount] ⊆ ps) :
    ChipKeptBut ps c (forgetMember d addr) ↔ ChipKeptBut ps c d :=
  kept_of (by simp +decide only [forgetMember, kept_adoptReplica, kept_holderLost, kept_holderTold, kept_removeMember, kept_foldl, kept_ite, kept_refl, ite_self, implies_true]) h
theorem kept_clearPassive (h : [Part.tar] ⊆ ps) :
    ChipKeptBut ps c (clearPassive d) ↔ ChipKeptBut ps c d :=
  kept_of (by simp +decide only [clearPassive, kept_set_tar, kept_refl]) h
theorem kept_cancelGroup (h : [Part.regs, .cg, .host, .out] ⊆ ps) :
    ChipKeptBut ps c (cancelGroup d) ↔ ChipKeptBut ps c d :=
  kept_of (by simp +decide only [cancelGroup, kept_set_cg, kept_answerGroup, kept_reloadShadows, kept_ite, kept_refl, ite_self]) h
theorem kept_portTrain (p : Nat) (h : [Part.fab] ⊆ ps) :
    ChipKeptBut ps c (portTrain d p) ↔ ChipKeptBut ps c d :=
  kept_of (by simp +decide only [portTrain, kept_setFport, kept_ite, kept_refl, ite_self]) h
theorem kept_fabStart (h : [Part.regs, .host, .fab, .out] ⊆ ps) :
    ChipKeptBut ps c (fabStart d) ↔ ChipKeptBut ps c d :=
  kept_of (by simp +decide only [fabStart, kept_claimStart, kept_modFab, kept_portTrain, kept_setFport, kept_foldl, kept_ite, kept_refl, ite_self, implies_true]) h
theorem kept_dspEvt (b : Nat) (h : [Part.regs, .host, .out] ⊆ ps) :
    ChipKeptBut ps c (dspEvt d b) ↔ ChipKeptBut ps c d :=
  kept_of (by simp +decide only [dspEvt, kept_raiseEvt, kept_refl]) h
theorem kept_modDsp (f : Dsp → Dsp) (h : [Part.dsp] ⊆ ps) :
    ChipKeptBut ps c (modDsp d f) ↔ ChipKeptBut ps c d :=
  kept_of (by simp +decide only [modDsp, kept_set_dsp, kept_refl]) h
theorem kept_cancelFlip (h : [Part.dsp, .host, .out] ⊆ ps) :
    ChipKeptBut ps c (cancelFlip d) ↔ ChipKeptBut ps c d :=
  kept_of (by unfold cancelFlip; split <;> simp +decide only [kept_set_dsp, kept_completeOpt, kept_refl]) h
theorem kept_reviveChan (k : Chan) (h : [Part.regs, .tb, .met, .acc, .sess, .leg, .outl, .saf, .pwd, .lsw, .host, .fab, .out, .freeCount] ⊆ ps) :
    ChipKeptBut ps c (reviveChan d k) ↔ ChipKeptBut ps c d :=
  kept_of (by unfold reviveChan; split <;> simp +decide only [kept_set_saf, kept_set_lsw, kept_modOutlet, kept_pilotSteady, kept_setFport, kept_setLane, kept_trainLane, kept_withLane, kept_ite, kept_refl, ite_self, implies_true]) h
theorem kept_latchTrip (o : Nat) (sf : Sf) (ch : Channel) (h : [Part.saf, .nib] ⊆ ps) :
    ChipKeptBut ps c (latchTrip d o sf ch) ↔ ChipKeptBut ps c d :=
  kept_of (by simp +decide only [latchTrip, kept_ite, kept_set_saf_nib, kept_refl, ite_self]) h
theorem kept_enterFaulted (o : Nat) (flags : BitVec 16) (h : [Part.tb, .acc, .sess, .outl, .saf, .pwd, .host, .out] ⊆ ps) :
    ChipKeptBut ps c (enterFaulted d o flags) ↔ ChipKeptBut ps c d :=
  kept_of (by simp +decide only [enterFaulted, kept_driveLock, kept_dropAuth, kept_modOutlet, kept_pilotSteady, kept_processorOff, kept_stopConverters, kept_stopSession, kept_ite, kept_refl, ite_self]) h
theorem kept_recordTrip (o : Nat) (all : Bool) (sf : Sf) (ch : Channel) (h : [Part.regs, .saf, .host, .blt, .out] ⊆ ps) :
    ChipKeptBut ps c (recordTrip d o all sf ch) ↔ ChipKeptBut ps c d :=
  kept_of (by simp +decide only [recordTrip, kept_set_saf, kept_blotEvent, kept_raiseEvt, kept_refl]) h
theorem kept_trip (o : Nat) (sf : Sf) (ch : Channel) (cause : Nat) (h : [Part.regs, .tb, .acc, .sess, .outl, .saf, .nib, .pwd, .host, .blt, .out] ⊆ ps) :
    ChipKeptBut ps c (trip d o sf ch cause) ↔ ChipKeptBut ps c d :=
  kept_of (by simp +decide only [trip, kept_set_nib, kept_enterFaulted, kept_latchTrip, kept_recordTrip, kept_withdrawLine, kept_ite, kept_refl, ite_self]) h
theorem kept_clearSrc (s : Nat) (h : [Part.flt] ⊆ ps) :
    ChipKeptBut ps c (clearSrc d s) ↔ ChipKeptBut ps c d :=
  kept_of (by simp +decide only [clearSrc, kept_set_flt, kept_setSrc, kept_ite, kept_refl, ite_self]) h
theorem kept_dropMarkers (p : Machine.Ring → Bool) (h : [Part.tb] ⊆ ps) :
    ChipKeptBut ps c (dropMarkers d p) ↔ ChipKeptBut ps c d :=
  kept_of (by simp +decide only [dropMarkers, kept_unbook, kept_refl]) h
theorem kept_ringError (q : Machine.Ring) (err : Nat) (dma : Bool) (h : [Part.regs, .tb, .host, .out] ⊆ ps) :
    ChipKeptBut ps c (ringError d q err dma) ↔ ChipKeptBut ps c d :=
  kept_of (by simp +decide only [ringError, kept_dropMarkers, kept_hstEvt, kept_modHost, kept_setRing, kept_ite, kept_refl, ite_self]) h
theorem kept_nsPend (q : NsSeq) (h : [Part.pwd] ⊆ ps) :
    ChipKeptBut ps c (nsPend d q) ↔ ChipKeptBut ps c d :=
  kept_of (by unfold nsPend; split <;> simp +decide only [kept_setCoil, kept_foldl, kept_ite, kept_refl, ite_self, implies_true]) h
theorem kept_nsStart (q : NsSeq) (h : [Part.ns, .pwd] ⊆ ps) :
    ChipKeptBut ps c (nsStart d q) ↔ ChipKeptBut ps c d :=
  kept_of (by simp +decide only [nsStart, kept_set_ns, kept_nsPend, kept_refl]) h
theorem kept_nsFinish (h : [Part.regs, .ns, .pwd, .host, .out] ⊆ ps) :
    ChipKeptBut ps c (nsFinish d) ↔ ChipKeptBut ps c d :=
  kept_of (by simp +decide only [nsFinish]; (repeat' split) <;> simp +decide only [kept_set_ns, kept_completeOpt, kept_nsStart, kept_raiseEvt, kept_refl]) h
theorem kept_stepAddr (a : Nat) (hi : Nat) (h : [Part.regs] ⊆ ps) :
    ChipKeptBut ps c (stepAddr d a hi) ↔ ChipKeptBut ps c d :=
  kept_of (by simp +decide only [stepAddr, kept_regPut, kept_ite, kept_refl, ite_self]) h
theorem kept_publishPrices (table : Nat) (ws : List Word) (h : [Part.tar] ⊆ ps) :
    ChipKeptBut ps c (publishPrices d table ws) ↔ ChipKeptBut ps c d :=
  kept_of (by simp +decide only [publishPrices, kept_set_tar, kept_refl]) h
theorem kept_shadowPut (a : Nat) (w : Word) (h : [Part.regs] ⊆ ps) :
    ChipKeptBut ps c (shadowPut d a w) ↔ ChipKeptBut ps c d :=
  kept_of (by unfold shadowPut; split <;> simp +decide only [kept_regPut, kept_refl]) h
theorem kept_calCycle (h : [Part.met] ⊆ ps) :
    ChipKeptBut ps c (calCycle d) ↔ ChipKeptBut ps c d :=
  kept_of (by simp +decide only [calCycle, kept_set_met, kept_calAbort, kept_ite, kept_refl, ite_self]) h
theorem kept_calDone (h : [Part.regs, .met, .freeCount] ⊆ ps) :
    ChipKeptBut ps c (calDone d) ↔ ChipKeptBut ps c d :=
  kept_of (by simp +decide only [calDone, kept_set_met, kept_regPut, kept_takeFree, kept_ite, kept_refl, ite_self]) h
theorem kept_calSwitched (n : Nat) (h : [Part.met] ⊆ ps) :
    ChipKeptBut ps c (calSwitched d n) ↔ ChipKeptBut ps c d :=
  kept_of (by simp +decide only [calSwitched, kept_set_met, kept_ite, kept_refl, ite_self]) h
theorem kept_clearChunks (es : List PartEntry) (h : [Part.upd] ⊆ ps) :
    ChipKeptBut ps c (clearChunks d es) ↔ ChipKeptBut ps c d :=
  kept_of (by simp +decide only [clearChunks, kept_modUpd, kept_refl]) h
theorem kept_clearSession (h : [Part.upd] ⊆ ps) :
    ChipKeptBut ps c (clearSession d) ↔ ChipKeptBut ps c d :=
  kept_of (by simp +decide only [clearSession, kept_modUpd, kept_refl]) h
theorem kept_releaseBanks (m : Manifest) (h : [Part.upd] ⊆ ps) :
    ChipKeptBut ps c (releaseBanks d m) ↔ ChipKeptBut ps c d :=
  kept_of (by simp +decide only [releaseBanks, kept_modUpd, kept_refl]) h
theorem kept_confirmEnd (m : Manifest) (h : [Part.regs, .host, .upd, .out] ⊆ ps) :
    ChipKeptBut ps c (confirmEnd d m) ↔ ChipKeptBut ps c d :=
  kept_of (by simp +decide only [confirmEnd, kept_clearSession, kept_releaseBanks, kept_updEvt, kept_refl]) h
theorem kept_corruptSlots (bad : List Nat) (h : [Part.acc] ⊆ ps) :
    ChipKeptBut ps c (corruptSlots d bad) ↔ ChipKeptBut ps c d :=
  kept_of (by simp +decide only [corruptSlots, kept_set_acc, kept_refl]) h
theorem kept_countBad (h : [Part.regs, .host, .out] ⊆ ps) :
    ChipKeptBut ps c (countBad d) ↔ ChipKeptBut ps c d :=
  kept_of (by simp +decide only [countBad, kept_raiseEvt, kept_ite, kept_refl, ite_self]) h
theorem kept_runTo (since : Nat) (h : [Part.regs, .tb, .host, .out] ⊆ ps) :
    ChipKeptBut ps c (runTo d since) ↔ ChipKeptBut ps c d :=
  kept_of (by simp +decide only [runTo, kept_set_tb, kept_advanceTime, kept_refl]) h
theorem kept_lswEvt (n : Nat) (b : Nat) (h : [Part.regs, .host, .out] ⊆ ps) :
    ChipKeptBut ps c (lswEvt d n b) ↔ ChipKeptBut ps c d :=
  kept_of (by simp +decide only [lswEvt, kept_raiseEvt, kept_refl]) h
theorem kept_setLsw (n : Nat) (x : LswSt) (h : [Part.lsw] ⊆ ps) :
    ChipKeptBut ps c (setLsw d n x) ↔ ChipKeptBut ps c d :=
  kept_of (by simp +decide only [setLsw, kept_set_lsw, kept_refl]) h
theorem kept_modLsw (n : Nat) (f : LswSt → LswSt) (h : [Part.lsw] ⊆ ps) :
    ChipKeptBut ps c (modLsw d n f) ↔ ChipKeptBut ps c d :=
  kept_of (by simp +decide only [modLsw, kept_setLsw, kept_refl]) h
theorem kept_flip (h : [Part.regs, .dsp, .host, .out] ⊆ ps) :
    ChipKeptBut ps c (flip d) ↔ ChipKeptBut ps c d :=
  kept_of (by
    unfold Machine.flip
    split <;> simp +decide only [kept_completeOpt, kept_dspEvt, kept_modDsp, kept_refl]) h
theorem kept_scanReported (old : Chip) (h : [Part.regs, .host, .out] ⊆ ps) :
    ChipKeptBut ps c (scanReported old d) ↔ ChipKeptBut ps c d :=
  kept_of (by simp +decide only [scanReported, kept_raiseEvt, kept_ite, kept_refl, ite_self]) h
theorem kept_takeMethod (h : [Part.age] ⊆ ps) :
    ChipKeptBut ps c (takeMethod d) ↔ ChipKeptBut ps c d :=
  kept_of (by simp +decide only [takeMethod, kept_set_age, kept_ite, kept_refl, ite_self]) h
theorem kept_slewGains (h : [Part.age] ⊆ ps) :
    ChipKeptBut ps c (slewGains d) ↔ ChipKeptBut ps c d :=
  kept_of (by simp +decide only [slewGains, kept_set_age, kept_refl]) h
theorem kept_drainEnd (k : Nat) (h : [Part.regs, .sup, .outl, .pwd, .host, .fab, .out] ⊆ ps) :
    ChipKeptBut ps c (drainEnd d k) ↔ ChipKeptBut ps c d :=
  kept_of (by simp +decide only [drainEnd, kept_set_sup, kept_floodLsa, kept_modOutlet, kept_pilotF, kept_setFport, kept_topoChanged, kept_tryAvailable, kept_ite, kept_refl, ite_self]) h
theorem kept_dueQuarantine (cause : Nat) (h : [Part.sup] ⊆ ps) :
    ChipKeptBut ps c (dueQuarantine d cause) ↔ ChipKeptBut ps c d :=
  kept_of (by simp +decide only [dueQuarantine, kept_set_sup, kept_refl]) h
theorem kept_plugIn (o : Outlet) (h : [Part.outl, .pwd] ⊆ ps) :
    ChipKeptBut ps c (plugIn d o) ↔ ChipKeptBut ps c d :=
  kept_of (by simp +decide only [plugIn, kept_driveLock, kept_pilotDuty, kept_pilotSteady, kept_ite, kept_refl, ite_self]) h
theorem kept_exchange (p : Nat) (h : [Part.fab, .out] ⊆ ps) :
    ChipKeptBut ps c (exchange d p) ↔ ChipKeptBut ps c d :=
  kept_of (by simp +decide only [exchange, kept_emits, kept_floodLsa, kept_refl]) h
theorem kept_settleOutlet (o : Nat) (h : [Part.acc, .sess, .outl, .pwd, .host, .out] ⊆ ps) :
    ChipKeptBut ps c (settleOutlet d o) ↔ ChipKeptBut ps c d :=
  kept_of (by simp +decide only [settleOutlet, kept_enterUnavailable, kept_stopSession, kept_ite, kept_refl, ite_self]) h
theorem kept_feedLane (n : Nat) (p' : List Period) (miss : Nat) (h : [Part.regs, .met, .host, .out] ⊆ ps) :
    ChipKeptBut ps c (feedLane d n p' miss) ↔ ChipKeptBut ps c d :=
  kept_of (by simp +decide only [feedLane, kept_calSwitched, kept_emit, kept_raiseEvt, kept_setLane, kept_ite, kept_refl, ite_self]) h
theorem kept_fenceRegion (r : Region) (h : [Part.regs, .sup, .ns, .tb, .pwd, .host, .fab, .out] ⊆ ps) :
    ChipKeptBut ps c (fenceRegion d r) ↔ ChipKeptBut ps c d :=
  kept_of (by simp +decide only [fenceRegion, kept_set_sup, kept_discardRegion, kept_discardWork, kept_nsRouterLost, kept_ite, kept_refl, ite_self]) h
theorem kept_findHead (h : [Part.leg] ⊆ ps) :
    ChipKeptBut ps c (findHead d) ↔ ChipKeptBut ps c d :=
  kept_of (by unfold findHead; split <;> simp +decide only [kept_set_leg, kept_refl]) h
theorem kept_finishSample (n : Nat) (dcPoint : Bool) (h : [Part.regs, .met, .host, .out] ⊆ ps) :
    ChipKeptBut ps c (finishSample d n dcPoint) ↔ ChipKeptBut ps c d :=
  kept_of (by simp +decide only [finishSample, kept_raiseEvt, kept_setLane, kept_ite, kept_refl, ite_self]) h
theorem kept_stepPending (t : TimeSrc) (offset : Int) (h : [Part.tb] ⊆ ps) :
    ChipKeptBut ps c (stepPending d t offset) ↔ ChipKeptBut ps c d :=
  kept_of (by simp +decide only [stepPending, kept_set_tb, kept_ite, kept_refl, ite_self]) h
theorem kept_wallOffset (t : TimeSrc) (offset : Int) (h : [Part.regs, .tb, .host, .blt, .out] ⊆ ps) :
    ChipKeptBut ps c (wallOffset d t offset) ↔ ChipKeptBut ps c d :=
  kept_of (by simp +decide only [wallOffset, kept_set_tb, kept_blotEvent, kept_raiseEvt, kept_stepPending, kept_ite, kept_refl, ite_self]) h
theorem kept_followRoot (p : Nat) (y : SyncBody) (rx : Nat) (h : [Part.regs, .tb, .host, .fab, .blt, .out, .freeCount] ⊆ ps) :
    ChipKeptBut ps c (followRoot d p y rx) ↔ ChipKeptBut ps c d :=
  kept_of (by unfold followRoot; split <;> simp +decide only [kept_bookRound, kept_modFab, kept_takeFree, kept_wallOffset, kept_ite, kept_refl, ite_self]) h
theorem kept_sendGain (n : Nat) (x16 : Bool) (h : [Part.met, .out] ⊆ ps) :
    ChipKeptBut ps c (sendGain d n x16) ↔ ChipKeptBut ps c d :=
  kept_of (by simp +decide only [sendGain, kept_emit, kept_setLane, kept_refl]) h
theorem kept_formatRing (h : [Part.tb, .met, .acc] ⊆ ps) :
    ChipKeptBut ps c (formatRing d) ↔ ChipKeptBut ps c d :=
  kept_of (by simp +decide only [formatRing, kept_set_tb_met_acc, kept_refl]) h
theorem kept_forwardFlood (h' : FeltHdr) (typ : Nat) (h : [Part.fab, .out] ⊆ ps) :
    ChipKeptBut ps c (forwardFlood d h' typ) ↔ ChipKeptBut ps c d :=
  kept_of (by simp +decide only [forwardFlood, kept_emits, kept_modFab, kept_ite, kept_refl, ite_self]) h
theorem kept_harmCycle (n : Nat) (h : [Part.met] ⊆ ps) :
    ChipKeptBut ps c (harmCycle d n) ↔ ChipKeptBut ps c d :=
  kept_of (by simp +decide only [harmCycle, kept_set_met, kept_ite, kept_refl, ite_self]) h
theorem kept_holderRefused (sid : BitVec 128) (a : Nat) (h : [Part.sess, .fab, .repl, .out] ⊆ ps) :
    ChipKeptBut ps c (holderRefused d sid a) ↔ ChipKeptBut ps c d :=
  kept_of (by simp +decide only [holderRefused, kept_set_repl, kept_dropHolder, kept_modSession, kept_replaceSession, kept_refl]) h
theorem kept_lswTripsZero (n : Nat) (h : [Part.lsw, .flt] ⊆ ps) :
    ChipKeptBut ps c (lswTripsZero d n) ↔ ChipKeptBut ps c d :=
  kept_of (by simp +decide only [lswTripsZero, kept_clearSrc, kept_setLsw, kept_ite, kept_refl, ite_self]) h
theorem kept_lswOffDemand (n : Nat) (h : [Part.lsw, .flt] ⊆ ps) :
    ChipKeptBut ps c (lswOffDemand d n) ↔ ChipKeptBut ps c d :=
  kept_of (by simp +decide only [lswOffDemand, kept_lswTripsZero, kept_modLsw, kept_refl]) h
theorem kept_lswBrownOut (h : [Part.lsw, .flt] ⊆ ps) :
    ChipKeptBut ps c (lswBrownOut d) ↔ ChipKeptBut ps c d :=
  kept_of (by simp +decide only [lswBrownOut, kept_lswOffDemand, kept_modLsw, kept_foldl, kept_ite, kept_refl, ite_self, implies_true]) h
theorem kept_setSupplies (vmain : Nat) (supplies : Nat) (h : [Part.pwd] ⊆ ps) :
    ChipKeptBut ps c (setSupplies d vmain supplies) ↔ ChipKeptBut ps c d :=
  kept_of (by simp +decide only [setSupplies, kept_set_pwd, kept_refl]) h
theorem kept_setVhold (mv : Nat) (h : [Part.pwd, .freeCount] ⊆ ps) :
    ChipKeptBut ps c (setVhold d mv) ↔ ChipKeptBut ps c d :=
  kept_of (by simp +decide only [setVhold, kept_set_pwd, kept_takeFree, kept_refl]) h
theorem kept_tearRecord (h : [Part.blt, .freeCount] ⊆ ps) :
    ChipKeptBut ps c (tearRecord d) ↔ ChipKeptBut ps c d :=
  kept_of (by simp +decide only [tearRecord]; (repeat' split) <;> simp +decide only [kept_set_blt, kept_takeFree, kept_refl]) h
theorem kept_tearEntry (h : [Part.leg] ⊆ ps) :
    ChipKeptBut ps c (tearEntry d) ↔ ChipKeptBut ps c d :=
  kept_of (by unfold tearEntry; split <;> simp +decide only [kept_set_leg, kept_ite, kept_refl, ite_self]) h
theorem kept_laneCycle (n : Nat) (h : [Part.regs, .met, .host, .out] ⊆ ps) :
    ChipKeptBut ps c (laneCycle d n) ↔ ChipKeptBut ps c d :=
  kept_of (by simp +decide only [laneCycle, kept_calSwitched, kept_harmCycle, kept_raiseEvt, kept_sendGain, kept_setLane, kept_ite, kept_refl, ite_self]) h
theorem kept_laneCycles (h : [Part.regs, .met, .host, .out] ⊆ ps) :
    ChipKeptBut ps c (laneCycles d) ↔ ChipKeptBut ps c d :=
  kept_of (by simp +decide only [laneCycles, kept_laneCycle, kept_foldl, kept_refl, implies_true]) h
theorem kept_latch (i : OutEvent) (h : [Part.latched] ⊆ ps) :
    ChipKeptBut ps c (latch d i) ↔ ChipKeptBut ps c d :=
  kept_of (by simp +decide only [latch, kept_set_latched, kept_refl]) h
theorem kept_lswStart (n : Nat) (fast : Bool) (h : [Part.lsw] ⊆ ps) :
    ChipKeptBut ps c (lswStart d n fast) ↔ ChipKeptBut ps c d :=
  kept_of (by simp +decide only [lswStart, kept_modLsw, kept_ite, kept_refl, ite_self]) h
theorem kept_lswOnDemand (n : Nat) (fast : Bool) (h : [Part.lsw] ⊆ ps) :
    ChipKeptBut ps c (lswOnDemand d n fast) ↔ ChipKeptBut ps c d :=
  kept_of (by simp +decide only [lswOnDemand, kept_lswStart, kept_modLsw, kept_ite, kept_refl, ite_self]) h
theorem kept_lswSettle (old : Chip) (fast : Bool) (n : Nat) (h : [Part.lsw, .flt] ⊆ ps) :
    ChipKeptBut ps c (lswSettle old fast d n) ↔ ChipKeptBut ps c d :=
  kept_of (by simp +decide only [lswSettle, kept_lswOffDemand, kept_lswOnDemand, kept_ite, kept_refl, ite_self]) h
theorem kept_lswSettleAll (old : Chip) (h : [Part.lsw, .flt] ⊆ ps) :
    ChipKeptBut ps c (lswSettleAll old d) ↔ ChipKeptBut ps c d :=
  kept_of (by simp +decide only [lswSettleAll, kept_lswSettle, kept_foldl, kept_refl, implies_true]) h
theorem kept_setLswCurrent (b : Bool) (i : Nat) (h : [Part.lsw] ⊆ ps) :
    ChipKeptBut ps c (setLswCurrent d b i) ↔ ChipKeptBut ps c d :=
  kept_of (by simp +decide only [setLswCurrent, kept_set_lsw, kept_refl]) h
theorem kept_setLswRail (b : Bool) (mv : Nat) (h : [Part.pwd, .lsw] ⊆ ps) :
    ChipKeptBut ps c (setLswRail d b mv) ↔ ChipKeptBut ps c d :=
  kept_of (by simp +decide only [setLswRail, kept_set_pwd_lsw, kept_refl]) h
theorem kept_lswMeasured (n : Nat) (m : LswMeas) (h : [Part.pwd, .lsw] ⊆ ps) :
    ChipKeptBut ps c (lswMeasured d n m) ↔ ChipKeptBut ps c d :=
  kept_of (by simp +decide only [lswMeasured, kept_modLsw, kept_setLswCurrent, kept_setLswRail, kept_refl]) h
theorem kept_measurePoint (m : Nat) (h : [Part.regs, .met, .host, .out] ⊆ ps) :
    ChipKeptBut ps c (measurePoint d m) ↔ ChipKeptBut ps c d :=
  kept_of (by simp +decide only [measurePoint, kept_raiseEvt, kept_setPt, kept_ite, kept_refl, ite_self]) h
theorem kept_setModule (b : Nat) (a : Nat) (m : Machine.Module) (h : [Part.outl] ⊆ ps) :
    ChipKeptBut ps c (setModule d b a m) ↔ ChipKeptBut ps c d :=
  kept_of (by simp +decide only [setModule, kept_set_outl, kept_refl]) h
theorem kept_moduleLost (b : Nat) (a : Nat) (h : [Part.regs, .tb, .outl, .saf, .pwd, .host, .out, .freeCount] ⊆ ps) :
    ChipKeptBut ps c (moduleLost d b a) ↔ ChipKeptBut ps c d :=
  kept_of (by simp +decide only [moduleLost, kept_ite, kept_refl]; (repeat' split) <;> simp +decide only [kept_enterOpening, kept_outEvt, kept_setModule, kept_takeFree, kept_updateIlim, kept_refl]) h
theorem kept_moveMember (old : Nat) (new : Nat) (h : [Part.sess, .repl] ⊆ ps) :
    ChipKeptBut ps c (moveMember d old new) ↔ ChipKeptBut ps c d :=
  kept_of (by simp +decide only [moveMember, kept_set_sess_repl, kept_refl]) h
theorem kept_nibBack (h : [Part.sup, .saf, .flt] ⊆ ps) :
    ChipKeptBut ps c (nibBack d) ↔ ChipKeptBut ps c d :=
  kept_of (by unfold nibBack; split <;> simp +decide only [kept_set_saf, kept_clearSrc, kept_dropSafeCause, kept_ite, kept_refl, ite_self]) h
theorem kept_nsLand (h : [Part.regs, .ns, .pwd, .host, .fab, .out] ⊆ ps) :
    ChipKeptBut ps c (nsLand d) ↔ ChipKeptBut ps c d :=
  kept_of (by simp +decide only [nsLand]; (repeat' split) <;> simp +decide only [kept_set_ns, kept_nsFinish, kept_nsLandedAt, kept_nsPend, kept_refl]) h
theorem kept_unlockNow (o : Nat) (h : [Part.outl, .pwd] ⊆ ps) :
    ChipKeptBut ps c (unlockNow d o) ↔ ChipKeptBut ps c d :=
  kept_of (by simp +decide only [unlockNow, kept_driveLock, kept_modOutlet, kept_ite, kept_refl, ite_self]) h
theorem kept_refuseSign (j : SignJob) (h : [Part.leg, .host, .out] ⊆ ps) :
    ChipKeptBut ps c (refuseSign d j) ↔ ChipKeptBut ps c d :=
  kept_of (by unfold refuseSign; split <;> simp +decide only [kept_set_leg, kept_complete, kept_foldl, kept_refl, implies_true]) h
theorem kept_openDebug (scope : Nat) (h : [Part.regs, .leg, .host, .tru, .out] ⊆ ps) :
    ChipKeptBut ps c (openDebug d scope) ↔ ChipKeptBut ps c d :=
  kept_of (by simp +decide only [openDebug, kept_set_tru, kept_raiseEvt, kept_refuseSign, kept_foldl, kept_refl, implies_true]) h
theorem kept_openEnabled (h : [Part.tar] ⊆ ps) :
    ChipKeptBut ps c (openEnabled d) ↔ ChipKeptBut ps c d :=
  kept_of (by simp +decide only [openEnabled, kept_openIntervals, kept_ite, kept_refl, ite_self]) h
theorem kept_outageSpans (h : [Part.tar, .sess, .leg] ⊆ ps) :
    ChipKeptBut ps c (outageSpans d) ↔ ChipKeptBut ps c d :=
  kept_of (by unfold outageSpans; split <;> simp +decide only [kept_set_sess, kept_setInt, kept_unmeasuredEntry, kept_foldl, kept_ite, kept_refl, ite_self, implies_true]) h
theorem kept_outletZeros (o : Nat) (h : [Part.outl] ⊆ ps) :
    ChipKeptBut ps c (outletZeros d o) ↔ ChipKeptBut ps c d :=
  kept_of (by unfold outletZeros; split <;> simp +decide only [kept_modOutlet, kept_ite, kept_refl, ite_self]) h
theorem kept_passOn (h' : FeltHdr) (typ : Nat) (flood : Bool) (h : [Part.fab, .out] ⊆ ps) :
    ChipKeptBut ps c (passOn d h' typ flood) ↔ ChipKeptBut ps c d :=
  kept_of (by simp +decide only [passOn, kept_forwardFlood, kept_ite, kept_refl]; (repeat' split) <;> simp +decide only [kept_emit, kept_refl]) h
theorem kept_resetSettings (m : Manifest) (h : [Part.regs, .outl, .host, .upd, .blt, .out] ⊆ ps) :
    ChipKeptBut ps c (resetSettings d m) ↔ ChipKeptBut ps c d :=
  kept_of (by simp +decide only [resetSettings, kept_set_outl, kept_blotEvent, kept_modUpd, kept_updEvt, kept_foldl, kept_ite, kept_refl, ite_self, implies_true]) h
theorem kept_switchBanks (m : Manifest) (j : Journal) (h : [Part.upd] ⊆ ps) :
    ChipKeptBut ps c (switchBanks d m j) ↔ ChipKeptBut ps c d :=
  kept_of (by simp +decide only [switchBanks, kept_modUpd, kept_refl]) h
theorem kept_resetPwdRegs (h : [Part.regs, .live, .cg] ⊆ ps) :
    ChipKeptBut ps c (resetPwdRegs d) ↔ ChipKeptBut ps c d :=
  kept_of (by simp +decide only [resetPwdRegs, kept_set_regs_live_cg, kept_refl]) h
theorem kept_putLsa (r : LsaRec) (h : [Part.fab] ⊆ ps) :
    ChipKeptBut ps c (putLsa d r) ↔ ChipKeptBut ps c d :=
  kept_of (by simp +decide only [putLsa, kept_modFab, kept_refl]) h
theorem kept_restoreSettings (h : [Part.outl, .upd] ⊆ ps) :
    ChipKeptBut ps c (restoreSettings d) ↔ ChipKeptBut ps c d :=
  kept_of (by unfold restoreSettings; split <;> simp +decide only [kept_set_outl, kept_modUpd, kept_refl]) h
theorem kept_rolledBack (h : [Part.regs, .outl, .host, .upd, .out] ⊆ ps) :
    ChipKeptBut ps c (rolledBack d) ↔ ChipKeptBut ps c d :=
  kept_of (by simp +decide only [rolledBack, kept_clearSession, kept_completeOpt, kept_restoreSettings, kept_updEvt, kept_refl]) h
theorem kept_rollBack (by' : Option Requester) (h : [Part.outl, .upd] ⊆ ps) :
    ChipKeptBut ps c (rollBack d by') ↔ ChipKeptBut ps c d :=
  kept_of (by unfold rollBack; split <;> simp +decide only [kept_modUpd, kept_restoreSettings, kept_switchBanks, kept_refl]) h
theorem kept_quillStart (h : [Part.regs, .outl, .host, .upd, .blt, .out] ⊆ ps) :
    ChipKeptBut ps c (quillStart d) ↔ ChipKeptBut ps c d :=
  kept_of (by simp +decide only [quillStart]; (repeat' split) <;> simp +decide only [kept_confirmEnd, kept_modUpd, kept_resetSettings, kept_rollBack, kept_rolledBack, kept_refl]) h
theorem kept_rebook (h : [Part.regs, .tb, .host, .out] ⊆ ps) :
    ChipKeptBut ps c (rebook d) ↔ ChipKeptBut ps c d :=
  kept_of (by simp +decide only [rebook, kept_set_tb, kept_book, kept_foldl, kept_refl, implies_true]) h
theorem kept_refreshMirror (h : [Part.regs, .saf] ⊆ ps) :
    ChipKeptBut ps c (refreshMirror d) ↔ ChipKeptBut ps c d :=
  kept_of (by simp +decide only [refreshMirror, kept_set_saf, kept_regPut, kept_foldl, kept_refl, implies_true]) h
theorem kept_startXmt (f : Fuses) (h : [Part.regs, .sup, .host, .tru, .out] ⊆ ps) :
    ChipKeptBut ps c (startXmt f d) ↔ ChipKeptBut ps c d :=
  kept_of (by unfold startXmt; split <;> simp +decide only [kept_set_tru, kept_dueQuarantine, kept_raiseEvt, kept_ite, kept_refl, ite_self]) h
theorem kept_startTru (f : Fuses) (h : [Part.regs, .sup, .host, .tru, .out, .freeCount] ⊆ ps) :
    ChipKeptBut ps c (startTru f d) ↔ ChipKeptBut ps c d :=
  kept_of (by simp +decide only [startTru, kept_set_tru, kept_dueQuarantine, kept_startXmt, kept_takeFree, kept_ite, kept_refl, ite_self]) h
theorem kept_ringLost (h : [Part.sup, .tb] ⊆ ps) :
    ChipKeptBut ps c (ringLost d) ↔ ChipKeptBut ps c d :=
  kept_of (by simp +decide only [ringLost, kept_set_tb, kept_dueQuarantine, kept_refl]) h
theorem kept_restoreCounts (sl : CommitSlot) (h : [Part.met] ⊆ ps) :
    ChipKeptBut ps c (restoreCounts d sl) ↔ ChipKeptBut ps c d :=
  kept_of (by simp +decide only [restoreCounts, kept_setPt, kept_foldl, kept_refl, implies_true]) h
theorem kept_restoreSlot (place : Nat) (sl : CommitSlot) (h : [Part.regs, .tb, .met, .acc, .host, .out] ⊆ ps) :
    ChipKeptBut ps c (restoreSlot d place sl) ↔ ChipKeptBut ps c d :=
  kept_of (by simp +decide only [restoreSlot, kept_set_tb_acc, kept_raiseEvt, kept_restoreCounts, kept_ite, kept_refl, ite_self]) h
theorem kept_restoreRing (bad : List Nat) (h : [Part.regs, .sup, .tb, .met, .acc, .host, .out] ⊆ ps) :
    ChipKeptBut ps c (restoreRing d bad) ↔ ChipKeptBut ps c d :=
  kept_of (by simp +decide only [restoreRing]; split <;> simp +decide only [kept_set_acc, kept_corruptSlots, kept_countBad, kept_formatRing, kept_restoreSlot, kept_ringLost, kept_ite, kept_refl, ite_self]) h
theorem kept_restoreCalendars (h : [Part.regs, .tar, .host, .blt, .out] ⊆ ps) :
    ChipKeptBut ps c (restoreCalendars d) ↔ ChipKeptBut ps c d :=
  kept_of (by unfold restoreCalendars; split <;> simp +decide only [kept_set_tar, kept_blotEvent, kept_ite, kept_refl, ite_self]) h
theorem kept_sealEntry (h : [Part.leg] ⊆ ps) :
    ChipKeptBut ps c (sealEntry d) ↔ ChipKeptBut ps c d :=
  kept_of (by simp +decide only [sealEntry, kept_legalEntry, kept_refl]) h
theorem kept_startSeal (pin : Bool) (h : [Part.leg] ⊆ ps) :
    ChipKeptBut ps c (startSeal d pin) ↔ ChipKeptBut ps c d :=
  kept_of (by simp +decide only [startSeal, kept_set_leg, kept_sealEntry, kept_ite, kept_refl, ite_self]) h
theorem kept_startLegal (f : Fuses) (bad : BitVec 4) (sealPin : Bool) (h : [Part.sup, .wipe, .tar, .sess, .leg] ⊆ ps) :
    ChipKeptBut ps c (startLegal f d bad sealPin) ↔ ChipKeptBut ps c d :=
  kept_of (by simp +decide only [startLegal, kept_set_wipe, kept_set_leg, kept_dueQuarantine, kept_findHead, kept_legalEntry, kept_outageSpans, kept_startSeal, kept_ite, kept_refl, ite_self]) h
theorem kept_startMet (f : Fuses) (bad : List Nat) (badCopies : BitVec 4) (sealPin : Bool) (h : [Part.regs, .sup, .wipe, .tb, .met, .acc, .tar, .sess, .leg, .outl, .saf, .pwd, .host, .blt, .out, .freeCount] ⊆ ps) :
    ChipKeptBut ps c (startMet f d bad badCopies sealPin) ↔ ChipKeptBut ps c d :=
  kept_of (by simp +decide only [startMet, kept_assignLanes, kept_restoreCalendars, kept_restoreRing, kept_startLegal, kept_refl]) h
theorem kept_wipeSettings (h : [Part.regs, .live] ⊆ ps) :
    ChipKeptBut ps c (wipeSettings d) ↔ ChipKeptBut ps c d :=
  kept_of (by simp +decide only [wipeSettings, kept_set_regs_live, kept_refl]) h
theorem kept_wipeOthers (h : [Part.regs, .live, .acc, .tar, .sess, .outl, .age, .fab, .repl, .tru, .upd, .flt, .blt] ⊆ ps) :
    ChipKeptBut ps c (wipeOthers d) ↔ ChipKeptBut ps c d :=
  kept_of (by simp +decide only [wipeOthers, kept_set_acc_tar_sess_outl_age_fab_repl_tru_upd_flt_blt, kept_wipeSettings, kept_refl]) h
theorem kept_wipeLegal (h : [Part.regs, .live, .acc, .leg, .tru] ⊆ ps) :
    ChipKeptBut ps c (wipeLegal d) ↔ ChipKeptBut ps c d :=
  kept_of (by simp +decide only [wipeLegal, kept_set_regs_live_acc_leg_tru, kept_refl]) h
theorem kept_startWipe (h : [Part.regs, .live, .wipe, .acc, .tar, .sess, .leg, .outl, .age, .host, .fab, .repl, .tru, .upd, .flt, .blt, .out] ⊆ ps) :
    ChipKeptBut ps c (startWipe d) ↔ ChipKeptBut ps c d :=
  kept_of (by simp +decide only [startWipe, kept_set_wipe_blt, kept_blotEvent, kept_wipeLegal, kept_wipeOthers, kept_ite, kept_refl, ite_self]) h
theorem kept_retryOutlets (h : [Part.regs, .tb, .acc, .sess, .outl, .saf, .pwd, .host, .fab, .repl, .out, .freeCount] ⊆ ps) :
    ChipKeptBut ps c (retryOutlets d) ↔ ChipKeptBut ps c d :=
  kept_of (by simp +decide only [retryOutlets, kept_tryClose, kept_tryStart, kept_foldl, kept_ite, kept_refl, ite_self, implies_true]) h
theorem kept_sampleCal (h : [Part.met] ⊆ ps) :
    ChipKeptBut ps c (sampleCal d) ↔ ChipKeptBut ps c d :=
  kept_of (by simp +decide only [sampleCal, kept_set_met, kept_ite, kept_refl, ite_self]) h
theorem kept_takeSample (xs : List LaneSample) (dcPoint : Bool) (n : Nat) (h : [Part.regs, .met, .host, .out] ⊆ ps) :
    ChipKeptBut ps c (takeSample xs dcPoint d n) ↔ ChipKeptBut ps c d :=
  kept_of (by simp +decide only [takeSample, kept_feedLane, kept_finishSample, kept_setLane, kept_ite, kept_refl, ite_self]) h
theorem kept_samplePoint (xs : List LaneSample) (m : Nat) (h : [Part.regs, .met, .host, .out] ⊆ ps) :
    ChipKeptBut ps c (samplePoint xs d m) ↔ ChipKeptBut ps c d :=
  kept_of (by simp +decide only [samplePoint, kept_measurePoint, kept_takeSample, kept_foldl, kept_ite, kept_refl, ite_self, implies_true]) h
theorem kept_sendAck (dst : Nat) (sid : BitVec 128) (cycle : Nat) (result : Nat) (h : [Part.fab, .out] ⊆ ps) :
    ChipKeptBut ps c (sendAck d dst sid cycle result) ↔ ChipKeptBut ps c d :=
  kept_of (by simp +decide only [sendAck, kept_sendTo, kept_refl]) h
theorem kept_sendPending (v : Nat) (h : [Part.host, .out] ⊆ ps) :
    ChipKeptBut ps c (sendPending d v) ↔ ChipKeptBut ps c d :=
  kept_of (by simp +decide only [sendPending, kept_emit, kept_modHost, kept_ite, kept_refl, ite_self]) h
theorem kept_setBadLines (v : BitVec 8) (h : [Part.pwd] ⊆ ps) :
    ChipKeptBut ps c (setBadLines d v) ↔ ChipKeptBut ps c d :=
  kept_of (by simp +decide only [setBadLines, kept_set_pwd, kept_releaseCoil, kept_foldl, kept_ite, kept_refl, ite_self, implies_true]) h
theorem kept_setLswUv (b : Bool) (v : Bool) (h : [Part.lsw] ⊆ ps) :
    ChipKeptBut ps c (setLswUv d b v) ↔ ChipKeptBut ps c d :=
  kept_of (by simp +decide only [setLswUv, kept_set_lsw, kept_refl]) h
theorem kept_takeBeacon (p : Nat) (y : SyncBody) (h : [Part.tb] ⊆ ps) :
    ChipKeptBut ps c (takeBeacon d p y) ↔ ChipKeptBut ps c d :=
  kept_of (by simp +decide only [takeBeacon, kept_set_tb, kept_beaconSeen, kept_ite, kept_refl, ite_self]) h
theorem kept_tbCycle (h : [Part.tb] ⊆ ps) :
    ChipKeptBut ps c (tbCycle d) ↔ ChipKeptBut ps c d :=
  kept_of (by simp +decide only [tbCycle, kept_set_tb, kept_refl]) h
theorem kept_writeBanks (m : Manifest) (h : [Part.upd] ⊆ ps) :
    ChipKeptBut ps c (writeBanks d m) ↔ ChipKeptBut ps c d :=
  kept_of (by simp +decide only [writeBanks, kept_modUpd, kept_refl]) h
theorem kept_zerosAngleZero (h : [Part.outl] ⊆ ps) :
    ChipKeptBut ps c (zerosAngleZero d) ↔ ChipKeptBut ps c d :=
  kept_of (by simp +decide only [zerosAngleZero, kept_outletZeros, kept_foldl, kept_ite, kept_refl, ite_self, implies_true]) h
end
end Sys2Proof
end

section
/-! PROOFS. How a clause is shown of a command: what it answers, which registers it leaves, and the request or report it ends
with. -/

namespace Sys2Proof

open Machine

/-! ### Answers -/

theorem answers_chip {i : Instr} {s : State} {P : State → Prop} {d : Chip} (h : exec i s = .next { s with chip := d })
    (hP : P { s with chip := d }) : Answers i s P := ⟨_, h, hP⟩

theorem storesKept_chip (s : State) (d : Chip) : StoresKept s { s with chip := d } := ⟨rfl, rfl, rfl⟩

theorem keptBut_chip {ps : List Part} {s : State} {d : Chip} :
    KeptBut ps s { s with chip := d } ↔ ChipKeptBut ps s.chip d :=
  ⟨fun h => h.2, fun h => ⟨storesKept_chip s d, h⟩⟩

theorem reports_chip {i : Instr} {s : State} {src detail : Nat} {P : Chip → Chip → Prop} {e : Chip}
    (h : exec i s = .next { s with chip := reportSrc e src detail }) (hP : P s.chip e) : Reports i s src detail P :=
  ⟨_, h, storesKept_chip s _, e, hP, rfl⟩

theorem replies_chip {i : Instr} {s : State} {req : Requester} {op : Nat} {a : Answer} {P : Chip → Chip → Prop} {e : Chip}
    (h : exec i s = .next { s with chip := complete e req a }) (hP : P (begun s.chip req op) e) :
    Replies i s req op a P :=
  ⟨_, h, storesKept_chip s _, e, hP, rfl⟩

/-- A request that is performed is answered where its block's work ends with the answer. -/
theorem replies_perform {i : Instr} {s : State} {req : Requester} {op : Nat} {b : Block} {act : Chip → Chip} {a : Answer}
    {P : Chip → Chip → Prop} {e : Chip} (h : exec i s = .next { s with chip := perform s.chip req op b act })
    (hperf : performs s.chip req op b = true) (hact : act (begun s.chip req op) = complete e req a)
    (hP : P (begun s.chip req op) e) : Replies i s req op a P :=
  replies_chip (h.trans (by rw [perform_of_performs _ _ _ _ _ hperf, hact])) hP

theorem begun_kept (c : Chip) (req : Requester) (op : Nat) : ChipKeptBut [.host] c (begun c req op) := by
  cases req with
  | service tag => exact .refl _ c
  | host q tag => exact (kept_set_host (by decide)).2 (.refl _ c)

/-! ### Registers -/

theorem RegsKeptBut.refl (as : List Nat) (c : Chip) : RegsKeptBut as c c := fun _ _ => rfl

theorem RegsKeptBut.of_regs {as : List Nat} {c d : Chip} (h : d.regs = c.regs) : RegsKeptBut as c d := fun a _ => by
  rw [regGet, regGet, h]

theorem RegsKeptBut.trans {as : List Nat} {c d e : Chip} (h : RegsKeptBut as c d) (g : RegsKeptBut as d e) :
    RegsKeptBut as c e := fun a ha => (g a ha).trans (h a ha)

theorem RegsKeptBut.mono {as bs : List Nat} {c d : Chip} (h : RegsKeptBut bs c d) (hs : bs ⊆ as) : RegsKeptBut as c d :=
  fun a ha => h a fun hb => ha (hs hb)

theorem ChipKeptBut.regsKept {ps : List Part} {as : List Nat} {c d : Chip} (h : ChipKeptBut ps c d)
    (hp : Part.regs ∉ ps := by decide) : RegsKeptBut as c d := .of_regs (h .regs hp)

/-- R357: what an event leaves in the register file is fixed by the file. -/
theorem raiseEvt_regs (c : Chip) (a b : Nat) :
    (raiseEvt c a b).regs = if immBit c a b then c.regs else rput c.regs a (withBit (rget c.regs a) b true) := by
  unfold raiseEvt
  split
  · rfl
  · rw [routeEvt_regs]; rfl

theorem regsKept_regPut {as : List Nat} {a : Nat} (c : Chip) (w : Word) (h : a ∈ as) : RegsKeptBut as c (regPut c a w) :=
  fun _ hx => regGet_regPut_ne c w fun e => hx (e ▸ h)

theorem regsKept_raiseEvt {as : List Nat} {a : Nat} (c : Chip) (b : Nat) (h : a ∈ as) :
    RegsKeptBut as c (raiseEvt c a b) :=
  fun _ hx => regGet_raiseEvt_ne c b fun e => hx (e ▸ h)

end Sys2Proof
end

section
/-! PROOFS. Folds over outlets, lanes or channels: what every step keeps, and what one step brings about. -/

namespace Sys2Proof.Machine

theorem foldl_keeps {α β : Type} {P : β → Prop} {f : β → α → β} (hf : ∀ b a, P b → P (f b a)) (l : List α) {b : β}
    (hb : P b) : P (l.foldl f b) := by
  induction l generalizing b with
  | nil => exact hb
  | cons a l ih => exact ih (hf b a hb)

theorem foldl_reaches {α β : Type} {P : β → Prop} {f : β → α → β} {a : α} (ha : ∀ b, P (f b a))
    (hf : ∀ b x, P b → P (f b x)) {l : List α} (hl : a ∈ l) (b : β) : P (l.foldl f b) := by
  induction l generalizing b with
  | nil => cases hl
  | cons x l ih =>
    rcases List.mem_cons.1 hl with rfl | hl
    · exact foldl_keeps hf l (ha b)
    · exact ih hl _

/-- What no step changes, the fold does not. -/
theorem foldl_same {α β γ : Type} {f : β → α → β} (v : β → γ) (hf : ∀ b a, v (f b a) = v b) (l : List α) (b : β) :
    v (l.foldl f b) = v b :=
  foldl_keeps (P := fun x => v x = v b) (fun x a hx => (hf x a).trans hx) l rfl

end Sys2Proof.Machine
end

section
/-! PROOFS. Coils of the power die (R270, R271): each has its own place in the table. -/

namespace Sys2Proof.Machine

@[simp] theorem coilOf_setCoil_same (c : Chip) (o : Nat) (k : Coil) : coilOf (setCoil c o k) o = k :=
  tget_tput_self _ _ _ _

theorem coilOf_setCoil_ne (c : Chip) {o p : Nat} (k : Coil) (h : p ≠ o) : coilOf (setCoil c o k) p = coilOf c p :=
  tget_tput_ne _ _ _ h

theorem coilOf_of_pwd {c d : Chip} (h : d.pwd = c.pwd) (o : Nat) : coilOf d o = coilOf c o := by rw [coilOf, coilOf, h]

/-- R271: a released coil is not driven. -/
theorem releaseCoil_released (c : Chip) (o : Nat) : (coilOf (releaseCoil c o) o).driven = false := by
  unfold releaseCoil
  dsimp only
  split
  next => rw [coilOf_setCoil_same]; rfl
  next h => simpa using h

theorem coilOf_releaseCoil_ne (c : Chip) {o p : Nat} (h : p ≠ o) : coilOf (releaseCoil c o) p = coilOf c p := by
  unfold releaseCoil
  dsimp only
  split
  · exact coilOf_setCoil_ne c _ h
  · rfl

/-- R271: the release of a coil drives none. -/
theorem releaseCoil_keeps_released (c : Chip) (o p : Nat) (h : (coilOf c p).driven = false) :
    (coilOf (releaseCoil c o) p).driven = false := by
  by_cases hp : p = o
  · rw [hp]; exact releaseCoil_released c o
  · rw [coilOf_releaseCoil_ne c hp]; exact h

end Sys2Proof.Machine
end

section
/-! PROOFS. Register accesses (R7, R8, R10, R16, R35, R348): what a write does by the type of its register, and an access that
reaches none. -/

namespace Sys2Proof

open Machine

theorem mapped_of_regRow {a : Nat} {r : RegRow} (hal : a % 4 = 0) (hrow : regRow a = some r) : mapped a = true := by
  simp [mapped, hal, hrow]

theorem noRegister_of_regRow {a : Nat} {r : RegRow} (ha : a < 0x7800000) (hal : a % 4 = 0) (hrow : regRow a = some r) :
    noRegister a = false := by
  simp [noRegister, mapped_of_regRow hal hrow, ha]

/-- R16, R348: a write that the lock lets through, to a register of an open window. -/
theorem exec_registerWrite_reg {s : State} {a : Nat} {w : Word} {r : RegRow} (ha : a < 0x7800000) (hal : a % 4 = 0)
    (hrow : regRow a = some r) (hopen : windowClosed s.chip a = false) (hlock : lockedOut s.chip a = false) :
    exec (.registerWrite a w) s = .next { s with chip := writeReg s.chip a w } := by
  have hbar : ¬ 0x8000000 ≤ a := by omega
  change execRegisterWrite a w s = _
  simp only [execRegisterWrite, onChip, busWrite, hbar, hlock, hopen, noRegister_of_regRow ha hal hrow, if_false,
    Bool.false_eq_true]

theorem writeReg_w1c {c : Chip} {a : Nat} {w : Word} {r : RegRow} (hrow : regRow a = some r) (hacc : r.acc = .w1c)
    (hpwd : a / 0x10000 ≠ 0x701) : writeReg c a w = clearBits c a (w &&& r.wmask) := by
  simp [writeReg, hrow, hacc, hpwd]

theorem writeReg_rw_shadowed {c : Chip} {a : Nat} {w : Word} {r : RegRow} (hrow : regRow a = some r) (hacc : r.acc = .rw)
    (hsh : isShadowed a = true) : writeReg c a w = writeShadow c a w := by
  simp [writeReg, hrow, hacc, hsh]

theorem writeReg_ro {c : Chip} {a : Nat} {w : Word} {r : RegRow} (hrow : regRow a = some r) (hacc : r.acc = .ro) :
    writeReg c a w = c := by
  simp [writeReg, hrow, hacc]

/-- R7, R36: outside the fault-source settings the shadow takes the written bits as they are. -/
theorem shadowPut_eq {c : Chip} {a : Nat} {w : Word} {r : RegRow} (hrow : regRow a = some r)
    (hflt : ¬ (0x20000 ≤ a ∧ a < 0x20800)) :
    shadowPut c a w = regPut c a ((regGet c a &&& ~~~ r.wmask) ||| (w &&& r.wmask)) := by
  simp only [shadowPut, hrow, hflt, if_false]

/-- R348: a write that the lock turns away is flagged. -/
theorem exec_registerWrite_locked {s : State} {a : Nat} {w : Word} (ha : a < 0x8000000) (hlock : lockedOut s.chip a = true)
    (hreg : noRegister a = false) : exec (.registerWrite a w) s = .next { s with chip := hstEvt s.chip 4 } := by
  have hbar : ¬ 0x8000000 ≤ a := by omega
  change execRegisterWrite a w s = _
  simp [execRegisterWrite, onChip, lockWrite, hbar, hlock, hreg]

theorem exec_unmappedAccess {s : State} {a : Nat} {write : Bool} (ha : a < 0x8000000) (hopen : windowClosed s.chip a = false)
    (hlock : write = true → lockedOut s.chip a = false) :
    exec (.unmappedAccess a write) s = .next { s with
      chip := accessFault (if write then s.chip else emit s.chip (.readData a 0#32)) a } := by
  have hbar : ¬ 0x8000000 ≤ a := by omega
  cases write with
  | true =>
    change execUnmappedAccess a true s = _
    simp [execUnmappedAccess, onChip, missAccess, hbar, hlock rfl, hopen]
  | false =>
    have hemit : windowClosed (emit s.chip (.readData a 0#32)) a = false := hopen
    change execUnmappedAccess a false s = _
    simp [execUnmappedAccess, onChip, missAccess, hbar, hemit]

theorem exec_fencedWindowAccess_read {s : State} {a : Nat} (ha : a < 0x8000000) (hclosed : windowClosed s.chip a = true) :
    exec (.fencedWindowAccess a false) s = .next { s with chip := emit s.chip (.readData a 0#32) } := by
  have hbar : ¬ 0x8000000 ≤ a := by omega
  change execFencedWindowAccess a false s = _
  simp [execFencedWindowAccess, onChip, hbar, hclosed]

theorem exec_fencedWindowAccess_write {s : State} {a : Nat} (ha : a < 0x8000000) (hclosed : windowClosed s.chip a = true)
    (hlock : lockedOut s.chip a = false) : exec (.fencedWindowAccess a true) s = .next s := by
  have hbar : ¬ 0x8000000 ≤ a := by omega
  change execFencedWindowAccess a true s = _
  simp [execFencedWindowAccess, onChip, hbar, hclosed, hlock]

/-- Settles O1: each clause is the branch of the access that its conditions select. -/
theorem registerAccess : Obligations.RegisterAccess := by
  unfold Obligations.RegisterAccess
  refine ⟨?w1c, ?shadow, ?blocked, ?readOnly, ?locked, ?missRead, ?missWrite, ?fencedRead, ?fencedWrite⟩
  case w1c =>
    intro s a w r ha hal hrow hacc hpwd hopen hlock
    refine answers_chip ((exec_registerWrite_reg ha hal hrow hopen hlock).trans (by rw [writeReg_w1c hrow hacc hpwd])) ?_
    exact ⟨keptBut_chip.2 ((kept_clearBits a _ (by decide)).2 (.refl _ _)), regGet_regPut_self _ _ _,
      regsKept_regPut _ _ List.mem_cons_self⟩
  case shadow =>
    intro s a w r ha hal hrow hacc hsh hflt hblocked hopen hlock
    have hput : writeReg s.chip a w = regPut s.chip a ((regGet s.chip a &&& ~~~ r.wmask) ||| (w &&& r.wmask)) := by
      rw [writeReg_rw_shadowed hrow hacc hsh, writeShadow, if_neg (by rw [hblocked]; exact Bool.false_ne_true), shadowPut_eq hrow hflt]
    refine answers_chip ((exec_registerWrite_reg ha hal hrow hopen hlock).trans (by rw [hput])) ?_
    exact ⟨keptBut_chip.2 ((kept_regPut a _ (by decide)).2 (.refl _ _)), regGet_regPut_self _ _ _,
      regsKept_regPut _ _ List.mem_cons_self⟩
  case blocked =>
    intro s a w r ha hal hrow hacc hsh hblocked hopen hlock
    refine answers_chip ((exec_registerWrite_reg ha hal hrow hopen hlock).trans
      (by rw [writeReg_rw_shadowed hrow hacc hsh, writeShadow, if_pos hblocked])) ?_
    exact ⟨keptBut_chip.2 ((kept_raiseEvt _ _ (by decide)).2 (.refl _ _)), immBit_raiseEvt _ _ _ (by decide),
      regsKept_raiseEvt _ _ List.mem_cons_self⟩
  case readOnly =>
    intro s a w r ha hal hrow hacc hlock
    by_cases hopen : windowClosed s.chip a = false
    · rw [exec_registerWrite_reg ha hal hrow hopen hlock, writeReg_ro hrow hacc]
    · have hbar : ¬ 0x8000000 ≤ a := by omega
      change execRegisterWrite a w s = _
      simp [execRegisterWrite, onChip, busWrite, hbar, hlock, hopen]
  case locked =>
    intro s a w ha hlock hreg
    refine answers_chip (exec_registerWrite_locked ha hlock hreg) ?_
    exact ⟨keptBut_chip.2 ((kept_hstEvt _ (by decide)).2 (.refl _ _)), immBit_raiseEvt _ _ _ (by decide),
      regsKept_raiseEvt _ _ List.mem_cons_self⟩
  case missRead =>
    intro s a ha hopen
    exact reports_chip (exec_unmappedAccess ha hopen (by simp))
      ⟨rfl, (kept_emit _ (by decide)).2 (.refl _ _)⟩
  case missWrite =>
    intro s a ha hopen hlock
    exact reports_chip (exec_unmappedAccess ha hopen fun _ => hlock) rfl
  case fencedRead =>
    intro s a ha hclosed
    exact answers_chip (exec_fencedWindowAccess_read ha hclosed)
      ⟨keptBut_chip.2 ((kept_emit _ (by decide)).2 (.refl _ _)), rfl⟩
  case fencedWrite =>
    intro s a ha hclosed hlock
    exact exec_fencedWindowAccess_write ha hclosed hlock

end Sys2Proof
end

section
/-! PROOFS. The register tables as a whole (R36): what `copyRegs` takes over, and what it leaves. -/

namespace Sys2Proof.Machine

theorem tfind_tput_self {α : Type} (t : Tab α) (k : Nat) (v : α) : tfind (tput t k v) k = some v :=
  tfind_tinsert_self _ k v fun e he => ((mem_terase t k e).1 he).2

theorem tfind_tput_ne {α : Type} (t : Tab α) {k a : Nat} (v : α) (h : a ≠ k) : tfind (tput t k v) a = tfind t a := by
  rw [tput, tfind_tinsert_ne _ v h, tfind_terase_ne t h]

theorem tfind_eq_none {α : Type} {t : Tab α} {a : Nat} (h : ∀ e ∈ t, e.1 ≠ a) : tfind t a = none := by
  induction t with
  | nil => rfl
  | cons e t ih =>
    obtain ⟨j, w⟩ := e
    rw [tfind, if_neg (h (j, w) List.mem_cons_self), ih fun e he => h e (List.mem_cons_of_mem _ he)]

/-- Entries put into a table in order: where their keys rise, each is found, and the table's own elsewhere. -/
theorem tfind_foldl_tput {α : Type} (l t : Tab α) (a : Nat) (h : sortedKeys l = true) :
    tfind (l.foldl (fun t e => tput t e.1 e.2) t) a = (tfind l a).or (tfind t a) := by
  rw [sortedKeys_iff] at h
  induction l generalizing t with
  | nil => rfl
  | cons e l ih =>
    obtain ⟨j, w⟩ := e
    obtain ⟨hlt, hl⟩ := List.pairwise_cons.1 h
    rw [List.foldl_cons, ih _ hl]
    by_cases hj : j = a
    · subst hj
      have hnone : tfind l j = none := tfind_eq_none fun e he => (hlt e he).ne'
      rw [hnone, tfind_tput_self, tfind, if_pos rfl]
      rfl
    · rw [tfind_tput_ne _ _ (Ne.symm hj)]
      conv_rhs => rw [tfind, if_neg hj]

theorem tfind_filter {α : Type} (t : Tab α) (p : Nat → Bool) (a : Nat) :
    tfind (t.filter fun e => p e.1) a = if p a then tfind t a else none := by
  induction t with
  | nil => simp [tfind]
  | cons e t ih =>
    obtain ⟨j, w⟩ := e
    by_cases hp : p j = true
    · rw [List.filter_cons_of_pos (by exact hp), tfind, ih, tfind]
      by_cases hj : j = a
      · subst hj; simp [hp]
      · simp [hj]
    · rw [List.filter_cons_of_neg (by exact hp), ih]
      conv_rhs => rw [tfind]
      by_cases hj : j = a
      · subst hj; simp [hp]
      · simp [hj]

theorem sortedKeys_filter {α : Type} {t : Tab α} (h : sortedKeys t = true) (p : Nat × α → Bool) :
    sortedKeys (t.filter p) = true := by
  rw [sortedKeys_iff] at h ⊢
  exact h.filter _

/-- R36: what a copied table holds: the source's values where p names them, its own elsewhere. -/
theorem rget_copyRegs {src : Tab Word} (dst : Tab Word) (p : Nat → Bool) (a : Nat) (h : sortedKeys src = true) :
    rget (copyRegs src dst p) a = if p a then rget src a else rget dst a := by
  have hfind : tfind (copyRegs src dst p) a = if p a then tfind src a else tfind dst a := by
    rw [copyRegs, tfind_foldl_tput _ _ _ (sortedKeys_filter h _), tfind_filter, tfind_filter dst fun k => !p k]
    by_cases hp : p a = true <;> simp [hp]
  unfold rget
  rw [hfind]
  by_cases hp : p a = true
  · simp only [hp, if_true]
  · simp only [hp, if_false, Bool.false_eq_true]

theorem regGet_reloadShadows {c : Chip} {mem : BitVec 8} {a : Nat} (h : sortedKeys c.live = true)
    (ha : memberShadow mem a = true) : regGet (reloadShadows c mem) a = liveGet c a :=
  (rget_copyRegs c.regs (memberShadow mem) a h).trans (if_pos ha)

end Sys2Proof.Machine
end

section
/-! PROOFS. The commit group (R30 to R38, R362): arming, cancelling, polling, and the power die's confirmation. -/

namespace Sys2Proof

open Machine

@[simp] theorem begun_cg (c : Chip) (req : Requester) (op : Nat) : (begun c req op).cg = c.cg := by cases req <;> rfl
@[simp] theorem begun_tb (c : Chip) (req : Requester) (op : Nat) : (begun c req op).tb = c.tb := by cases req <;> rfl

theorem cgActive_begun (c : Chip) (req : Requester) (op : Nat) : cgActive (begun c req op) = cgActive c := by
  simp [cgActive]

/-- R34, R35: what arming leaves, with no group active, the cycle known and a target that can be met. -/
theorem armGroup_armed {c : Chip} {target : Nat} (src : Nat) (m : BitVec 8) (d : Nat) (owner : Option Requester)
    (hidle : cgActive c = false) (hknown : c.tb.known = true) (htarget : target = 0 ∨ c.tb.cycle + 2 ≤ target) :
    armGroup c src m d target owner = ({ c with cg := { c.cg with
      state := .armed, deferrals := 0, src := src, members := m, maxDefer := min d 8,
      target := if target = 0 then c.tb.cycle + 2 else target, locked := false, owner := owner, waiters := [] } }, true) := by
  have hlate : ¬ (target ≠ 0 ∧ target < c.tb.cycle + 2) := by omega
  unfold armGroup
  rw [if_neg (by simpa [hidle, hknown] using hlate)]

theorem cgTarget_regPut_ctrl (c : Chip) (w : Word) : cgTarget (regPut c Reg.SUP_CG_CTRL w) = cgTarget c := by
  have hlo : Reg.SUP_CG_TARGET_LO ≠ Reg.SUP_CG_CTRL := by decide
  have hhi : Reg.SUP_CG_TARGET_HI ≠ Reg.SUP_CG_CTRL := by decide
  simp only [cgTarget, imm, regGet_regPut_ne c w hlo, regGet_regPut_ne c w hhi]

theorem exec_cgCtrlArm {s : State} {m : BitVec 8} {d : BitVec 4} (hopen : windowClosed s.chip Reg.SUP_CG_CTRL = false)
    (hidle : cgActive s.chip = false) : ∃ w, exec (.cgCtrlArm m d) s = .next { s with
      chip := (armGroup (regPut s.chip Reg.SUP_CG_CTRL w) 0 m d.toNat (cgTarget s.chip) none).1 } := by
  refine ⟨wordOf (place 8 m.toNat + place 16 d.toNat), ?_⟩
  change execCgCtrlArm m d s = _
  simp only [execCgCtrlArm, onChip, reach, hopen, cgFields, hidle, cgTarget_regPut_ctrl, if_false, Bool.false_eq_true]

theorem exec_cgCtrlCancel {s : State} {m : BitVec 8} {d : BitVec 4} (hopen : windowClosed s.chip Reg.SUP_CG_CTRL = false)
    (hactive : cgActive s.chip = true) :
    exec (.cgCtrlCancel m d) s = .next { s with chip := cancelGroup s.chip } := by
  change execCgCtrlCancel m d s = _
  simp only [execCgCtrlCancel, onChip, reach, hopen, cgFields, hactive, if_true, if_false, Bool.false_eq_true]

/-! ### The end of a group -/

theorem answerGroup_cg (c : Chip) : (answerGroup c).cg = { c.cg with owner := none, waiters := [] } := by
  simp [answerGroup]

theorem cancelGroup_cg {c : Chip} (h : cgActive c = true) :
    (cancelGroup c).cg = { c.cg with state := .cancelled, locked := false, owner := none, waiters := [] } := by
  simp only [cancelGroup, h, if_true, answerGroup_cg]
  rfl

theorem cancelGroup_regs {c : Chip} (h : cgActive c = true) :
    (cancelGroup c).regs = (reloadShadows c c.cg.members).regs := by
  simp only [cancelGroup, h, if_true]
  exact ((kept_answerGroup (by decide)).2 ((kept_set_cg (by decide)).2 (.refl [.cg, .host, .out] _))) .regs (by decide)

theorem cancelGroup_kept (c : Chip) : ChipKeptBut [.regs, .cg, .host, .out] c (cancelGroup c) :=
  (kept_cancelGroup (by decide)).2 (.refl _ c)

/-! ### The poll (R32) -/

theorem exec_cgPoll (s : State) (k : Bool) :
    exec (.cgPoll k) s = .next { s with chip := poll (reachInstant s.chip 64512 0 0) k } := rfl

section
variable {c : Chip} {k : Bool} (hactive : cgActive c = true) (hfree : c.cg.locked = false)
  (hdue : c.tb.cycle + 1 = c.cg.target + c.cg.deferrals)
include hactive hfree hdue

theorem poll_locks (hnone : pollWord c k = 0#32) :
    poll c k = { c with cg := { c.cg with refuse := 0#32, locked := true } } := by
  simp [poll, hactive, hfree, hdue, hnone]

theorem poll_defers (hsome : pollWord c k ≠ 0#32) (hcheck : refusedFor (pollWord c k) 4 = false)
    (hpower : refusedFor (pollWord c k) 5 = false) (hleft : c.cg.deferrals < c.cg.maxDefer) :
    poll c k = { c with cg := { c.cg with
      refuse := pollWord c k, state := .deferred, deferrals := c.cg.deferrals + 1 } } := by
  have hword : ¬ pollWord c k = 0#32 := hsome
  simp [poll, hactive, hfree, hdue, hword, hcheck, hpower, hleft]

end

/-! ### The power die's confirmation (R38) -/

theorem exec_powerDieConfirm {s : State} {sent : Tab Word} (h : s.chip.cg.pdSent = some sent) :
    exec .powerDieConfirm s = .next { s with chip := pdConfirmed s.chip sent } := by
  change execPowerDieConfirm s = _
  simp [execPowerDieConfirm, onChip, h]

/-- R38: the values sent are in force, and the write is counted. -/
def pdTaken (c : Chip) (sent : Tab Word) : Chip :=
  pwdCount { c with
    live := sent.foldl (fun t e => tput t e.1 e.2) (c.live.filter (fun e => !memberShadow 0x80 e.1)),
    cg := { c.cg with pdSent := none }, pwd := { c.pwd with linkUp := true } }

/-- R38: what follows moves load switches and test pulses. -/
theorem pdConfirmed_kept (c : Chip) (sent : Tab Word) :
    ChipKeptBut [.regs, .tb, .lsw, .host, .flt, .out] (pdTaken c sent) (pdConfirmed c sent) := by
  have heq : pdConfirmed c sent = bookTestPulses (lswSettleAll c (pdTaken c sent)) := rfl
  simp +decide only [heq, kept_bookTestPulses, kept_lswSettleAll, kept_refl]

theorem pdConfirmed_live (c : Chip) (sent : Tab Word) : (pdConfirmed c sent).live =
    sent.foldl (fun t e => tput t e.1 e.2) (c.live.filter (fun e => !memberShadow 0x80 e.1)) :=
  (pdConfirmed_kept c sent) .live (by decide)
theorem pdConfirmed_pdSent (c : Chip) (sent : Tab Word) : (pdConfirmed c sent).cg.pdSent = none := by
  have hcg : (pdConfirmed c sent).cg = (pdTaken c sent).cg := pdConfirmed_kept c sent .cg (by decide)
  rw [hcg]
  rfl
theorem pdConfirmed_linkUp (c : Chip) (sent : Tab Word) : (pdConfirmed c sent).pwd.linkUp = true := by
  have hpwd : (pdConfirmed c sent).pwd = (pdTaken c sent).pwd := pdConfirmed_kept c sent .pwd (by decide)
  rw [hpwd]
  rfl

theorem exec_pdConfirmTimeout {s : State} (h : s.chip.cg.pdSent.isSome = true) : exec .pdConfirmTimeout s =
    .next { s with chip := reportSrc { s.chip with cg := { s.chip.cg with pdSent := none } } 117 0 } := by
  change execPdConfirmTimeout s = _
  simp [execPdConfirmTimeout, onChip, h, powerLinkFault]

/-! ### Requests (R362) -/

theorem exec_cgArm (s : State) (req : Requester) (m : BitVec 8) (d : BitVec 4) (target : Nat)
    (hperf : performs s.chip req 0x0102 .supervisor = true) (hidle : cgActive s.chip = false)
    (hknown : s.chip.tb.known = true) (htarget : target = 0 ∨ s.chip.tb.cycle + 2 ≤ target) :
    exec (.cgArm req m d target) s = .next { s with
      chip := (armGroup (begun s.chip req 0x0102) (ownerCode req) m d.toNat target (some req)).1 } := by
  have harm := armGroup_armed (c := begun s.chip req 0x0102) (ownerCode req) m d.toNat (some req)
    ((cgActive_begun ..).trans hidle) (by rw [begun_tb]; exact hknown) (by rw [begun_tb]; exact htarget)
  change execCgArm req m d target s = _
  simp only [execCgArm, perform_of_performs _ _ _ _ _ hperf, cgActive_begun, hidle, Bool.false_and, if_false,
    Bool.false_eq_true, harm]

/-- R362: SHADOW_WRITE of pairs that may all be written. -/
theorem exec_shadowWrite (s : State) (req : Requester) (ps : List (Word × Word)) :
    exec (.shadowWrite req (some ps)) s = .next { s with chip := perform s.chip req 0x0101 .supervisor (fun c =>
      if ps.isEmpty || decide (512 < ps.length) then complete c req (ansReject .buffer)
      else if ps.any (fun p => !(isShadowed p.1.toNat && (regRow p.1.toNat).isSome)) then complete c req (ansReject .field)
      else if ps.any (fun p => shadowFenced c p.1.toNat) then complete c req (ansStatus .notReady)
      else if ps.any (fun p => shadowBlocked c p.1.toNat) then
        complete (raiseEvt c Reg.SUP_CG_EVT 2) req (ansReject .rule)
      else complete (ps.foldl (fun c p => shadowPut c p.1.toNat p.2) c) req ansOk) } := rfl

theorem shadowPut_regsKept (c : Chip) (a : Nat) (w : Word) : RegsKeptBut [a] c (shadowPut c a w) := by
  unfold shadowPut
  split
  · exact regsKept_regPut _ _ List.mem_cons_self
  · exact .refl _ _

theorem shadowPuts_regsKept (ps : List (Word × Word)) (c : Chip) :
    RegsKeptBut (ps.map fun p => p.1.toNat) c (ps.foldl (fun c p => shadowPut c p.1.toNat p.2) c) := by
  induction ps generalizing c with
  | nil => exact .refl _ c
  | cons p ps ih =>
    refine RegsKeptBut.trans ((shadowPut_regsKept c _ _).mono ?_) ((ih _).mono ?_)
    · simp
    · exact List.subset_cons_self _ _

/-- R26: the written bits of a register hold what was written last. -/
theorem shadowPuts_last {ps : List (Word × Word)} {a w : Word} {r : RegRow} (c : Chip)
    (hlast : ps.getLast? = some (a, w)) (hrow : regRow a.toNat = some r) (hflt : ¬ (0x20000 ≤ a.toNat ∧ a.toNat < 0x20800)) :
    regGet (ps.foldl (fun c p => shadowPut c p.1.toNat p.2) c) a.toNat &&& r.wmask = w &&& r.wmask := by
  obtain ⟨init, rfl⟩ := List.getLast?_eq_some_iff.1 hlast
  rw [List.foldl_append, List.foldl_cons, List.foldl_nil, shadowPut_eq hrow hflt, regGet_regPut_self]
  ext i hi
  simp only [BitVec.getElem_and, BitVec.getElem_or, BitVec.getElem_not]
  cases r.wmask[i] <;> simp

/-- Settles O2: what arming, the end of a group, the poll and the power die's confirmation each leave. -/
theorem commitGroupCommands : Obligations.CommitGroupCommands := by
  unfold Obligations.CommitGroupCommands
  refine ⟨?arm, ?cancel, ?locks, ?defers, ?confirm, ?timeout, ?cgArm, ?cgCancel, ?shadowWrite⟩
  case arm =>
    intro s m d hopen hidle hknown htarget
    obtain ⟨w, hexec⟩ := exec_cgCtrlArm (m := m) (d := d) hopen hidle
    rw [armGroup_armed (c := regPut s.chip Reg.SUP_CG_CTRL w) 0 m d.toNat none hidle hknown htarget] at hexec
    refine answers_chip hexec ⟨keptBut_chip.2 ?_, ?_, rfl, rfl, rfl, rfl, rfl, rfl, rfl⟩
    · exact (kept_set_cg (by decide)).2 ((kept_regPut _ _ (by decide)).2 (.refl _ _))
    · exact (regsKept_regPut _ w List.mem_cons_self).trans (.of_regs rfl)
  case cancel =>
    intro s m d hopen hactive hsorted
    refine answers_chip (exec_cgCtrlCancel hopen hactive) ⟨storesKept_chip s _, ?_, ?_, ?_, ?_, fun a ha => ?_⟩
    · exact congrArg (·.state) (cancelGroup_cg hactive)
    · exact congrArg (·.locked) (cancelGroup_cg hactive)
    · exact cancelGroup_kept _ .live (by decide)
    · exact cancelGroup_kept _ .tb (by decide)
    · exact (congrArg (rget · a) (cancelGroup_regs hactive)).trans (regGet_reloadShadows hsorted ha)
  case locks =>
    intro s k c hactive hfree hdue hnone
    refine answers_chip ((exec_cgPoll s k).trans (by rw [poll_locks hactive hfree hdue hnone])) ?_
    exact ⟨storesKept_chip s _, (kept_set_cg (by decide)).2 (.refl _ c), rfl, rfl, rfl⟩
  case defers =>
    intro s k c hactive hfree hdue hsome hcheck hpower hleft
    refine answers_chip
      ((exec_cgPoll s k).trans (by rw [poll_defers hactive hfree hdue hsome hcheck hpower hleft])) ?_
    exact ⟨storesKept_chip s _, (kept_set_cg (by decide)).2 (.refl _ c), rfl, rfl, rfl, hfree⟩
  case confirm =>
    intro s sent hsent
    refine answers_chip (exec_powerDieConfirm hsent) ?_
    dsimp only
    exact ⟨storesKept_chip s _, pdConfirmed_pdSent s.chip sent, pdConfirmed_linkUp s.chip sent, pdConfirmed_live s.chip sent⟩
  case timeout =>
    intro s hsent
    exact reports_chip (exec_pdConfirmTimeout hsent) ⟨(kept_set_cg (by decide)).2 (.refl _ _), rfl⟩
  case cgArm =>
    intro s req m d target hperf hidle hknown htarget
    refine answers_chip ((exec_cgArm s req m d target hperf hidle hknown htarget).trans (by
      rw [armGroup_armed (c := begun s.chip req 0x0102) (ownerCode req) m d.toNat (some req)
        ((cgActive_begun ..).trans hidle) (by rw [begun_tb]; exact hknown) (by rw [begun_tb]; exact htarget)])) ?_
    refine ⟨storesKept_chip s _, (kept_set_cg (by decide)).2 (.refl _ _), rfl, rfl, rfl, rfl, ?_⟩
    rw [begun_tb]
  case cgCancel =>
    intro s req hperf hactive
    have hbegun := (cgActive_begun s.chip req 0x0103).trans hactive
    refine replies_perform rfl hperf (by rw [begun_cg]) ⟨?_, ?_, ?_⟩
    · exact congrArg (·.state) (cancelGroup_cg hbegun)
    · exact cancelGroup_kept _ .live (by decide)
    · exact cancelGroup_kept _ .tb (by decide)
  case shadowWrite =>
    intro s req ps hperf hne hlen hall
    refine replies_perform (exec_shadowWrite s req ps) hperf
      (e := ps.foldl (fun c p => shadowPut c p.1.toNat p.2) (begun s.chip req 0x0101)) ?_ ⟨?_, ?_, ?_⟩
    · have hempty : ps.isEmpty = false := List.isEmpty_eq_false_iff.2 hne
      have hform : ps.any (fun p => !(isShadowed p.1.toNat && (regRow p.1.toNat).isSome)) = false := by
        rw [List.any_eq_false]
        intro p hp
        obtain ⟨hsh, hrow, -, -⟩ := hall p hp
        simp [hsh, hrow]
      have hfence : ps.any (fun p => shadowFenced (begun s.chip req 0x0101) p.1.toNat) = false := by
        rw [List.any_eq_false]
        intro p hp
        obtain ⟨-, -, hf, -⟩ := hall p hp
        simpa [shadowFenced, begun_sup] using hf
      have hblock : ps.any (fun p => shadowBlocked (begun s.chip req 0x0101) p.1.toNat) = false := by
        rw [List.any_eq_false]
        intro p hp
        obtain ⟨-, -, -, hb⟩ := hall p hp
        simpa [shadowBlocked, cgActive_begun] using hb
      have hlen' : ¬ 512 < ps.length := by omega
      simp only [hempty, hlen', hform, hfence, hblock, decide_false, Bool.or_self, Bool.false_eq_true, if_false]
    · exact (kept_foldl _ fun d p => (kept_shadowPut _ _ (by decide)).2 (.refl _ d)).2 (.refl _ _)
    · exact shadowPuts_regsKept ps _
    · intro a w r hlast hrow hflt
      exact shadowPuts_last _ hlast hrow hflt

end Sys2Proof
end

section
/-! PROOFS. Sequences of non-shadowable settings (R39 to R43, R478): starting, landing, ending. -/

namespace Sys2Proof.Machine

/-- R39: what is skipped is what stands already. -/
theorem nsSkip_todo (c : Chip) (q : NsSeq) (l : List NsSetting) :
    (nsSkip c q l).todo = l.dropWhile fun k => decide (nsOld c k = k.value) := by
  induction l generalizing q with
  | nil => rfl
  | cons k l ih =>
    unfold nsSkip
    split
    next h => rw [ih, List.dropWhile_cons_of_pos (by simpa using h)]
    next h => rw [List.dropWhile_cons_of_neg (by simpa using h)]

theorem nsSkip_total (c : Chip) (q : NsSeq) (l : List NsSetting) : (nsSkip c q l).total = q.total := by
  induction l generalizing q with
  | nil => rfl
  | cons k l ih => unfold nsSkip; split <;> simp [ih]

theorem nsSkip_owner (c : Chip) (q : NsSeq) (l : List NsSetting) : (nsSkip c q l).owner = q.owner := by
  induction l generalizing q with
  | nil => rfl
  | cons k l ih => unfold nsSkip; split <;> simp [ih]

theorem nsSkip_head (c : Chip) (q : NsSeq) {k : NsSetting} (l : List NsSetting) (h : nsOld c k ≠ k.value) :
    nsSkip c q (k :: l) = { q with todo := k :: l } := if_neg h

theorem mem_nsOrder {c : Chip} {l : List NsSetting} {k : NsSetting} : k ∈ nsOrder c l ↔ k ∈ l := by
  simp only [nsOrder, List.mem_append, List.mem_filter, Bool.not_eq_true']
  cases nsSafer c k <;> simp

/-- R39: a sequence that changes a setting has one left to do. -/
theorem nsSkip_todo_ne_nil {c : Chip} (q : NsSeq) {l : List NsSetting} {k : NsSetting} (hk : k ∈ l)
    (hnew : nsOld c k ≠ k.value) : (nsSkip c q l).todo ≠ [] := by
  rw [nsSkip_todo, Ne, List.dropWhile_eq_nil_iff]
  intro hall
  exact hnew (of_decide_eq_true (hall k hk))

theorem nsPend_kept (c : Chip) (q : NsSeq) : ChipKeptBut [.pwd] c (nsPend c q) := (kept_nsPend q (by decide)).2 (.refl _ c)

/-- R40: an active sequence with settings left is not at its end. -/
theorem nsFinish_of_todo {c : Chip} {q : NsSeq} (h : c.ns.active = some q) (hq : q.todo ≠ []) : nsFinish c = c := by
  simp [nsFinish, h, hq]

/-- R40: the sequence that a submission starts. -/
def nsStarted (c : Chip) (q : NsSeq) : NsSeq :=
  nsSkip c { q with safeLeft := (q.todo.filter (nsSafer c)).length } (nsOrder c q.todo)

theorem nsStart_active (c : Chip) (q : NsSeq) : (nsStart c q).ns.active = some (nsStarted c q) :=
  congrArg NsState.active (nsPend_kept _ _ .ns (by decide))

/-- R40, R478: a sequence that changes a setting starts. -/
theorem nsSubmit_starts {c : Chip} {l : List NsSetting} {owner : Option Requester} {wait : Bool} {k : NsSetting}
    (hidle : c.ns.active = none) (hk : k ∈ l) (hnew : nsOld c k ≠ k.value) :
    ∃ q, nsSubmit c l owner wait = (nsStart c q, true) ∧ q.total = l.length ∧ q.owner = owner ∧
      (nsStarted c q).todo ≠ [] := by
  refine ⟨{ todo := l, safeLeft := 0, done := 0, total := l.length, owner := owner, wait := wait }, ?_, rfl, rfl,
    nsSkip_todo_ne_nil _ (mem_nsOrder.2 hk) hnew⟩
  unfold nsSubmit
  dsimp only
  rw [if_pos (by rw [hidle]; rfl), nsFinish_of_todo (nsStart_active c _) (nsSkip_todo_ne_nil _ (mem_nsOrder.2 hk) hnew)]

theorem nsSubmit_queues {c : Chip} {l : List NsSetting} {owner : Option Requester} {wait : Bool}
    (hactive : c.ns.active.isSome = true) (hfree : c.ns.queued = none) : nsSubmit c l owner wait =
      ({ c with ns := { c.ns with
        queued := some { todo := l, safeLeft := 0, done := 0, total := l.length, owner := owner, wait := wait } } }, true) := by
  obtain ⟨q, hq⟩ := Option.isSome_iff_exists.1 hactive
  simp [nsSubmit, hq, hfree]

theorem nsSubmit_full {c : Chip} {l : List NsSetting} {owner : Option Requester} {wait : Bool}
    (hactive : c.ns.active.isSome = true) (hfull : c.ns.queued.isSome = true) :
    nsSubmit c l owner wait = (c, false) := by
  obtain ⟨q, hq⟩ := Option.isSome_iff_exists.1 hactive
  obtain ⟨q', hq'⟩ := Option.isSome_iff_exists.1 hfull
  simp [nsSubmit, hq, hq']

theorem exec_nsWrite {s : State} {a : Nat} {w : Word} (hopen : windowClosed s.chip a = false) (hns : isNs a = true) :
    exec (.nsWrite a w) s = .next { s with chip := nsWrite s.chip a w } := by
  change execNsWrite a w s = _
  simp [execNsWrite, onChip, reach, hopen, hns]

/-! ### Landing -/

/-- R39: the register of a setting takes its value. -/
theorem nsLandedAt_regs (c : Chip) (k : NsSetting) :
    (nsLandedAt c k).regs = (regPut c k.reg (withField (regGet c k.reg) k.hi k.lo k.value)).regs := by
  have hpwd : (if memberOf k.reg = 7 then pwdCount c else c).regs = c.regs := by split <;> rfl
  have hkept : ChipKeptBut [.pwd, .fab, .out]
      (regPut (if memberOf k.reg = 7 then pwdCount c else c) k.reg
        (withField (regGet (if memberOf k.reg = 7 then pwdCount c else c) k.reg) k.hi k.lo k.value)) (nsLandedAt c k) := by
    simp +decide only [nsLandedAt, kept_ite, kept_floodLsa, kept_foldl, kept_setCoil, kept_refl, ite_self, implies_true]
  refine (hkept .regs (by decide)).trans ?_
  simp only [regPut, regGet, hpwd]

theorem regGet_nsLandedAt_self (c : Chip) (k : NsSetting) :
    regGet (nsLandedAt c k) k.reg = withField (regGet c k.reg) k.hi k.lo k.value := by
  rw [regGet, nsLandedAt_regs]
  exact regGet_regPut_self _ _ _

theorem nsLandedAt_regsKept (c : Chip) (k : NsSetting) : RegsKeptBut [k.reg] c (nsLandedAt c k) := fun a ha => by
  rw [regGet, nsLandedAt_regs]
  exact regsKept_regPut c _ List.mem_cons_self a ha

theorem nsOld_nsLandedAt_ne {c : Chip} {k j : NsSetting} (h : j.reg ≠ k.reg) : nsOld (nsLandedAt c k) j = nsOld c j := by
  rw [nsOld, imm, nsLandedAt_regsKept c k j.reg (by simpa using h)]
  rfl

/-- R41: a landed setting moves no contactor. -/
theorem nsLandedAt_driven (c : Chip) (k : NsSetting) (o : Nat) :
    (coilOf (nsLandedAt c k) o).driven = (coilOf c o).driven := by
  have hflood : ∀ d : Chip, (coilOf (floodLsa d) o).driven = (coilOf d o).driven := fun d => by
    rw [coilOf_of_pwd ((kept_floodLsa (by decide)).2 (.refl [.fab, .out] d) .pwd (by decide))]
  have hpend : ∀ (d : Chip) (n : Nat), (coilOf (if k.reg = Reg.PWD_COIL_PROF n then
      setCoil d n { coilOf d n with pend := false } else d) o).driven = (coilOf d o).driven := by
    intro d n
    split
    · by_cases hn : o = n
      · subst hn; rw [coilOf_setCoil_same]; rfl
      · rw [coilOf_setCoil_ne _ _ hn]
    · rfl
  unfold nsLandedAt
  dsimp only
  split_ifs <;> simp only [hflood, foldl_same (fun d => (coilOf d o).driven) hpend] <;> rfl

theorem nsLandedAt_ns (c : Chip) (k : NsSetting) : (nsLandedAt c k).ns = c.ns :=
  (kept_nsLandedAt k (by decide)).2 (.refl [.regs, .pwd, .fab, .out] c) .ns (by decide)

/-- R39: the sequence once its setting has landed. -/
def nsAdvanced (c : Chip) (q : NsSeq) (k : NsSetting) (ks : List NsSetting) : NsSeq :=
  nsSkip (nsLandedAt c k) { q with done := q.done + 1, safeLeft := q.safeLeft - 1 } ks

/-- R39: the chip once the setting under way has landed, before the sequence may end. -/
def nsMoved (c : Chip) (q : NsSeq) (k : NsSetting) (ks : List NsSetting) : Chip :=
  let q' := nsAdvanced c q k ks
  nsPend { nsLandedAt c k with ns := { c.ns with active := some q', lastDone := q'.done } } q'

theorem nsLand_eq {c : Chip} {q : NsSeq} {k : NsSetting} {ks : List NsSetting} (hactive : c.ns.active = some q)
    (htodo : q.todo = k :: ks) (hheld : nsHeld c k = false) : nsLand c = nsFinish (nsMoved c q k ks) := by
  simp only [nsLand, hactive, htodo, hheld, Bool.false_eq_true, if_false, nsMoved, nsAdvanced, nsLandedAt_ns]

theorem nsMoved_ns (c : Chip) (q : NsSeq) (k : NsSetting) (ks : List NsSetting) : (nsMoved c q k ks).ns =
    { c.ns with active := some (nsAdvanced c q k ks), lastDone := (nsAdvanced c q k ks).done } :=
  nsPend_kept _ _ .ns (by decide)

theorem nsMoved_regs (c : Chip) (q : NsSeq) (k : NsSetting) (ks : List NsSetting) :
    (nsMoved c q k ks).regs = (nsLandedAt c k).regs := nsPend_kept _ _ .regs (by decide)

/-- R40: a sequence with nothing left and none queued: NS_DONE. -/
theorem nsFinish_done {c : Chip} {q : NsSeq} (h : c.ns.active = some q) (hq : q.todo = []) (hnone : c.ns.queued = none) :
    (nsFinish c).ns.active = none ∧ (nsFinish c).ns.lastDone = q.done ∧
      (nsFinish c).regs = (raiseEvt c Reg.SUP_CG_EVT 4).regs := by
  simp only [nsFinish, h, hq, hnone, List.isEmpty_nil, if_true]
  split <;> simp [raiseEvt_regs, immBit, regGet] <;> rfl

end Sys2Proof.Machine
end

section
/-! PROOFS. The power link and the mirror of Nib (R19, R21, R22): posted writes, loss of the link, refresh of the mirror. -/

namespace Sys2Proof.Machine

/-! ### Posted writes (R22) -/

/-- R26: neither a command of a load switch nor their disable bits is a W1C register. -/
theorem lswRegisters_not_w1c : ∀ a ∈ Reg.LSW_DISABLE :: (List.range 12).map Reg.LSW_CMD,
    (regRow a).all (fun r => r.acc != .w1c) = true := by decide +kernel

theorem not_lswRegister_of_w1c {a : Nat} {r : RegRow} (hrow : regRow a = some r) (hacc : r.acc = .w1c) :
    a ∉ Reg.LSW_DISABLE :: (List.range 12).map Reg.LSW_CMD := fun ha => by
  have hall := lswRegisters_not_w1c a ha
  simp [hrow, hacc] at hall

theorem pwdLand_w1c {c : Chip} {p : PwdWrite} {r : RegRow} (m : LswMeas) (hrow : regRow p.addr = some r)
    (hacc : r.acc = .w1c) : pwdLand c p m = clearBits c p.addr p.value := by
  have hnot := not_lswRegister_of_w1c hrow hacc
  have hcmd : (List.range 12).find? (fun n => p.addr == Reg.LSW_CMD n) = none := by
    rw [List.find?_eq_none]
    intro n hn heq
    exact hnot (List.mem_cons_of_mem _ (List.mem_map.2 ⟨n, hn, (beq_iff_eq.1 heq).symm⟩))
  have hdis : p.addr ≠ Reg.LSW_DISABLE := fun heq => hnot (heq ▸ List.mem_cons_self)
  simp [pwdLand, hcmd, hdis, hrow, hacc]

theorem exec_pwdWriteLanded {s : State} {m : LswMeas} {p : PwdWrite} {r : RegRow}
    (hnext : nextPosted s.chip.pwd.posted = some p) (hup : s.chip.pwd.linkUp = true) (hrow : regRow p.addr = some r)
    (hacc : r.acc = .w1c) : exec (.pwdWriteLanded m) s = .next { s with
      chip := clearBits (pwdCount { s.chip with pwd := { s.chip.pwd with posted := s.chip.pwd.posted.erase p } })
        p.addr p.value } := by
  change execPwdWriteLanded m s = _
  simp [execPwdWriteLanded, onChip, hnext, linkBack, hup, pwdLand_w1c m hrow hacc]

/-! ### The link is lost (R19, R41) -/

/-- R19: the link is down; the test pulses are booked no more. -/
def linkDown (c : Chip) : Chip := bookTestPulses { c with pwd := { c.pwd with linkUp := false } }

theorem exec_powerLinkTimeout (s : State) :
    exec .powerLinkTimeout s = .next { s with chip := reportSrc (nsLinkLost (linkDown s.chip)) 117 0 } := rfl

theorem linkDown_eq (c : Chip) :
    linkDown c = unbook { c with pwd := { c.pwd with linkUp := false } } (fun k => k.cls == 2) := by
  simp [linkDown, bookTestPulses, unbook]

theorem linkDown_kept (c : Chip) : ChipKeptBut [.pwd, .tb] c (linkDown c) := by
  simp +decide only [linkDown_eq, kept_unbook, kept_set_pwd, kept_refl]

theorem linkDown_pwd (c : Chip) : (linkDown c).pwd = { c.pwd with linkUp := false } := by
  rw [linkDown_eq]; rfl

theorem linkDown_ns (c : Chip) : (linkDown c).ns = c.ns := linkDown_kept c .ns (by decide)

theorem nsLinkLost_of_other {c : Chip} (h : ∀ q, c.ns.active = some q → q.todo.any (fun k => memberOf k.reg == 7) = false) :
    nsLinkLost c = c := by
  unfold nsLinkLost
  split
  next q hq => rw [h q hq]; rfl
  · rfl

theorem nsLinkLost_of_powerDie {c : Chip} {q : NsSeq} (hq : c.ns.active = some q)
    (h : q.todo.any (fun k => memberOf k.reg == 7) = true) : nsLinkLost c = nsInterrupt c := by
  simp only [nsLinkLost, hq, h, if_true]

theorem nsSent_driven (c : Chip) (q : NsSeq) (o : Nat) : (coilOf (nsSent c q).1 o).driven = (coilOf c o).driven := by
  unfold nsSent
  split
  · exact nsLandedAt_driven c _ o
  · rfl

theorem nsSent_linkUp (c : Chip) (q : NsSeq) : (nsSent c q).1.pwd.linkUp = c.pwd.linkUp := by
  have hset : ∀ (d : Chip) (n : Nat) (k : NsSetting), (if k.reg = Reg.PWD_COIL_PROF n then
      setCoil d n { coilOf d n with pend := false } else d).pwd.linkUp = d.pwd.linkUp := by
    intro d n k
    split <;> rfl
  have hflood : ∀ d : Chip, (floodLsa d).pwd = d.pwd := fun d =>
    (kept_floodLsa (by decide)).2 (.refl [.fab, .out] d) .pwd (by decide)
  unfold nsSent
  split
  next k _ _ =>
    unfold nsLandedAt
    dsimp only
    split_ifs <;> simp only [hflood, foldl_same (fun d => d.pwd.linkUp) (fun d n => hset d n k)] <;> rfl
  · rfl

/-- R41: what an interruption leaves of the sequences: none, and DISCARDED. -/
theorem nsInterrupt_ns {c : Chip} {q : NsSeq} (hq : c.ns.active = some q) :
    (nsInterrupt c).ns.active = none ∧ (nsInterrupt c).ns.queued = none ∧
      (nsInterrupt c).ns.result = Status.discarded.code := by
  unfold nsInterrupt
  rw [hq]
  dsimp only
  (repeat' split) <;> simp

/-- R41: but for the setting that lands, an interruption answers requests only. -/
theorem nsInterrupt_kept {c : Chip} {q : NsSeq} (hq : c.ns.active = some q) :
    ChipKeptBut [.ns, .host, .out] (nsSent c q).1 (nsInterrupt c) := by
  unfold nsInterrupt
  rw [hq]
  dsimp only
  split <;> simp +decide only [kept_ite, kept_completeOpt, kept_set_ns, kept_refl, ite_self]

/-! ### The mirror of Nib (R21, R282) -/

theorem exec_nibMirrorRefresh (s : State) (bad : BitVec 8) (since : Nat) : exec (.nibMirrorRefresh bad since) s =
    .next { s with chip := nibBack (refreshMirror (setBadLines (runTo s.chip since) bad)) } := rfl

theorem setBadLines_kept (c : Chip) (v : BitVec 8) : ChipKeptBut [.pwd] c (setBadLines c v) :=
  (kept_setBadLines v (by decide)).2 (.refl _ c)

theorem setBadLines_badLines (c : Chip) (v : BitVec 8) : (setBadLines c v).pwd.badLines = v := by
  unfold setBadLines
  refine foldl_same (fun d : Chip => d.pwd.badLines) (fun d o => ?_) _ _
  unfold releaseCoil
  dsimp only
  split
  · split <;> rfl
  · rfl

/-- R271: a driver whose line reads open or contradictory is released. -/
theorem setBadLines_released (c : Chip) {v : BitVec 8} {o : Nat} (ho : o < 8) (h : v.getLsbD o = true) :
    (coilOf (setBadLines c v) o).driven = false := by
  unfold setBadLines
  refine foldl_reaches (P := fun d => (coilOf d o).driven = false) (a := o) (fun d => ?_) (fun d n hd => ?_)
    (List.mem_range.2 ho) _
  · rw [if_pos h]; exact releaseCoil_released d o
  · split
    · exact releaseCoil_keeps_released d n o hd
    · exact hd

/-- R21: the words of the mirror. -/
def mirrorRegs : List Nat := [Reg.NIB_STATUS, Reg.NIB_SEAL, Reg.NIB_CAUSE, Reg.NIB_DEGRADED, Reg.NIB_QA]

/-- R21: the chip with its mirror holding `words`. -/
def mirrored (c : Chip) (words : List (Nat × Nat)) : Chip :=
  let late := overMs c c.saf.mirrorAt
  let c := words.foldl (fun c e => regPut c e.1 (wordOf e.2)) c
  { c with saf := { c.saf with
    mirrorAt := some c.tb.aon,
    healthyFrom := if nibHealthy c then (if late then some c.tb.aon else some (c.saf.healthyFrom.getD c.tb.aon)) else none } }

theorem refreshMirror_eq (c : Chip) : refreshMirror c = mirrored c (nibWords c) := rfl

theorem mirrored_regs (c : Chip) (l : List (Nat × Nat)) :
    (mirrored c l).regs = (l.foldl (fun c e => regPut c e.1 (wordOf e.2)) c).regs := rfl

theorem refreshMirror_mirrorAt (c : Chip) : (refreshMirror c).saf.mirrorAt = some c.tb.aon := by
  have htb : ∀ l : List (Nat × Nat), (l.foldl (fun c e => regPut c e.1 (wordOf e.2)) c).tb = c.tb := fun l =>
    foldl_same Chip.tb (fun d e => show (regPut d e.1 (wordOf e.2)).tb = d.tb from rfl) l c
  have hat : ∀ l : List (Nat × Nat), (mirrored c l).saf.mirrorAt = some c.tb.aon := fun l =>
    congrArg (fun t : Timebase => some t.aon) (htb l)
  rw [refreshMirror_eq, hat]

theorem refreshMirror_regs (c : Chip) :
    (refreshMirror c).regs = ((nibWords c).foldl (fun c e => regPut c e.1 (wordOf e.2)) c).regs := by
  rw [refreshMirror_eq, mirrored_regs]

theorem refreshMirror_regsKept (c : Chip) : RegsKeptBut mirrorRegs c (refreshMirror c) := by
  intro a ha
  simp only [mirrorRegs, List.mem_cons, List.not_mem_nil, or_false, not_or] at ha
  obtain ⟨h1, h2, h3, h4, h5⟩ := ha
  simp only [regGet, refreshMirror_regs, nibWords, List.foldl_cons, List.foldl_nil, regPut, rget_rput_ne _ _ h1,
    rget_rput_ne _ _ h2, rget_rput_ne _ _ h3, rget_rput_ne _ _ h4, rget_rput_ne _ _ h5]

theorem regGet_refreshMirror_status (c : Chip) : regGet (refreshMirror c) Reg.NIB_STATUS =
    wordOf (c.nib.gate.toNat + place 8 c.nib.latch.toNat + place 16 c.nib.weld.toNat + placeBit 24 c.nib.procOk
      + placeBit 25 (c.nib.degraded != 0) + placeBit 26 c.nib.shtr + placeBit 27 c.nib.selftestOk
      + placeBit 28 c.nib.sealFault) := by
  have h2 : Reg.NIB_STATUS ≠ Reg.NIB_SEAL := by decide
  have h3 : Reg.NIB_STATUS ≠ Reg.NIB_CAUSE := by decide
  have h4 : Reg.NIB_STATUS ≠ Reg.NIB_DEGRADED := by decide
  have h5 : Reg.NIB_STATUS ≠ Reg.NIB_QA := by decide
  simp only [regGet, refreshMirror_regs, nibWords, List.foldl_cons, List.foldl_nil, regPut, rget_rput_self,
    rget_rput_ne _ _ h2, rget_rput_ne _ _ h3, rget_rput_ne _ _ h4, rget_rput_ne _ _ h5]

/-- R21: the bytes of gates and latches in the word of NIB_STATUS. -/
theorem fieldOf_wordOf_bytes {a b : Nat} (w : Nat) (b24 b25 b26 b27 b28 : Bool) (ha : a < 2 ^ 8) (hb : b < 2 ^ 8) :
    fieldOf (wordOf (a + place 8 b + place 16 w + placeBit 24 b24 + placeBit 25 b25 + placeBit 26 b26 + placeBit 27 b27
      + placeBit 28 b28)) 7 0 = a ∧
    fieldOf (wordOf (a + place 8 b + place 16 w + placeBit 24 b24 + placeBit 25 b25 + placeBit 26 b26 + placeBit 27 b27
      + placeBit 28 b28)) 15 8 = b := by
  simp only [fieldOf, wordOf, place, placeBit, BitVec.toNat_ofNat, Nat.shiftRight_eq_div_pow]
  omega

theorem nibStatus_bytes (c : Chip) :
    fieldOf (regGet (refreshMirror c) Reg.NIB_STATUS) 7 0 = c.nib.gate.toNat ∧
      fieldOf (regGet (refreshMirror c) Reg.NIB_STATUS) 15 8 = c.nib.latch.toNat := by
  have hbytes := fieldOf_wordOf_bytes c.nib.weld.toNat c.nib.procOk (c.nib.degraded != 0) c.nib.shtr c.nib.selftestOk
    c.nib.sealFault c.nib.gate.isLt c.nib.latch.isLt
  rwa [← regGet_refreshMirror_status] at hbytes

theorem nibBack_kept (c : Chip) : ChipKeptBut [.sup, .saf, .flt] c (nibBack c) := (kept_nibBack (by decide)).2 (.refl _ c)

theorem nibBack_mirrorAt (c : Chip) : (nibBack c).saf.mirrorAt = c.saf.mirrorAt := by
  have hclear : ∀ (d : Chip) (n : Nat), (clearSrc d n).saf = d.saf := fun d n =>
    (kept_clearSrc n (by decide)).2 (.refl [.flt] d) .saf (by decide)
  unfold nibBack
  split
  · split
    · simp only [hclear]; rfl
    · rfl
  · rfl

/-- R282: a channel that has been healthy for 1 s ends the loss of Nib. -/
theorem nibBack_recovers {c : Chip} {t : Nat} (h : c.saf.healthyFrom = some t) (ht : t + 2 ^ 32 ≤ c.tb.aon) :
    (nibBack c).saf.nibOk = true ∧ SafeCause.nib ∉ (nibBack c).sup.safeCauses := by
  have hclear : ∀ (d : Chip) (n : Nat), (clearSrc d n).saf = d.saf ∧ (clearSrc d n).sup = d.sup := fun d n =>
    ⟨(kept_clearSrc n (by decide)).2 (.refl [.flt] d) .saf (by decide),
      (kept_clearSrc n (by decide)).2 (.refl [.flt] d) .sup (by decide)⟩
  simp only [nibBack, h, ht, if_true, hclear]
  exact ⟨rfl, by simp [dropSafeCause]⟩

theorem nibHealthy_congr {c d : Chip} (hn : d.nib = c.nib) (hp : d.pwd = c.pwd) : nibHealthy d = nibHealthy c := by
  simp only [nibHealthy, hn, hp]

theorem refreshMirror_healthyFrom {c : Chip} {u : Nat} (hhealthy : nibHealthy c = true)
    (hlate : overMs c c.saf.mirrorAt = false) (hfrom : c.saf.healthyFrom = some u) :
    (refreshMirror c).saf.healthyFrom = some u := by
  have hput : ∀ (d : Chip) (e : Nat × Nat), (regPut d e.1 (wordOf e.2)).nib = d.nib ∧
      (regPut d e.1 (wordOf e.2)).pwd = d.pwd ∧ (regPut d e.1 (wordOf e.2)).saf = d.saf := fun _ _ => ⟨rfl, rfl, rfl⟩
  have hnib := foldl_same Chip.nib (fun d e => (hput d e).1) (nibWords c) c
  have hpwd := foldl_same Chip.pwd (fun d e => (hput d e).2.1) (nibWords c) c
  have hsaf := foldl_same Chip.saf (fun d e => (hput d e).2.2) (nibWords c) c
  unfold refreshMirror
  simp only [(nibHealthy_congr hnib hpwd).trans hhealthy, hlate, hsaf, hfrom]
  rfl

end Sys2Proof.Machine

namespace Sys2Proof

open Machine

/-- Settles O3: a sequence starts, queues, lands and ends as `nsSubmit`, `nsLand` and `nsInterrupt` do; the link and the
mirror follow. -/
theorem sequenceAndPowerLinkCommands : Obligations.SequenceAndPowerLinkCommands := by
  unfold Obligations.SequenceAndPowerLinkCommands
  refine ⟨?starts, ?queues, ?refused, ?lands, ?ends, ?nsSeq, ?posted, ?linkLost, ?discarded, ?mirror, ?recovered⟩
  case starts =>
    intro s a w hopen hns hidle hchange
    obtain ⟨k, hk, hnew⟩ := hchange
    obtain ⟨q, hsubmit, htotal, howner, htodo⟩ := nsSubmit_starts (owner := none) (wait := false) hidle hk hnew
    have hwrite : nsWrite s.chip a w = nsStart s.chip q := by rw [nsWrite, hsubmit]
    refine answers_chip ((exec_nsWrite hopen hns).trans (by rw [hwrite])) ⟨keptBut_chip.2 ?_, ?_, nsStarted s.chip q, ?_⟩
    · exact (kept_nsStart q (by decide)).2 (.refl _ _)
    · exact (kept_nsStart q (by decide)).2 (.refl [.ns, .pwd] s.chip) .regs (by decide)
    · exact ⟨nsStart_active _ q, htodo, (nsSkip_total ..).trans htotal, (nsSkip_owner ..).trans howner⟩
  case queues =>
    intro s a w hopen hns hactive hfree
    have hwrite := nsSubmit_queues (l := nsSettings a w) (owner := none) (wait := false) hactive hfree
    have hchip : nsWrite s.chip a w = (nsSubmit s.chip (nsSettings a w) none false).1 := by rw [nsWrite, hwrite]
    refine answers_chip (exec_nsWrite hopen hns) ?_
    rw [hchip, hwrite]
    exact ⟨keptBut_chip.2 ((kept_set_ns (by decide)).2 (.refl _ _)), rfl, _, rfl, rfl, rfl⟩
  case refused =>
    intro s a w hopen hns hactive hfull
    have hwrite := nsSubmit_full (l := nsSettings a w) (owner := none) (wait := false) hactive hfull
    have hchip : nsWrite s.chip a w = raiseEvt s.chip Reg.SUP_CG_EVT 5 := by rw [nsWrite, hwrite]
    refine answers_chip ((exec_nsWrite hopen hns).trans (by rw [hchip])) ⟨keptBut_chip.2 ?_, ?_, ?_⟩
    · exact (kept_raiseEvt _ _ (by decide)).2 (.refl _ _)
    · exact immBit_raiseEvt _ _ _ (by decide)
    · exact regsKept_raiseEvt _ _ List.mem_cons_self
  case lands =>
    intro s q k k2 ks hactive htodo hheld hns hother hnew
    have hnext : nsAdvanced s.chip q k (k2 :: ks) = { q with
        done := q.done + 1, safeLeft := q.safeLeft - 1, todo := k2 :: ks } :=
      nsSkip_head _ _ _ (by rw [nsOld_nsLandedAt_ne hother]; exact hnew)
    have hmoved := nsMoved_ns s.chip q k (k2 :: ks)
    have hland : nsLand s.chip = nsMoved s.chip q k (k2 :: ks) := by
      rw [nsLand_eq hactive htodo hheld, nsFinish_of_todo (congrArg NsState.active hmoved) (by rw [hnext]; simp)]
    have hregs := nsMoved_regs s.chip q k (k2 :: ks)
    refine answers_chip (show exec .nsSettingLanded s = .next { s with chip := nsLand s.chip } from rfl)
      ⟨keptBut_chip.2 ((kept_nsLand (by decide)).2 (.refl _ _)), ?_, ?_, nsAdvanced s.chip q k (k2 :: ks), ?_, ?_, ?_, ?_⟩
    · rw [hland, regGet, hregs]
      exact regGet_nsLandedAt_self _ _
    · rw [hland]
      exact (nsLandedAt_regsKept _ _).trans (.of_regs hregs)
    · rw [hland, hmoved]
    · rw [hnext]
    · rw [hnext]
    · rw [hnext]
  case ends =>
    intro s q k hactive hqueued htodo hheld hns
    have hmoved := nsMoved_ns s.chip q k []
    obtain ⟨hnone, hdone, hregs⟩ := nsFinish_done (congrArg NsState.active hmoved) rfl
      ((congrArg NsState.queued hmoved).trans hqueued)
    have hne : k.reg ≠ Reg.SUP_CG_EVT := by
      rintro heq
      rw [heq] at hns
      exact absurd hns (by decide)
    have hevt := regsKept_raiseEvt (as := [Reg.SUP_CG_EVT]) (nsMoved s.chip q k []) 4 List.mem_cons_self
    have hmovedRegs := nsMoved_regs s.chip q k []
    refine answers_chip (show exec .nsSettingLanded s = .next { s with chip := nsLand s.chip } from rfl)
      ⟨keptBut_chip.2 ((kept_nsLand (by decide)).2 (.refl _ _)), ?_, ?_, ?_, ?_, ?_⟩
    · rw [nsLand_eq hactive htodo hheld, regGet, hregs]
      refine (hevt k.reg (by simpa using hne)).trans ?_
      rw [regGet, hmovedRegs]
      exact regGet_nsLandedAt_self _ _
    · rw [nsLand_eq hactive htodo hheld]
      refine RegsKeptBut.trans (((nsLandedAt_regsKept s.chip k).trans (.of_regs hmovedRegs)).mono (by simp)) ?_
      exact (hevt.mono (by simp)).trans (.of_regs hregs)
    · rw [nsLand_eq hactive htodo hheld, immBit, regGet, hregs]
      exact immBit_raiseEvt _ _ _ (by decide)
    · rw [nsLand_eq hactive htodo hheld, hnone]
    · rw [nsLand_eq hactive htodo hheld, hdone]
      rfl
  case nsSeq =>
    intro s req ps hperf hne hlen hall hown hactive hfree
    have hns : (begun s.chip req 0x0104).ns = s.chip.ns := begun_kept _ _ _ .ns (by decide)
    have hempty : ps.isEmpty = false := List.isEmpty_eq_false_iff.2 hne
    have hform : ps.any (fun p => !isNs p.1.toNat) = false := by
      rw [List.any_eq_false]
      intro p hp
      simp [hall p hp]
    have howned : nsOwned (begun s.chip req 0x0104) req = false := by rw [nsOwned, hns]; exact hown
    have hlen' : ¬ 255 < ps.length := by omega
    refine replies_perform rfl hperf (e := (nsSubmit (begun s.chip req 0x0104)
      (ps.flatMap fun p => nsSettings p.1.toNat p.2) (some req) false).1) ?_ ?_
    · simp only [hempty, hlen', hform, howned, decide_false, Bool.or_self, Bool.false_eq_true, if_false,
        nsSubmit_queues (hns ▸ hactive) (hns ▸ hfree)]
    · rw [nsSubmit_queues (hns ▸ hactive) (hns ▸ hfree)]
      exact ⟨(kept_set_ns (by decide)).2 (.refl _ _), rfl, _, rfl, rfl, rfl⟩
  case posted =>
    intro s m p r hnext hup hrow hacc
    refine answers_chip (exec_pwdWriteLanded hnext hup hrow hacc) ⟨keptBut_chip.2 ?_, rfl, hup, rfl, ?_, ?_⟩
    · exact (kept_clearBits _ _ (by decide)).2 ((kept_pwdCount (by decide)).2 ((kept_set_pwd (by decide)).2 (.refl _ _)))
    · exact regGet_regPut_self _ _ _
    · exact RegsKeptBut.trans (.of_regs rfl) (regsKept_regPut _ _ List.mem_cons_self)
  case linkLost =>
    intro s hother
    have hlost : nsLinkLost (linkDown s.chip) = linkDown s.chip :=
      nsLinkLost_of_other fun q hq => hother q (by rwa [linkDown_ns] at hq)
    refine reports_chip (exec_powerLinkTimeout s) ?_
    rw [hlost]
    have hpwd := linkDown_pwd s.chip
    exact ⟨linkDown_kept s.chip, by rw [hpwd], by rw [hpwd], by rw [hpwd]⟩
  case discarded =>
    intro s q hactive hpwd
    have hq : (linkDown s.chip).ns.active = some q := by rw [linkDown_ns]; exact hactive
    refine reports_chip (exec_powerLinkTimeout s) ?_
    rw [nsLinkLost_of_powerDie hq hpwd]
    obtain ⟨hnone, hqueued, hresult⟩ := nsInterrupt_ns hq
    have hkept := nsInterrupt_kept hq .pwd (by decide)
    refine ⟨?_, ?_, hnone, hqueued, hresult, fun o => ?_⟩
    · exact (kept_nsInterrupt (by decide)).2 ((linkDown_kept s.chip).mono (by decide))
    · rw [show (nsInterrupt (linkDown s.chip)).pwd = _ from hkept, nsSent_linkUp, linkDown_pwd]
    · rw [coilOf_of_pwd hkept, nsSent_driven, coilOf, coilOf, linkDown_pwd]
  case mirror =>
    intro s bad since c
    have hbad := setBadLines_kept c bad
    have hback := nibBack_kept (refreshMirror (setBadLines c bad))
    have hstatus := nibStatus_bytes (setBadLines c bad)
    have hregs : (nibBack (refreshMirror (setBadLines c bad))).regs = (refreshMirror (setBadLines c bad)).regs :=
      hback .regs (by decide)
    have hnib : (setBadLines c bad).nib = s.chip.nib := (hbad .nib (by decide)).trans
      ((kept_runTo since (by decide)).2 (.refl [.regs, .tb, .host, .out] s.chip) .nib (by decide))
    have hpwd : (nibBack (refreshMirror (setBadLines c bad))).pwd = (setBadLines c bad).pwd :=
      (hback .pwd (by decide)).trans
        ((kept_refreshMirror (by decide)).2 (.refl [.regs, .saf] (setBadLines c bad)) .pwd (by decide))
    rw [hnib] at hstatus
    refine answers_chip (exec_nibMirrorRefresh s bad since) ⟨storesKept_chip s _, ?_, ?_, ?_, ?_, ?_, ?_, fun o ho hb => ?_⟩
    · exact (kept_nibBack (by decide)).2 ((kept_refreshMirror (by decide)).2 (hbad.mono (by decide)))
    · exact ((hbad.regsKept).trans (refreshMirror_regsKept _)).trans (.of_regs hregs)
    · rw [regGet, hregs]; exact hstatus.1
    · rw [regGet, hregs]; exact hstatus.2
    · rw [nibBack_mirrorAt, refreshMirror_mirrorAt]
      exact congrArg (fun t : Timebase => some t.aon) (hbad .tb (by decide))
    · rw [hpwd, setBadLines_badLines]
    · rw [coilOf_of_pwd hpwd]
      exact setBadLines_released c ho hb
  case recovered =>
    intro s bad since u c hhealthy hlate hfrom haon
    have hbad := setBadLines_kept c bad
    have hsaf : (setBadLines c bad).saf = c.saf := hbad .saf (by decide)
    have htb : (setBadLines c bad).tb = c.tb := hbad .tb (by decide)
    have hlate' : overMs (setBadLines c bad) (setBadLines c bad).saf.mirrorAt = false := by
      simp only [overMs, hsaf, htb]; exact hlate
    refine answers_chip (exec_nibMirrorRefresh s bad since) ?_
    refine nibBack_recovers (refreshMirror_healthyFrom hhealthy hlate' (by rw [hsaf]; exact hfrom)) ?_
    rw [show (refreshMirror (setBadLines c bad)).tb = (setBadLines c bad).tb from
      (kept_refreshMirror (by decide)).2 (.refl [.regs, .saf] _) .tb (by decide), htb]
    exact haon

end Sys2Proof
end

section
/-! PROOFS. Work turned away (R16, R350, R354, R440). -/

namespace Sys2Proof

open Machine

/-- R354: a request that is not admitted has no effect. -/
theorem perform_of_unadmitted (c : Chip) (req : Requester) (op : Nat) (b : Block) (act : Chip → Chip)
    (h : admitted c req op = false) : perform c req op b act = c := by
  cases req with
  | service tag => simp [perform, show ready c .svc = false from h]
  | host q tag => simp [perform, show mayStart [] c.host.inflight q tag op = false from h]

theorem performs_of_unadmitted {c : Chip} {req : Requester} {op : Nat} (b : Block) (h : admitted c req op = false) :
    performs c req op b = false := by
  cases req with
  | service tag => simp [performs, show ready c .svc = false from h]
  | host q tag => simp [performs, show mayStart [] c.host.inflight q tag op = false from h]

theorem performs_of_turned {c : Chip} {b : Block} {st : Status} (req : Requester) (op : Nat) (h : turnAway c b = some st) :
    performs c req op b = false := by
  simp [performs, h]

/-- R16: an admitted request whose block turns it away is answered so, and does nothing else. -/
theorem replies_turned {i : Instr} {s : State} {req : Requester} {op : Nat} {b : Block} {st : Status} {act : Chip → Chip}
    (h : exec i s = .next { s with chip := perform s.chip req op b act }) (hadm : admitted s.chip req op = true)
    (hturn : turnAway s.chip b = some st) : Replies i s req op (ansStatus st) fun c e => e = c :=
  replies_chip (h.trans (by
    rw [perform_of_turned _ _ _ _ _ st (by cases req <;> exact hadm) hturn])) rfl

/-- R440: DSP_WRITE that its block does not perform leaves the memory. -/
theorem exec_dspWrite_idle {s : State} {req : Requester} (a : Nat) (d : Option (List Byte))
    (h : performs s.chip req 0x0601 .pixel = false) : exec (.dspWrite req a d) s =
      .next { s with chip := perform s.chip req 0x0601 .pixel (fun c => complete c req (dspWriteAnswer s.chip a d)) } := by
  change execDspWrite req a d s = _
  simp [execDspWrite, h]

/-- Settles O58, by what `perform` does of a request that is not admitted, and of one whose block turns it away. -/
theorem workTurnedAway : Obligations.WorkTurnedAway := by
  unfold Obligations.WorkTurnedAway
  refine ⟨?turned, ?unadmitted, ?notReady, ?updating⟩
  case turned =>
    rintro s req op b st i hadm hturn (⟨cr, rfl, rfl, rfl⟩ | ⟨n, len, q, rfl, rfl, rfl⟩ | ⟨o, pt, a, k, l, rfl, rfl, rfl⟩ |
      ⟨sid, rfl, rfl, rfl⟩ | ⟨a, d, rfl, rfl, rfl⟩)
    · exact replies_turned rfl hadm hturn
    · exact replies_turned rfl hadm hturn
    · exact replies_turned rfl hadm hturn
    · exact replies_turned rfl hadm hturn
    · exact replies_turned (exec_dspWrite_idle a d (performs_of_turned _ _ hturn)) hadm hturn
  case unadmitted =>
    have hidle : ∀ {s : State} {req : Requester} {op : Nat} (b : Block) (act : Chip → Chip),
        admitted s.chip req op = false →
        (.next { s with chip := perform s.chip req op b act } : Host.Outcome State Fault Refusal) = .next s :=
      fun b act h => by rw [perform_of_unadmitted _ _ _ b act h]
    rintro s req i (⟨cr, rfl, h⟩ | ⟨n, len, q, rfl, h⟩ | ⟨o, pt, a, k, l, rfl, h⟩ | ⟨sid, rfl, h⟩ | ⟨a, d, rfl, h⟩)
    · exact hidle .tariff _ h
    · exact hidle .legalLog _ h
    · exact hidle (.outletEngine o) _ h
    · exact hidle (stopBlock s.chip sid) _ h
    · exact (exec_dspWrite_idle a d (performs_of_unadmitted _ h)).trans (hidle .pixel _ h)
  case notReady =>
    rintro c b r hr hb hready hidle
    have hupd : (regionUpdating c r && r != .svc) = false := by
      rcases hidle with h | rfl
      · rw [h]; rfl
      · simp
    simp [turnAway, hr, hupd, hready, hb]
  case updating =>
    intro c b r hr hupd hsvc
    simp [turnAway, hr, hupd, hsvc]

end Sys2Proof
end

section
/-! PROOFS. The descriptors of the timebase (R109, R111, R113, R362). -/

namespace Sys2Proof.Machine

@[simp] theorem begun_regs (c : Chip) (req : Requester) (op : Nat) : (begun c req op).regs = c.regs := by
  cases req <;> rfl

@[simp] theorem begun_live (c : Chip) (req : Requester) (op : Nat) : (begun c req op).live = c.live := by
  cases req <;> rfl

@[simp] theorem begun_fab (c : Chip) (req : Requester) (op : Nat) : (begun c req op).fab = c.fab := by
  cases req <;> rfl

theorem cannotBook_begun (c : Chip) (req : Requester) (op : Nat) (b : Booking) :
    cannotBook (begun c req op) b = cannotBook c b := by cases req <;> rfl

theorem srcEnabled_begun (c : Chip) (req : Requester) (op : Nat) (t : TimeSrc) :
    srcEnabled (begun c req op) t = srcEnabled c t := by cases req <;> rfl

theorem offsetIgnored_begun (c : Chip) (req : Requester) (op : Nat) (t : TimeSrc) :
    offsetIgnored (begun c req op) t = offsetIgnored c t := by cases req <;> rfl

theorem stepLimit_begun (c : Chip) (req : Requester) (op : Nat) : stepLimit (begun c req op) = stepLimit c := by
  cases req <;> rfl

theorem book_refused {c : Chip} {b : Booking} (h : cannotBook c b = true) : book c b = (c, .badInstant) := by
  simp [book, h]

theorem book_room {c : Chip} {b : Booking} (h : cannotBook c b = false) (hroom : c.tb.sched.length < 256) : book c b =
    ({ c with tb := { c.tb with
      sched := c.tb.sched ++ [b], schedHigh := max c.tb.schedHigh (sat 255 (c.tb.sched ++ [b]).length) } }, .ok) := by
  simp [book, h, Nat.not_le.2 hroom]

theorem book_full {c : Chip} {b : Booking} (h : cannotBook c b = false) (hfull : 256 ≤ c.tb.sched.length) :
    (book c b).2 = .full := by
  simp [book, h, hfull]

theorem roundOpen_exact (c : Chip) (p : Nat) {num : Int} {den : Nat} (h : num % (den : Int) = 0) :
    roundOpen c p num den = num / (den : Int) := if_pos h

/-- R113: an offset within the limit, of a source that is heard, is slewed. -/
theorem wallOffset_slewed {c : Chip} {t : TimeSrc} {offset : Int} (hsrc : srcEnabled c t = true)
    (hheard : offsetIgnored c t = false) (hvalid : c.tb.valid = true) (hlimit : offset.natAbs ≤ stepLimit c * 2 ^ 32) :
    wallOffset c t offset = { c with tb := { c.tb with slewRem := offset, src := t, step := none } } := by
  simp only [wallOffset, hsrc, hheard, hvalid, hlimit, Bool.not_true, if_true, if_false, Bool.false_eq_true]

theorem timeSetAux_slewed {c : Chip} {offset : Int} (hheard : offsetIgnored c .host = false) (hvalid : c.tb.valid = true)
    (hlimit : offset.natAbs ≤ stepLimit c * 2 ^ 32) : timeSetAux c offset = 0 := by
  simp only [timeSetAux, hheard, hvalid, hlimit, Bool.not_true, if_true, if_false, Bool.false_eq_true]

end Sys2Proof.Machine

namespace Sys2Proof

open Machine

/-- Settles O12, opcode by opcode: each is performed by the timebase, and answered by what it finds. -/
theorem timebaseDescriptors : Obligations.TimebaseDescriptors := by
  unfold Obligations.TimebaseDescriptors
  refine ⟨?nop, ?marker, ?markerRefused, ?cancel, ?cancelNone, ?timeSet, ?timeSetClosed⟩
  case nop => exact fun s req hperf => replies_perform rfl hperf rfl rfl
  case marker =>
    intro s req cyc a hperf hbook hroom
    have hdone := book_room ((cannotBook_begun s.chip req 0x0002 _).trans hbook) (by rw [begun_tb]; exact hroom)
    refine answers_chip
      (d := (book (begun s.chip req 0x0002) { cycle := cyc, angle := a, kind := .marker req, period := 0 }).1) ?_
      ⟨storesKept_chip s _, ?_, ?_⟩
    · change execMarker req cyc a s = _
      simp only [execMarker, onChip, perform_of_performs _ _ _ _ _ hperf, hdone]
    · rw [hdone]
      exact (kept_set_tb (by decide)).2 (.refl _ _)
    · rw [hdone, begun_tb]
  case markerRefused =>
    intro s req cyc a hperf hbook
    refine replies_perform rfl hperf ?_ rfl
    simp only [book_refused ((cannotBook_begun ..).trans hbook)]
  case cancel =>
    intro s req tag hperf hany
    refine replies_perform rfl hperf (by simp only [begun_tb, hany, if_true]; rfl) ⟨_, ?_, ?_, rfl⟩
    · exact (kept_unbook _ (by decide)).2 (.refl _ _)
    · rfl
  case cancelNone =>
    intro s req tag hperf hany
    exact replies_perform rfl hperf (by simp only [begun_tb, hany, Bool.false_eq_true, if_false]) rfl
  case timeSet =>
    intro s req utc hperf hsrc hvalid hheard hlimit hwhole
    rw [← srcEnabled_begun s.chip req 0x0004] at hsrc
    rw [← offsetIgnored_begun s.chip req 0x0004] at hheard
    rw [← stepLimit_begun s.chip req 0x0004] at hlimit
    rw [← begun_tb s.chip req 0x0004] at hvalid hlimit ⊢
    have hround := roundOpen_exact (begun s.chip req 0x0004) 7100 (num := (utc * 2 ^ 16 : Nat) - (s.chip.tb.wall : Int))
      (den := 2 ^ 16) (by omega)
    rw [← begun_tb s.chip req 0x0004] at hround
    refine replies_perform rfl hperf (e := wallOffset (begun s.chip req 0x0004) .host
      ((utc * 2 ^ 16 : Nat) - ((begun s.chip req 0x0004).tb.wall : Int))) ?_ ?_
    · simp only [hsrc, hround, timeSetAux_slewed hheard hvalid hlimit, Bool.not_true, Bool.false_eq_true, if_false]
      rfl
    · rw [wallOffset_slewed hsrc hheard hvalid hlimit]
      exact ⟨(kept_set_tb (by decide)).2 (.refl _ _), rfl, rfl⟩
  case timeSetClosed =>
    intro s req utc hperf hsrc
    rw [← srcEnabled_begun s.chip req 0x0004] at hsrc
    exact replies_perform rfl hperf (by simp only [hsrc, Bool.not_false, if_true]) rfl

end Sys2Proof
end

section
/-! PROOFS. Module resets (R52, R53): a sequence under way that names the cause's register (R41), as in O5. -/

namespace Sys2Proof

open Machine

/-- Refutes O4: a watchdog reset records its cause, and the sequence under way then lands its setting (R41). In
`wdogClearingState` that setting clears WDOG of SUP_RST_CAUSE, so `ModuleReset` does not hold of what is left. -/
theorem not_moduleResetCommands : ¬ Obligations.ModuleResetCommands := by
  unfold Obligations.ModuleResetCommands
  rintro ⟨-, -, -, -, -, -, hwatchdog, -⟩
  obtain ⟨-, hreset, -⟩ := watchdog_of_answers (hwatchdog wdogClearingState mayAskReset_wdogClearingState)
  have hkept := hreset.cause_recorded
  rw [watchdog_loses_cause] at hkept
  exact Bool.false_ne_true hkept

end Sys2Proof
end

section
/-! PROOFS. Modes and regions (R16, R45, R47, R61): what a change of the mode, a settled mode and a fence leave. -/

namespace Sys2Proof.Machine

theorem getLsbD_setBitV {n : Nat} (v : BitVec n) (k : Nat) (b : Bool) {i : Nat} (hi : i < n) :
    (setBitV v k b).getLsbD i = if k = i then b else v.getLsbD i := by
  unfold setBitV
  cases b
  · simp only [Bool.false_eq_true, if_false, BitVec.getLsbD_and, BitVec.getLsbD_not, BitVec.getLsbD_ofNat,
      Nat.testBit_two_pow, hi, decide_true, Bool.true_and]
    split <;> simp [*]
  · simp only [if_true, BitVec.getLsbD_or, BitVec.getLsbD_ofNat, Nat.testBit_two_pow, hi, decide_true, Bool.true_and]
    split <;> simp [*]

theorem Region.idx_lt (r : Region) : r.idx < 7 := by cases r <;> decide

theorem Region.idx_ne {r q : Region} (h : r ≠ q) : r.idx ≠ q.idx := by revert h; cases r <;> cases q <;> decide

theorem getLsbD_fence (v : BitVec 7) (r q : Region) (b : Bool) :
    (setBitV v r.idx b).getLsbD q.idx = if r = q then b else v.getLsbD q.idx := by
  rw [getLsbD_setBitV _ _ _ q.idx_lt]
  by_cases h : r = q
  · simp [h]
  · simp [h, Region.idx_ne h]

/-- R16: the supervisor once a region is fenced: no longer ready, the other fences as before. -/
theorem fenceRegion_sup (c : Chip) (r : Region) : (fenceRegion c r).sup = { c.sup with
    ready := match r.func with | some f => setBitV c.sup.ready f.idx false | none => c.sup.ready
    fence := setBitV c.sup.fence r.idx true } := by
  have hwork : ∀ (d : Chip) (p : Block → Bool), (discardWork d p).sup = d.sup := discardWork_sup
  have hrouter : (nsRouterLost c).sup = c.sup :=
    (kept_nsRouterLost (by decide)).2 (.refl [.regs, .ns, .pwd, .host, .fab, .out] c) .sup (by decide)
  have hregion : (discardRegion c r).sup = c.sup :=
    (kept_discardRegion r (by decide)).2 (.refl [.regs, .ns, .tb, .pwd, .host, .fab, .out] c) .sup (by decide)
  unfold fenceRegion
  dsimp only
  split <;> simp only [hwork, hrouter, hregion] <;> rfl

theorem fenced_fenceRegion (c : Chip) (r q : Region) : fenced (fenceRegion c r) q = (decide (r = q) || fenced c q) := by
  rw [fenced, fenceRegion_sup, getLsbD_fence]
  by_cases h : r = q <;> simp [h, fenced]

/-- R45: the supervisor once the mode has changed from one that is not Safe-stop. -/
theorem setMode_sup {c : Chip} {m : Mode} (cause : Nat) (h : c.sup.mode ≠ m) (hsafe : c.sup.mode ≠ .safeStop) :
    (setMode c m cause).sup = { c.sup with mode := m, prevMode := c.sup.mode, modeCause := cause } := by
  have hblot : ∀ (d : Chip) (a b e : Nat), (blotEvent d a b e).sup = d.sup := fun d a b e =>
    (kept_blotEvent a b e (by decide)).2 (.refl [.regs, .host, .blt, .out] d) .sup (by decide)
  simp only [setMode, h, hsafe, if_false, routeEvt_sup, hblot]

theorem settleMode_operational {c : Chip} (h : c.sup.mode = .operational) (hdeg : c.sup.degCauses = []) :
    settleMode c = c := by simp [settleMode, h, hdeg]

theorem settleMode_quarantine {c : Chip} (h : c.sup.mode = .quarantine) : settleMode c = c := by simp [settleMode, h]

theorem clearSrc_kept (c : Chip) (n : Nat) : ChipKeptBut [.flt] c (clearSrc c n) :=
  (kept_clearSrc n (by decide)).2 (.refl _ c)

theorem fabStart_kept (c : Chip) : ChipKeptBut [.regs, .host, .fab, .out] c (fabStart c) :=
  (kept_fabStart (by decide)).2 (.refl _ c)

/-! ### Clocks (R24, R25) -/

theorem exec_clockLoss_other {s : State} {d : Domain} (hdie : dieRuns s.chip = true) (hd : d ≠ .ref) :
    exec (.clockLoss d) s = .next { s with chip := reportSrc s.chip (139 + d.idx) 0 } := by
  change execClockLoss d s = _
  cases d
  case ref => exact absurd rfl hd
  all_goals simp [execClockLoss, onChip, hdie]

theorem exec_clockLoss_ref {s : State} (hdie : dieRuns s.chip = true) (hfirst : (reportSrc s.chip 140 0).sup.refLost = false) :
    exec (.clockLoss .ref) s = .next { s with chip := loseRef (reportSrc s.chip 140 0) } := by
  change execClockLoss .ref s = _
  simp [execClockLoss, onChip, hdie, Domain.idx, hfirst]

theorem exec_clockExcursion {s : State} (d : Domain) (hdie : dieRuns s.chip = true) :
    exec (.clockExcursion d) s = .next { s with chip := reportSrc s.chip (139 + d.idx) 0 } := by
  change execClockExcursion d s = _
  simp [execClockExcursion, onChip, hdie]

/-- R24: the chip that has lost REF: three regions fenced, the ports down. -/
def refDropped (c : Chip) : Chip :=
  portsDown (fenceRegion (fenceRegion (fenceRegion
    { c with sup := { c.sup with refLost := true }, met := { c.met with fallback := true } } .svc) .lnk) .dsp)

theorem loseRef_eq (c : Chip) : loseRef c = addDegCause (refDropped c) .refClock := rfl

theorem refDropped_kept (c : Chip) : ChipKeptBut [.regs, .sup, .ns, .tb, .pwd, .host, .fab, .out]
    { c with met := { c.met with fallback := true } } (refDropped c) :=
  (kept_portsDown (by decide)).2 ((kept_fenceRegion .dsp (by decide)).2 ((kept_fenceRegion .lnk (by decide)).2
    ((kept_fenceRegion .svc (by decide)).2 ((kept_set_sup (by decide)).2 (.refl _ _)))))

theorem portsDown_sup (c : Chip) : (portsDown c).sup = c.sup :=
  (kept_portsDown (by decide)).2 (.refl [.fab] c) .sup (by decide)

theorem fenced_refDropped (c : Chip) (r : Region) (h : r = .svc ∨ r = .lnk ∨ r = .dsp) : fenced (refDropped c) r = true := by
  rw [refDropped, fenced, portsDown_sup]
  change fenced _ r = true
  rw [fenced_fenceRegion, fenced_fenceRegion, fenced_fenceRegion]
  rcases h with rfl | rfl | rfl <;> simp

theorem refDropped_sup_refLost (c : Chip) : (refDropped c).sup.refLost = true := by
  rw [refDropped, portsDown_sup, fenceRegion_sup, fenceRegion_sup, fenceRegion_sup]

theorem exec_refRestored {s : State} (hdie : dieRuns s.chip = true) (hlost : s.chip.sup.refLost = true) :
    exec .refRestored s = .next { s with chip := refBack s.chip } := by
  change execRefRestored s = _
  simp [execRefRestored, onChip, hdie, hlost]

/-- R25: the chip with REF back and the fences f. -/
def refFound (c : Chip) (f : BitVec 7) : Chip :=
  { c with sup := { c.sup with refLost := false, fence := f },
           met := { c.met with fallback := false, dtCorr := 0x40000000 } }

theorem refBack_eq {c : Chip} (h : c.sup.mode ≠ .holdUp) : refBack c = dropDegCause (clearSrc (fabStart (refFound c
    (if c.sup.mode == .quarantine || c.sup.quarantineDue.isSome then
      setBitV (setBitV c.sup.fence Region.svc.idx false) Region.lnk.idx false
    else setBitV (setBitV (setBitV c.sup.fence Region.svc.idx false) Region.lnk.idx false) Region.dsp.idx false))) 140)
      .refClock := by
  simp [refBack, refUnfence, h, refFound]

theorem refFound_kept (c : Chip) (f : BitVec 7) : ChipKeptBut [.sup, .met] c (refFound c f) :=
  (kept_set_sup_met (by decide)).2 (.refl _ c)

/-- R25: in Quarantine the fence of the display stays. -/
theorem refBack_sup_quarantine {c : Chip} (h : c.sup.mode = .quarantine) : (refBack c).sup = { c.sup with
    refLost := false
    fence := setBitV (setBitV c.sup.fence Region.svc.idx false) Region.lnk.idx false
    degCauses := c.sup.degCauses.filter (fun x => x != .refClock) } := by
  have hcleared : ∀ d : Chip, (clearSrc (fabStart d) 140).sup = d.sup := fun d =>
    (clearSrc_kept (fabStart d) 140 .sup (by decide)).trans (fabStart_kept d .sup (by decide))
  have hquar : (c.sup.mode == .quarantine || c.sup.quarantineDue.isSome) = true := by rw [h]; rfl
  rw [refBack_eq (by rw [h]; decide), hquar, if_pos rfl, dropDegCause,
    settleMode_quarantine (by simp only [hcleared]; exact h), hcleared]
  rfl

/-! ### Requests for a mode (R47, R48) -/

theorem modeRefusal_regPut (c : Chip) (w : Word) (t : Nat) :
    modeRefusal (regPut c Reg.SUP_MODE_REQ w) t = modeRefusal c t := by
  have hdeep : deepRefused (regPut c Reg.SUP_MODE_REQ w) = deepRefused c := by
    have hstby : immBit (regPut c Reg.SUP_MODE_REQ w) Reg.SUP_STBY_CFG 16 = immBit c Reg.SUP_STBY_CFG 16 := by
      rw [immBit, immBit, regGet_regPut_ne _ _ (by decide)]
    rw [deepRefused, deepRefused, hstby]
    rfl
  simp only [modeRefusal, hdeep]
  rfl

theorem modeRefusal_begun (c : Chip) (req : Requester) (op t : Nat) : modeRefusal (begun c req op) t = modeRefusal c t := by
  cases req <;> rfl

theorem submitMode_refused {c : Chip} {target : Nat} {a : Answer} (prepOff : Bool) (cause : Nat) (owner : Option Requester)
    (h : modeRefusal c target = some a) : submitMode c target prepOff cause owner =
      completeOpt { c with sup := { c.sup with modeResult := a.status.code } } owner a := by
  simp only [submitMode, h]

/-- R47: the chip with a request for a mode accepted. -/
def modeAccepted (c : Chip) (r : ModeRequest) : Chip :=
  { c with sup := { c.sup with modeResult := Status.ok.code, modeReq := some r } }

theorem submitMode_accepted {c : Chip} {target : Nat} (cause : Nat) (owner : Option Requester)
    (h : modeRefusal c target = none) : submitMode c target false cause owner =
      completeOpt (modeAccepted c ⟨target, false, cause, none, true⟩) owner ansOk := by
  simp [submitMode, h, modeAccepted]

theorem submitMode_accepted_unowned {c : Chip} {target : Nat} (prepOff : Bool) (cause : Nat)
    (h : modeRefusal c target = none) : submitMode c target prepOff cause none =
      modeAccepted c ⟨target, prepOff && target == 6, cause, none, true⟩ := by
  simp [submitMode, h, modeAccepted, completeOpt]

theorem exec_modeReqGo {s : State} (m : BitVec 4) (p : Bool) (hopen : windowClosed s.chip Reg.SUP_MODE_REQ = false)
    (hdie : dieRuns s.chip = true) (hfree : s.chip.sup.modeReq = none) : exec (.modeReqGo m p) s = .next { s with
      chip := submitMode (regPut s.chip Reg.SUP_MODE_REQ (wordOf (m.toNat + placeBit 9 p))) m.toNat p 1 none } := by
  change execModeReqGo m p s = _
  simp [execModeReqGo, onChip, reach, hopen, hdie, hfree]

/-- R47, R48: the chip once the counters are saved before supply is removed. -/
def preparedOff (c : Chip) : Chip := { ageSave c with sup := { c.sup with prepDone := true, prepOwner := none } }

theorem exec_prepDone {s : State} (hmode : s.chip.sup.mode = .safeStop) (hkept : s.chip.dsp.offKept = true)
    (hfirst : s.chip.sup.prepDone = false) (hpanel : s.chip.dsp.pstate = .off) (hbusy : s.chip.bp.busy = false) :
    exec .prepDone s = .next { s with chip := completeOpt (preparedOff s.chip) s.chip.sup.prepOwner ansOk } := by
  change execPrepDone s = _
  simp [execPrepDone, onChip, hmode, hkept, hfirst, hpanel, hbusy, preparedOff]

/-! ### Wake events and the alarm (R60, R61, R118) -/

/-- R61: a wake event in Standby with no request pending leads to Operational. -/
theorem wakeUp_standby {c : Chip} {k : Nat} (hwake : wakeEnabled c k = true) (hmode : c.sup.mode = .standby)
    (hfree : c.sup.modeReq = none) (hdeg : c.sup.degCauses = []) :
    (wakeUp c k).sup = { c.sup with mode := .operational, prevMode := .standby, modeCause := 8 } := by
  have hrates : ∀ d : Chip, (allRates d false).sup = d.sup := fun d =>
    (kept_allRates false (by decide)).2 (.refl [.regs, .host, .fab, .out] d) .sup (by decide)
  have hset : (allRates (setMode c .operational 0x08) false).sup =
      { c.sup with mode := .operational, prevMode := .standby, modeCause := 8 } := by
    rw [hrates, setMode_sup _ (by rw [hmode]; decide) (by rw [hmode]; decide), hmode]
  have hdie : dieRuns c = true := by rw [dieRuns, hmode]; rfl
  have hcancel : cancelModeReq c = c := by simp only [cancelModeReq, hfree]
  simp only [wakeUp, hwake, hdie, hcancel, hmode, Bool.and_self, if_true]
  rw [settleMode_operational (by rw [hset]) (by rw [hset]; exact hdeg), hset]

theorem exec_rtcAlarm_idle {s : State} {since : Nat} (h : regGet (runTo s.chip since) Reg.SUP_RTC_ALARM = 0#32) :
    exec (.rtcAlarm since) s = .next { s with chip := runTo s.chip since } := by
  change execRtcAlarm since s = _
  simp [execRtcAlarm, onChip, h]

theorem runTo_kept (c : Chip) (since : Nat) : ChipKeptBut [.regs, .tb, .host, .out] c (runTo c since) :=
  (kept_runTo since (by decide)).2 (.refl _ c)

theorem runTo_sup (c : Chip) (since : Nat) : (runTo c since).sup = c.sup := runTo_kept c since .sup (by decide)

theorem exec_rtcAlarm_rings {s : State} {since : Nat} (hoff : s.chip.sup.mode ≠ .off) (hreset : s.chip.sup.mode ≠ .reset)
    (hdeep : s.chip.sup.mode ≠ .deepStandby) (hstby : s.chip.sup.mode ≠ .standby)
    (hset : regGet (runTo s.chip since) Reg.SUP_RTC_ALARM ≠ 0#32)
    (hnow : (runTo s.chip since).tb.wall / 2 ^ 32 % 2 ^ 32 = (regGet (runTo s.chip since) Reg.SUP_RTC_ALARM).toNat) :
    exec (.rtcAlarm since) s = .next { s with chip := raiseEvt (runTo s.chip since) Reg.SUP_TB_EVT 6 } := by
  have hsome : (regGet (runTo s.chip since) Reg.SUP_RTC_ALARM).toNat ≠ 0 := fun h => hset (BitVec.eq_of_toNat_eq h)
  have hsup : (raiseEvt (runTo s.chip since) Reg.SUP_TB_EVT 6).sup = s.chip.sup := by
    rw [raiseEvt_sup, runTo_sup]
  change execRtcAlarm since s = _
  simp only [execRtcAlarm, onChip, hnow, hsup, runTo_sup, hoff, hreset, hdeep, hstby, hsome, if_false, ne_eq,
    not_true_eq_false, or_self]

end Sys2Proof.Machine

namespace Sys2Proof

open Machine

/-- Settles O6: each clock and each request is followed to the chip that its command leaves. -/
theorem clockAndModeCommands : Obligations.ClockAndModeCommands := by
  unfold Obligations.ClockAndModeCommands
  refine ⟨?lost, ?refLost, ?excursion, ?refFound, ?refQuarantine, ?goAccepted, ?goRefused, ?modeReq, ?prepDone, ?wakeEvent,
    ?wakePort, ?alarm, ?noAlarm⟩
  case lost => exact fun s d hdie hd => reports_chip (exec_clockLoss_other hdie hd) rfl
  case refLost =>
    intro s hdie hfirst
    have hexec := exec_clockLoss_ref hdie hfirst
    rw [loseRef_eq] at hexec
    generalize reportSrc s.chip 140 0 = c at hexec
    refine answers_chip hexec ⟨storesKept_chip s _, refDropped c, ?_⟩
    have hmet : (refDropped c).met = { c.met with fallback := true } := refDropped_kept c .met (by decide)
    refine ⟨refDropped_sup_refLost c, by rw [hmet], fenced_refDropped c .svc (by decide),
      fenced_refDropped c .lnk (by decide), fenced_refDropped c .dsp (by decide), ?_⟩
    with_reducible rfl
  case excursion => exact fun s d hdie => reports_chip (exec_clockExcursion d hdie) rfl
  case refFound =>
    intro s hdie hlost hup hquar hdue
    have hq : (s.chip.sup.mode == .quarantine || s.chip.sup.quarantineDue.isSome) = false := by simp [hquar, hdue]
    refine answers_chip (exec_refRestored hdie hlost) ⟨storesKept_chip s _, refFound s.chip
      (setBitV (setBitV (setBitV s.chip.sup.fence Region.svc.idx false) Region.lnk.idx false) Region.dsp.idx false),
      refFound_kept _ _, rfl, rfl, rfl, ?_, ?_, ?_, ?_⟩
    rotate_right
    · dsimp only
      rw [refBack_eq hup, hq]
      rfl
    all_goals simp only [fenced, refFound, getLsbD_fence, reduceCtorEq, if_false, if_true]
  case refQuarantine =>
    intro s hlost hmode
    have hdie : dieRuns s.chip = true := by rw [dieRuns, hmode]; rfl
    have hsup := refBack_sup_quarantine hmode
    refine answers_chip (exec_refRestored hdie hlost) ⟨storesKept_chip s _, ?_⟩
    simp only [fenced, hsup, hmode, getLsbD_fence, reduceCtorEq, if_false, if_true, and_self]
  case goAccepted =>
    intro s m p hopen hdie hfree hok
    refine answers_chip (exec_modeReqGo m p hopen hdie hfree) ?_
    rw [submitMode_accepted_unowned _ _ ((modeRefusal_regPut ..).trans hok)]
    refine ⟨keptBut_chip.2 ?_, RegsKeptBut.trans (regsKept_regPut _ _ List.mem_cons_self) (.of_regs rfl), rfl, rfl, rfl⟩
    exact (kept_set_sup (by decide)).2 ((kept_set_regs (by decide)).2 (.refl _ _))
  case goRefused =>
    intro s m p a hopen hdie hfree hno
    refine answers_chip (exec_modeReqGo m p hopen hdie hfree) ?_
    rw [submitMode_refused _ _ _ ((modeRefusal_regPut ..).trans hno)]
    refine ⟨keptBut_chip.2 ?_, hfree, rfl⟩
    exact (kept_set_sup (by decide)).2 ((kept_set_regs (by decide)).2 (.refl _ _))
  case modeReq =>
    intro s req target hperf hfree hok
    have hfree' : (begun s.chip req 0x0005).sup.modeReq = none := by rw [begun_sup]; exact hfree
    refine replies_perform rfl hperf (e := modeAccepted (begun s.chip req 0x0005)
      ⟨target, false, _, none, true⟩) ?_
      ⟨(kept_set_sup (by decide)).2 (.refl _ _), rfl, rfl⟩
    simp only [hfree', submitMode_accepted _ _ ((modeRefusal_begun ..).trans hok)]
    rfl
  case prepDone =>
    intro s hmode hkept hfirst hpanel hbusy
    refine answers_chip (exec_prepDone hmode hkept hfirst hpanel hbusy) ⟨storesKept_chip s _, preparedOff s.chip, ?_, rfl, rfl, rfl⟩
    exact (kept_set_sup (by decide)).2 ((kept_ageSave (by decide)).2 (.refl _ _))
  case wakeEvent =>
    intro s k hwake hmode hfree hdeg
    have hsup := wakeUp_standby hwake hmode hfree hdeg
    refine answers_chip (show exec (.wakeEvent k) s = .next { s with chip := wakeUp s.chip k.val } from rfl)
      ⟨storesKept_chip s _, ?_⟩
    dsimp only
    rw [hsup]
    exact ⟨rfl, rfl, rfl⟩
  case wakePort =>
    intro s p hport hwake hmode hfree hdeg
    have hsup := wakeUp_standby hwake hmode hfree hdeg
    have hexec : exec (.wake p) s = .next { s with chip := wakeUp s.chip 3 } := by
      change execWake p s = _
      simp [execWake, onChip, hport]
    refine answers_chip hexec ⟨storesKept_chip s _, ?_⟩
    dsimp only
    rw [hsup]
    exact ⟨rfl, rfl⟩
  case alarm =>
    intro s since c hoff hreset hdeep hstby hset hnow
    refine answers_chip (exec_rtcAlarm_rings hoff hreset hdeep hstby hset hnow)
      ⟨storesKept_chip s _, (kept_raiseEvt _ _ (by decide)).2 (.refl _ _), immBit_raiseEvt _ _ _ (by decide),
        regsKept_raiseEvt _ _ List.mem_cons_self⟩
  case noAlarm =>
    intro s since c hzero
    exact answers_chip (exec_rtcAlarm_idle hzero) ⟨storesKept_chip s _, rfl⟩

end Sys2Proof
end

section
/-! PROOFS. The start after a reset (R50, R52, R53, R57): what its parts leave of the supervisor. -/

namespace Sys2Proof.Machine

/-! ### The supervisor over a start -/

/-- Mode, lifecycle state, fences and causes of Degraded are as before. -/
def StartKeeps (c d : Chip) : Prop :=
  d.sup.mode = c.sup.mode ∧ d.sup.lcs = c.sup.lcs ∧ d.sup.fence = c.sup.fence ∧ d.sup.degCauses = c.sup.degCauses

theorem startKeeps_refl (c : Chip) : StartKeeps c c := ⟨rfl, rfl, rfl, rfl⟩

theorem startKeeps_congr {c d e : Chip} (h : e.sup = d.sup) : StartKeeps c e ↔ StartKeeps c d := by
  simp only [StartKeeps, h]

theorem startKeeps_set_tru (c d : Chip) (x : Tru) : StartKeeps c { d with tru := x } ↔ StartKeeps c d := .rfl

theorem startKeeps_set_leg (c d : Chip) (x : Leg) : StartKeeps c { d with leg := x } ↔ StartKeeps c d := .rfl

theorem startKeeps_set_wipe (c d : Chip) (x : Wipe) : StartKeeps c { d with wipe := x } ↔ StartKeeps c d := .rfl

theorem startKeeps_set_tb (c d : Chip) (x : Timebase) : StartKeeps c { d with tb := x } ↔ StartKeeps c d := .rfl

theorem startKeeps_takeFree (c d : Chip) : StartKeeps c (takeFree d) ↔ StartKeeps c d := .rfl

theorem startKeeps_dueQuarantine (c d : Chip) (n : Nat) : StartKeeps c (dueQuarantine d n) ↔ StartKeeps c d := .rfl

theorem startKeeps_raiseEvt (c d : Chip) (a b : Nat) : StartKeeps c (raiseEvt d a b) ↔ StartKeeps c d :=
  startKeeps_congr (raiseEvt_sup _ _ _)

theorem startKeeps_ite (c d e : Chip) (p : Prop) [Decidable p] :
    StartKeeps c (if p then d else e) ↔ if p then StartKeeps c d else StartKeeps c e := by split <;> rfl

theorem StartKeeps.foldl {α : Type} {f : Chip → α → Chip} (hf : ∀ c d a, StartKeeps c (f d a) ↔ StartKeeps c d) (l : List α)
    (c : Chip) : StartKeeps c (l.foldl f c) :=
  foldl_keeps (P := StartKeeps c) (fun d a hd => (hf c d a).2 hd) l (startKeeps_refl c)

theorem startXmt_startKeeps (f : Fuses) (c d : Chip) : StartKeeps c (startXmt f d) ↔ StartKeeps c d := by
  unfold startXmt
  dsimp only
  split <;> simp only [startKeeps_set_tru, startKeeps_dueQuarantine, startKeeps_raiseEvt, startKeeps_ite, ite_self]

theorem startTru_startKeeps (f : Fuses) (c : Chip) : StartKeeps c (startTru f c) := by
  simp only [startTru, startKeeps_set_tru, startKeeps_dueQuarantine, startKeeps_takeFree, startXmt_startKeeps, startKeeps_ite,
    ite_self, startKeeps_refl]

theorem startXmt_unit (f : Fuses) (c : Chip) : (startXmt f c).tru.unit = c.tru.unit := by
  unfold startXmt
  dsimp only
  split
  · rfl
  · split_ifs
    · rfl
    · rfl
    · rfl
    · change (raiseEvt _ _ _).tru.unit = _
      rw [raiseEvt_tru]

theorem startTru_unit (f : Fuses) (c : Chip) : (startTru f c).tru.unit = f.unit := by
  unfold startTru
  dsimp only
  split_ifs <;> exact startXmt_unit f _

theorem startTru_flt (f : Fuses) (c : Chip) : (startTru f c).flt = c.flt :=
  (kept_startTru f (by decide)).2 (.refl [.regs, .sup, .host, .tru, .out, .freeCount] c) .flt (by decide)

theorem startKeeps_restoreRing (c d : Chip) (bad : List Nat) : StartKeeps c (restoreRing d bad) ↔ StartKeeps c d := by
  have hcorrupt : (corruptSlots { d with acc := { d.acc with cutDur := 0 } } bad).sup = d.sup :=
    (kept_corruptSlots bad (by decide)).2 ((kept_set_acc (by decide)).2 (.refl [.acc] d)) .sup (by decide)
  have hcount : ∀ e : Chip, (countBad e).sup = e.sup := fun e =>
    (kept_countBad (by decide)).2 (.refl [.regs, .host, .out] e) .sup (by decide)
  have hslot : ∀ (e : Chip) (n : Nat) (sl : CommitSlot), (restoreSlot e n sl).sup = e.sup := fun e n sl =>
    (kept_restoreSlot n sl (by decide)).2 (.refl [.regs, .tb, .met, .acc, .host, .out] e) .sup (by decide)
  unfold restoreRing
  dsimp only
  split
  · exact startKeeps_congr ((hslot _ _ _).trans ((hcount _).trans hcorrupt))
  · split
    · exact startKeeps_congr hcorrupt
    · exact (startKeeps_dueQuarantine c _ _).trans (startKeeps_congr ((hcount _).trans hcorrupt))

theorem startKeeps_startLegal (f : Fuses) (c d : Chip) (bad : BitVec 4) (pin : Bool) :
    StartKeeps c (startLegal f d bad pin) ↔ StartKeeps c d := by
  have hend : ∀ e : Chip, StartKeeps c (startSeal (outageSpans e) pin) ↔ StartKeeps c e := fun e =>
    startKeeps_congr ((kept_startSeal pin (by decide)).2 ((kept_outageSpans (by decide)).2 (.refl [.tar, .sess, .leg] e))
      .sup (by decide))
  have hentry : ∀ (e : Chip) (t p : Nat) (b : List Byte), StartKeeps c (legalEntry e t p b none) ↔ StartKeeps c e :=
    fun e t p b => startKeeps_congr ((kept_legalEntry t p b none (by decide)).2 (.refl [.leg] e) .sup (by decide))
  have hhead : ∀ e : Chip, StartKeeps c (findHead e) ↔ StartKeeps c e := fun e =>
    startKeeps_congr ((kept_findHead (by decide)).2 (.refl [.leg] e) .sup (by decide))
  simp only [startLegal, hend, hentry, hhead, startKeeps_set_leg, startKeeps_set_wipe, startKeeps_dueQuarantine,
    startKeeps_ite, ite_self]

theorem startMet_startKeeps (f : Fuses) (c : Chip) (bad : List Nat) (badCopies : BitVec 4) (pin : Bool) :
    StartKeeps c (startMet f c bad badCopies pin) := by
  have hassign : ∀ (d : Chip) (old : Nat → Nat), StartKeeps c (assignLanes d old) ↔ StartKeeps c d := fun d old =>
    startKeeps_congr ((kept_assignLanes old (by decide)).2
      (.refl [.regs, .tb, .met, .acc, .sess, .leg, .outl, .saf, .pwd, .host, .out, .freeCount] d) .sup (by decide))
  have hcalendars : ∀ d : Chip, StartKeeps c (restoreCalendars d) ↔ StartKeeps c d := fun d =>
    startKeeps_congr ((kept_restoreCalendars (by decide)).2 (.refl [.regs, .tar, .host, .blt, .out] d) .sup (by decide))
  simp only [startMet, hassign, startKeeps_startLegal, hcalendars, startKeeps_restoreRing, startKeeps_refl]

theorem startMet_kept (f : Fuses) (c : Chip) (bad : List Nat) (badCopies : BitVec 4) (pin : Bool) :
    ChipKeptBut [.regs, .sup, .wipe, .tb, .met, .acc, .tar, .sess, .leg, .outl, .saf, .pwd, .host, .blt, .out, .freeCount] c
      (startMet f c bad badCopies pin) := (kept_startMet f bad badCopies pin (by decide)).2 (.refl _ c)

/-! ### The store (R461, R466) -/

theorem takeReports_nil (c : Chip) : takeReports c [] = c := rfl

/-- With no report waiting there is none to take. -/
theorem takeWaiting_nil {c : Chip} (h : c.flt.waiting = []) : takeWaiting c = c := by
  have hsame : { c with flt := { c.flt with waiting := [] } } = c := by rw [← h]
  unfold takeWaiting
  rw [hsame, h]
  unfold report
  simp only [List.filter_nil, List.append_nil]
  split
  · rfl
  · exact takeReports_nil c

/-- R461: the store is restored with no report waiting, and the start of the supervisor and of the trust island stands. -/
def Restored (c d : Chip) : Prop := StartKeeps c d ∧ d.tru = c.tru ∧ d.flt.restored = true ∧ d.flt.waiting = []

theorem Restored.of_kept {ps : List Part} {c d e : Chip} (h : Restored c d) (hk : ChipKeptBut ps d e)
    (hsup : Part.sup ∉ ps := by decide) (htru : Part.tru ∉ ps := by decide) (hflt : Part.flt ∉ ps := by decide) :
    Restored c e := by
  obtain ⟨h1, h2, h3, h4⟩ := h
  have hf : e.flt = d.flt := hk .flt hflt
  exact ⟨(startKeeps_congr (hk .sup hsup)).2 h1, (show e.tru = d.tru from hk .tru htru).trans h2, by rw [hf, h3], by rw [hf, h4]⟩

theorem Restored.foldl {α : Type} {f : Chip → α → Chip} {c d : Chip} {l : List α}
    (hf : ∀ e a, Restored c e → Restored c (f e a)) (h : Restored c d) : Restored c (l.foldl f d) :=
  foldl_keeps (P := Restored c) hf l h

theorem Restored.ite {c d e : Chip} {p : Prop} [Decidable p] (hd : Restored c d) (he : Restored c e) :
    Restored c (if p then d else e) := by
  split
  · exact hd
  · exact he

theorem Restored.takeWaiting {c d : Chip} (h : Restored c d) : Restored c (takeWaiting d) := by
  obtain ⟨h1, h2, h3, h4⟩ := h
  rw [takeWaiting_nil h4]
  exact ⟨h1, h2, h3, h4⟩

theorem Restored.set_saf {c d : Chip} (x : Saf) (h : Restored c d) : Restored c { d with saf := x } := h

theorem Restored.set_srcs {c d : Chip} (x : Tab Src) (h : Restored c d) :
    Restored c { d with flt := { d.flt with srcs := x } } := h

theorem Restored.setSrc {c d : Chip} (n : Nat) (x : Src) (h : Restored c d) : Restored c (setSrc d n x) := h

theorem Restored.setLane {c d : Chip} (n : Nat) (x : LaneSt) (h : Restored c d) : Restored c (setLane d n x) := h

theorem Restored.setFport {c d : Chip} (n : Nat) (x : FPortSt) (h : Restored c d) : Restored c (setFport d n x) := h

theorem Restored.blotEvent {c d : Chip} (a b n : Nat) (h : Restored c d) : Restored c (blotEvent d a b n) :=
  h.of_kept ((kept_blotEvent a b n (by decide)).2 (.refl [.regs, .host, .blt, .out] d))

theorem Restored.raiseEvt {c d : Chip} (a b : Nat) (h : Restored c d) : Restored c (raiseEvt d a b) :=
  h.of_kept ((kept_raiseEvt a b (by decide)).2 (.refl [.regs, .host, .out] d))

theorem Restored.reviveChan {c d : Chip} (k : Chan) (h : Restored c d) : Restored c (reviveChan d k) :=
  h.of_kept ((kept_reviveChan k (by decide)).2
    (.refl [.regs, .tb, .met, .acc, .sess, .leg, .outl, .saf, .pwd, .lsw, .host, .fab, .out, .freeCount] d))

theorem Restored.retireChan {c d : Chip} (k : Chan) (h : Restored c d) : Restored c (retireChan d k) :=
  h.of_kept ((kept_retireChan k (by decide)).2
    (.refl [.regs, .tb, .met, .acc, .sess, .leg, .outl, .saf, .pwd, .lsw, .host, .fab, .out, .freeCount] d))

theorem Restored.holdPermanent {c d : Chip} (h : Restored c d) : Restored c (holdPermanent d) := by
  refine .foldl (fun e n he => ?_) h
  have hcause : Restored c (addSafeCause e (.source n)) := by
    unfold addSafeCause
    split <;> exact he
  exact hcause

/-- R461, R466: nothing that follows the store reports or changes the mode. -/
theorem restoreStore_restored {c : Chip} (copy : StoreCopy) (h : c.flt.waiting = []) : Restored c (restoreStore c copy) := by
  unfold restoreStore
  refine .takeWaiting (.blotEvent _ _ _ (.holdPermanent (.ite
    (.set_saf _ (.foldl (fun e p he => ?port) (.foldl (fun e n he => ?lane) (.foldl (fun e n he => ?chan) (.set_srcs _ ?read)))))
    (.blotEvent _ _ _ (.raiseEvt _ _ (.foldl (fun e o he => ?weld) (.foldl (fun e n he => ?held) (.set_saf _ ?read'))))))))
  case port => exact .ite (.setFport _ _ he) he
  case lane => exact .ite (.setLane _ _ he) he
  case chan => exact .ite (.reviveChan _ he) (.ite (.retireChan _ he) he)
  case weld => exact .ite (.setSrc _ _ (.set_saf _ he)) he
  case held => exact .ite (.setSrc _ _ he) he
  all_goals exact .ite ⟨startKeeps_refl c, rfl, rfl, h⟩ ⟨startKeeps_refl c, rfl, rfl, h⟩

end Sys2Proof.Machine
end

section
/-! PROOFS. The commands of the start (R50, R57, R66, R463). -/

namespace Sys2Proof.Machine

/-! ### Release (R50) -/

/-- R50, R66: the chip of a release before the stores are restored. -/
def releaseBegun (c : Chip) (f : Fuses) (elapsed : Nat) : Chip :=
  let c := runTo c elapsed
  let c := regPut { c with tb := { c.tb with into := 0 } } Reg.SUP_DISABLE (wordOf c.sup.disableLate.toNat)
  let c := { c with
    sup := { c.sup with lcs := f.state, fence := setBitV c.sup.fence Region.sup.idx false, disableLate := 0 } }
  setMode (startWipe c) .bringUp 0

/-- R50: the chip of a release once its stores are restored. -/
def releaseRestored (c : Chip) (f : Fuses) (elapsed : Nat) (store : StoreCopy) (bad : List Nat) (badCopies : BitVec 4)
    (sealPin : Bool) : Chip :=
  restoreStore (startMet f (startTru f (quillStart (releaseBegun c f elapsed))) bad badCopies sealPin) store

/-- R50: the chip of a release before its mode settles. -/
def releaseDone (c : Chip) : Chip :=
  let c := if c.sup.refLost then c else fabStart c
  if c.sup.lcs = .returned ∨ c.sup.lcs = .scrapped then dueQuarantine c 0x0B else c

theorem release_eq (f : Fuses) (elapsed : Nat) (store : StoreCopy) (bad : List Nat) (badCopies : BitVec 4) (sealPin : Bool)
    (c : Chip) : release f elapsed store bad badCopies sealPin c =
      settleMode (releaseDone (reportHold (releaseRestored c f elapsed store bad badCopies sealPin))) := rfl

theorem startWipe_sup (c : Chip) : (startWipe c).sup = c.sup :=
  (kept_startWipe (by decide)).2 (.refl [.regs, .live, .wipe, .acc, .tar, .sess, .leg, .outl, .age, .host, .fab, .repl, .tru,
    .upd, .flt, .blt, .out] c) .sup (by decide)

theorem startWipe_waiting (c : Chip) : (startWipe c).flt.waiting = c.flt.waiting := by
  have hblot : ∀ (d : Chip) (a b n : Nat), (blotEvent d a b n).flt = d.flt := fun d a b n =>
    (kept_blotEvent a b n (by decide)).2 (.refl [.regs, .host, .blt, .out] d) .flt (by decide)
  unfold startWipe
  dsimp only
  split
  · rfl
  · rw [hblot]
    split <;> rfl

theorem releaseBegun_sup {c : Chip} (f : Fuses) (elapsed : Nat) (h : c.sup.mode = .reset) :
    (releaseBegun c f elapsed).sup = { c.sup with
      lcs := f.state, fence := setBitV c.sup.fence Region.sup.idx false, disableLate := 0
      mode := .bringUp, prevMode := .reset, modeCause := 0 } := by
  unfold releaseBegun
  dsimp only
  have hmode : (runTo c elapsed).sup.mode = .reset := by rw [runTo_sup]; exact h
  rw [setMode_sup, startWipe_sup]
  · change ({ (runTo c elapsed).sup with
      lcs := _, fence := _, disableLate := _, mode := _, prevMode := (runTo c elapsed).sup.mode, modeCause := _ } : Sup) = _
    rw [hmode, runTo_sup]
    rfl
  all_goals
    rw [startWipe_sup]
    change (runTo c elapsed).sup.mode ≠ _
    rw [hmode]
    decide

theorem releaseBegun_waiting (c : Chip) (f : Fuses) (elapsed : Nat) :
    (releaseBegun c f elapsed).flt.waiting = c.flt.waiting := by
  have hset : ∀ d : Chip, (setMode d .bringUp 0).flt = d.flt := fun d =>
    (kept_setMode _ _ (by decide)).2 (.refl [.regs, .sup, .dsp, .host, .blt, .out] d) .flt (by decide)
  unfold releaseBegun
  dsimp only
  rw [hset, startWipe_waiting]
  exact congrArg Flt.waiting (runTo_kept c elapsed .flt (by decide))

theorem quillStart_kept (c : Chip) : ChipKeptBut [.regs, .outl, .host, .upd, .blt, .out] c (quillStart c) :=
  (kept_quillStart (by decide)).2 (.refl _ c)

/-- R50: what a release has restored. -/
theorem releaseRestored_facts {c : Chip} (f : Fuses) (elapsed : Nat) (store : StoreCopy) (bad : List Nat)
    (badCopies : BitVec 4) (sealPin : Bool) (h : c.flt.waiting = []) :
    StartKeeps (releaseBegun c f elapsed) (releaseRestored c f elapsed store bad badCopies sealPin) ∧
      (releaseRestored c f elapsed store bad badCopies sealPin).tru.unit = f.unit ∧
      (releaseRestored c f elapsed store bad badCopies sealPin).flt.restored = true := by
  have hquill := quillStart_kept (releaseBegun c f elapsed)
  generalize hq : quillStart (releaseBegun c f elapsed) = q at hquill
  have hmet := startMet_kept f (startTru f q) bad badCopies sealPin
  have hwaiting : (startMet f (startTru f q) bad badCopies sealPin).flt.waiting = [] := by
    rw [show (startMet f (startTru f q) bad badCopies sealPin).flt = _ from hmet .flt (by decide), startTru_flt,
      show q.flt = _ from hquill .flt (by decide), releaseBegun_waiting, h]
  obtain ⟨hkeeps, htru, hrestored, -⟩ := restoreStore_restored store hwaiting
  rw [releaseRestored, hq]
  refine ⟨?_, ?_, hrestored⟩
  · have hsup : q.sup = (releaseBegun c f elapsed).sup := hquill .sup (by decide)
    have htrust := startTru_startKeeps f q
    have hstart := startMet_startKeeps f (startTru f q) bad badCopies sealPin
    simp only [StartKeeps, hsup] at hkeeps htrust hstart ⊢
    exact ⟨(hkeeps.1.trans hstart.1).trans htrust.1, (hkeeps.2.1.trans hstart.2.1).trans htrust.2.1,
      (hkeeps.2.2.1.trans hstart.2.2.1).trans htrust.2.2.1, (hkeeps.2.2.2.trans hstart.2.2.2).trans htrust.2.2.2⟩
  · rw [htru, show (startMet f (startTru f q) bad badCopies sealPin).tru = _ from hmet .tru (by decide), startTru_unit]

theorem reportHold_idle {c : Chip} (h : DegCause.holdUp ∉ c.sup.degCauses) : reportHold c = c := by
  simp [reportHold, h]

theorem releaseDone_startKeeps (c : Chip) : StartKeeps c (releaseDone c) := by
  have hfab : ∀ d : Chip, StartKeeps c (fabStart d) ↔ StartKeeps c d := fun d =>
    startKeeps_congr (fabStart_kept d .sup (by decide))
  simp only [releaseDone, startKeeps_ite, startKeeps_dueQuarantine, hfab, ite_self, startKeeps_refl]

theorem releaseDone_kept (c : Chip) : ChipKeptBut [.regs, .sup, .host, .fab, .out] c (releaseDone c) := by
  simp +decide only [releaseDone, kept_ite, kept_dueQuarantine, kept_fabStart, kept_refl, ite_self]

theorem exec_resetRelease_starts {s : State} (el : Nat) (st : StoreCopy) (bad : List Nat) (cp : BitVec 4) (sp : Bool)
    (hmode : s.chip.sup.mode = .reset) (hheld : s.chip.sup.held = false) :
    exec (.resetRelease el st bad cp sp) s = .next { s with
      chip := release (startFuses s.fuses s.chip) el st bad cp sp
        { s.chip with tru := { s.chip.tru with repaired := !(partGroups s.fuses).isEmpty } }
      fuses := startFuses s.fuses s.chip } := by
  change execResetRelease el st bad cp sp s = _
  simp [execResetRelease, hmode, hheld]

/-! ### Wipes, ready bits and the AON domain (R57, R63, R66) -/

theorem exec_sramWipeDone {s : State} (u : Nat) (h : s.chip.wipe.sramBusy = true) : exec (.sramWipeDone u) s = .next { s with
    chip := { s.chip with wipe := { s.chip.wipe with sramBusy := false, sramTime := sat 255 u } } } := by
  change execSramWipeDone u s = _
  simp [execSramWipeDone, onChip, h]

theorem exec_dramWipeDone_busy {s : State} (u : Nat) (h : s.chip.wipe.dramBusy = true) :
    exec (.dramWipeDone u) s = .next { s with
      chip := { s.chip with wipe := { s.chip.wipe with dramBusy := false, dramTime := sat 255 u } }, dram := [] } := by
  change execDramWipeDone u s = _
  simp [execDramWipeDone, h]

/-- R66: the chip with the MRAM wiped. -/
def mramWiped (c : Chip) (ms : Nat) : Chip :=
  dueQuarantine { c with
    wipe := { c.wipe with mramBusy := false, epoch := c.sup.lcs, progress := 255, mramTime := sat 65535 ms }
    blt := { c.blt with ready := true } } 0x0B

theorem exec_mramWipeDone {s : State} (u : Nat) (h : s.chip.wipe.mramBusy = true) :
    exec (.mramWipeDone u) s = .next { s with chip := settleMode (mramWiped s.chip u) } := by
  change execMramWipeDone u s = _
  simp [execMramWipeDone, onChip, h, mramWiped]

/-- R57: the chip with a function ready. -/
def readyRisen (c : Chip) (f : Func) : Chip :=
  { c with sup := { c.sup with
    ready := setBitV c.sup.ready f.idx true
    fence := match f.region with | some r => setBitV c.sup.fence r.idx false | none => c.sup.fence } }

theorem Func.idx_lt (f : Func) : f.idx < 8 := by cases f <;> decide

theorem riseReady_eq (c : Chip) (f : Func) :
    riseReady c f = dropDegCause (clearSrc (readyRisen c f) (131 + f.idx)) (.ready f) := by
  cases f <;> rfl

theorem regionStart_restored {c : Chip} {f : Func} (fu : Fuses) (bad : List Nat) (cp : BitVec 4) (sp : Bool)
    (hmet : f = .met → c.acc.restored = true) (htru : f = .tru → c.tru.chainsClosed = true) :
    regionStart fu c f bad cp sp = c := by
  cases f
  case met => exact if_pos (hmet rfl)
  case tru => exact if_pos (htru rfl)
  all_goals rfl

theorem exec_functionReady {s : State} {f : Func} (bad : List Nat) (cp : BitVec 4) (sp : Bool) (age : BitVec 2)
    (hrise : mayRise s.chip f = true) (hmet : f = .met → s.chip.acc.restored = true)
    (htru : f = .tru → s.chip.tru.chainsClosed = true) (hfun : functionMet s.chip f = true) :
    exec (.functionReady f bad cp sp age) s =
      .next { s with chip := takeWaiting (settleMode (afterReady (riseReady s.chip f) f age)) } := by
  change execFunctionReady f bad cp sp age s = _
  simp only [execFunctionReady, onChip, hrise, regionStart_restored s.fuses bad cp sp hmet htru, hfun, if_true]

theorem exec_readyTimeout {s : State} {f : Func} (hdie : dieRuns s.chip = true) (hup : s.chip.sup.mode ≠ .holdUp)
    (hquar : s.chip.sup.mode ≠ .quarantine) (hready : ready s.chip f = false) (hon : funcDisabled s.chip f = false) :
    exec (.readyTimeout f) s = .next { s with chip := addDegCause (reportSrc s.chip (131 + f.idx) 0) (.ready f) } := by
  change execReadyTimeout f s = _
  simp [execReadyTimeout, onChip, hdie, hup, hquar, hready, hon]

/-- R63: the chip as the AON domain starts. -/
def aonStarted (c : Chip) : Chip :=
  { c with
    regs := rput (rput c.regs Reg.SUP_RST_CAUSE 1) Reg.SUP_RTC_ALARM 0
    tb := { c.tb with aon := 0, wall := mramMark c, hwm := mramMark c, valid := false, src := .none, slewRem := 0, step := none },
    pwd := { c.pwd with rails := c.pwd.rails ||| 0x100 },
    outl := { c.outl with outlets := c.outl.outlets.map (fun e => (e.1, { e.2 with preclosed := none })) },
    tru := { c.tru with prevUntil := 0 }, upd := { c.upd with confirmFrom := 0 },
    fab := { c.fab with missingFrom := [], divergeAt := [] },
    flt := { c.flt with srcs := c.flt.srcs.map (fun e => (e.1, { e.2 with occ := [] })) } }

theorem exec_aonPowerOn (s : State) : exec .aonPowerOn s = .next { s with chip := aonStarted s.chip } := rfl

theorem aonStarted_kept (c : Chip) : ChipKeptBut [.regs, .tb, .pwd, .outl, .tru, .upd, .fab, .flt] c (aonStarted c) := by
  intro p hp
  cases p with
  | regs | tb | pwd | outl | tru | upd | fab | flt => exact absurd (by decide) hp
  | _ => rfl

theorem aonStarted_regs (c : Chip) : (aonStarted c).regs =
    (regPut (regPut c Reg.SUP_RST_CAUSE 1) Reg.SUP_RTC_ALARM 0).regs := rfl

/-! ### The end of a reset that the collector started (R463) -/

/-- R463: the collector once the reset of a block has ended. -/
def resetNoted (c : Chip) (b : Block) : Chip :=
  { c with flt := { c.flt with
    resets := c.flt.resets.filter (fun x => x != b)
    checks := c.flt.checks.map (fun k => if k.block == b then { k with complete := true } else k) } }

theorem resetNoted_resets (c : Chip) (b : Block) : (resetNoted c b).flt.resets.contains b = false := by
  simp [resetNoted]

theorem resetNoted_checks (c : Chip) (b : Block) {k : Check} (hk : k ∈ (resetNoted c b).flt.checks) (hb : k.block = b) :
    k.complete = true := by
  obtain ⟨j, -, rfl⟩ := List.mem_map.1 hk
  split
  · rfl
  next hne =>
    rw [if_neg hne] at hb
    exact absurd (beq_iff_eq.2 hb) hne

theorem resetNoted_kept (c : Chip) (b : Block) : ChipKeptBut [.flt] c (resetNoted c b) :=
  (kept_set_flt (by decide)).2 (.refl _ c)

theorem exec_blockResetComplete {s : State} {b : Block} (h : s.chip.flt.resets.contains b = true) :
    exec (.blockResetComplete b) s = .next { s with chip := resetEnded s.fuses s.chip b } := by
  change execBlockResetComplete b s = _
  simp only [execBlockResetComplete, onChip, h, if_true]

theorem resetEnded_other {c : Chip} {b : Block} (f : Fuses) (hlnk : b ≠ .region .lnk) (hleg : b ≠ .legalCore) :
    resetEnded f c b = resetNoted c b := by
  unfold resetEnded
  dsimp only
  split
  · exact absurd rfl hlnk
  · exact absurd rfl hleg
  · rfl

theorem resetEnded_link (f : Fuses) (c : Chip) : resetEnded f c (.region .lnk) = fabStart (resetNoted c (.region .lnk)) := rfl

theorem resetEnded_legal (f : Fuses) (c : Chip) : resetEnded f c .legalCore =
    startLegal f (resetNoted c .legalCore) c.leg.badCopies c.leg.sealOpen := rfl

/-! ### EPOCH (R375) -/

theorem sendFlood_epoch (c : Chip) (typ : Nat) (l : List Byte) : (sendFlood c typ l).fab.epoch = c.fab.epoch := by
  unfold sendFlood
  split <;> rfl

theorem fabEvt_epoch (c : Chip) (b : Nat) : (fabEvt c b).fab.epoch = c.fab.epoch :=
  congrArg Fab.epoch (raiseEvt_fab c _ _)

theorem claimAddr_epoch (c : Chip) (a : Nat) : (claimAddr c a).fab.epoch = c.fab.epoch := sendFlood_epoch _ _ _

theorem claimNext_epoch (c : Chip) (lost : Option Nat) : (claimNext c lost).fab.epoch = c.fab.epoch := by
  unfold claimNext
  split
  · exact claimAddr_epoch _ _
  · exact fabEvt_epoch _ _

theorem claimStart_epoch (c : Chip) : (claimStart c).fab.epoch = c.fab.epoch := by
  unfold claimStart
  split
  · split
    · split
      · exact claimAddr_epoch _ _
      · exact claimNext_epoch _ _
    · exact claimNext_epoch _ _
  · rfl

theorem portTrain_epoch (c : Chip) (p : Nat) : (portTrain c p).fab.epoch = c.fab.epoch := by
  unfold portTrain
  dsimp only
  split <;> rfl

/-- R375: a start of the fabric takes a new EPOCH. -/
theorem fabStart_epoch (c : Chip) : (fabStart c).fab.epoch = (c.fab.epoch + 1) % 2 ^ 32 := by
  have hports : ∀ d : Chip, ((List.range 4).foldl (fun c p =>
      if immBit c Reg.SUP_DISABLE (16 + p) && (fport c p).state != .retired then
        setFport c p { FPortSt.init with state := .disabled }
      else c) d).fab.epoch = d.fab.epoch := fun d =>
    foldl_same (fun c => c.fab.epoch) (fun c p => by dsimp only; split <;> rfl) _ d
  have htrain : ∀ d : Chip, ((List.range 4).foldl portTrain d).fab.epoch = d.fab.epoch := fun d =>
    foldl_same (fun c => c.fab.epoch) portTrain_epoch _ d
  unfold fabStart
  dsimp only
  split
  · split
    · rw [claimStart_epoch, htrain]
      exact hports _
    · rw [htrain]
      exact hports _
  · rw [claimStart_epoch]
    exact hports _

/-! ### The legal core (R216) -/

/-- Whether the legal core runs, and whether it has seen the seal open. -/
def legalMarks (c : Chip) : Bool × Bool := (c.leg.running, c.leg.sealOpen)

theorem legalMarks_legalEntry (c : Chip) (t p : Nat) (b : List Byte) (x : Option Nat) :
    legalMarks (legalEntry c t p b x) = legalMarks c := by
  unfold legalEntry
  split <;> rfl

theorem legalMarks_outageSpans (c : Chip) : legalMarks (outageSpans c) = legalMarks c := by
  unfold outageSpans
  split
  · rfl
  · split
    · refine foldl_same legalMarks (fun d m => ?_) _ c
      dsimp only
      split
      · exact legalMarks_legalEntry d _ _ _ _
      · rfl
    · rfl

theorem startSeal_same {c : Chip} {pin : Bool} (h : c.leg.sealOpen = pin) : startSeal c pin = c := if_pos h.symm

theorem legalMarks_ite (p : Prop) [Decidable p] (c d : Chip) :
    legalMarks (if p then c else d) = if p then legalMarks c else legalMarks d := apply_ite legalMarks p c d

theorem legalMarks_set_wipe (c : Chip) (x : Wipe) : legalMarks { c with wipe := x } = legalMarks c := rfl

theorem legalMarks_dueQuarantine (c : Chip) (n : Nat) : legalMarks (dueQuarantine c n) = legalMarks c := rfl

theorem findHead_firmware (c : Chip) : (findHead c).leg.firmware = c.leg.firmware := by unfold findHead; split <;> rfl

theorem findHead_sealOpen (c : Chip) : (findHead c).leg.sealOpen = c.leg.sealOpen := by unfold findHead; split <;> rfl

theorem findHead_acc (c : Chip) : (findHead c).acc = c.acc := by unfold findHead; split <;> rfl

theorem legalFirmwareOk_findHead (f : Fuses) (c : Chip) : legalFirmwareOk f (findHead c) = legalFirmwareOk f c := by
  simp only [legalFirmwareOk, findHead_firmware]

/-- R216: the legal core runs where its firmware and its store are good. -/
theorem startLegal_running (f : Fuses) (c : Chip) :
    (startLegal f c c.leg.badCopies c.leg.sealOpen).leg.running =
      (legalFirmwareOk f c && c.acc.restored && copiesOk c.leg.badCopies && headConsistent (findHead c)) := by
  have hsplit : ∃ d, startLegal f c c.leg.badCopies c.leg.sealOpen = startSeal (outageSpans d) c.leg.sealOpen ∧
      legalMarks d = (legalFirmwareOk f (findHead c) && (findHead c).acc.restored && copiesOk c.leg.badCopies &&
        headConsistent (findHead c), (findHead c).leg.sealOpen) := by
    refine ⟨_, rfl, ?_⟩
    simp only [legalMarks_set_wipe, legalMarks_ite, legalMarks_legalEntry, legalMarks_dueQuarantine, ite_self]
    rfl
  obtain ⟨d, hstart, hmarks⟩ := hsplit
  rw [← legalMarks_outageSpans, findHead_sealOpen, legalFirmwareOk_findHead, findHead_acc] at hmarks
  rw [hstart, startSeal_same (congrArg Prod.snd hmarks)]
  exact congrArg Prod.fst hmarks

theorem headConsistent_congr {c d : Chip} (h : d.leg = c.leg) : headConsistent d = headConsistent c := by
  simp only [headConsistent, h]

theorem findHead_resetNoted (c : Chip) (b : Block) : (findHead (resetNoted c b)).leg = (findHead c).leg := by
  have hnewest : newestEntry (resetNoted c b) = newestEntry c := rfl
  unfold findHead
  rw [hnewest]
  split <;> rfl

end Sys2Proof.Machine
end

section
namespace Sys2Proof

open Machine

/-- Settles O7: a release restores its stores with no report waiting; each later command is the branch its conditions select. -/
theorem startCommands : Obligations.StartCommands := by
  unfold Obligations.StartCommands
  refine ⟨?release, ?sram, ?dram, ?mram, ?ready, ?late, ?aon, ?block, ?link, ?legal⟩
  case release =>
    intro s el st bad cp sp hmode hheld hwaiting hhold
    refine ⟨_, exec_resetRelease_starts el st bad cp sp hmode hheld, rfl, rfl, rfl, ?_⟩
    dsimp only
    rw [release_eq]
    generalize hc : ({ s.chip with tru := { s.chip.tru with repaired := !(partGroups s.fuses).isEmpty } } : Chip) = c
    have hsup : c.sup = s.chip.sup := by rw [← hc]
    have hflt : c.flt = s.chip.flt := by rw [← hc]
    obtain ⟨hkeeps, hunit, hrestored⟩ := releaseRestored_facts (startFuses s.fuses s.chip) el st bad cp sp
      (by rw [hflt]; exact hwaiting)
    have hbegun := releaseBegun_sup (startFuses s.fuses s.chip) el (by rw [hsup]; exact hmode)
    generalize releaseRestored c (startFuses s.fuses s.chip) el st bad cp sp = r at hkeeps hunit hrestored
    simp only [StartKeeps, hbegun, hsup] at hkeeps
    obtain ⟨hm, hl, hf, hd⟩ := hkeeps
    rw [reportHold_idle (by rw [hd]; exact hhold)]
    have hdone := releaseDone_kept r
    obtain ⟨gm, gl, gf, -⟩ := releaseDone_startKeeps r
    refine ⟨releaseDone r, gm.trans hm, gl.trans hl, ?_, ?_, ?_, rfl⟩
    · rw [fenced, gf, hf, getLsbD_fence, if_pos rfl]
    · rw [show (releaseDone r).flt = r.flt from hdone .flt (by decide), hrestored]
    · rw [show (releaseDone r).tru = r.tru from hdone .tru (by decide), hunit]
  case sram =>
    intro s u h
    exact answers_chip (exec_sramWipeDone u h) ⟨keptBut_chip.2 ((kept_set_wipe (by decide)).2 (.refl _ _)), rfl,
      Nat.min_comm _ _, rfl⟩
  case dram =>
    intro s u h
    exact ⟨_, exec_dramWipeDone_busy u h, rfl, rfl, fun _ => rfl, (kept_set_wipe (by decide)).2 (.refl _ _), rfl,
      Nat.min_comm _ _⟩
  case mram =>
    intro s u h
    refine answers_chip (exec_mramWipeDone u h) ⟨storesKept_chip s _, mramWiped s.chip u, ?_, rfl, rfl, rfl, rfl, rfl, rfl, rfl⟩
    exact (kept_dueQuarantine _ (by decide)).2 ((kept_set_wipe_blt (by decide)).2 (.refl _ _))
  case ready =>
    intro s f bad cp sp age hrise hmet htru hfun
    refine answers_chip (exec_functionReady bad cp sp age hrise hmet htru hfun) ⟨storesKept_chip s _, readyRisen s.chip f,
      (kept_set_sup (by decide)).2 (.refl _ _), ?_, fun r hr => ?_, rfl, ?_⟩
    · rw [ready, readyRisen, getLsbD_setBitV _ _ _ f.idx_lt, if_pos rfl]
    · simp only [fenced, readyRisen, hr, getLsbD_fence, if_true]
    · dsimp only
      rw [riseReady_eq]
  case late =>
    intro s f hdie hup hquar hready hon
    exact answers_chip (exec_readyTimeout hdie hup hquar hready hon) ⟨storesKept_chip s _, rfl⟩
  case aon =>
    intro s
    have hregs := aonStarted_regs s.chip
    refine answers_chip (exec_aonPowerOn s) ⟨keptBut_chip.2 (aonStarted_kept s.chip), ?_, ?_, ?_, rfl, rfl, rfl, rfl, rfl, ?_⟩
    · rw [regGet, hregs]
      exact (regGet_regPut_ne _ _ (by decide)).trans (regGet_regPut_self _ _ _)
    · rw [regGet, hregs]
      exact regGet_regPut_self _ _ _
    · refine RegsKeptBut.trans ?_ (.of_regs hregs)
      exact (regsKept_regPut _ _ (by decide)).trans (regsKept_regPut _ _ (by decide))
    · intro e he
      obtain ⟨x, -, rfl⟩ := List.mem_map.1 he
      rfl
  case block =>
    intro s b hb hlnk hleg
    refine answers_chip (exec_blockResetComplete hb) ?_
    rw [resetEnded_other s.fuses hlnk hleg]
    exact ⟨keptBut_chip.2 (resetNoted_kept _ _), resetNoted_resets _ _, fun k hk hkb => resetNoted_checks _ _ hk hkb, rfl⟩
  case link =>
    intro s hb
    have hfab := fabStart_kept (resetNoted s.chip (.region .lnk))
    refine answers_chip (exec_blockResetComplete hb) ?_
    rw [resetEnded_link]
    refine ⟨keptBut_chip.2 (((resetNoted_kept _ _).mono (by decide)).trans (hfab.mono (by decide))), ?_, fabStart_epoch _⟩
    rw [show (fabStart (resetNoted s.chip (.region .lnk))).flt = _ from hfab .flt (by decide)]
    exact resetNoted_resets _ _
  case legal =>
    intro s hb
    refine answers_chip (exec_blockResetComplete hb) ?_
    rw [resetEnded_legal]
    have hrunning := startLegal_running s.fuses (resetNoted s.chip .legalCore)
    rw [headConsistent_congr (findHead_resetNoted s.chip .legalCore)] at hrunning
    refine ⟨storesKept_chip s _, ?_, hrunning⟩
    rw [show (startLegal s.fuses (resetNoted s.chip .legalCore) s.chip.leg.badCopies s.chip.leg.sealOpen).flt = _ from
      (kept_startLegal _ _ _ (by decide)).2 (.refl [.sup, .wipe, .tar, .sess, .leg] _) .flt (by decide)]
    exact resetNoted_resets _ _

end Sys2Proof
end

section
/-! PROOFS. Registers bit by bit, and outlets one by one. -/

namespace Sys2Proof.Machine

/-! ### Bits of a word (R6) -/

theorem testBit_eq_of_mod_div {x y b : Nat} (hlow : x % 2 ^ b = y % 2 ^ b) (hhigh : x / 2 ^ (b + 1) = y / 2 ^ (b + 1)) {k : Nat}
    (h : k ≠ b) : x.testBit k = y.testBit k := by
  rcases Nat.lt_or_gt_of_ne h with hk | hk
  · have hx := Nat.testBit_mod_two_pow x b k
    rw [hlow, Nat.testBit_mod_two_pow] at hx
    simpa [hk] using hx.symm
  · obtain ⟨j, rfl⟩ := Nat.exists_eq_add_of_lt hk
    have hx := Nat.testBit_div_two_pow x (n := b + 1) j
    rw [hhigh, Nat.testBit_div_two_pow] at hx
    rw [show b + j + 1 = j + (b + 1) by omega]
    exact hx.symm

/-- Clearing a bit leaves the others. -/
theorem bitOf_withBit_false_ne (w : Word) {b k : Nat} (h : k ≠ b) : bitOf (withBit w b false) k = bitOf w k := by
  have hp : 0 < 2 ^ b := Nat.two_pow_pos b
  have hdiv := Nat.div_add_mod w.toNat (2 ^ b)
  generalize hq : w.toNat / 2 ^ b = q at hdiv
  have hval : (withBit w b false).toNat = 2 ^ b * (q - q % 2) + w.toNat % 2 ^ b := by
    have hlt := w.isLt
    have hsub : 2 ^ b * (q - q % 2) + q % 2 * 2 ^ b = 2 ^ b * q := by
      rw [Nat.mul_comm (q % 2), ← Nat.mul_add, Nat.sub_add_cancel (Nat.mod_le _ _)]
    have hexact : w.toNat - q % 2 * 2 ^ b = 2 ^ b * (q - q % 2) + w.toNat % 2 ^ b := by omega
    simp only [withBit, withField, fieldOf, Nat.sub_self, Nat.zero_add, pow_one, Bool.toNat_false, Nat.zero_mod, Nat.zero_mul,
      Nat.add_zero, Nat.shiftRight_eq_div_pow, hq, hexact, BitVec.toNat_ofNat]
    exact Nat.mod_eq_of_lt (by omega)
  refine testBit_eq_of_mod_div ?_ ?_ h
  · rw [hval, Nat.mul_add_mod, Nat.mod_mod]
  · rw [hval, pow_succ, ← Nat.div_div_eq_div_mul, ← Nat.div_div_eq_div_mul, hq, Nat.mul_add_div hp,
      Nat.div_eq_of_lt (Nat.mod_lt _ hp)]
    omega

theorem bitOf_and_mask (w m : Word) (k : Nat) : bitOf (w &&& m) k = (bitOf w k && bitOf m k) := BitVec.getLsbD_and

/-- R69: only the bits of metering points are turned back. -/
theorem bitOf_disableTaken (c : Chip) (w : Word) {k : Nat} (h : k < 8 ∨ 16 ≤ k) : bitOf (disableTaken c w) k = bitOf w k := by
  unfold disableTaken
  have hstep : ∀ (l : List Nat) (v : Word), (∀ m ∈ l, m < 8) → bitOf (l.foldl (fun v m =>
      if bitOf w (8 + m) && !bitOf (regGet c Reg.SUP_DISABLE) (8 + m) && !mpAllowed c w m then withBit v (8 + m) false else v)
      v) k = bitOf v k := by
    intro l
    induction l with
    | nil => exact fun v _ => rfl
    | cons m l ih =>
      intro v hl
      rw [List.foldl_cons, ih _ fun x hx => hl x (List.mem_cons_of_mem _ hx)]
      have hm := hl m List.mem_cons_self
      split
      · exact bitOf_withBit_false_ne v (by omega)
      · rfl
  exact hstep (List.range 8) w fun m hm => List.mem_range.1 hm

/-! ### Outlets one by one (R257) -/

@[simp] theorem outletOf_setOutlet_same (c : Chip) (o : Nat) (x : OutletSt) : outletOf (setOutlet c o x) o = x :=
  tget_tput_self _ _ _ _

theorem outletOf_setOutlet_ne (c : Chip) {o p : Nat} (x : OutletSt) (h : p ≠ o) :
    outletOf (setOutlet c o x) p = outletOf c p := tget_tput_ne _ _ _ h

@[simp] theorem outletOf_modOutlet_same (c : Chip) (o : Nat) (f : OutletSt → OutletSt) :
    outletOf (modOutlet c o f) o = f (outletOf c o) := outletOf_setOutlet_same _ _ _

theorem outletOf_of_outl {c d : Chip} (h : d.outl = c.outl) (o : Nat) : outletOf d o = outletOf c o := by
  rw [outletOf, outletOf, h]

theorem outletOf_of_outlets {c d : Chip} (h : d.outl.outlets = c.outl.outlets) (o : Nat) : outletOf d o = outletOf c o := by
  rw [outletOf, outletOf, h]

theorem sendCan_outlets (c : Chip) (b typ dst : Nat) (data : List Byte) :
    (sendCan c b typ dst data).outl.outlets = c.outl.outlets := by
  unfold sendCan
  dsimp only
  split <;> rfl

/-- R260: the outlet whose converters are stopped. -/
theorem outletOf_stopConverters (c : Chip) (o p : Nat) : outletOf (stopConverters c o) p =
    outletOf (modOutlet c o (fun x => { x with setMode := 0, setMa := 0, setW := 0 })) p := by
  unfold stopConverters
  refine outletOf_of_outlets ?_ p
  generalize modOutlet c o _ = d
  refine foldl_same (fun d : Chip => d.outl.outlets) (fun d m => ?_) _ d
  obtain ⟨b, a⟩ := m
  exact sendCan_outlets d b 0x05 a []

theorem isDc_of_live {c d : Chip} (h : d.live = c.live) (o : Nat) : isDc d o = isDc c o := by
  unfold isDc outKind cfg liveGet
  rw [h]

/-- What changes no outlet's record leaves each outlet. -/
theorem outletOf_of_kept {ps : List Part} {c d : Chip} (h : ChipKeptBut ps c d) (o : Nat) (hp : Part.outl ∉ ps := by decide) :
    outletOf d o = outletOf c o := outletOf_of_outl (h .outl hp) o

end Sys2Proof.Machine

namespace Sys2Proof

open Machine

theorem OthersKept.refl (o : Nat) (c : Chip) : OthersKept o c c := fun _ _ => rfl

theorem OthersKept.trans {o : Nat} {c d e : Chip} (h : OthersKept o c d) (g : OthersKept o d e) : OthersKept o c e :=
  fun p hp => (g p hp).trans (h p hp)

theorem OthersKept.of_kept {ps : List Part} {c d : Chip} (o : Nat) (h : ChipKeptBut ps c d)
    (hp : Part.outl ∉ ps := by decide) : OthersKept o c d := fun p _ => outletOf_of_kept h p hp

theorem othersKept_congr (o : Nat) {c d e : Chip} (h : e.outl = d.outl) : OthersKept o c e ↔ OthersKept o c d :=
  forall₂_congr fun p _ => by rw [outletOf_of_outl h p]

theorem othersKept_setOutlet (o : Nat) (c d : Chip) (x : OutletSt) :
    OthersKept o c (setOutlet d o x) ↔ OthersKept o c d :=
  forall₂_congr fun p hp => by rw [outletOf_setOutlet_ne d x hp]

theorem othersKept_modOutlet (o : Nat) (c d : Chip) (f : OutletSt → OutletSt) :
    OthersKept o c (modOutlet d o f) ↔ OthersKept o c d := othersKept_setOutlet o c d _

theorem outletOf_postPwd (c : Chip) (a : Nat) (w : Word) (r : Option Requester) (o : Nat) :
    outletOf (postPwd c a w r) o = outletOf c o := rfl

theorem othersKept_postPwd (o : Nat) (c d : Chip) (a : Nat) (w : Word) (r : Option Requester) :
    OthersKept o c (postPwd d a w r) ↔ OthersKept o c d := .rfl

theorem outletOf_pilotF (c : Chip) (o : Nat) :
    outletOf (pilotF c o) o = { outletOf c o with pwm := false, duty := 0 } :=
  outletOf_modOutlet_same c o (fun x => { x with pwm := false, duty := 0 })

theorem othersKept_pilotF (o : Nat) (c d : Chip) : OthersKept o c (pilotF d o) ↔ OthersKept o c d :=
  othersKept_modOutlet o c d (fun x => { x with pwm := false, duty := 0 })

end Sys2Proof
end

section
/-! PROOFS. Disabling a function (R69, R70). -/

namespace Sys2Proof.Machine

/-! ### The mode once functions have changed -/

theorem settleMode_idle {c : Chip} (hb : c.sup.mode ≠ .bringUp) (hd : c.sup.mode ≠ .degraded) (hnone : c.sup.degCauses = []) :
    settleMode c = c := by
  unfold settleMode
  split
  next h => exact absurd h hb
  next => rw [hnone]
  next h => exact absurd h hd
  next => rfl

theorem functionsChanged_idle {c : Chip} (hb : c.sup.mode ≠ .bringUp) (hd : c.sup.mode ≠ .degraded)
    (hnone : c.sup.degCauses = []) : functionsChanged c = c := by
  have hsame : { c with sup := { c.sup with degCauses := [] } } = c := by rw [← hnone]
  unfold functionsChanged
  rw [hnone, List.filter_nil, hsame, settleMode_idle hb hd hnone]

/-! ### A write of SUP_DISABLE -/

/-- R69: what the write does for function k. -/
def disableStep (t old : Word) (c : Chip) (k : Nat) : Chip :=
  if bitOf t k && !bitOf old k then disableOne c k else if !bitOf t k && bitOf old k then enableOne c k else c

/-- R69: the chip whose SUP_DISABLE takes t. -/
def disableWritten (c : Chip) (w t : Word) : Chip :=
  let old := regGet c Reg.SUP_DISABLE
  let c := regPut c Reg.SUP_DISABLE t
  { c with sup := { c.sup with
    mpRefused := t != w,
    disableLate := if disablesLate c then
      (c.sup.disableLate ||| (BitVec.ofNat 25 t.toNat &&& ~~~(BitVec.ofNat 25 old.toNat))) &&& BitVec.ofNat 25 t.toNat
      else c.sup.disableLate } }

theorem writeDisable_eq (c : Chip) (w : Word) : writeDisable c w = functionsChanged ((List.range 25).foldl
    (disableStep (disableTaken c (w &&& 0x1FFFFFF#32)) (regGet c Reg.SUP_DISABLE))
    (disableWritten c (w &&& 0x1FFFFFF#32) (disableTaken c (w &&& 0x1FFFFFF#32)))) := rfl

/-- What a step of the write beyond the outlets leaves. -/
def DisableKeeps (c d : Chip) : Prop :=
  ChipKeptBut [.sup, .bp, .fab, .dsp, .host, .out] c d ∧ d.sup.mode = c.sup.mode ∧ d.sup.degCauses = c.sup.degCauses ∧
    ∀ k, c.sup.draining.getLsbD k = true → 16 ≤ k → d.sup.draining.getLsbD k = true

theorem getLsbD_setBitV_of_true {n : Nat} {v : BitVec n} {k i : Nat} {b : Bool} (h : v.getLsbD i = true)
    (hb : b = true ∨ k ≠ i) : (setBitV v k b).getLsbD i = true := by
  rw [getLsbD_setBitV _ _ _ (BitVec.lt_of_getLsbD h)]
  rcases hb with rfl | hk
  · split
    · rfl
    · exact h
  · rw [if_neg hk]
    exact h

theorem DisableKeeps.refl (c : Chip) : DisableKeeps c c := ⟨.refl _ c, rfl, rfl, fun _ h _ => h⟩

theorem DisableKeeps.trans {c d e : Chip} (h : DisableKeeps c d) (g : DisableKeeps d e) : DisableKeeps c e := by
  obtain ⟨h1, h2, h3, h4⟩ := h
  obtain ⟨g1, g2, g3, g4⟩ := g
  exact ⟨h1.trans g1, g2.trans h2, g3.trans h3, fun k hk hl => g4 k (h4 k hk hl) hl⟩

/-- R69: the chip with function k draining. -/
def markDraining (c : Chip) (k : Nat) : Chip := { c with sup := { c.sup with draining := setBitV c.sup.draining k true } }

theorem markDraining_keeps (c : Chip) (k : Nat) : DisableKeeps c (markDraining c k) :=
  ⟨(kept_set_sup (by decide)).2 (.refl _ c), rfl, rfl, fun _ hj _ => getLsbD_setBitV_of_true hj (.inl rfl)⟩

theorem DisableKeeps.of_kept {ps : List Part} {c d : Chip} (h : ChipKeptBut ps c d)
    (hs : ps ⊆ [.sup, .bp, .fab, .dsp, .host, .out] := by decide) (hp : Part.sup ∉ ps := by decide) : DisableKeeps c d := by
  have hsup : d.sup = c.sup := h .sup hp
  exact ⟨h.mono hs, by rw [hsup], by rw [hsup], fun k hk _ => by rw [hsup]; exact hk⟩

/-- R69: what a step of the write does to a function that is no outlet. -/
theorem disableOne_eq {c : Chip} {k : Nat} (hlate : disablesLate c = false) (h : 8 ≤ k) : disableOne c k =
    if k < 16 then
      if c.sup.pointsOn.contains (k - 8) then
        { c with sup := { c.sup with
          pointsOn := c.sup.pointsOn.filter (fun m => m != k - 8)
          draining := setBitV (setBitV c.sup.draining k true) k (c.sup.pointsOff.contains (k - 8)) } }
      else { markDraining c k with sup := { (markDraining c k).sup with pointsOff := c.sup.pointsOff ++ [k - 8] } }
    else if k = 22 then markDraining (cancelFlip c) k
    else if k = 23 then markDraining { c with bp := { c.bp with disableDue := true } } k
    else markDraining c k := by
  have hk : ¬ k < 8 := by omega
  unfold disableOne
  rw [if_neg (by rw [hlate]; exact Bool.false_ne_true)]
  simp only [hk, dif_neg, not_false_eq_true]
  rfl

theorem disableOne_keeps {c : Chip} {k : Nat} (hlate : disablesLate c = false) (h : 8 ≤ k) :
    DisableKeeps c (disableOne c k) := by
  rw [disableOne_eq hlate h]
  split
  next hk =>
    split
    · refine ⟨(kept_set_sup (by decide)).2 (.refl _ c), rfl, rfl, fun j hj hl => ?_⟩
      exact getLsbD_setBitV_of_true (getLsbD_setBitV_of_true hj (.inl rfl)) (.inr (by omega))
    · exact (markDraining_keeps c k).trans
        ⟨(kept_set_sup (by decide)).2 (.refl _ _), rfl, rfl, fun _ hj _ => hj⟩
  next =>
    split
    · exact (DisableKeeps.of_kept ((kept_cancelFlip (by decide)).2 (.refl [.dsp, .host, .out] c))).trans
        (markDraining_keeps _ k)
    · split
      · exact (DisableKeeps.of_kept ((kept_set_bp (by decide)).2 (.refl [.bp] c))).trans (markDraining_keeps _ k)
      · exact markDraining_keeps c k

theorem disableOne_drains {c : Chip} {k : Nat} (hlate : disablesLate c = false) (h : 16 ≤ k) (h25 : k < 25) :
    (disableOne c k).sup.draining.getLsbD k = true := by
  have hmark : ∀ d : Chip, (markDraining d k).sup.draining.getLsbD k = true := fun d => by
    rw [markDraining, getLsbD_setBitV _ _ _ h25, if_pos rfl]
  have hk : ¬ k < 16 := by omega
  rw [disableOne_eq hlate (by omega), if_neg hk]
  split_ifs
  · exact hmark _
  · exact hmark _
  · exact hmark _

theorem enableOne_keeps (c : Chip) {k : Nat} (h : 8 ≤ k) : DisableKeeps c (enableOne c k) := by
  have hk : ¬ k < 8 := by omega
  unfold enableOne
  rw [if_neg hk]
  split_ifs
  · exact ⟨(kept_set_sup (by decide)).2 (.refl _ c), rfl, rfl, fun _ hj _ => hj⟩
  · exact .of_kept ((kept_setFport _ _ (by decide)).2 (.refl [.fab] c))
  · exact .refl c
  · exact .of_kept ((kept_set_bp (by decide)).2 (.refl [.bp] c))
  · exact .refl c

theorem disablesLate_of_mode {c d : Chip} (h : d.sup.mode = c.sup.mode) : disablesLate d = disablesLate c := by
  rw [disablesLate, disablesLate, h]

/-- R69: a step beyond the outlets, whose bits the write leaves. -/
theorem disableStep_keeps {c : Chip} {t old : Word} {k : Nat} (hlate : disablesLate c = false)
    (hlow : k < 8 → bitOf t k = bitOf old k) : DisableKeeps c (disableStep t old c k) := by
  unfold disableStep
  by_cases hk : k < 8
  · rw [hlow hk, if_neg (by simp), if_neg (by simp)]
    exact .refl c
  · split
    · exact disableOne_keeps hlate (by omega)
    · split
      · exact enableOne_keeps c (by omega)
      · exact .refl c

/-- R69: the steps together: each function beyond the outlets that is newly disabled drains. -/
theorem disableSteps_keeps {t old : Word} (hlow : ∀ k < 8, bitOf t k = bitOf old k) (l : List Nat) {c : Chip}
    (hlate : disablesLate c = false) : DisableKeeps c (l.foldl (disableStep t old) c) ∧
      ∀ k ∈ l, 16 ≤ k → k < 25 → bitOf t k = true → bitOf old k = false →
        (l.foldl (disableStep t old) c).sup.draining.getLsbD k = true := by
  induction l generalizing c with
  | nil => exact ⟨.refl c, fun k hk => absurd hk List.not_mem_nil⟩
  | cons j l ih =>
    have hstep := disableStep_keeps (k := j) hlate (hlow j)
    have hlate' : disablesLate (disableStep t old c j) = false := (disablesLate_of_mode hstep.2.1).trans hlate
    obtain ⟨hkeeps, hdrains⟩ := ih hlate'
    refine ⟨hstep.trans hkeeps, fun k hk h16 h25 hnew hold => ?_⟩
    rcases List.mem_cons.1 hk with rfl | hk
    · refine hkeeps.2.2.2 k ?_ h16
      rw [disableStep, hnew, hold]
      exact disableOne_drains hlate h16 h25
    · exact hdrains k hk h16 h25 hnew hold

theorem exec_disableWrite {s : State} (w : Word) (hopen : windowClosed s.chip Reg.SUP_DISABLE = false)
    (hdie : dieRuns s.chip = true) : exec (.disableWrite w) s = .next { s with chip := writeDisable s.chip w } := by
  change execDisableWrite w s = _
  simp [execDisableWrite, onChip, reach, hopen, mayDisable, hdie]

/-! ### The end of draining -/

theorem drainEnd_sup (c : Chip) (k : Nat) : ∃ r, (drainEnd c k).sup = { c.sup with ready := r } := by
  have hpilot : (pilotF c k).sup = c.sup := rfl
  have hport : ∀ p x, (topoChanged (floodLsa (setFport c p x)) false).sup = c.sup := fun p x =>
    (kept_topoChanged false (by decide)).2 ((kept_floodLsa (by decide)).2 ((kept_setFport p x (by decide)).2
      (.refl [.regs, .host, .fab, .out] c))) .sup (by decide)
  have htry : ∀ f, (tryAvailable (modOutlet c k f) k).sup = c.sup := fun f =>
    (kept_tryAvailable k (by decide)).2 ((kept_modOutlet k f (by decide)).2 (.refl [.outl, .pwd] c)) .sup (by decide)
  unfold drainEnd
  dsimp only
  split_ifs
  · exact ⟨_, hpilot⟩
  · exact ⟨_, htry _⟩
  · exact ⟨_, rfl⟩
  · exact ⟨_, by rw [hport]⟩
  · exact ⟨_, hport _ _⟩
  · exact ⟨_, rfl⟩
  · exact ⟨_, rfl⟩

theorem drainEnd_flt (c : Chip) (k : Nat) : (drainEnd c k).flt = c.flt :=
  (kept_drainEnd k (by decide)).2 (.refl [.regs, .sup, .outl, .pwd, .host, .fab, .out] c) .flt (by decide)

/-- R69: the chip whose function k drains no more. -/
def drainOver (c : Chip) (k : Nat) : Chip := { c with sup := { c.sup with draining := setBitV c.sup.draining k false } }

theorem exec_drainDone {s : State} {k : Fin 25} (hdrains : s.chip.sup.draining.getLsbD k.val = true)
    (hdone : drained s.chip k.val = true) : exec (.drainDone k) s =
      .next { s with chip := functionsChanged (drainEnd (drainOver s.chip k.val) k.val) } := by
  change execDrainDone k s = _
  simp [execDrainDone, onChip, hdrains, hdone, drainOver]

/-! ### An outlet that has not drained in time -/

theorem releaseForOpening_kept (c : Chip) (o : Nat) : ChipKeptBut [.tb, .outl, .saf, .pwd, .out] c (releaseForOpening c o) :=
  (kept_releaseForOpening o (by decide)).2 (.refl _ c)

/-- R271: the processor's permission for an outlet that is released is clear. -/
theorem releaseForOpening_permit (c : Chip) {o : Nat} (ho : o < 8) : (releaseForOpening c o).saf.permit.getLsbD o = false := by
  have hoff : (processorOff c o).saf.permit.getLsbD o = false := by
    unfold processorOff
    dsimp only
    rw [getLsbD_setBitV _ _ _ ho, if_pos rfl]
  have hstop : ∀ d : Chip, (stopConverters d o).saf = d.saf := fun d =>
    (kept_stopConverters o (by decide)).2 (.refl [.outl, .out] d) .saf (by decide)
  unfold releaseForOpening
  dsimp only
  split
  · rw [hstop]; exact hoff
  · exact hoff

/-- R70: an outlet that is opened at once. -/
def openedAtOnce (c : Chip) (o : Nat) : Chip :=
  modOutlet (releaseForOpening c o) o (fun x => { x with state := .weldCheck, why := .stop })

theorem isDc_openedAtOnce (c : Chip) (o : Nat) : isDc (openedAtOnce c o) o = isDc c o :=
  isDc_of_live (releaseForOpening_kept c o .live (by decide)) o

theorem exec_outletDrainTimeout_energised {s : State} {o : Outlet} (hdrains : s.chip.sup.draining.getLsbD o.val = true)
    (hon : energised s.chip o.val = true) : exec (.outletDrainTimeout o) s = .next { s with
      chip := if isDc s.chip o.val then stopConverters (openedAtOnce s.chip o.val) o.val else openedAtOnce s.chip o.val } := by
  rw [← isDc_openedAtOnce]
  change execOutletDrainTimeout o s = _
  simp only [execOutletDrainTimeout, onChip, hdrains, hon, openedAtOnce, if_true, Bool.true_eq_false, if_false]
  rfl

theorem exec_outletDrainTimeout_open {s : State} {o : Outlet} (hdrains : s.chip.sup.draining.getLsbD o.val = true)
    (hoff : energised s.chip o.val = false) :
    exec (.outletDrainTimeout o) s = .next { s with chip := settleOutlet s.chip o.val } := by
  change execOutletDrainTimeout o s = _
  simp only [execOutletDrainTimeout, onChip, hdrains, hoff, Bool.true_eq_false, if_false, Bool.false_eq_true]

/-- R257: the drive of the lock leaves the outlet's state. -/
theorem driveLock_outlet (c : Chip) (o : Nat) (lock : Bool) : OthersKept o c (driveLock c o lock) ∧
    (outletOf (driveLock c o lock) o).state = (outletOf c o).state := by
  unfold driveLock
  dsimp only
  split_ifs
  · exact ⟨.refl o c, rfl⟩
  · exact ⟨(othersKept_postPwd ..).2 ((othersKept_modOutlet ..).2 (.refl o c)), by
      rw [outletOf_postPwd, outletOf_modOutlet_same]⟩
  · exact ⟨(othersKept_postPwd ..).2 ((othersKept_modOutlet ..).2 (.refl o c)), by
      rw [outletOf_postPwd, outletOf_modOutlet_same]⟩
  · exact ⟨.refl o c, rfl⟩

theorem dropAuth_othersKept (c : Chip) (o : Nat) (a : Answer) : OthersKept o c (dropAuth c o a) := by
  unfold dropAuth
  split
  · exact (othersKept_congr o (completeOpt_outl _ _ _)).2 ((othersKept_modOutlet ..).2 (.refl o c))
  · exact .refl o c

theorem enterUnavailable_outlet (c : Chip) (o : Nat) : OthersKept o c (enterUnavailable c o) ∧
    (outletOf (enterUnavailable c o) o).state = .unavailable := by
  unfold enterUnavailable
  dsimp only
  obtain ⟨hothers, hstate⟩ := driveLock_outlet (pilotF (modOutlet (dropAuth c o (ansReject .rule)) o (fun x => { x with
    state := .unavailable, ctx := none, auth := none, waitSince := 0, reqMa := none, powerStart := false, paramDone := false,
    draining := false, resume := false })) o) o false
  refine ⟨OthersKept.trans ?_ hothers, hstate.trans ?_⟩
  · refine OthersKept.trans (dropAuth_othersKept c o (ansReject .rule)) ?_
    exact (othersKept_pilotF ..).2 ((othersKept_modOutlet ..).2 (.refl o _))
  · rw [outletOf_pilotF, outletOf_modOutlet_same]

theorem settleOutlet_unavailable {c : Chip} {o : Nat} (hmust : mustBeUnavailable c o = true) (hoff : energised c o = false) :
    OthersKept o c (settleOutlet c o) ∧ (outletOf (settleOutlet c o) o).state = .unavailable := by
  unfold settleOutlet
  rw [hmust, hoff]
  split
  · obtain ⟨hothers, hstate⟩ := enterUnavailable_outlet (stopSession c o 0) o
    have hstop : ChipKeptBut [.acc, .sess] c (stopSession c o 0) := (kept_stopSession o 0 (by decide)).2 (.refl _ c)
    exact ⟨OthersKept.trans (.of_kept o hstop) hothers, hstate⟩
  next h =>
    refine ⟨.refl o c, ?_⟩
    simpa using h

end Sys2Proof.Machine

namespace Sys2Proof

open Machine

/-- Settles O8: a write of SUP_DISABLE goes function by function, and draining ends as its function stands then. -/
theorem disableCommands : Obligations.DisableCommands := by
  unfold Obligations.DisableCommands
  refine ⟨?write, ?done, ?forcedAc, ?forcedDc, ?open'⟩
  case write =>
    intro s w hopen hdie hup hb hd hnone hlow
    have hlate : disablesLate s.chip = false := by
      have hreset : s.chip.sup.mode ≠ .reset := by
        rintro h
        rw [dieRuns, h] at hdie
        exact absurd hdie (by decide)
      simp [disablesLate, hup, hreset]
    have hbits : ∀ k < 8, bitOf (disableTaken s.chip (w &&& 0x1FFFFFF#32)) k = bitOf (regGet s.chip Reg.SUP_DISABLE) k := by
      intro k hk
      have hmask := congrArg (bitOf · k) hlow
      simp only [bitOf_and_mask] at hmask
      have h8 : ∀ k < 8, bitOf 0xFF#32 k = true ∧ bitOf 0x1FFFFFF#32 k = true := by decide
      rw [(h8 k hk).1, Bool.and_true, Bool.and_true] at hmask
      rw [bitOf_disableTaken _ _ (.inl hk), bitOf_and_mask, (h8 k hk).2, Bool.and_true, hmask]
    generalize ht : disableTaken s.chip (w &&& 0x1FFFFFF#32) = t at hbits
    have hwritten : ChipKeptBut [.regs, .sup] s.chip (disableWritten s.chip (w &&& 0x1FFFFFF#32) t) :=
      (kept_set_sup (by decide)).2 ((kept_set_regs (by decide)).2 (.refl _ _))
    obtain ⟨hkeeps, hdrains⟩ := disableSteps_keeps hbits (List.range 25)
      (c := disableWritten s.chip (w &&& 0x1FFFFFF#32) t) hlate
    obtain ⟨hkept, hmode, hdeg, -⟩ := hkeeps
    refine answers_chip (exec_disableWrite w hopen hdie) ?_
    rw [writeDisable_eq, ht, functionsChanged_idle (by rw [hmode]; exact hb) (by rw [hmode]; exact hd) (by rw [hdeg]; exact hnone)]
    have hregs := hkept .regs (by decide)
    refine ⟨keptBut_chip.2 ((hwritten.mono (by decide)).trans (hkept.mono (by decide))), ?_, ?_, hmode, fun k h16 h25 hnew hold => ?_⟩
    · rw [regGet, hregs]
      exact regGet_regPut_self _ _ _
    · refine RegsKeptBut.trans ?_ (.of_regs hregs)
      exact regsKept_regPut _ _ List.mem_cons_self
    · refine hdrains k (List.mem_range.2 h25) h16 h25 ?_ hold
      have hk25 : ∀ k < 25, bitOf 0x1FFFFFF#32 k = true := by decide
      rw [← ht, bitOf_disableTaken _ _ (.inr h16), bitOf_and_mask, hnew, hk25 k h25]
      rfl
  case done =>
    intro s k hdrains hdone hb hd hnone
    obtain ⟨r, hsup⟩ := drainEnd_sup (drainOver s.chip k.val) k.val
    refine answers_chip (exec_drainDone hdrains hdone) ?_
    rw [functionsChanged_idle (by rw [hsup]; exact hb) (by rw [hsup]; exact hd) (by rw [hsup]; exact hnone)]
    refine ⟨storesKept_chip s _, ?_, ?_, drainEnd_flt _ _⟩
    · dsimp only
      rw [hsup, drainOver, getLsbD_setBitV _ _ _ k.isLt, if_pos rfl]
    · dsimp only
      rw [hsup]
      rfl
  case forcedAc =>
    intro s o hdrains hon hac
    have hat := outletOf_modOutlet_same (releaseForOpening s.chip o.val) o.val
      (fun x => { x with state := .weldCheck, why := .stop })
    refine answers_chip (exec_outletDrainTimeout_energised hdrains hon) ?_
    rw [hac, if_neg Bool.false_ne_true]
    exact ⟨storesKept_chip s _, congrArg OutletSt.state hat, congrArg OutletSt.why hat, releaseForOpening_permit s.chip o.isLt⟩
  case forcedDc =>
    intro s o hdrains hon hdc
    have hat := outletOf_modOutlet_same (releaseForOpening s.chip o.val) o.val
      (fun x => { x with state := .weldCheck, why := .stop })
    have hstop := (outletOf_stopConverters (openedAtOnce s.chip o.val) o.val o.val).trans (outletOf_modOutlet_same _ _ _)
    refine answers_chip (exec_outletDrainTimeout_energised hdrains hon) ?_
    rw [hdc, if_pos rfl]
    refine ⟨storesKept_chip s _, ?_, congrArg OutletSt.setMa hstop, congrArg OutletSt.setW hstop, ?_⟩
    · exact (congrArg OutletSt.state hstop).trans (congrArg OutletSt.state hat)
    · rw [show (stopConverters (openedAtOnce s.chip o.val) o.val).saf = (openedAtOnce s.chip o.val).saf from
        (kept_stopConverters o.val (by decide)).2 (.refl [.outl, .out] _) .saf (by decide)]
      exact releaseForOpening_permit s.chip o.isLt
  case open' =>
    intro s o hdrains hoff hmust
    obtain ⟨hothers, hstate⟩ := settleOutlet_unavailable hmust hoff
    refine answers_chip (exec_outletDrainTimeout_open hdrains hoff) ⟨keptBut_chip.2 ?_, hothers, hstate⟩
    exact (kept_settleOutlet _ (by decide)).2 (.refl _ _)

end Sys2Proof
end

section
/-! PROOFS. Supplies: brown-out, Hold-up, power-on resets and the hold-up store. -/

namespace Sys2Proof
open Machine

theorem settleMode_other {c : Chip} (hb : c.sup.mode ≠ .bringUp) (ho : c.sup.mode ≠ .operational) (hd : c.sup.mode ≠ .degraded) :
    settleMode c = c := by
  unfold settleMode
  split <;> first | contradiction | rfl

/-- The value that the load check, the charge and VHOLD give HOLD_OK (R88). -/
def holdNow (c : Chip) : Bool := if c.pwd.loadCheck then c.pwd.holdOk else holdConditions c

/-- The chip with HOLD_OK written. -/
def holdWritten (c : Chip) (b : Bool) : Chip := { c with pwd := { c.pwd with holdOk := b } }

theorem updateHold_eq (c : Chip) : updateHold c =
    if c.pwd.holdOk && !holdNow c then holdFault (holdWritten c (holdNow c))
    else if holdNow c && !c.pwd.holdOk then dropDegCause (clearSrc (holdWritten c (holdNow c)) 121) .holdUp
    else holdWritten c (holdNow c) := rfl

theorem updateHold_stays {c : Chip} (h : holdNow c = c.pwd.holdOk) : updateHold c = c := by
  rw [updateHold_eq, h, Bool.and_not_self]
  rfl

theorem updateHold_falls {c : Chip} (h : holdNow c = false) (hwas : c.pwd.holdOk = true) :
    updateHold c = holdFault (holdWritten c false) := by
  rw [updateHold_eq, h, hwas]
  rfl

theorem updateHold_rises {c : Chip} (h : holdNow c = true) (hwas : c.pwd.holdOk = false) :
    updateHold c = dropDegCause (clearSrc (holdWritten c true) 121) .holdUp := by
  rw [updateHold_eq, h, hwas]
  rfl

theorem holdFault_running {c : Chip} (hoff : c.sup.mode ≠ .off) (hreset : c.sup.mode ≠ .reset) (hhold : c.sup.mode ≠ .holdUp) :
    holdFault c = addDegCause (reportSrc c 121 0) .holdUp := by
  simp [holdFault, hoff, hreset, hhold]

theorem holdFault_holdUp {c : Chip} (h : c.sup.mode = .holdUp) : holdFault c = c := by simp [holdFault, h]

/-- In Hold-up, HOLD_OK follows its conditions; no mode is entered and no report is made. -/
theorem updateHold_holdUp {c : Chip} (h : c.sup.mode = .holdUp) :
    ChipKeptBut [.sup, .pwd, .flt] c (updateHold c) ∧ (updateHold c).sup.mode = .holdUp ∧
      ∃ b, (updateHold c).pwd = { c.pwd with holdOk := b } := by
  by_cases hstays : holdNow c = c.pwd.holdOk
  · rw [updateHold_stays hstays]
    exact ⟨.refl _ _, h, c.pwd.holdOk, rfl⟩
  cases hnow : holdNow c <;> cases hwas : c.pwd.holdOk
  case false.false => exact absurd (hnow.trans hwas.symm) hstays
  case true.true => exact absurd (hnow.trans hwas.symm) hstays
  case false.true =>
    rw [updateHold_falls hnow hwas, holdFault_holdUp (c := holdWritten c false) h]
    exact ⟨(kept_set_pwd (by decide)).2 (.refl _ _), h, false, rfl⟩
  case true.false =>
    have hclear := clearSrc_kept (holdWritten c true) 121
    have hsup : (clearSrc (holdWritten c true) 121).sup = c.sup := hclear .sup (by decide)
    rw [updateHold_rises hnow hwas, dropDegCause, settleMode_other]
    · refine ⟨(kept_set_sup (by decide)).2 ?_, (congrArg Sup.mode hsup).trans h, true, hclear .pwd (by decide)⟩
      exact ((kept_set_pwd (c := c) (by decide)).2 (.refl [.sup, .pwd, .flt] c)).trans (hclear.mono (by decide))
    all_goals
      dsimp only
      rw [hsup, h]
      decide

/-! ### Brown-out and the end of Hold-up -/

theorem setMode_mode (c : Chip) (m : Mode) (cause : Nat) : (setMode c m cause).sup.mode = m := by
  by_cases h : c.sup.mode = m
  · simp [setMode, h]
  · have hblot : ∀ (d : Chip) (a b e : Nat), (blotEvent d a b e).sup = d.sup := fun d a b e => blotEvent_sup d a b e
    simp only [setMode, h, if_false, routeEvt_sup, hblot]
    split <;> simp

theorem exec_brownOut {s : State} (v h : Nat) (u : BitVec 6) (done : Nat) (hoff : s.chip.sup.mode ≠ .off)
    (hhold : s.chip.sup.mode ≠ .holdUp) : exec (.brownOut v h u done) s = .next { s with
      chip := holdupFence (holdupOpen (holdupStop (holdupDraw s.chip v h u.toNat)) done) } := by
  change execBrownOut v h u done s = _
  simp [execBrownOut, onChip, hoff, hhold]

theorem setVhold_pwd (c : Chip) (mv : Nat) : (setVhold c mv).pwd = { c.pwd with vhold := mv, budget := budgetOf c c.pwd.capUf mv } := rfl

theorem setVhold_sup (c : Chip) (mv : Nat) : (setVhold c mv).sup = c.sup := rfl

/-- The chip running on its store (R84). -/
def onStore (c : Chip) : Chip := { c with pwd := { c.pwd with holdup := true, charging := false, loadCheck := false } }

theorem holdupDraw_eq (c : Chip) (v h u : Nat) : holdupDraw c v h u =
    lswBrownOut (updateHold (setVhold (setMode (floodLeave (setSupplies (onStore c) v u) 2) .holdUp 0x04) h)) := rfl

/-- R84: the first steps of a brown-out leave the module in Hold-up, on what the store holds. -/
theorem holdupDraw_modes (c : Chip) (v h u : Nat) : (holdupDraw c v h u).sup.mode = .holdUp ∧
    (holdupDraw c v h u).pwd.holdup = true ∧ (holdupDraw c v h u).pwd.vhold = h ∧ (holdupDraw c v h u).pwd.vmain = v := by
  have hleave : (floodLeave (setSupplies (onStore c) v u) 2).pwd = (setSupplies (onStore c) v u).pwd :=
    (kept_floodLeave 2 (by decide)).2 (.refl [.fab, .out] _) .pwd (by decide)
  have hmode : (setMode (floodLeave (setSupplies (onStore c) v u) 2) .holdUp 0x04).pwd = (setSupplies (onStore c) v u).pwd :=
    ((kept_setMode _ _ (by decide)).2 (.refl [.regs, .sup, .dsp, .host, .blt, .out] _) .pwd (by decide)).trans hleave
  have hd := setMode_mode (floodLeave (setSupplies (onStore c) v u) 2) .holdUp 0x04
  rw [holdupDraw_eq]
  generalize setMode (floodLeave (setSupplies (onStore c) v u) 2) .holdUp 0x04 = d at hmode hd
  obtain ⟨-, hheld, b, hpwd⟩ := updateHold_holdUp (c := setVhold d h) hd
  have hlast : ChipKeptBut [.lsw, .flt] (updateHold (setVhold d h)) (lswBrownOut (updateHold (setVhold d h))) :=
    (kept_lswBrownOut (by decide)).2 (.refl _ _)
  rw [hlast .sup (by decide), hlast .pwd (by decide), hpwd, setVhold_pwd, hmode]
  exact ⟨hheld, rfl, rfl, rfl⟩

theorem portsDown_fenced (c : Chip) (r : Region) : fenced (portsDown c) r = fenced c r := by
  rw [fenced, portsDown_sup, fenced]

theorem holdupFence_sup (c : Chip) : (holdupFence c).sup =
    { (fenceRegion (fenceRegion (fenceRegion c .svc) .lnk) .dsp).sup with
      ready := setBitV (fenceRegion (fenceRegion (fenceRegion c .svc) .lnk) .dsp).sup.ready Func.hst.idx false } := by
  rw [holdupFence, portsDown_sup]

theorem fenced_holdupFence (c : Chip) (r : Region) (h : r = .svc ∨ r = .lnk ∨ r = .dsp) : fenced (holdupFence c) r = true := by
  have : fenced (fenceRegion (fenceRegion (fenceRegion c .svc) .lnk) .dsp) r = true := by
    simp only [fenced_fenceRegion]
    rcases h with rfl | rfl | rfl <;> simp
  rw [fenced, holdupFence_sup]
  exact this

theorem ready_holdupFence (c : Chip) : ready (holdupFence c) .hst = false := by
  rw [ready, holdupFence_sup]
  dsimp only
  rw [getLsbD_setBitV _ _ _ (by decide), if_pos rfl]

theorem updateHold_low {c : Chip} (h : c.sup.mode = .holdUp) (hlow : holdNow c = true → c.pwd.holdOk = true) :
    updateHold c = holdWritten c (holdNow c) := by
  cases hnow : holdNow c with
  | true =>
    rw [updateHold_stays (hnow.trans (hlow hnow).symm), holdWritten, ← hlow hnow]
  | false =>
    cases hwas : c.pwd.holdOk with
    | true => rw [updateHold_falls hnow hwas, holdFault_holdUp (c := holdWritten c false) h]
    | false => rw [updateHold_stays (hnow.trans hwas.symm), holdWritten, ← hwas]

theorem tearRecord_queue (c : Chip) : (tearRecord c).blt.queue = [] := by
  unfold tearRecord
  split
  · assumption
  · rfl

/-- The chip with VHOLD at the voltage of the last moment. -/
def holdDown (c : Chip) : Chip := tearEntry (tearSlot (updateHold (setVhold c 18000)))

theorem holdDown_kept {c : Chip} (h : c.sup.mode = .holdUp) :
    ChipKeptBut [.acc, .leg, .pwd, .freeCount] c (holdDown c) ∧ (holdDown c).pwd = { (setVhold c 18000).pwd with
      holdOk := c.pwd.loadCheck && c.pwd.holdOk } := by
  have hnow : holdNow (setVhold c 18000) = (c.pwd.loadCheck && c.pwd.holdOk) := by
    unfold holdNow holdConditions
    rw [setVhold_pwd]
    dsimp only
    cases c.pwd.loadCheck <;> rfl
  have hupd : updateHold (setVhold c 18000) = holdWritten (setVhold c 18000) (c.pwd.loadCheck && c.pwd.holdOk) := by
    rw [← hnow]
    exact updateHold_low h fun hb => (Bool.and_eq_true_iff.1 (hnow.symm.trans hb)).2
  have htear : ChipKeptBut [.acc, .leg, .freeCount] (holdWritten (setVhold c 18000) (c.pwd.loadCheck && c.pwd.holdOk)) (holdDown c) := by
    rw [holdDown, hupd]
    simp +decide only [kept_tearEntry, kept_tearSlot, kept_refl]
  refine ⟨ChipKeptBut.trans ((kept_set_pwd (by decide)).2 ((kept_setVhold _ (by decide)).2 (.refl _ _))) (htear.mono (by decide)), ?_⟩
  exact htear .pwd (by decide)

/-- The module without supply (R51, R85). -/
def poweredDown (c : Chip) : Chip := { c with
  pwd := { c.pwd with holdup := false, loadCheck := false, rails := c.pwd.rails &&& 0x100, supplyOk := c.pwd.supplyOk &&& 0x2F, posted := [] },
  host := { c.host with inflight := [] },
  sup := { c.sup with mode := .off, prevMode := c.sup.mode, modeCause := 0, ready := 0, fence := 0x7F, held := false } }

theorem poweredDown_kept (c : Chip) : ChipKeptBut [.acc, .blt, .leg, .pwd, .freeCount, .host, .sup] c (poweredDown c) := by
  intro p hp
  cases p <;> first | rfl | exact absurd hp (by decide)

theorem holdupOff_eq (c : Chip) : holdupOff c = poweredDown (tearRecord (holdDown c)) := rfl

theorem exec_holdupOff {s : State} (h : s.chip.pwd.holdup = true) : exec .holdupOff s = .next { s with
    chip := holdupOff s.chip } := by
  change execHoldupOff s = _
  simp [execHoldupOff, onChip, h]

/-! ### Power-on resets -/

theorem tfind_filter_none {α : Type} (m : Tab α) {keep : Nat × α → Bool} {a : Nat} (h : ∀ w, keep (a, w) = false) :
    tfind (m.filter keep) a = none := by
  induction m with
  | nil => rfl
  | cons x m ih =>
    rw [List.filter_cons]
    split
    · next hx =>
      have hne : x.1 ≠ a := fun e => by simp [← e] at h; exact Bool.noConfusion ((h x.2).symm.trans hx)
      rw [show x = (x.1, x.2) from rfl, tfind, if_neg hne, ih]
    · exact ih

theorem rget_filter_reset (m : Tab Word) {keep : Nat × Word → Bool} {a : Nat} (h : ∀ w, keep (a, w) = false) :
    rget (m.filter keep) a = regReset a := by
  rw [rget, tfind_filter_none m h]

theorem resetPwdRegs_get (c : Chip) {a : Nat} (hm : memberOf a = 7) (hlow : a < 0x7800000) :
    regGet (resetPwdRegs c) a = regReset a ∧ liveGet (resetPwdRegs c) a = regReset a := by
  have hkeep : ∀ w : Word, (memberOf (a, w).1 != 7 || decide (0x7800000 ≤ (a, w).1)) = false := fun w => by
    simp [hm, hlow]
  exact ⟨rget_filter_reset _ hkeep, rget_filter_reset _ hkeep⟩

/-- The power die at its power-on (R51). -/
def pwdFresh (c : Chip) : Chip := { c with
  pwd := { Pwd.reset with fb := c.pwd.fb, fbAt := c.pwd.fbAt, supTemp := c.pwd.supTemp, rails := c.pwd.rails, charging := true, pilots := (List.range 8).map (fun o => (o, .zero)) },
  lsw := LswAll.reset }

/-- The power die at its power-on, with the supplies and VHOLD as they read. -/
def pwdStarted (c : Chip) (v h u : Nat) : Chip := setVhold (setSupplies (pwdFresh (resetPwdRegs c)) v u) h

theorem pwdStarted_kept (c : Chip) (v h u : Nat) :
    ChipKeptBut [.pwd, .lsw, .regs, .live, .cg, .freeCount] c (pwdStarted c v h u) := by
  have hfresh : ChipKeptBut [.pwd, .lsw, .regs, .live, .cg, .freeCount] c (pwdFresh (resetPwdRegs c)) :=
    (kept_set_pwd_lsw (by decide)).2 ((kept_resetPwdRegs (by decide)).2 (.refl _ _))
  exact (kept_setVhold _ (by decide)).2 ((kept_setSupplies _ _ (by decide)).2 hfresh)

theorem powerDiePor_quiet {c : Chip} (v h u : Nat) (hq : c.sup.mode = .off ∨ c.sup.mode = .holdUp ∨ c.pwd.holdOk = false) :
    ChipKeptBut [.sup] (pwdStarted c v h u) (powerDiePor c v h u) := by
  have hmode : (pwdStarted c v h u).sup.mode = c.sup.mode := rfl
  have hcond : (c.pwd.holdOk && (pwdStarted c v h u).sup.mode != .off && (pwdStarted c v h u).sup.mode != .holdUp) = false := by
    rw [hmode]
    rcases hq with h | h | h <;> simp [h]
  have heq : powerDiePor c v h u =
      if c.pwd.holdOk && (pwdStarted c v h u).sup.mode != .off && (pwdStarted c v h u).sup.mode != .holdUp then
        holdFault (pwdStarted c v h u)
      else if (pwdStarted c v h u).sup.mode = .off then dropDegCause (pwdStarted c v h u) .holdUp
      else pwdStarted c v h u := rfl
  rw [heq, hcond, if_neg Bool.false_ne_true]
  split
  · next hoff =>
    rw [dropDegCause, settleMode_other]
    · exact (kept_set_sup (by decide)).2 (.refl _ _)
    all_goals
      dsimp only
      rw [hoff]
      decide
  · exact .refl _ _

theorem getLsbD_foldl_setBitV {n : Nat} (f : Nat → Bool) (l : List Nat) (v : BitVec n) {o : Nat} (ho : o < n) :
    (l.foldl (fun v k => setBitV v k (f k)) v).getLsbD o = if o ∈ l then f o else v.getLsbD o := by
  induction l generalizing v with
  | nil => simp
  | cons k l ih =>
    rw [List.foldl_cons, ih, getLsbD_setBitV _ _ _ ho]
    by_cases h : o ∈ l
    · simp only [h, List.mem_cons, or_true, if_true]
    · by_cases hk : k = o
      · simp only [hk, h, List.mem_cons, true_or, if_true, if_false]
      · simp only [hk, h, Ne.symm hk, List.mem_cons, or_self, if_false]

theorem safetyDiePor_weld (c : Chip) (levels : List Nat) (ok : Bool) {o : Nat} (ho : o < 8) :
    (safetyDiePor c levels ok).nib.weld.getLsbD o = (fbClosed c o && !(coilOf c o).driven) := by
  rw [safetyDiePor]
  dsimp only
  rw [getLsbD_foldl_setBitV (fun o => fbClosed c o && !(coilOf c o).driven) _ _ ho, if_pos (List.mem_range.2 ho)]

theorem ready_safetyDiePor (c : Chip) (levels : List Nat) (ok : Bool) : ready (safetyDiePor c levels ok) .nib = false := by
  rw [ready, safetyDiePor]
  dsimp only
  rw [getLsbD_setBitV _ _ _ (by decide), if_pos rfl]

/-! ### The check of the store (R88) -/

/-- A load check under way. -/
def checkStarted (c : Chip) : Chip := { c with pwd := { c.pwd with loadCheck := true, charging := false } }

/-- The results of a load check, as they are kept. -/
def checkResult (c : Chip) (cap esr : Nat) (bad : Bool) : Chip := { c with pwd := { c.pwd with
  loadCheck := false, charging := !c.pwd.holdup, measured := true, capUf := min 4700 cap, esrMohm := esr, undersized := bad } }

theorem loadCheckDone_eq (c : Chip) (cap esr : Nat) (bad : Bool) (hbad : (decide (min 4700 cap < 470) || decide (500 < esr)) = bad) :
    loadCheckDone c cap esr = if bad && !c.pwd.holdOk then
      holdFault (updateHold (setVhold (checkResult c cap esr bad) c.pwd.vhold))
      else updateHold (setVhold (checkResult c cap esr bad) c.pwd.vhold) := by
  subst hbad
  rfl

theorem checkResult_kept (c : Chip) (cap esr : Nat) (bad : Bool) (v : Nat) :
    ChipKeptBut [.pwd, .freeCount] c (setVhold (checkResult c cap esr bad) v) :=
  (kept_setVhold _ (by decide)).2 ((kept_set_pwd (by decide)).2 (.refl _ _))

/-- The capacitance that a rise of the charge gives (R87). -/
def chargeRead (c : Chip) (cap : Nat) : Chip := { c with pwd := { c.pwd with
  capUf := min 4700 cap, undersized := c.pwd.measured && (decide (min 4700 cap < 470) || decide (500 < c.pwd.esrMohm)) } }

theorem holdFault_stopped {c : Chip} (h : c.sup.mode = .off ∨ c.sup.mode = .reset) : holdFault c = addDegCause c .holdUp := by
  rw [holdFault, if_neg (by rcases h with h | h <;> simp [h]), if_pos h]

theorem addDegCause_other {c : Chip} (k : DegCause) (h : c.sup.mode = .off ∨ c.sup.mode = .reset) :
    ChipKeptBut [.sup] c (addDegCause c k) ∧ k ∈ (addDegCause c k).sup.degCauses ∧ (addDegCause c k).sup.mode = c.sup.mode := by
  rw [addDegCause]
  split
  · next hin => exact ⟨.refl _ _, List.contains_iff_mem.1 hin, rfl⟩
  · rw [settleMode_other]
    · exact ⟨(kept_set_sup (by decide)).2 (.refl _ _), List.mem_cons_self, rfl⟩
    all_goals
      dsimp only
      rcases h with h | h <;> simp [h]

theorem exec_loadCheckStart {s : State} {h : Nat} (hh : 35500 ≤ h) (hc : s.chip.pwd.loadCheck = false)
    (hu : s.chip.pwd.holdup = false) : exec (.loadCheckStart h) s = .next { s with
      chip := checkStarted (updateHold (setVhold s.chip h)) } := by
  change execLoadCheckStart h s = _
  simp [execLoadCheckStart, onChip, hh, hc, hu, checkStarted]

theorem exec_loadCheckDone {s : State} (cap esr : Nat) (hc : s.chip.pwd.loadCheck = true) :
    exec (.loadCheckDone cap esr) s = .next { s with
      chip := loadCheckDone s.chip cap esr } := by
  change execLoadCheckDone cap esr s = _
  simp [execLoadCheckDone, onChip, hc]

/-- A check that finds the store undersized ends with HOLD_OK down and its fault. -/
theorem loadCheckDone_bad {c : Chip} {cap esr : Nat} (hbad : cap < 470 ∨ 500 < esr) :
    loadCheckDone c cap esr = holdFault (holdWritten (setVhold (checkResult c cap esr true) c.pwd.vhold) false) := by
  have hb : (decide (min 4700 cap < 470) || decide (500 < esr)) = true := by
    simp only [Bool.or_eq_true, decide_eq_true_eq]
    omega
  have hnow : holdNow (setVhold (checkResult c cap esr true) c.pwd.vhold) = false := by
    have : holdNow (setVhold (checkResult c cap esr true) c.pwd.vhold) =
      (decide (35500 ≤ c.pwd.vhold) && true && decide (470 ≤ min 4700 cap) && decide (esr ≤ 500)) := rfl
    rw [this]
    simp only [Bool.and_eq_false_iff, decide_eq_false_iff_not]
    omega
  have hwas : (setVhold (checkResult c cap esr true) c.pwd.vhold).pwd.holdOk = c.pwd.holdOk := rfl
  rw [loadCheckDone_eq c cap esr true hb, Bool.true_and]
  cases h : c.pwd.holdOk with
  | true =>
    rw [updateHold_falls hnow (hwas.trans h)]
    rfl
  | false =>
    rw [updateHold_stays (hnow.trans (hwas.trans h).symm), Bool.not_false, if_pos rfl, ← h, ← hwas]
    generalize setVhold (checkResult c cap esr true) c.pwd.vhold = d
    rfl

/-- Settles O9. -/
theorem supplyCommands : Obligations.SupplyCommands := by
  unfold Obligations.SupplyCommands
  refine ⟨?brownOut, ?off, ?powerPor, ?safetyPor, ?start, ?good, ?badRunning, ?badOff, ?rise, ?holdFall, ?holdRise⟩
  case brownOut =>
    intro s v h u done hoff hhold
    obtain ⟨hmode, hholdup, hvhold, hvmain⟩ := holdupDraw_modes s.chip v h u.toNat
    refine answers_chip (exec_brownOut v h u done hoff hhold) ⟨storesKept_chip s _, ?_⟩
    dsimp only
    refine ⟨fenced_holdupFence _ _ (.inl rfl), fenced_holdupFence _ _ (.inr (.inl rfl)), fenced_holdupFence _ _ (.inr (.inr rfl)),
      ready_holdupFence _, ?_⟩
    · exact ⟨holdupDraw s.chip v h u.toNat, hmode, hholdup, hvhold, hvmain, by with_reducible rfl⟩
  case off =>
    intro s hholdup hmode
    obtain ⟨hkept, hpwd⟩ := holdDown_kept hmode
    refine answers_chip (exec_holdupOff hholdup) ?_
    rw [holdupOff_eq]
    have hrecord : ChipKeptBut [.blt, .freeCount] (holdDown s.chip) (tearRecord (holdDown s.chip)) :=
      (kept_tearRecord (by decide)).2 (.refl _ _)
    have hdown := (hrecord .pwd (by decide)).trans hpwd
    have hsup := (hrecord .sup (by decide)).trans (hkept .sup (by decide))
    have hall := ChipKeptBut.trans (hkept.mono (show _ ⊆ [Part.acc, .blt, .leg, .pwd, .freeCount, .host, .sup] by decide))
      (hrecord.mono (by decide))
    have hqueue := tearRecord_queue (holdDown s.chip)
    generalize tearRecord (holdDown s.chip) = d at hdown hsup hall hqueue
    have hcoils : d.pwd.coils = s.chip.pwd.coils := by rw [hdown]; rfl
    refine ⟨keptBut_chip.2 (.trans hall (poweredDown_kept d)), rfl, hqueue, congrArg Sup.mode hsup, rfl, rfl,
      congrArg Pwd.vhold hdown, fun hl => (congrArg Pwd.holdOk hdown).trans ?_, rfl, rfl, hcoils⟩
    dsimp only
    rw [hl, Bool.false_and]
  case powerPor =>
    intro s v h u hq
    have hsup := powerDiePor_quiet v h u.toNat hq
    have hall := ChipKeptBut.trans ((pwdStarted_kept s.chip v h u.toNat).mono (show _ ⊆ [Part.pwd, .lsw, .regs, .live, .cg, .sup, .freeCount] by decide))
      (hsup.mono (by decide))
    have hpwd := hsup .pwd (by decide)
    refine answers_chip (d := powerDiePor s.chip v h u.toNat) rfl ⟨keptBut_chip.2 hall, ?_⟩
    generalize powerDiePor s.chip v h u.toNat = d at hsup hpwd
    dsimp only
    rw [hpwd, hsup .lsw (by decide)]
    refine ⟨rfl, rfl, rfl, rfl, rfl, rfl, rfl, rfl, fun a hm hlow => ?_⟩
    rw [regGet, liveGet, hsup .regs (by decide), hsup .live (by decide)]
    exact resetPwdRegs_get s.chip hm hlow
  case safetyPor =>
    intro s levels ok
    refine answers_chip (d := safetyDiePor s.chip levels ok) rfl ⟨storesKept_chip s _, rfl, rfl, rfl, rfl, rfl, rfl, rfl,
      ready_safetyDiePor _ _ _, fun o ho => safetyDiePor_weld _ _ _ ho⟩
  case start => 
    intro s h hh hc hu hstay
    have hupd : updateHold (setVhold s.chip h) = setVhold s.chip h := by
      simp only [holdConditions] at hstay
      refine updateHold_stays ?_
      simp only [holdNow, holdConditions, setVhold_pwd, hc, Bool.false_eq_true, if_false]
      exact hstay.symm
    refine answers_chip (exec_loadCheckStart hh hc hu) ?_
    rw [hupd]
    refine ⟨keptBut_chip.2 ((kept_set_pwd (by decide)).2 ((kept_setVhold _ (by decide)).2 (.refl _ _))), rfl, rfl, rfl, rfl⟩
  case good =>
    intro s cap esr hc hu hcap hesr hv hok
    have hb : (decide (min 4700 cap < 470) || decide (500 < esr)) = false := by
      simp only [Bool.or_eq_false_iff, decide_eq_false_iff_not]
      omega
    have hnow : holdNow (setVhold (checkResult s.chip cap esr false) s.chip.pwd.vhold) = true := by
      simp only [holdNow, holdConditions, setVhold_pwd, checkResult, Bool.false_eq_true, if_false, Bool.and_eq_true]
      exact ⟨⟨⟨decide_eq_true hv, trivial⟩, decide_eq_true (by omega)⟩, decide_eq_true hesr⟩
    refine answers_chip (exec_loadCheckDone cap esr hc) ?_
    rw [loadCheckDone_eq _ _ _ _ hb, Bool.false_and, if_neg Bool.false_ne_true, updateHold_stays (hnow.trans hok.symm)]
    refine ⟨keptBut_chip.2 (checkResult_kept _ _ _ _ _), rfl, ?_, rfl, rfl, rfl, rfl, hok⟩
    exact congrArg Bool.not hu
  case badRunning => 
    intro s cap esr hc hbad hoff hreset hhold
    refine answers_chip (exec_loadCheckDone cap esr hc) ⟨storesKept_chip s _,
      holdWritten (setVhold (checkResult s.chip cap esr true) s.chip.pwd.vhold) false, ?_, rfl, rfl, ?_⟩
    · exact (kept_set_pwd (by decide)).2 (checkResult_kept _ _ _ _ _)
    · rw [loadCheckDone_bad hbad, holdFault_running] <;> assumption
  case badOff =>
    intro s cap esr hc hbad hmode
    have hkept : ChipKeptBut [.pwd, .freeCount] s.chip (holdWritten (setVhold (checkResult s.chip cap esr true) s.chip.pwd.vhold) false) :=
      (kept_set_pwd (by decide)).2 (checkResult_kept _ _ _ _ _)
    have hmem := addDegCause_other .holdUp (c := holdWritten (setVhold (checkResult s.chip cap esr true) s.chip.pwd.vhold) false) hmode
    refine answers_chip (exec_loadCheckDone cap esr hc) ?_
    rw [loadCheckDone_bad hbad, holdFault_stopped (c := holdWritten (setVhold (checkResult s.chip cap esr true) s.chip.pwd.vhold) false) hmode]
    have hpwd : ∀ d, ChipKeptBut [.sup] (holdWritten (setVhold (checkResult s.chip cap esr true) s.chip.pwd.vhold) false) d →
      d.pwd.undersized = true ∧ d.pwd.holdOk = false := fun d hd => by rw [hd .pwd (by decide)]; exact ⟨rfl, rfl⟩
    obtain ⟨hsup, hin, hsame⟩ := hmem
    exact ⟨keptBut_chip.2 ((hkept.mono (by decide)).trans (hsup.mono (by decide))), (hpwd _ hsup).1, (hpwd _ hsup).2, hin, hsame⟩
  case rise =>
    intro s cap hok hc
    have hnow : holdNow (setVhold (chargeRead s.chip cap) 30000) = false := by
      simp only [holdNow, holdConditions, setVhold_pwd, chargeRead, hc, Bool.false_eq_true, if_false, Bool.and_eq_false_iff,
        decide_eq_false_iff_not]
      omega
    refine answers_chip (d := updateHold (setVhold (chargeRead s.chip cap) 30000)) rfl ?_
    rw [updateHold_stays (c := setVhold (chargeRead s.chip cap) 30000) (hnow.trans hok.symm)]
    exact ⟨keptBut_chip.2 ((kept_setVhold _ (by decide)).2 ((kept_set_pwd (by decide)).2 (.refl _ _))), rfl, rfl, hok⟩
  case holdFall =>
    intro s h hh hok hc hoff hreset hhold
    have hnow : holdNow (setVhold s.chip h) = false := by
      simp only [holdNow, holdConditions, setVhold_pwd, hc, Bool.false_eq_true, if_false, Bool.and_eq_false_iff,
        decide_eq_false_iff_not]
      omega
    refine answers_chip (d := updateHold (setVhold s.chip h)) rfl ⟨storesKept_chip s _, holdWritten (setVhold s.chip h) false, ?_, rfl, rfl, ?_⟩
    · exact (kept_set_pwd (by decide)).2 ((kept_setVhold _ (by decide)).2 (.refl _ _))
    · rw [updateHold_falls hnow hok, holdFault_running] <;> assumption
  case holdRise =>
    intro s h hh hmeas hcap hesr hok hc
    have hnow : holdNow (setVhold s.chip h) = true := by
      simp only [holdNow, holdConditions, setVhold_pwd, hc, hmeas, Bool.false_eq_true, if_false, Bool.and_eq_true]
      exact ⟨⟨⟨decide_eq_true hh, trivial⟩, decide_eq_true hcap⟩, decide_eq_true hesr⟩
    refine answers_chip (d := updateHold (setVhold s.chip h)) rfl ⟨storesKept_chip s _, holdWritten (setVhold s.chip h) true, ?_, rfl, rfl, ?_⟩
    · exact (kept_set_pwd (by decide)).2 ((kept_setVhold _ (by decide)).2 (.refl _ _))
    · rw [updateHold_rises hnow hok]

end Sys2Proof
end

section
/-! PROOFS. The timebase: latching its registers, qualifying, following and losing a reference. -/

namespace Sys2Proof
open Machine

/-! ### The latch of the timebase registers (R98) -/

theorem tbLatch_kept (c : Chip) : ChipKeptBut [.regs] c (tbLatch c) := by
  simp +decide only [tbLatch, kept_regPut, kept_refl]

theorem wordOf_toNat (n : Nat) : (wordOf n).toNat = n % 2 ^ 32 := BitVec.toNat_ofNat n 32

theorem tbLatch_regs (c : Chip) :
    RegsKeptBut [Reg.SUP_TB_CYC_LO, Reg.SUP_TB_CYC_HI, Reg.SUP_TB_ANGLE, Reg.SUP_WALL_SEC_LO, Reg.SUP_WALL_SEC_HI,
        Reg.SUP_WALL_FRAC] c (tbLatch c) ∧
      regGet (tbLatch c) Reg.SUP_TB_CYC_LO = loWord c.tb.cycle ∧
      regGet (tbLatch c) Reg.SUP_TB_CYC_HI = wordOf (c.tb.cycle / 2 ^ 32 % 65536) ∧
      regGet (tbLatch c) Reg.SUP_TB_ANGLE = wordOf (place 16 (c.tb.angle % 65536) + c.tb.frac % 65536) ∧
      regGet (tbLatch c) Reg.SUP_WALL_SEC_LO = loWord (c.tb.wall / 2 ^ 32) ∧
      regGet (tbLatch c) Reg.SUP_WALL_FRAC = loWord c.tb.wall := by
  unfold tbLatch
  refine ⟨?_, ?_, ?_, ?_, ?_, ?_⟩
  · intro a ha
    simp only [List.mem_cons, List.not_mem_nil, or_false, not_or] at ha
    obtain ⟨h1, h2, h3, h4, h5, h6⟩ := ha
    rw [regGet_regPut_ne _ _ h6, regGet_regPut_ne _ _ h5, regGet_regPut_ne _ _ h4, regGet_regPut_ne _ _ h3,
      regGet_regPut_ne _ _ h2, regGet_regPut_ne _ _ h1]
  all_goals simp +decide only [regGet_regPut_ne, regGet_regPut_self, regPut_tb, ne_eq]

theorem fieldOf_packed (a f : Nat) :
    fieldOf (wordOf (place 16 (a % 65536) + f % 65536)) 31 16 = a % 65536 ∧
      fieldOf (wordOf (place 16 (a % 65536) + f % 65536)) 15 0 = f % 65536 := by
  simp only [fieldOf, wordOf_toNat, place, Nat.shiftRight_eq_div_pow]
  omega

theorem exec_tbLatch {s : State} {a f n : Nat} (h : windowClosed (reachInstant s.chip a f n) Reg.SUP_TB_LATCH = false) :
    exec (.tbLatch a f n) s = .next { s with
      chip := tbLatch (reachInstant s.chip a f n) } := by
  change execTbLatch a f n s = _
  simp [execTbLatch, onChip, reach, h]

theorem windowClosed_congr {c d : Chip} (h : d.sup = c.sup) (a : Nat) : windowClosed d a = windowClosed c a := by
  simp only [windowClosed, ready, fenced, h]

/-- The time of the chip's clocks, with nothing slewed (R113, R115). -/
def clocksRun (c : Chip) (dur into : Nat) : Chip := { c with
  tb := { c.tb with wall := c.tb.wall + dur, hwm := max c.tb.hwm (c.tb.wall + dur), aon := c.tb.aon + dur, into := into } }

/-- The clocks once a time has passed of which the wall clock gained a part (R115). -/
def slewedBy (c : Chip) (dur : Nat) (part : Int) : Chip :=
  let w := ((c.tb.wall + dur : Nat) + part).toNat
  { c with tb := { c.tb with wall := w, hwm := max c.tb.hwm w, slewRem := c.tb.slewRem - part, aon := c.tb.aon + dur } }

theorem advanceTime_steady {c : Chip} (h : c.tb.slewRem = 0) (dur : Nat) :
    advanceTime c dur = clocksRun c dur c.tb.into := by
  have hpart : slewPart c dur = 0 := by simp [slewPart, h]
  have hwall : (((c.tb.wall + dur : Nat) : Int) + 0).toNat = c.tb.wall + dur := by omega
  have heq : advanceTime c dur = if decide (c.tb.slewRem ≠ 0) && decide (c.tb.slewRem - slewPart c dur = 0) then
      raiseEvt (slewedBy c dur (slewPart c dur)) Reg.SUP_TB_EVT 4 else slewedBy c dur (slewPart c dur) := rfl
  rw [heq, hpart, h, slewedBy, hwall]
  simp only [ne_eq, not_true_eq_false, decide_false, Bool.false_and, Bool.false_eq_true, if_false, h, Int.sub_zero]
  rw [clocksRun, ← h]

theorem fireThrough_nothing {c : Chip} {angle : Nat} (fuel : Nat) (h : anglesAhead c = []) :
    fireThrough (fuel + 1) c angle = { c with tb := { c.tb with angle := max c.tb.angle angle } } := by
  rw [fireThrough, h]
  rfl

theorem anglesAhead_nil {c : Chip} (h : c.tb.sched = []) : anglesAhead c = [] := by
  rw [anglesAhead, h]
  rfl

theorem runTo_steady {c : Chip} (h : c.tb.slewRem = 0) (since : Nat) :
    runTo c since = clocksRun c (since - c.tb.into) (max c.tb.into since) := by
  rw [runTo, advanceTime_steady h]
  rfl

/-- An instant ahead of the running cycle, with nothing booked and nothing slewed: only the clocks run. -/
theorem reachInstant_steady {c : Chip} {a : Nat} (f : Nat) {n : Nat} (ha : a < 65536) (hahead : c.tb.angle < a) (hsched : c.tb.sched = [])
    (hslew : c.tb.slewRem = 0) : ∃ frac, reachInstant c a f n =
      { c with tb := { (clocksRun c (n - c.tb.into) (max c.tb.into n)).tb with angle := a, frac := frac } } := by
  have hnone : anglesAhead (clocksRun c (n - c.tb.into) (max c.tb.into n)) = [] := anglesAhead_nil hsched
  have hfire := fireThrough_nothing (angle := min a 65535) 65535 hnone
  have hangle : max (clocksRun c (n - c.tb.into) (max c.tb.into n)).tb.angle (min a 65535) = a := by
    change max c.tb.angle (min a 65535) = a
    omega
  rw [hangle] at hfire
  have hnot : ¬ a < (clocksRun c (n - c.tb.into) (max c.tb.into n)).tb.angle := Nat.lt_asymm hahead
  rw [reachInstant, runTo_steady hslew]
  dsimp only
  rw [if_neg hnot, hfire]
  exact ⟨_, rfl⟩

/-! ### References (R102, R104, R105) -/

theorem exec_refLost {s : State} {alt : Bool} (hgone : refGone s.chip alt = true) (hf : s.chip.tb.follow = ownFollow alt) :
    exec (.refLost alt) s = .next { s with
      chip := refLost s.chip } := by
  change execRefLost alt s = _
  simp [execRefLost, onChip, hgone, hf]

theorem exec_tbLockAcquired {s : State} (hst : s.chip.tb.state = .acquire) (he : 8 ≤ s.chip.tb.errLow) :
    exec .tbLockAcquired s = .next { s with
      chip := raiseEvt (toTbState s.chip .locked s.chip.tb.follow) Reg.SUP_TB_EVT 0 } := by
  change execTbLockAcquired s = _
  simp [execTbLockAcquired, onChip, hst, he]

theorem exec_tbPhaseJump {s : State} (hst : s.chip.tb.state = .locked) (he : 3 ≤ s.chip.tb.errHigh) :
    exec .tbPhaseJump s = .next { s with
      chip := acquire s.chip s.chip.tb.follow } := by
  change execTbPhaseJump s = _
  simp [execTbPhaseJump, onChip, hst, he]

theorem toTbState_kept (c : Chip) (st : TbState) (f : Follow) : ChipKeptBut [.tb] c (toTbState c st f) :=
  (kept_toTbState _ _ (by decide)).2 (.refl _ c)

/-- A state of the timebase entered with its event: only the timebase, the event's register and its report change. -/
theorem raised_toTbState (c : Chip) (st : TbState) (f : Follow) {b : Nat} (hb : b < 32) :
    ChipKeptBut [.tb, .regs, .host, .out] c (raiseEvt (toTbState c st f) Reg.SUP_TB_EVT b) ∧
      (raiseEvt (toTbState c st f) Reg.SUP_TB_EVT b).tb = (toTbState c st f).tb ∧
      immBit (raiseEvt (toTbState c st f) Reg.SUP_TB_EVT b) Reg.SUP_TB_EVT b = true := by
  have hkept : ChipKeptBut [.regs, .host, .out] (toTbState c st f) (raiseEvt (toTbState c st f) Reg.SUP_TB_EVT b) :=
    (kept_raiseEvt _ _ (by decide)).2 (.refl _ _)
  exact ⟨((toTbState_kept c st f).mono (by decide)).trans (hkept.mono (by decide)), hkept .tb (by decide), immBit_raiseEvt _ _ _ hb⟩

theorem refQualified_primary {c : Chip} (hq : qualifiedFor c false 10 = true) (hst : c.tb.state = .synth ∨ c.tb.state = .synthFab) :
    refQualified c false = clearBits (acquire c .primary) Reg.SUP_TB_EVT (wordOf 2) := by
  rcases hst with h | h <;> simp [refQualified, h, hq]

theorem refQualified_alternate {c : Chip} (hq : qualifiedFor c true 10 = true) (hp : qualifiedFor c false 10 = false)
    (halt : altEn c = true) (hst : c.tb.state = .synth ∨ c.tb.state = .synthFab) :
    refQualified c true = acquire c .alternate := by
  rcases hst with h | h <;> simp [refQualified, h, hq, hp, halt]

theorem refQualified_switch {c : Chip} (hq : qualifiedFor c false 10 = true) (hst : c.tb.state = .locked)
    (hf : c.tb.follow = .alternate) : refQualified c false = switchTo c .primary := by
  simp [refQualified, hst, hf, hq]

theorem refQualified_holdover {c : Chip} {alt : Bool} (hq : qualifiedFor c alt 3 = true) (hst : c.tb.state = .holdover)
    (hf : c.tb.follow = ownFollow alt) : refQualified c alt = acquire c c.tb.follow := by
  simp [refQualified, hst, hf, hq]

theorem refLost_locked {c : Chip} (hst : c.tb.state = .locked) :
    refLost c = raiseEvt (toTbState c .holdover c.tb.follow) Reg.SUP_TB_EVT 1 := by simp [refLost, hst]

theorem refLost_acquire {c : Chip} (hst : c.tb.state = .acquire) (hb : c.tb.beacons = false) :
    refLost c = toTbState c .synth .crystal := by simp [refLost, hst, fallToSynth, hb]

theorem holdoverOver_alternate {c : Chip} (hst : c.tb.state = .holdover) (hf : c.tb.follow = .primary)
    (hh : max 1 (cfg c Reg.SUP_TB_CFG 31 24) ≤ c.tb.held) (halt : altEn c = true) (hq : qualifiedFor c true 10 = true) :
    holdoverOver c = switchTo c .alternate := by
  rw [holdoverOver, if_pos ⟨hst, hh⟩, hf]
  simp [halt, hq]

theorem holdoverOver_beacons {c : Chip} (hst : c.tb.state = .holdover) (hh : max 1 (cfg c Reg.SUP_TB_CFG 31 24) ≤ c.tb.held)
    (halt : altEn c = false) (hb : c.tb.beacons = true) (hsite : cfgBit c Reg.SUP_TB_SITE 16 = true) :
    holdoverOver c = toTbState c .synthFab .beacons := by
  have hfall : fallToSynth c = toTbState c .synthFab .beacons := by simp [fallToSynth, hb, hsite]
  rw [holdoverOver, if_pos ⟨hst, hh⟩, halt, ← hfall]
  cases c.tb.follow <;> rfl

/-- The chip once no beacon comes in (R108). -/
def beaconsGone (c : Chip) : Chip := { c with tb := { c.tb with beacons := false } }

theorem exec_beaconTimeout {s : State} (hst : s.chip.tb.state = .synthFab) : exec .beaconTimeout s = .next { s with
    chip := toTbState (beaconsGone s.chip) .synth .crystal } := by
  change execBeaconTimeout s = _
  simp [execBeaconTimeout, onChip, hst, beaconsGone]

/-- Settles O10. -/
theorem timebaseCommands : Obligations.TimebaseCommands := by
  unfold Obligations.TimebaseCommands
  refine ⟨?latch, ?latchAhead, ?primary, ?alternate, ?switched, ?regained, ?lostLocked, ?lostAcquire, ?locks, ?jump, ?holdAlternate,
    ?holdBeacons, ?beacons⟩
  case latch =>
    intro s a f n c hopen
    obtain ⟨hregs, hlo, hhi, hangle, hsec, hfrac⟩ := tbLatch_regs c
    refine answers_chip (exec_tbLatch hopen) ⟨storesKept_chip s _, tbLatch_kept c, hregs, ?_⟩
    dsimp only
    rw [hlo, hhi, hangle, hsec, hfrac]
    refine ⟨wordOf_toNat _, (wordOf_toNat _).trans ?_, (fieldOf_packed _ _).1, (fieldOf_packed _ _).2, wordOf_toNat _, wordOf_toNat _⟩
    omega
  case latchAhead =>
    intro s a f n ha _ hahead hsched hslew hinto hopen
    obtain ⟨frac, hreach⟩ := reachInstant_steady f (n := n) ha hahead hsched hslew
    have hclosed : windowClosed (reachInstant s.chip a f n) Reg.SUP_TB_LATCH = false := by
      rw [← hopen, hreach]
      exact windowClosed_congr rfl _
    refine answers_chip (exec_tbLatch hclosed) ?_
    obtain ⟨-, -, -, hangle, -⟩ := tbLatch_regs (reachInstant s.chip a f n)
    have hkept := tbLatch_kept (reachInstant s.chip a f n)
    generalize tbLatch (reachInstant s.chip a f n) = d at hangle hkept
    have htb := hkept .tb (by decide)
    rw [hreach] at hkept hangle htb
    have hall : ChipKeptBut [.regs, .tb] s.chip d :=
      ChipKeptBut.trans ((kept_set_tb (by decide)).2 (.refl _ _)) (hkept.mono (by decide))
    refine ⟨keptBut_chip.2 hall, (congrArg Timebase.cycle htb :), ?_, (congrArg Timebase.wall htb :)⟩
    dsimp only
    rw [hangle, (fieldOf_packed _ _).1]
    exact Nat.mod_eq_of_lt ha
  case primary =>
    intro s hq hst
    refine answers_chip (d := refQualified s.chip false) rfl ?_
    rw [refQualified_primary hq hst]
    exact ⟨keptBut_chip.2 ((kept_clearBits _ _ (by decide)).2 ((kept_toTbState _ _ (by decide)).2 (.refl _ _))), rfl, rfl, rfl⟩
  case alternate =>
    intro s hq hp halt hst
    refine answers_chip (d := refQualified s.chip true) rfl ?_
    rw [refQualified_alternate hq hp halt hst]
    exact ⟨keptBut_chip.2 (toTbState_kept _ _ _), rfl, rfl⟩
  case switched =>
    intro s hq hst hf
    obtain ⟨hkept, htb, hevt⟩ := raised_toTbState s.chip .acquire .primary (b := 2) (by decide)
    refine answers_chip (d := refQualified s.chip false) rfl ?_
    rw [refQualified_switch hq hst hf]
    exact ⟨keptBut_chip.2 hkept, (congrArg Timebase.state htb :), (congrArg Timebase.follow htb :), hevt⟩
  case regained =>
    intro s alt hq hst hf
    refine answers_chip (d := refQualified s.chip alt) rfl ?_
    rw [refQualified_holdover hq hst hf]
    exact ⟨keptBut_chip.2 (toTbState_kept _ _ _), rfl, rfl⟩
  case lostLocked =>
    intro s alt hgone hst hf
    obtain ⟨hkept, htb, hevt⟩ := raised_toTbState s.chip .holdover s.chip.tb.follow (b := 1) (by decide)
    refine answers_chip (exec_refLost hgone hf) ?_
    rw [refLost_locked hst]
    exact ⟨keptBut_chip.2 hkept, (congrArg Timebase.state htb :), (congrArg Timebase.held htb :), (congrArg Timebase.freq htb :), hevt⟩
  case lostAcquire =>
    intro s alt hgone hst hf hb
    refine answers_chip (exec_refLost hgone hf) ?_
    rw [refLost_acquire hst hb]
    exact ⟨keptBut_chip.2 (toTbState_kept _ _ _), rfl, rfl⟩
  case locks =>
    intro s hst he
    obtain ⟨hkept, htb, hevt⟩ := raised_toTbState s.chip .locked s.chip.tb.follow (b := 0) (by decide)
    exact answers_chip (exec_tbLockAcquired hst he)
      ⟨keptBut_chip.2 hkept, (congrArg Timebase.state htb :), (congrArg Timebase.follow htb :), hevt⟩
  case jump =>
    intro s hst he
    exact answers_chip (exec_tbPhaseJump hst he) ⟨keptBut_chip.2 (toTbState_kept _ _ _), rfl, rfl, rfl⟩
  case holdAlternate =>
    intro s hst hf hh halt hq
    obtain ⟨hkept, htb, hevt⟩ := raised_toTbState s.chip .acquire .alternate (b := 2) (by decide)
    refine answers_chip (d := holdoverOver s.chip) rfl ?_
    rw [holdoverOver_alternate hst hf hh halt hq]
    exact ⟨keptBut_chip.2 hkept, (congrArg Timebase.state htb :), (congrArg Timebase.follow htb :), hevt⟩
  case holdBeacons =>
    intro s hst hh halt hb hsite
    refine answers_chip (d := holdoverOver s.chip) rfl ?_
    rw [holdoverOver_beacons hst hh halt hb hsite]
    exact ⟨keptBut_chip.2 (toTbState_kept _ _ _), rfl, rfl⟩
  case beacons =>
    intro s hst
    refine answers_chip (exec_beaconTimeout hst) ⟨keptBut_chip.2 ?_, rfl, rfl, rfl⟩
    exact (kept_toTbState _ _ (by decide)).2 ((kept_set_tb (by decide)).2 (.refl _ _))

end Sys2Proof
end

section
/-! PROOFS. What booking and the outlets leave of the timebase: all but the table of bookings (R109). -/

namespace Sys2Proof.Machine

/-- The timebase without its table of bookings. -/
def clockOf (t : Timebase) : Timebase := { t with sched := [], retry := [], schedHigh := 0, schedRefused := 0 }

@[simp] theorem clock_ite (p : Prop) [Decidable p] (a b : Timebase) :
    clockOf (if p then a else b) = if p then clockOf a else clockOf b := apply_ite _ _ _ _

@[simp] theorem clock_book (c : Chip) (b : Booking) : clockOf (book c b).1.tb = clockOf c.tb := by
  unfold book; dsimp only; (repeat' split) <;> simp [clockOf]
@[simp] theorem clock_unbook (c : Chip) (p : BookKind → Bool) : clockOf (unbook c p).tb = clockOf c.tb := rfl
@[simp] theorem clock_foldl {α : Type} (f : Chip → α → Chip) (hf : ∀ c a, clockOf (f c a).tb = clockOf c.tb) (l : List α)
    (c : Chip) : clockOf (l.foldl f c).tb = clockOf c.tb := foldl_same (fun c : Chip => clockOf c.tb) hf l c
@[simp] theorem clock_rebook (c : Chip) : clockOf (rebook c).tb = clockOf c.tb :=
  clock_foldl _ (fun _ _ => clock_book _ _) _ _
@[simp] theorem clock_processorOff (c : Chip) (o : Nat) : clockOf (processorOff c o).tb = clockOf c.tb := by simp [processorOff]
@[simp] theorem clock_releaseForOpening (c : Chip) (o : Nat) : clockOf (releaseForOpening c o).tb = clockOf c.tb := by
  simp [releaseForOpening]

@[simp] theorem clock_enterFinishing (c : Chip) (o : Nat) : clockOf (enterFinishing c o).tb = clockOf c.tb := by
  simp [enterFinishing]
@[simp] theorem clock_enterFaulted (c : Chip) (o : Nat) (flags : BitVec 16) : clockOf (enterFaulted c o flags).tb = clockOf c.tb := by
  simp [enterFaulted]

theorem clock_bookCoil (c : Chip) (k : BookKind) (t : Nat) (now : Chip → Chip) (hnow : ∀ c, clockOf (now c).tb = clockOf c.tb) :
    clockOf (bookCoil c k t now).tb = clockOf c.tb := by
  unfold bookCoil
  have h := clock_book c { cycle := t / 65536, angle := t % 65536, kind := k, period := 0 }
  split
  · next heq => rw [heq] at h; exact (hnow _).trans h
  · next heq => rw [heq] at h; exact h

@[simp] theorem clock_enterOpening (c : Chip) (o : Fin 8) (why : StopWhy) :
    clockOf (enterOpening c o why).tb = clockOf c.tb := by simp [enterOpening, clock_bookCoil]
@[simp] theorem clock_stopOutlet (c : Chip) (o : Fin 8) (flags : BitVec 16) :
    clockOf (stopOutlet c o flags).tb = clockOf c.tb := by
  unfold stopOutlet; dsimp only; (repeat' split) <;> simp
@[simp] theorem clock_enterClosing (c : Chip) (o : Fin 8) : clockOf (enterClosing c o).tb = clockOf c.tb := by
  simp [enterClosing, clock_bookCoil]
@[simp] theorem clock_startClosing (c : Chip) (o : Fin 8) : clockOf (startClosing c o).tb = clockOf c.tb := by
  unfold startClosing; dsimp only; (repeat' split) <;> simp
@[simp] theorem clock_tryClose (c : Chip) (o : Fin 8) : clockOf (tryClose c o).tb = clockOf c.tb := by simp [tryClose]
@[simp] theorem clock_updateIlim (c : Chip) (o : Nat) : clockOf (updateIlim c o).tb = clockOf c.tb := by
  unfold updateIlim; dsimp only; (repeat' split) <;> simp
@[simp] theorem clock_stopBound (c : Chip) (m : Nat) : clockOf (stopBound c m).tb = clockOf c.tb := by
  unfold stopBound; split <;> simp
@[simp] theorem clock_pointChanged (c : Chip) (m old cause lane : Nat) :
    clockOf (pointChanged c m old cause lane).tb = clockOf c.tb := by simp [pointChanged]
@[simp] theorem clock_assignLanes (c : Chip) (old : Nat → Nat) : clockOf (assignLanes c old).tb = clockOf c.tb := by
  simp [assignLanes]
@[simp] theorem clock_pointsAngleZero (c : Chip) : clockOf (pointsAngleZero c).tb = clockOf c.tb := by simp [pointsAngleZero]
@[simp] theorem clock_enterAuthorised (c : Chip) (o : Outlet) (ctx : Option Nat) :
    clockOf (enterAuthorised c o ctx).tb = clockOf c.tb := by simp [enterAuthorised]
@[simp] theorem clock_startFailed (c : Chip) (o : Outlet) : clockOf (startFailed c o).tb = clockOf c.tb := by simp [startFailed]
@[simp] theorem clock_tryStart (c : Chip) (o : Outlet) : clockOf (tryStart c o).tb = clockOf c.tb := by
  unfold tryStart; dsimp only
  split
  · rfl
  · split_ifs
    · rfl
    · simp
    · simp
    · split
      · simp
      · next hstart => simp [startSession_tb hstart]
@[simp] theorem clock_retryOutlets (c : Chip) : clockOf (retryOutlets c).tb = clockOf c.tb := by simp [retryOutlets]

end Sys2Proof.Machine
end

section
/-! PROOFS. Angle 0, bookings and the wall clock. -/

namespace Sys2Proof
open Machine

/-! ### The clocks run (R98, R113, R115) -/

theorem advanceTime_tb (c : Chip) (dur : Nat) : (advanceTime c dur).tb = (slewedBy c dur (slewPart c dur)).tb := by
  have heq : advanceTime c dur = if decide (c.tb.slewRem ≠ 0) && decide (c.tb.slewRem - slewPart c dur = 0) then
      raiseEvt (slewedBy c dur (slewPart c dur)) Reg.SUP_TB_EVT 4 else slewedBy c dur (slewPart c dur) := rfl
  rw [heq]
  split
  · exact raiseEvt_tb _ _ _
  · rfl

theorem runTo_tb (c : Chip) (n : Nat) : (runTo c n).tb =
    { (slewedBy c (n - c.tb.into) (slewPart c (n - c.tb.into))).tb with into := max c.tb.into n } := by
  have hinto : (advanceTime c (n - c.tb.into)).tb.into = c.tb.into := by rw [advanceTime_tb]; rfl
  rw [← advanceTime_tb]
  exact congrArg (fun i => { (advanceTime c (n - c.tb.into)).tb with into := max i n }) hinto

/-! ### A cycle ends (R98, R99, R105) -/

/-- What angle 0 makes of the timebase (R98, R99, R105), but for the frequency and the cycles held. -/
structure CycleEnded (t u : Timebase) : Prop where
  cycle : u.cycle = if t.known then t.cycle + 1 else t.cycle
  angle : u.angle = 0
  into : u.into = 0
  wall : u.wall = t.wall
  aon : u.aon = t.aon
  state : u.state = t.state
  sched : u.sched = t.sched
  retry : u.retry = t.retry

theorem CycleEnded.tracked {t u : Timebase} (h : CycleEnded t u) (limit freq : Nat) (err : Option Int) :
    CycleEnded t (tracked u limit freq err) := by
  cases err <;> exact ⟨h.cycle, h.angle, h.into, h.wall, h.aon, h.state, h.sched, h.retry⟩

/-- The timebase at angle 0, before its control law (R105). -/
def zeroed (c : Chip) : Timebase := { c.tb with
  cycle := if c.tb.known then c.tb.cycle + 1 else c.tb.cycle, angle := 0, frac := 0, into := 0, prim := refCycle c false, alt := refCycle c true }

theorem zeroed_ended (c : Chip) : CycleEnded c.tb (zeroed c) := ⟨rfl, rfl, rfl, rfl, rfl, rfl, rfl, rfl⟩

theorem tbCycle_ended (c : Chip) : CycleEnded c.tb (tbCycle c).tb := by
  unfold tbCycle
  dsimp only
  split
  · exact (zeroed_ended c).tracked _ _ _
  · exact (zeroed_ended c).tracked _ _ _
  all_goals exact ⟨rfl, rfl, rfl, rfl, rfl, rfl, rfl, rfl⟩

theorem tbCycle_step (c : Chip) : (tbCycle c).tb.step = c.tb.step := by
  unfold tbCycle
  dsimp only
  split
  case h_1 | h_2 =>
    unfold tracked
    split <;> rfl
  all_goals rfl

theorem tbCycle_synth {c : Chip} (h : c.tb.state = .synth) : (tbCycle c).tb.freq = towards50 c.tb.freq := by
  unfold tbCycle
  dsimp only
  rw [h]

theorem tbCycle_holdover {c : Chip} (h : c.tb.state = .holdover) : (tbCycle c).tb.held = c.tb.held + 1 := by
  unfold tbCycle
  dsimp only
  rw [h]

/-! ### Angle 0 -/

/-- The chip once a cycle has run out: what it still held has fired, the clocks stand at its end, the count has risen and
what was refused is booked again. -/
def cycleOver (c : Chip) (dur : Nat) : Chip := rebook (tbCycle (zerosAngleZero (runTo c dur)))

/-- The classes of an angle 0 of which no brown-out takes the place, in their order (R111). -/
def classesActed (dur : Nat) (e : Chip) : Chip :=
  retryOutlets (calCycle (laneCycles (openEnabled (pointsAngleZero (applyModeReq (updAngleZero (fireAt
    (swapAngleZero (billAngleZero dur (fireAt e 0 [1, 2]) false) false) 0 [6, 7, 8])))))))

theorem exec_angleZero {s : State} (per : Nat) (h : dieRuns s.chip = true) : exec (.angleZero per false) s = .next { s with
    chip := classesActed (cycleLength s.chip per) (cycleOver (fireThrough 65536 s.chip 65535) (cycleLength s.chip per)) } := by
  change execAngleZero per false s = _
  simp only [execAngleZero, onChip, h, if_true, classesActed, cycleOver, Bool.false_eq_true, if_false]

theorem cycleOver_kept (c : Chip) (dur : Nat) : ChipKeptBut [.tb, .outl, .regs, .host, .out] c (cycleOver c dur) := by
  simp +decide only [cycleOver, kept_rebook, kept_tbCycle, kept_zerosAngleZero, kept_runTo, kept_refl]

theorem zeros_runTo_tb (c : Chip) (dur : Nat) : (zerosAngleZero (runTo c dur)).tb = (runTo c dur).tb := zerosAngleZero_tb _

/-- What a chip's timebase keeps while only bookings change. -/
theorem clock_fields {t u : Timebase} (h : clockOf t = clockOf u) : t.cycle = u.cycle ∧ t.angle = u.angle ∧ t.into = u.into ∧
    t.wall = u.wall ∧ t.aon = u.aon ∧ t.state = u.state ∧ t.freq = u.freq ∧ t.held = u.held := by
  rw [clockOf, clockOf, Timebase.mk.injEq] at h
  simp only [h, and_self]

/-- The clock of an angle 0 (R98, R99). -/
theorem cycleOver_clock (c : Chip) (dur : Nat) :
    (cycleOver c dur).tb.cycle = (if c.tb.known then c.tb.cycle + 1 else c.tb.cycle) ∧ (cycleOver c dur).tb.angle = 0 ∧
      (cycleOver c dur).tb.into = 0 ∧ (cycleOver c dur).tb.aon = c.tb.aon + (dur - c.tb.into) := by
  have hend := tbCycle_ended (zerosAngleZero (runTo c dur))
  have hclock : clockOf (cycleOver c dur).tb = clockOf (tbCycle (zerosAngleZero (runTo c dur))).tb := clock_rebook _
  obtain ⟨hcycle, hangle, hinto, -, haon, -⟩ := clock_fields hclock
  rw [hcycle, hangle, hinto, haon, hend.cycle, hend.angle, hend.into, hend.aon, zeros_runTo_tb, runTo_tb]
  exact ⟨rfl, rfl, rfl, rfl⟩

/-! ### Angle 0 with nothing booked or due -/

theorem fireAt_nothing {c : Chip} (angle : Nat) (classes : List Nat) (h : c.tb.sched = []) : fireAt c angle classes = c := by
  have hdue : dueBookings c angle classes = [] := by
    rw [dueBookings, h]
    simp
  rw [fireAt, hdue, h]
  simp only [List.filterMap_nil, List.foldl_nil]
  rw [← h]

theorem metRuns_congr {c d : Chip} (hs : d.sup = c.sup) (ha : d.acc = c.acc) : metRuns d = metRuns c := by
  simp only [metRuns, regionReady, fenced, ready, hs, ha]

theorem billAngleZero_nothing {c : Chip} (dur : Nat) (hm : metRuns c = false) (hs : c.tb.step = none) :
    billAngleZero dur c false = c := by
  simp [billAngleZero, hm, takeStep, hs]

theorem swapAngleZero_nothing {c : Chip} (hg : cgActive c = false) (hm : c.sup.mode ≠ .holdUp) : swapAngleZero c false = c := by
  simp [swapAngleZero, swapDue, hg, hm]

theorem updAngleZero_nothing {c : Chip} (h : c.upd.manifest = none) : updAngleZero c = c := by simp [updAngleZero, h]

theorem applyModeReq_nothing {c : Chip} (h : c.sup.modeReq = none) : applyModeReq c = c := by simp [applyModeReq, h]

/-- The metering points once those switched off and on have been taken. -/
def pointsTaken (c : Chip) : Chip := { c with sup := { c.sup with
  pointsOff := [], pointsOn := c.sup.pointsOn.filter (fun m => c.sup.pointsOff.contains m),
  draining := c.sup.pointsOff.foldl (fun v m => setBitV v (8 + m) false) c.sup.draining } }

theorem pointsAngleZero_mode (c : Chip) : (pointsAngleZero c).sup.mode = c.sup.mode := by
  have hkept : ChipKeptBut [.regs, .tb, .met, .acc, .sess, .leg, .outl, .saf, .pwd, .host, .out, .freeCount] (pointsTaken c) (pointsAngleZero c) := by
    simp +decide only [pointsAngleZero, pointsTaken, kept_foldl, kept_pointStateEntry, kept_assignLanes, implies_true, kept_refl]
  rw [hkept .sup (by decide)]
  rfl

theorem afterPoints_clock (e : Chip) :
    clockOf (retryOutlets (calCycle (laneCycles (openEnabled (pointsAngleZero e))))).tb = clockOf e.tb ∧
      (retryOutlets (calCycle (laneCycles (openEnabled (pointsAngleZero e))))).sup.mode = e.sup.mode := by
  constructor
  · rw [clock_retryOutlets, calCycle_tb, laneCycles_tb, openEnabled_tb, clock_pointsAngleZero]
  · have hkept : ChipKeptBut [.regs, .tb, .acc, .sess, .outl, .saf, .pwd, .host, .fab, .repl, .out, .freeCount, .met, .tar] (pointsAngleZero e)
        (retryOutlets (calCycle (laneCycles (openEnabled (pointsAngleZero e))))) := by
      simp +decide only [kept_retryOutlets, kept_calCycle, kept_laneCycles, kept_openEnabled, kept_refl]
    rw [hkept .sup (by decide), pointsAngleZero_mode]

/-! ### Bookings and the firing of a MARKER (R109, R111) -/

theorem exec_schedBook {s : State} (b : Booking) : exec (.schedBook b) s = .next { s with
    chip := emit (book s.chip b).1 (.booking b ((book s.chip b).2 == .ok)) } := rfl

/-- The chip with a refused booking counted and kept for the next cycle. -/
def bookingKept (c : Chip) (b : Booking) : Chip := { c with
  tb := { c.tb with schedRefused := sat 255 (c.tb.schedRefused + 1), retry := c.tb.retry ++ [b] } }

theorem book_full_eq {c : Chip} {b : Booking} (h : cannotBook c b = false) (hfull : 256 ≤ c.tb.sched.length)
    (hcls : b.kind.cls ≠ 8) : book c b = (raiseEvt (bookingKept c b) Reg.SUP_TB_EVT 7, .full) := by
  simp [book, h, hfull, hcls, bookingKept]

theorem sat_eq_min (m n : Nat) : sat m n = min m n := by
  unfold sat
  split <;> omega

/-- The chip at an angle of the running cycle, as a booking fires. -/
def atInstant (c : Chip) (angle : Nat) : Chip := { c with tb := { c.tb with angle := angle, frac := 0 } }

/-- The chip whose table of bookings is empty. -/
def tableEmpty (c : Chip) : Chip := { c with tb := { c.tb with sched := [] } }

theorem fireAt_marker {c : Chip} {b : Booking} {req : Requester} (hs : c.tb.sched = [b]) (hcyc : b.cycle = c.tb.cycle)
    (hkind : b.kind = .marker req) (hper : b.period = 0) : fireAt (atInstant c b.angle) b.angle [1, 2, 6, 7, 8] =
      complete (tableEmpty (atInstant c b.angle)) req
        { ansOk with result := leBytes 6 b.cycle ++ leBytes 2 b.angle ++ leBytes 8 (wall16 c) } := by
  have hcls : b.kind.cls = 8 := by rw [hkind]; rfl
  have hdue : dueBookings (atInstant c b.angle) b.angle [1, 2, 6, 7, 8] = [b] := by
    have hsched : (atInstant c b.angle).tb.sched = [b] := hs
    have hat : (atInstant c b.angle).tb.cycle = b.cycle := hcyc.symm
    simp [dueBookings, hsched, hat, hcls, List.flatMap_cons, List.filter_cons]
  have hafter : afterFire b = none := by simp [afterFire, hper]
  rw [fireAt, hdue, show (atInstant c b.angle).tb.sched = [b] from hs]
  simp only [List.filterMap_cons, List.filterMap_nil, List.contains_cons, beq_self_eq_true, Bool.true_or, if_true, hafter,
    List.foldl_cons, List.foldl_nil, fireBooking, hkind]
  rfl

theorem fireThrough_one {c : Chip} {angle a : Nat} (fuel : Nat) (h : (anglesAhead c).filter (fun x => decide (x ≤ angle)) = [a]) :
    fireThrough (fuel + 1) c angle = fireThrough fuel (fireAt (atInstant c a) a [1, 2, 6, 7, 8]) angle := by
  rw [fireThrough, h]
  rfl

theorem anglesAhead_one {c : Chip} {b : Booking} (hs : c.tb.sched = [b]) (hcyc : b.cycle = c.tb.cycle) (hahead : c.tb.angle < b.angle) :
    anglesAhead c = [b.angle] := by
  simp [anglesAhead, hs, hcyc, hahead]

theorem complete_tb (c : Chip) (req : Requester) (a : Answer) : (complete c req a).tb = c.tb :=
  (kept_complete req a (by decide)).2 (.refl [.host, .out] c) .tb (by decide)

/-- The one booking ahead is a MARKER: it fires at its angle, and the instant is reached. -/
theorem reachInstant_marker {c : Chip} {b : Booking} {req : Requester} {n : Nat} (ha : b.angle < 65536) (hahead : c.tb.angle < b.angle)
    (hs : c.tb.sched = [b]) (hcyc : b.cycle = c.tb.cycle) (hkind : b.kind = .marker req) (hper : b.period = 0) :
    ∃ d, reachInstant c b.angle 0 n = d ∧ d.tb.sched = [] ∧ d.tb.angle = b.angle ∧
      ChipKeptBut [.tb] (complete (tableEmpty (atInstant (runTo c n) b.angle)) req
        { ansOk with result := leBytes 6 b.cycle ++ leBytes 2 b.angle ++ leBytes 8 (wall16 (runTo c n)) }) d := by
  have htb : (runTo c n).tb.sched = c.tb.sched ∧ (runTo c n).tb.cycle = c.tb.cycle ∧ (runTo c n).tb.angle = c.tb.angle := by
    rw [runTo_tb]
    exact ⟨rfl, rfl, rfl⟩
  obtain ⟨hsr, hcr, har⟩ := htb
  have hmin : min b.angle 65535 = b.angle := by omega
  rw [reachInstant]
  generalize runTo c n = e at hsr hcr har
  have hone : (anglesAhead e).filter (fun x => decide (x ≤ b.angle)) = [b.angle] := by
    rw [anglesAhead_one (hsr.trans hs) (hcyc.trans hcr.symm) (har ▸ hahead)]
    simp
  have hfirst := fireThrough_one 65535 hone
  rw [fireAt_marker (hsr.trans hs) (hcyc.trans hcr.symm) hkind hper] at hfirst
  generalize hd : complete (tableEmpty (atInstant e b.angle)) req
    { ansOk with result := leBytes 6 b.cycle ++ leBytes 2 b.angle ++ leBytes 8 (wall16 e) } = d at hfirst
  have hdtb : d.tb = (tableEmpty (atInstant e b.angle)).tb := by rw [← hd]; exact complete_tb _ _ _
  have hempty : d.tb.sched = [] := by rw [hdtb]; rfl
  have hangle : d.tb.angle = b.angle := by rw [hdtb]; rfl
  have hnone : anglesAhead d = [] := anglesAhead_nil hempty
  rw [fireThrough_nothing 65534 hnone] at hfirst
  have hnot : ¬ b.angle < e.tb.angle := by omega
  dsimp only
  rw [if_neg hnot, hmin, hfirst]
  refine ⟨_, rfl, hempty, ?_, (kept_set_tb (by decide)).2 ((kept_set_tb (by decide)).2 (.refl _ _))⟩
  dsimp only
  rw [hangle]
  exact Nat.max_self _

theorem exec_schedFire {s : State} (a n : Nat) (h : dieRuns s.chip = true) : exec (.schedFire a n) s = .next { s with
    chip := reachInstant s.chip a 0 n } := by
  change execSchedFire a n s = _
  rw [execSchedFire, onChip, if_pos h]

/-! ### Offsets of the wall clock (R113 to R116) -/

theorem wallOffset_step {c : Chip} {t : TimeSrc} {offset : Int} (hsrc : srcEnabled c t = true)
    (hheard : offsetIgnored c t = false) (hvalid : c.tb.valid = true) (hlimit : stepLimit c * 2 ^ 32 < offset.natAbs)
    (hnet : t ≠ .network) (hm : c.sup.mode ≠ .holdUp) : wallOffset c t offset =
      { c with tb := { c.tb with step := some { offset := offset, src := t }, slewRem := 0 } } := by
  simp only [wallOffset, hsrc, hheard, hvalid, if_neg (Nat.not_le.2 hlimit), hnet, stepPending, hm, Bool.not_true,
    Bool.false_eq_true, if_false, false_and]

theorem wallOffset_refused {c : Chip} {offset : Int} (hsrc : srcEnabled c .network = true)
    (hheard : offsetIgnored c .network = false) (hvalid : c.tb.valid = true) (hlimit : stepLimit c * 2 ^ 32 < offset.natAbs)
    (hnet : cfgBit c Reg.SUP_WALL_CFG 20 = false) : wallOffset c .network offset =
      blotEvent (raiseEvt c Reg.SUP_TB_EVT 5) 0x0004 4 (satWord (offset / 2 ^ 32)) := by
  simp only [wallOffset, hsrc, hheard, hvalid, if_neg (Nat.not_le.2 hlimit), hnet, Bool.not_true, Bool.false_eq_true,
    if_false, and_self, if_true]

/-- R472: an event of the recorder leaves what another register shows. -/
theorem immBit_blotEvent (c : Chip) (code sev data : Nat) {a b : Nat} (ha : a ≠ Reg.BLT_EVT) :
    immBit (blotEvent c code sev data) a b = immBit c a b := by
  unfold blotEvent blot
  split
  · rw [immBit, regGet_raiseEvt_ne _ _ ha]
    rfl
  · rfl

theorem runTo_slewed {c : Chip} {n : Nat} (hrem : c.tb.slewRem ≠ 0)
    (hends : c.tb.slewRem.natAbs ≤ (n - c.tb.into) * slewPpm c / 1000000) :
    slewPart c (n - c.tb.into) = c.tb.slewRem ∧ immBit (runTo c n) Reg.SUP_TB_EVT 4 = true := by
  have hpart : slewPart c (n - c.tb.into) = c.tb.slewRem := by
    rw [slewPart, Nat.min_eq_right hends]
    split <;> omega
  refine ⟨hpart, ?_⟩
  have heq : advanceTime c (n - c.tb.into) = if decide (c.tb.slewRem ≠ 0) && decide (c.tb.slewRem - slewPart c (n - c.tb.into) = 0) then
      raiseEvt (slewedBy c (n - c.tb.into) (slewPart c (n - c.tb.into))) Reg.SUP_TB_EVT 4
      else slewedBy c (n - c.tb.into) (slewPart c (n - c.tb.into)) := rfl
  have hcond : (decide (c.tb.slewRem ≠ 0) && decide (c.tb.slewRem - slewPart c (n - c.tb.into) = 0)) = true := by
    rw [hpart]
    simp [hrem]
  rw [hcond, if_pos rfl] at heq
  rw [runTo, heq]
  exact immBit_raiseEvt _ _ _ (by decide)

/-- A chip that differs in the angle of its clock only. -/
def SameButAngle (c d : Chip) : Prop := ChipKeptBut [.tb] c d ∧ ∃ angle, d.tb = { c.tb with angle := angle }

theorem rebook_nothing {c : Chip} (h : c.tb.retry = []) : rebook c = c := by
  rw [rebook, h]
  simp only [List.foldl_nil]
  rw [← h]

/-- The timebase once a time has passed with nothing slewed. -/
def timePassed (t : Timebase) (dur : Nat) : Timebase := { t with wall := t.wall + dur, aon := t.aon + dur }

/-- R98, R99: angle 0 with nothing slewed and nothing to book again. -/
theorem cycleOver_steady {c : Chip} (dur : Nat) (hslew : c.tb.slewRem = 0) (hretry : c.tb.retry = []) :
    CycleEnded (timePassed c.tb (dur - c.tb.into)) (cycleOver c dur).tb ∧
      (c.tb.state = .synth → (cycleOver c dur).tb.freq = towards50 c.tb.freq) ∧
      (c.tb.state = .holdover → (cycleOver c dur).tb.held = c.tb.held + 1) ∧ (cycleOver c dur).tb.step = c.tb.step := by
  have hend := tbCycle_ended (zerosAngleZero (runTo c dur))
  have hrun : (zerosAngleZero (runTo c dur)).tb = (clocksRun c (dur - c.tb.into) (max c.tb.into dur)).tb := by
    rw [zeros_runTo_tb, runTo_steady hslew]
  have hover : cycleOver c dur = tbCycle (zerosAngleZero (runTo c dur)) := by
    refine rebook_nothing ?_
    rw [hend.retry, hrun]
    exact hretry
  have hstep := tbCycle_step (zerosAngleZero (runTo c dur))
  rw [hover]
  refine ⟨?_, fun h => ?_, fun h => ?_, ?_⟩
  · rw [hrun] at hend
    exact ⟨hend.cycle, hend.angle, hend.into, hend.wall, hend.aon, hend.state, hend.sched, hend.retry⟩
  · rw [tbCycle_synth (by rw [hrun]; exact h), hrun]
    rfl
  · rw [tbCycle_holdover (by rw [hrun]; exact h), hrun]
    rfl
  · rw [hstep, hrun]
    rfl

theorem classesActed_nothing {e : Chip} (dur : Nat) (hsched : e.tb.sched = []) (hmet : metRuns e = false) (hstep : e.tb.step = none)
    (hcg : cgActive e = false) (hmode : e.sup.mode ≠ .holdUp) (hupd : e.upd.manifest = none) (hreq : e.sup.modeReq = none) :
    classesActed dur e = retryOutlets (calCycle (laneCycles (openEnabled (pointsAngleZero e)))) := by
  rw [classesActed, fireAt_nothing _ _ hsched, billAngleZero_nothing _ hmet hstep, swapAngleZero_nothing hcg hmode,
    fireAt_nothing _ _ hsched, updAngleZero_nothing hupd, applyModeReq_nothing hreq]

/-- Settles O11. -/
theorem schedulerAndWallClockCommands : Obligations.SchedulerAndWallClockCommands := by
  unfold Obligations.SchedulerAndWallClockCommands
  refine ⟨?quiet, ?classes, ?room, ?full, ?refused, ?cancel, ?marker, ?slewed, ?stepped, ?network, ?ended⟩
  case quiet =>
    intro s per left hruns hknown hmet hsched hretry hstep hslew hreq hupd hcg hmode
    have hfire := fireThrough_nothing (c := s.chip) (angle := 65535) 65535 (anglesAhead_nil hsched)
    have hexec := exec_angleZero per hruns
    rw [hfire] at hexec
    refine answers_chip hexec ?_
    have hchip : SameButAngle s.chip { s.chip with tb := { s.chip.tb with angle := max s.chip.tb.angle 65535 } } :=
      ⟨(kept_set_tb (by decide)).2 (.refl _ _), _, rfl⟩
    generalize ({ s.chip with tb := { s.chip.tb with angle := max s.chip.tb.angle 65535 } } : Chip) = c at hchip
    obtain ⟨hkept, angle, htb⟩ := hchip
    obtain ⟨hend, hfreq, hheld, hequal⟩ := cycleOver_steady (c := c) (cycleLength s.chip per) (by rw [htb]; exact hslew)
      (by rw [htb]; exact hretry)
    have hover := cycleOver_kept c (cycleLength s.chip per)
    have hsup := (hover .sup (by decide)).trans (hkept .sup (by decide))
    have hnothing : classesActed (cycleLength s.chip per) (cycleOver c (cycleLength s.chip per)) =
        retryOutlets (calCycle (laneCycles (openEnabled (pointsAngleZero (cycleOver c (cycleLength s.chip per)))))) := by
      refine classesActed_nothing _ ?_ ?_ ?_ ?_ ?_ ?_ ?_
      · rw [hend.sched, htb]; exact hsched
      · rw [metRuns_congr hsup ((hover .acc (by decide)).trans (hkept .acc (by decide)))]; exact hmet
      · rw [hequal, htb]; exact hstep
      · rw [cgActive, (hover .cg (by decide)).trans (hkept .cg (by decide))]; exact hcg
      · rw [hsup]; exact hmode
      · rw [(hover .upd (by decide)).trans (hkept .upd (by decide))]; exact hupd
      · rw [hsup]; exact hreq
    obtain ⟨hclock, hm⟩ := afterPoints_clock (cycleOver c (cycleLength s.chip per))
    obtain ⟨f1, f2, f3, f4, f5, f6, f7, f8⟩ := clock_fields hclock
    rw [hnothing]
    generalize retryOutlets (calCycle (laneCycles (openEnabled (pointsAngleZero (cycleOver c (cycleLength s.chip per)))))) = d at hm f1 f2 f3 f4 f5 f6 f7 f8
    rw [htb] at hend hfreq hheld
    refine ⟨storesKept_chip s d, ?_, f2.trans hend.angle, f3.trans hend.into, f4.trans hend.wall, f5.trans hend.aon, f6.trans hend.state,
      fun h => f7.trans (hfreq h), fun h => f8.trans (hheld h), hm.trans (congrArg Sup.mode hsup)⟩
    exact (f1.trans hend.cycle).trans (if_pos hknown)
  case classes =>
    intro s per c hruns
    obtain ⟨hcycle, hangle, hinto, haon⟩ := cycleOver_clock c (cycleLength s.chip per)
    have hkept := cycleOver_kept c (cycleLength s.chip per)
    exact answers_chip (exec_angleZero per hruns) ⟨storesKept_chip s _, cycleOver c (cycleLength s.chip per), hcycle, hangle, hinto, haon, hkept,
      by dsimp only [classesActed, c]⟩
  case room =>
    intro s b hfree hroom
    refine answers_chip (exec_schedBook b) ?_
    rw [book_room hfree hroom]
    exact ⟨keptBut_chip.2 ((kept_emit _ (by decide)).2 ((kept_set_tb (by decide)).2 (.refl _ _))), rfl, Nat.le_max_left _ _, rfl, rfl⟩
  case full =>
    intro s b hfree hfull hcls
    refine answers_chip (exec_schedBook b) ?_
    rw [book_full_eq hfree hfull hcls]
    dsimp only
    have htb := raiseEvt_tb (bookingKept s.chip b) Reg.SUP_TB_EVT 7
    have hevt := immBit_raiseEvt (bookingKept s.chip b) Reg.SUP_TB_EVT 7 (by decide)
    have hkept : ChipKeptBut [.tb, .regs, .host, .out] s.chip (raiseEvt (bookingKept s.chip b) Reg.SUP_TB_EVT 7) :=
      (kept_raiseEvt _ _ (by decide)).2 ((kept_set_tb (by decide)).2 (.refl _ _))
    generalize raiseEvt (bookingKept s.chip b) Reg.SUP_TB_EVT 7 = d at htb hevt hkept
    refine ⟨keptBut_chip.2 ((kept_emit _ (by decide)).2 hkept), ?_, ?_, ?_, hevt⟩
    all_goals
      rw [emit_tb, htb]
      first | rfl | exact sat_eq_min _ _
  case refused =>
    intro s b hno
    refine answers_chip (exec_schedBook b) ?_
    rw [book_refused hno]
    exact ⟨keptBut_chip.2 ((kept_emit _ (by decide)).2 (.refl _ _)), rfl⟩
  case cancel =>
    intro s k
    exact answers_chip (d := unbook s.chip (fun x => x == k)) rfl
      ⟨keptBut_chip.2 ((kept_unbook _ (by decide)).2 (.refl _ _)), rfl, rfl⟩
  case marker =>
    intro s a n b req hruns ha hahead hs hcyc hangle hkind hper
    subst hangle
    obtain ⟨d, hd, hempty, hat, hkept⟩ := reachInstant_marker (n := n) ha hahead hs hcyc hkind hper
    refine answers_chip (exec_schedFire b.angle n hruns) ?_
    rw [hd]
    refine ⟨storesKept_chip s _, hempty, hat, tableEmpty (atInstant (runTo s.chip n) b.angle), ?_, rfl, rfl, hkept⟩
    exact (kept_set_tb (by decide)).2 ((kept_set_tb (by decide)).2 ((runTo_kept s.chip n).mono (by decide)))
  case slewed =>
    intro s src o hsrc hheard hvalid hlimit
    refine answers_chip (d := wallOffset s.chip src o) rfl ?_
    rw [wallOffset_slewed hsrc hheard hvalid hlimit]
    exact ⟨keptBut_chip.2 ((kept_set_tb (by decide)).2 (.refl _ _)), rfl, rfl, rfl, rfl⟩
  case stepped =>
    intro s src o hsrc hheard hvalid hlimit hnet hm
    refine answers_chip (d := wallOffset s.chip src o) rfl ?_
    rw [wallOffset_step hsrc hheard hvalid hlimit hnet hm]
    exact ⟨keptBut_chip.2 ((kept_set_tb (by decide)).2 (.refl _ _)), rfl, rfl, rfl⟩
  case network =>
    intro s o hsrc hheard hvalid hlimit hnet
    refine answers_chip (d := wallOffset s.chip .network o) rfl ?_
    rw [wallOffset_refused hsrc hheard hvalid hlimit hnet]
    refine ⟨keptBut_chip.2 ((kept_blotEvent _ _ _ (by decide)).2 ((kept_raiseEvt _ _ (by decide)).2 (.refl _ _))), ?_⟩
    exact (immBit_blotEvent _ _ _ _ (by decide)).trans (immBit_raiseEvt _ _ _ (by decide))
  case ended =>
    intro s n hrem hends
    obtain ⟨hpart, hevt⟩ := runTo_slewed hrem hends
    have htb := runTo_tb s.chip n
    have hkept := (runTo_kept s.chip n).mono (show _ ⊆ [Part.tb, .regs, .host, .out] by decide)
    rw [hpart] at htb
    refine answers_chip (d := runTo s.chip n) rfl ?_
    generalize runTo s.chip n = d at htb hevt hkept
    refine ⟨keptBut_chip.2 hkept, ?_, ?_, ?_, ?_, hevt⟩
    all_goals
      dsimp only
      rw [htb]
    · exact Int.sub_self _
    · rfl
    · exact Nat.le_max_right _ _
    · exact Nat.le_max_left _ _

end Sys2Proof
end

section
/-! PROOFS. Modulator lanes: training, running, loss, retraining and ranging. -/

namespace Sys2Proof
open Machine

/-! ### One lane at a time -/

@[simp] theorem laneOf_setLane_same (c : Chip) (n : Nat) (l : LaneSt) : laneOf (setLane c n l) n = l := tget_tput_self _ _ _ _

theorem laneOf_setLane_ne (c : Chip) {n k : Nat} (l : LaneSt) (h : k ≠ n) : laneOf (setLane c n l) k = laneOf c k :=
  tget_tput_ne _ _ _ h

theorem laneOf_of_met {c d : Chip} (h : d.met = c.met) (n : Nat) : laneOf d n = laneOf c n := by rw [laneOf, laneOf, h]

theorem laneOf_calSwitched (c : Chip) (n k : Nat) : laneOf (calSwitched c n) k = laneOf c k := by
  unfold calSwitched
  dsimp only
  split <;> rfl

/-! ### What follows a change of a lane (R131, R137) -/

theorem withLane_eq (c : Chip) (n : Nat) (f : Chip → Chip) : withLane c n f = pointFollows c (f c) n := by
  unfold withLane pointFollows
  cases pointOfLane c n <;> rfl

theorem pointFollows_congr {c d : Chip} (e : Chip) {n : Nat} (ho : pointOfLane d n = pointOfLane c n)
    (hs : ∀ m, pointState d m = pointState c m) (hl : (laneOf d n).state = (laneOf c n).state) :
    pointFollows d e n = pointFollows c e n := by
  unfold pointFollows
  simp only [ho, hs, hl]

theorem pointFollows_emits (c e : Chip) (es : List Emit) (n : Nat) : pointFollows (emits c es) e n = pointFollows c e n :=
  pointFollows_congr e rfl (fun _ => rfl) rfl

/-- A lane without its ID words. -/
def idsLeft (l : LaneSt) : LaneSt := { l with id0 := 0, id1 := 0 }

theorem stateOfLanes_idsLeft (ess aux : List LaneSt) :
    stateOfLanes (ess.map idsLeft) (aux.map idsLeft) = stateOfLanes ess aux := by
  have hs : ∀ l, (idsLeft l).state = l.state := fun _ => rfl
  have hd : ∀ l, laneDown (idsLeft l) = laneDown l := fun _ => rfl
  have hm : ∀ l, laneMeters (idsLeft l) = laneMeters l := fun _ => rfl
  simp only [stateOfLanes, List.any_map, List.all_map, Function.comp_def, hs, hd, hm]

/-- R137: the ID words of a lane are nothing to the state of its point. -/
theorem pointState_setIds (c : Chip) (n a b m : Nat) :
    pointState (setLane c n { laneOf c n with id0 := a, id1 := b }) m = pointState c m := by
  have hlane : ∀ k, idsLeft (laneOf (setLane c n { laneOf c n with id0 := a, id1 := b }) k) = idsLeft (laneOf c k) := fun k => by
    by_cases h : k = n
    · rw [h, laneOf_setLane_same]
      rfl
    · rw [laneOf_setLane_ne _ _ h]
  have hen : pointEnabled (setLane c n { laneOf c n with id0 := a, id1 := b }) m = pointEnabled c m := rfl
  have hty : mpType (setLane c n { laneOf c n with id0 := a, id1 := b }) m = mpType c m := rfl
  have hba : mpBase (setLane c n { laneOf c n with id0 := a, id1 := b }) m = mpBase c m := rfl
  generalize setLane c n { laneOf c n with id0 := a, id1 := b } = d at hlane hen hty hba
  unfold pointState
  rw [hen, hty, hba]
  dsimp only
  rw [← stateOfLanes_idsLeft, ← stateOfLanes_idsLeft (List.take _ _) (List.drop _ (List.map (fun j => laneOf c _) _))]
  simp only [List.map_take, List.map_drop, List.map_map, Function.comp_def, hlane]

/-! ### The lane's own part of each step -/

/-- A lane set and an event of its register raised: the lane is as it was set. -/
theorem raised_setLane (c : Chip) (n : Nat) (l : LaneSt) {a b : Nat} (hb : b < 32) :
    ChipKeptBut [.met, .regs, .host, .out] c (raiseEvt (setLane c n l) a b) ∧ laneOf (raiseEvt (setLane c n l) a b) n = l ∧
      immBit (raiseEvt (setLane c n l) a b) a b = true := by
  refine ⟨(kept_raiseEvt _ _ (by decide)).2 ((kept_setLane _ _ (by decide)).2 (.refl _ _)), ?_, immBit_raiseEvt _ _ _ hb⟩
  rw [laneOf_of_met (raiseEvt_met _ _ _), laneOf_setLane_same]

theorem setLane_kept (c : Chip) (n : Nat) (l : LaneSt) : ChipKeptBut [.met] c (setLane c n l) :=
  (kept_setLane _ _ (by decide)).2 (.refl _ c)

/-- A lane that failed, and its event. -/
def laneFailed (c : Chip) (n cause : Nat) : Chip :=
  raiseEvt (setLane c n { laneOf c n with state := .failed, cause := cause, leftTrain := true, range16 := false }) (Reg.MET_LANE_EVT n) 2

theorem failLane_eq (c : Chip) (n cause : Nat) : failLane c n cause = reportSrc (pointFollows c (laneFailed c n cause) n) n cause := by
  rw [failLane, withLane_eq]
  rfl

/-- A lane that retrains, and its event. -/
def laneRetrains (c : Chip) (n : Nat) : Chip :=
  raiseEvt (setLane c n { laneOf c n with
    state := .retrain, range16 := false, quiet := 0, retrain := 0,
    chain := { missPeriods (laneOf c n).chain 1 with rx16 := false, swap := none, valid := 0, phase := (laneOf c n).chain.phase } })
    (Reg.MET_LANE_EVT n) 0

theorem retrainLane_eq (c : Chip) (n : Nat) : retrainLane c n =
    reportSrc (pointFollows c (laneRetrains c n) n) n (laneOf (pointFollows c (laneRetrains c n) n) n).cause := by
  rw [retrainLane, withLane_eq]
  rfl

theorem laneRetrains_lane (c : Chip) (n : Nat) : ChipKeptBut [.met, .regs, .host, .out] c (laneRetrains c n) ∧
    (laneOf (laneRetrains c n) n).state = .retrain ∧ (laneOf (laneRetrains c n) n).range16 = false ∧
    immBit (laneRetrains c n) (Reg.MET_LANE_EVT n) 0 = true := by
  obtain ⟨hkept, hlane, hevt⟩ := raised_setLane c n { laneOf c n with
    state := .retrain, range16 := false, quiet := 0, retrain := 0,
    chain := { missPeriods (laneOf c n).chain 1 with rx16 := false, swap := none, valid := 0, phase := (laneOf c n).chain.phase } }
    (a := Reg.MET_LANE_EVT n) (b := 0) (by decide)
  exact ⟨hkept, congrArg LaneSt.state hlane, congrArg LaneSt.range16 hlane, hevt⟩

theorem laneFailed_lane (c : Chip) (n cause : Nat) : ChipKeptBut [.met, .regs, .host, .out] c (laneFailed c n cause) ∧
    (laneOf (laneFailed c n cause) n).state = .failed ∧ (laneOf (laneFailed c n cause) n).cause = cause ∧
    (laneOf (laneFailed c n cause) n).id0 = (laneOf c n).id0 ∧ immBit (laneFailed c n cause) (Reg.MET_LANE_EVT n) 2 = true := by
  obtain ⟨hkept, hlane, hevt⟩ := raised_setLane c n { laneOf c n with state := .failed, cause := cause, leftTrain := true, range16 := false }
    (a := Reg.MET_LANE_EVT n) (b := 2) (by decide)
  exact ⟨hkept, congrArg LaneSt.state hlane, congrArg LaneSt.cause hlane, (congrArg LaneSt.id0 hlane :), hevt⟩

/-- A lane in RUN from training, in ×1. -/
def laneRuns (c : Chip) (n id0 id1 eye step : Nat) (slicer : List Int) : Chip := setLane c n { laneOf c n with
  state := .run, cause := 0, eye := eye, id0 := id0, id1 := id1, leftTrain := true, range16 := false, quiet := 0,
  step := step, slicer := slicer, chain := Chain.init }

theorem runLane_eq (c : Chip) (n id0 id1 eye step : Nat) (slicer : List Int) : runLane c n id0 id1 eye step slicer =
    (let y := emits (pointFollows c (laneRuns c n id0 id1 eye step slicer) n) [.laneFrame n (frameGain false), .laneFrame n frameRun]
     checkSerial (clearSrc (if forced16 y n then sendGain y n true else y) n) n id1) := by
  rw [runLane, withLane_eq]
  rfl

/-! ### What the periods of a lane bring (R127, R128) -/

/-- The lane after the periods it takes. -/
def laneAfter (c : Chip) (n : Nat) (ps : List Period) (miss : Nat) : LaneSt :=
  takePeriods c (1200 + n) (streamCfg c n) (laneOf c n) ps miss

theorem feedLane_steady {c : Chip} {n : Nat} {ps : List Period} {miss : Nat}
    (h : (laneOf c n).range16 = false ∨ (laneAfter c n ps miss).range16 = true) :
    feedLane c n ps miss = setLane c n (laneAfter c n ps miss) := by
  have hc : ((laneOf c n).range16 && !(laneAfter c n ps miss).range16) = false := by rcases h with h | h <;> simp [h]
  have heq : feedLane c n ps miss = if (laneOf c n).range16 && !(laneAfter c n ps miss).range16 then
      emit (raiseEvt (calSwitched (setLane c n (laneAfter c n ps miss)) n) (Reg.MET_LANE_EVT n) 5) (.laneFrame n (frameGain false))
      else setLane c n (laneAfter c n ps miss) := rfl
  rw [heq, hc, if_neg Bool.false_ne_true]

theorem feedLane_down {c : Chip} {n : Nat} {ps : List Period} {miss : Nat} (h : (laneOf c n).range16 = true)
    (h' : (laneAfter c n ps miss).range16 = false) : feedLane c n ps miss =
      emit (raiseEvt (calSwitched (setLane c n (laneAfter c n ps miss)) n) (Reg.MET_LANE_EVT n) 5) (.laneFrame n (frameGain false)) := by
  have heq : feedLane c n ps miss = if (laneOf c n).range16 && !(laneAfter c n ps miss).range16 then
      emit (raiseEvt (calSwitched (setLane c n (laneAfter c n ps miss)) n) (Reg.MET_LANE_EVT n) 5) (.laneFrame n (frameGain false))
      else setLane c n (laneAfter c n ps miss) := rfl
  rw [heq, h, h', Bool.not_false, Bool.and_self, if_pos rfl]

/-- Periods that bring nothing change neither the state nor the range of the lane. -/
theorem feedLane_missed (c : Chip) (n miss : Nat) : (laneOf (feedLane c n [] miss) n).state = (laneOf c n).state := by
  have hr : (laneAfter c n [] miss).range16 = (laneOf c n).range16 := rfl
  rw [feedLane_steady (by cases h : (laneOf c n).range16 <;> simp [hr, h]), laneOf_setLane_same]
  rfl

theorem signalLoss_retrains {c : Chip} {n : Nat} (hst : (laneOf c n).state = .run) (hm : c.sup.mode ≠ .holdUp) :
    signalLoss c n = retrainLane c n := by
  simp [signalLoss, hst, hm]

/-- A lane stopped in Hold-up. -/
def laneStops (c : Chip) (n : Nat) : Chip := setLane c n { laneOf c n with state := .stopped }

theorem signalLoss_stops {c : Chip} {n : Nat} (hst : laneMeters (laneOf c n) = true) (hm : c.sup.mode = .holdUp) :
    signalLoss c n = pointFollows c (laneStops c n) n := by
  have h : (laneOf c n).state = .run ∨ (laneOf c n).state = .retrain := by simpa [laneMeters] using hst
  simp [signalLoss, h, hm, withLane_eq, laneStops]

theorem laneMeters_congr {l k : LaneSt} (h : l.state = k.state) : laneMeters l = laneMeters k := by rw [laneMeters, laneMeters, h]

/-! ### The commands -/

theorem exec_laneTrained {s : State} {n : Lane} {scan : LaneScan} {step : Nat} (hst : (laneOf s.chip n.val).state = .train)
    (heye : eyeCentre scan.openings = some step) (hp : isTraining scan.pattern = true) :
    exec (.laneTrained n scan) s = .next { s with
      chip := trainedLane s.chip n.val step scan } := by
  change execLaneTrained n scan s = _
  simp [execLaneTrained, onChip, hst, heye, hp]

/-- The chip once both ID words have been asked for. -/
def idsAsked (c : Chip) (n : Nat) : Chip := emits c [.laneFrame n (frameReadId 0), .laneFrame n (frameReadId 1)]

theorem trainedLane_fits {c : Chip} {n step a b : Nat} {scan : LaneScan} (h0 : idWord scan.word0 = some a)
    (h1 : idWord scan.word1 = some b) (hfits : typeFits c n a = true) : trainedLane c n step scan =
      runLane (idsAsked c n) n a b (scan.openings.getD step 0) step scan.thresholds := by
  have h : typeFits (idsAsked c n) n a = true := hfits
  rw [idsAsked] at h
  simp only [trainedLane, h0, h1, h, if_true, idsAsked]

theorem trainedLane_unfit {c : Chip} {n step a b : Nat} {scan : LaneScan} (h0 : idWord scan.word0 = some a)
    (h1 : idWord scan.word1 = some b) (hfits : typeFits c n a = false) : trainedLane c n step scan =
      failLane (setLane (idsAsked c n) n { laneOf (idsAsked c n) n with id0 := a, id1 := b }) n 2 := by
  have h : typeFits (idsAsked c n) n a = false := hfits
  rw [idsAsked] at h
  simp only [trainedLane, h0, h1, h, Bool.false_eq_true, if_false, idsAsked]

theorem exec_trainTimeout {s : State} {n : Lane} (hst : (laneOf s.chip n.val).state = .train) :
    exec (.trainTimeout n) s = .next { s with
      chip := failLane s.chip n.val 1 } := by
  change execTrainTimeout n s = _
  simp only [execTrainTimeout, hst, if_true]

theorem exec_cvLimitExceeded {s : State} {n : Lane} (hst : (laneOf s.chip n.val).state = .run)
    (hcv : 64 < (laneOf s.chip n.val).cvNow) : exec (.cvLimitExceeded n) s = .next { s with
      chip := retrainLane s.chip n.val } := by
  change execCvLimitExceeded n s = _
  simp only [execCvLimitExceeded, onChip, hst, hcv, and_self, if_true]

/-- The chip once the lane has missed periods. -/
def laneMissed (c : Chip) (n k : Nat) : Chip := feedLane c n [] (min k (periodsLeft (laneOf c n) - 1))

/-- The chip once the lane has taken periods. -/
def laneFed (c : Chip) (n : Nat) (ps : List Period) : Chip := feedLane c n (ps.take (periodsLeft (laneOf c n) - 1)) 0

theorem exec_laneSignalLoss_lost {s : State} {n : Lane} {k : Nat} (hm : laneMeters (laneOf s.chip n.val) = true)
    (h : 16 ≤ (laneOf (laneMissed s.chip n.val k) n.val).chain.invalid) : exec (.laneSignalLoss n k) s = .next { s with
      chip := signalLoss (laneMissed s.chip n.val k) n.val } := by
  change execLaneSignalLoss n k s = _
  rw [laneMissed] at h
  simp only [execLaneSignalLoss, onChip, hm, if_true, laneMissed, h]

theorem exec_laneSignalLoss_short {s : State} {n : Lane} {k : Nat} (hm : laneMeters (laneOf s.chip n.val) = true)
    (h : (laneOf (laneMissed s.chip n.val k) n.val).chain.invalid < 16) : exec (.laneSignalLoss n k) s = .next { s with
      chip := laneMissed s.chip n.val k } := by
  change execLaneSignalLoss n k s = _
  rw [laneMissed] at h
  simp only [execLaneSignalLoss, onChip, hm, if_true, laneMissed, Nat.not_le.2 h, if_false]

/-- A lane back in RUN, realigned and in ×1. -/
def laneBack (c : Chip) (n : Nat) (k : Int) : Chip := setLane c n { laneOf c n with
  state := .run, range16 := false, step := nudgeStep (laneOf c n).step k,
  chain := { (laneOf c n).chain with rx16 := false, swap := none } }

theorem retrained_eq (c : Chip) (n : Nat) (k : Int) : retrained c n k =
    (let y := emit (pointFollows c (laneBack c n k) n) (.laneFrame n (frameGain false))
     clearSrc (if forced16 y n then sendGain y n true else y) n) := by
  rw [retrained, withLane_eq]
  rfl

theorem exec_retrainDone {s : State} {n : Lane} {ps : List Period} (k : Int) (hst : (laneOf s.chip n.val).state = .retrain)
    (hv : 128 ≤ (laneOf (laneFed s.chip n.val ps) n.val).chain.valid) (hr : (laneOf (laneFed s.chip n.val ps) n.val).retrain ≤ 2000) :
    exec (.retrainDone n ps k) s = .next { s with
      chip := retrained (laneFed s.chip n.val ps) n.val k } := by
  change execRetrainDone n ps k s = _
  rw [laneFed] at hv hr
  simp only [execRetrainDone, onChip, hst, if_true, hv, hr, and_self, laneFed]

/-- A lane whose time in RETRAIN ran out, and its event. -/
def laneLost (c : Chip) (n : Nat) : Chip :=
  raiseEvt (setLane c n { laneOf c n with state := .failed, cause := 3 }) (Reg.MET_LANE_EVT n) 2

theorem exec_retrainTimeout {s : State} {n : Lane} (hst : (laneOf s.chip n.val).state = .retrain) :
    exec (.retrainTimeout n) s = .next { s with
      chip := pointFollows s.chip (laneLost s.chip n.val) n.val } := by
  change execRetrainTimeout n s = _
  simp only [execRetrainTimeout, onChip, hst, if_true, withLane_eq, laneLost]

theorem exec_laneFailedRetry {s : State} {n : Lane} (hst : (laneOf s.chip n.val).state = .failed) :
    exec (.laneFailedRetry n) s = .next { s with
      chip := pointFollows s.chip (trainLane s.chip n.val) n.val } := by
  change execLaneFailedRetry n s = _
  simp only [execLaneFailedRetry, onChip, hst, if_true, withLane_eq]

theorem exec_rangeDown {s : State} {n : Lane} (ps : List Period) (hst : (laneOf s.chip n.val).state = .run) :
    exec (.rangeDown n ps) s = .next { s with
      chip := laneFed s.chip n.val ps } := by
  change execRangeDown n ps s = _
  simp only [execRangeDown, onChip, hst, if_true, laneFed]

theorem exec_laneCvRead_open {s : State} {n : Lane} (h : windowClosed s.chip (Reg.MET_LANE_CV n.val) = false) :
    exec (.laneCvRead n) s = .next { s with
      chip := emit (setLane s.chip n.val { laneOf s.chip n.val with cv := 0 })
        (.readData (Reg.MET_LANE_CV n.val) (wordOf (laneOf s.chip n.val).cv)) } := by
  change execLaneCvRead n s = _
  simp only [execLaneCvRead, onChip, readActs, h, Bool.false_eq_true, if_false]

theorem exec_laneCvRead_closed {s : State} {n : Lane} (h : windowClosed s.chip (Reg.MET_LANE_CV n.val) = true) :
    exec (.laneCvRead n) s = .next { s with
      chip := emit s.chip (.readData (Reg.MET_LANE_CV n.val) 0#32) } := by
  change execLaneCvRead n s = _
  simp only [execLaneCvRead, onChip, readActs, h, if_true]

/-- Settles O13. -/
theorem laneCommands : Obligations.LaneCommands := by
  unfold Obligations.LaneCommands
  refine ⟨?runs, ?unfit, ?timeout, ?violations, ?loss, ?holdUp, ?short, ?back, ?lost, ?retry, ?down, ?steady, ?read, ?closed⟩
  case runs =>
    intro s n scan step a b hst heye hp h0 h1 hfits
    have hlane := laneOf_setLane_same (idsAsked s.chip n.val) n.val { laneOf s.chip n.val with
      state := .run, cause := 0, eye := scan.openings.getD step 0, id0 := a, id1 := b, leftTrain := true, range16 := false, quiet := 0,
      step := step, slicer := scan.thresholds, chain := Chain.init }
    refine answers_chip (exec_laneTrained hst heye hp) ?_
    rw [trainedLane_fits h0 h1 hfits, runLane_eq]
    refine ⟨storesKept_chip s _, laneRuns (idsAsked s.chip n.val) n.val a b (scan.openings.getD step 0) step scan.thresholds, ?_,
      congrArg LaneSt.state hlane, congrArg LaneSt.range16 hlane, congrArg LaneSt.id0 hlane, congrArg LaneSt.id1 hlane,
      congrArg LaneSt.step hlane, congrArg LaneSt.slicer hlane, rfl, ?_⟩
    · exact (kept_setLane _ _ (by decide)).2 ((kept_emits _ (by decide)).2 (.refl _ _))
    · dsimp only
      rw [idsAsked, pointFollows_emits]
  case unfit =>
    intro s n scan step a b hst heye hp h0 h1 hfits
    have hexec := exec_laneTrained hst heye hp
    rw [trainedLane_unfit h0 h1 hfits, failLane_eq] at hexec
    obtain ⟨hkept, hstate, hcause, hid, hevt⟩ := laneFailed_lane
      (setLane (idsAsked s.chip n.val) n.val { laneOf (idsAsked s.chip n.val) n.val with id0 := a, id1 := b }) n.val 2
    rw [laneOf_setLane_same] at hid
    refine reports_chip hexec ⟨_, .trans ?_ hkept, hstate, hcause, hid, hevt, ?_⟩
    · exact (kept_setLane _ _ (by decide)).2 ((kept_emits _ (by decide)).2 (.refl _ _))
    · refine pointFollows_congr _ rfl (fun m => ?_) (by rw [laneOf_setLane_same]; rfl)
      exact (pointState_setIds (idsAsked s.chip n.val) n.val a b m).trans rfl
  case timeout =>
    intro s n hst
    have hexec := exec_trainTimeout hst
    rw [failLane_eq] at hexec
    obtain ⟨hkept, hstate, hcause, -, hevt⟩ := laneFailed_lane s.chip n.val 1
    exact reports_chip hexec ⟨_, hkept, hstate, hcause, hevt, by with_reducible rfl⟩
  case violations =>
    intro s n hst hcv
    obtain ⟨hkept, hstate, hrange, hevt⟩ := laneRetrains_lane s.chip n.val
    refine answers_chip (exec_cvLimitExceeded hst hcv) ?_
    rw [retrainLane_eq]
    exact ⟨storesKept_chip s _, laneRetrains s.chip n.val, hkept, hstate, hrange, hevt, by with_reducible rfl⟩
  case loss =>
    intro s n k hst c hinv hm
    have hrun : (laneOf (laneMissed s.chip n.val k) n.val).state = .run := (feedLane_missed _ _ _).trans hst
    obtain ⟨hkept, hstate, hrange, hevt⟩ := laneRetrains_lane (laneMissed s.chip n.val k) n.val
    refine answers_chip (exec_laneSignalLoss_lost (by simp [laneMeters, hst]) hinv) ?_
    rw [signalLoss_retrains hrun hm, retrainLane_eq]
    exact ⟨storesKept_chip s _, laneRetrains (laneMissed s.chip n.val k) n.val, hkept, hstate, hrange, hevt, by dsimp only [laneMissed, c]⟩
  case holdUp =>
    intro s n k hmeters c hinv hm
    have hstill : laneMeters (laneOf (laneMissed s.chip n.val k) n.val) = true :=
      (laneMeters_congr (feedLane_missed _ _ _)).trans hmeters
    refine answers_chip (exec_laneSignalLoss_lost hmeters hinv) ?_
    rw [signalLoss_stops hstill hm]
    have hlane := laneOf_setLane_same (laneMissed s.chip n.val k) n.val { laneOf (laneMissed s.chip n.val k) n.val with state := .stopped }
    exact ⟨storesKept_chip s _, laneStops (laneMissed s.chip n.val k) n.val, setLane_kept _ _ _, congrArg LaneSt.state hlane,
      by dsimp only [laneMissed, laneStops, c]⟩
  case short =>
    intro s n k hmeters c hinv
    exact answers_chip (exec_laneSignalLoss_short hmeters hinv) ⟨storesKept_chip s _, by dsimp only [laneMissed, c]⟩
  case back =>
    intro s n ps k hst c hv hr
    have hlane := laneOf_setLane_same (laneFed s.chip n.val ps) n.val { laneOf (laneFed s.chip n.val ps) n.val with
      state := .run, range16 := false, step := nudgeStep (laneOf (laneFed s.chip n.val ps) n.val).step k,
      chain := { (laneOf (laneFed s.chip n.val ps) n.val).chain with rx16 := false, swap := none } }
    refine answers_chip (exec_retrainDone k hst hv hr) ?_
    rw [retrained_eq]
    exact ⟨storesKept_chip s _, laneBack (laneFed s.chip n.val ps) n.val k, setLane_kept _ _ _, congrArg LaneSt.state hlane,
      congrArg LaneSt.range16 hlane, congrArg LaneSt.step hlane, by dsimp only [laneFed, c]⟩
  case lost =>
    intro s n hst
    obtain ⟨hkept, hlane, hevt⟩ := raised_setLane s.chip n.val { laneOf s.chip n.val with state := .failed, cause := 3 }
      (a := Reg.MET_LANE_EVT n.val) (b := 2) (by decide)
    exact answers_chip (exec_retrainTimeout hst) ⟨storesKept_chip s _, laneLost s.chip n.val, hkept, congrArg LaneSt.state hlane,
      congrArg LaneSt.cause hlane, hevt, by with_reducible rfl⟩
  case retry =>
    intro s n hst
    have hlane := laneOf_setLane_same s.chip n.val { laneOf s.chip n.val with
      state := .train, range16 := false, cause := 0, quiet := 0, chain := Chain.init, delay := [], dc := 0, past := [],
      cur := [], last := [] }
    refine answers_chip (exec_laneFailedRetry hst) ⟨storesKept_chip s _, trainLane s.chip n.val, ?_, congrArg LaneSt.state hlane,
      congrArg LaneSt.cause hlane, congrArg LaneSt.range16 hlane, rfl, by with_reducible rfl⟩
    exact (kept_trainLane _ (by decide)).2 (.refl _ _)
  case down =>
    intro s n ps hst l h16 h1
    have hfed : laneFed s.chip n.val ps = _ := feedLane_down h16 h1
    refine answers_chip (exec_rangeDown ps hst) ?_
    rw [hfed]
    generalize hl : laneAfter s.chip n.val (ps.take (periodsLeft (laneOf s.chip n.val) - 1)) 0 = l'
    obtain ⟨hkept, hlane, hevt⟩ : ChipKeptBut [.met, .regs, .host, .out] s.chip
        (raiseEvt (calSwitched (setLane s.chip n.val l') n.val) (Reg.MET_LANE_EVT n.val) 5) ∧
        laneOf (raiseEvt (calSwitched (setLane s.chip n.val l') n.val) (Reg.MET_LANE_EVT n.val) 5) n.val = l' ∧
        immBit (raiseEvt (calSwitched (setLane s.chip n.val l') n.val) (Reg.MET_LANE_EVT n.val) 5) (Reg.MET_LANE_EVT n.val) 5 = true := by
      refine ⟨(kept_raiseEvt _ _ (by decide)).2 ((kept_calSwitched _ (by decide)).2 ((setLane_kept _ _ _).mono (by decide))), ?_,
        immBit_raiseEvt _ _ _ (by decide)⟩
      rw [laneOf_of_met (raiseEvt_met _ _ _), laneOf_calSwitched, laneOf_setLane_same]
    have hregs : RegsKeptBut [Reg.MET_LANE_EVT n.val] s.chip
        (raiseEvt (calSwitched (setLane s.chip n.val l') n.val) (Reg.MET_LANE_EVT n.val) 5) := by
      refine RegsKeptBut.trans ?_ (regsKept_raiseEvt _ _ List.mem_cons_self)
      exact ChipKeptBut.regsKept ((kept_calSwitched _ (by decide)).2 (setLane_kept s.chip n.val l'))
    generalize raiseEvt (calSwitched (setLane s.chip n.val l') n.val) (Reg.MET_LANE_EVT n.val) 5 = d at hkept hlane hevt hregs
    exact ⟨keptBut_chip.2 ((kept_emit _ (by decide)).2 hkept), hlane.trans hl.symm, hevt, hregs, rfl⟩
  case steady =>
    intro s n ps hst l h
    have hfed : laneFed s.chip n.val ps = setLane s.chip n.val l := feedLane_steady h
    refine answers_chip (exec_rangeDown ps hst) ?_
    rw [hfed]
    exact ⟨keptBut_chip.2 (setLane_kept _ _ _), laneOf_setLane_same _ _ _, fun k hk => laneOf_setLane_ne _ _ hk⟩
  case read =>
    intro s n hopen
    refine answers_chip (exec_laneCvRead_open hopen) ⟨keptBut_chip.2 ?_, rfl, ?_⟩
    · exact (kept_emit _ (by decide)).2 ((kept_setLane _ _ (by decide)).2 (.refl _ _))
    · exact laneOf_setLane_same _ _ _
  case closed =>
    intro s n hclosed
    exact answers_chip (exec_laneCvRead_closed hclosed) ⟨keptBut_chip.2 ((kept_emit _ (by decide)).2 (.refl _ _)), rfl⟩

end Sys2Proof
end

section
/-! PROOFS. Event bits, once set, stay set when others are raised (R357). -/

namespace Sys2Proof.Machine

/-- Setting a bit leaves the others. -/
theorem bitOf_withBit_true_ne (w : Word) {b k : Nat} (hb : b < 32) (h : k ≠ b) : bitOf (withBit w b true) k = bitOf w k := by
  have hp : 0 < 2 ^ b := Nat.two_pow_pos b
  have hdiv := Nat.div_add_mod w.toNat (2 ^ b)
  have hlow : w.toNat % 2 ^ b < 2 ^ b := Nat.mod_lt _ hp
  generalize hq : w.toNat / 2 ^ b = q at hdiv
  have hval : (withBit w b true).toNat = 2 ^ b * (q - q % 2 + 1) + w.toNat % 2 ^ b := by
    have hsub : 2 ^ b * (q - q % 2) + q % 2 * 2 ^ b = 2 ^ b * q := by
      rw [Nat.mul_comm (q % 2), ← Nat.mul_add, Nat.sub_add_cancel (Nat.mod_le _ _)]
    have hexact : w.toNat - q % 2 * 2 ^ b + 1 * 2 ^ b = 2 ^ b * (q - q % 2 + 1) + w.toNat % 2 ^ b := by
      rw [Nat.mul_add]
      omega
    have hsplit : (2 : Nat) ^ 32 = 2 ^ b * 2 ^ (32 - b) := by rw [← pow_add]; congr 1; omega
    have heven : 2 ^ (32 - b) % 2 = 0 := by
      rw [show 32 - b = (31 - b) + 1 by omega, pow_succ]
      omega
    have hqlt : q < 2 ^ (32 - b) := by
      rw [← hq]
      exact Nat.div_lt_of_lt_mul (by rw [← hsplit]; exact w.isLt)
    have hle : q - q % 2 + 1 + 1 ≤ 2 ^ (32 - b) := by omega
    have hbound : 2 ^ b * (q - q % 2 + 1) + w.toNat % 2 ^ b < 2 ^ 32 := by
      have := Nat.mul_le_mul_left (2 ^ b) hle
      rw [Nat.mul_add _ (q - q % 2 + 1) 1] at this
      omega
    simp only [withBit, withField, fieldOf, Nat.sub_self, Nat.zero_add, pow_one, Bool.toNat_true, Nat.one_mod,
      Nat.shiftRight_eq_div_pow, hq, hexact, BitVec.toNat_ofNat]
    exact Nat.mod_eq_of_lt hbound
  refine testBit_eq_of_mod_div ?_ ?_ h
  · rw [hval, Nat.mul_add_mod, Nat.mod_mod]
  · rw [hval, pow_succ, ← Nat.div_div_eq_div_mul, ← Nat.div_div_eq_div_mul, hq, Nat.mul_add_div hp,
      Nat.div_eq_of_lt hlow]
    omega

theorem bitOf_withBit_true_of (w : Word) {b k : Nat} (hb : b < 32) (h : bitOf w k = true) : bitOf (withBit w b true) k = true := by
  by_cases hk : k = b
  · rw [hk]
    exact bitOf_withBit_self w b hb
  · rw [bitOf_withBit_true_ne w hb hk, h]

/-- R357: raising an event clears none. -/
theorem immBit_raiseEvt_of (c : Chip) {a b x k : Nat} (hb : b < 32) (h : immBit c x k = true) : immBit (raiseEvt c a b) x k = true := by
  by_cases hx : x = a
  · subst hx
    rw [immBit, regGet, raiseEvt_regs]
    split
    · exact h
    · rw [rget_rput_self]
      exact bitOf_withBit_true_of _ hb h
  · rw [immBit, regGet_raiseEvt_ne _ _ hx]
    exact h

end Sys2Proof.Machine
end

section
/-! PROOFS. One instant of the metering points (R135, R137 to R139, R153 to R161). -/

namespace Sys2Proof
open Machine

/-- What an instant leaves: the configuration, the states of the lanes, and every event. -/
structure InstantKeeps (c d : Chip) : Prop where
  live : d.live = c.live
  sup : d.sup = c.sup
  lanes : ∀ n, (laneOf d n).state = (laneOf c n).state
  disable : regGet d Reg.SUP_DISABLE = regGet c Reg.SUP_DISABLE
  events : ∀ b, immBit c Reg.MET_QE_EVT b = true → immBit d Reg.MET_QE_EVT b = true

theorem InstantKeeps.refl (c : Chip) : InstantKeeps c c := ⟨rfl, rfl, fun _ => rfl, rfl, fun _ => id⟩

theorem InstantKeeps.trans {c d e : Chip} (h : InstantKeeps c d) (g : InstantKeeps d e) : InstantKeeps c e :=
  ⟨g.live.trans h.live, g.sup.trans h.sup, fun n => (g.lanes n).trans (h.lanes n), g.disable.trans h.disable,
    fun b hb => g.events b (h.events b hb)⟩

theorem InstantKeeps.cfg {c d : Chip} (h : InstantKeeps c d) (a hi lo : Nat) : cfg d a hi lo = cfg c a hi lo := by
  rw [Machine.cfg, Machine.cfg, liveGet, liveGet, h.live]

theorem InstantKeeps.mpType {c d : Chip} (h : InstantKeeps c d) (m : Nat) : mpType d m = mpType c m := h.cfg _ _ _

theorem InstantKeeps.mpBase {c d : Chip} (h : InstantKeeps c d) (m : Nat) : mpBase d m = mpBase c m := h.cfg _ _ _

theorem InstantKeeps.pointEnabled {c d : Chip} (h : InstantKeeps c d) (m : Nat) : pointEnabled d m = pointEnabled c m := by
  simp only [Machine.pointEnabled, h.mpType, pointDisabled, h.sup, immBit, h.disable]

theorem laneDown_congr {l k : LaneSt} (h : l.state = k.state) : laneDown l = laneDown k := by rw [laneDown, laneDown, h]

/-- A lane's state alone. -/
def stateOnly (l : LaneSt) : LaneSt := { LaneSt.init with state := l.state }

theorem stateOfLanes_stateOnly (ess aux : List LaneSt) :
    stateOfLanes (ess.map stateOnly) (aux.map stateOnly) = stateOfLanes ess aux := by
  have hs : ∀ l, (stateOnly l).state = l.state := fun _ => rfl
  have hd : ∀ l, laneDown (stateOnly l) = laneDown l := fun _ => rfl
  have hm : ∀ l, laneMeters (stateOnly l) = laneMeters l := fun _ => rfl
  simp only [stateOfLanes, List.any_map, List.all_map, Function.comp_def, hs, hd, hm]

theorem InstantKeeps.pointState {c d : Chip} (h : InstantKeeps c d) (m : Nat) : pointState d m = pointState c m := by
  have hlane : ∀ k, stateOnly (laneOf d k) = stateOnly (laneOf c k) := fun k => by rw [stateOnly, h.lanes k]; rfl
  unfold Machine.pointState
  rw [h.pointEnabled, h.mpType, h.mpBase]
  dsimp only
  rw [← stateOfLanes_stateOnly, ← stateOfLanes_stateOnly (List.take _ _) (List.drop _ (List.map (fun j => laneOf c _) _))]
  simp only [List.map_take, List.map_drop, List.map_map, Function.comp_def, hlane]

theorem InstantKeeps.pointMeters {c d : Chip} (h : InstantKeeps c d) (m : Nat) : pointMeters d m = pointMeters c m := by
  rw [Machine.pointMeters, Machine.pointMeters, h.pointState]

/-! ### A sample of one lane (R131, R137) -/

theorem takeSymbol_keeps (c : Chip) (place : Nat) (k : StreamCfg) (l : LaneSt) (v : Int) :
    (takeSymbol c place k l v).state = l.state ∧ (takeSymbol c place k l v).past = l.past := by
  unfold takeSymbol
  dsimp only
  (repeat' split) <;> exact ⟨rfl, rfl⟩

theorem takePeriod_keeps (c : Chip) (place : Nat) (k : StreamCfg) (l : LaneSt) (p : Period) :
    (takePeriod c place k l p).state = l.state ∧ (takePeriod c place k l p).past = l.past := by
  unfold takePeriod
  split
  · exact takeSymbol_keeps _ _ _ _ _
  · split
    · exact takeSymbol_keeps _ _ _ _ _
    · exact ⟨rfl, rfl⟩
  · exact ⟨rfl, rfl⟩
  · exact ⟨rfl, rfl⟩

theorem laneAfter_keeps (c : Chip) (n : Nat) (ps : List Period) (miss : Nat) :
    (laneAfter c n ps miss).state = (laneOf c n).state ∧ (laneAfter c n ps miss).past = (laneOf c n).past := by
  have hst := foldl_same LaneSt.state (fun l p => (takePeriod_keeps c (1200 + n) (streamCfg c n) l p).1) ps (laneOf c n)
  have hpast := foldl_same LaneSt.past (fun l p => (takePeriod_keeps c (1200 + n) (streamCfg c n) l p).2) ps (laneOf c n)
  exact ⟨hst, hpast⟩

/-- What a step on lane n leaves: all but that lane and, of it, the state. -/
structure LaneKeeps (n : Nat) (c d : Chip) : Prop where
  instant : InstantKeeps c d
  points : d.met.points = c.met.points
  others : ∀ k, k ≠ n → laneOf d k = laneOf c k

theorem LaneKeeps.refl (n : Nat) (c : Chip) : LaneKeeps n c c := ⟨.refl c, rfl, fun _ _ => rfl⟩

theorem LaneKeeps.trans {n : Nat} {c d e : Chip} (h : LaneKeeps n c d) (g : LaneKeeps n d e) : LaneKeeps n c e :=
  ⟨h.instant.trans g.instant, g.points.trans h.points, fun k hk => (g.others k hk).trans (h.others k hk)⟩

theorem laneKeeps_setLane (c : Chip) (n : Nat) (l : LaneSt) (h : l.state = (laneOf c n).state) : LaneKeeps n c (setLane c n l) := by
  refine ⟨⟨rfl, rfl, fun k => ?_, rfl, fun _ => id⟩, rfl, fun k hk => laneOf_setLane_ne _ _ hk⟩
  by_cases hk : k = n
  · rw [hk, laneOf_setLane_same, h]
  · rw [laneOf_setLane_ne _ _ hk]

/-- A chip that keeps its registers but for events raised keeps the instant. -/
theorem laneKeeps_raiseEvt (c : Chip) (n : Nat) {a b : Nat} (hb : b < 32) (ha : Reg.SUP_DISABLE ≠ a) : LaneKeeps n c (raiseEvt c a b) := by
  have hmet : (raiseEvt c a b).met = c.met := raiseEvt_met _ _ _
  refine ⟨⟨raiseEvt_live _ _ _, raiseEvt_sup _ _ _, fun k => by rw [laneOf_of_met hmet], regGet_raiseEvt_ne _ _ ha,
    fun k hk => immBit_raiseEvt_of _ hb hk⟩, by rw [hmet], fun k _ => laneOf_of_met hmet k⟩

theorem laneKeeps_calSwitched (c : Chip) (n k : Nat) : LaneKeeps n c (calSwitched c k) := by
  unfold calSwitched
  dsimp only
  split
  · exact ⟨⟨rfl, rfl, fun _ => rfl, rfl, fun _ => id⟩, rfl, fun _ _ => rfl⟩
  · exact .refl n c

theorem disable_ne_laneEvt (n : Nat) : Reg.SUP_DISABLE ≠ Reg.MET_LANE_EVT n := by
  simp only [Reg.SUP_DISABLE, Reg.MET_LANE_EVT]
  omega

theorem feedLane_keeps (c : Chip) (n : Nat) (ps : List Period) (miss : Nat) :
    LaneKeeps n c (feedLane c n ps miss) ∧ laneOf (feedLane c n ps miss) n = laneAfter c n ps miss := by
  have hset := laneKeeps_setLane c n (laneAfter c n ps miss) (laneAfter_keeps c n ps miss).1
  by_cases h : (laneOf c n).range16 = false ∨ (laneAfter c n ps miss).range16 = true
  · rw [feedLane_steady h, laneOf_setLane_same]
    exact ⟨hset, rfl⟩
  · simp only [not_or, Bool.not_eq_false, Bool.not_eq_true] at h
    rw [feedLane_down h.1 h.2]
    have hall := hset.trans ((laneKeeps_calSwitched _ n n).trans (laneKeeps_raiseEvt _ n (b := 5) (by decide) (disable_ne_laneEvt n)))
    refine ⟨⟨⟨hall.instant.live, hall.instant.sup, hall.instant.lanes, hall.instant.disable, hall.instant.events⟩, hall.points, hall.others⟩, ?_⟩
    refine Eq.trans (laneOf_of_met (c := raiseEvt (calSwitched (setLane c n (laneAfter c n ps miss)) n) (Reg.MET_LANE_EVT n) 5) rfl n) ?_
    rw [laneOf_of_met (raiseEvt_met _ _ _), laneOf_calSwitched, laneOf_setLane_same]

theorem finishSample_keeps (c : Chip) (n : Nat) (dcPoint : Bool) : LaneKeeps n c (finishSample c n dcPoint) ∧
    ∃ y, (laneOf (finishSample c n dcPoint) n).past = (y :: (laneOf c n).past).take 127 := by
  unfold finishSample
  extract_lets l raw x16 miss outrun s dly y track dc v y' d
  have hset : LaneKeeps n c d := laneKeeps_setLane c n _ rfl
  have hpast : (laneOf d n).past = (y' :: (laneOf c n).past).take 127 := congrArg LaneSt.past (laneOf_setLane_same _ _ _)
  split
  · refine ⟨hset.trans (laneKeeps_raiseEvt _ n (by decide) (disable_ne_laneEvt n)), y', ?_⟩
    rw [laneOf_of_met (raiseEvt_met _ _ _), hpast]
  · exact ⟨hset, y', hpast⟩

/-- R131: the sample of 63 samples ago moves up by one place. -/
theorem takeSample_keeps (xs : List LaneSample) (dcPoint : Bool) (c : Chip) (n : Nat) : LaneKeeps n c (takeSample xs dcPoint c n) ∧
    (laneMeters (laneOf c n) = true → ∀ p, (laneOf c n).past[62]? = some p →
      alignedSample (laneOf (takeSample xs dcPoint c n) n) = p) := by
  unfold takeSample
  extract_lets l left x ps d kept e
  split
  · next hm =>
    obtain ⟨hfeed, hlane⟩ := feedLane_keeps c n ps (left - ps.length)
    have hset : LaneKeeps n d e := laneKeeps_setLane d n _ rfl
    obtain ⟨hfin, y, hpast⟩ := finishSample_keeps e n dcPoint
    refine ⟨(hfeed.trans hset).trans hfin, fun _ p hp => ?_⟩
    have hkept : (laneOf e n).past = (laneOf c n).past := by
      refine (congrArg LaneSt.past (laneOf_setLane_same d n _)).trans ?_
      exact (congrArg LaneSt.past hlane).trans (laneAfter_keeps c n ps _).2
    rw [alignedSample, hpast, hkept, List.getD_eq_getElem?_getD, List.getElem?_take_of_lt (by decide), List.getElem?_cons_succ, hp]
    rfl
  · next hm => exact ⟨.refl n c, fun h => absurd h hm⟩

/-! ### The sums of one point (R153) -/

@[simp] theorem ptOf_setPt_same (c : Chip) (m : Nat) (p : PointSt) : ptOf (setPt c m p) m = p := tget_tput_self _ _ _ _

theorem ptOf_setPt_ne (c : Chip) {m k : Nat} (p : PointSt) (h : k ≠ m) : ptOf (setPt c m p) k = ptOf c k := tget_tput_ne _ _ _ h

theorem ptOf_of_points {c d : Chip} (h : d.met.points = c.met.points) (m : Nat) : ptOf d m = ptOf c m := by rw [ptOf, ptOf, h]

/-- An essential lane of point m has a substituted sample at the instant. -/
def essSubst (c : Chip) (m : Nat) : Bool :=
  ((List.range (essentialCount (mpType c m))).map (fun j => alignedSample (laneOf c (mpBase c m + j)))).any (·.subst)

/-- A chip that differs in events other than those of SUP_DISABLE only. -/
structure EventsRaised (c d : Chip) : Prop where
  instant : InstantKeeps c d
  met : d.met = c.met

theorem EventsRaised.refl (c : Chip) : EventsRaised c c := ⟨.refl c, rfl⟩

theorem eventsRaised_if {c d : Chip} (h : EventsRaised c d) (p : Prop) [Decidable p] {b : Nat} (hb : b < 32) :
    EventsRaised c (if p then raiseEvt d Reg.MET_QE_EVT b else d) := by
  split
  · exact ⟨h.instant.trans (laneKeeps_raiseEvt d 0 hb (by decide)).instant, (raiseEvt_met _ _ _).trans h.met⟩
  · exact h

theorem instantKeeps_setPt (c : Chip) (m : Nat) (p : PointSt) : InstantKeeps c (setPt c m p) :=
  ⟨rfl, rfl, fun _ => rfl, rfl, fun _ => id⟩

/-- What the sums of a point keep and count. -/
structure Measured (m : Nat) (c d : Chip) : Prop where
  instant : InstantKeeps c d
  lanes : ∀ n, laneOf d n = laneOf c n
  others : ∀ k, k ≠ m → ptOf d k = ptOf c k
  counted : pointMeters c m = true → (ptOf d m).tot.n = (ptOf c m).tot.n + 1
  still : pointMeters c m = false → ptOf d m = ptOf c m
  subst : pointMeters c m = true → essSubst c m = true → (ptOf d m).substNow = true ∧ immBit d Reg.MET_QE_EVT 0 = true

theorem measured_setPt {c d : Chip} {m : Nat} {p : PointSt} (hm : pointMeters c m = true) (hd : EventsRaised (setPt c m p) d)
    (hn : p.tot.n = (ptOf c m).tot.n + 1) (hs : essSubst c m = true → p.substNow = true ∧ immBit d Reg.MET_QE_EVT 0 = true) :
    Measured m c d := by
  have hpt : ∀ k, ptOf d k = ptOf (setPt c m p) k := fun k => ptOf_of_points (by rw [hd.met]) k
  refine ⟨(instantKeeps_setPt c m p).trans hd.instant, fun n => laneOf_of_met hd.met n, fun k hk => ?_, fun _ => ?_, fun h => ?_,
    fun _ h => ?_⟩
  · rw [hpt, ptOf_setPt_ne _ _ hk]
  · rw [hpt, ptOf_setPt_same, hn]
  · exact absurd (hm.symm.trans h) Bool.noConfusion
  · rw [hpt, ptOf_setPt_same]
    exact hs h

theorem measurePoint_measured (c : Chip) (m : Nat) : Measured m c (measurePoint c m) := by
  unfold measurePoint
  extract_lets ty b rev ess p pl l1 l2 l3 l1' p' sb ov fb d1 d2 d3
  split
  · next hm =>
    have h2 : EventsRaised d1 d2 := eventsRaised_if (.refl d1) _ (by decide)
    have h3 : EventsRaised d1 d3 := eventsRaised_if h2 _ (by decide)
    have hcount : p'.tot.n = p.tot.n + 1 := by
      simp only [p']
      split
      · rfl
      · split <;> rfl
    refine measured_setPt hm (eventsRaised_if h3 _ (by decide)) hcount fun hs => ?_
    have hsb : sb = true := hs
    have hraised : immBit d2 Reg.MET_QE_EVT 0 = true := by
      simp only [d2, hsb, if_true]
      exact immBit_raiseEvt _ _ _ (by decide)
    refine ⟨by simp only [hsb, Bool.or_true], ?_⟩
    have h23 : EventsRaised d2 d3 := eventsRaised_if (.refl d2) _ (by decide)
    exact (eventsRaised_if h23 _ (by decide)).instant.events 0 hraised
  · next hm =>
    exact ⟨.refl c, fun _ => rfl, fun _ _ => rfl, fun h => absurd h hm, fun _ => rfl, fun h => absurd h hm⟩

/-! ### One instant of one point, and of all (R135) -/

/-- The lanes of a point. -/
def lanesOf (c : Chip) (m : Nat) : List Nat := (List.range (laneCount (mpType c m))).map (mpBase c m + ·)

theorem lanesTaken (xs : List LaneSample) (dc : Bool) (l : List Nat) (c : Chip) :
    InstantKeeps c (l.foldl (takeSample xs dc) c) ∧ (l.foldl (takeSample xs dc) c).met.points = c.met.points ∧
      ∀ n, n ∉ l → laneOf (l.foldl (takeSample xs dc) c) n = laneOf c n := by
  induction l generalizing c with
  | nil => exact ⟨.refl c, rfl, fun _ _ => rfl⟩
  | cons k l ih =>
    obtain ⟨hone, -⟩ := takeSample_keeps xs dc c k
    obtain ⟨hkeep, hpoints, hlanes⟩ := ih (takeSample xs dc c k)
    refine ⟨hone.instant.trans hkeep, hpoints.trans hone.points, fun n hn => ?_⟩
    simp only [List.mem_cons, not_or] at hn
    exact (hlanes n hn.2).trans (hone.others n hn.1)

/-- The sample of 63 samples ago of a lane, once the instant is taken. -/
theorem lanesTaken_aligned (xs : List LaneSample) (dc : Bool) {l : List Nat} (hl : l.Nodup) {c : Chip} {n : Nat} (hn : n ∈ l)
    (hm : laneMeters (laneOf c n) = true) {p : Sample} (hp : (laneOf c n).past[62]? = some p) :
    alignedSample (laneOf (l.foldl (takeSample xs dc) c) n) = p := by
  induction l generalizing c with
  | nil => cases hn
  | cons k l ih =>
    obtain ⟨hk, hrest⟩ := List.nodup_cons.1 hl
    obtain ⟨hone, htaken⟩ := takeSample_keeps xs dc c k
    obtain ⟨-, -, hlanes⟩ := lanesTaken xs dc l (takeSample xs dc c k)
    by_cases h : n = k
    · subst h
      rw [List.foldl_cons, hlanes n hk]
      exact htaken hm p hp
    · have hsame := hone.others n h
      refine ih hrest ((List.mem_cons.1 hn).resolve_left h) ?_ ?_
      · rw [hsame]; exact hm
      · rw [hsame]; exact hp

theorem lanesOf_nodup (c : Chip) (m : Nat) : (lanesOf c m).Nodup :=
  List.Nodup.map (fun _ _ h => Nat.add_left_cancel h) List.nodup_range

theorem essentialCount_le (ty : Nat) : essentialCount ty ≤ laneCount ty := by
  unfold essentialCount laneCount
  (repeat' split) <;> omega

/-- What one point's part of an instant leaves and counts. -/
structure Sampled (m : Nat) (c d : Chip) : Prop where
  instant : InstantKeeps c d
  lanes : ∀ n, (pointEnabled c m = true → n ∉ lanesOf c m) → laneOf d n = laneOf c n
  others : ∀ k, k ≠ m → ptOf d k = ptOf c k
  counted : pointMeters c m = true → (ptOf d m).tot.n = (ptOf c m).tot.n + 1
  still : pointMeters c m = false → ptOf d m = ptOf c m
  subst : pointMeters c m = true → ∀ j p, j < essentialCount (mpType c m) →
    laneMeters (laneOf c (mpBase c m + j)) = true → (laneOf c (mpBase c m + j)).past[62]? = some p → p.subst = true →
    (ptOf d m).substNow = true ∧ immBit d Reg.MET_QE_EVT 0 = true

theorem pointEnabled_of_meters {c : Chip} {m : Nat} (h : pointMeters c m = true) : pointEnabled c m = true := by
  by_contra hno
  have hstate : pointState c m = 0 := if_neg hno
  rw [pointMeters, hstate] at h
  exact Bool.noConfusion h

theorem samplePoint_sampled (xs : List LaneSample) (c : Chip) (m : Nat) : Sampled m c (samplePoint xs c m) := by
  by_cases hen : pointEnabled c m = true
  · have heq : samplePoint xs c m = measurePoint ((lanesOf c m).foldl (takeSample xs (mpType c m == 3)) c) m := if_pos hen
    obtain ⟨hkeep, hpoints, hlanes⟩ := lanesTaken xs (mpType c m == 3) (lanesOf c m) c
    have haligned := fun n hn hm p hp =>
      lanesTaken_aligned xs (mpType c m == 3) (lanesOf_nodup c m) (c := c) (n := n) hn hm (p := p) hp
    rw [heq]
    generalize (lanesOf c m).foldl (takeSample xs (mpType c m == 3)) c = e at hkeep hpoints hlanes haligned
    have hmeas := measurePoint_measured e m
    have hpt : ∀ k, ptOf e k = ptOf c k := ptOf_of_points hpoints
    have hmet : pointMeters e m = pointMeters c m := hkeep.pointMeters m
    refine ⟨hkeep.trans hmeas.instant, fun n hn => (hmeas.lanes n).trans (hlanes n (hn hen)), fun k hk => (hmeas.others k hk).trans (hpt k),
      fun h => (hmeas.counted (hmet.trans h)).trans (by rw [hpt]), fun h => (hmeas.still (hmet.trans h)).trans (hpt m),
      fun h j p hj hl hp hs => hmeas.subst (hmet.trans h) ?_⟩
    have hin : mpBase c m + j ∈ lanesOf c m :=
      List.mem_map.2 ⟨j, List.mem_range.2 (Nat.lt_of_lt_of_le hj (essentialCount_le _)), rfl⟩
    rw [essSubst, hkeep.mpType, hkeep.mpBase, List.any_map, List.any_eq_true]
    exact ⟨j, List.mem_range.2 hj, by rw [Function.comp_apply, haligned _ hin hl p hp, hs]⟩
  · have heq : samplePoint xs c m = c := if_neg hen
    have hno : ¬ pointMeters c m = true := fun h => hen (pointEnabled_of_meters h)
    rw [heq]
    exact ⟨.refl c, fun _ _ => rfl, fun _ _ => rfl, fun h => absurd h hno, fun _ => rfl, fun h => absurd h hno⟩

/-- The points of a list, sampled one after the other. -/
theorem pointsSampled_keeps (xs : List LaneSample) (l : List Nat) (c : Chip) : InstantKeeps c (l.foldl (samplePoint xs) c) ∧
    ∀ m, m ∉ l → ptOf (l.foldl (samplePoint xs) c) m = ptOf c m := by
  induction l generalizing c with
  | nil => exact ⟨.refl c, fun _ _ => rfl⟩
  | cons k l ih =>
    have hone := samplePoint_sampled xs c k
    obtain ⟨hkeep, hpoints⟩ := ih (samplePoint xs c k)
    refine ⟨hone.instant.trans hkeep, fun m hm => ?_⟩
    simp only [List.mem_cons, not_or] at hm
    exact (hpoints m hm.2).trans (hone.others m hm.1)

theorem pointsSampled_counted (xs : List LaneSample) {l : List Nat} (hl : l.Nodup) (c : Chip) {m : Nat} (hm : m ∈ l) :
    (pointMeters c m = true → (ptOf (l.foldl (samplePoint xs) c) m).tot.n = (ptOf c m).tot.n + 1) ∧
      (pointMeters c m = false → ptOf (l.foldl (samplePoint xs) c) m = ptOf c m) := by
  induction l generalizing c with
  | nil => cases hm
  | cons k l ih =>
    obtain ⟨hk, hrest⟩ := List.nodup_cons.1 hl
    have hone := samplePoint_sampled xs c k
    obtain ⟨-, hpoints⟩ := pointsSampled_keeps xs l (samplePoint xs c k)
    by_cases h : m = k
    · subst h
      rw [List.foldl_cons, hpoints m hk]
      exact ⟨hone.counted, hone.still⟩
    · have hsame := hone.others m h
      have hmet := hone.instant.pointMeters m
      obtain ⟨hcount, hstill⟩ := ih hrest (samplePoint xs c k) ((List.mem_cons.1 hm).resolve_left h)
      rw [hmet, hsame] at hcount hstill
      exact ⟨hcount, hstill⟩

/-- R138: an essential lane of one point only, with a substituted sample, marks the cycle of its point. -/
theorem pointsSampled_subst (xs : List LaneSample) {l : List Nat} (hl : l.Nodup) {c : Chip} {m j : Nat} {p : Sample} (hm : m ∈ l)
    (hmet : pointMeters c m = true) (hj : j < essentialCount (mpType c m)) (hlane : laneMeters (laneOf c (mpBase c m + j)) = true)
    (honly : ∀ k ∈ l, k ≠ m → pointEnabled c k = true → mpBase c m + j ∉ lanesOf c k)
    (hp : (laneOf c (mpBase c m + j)).past[62]? = some p) (hs : p.subst = true) :
    (ptOf (l.foldl (samplePoint xs) c) m).substNow = true ∧ immBit (l.foldl (samplePoint xs) c) Reg.MET_QE_EVT 0 = true := by
  induction l generalizing c with
  | nil => cases hm
  | cons k l ih =>
    obtain ⟨hk, hrest⟩ := List.nodup_cons.1 hl
    have hone := samplePoint_sampled xs c k
    obtain ⟨hkeep, hpoints⟩ := pointsSampled_keeps xs l (samplePoint xs c k)
    by_cases h : m = k
    · subst h
      obtain ⟨hmark, hevt⟩ := hone.subst hmet j p hj hlane hp hs
      rw [List.foldl_cons, hpoints m hk]
      exact ⟨hmark, hkeep.events 0 hevt⟩
    · have hfree := hone.lanes (mpBase c m + j) (honly k List.mem_cons_self (Ne.symm h))
      have hbase := hone.instant.mpBase m
      refine ih hrest ((List.mem_cons.1 hm).resolve_left h) ?_ ?_ ?_ (fun q hq hqm hen => ?_) ?_
      · rw [hone.instant.pointMeters]; exact hmet
      · rw [hone.instant.mpType]; exact hj
      · rw [hbase, hfree]; exact hlane
      · rw [hbase]
        rw [hone.instant.pointEnabled] at hen
        rw [lanesOf, hone.instant.mpType, hone.instant.mpBase]
        exact honly q (List.mem_cons_of_mem _ hq) hqm hen
      · rw [hbase, hfree]; exact hp

/-- The chip after an instant's samples, before the calibration takes its own. -/
def instantTaken (c : Chip) (xs : List LaneSample) : Chip := (List.range 8).foldl (samplePoint xs) c

theorem instantTaken_kept (c : Chip) (xs : List LaneSample) :
    ChipKeptBut [.met, .regs, .host, .out, .freeCount] c (takeFree (sampleCal (instantTaken c xs))) := by
  simp +decide only [kept_takeFree, kept_sampleCal, instantTaken, kept_foldl, kept_samplePoint, kept_refl, implies_true]

theorem sampleCal_points (c : Chip) : (takeFree (sampleCal c)).met.points = c.met.points := by
  unfold sampleCal
  extract_lets
  split <;> rfl

theorem sampleCal_regs (c : Chip) : (takeFree (sampleCal c)).regs = c.regs :=
  (kept_takeFree (by decide)).2 ((kept_sampleCal (by decide)).2 (.refl [.met, .freeCount] c)) .regs (by decide)

end Sys2Proof
end

section
/-! PROOFS. Commit slots, the readout window, harmonics and calibration measurements. -/

namespace Sys2Proof
open Machine

/-! ### Harmonics (R166) -/

/-- The harmonics written into their registers. -/
def harmPut (c : Chip) (l : List (Nat × Word)) : Chip := l.foldl (fun c e => regPut c (Reg.MET_QE_HARM e.1) e.2) c

theorem harmPut_kept (c : Chip) (l : List (Nat × Word)) : ChipKeptBut [.regs] c (harmPut c l) := by
  simp +decide only [harmPut, kept_foldl, kept_regPut, kept_refl, implies_true]

theorem harm_injective {j k : Nat} (h : j ≠ k) : Reg.MET_QE_HARM j ≠ Reg.MET_QE_HARM k := by
  simp only [Reg.MET_QE_HARM]
  omega

theorem harmPut_other (l : List (Nat × Word)) (c : Chip) {a : Nat} (ha : ∀ e ∈ l, a ≠ Reg.MET_QE_HARM e.1) :
    regGet (harmPut c l) a = regGet c a := by
  induction l generalizing c with
  | nil => rfl
  | cons e l ih =>
    exact (ih _ fun x hx => ha x (List.mem_cons_of_mem _ hx)).trans (regGet_regPut_ne _ _ (ha e List.mem_cons_self))

theorem harmPut_own {l : List (Nat × Word)} (hl : (l.map Prod.fst).Nodup) (c : Chip) {k : Nat} {w : Word} (h : (k, w) ∈ l) :
    regGet (harmPut c l) (Reg.MET_QE_HARM k) = w := by
  induction l generalizing c with
  | nil => cases h
  | cons e l ih =>
    obtain ⟨hfresh, hrest⟩ := List.nodup_cons.1 hl
    rcases List.mem_cons.1 h with rfl | h
    · refine (harmPut_other l _ fun x hx => harm_injective fun hk => hfresh ?_).trans (regGet_regPut_self _ _ _)
      exact List.mem_map.2 ⟨x, hx, hk.symm⟩
    · exact ih hrest _ h

/-- The harmonics of the selected lane, by their orders. -/
def harmPairs (c : Chip) : List (Nat × Word) := (List.range 64).zip (harmWords c)

theorem harmPairs_fst (c : Chip) : (harmPairs c).map Prod.fst = List.range 64 := by
  rw [harmPairs, List.map_fst_zip]
  rw [harmWords, List.length_map]

/-- The harmonics' selection taken anew. -/
def harmReset (c : Chip) : Chip := { c with met := { c.met with hselNow := imm c Reg.MET_QE_HSEL 5 0, hbuf := [], hcyc := 0 } }

theorem exec_harmWindow {s : State} (h : s.chip.met.hcyc = 8) : exec .harmWindow s = .next { s with
    chip := harmReset (takeFree (harmPut s.chip (harmPairs s.chip))) } := by
  change execHarmWindow s = _
  simp only [execHarmWindow, onChip, h, if_true, harmReset, harmPut, harmPairs]

/-! ### Commit slots (R170 to R174) -/

/-- The chip with the oldest slot taken from those that wait, and its write noted. -/
def slotTaken (c : Chip) (us : Nat) (sl : CommitSlot) (rest : List CommitSlot) : Chip := { c with acc := { c.acc with
  due := rest, lastSeq := sl.seq, lastSlot := nextPlace c, lastKind := sl.kind, lastNoHold := sl.noHold,
  lastFallback := sl.fallback, lastUs := sat 65535 us, maxUs := max c.acc.maxUs (sat 65535 us) } }

theorem writeSlot_eq {c : Chip} {sl : CommitSlot} {rest : List CommitSlot} (us : Nat) (h : c.acc.due = sl :: rest) :
    writeSlot c us = putRing (slotTaken c us sl rest) (nextPlace c) { slot := sl, written := slotSize } := by
  unfold writeSlot
  rw [h]
  rfl

theorem putRing_ring {c : Chip} (k : Nat) (r : RingSlot) (h : mramLost c = false) :
    putRing c k r = { c with acc := { c.acc with ring := tput c.acc.ring k r } } := by simp only [putRing, h, Bool.false_eq_true, if_false]

theorem putRing_gasp {c : Chip} (k : Nat) (r : RingSlot) (h : mramLost c = true) :
    putRing c k r = { c with acc := { c.acc with gaspRing := tput c.acc.gaspRing k r } } := by simp only [putRing, h, if_true]

/-- The chip with one more slot that waits for its write. -/
def slotDue (c : Chip) (sl : CommitSlot) : Chip := { c with acc := { c.acc with due := c.acc.due ++ [sl] } }

theorem dispatchSlot_eq {c : Chip} (sl : CommitSlot) (h : mayCommit c = true) : dispatchSlot c sl = slotDue c sl := by
  simp only [dispatchSlot, h, Bool.not_true, Bool.false_eq_true, if_false, slotDue]

theorem mayCommit_ended {c : Chip} (h : mayCommit c = true) : c.acc.ended = false := by
  simp only [mayCommit, Bool.and_eq_true, Bool.not_eq_true'] at h
  exact h.2

theorem exec_lastGaspCommit {s : State} {a : Nat} (n : Nat) (hm : s.chip.sup.mode = .holdUp) (ha : 0 < a)
    (hend : s.chip.acc.ended = false) : exec (.lastGaspCommit a n) s = .next { s with
      chip := dispatchSlot (cutCycle s.chip a n) (buildSlot (cutCycle s.chip a n) 1 a false) } := by
  change execLastGaspCommit a n s = _
  simp only [execLastGaspCommit, onChip, hm, ha, hend, and_self, if_true]

/-- The chip after which nothing is committed. -/
def commitsEnded (c : Chip) : Chip := { c with acc := { c.acc with ended := true } }

theorem exec_finalCommit {s : State} (a n : Nat) (hm : s.chip.sup.mode = .holdUp) (hend : s.chip.acc.ended = false)
    (hdue : finalDue s.chip = true) : exec (.finalCommit a n) s = .next { s with
      chip := commitsEnded (dispatchSlot (cutCycle s.chip a n) (buildSlot (cutCycle s.chip a n) 3 a false)) } := by
  change execFinalCommit a n s = _
  simp only [execFinalCommit, onChip, hm, hend, hdue, and_self, if_true, commitsEnded]

/-! ### The readout window (R177) -/

/-- The chip whose finalisation is over. -/
def finalised (c : Chip) : Chip := { c with acc := { c.acc with finalising := false } }

theorem exec_finalisationDone_held {s : State} {k i : Nat} (h : s.chip.acc.latchWait = some (k, i)) :
    exec .finalisationDone s = .next { s with
      chip := latchWindow (finalised s.chip) (k == 1) i } := by
  change execFinalisationDone s = _
  simp only [execFinalisationDone, h, finalised]

theorem exec_finalisationDone_free {s : State} (h : s.chip.acc.latchWait = none) : exec .finalisationDone s = .next { s with
    chip := finalised s.chip } := by
  change execFinalisationDone s = _
  simp only [execFinalisationDone, h, finalised]

theorem latchWindow_acc (c : Chip) (context : Bool) (i : Nat) : ChipKeptBut [.acc] c (latchWindow c context i) ∧
    (latchWindow c context i).acc.finalising = c.acc.finalising ∧ (latchWindow c context i).acc.latchWait = none ∧
    (latchWindow c context i).acc.window.valid = true ∧ (latchWindow c context i).acc.window.index = i ∧
    (latchWindow c context i).acc.window.target = context.toNat ∧ (latchWindow c context i).acc.window.cycle = c.acc.finCycle ∧
    (latchWindow c context i).acc.points = c.acc.points :=
  ⟨(kept_latchWindow _ _ (by decide)).2 (.refl _ _), rfl, rfl, rfl, rfl, rfl, rfl, rfl⟩

/-- R177: the readings of a metering point. -/
theorem latchWindow_readings (c : Chip) (i : Nat) :
    (latchWindow c false i).acc.window.readings = (List.range 64).map (fun k => reading (pointAcc c i k)) := by
  simp only [latchWindow, targetAccs, Bool.false_and, Bool.false_eq_true, if_false, List.map_map, Function.comp_def]

/-- The chip with the latch written into its register. -/
def latchAsked (c : Chip) (i : Nat) : Chip := regPut c Reg.MET_ACC_CTRL (wordOf (false.toNat + place 8 i))

theorem exec_accLatch_refused {s : State} {i : BitVec 8} (h : 7 < i.toNat) : exec (.accLatch false i) s = .next s := by
  change execAccLatch false i s = _
  simp [execAccLatch, onChip, reach, accLatch, h]

theorem exec_accLatch_now {s : State} {i : BitVec 8} (hopen : windowClosed s.chip Reg.MET_ACC_CTRL = false) (hi : i.toNat ≤ 7)
    (hw : s.chip.acc.latchWait = none) (hf : s.chip.acc.finalising = false) : exec (.accLatch false i) s = .next { s with
      chip := latchWindow (latchAsked s.chip i.toNat) false i.toNat } := by
  change execAccLatch false i s = _
  simp only [execAccLatch, onChip, reach, hopen, accLatch, Nat.not_lt.2 hi, decide_false, Bool.and_false, Bool.false_eq_true, if_false,
    regPut_acc, hw, hf, Option.isSome_none, latchAsked]

/-- A latch held back until finalisation is over. -/
def latchHeld (c : Chip) (i : Nat) : Chip := { c with acc := { c.acc with latchWait := some (0, i) } }

theorem exec_accLatch_held {s : State} {i : BitVec 8} (hopen : windowClosed s.chip Reg.MET_ACC_CTRL = false) (hi : i.toNat ≤ 7)
    (hw : s.chip.acc.latchWait = none) (hf : s.chip.acc.finalising = true) : exec (.accLatch false i) s = .next { s with
      chip := latchHeld (latchAsked s.chip i.toNat) i.toNat } := by
  change execAccLatch false i s = _
  simp only [execAccLatch, onChip, reach, hopen, accLatch, Nat.not_lt.2 hi, decide_false, Bool.and_false, Bool.false_eq_true, if_false,
    regPut_acc, hw, hf, Option.isSome_none, latchAsked, latchHeld, if_true]
  rfl

theorem exec_accRead {s : State} {req : Requester} {i : Nat} (hp : performs s.chip req 0x0301 .accumulator = true) (hi : i ≤ 7) :
    exec (.accRead req 0 i true) s = .next { s with
      chip := complete (deliver (begun s.chip req 0x0301) req (accBytes ((List.range 64).map (pointAcc (begun s.chip req 0x0301) i)))) req
        { ansOk with aux32 := 1024, result := leBytes 6 s.chip.acc.finCycle } } := by
  have hacc : (begun s.chip req 0x0301).acc = s.chip.acc := by cases req <;> rfl
  have hbad : ¬ ((1 : Nat) < 0 ∨ (0 = 0 ∧ 7 < i) ∨ 255 < i) := by omega
  change execAccRead req 0 i true s = _
  rw [execAccRead, onChip, perform_of_performs _ _ _ _ _ hp]
  dsimp only
  rw [if_neg hbad, hacc]
  rfl

/-! ### Calibration measurements (R145) -/

theorem calStart_eq {c : Chip} (a b n : Nat) (hb : c.met.cal.busy = false) (hd : c.met.cal.due = false) : calStart c a b n =
    { regPut c Reg.MET_CAL_CTRL (wordOf (a + place 8 b + place 16 n)) with
      met := { c.met with cal := { c.met.cal with due := true, laneA := a, laneB := b, cycles := max 1 n } } } := by
  simp only [calStart, regPut_met, hb, hd, Bool.or_self, Bool.false_eq_true, if_false]

theorem fieldOf_lane {a : Nat} (b n : Nat) (ha : a < 64) : fieldOf (wordOf (a + place 8 b + place 16 n)) 5 0 = a := by
  simp only [fieldOf, wordOf_toNat, place, Nat.shiftRight_eq_div_pow]
  omega

/-- A calibration measurement stopped. -/
def calStopped (c : Chip) : Chip :=
  { c with met := { c.met with cal := { c.met.cal with busy := false, due := false, aborted := true } } }

theorem calAbort_busy {c : Chip} (h : c.met.cal.busy = true) : calAbort c = calStopped c := by
  simp only [calAbort, h, Bool.true_or, if_true, calStopped]

theorem calDone_result {c : Chip} (hb : c.met.cal.busy = true) (hd : c.met.cal.cycles ≤ c.met.cal.cycDone) :
    ChipKeptBut [.met, .regs, .freeCount] c (calDone c) ∧ (calDone c).met.cal.busy = false ∧ (calDone c).met.cal.done = true ∧
      RegsKeptBut [Reg.MET_CAL_RMS_A, Reg.MET_CAL_RMS_B, Reg.MET_CAL_MEAN_A, Reg.MET_CAL_PROD_LO, Reg.MET_CAL_PROD_HI] c (calDone c) := by
  have hcond : (c.met.cal.busy && decide (c.met.cal.cycles ≤ c.met.cal.cycDone)) = true := by simp [hb, hd]
  refine ⟨(kept_calDone (by decide)).2 (.refl _ _), ?_⟩
  unfold calDone
  extract_lets k rms mean prod c1 c2 c3 c4
  rw [if_pos hcond]
  refine ⟨rfl, rfl, ?_⟩
  have h1 : RegsKeptBut [Reg.MET_CAL_RMS_A, Reg.MET_CAL_RMS_B, Reg.MET_CAL_MEAN_A, Reg.MET_CAL_PROD_LO, Reg.MET_CAL_PROD_HI] c c1 :=
    regsKept_regPut _ _ (by decide)
  have h2 := h1.trans (regsKept_regPut c1 (wordOf (rms 7001 k.sb2)) (a := Reg.MET_CAL_RMS_B) (by decide))
  have h3 := h2.trans (regsKept_regPut c2 (wordOf (sgn 32 (mean 7002 k.sa))) (a := Reg.MET_CAL_MEAN_A) (by decide))
  have h4 := h3.trans (regsKept_regPut c3 (loWord prod) (a := Reg.MET_CAL_PROD_LO) (by decide))
  exact h4.trans (regsKept_regPut _ (hiWord prod) (a := Reg.MET_CAL_PROD_HI) (by decide))

/-! ### The instant -/

theorem instantTaken_counted (c : Chip) (xs : List LaneSample) {m : Nat} (hm : m < 8) :
    (pointMeters c m = true → (ptOf (instantTaken c xs) m).tot.n = (ptOf c m).tot.n + 1) ∧
      (pointMeters c m = false → ptOf (instantTaken c xs) m = ptOf c m) := by
  unfold instantTaken
  exact pointsSampled_counted xs List.nodup_range c (List.mem_range.2 hm)

theorem instantTaken_subst (c : Chip) (xs : List LaneSample) {m j : Nat} {p : Sample} (hm : m < 8)
    (hmet : pointMeters c m = true) (hj : j < essentialCount (mpType c m)) (hlane : laneMeters (laneOf c (mpBase c m + j)) = true)
    (honly : ∀ k ∈ List.range 8, k ≠ m → pointEnabled c k = true → mpBase c m + j ∉ lanesOf c k)
    (hp : (laneOf c (mpBase c m + j)).past[62]? = some p) (hs : p.subst = true) :
    (ptOf (instantTaken c xs) m).substNow = true ∧ immBit (instantTaken c xs) Reg.MET_QE_EVT 0 = true := by
  unfold instantTaken
  exact pointsSampled_subst xs List.nodup_range (List.mem_range.2 hm) hmet hj hlane honly hp hs

/-- Settles O14. -/
theorem meteringCommands : Obligations.MeteringCommands := by
  unfold Obligations.MeteringCommands
  refine ⟨?instant, ?subst, ?held, ?free, ?slot, ?gasp, ?final, ?dtcorr, ?harm, ?calStart, ?calAbort, ?calDone, ?latch, ?wait, ?refused, ?read⟩
  case instant =>
    intro s xs
    have hpoints := sampleCal_points (instantTaken s.chip xs)
    refine answers_chip (d := takeFree (sampleCal (instantTaken s.chip xs))) rfl
      ⟨keptBut_chip.2 (instantTaken_kept s.chip xs), fun m hm => ?_, fun m hm => ?_⟩
    all_goals
      obtain ⟨hcount, hstill⟩ := instantTaken_counted s.chip xs hm
      dsimp only
      rw [ptOf_of_points hpoints]
    · exact hcount
    · exact hstill
  case subst =>
    intro s xs m j p hm hmet hj hlane honly hp hs
    have hpoints := sampleCal_points (instantTaken s.chip xs)
    have hregs := sampleCal_regs (instantTaken s.chip xs)
    have hfree : ∀ k ∈ List.range 8, k ≠ m → pointEnabled s.chip k = true → mpBase s.chip m + j ∉ lanesOf s.chip k := by
      intro k hk hkm hen hin
      obtain ⟨i, hi, heq⟩ := List.mem_map.1 hin
      have hi := List.mem_range.1 hi
      have := honly k (List.mem_range.1 hk) hkm hen
      omega
    obtain ⟨hmark, hevt⟩ := instantTaken_subst s.chip xs hm hmet hj hlane hfree hp hs
    refine answers_chip (d := takeFree (sampleCal (instantTaken s.chip xs))) rfl ⟨keptBut_chip.2 (instantTaken_kept s.chip xs), ?_, ?_⟩
    · dsimp only
      rw [immBit, regGet, hregs]
      exact hevt
    · dsimp only
      rw [ptOf_of_points hpoints]
      exact hmark
  case held =>
    intro s k i h
    obtain ⟨hkept, hfin, hwait, hvalid, hindex, -, hcycle, hpts⟩ := latchWindow_acc (finalised s.chip) (k == 1) i
    refine answers_chip (exec_finalisationDone_held h) ⟨keptBut_chip.2 (.trans ?_ hkept), hfin, hwait, hvalid, hindex, hcycle, hpts⟩
    exact (kept_set_acc (by decide)).2 (.refl _ _)
  case free =>
    intro s h
    exact answers_chip (exec_finalisationDone_free h) ⟨keptBut_chip.2 ((kept_set_acc (by decide)).2 (.refl _ _)), rfl⟩
  case slot =>
    intro s us sl rest h
    have hsat := sat_eq_min 65535 us
    refine answers_chip (d := writeSlot s.chip us) rfl ?_
    rw [writeSlot_eq us h]
    have hkept : ChipKeptBut [.acc] s.chip (putRing (slotTaken s.chip us sl rest) (nextPlace s.chip) { slot := sl, written := slotSize }) :=
      (kept_putRing _ _ (by decide)).2 ((kept_set_acc (by decide)).2 (.refl _ _))
    refine ⟨keptBut_chip.2 hkept, ?_⟩
    cases hlost : mramLost s.chip with
    | false =>
      rw [putRing_ring (c := slotTaken s.chip us sl rest) _ _ hlost]
      exact ⟨rfl, rfl, rfl, rfl, hsat, congrArg (max s.chip.acc.maxUs) hsat, rfl, fun _ => ⟨rfl, rfl⟩, fun h => Bool.noConfusion h⟩
    | true =>
      rw [putRing_gasp (c := slotTaken s.chip us sl rest) _ _ hlost]
      exact ⟨rfl, rfl, rfl, rfl, hsat, congrArg (max s.chip.acc.maxUs) hsat, rfl, fun h => Bool.noConfusion h, fun _ => ⟨rfl, rfl⟩⟩
  case gasp =>
    intro s a n hm ha hend c hmay
    have hexec := exec_lastGaspCommit n hm ha hend
    rw [show cutCycle s.chip a n = c from rfl, dispatchSlot_eq _ hmay] at hexec
    clear_value c
    exact answers_chip hexec ⟨storesKept_chip s _, (kept_set_acc (by decide)).2 (.refl _ _), rfl, mayCommit_ended hmay,
      buildSlot c 1 a false, rfl, rfl, rfl, rfl, rfl, rfl⟩
  case final =>
    intro s a n hm hend hdue c hmay
    have hexec := exec_finalCommit a n hm hend hdue
    rw [show cutCycle s.chip a n = c from rfl, dispatchSlot_eq _ hmay] at hexec
    clear_value c
    exact answers_chip hexec ⟨storesKept_chip s _, (kept_set_acc (by decide)).2 ((kept_set_acc (by decide)).2 (.refl _ _)), rfl,
      buildSlot c 3 a false, rfl, rfl, rfl, rfl⟩
  case dtcorr =>
    intro s w h
    have hexec : exec (.dtcorrMeasure w) s = .next { s with
        chip := { s.chip with met := { s.chip.met with dtCorr := w.toNat } } } := by
      change execDtcorrMeasure w s = _
      simp only [execDtcorrMeasure, onChip, h, if_true]
    exact answers_chip hexec ⟨keptBut_chip.2 ((kept_set_met (by decide)).2 (.refl _ _)), rfl⟩
  case harm =>
    intro s h
    have hput := harmPut_kept s.chip (harmPairs s.chip)
    have hmet := hput .met (by decide)
    have hother := fun a => harmPut_other (harmPairs s.chip) s.chip (a := a)
    have hown := fun k w => harmPut_own (l := harmPairs s.chip) (by rw [harmPairs_fst]; exact List.nodup_range) s.chip (k := k) (w := w)
    refine answers_chip (exec_harmWindow h) ?_
    have horders : ∀ e ∈ harmPairs s.chip, e.1 < 64 := fun e he => by
      have := List.mem_map_of_mem (f := Prod.fst) he
      rw [harmPairs_fst] at this
      exact List.mem_range.1 this
    have hsel : regGet (harmPut s.chip (harmPairs s.chip)) Reg.MET_QE_HSEL = regGet s.chip Reg.MET_QE_HSEL :=
      hother _ fun e _ => by simp only [Reg.MET_QE_HSEL, Reg.MET_QE_HARM]; omega
    have hregs : RegsKeptBut ((List.range 64).map Reg.MET_QE_HARM) s.chip (harmPut s.chip (harmPairs s.chip)) := fun a ha =>
      hother a fun e he heq => ha (heq ▸ List.mem_map_of_mem (List.mem_range.2 (horders e he)))
    have hat : ∀ k w, k < 64 → (harmWords s.chip)[k]? = some w → regGet (harmPut s.chip (harmPairs s.chip)) (Reg.MET_QE_HARM k) = w :=
      fun k w hk hw => hown k w (List.mem_of_getElem? (i := k) (List.getElem?_zip_eq_some.2 ⟨List.getElem?_range hk, hw⟩))
    generalize harmPut s.chip (harmPairs s.chip) = d at hput hmet hsel hregs hat
    refine ⟨keptBut_chip.2 ((kept_set_met (by decide)).2 ((kept_takeFree (by decide)).2 (hput.mono (by decide)))), hregs, ?_, hat⟩
    have hd : d.met = s.chip.met := hmet
    change { d.met with hselNow := fieldOf (regGet d Reg.MET_QE_HSEL) 5 0, hbuf := [], hcyc := 0 } = _
    rw [hsel, hd]
    rfl
  case calStart =>
    intro s a b n hopen hb hd
    have hexec : exec (.calMeasStart a b n) s = .next { s with chip := calStart s.chip a.val b.val n.toNat } := by
      change execCalMeasStart a b n s = _
      simp only [execCalMeasStart, onChip, reach, hopen, Bool.false_eq_true, if_false]
    refine answers_chip hexec ?_
    rw [calStart_eq _ _ _ hb hd]
    refine ⟨keptBut_chip.2 ((kept_set_met (by decide)).2 ((kept_regPut _ _ (by decide)).2 (.refl _ _))), rfl, rfl, rfl, rfl, ?_, ?_⟩
    · refine Eq.trans (congrArg (fun w => fieldOf w 5 0) (regGet_regPut_self s.chip Reg.MET_CAL_CTRL _)) ?_
      exact fieldOf_lane b.val n.toNat a.isLt
    · exact regsKept_regPut _ _ List.mem_cons_self
  case calAbort =>
    intro s hopen hb
    have hexec : exec .calMeasAbort s = .next { s with chip := calAbort s.chip } := by
      change execCalMeasAbort s = _
      simp only [execCalMeasAbort, onChip, reach, hopen, Bool.false_eq_true, if_false]
    refine answers_chip hexec ?_
    rw [calAbort_busy hb]
    exact ⟨keptBut_chip.2 ((kept_set_met (by decide)).2 (.refl _ _)), rfl, rfl, rfl⟩
  case calDone =>
    intro s hb hd
    obtain ⟨hkept, hbusy, hdone, hregs⟩ := calDone_result hb hd
    exact answers_chip (d := calDone s.chip) rfl ⟨keptBut_chip.2 hkept, hbusy, hdone, hregs⟩
  case latch =>
    intro s i hopen hi hw hf
    obtain ⟨hkept, -, -, hvalid, hindex, htarget, hcycle, hpts⟩ := latchWindow_acc (latchAsked s.chip i.toNat) false i.toNat
    refine answers_chip (exec_accLatch_now hopen hi hw hf) ⟨keptBut_chip.2 (.trans ?_ (hkept.mono (by decide))), hvalid, hindex, htarget, hcycle,
      latchWindow_readings _ _, hpts⟩
    exact (kept_regPut _ _ (by decide)).2 (.refl _ _)
  case wait =>
    intro s i hopen hi hw hf
    exact answers_chip (exec_accLatch_held hopen hi hw hf)
      ⟨keptBut_chip.2 ((kept_set_acc (by decide)).2 ((kept_regPut _ _ (by decide)).2 (.refl _ _))), rfl, rfl⟩
  case refused =>
    intro s i hi
    exact ⟨s, exec_accLatch_refused hi, rfl⟩
  case read =>
    intro s req i hp hi
    exact replies_chip (exec_accRead hp hi) (by with_reducible rfl)

end Sys2Proof
end

section
/-! PROOFS. Calendars, price tables and maximum demand. -/

namespace Sys2Proof
open Machine

@[simp] theorem begun_tar (c : Chip) (req : Requester) (op : Nat) : (begun c req op).tar = c.tar := by cases req <;> rfl

theorem reach_open {c : Chip} {a : Nat} (f : Chip → Chip) (h : windowClosed c a = false) : reach c a f = f c := by
  rw [reach, h, if_neg Bool.false_ne_true]

theorem reach_closed {c : Chip} {a : Nat} (f : Chip → Chip) (h : windowClosed c a = true) : reach c a f = c := by
  rw [reach, h, if_pos rfl]

/-- A command of a register acts while its window answers. -/
theorem onChip_reach {s : State} {a : Nat} (f : Chip → Chip) (h : windowClosed s.chip a = false) :
    onChip s (fun c => reach c a f) = .next { s with chip := f s.chip } := by
  rw [onChip, reach_open f h]

/-! ### Tables of words -/

theorem tget_putPassive_self (t : Tab Word) (k : Nat) (w : Word) : tget 0#32 (putPassive t k w) k = w := by
  unfold putPassive
  split
  · next h => rw [tget_terase_self, h]; rfl
  · exact tget_tput_self _ _ _ _

theorem tget_putPassive_ne (t : Tab Word) {k a : Nat} (w : Word) (h : a ≠ k) : tget 0#32 (putPassive t k w) a = tget 0#32 t a := by
  unfold putPassive
  split
  · exact tget_terase_ne _ _ h
  · exact tget_tput_ne _ _ _ h

theorem stepAddr_still {c : Chip} {a : Nat} (hi : Nat) (h : immBit c a 16 = false) : stepAddr c a hi = c := by
  rw [stepAddr, h, if_neg Bool.false_ne_true]

theorem stepAddr_on {c : Chip} {a : Nat} (hi : Nat) (h : immBit c a 16 = true) :
    stepAddr c a hi = regPut c a (withField (regGet c a) hi 0 (imm c a hi 0 + 1)) := by rw [stepAddr, h, if_pos rfl]

theorem fieldOf_withField_low (w : Word) {v : Nat} (h : v < 2048) : fieldOf (withField w 10 0 v) 10 0 = v := by
  have := w.isLt
  simp only [fieldOf, withField, BitVec.toNat_ofNat, Nat.shiftRight_eq_div_pow]
  omega

/-! ### The passive calendar (R185, R187) -/

/-- The chip with a word of the passive calendar written. -/
def passivePut (c : Chip) (i : Nat) (w : Word) : Chip :=
  { c with tar := { c.tar with passive := putPassive c.tar.passive i w, pasState := .loading, pasCause := 0 } }

theorem tblWrite_word {c : Chip} (w : Word) (hst : c.tar.pasState ≠ .armed) (hact : immBit c Reg.TAR_TBL_ADDR 17 = false)
    (hstill : immBit c Reg.TAR_TBL_ADDR 16 = false) (hi : imm c Reg.TAR_TBL_ADDR 10 0 ≤ 1182) :
    tblWrite c w = passivePut c (imm c Reg.TAR_TBL_ADDR 10 0) w := by
  have hno : ¬ (immBit c Reg.TAR_TBL_ADDR 17 = true ∨ 1182 < imm c Reg.TAR_TBL_ADDR 10 0) := by
    rw [hact]
    rintro (h | h)
    · exact Bool.noConfusion h
    · omega
  rw [tblWrite]
  dsimp only
  rw [if_neg hst, if_neg hno]
  exact stepAddr_still (c := passivePut c (imm c Reg.TAR_TBL_ADDR 10 0) w) 10 hstill

theorem tblWrite_armed {c : Chip} (w : Word) (hst : c.tar.pasState = .armed) :
    tblWrite c w = stepAddr (raiseEvt c Reg.TAR_EVT 5) Reg.TAR_TBL_ADDR 10 := by
  simp only [tblWrite, hst, if_true]

theorem stepAddr_other (c : Chip) {a x : Nat} (hi : Nat) (h : x ≠ a) : regGet (stepAddr c a hi) x = regGet c x := by
  unfold stepAddr
  split
  · exact regGet_regPut_ne _ _ h
  · rfl

/-- The passive calendar armed (R187). -/
def passiveArmed (c : Chip) : Chip := { c with tar := { c.tar with pasState := .armed, pasCause := 0 } }

/-- The passive calendar that failed its check (R187). -/
def passiveFailed (c : Chip) : Chip :=
  { c with tar := { c.tar with pasState := .checkFailed, pasCause := armCause c (passiveImage c) c.tar.pasAt } }

theorem armPassive_good {c : Chip} (hst : c.tar.pasState ≠ .armed) (h : armCause c (passiveImage c) c.tar.pasAt = 0) :
    armPassive c = passiveArmed c := by
  simp only [armPassive, hst, if_false, h, if_true, passiveArmed]

theorem armPassive_bad {c : Chip} (hst : c.tar.pasState ≠ .armed) (h : armCause c (passiveImage c) c.tar.pasAt ≠ 0) :
    armPassive c = raiseEvt (passiveFailed c) Reg.TAR_EVT 4 := by
  simp only [armPassive, hst, if_false, h, passiveFailed]

theorem disarmPassive_armed {c : Chip} (hst : c.tar.pasState = .armed) :
    disarmPassive c = { c with tar := { c.tar with pasState := .loading } } := by rw [disarmPassive, if_pos hst]

/-! ### The descriptors (R194, R210, R362) -/

/-- The chip with a calendar loaded as the passive one. -/
def calendarLoaded (c : Chip) (at' : Nat) (ws : List Word) : Chip :=
  { c with tar := { c.tar with passive := imageTab ws, pasAt := at', pasState := .loading } }

/-- Both calendars have the same identification and the same check. -/
def sameCalendar (img ws : List Word) : Bool := calWord img 0 == calWord ws 0 && calWord img 1182 == calWord ws 1182

theorem loadCalendar_eq {c : Chip} (req : Requester) (at' : Nat) (ws : List Word) (hact : c.tar.active = none) :
    loadCalendar c req at' ws =
      if (c.tar.pasState == .armed && sameCalendar (passiveImage c) ws && c.tar.pasAt == at') || false then complete c req (ansReplay ansOk)
      else if c.tar.pasState = .armed then complete c req (ansReject .rule)
      else if (armPassive (calendarLoaded c at' ws)).tar.pasState = .armed then
        complete (armPassive (calendarLoaded c at' ws)) req ansOk
      else complete (armPassive (calendarLoaded c at' ws)) req
        { ansReject .verify with aux := (armPassive (calendarLoaded c at' ws)).tar.pasCause } := by
  simp only [loadCalendar, hact, sameCalendar, calendarLoaded]

/-- R187: the check of a calendar turns on the active calendar and on the time. -/
theorem armCause_congr {c d : Chip} (hact : d.tar.active = c.tar.active) (htb : d.tb = c.tb) (cal : List Word) (at' : Nat) :
    armCause d cal at' = armCause c cal at' := by
  have hid : calId d = calId c := by rw [calId, calId, hact]
  have hbill : billTime d = billTime c := by rw [billTime, billTime, htb]
  rw [armCause, armCause, hid, hbill]

theorem loadCalendar_rule {c : Chip} (req : Requester) (at' : Nat) {ws : List Word} (hact : c.tar.active = none)
    (hst : c.tar.pasState = .armed)
    (hother : ¬ (calWord (passiveImage c) 0 = calWord ws 0 ∧ calWord (passiveImage c) 1182 = calWord ws 1182)) :
    loadCalendar c req at' ws = complete c req (ansReject .rule) := by
  have hsame : sameCalendar (passiveImage c) ws = false := by
    rw [sameCalendar, Bool.and_eq_false_iff, beq_eq_false_iff_ne, beq_eq_false_iff_ne]
    exact not_and_or.1 hother
  rw [loadCalendar_eq _ _ _ hact, hsame, Bool.and_false, Bool.false_and, Bool.or_false, if_neg Bool.false_ne_true, if_pos hst]

theorem loadCalendar_arms {c : Chip} (req : Requester) {at' : Nat} {ws : List Word} (hact : c.tar.active = none)
    (hst : c.tar.pasState ≠ .armed) (hcause : armCause c (passiveImage (calendarLoaded c at' ws)) at' = 0) :
    loadCalendar c req at' ws = complete (passiveArmed (calendarLoaded c at' ws)) req ansOk := by
  have hgood : armPassive (calendarLoaded c at' ws) = passiveArmed (calendarLoaded c at' ws) := by
    refine armPassive_good (c := calendarLoaded c at' ws) (by simp [calendarLoaded]) ?_
    have hact' : (calendarLoaded c at' ws).tar.active = c.tar.active := by rw [calendarLoaded]
    have hat : (calendarLoaded c at' ws).tar.pasAt = at' := by rw [calendarLoaded]
    have htb : (calendarLoaded c at' ws).tb = c.tb := by rw [calendarLoaded]
    rw [armCause_congr hact' htb, hat]
    exact hcause
  have hno : (c.tar.pasState == .armed) = false := beq_eq_false_iff_ne.2 hst
  rw [loadCalendar_eq _ _ _ hact, hno, Bool.false_and, Bool.false_and, Bool.or_false, if_neg Bool.false_ne_true, if_neg hst, hgood]
  exact if_pos rfl

/-- Settles O15. -/
theorem tariffCommands : Obligations.TariffCommands := by
  unfold Obligations.TariffCommands
  refine ⟨?word, ?armed, ?read, ?arms, ?fails, ?disarms, ?clears, ?price, ?priceRead, ?publish, ?unstage, ?shut, ?priceShut, ?reset,
    ?loadRule, ?loadArms, ?control, ?publishes, ?resets⟩
  case word =>
    intro s w hopen hst hact hstill hi
    refine answers_chip (onChip_reach (fun c => tblWrite c w) hopen) ?_
    dsimp only
    rw [tblWrite_word w hst hact hstill hi]
    exact ⟨keptBut_chip.2 ((kept_set_tar (by decide)).2 (.refl _ _)), rfl, tget_putPassive_self _ _ _, fun k hk => tget_putPassive_ne _ _ hk, rfl⟩
  case armed =>
    intro s w hopen hst
    refine answers_chip (onChip_reach (fun c => tblWrite c w) hopen) ?_
    dsimp only
    rw [tblWrite_armed w hst]
    refine ⟨keptBut_chip.2 ((kept_stepAddr _ _ (by decide)).2 ((kept_raiseEvt _ _ (by decide)).2 (.refl _ _))), ?_⟩
    rw [immBit, stepAddr_other _ _ (by decide)]
    exact immBit_raiseEvt _ _ _ (by decide)
  case read =>
    intro s hopen hinc hlt
    have hexec : exec .calTblRead s = .next { s with
        chip := emit (stepAddr s.chip Reg.TAR_TBL_ADDR 10) (.readData Reg.TAR_TBL_DATA (tblRead s.chip)) } := by
      change execCalTblRead s = _
      rw [execCalTblRead, onChip, readActs, hopen, if_neg Bool.false_ne_true]
    refine answers_chip hexec ?_
    rw [stepAddr_on _ hinc]
    refine ⟨keptBut_chip.2 ((kept_emit _ (by decide)).2 ((kept_regPut _ _ (by decide)).2 (.refl _ _))), rfl,
      regsKept_regPut _ _ List.mem_cons_self, ?_⟩
    refine Eq.trans (congrArg (fun w => fieldOf w 10 0) (regGet_regPut_self s.chip Reg.TAR_TBL_ADDR _)) ?_
    exact fieldOf_withField_low _ (by omega)
  case arms =>
    intro s hopen hst hc
    refine answers_chip (onChip_reach armPassive hopen) ?_
    rw [armPassive_good hst hc]
    exact ⟨keptBut_chip.2 ((kept_set_tar (by decide)).2 (.refl _ _)), rfl, rfl, rfl, rfl⟩
  case fails =>
    intro s hopen hst hc
    refine answers_chip (onChip_reach armPassive hopen) ?_
    rw [armPassive_bad hst hc]
    have htar := raiseEvt_tar (passiveFailed s.chip) Reg.TAR_EVT 4
    refine ⟨keptBut_chip.2 ((kept_raiseEvt _ _ (by decide)).2 ((kept_set_tar (by decide)).2 (.refl _ _))), ?_, ?_,
      immBit_raiseEvt _ _ _ (by decide), ?_⟩
    all_goals
      dsimp only
      rw [htar, passiveFailed]
  case disarms =>
    intro s hopen hst
    refine answers_chip (onChip_reach disarmPassive hopen) ?_
    rw [disarmPassive_armed hst]
    exact ⟨keptBut_chip.2 ((kept_set_tar (by decide)).2 (.refl _ _)), rfl⟩
  case clears =>
    intro s hopen
    exact answers_chip (onChip_reach clearPassive hopen) ⟨keptBut_chip.2 ((kept_clearPassive (by decide)).2 (.refl _ _)), rfl, rfl, rfl⟩
  case price =>
    intro s w hopen hstill hi
    refine answers_chip (onChip_reach (fun c => priceWrite c w) hopen) ?_
    have heq : priceWrite s.chip w = { s.chip with
        tar := { s.chip.tar with staging := putPassive s.chip.tar.staging (imm s.chip Reg.TAR_PRICE_ADDR 5 0) w } } := by
      rw [priceWrite]
      dsimp only
      rw [if_pos hi]
      exact stepAddr_still 5 hstill
    dsimp only
    rw [heq]
    exact ⟨keptBut_chip.2 ((kept_set_tar (by decide)).2 (.refl _ _)), tget_putPassive_self _ _ _, rfl⟩
  case priceRead =>
    intro s hopen hstill
    have hexec : exec .priceDataRead s = .next { s with
        chip := emit s.chip (.readData Reg.TAR_PRICE_DATA (tget 0#32 s.chip.tar.staging (imm s.chip Reg.TAR_PRICE_ADDR 5 0))) } := by
      change execPriceDataRead s = _
      rw [execPriceDataRead, onChip, readActs, hopen, if_neg Bool.false_ne_true]
      dsimp only
      rw [stepAddr_still _ hstill]
    exact answers_chip hexec ⟨keptBut_chip.2 ((kept_emit _ (by decide)).2 (.refl _ _)), rfl⟩
  case publish =>
    intro s hopen
    exact answers_chip (onChip_reach (fun c => publishPrices c (imm c Reg.TAR_PRICE_ADDR 11 8) (stagingWords c)) hopen)
      ⟨keptBut_chip.2 ((kept_publishPrices _ _ (by decide)).2 (.refl _ _)), tget_tput_self _ _ _ _, rfl⟩
  case unstage =>
    intro s hopen
    exact answers_chip (onChip_reach (fun c => { c with tar := { c.tar with staging := [] } }) hopen)
      ⟨keptBut_chip.2 ((kept_set_tar (by decide)).2 (.refl _ _)), rfl⟩
  case shut =>
    intro s w hclosed
    change execCalTblWrite w s = _
    rw [execCalTblWrite, onChip, reach_closed _ hclosed]
  case priceShut =>
    intro s hclosed
    have hexec : exec .priceDataRead s = .next { s with
        chip := emit s.chip (.readData Reg.TAR_PRICE_DATA 0#32) } := by
      change execPriceDataRead s = _
      rw [execPriceDataRead, onChip, readActs, hclosed, if_pos rfl]
    exact answers_chip hexec ⟨keptBut_chip.2 ((kept_emit _ (by decide)).2 (.refl _ _)), rfl⟩
  case reset =>
    intro s hopen
    exact answers_chip (onChip_reach (fun c => { c with tar := { c.tar with mdPending := true } }) hopen)
      ⟨keptBut_chip.2 ((kept_set_tar (by decide)).2 (.refl _ _)), rfl⟩
  case loadRule =>
    intro s req at' ws hp hlen hst hact hother
    refine replies_perform (e := begun s.chip req 0x0302) rfl hp ?_ rfl
    dsimp only
    rw [if_pos hlen]
    refine loadCalendar_rule req at' ?_ ?_ ?_
    · rw [begun_tar]; exact hact
    · rw [begun_tar]; exact hst
    · rw [passiveImage, begun_tar]; exact hother
  case loadArms =>
    intro s req at' ws hp hlen hst hact hc
    refine replies_perform (e := passiveArmed (calendarLoaded (begun s.chip req 0x0302) at' ws)) rfl hp ?_ ?_
    · dsimp only
      rw [if_pos hlen]
      refine loadCalendar_arms req ?_ ?_ ?_
      · rw [begun_tar]; exact hact
      · rw [begun_tar]; exact hst
      · rw [armCause_congr (c := s.chip) (by rw [begun_tar]) (begun_tb _ _ _), passiveImage, calendarLoaded]
        rw [passiveImage] at hc
        exact hc
    · refine ⟨(kept_set_tar (by decide)).2 ((kept_set_tar (by decide)).2 (.refl _ _)), ?_⟩
      simp only [passiveArmed, calendarLoaded, begun_tar, hact, and_self]
  case control =>
    intro s req hp
    exact replies_perform (e := clearPassive (begun s.chip req 0x0303)) rfl hp rfl
      ⟨(kept_clearPassive (by decide)).2 (.refl _ _), rfl, rfl⟩
  case publishes =>
    intro s req n ws hp hn hlen
    refine replies_perform (e := publishPrices (begun s.chip req 0x0304) n ws) rfl hp ?_
      ⟨(kept_publishPrices _ _ (by decide)).2 (.refl _ _), tget_tput_self _ _ _ _, rfl⟩
    dsimp only
    rw [if_neg (Nat.not_le.2 hn), if_pos hlen]
  case resets =>
    intro s req cr hp hlast
    have hexec : exec (.mdReset req cr) s = .next { s with
        chip := { begun s.chip req 0x0305 with tar := { (begun s.chip req 0x0305).tar with
          mdPending := true, mdReqs := (begun s.chip req 0x0305).tar.mdReqs ++ [{ owner := some req, creq := cr }] } } } := by
      change execMdReset req cr s = _
      rw [execMdReset, perform_of_performs _ _ _ _ _ hp]
      dsimp only
      rw [if_neg (by rw [begun_tar]; exact Nat.not_lt.2 hlast)]
    refine answers_chip hexec ⟨storesKept_chip s _, (kept_set_tar (by decide)).2 (.refl _ _), rfl, ?_⟩
    dsimp only
    rw [begun_tar]

end Sys2Proof
end

section
/-! PROOFS. The seal, the legal log, its signatures, its display and what it exports. -/

namespace Sys2Proof
open Machine

@[simp] theorem begun_leg (c : Chip) (req : Requester) (op : Nat) : (begun c req op).leg = c.leg := by cases req <;> rfl

/-! ### The legal log (R223 to R226) -/

theorem tfind_tput_self {α : Type} (t : Tab α) (k : Nat) (v : α) : tfind (tput t k v) k = some v :=
  tfind_tinsert_self _ k v fun e he => ((mem_terase t k e).1 he).2

theorem legEntryOf_put {c : Chip} {n : Nat} {e : LegEntry} (hlog : ∃ t, c.leg.log = tput t (legSlot n) e) (hseq : e.seq = n)
    (hw : e.whole = true) : legEntryOf c n = some e := by
  obtain ⟨t, hlog⟩ := hlog
  rw [legEntryOf, hlog, tfind_tput_self]
  exact if_pos ⟨hseq, hw⟩

/-- The chip with an entry in the log. -/
def entryPut (c : Chip) (e : LegEntry) : Chip :=
  { c with leg := { c.leg with log := tput c.leg.log (legSlot e.seq) e, nextSeq := e.seq + 1, chain := entryChain c e } }

/-- FULL and HARDFULL only are left to raise once an entry is in the log. -/
theorem putEntry_entry (c : Chip) (k : LegCause) : ChipKeptBut [.regs, .host, .out] (entryPut c (newEntry c k)) (putEntry c k) := by
  simp +decide only [putEntry, entryPut, kept_ite, kept_raiseEvt, kept_refl, ite_self]

/-- The chip with the oldest cause taken. -/
def causeTaken (c : Chip) (rest : List LegCause) : Chip := { c with leg := { c.leg with causes := rest } }

theorem writeEntry_plain {c : Chip} {k : LegCause} {rest : List LegCause} (hc : c.leg.causes = k :: rest) (hr : c.leg.running = true)
    (hfull : logHardFull c = false) (hgap : c.leg.gap = none) (hctx : k.ctx = none) :
    writeEntry c = putEntry (causeTaken c rest) k := by
  simp only [writeEntry, hc, hr, hfull, hgap, hctx, Bool.not_true, Bool.false_eq_true, if_false, causeTaken]

theorem writeEntry_lost {c : Chip} {k : LegCause} {rest : List LegCause} (hc : c.leg.causes = k :: rest) (hr : c.leg.running = true)
    (hfull : logHardFull c = true) : writeEntry c = loseEntry (causeTaken c rest) k := by
  simp only [writeEntry, hc, hr, hfull, Bool.not_true, Bool.false_eq_true, if_false, if_true, causeTaken]

/-! ### The seal (R214, R216) -/

/-- The seal found open, and counted. -/
def sealOpened (c : Chip) : Chip := { c with leg := { c.leg with sealOpen := true, sealCnt := sat 65535 (c.leg.sealCnt + 1) } }

/-- The cause that the running core logs of its seal. -/
theorem sealEntry_running {c : Chip} (h : c.leg.running = true) : ∃ k : LegCause, k.typ = tySeal ∧
    sealEntry c = { c with leg := { c.leg with causes := c.leg.causes ++ [k] } } := by
  rw [sealEntry, legalEntry, if_pos h]
  exact ⟨_, rfl, rfl⟩

theorem sealOpens_running {c : Chip} (ho : c.leg.sealOpen = false) (hr : c.leg.running = true) :
    sealOpens c = raiseEvt (sealEntry (sealOpened c)) Reg.LEG_EVT 0 := by
  simp only [sealOpens, ho, hr, Bool.not_true, Bool.or_self, Bool.false_eq_true, if_false, sealOpened]

theorem seal_still {c : Chip} (hr : c.leg.running = false) : sealOpens c = c ∧ sealCloses c = c := by
  constructor
  · simp only [sealOpens, hr, Bool.not_false, Bool.or_true, if_true]
  · simp only [sealCloses, hr, Bool.and_false, Bool.false_eq_true, if_false]

theorem sealCloses_running {c : Chip} (ho : c.leg.sealOpen = true) (hr : c.leg.running = true) : ∃ d : Chip,
    sealCloses c = sealEntry d ∧ ChipKeptBut [.leg] c d ∧ d.leg.sealOpen = false ∧ d.leg.running = true ∧ d.leg.causes = c.leg.causes ∧
      d.leg.sealCnt = c.leg.sealCnt ∧ d.leg.recalLanes = [] ∧ d.leg.log = c.leg.log := by
  rw [sealCloses, ho, hr, Bool.and_self, if_pos rfl]
  exact ⟨_, rfl, (kept_set_leg (by decide)).2 (.refl _ _), rfl, hr, rfl, rfl, rfl, rfl⟩

/-! ### Signatures (R228, R229) -/

theorem signDone_legal {c : Chip} {n i : Nat} (root : BitVec 256) (h : c.tru.signNow = some (.legal n, i)) : ∃ d : Chip,
    signDone root c = legalSigned d n i ∧ ChipKeptBut [.tru] c d ∧ d.tru.signNow = none ∧ d.tru.sigsMade = c.tru.sigsMade + 1 := by
  rw [signDone, h]
  exact ⟨_, rfl, (kept_set_tru (by decide)).2 (.refl _ _), rfl, rfl⟩

/-- The chip with an entry signed. -/
def entrySigned (c : Chip) (n i : Nat) (e : LegEntry) : Chip := { c with leg := { c.leg with
  log := tput c.leg.log (legSlot n) { e with signed := true, sigIndex := i },
  sigRing := ((n, i) :: c.leg.sigRing).take 512, signedSeq := max c.leg.signedSeq n } }

theorem legalSigned_entry {c : Chip} {n : Nat} {e : LegEntry} (i : Nat) (h : legEntryOf c n = some e) :
    legalSigned c n i = entrySigned c n i e := by
  rw [legalSigned, h]
  rfl

theorem legEntryOf_spec {c : Chip} {n : Nat} {e : LegEntry} (h : legEntryOf c n = some e) : e.seq = n ∧ e.whole = true := by
  unfold legEntryOf at h
  split at h
  · split at h
    · next hc => rw [← Option.some.inj h]; exact hc
    · cases h
  · cases h

theorem exec_legSignStart {s : State} {n : Nat} {ns : List Nat} (h : unsignedSeqs s.chip = n :: ns) (ha : signAllowed s.chip = true) :
    exec .legSignStart s = .next { s with
      chip := { s.chip with tru := { s.chip.tru with signQueue := s.chip.tru.signQueue ++ [.legal n] } } } := by
  change execLegSignStart s = _
  simp only [execLegSignStart, onChip, h, ha, if_true]

/-! ### The legal display (R231) -/

theorem length_asciiPad (n : Nat) (b : Byte) (bs : List Byte) : (asciiPad n b bs).length = n := by
  simp [asciiPad]

theorem length_pointLines (c : Chip) (m : Nat) : (pointLines c m).length = 64 := by
  unfold pointLines
  split
  · rw [List.length_map, length_asciiPad]
  · exact List.length_replicate

theorem length_legalDisplay (c : Chip) : (legalDisplay c).length = 640 := by
  have hident : (identLines c).length = 64 := by
    rw [identLines]
    simp only [List.length_append, legLine, length_asciiPad]
  have hpoints : ((List.range 8).flatMap (pointLines c)).length = 512 := by
    simp only [List.length_flatMap, length_pointLines, List.map_const', List.length_range, List.sum_replicate]
    rfl
  simp only [legalDisplay, List.length_append, hident, hpoints, sealLine, legLine, length_asciiPad]

/-- The display rebuilt, for the panel to show. -/
def displayBuilt (c : Chip) (bs : List Byte) : Chip :=
  takeFree { c with leg := { c.leg with display := bs, displayCrc := crc32 bs }, bp := { c.bp with waiting := true } }

theorem rebuildDisplay_running {c : Chip} (h : c.leg.running = true) : ∃ d : Chip,
    rebuildDisplay c = displayBuilt d (legalDisplay c) ∧ ChipKeptBut [.regs, .host, .out] c d := by
  rw [rebuildDisplay, if_pos h]
  refine ⟨_, rfl, ?_⟩
  simp +decide only [kept_ite, kept_raiseEvt, kept_refl, ite_self]

/-! ### A load of the legal firmware (R219) -/

/-- The firmware image in the bytes of a load. -/
def imageIn (bs : List Byte) (v : Word) : LegalImage :=
  { version := v, image := (bs.drop 4).take (beNat (bs.take 4)), key := (bs.drop (4 + beNat (bs.take 4))).take 68 }

theorem legalLoad_eq (f : Fuses) (c : Chip) {bs : List Byte} (v : Word) (ok : Bool) (h : bs ≠ []) : legalLoad f c bs v ok =
    { emit c (.jtag (beBytes 4 c.leg.loadStatus)) with leg := { c.leg with
        loadStatus := legalLoadStatus f c bs ok,
        firmware := if legalLoadStatus f c bs ok = 0 then some (imageIn bs v) else c.leg.firmware } } := by
  have hst : legalLoadStatus f (emit c (.jtag (beBytes 4 c.leg.loadStatus))) bs ok = legalLoadStatus f c bs ok := rfl
  have hne : bs.isEmpty = false := by simpa using h
  rw [legalLoad]
  dsimp only
  rw [hne, if_neg Bool.false_ne_true, hst]
  split <;> rfl

/-! ### Exports and acknowledgements (R224, R229, R362) -/

theorem legEntryOf_begun (c : Chip) (req : Requester) (op n : Nat) : legEntryOf (begun c req op) n = legEntryOf c n := by
  cases req <;> rfl

theorem recordBytes_begun (root : BitVec 256) (c : Chip) (req : Requester) (op : Nat) (e : LegEntry) (i : Nat) (r : Bool) :
    recordBytes root (begun c req op) e i r = recordBytes root c e i r := by cases req <;> rfl

/-- A read of the log whose first entry has its signature held and whose next is not there yields one record. -/
theorem exportRun_one {root : BitVec 256} {c : Chip} {job : ExportJob} {n i room fuel : Nat} {e : LegEntry} (he : legEntryOf c n = some e)
    (hs : e.signed = true) (hr : c.leg.sigRing.find? (fun r => r.1 == n) = some (n, i)) (hnext : legEntryOf c (n + 1) = none)
    (hroom : 5741 + e.body.length ≤ room) :
    exportRun root c job (fuel + 2) n room [] = ([recordBytes root c e i false], none) := by
  have hfirst : exportAt root c job n room = .record (recordBytes root c e i false) := by
    simp only [exportAt, he, hs, hr, Bool.not_true, Bool.false_or, decide_eq_true_eq, Nat.not_lt.2 hroom, if_false]
  have hsecond : ∀ left, exportAt root c job (n + 1) left = .stop := fun left => by simp only [exportAt, hnext]
  rw [exportRun, hfirst]
  dsimp only
  rw [exportRun, hsecond]
  rfl

theorem ackLog_kept (c : Chip) (n : Nat) : ChipKeptBut [.leg, .sess] c (ackLog c n) ∧ (ackLog c n).leg = { c.leg with ack := n } ∧
    (ctxsIn c .awaiting = [] → (ackLog c n).sess = c.sess) := by
  have hkept : ChipKeptBut [.sess] { c with leg := { c.leg with ack := n } } (ackLog c n) := by
    simp +decide only [ackLog, kept_foldl, kept_tryFree, kept_refl, implies_true]
  refine ⟨ChipKeptBut.trans ((kept_set_leg (by decide)).2 (.refl _ _)) (hkept.mono (by decide)), hkept .leg (by decide), fun h => ?_⟩
  have hnone : ctxsIn { c with leg := { c.leg with ack := n } } .awaiting = [] := h
  rw [ackLog, hnone]
  rfl

/-- Settles O16. -/
theorem legalCommands : Obligations.LegalCommands := by
  unfold Obligations.LegalCommands
  refine ⟨?still, ?opens, ?closes, ?write, ?lost, ?start, ?signed, ?display, ?event, ?load, ?past, ?gone, ?record, ?ack, ?beyond⟩
  case still =>
    intro s hr
    obtain ⟨ho, hc⟩ := seal_still hr
    refine ⟨?_, ?_⟩
    · change onChip s sealOpens = _
      rw [onChip, ho]
    · change onChip s sealCloses = _
      rw [onChip, hc]
  case opens =>
    intro s ho hr
    obtain ⟨k, hk, hentry⟩ := sealEntry_running (c := sealOpened s.chip) hr
    have hleg := raiseEvt_leg (sealEntry (sealOpened s.chip)) Reg.LEG_EVT 0
    have hkept : ChipKeptBut [.leg, .regs, .host, .out] s.chip (raiseEvt (sealEntry (sealOpened s.chip)) Reg.LEG_EVT 0) :=
      (kept_raiseEvt _ _ (by decide)).2 ((kept_sealEntry (by decide)).2 ((kept_set_leg (by decide)).2 (.refl _ _)))
    have hevt := immBit_raiseEvt (sealEntry (sealOpened s.chip)) Reg.LEG_EVT 0 (by decide)
    refine answers_chip (d := sealOpens s.chip) rfl ?_
    rw [sealOpens_running ho hr]
    rw [hentry] at hleg
    rw [hentry] at hkept hevt ⊢
    refine ⟨keptBut_chip.2 hkept, ?_⟩
    dsimp only
    rw [hleg]
    exact ⟨rfl, ⟨k, rfl, hk⟩, sat_eq_min _ _, hevt, rfl⟩
  case closes =>
    intro s ho hr
    obtain ⟨d, heq, hkept, hopen, hrun, hcauses, hcnt, hlanes, hlog⟩ := sealCloses_running ho hr
    obtain ⟨k, hk, hentry⟩ := sealEntry_running hrun
    refine answers_chip (d := sealCloses s.chip) rfl ?_
    rw [heq, hentry]
    exact ⟨keptBut_chip.2 ((kept_set_leg (by decide)).2 hkept), hopen, ⟨k, congrArg (· ++ [k]) hcauses, hk⟩, hcnt, hlanes, hlog⟩
  case write =>
    intro s k rest hc hr hfull hgap hctx
    have hput := putEntry_entry (causeTaken s.chip rest) k
    have hleg := hput .leg (by decide)
    have hkept : ChipKeptBut [.leg, .regs, .host, .out] s.chip (putEntry (causeTaken s.chip rest) k) :=
      (kept_putEntry _ (by decide)).2 ((kept_set_leg (by decide)).2 (.refl _ _))
    refine answers_chip (d := writeEntry s.chip) rfl ?_
    rw [writeEntry_plain hc hr hfull hgap hctx]
    generalize putEntry (causeTaken s.chip rest) k = d at hleg hkept
    refine ⟨keptBut_chip.2 hkept, (congrArg Leg.causes hleg :), (congrArg Leg.nextSeq hleg :), newEntry (causeTaken s.chip rest) k, ?_, rfl, rfl, rfl, rfl,
      rfl, rfl, (congrArg Leg.chain hleg :)⟩
    exact legEntryOf_put ⟨s.chip.leg.log, (congrArg Leg.log hleg :)⟩ rfl rfl
  case lost =>
    intro s k rest hc hr hfull
    refine answers_chip (d := writeEntry s.chip) rfl ?_
    rw [writeEntry_lost hc hr hfull]
    exact ⟨keptBut_chip.2 ((kept_loseEntry _ (by decide)).2 ((kept_set_leg (by decide)).2 (.refl _ _))), rfl, rfl, rfl, rfl, rfl⟩
  case start =>
    intro s n ns h ha
    exact answers_chip (exec_legSignStart h ha) ⟨keptBut_chip.2 ((kept_set_tru (by decide)).2 (.refl _ _)), rfl⟩
  case signed =>
    intro s n i e hnow he
    obtain ⟨d, heq, hkept, hsign, hmade⟩ := signDone_legal s.fuses.root hnow
    have hleg : d.leg = s.chip.leg := hkept .leg (by decide)
    have hd : legEntryOf d n = some e := by rw [legEntryOf, hleg]; exact he
    obtain ⟨hseq, hwhole⟩ := legEntryOf_spec he
    refine answers_chip (d := signDone s.fuses.root s.chip) rfl ?_
    rw [heq, legalSigned_entry i hd]
    refine ⟨keptBut_chip.2 ((kept_set_leg (by decide)).2 (hkept.mono (by decide))), hsign, hmade, ?_, ?_, rfl⟩
    · exact congrArg (fun l : Leg => max l.signedSeq n) hleg
    · exact legEntryOf_put (e := { e with signed := true, sigIndex := i }) ⟨d.leg.log, rfl⟩ hseq hwhole
  case display =>
    intro s hr
    obtain ⟨d, heq, hkept⟩ := rebuildDisplay_running hr
    refine answers_chip (d := rebuildDisplay s.chip) rfl ?_
    rw [heq]
    have hall : ChipKeptBut [.leg, .bp, .freeCount, .regs, .host, .out] s.chip (displayBuilt d (legalDisplay s.chip)) := by
      refine (kept_takeFree (by decide)).2 ((kept_set_leg_bp (by decide)).2 (hkept.mono (by decide)))
    exact ⟨keptBut_chip.2 hall, length_legalDisplay s.chip, rfl, rfl, (congrArg Leg.log (hkept .leg (by decide)) :)⟩
  case event =>
    intro s hopen
    have hexec : exec .legEvtRead s = .next { s with
        chip := emit (regPut s.chip Reg.LEG_EVT 0) (.readData Reg.LEG_EVT (regGet s.chip Reg.LEG_EVT)) } := by
      change execLegEvtRead s = _
      rw [execLegEvtRead, onChip, readActs, hopen, if_neg Bool.false_ne_true]
    exact answers_chip hexec ⟨keptBut_chip.2 ((kept_emit _ (by decide)).2 ((kept_regPut _ _ (by decide)).2 (.refl _ _))), rfl,
      (regGet_regPut_self s.chip Reg.LEG_EVT 0 :), (regsKept_regPut (a := Reg.LEG_EVT) s.chip 0 List.mem_cons_self :)⟩
  case load =>
    intro s bs v ok hne
    refine answers_chip (d := legalLoad s.fuses s.chip bs v ok) rfl ?_
    rw [legalLoad_eq _ _ _ _ hne]
    exact ⟨keptBut_chip.2 ((kept_set_leg (by decide)).2 ((kept_emit _ (by decide)).2 (.refl _ _))), rfl, rfl, rfl⟩
  case past =>
    intro s req n len hp hn
    refine replies_perform (e := begun s.chip req 0x0306) rfl hp ?_ rfl
    have hb : (begun s.chip req 0x0306).leg.signedSeq < n := by rw [begun_leg]; exact hn
    rw [if_neg (by decide), if_pos hb]
  case gone =>
    intro s req n len hp hn hgone
    refine replies_perform (e := begun s.chip req 0x0306) rfl hp ?_ rfl
    have hb : ¬ (begun s.chip req 0x0306).leg.signedSeq < n := by rw [begun_leg]; exact Nat.not_lt.2 hn
    rw [if_neg (by decide), if_neg hb, legEntryOf_begun, hgone]
  case record =>
    intro s req n i len e hp hn he hs hring hnext hlen
    refine replies_perform (e := deliver (begun s.chip req 0x0306) req (recordBytes s.fuses.root s.chip e i false)) rfl hp ?_ rfl
    have hb : ¬ (begun s.chip req 0x0306).leg.signedSeq < n := by rw [begun_leg]; exact Nat.not_lt.2 hn
    obtain ⟨fuel, hfuel⟩ : ∃ fuel, len / 5741 + 1 = fuel + 2 := ⟨len / 5741 - 1, by omega⟩
    have hrun := exportRun_one (root := s.fuses.root) (c := begun s.chip req 0x0306)
      (job := { req := req, first := n, length := len, resigned := [] }) (n := n) (i := i) (room := len) (fuel := fuel) (e := e)
      (by rw [legEntryOf_begun]; exact he) hs (by rw [begun_leg]; exact hring) (by rw [legEntryOf_begun]; exact hnext) hlen
    rw [← hfuel, recordBytes_begun] at hrun
    generalize recordBytes s.fuses.root s.chip e i false = bs at hrun
    dsimp only
    rw [if_neg (by decide), if_neg hb, legEntryOf_begun, he]
    dsimp only
    rw [advanceExport, hrun]
    simp only [List.flatten_cons, List.flatten_nil, List.append_nil, List.length_cons, List.length_nil, List.isEmpty_cons,
      Bool.false_eq_true, if_false, Nat.zero_add, Nat.add_sub_cancel]
    rfl
  case ack =>
    intro s req n hp hack hn
    refine replies_perform (e := ackLog (begun s.chip req 0x0307) n) rfl hp ?_ (ackLog_kept _ n)
    rw [begun_leg, if_neg (Nat.not_lt.2 hn), if_neg (Nat.not_le.2 hack)]
  case beyond =>
    intro s req n hp hn
    refine replies_perform (e := begun s.chip req 0x0307) rfl hp ?_ rfl
    rw [begun_leg, if_pos hn]

end Sys2Proof
end

section
/-! PROOFS. Which outlet an operation changes (R257), in the order of the model: what is done for one outlet leaves the
others. -/

namespace Sys2Proof

open Machine

variable {o : Nat} {c d : Chip}

theorem othersKept_of {e : Chip} (h : OthersKept o d e) : OthersKept o c e ↔ OthersKept o c d :=
  forall₂_congr fun p hp => by rw [h p hp]

theorem othersKept_ite (p : Prop) [Decidable p] (a b : Chip) :
    OthersKept o c (if p then a else b) ↔ (if p then OthersKept o c a else OthersKept o c b) := by
  split <;> rfl

theorem othersKept_set_tb (x : Timebase) : OthersKept o c { d with tb := x } ↔ OthersKept o c d := .rfl
theorem othersKept_set_acc (x : AccBlock) : OthersKept o c { d with acc := x } ↔ OthersKept o c d := .rfl
theorem othersKept_set_saf (x : Saf) : OthersKept o c { d with saf := x } ↔ OthersKept o c d := .rfl
theorem othersKept_set_nib (x : Nib) : OthersKept o c { d with nib := x } ↔ OthersKept o c d := .rfl
theorem othersKept_set_pwd (x : Pwd) : OthersKept o c { d with pwd := x } ↔ OthersKept o c d := .rfl

theorem othersKept_emit (e : Emit) : OthersKept o c (emit d e) ↔ OthersKept o c d := .rfl
theorem othersKept_takeFree : OthersKept o c (takeFree d) ↔ OthersKept o c d := .rfl
theorem othersKept_setCoil (p : Nat) (k : Coil) : OthersKept o c (setCoil d p k) ↔ OthersKept o c d := .rfl
theorem othersKept_setCtx (x : Nat) (k : Machine.Context) : OthersKept o c (setCtx d x k) ↔ OthersKept o c d := .rfl
theorem othersKept_unbook (p : BookKind → Bool) : OthersKept o c (unbook d p) ↔ OthersKept o c d := .rfl

theorem othersKept_raiseEvt (a b : Nat) : OthersKept o c (raiseEvt d a b) ↔ OthersKept o c d :=
  othersKept_congr o (raiseEvt_outl d a b)

theorem othersKept_outEvt (p b : Nat) : OthersKept o c (outEvt d p b) ↔ OthersKept o c d := othersKept_raiseEvt _ b

theorem othersKept_blotEvent (code sev data : Nat) : OthersKept o c (blotEvent d code sev data) ↔ OthersKept o c d :=
  othersKept_congr o (blotEvent_outl d code sev data)

theorem othersKept_completeOpt (r : Option Requester) (a : Answer) :
    OthersKept o c (completeOpt d r a) ↔ OthersKept o c d := othersKept_congr o (completeOpt_outl d r a)

theorem othersKept_releaseCoil (p : Nat) : OthersKept o c (releaseCoil d p) ↔ OthersKept o c d :=
  othersKept_congr o ((kept_releaseCoil p (by decide)).2 (.refl [.pwd] d) .outl (by decide))

theorem othersKept_atAngle (a : Nat) : OthersKept o c (atAngle d a) ↔ OthersKept o c d := .rfl

theorem othersKept_sendCan (b typ dst : Nat) (data : List Byte) :
    OthersKept o c (sendCan d b typ dst data) ↔ OthersKept o c d :=
  othersKept_of fun p _ => outletOf_of_outlets (sendCan_outlets d b typ dst data) p

theorem othersKept_stopConverters : OthersKept o c (stopConverters d o) ↔ OthersKept o c d :=
  othersKept_of fun p hp => (outletOf_stopConverters d o p).trans (outletOf_setOutlet_ne d _ hp)

/-- R259: the setpoints of an outlet are sent, and no outlet's record changes. -/
theorem outletOf_sendSetpoints (p : Nat) : outletOf (sendSetpoints d o) p = outletOf d p := by
  unfold sendSetpoints
  dsimp only
  refine outletOf_of_outlets (foldl_same (fun d : Chip => d.outl.outlets) (fun d m => ?_) _ d) p
  obtain ⟨b, a⟩ := m
  exact sendCan_outlets d b 0x01 a _

theorem othersKept_sendSetpoints (q : Nat) : OthersKept o c (sendSetpoints d q) ↔ OthersKept o c d :=
  othersKept_of fun p _ => outletOf_sendSetpoints p

theorem othersKept_commandCoil (on : Bool) : OthersKept o c (commandCoil d o on) ↔ OthersKept o c d := by
  simp only [commandCoil, othersKept_ite, othersKept_setCoil, othersKept_releaseCoil, othersKept_modOutlet, ite_self]

theorem othersKept_processorOff : OthersKept o c (processorOff d o) ↔ OthersKept o c d := by
  simp only [processorOff, othersKept_set_saf, othersKept_commandCoil, othersKept_unbook]

theorem othersKept_releaseForOpening : OthersKept o c (releaseForOpening d o) ↔ OthersKept o c d := by
  simp only [releaseForOpening, othersKept_ite, othersKept_stopConverters, othersKept_modOutlet, othersKept_processorOff,
    ite_self]

theorem othersKept_book (b : Booking) : OthersKept o c (book d b).1 ↔ OthersKept o c d :=
  othersKept_congr o ((kept_book b (by decide)).2 (.refl [.regs, .tb, .host, .out] d) .outl (by decide))

theorem othersKept_bookCoil {k : BookKind} {t : Nat} {now : Chip → Chip}
    (hnow : ∀ e, OthersKept o c (now e) ↔ OthersKept o c e) : OthersKept o c (bookCoil d k t now) ↔ OthersKept o c d := by
  have hbook := othersKept_book (o := o) (c := c) (d := d) { cycle := t / 65536, angle := t % 65536, kind := k, period := 0 }
  unfold bookCoil
  split
  next e heq => rw [heq] at hbook; exact (hnow e).trans hbook
  next e _ _ heq => rw [heq] at hbook; exact hbook

theorem othersKept_driveLock (lock : Bool) : OthersKept o c (driveLock d o lock) ↔ OthersKept o c d := by
  simp only [driveLock, othersKept_ite, othersKept_postPwd, othersKept_modOutlet, ite_self]

theorem othersKept_dropAuth (a : Answer) : OthersKept o c (dropAuth d o a) ↔ OthersKept o c d :=
  othersKept_of (dropAuth_othersKept d o a)

theorem othersKept_pilotSteady : OthersKept o c (pilotSteady d o) ↔ OthersKept o c d := by
  simp only [pilotSteady, othersKept_set_pwd, othersKept_modOutlet]

theorem othersKept_pilotDuty (duty : Nat) : OthersKept o c (pilotDuty d o duty) ↔ OthersKept o c d := by
  simp only [pilotDuty, othersKept_set_pwd, othersKept_modOutlet]

theorem othersKept_stopSession (p : Nat) (flags : BitVec 16) : OthersKept o c (stopSession d p flags) ↔ OthersKept o c d :=
  othersKept_congr o ((kept_stopSession p flags (by decide)).2 (.refl [.acc, .sess] d) .outl (by decide))

theorem othersKept_enterFinishing : OthersKept o c (enterFinishing d o) ↔ OthersKept o c d := by
  simp only [enterFinishing, othersKept_ite, othersKept_driveLock, othersKept_pilotSteady, othersKept_modOutlet,
    othersKept_dropAuth, ite_self]

theorem othersKept_enterUnavailable : OthersKept o c (enterUnavailable d o) ↔ OthersKept o c d :=
  othersKept_of (enterUnavailable_outlet d o).1

theorem othersKept_enterFaulted (flags : BitVec 16) : OthersKept o c (enterFaulted d o flags) ↔ OthersKept o c d := by
  simp only [enterFaulted, othersKept_ite, othersKept_driveLock, othersKept_pilotSteady, othersKept_modOutlet,
    othersKept_dropAuth, othersKept_stopSession, othersKept_stopConverters, othersKept_processorOff, ite_self]

theorem othersKept_tryIdle : OthersKept o c (tryIdle d o) ↔ OthersKept o c d := by
  simp only [tryIdle, othersKept_ite, othersKept_enterUnavailable, othersKept_pilotSteady, othersKept_modOutlet, ite_self]

end Sys2Proof

namespace Sys2Proof

open Machine

variable {o : Fin 8} {c d : Chip}

theorem othersKept_enterOpening (why : StopWhy) : OthersKept o.val c (enterOpening d o why) ↔ OthersKept o.val c d := by
  simp only [enterOpening, othersKept_ite, othersKept_sendSetpoints, othersKept_modOutlet, othersKept_releaseForOpening,
    othersKept_outEvt, othersKept_bookCoil (fun _ => othersKept_releaseForOpening), ite_self]

theorem othersKept_stopOutlet (flags : BitVec 16) : OthersKept o.val c (stopOutlet d o flags) ↔ OthersKept o.val c d := by
  unfold stopOutlet
  dsimp only
  (repeat' split) <;> simp only [othersKept_enterOpening, othersKept_modOutlet, othersKept_enterFinishing,
    othersKept_stopSession, othersKept_processorOff]

theorem othersKept_commandClose : OthersKept o.val c (commandClose d o.val) ↔ OthersKept o.val c d := by
  simp only [commandClose, othersKept_ite, othersKept_commandCoil, othersKept_modOutlet, ite_self]

theorem othersKept_enterClosing : OthersKept o.val c (enterClosing d o) ↔ OthersKept o.val c d := by
  simp only [enterClosing, othersKept_ite, othersKept_bookCoil (fun _ => othersKept_commandClose), othersKept_commandClose,
    othersKept_modOutlet, ite_self]

theorem othersKept_startClosing : OthersKept o.val c (startClosing d o) ↔ OthersKept o.val c d := by
  unfold startClosing
  dsimp only
  split_ifs
  · split
    · split
      · exact othersKept_enterClosing
      · exact (othersKept_set_saf (d := modOutlet d o.val _) _).trans (othersKept_modOutlet ..)
    · rfl
  · rfl

theorem othersKept_tryClose : OthersKept o.val c (tryClose d o) ↔ OthersKept o.val c d := by
  simp only [tryClose, othersKept_ite, othersKept_startClosing, ite_self]

theorem othersKept_updateIlim : OthersKept o.val c (updateIlim d o.val) ↔ OthersKept o.val c d := by
  have ho : Fin.ofNat 8 o.val = o := Fin.ext (Nat.mod_eq_of_lt o.isLt)
  unfold updateIlim
  dsimp only
  rw [ho]
  (repeat' split) <;>
    simp only [othersKept_tryClose, othersKept_pilotDuty, othersKept_pilotSteady, othersKept_modOutlet]

theorem othersKept_enterAuthorised (x : Option Nat) : OthersKept o.val c (enterAuthorised d o x) ↔ OthersKept o.val c d := by
  simp only [enterAuthorised, othersKept_updateIlim, othersKept_set_saf, othersKept_modOutlet]

theorem othersKept_startFailed : OthersKept o.val c (startFailed d o) ↔ OthersKept o.val c d := by
  simp only [startFailed, othersKept_ite, othersKept_enterFinishing, othersKept_modOutlet, othersKept_dropAuth,
    othersKept_outEvt, ite_self]

theorem othersKept_plugIn : OthersKept o.val c (plugIn d o) ↔ OthersKept o.val c d := by
  simp only [plugIn, othersKept_ite, othersKept_pilotDuty, othersKept_pilotSteady, othersKept_driveLock, ite_self]

/-- R198: the session of an outlet starts with records of its own, not of an outlet. -/
theorem startSession_outl {c d : Chip} {o pt x : Nat} {ref : BitVec 128} {host : Bool} {tag : Word}
    (h : startSession c o pt ref host tag = some (x, d)) : d.outl = c.outl :=
  (kept_startSession (ps := [.regs, .acc, .sess, .host, .fab, .repl, .out, .freeCount]) h (by decide)).2 (.refl _ c) .outl (by decide)

theorem othersKept_tryStart : OthersKept o.val c (tryStart d o) ↔ OthersKept o.val c d := by
  unfold tryStart
  dsimp only
  split
  · rfl
  · split_ifs
    · rfl
    · simp only [othersKept_enterAuthorised, othersKept_modOutlet]
    · simp only [othersKept_startFailed, othersKept_raiseEvt]
    · split
      · simp only [othersKept_startFailed, othersKept_raiseEvt]
      next heq =>
        simp only [othersKept_enterAuthorised, othersKept_completeOpt, othersKept_emit, othersKept_modOutlet]
        exact othersKept_congr _ (startSession_outl heq)

end Sys2Proof
end

section
/-! PROOFS. How an outlet is de-energised: its coil and permission, OPENING, FAULTED and a trip (R257, R271, R289). -/

namespace Sys2Proof

open Machine

/-! ### The coil -/

theorem CoilOff.congr {o : Nat} {d e : Chip} (h : CoilOff d o) (hpwd : coilOf e o = coilOf d o)
    (hpermit : e.saf.permit = d.saf.permit) : CoilOff e o := by
  rw [CoilOff, hpwd, hpermit]
  exact h

theorem CoilOff.of_permit {o : Nat} {d e : Chip} (h : CoilOff d o) (hpwd : e.pwd = d.pwd)
    (hpermit : e.saf.permit = d.saf.permit) : CoilOff e o := h.congr (coilOf_of_pwd hpwd o) hpermit

/-- A released coil stays as it is through what changes no coil and no permission. -/
theorem CoilOff.of_kept {ps : List Part} {o : Nat} {d e : Chip} (h : CoilOff d o) (hk : ChipKeptBut ps d e)
    (hp : Part.pwd ∉ ps := by decide) (hs : Part.saf ∉ ps := by decide) : CoilOff e o :=
  h.congr (coilOf_of_pwd (hk .pwd hp) o) (congrArg Saf.permit (hk .saf hs))

theorem releaseCoil_cmd (c : Chip) (o : Nat) : (coilOf (releaseCoil c o) o).cmd = (coilOf c o).cmd := by
  unfold releaseCoil
  dsimp only
  split
  · rw [coilOf_setCoil_same]
  · rfl

theorem coilOff_commandCoil (c : Chip) (o : Nat) :
    (coilOf (commandCoil c o false) o).driven = false ∧ (coilOf (commandCoil c o false) o).cmd = false :=
  ⟨releaseCoil_released _ o, (releaseCoil_cmd _ o).trans (congrArg Coil.cmd (coilOf_setCoil_same c o _))⟩

theorem coilOff_processorOff (c : Chip) {o : Nat} (ho : o < 8) : CoilOff (processorOff c o) o := by
  obtain ⟨hdriven, hcmd⟩ := coilOff_commandCoil (unbook c fun k => match k with
    | .coilClose n => n.val == o
    | .coilOpen n => n.val == o
    | _ => false) o
  refine ⟨hdriven, hcmd, ?_⟩
  unfold processorOff
  dsimp only
  rw [getLsbD_setBitV _ _ _ ho, if_pos rfl]

theorem coilOf_driveLock (c : Chip) (o p : Nat) (lock : Bool) : coilOf (driveLock c o lock) p = coilOf c p := by
  unfold driveLock
  dsimp only
  (repeat' split) <;> rfl

theorem coilOf_pilotSteady (c : Chip) (o p : Nat) : coilOf (pilotSteady c o) p = coilOf c p := rfl

theorem permit_driveLock (c : Chip) (o : Nat) (lock : Bool) : (driveLock c o lock).saf = c.saf :=
  (kept_driveLock o lock (by decide)).2 (.refl [.outl, .pwd] c) .saf (by decide)

/-! ### The record of the outlet -/

theorem outletOf_unbook (c : Chip) (p : BookKind → Bool) (q : Nat) : outletOf (unbook c p) q = outletOf c q := rfl

theorem outletOf_commandCoil_off (c : Chip) (o : Nat) :
    outletOf (commandCoil c o false) o = { outletOf c o with timing := false } := by
  have hk : (releaseCoil (modOutlet (setCoil c o { coilOf c o with cmd := false }) o fun x => { x with timing := false }) o).outl =
      _ := (kept_releaseCoil o (by decide)).2 (.refl [.pwd] _) .outl (by decide)
  exact (outletOf_of_outl hk o).trans (outletOf_modOutlet_same _ o _)

theorem outletOf_processorOff (c : Chip) (o : Nat) :
    outletOf (processorOff c o) o = { outletOf c o with timing := false } :=
  outletOf_commandCoil_off _ o

theorem outletOf_stopConverters_same (c : Chip) (o : Nat) :
    outletOf (stopConverters c o) o = { outletOf c o with setMode := 0, setMa := 0, setW := 0 } :=
  (outletOf_stopConverters c o o).trans (outletOf_modOutlet_same c o _)

theorem outletOf_pilotSteady_same (c : Chip) (o : Nat) :
    outletOf (pilotSteady c o) o = { outletOf c o with pwm := false, duty := 0 } :=
  outletOf_modOutlet_same c o (fun x => { x with pwm := false, duty := 0 })

/-! ### OPENING -/

theorem coilOff_releaseForOpening (c : Chip) {o : Nat} (ho : o < 8) : CoilOff (releaseForOpening c o) o := by
  unfold releaseForOpening
  dsimp only
  have hoff := coilOff_processorOff c ho
  split
  · exact hoff.of_kept ((kept_stopConverters o (by decide)).2 ((kept_modOutlet _ _ (by decide)).2 (.refl [.outl, .out] _)))
  · exact hoff.of_kept ((kept_modOutlet _ _ (by decide)).2 (.refl [.outl, .out] _))

theorem releaseForOpening_same (c : Chip) (o : Nat) :
    (outletOf (releaseForOpening c o) o).state = .weldCheck ∧ (outletOf (releaseForOpening c o) o).why = (outletOf c o).why := by
  unfold releaseForOpening
  dsimp only
  split
  · rw [outletOf_stopConverters_same, outletOf_modOutlet_same, outletOf_processorOff]
    exact ⟨rfl, rfl⟩
  · rw [outletOf_modOutlet_same, outletOf_processorOff]
    exact ⟨rfl, rfl⟩

/-- What OPENING needs of the way it is taken: the reason stays, and the outlet waits or is released. -/
def OpensBy (o : Nat) (why : StopWhy) (d : Chip) : Prop :=
  (outletOf d o).why = why ∧ ((outletOf d o).state = .opening ∨ ((outletOf d o).state = .weldCheck ∧ CoilOff d o))

theorem opensBy_releaseForOpening {c : Chip} {o : Nat} (ho : o < 8) {why : StopWhy} (h : (outletOf c o).why = why) :
    OpensBy o why (releaseForOpening c o) := by
  obtain ⟨hstate, hwhy⟩ := releaseForOpening_same c o
  exact ⟨hwhy.trans h, .inr ⟨hstate, coilOff_releaseForOpening c ho⟩⟩

theorem book_outl (c : Chip) (b : Booking) : (book c b).1.outl = c.outl :=
  (kept_book b (by decide)).2 (.refl [.regs, .tb, .host, .out] c) .outl (by decide)

theorem opensBy_bookCoil {c : Chip} {o : Nat} (ho : o < 8) {why : StopWhy} (k : BookKind) (t : Nat)
    (hwhy : (outletOf c o).why = why) (hstate : (outletOf c o).state = .opening) :
    OpensBy o why (bookCoil c k t fun c => releaseForOpening c o) := by
  have hbook := outletOf_of_outl (book_outl c { cycle := t / 65536, angle := t % 65536, kind := k, period := 0 }) o
  unfold bookCoil
  split
  next heq => rw [heq] at hbook; exact opensBy_releaseForOpening ho ((congrArg OutletSt.why hbook).trans hwhy)
  next heq =>
    rw [heq] at hbook
    exact ⟨(congrArg OutletSt.why hbook).trans hwhy, .inl ((congrArg OutletSt.state hbook).trans hstate)⟩

theorem opensBy_enterOpening (c : Chip) (o : Fin 8) (why : StopWhy) : OpensBy o.val why (enterOpening c o why) := by
  have hwhy := congrArg OutletSt.why
    (outletOf_modOutlet_same c o.val fun x => { x with state := .opening, why := why, powerStart := false })
  have hstate := congrArg OutletSt.state
    (outletOf_modOutlet_same c o.val fun x => { x with state := .opening, why := why, powerStart := false })
  unfold enterOpening
  dsimp only
  split_ifs
  · rw [OpensBy, outletOf_sendSetpoints, outletOf_modOutlet_same]
    exact ⟨hwhy, .inl hstate⟩
  · refine opensBy_releaseForOpening o.isLt ?_
    exact (congrArg OutletSt.why (outletOf_of_outl (raiseEvt_outl _ _ _) o.val)).trans hwhy
  · exact opensBy_bookCoil o.isLt _ _ hwhy hstate
  · exact opensBy_bookCoil o.isLt _ _ hwhy hstate
  · exact opensBy_releaseForOpening o.isLt hwhy

/-- R257: an outlet opens as the model's OPENING does. -/
theorem opens_enterOpening (c : Chip) (o : Fin 8) (why : StopWhy) : Opens c (enterOpening c o why) o.val why :=
  ⟨(kept_enterOpening o why (by decide)).2 (.refl _ c), (othersKept_enterOpening why).2 (.refl _ c),
    opensBy_enterOpening c o why⟩

theorem Opens.of_before {b c d : Chip} {o : Nat} {why : StopWhy} (h : Opens c d o why)
    (hk : ChipKeptBut [.freeCount, .host, .out, .outl, .pwd, .regs, .saf, .tb] b c) (ho : OthersKept o b c) :
    Opens b d o why := by
  obtain ⟨hkept, hothers, hwhy, hstate⟩ := h
  exact ⟨hk.trans hkept, ho.trans hothers, hwhy, hstate⟩

/-! ### FAULTED -/

theorem liveCtx_of_sess {c d : Chip} (h : d.sess = c.sess) (o : Nat) : liveCtx d o = liveCtx c o := by
  rw [liveCtx, liveCtx, h]

theorem ctxOf_of_sess {c d : Chip} (h : d.sess = c.sess) (x : Nat) : ctxOf d x = ctxOf c x := by
  rw [ctxOf, ctxOf, h]

/-- R202: the session that is stopped settles. -/
theorem stopSession_settles {c : Chip} {o x : Nat} (flags : BitVec 16) (hlive : liveCtx c o = some x)
    (hst : (ctxOf c x).bstate = .live) : (ctxOf (stopSession c o flags) x).bstate = .settling := by
  unfold stopSession stopCtx
  rw [hlive]
  dsimp only
  rw [if_pos hst]
  exact congrArg Context.bstate (tget_tput_self _ _ _ _)

/-- The record of an outlet that becomes FAULTED. -/
def faultedRec (x : OutletSt) : OutletSt :=
  { x with state := .faulted, ctx := none, auth := none, testDue := false, reqMa := none, waitSince := 0,
           powerStart := false, paramDone := false, resume := false }

/-- R257: what stands before the session of an outlet that becomes FAULTED stops. -/
def faultStopped (c : Chip) (o : Nat) : Chip :=
  let c := dropAuth (processorOff c o) o (ansReject .rule)
  if isDc c o then stopConverters c o else c

theorem enterFaulted_eq (c : Chip) (o : Nat) (flags : BitVec 16) : enterFaulted c o flags =
    if (outletOf c o).state = .unavailable then stopSession (processorOff c o) o flags
    else driveLock (pilotSteady (modOutlet (stopSession (faultStopped c o) o flags) o faultedRec) o) o false := rfl

theorem faultStopped_kept (c : Chip) (o : Nat) :
    ChipKeptBut [.tb, .outl, .saf, .pwd, .host, .out] c (faultStopped c o) := by
  simp +decide only [faultStopped, kept_ite, kept_stopConverters, kept_dropAuth, kept_processorOff, kept_refl, ite_self]

theorem coilOff_faultStopped (c : Chip) {o : Nat} (ho : o < 8) : CoilOff (faultStopped c o) o := by
  refine (coilOff_processorOff c ho).of_kept (ps := [.outl, .host, .out]) ?_
  simp +decide only [faultStopped, kept_ite, kept_stopConverters, kept_dropAuth, kept_refl, ite_self]

/-- What follows the stop of the session leaves sessions and coils. -/
theorem faultedEnd_kept (c : Chip) (o : Nat) :
    ChipKeptBut [.outl, .pwd] c (driveLock (pilotSteady (modOutlet c o faultedRec) o) o false) := by
  simp +decide only [kept_driveLock, kept_pilotSteady, kept_modOutlet, kept_refl]

theorem coilOff_faultedEnd {c : Chip} {o : Nat} (h : CoilOff c o) :
    CoilOff (driveLock (pilotSteady (modOutlet c o faultedRec) o) o false) o :=
  h.congr ((coilOf_driveLock _ _ _ _).trans (coilOf_pilotSteady _ _ _))
    (congrArg Saf.permit (faultedEnd_kept c o .saf (by decide)))

theorem stopSession_kept (c : Chip) (o : Nat) (flags : BitVec 16) : ChipKeptBut [.acc, .sess] c (stopSession c o flags) :=
  (kept_stopSession o flags (by decide)).2 (.refl _ c)

theorem processorOff_kept (c : Chip) (o : Nat) : ChipKeptBut [.tb, .outl, .saf, .pwd] c (processorOff c o) :=
  (kept_processorOff o (by decide)).2 (.refl _ c)

theorem stopSession_settles_of {c d : Chip} {o x : Nat} (flags : BitVec 16) (hsess : d.sess = c.sess)
    (hlive : liveCtx c o = some x) (hst : (ctxOf c x).bstate = .live) :
    (ctxOf (stopSession d o flags) x).bstate = .settling :=
  stopSession_settles flags ((liveCtx_of_sess hsess o).trans hlive)
    ((congrArg Context.bstate (ctxOf_of_sess hsess x)).trans hst)

/-- R257: FAULTED as the model enters it. -/
theorem faultedAt_enterFaulted (c : Chip) {o : Nat} (ho : o < 8) (flags : BitVec 16) :
    FaultedAt c (enterFaulted c o flags) o := by
  refine ⟨(othersKept_enterFaulted flags).2 (.refl o c), fun hst => ?_, ?_, fun x hlive hx => ?_⟩
  · rw [enterFaulted_eq, if_neg hst, (driveLock_outlet _ o false).2, outletOf_pilotSteady_same, outletOf_modOutlet_same]
    rfl
  · rw [enterFaulted_eq]
    split
    · exact (coilOff_processorOff c ho).of_kept (stopSession_kept _ o flags)
    · exact coilOff_faultedEnd ((coilOff_faultStopped c ho).of_kept (stopSession_kept _ o flags))
  · rw [enterFaulted_eq]
    split
    · exact stopSession_settles_of flags (processorOff_kept c o .sess (by decide)) hlive hx
    · rw [ctxOf_of_sess (faultedEnd_kept _ o .sess (by decide))]
      exact stopSession_settles_of flags (faultStopped_kept c o .sess (by decide)) hlive hx

theorem FaultedAt.of_entry {b c d : Chip} {o : Nat} (h : FaultedAt c d o) (ho : OthersKept o b c)
    (hstate : (outletOf b o).state ≠ .unavailable → (outletOf c o).state ≠ .unavailable) (hsess : c.sess = b.sess) :
    FaultedAt b d o := by
  obtain ⟨hothers, hfaulted, hoff, hsettles⟩ := h
  refine ⟨ho.trans hothers, fun hne => hfaulted (hstate hne), hoff, fun x hlive hx => hsettles x ?_ ?_⟩
  · exact (liveCtx_of_sess hsess o).trans hlive
  · exact (congrArg Context.bstate (ctxOf_of_sess hsess x)).trans hx

theorem FaultedAt.of_before {b c d : Chip} {o : Nat} (h : FaultedAt c d o) (ho : OthersKept o b c)
    (hstate : (outletOf c o).state = (outletOf b o).state) (hsess : c.sess = b.sess) : FaultedAt b d o :=
  h.of_entry ho (fun hne => hstate ▸ hne) hsess

theorem FaultedAt.congr {c d e : Chip} {o : Nat} (h : FaultedAt c d o) (houtl : e.outl = d.outl)
    (hoff : CoilOff d o → CoilOff e o) (hsess : e.sess = d.sess) : FaultedAt c e o := by
  obtain ⟨hothers, hfaulted, hcoil, hsettles⟩ := h
  refine ⟨(othersKept_congr o houtl).2 hothers, fun hne => ?_, hoff hcoil, fun x hlive hx => ?_⟩
  · rw [outletOf_of_outl houtl]; exact hfaulted hne
  · rw [ctxOf_of_sess hsess]; exact hsettles x hlive hx

/-! ### A trip -/

/-- R289: the chip once the line of a tripped outlet is withdrawn, where Nib saw the trip. -/
def tripWithdrawn (c : Chip) (o : Nat) (ch : Channel) (cause : Nat) : Chip :=
  let c := if ch = .processor then c else withdrawLine c o cause
  { c with nib := { c.nib with degraded := setBitV c.nib.degraded o false } }

theorem trip_eq (c : Chip) (o : Nat) (sf : Sf) (ch : Channel) (cause : Nat) : trip c o sf ch cause =
    recordTrip (latchTrip (tripWithdrawn (enterFaulted c o 0) o ch cause) o sf ch) o false sf ch := rfl

theorem coilOff_setCoil {c : Chip} {o : Nat} (k : Coil) (hd : k.driven = false) (hc : k.cmd = false)
    (hp : c.saf.permit.getLsbD o = false) : CoilOff (setCoil c o k) o := by
  rw [CoilOff, coilOf_setCoil_same]
  exact ⟨hd, hc, hp⟩

theorem coilOff_releaseCoil {c : Chip} {o : Nat} (h : CoilOff c o) : CoilOff (releaseCoil c o) o := by
  have hoff : (coilOf c o).driven = false := h.1
  unfold releaseCoil
  dsimp only
  rw [hoff]
  exact h

theorem tripWithdrawn_kept (c : Chip) (o : Nat) (ch : Channel) (cause : Nat) :
    ChipKeptBut [.nib, .pwd] c (tripWithdrawn c o ch cause) := by
  unfold tripWithdrawn
  dsimp only
  split
  · exact (kept_set_nib (by decide)).2 (.refl _ c)
  · exact (kept_set_nib (by decide)).2 ((kept_withdrawLine o cause (by decide)).2 (.refl _ c))

theorem coilOff_tripWithdrawn {c : Chip} {o : Nat} (ch : Channel) (cause : Nat) (h : CoilOff c o) :
    CoilOff (tripWithdrawn c o ch cause) o := by
  unfold tripWithdrawn
  dsimp only
  split
  · exact h
  · exact (coilOff_releaseCoil (c := { c with nib := { c.nib with gate := setBitV c.nib.gate o false } }) h).of_permit
      rfl rfl

theorem gate_withdrawLine (c : Chip) {o : Nat} (ho : o < 8) (cause : Nat) :
    (withdrawLine c o cause).nib.gate.getLsbD o = false := by
  have hk := (kept_releaseCoil o (by decide)).2 (.refl [.pwd] { c with nib := { c.nib with gate := setBitV c.nib.gate o false } })
    .nib (by decide)
  have hgate : (setGate c o false).nib.gate = setBitV c.nib.gate o false := congrArg Nib.gate hk
  change (setGate c o false).nib.gate.getLsbD o = false
  rw [hgate, getLsbD_setBitV _ _ _ ho, if_pos rfl]

theorem recordTrip_kept (c : Chip) (o : Nat) (all : Bool) (sf : Sf) (ch : Channel) :
    ChipKeptBut [.regs, .saf, .host, .blt, .out] c (recordTrip c o all sf ch) :=
  (kept_recordTrip o all sf ch (by decide)).2 (.refl _ c)

/-- R289: the counts and the last trip. -/
theorem recordTrip_saf (c : Chip) (o : Nat) (all : Bool) (sf : Sf) (ch : Channel) : (recordTrip c o all sf ch).saf =
    { c.saf with lastOutlet := o, lastAll := all, lastSf := sf.num, lastChannel := ch.code,
                 trips := (c.saf.trips + 1) % 2 ^ 16 } := by
  unfold recordTrip
  dsimp only
  rw [blotEvent_saf, raiseEvt_saf]

theorem Sf.num_lt (sf : Sf) : sf.num - 1 < 32 := by cases sf <;> decide

theorem recordTrip_evt (c : Chip) (o : Nat) (all : Bool) (sf : Sf) (ch : Channel) :
    immBit (recordTrip c o all sf ch) Reg.SAF_EVT (sf.num - 1) = true := by
  unfold recordTrip
  dsimp only
  rw [immBit_blotEvent _ _ _ _ (by decide)]
  exact immBit_raiseEvt _ _ _ (Sf.num_lt sf)

theorem latchTrip_kept (c : Chip) (o : Nat) (sf : Sf) (ch : Channel) : ChipKeptBut [.saf, .nib] c (latchTrip c o sf ch) :=
  (kept_latchTrip o sf ch (by decide)).2 (.refl _ c)

theorem latchTrip_saf (c : Chip) (o : Nat) (sf : Sf) (ch : Channel) : (latchTrip c o sf ch).saf = { c.saf with
    latches := if c.saf.latches.contains (o, sf) then c.saf.latches else (o, sf) :: c.saf.latches } := by
  unfold latchTrip
  dsimp only
  split <;> rfl

theorem mem_latchTrip (c : Chip) (o : Nat) (sf : Sf) (ch : Channel) : (o, sf) ∈ (latchTrip c o sf ch).saf.latches := by
  rw [latchTrip_saf]
  dsimp only
  split
  next h => exact List.contains_iff_mem.1 h
  next => exact List.mem_cons_self

/-- R273: what Nib saw withdraws the line and latches. -/
theorem latchTrip_nib {c : Chip} {o : Nat} (ho : o < 8) (sf : Sf) {ch : Channel} (hch : ch ≠ .processor) :
    (latchTrip c o sf ch).nib.gate = c.nib.gate ∧ (latchTrip c o sf ch).nib.latch.getLsbD o = true := by
  unfold latchTrip
  dsimp only
  rw [if_neg hch]
  refine ⟨rfl, ?_⟩
  dsimp only
  rw [getLsbD_setBitV _ _ _ ho, if_pos rfl]

theorem enterFaulted_trips (c : Chip) (o : Nat) (flags : BitVec 16) : (enterFaulted c o flags).saf.trips = c.saf.trips := by
  have hoff : (processorOff c o).saf.trips = c.saf.trips := by
    have hk := (kept_commandCoil o false (by decide)).2 (.refl [.outl, .pwd] (unbook c fun k => match k with
      | .coilClose n => n.val == o
      | .coilOpen n => n.val == o
      | _ => false)) .saf (by decide)
    unfold processorOff
    dsimp only
    exact congrArg Saf.trips hk
  rw [enterFaulted_eq]
  split
  · exact (congrArg Saf.trips (stopSession_kept _ o flags .saf (by decide))).trans hoff
  · refine (congrArg Saf.trips (faultedEnd_kept _ o .saf (by decide))).trans ?_
    refine (congrArg Saf.trips (stopSession_kept _ o flags .saf (by decide))).trans (Eq.trans ?_ hoff)
    have hk : ChipKeptBut [.outl, .host, .out] (processorOff c o) (faultStopped c o) := by
      simp +decide only [faultStopped, kept_ite, kept_stopConverters, kept_dropAuth, kept_refl, ite_self]
    exact congrArg Saf.trips (hk .saf (by decide))

/-- R289: a trip as the model takes it. -/
theorem tripped_trip (c : Chip) {o : Nat} (ho : o < 8) (sf : Sf) (ch : Channel) (cause : Nat) :
    Tripped c (trip c o sf ch cause) o sf ch := by
  have hfault := faultedAt_enterFaulted c ho 0
  have hwith := tripWithdrawn_kept (enterFaulted c o 0) o ch cause
  have hlatch := latchTrip_kept (tripWithdrawn (enterFaulted c o 0) o ch cause) o sf ch
  have hrec := recordTrip_kept (latchTrip (tripWithdrawn (enterFaulted c o 0) o ch cause) o sf ch) o false sf ch
  have hsaf := recordTrip_saf (latchTrip (tripWithdrawn (enterFaulted c o 0) o ch cause) o sf ch) o false sf ch
  have hsaf' := latchTrip_saf (tripWithdrawn (enterFaulted c o 0) o ch cause) o sf ch
  rw [trip_eq]
  refine ⟨?_, ?_, ?_, ?_, ?_, ?_, ?_, recordTrip_evt .., fun hch => ?_⟩
  · rw [← trip_eq]
    exact (kept_trip o sf ch cause (by decide)).2 (.refl _ c)
  · refine hfault.congr ?_ (fun hoff => ?_) ?_
    · exact (hrec .outl (by decide)).trans ((hlatch .outl (by decide)).trans (hwith .outl (by decide)))
    · refine (coilOff_tripWithdrawn ch cause hoff).of_permit ?_ ?_
      · exact (hrec .pwd (by decide)).trans (hlatch .pwd (by decide))
      · rw [hsaf, hsaf']
    · exact (hrec .sess (by decide)).trans ((hlatch .sess (by decide)).trans (hwith .sess (by decide)))
  · rw [hsaf]; exact mem_latchTrip ..
  · rw [hsaf, hsaf', hwith .saf (by decide)]
    dsimp only
    rw [enterFaulted_trips]
  · rw [hsaf]
  · rw [hsaf]
  · rw [hsaf]
  · obtain ⟨hgate, hset⟩ := latchTrip_nib (c := tripWithdrawn (enterFaulted c o 0) o ch cause) ho sf hch
    rw [hrec .nib (by decide), hgate]
    refine ⟨?_, hset⟩
    unfold tripWithdrawn
    dsimp only
    rw [if_neg hch]
    exact gate_withdrawLine _ ho cause

theorem Tripped.of_before {b c d : Chip} {o : Nat} {sf : Sf} {ch : Channel} (h : Tripped c d o sf ch)
    (hk : ChipKeptBut [.acc, .blt, .host, .nib, .out, .outl, .pwd, .regs, .tb] b c) (ho : OthersKept o b c)
    (hstate : (outletOf c o).state = (outletOf b o).state) : Tripped b d o sf ch := by
  obtain ⟨hkept, hfault, hmem, htrips, hrest⟩ := h
  refine ⟨(hk.mono (by decide)).trans hkept, hfault.of_before ho hstate (hk .sess (by decide)), hmem, ?_, hrest⟩
  rw [htrips, hk .saf (by decide)]

end Sys2Proof
end

section
/-! PROOFS. The pilot, the cable and the lock of an outlet (R241 to R249, R257). -/

namespace Sys2Proof.Machine

/-! ### What the operations of an outlet leave -/

theorem raiseEvt_keeps (c : Chip) (a b : Nat) : ChipKeptBut [.regs, .host, .out] c (raiseEvt c a b) :=
  (kept_raiseEvt a b (by decide)).2 (.refl _ c)

theorem outletOf_raiseEvt (c : Chip) (a b p : Nat) : outletOf (raiseEvt c a b) p = outletOf c p :=
  outletOf_of_outl (raiseEvt_outl c a b) p

theorem outletOf_outEvt (c : Chip) (o b p : Nat) : outletOf (outEvt c o b) p = outletOf c p := outletOf_raiseEvt c _ b p

theorem immBit_of_regs {c d : Chip} (h : d.regs = c.regs) (a b : Nat) : immBit d a b = immBit c a b := by
  rw [immBit, immBit, regGet, regGet, h]

/-- The drive of the lock changes the lock of its outlet and posts a write. -/
theorem driveLock_same (c : Chip) (o : Nat) (lock : Bool) : ∃ a b, outletOf (driveLock c o lock) o =
    { outletOf c o with locking := a, lock := b } := by
  unfold driveLock
  dsimp only
  split
  · split
    · exact ⟨_, _, rfl⟩
    · exact ⟨lock, if (outletOf c o).lockIn == lock then lockOf lock else .moving,
        (outletOf_postPwd ..).trans (outletOf_modOutlet_same ..)⟩
  · exact ⟨_, _, rfl⟩

theorem driveLock_kept (c : Chip) (o : Nat) (lock : Bool) : ChipKeptBut [.outl, .pwd] c (driveLock c o lock) :=
  (kept_driveLock o lock (by decide)).2 (.refl _ c)

theorem outletOf_pilotDuty_same (c : Chip) (o duty : Nat) :
    outletOf (pilotDuty c o duty) o = { outletOf c o with pwm := true, duty := duty } :=
  outletOf_modOutlet_same c o (fun x => { x with pwm := true, duty := duty })

theorem offersHlc_of_live {c d : Chip} (h : d.live = c.live) (o : Nat) : offersHlc d o = offersHlc c o := by
  unfold offersHlc cfgBit
  rw [isDc_of_live h, liveGet, liveGet, h]

/-- R241, R249: what a plugged cable brings: the lock is driven, and the duty offers HLC. -/
theorem plugIn_same (c : Chip) (o : Outlet) : ∃ a b p d, outletOf (plugIn c o) o.val =
    { outletOf c o.val with locking := a, lock := b, pwm := p, duty := d } ∧
    (offersHlc c o.val = true → p = true ∧ d = 50) := by
  obtain ⟨a, b, hlock⟩ := driveLock_same c o.val true
  have hoffers := offersHlc_of_live (driveLock_kept c o.val true .live (by decide)) o.val
  unfold plugIn
  dsimp only
  rw [hoffers]
  split
  · exact ⟨a, b, _, _, (outletOf_pilotDuty_same _ _ _).trans (by rw [hlock]), fun _ => ⟨rfl, rfl⟩⟩
  next h => exact ⟨a, b, _, _, (outletOf_pilotSteady_same _ _).trans (by rw [hlock]), fun hoff => absurd hoff h⟩

theorem plugIn_kept (c : Chip) (o : Outlet) : ChipKeptBut [.outl, .pwd] c (plugIn c o) :=
  (kept_plugIn o (by decide)).2 (.refl _ c)

/-- R257: what keeps an outlet from closing: it is not AUTHORISED, or no pre-close test has passed. -/
def ClosesNot (x : OutletSt) : Prop := x.state ≠ .authorised ∨ x.preclosed = none

theorem startClosing_not {c : Chip} {o : Fin 8} (h : ClosesNot (outletOf c o.val)) : startClosing c o = c := by
  unfold startClosing
  dsimp only
  split
  next hall =>
    obtain h | h := h
    · exact absurd hall.1 h
    · rw [h]
  next => rfl

theorem tryClose_not {c : Chip} {o : Fin 8} (h : ClosesNot (outletOf c o.val)) : tryClose c o = c := by
  unfold tryClose
  dsimp only
  rw [startClosing_not h, ite_self]

/-- R257: only an AUTHORISED outlet closes. -/
theorem tryClose_other {c : Chip} {o : Fin 8} (h : (outletOf c o.val).state ≠ .authorised) : tryClose c o = c :=
  tryClose_not (.inl h)

theorem tryStart_noAuth {c : Chip} {o : Outlet} (h : (outletOf c o.val).auth = none) : tryStart c o = c := by
  unfold tryStart
  dsimp only
  rw [h]

/-- R247: what a changed limit leaves where the outlet does not close: the limit, its duty and its pilot's drive. -/
def LimitKept (c d : Chip) (o : Nat) : Prop :=
  ChipKeptBut [.outl, .pwd] c d ∧ (∃ q, d.pwd = { c.pwd with pilots := q }) ∧
  ∃ l p n, outletOf d o = { outletOf c o with ilim := l, pwm := p, duty := n }

theorem limitKept_pilotDuty {c d : Chip} {o : Nat} (n : Nat) (h : LimitKept c d o) : LimitKept c (pilotDuty d o n) o := by
  obtain ⟨hk, ⟨q, hq⟩, l, p, m, hout⟩ := h
  refine ⟨(kept_pilotDuty _ _ (by decide)).2 hk, ⟨tput d.pwd.pilots o (.pwm n), ?_⟩, l, true, n, ?_⟩
  · exact congrArg (fun p : Pwd => { p with pilots := tput d.pwd.pilots o (.pwm n) }) hq
  · rw [outletOf_pilotDuty_same, hout]

theorem limitKept_pilotSteady {c d : Chip} {o : Nat} (h : LimitKept c d o) : LimitKept c (pilotSteady d o) o := by
  obtain ⟨hk, ⟨q, hq⟩, l, p, m, hout⟩ := h
  refine ⟨(kept_pilotSteady _ (by decide)).2 hk, ⟨tput d.pwd.pilots o .steady12, ?_⟩, l, false, 0, ?_⟩
  · exact congrArg (fun p : Pwd => { p with pilots := tput d.pwd.pilots o .steady12 }) hq
  · rw [outletOf_pilotSteady_same, hout]

/-- R247: a limit that changes where the outlet does not close. -/
theorem updateIlim_still {c : Chip} {o : Outlet} (h : ClosesNot (outletOf c o.val)) :
    LimitKept c (updateIlim c o.val) o.val := by
  have ho : Fin.ofNat 8 o.val = o := Fin.ext (Nat.mod_eq_of_lt o.isLt)
  have hlimit : LimitKept c (modOutlet c o.val fun x => { x with ilim := ilimOf c o.val }) o.val :=
    ⟨(kept_modOutlet _ _ (by decide)).2 (.refl _ c), ⟨c.pwd.pilots, rfl⟩, _, _, _, outletOf_modOutlet_same ..⟩
  unfold updateIlim
  dsimp only
  rw [ho]
  generalize modOutlet c o.val (fun x => { x with ilim := ilimOf c o.val }) = d at hlimit
  have hduty : ∀ n, tryClose (pilotDuty d o.val n) o = pilotDuty d o.val n := fun n => tryClose_not (by
    obtain ⟨-, -, l, p, m, hout⟩ := hlimit
    rw [outletOf_pilotDuty_same, hout]
    exact h)
  split
  · exact ⟨.refl _ c, ⟨_, rfl⟩, _, _, _, rfl⟩
  · split
    · split
      · rw [hduty, ite_self]
        exact limitKept_pilotDuty _ hlimit
      · exact limitKept_pilotSteady hlimit
    · exact hlimit

theorem updateIlim_steady {c : Chip} {o : Outlet} (h : (outletOf c o.val).state ≠ .authorised) :
    ChipKeptBut [.outl, .pwd] c (updateIlim c o.val) ∧ ∃ l p d, outletOf (updateIlim c o.val) o.val =
      { outletOf c o.val with ilim := l, pwm := p, duty := d } := by
  obtain ⟨hk, -, hout⟩ := updateIlim_still (.inl h)
  exact ⟨hk, hout⟩

/-! ### A pilot state (R241, R257) -/

theorem exec_pilotStateAccepted {s : State} (o : Outlet) (vp vn : Int) (a : Nat) (hf : fenced s.chip .out = false)
    (hp : outletPlacing s.chip = false) : exec (.pilotStateAccepted o vp vn a) s =
      .next { s with chip := pilotAccepted (atAngle s.chip a) o vp vn } := by
  change execPilotStateAccepted o vp vn a s = _
  simp only [execPilotStateAccepted, onChip, hp, outletGate, hf, Bool.false_eq_true, if_false, onPilotStateAccepted]

/-- R257: the outlet of a vehicle that has come. -/
def pluggedRec (c : Chip) (x : OutletSt) : OutletSt :=
  { x with state := .plugged, waitSince := c.outl.waitCounter + 1, slacFails := 0, lockTries := 0 }

/-- R257: PLUGGED, with its event, before the cable is acted on. -/
def nowPlugged (c : Chip) (o : Outlet) : Chip :=
  outEvt (modOutlet
    { c with
      outl := { c.outl with waitCounter := c.outl.waitCounter + 1 } } o.val (pluggedRec c)) o.val 0

theorem enterPlugged_eq {c : Chip} {o : Outlet} (hcard : c.outl.heldCard = none) : enterPlugged c o =
    if ppValid (outletOf c o.val) = true then plugIn (nowPlugged c o) o else nowPlugged c o := by
  have hout : outletOf (nowPlugged c o) o.val = pluggedRec c (outletOf c o.val) :=
    (outletOf_outEvt _ _ _ _).trans (outletOf_modOutlet_same _ _ _)
  have hpp : ppValid (outletOf (nowPlugged c o) o.val) = ppValid (outletOf c o.val) := by rw [hout]; rfl
  have hnow : (nowPlugged c o).outl.heldCard = none := by
    rw [nowPlugged, outEvt, raiseEvt_outl]; exact hcard
  have hplug : (plugIn (nowPlugged c o) o).outl.heldCard = none := by
    rw [← hnow]
    unfold plugIn driveLock
    dsimp only
    (repeat' split) <;> rfl
  have hall : (if ppValid (outletOf c o.val) = true then plugIn (nowPlugged c o) o else nowPlugged c o).outl.heldCard = none := by
    split
    · exact hplug
    · exact hnow
  rw [← hpp] at hall ⊢
  unfold enterPlugged
  extract_lets n _ d e f g _
  have hg : g = if ppValid (outletOf (nowPlugged c o) o.val) = true then plugIn (nowPlugged c o) o else nowPlugged c o := rfl
  rw [← hg] at hall
  rw [hall]
  exact hg

theorem nowPlugged_kept (c : Chip) (o : Outlet) : ChipKeptBut [.host, .out, .outl, .regs] c (nowPlugged c o) := by
  simp +decide only [nowPlugged, kept_outEvt, kept_modOutlet, kept_set_outl, kept_refl]

theorem outletOf_nowPlugged (c : Chip) (o : Outlet) : outletOf (nowPlugged c o) o.val = pluggedRec c (outletOf c o.val) :=
  (outletOf_outEvt _ _ _ _).trans (outletOf_modOutlet_same _ _ _)

theorem nowPlugged_othersKept (c : Chip) (o : Outlet) : OthersKept o.val c (nowPlugged c o) :=
  (othersKept_outEvt _ _).2 ((othersKept_modOutlet ..).2 fun _ _ => rfl)

theorem nowPlugged_evt (c : Chip) (o : Outlet) : immBit (nowPlugged c o) (Reg.OUT_EVT o.val) 0 = true :=
  immBit_raiseEvt _ _ _ (by decide)

/-- R257: what a vehicle on an IDLE outlet leaves. -/
theorem enterPlugged_idle {c : Chip} {o : Outlet} (hcard : c.outl.heldCard = none) :
    ChipKeptBut [.host, .out, .outl, .pwd, .regs] c (enterPlugged c o) ∧ OthersKept o.val c (enterPlugged c o) ∧
    immBit (enterPlugged c o) (Reg.OUT_EVT o.val) 0 = true ∧ ∃ a b p d, outletOf (enterPlugged c o) o.val =
      { pluggedRec c (outletOf c o.val) with locking := a, lock := b, pwm := p, duty := d } ∧
      (ppValid (outletOf c o.val) = true → offersHlc c o.val = true → p = true ∧ d = 50) := by
  have hk := nowPlugged_kept c o
  have hout := outletOf_nowPlugged c o
  rw [enterPlugged_eq hcard]
  split
  · obtain ⟨a, b, p, d, hsame, hoffers⟩ := plugIn_same (nowPlugged c o) o
    refine ⟨(kept_plugIn o (by decide)).2 (hk.mono (by decide)), othersKept_plugIn.2 (nowPlugged_othersKept c o), ?_,
      a, b, p, d, ?_, fun _ hoff => hoffers ?_⟩
    · rw [immBit_of_regs (plugIn_kept _ o .regs (by decide))]; exact nowPlugged_evt c o
    · rw [hsame, hout]
    · rw [offersHlc_of_live (hk .live (by decide))]; exact hoff
  next hpp => exact ⟨hk.mono (by decide), nowPlugged_othersKept c o, nowPlugged_evt c o, _, _, _, _, hout,
      fun h => absurd h hpp⟩

/-- R241: the outlet with its pilot state taken. -/
def pilotTaken (c : Chip) (o : Outlet) (p : Cp) (vp vn : Int) : Chip :=
  modOutlet c o.val (fun x => { x with cp := p, vpos := vp, vneg := vn })

theorem pilotTaken_kept (c : Chip) (o : Outlet) (p : Cp) (vp vn : Int) : ChipKeptBut [.outl] c (pilotTaken c o p vp vn) :=
  (kept_modOutlet _ _ (by decide)).2 (.refl _ c)

theorem outletOf_pilotTaken (c : Chip) (o : Outlet) (p : Cp) (vp vn : Int) : outletOf (pilotTaken c o p vp vn) o.val =
    { outletOf c o.val with cp := p, vpos := vp, vneg := vn } := outletOf_modOutlet_same _ _ _

theorem pilotAccepted_idle {c : Chip} {o : Outlet} {vp vn : Int} (hidle : (outletOf c o.val).state = .idle)
    (hcp : cpConnected (pilotAt c o.val vp vn) = true) : pilotAccepted c o vp vn =
      enterPlugged (pilotTaken c o (pilotAt c o.val vp vn) vp vn) o := by
  have hne : pilotAt c o.val vp vn ≠ .a := fun h => by rw [h] at hcp; cases hcp
  have hst : (outletOf (pilotTaken c o (pilotAt c o.val vp vn) vp vn) o.val).state = .idle := by
    rw [outletOf_pilotTaken]; exact hidle
  unfold pilotAccepted
  change (if _ then _ else if _ then
    (if (outletOf (pilotTaken c o (pilotAt c o.val vp vn) vp vn) o.val).state = _ then _ else _) else _) = _
  rw [if_neg hne, if_pos hcp, if_pos hst]
  rfl

theorem pilotAccepted_left {c : Chip} {o : Outlet} {vp vn : Int} (ha : pilotAt c o.val vp vn = .a)
    (hold : (outletOf c o.val).cp ≠ .a) : pilotAccepted c o vp vn = unplugged (pilotTaken c o .a vp vn) o := by
  simp only [pilotAccepted, ha, hold, if_true, if_false, pilotTaken]

/-! ### The vehicle leaves -/

/-- R257: the outlet of a vehicle that has left. -/
def idleRec (x : OutletSt) : OutletSt :=
  { OutletSt.init with
    cp := x.cp, vpos := x.vpos, vneg := x.vneg, pp := x.pp, ohm := x.ohm, capA := x.capA, lock := x.lock,
    lockIn := x.lockIn, locking := x.locking, nmkUsed := x.nmkUsed, tClose := x.tClose, tOpen := x.tOpen,
    vZeros := x.vZeros, iZeros := x.iZeros, iSmall := x.iSmall, profiles := x.profiles, reserved := x.reserved }

theorem tryIdle_finishing {c : Chip} {o : Nat} (hst : (outletOf c o).state = .finishing) (ha : (outletOf c o).cp = .a)
    (hmust : mustBeUnavailable c o = false) : tryIdle c o = pilotSteady (modOutlet c o idleRec) o := by
  simp only [tryIdle, hst, ha, hmust, true_or, true_and, if_true, Bool.false_eq_true, if_false]
  rfl

theorem mustBeUnavailable_congr {c d : Chip} {o : Nat} (hdis : outletDisabled d o = outletDisabled c o)
    (hret : d.saf.retired = c.saf.retired) (hsup : d.sup = c.sup) : mustBeUnavailable d o = mustBeUnavailable c o := by
  rw [mustBeUnavailable, mustBeUnavailable, hdis, hret, hsup]

theorem dropAuth_same (c : Chip) (o : Nat) (a : Answer) : ∃ w, outletOf (dropAuth c o a) o = { outletOf c o with authWait := w } := by
  unfold dropAuth
  split
  · exact ⟨none, (outletOf_of_outl (completeOpt_outl _ _ _) o).trans (outletOf_modOutlet_same _ _ _)⟩
  · exact ⟨_, rfl⟩

/-- R257: FINISHING as the model enters it keeps the pilot's state. -/
theorem enterFinishing_same (c : Chip) (o : Nat) :
    (outletOf (enterFinishing c o) o).state = .finishing ∧ (outletOf (enterFinishing c o) o).cp = (outletOf c o).cp := by
  obtain ⟨w, hdrop⟩ := dropAuth_same c o (ansReject .rule)
  unfold enterFinishing
  extract_lets d due e f
  have hsame : (outletOf f o).state = .finishing ∧ (outletOf f o).cp = (outletOf c o).cp := by
    change (outletOf (pilotSteady e o) o).state = _ ∧ (outletOf (pilotSteady e o) o).cp = _
    rw [outletOf_pilotSteady_same, outletOf_modOutlet_same]
    exact ⟨rfl, (congrArg OutletSt.cp hdrop :)⟩
  clear_value f
  split
  · exact hsame
  · obtain ⟨a, b, hlock⟩ := driveLock_same f o false
    rw [hlock]
    exact hsame

/-- R257: the end of a session that a leaving vehicle makes. -/
def leftEnded (c : Chip) (o : Nat) : Chip := enterFinishing (stopSession (processorOff c o) o 0) o

theorem leftEnded_kept (c : Chip) (o : Nat) :
    ChipKeptBut [.acc, .host, .out, .outl, .pwd, .saf, .sess, .tb] c (leftEnded c o) := by
  simp +decide only [leftEnded, kept_enterFinishing, kept_stopSession, kept_processorOff, kept_refl]

theorem retired_processorOff (c : Chip) (o : Nat) : (processorOff c o).saf.retired = c.saf.retired := by
  have hk := (kept_commandCoil o false (by decide)).2 (.refl [.outl, .pwd] (unbook c fun k => match k with
    | .coilClose n => n.val == o
    | .coilOpen n => n.val == o
    | _ => false)) .saf (by decide)
  unfold processorOff
  dsimp only
  exact congrArg Saf.retired hk

theorem leftEnded_retired (c : Chip) (o : Nat) : (leftEnded c o).saf.retired = c.saf.retired := by
  have hk : ChipKeptBut [.acc, .sess, .outl, .pwd, .host, .out] (processorOff c o) (leftEnded c o) := by
    simp +decide only [leftEnded, kept_enterFinishing, kept_stopSession, kept_refl]
  exact (congrArg Saf.retired (hk .saf (by decide))).trans (retired_processorOff c o)

theorem leftEnded_same (c : Chip) (o : Nat) :
    (outletOf (leftEnded c o) o).state = .finishing ∧ (outletOf (leftEnded c o) o).cp = (outletOf c o).cp := by
  obtain ⟨hst, hcp⟩ := enterFinishing_same (stopSession (processorOff c o) o 0) o
  refine ⟨hst, hcp.trans ?_⟩
  rw [outletOf_of_outl (stopSession_kept _ o 0 .outl (by decide)), outletOf_processorOff]

/-- R257: what a vehicle that leaves before energisation ends. -/
theorem leftEnded_idle {c : Chip} {o : Nat} (ha : (outletOf c o).cp = .a) (hmust : mustBeUnavailable c o = false) :
    tryIdle (leftEnded c o) o = pilotSteady (modOutlet (leftEnded c o) o idleRec) o := by
  obtain ⟨hst, hcp⟩ := leftEnded_same c o
  refine tryIdle_finishing hst (hcp.trans ha) ?_
  rw [mustBeUnavailable_congr (immBit_of_regs (leftEnded_kept c o .regs (by decide)) _ _) (leftEnded_retired c o)
    (leftEnded_kept c o .sup (by decide))]
  exact hmust

theorem unplugged_waiting {c : Chip} {o : Outlet} (hoff : energised c o.val = false)
    (hst : (outletOf c o.val).state = .plugged ∨ (outletOf c o.val).state = .linking ∨
      (outletOf c o.val).state = .negotiating ∨ (outletOf c o.val).state = .authorised) :
    unplugged c o = tryIdle (leftEnded (outEvt c o.val 1) o.val) o.val := by
  have hoff' : energised (outEvt c o.val 1) o.val = false := by
    rw [energised, fbClosed, coilOf, outEvt, raiseEvt_pwd]; exact hoff
  unfold unplugged
  dsimp only
  rw [hoff', if_neg Bool.false_ne_true]
  obtain h | h | h | h := hst <;> simp only [h, leftEnded]

theorem unplugged_energised {c : Chip} {o : Outlet} (hon : energised c o.val = true) (hproc : procAnswers c = true) :
    unplugged c o = trip (outEvt c o.val 1) o.val .sf3 .processor 5 := by
  have hon' : energised (outEvt c o.val 1) o.val = true := by
    rw [energised, fbClosed, coilOf, outEvt, raiseEvt_pwd]; exact hon
  have hproc' : procAnswers (outEvt c o.val 1) = true := by
    rw [procAnswers, fenced, outEvt, raiseEvt_saf, raiseEvt_flt, raiseEvt_sup]; exact hproc
  unfold unplugged
  dsimp only
  rw [hon', if_pos rfl, channelTrip, if_pos hproc']

/-! ### A stop of an energised outlet (R257) -/

theorem immBit_bookCoil_of {c : Chip} {k : BookKind} {t a b : Nat} {now : Chip → Chip} (hnow : ∀ d, (now d).regs = d.regs)
    (h : immBit c a b = true) : immBit (bookCoil c k t now) a b = true := by
  have hbook : immBit (book c { cycle := t / 65536, angle := t % 65536, kind := k, period := 0 }).1 a b = true := by
    unfold book
    split
    · exact h
    · split
      · exact immBit_raiseEvt_of _ (by decide) h
      · exact h
  unfold bookCoil
  split
  next heq => rw [immBit_of_regs (hnow _)]; rw [heq] at hbook; exact hbook
  next heq => rw [heq] at hbook; exact hbook

theorem releaseForOpening_regs (c : Chip) (o : Nat) : (releaseForOpening c o).regs = c.regs :=
  releaseForOpening_kept c o .regs (by decide)

/-- R257: what OPENING raises clears no event. -/
theorem immBit_enterOpening_of {c : Chip} {o : Fin 8} {why : StopWhy} {a b : Nat} (h : immBit c a b = true) :
    immBit (enterOpening c o why) a b = true := by
  unfold enterOpening
  dsimp only
  split_ifs
  · rw [immBit_of_regs ((kept_sendSetpoints o.val (by decide)).2 (.refl [.outl, .out, .freeCount] _) .regs (by decide))]
    exact h
  · rw [immBit_of_regs (releaseForOpening_regs _ _)]
    exact immBit_raiseEvt_of _ (by decide) h
  · exact immBit_bookCoil_of (fun d => releaseForOpening_regs d o.val) h
  · exact immBit_bookCoil_of (fun d => releaseForOpening_regs d o.val) h
  · rw [immBit_of_regs (releaseForOpening_regs _ _)]
    exact h

theorem stopOutlet_energised {c : Chip} {o : Fin 8} (flags : BitVec 16) (h : (outletOf c o.val).state = .energised) :
    stopOutlet c o flags = enterOpening c o .stop := by
  unfold stopOutlet
  dsimp only
  rw [h]

/-! ### The commands -/

theorem fenced_of_procAnswers {c : Chip} (h : procAnswers c = true) : fenced c .out = false := by
  simp only [procAnswers, Bool.and_eq_true, Bool.not_eq_true'] at h
  exact h.1.2

theorem exec_pilotError {s : State} {o : Outlet} (hproc : procAnswers s.chip = true)
    (h : presentCp s.chip o = .e ∨ presentCp s.chip o = .invalid) :
    exec (.pilotError o) s = .next { s with
      chip := trip s.chip o.val .sf3 .processor 5 } := by
  have hf := fenced_of_procAnswers hproc
  change execPilotError o s = _
  simp only [execPilotError, viaOutlet, onChip, outletGate, hf, Bool.false_eq_true, if_false, h, if_true, channelTrip, hproc]

theorem exec_pilotError_well {s : State} {o : Outlet} (he : presentCp s.chip o ≠ .e) (hi : presentCp s.chip o ≠ .invalid) :
    exec (.pilotError o) s = .next s := by
  change execPilotError o s = _
  simp only [execPilotError, viaOutlet, onChip, outletGate, he, hi, or_self, if_false, ite_self]

theorem exec_pilotStateAccepted_placing {s : State} (o : Outlet) (vp vn : Int) (a : Nat)
    (hp : outletPlacing s.chip = true) : exec (.pilotStateAccepted o vp vn a) s = .next { s with
      chip := pilotSafety (latch s.chip (.pilotStateAccepted o vp vn a)) o vp vn } := by
  change execPilotStateAccepted o vp vn a s = _
  simp only [execPilotStateAccepted, onChip, hp, if_true]

theorem pilotSafety_trips {c : Chip} {o : Outlet} {vp vn : Int} (hproc : procAnswers c = true)
    (ha : pilotAt c o.val vp vn = .a) (hon : energised c o.val = true) :
    pilotSafety c o vp vn = trip c o.val .sf3 .processor 5 := by
  simp only [pilotSafety, ha, hon, and_self, if_true, outletGate, fenced_of_procAnswers hproc, Bool.false_eq_true, if_false,
    channelTrip, hproc]

theorem exec_pwmOffTimeout {s : State} {o : Outlet} (a : Nat) (hf : fenced s.chip .out = false)
    (hst : (outletOf s.chip o.val).state = .energised) (hpwm : (outletOf s.chip o.val).pwm = false)
    (hhlc : (outletOf s.chip o.val).hlc = .none) (hac : isAc s.chip o.val = true) :
    exec (.pwmOffTimeout o a) s = .next { s with
      chip := enterOpening (atAngle s.chip a) o .pause } := by
  have hout : outletOf (atAngle s.chip a) o.val = outletOf s.chip o.val := rfl
  have hac' : isAc (atAngle s.chip a) o.val = true := hac
  change execPwmOffTimeout o a s = _
  simp only [execPwmOffTimeout, viaOutlet, onChip, outletGate, hf, Bool.false_eq_true, if_false, hout, hst, hpwm, hhlc, hac',
    and_self, if_true]

theorem exec_overcurrentTimeout {s : State} {o : Outlet} (a : Nat) (hf : fenced s.chip .out = false)
    (hst : (outletOf s.chip o.val).state = .energised) (hac : isAc s.chip o.val = true) :
    exec (.overcurrentTimeout o a) s = .next { s with
      chip := enterOpening (outEvt (atAngle s.chip a) o.val 11) o .stop } := by
  have hout : outletOf (atAngle s.chip a) o.val = outletOf s.chip o.val := rfl
  have hac' : isAc (atAngle s.chip a) o.val = true := hac
  have hstop : stopOutlet (outEvt (atAngle s.chip a) o.val 11) o 0 = enterOpening (outEvt (atAngle s.chip a) o.val 11) o .stop :=
    stopOutlet_energised 0 (by rw [outletOf_outEvt]; exact hst)
  change execOvercurrentTimeout o a s = _
  simp only [execOvercurrentTimeout, viaOutlet, onChip, outletGate, hf, Bool.false_eq_true, if_false, hout, hst, hac',
    and_self, if_true, hstop]

/-! ### Proximity (R246) -/

/-- R246: the outlet with its cable read. -/
def ppTaken (c : Chip) (o : Outlet) (mv : Nat) : Chip :=
  modOutlet (takeFree c) o.val (fun x => { x with
    pp := ppOf (ppLatch c o.val) mv, ohm := sat 65535 (ohmOf c o.val mv), capA := ppAmps (ppOf (ppLatch c o.val) mv) })

theorem exec_ppClassAccepted {s : State} (o : Outlet) (mv : Nat) (hf : fenced s.chip .out = false)
    (hp : outletPlacing s.chip = false) : exec (.ppClassAccepted o mv) s = .next { s with
      chip := ppAccepted s.chip o mv } := by
  change execPpClassAccepted o mv s = _
  simp only [execPpClassAccepted, takeOutlet, latching, onChip, hp, outletGate, hf, Bool.false_eq_true, if_false,
    onPpClassAccepted]

theorem ppTaken_kept (c : Chip) (o : Outlet) (mv : Nat) : ChipKeptBut [.freeCount, .outl] c (ppTaken c o mv) := by
  simp +decide only [ppTaken, kept_modOutlet, kept_takeFree, kept_refl]

theorem ppTaken_othersKept (c : Chip) (o : Outlet) (mv : Nat) : OthersKept o.val c (ppTaken c o mv) :=
  (othersKept_modOutlet ..).2 fun _ _ => rfl

theorem outletOf_ppTaken (c : Chip) (o : Outlet) (mv : Nat) : outletOf (ppTaken c o mv) o.val =
    { outletOf c o.val with
      pp := ppOf (ppLatch c o.val) mv, ohm := sat 65535 (ohmOf c o.val mv), capA := ppAmps (ppOf (ppLatch c o.val) mv) } :=
  outletOf_modOutlet_same _ _ _

/-- R246: a cable lost while closed. -/
theorem ppAccepted_lost {c : Chip} {o : Outlet} {mv : Nat} (hclosed : closedSide (outletOf c o.val).state = true)
    (hvalid : ppValid (outletOf c o.val) = true) (hne : ppOf (ppLatch c o.val) mv ≠ (outletOf c o.val).pp) :
    ppAccepted c o mv = enterFaulted (ppTaken c o mv) o.val 0 := by
  have hold : outletOf (takeFree c) o.val = outletOf c o.val := rfl
  have hne' : (ppOf (ppLatch c o.val) mv != (outletOf c o.val).pp) = true := bne_iff_ne.2 hne
  unfold ppAccepted
  dsimp only
  rw [hold, hclosed, hvalid, hne']
  rfl

/-- R246: what follows a cable that is read while the outlet does not close. -/
def ppPlugged (c : Chip) (o : Outlet) (mv : Nat) : Chip :=
  if (outletOf c o.val).state = .plugged ∧ ppValid (outletOf c o.val) = false ∧ ppValid (outletOf (ppTaken c o mv) o.val) = true
  then plugIn (ppTaken c o mv) o else ppTaken c o mv

theorem ppAccepted_open {c : Chip} {o : Outlet} {mv : Nat} (hopen : closedSide (outletOf c o.val).state = false) :
    ppAccepted c o mv = tryStart (updateIlim (takeFree (ppPlugged c o mv)) o.val) o := by
  have hold : outletOf (takeFree c) o.val = outletOf c o.val := rfl
  unfold ppAccepted
  dsimp only
  rw [hold, hopen, Bool.false_and, Bool.false_and, if_neg Bool.false_ne_true]
  rfl

theorem ppPlugged_keeps (c : Chip) (o : Outlet) (mv : Nat) : ChipKeptBut [.freeCount, .outl, .pwd] c (ppPlugged c o mv) ∧
    OthersKept o.val c (ppPlugged c o mv) ∧ ∃ a b p d, outletOf (ppPlugged c o mv) o.val =
      { outletOf (ppTaken c o mv) o.val with locking := a, lock := b, pwm := p, duty := d } := by
  have hk := ppTaken_kept c o mv
  have hothers := ppTaken_othersKept c o mv
  unfold ppPlugged
  split
  · obtain ⟨a, b, p, d, hsame, -⟩ := plugIn_same (ppTaken c o mv) o
    exact ⟨(kept_plugIn o (by decide)).2 (hk.mono (by decide)), othersKept_plugIn.2 hothers, a, b, p, d, hsame⟩
  · exact ⟨hk.mono (by decide), hothers, _, _, _, _, rfl⟩

/-! ### The lock (R249) -/

theorem exec_lockTimeout {s : State} {o : Outlet} (hf : fenced s.chip .out = false)
    (hst : (outletOf s.chip o.val).state = .plugged ∨ (outletOf s.chip o.val).state = .linking ∨
      (outletOf s.chip o.val).state = .negotiating ∨ (outletOf s.chip o.val).state = .authorised)
    (hlock : (outletOf s.chip o.val).lock = .moving) (hlocking : (outletOf s.chip o.val).locking = true) :
    exec (.lockTimeout o) s = .next { s with
      chip := if 3 ≤ (outletOf s.chip o.val).lockTries + 1 then
          enterFaulted (modOutlet (outEvt s.chip o.val 8) o.val fun x => { x with lock := .fault, lockTries := x.lockTries + 1 })
            o.val 0
        else modOutlet (outEvt s.chip o.val 8) o.val fun x => { x with lock := .fault, lockTries := x.lockTries + 1 } } := by
  have hfour : ((outletOf s.chip o.val).state == .plugged || (outletOf s.chip o.val).state == .linking ||
      (outletOf s.chip o.val).state == .negotiating || (outletOf s.chip o.val).state == .authorised) = true := by
    obtain h | h | h | h := hst <;> rw [h] <;> rfl
  change execLockTimeout o s = _
  simp only [execLockTimeout, viaOutlet, onChip, outletGate, hf, Bool.false_eq_true, if_false, hlock, hlocking, Bool.not_true,
    Bool.and_false, hfour, Bool.true_and, beq_self_eq_true, if_true]

theorem exec_lockTimeout_unlock {s : State} {o : Outlet} (hf : fenced s.chip .out = false)
    (hlock : (outletOf s.chip o.val).lock = .moving) (hlocking : (outletOf s.chip o.val).locking = false) :
    exec (.lockTimeout o) s = .next { s with
      chip := modOutlet s.chip o.val fun x => { x with lock := lockOf x.lockIn } } := by
  change execLockTimeout o s = _
  simp only [execLockTimeout, viaOutlet, onChip, outletGate, hf, Bool.false_eq_true, if_false, hlock, hlocking, Bool.not_false,
    Bool.and_true, beq_self_eq_true, if_true]

theorem exec_lockRetry {s : State} {o : Outlet} (hf : fenced s.chip .out = false)
    (hst : (outletOf s.chip o.val).state = .plugged ∨ (outletOf s.chip o.val).state = .linking ∨
      (outletOf s.chip o.val).state = .negotiating ∨ (outletOf s.chip o.val).state = .authorised)
    (hlock : (outletOf s.chip o.val).lock = .fault) : exec (.lockRetry o) s = .next { s with
      chip := driveLock s.chip o.val true } := by
  change execLockRetry o s = _
  simp only [execLockRetry, viaOutlet, onChip, outletGate, hf, Bool.false_eq_true, if_false, hlock, hst, and_self, if_true]

theorem driveLock_on {c : Chip} {o : Nat} (hcfg : cfgBit c (Reg.OUT_CFG o) 6 = true) : driveLock c o true =
    postPwd (modOutlet c o (fun x => { x with locking := true, lock := if x.lockIn == true then lockOf true else .moving }))
      (Reg.LSW_CMD (cfg c (Reg.OUT_LOCK_CFG o) 3 0)) (wordOf (1 + place 8 (cfg c (Reg.OUT_LOCK_CFG o) 23 16))) none := by
  unfold driveLock
  dsimp only
  rw [if_pos hcfg, Bool.not_true, Bool.false_and, if_neg Bool.false_ne_true, if_pos rfl]

theorem exec_lockFeedback_locked {s : State} {o : Outlet} {h : Bool} (hf : fenced s.chip .out = false)
    (hlocked : fbLocked s.chip o.val h = true) (hst : (outletOf s.chip o.val).state ≠ .authorised) :
    exec (.lockFeedbackChange o h) s = .next { s with
      chip := modOutlet s.chip o.val fun x => lockFeedback x true } := by
  have hstate : (outletOf (modOutlet s.chip o.val fun x => lockFeedback x true) o.val).state ≠ .authorised := by
    rw [outletOf_modOutlet_same]; exact hst
  change execLockFeedbackChange o h s = _
  simp only [execLockFeedbackChange, viaOutlet, onChip, outletGate, hf, Bool.false_eq_true, if_false, hlocked, Bool.not_true,
    Bool.false_and, if_true, tryClose_other hstate]

theorem exec_lockFeedback_lost {s : State} {o : Outlet} {h : Bool} (hf : fenced s.chip .out = false)
    (hlocked : fbLocked s.chip o.val h = false) (hst : (outletOf s.chip o.val).state = .energised)
    (hcfg : cfgBit s.chip (Reg.OUT_CFG o.val) 6 = true) :
    exec (.lockFeedbackChange o h) s = .next { s with
      chip := enterFaulted (modOutlet s.chip o.val fun x => lockFeedback x false) o.val 0 } := by
  have hstate : (outletOf (modOutlet s.chip o.val fun x => lockFeedback x false) o.val).state = .energised := by
    rw [outletOf_modOutlet_same]; exact hst
  have hcfg' : cfgBit (modOutlet s.chip o.val fun x => lockFeedback x false) (Reg.OUT_CFG o.val) 6 = true := hcfg
  change execLockFeedbackChange o h s = _
  simp only [execLockFeedbackChange, viaOutlet, onChip, outletGate, hf, Bool.false_eq_true, if_false, hlocked, Bool.not_false,
    hstate, hcfg', Bool.and_self, beq_self_eq_true, if_true]

end Sys2Proof.Machine
end

section
/-! PROOFS. The clauses of the pilot, the cable and the lock. -/

namespace Sys2Proof

open Machine

theorem atAngle_kept (c : Chip) (a : Nat) : ChipKeptBut [.tb] c (atAngle c a) := (kept_atAngle a (by decide)).2 (.refl _ c)

theorem idle_pilotStateAccepted {s : State} {o : Outlet} {vp vn : Int} (a : Nat) (hf : fenced s.chip .out = false)
    (hp : outletPlacing s.chip = false) (hidle : (outletOf s.chip o.val).state = .idle)
    (hcp : cpConnected (pilotAt s.chip o.val vp vn) = true) (hcard : s.chip.outl.heldCard = none) :
    Answers (.pilotStateAccepted o vp vn a) s fun t => KeptBut [.host, .out, .outl, .pwd, .regs, .tb] s t ∧
      OthersKept o.val s.chip t.chip ∧ (outletOf t.chip o.val).state = .plugged ∧
      (outletOf t.chip o.val).cp = pilotAt s.chip o.val vp vn ∧ (outletOf t.chip o.val).vpos = vp ∧
      (outletOf t.chip o.val).vneg = vn ∧
      (outletOf t.chip o.val).waitSince = s.chip.outl.waitCounter + 1 ∧
      immBit t.chip (Reg.OUT_EVT o.val) 0 = true ∧
      (ppValid (outletOf s.chip o.val) = true → offersHlc s.chip o.val = true →
        (outletOf t.chip o.val).pwm = true ∧ (outletOf t.chip o.val).duty = 50) := by
  let c := pilotTaken (atAngle s.chip a) o (pilotAt s.chip o.val vp vn) vp vn
  have hcap : ChipKeptBut [.outl, .tb] s.chip c :=
    ((atAngle_kept s.chip a).mono (by decide)).trans ((pilotTaken_kept _ o _ vp vn).mono (by decide))
  have hothers : OthersKept o.val s.chip c := (othersKept_modOutlet ..).2 fun _ _ => rfl
  have hout : outletOf c o.val = { outletOf s.chip o.val with cp := pilotAt s.chip o.val vp vn, vpos := vp, vneg := vn } :=
    outletOf_pilotTaken (atAngle s.chip a) o _ vp vn
  obtain ⟨hk, ho, hevt, la, lb, p, d, hsame, hduty⟩ := enterPlugged_idle (c := c) (o := o) hcard
  have hwait : c.outl.waitCounter = s.chip.outl.waitCounter := rfl
  refine answers_chip ((exec_pilotStateAccepted o vp vn a hf hp).trans (by
    rw [pilotAccepted_idle (c := atAngle s.chip a) hidle hcp]; rfl)) (d := enterPlugged c o)
    ⟨keptBut_chip.2 ((hcap.mono (by decide)).trans (hk.mono (by decide))), hothers.trans ho, ?_⟩
  dsimp only
  rw [hsame, hout, pluggedRec, hwait]
  refine ⟨rfl, rfl, rfl, rfl, rfl, hevt, fun hpp hoffers => hduty ?_ ?_⟩
  · rw [hout]; exact hpp
  · rw [offersHlc_of_live (hcap .live (by decide))]; exact hoffers

theorem left_pilotStateAccepted {s : State} {o : Outlet} {vp vn : Int} (a : Nat) (hf : fenced s.chip .out = false)
    (hp : outletPlacing s.chip = false) (ha : pilotAt s.chip o.val vp vn = .a)
    (hcp : cpConnected (outletOf s.chip o.val).cp = true)
    (hst : (outletOf s.chip o.val).state = .plugged ∨ (outletOf s.chip o.val).state = .linking ∨
      (outletOf s.chip o.val).state = .negotiating ∨ (outletOf s.chip o.val).state = .authorised)
    (hoff : energised s.chip o.val = false) (hmust : mustBeUnavailable s.chip o.val = false) :
    Answers (.pilotStateAccepted o vp vn a) s fun t =>
      KeptBut [.acc, .host, .out, .outl, .pwd, .regs, .saf, .sess, .tb] s t ∧ OthersKept o.val s.chip t.chip ∧
      (outletOf t.chip o.val).state = .idle ∧ (outletOf t.chip o.val).cp = .a ∧
      immBit t.chip (Reg.OUT_EVT o.val) 1 = true := by
  let c := pilotTaken (atAngle s.chip a) o .a vp vn
  let d := outEvt c o.val 1
  have hold : (outletOf (atAngle s.chip a) o.val).cp ≠ .a := fun h => by
    have h' : (outletOf s.chip o.val).cp = .a := h
    rw [h'] at hcp
    cases hcp
  have hcap : ChipKeptBut [.outl, .tb] s.chip c :=
    ((atAngle_kept s.chip a).mono (by decide)).trans ((pilotTaken_kept _ o _ vp vn).mono (by decide))
  have hout : outletOf c o.val = { outletOf s.chip o.val with cp := .a, vpos := vp, vneg := vn } :=
    outletOf_pilotTaken (atAngle s.chip a) o _ vp vn
  have hdout : outletOf d o.val = outletOf c o.val := outletOf_outEvt c _ 1 _
  have hne : Reg.SUP_DISABLE ≠ Reg.OUT_EVT o.val := by rw [Reg.SUP_DISABLE, Reg.OUT_EVT]; omega
  have hdmust : mustBeUnavailable d o.val = false :=
    (mustBeUnavailable_congr (c := s.chip) (congrArg (bitOf · o.val) (regGet_raiseEvt_ne c 1 hne))
      (congrArg Saf.retired (raiseEvt_saf c _ 1)) (raiseEvt_sup c _ 1)).trans hmust
  have hleft := leftEnded_idle (c := d) (o := o.val) (by rw [hdout, hout]) hdmust
  have hexec : exec (.pilotStateAccepted o vp vn a) s = .next { s with
      chip := pilotSteady (modOutlet (leftEnded d o.val) o.val idleRec) o.val } := by
    rw [exec_pilotStateAccepted o vp vn a hf hp, pilotAccepted_left (c := atAngle s.chip a) ha hold, ← hleft]
    refine congrArg (fun x => Host.Outcome.next { s with chip := x }) (unplugged_waiting (c := c) hoff ?_)
    rw [hout]
    exact hst
  have hkd : ChipKeptBut [.host, .out, .outl, .regs, .tb] s.chip d :=
    (kept_outEvt _ _ (by decide)).2 (hcap.mono (by decide))
  have hend : ChipKeptBut [.acc, .host, .out, .outl, .pwd, .saf, .sess, .tb] d
      (pilotSteady (modOutlet (leftEnded d o.val) o.val idleRec) o.val) :=
    (kept_pilotSteady _ (by decide)).2 ((kept_modOutlet _ _ (by decide)).2 (leftEnded_kept d o.val))
  refine answers_chip hexec ⟨keptBut_chip.2 ?_, ?_, ?_, ?_, ?_⟩
  · exact (hkd.mono (by decide)).trans (hend.mono (by decide))
  · refine othersKept_pilotSteady.2 ((othersKept_modOutlet ..).2 (othersKept_enterFinishing.2 ?_))
    refine (othersKept_stopSession _ _).2 (othersKept_processorOff.2 ((othersKept_outEvt _ _).2 ?_))
    exact (othersKept_modOutlet ..).2 fun _ _ => rfl
  · dsimp only
    rw [outletOf_pilotSteady_same, outletOf_modOutlet_same]
    generalize outletOf (leftEnded d o.val) o.val = x
    rfl
  · dsimp only
    rw [outletOf_pilotSteady_same, outletOf_modOutlet_same]
    have hcp := (leftEnded_same d o.val).2
    rw [hdout, hout] at hcp
    generalize outletOf (leftEnded d o.val) o.val = x at hcp
    exact hcp
  · exact (immBit_of_regs (hend .regs (by decide)) _ _).trans (immBit_raiseEvt c _ 1 (by decide))

theorem lost_pilotStateAccepted {s : State} {o : Outlet} {vp vn : Int} (a : Nat) (hproc : procAnswers s.chip = true)
    (hp : outletPlacing s.chip = false) (ha : pilotAt s.chip o.val vp vn = .a) (hold : (outletOf s.chip o.val).cp ≠ .a)
    (hon : energised s.chip o.val = true) :
    Answers (.pilotStateAccepted o vp vn a) s fun t => StoresKept s t ∧ Tripped s.chip t.chip o.val .sf3 .processor := by
  let c := pilotTaken (atAngle s.chip a) o .a vp vn
  have hcap : ChipKeptBut [.outl, .tb] s.chip c :=
    ((atAngle_kept s.chip a).mono (by decide)).trans ((pilotTaken_kept _ o _ vp vn).mono (by decide))
  have hout : outletOf c o.val = { outletOf s.chip o.val with cp := .a, vpos := vp, vneg := vn } :=
    outletOf_pilotTaken (atAngle s.chip a) o _ vp vn
  have hexec : exec (.pilotStateAccepted o vp vn a) s = .next { s with
      chip := trip (outEvt c o.val 1) o.val .sf3 .processor 5 } := by
    rw [exec_pilotStateAccepted o vp vn a (fenced_of_procAnswers hproc) hp, pilotAccepted_left (c := atAngle s.chip a) ha hold]
    exact congrArg (fun x => Host.Outcome.next { s with chip := x }) (unplugged_energised (c := c) hon hproc)
  refine answers_chip hexec ⟨storesKept_chip s _, (tripped_trip _ o.isLt .sf3 .processor 5).of_before ?_ ?_ ?_⟩
  · exact (kept_outEvt _ _ (by decide)).2 (hcap.mono (by decide))
  · exact (othersKept_outEvt _ _).2 ((othersKept_modOutlet ..).2 fun _ _ => rfl)
  · rw [outletOf_outEvt, hout]

theorem placing_pilotStateAccepted {s : State} {o : Outlet} {vp vn : Int} (a : Nat) (hp : outletPlacing s.chip = true)
    (hno : ¬ (pilotAt s.chip o.val vp vn = .a ∧ energised s.chip o.val = true)) :
    Answers (.pilotStateAccepted o vp vn a) s fun t => KeptBut [.latched] s t ∧
      t.chip.latched = s.chip.latched ++ [.pilotStateAccepted o vp vn a] := by
  have hexec : exec (.pilotStateAccepted o vp vn a) s = .next { s with
      chip := latch s.chip (.pilotStateAccepted o vp vn a) } := by
    rw [exec_pilotStateAccepted_placing o vp vn a hp]
    refine congrArg (fun x => Host.Outcome.next { s with chip := x }) ?_
    exact if_neg hno
  exact answers_chip hexec ⟨keptBut_chip.2 ((kept_latch _ (by decide)).2 (.refl _ _)), rfl⟩

theorem placing_lost_pilotStateAccepted {s : State} {o : Outlet} {vp vn : Int} (a : Nat) (hproc : procAnswers s.chip = true)
    (hp : outletPlacing s.chip = true) (ha : pilotAt s.chip o.val vp vn = .a) (hon : energised s.chip o.val = true) :
    Answers (.pilotStateAccepted o vp vn a) s fun t => StoresKept s t ∧
      Tripped (latch s.chip (.pilotStateAccepted o vp vn a)) t.chip o.val .sf3 .processor := by
  have htrip := pilotSafety_trips (c := latch s.chip (.pilotStateAccepted o vp vn a)) hproc ha hon
  have hexec := exec_pilotStateAccepted_placing o vp vn a hp
  rw [htrip] at hexec
  exact answers_chip hexec
    ⟨storesKept_chip s _, tripped_trip _ o.isLt .sf3 .processor 5⟩

theorem open_ppClassAccepted {s : State} {o : Outlet} {mv : Nat} (hf : fenced s.chip .out = false)
    (hp : outletPlacing s.chip = false) (hopen : closedSide (outletOf s.chip o.val).state = false)
    (hst : (outletOf s.chip o.val).state ≠ .authorised) (hauth : (outletOf s.chip o.val).auth = none) :
    Answers (.ppClassAccepted o mv) s fun t => KeptBut [.freeCount, .outl, .pwd] s t ∧
      OthersKept o.val s.chip t.chip ∧ (outletOf t.chip o.val).pp = ppOf (ppLatch s.chip o.val) mv ∧
      (outletOf t.chip o.val).capA = ppAmps (ppOf (ppLatch s.chip o.val) mv) ∧
      (outletOf t.chip o.val).ohm = min 65535 (ohmOf s.chip o.val mv) ∧
      (outletOf t.chip o.val).state = (outletOf s.chip o.val).state := by
  obtain ⟨hk, hothers, a, b, p, d, hsame⟩ := ppPlugged_keeps s.chip o mv
  have hout := outletOf_ppTaken s.chip o mv
  let c := takeFree (ppPlugged s.chip o mv)
  have hcout : outletOf c o.val = outletOf (ppPlugged s.chip o mv) o.val := rfl
  have hstate : (outletOf c o.val).state ≠ .authorised := by rw [hcout, hsame, hout]; exact hst
  obtain ⟨hkilim, l, q, e, hilim⟩ := updateIlim_steady hstate
  have hnone : (outletOf (updateIlim c o.val) o.val).auth = none := by
    rw [hilim, hcout, hsame, hout]
    exact hauth
  have hexec := exec_ppClassAccepted o mv hf hp
  rw [ppAccepted_open hopen, tryStart_noAuth hnone] at hexec
  refine answers_chip hexec ⟨keptBut_chip.2 ?_, ?_, ?_⟩
  · exact ((kept_takeFree (by decide)).2 hk).trans (hkilim.mono (by decide))
  · exact othersKept_updateIlim.2 hothers
  · dsimp only
    rw [hilim, hcout, hsame, hout]
    exact ⟨rfl, rfl, sat_eq_min _ _, rfl⟩

theorem lost_ppClassAccepted {s : State} {o : Outlet} {mv : Nat} (hf : fenced s.chip .out = false)
    (hp : outletPlacing s.chip = false) (hclosed : closedSide (outletOf s.chip o.val).state = true)
    (hvalid : ppValid (outletOf s.chip o.val) = true) (hne : ppOf (ppLatch s.chip o.val) mv ≠ (outletOf s.chip o.val).pp) :
    Answers (.ppClassAccepted o mv) s fun t =>
      KeptBut [.acc, .freeCount, .host, .out, .outl, .pwd, .saf, .sess, .tb] s t ∧ FaultedAt s.chip t.chip o.val := by
  have hk := ppTaken_kept s.chip o mv
  have hexec := exec_ppClassAccepted o mv hf hp
  rw [ppAccepted_lost hclosed hvalid hne] at hexec
  refine answers_chip hexec ⟨keptBut_chip.2 ?_, ?_⟩
  · exact (kept_enterFaulted _ _ (by decide)).2 (hk.mono (by decide))
  · refine (faultedAt_enterFaulted _ o.isLt 0).of_before (ppTaken_othersKept s.chip o mv) ?_ (hk .sess (by decide))
    rw [outletOf_ppTaken]

theorem lock_lockTimeout {s : State} {o : Outlet} (hf : fenced s.chip .out = false)
    (hst : (outletOf s.chip o.val).state = .plugged ∨ (outletOf s.chip o.val).state = .linking ∨
      (outletOf s.chip o.val).state = .negotiating ∨ (outletOf s.chip o.val).state = .authorised)
    (hlock : (outletOf s.chip o.val).lock = .moving) (hlocking : (outletOf s.chip o.val).locking = true) :
    Answers (.lockTimeout o) s fun t => immBit t.chip (Reg.OUT_EVT o.val) 8 = true ∧
      (if 2 ≤ (outletOf s.chip o.val).lockTries then
        KeptBut [.acc, .host, .out, .outl, .pwd, .regs, .saf, .sess, .tb] s t ∧ FaultedAt s.chip t.chip o.val
      else KeptBut [.host, .out, .outl, .regs] s t ∧ OthersKept o.val s.chip t.chip ∧
        outletOf t.chip o.val = { outletOf s.chip o.val with
          lock := .fault, lockTries := (outletOf s.chip o.val).lockTries + 1 }) := by
  let c := modOutlet (outEvt s.chip o.val 8) o.val fun x => { x with lock := .fault, lockTries := x.lockTries + 1 }
  have hk : ChipKeptBut [.host, .out, .outl, .regs] s.chip c :=
    (kept_modOutlet _ _ (by decide)).2 ((kept_outEvt _ _ (by decide)).2 (.refl _ _))
  have hothers : OthersKept o.val s.chip c := (othersKept_modOutlet ..).2 ((othersKept_outEvt _ _).2 (.refl _ _))
  have hout : outletOf c o.val = { outletOf s.chip o.val with
      lock := .fault, lockTries := (outletOf s.chip o.val).lockTries + 1 } := by
    rw [outletOf_modOutlet_same, outletOf_outEvt]
  have hevt : immBit c (Reg.OUT_EVT o.val) 8 = true := immBit_raiseEvt s.chip _ 8 (by decide)
  refine answers_chip (exec_lockTimeout hf hst hlock hlocking) ?_
  by_cases htries : 2 ≤ (outletOf s.chip o.val).lockTries
  · have hfault : ChipKeptBut [.acc, .host, .out, .outl, .pwd, .saf, .sess, .tb] c (enterFaulted c o.val 0) :=
      (kept_enterFaulted _ _ (by decide)).2 (.refl _ _)
    rw [if_pos (by omega), if_pos htries]
    refine ⟨(immBit_of_regs (hfault .regs (by decide)) _ _).trans hevt,
      keptBut_chip.2 ((hk.mono (by decide)).trans (hfault.mono (by decide))), ?_⟩
    refine (faultedAt_enterFaulted c o.isLt 0).of_before hothers ?_ (hk .sess (by decide))
    rw [hout]
  · rw [if_neg (by omega), if_neg htries]
    exact ⟨hevt, keptBut_chip.2 hk, hothers, hout⟩

theorem locked_lockFeedbackChange {s : State} {o : Outlet} {h : Bool} (hf : fenced s.chip .out = false)
    (hlocked : fbLocked s.chip o.val h = true) (hst : (outletOf s.chip o.val).state ≠ .authorised)
    (hlock : (outletOf s.chip o.val).locking = true ∨
      ((outletOf s.chip o.val).lock ≠ .moving ∧ (outletOf s.chip o.val).lock ≠ .fault)) :
    Answers (.lockFeedbackChange o h) s fun t => KeptBut [.outl] s t ∧ OthersKept o.val s.chip t.chip ∧
      outletOf t.chip o.val = { outletOf s.chip o.val with lock := .locked, lockIn := true, lockTries := 0 } := by
  refine answers_chip (exec_lockFeedback_locked hf hlocked hst) ⟨keptBut_chip.2 ((kept_modOutlet _ _ (by decide)).2 (.refl _ _)),
    (othersKept_modOutlet ..).2 (.refl _ _), (outletOf_modOutlet_same ..).trans ?_⟩
  have hnot : (((outletOf s.chip o.val).lock == .moving || (outletOf s.chip o.val).lock == .fault) &&
      true != (outletOf s.chip o.val).locking) = false := by
    obtain hl | ⟨hm, hfa⟩ := hlock
    · rw [hl, bne_self_eq_false, Bool.and_false]
    · rw [beq_false_of_ne hm, beq_false_of_ne hfa]; rfl
  unfold lockFeedback
  dsimp only
  rw [hnot]
  rfl

/-- Settles O17: each event of the pilot, the cable or the lock goes to its outlet, and the ways to open it are those of
OPENING, of FAULTED and of a trip. -/
theorem pilotCommands : Obligations.PilotCommands := by
  unfold Obligations.PilotCommands
  refine ⟨fun s o vp vn a hf hp hidle hcp hcard => idle_pilotStateAccepted a hf hp hidle hcp hcard,
    fun s o vp vn a hf hp ha hcp hst hoff hmust => left_pilotStateAccepted a hf hp ha hcp hst hoff hmust,
    fun s o vp vn a hproc hp ha hold hon => lost_pilotStateAccepted a hproc hp ha hold hon,
    fun s o hproc hcp => ?_, fun s o he hi => exec_pilotError_well he hi,
    fun s o vp vn a hp hno => placing_pilotStateAccepted a hp hno,
    fun s o vp vn a hproc hp ha hon => placing_lost_pilotStateAccepted a hproc hp ha hon,
    fun s o a hf hst hpwm hhlc hac => ?_, fun s o a hf hst hac => ?_, fun s o mv hf hp => ?_,
    fun s o mv hf hp hclosed hvalid hne => lost_ppClassAccepted hf hp hclosed hvalid hne,
    fun s o hf hst hlock hlocking => lock_lockTimeout hf hst hlock hlocking, fun s o hf hlock hlocking => ?_,
    fun s o hf hst hlock hcfg => ?_, fun s o h hf hlocked hst hlock => locked_lockFeedbackChange hf hlocked hst hlock,
    fun s o h hf hlocked hst hcfg => ?_⟩
  case _ =>
    exact answers_chip (exec_pilotError hproc hcp) ⟨storesKept_chip s _, tripped_trip _ o.isLt .sf3 .processor 5⟩
  case _ =>
    refine answers_chip (exec_pwmOffTimeout a hf hst hpwm hhlc hac) ⟨storesKept_chip s _, ?_⟩
    exact (opens_enterOpening _ o .pause).of_before ((atAngle_kept s.chip a).mono (by decide)) fun _ _ => rfl
  case _ =>
    refine answers_chip (exec_overcurrentTimeout a hf hst hac) ⟨storesKept_chip s _, ?_, ?_⟩
    · refine (opens_enterOpening _ o .stop).of_before ?_ ((othersKept_outEvt _ _).2 fun _ _ => rfl)
      exact (kept_outEvt _ _ (by decide)).2 ((atAngle_kept s.chip a).mono (by decide))
    · exact immBit_enterOpening_of (immBit_raiseEvt _ _ 11 (by decide))
  case _ =>
    intro p hopen hst hauth
    exact open_ppClassAccepted hf hp hopen hst hauth
  case _ =>
    exact answers_chip (exec_lockTimeout_unlock hf hlock hlocking) ⟨keptBut_chip.2 ((kept_modOutlet _ _ (by decide)).2 (.refl _ _)),
      (othersKept_modOutlet ..).2 (.refl _ _), outletOf_modOutlet_same _ _ _⟩
  case _ =>
    have hexec := exec_lockRetry hf hst hlock
    rw [driveLock_on hcfg] at hexec
    refine answers_chip hexec ⟨keptBut_chip.2 ?_, ?_, ?_, rfl⟩
    · exact (kept_postPwd _ _ _ (by decide)).2 ((kept_modOutlet _ _ (by decide)).2 (.refl _ _))
    · exact (othersKept_postPwd ..).2 ((othersKept_modOutlet ..).2 (.refl _ _))
    · refine (outletOf_postPwd ..).trans ((outletOf_modOutlet_same ..).trans ?_)
      rw [beq_true]
      rfl
  case _ =>
    have hout := outletOf_modOutlet_same s.chip o.val fun x => lockFeedback x false
    refine answers_chip (exec_lockFeedback_lost hf hlocked hst hcfg) ⟨keptBut_chip.2 ?_, ?_⟩
    · exact (kept_enterFaulted _ _ (by decide)).2 ((kept_modOutlet _ _ (by decide)).2 (.refl _ _))
    · exact (faultedAt_enterFaulted _ o.isLt 0).of_before ((othersKept_modOutlet ..).2 (.refl _ _)) (by rw [hout]; rfl) rfl

end Sys2Proof
end

section
/-! PROOFS. SLAC on the Green PHY (R251 to R253). -/

namespace Sys2Proof.Machine

theorem length_beBytes (n v : Nat) : (beBytes n v).length = n := by
  induction n with
  | zero => rfl
  | succ n ih => rw [beBytes, List.length_cons, ih]

/-! ### Where a modem's message goes (R445, R51) -/

/-- A modem's message is acted on at once, and read as one of SLAC. -/
theorem modemGate_runs {c : Chip} (f : Chip → Chip) (h : modemsRun c = true) : modemGate f c = f c := by
  have hgate : (fenced c .out || c.sup.mode == .holdUp) = false := by
    have hbne : (c.sup.mode != .holdUp) = !(c.sup.mode == .holdUp) := rfl
    rw [modemsRun, hbne, Bool.and_eq_true, ← Bool.not_or, Bool.not_eq_true'] at h
    exact h.1
  rw [modemGate, hgate]
  rfl

theorem outletPlacing_of_modemsRun {c : Chip} (h : modemsRun c = true) : outletPlacing c = false := by
  rw [modemsRun, Bool.and_eq_true, Bool.not_eq_true'] at h
  exact h.2

theorem takeModem_runs {s : State} (i : OutEvent) (f : Chip → Chip) (h : modemsRun s.chip = true) :
    takeModem s i f = .next { s with
      chip := f s.chip } := by
  rw [takeModem, latching, onChip]
  rw [outletPlacing_of_modemsRun h, if_neg Bool.false_ne_true, modemGate_runs f h]

theorem takeModem_lost {s : State} (i : OutEvent) (f : Chip → Chip) (hp : outletPlacing s.chip = false)
    (h : fenced s.chip .out = true ∨ s.chip.sup.mode = .holdUp) : takeModem s i f = .next s := by
  have hgate : (fenced s.chip .out || s.chip.sup.mode == .holdUp) = true := by
    obtain h | h := h
    · rw [h, Bool.true_or]
    · rw [h, beq_self_eq_true, Bool.or_true]
  rw [takeModem, latching, onChip]
  rw [hp, if_neg Bool.false_ne_true, modemGate, hgate]
  rfl

theorem viaModem_runs {s : State} (f : Chip → Chip) (hf : fenced s.chip .out = false) (hm : s.chip.sup.mode ≠ .holdUp) :
    viaModem s f = .next { s with
      chip := f s.chip } := by
  rw [viaModem, onChip, modemGate, hf, beq_false_of_ne hm, Bool.or_self, if_neg Bool.false_ne_true]

/-! ### The third failure (R252) -/

/-- R252: the outlet whose matching has failed. -/
def slacFailedRec (x : OutletSt) : OutletSt :=
  { x with state := .plugged, slacFails := x.slacFails + 1, runId := none, atten := none }

/-- R252: +12 V after a matching that has failed. -/
def slacFailed (c : Chip) (o : Nat) : Chip := pilotSteady (modOutlet c o slacFailedRec) o

theorem slacFailed_kept (c : Chip) (o : Nat) : ChipKeptBut [.outl, .pwd] c (slacFailed c o) :=
  (kept_pilotSteady _ (by decide)).2 ((kept_modOutlet _ _ (by decide)).2 (.refl _ c))

theorem slacFailed_othersKept (c : Chip) (o : Nat) : OthersKept o c (slacFailed c o) :=
  othersKept_pilotSteady.2 ((othersKept_modOutlet ..).2 (.refl o c))

theorem outletOf_slacFailed (c : Chip) (o : Nat) : outletOf (slacFailed c o) o =
    { slacFailedRec (outletOf c o) with pwm := false, duty := 0 } := by
  rw [slacFailed, outletOf_pilotSteady_same, outletOf_modOutlet_same]

theorem exec_slacTimeout {s : State} {o : Outlet} (hf : fenced s.chip .out = false) (hm : s.chip.sup.mode ≠ .holdUp)
    (hst : (outletOf s.chip o.val).state = .linking ∨
      ((outletOf s.chip o.val).state = .plugged ∧ offers5 (outletOf s.chip o.val) = true)) :
    exec (.slacTimeout o) s = .next { s with
      chip := if (outletOf s.chip o.val).slacFails + 1 < 3 then
          modOutlet (slacFailed s.chip o.val) o.val (fun x => { x with slacHold := true })
        else if basicMode (slacFailed s.chip o.val) o.val then tryStart (slacFailed s.chip o.val) o
        else enterFaulted (outEvt (slacFailed s.chip o.val) o.val 6) o.val 0 } := by
  refine (viaModem_runs _ hf hm).trans ?_
  dsimp only
  rw [if_pos hst]
  rfl

theorem basicMode_dc {c : Chip} {o : Nat} (h : isDc c o = true) : basicMode c o = false := by
  have hac : isAc c o = false := by
    rw [isDc, decide_eq_true_eq] at h
    rw [isAc, beq_eq_false_iff_ne]
    omega
  rw [basicMode, hac, Bool.false_and, Bool.false_and]

end Sys2Proof.Machine

namespace Sys2Proof

open Machine

/-- Messages of a matching that is not under way are lost. -/
theorem noMatch_slac {s : State} {o : Outlet} {r : Nat} (a : Nat) (h : modemsRun s.chip = true)
    (hno : inMatch s.chip o.val r = false) :
    exec (.cmStartAttenChar o r) s = .next s ∧ exec (.cmMnbcSound o r a) s = .next s ∧
    exec (.cmAttenChar o r) s = .next s ∧ exec (.cmSlacMatch o r) s = .next s ∧
    exec (.cmSetKey o r) s = .next s ∧ exec (.cmValidate o r) s = .next s := by
  have hlost : ∀ (i : OutEvent) (f : Chip → Chip), f s.chip = s.chip → takeModem s i f = .next s := fun i f hsame => by
    rw [takeModem_runs i f h, hsame]
  refine ⟨hlost _ _ ?_, hlost _ _ ?_, hlost _ _ ?_, hlost _ _ ?_, hlost _ _ ?_, hlost _ _ ?_⟩
  · simp only [onCmStartAttenChar, hno, Bool.false_eq_true, if_false]
  · simp only [onCmMnbcSound, hno, Bool.false_eq_true, if_false]
  · simp only [onCmAttenChar, hno, Bool.false_and, Bool.false_eq_true, if_false]
  · simp only [onCmSlacMatch, hno, Bool.false_eq_true, if_false]
  · simp only [onCmSetKey, hno, Bool.false_eq_true, if_false]
  · simp only [onCmValidate, hno, Bool.false_eq_true, false_and, if_false]

theorem clearlyLower_of {c : Chip} {o p : Outlet} {r a b : Nat} (hne : p ≠ o) (hp : inMatch c p.val r = true)
    (ha : (outletOf c o.val).atten = some a) (hb : (outletOf c p.val).atten = some b) (hlow : b + 30 ≤ a) :
    clearlyLower c o.val r = true := by
  have hval : (p.val != o.val) = true := bne_iff_ne.2 fun h => hne (Fin.ext h)
  unfold clearlyLower
  rw [ha]
  dsimp only
  rw [List.any_eq_true]
  refine ⟨p.val, List.mem_range.2 p.isLt, ?_⟩
  rw [hval, hp, hb]
  exact decide_eq_true hlow

theorem parm_cmSlacParm {s : State} {o : Outlet} (r : Nat) (h : modemsRun s.chip = true)
    (hst : (outletOf s.chip o.val).state = .plugged) (h5 : offers5 (outletOf s.chip o.val) = true) :
    Answers (.cmSlacParm o r) s fun t => KeptBut [.outl, .out] s t ∧ OthersKept o.val s.chip t.chip ∧
      outletOf t.chip o.val = { outletOf s.chip o.val with state := .linking, runId := some r, atten := none } ∧
      t.chip.out = .slac o.val 1 (beBytes 6 (tget 0 s.chip.outl.macs o.val)) :: s.chip.out := by
  have hact : onCmSlacParm o r s.chip = emit (modOutlet s.chip o.val (fun x =>
      { x with state := .linking, runId := some r, atten := none }))
      (.slac o.val 1 (beBytes 6 (tget 0 s.chip.outl.macs o.val))) := by
    simp only [onCmSlacParm, hst, h5, and_self, if_true]
  have hexec : exec (.cmSlacParm o r) s = .next { s with
      chip := onCmSlacParm o r s.chip } := takeModem_runs _ _ h
  rw [hact] at hexec
  refine answers_chip hexec ⟨keptBut_chip.2 ?_, ?_,
    (outletOf_of_outl (emit_outl _ _) _).trans (outletOf_modOutlet_same _ _ _), rfl⟩
  · exact (kept_emit _ (by decide)).2 ((kept_modOutlet _ _ (by decide)).2 (.refl _ _))
  · exact (othersKept_emit _).2 ((othersKept_modOutlet ..).2 (.refl _ _))

/-- A message of the matching under way that is answered at once. -/
theorem answered_slac {i : Instr} {s : State} {f : Chip → Chip} {e : Emit} (hexec : exec i s = .next { s with
      chip := f s.chip }) (hact : f s.chip = emit s.chip e) :
    Answers i s fun t => KeptBut [.out] s t ∧ t.chip.out = e :: s.chip.out := by
  rw [hact] at hexec
  exact answers_chip hexec ⟨keptBut_chip.2 ((kept_emit _ (by decide)).2 (.refl _ _)), rfl⟩

theorem match_cmSlacMatch {s : State} {o : Outlet} {r : Nat} (h : modemsRun s.chip = true)
    (hin : inMatch s.chip o.val r = true) :
    Answers (.cmSlacMatch o r) s fun t => KeptBut [.outl, .out, .freeCount] s t ∧ OthersKept o.val s.chip t.chip ∧
      (∃ key : List Byte, key.length = 16 ∧
        t.chip.out = .slac o.val 5 (key ++ beBytes 7 (Config.networkId key)) :: s.chip.out) ∧
      t.chip.freeCount = s.chip.freeCount + 1 := by
  have hexec : exec (.cmSlacMatch o r) s = .next { s with
      chip := onCmSlacMatch o r s.chip } := takeModem_runs _ _ h
  simp only [onCmSlacMatch, hin, if_true] at hexec
  generalize hkey : beBytes 16 ((drawn s.chip).toNat / 2 ^ 128) = key at hexec
  refine answers_chip hexec ⟨keptBut_chip.2 ?_, ?_, ⟨key, ?_, rfl⟩, rfl⟩
  · simp +decide only [kept_emit, kept_takeFree, kept_modOutlet, kept_refl]
  · exact (othersKept_emit _).2 (othersKept_takeFree.2 ((othersKept_modOutlet ..).2 (.refl _ _)))
  · rw [← hkey, length_beBytes]

/-- Settles O18: SLAC answers the matching under way, and a failure counts towards the third. -/
theorem slacCommands : Obligations.SlacCommands := by
  unfold Obligations.SlacCommands
  refine ⟨fun s o r h hst h5 => parm_cmSlacParm r h hst h5, fun s o r hp => ?_,
    fun s o r hp hlost => takeModem_lost _ _ hp hlost, fun s o r h hin => ?_, fun s o r a h hin => ?_,
    fun s o r a h hno => noMatch_slac a h hno, fun s o r h hin hlow => ?_,
    fun s o p r a b h hin hne hp ha hb hlow => ?_, fun s o r h hin => match_cmSlacMatch h hin, fun s o r h hin => ?_,
    fun s o r h hin => ?_, fun s o hf hm hst hfew => ?_, fun s o hf hm hst hmany hdc => ?_, fun s o hf hm hst hhold => ?_,
    fun s o h hst => ?_⟩
  case _ =>
    change takeModem s _ _ = _
    rw [takeModem, latching, onChip]
    rw [hp, if_pos rfl]
  case _ =>
    exact answered_slac (i := .cmStartAttenChar o r) (takeModem_runs _ (onCmStartAttenChar o r) h) (by simp only [onCmStartAttenChar, hin, if_true])
  case _ =>
    have hexec : exec (.cmMnbcSound o r a) s = .next { s with
        chip := onCmMnbcSound o r a s.chip } := takeModem_runs _ _ h
    simp only [onCmMnbcSound, hin, if_true] at hexec
    exact answers_chip hexec ⟨keptBut_chip.2 ((kept_modOutlet _ _ (by decide)).2 (.refl _ _)),
      (othersKept_modOutlet ..).2 (.refl _ _), outletOf_modOutlet_same _ _ _⟩
  case _ =>
    exact answered_slac (i := .cmAttenChar o r) (takeModem_runs _ (onCmAttenChar o r) h)
      (by simp only [onCmAttenChar, hin, hlow, Bool.not_false, Bool.and_self, if_true])
  case _ =>
    refine (takeModem_runs _ (onCmAttenChar o r) h).trans ?_
    rw [onCmAttenChar, clearlyLower_of hne hp ha hb hlow, Bool.not_true, Bool.and_false, if_neg Bool.false_ne_true]
  case _ =>
    exact answered_slac (i := .cmSetKey o r) (takeModem_runs _ (onCmSetKey o r) h) (by simp only [onCmSetKey, hin, if_true])
  case _ =>
    have hexec : exec (.cmValidate o r) s = .next { s with
        chip := onCmValidate o r s.chip } := takeModem_runs _ _ h
    cases hcfg : cfgBit s.chip (Reg.OUT_GP_CFG o.val) 8 with
    | true =>
      rw [if_pos rfl]
      exact answered_slac hexec (by simp only [onCmValidate, hin, hcfg, and_self, if_true])
    | false =>
      simp only [onCmValidate, hin, hcfg, Bool.false_eq_true, and_false, if_false] at hexec
      exact answers_chip hexec ⟨keptBut_chip.2 (.refl _ _), rfl⟩
  case _ =>
    have hexec := exec_slacTimeout hf hm hst
    rw [if_pos (by omega)] at hexec
    refine answers_chip hexec ⟨keptBut_chip.2 ((kept_modOutlet _ _ (by decide)).2 (slacFailed_kept _ _)),
      (othersKept_modOutlet ..).2 (slacFailed_othersKept _ _), ?_⟩
    dsimp only
    rw [outletOf_modOutlet_same, outletOf_slacFailed]
    exact ⟨rfl, rfl, rfl, rfl, tfind_tput_self _ _ _⟩
  case _ =>
    have hdc' : basicMode (slacFailed s.chip o.val) o.val = false :=
      basicMode_dc ((isDc_of_live (slacFailed_kept s.chip o.val .live (by decide)) o.val).trans hdc)
    have hexec := exec_slacTimeout hf hm (.inl hst)
    rw [if_neg (by omega), hdc', if_neg Bool.false_ne_true] at hexec
    have hk : ChipKeptBut [.host, .out, .outl, .pwd, .regs] s.chip (outEvt (slacFailed s.chip o.val) o.val 6) :=
      (kept_outEvt _ _ (by decide)).2 ((slacFailed_kept _ _).mono (by decide))
    have hfault := faultedAt_enterFaulted (outEvt (slacFailed s.chip o.val) o.val 6) o.isLt 0
    have hkf : ChipKeptBut [.acc, .host, .out, .outl, .pwd, .saf, .sess, .tb] (outEvt (slacFailed s.chip o.val) o.val 6)
        (enterFaulted (outEvt (slacFailed s.chip o.val) o.val 6) o.val 0) := (kept_enterFaulted _ _ (by decide)).2 (.refl _ _)
    refine answers_chip hexec ⟨keptBut_chip.2 ((hk.mono (by decide)).trans (hkf.mono (by decide))), ?_, ?_⟩
    · refine hfault.of_entry ((othersKept_outEvt _ _).2 (slacFailed_othersKept _ _)) (fun _ => ?_) (hk .sess (by decide))
      rw [outletOf_outEvt, outletOf_slacFailed]
      exact OState.noConfusion
    · exact (immBit_of_regs (hkf .regs (by decide)) _ _).trans (immBit_raiseEvt _ _ 6 (by decide))
  case _ =>
    have hexec : exec (.slacRetryTimer o) s = .next { s with
        chip := pilotDuty (modOutlet s.chip o.val (fun x => { x with slacHold := false })) o.val 50 } := by
      refine (viaModem_runs _ hf hm).trans ?_
      dsimp only
      rw [if_pos ⟨hst, hhold⟩]
    refine answers_chip hexec ⟨keptBut_chip.2 ?_, ?_, ?_, rfl⟩
    · exact (kept_pilotDuty _ _ (by decide)).2 ((kept_modOutlet _ _ (by decide)).2 (.refl _ _))
    · exact (othersKept_pilotDuty _).2 ((othersKept_modOutlet ..).2 (.refl _ _))
    · dsimp only
      rw [outletOf_pilotDuty_same, outletOf_modOutlet_same]
  case _ =>
    have hexec : exec (.gpLinkUp o) s = .next { s with
        chip := onGpLinkUp o s.chip } := takeModem_runs _ _ h
    simp only [onGpLinkUp, hst, if_true] at hexec
    exact answers_chip hexec ⟨keptBut_chip.2 ((kept_modOutlet _ _ (by decide)).2 (.refl _ _)),
      (othersKept_modOutlet ..).2 (.refl _ _), outletOf_modOutlet_same _ _ _⟩

end Sys2Proof
end

section
/-! PROOFS. The vehicle protocols before energisation (R254, R255, R257, R264). -/

namespace Sys2Proof.Machine

/-! ### Where a vehicle's message goes (R254) -/

theorem hlcGate_runs {c : Chip} (f : Chip → Chip) (h : hlcRuns c = true) : hlcGate f c = f c := by
  have hboth : ready c .svc = true ∧ fenced c .svc = false ∧ modemsRun c = true := by
    simp only [hlcRuns, svcRuns, Bool.and_eq_true, Bool.not_eq_true'] at h
    exact ⟨h.1.1, h.1.2, h.2⟩
  obtain ⟨hready, hfenced, hmodem⟩ := hboth
  rw [hlcGate, hready, hfenced, Bool.not_true, Bool.or_self, if_neg Bool.false_ne_true, modemGate_runs f hmodem]

theorem modemsRun_of_hlcRuns {c : Chip} (h : hlcRuns c = true) : modemsRun c = true := by
  rw [hlcRuns, Bool.and_eq_true] at h
  exact h.2

theorem takeHlc_runs {s : State} (i : OutEvent) (f : Chip → Chip) (h : hlcRuns s.chip = true) :
    takeHlc s i f = .next { s with
      chip := f s.chip } := by
  rw [takeHlc, latching, onChip]
  rw [outletPlacing_of_modemsRun (modemsRun_of_hlcRuns h), if_neg Bool.false_ne_true, hlcGate_runs f h]

/-! ### Session setup -/

theorem runsHlc_kept (c : Chip) (o : Nat) (p : Hlc) (tls : Nat) : ChipKeptBut [.outl, .pwd] c (runsHlc c o p tls) :=
  (kept_pilotDuty _ _ (by decide)).2 ((kept_modOutlet _ _ (by decide)).2 (.refl _ c))

theorem othersKept_runsHlc (c : Chip) (o : Nat) (p : Hlc) (tls : Nat) : OthersKept o c (runsHlc c o p tls) :=
  (othersKept_pilotDuty _).2 ((othersKept_modOutlet ..).2 (.refl o c))

theorem outletOf_runsHlc (c : Chip) (o : Nat) (p : Hlc) (tls : Nat) : outletOf (runsHlc c o p tls) o =
    { outletOf c o with hlc := p, tls := tls, resume := false, pwm := true, duty := 50 } := by
  rw [runsHlc, outletOf_pilotDuty_same, outletOf_modOutlet_same]

theorem onSessionSetupReq_new {c : Chip} {o : Outlet} {p : Hlc} {tls : Nat} {sid : BitVec 128}
    (hp : protoServed c o.val p = true) (htls : tlsFits p tls = true) (hres : resumes c o.val sid = false)
    (hst : (outletOf c o.val).state = .negotiating) :
    onSessionSetupReq o p tls sid c = emit (runsHlc c o.val p tls) (.hlc o.val 1 true) := by
  simp only [onSessionSetupReq, hp, htls, hres, hst, Bool.not_true, Bool.or_self, Bool.false_eq_true, if_false, if_true]

theorem onSessionSetupReq_refused {c : Chip} {o : Outlet} {p : Hlc} {tls : Nat} (sid : BitVec 128)
    (h : protoServed c o.val p = false ∨ tlsFits p tls = false) :
    onSessionSetupReq o p tls sid c = emit c (.hlc o.val 1 false) := by
  have hno : (!protoServed c o.val p || !tlsFits p tls) = true := by
    obtain h | h := h
    · rw [h, Bool.not_false, Bool.true_or]
    · rw [h, Bool.not_false, Bool.or_true]
  simp only [onSessionSetupReq, hno, if_true]

theorem onSessionSetupReq_resumed {c : Chip} {o : Outlet} {p : Hlc} {tls x : Nat} {sid : BitVec 128}
    (hp : protoServed c o.val p = true) (htls : tlsFits p tls = true) (hres : (outletOf c o.val).resume = true)
    (hlive : liveCtx c o.val = some x) (hsid : (ctxOf c x).sessionId = sid) (hst : (outletOf c o.val).state = .energised) :
    onSessionSetupReq o p tls sid c = emit (runsHlc c o.val p tls) (.hlc o.val 1 true) := by
  have hresumes : resumes c o.val sid = true := by
    rw [resumes, hres, hlive]
    dsimp only
    rw [hsid, beq_self_eq_true, Bool.and_self]
  simp only [onSessionSetupReq, hp, htls, hresumes, hst, Bool.not_true, Bool.or_self, Bool.false_eq_true, if_false, if_true]

/-! ### A session that no vehicle resumes (R255) -/

/-- R255: the outlet waits no longer, and its session carries the flag of an unresumed one. -/
def resumeMissed (c : Chip) (o : Nat) : Chip :=
  let c := modOutlet c o (fun x => { x with resume := false })
  match liveCtx c o with
  | some x => setCtx c x { ctxOf c x with flags := (ctxOf c x).flags ||| flagBit 2 }
  | none => c

theorem resumeMissed_kept (c : Chip) (o : Nat) : ChipKeptBut [.outl, .sess] c (resumeMissed c o) := by
  unfold resumeMissed
  dsimp only
  split <;> simp +decide only [kept_setCtx, kept_modOutlet, kept_refl]

theorem outl_resumeMissed (c : Chip) (o : Nat) :
    (resumeMissed c o).outl = (modOutlet c o (fun x => { x with resume := false })).outl := by
  unfold resumeMissed
  dsimp only
  split <;> rfl

theorem outletOf_resumeMissed (c : Chip) (o : Nat) :
    outletOf (resumeMissed c o) o = { outletOf c o with resume := false } :=
  (outletOf_of_outl (outl_resumeMissed c o) o).trans (outletOf_modOutlet_same _ _ _)

theorem othersKept_resumeMissed (c : Chip) (o : Nat) : OthersKept o c (resumeMissed c o) :=
  (othersKept_congr o (outl_resumeMissed c o)).2 ((othersKept_modOutlet ..).2 (.refl o c))

theorem resumeMissed_flag {c : Chip} {o x : Nat} (h : liveCtx c o = some x) :
    (ctxOf (resumeMissed c o) x).flags.getLsbD 2 = true := by
  have hlive : liveCtx (modOutlet c o (fun x => { x with resume := false })) o = some x := h
  have hbit : (flagBit 2).getLsbD 2 = true := by decide
  unfold resumeMissed
  dsimp only
  rw [hlive]
  dsimp only
  rw [ctxOf, setCtx, tget_tput_self]
  dsimp only
  rw [BitVec.getLsbD_or, hbit, Bool.or_true]

theorem exec_sessionResumeTimeout {s : State} {o : Outlet} (a : Nat) (hf : fenced s.chip .out = false)
    (hres : (outletOf s.chip o.val).resume = true) : exec (.sessionResumeTimeout o a) s = .next { s with
      chip := if energised (resumeMissed (atAngle s.chip a) o.val) o.val
        then stopOutlet (resumeMissed (atAngle s.chip a) o.val) o 0
        else enterFinishing (stopSession (resumeMissed (atAngle s.chip a) o.val) o.val 0) o.val } := by
  have hres' : (outletOf (atAngle s.chip a) o.val).resume = true := hres
  change execSessionResumeTimeout o a s = _
  rw [execSessionResumeTimeout, viaOutlet, onChip, outletGate, hf, if_neg Bool.false_ne_true]
  dsimp only
  rw [hres', if_pos rfl]
  rfl

theorem energised_of_pwd {c d : Chip} (h : d.pwd = c.pwd) (o : Nat) : energised d o = energised c o := by
  rw [energised, energised, coilOf_of_pwd h, fbClosed, fbClosed, h]

/-! ### Authorisation (R264) -/

/-- R264: what Plug & Charge asks of the backend. -/
def pncWait (i : List Byte) (pt : Nat) : AuthWait :=
  { src := .plugCharge, authRef := authRefOf i, ptable := pt, owner := none, chain := false }

theorem onAuthorizationReq_pnc {c : Chip} {o : Outlet} (ok : Bool) {i : List Byte} (pt : Nat)
    (hst : (outletOf c o.val).state = .negotiating) (hcfg : cfgBit c (Reg.OUT_CFG o.val) 16 = true)
    (hdin : (outletOf c o.val).hlc ≠ .din) (htls : (outletOf c o.val).tls ≠ 0)
    (hmay : mayAuthorise c o.val (authRefOf i) = true) :
    onAuthorizationReq o true ok i pt c = askChain c o (pncWait i pt) ok := by
  unfold onAuthorizationReq
  dsimp only
  rw [if_neg (not_not.2 hst), if_pos rfl, hcfg, beq_false_of_ne hdin, beq_false_of_ne htls, Bool.not_true, Bool.or_self,
    Bool.or_self, if_neg Bool.false_ne_true, if_pos hmay]
  rfl

theorem onAuthorizationReq_eim {c : Chip} {o : Outlet} (ok : Bool) (i : List Byte) (pt : Nat)
    (hst : (outletOf c o.val).state = .negotiating) :
    onAuthorizationReq o false ok i pt c = emit c (.hlc o.val 2 (outletOf c o.val).auth.isSome) := by
  unfold onAuthorizationReq
  dsimp only
  rw [if_neg (not_not.2 hst), if_neg Bool.false_ne_true]

theorem dropAuth_waits (c : Chip) (o : Nat) (a : Answer) : (outletOf (dropAuth c o a) o).authWait = none := by
  unfold dropAuth
  split
  · rw [outletOf_of_outl (completeOpt_outl _ _ _), outletOf_modOutlet_same]
  next h => exact h

theorem enterFinishing_waits (c : Chip) (o : Nat) : (outletOf (enterFinishing c o) o).authWait = none := by
  have hwait := dropAuth_waits c o (ansReject .rule)
  unfold enterFinishing
  extract_lets d due e f
  have hsame : (outletOf f o).authWait = none := by
    change (outletOf (pilotSteady e o) o).authWait = _
    rw [outletOf_pilotSteady_same, outletOf_modOutlet_same]
    exact hwait
  clear_value f
  split
  · exact hsame
  · obtain ⟨a, b, hlock⟩ := driveLock_same f o false
    rw [hlock]
    exact hsame

/-- R264: a start that fails while a vehicle negotiates ends in FINISHING, and nothing waits. -/
theorem startFailed_negotiating {c : Chip} {o : Outlet} (hst : (outletOf c o.val).state = .negotiating) :
    (outletOf (startFailed c o) o.val).state = .finishing ∧ (outletOf (startFailed c o) o.val).authWait = none ∧
    immBit (startFailed c o) (Reg.OUT_EVT o.val) 3 = true := by
  let d := modOutlet (dropAuth (outEvt c o.val 3) o.val (ansReject .rule)) o.val (fun x => { x with auth := none })
  obtain ⟨w, hdrop⟩ := dropAuth_same (outEvt c o.val 3) o.val (ansReject .rule)
  have hwait : (outletOf (dropAuth (outEvt c o.val 3) o.val (ansReject .rule)) o.val).authWait = none :=
    dropAuth_waits _ _ _
  have hd : outletOf d o.val = { outletOf (dropAuth (outEvt c o.val 3) o.val (ansReject .rule)) o.val with auth := none } :=
    outletOf_modOutlet_same _ _ _
  have hdst : (outletOf d o.val).state = .negotiating := by
    rw [hd, hdrop, outletOf_outEvt]; exact hst
  have heq : startFailed c o = enterFinishing d o.val := if_pos hdst
  rw [heq]
  refine ⟨(enterFinishing_same d o.val).1, enterFinishing_waits d o.val, ?_⟩
  have hk : ChipKeptBut [.outl, .pwd, .host, .out] (outEvt c o.val 3) (enterFinishing d o.val) :=
    (kept_enterFinishing _ (by decide)).2 ((kept_modOutlet _ _ (by decide)).2 ((kept_dropAuth _ _ (by decide)).2 (.refl _ _)))
  exact (immBit_of_regs (hk .regs (by decide)) _ _).trans (immBit_raiseEvt _ _ 3 (by decide))

end Sys2Proof.Machine
end

section
/-! PROOFS. Charge parameters, CableCheck and PreCharge (R257, R386). -/

namespace Sys2Proof.Machine

/-! ### Charge parameters -/

/-- R257: the outlet that has discovered its parameters. -/
def paramsTaken (c : Chip) (o : Nat) (b d : Bool) : Chip :=
  modOutlet c o (fun x => { x with paramDone := true, bpt := b, dynamic := d })

theorem outletOf_paramsTaken (c : Chip) (o : Nat) (b d : Bool) :
    outletOf (paramsTaken c o b d) o = { outletOf c o with paramDone := true, bpt := b, dynamic := d } :=
  outletOf_modOutlet_same _ _ _

theorem onChargeParameters_fit {c : Chip} {o : Outlet} {b d : Bool} (ss : List (List Nat))
    (hst : (outletOf c o.val).state = .negotiating) (hauth : (outletOf c o.val).auth = none)
    (hfit : serviceFits c o.val b d = true) : onChargeParameterDiscoveryReq o b d ss c =
      offerSchedules (answerLimits (updateIlim (takeFree (paramsTaken c o.val b d)) o.val) o.val 3 true) o.val ss := by
  have hnone : (outletOf (paramsTaken c o.val b d) o.val).auth = none := by
    rw [outletOf_paramsTaken]; exact hauth
  unfold onChargeParameterDiscoveryReq
  dsimp only
  rw [if_pos hst, if_pos hfit]
  change offerSchedules (answerLimits (updateIlim (takeFree (tryStart (paramsTaken c o.val b d) o)) o.val) o.val 3 true) o.val ss = _
  rw [tryStart_noAuth hnone]

theorem onChargeParameters_unfit {c : Chip} {o : Outlet} {b d : Bool} (ss : List (List Nat))
    (hst : (outletOf c o.val).state = .negotiating) (hfit : serviceFits c o.val b d = false) :
    onChargeParameterDiscoveryReq o b d ss c = emit c (.hlc o.val 3 false) := by
  unfold onChargeParameterDiscoveryReq
  dsimp only
  rw [if_pos hst, hfit, if_neg Bool.false_ne_true]

/-- R254: what the answer to the parameters sends. -/
theorem offerSchedules_sends (c : Chip) (o : Nat) (ss : List (List Nat)) :
    ChipKeptBut [.out] c (offerSchedules (answerLimits c o 3 true) o ss) ∧
    Emit.hlc o 3 true ∈ (offerSchedules (answerLimits c o 3 true) o ss).out ∧
    Emit.limits o (outletOf c o).ilim (if (outletOf c o).bpt then cfg c (Reg.OUT_LIMIT o) 31 16 else 0) ∈
      (offerSchedules (answerLimits c o 3 true) o ss).out ∧
    ((outletOf c o).hlc = .iso2 → Emit.schedules o ((ss.take 3).map (·.take 24)) ∈
      (offerSchedules (answerLimits c o 3 true) o ss).out) := by
  have hkept : ChipKeptBut [.out] c (answerLimits c o 3 true) := (kept_answerLimits _ _ _ (by decide)).2 (.refl _ c)
  have hout : outletOf (answerLimits c o 3 true) o = outletOf c o := outletOf_of_kept hkept o
  have hhlc : Emit.hlc o 3 true ∈ (answerLimits c o 3 true).out := by
    rw [answerLimits, emits]
    exact List.mem_append_left _ (List.mem_reverse.2 (List.mem_cons_self ..))
  have hlimits : Emit.limits o (outletOf c o).ilim (if (outletOf c o).bpt then cfg c (Reg.OUT_LIMIT o) 31 16 else 0) ∈
      (answerLimits c o 3 true).out := by
    rw [answerLimits, emits]
    exact List.mem_append_left _ (List.mem_reverse.2 (List.mem_cons_of_mem _ (List.mem_cons_self ..)))
  unfold offerSchedules
  rw [hout]
  split
  · exact ⟨(kept_emit _ (by decide)).2 hkept, List.mem_cons_of_mem _ hhlc, List.mem_cons_of_mem _ hlimits,
      fun _ => List.mem_cons_self ..⟩
  next h => exact ⟨hkept, hhlc, hlimits, fun hiso => absurd hiso h⟩

/-! ### CableCheck -/

theorem mayClose_of_outlet {c : Chip} {o : Nat} (f : OutletSt → OutletSt) (h : (f (outletOf c o)).lockIn = (outletOf c o).lockIn) :
    mayClose (modOutlet c o f) o = mayClose c o := by
  have hlock : lockedIn (modOutlet c o f) o = lockedIn c o := by
    rw [lockedIn, lockedIn, outletOf_modOutlet_same, h]
    rfl
  rw [mayClose, mayClose, hlock]
  rfl

/-- R271: the coil that is commanded on, its gate open and not yet driven. -/
theorem commandCoil_on {c : Chip} {o : Nat} (hgate : gateOpen c o = true) (hoff : (coilOf c o).driven = false) :
    (coilOf (commandCoil c o true) o).state = .pullin ∧ (coilOf (commandCoil c o true) o).cmd = true := by
  have hcoil : coilOf (modOutlet (setCoil c o { coilOf c o with cmd := true }) o fun x => { x with timing := false }) o =
      { coilOf c o with cmd := true } := coilOf_setCoil_same _ _ _
  have hcond : (gateOpen (modOutlet (setCoil c o { coilOf c o with cmd := true }) o fun x => { x with timing := false }) o &&
      !(coilOf (modOutlet (setCoil c o { coilOf c o with cmd := true }) o fun x => { x with timing := false }) o).driven) = true := by
    rw [hcoil]
    have hdriven : Coil.driven { coilOf c o with cmd := true } = false := hoff
    rw [hdriven, Bool.not_false, Bool.and_true]
    exact hgate
  unfold commandCoil
  rw [if_pos rfl, if_pos hcond, coilOf_setCoil_same, hcoil]
  exact ⟨rfl, rfl⟩

theorem outletOf_commandCoil_on (c : Chip) (o : Nat) :
    outletOf (commandCoil c o true) o = { outletOf c o with timing := false } := by
  have hsame : ∀ d : Chip, d.outl = (modOutlet (setCoil c o { coilOf c o with cmd := true }) o fun x => { x with timing := false }).outl →
      outletOf d o = { outletOf c o with timing := false } := fun d h =>
    (outletOf_of_outl h o).trans (outletOf_modOutlet_same _ _ _)
  refine hsame _ ?_
  unfold commandCoil
  rw [if_pos rfl]
  split <;> rfl

/-- R257: a DC outlet that closes at once. -/
theorem startClosing_dc {c : Chip} {o : Outlet} {u : Nat} (hdc : isDc c o.val = true)
    (hst : (outletOf c o.val).state = .authorised) (hmay : mayClose c o.val = true)
    (hpre : (outletOf c o.val).preclosed = some u) (hage : aonSec c ≤ u + 60) : startClosing c o =
      commandCoil (modOutlet c o.val (fun x => { x with state := .closing, why := .pause })) o.val true := by
  have hboth : mayEnergise c o.val = true ∧ lockedIn c o.val = true := by
    simp only [mayClose, Bool.and_eq_true] at hmay
    exact ⟨hmay.1.1.1, hmay.2⟩
  have hac : isAc c o.val = false := by
    rw [isDc, decide_eq_true_eq] at hdc
    rw [isAc, beq_eq_false_iff_ne]
    omega
  have hac' : isAc (modOutlet c o.val (fun x => { x with state := .closing, why := .pause })) o.val = false := hac
  have hmay' : mayClose (modOutlet c o.val (fun x => { x with state := .closing, why := .pause })) o.val = true :=
    (mayClose_of_outlet _ rfl).trans hmay
  unfold startClosing
  dsimp only
  rw [if_pos ⟨hst, hboth.1, hboth.2⟩, hpre]
  dsimp only
  rw [if_pos hage]
  unfold enterClosing
  dsimp only
  rw [hac', Bool.false_and, if_neg Bool.false_ne_true]
  unfold commandClose
  rw [if_pos hmay']

/-! ### What OPENING leaves of an outlet's record -/

theorem releaseForOpening_rec (c : Chip) (o : Nat) : ∃ t m a w, outletOf (releaseForOpening c o) o =
    { outletOf c o with state := .weldCheck, timing := t, setMode := m, setMa := a, setW := w } := by
  unfold releaseForOpening
  dsimp only
  split
  · rw [outletOf_stopConverters_same, outletOf_modOutlet_same, outletOf_processorOff]
    exact ⟨_, _, _, _, rfl⟩
  · rw [outletOf_modOutlet_same, outletOf_processorOff]
    exact ⟨_, _, _, _, rfl⟩

theorem bookCoil_release_rec (c : Chip) (k : BookKind) (o at' : Nat) :
    ∃ st t m a w, outletOf (bookCoil c k at' fun c => releaseForOpening c o) o =
      { outletOf c o with state := st, timing := t, setMode := m, setMa := a, setW := w } := by
  have hbook := outletOf_of_outl (book_outl c { cycle := at' / 65536, angle := at' % 65536, kind := k, period := 0 }) o
  unfold bookCoil
  split
  next d heq =>
    rw [heq] at hbook
    obtain ⟨t, m, a, w, hrec⟩ := releaseForOpening_rec d o
    exact ⟨_, t, m, a, w, hrec.trans (by rw [hbook])⟩
  next heq => rw [heq] at hbook; exact ⟨_, _, _, _, _, hbook⟩

theorem enterOpening_rec (c : Chip) (o : Fin 8) (why : StopWhy) : ∃ st t m a w, outletOf (enterOpening c o why) o.val =
    { outletOf c o.val with
      state := st, why := why, powerStart := false, timing := t, setMode := m, setMa := a, setW := w } := by
  have hfirst := outletOf_modOutlet_same c o.val fun x => { x with state := .opening, why := why, powerStart := false }
  unfold enterOpening
  dsimp only
  generalize modOutlet c o.val (fun x => { x with state := .opening, why := why, powerStart := false }) = d at hfirst
  split
  · exact ⟨_, _, _, _, _, (outletOf_sendSetpoints _).trans ((outletOf_modOutlet_same ..).trans (by rw [hfirst]))⟩
  · split
    · split
      · obtain ⟨t, m, a, w, hrec⟩ := releaseForOpening_rec (outEvt d o.val 9) o.val
        exact ⟨_, t, m, a, w, hrec.trans (by rw [outletOf_outEvt, hfirst])⟩
      · obtain ⟨st, t, m, a, w, hrec⟩ := bookCoil_release_rec d (.coilOpen o) o.val (openInstant d o.val).2
        exact ⟨st, t, m, a, w, hrec.trans (by rw [hfirst])⟩
    · split
      · obtain ⟨st, t, m, a, w, hrec⟩ := bookCoil_release_rec d (.coilOpen o) o.val (nowAu d + 64)
        exact ⟨st, t, m, a, w, hrec.trans (by rw [hfirst])⟩
      · obtain ⟨t, m, a, w, hrec⟩ := releaseForOpening_rec d o.val
        exact ⟨_, t, m, a, w, hrec.trans (by rw [hfirst])⟩

theorem enterOpening_resume (c : Chip) (o : Fin 8) (why : StopWhy) :
    (outletOf (enterOpening c o why) o.val).resume = (outletOf c o.val).resume := by
  obtain ⟨st, t, m, a, w, hrec⟩ := enterOpening_rec c o why
  rw [hrec]

/-- R257: FINISHING as the model enters it has no session to resume. -/
theorem enterFinishing_resume (c : Chip) (o : Nat) : (outletOf (enterFinishing c o) o).resume = false := by
  unfold enterFinishing
  extract_lets d due e f
  have hsame : (outletOf f o).resume = false := by
    change (outletOf (pilotSteady e o) o).resume = _
    rw [outletOf_pilotSteady_same, outletOf_modOutlet_same]
  clear_value f
  split
  · exact hsame
  · obtain ⟨a, b, hlock⟩ := driveLock_same f o false
    rw [hlock]
    exact hsame

end Sys2Proof.Machine

namespace Sys2Proof

open Machine

theorem setup_sessionSetupReq {s : State} {o : Outlet} {p : Hlc} {tls : Nat} {sid : BitVec 128}
    (hexec : exec (.sessionSetupReq o p tls sid) s = .next { s with
      chip := emit (runsHlc s.chip o.val p tls) (.hlc o.val 1 true) }) :
    Answers (.sessionSetupReq o p tls sid) s fun t => KeptBut [.outl, .out, .pwd] s t ∧ OthersKept o.val s.chip t.chip ∧
      outletOf t.chip o.val = { outletOf s.chip o.val with hlc := p, tls := tls, resume := false, pwm := true, duty := 50 } ∧
      t.chip.out = .hlc o.val 1 true :: s.chip.out := by
  refine answers_chip hexec ⟨keptBut_chip.2 ?_, (othersKept_emit _).2 (othersKept_runsHlc _ _ _ _),
    outletOf_runsHlc _ _ _ _, ?_⟩
  · exact (kept_emit _ (by decide)).2 ((runsHlc_kept _ _ _ _).mono (by decide))
  · exact congrArg (List.cons (Emit.hlc o.val 1 true)) (runsHlc_kept s.chip o.val p tls .out (by decide))

theorem stop_sessionResumeTimeout {s : State} {o : Outlet} (a : Nat) (hf : fenced s.chip .out = false)
    (hres : (outletOf s.chip o.val).resume = true) (hst : (outletOf s.chip o.val).state = .energised)
    (hon : energised s.chip o.val = true) :
    Answers (.sessionResumeTimeout o a) s fun t =>
      KeptBut [.freeCount, .host, .out, .outl, .pwd, .regs, .saf, .sess, .tb] s t ∧ OthersKept o.val s.chip t.chip ∧
      (outletOf t.chip o.val).resume = false ∧ (outletOf t.chip o.val).why = .stop ∧
      ((outletOf t.chip o.val).state = .opening ∨ (outletOf t.chip o.val).state = .weldCheck) ∧
      ∀ x, liveCtx s.chip o.val = some x → (ctxOf t.chip x).flags.getLsbD 2 = true := by
  let c := resumeMissed (atAngle s.chip a) o.val
  have hk : ChipKeptBut [.outl, .sess, .tb] s.chip c :=
    ((atAngle_kept s.chip a).mono (by decide)).trans ((resumeMissed_kept _ _).mono (by decide))
  have hout : outletOf c o.val = { outletOf s.chip o.val with resume := false } := outletOf_resumeMissed (atAngle s.chip a) o.val
  have hothers : OthersKept o.val s.chip c :=
    OthersKept.trans (d := atAngle s.chip a) (fun _ _ => rfl) (othersKept_resumeMissed _ _)
  have hstop : stopOutlet c o 0 = enterOpening c o .stop := stopOutlet_energised 0 (by rw [hout]; exact hst)
  have hexec := exec_sessionResumeTimeout a hf hres
  rw [energised_of_pwd (hk .pwd (by decide)), hon, if_pos rfl, hstop] at hexec
  obtain ⟨hkept, ho, hwhy, hstate⟩ := opens_enterOpening c o .stop
  refine answers_chip hexec ⟨keptBut_chip.2 ((hk.mono (by decide)).trans (hkept.mono (by decide))), hothers.trans ho,
    ?_, hwhy, hstate.imp_right And.left, fun x hlive => ?_⟩
  · exact (enterOpening_resume c o .stop).trans (congrArg OutletSt.resume hout)
  · exact (congrArg (fun k : Machine.Context => k.flags.getLsbD 2) (ctxOf_of_sess (hkept .sess (by decide)) x)).trans
      (resumeMissed_flag (c := atAngle s.chip a) hlive)

theorem ends_sessionResumeTimeout {s : State} {o : Outlet} (a : Nat) (hf : fenced s.chip .out = false)
    (hres : (outletOf s.chip o.val).resume = true) (hoff : energised s.chip o.val = false) :
    Answers (.sessionResumeTimeout o a) s fun t =>
      KeptBut [.acc, .host, .out, .outl, .pwd, .sess, .tb] s t ∧ OthersKept o.val s.chip t.chip ∧
      (outletOf t.chip o.val).resume = false ∧ (outletOf t.chip o.val).state = .finishing := by
  let c := resumeMissed (atAngle s.chip a) o.val
  have hk : ChipKeptBut [.outl, .sess, .tb] s.chip c :=
    ((atAngle_kept s.chip a).mono (by decide)).trans ((resumeMissed_kept _ _).mono (by decide))
  have hothers : OthersKept o.val s.chip c :=
    OthersKept.trans (d := atAngle s.chip a) (fun _ _ => rfl) (othersKept_resumeMissed _ _)
  have hexec := exec_sessionResumeTimeout a hf hres
  rw [energised_of_pwd (hk .pwd (by decide)), hoff, if_neg Bool.false_ne_true] at hexec
  refine answers_chip hexec ⟨keptBut_chip.2 ?_, othersKept_enterFinishing.2 ((othersKept_stopSession _ _).2 hothers),
    enterFinishing_resume _ _, (enterFinishing_same _ _).1⟩
  exact (kept_enterFinishing _ (by decide)).2 ((kept_stopSession _ _ (by decide)).2 (hk.mono (by decide)))

theorem pnc_authorizationReq {s : State} {o : Outlet} {i : List Byte} {pt : Nat} (h : hlcRuns s.chip = true)
    (hst : (outletOf s.chip o.val).state = .negotiating) (hcfg : cfgBit s.chip (Reg.OUT_CFG o.val) 16 = true)
    (hdin : (outletOf s.chip o.val).hlc ≠ .din) (htls : (outletOf s.chip o.val).tls ≠ 0)
    (hmay : mayAuthorise s.chip o.val (authRefOf i) = true) (hup : backendUp s.chip = true) :
    Answers (.authorizationReq o true true i pt) s fun t => KeptBut [.outl, .out] s t ∧
      OthersKept o.val s.chip t.chip ∧
      (outletOf t.chip o.val).authWait = some ⟨.plugCharge, true, authRefOf i, pt, none⟩ ∧
      t.chip.out = .ocpp 1 o.val true :: s.chip.out := by
  have hexec : exec (.authorizationReq o true true i pt) s = .next { s with
      chip := onAuthorizationReq o true true i pt s.chip } := takeHlc_runs _ _ h
  have hup' : backendUp (modOutlet s.chip o.val fun x => { x with authWait := some (pncWait i pt) }) = true := hup
  rw [onAuthorizationReq_pnc true pt hst hcfg hdin htls hmay] at hexec
  unfold askChain at hexec
  dsimp only at hexec
  rw [Bool.not_true, if_neg Bool.false_ne_true, if_pos hup'] at hexec
  refine answers_chip hexec ⟨keptBut_chip.2 ?_, ?_, ?_, rfl⟩
  · simp +decide only [kept_emit, kept_modOutlet, kept_refl]
  · exact (othersKept_emit _).2 ((othersKept_modOutlet ..).2 ((othersKept_modOutlet ..).2 (.refl _ _)))
  · exact congrArg OutletSt.authWait ((outletOf_of_outl (emit_outl _ _) _).trans (outletOf_modOutlet_same ..))

theorem chain_authorizationReq {s : State} {o : Outlet} {i : List Byte} {pt : Nat} (h : hlcRuns s.chip = true)
    (hst : (outletOf s.chip o.val).state = .negotiating) (hcfg : cfgBit s.chip (Reg.OUT_CFG o.val) 16 = true)
    (hdin : (outletOf s.chip o.val).hlc ≠ .din) (htls : (outletOf s.chip o.val).tls ≠ 0)
    (hmay : mayAuthorise s.chip o.val (authRefOf i) = true) :
    Answers (.authorizationReq o true false i pt) s fun t => KeptBut [.host, .out, .outl, .pwd, .regs] s t ∧
      OthersKept o.val s.chip t.chip ∧ (outletOf t.chip o.val).state = .finishing ∧
      (outletOf t.chip o.val).authWait = none ∧ immBit t.chip (Reg.OUT_EVT o.val) 3 = true := by
  have hexec : exec (.authorizationReq o true false i pt) s = .next { s with
      chip := onAuthorizationReq o true false i pt s.chip } := takeHlc_runs _ _ h
  let c := modOutlet s.chip o.val fun x => { x with authWait := some (pncWait i pt) }
  have hc : (outletOf c o.val).state = .negotiating := by rw [outletOf_modOutlet_same]; exact hst
  have hask : askChain s.chip o (pncWait i pt) false = startFailed c o := rfl
  rw [onAuthorizationReq_pnc false pt hst hcfg hdin htls hmay, hask] at hexec
  refine answers_chip hexec ⟨keptBut_chip.2 ?_, ?_, startFailed_negotiating hc⟩
  · exact (kept_startFailed _ (by decide)).2 ((kept_modOutlet _ _ (by decide)).2 (.refl _ _))
  · exact othersKept_startFailed.2 ((othersKept_modOutlet ..).2 (.refl _ _))

theorem fit_chargeParameters {s : State} {o : Outlet} {b d : Bool} (ss : List (List Nat)) (h : hlcRuns s.chip = true)
    (hst : (outletOf s.chip o.val).state = .negotiating) (hauth : (outletOf s.chip o.val).auth = none)
    (hfit : serviceFits s.chip o.val b d = true) :
    Answers (.chargeParameterDiscoveryReq o b d ss) s fun t => KeptBut [.freeCount, .outl, .out, .pwd] s t ∧
      OthersKept o.val s.chip t.chip ∧ (outletOf t.chip o.val).paramDone = true ∧
      (outletOf t.chip o.val).state = .negotiating ∧ (outletOf t.chip o.val).bpt = b ∧
      (outletOf t.chip o.val).dynamic = d ∧ .hlc o.val 3 true ∈ t.chip.out ∧
      .limits o.val (outletOf t.chip o.val).ilim (if b then cfg s.chip (Reg.OUT_LIMIT o.val) 31 16 else 0) ∈ t.chip.out ∧
      ((outletOf s.chip o.val).hlc = .iso2 → .schedules o.val ((ss.take 3).map (·.take 24)) ∈ t.chip.out) := by
  have hexec : exec (.chargeParameterDiscoveryReq o b d ss) s = .next { s with
      chip := onChargeParameterDiscoveryReq o b d ss s.chip } := takeHlc_runs _ _ h
  rw [onChargeParameters_fit ss hst hauth hfit] at hexec
  let c := takeFree (paramsTaken s.chip o.val b d)
  have hcout : outletOf c o.val = { outletOf s.chip o.val with paramDone := true, bpt := b, dynamic := d } :=
    outletOf_paramsTaken _ _ _ _
  have hck : ChipKeptBut [.freeCount, .outl] s.chip c :=
    (kept_takeFree (by decide)).2 ((kept_modOutlet _ _ (by decide)).2 (.refl _ _))
  have hcothers : OthersKept o.val s.chip c := othersKept_takeFree.2 ((othersKept_modOutlet ..).2 (.refl _ _))
  have hne : (outletOf c o.val).state ≠ .authorised := by
    rw [hcout]
    dsimp only
    rw [hst]
    exact OState.noConfusion
  obtain ⟨hik, l, p, e, hilim⟩ := updateIlim_steady hne
  obtain ⟨hsk, hhlc, hlimits, hsched⟩ := offerSchedules_sends (updateIlim c o.val) o.val ss
  have hout := outletOf_of_kept hsk o.val
  rw [hilim, hcout] at hlimits hsched hout
  have hcfg : cfg (updateIlim c o.val) (Reg.OUT_LIMIT o.val) 31 16 = cfg s.chip (Reg.OUT_LIMIT o.val) 31 16 := by
    rw [cfg, cfg, liveGet, liveGet, hik .live (by decide), hck .live (by decide)]
  rw [hcfg] at hlimits
  refine answers_chip hexec ⟨keptBut_chip.2 ?_, ?_, ?_⟩
  · exact (hck.mono (by decide)).trans ((hik.mono (by decide)).trans (hsk.mono (by decide)))
  · exact (hcothers.trans (othersKept_updateIlim.2 (.refl _ _))).trans (.of_kept _ hsk)
  · rw [hout]
    exact ⟨rfl, hst, rfl, rfl, hhlc, hlimits, hsched⟩

theorem close_cableCheckReq {s : State} {o : Outlet} {u : Nat} (h : hlcRuns s.chip = true) (hdc : isDc s.chip o.val = true)
    (hst : (outletOf s.chip o.val).state = .authorised) (hcp : cpReady s.chip o.val = true)
    (hmv : outputMv s.chip o.val < 60000) (hmay : mayClose s.chip o.val = true)
    (hpre : (outletOf s.chip o.val).preclosed = some u) (hage : aonSec s.chip ≤ u + 60)
    (hoff : (coilOf s.chip o.val).driven = false) :
    Answers (.cableCheckReq o) s fun t => KeptBut [.outl, .pwd] s t ∧ OthersKept o.val s.chip t.chip ∧
      (outletOf t.chip o.val).state = .closing ∧ (coilOf t.chip o.val).state = .pullin ∧
      (coilOf t.chip o.val).cmd = true := by
  have hexec : exec (.cableCheckReq o) s = .next { s with
      chip := onCableCheckReq o s.chip } := takeHlc_runs _ _ h
  have hact : onCableCheckReq o s.chip = startClosing s.chip o := if_pos ⟨hdc, hst, hcp, hmv⟩
  have hgate : gateOpen s.chip o.val = true := by
    simp only [mayClose, Bool.and_eq_true] at hmay
    exact hmay.1.2
  rw [hact, startClosing_dc hdc hst hmay hpre hage] at hexec
  refine answers_chip hexec ⟨keptBut_chip.2 ?_, ?_, ?_, commandCoil_on hgate hoff⟩
  · exact (kept_commandCoil _ _ (by decide)).2 ((kept_modOutlet _ _ (by decide)).2 (.refl _ _))
  · exact (othersKept_commandCoil _).2 ((othersKept_modOutlet ..).2 (.refl _ _))
  · change (outletOf (commandCoil _ o.val true) o.val).state = _
    rw [outletOf_commandCoil_on, outletOf_modOutlet_same]

theorem ramp_preChargeReq {s : State} {o : Outlet} {mv ma : Nat} (h : hlcRuns s.chip = true)
    (hst : ((outletOf s.chip o.val).state = .checking ∧ 2 ≤ tget 0 s.chip.saf.imdGood o.val) ∨
      (outletOf s.chip o.val).state = .precharge) :
    Answers (.preChargeReq o mv ma) s fun t => KeptBut [.outl, .out, .freeCount] s t ∧
      OthersKept o.val s.chip t.chip ∧ (outletOf t.chip o.val).state = .precharge ∧
      (outletOf t.chip o.val).setMv = min mv (cfg s.chip (Reg.OUT_DCLIM o.val) 15 0 * 100) ∧
      (outletOf t.chip o.val).setMa = (min ma 2000 : Nat) ∧ t.chip.out.head? = some (.hlc o.val 5 true) := by
  have hexec : exec (.preChargeReq o mv ma) s = .next { s with
      chip := onPreChargeReq o mv ma s.chip } := takeHlc_runs _ _ h
  have hact : onPreChargeReq o mv ma s.chip = emit (sendSetpoints (modOutlet s.chip o.val (fun x => { x with
      state := .precharge, setMode := 1, setMv := capMv s.chip o.val mv, setMa := (min ma 2000 : Nat) })) o.val)
      (.hlc o.val 5 true) := if_pos hst
  rw [hact] at hexec
  refine answers_chip hexec ⟨keptBut_chip.2 ?_, ?_, ?_⟩
  · simp +decide only [kept_emit, kept_sendSetpoints, kept_modOutlet, kept_refl]
  · exact (othersKept_emit _).2 ((othersKept_sendSetpoints _).2 ((othersKept_modOutlet ..).2 (.refl _ _)))
  · have hout := (outletOf_of_outl (emit_outl (sendSetpoints (modOutlet s.chip o.val (fun x => { x with
      state := .precharge, setMode := 1, setMv := capMv s.chip o.val mv, setMa := (min ma 2000 : Nat) })) o.val)
      (.hlc o.val 5 true)) o.val).trans ((outletOf_sendSetpoints o.val).trans (outletOf_modOutlet_same ..))
    dsimp only
    rw [hout]
    exact ⟨rfl, rfl, rfl, rfl⟩

theorem certs_certificateInstallation {s : State} {o : Outlet} (u : Bool) (cert : List Byte) (h : hlcRuns s.chip = true)
    (hiso : (outletOf s.chip o.val).hlc = .iso2) :
    Answers (.certificateInstallationReq o u cert) s fun t => KeptBut [.outl, .out] s t ∧
      cert ∈ t.chip.outl.certs ∧ (∀ p, outletOf t.chip p = outletOf s.chip p) ∧
      t.chip.out = .hlc o.val (if u then 12 else 9) true :: s.chip.out := by
  have hexec : exec (.certificateInstallationReq o u cert) s = .next { s with
      chip := onCertificateInstallationReq o u cert s.chip } := takeHlc_runs _ _ h
  have hact : onCertificateInstallationReq o u cert s.chip = emit
      { s.chip with
        outl := { s.chip.outl with certs := cert :: s.chip.outl.certs.filter (fun x => x != cert) } }
      (.hlc o.val (if u then 12 else 9) true) := if_pos hiso
  rw [hact] at hexec
  refine answers_chip hexec ⟨keptBut_chip.2 ?_, List.mem_cons_self .., fun p => rfl, rfl⟩
  exact (kept_emit _ (by decide)).2 ((kept_set_outl (by decide)).2 (.refl _ _))

/-- A vehicle's message that is answered at once. -/
theorem answered_hlc {i : Instr} {s : State} {f : Chip → Chip} {e : Emit} (hexec : exec i s = .next { s with
      chip := f s.chip }) (hact : f s.chip = emit s.chip e) :
    Answers i s fun t => KeptBut [.out] s t ∧ t.chip.out = e :: s.chip.out := answered_slac hexec hact

/-- Settles O19: the session setup, the authorisation, the parameters and the closing of a DC outlet. -/
theorem vehicleNegotiation : Obligations.VehicleNegotiation := by
  unfold Obligations.VehicleNegotiation
  refine ⟨fun s o p tls sid h hp htls hres hst => setup_sessionSetupReq ?_, fun s o p tls sid h hno => ?_,
    fun s o p tls x sid h hp htls hres hlive hsid hst => ?_,
    fun s o a hf hres hst hon => stop_sessionResumeTimeout a hf hres hst hon,
    fun s o a hf hres hoff => ends_sessionResumeTimeout a hf hres hoff, fun s o ok i pt h hst => ?_,
    fun s o i pt h hst hcfg hdin htls hmay hup => pnc_authorizationReq h hst hcfg hdin htls hmay hup,
    fun s o i pt h hst hcfg hdin htls hmay => chain_authorizationReq h hst hcfg hdin htls hmay,
    fun s o b d ss h hst hauth hfit => fit_chargeParameters ss h hst hauth hfit, fun s o b d ss h hst hfit => ?_,
    fun s o u h hdc hst hcp hmv hmay hpre hage hoff => close_cableCheckReq h hdc hst hcp hmv hmay hpre hage hoff,
    fun s o h hst => ?_, fun s o mv ma h hst => ramp_preChargeReq h hst, fun s o mv ma h hst hfew => ?_,
    fun s o h hst => ?_, fun s o u cert h hiso => certs_certificateInstallation u cert h hiso, fun s o u cert h hiso => ?_,
    fun s o x h hlive hiso => ?_⟩
  case _ => exact (takeHlc_runs _ _ h).trans (by rw [onSessionSetupReq_new hp htls hres hst])
  case _ =>
    exact answered_hlc (i := .sessionSetupReq o p tls sid) (takeHlc_runs _ (onSessionSetupReq o p tls sid) h)
      (onSessionSetupReq_refused sid hno)
  case _ =>
    obtain ⟨t, hnext, hk, ho, hout, hsent⟩ := setup_sessionSetupReq (s := s) (o := o) (p := p) (tls := tls) (sid := sid)
      ((takeHlc_runs _ _ h).trans (by rw [onSessionSetupReq_resumed hp htls hres hlive hsid hst]))
    rw [Answers]
    refine ⟨t, hnext, hk, ho, ?_⟩
    rw [hout]
    exact ⟨rfl, rfl, hst, hsent⟩
  case _ =>
    exact answered_hlc (i := .authorizationReq o false ok i pt) (takeHlc_runs _ (onAuthorizationReq o false ok i pt) h)
      (onAuthorizationReq_eim ok i pt hst)
  case _ =>
    exact answered_hlc (i := .chargeParameterDiscoveryReq o b d ss)
      (takeHlc_runs _ (onChargeParameterDiscoveryReq o b d ss) h) (onChargeParameters_unfit ss hst hfit)
  case _ =>
    refine answered_hlc (i := .cableCheckReq o) (takeHlc_runs _ (onCableCheckReq o) h) ?_
    unfold onCableCheckReq
    dsimp only
    rw [if_neg fun hall => absurd (hst.symm.trans hall.2.1) (by decide), if_pos hst]
  case _ =>
    refine (takeHlc_runs _ (onPreChargeReq o mv ma) h).trans ?_
    have hno : onPreChargeReq o mv ma s.chip = s.chip := if_neg (by
      rintro (⟨-, hgood⟩ | hpre)
      · omega
      · exact absurd (hst.symm.trans hpre) (by decide))
    rw [hno]
  case _ =>
    have hexec : exec (.hlcTimeout o) s = .next { s with
        chip := enterFinishing (outEvt s.chip o.val 7) o.val } := by
      change viaHlc s _ = _
      rw [viaHlc, onChip, hlcGate_runs _ h, if_pos hst]
    have hk : ChipKeptBut [.outl, .pwd, .host, .out] (outEvt s.chip o.val 7) (enterFinishing (outEvt s.chip o.val 7) o.val) :=
      (kept_enterFinishing _ (by decide)).2 (.refl _ _)
    refine answers_chip hexec ⟨keptBut_chip.2 ?_, othersKept_enterFinishing.2 ((othersKept_outEvt _ _).2 (.refl _ _)),
      (enterFinishing_same _ _).1, ?_⟩
    · exact (kept_enterFinishing _ (by decide)).2 ((kept_outEvt _ _ (by decide)).2 (.refl _ _))
    · exact (immBit_of_regs (hk .regs (by decide)) _ _).trans (immBit_raiseEvt _ _ 7 (by decide))
  case _ =>
    exact answered_hlc (i := .certificateInstallationReq o u cert)
      (takeHlc_runs _ (onCertificateInstallationReq o u cert) h) (if_neg hiso)
  case _ =>
    refine answered_hlc (i := .meteringReceiptReq o) (takeHlc_runs _ (onMeteringReceiptReq o) h) ?_
    unfold onMeteringReceiptReq
    rw [hlive]
    exact if_pos hiso

end Sys2Proof
end

section
/-! PROOFS. The vehicle protocols during a charge (R254, R257, R268). -/

namespace Sys2Proof.Machine

theorem answerLimits_kept (c : Chip) (o k : Nat) (ok : Bool) : ChipKeptBut [.out] c (answerLimits c o k ok) :=
  (kept_answerLimits _ _ _ (by decide)).2 (.refl _ c)

theorem answerLimits_sends (c : Chip) (o k : Nat) (ok : Bool) : Emit.hlc o k ok ∈ (answerLimits c o k ok).out := by
  rw [answerLimits, emits]
  exact List.mem_append_left _ (List.mem_reverse.2 (List.mem_cons_self ..))

/-! ### PowerDelivery -/

theorem onPowerDeliveryReq_none {c : Chip} {o : Outlet} (r : PowerReq) (a : Nat) (h : (outletOf c o.val).hlc = .none) :
    onPowerDeliveryReq o r a c = atAngle c a := if_pos h

theorem onPowerDeliveryReq_stop {c : Chip} {o : Outlet} (a : Nat) (h : (outletOf c o.val).hlc ≠ .none) :
    onPowerDeliveryReq o .stop a c = answerLimits (stopOutlet (atAngle c a) o 0) o.val 11 true := if_neg h

theorem onPowerDeliveryReq_start {c : Chip} {o : Outlet} (a : Nat) (h : (outletOf c o.val).hlc ≠ .none) :
    onPowerDeliveryReq o .start a c = answerLimits (Machine.powerStart (atAngle c a) o) o.val 11 true := if_neg h

theorem onPowerDeliveryReq_pause {c : Chip} {o : Outlet} (a : Nat) (h : (outletOf c o.val).hlc ≠ .none)
    (hdin : (outletOf c o.val).hlc ≠ .din) (hst : (outletOf c o.val).state = .energised) :
    onPowerDeliveryReq o .pause a c = answerLimits (enterOpening (atAngle c a) o .pause) o.val 11 true := by
  have hst' : (outletOf (atAngle c a) o.val).state = .energised := hst
  refine (if_neg h).trans ((if_neg hdin).trans ?_)
  rw [if_pos hst']

theorem onPowerDeliveryReq_pause_din {c : Chip} {o : Outlet} (a : Nat) (hdin : (outletOf c o.val).hlc = .din) :
    onPowerDeliveryReq o .pause a c = emit (atAngle c a) (.hlc o.val 11 false) := by
  have hne : (outletOf c o.val).hlc ≠ .none := by rw [hdin]; exact Hlc.noConfusion
  exact (if_neg hne).trans (if_pos hdin)

/-- R268: the outlet whose pre-charge has reached its target. -/
def startedRec (x : OutletSt) : OutletSt := { x with state := .energised, powerStart := true }

/-- R257: ENERGISED, with its event. -/
def powerStarted (c : Chip) (o : Nat) : Chip := takeFree (outEvt (modOutlet c o startedRec) o 4)

theorem powerStart_reached {c : Chip} {o : Outlet} (hst : (outletOf c o.val).state = .precharge)
    (hmv : ((outputMv c o.val : Int) - (outletOf c o.val).setMv).natAbs ≤ 20000) (hma : (outputMa c o.val).natAbs ≤ 2000) :
    Machine.powerStart c o = updateIlim (powerStarted c o.val) o.val := by
  unfold Machine.powerStart
  dsimp only
  rw [if_pos hst, if_pos ⟨hmv, hma⟩]
  rfl

theorem powerStarted_kept (c : Chip) (o : Nat) :
    ChipKeptBut [.freeCount, .host, .out, .outl, .regs] c (powerStarted c o) := by
  simp +decide only [powerStarted, kept_takeFree, kept_outEvt, kept_modOutlet, kept_refl]

theorem outletOf_powerStarted (c : Chip) (o : Nat) : outletOf (powerStarted c o) o = startedRec (outletOf c o) :=
  (outletOf_outEvt _ _ _ _).trans (outletOf_modOutlet_same _ _ _)

/-! ### Opening with an answer -/

theorem opens_after {b c d : Chip} {o : Nat} {why : StopWhy} (h : Opens b c o why) (hk : ChipKeptBut [.out] c d) :
    Opens b d o why := by
  obtain ⟨hkept, hothers, hwhy, hstate⟩ := h
  have hout := outletOf_of_kept hk o
  refine ⟨hkept.trans (hk.mono (by decide)), hothers.trans (.of_kept o hk), ?_, ?_⟩
  · rw [hout]; exact hwhy
  · rw [hout]
    exact hstate.imp_right fun ⟨hst, hoff⟩ => ⟨hst, hoff.of_kept hk⟩

/-! ### Current demand (R259, R386) -/

/-- R259: the targets of a current demand. -/
def demandRec (c : Chip) (o mv : Nat) (ma : Int) (x : OutletSt) : OutletSt :=
  { x with
    reqMa := some ma, setMode := if capMa c o ma < 0 then 2 else 1, setMv := capMv c o mv, setMa := capMa c o ma,
    setW := cfg c (Reg.OUT_DCLIM o) 31 16 * 100 }

theorem currentDemandReq_sets {s : State} {o : Outlet} (mv : Nat) (ma : Int) (h : hlcRuns s.chip = true)
    (hdc : isDc s.chip o.val = true) (hst : (outletOf s.chip o.val).state = .energised) :
    Answers (.currentDemandReq o mv ma) s fun t => KeptBut [.outl, .out, .freeCount] s t ∧
      OthersKept o.val s.chip t.chip ∧ outletOf t.chip o.val = demandRec s.chip o.val mv ma (outletOf s.chip o.val) ∧
      .hlc o.val 10 true ∈ t.chip.out := by
  have hexec : exec (.currentDemandReq o mv ma) s = .next { s with
      chip := onCurrentDemandReq o mv ma s.chip } := takeHlc_runs _ _ h
  let c := modOutlet s.chip o.val fun x => { x with reqMa := some ma }
  let d := modOutlet c o.val fun x => { x with
      setMode := if capMa s.chip o.val ma < 0 then 2 else 1, setMv := capMv s.chip o.val mv, setMa := capMa s.chip o.val ma,
      setW := cfg s.chip (Reg.OUT_DCLIM o.val) 31 16 * 100 }
  have hact : onCurrentDemandReq o mv ma s.chip = answerLimits (sendSetpoints d o.val) o.val 10 true := if_pos ⟨hdc, hst⟩
  have hd : outletOf d o.val = demandRec s.chip o.val mv ma (outletOf s.chip o.val) := by
    rw [outletOf_modOutlet_same, outletOf_modOutlet_same]
    rfl
  have hk := answerLimits_kept (sendSetpoints d o.val) o.val 10 true
  rw [hact] at hexec
  refine answers_chip hexec ⟨keptBut_chip.2 ?_, ?_, ?_, answerLimits_sends _ _ _ _⟩
  · refine (kept_answerLimits _ _ _ (by decide)).2 ((kept_sendSetpoints _ (by decide)).2 ?_)
    exact (kept_modOutlet _ _ (by decide)).2 ((kept_modOutlet _ _ (by decide)).2 (.refl _ _))
  · refine OthersKept.trans ?_ (.of_kept o.val hk)
    exact (othersKept_sendSetpoints _).2 ((othersKept_modOutlet ..).2 ((othersKept_modOutlet ..).2 (.refl _ _)))
  · exact (outletOf_of_kept hk o.val).trans ((outletOf_sendSetpoints o.val).trans hd)

theorem capMa_forward {c : Chip} {o : Nat} {ma : Int} (h : 0 ≤ ma) : capMa c o ma = min ma ((outletOf c o).ilim * 100 : Nat) :=
  if_pos h

theorem capMa_forward_nonneg {c : Chip} {o : Nat} {ma : Int} (h : 0 ≤ ma) : ¬ capMa c o ma < 0 := by
  rw [capMa_forward h]
  omega

theorem capMa_noReverse {c : Chip} {o : Nat} {ma : Int} (h : ma < 0)
    (hno : outKind c o ≠ 3 ∨ (outletOf c o).hlc ≠ .iso20 ∨ (outletOf c o).bpt = false) : capMa c o ma = 0 := by
  unfold capMa
  rw [if_neg (by omega), if_neg]
  rintro ⟨hkind, hhlc, hbpt⟩
  obtain h | h | h := hno
  · exact h hkind
  · exact h hhlc
  · exact Bool.false_ne_true (h.symm.trans hbpt)

/-- R386: a demand in reverse is within what is asked and within the limit. -/
theorem capMa_reverse {c : Chip} {o : Nat} {ma : Int} (h : ma < 0) (hkind : outKind c o = 3)
    (hhlc : (outletOf c o).hlc = .iso20) (hbpt : (outletOf c o).bpt = true) : capMa c o ma ≤ 0 ∧ ma ≤ capMa c o ma ∧
    -((cfg c (Reg.OUT_LIMIT o) 31 16 * 100 : Nat) : Int) ≤ capMa c o ma := by
  unfold capMa
  rw [if_neg (by omega), if_pos ⟨hkind, hhlc, hbpt⟩]
  dsimp only
  generalize grantCurrent c o (tget 0 c.fab.grantExp o) = g
  generalize cfg c (Reg.OUT_LIMIT o) 31 16 = rev
  split <;> omega

/-! ### WeldingDetection and the end -/

theorem unlockNow_other {c : Chip} {o : Nat} (h : (outletOf c o).state ≠ .finishing) : unlockNow c o = c :=
  if_neg fun hall => h hall.1

theorem unlockNow_outlet (c : Chip) (o : Nat) (hst : (outletOf c o).state = .finishing) :
    OthersKept o c (unlockNow c o) ∧ (outletOf (unlockNow c o) o).unlockDue = false ∧
    ((outletOf c o).unlockDue = true → cfgBit c (Reg.OUT_CFG o) 6 = true → fbClosed c o = false →
      (outletOf (unlockNow c o) o).locking = false) := by
  by_cases hdue : (outletOf c o).unlockDue = true
  · have heq : unlockNow c o = driveLock (modOutlet c o fun x => { x with unlockDue := false }) o false := if_pos ⟨hst, hdue⟩
    rw [heq]
    refine ⟨(othersKept_driveLock _).2 ((othersKept_modOutlet ..).2 (.refl o c)), ?_, fun _ hcfg hopen => ?_⟩
    · obtain ⟨a, b, hlock⟩ := driveLock_same (modOutlet c o fun x => { x with unlockDue := false }) o false
      rw [hlock, outletOf_modOutlet_same]
    · have hcfg' : cfgBit (modOutlet c o fun x => { x with unlockDue := false }) (Reg.OUT_CFG o) 6 = true := hcfg
      have hopen' : fbClosed (modOutlet c o fun x => { x with unlockDue := false }) o = false := hopen
      unfold driveLock
      dsimp only
      rw [if_pos hcfg', hopen', Bool.and_false, if_neg Bool.false_ne_true, outletOf_postPwd, outletOf_modOutlet_same]
  · have hoff : (outletOf c o).unlockDue = false := by simpa using hdue
    have heq : unlockNow c o = c := if_neg fun hall => hdue hall.2
    rw [heq]
    exact ⟨.refl o c, hoff, fun h => absurd h hdue⟩

end Sys2Proof.Machine

namespace Sys2Proof

open Machine

/-- A request that opens the outlet and is answered with the limits. -/
theorem opens_powerDelivery {i : Instr} {s : State} {o : Outlet} {why : StopWhy} (a : Nat)
    (hexec : exec i s = .next { s with
      chip := answerLimits (enterOpening (atAngle s.chip a) o why) o.val 11 true }) :
    Answers i s fun t => StoresKept s t ∧ Opens s.chip t.chip o.val why ∧ .hlc o.val 11 true ∈ t.chip.out := by
  have hopens := (opens_enterOpening (atAngle s.chip a) o why).of_before ((atAngle_kept s.chip a).mono (by decide)) fun _ _ => rfl
  exact answers_chip hexec ⟨storesKept_chip s _, opens_after hopens (answerLimits_kept _ _ _ _), answerLimits_sends _ _ _ _⟩

theorem start_powerDelivery {s : State} {o : Outlet} (a : Nat) (h : hlcRuns s.chip = true)
    (hhlc : (outletOf s.chip o.val).hlc ≠ .none) (hst : (outletOf s.chip o.val).state = .precharge)
    (hmv : ((outputMv s.chip o.val : Int) - (outletOf s.chip o.val).setMv).natAbs ≤ 20000)
    (hma : (outputMa s.chip o.val).natAbs ≤ 2000) :
    Answers (.powerDeliveryReq o .start a) s fun t =>
      KeptBut [.freeCount, .host, .out, .outl, .pwd, .regs, .tb] s t ∧ OthersKept o.val s.chip t.chip ∧
      (outletOf t.chip o.val).state = .energised ∧ immBit t.chip (Reg.OUT_EVT o.val) 4 = true ∧
      .hlc o.val 11 true ∈ t.chip.out := by
  have hexec : exec (.powerDeliveryReq o .start a) s = .next { s with
      chip := onPowerDeliveryReq o .start a s.chip } := takeHlc_runs _ _ h
  let c := powerStarted (atAngle s.chip a) o.val
  have hck : ChipKeptBut [.freeCount, .host, .out, .outl, .regs, .tb] s.chip c :=
    ((atAngle_kept s.chip a).mono (by decide)).trans ((powerStarted_kept _ _).mono (by decide))
  have hcst : (outletOf c o.val).state = .energised := by rw [outletOf_powerStarted]; rfl
  have hevt : immBit c (Reg.OUT_EVT o.val) 4 = true := immBit_raiseEvt _ _ 4 (by decide)
  have hcothers : OthersKept o.val s.chip c := (othersKept_takeFree).2 ((othersKept_outEvt _ _).2
    ((othersKept_modOutlet ..).2 fun _ _ => rfl))
  obtain ⟨hik, l, p, d, hilim⟩ := updateIlim_steady (c := c) (o := o) (by rw [hcst]; exact OState.noConfusion)
  have hak := answerLimits_kept (updateIlim c o.val) o.val 11 true
  rw [onPowerDeliveryReq_start a hhlc, powerStart_reached (c := atAngle s.chip a) hst hmv hma] at hexec
  refine answers_chip hexec ⟨keptBut_chip.2 ?_, ?_, ?_, ?_, answerLimits_sends _ _ _ _⟩
  · exact (hck.mono (by decide)).trans ((hik.mono (by decide)).trans (hak.mono (by decide)))
  · exact (hcothers.trans (othersKept_updateIlim.2 (.refl _ _))).trans (.of_kept _ hak)
  · refine (congrArg OutletSt.state (outletOf_of_kept hak o.val)).trans ?_
    rw [hilim]
    exact hcst
  · exact (immBit_of_regs (hak .regs (by decide)) _ _).trans ((immBit_of_regs (hik .regs (by decide)) _ _).trans hevt)

theorem finishing_weldingDetectionReq {s : State} {o : Outlet} (h : hlcRuns s.chip = true) (hdc : isDc s.chip o.val = true)
    (hst : (outletOf s.chip o.val).state = .finishing) :
    Answers (.weldingDetectionReq o) s fun t => KeptBut [.outl, .out, .pwd] s t ∧ OthersKept o.val s.chip t.chip ∧
      t.chip.out = .hlc o.val 6 true :: s.chip.out ∧ (outletOf t.chip o.val).unlockDue = false ∧
      ((outletOf s.chip o.val).unlockDue = true → cfgBit s.chip (Reg.OUT_CFG o.val) 6 = true →
        fbClosed s.chip o.val = false → (outletOf t.chip o.val).locking = false) := by
  have hexec : exec (.weldingDetectionReq o) s = .next { s with
      chip := onWeldingDetectionReq o s.chip } := takeHlc_runs _ _ h
  have hact : onWeldingDetectionReq o s.chip = unlockNow (emit s.chip (.hlc o.val 6 true)) o.val := if_pos ⟨hdc, hst⟩
  have hk : ChipKeptBut [.outl, .pwd] (emit s.chip (.hlc o.val 6 true)) (unlockNow (emit s.chip (.hlc o.val 6 true)) o.val) :=
    (kept_unlockNow _ (by decide)).2 (.refl _ _)
  obtain ⟨hothers, hdue, hlock⟩ := unlockNow_outlet (emit s.chip (.hlc o.val 6 true)) o.val hst
  rw [hact] at hexec
  refine answers_chip hexec ⟨keptBut_chip.2 ?_, hothers, hk .out (by decide), hdue, hlock⟩
  exact (kept_unlockNow _ (by decide)).2 ((kept_emit _ (by decide)).2 (.refl _ _))

/-- Settles O20: PowerDelivery, current demand, WeldingDetection and the stop of a session. -/
theorem vehicleEnergyTransfer : Obligations.VehicleEnergyTransfer := by
  unfold Obligations.VehicleEnergyTransfer
  refine ⟨fun s o a h hhlc hst => ⟨?_, fun hdin => ?_, fun hdin => ?_⟩,
    fun s o a h hhlc hst hmv hma => start_powerDelivery a h hhlc hst hmv hma, fun s o r a h hhlc => ?_,
    fun s o mv ma h hdc hst hpos => ?_, fun s o mv ma h hdc hno hst hneg => ?_,
    fun s o mv ma h hkind hhlc hbpt hst hneg => ?_, fun s o h hdc hst => finishing_weldingDetectionReq h hdc hst,
    fun s o a h hhlc hst => ?_⟩
  case _ =>
    refine opens_powerDelivery a ((takeHlc_runs _ _ h).trans ?_)
    rw [onPowerDeliveryReq_stop a hhlc, stopOutlet_energised (c := atAngle s.chip a) 0 hst]
  case _ =>
    refine opens_powerDelivery a ((takeHlc_runs _ _ h).trans ?_)
    rw [onPowerDeliveryReq_pause a hhlc hdin hst]
  case _ =>
    have hexec : exec (.powerDeliveryReq o .pause a) s = .next { s with
        chip := onPowerDeliveryReq o .pause a s.chip } := takeHlc_runs _ _ h
    rw [onPowerDeliveryReq_pause_din a hdin] at hexec
    refine answers_chip hexec ⟨keptBut_chip.2 ?_, rfl⟩
    exact (kept_emit _ (by decide)).2 ((atAngle_kept s.chip a).mono (by decide))
  case _ =>
    have hexec : exec (.powerDeliveryReq o r a) s = .next { s with
        chip := onPowerDeliveryReq o r a s.chip } := takeHlc_runs _ _ h
    rw [onPowerDeliveryReq_none r a hhlc] at hexec
    exact answers_chip hexec ⟨keptBut_chip.2 (atAngle_kept s.chip a), rfl⟩
  case _ =>
    obtain ⟨t, hnext, hk, ho, hout, hsent⟩ := currentDemandReq_sets mv ma h hdc hst
    rw [Answers]
    refine ⟨t, hnext, hk, ho, ?_⟩
    rw [hout]
    exact ⟨rfl, if_neg (capMa_forward_nonneg hpos), rfl, capMa_forward hpos, rfl, hsent⟩
  case _ =>
    obtain ⟨t, hnext, hk, ho, hout, -⟩ := currentDemandReq_sets mv ma h hdc hst
    rw [Answers]
    refine ⟨t, hnext, hk, ho, ?_⟩
    rw [hout]
    exact capMa_noReverse hneg hno
  case _ =>
    have hdc : isDc s.chip o.val = true := decide_eq_true (by omega)
    obtain ⟨t, hnext, hk, ho, hout, -⟩ := currentDemandReq_sets mv ma h hdc hst
    rw [Answers]
    refine ⟨t, hnext, hk, ho, ?_⟩
    rw [hout]
    exact capMa_reverse hneg hkind hhlc hbpt
  case _ =>
    have hopens := (opens_enterOpening (atAngle s.chip a) o .stop).of_before ((atAngle_kept s.chip a).mono (by decide))
      fun _ _ => rfl
    have hnot : (outletOf (enterOpening (atAngle s.chip a) o .stop) o.val).state ≠ .finishing := by
      obtain ⟨-, -, -, hop | ⟨hweld, -⟩⟩ := hopens
      · rw [hop]; exact OState.noConfusion
      · rw [hweld]; exact OState.noConfusion
    have hexec : exec (.sessionStopReq o a) s = .next { s with
        chip := onSessionStopReq o a s.chip } := takeHlc_runs _ _ h
    have hact : onSessionStopReq o a s.chip = emit (unlockNow (stopOutlet (atAngle s.chip a) o 0) o.val) (.hlc o.val 7 true) :=
      if_neg hhlc
    rw [hact, stopOutlet_energised (c := atAngle s.chip a) 0 hst, unlockNow_other hnot] at hexec
    exact answers_chip hexec ⟨storesKept_chip s _, opens_after hopens ((kept_emit _ (by decide)).2 (.refl _ _)), rfl⟩

end Sys2Proof
end

section
/-! PROOFS. Authorisation by the backend, by a card and by the list (R256, R264 to R266). -/

namespace Sys2Proof.Machine

/-! ### What the service firmware does (R350) -/

theorem viaService_runs {s : State} (f : Chip → Chip) (h : svcRuns s.chip = true) : viaService s f = .next { s with
      chip := f s.chip } := by
  have hboth : ready s.chip .svc = true ∧ fenced s.chip .svc = false := by
    simp only [svcRuns, Bool.and_eq_true, Bool.not_eq_true'] at h
    exact h
  rw [viaService, onChip, hboth.1, hboth.2, Bool.not_true, Bool.or_self, if_neg Bool.false_ne_true]

theorem viaService_nothing {s : State} {f : Chip → Chip} (h : f s.chip = s.chip) : viaService s f = .next s := by
  rw [viaService, onChip, h, ite_self]

/-! ### An authorisation (R264) -/

theorem tryStart_linking {c : Chip} {o : Outlet} (h : (outletOf c o.val).state = .linking) : tryStart c o = c := by
  have hno : startable c o.val = false := by
    rw [startable, h]
    rfl
  unfold tryStart
  dsimp only
  split
  · rfl
  · rw [hno, Bool.not_false, Bool.true_or, if_pos rfl]

/-- R264: the outlet with the authorisation that stands. -/
def authRec (ref : BitVec 128) (pt g : Nat) (x : OutletSt) : OutletSt :=
  { x with auth := some (ref, pt), authGroup := g, waitSince := 0 }

/-- R257: an authorisation accepted while SLAC runs stands until the session can open. -/
theorem authAccepted_linking {c : Chip} {o : Outlet} {ref : BitVec 128} {pt g : Nat}
    (hst : (outletOf c o.val).state = .linking) (hcp : (outletOf c o.val).cp ≠ .a) (hlive : liveCtx c o.val = none)
    (hbill : unbilled c = true ∨ startRefused c o.val pt = false) :
    authAccepted c o ref pt g = outEvt (modOutlet c o.val (authRec ref pt g)) o.val 2 := by
  have hlink : (outletOf (outEvt (modOutlet c o.val (authRec ref pt g)) o.val 2) o.val).state = .linking := by
    rw [outletOf_outEvt, outletOf_modOutlet_same]; exact hst
  have hno : (!unbilled c && startRefused c o.val pt) = false := by
    obtain h | h := hbill
    · rw [h, Bool.not_true, Bool.false_and]
    · rw [h, Bool.and_false]
  unfold authAccepted
  dsimp only
  rw [hst, hlive, hno, beq_false_of_ne hcp]
  exact tryStart_linking hlink

theorem startFailed_plugged {c : Chip} {o : Outlet} (hst : (outletOf c o.val).state = .plugged) :
    startFailed c o = modOutlet (dropAuth (outEvt c o.val 3) o.val (ansReject .rule)) o.val (fun x => { x with auth := none }) := by
  obtain ⟨w, hdrop⟩ := dropAuth_same (outEvt c o.val 3) o.val (ansReject .rule)
  have hne : (outletOf (modOutlet (dropAuth (outEvt c o.val 3) o.val (ansReject .rule)) o.val
      (fun x => { x with auth := none })) o.val).state ≠ .negotiating := by
    rw [outletOf_modOutlet_same, hdrop, outletOf_outEvt]
    dsimp only
    rw [hst]
    exact OState.noConfusion
  exact if_neg hne

/-! ### The commands -/

/-- R265: the entry that the backend's answer adds to the cache. -/
def answerEntry (w : AuthWait) (g e : Nat) : AuthEntry :=
  { hash := w.authRef, status := 0, cache := true, contract := w.src == .plugCharge, group := g, expiry := e }

/-- R265: the chip with an entry in the cache. -/
def cached (c : Chip) (e : AuthEntry) : Chip :=
  { c with
    outl := { c.outl with list := addCache c.outl.list e } }

theorem exec_authBackend_accepted {s : State} {o : Outlet} {w : AuthWait} (g e : Nat) (h : svcRuns s.chip = true)
    (hwait : (outletOf s.chip o.val).authWait = some w) (hauth : (outletOf s.chip o.val).auth = none) :
    exec (.authBackendResponse o true g e) s = .next { s with
      chip := authAccepted (cached s.chip (answerEntry w g e)) o w.authRef w.ptable g } := by
  change execAuthBackendResponse o true g e s = _
  rw [execAuthBackendResponse, viaService_runs _ h]
  dsimp only
  rw [hwait, hauth]
  rfl

theorem exec_authBackend_refused {s : State} {o : Outlet} {w : AuthWait} (g e : Nat) (h : svcRuns s.chip = true)
    (hwait : (outletOf s.chip o.val).authWait = some w) (hauth : (outletOf s.chip o.val).auth = none) :
    exec (.authBackendResponse o false g e) s = .next { s with
      chip := startFailed s.chip o } := by
  change execAuthBackendResponse o false g e s = _
  rw [execAuthBackendResponse, viaService_runs _ h]
  dsimp only
  rw [hwait, hauth]
  rfl

theorem exec_authBackendTimeout {s : State} {o : Outlet} {w : AuthWait} (h : svcRuns s.chip = true)
    (hwait : (outletOf s.chip o.val).authWait = some w) (hauth : (outletOf s.chip o.val).auth = none)
    (hchain : w.chain = false) : exec (.authBackendTimeout o) s = .next { s with
      chip := offlineRule s.chip o w.authRef w.ptable } := by
  change execAuthBackendTimeout o s = _
  rw [execAuthBackendTimeout, viaService_runs _ h]
  dsimp only
  rw [hwait, hauth]
  dsimp only
  rw [hchain, if_neg Bool.false_ne_true]

theorem exec_authBackend_noWait {s : State} {o : Outlet} (ok : Bool) (g e : Nat)
    (hwait : (outletOf s.chip o.val).authWait = none) :
    exec (.authBackendResponse o ok g e) s = .next s ∧ exec (.authBackendTimeout o) s = .next s := by
  constructor
  · change execAuthBackendResponse o ok g e s = _
    rw [execAuthBackendResponse]
    refine viaService_nothing ?_
    dsimp only
    rw [hwait]
  · change execAuthBackendTimeout o s = _
    rw [execAuthBackendTimeout]
    refine viaService_nothing ?_
    dsimp only
    rw [hwait]

theorem exec_nfcCardRead_off {s : State} (u : List Byte) (pt a : Nat) (sel : Option Outlet) (h : svcRuns s.chip = true)
    (hoff : immBit s.chip Reg.SUP_DISABLE 24 = true) : exec (.nfcCardRead u pt sel a) s = .next { s with
      chip := atAngle s.chip a } := by
  have hbit : immBit (atAngle s.chip a) Reg.SUP_DISABLE 24 = true := hoff
  change execNfcCardRead u pt sel a s = _
  rw [execNfcCardRead, viaService_runs _ h]
  dsimp only
  rw [if_pos hbit]

theorem exec_nfcCardRead_stops {s : State} (u : List Byte) (pt a : Nat) (sel : Option Outlet) {o : Outlet}
    (h : svcRuns s.chip = true) (hon : immBit s.chip Reg.SUP_DISABLE 24 = false)
    (hstops : cardStops s.chip (authRefOf u) = some o) : exec (.nfcCardRead u pt sel a) s = .next { s with
      chip := stopOutlet (atAngle s.chip a) o 0 } := by
  have hbit : immBit (atAngle s.chip a) Reg.SUP_DISABLE 24 = false := hon
  have hstops' : cardStops (atAngle s.chip a) (authRefOf u) = some o := hstops
  change execNfcCardRead u pt sel a s = _
  rw [execNfcCardRead, viaService_runs _ h]
  dsimp only
  rw [hbit, if_neg Bool.false_ne_true, hstops']

/-- R266: a card that is held. -/
def cardHeld (c : Chip) (ref : BitVec 128) (pt : Nat) : Chip :=
  { c with
    outl := { c.outl with heldCard := some (ref, pt) } }

theorem exec_nfcCardRead_held {s : State} (u : List Byte) (pt a : Nat) (sel : Option Outlet)
    (h : svcRuns s.chip = true) (hon : immBit s.chip Reg.SUP_DISABLE 24 = false)
    (hstops : cardStops s.chip (authRefOf u) = none) (houtlet : cardOutlet s.chip sel (authRefOf u) = none) :
    exec (.nfcCardRead u pt sel a) s = .next { s with
      chip := cardHeld (atAngle s.chip a) (authRefOf u) pt } := by
  have hbit : immBit (atAngle s.chip a) Reg.SUP_DISABLE 24 = false := hon
  have hstops' : cardStops (atAngle s.chip a) (authRefOf u) = none := hstops
  have houtlet' : cardOutlet (atAngle s.chip a) sel (authRefOf u) = none := houtlet
  change execNfcCardRead u pt sel a s = _
  rw [execNfcCardRead, viaService_runs _ h]
  dsimp only
  rw [hbit, if_neg Bool.false_ne_true, hstops']
  dsimp only
  rw [houtlet']
  rfl

end Sys2Proof.Machine

namespace Sys2Proof

open Machine

/-- An authorisation that stands while SLAC runs, whatever the list has become. -/
theorem accepted_linking {i : Instr} {s : State} {c : Chip} {o : Outlet} {ref : BitVec 128} {pt g : Nat}
    (hexec : exec i s = .next { s with
      chip := authAccepted c o ref pt g })
    (hk : ChipKeptBut [.outl] s.chip c) (houtlets : c.outl.outlets = s.chip.outl.outlets)
    (hst : (outletOf s.chip o.val).state = .linking) (hcp : (outletOf s.chip o.val).cp ≠ .a)
    (hlive : liveCtx s.chip o.val = none) (hbill : unbilled c = true ∨ startRefused c o.val pt = false) :
    Answers i s fun t => KeptBut [.host, .out, .outl, .regs] s t ∧
      OthersKept o.val s.chip t.chip ∧ (outletOf t.chip o.val).auth = some (ref, pt) ∧
      (outletOf t.chip o.val).authGroup = g ∧ (outletOf t.chip o.val).state = .linking ∧
      t.chip.outl.list = c.outl.list ∧ immBit t.chip (Reg.OUT_EVT o.val) 2 = true := by
  have hout : ∀ p, outletOf c p = outletOf s.chip p := outletOf_of_outlets houtlets
  rw [authAccepted_linking (by rw [hout]; exact hst) (by rw [hout]; exact hcp)
    ((liveCtx_of_sess (hk .sess (by decide)) _).trans hlive) hbill] at hexec
  refine answers_chip hexec ⟨keptBut_chip.2 ?_, ?_, ?_⟩
  · exact (kept_outEvt _ _ (by decide)).2 ((kept_modOutlet _ _ (by decide)).2 (hk.mono (by decide)))
  · exact (othersKept_outEvt _ _).2 ((othersKept_modOutlet ..).2 fun p _ => hout p)
  · have hrec : outletOf (outEvt (modOutlet c o.val (authRec ref pt g)) o.val 2) o.val = authRec ref pt g (outletOf s.chip o.val) := by
      rw [outletOf_outEvt, outletOf_modOutlet_same, hout]
    dsimp only
    rw [hrec, outEvt, raiseEvt_outl]
    exact ⟨rfl, rfl, hst, rfl, immBit_raiseEvt _ _ 2 (by decide)⟩

/-- A start that fails while the outlet is PLUGGED. -/
theorem failed_plugged {i : Instr} {s : State} {o : Outlet} (hexec : exec i s = .next { s with
      chip := startFailed s.chip o }) (hst : (outletOf s.chip o.val).state = .plugged) :
    Answers i s fun t => KeptBut [.host, .out, .outl, .regs] s t ∧
      OthersKept o.val s.chip t.chip ∧ (outletOf t.chip o.val).authWait = none ∧
      (outletOf t.chip o.val).state = .plugged ∧ immBit t.chip (Reg.OUT_EVT o.val) 3 = true := by
  obtain ⟨w, hdrop⟩ := dropAuth_same (outEvt s.chip o.val 3) o.val (ansReject .rule)
  have hwaits := dropAuth_waits (outEvt s.chip o.val 3) o.val (ansReject .rule)
  have hk : ChipKeptBut [.outl, .host, .out] (outEvt s.chip o.val 3) (dropAuth (outEvt s.chip o.val 3) o.val (ansReject .rule)) :=
    (kept_dropAuth _ _ (by decide)).2 (.refl _ _)
  have hevt : immBit (dropAuth (outEvt s.chip o.val 3) o.val (ansReject .rule)) (Reg.OUT_EVT o.val) 3 = true :=
    (immBit_of_regs (hk .regs (by decide)) _ _).trans (immBit_raiseEvt _ _ 3 (by decide))
  rw [startFailed_plugged hst] at hexec
  refine answers_chip hexec ⟨keptBut_chip.2 ?_, ?_, ?_, ?_, hevt⟩
  · refine (kept_modOutlet _ _ (by decide)).2 ?_
    exact (kept_dropAuth _ _ (by decide)).2 ((kept_outEvt _ _ (by decide)).2 (.refl _ _))
  · exact (othersKept_modOutlet ..).2 ((othersKept_dropAuth _).2 ((othersKept_outEvt _ _).2 (.refl _ _)))
  · exact (congrArg OutletSt.authWait (outletOf_modOutlet_same ..)).trans hwaits
  · refine (congrArg OutletSt.state (outletOf_modOutlet_same ..)).trans ?_
    dsimp only
    rw [hdrop, outletOf_outEvt]
    exact hst

theorem opens_stopOutlet {i : Instr} {s : State} {o : Outlet} (a : Nat) (hst : (outletOf s.chip o.val).state = .energised)
    (hexec : exec i s = .next { s with
      chip := stopOutlet (atAngle s.chip a) o 0 }) :
    Answers i s fun t => StoresKept s t ∧ Opens s.chip t.chip o.val .stop := by
  rw [stopOutlet_energised (c := atAngle s.chip a) 0 hst] at hexec
  exact answers_chip hexec ⟨storesKept_chip s _,
    (opens_enterOpening (atAngle s.chip a) o .stop).of_before ((atAngle_kept s.chip a).mono (by decide)) fun _ _ => rfl⟩

theorem list_authList {s : State} {req : Requester} {mode : Nat} (v : Nat) {bs : List Byte}
    (hperf : performs s.chip req 0x0403 .service = true) (hmode : mode ≤ 1) (hmod : bs.length % 32 = 0)
    (hlen : bs.length / 32 ≤ 65536) (hcache : (parseEntries (bs.length / 32) bs).any (fun e => e.cache) = false) :
    Replies (.authList req mode v (some bs)) s req 0x0403 ansOk fun c e => ChipKeptBut [.outl] c e ∧
      e.outl = { c.outl with
        list := (putList c.outl.list (parseEntries (bs.length / 32) bs) (mode == 1)).take 65536, listVersion := v } := by
  refine replies_perform (b := .service) (e := writeList (begun s.chip req 0x0403) (parseEntries (bs.length / 32) bs) (mode == 1) v)
    rfl hperf ?_ ⟨?_, rfl⟩
  · dsimp only
    rw [if_neg (by omega), if_neg]
    rintro (h | h | h)
    · exact h hmod
    · omega
    · exact Bool.false_ne_true (hcache.symm.trans h)
  · exact (kept_set_outl (by decide)).2 (.refl _ _)

/-- Settles O21: the answers of the backend, the card, the expiry and the list. -/
theorem authorisationCommands : Obligations.AuthorisationCommands := by
  unfold Obligations.AuthorisationCommands
  refine ⟨fun s o w g e h hwait hauth hst hcp hlive hbill => ?_, fun s o w g e h hwait hauth hst => ⟨?_, fun hcfg hchain => ?_⟩,
    fun s o w h hwait hauth hst hcp hlive hbill hcfg hchain => ?_, fun s o ok g e hwait => exec_authBackend_noWait ok g e hwait,
    fun s o a h hauth hst => opens_stopOutlet a hst ?_, fun s u pt a sel o h hon hstops hst => opens_stopOutlet a hst ?_,
    fun s u pt a sel h hon hstops hnone => ?_, fun s u pt a sel h hoff => ?_, fun s => ?_,
    fun s req mode v bs hperf hmode hmod hlen hcache => list_authList v hperf hmode hmod hlen hcache,
    fun s d v es h hlen hcache => ?_⟩
  case _ =>
    exact accepted_linking (c := cached s.chip (answerEntry w g e)) (exec_authBackend_accepted g e h hwait hauth)
      ((kept_set_outl (by decide)).2 (.refl _ _)) rfl hst hcp hlive hbill
  case _ => exact failed_plugged (exec_authBackend_refused g e h hwait hauth) hst
  case _ =>
    have hoffline : offlineRule s.chip o w.authRef w.ptable = startFailed s.chip o := if_neg hcfg
    refine failed_plugged ((exec_authBackendTimeout h hwait hauth hchain).trans ?_) hst
    rw [hoffline]
  case _ =>
    have hoffline : offlineRule s.chip o w.authRef w.ptable = authAccepted s.chip o w.authRef w.ptable 0 := if_pos hcfg
    have hexec := exec_authBackendTimeout h hwait hauth hchain
    rw [hoffline] at hexec
    obtain ⟨t, hnext, hk, hothers, hauth, -, hstate, hlist, hevt⟩ :=
      accepted_linking hexec (.refl _ _) rfl hst hcp hlive hbill
    rw [Answers]
    exact ⟨t, hnext, hk, hothers, hauth, hstate, hlist, hevt⟩
  case _ =>
    change execAuthExpiry o a s = _
    rw [execAuthExpiry, viaService_runs _ h, if_pos hauth]
  case _ => exact exec_nfcCardRead_stops u pt a sel h hon hstops
  case _ =>
    exact answers_chip (exec_nfcCardRead_held u pt a sel h hon hstops hnone)
      ⟨keptBut_chip.2 ((kept_set_outl (by decide)).2 ((atAngle_kept s.chip a).mono (by decide))), rfl, rfl⟩
  case _ => exact answers_chip (exec_nfcCardRead_off u pt a sel h hoff) ⟨keptBut_chip.2 (atAngle_kept s.chip a), rfl⟩
  case _ =>
    exact answers_chip (d := { s.chip with
        outl := { s.chip.outl with heldCard := none } }) rfl
      ⟨keptBut_chip.2 ((kept_set_outl (by decide)).2 (.refl _ _)), rfl⟩
  case _ =>
    have hexec : exec (.ocppLocalList d v es) s = .next { s with
        chip := emit (writeList s.chip es d v) (.ocpp 10 v true) } := by
      change execOcppLocalList d v es s = _
      rw [execOcppLocalList, viaService_runs _ h, if_neg]
      rintro (hlong | hany)
      · omega
      · exact Bool.false_ne_true (hcache.symm.trans hany)
    refine answers_chip hexec ⟨keptBut_chip.2 ?_, rfl, rfl⟩
    exact (kept_emit _ (by decide)).2 ((kept_set_outl (by decide)).2 (.refl _ _))

end Sys2Proof
end

section
/-! PROOFS. A reset asked for by the backend (R55), with a sequence under way that names the cause's register (R41). -/

namespace Sys2Proof

open Machine

/-- A sequence with one setting, which clears SOFT of SUP_RST_CAUSE, as `wdogClearingSeq` clears WDOG. -/
def softClearingSeq : NsSeq :=
  { wdogClearingSeq with todo := [⟨Reg.SUP_RST_CAUSE, ResetCause.soft.bit, ResetCause.soft.bit, 0⟩] }

/-- A module in Operational whose service firmware runs, with every outlet open and that sequence under way. -/
def softClearingState : State :=
  { State.reset with
    chip := { Chip.reset with
      sup := { Sup.reset with mode := .operational, ready := 0xFF#8, fence := 0 }
      ns := { NsState.reset with active := some softClearingSeq } } }

/-- R55: the reset that the backend asks for while no outlet is energised. -/
theorem exec_ocppReset {s : State} (h : svcRuns s.chip = true) (hoff : anyEnergised s.chip = false)
    (hask : mayAskReset s.chip = true) : exec .ocppReset s = .next { s with
      chip := softReset (emit s.chip (.ocpp 6 0 true)) false } := by
  change execOcppReset s = _
  rw [execOcppReset, viaService_runs _ h, hoff, if_neg Bool.false_ne_true, if_pos hask]

theorem svcRuns_softClearingState : svcRuns softClearingState.chip = true := by decide

theorem anyEnergised_softClearingState : anyEnergised softClearingState.chip = false := by decide

theorem mayAskReset_softClearingState : mayAskReset softClearingState.chip = true := by decide

/-- R41: the landing clears the bit that the reset recorded before it. -/
theorem softReset_loses_cause : immBit (softReset (emit softClearingState.chip (.ocpp 6 0 true)) false) Reg.SUP_RST_CAUSE
    ResetCause.soft.bit = false := by decide +kernel

/-- Refutes O22: a reset by the backend records SOFT, and the sequence under way then lands its setting (R41). In
`softClearingState` that setting clears SOFT of SUP_RST_CAUSE, so `ModuleReset` does not hold of what is left. -/
theorem not_sessionCommands : ¬ Obligations.SessionCommands := by
  unfold Obligations.SessionCommands
  rintro ⟨-, -, -, -, -, -, -, -, -, -, -, hreset, -⟩
  obtain ⟨t, hnext, -, hmodule⟩ :=
    hreset softClearingState svcRuns_softClearingState mayAskReset_softClearingState anyEnergised_softClearingState
  rw [exec_ocppReset svcRuns_softClearingState anyEnergised_softClearingState mayAskReset_softClearingState] at hnext
  cases hnext
  exact Bool.false_ne_true (softReset_loses_cause.symm.trans hmodule.cause_recorded)

end Sys2Proof
end

section
/-! PROOFS. Converters on CAN (R257, R259, R260). -/

namespace Sys2Proof.Machine

/-! ### Buses and modules one by one -/

theorem outletGate_runs {s : State} (f : Chip → Chip) (hf : fenced s.chip .out = false) : viaOutlet s f = .next { s with
      chip := f s.chip } := by
  rw [viaOutlet, onChip, outletGate, hf, if_neg Bool.false_ne_true]

@[simp] theorem moduleOf_setModule_same (c : Chip) (b a : Nat) (m : Module) : moduleOf (setModule c b a m) b a = m :=
  tget_tput_self _ _ _ _

theorem moduleOf_setModule_ne (c : Chip) {b a b' a' : Nat} (m : Module) (h : 64 * b' + a' ≠ 64 * b + a) :
    moduleOf (setModule c b a m) b' a' = moduleOf c b' a' := tget_tput_ne _ _ _ h

theorem outletOf_setModule (c : Chip) (b a : Nat) (m : Module) (o : Nat) : outletOf (setModule c b a m) o = outletOf c o := rfl

theorem outletOfModule_isDc {c : Chip} {b a : Nat} {o : Outlet} (h : outletOfModule c b a = some o) : isDc c o.val = true := by
  have hfound := List.find?_some h
  rw [Bool.and_eq_true] at hfound
  exact hfound.1

/-- What a module's table and its bus's error state are kept by. -/
def CanKept (c d : Chip) : Prop :=
  d.outl.modules = c.outl.modules ∧ ∀ b, ∃ q, busOf d b = { busOf c b with seqs := q }

theorem CanKept.refl (c : Chip) : CanKept c c := ⟨rfl, fun _ => ⟨_, rfl⟩⟩

theorem CanKept.trans {c d e : Chip} (h : CanKept c d) (g : CanKept d e) : CanKept c e := by
  refine ⟨g.1.trans h.1, fun b => ?_⟩
  obtain ⟨q, hq⟩ := h.2 b
  obtain ⟨r, hr⟩ := g.2 b
  exact ⟨r, by rw [hr, hq]⟩

theorem CanKept.of_parts {c d : Chip} (hm : d.outl.modules = c.outl.modules) (hb : d.outl.buses = c.outl.buses) : CanKept c d :=
  ⟨hm, fun b => ⟨(busOf c b).seqs, by rw [busOf, busOf, hb]⟩⟩

theorem CanKept.of_outl {c d : Chip} (h : d.outl = c.outl) : CanKept c d :=
  .of_parts (congrArg Outl.modules h) (congrArg Outl.buses h)

theorem CanKept.moduleOf {c d : Chip} (h : CanKept c d) (b a : Nat) : moduleOf d b a = moduleOf c b a := by
  rw [Machine.moduleOf, Machine.moduleOf, h.1]

theorem canKept_modOutlet (c : Chip) (o : Nat) (f : OutletSt → OutletSt) : CanKept c (modOutlet c o f) := .of_parts rfl rfl

theorem canKept_sendCan (c : Chip) (b typ dst : Nat) (data : List Byte) : CanKept c (sendCan c b typ dst data) := by
  refine ⟨?_, fun b' => ?_⟩
  · unfold sendCan
    dsimp only
    split <;> rfl
  · unfold sendCan
    dsimp only
    split
    · by_cases hb : b' = b
      · subst hb
        exact ⟨_, tget_tput_self ..⟩
      · exact ⟨_, tget_tput_ne _ _ _ hb⟩
    · exact ⟨_, rfl⟩

theorem canKept_foldl {α : Type} {f : Chip → α → Chip} (hf : ∀ c a, CanKept c (f c a)) (l : List α) (c : Chip) :
    CanKept c (l.foldl f c) :=
  foldl_keeps (P := CanKept c) (fun d a h => h.trans (hf d a)) l (.refl c)

theorem canKept_sendSetpoints (c : Chip) (o : Nat) : CanKept c (sendSetpoints c o) := by
  unfold sendSetpoints
  dsimp only
  refine CanKept.trans (canKept_foldl (fun d m => ?_) _ c) (.of_outl rfl)
  obtain ⟨b, a⟩ := m
  exact canKept_sendCan ..

theorem canKept_updateIlim_dc {c : Chip} {o : Nat} (hdc : isDc c o = true) :
    updateIlim c o = c ∨ updateIlim c o = modOutlet c o (fun x => { x with ilim := ilimOf c o }) := by
  have hac : isAc c o = false := by
    rw [isDc, decide_eq_true_eq] at hdc
    rw [isAc, beq_eq_false_iff_ne]
    omega
  have hno : signalsDuty (modOutlet c o fun x => { x with ilim := ilimOf c o }) o = false := by
    have hac' : isAc (modOutlet c o fun x => { x with ilim := ilimOf c o }) o = false := hac
    rw [signalsDuty, hac', Bool.false_and, Bool.false_and, Bool.false_and]
  unfold updateIlim
  dsimp only
  rw [hno]
  split
  · exact .inl rfl
  · exact .inr rfl

/-- R247: the limit of a DC outlet is its only change when its converters change. -/
theorem updateIlim_dc {c : Chip} {o : Nat} (hdc : isDc c o = true) : ChipKeptBut [.outl] c (updateIlim c o) ∧
    CanKept c (updateIlim c o) ∧ (outletOf (updateIlim c o) o).state = (outletOf c o).state ∧
    OthersKept o c (updateIlim c o) := by
  obtain h | h := canKept_updateIlim_dc hdc
  · rw [h]; exact ⟨.refl _ c, .refl c, rfl, .refl o c⟩
  · rw [h]
    exact ⟨(kept_modOutlet _ _ (by decide)).2 (.refl _ c), canKept_modOutlet _ _ _,
      (congrArg OutletSt.state (outletOf_modOutlet_same c o _) :), (othersKept_modOutlet ..).2 (.refl o c)⟩

theorem canKept_enterOpening_dc {c : Chip} {o : Fin 8} (why : StopWhy) (hdc : isDc c o.val = true) :
    CanKept c (enterOpening c o why) := by
  have hdc' : isDc (modOutlet c o.val fun x => { x with state := .opening, why := why, powerStart := false }) o.val = true := hdc
  unfold enterOpening
  dsimp only
  rw [if_pos hdc']
  exact ((canKept_modOutlet c o.val _).trans (canKept_modOutlet _ o.val _)).trans (canKept_sendSetpoints _ o.val)

/-! ### A status (R260) -/

/-- R260: what a module's STATUS says of it. -/
def statusRec (st f mv : Nat) (ma tp : Int) (av : Nat) (m : Module) : Module :=
  { m with state := st, fault := f, mv := mv, ma := ma, temp := tp, avail := av }

theorem outputMa_one {c : Chip} {o b a : Nat} (h : outletModules c o = [(b, a)]) :
    outputMa c o = if (moduleOf c b a).present then (moduleOf c b a).ma else 0 := by
  rw [outputMa, presentModules, h, List.filter_cons]
  dsimp only
  split
  · rw [List.filter_nil, List.map_cons, List.map_nil, List.sum_cons, List.sum_nil, add_zero]
  · rw [List.filter_nil, List.map_nil, List.sum_nil]

theorem exec_canStatus {s : State} {b : Fin 2} {a : Nat} (st f mv : Nat) (ma tp : Int) (av : Nat)
    (hf : fenced s.chip .out = false) (ha : canAddr a = true) {c : Chip}
    (hc : c = setModule s.chip b.val a (statusRec st f mv ma tp av (moduleOf s.chip b.val a))) :
    (outletOfModule s.chip b.val a = none → exec (.canStatus b a st f mv ma tp av) s = .next { s with
      chip := c }) ∧
    (∀ o, outletOfModule s.chip b.val a = some o → (outletOf s.chip o.val).state = .opening →
      (outputMa c o.val).natAbs ≤ 1000 → exec (.canStatus b a st f mv ma tp av) s = .next { s with
      chip := releaseForOpening c o.val }) := by
  have hfind : outletOfModule c b.val a = outletOfModule s.chip b.val a := by rw [hc]; rfl
  have hexec : exec (.canStatus b a st f mv ma tp av) s = .next { s with
      chip := match outletOfModule c b.val a with
        | some o => if (outletOf c o.val).state = .opening ∧ (outputMa c o.val).natAbs ≤ 1000 then releaseForOpening c o.val else c
        | none => c } := by
    change execCanStatus b a st f mv ma tp av s = _
    rw [execCanStatus, outletGate_runs _ hf]
    dsimp only
    rw [if_pos ha, hc]
    rfl
  refine ⟨fun hnone => ?_, fun o hsome hst hlow => ?_⟩
  · rw [hexec, hfind, hnone]
  · have hst' : (outletOf c o.val).state = .opening := by rw [hc]; exact hst
    rw [hexec, hfind, hsome]
    dsimp only
    rw [if_pos ⟨hst', hlow⟩]

/-! ### A module that is lost (R260) -/

theorem presentModules_lost {c : Chip} {o b a : Nat} (h : outletModules c o = [(b, a)]) (hno : (moduleOf c b a).present = false) :
    presentModules c o = [] := by
  simp only [presentModules, h, List.filter_cons, hno, Bool.false_eq_true, if_false, List.filter_nil]

/-- R260: the module that is lost. -/
def moduleGone (c : Chip) (b a : Nat) : Chip := setModule c b a { moduleOf c b a with present := false }

theorem moduleLost_unbound {c : Chip} {b a : Nat} (hp : (moduleOf c b a).present = true) (hno : outletOfModule c b a = none) :
    moduleLost c b a = moduleGone c b a := by
  have hno' : outletOfModule (setModule c b a { moduleOf c b a with present := false }) b a = none := hno
  unfold moduleLost
  dsimp only
  rw [if_pos hp, hno']
  rfl

/-- R260: its outlet hears of it, and its limit follows. -/
def outletHears (c : Chip) (o b a : Nat) : Chip := updateIlim (takeFree (outEvt (moduleGone c b a) o 10)) o

theorem isDc_outletHears_pre {c : Chip} {o : Nat} (b a : Nat) (h : isDc c o = true) :
    isDc (takeFree (outEvt (moduleGone c b a) o 10)) o = true := by
  have hlive : (takeFree (outEvt (moduleGone c b a) o 10)).live = c.live := raiseEvt_live _ _ _
  exact (isDc_of_live hlive o).trans h

theorem outletHears_keeps {c : Chip} {o b a : Nat} (hdc : isDc c o = true) :
    ChipKeptBut [.freeCount, .host, .out, .outl, .regs] c (outletHears c o b a) ∧
    CanKept (moduleGone c b a) (outletHears c o b a) ∧ OthersKept o c (outletHears c o b a) ∧
    (outletOf (outletHears c o b a) o).state = (outletOf c o).state ∧
    immBit (outletHears c o b a) (Reg.OUT_EVT o) 10 = true := by
  have hpre : ChipKeptBut [.freeCount, .host, .out, .outl, .regs] c (takeFree (outEvt (moduleGone c b a) o 10)) :=
    (kept_takeFree (by decide)).2 ((kept_outEvt _ _ (by decide)).2 ((kept_set_outl (by decide)).2 (.refl _ c)))
  have hout : ∀ p, outletOf (takeFree (outEvt (moduleGone c b a) o 10)) p = outletOf c p := fun p =>
    (outletOf_outEvt _ _ _ p)
  obtain ⟨hk, hcan, hst, hothers⟩ := updateIlim_dc (isDc_outletHears_pre b a hdc)
  refine ⟨hpre.trans (hk.mono (by decide)), CanKept.trans (.of_outl (raiseEvt_outl _ _ _)) hcan, ?_, ?_, ?_⟩
  · exact OthersKept.trans (fun p _ => hout p) hothers
  · exact hst.trans (congrArg OutletSt.state (hout o))
  · exact (immBit_of_regs (hk .regs (by decide)) _ _).trans (immBit_raiseEvt _ _ 10 (by decide))

theorem moduleLost_bound {c : Chip} {b a : Nat} {o : Outlet} (hp : (moduleOf c b a).present = true)
    (hsome : outletOfModule c b a = some o) : moduleLost c b a =
      if ((outletOf (outletHears c o.val b a) o.val).state = .energised ∨
          (outletOf (outletHears c o.val b a) o.val).state = .checking ∨
          (outletOf (outletHears c o.val b a) o.val).state = .precharge) ∧ energised (outletHears c o.val b a) o.val = true ∧
          (presentModules (outletHears c o.val b a) o.val).isEmpty = true
      then enterOpening (outletHears c o.val b a) o .stop else outletHears c o.val b a := by
  have hsome' : outletOfModule (setModule c b a { moduleOf c b a with present := false }) b a = some o := hsome
  unfold moduleLost
  dsimp only
  rw [if_pos hp, hsome']
  rfl

/-- R260: whatever follows, a module that is lost is gone, and the others stay. -/
theorem moduleLost_can (c : Chip) (b a : Nat) : ∀ b' a', (moduleOf (moduleLost c b a) b' a').present =
    if 64 * b' + a' = 64 * b + a then false else (moduleOf c b' a').present := by
  intro b' a'
  have hgone : (moduleOf (moduleGone c b a) b' a').present =
      if 64 * b' + a' = 64 * b + a then false else (moduleOf c b' a').present := by
    split
    next h => rw [moduleOf, h]; exact congrArg Module.present (tget_tput_self _ _ _ _)
    next h => rw [moduleGone, moduleOf_setModule_ne _ _ h]
  by_cases hp : (moduleOf c b a).present = true
  · cases hsome : outletOfModule c b a with
    | none => rw [moduleLost_unbound hp hsome]; exact hgone
    | some o =>
      have hdc := outletOfModule_isDc hsome
      obtain ⟨hk, hcan, -⟩ := outletHears_keeps (b := b) (a := a) hdc
      have hdc' : isDc (outletHears c o.val b a) o.val = true := (isDc_of_live (hk .live (by decide)) _).trans hdc
      rw [moduleLost_bound hp hsome]
      split
      · rw [(hcan.trans (canKept_enterOpening_dc .stop hdc')).moduleOf]; exact hgone
      · rw [hcan.moduleOf]; exact hgone
  · have hsame : moduleLost c b a = c := by
      unfold moduleLost
      exact if_neg hp
    rw [hsame]
    split
    next h =>
      have hmod : moduleOf c b' a' = moduleOf c b a := by rw [moduleOf, moduleOf, h]
      rw [hmod]
      simpa using hp
    next => rfl

/-- R260: the error state of the buses is left by a module that is lost. -/
theorem moduleLost_buses (c : Chip) (b a : Nat) : ∀ b', ∃ q, busOf (moduleLost c b a) b' = { busOf c b' with seqs := q } := by
  intro b'
  have hgone : busOf (moduleGone c b a) b' = busOf c b' := rfl
  by_cases hp : (moduleOf c b a).present = true
  · cases hsome : outletOfModule c b a with
    | none => rw [moduleLost_unbound hp hsome]; exact ⟨_, hgone⟩
    | some o =>
      have hdc := outletOfModule_isDc hsome
      obtain ⟨hk, hcan, -⟩ := outletHears_keeps (b := b) (a := a) hdc
      have hdc' : isDc (outletHears c o.val b a) o.val = true := (isDc_of_live (hk .live (by decide)) _).trans hdc
      rw [moduleLost_bound hp hsome]
      split
      · obtain ⟨q, hq⟩ := (hcan.trans (canKept_enterOpening_dc .stop hdc')).2 b'
        exact ⟨q, by rw [hq, hgone]⟩
      · obtain ⟨q, hq⟩ := hcan.2 b'
        exact ⟨q, by rw [hq, hgone]⟩
  · have hsame : moduleLost c b a = c := by
      unfold moduleLost
      exact if_neg hp
    rw [hsame]
    exact ⟨_, rfl⟩

/-! ### Setpoints (R259) -/

theorem sendCan_mono (c : Chip) (b typ dst : Nat) (data : List Byte) {e : Emit} (h : e ∈ c.out) :
    e ∈ (sendCan c b typ dst data).out := by
  unfold sendCan
  dsimp only
  split
  · exact List.mem_cons_of_mem _ h
  · exact h

theorem sendCan_sends {c : Chip} {b : Nat} (typ dst : Nat) (data : List Byte) (hcfg : cfgBit c (Reg.OUT_CAN_CFG b) 8 = true)
    (hon : (busOf c b).busOff = false) :
    Emit.can b (typ * 2 ^ 24 + dst * 2 ^ 16 + tget 0 (busOf c b).seqs typ) data ∈ (sendCan c b typ dst data).out := by
  unfold sendCan
  dsimp only
  rw [hcfg, hon, Bool.not_false, Bool.and_self, if_pos rfl]
  exact List.mem_cons_self ..

theorem sendCan_live (c : Chip) (b typ dst : Nat) (data : List Byte) : (sendCan c b typ dst data).live = c.live := by
  unfold sendCan
  dsimp only
  split <;> rfl

/-- R259: each present module is sent its share. -/
theorem sendSetpoints_sends {c : Chip} {o b a : Nat} (hm : (b, a) ∈ presentModules c o)
    (hcfg : cfgBit c (Reg.OUT_CAN_CFG b) 8 = true) (hon : (busOf c b).busOff = false) :
    ∃ n data, Emit.can b (0x01 * 2 ^ 24 + a * 2 ^ 16 + n) data ∈ (sendSetpoints c o).out := by
  obtain ⟨pre, post, hsplit⟩ := List.append_of_mem hm
  unfold sendSetpoints
  dsimp only
  generalize hf : (fun (c_1 : Chip) (x : Nat × Nat) => _) = f
  rw [hsplit, List.foldl_append, List.foldl_cons]
  have hstep : ∀ d m, ∃ data, f d m = sendCan d m.1 0x01 m.2 data := by
    intro d m
    rw [← hf]
    exact ⟨_, rfl⟩
  have hpre : CanKept c (pre.foldl f c) ∧ (pre.foldl f c).live = c.live := by
    refine foldl_keeps (P := fun d => CanKept c d ∧ d.live = c.live) (fun d m hd => ?_) pre ⟨.refl c, rfl⟩
    obtain ⟨data, hdata⟩ := hstep d m
    rw [hdata]
    exact ⟨hd.1.trans (canKept_sendCan ..), (sendCan_live ..).trans hd.2⟩
  obtain ⟨hcan, hlive⟩ := hpre
  have hon' : (busOf (pre.foldl f c) b).busOff = false := by
    obtain ⟨q, hq⟩ := hcan.2 b
    rw [hq]
    exact hon
  have hcfg' : cfgBit (pre.foldl f c) (Reg.OUT_CAN_CFG b) 8 = true := by
    rw [cfgBit, liveGet, hlive]
    exact hcfg
  obtain ⟨data, hdata⟩ := hstep (pre.foldl f c) (b, a)
  refine ⟨tget 0 (busOf (pre.foldl f c) b).seqs 0x01, data, ?_⟩
  have hsent := sendCan_sends 0x01 a data hcfg' hon'
  rw [← hdata] at hsent
  refine foldl_keeps (P := fun d : Chip => Emit.can b (0x01 * 2 ^ 24 + a * 2 ^ 16 +
    tget 0 (busOf (pre.foldl f c) b).seqs 0x01) data ∈ d.out) (fun d m hd => ?_) post hsent
  obtain ⟨data', hdata'⟩ := hstep d m
  rw [hdata']
  exact sendCan_mono _ _ _ _ _ hd

end Sys2Proof.Machine
end

section
/-! PROOFS. The clauses of the converters. -/

namespace Sys2Proof

open Machine

theorem opening_canStatus {s : State} {b : Fin 2} {a : Nat} (st f mv av : Nat) {ma : Int} (tp : Int) {o : Outlet}
    (hf : fenced s.chip .out = false) (ha : canAddr a = true) (hsome : outletOfModule s.chip b.val a = some o)
    (hst : (outletOf s.chip o.val).state = .opening) (hmods : outletModules s.chip o.val = [(b.val, a)])
    (hlow : ma.natAbs ≤ 1000) :
    Answers (.canStatus b a st f mv ma tp av) s fun t => KeptBut [.out, .outl, .pwd, .saf, .tb] s t ∧
      OthersKept o.val s.chip t.chip ∧ (outletOf t.chip o.val).state = .weldCheck ∧ CoilOff t.chip o.val := by
  let c := setModule s.chip b.val a (statusRec st f mv ma tp av (moduleOf s.chip b.val a))
  have hma : (outputMa c o.val).natAbs ≤ 1000 := by
    rw [outputMa_one (c := c) hmods, moduleOf_setModule_same]
    split
    · exact hlow
    · exact Nat.zero_le _
  have hexec := (exec_canStatus st f mv ma tp av hf ha (c := c) rfl).2 o hsome hst hma
  refine answers_chip hexec ⟨keptBut_chip.2 ?_, othersKept_releaseForOpening.2 fun p _ => outletOf_setModule _ _ _ _ p,
    (releaseForOpening_same c o.val).1, coilOff_releaseForOpening c o.isLt⟩
  exact (kept_releaseForOpening _ (by decide)).2 ((kept_set_outl (by decide)).2 (.refl _ _))

/-- R259: the module that has identified itself. -/
def identRec (ser v i p : Nat) (r : Bool) (m : Module) : Module :=
  { m with present := true, serial := ser, ratedV := v, ratedI := i, ratedP := p, reverse := r }

/-- R259: its bus carries, and it is present. -/
def identTaken (c : Chip) (b a ser v i p : Nat) (r : Bool) : Chip :=
  setModule { c with
    outl := { c.outl with buses := tput c.outl.buses b { busOf c b with busOff := false } } } b a
    (identRec ser v i p r (moduleOf c b a))

theorem exec_canIdent {s : State} {b : Fin 2} {a : Nat} (ser v i p : Nat) (r : Bool) (hf : fenced s.chip .out = false)
    (ha : canAddr a = true) :
    (outletOfModule s.chip b.val a = none → exec (.canIdent b a ser v i p r 1) s = .next { s with
      chip := identTaken s.chip b.val a ser v i p r }) ∧
    (∀ o, outletOfModule s.chip b.val a = some o → exec (.canIdent b a ser v i p r 1) s = .next { s with
      chip := updateIlim (takeFree (identTaken s.chip b.val a ser v i p r)) o.val }) := by
  have hexec : exec (.canIdent b a ser v i p r 1) s = .next { s with
      chip := match outletOfModule s.chip b.val a with
        | some o => updateIlim (takeFree (identTaken s.chip b.val a ser v i p r)) o.val
        | none => identTaken s.chip b.val a ser v i p r } := by
    change execCanIdent b a ser v i p r 1 s = _
    rw [execCanIdent, outletGate_runs _ hf]
    dsimp only
    rw [if_pos ⟨rfl, ha⟩]
    rfl
  exact ⟨fun hnone => by rw [hexec, hnone], fun o hsome => by rw [hexec, hsome]⟩

theorem present_canIdent {s : State} {b : Fin 2} {a : Nat} (ser v i p : Nat) (r : Bool) (hf : fenced s.chip .out = false)
    (ha : canAddr a = true) :
    Answers (.canIdent b a ser v i p r 1) s fun t => KeptBut [.freeCount, .outl] s t ∧
      moduleOf t.chip b.val a =
        { moduleOf s.chip b.val a with
          present := true, serial := ser, ratedV := v, ratedI := i, ratedP := p, reverse := r } ∧
      (busOf t.chip b.val).busOff = false := by
  let c := identTaken s.chip b.val a ser v i p r
  have hmod : moduleOf c b.val a = identRec ser v i p r (moduleOf s.chip b.val a) := moduleOf_setModule_same _ _ _ _
  have hbus : busOf c b.val = { busOf s.chip b.val with busOff := false } := tget_tput_self ..
  have hk : ChipKeptBut [.freeCount, .outl] s.chip c := (kept_set_outl (by decide)).2 ((kept_set_outl (by decide)).2 (.refl _ _))
  obtain ⟨hnone, hsome⟩ := exec_canIdent (s := s) (b := b) ser v i p r hf ha
  cases hfind : outletOfModule s.chip b.val a with
  | none => exact answers_chip (hnone hfind) ⟨keptBut_chip.2 hk, hmod, congrArg CanBus.busOff hbus⟩
  | some o =>
    obtain ⟨hik, hcan, -⟩ := updateIlim_dc (c := takeFree c) (o := o.val) (outletOfModule_isDc hfind)
    refine answers_chip (hsome o hfind) ⟨keptBut_chip.2 ?_, (hcan.moduleOf _ _).trans hmod, ?_⟩
    · exact ((kept_takeFree (by decide)).2 hk).trans (hik.mono (by decide))
    · obtain ⟨q, hq⟩ := hcan.2 b.val
      exact (congrArg CanBus.busOff hq).trans (congrArg CanBus.busOff hbus)

theorem ignored_canIdent {s : State} {b : Fin 2} {a : Nat} (ser v i p : Nat) {k : Nat} (r : Bool)
    (h : k ≠ 1 ∨ a = 0 ∨ 63 < a) : exec (.canIdent b a ser v i p r k) s = .next s := by
  have hno : ¬ (k = 1 ∧ canAddr a = true) := by
    rintro ⟨hk, hcan⟩
    simp only [canAddr, Bool.and_eq_true, decide_eq_true_eq] at hcan
    omega
  change execCanIdent b a ser v i p r k s = _
  rw [execCanIdent, viaOutlet, onChip, outletGate]
  dsimp only
  rw [if_neg hno, ite_self]

theorem exec_convLost {s : State} {b : Fin 2} {a : Nat} (hf : fenced s.chip .out = false) (ha : canAddr a = true) :
    exec (.convLost b a) s = .next { s with
      chip := moduleLost s.chip b.val a } := by
  change execConvLost b a s = _
  rw [execConvLost, outletGate_runs _ hf, if_pos ha]

theorem opens_convLost {s : State} {b : Fin 2} {a : Nat} {o : Outlet} (hf : fenced s.chip .out = false) (ha : canAddr a = true)
    (hp : (moduleOf s.chip b.val a).present = true) (hsome : outletOfModule s.chip b.val a = some o)
    (hst : (outletOf s.chip o.val).state = .energised ∨ (outletOf s.chip o.val).state = .checking ∨
      (outletOf s.chip o.val).state = .precharge) (hon : energised s.chip o.val = true)
    (hmods : outletModules s.chip o.val = [(b.val, a)]) :
    Answers (.convLost b a) s fun t => StoresKept s t ∧ Opens s.chip t.chip o.val .stop ∧
      (moduleOf t.chip b.val a).present = false ∧ immBit t.chip (Reg.OUT_EVT o.val) 10 = true := by
  have hdc := outletOfModule_isDc hsome
  obtain ⟨hk, hcan, hothers, hstate, hevt⟩ := outletHears_keeps (b := b.val) (a := a) hdc
  let c := outletHears s.chip o.val b.val a
  have hgone : (moduleOf c b.val a).present = false :=
    (congrArg Module.present (hcan.moduleOf _ _)).trans (congrArg Module.present (moduleOf_setModule_same _ _ _ _))
  have hmods' : outletModules c o.val = [(b.val, a)] := by
    have hlive : c.live = s.chip.live := hk .live (by decide)
    have hcfg : ∀ r hi lo, cfg c r hi lo = cfg s.chip r hi lo := fun r hi lo => by rw [cfg, cfg, liveGet, liveGet, hlive]
    rw [outletModules, hcfg, hcfg, hcfg]
    exact hmods
  have hlost : moduleLost s.chip b.val a = enterOpening c o .stop := by
    refine (moduleLost_bound hp hsome).trans (if_pos ⟨?_, ?_, ?_⟩)
    · rw [hstate]; exact hst
    · rw [energised_of_pwd (hk .pwd (by decide))]; exact hon
    · exact List.isEmpty_iff.2 (presentModules_lost hmods' hgone)
  have hexec := exec_convLost (b := b) hf ha
  have hdc' : isDc c o.val = true := (isDc_of_live (hk .live (by decide)) _).trans hdc
  rw [hlost] at hexec
  refine answers_chip hexec ⟨storesKept_chip s _, (opens_enterOpening c o .stop).of_before (hk.mono (by decide)) hothers, ?_,
    immBit_enterOpening_of hevt⟩
  exact (congrArg Module.present ((canKept_enterOpening_dc .stop hdc').moduleOf _ _)).trans hgone

theorem modulesLost_buses (l : List Nat) (c : Chip) (b : Nat) :
    ∃ q, busOf (l.foldl (fun c a => moduleLost c b a) c) b = { busOf c b with seqs := q } := by
  refine foldl_keeps (P := fun d => ∃ q, busOf d b = { busOf c b with seqs := q }) (fun d a hd => ?_) l ⟨_, rfl⟩
  obtain ⟨q, hq⟩ := hd
  obtain ⟨r, hr⟩ := moduleLost_buses d b a b
  exact ⟨r, by rw [hr, hq]⟩

theorem modulesLost_kept (l : List Nat) (c : Chip) (b : Nat) :
    ChipKeptBut [.freeCount, .host, .out, .outl, .pwd, .regs, .saf, .tb] c (l.foldl (fun c a => moduleLost c b a) c) :=
  foldl_keeps (fun _ a hd => (kept_moduleLost b a (by decide)).2 hd) l (.refl _ c)

theorem modulesLost_gone {l : List Nat} {a : Nat} (ha : a ∈ l) (c : Chip) (b : Nat) :
    (moduleOf (l.foldl (fun c a => moduleLost c b a) c) b a).present = false := by
  refine foldl_reaches (P := fun d : Chip => (moduleOf d b a).present = false) (fun d => ?_) (fun d x hd => ?_) ha c
  · rw [moduleLost_can, if_pos rfl]
  · rw [moduleLost_can, hd, ite_self]

theorem busOff_canBusOff {s : State} (b : Fin 2) (te re : Nat) (hf : fenced s.chip .out = false) :
    Answers (.canBusOff b te re) s fun t =>
      KeptBut [.freeCount, .host, .out, .outl, .pwd, .regs, .saf, .tb] s t ∧ (busOf t.chip b.val).busOff = true ∧
      (busOf t.chip b.val).txErr = min 255 te ∧ (busOf t.chip b.val).rxErr = min 255 re ∧
      ∀ a, a < 64 → (moduleOf t.chip b.val a).present = false := by
  let c : Chip := { s.chip with
    outl := { s.chip.outl with
      buses := tput s.chip.outl.buses b.val
        { busOf s.chip b.val with busOff := true, txErr := sat 255 te, rxErr := sat 255 re } } }
  have hbus : busOf c b.val = { busOf s.chip b.val with busOff := true, txErr := sat 255 te, rxErr := sat 255 re } :=
    tget_tput_self ..
  have hexec : exec (.canBusOff b te re) s = .next { s with
      chip := (List.range 64).foldl (fun c a => moduleLost c b.val a) c } := by
    change execCanBusOff b te re s = _
    rw [execCanBusOff, outletGate_runs _ hf]
  obtain ⟨q, hq⟩ := modulesLost_buses (List.range 64) c b.val
  have hgone : ∀ a, a < 64 → (moduleOf ((List.range 64).foldl (fun c a => moduleLost c b.val a) c) b.val a).present = false :=
    fun a ha => modulesLost_gone (List.mem_range.2 ha) c b.val
  have hk := modulesLost_kept (List.range 64) c b.val
  generalize (List.range 64).foldl (fun c a => moduleLost c b.val a) c = d at hexec hgone hq hk
  refine answers_chip hexec ⟨keptBut_chip.2 ?_, ?_, ?_, ?_, hgone⟩
  · exact ChipKeptBut.trans ((kept_set_outl (by decide)).2 (.refl _ _)) hk
  · rw [hq, hbus]
  · rw [hq, hbus]; exact sat_eq_min _ _
  · rw [hq, hbus]; exact sat_eq_min _ _

theorem sends_setpointTick {s : State} {o : Outlet} {b a : Nat} (hf : fenced s.chip .out = false)
    (hdc : isDc s.chip o.val = true) (hst : (outletOf s.chip o.val).state = .checking ∨
      (outletOf s.chip o.val).state = .precharge ∨ (outletOf s.chip o.val).state = .energised ∨
      (outletOf s.chip o.val).state = .opening) (hm : (b, a) ∈ presentModules s.chip o.val)
    (hcfg : cfgBit s.chip (Reg.OUT_CAN_CFG b) 8 = true) (hon : (busOf s.chip b).busOff = false) :
    Answers (.setpointTick o) s fun t => KeptBut [.freeCount, .out, .outl] s t ∧
      (∀ p, outletOf t.chip p = outletOf s.chip p) ∧
      ∃ n data, Emit.can b (0x01 * 2 ^ 24 + a * 2 ^ 16 + n) data ∈ t.chip.out := by
  have hexec : exec (.setpointTick o) s = .next { s with
      chip := sendSetpoints s.chip o.val } := by
    change execSetpointTick o s = _
    rw [execSetpointTick, outletGate_runs _ hf]
    dsimp only
    rw [if_pos ⟨hdc, hst⟩]
  exact answers_chip hexec ⟨keptBut_chip.2 ((kept_sendSetpoints _ (by decide)).2 (.refl _ _)),
    fun p => outletOf_sendSetpoints p, sendSetpoints_sends hm hcfg hon⟩

theorem sends_identReqTick {s : State} {b : Nat} (hb : b < 2) (hf : fenced s.chip .out = false)
    (hcfg : cfgBit s.chip (Reg.OUT_CAN_CFG b) 8 = true) (hon : (busOf s.chip b).busOff = false) :
    Answers .identReqTick s fun t => KeptBut [.out, .outl] s t ∧
      Emit.can b (0x04 * 2 ^ 24 + 0xFF * 2 ^ 16 + tget 0 (busOf s.chip b).seqs 0x04) [] ∈ t.chip.out := by
  have hexec : exec .identReqTick s = .next { s with
      chip := identReq s.chip } := by
    change execIdentReqTick s = _
    rw [execIdentReqTick, outletGate_runs _ hf]
  refine answers_chip hexec ⟨keptBut_chip.2 ((kept_identReq (by decide)).2 (.refl _ _)), ?_⟩
  obtain rfl | rfl : b = 0 ∨ b = 1 := by omega
  · exact sendCan_mono _ 1 0x04 0xFF [] (sendCan_sends 0x04 0xFF [] hcfg hon)
  · have hbus : busOf (sendCan s.chip 0 0x04 0xFF []) 1 = busOf s.chip 1 := by
      unfold sendCan
      dsimp only
      split
      · exact tget_tput_ne _ _ _ (by decide)
      · rfl
    have hcfg' : cfgBit (sendCan s.chip 0 0x04 0xFF []) (Reg.OUT_CAN_CFG 1) 8 = true := by
      rw [cfgBit, liveGet, sendCan_live]
      exact hcfg
    have hsent := sendCan_sends 0x04 0xFF [] hcfg' (by rw [hbus]; exact hon)
    rw [hbus] at hsent
    exact hsent

/-- Settles O24: a module's status, its identification and its loss, and what goes out every 100 ms. -/
theorem converterCommands : Obligations.ConverterCommands := by
  unfold Obligations.ConverterCommands
  refine ⟨fun s b a st f mv av ma tp hf ha hnone => ?_,
    fun s b a st f mv av ma tp o hf ha hsome hst hmods hlow => opening_canStatus st f mv av tp hf ha hsome hst hmods hlow,
    fun s b a ser v i p r hf ha => present_canIdent ser v i p r hf ha,
    fun s b a ser v i p k r h => ignored_canIdent ser v i p r h, fun s b a hf ha hp hnone => ?_,
    fun s b a o hf ha hp hsome hst hon hmods => opens_convLost hf ha hp hsome hst hon hmods,
    fun s b te re hf => busOff_canBusOff b te re hf,
    fun s o b a hf hdc hst hm hcfg hon => sends_setpointTick hf hdc hst hm hcfg hon,
    fun s b hb hf hcfg hon => sends_identReqTick hb hf hcfg hon⟩
  case _ =>
    exact answers_chip ((exec_canStatus st f mv ma tp av hf ha rfl).1 hnone)
      ⟨keptBut_chip.2 ((kept_set_outl (by decide)).2 (.refl _ _)), fun o => outletOf_setModule _ _ _ _ o,
        moduleOf_setModule_same _ _ _ _⟩
  case _ =>
    have hexec := exec_convLost (b := b) hf ha
    rw [moduleLost_unbound hp hnone] at hexec
    exact answers_chip hexec ⟨keptBut_chip.2 ((kept_set_outl (by decide)).2 (.refl _ _)), moduleOf_setModule_same _ _ _ _⟩

end Sys2Proof
end

section
/-! PROOFS. Contactors (R257, R262, R270, R271, R281, R297, R298). -/

namespace Sys2Proof.Machine

/-! ### A change of the feedback -/

/-- R270: the feedback of a contactor as it reads now. -/
def fbTaken (c : Chip) (o : Outlet) (closed : Bool) : Chip :=
  { c with
    pwd := { c.pwd with
      fb := setBitV c.pwd.fb o.val closed,
      fbAt := if fbClosed c o.val == closed then c.pwd.fbAt else tput c.pwd.fbAt o.val c.tb.aon } }

/-- R271: a coil under release is OFF once its contactor has opened. -/
def coilSettled (c : Chip) (o : Outlet) (closed : Bool) : Chip :=
  if !closed && (coilOf c o.val).state == .release then
    setCoil (fbTaken c o closed) o.val { coilOf c o.val with state := .off, ma := 0 }
  else fbTaken c o closed

/-- R262: the time of a booked operation is learned. -/
def learnedRec (closed : Bool) (us : Nat) (x : OutletSt) : OutletSt :=
  { x with
    timing := false, tClose := if closed then learn x.tClose us else x.tClose,
    tOpen := if closed then x.tOpen else learn x.tOpen us }

/-- R262, R270: what stands when the outlet acts on the feedback. -/
def fbLearned (c : Chip) (o : Outlet) (closed : Bool) (us : Nat) : Chip :=
  if (outletOf c o.val).timing then modOutlet (coilSettled c o closed) o.val (learnedRec closed us)
  else coilSettled c o closed

theorem fbChange_eq (c : Chip) (o : Outlet) (closed : Bool) (us : Nat) : fbChange c o closed us =
    if fenced (coilSettled c o closed) .out then coilSettled c o closed
    else if closed then (if (outletOf c o.val).state = .closing then closedNow (fbLearned c o closed us) o
      else fbLearned c o closed us) else openNow (fbLearned c o closed us) o := rfl

theorem coilSettled_kept (c : Chip) (o : Outlet) (closed : Bool) : ChipKeptBut [.pwd] c (coilSettled c o closed) := by
  unfold coilSettled
  split <;> simp +decide only [kept_setCoil, fbTaken, kept_set_pwd, kept_refl]

theorem coilSettled_fb (c : Chip) (o : Outlet) (closed : Bool) :
    (coilSettled c o closed).pwd.fb = setBitV c.pwd.fb o.val closed := by
  unfold coilSettled
  split <;> rfl

theorem coilSettled_off {c : Chip} {o : Outlet} (h : (coilOf c o.val).state = .release) :
    (coilOf (coilSettled c o false) o.val).state = .off := by
  unfold coilSettled
  rw [h, Bool.not_false, Bool.true_and, beq_self_eq_true, if_pos rfl, coilOf_setCoil_same]

theorem fbLearned_kept (c : Chip) (o : Outlet) (closed : Bool) (us : Nat) :
    ChipKeptBut [.outl, .pwd] c (fbLearned c o closed us) := by
  unfold fbLearned
  split
  · exact (kept_modOutlet _ _ (by decide)).2 ((coilSettled_kept c o closed).mono (by decide))
  · exact (coilSettled_kept c o closed).mono (by decide)

theorem fbLearned_pwd (c : Chip) (o : Outlet) (closed : Bool) (us : Nat) :
    (fbLearned c o closed us).pwd = (coilSettled c o closed).pwd := by
  unfold fbLearned
  split <;> rfl

theorem outletOf_coilSettled (c : Chip) (o : Outlet) (closed : Bool) (p : Nat) :
    outletOf (coilSettled c o closed) p = outletOf c p := outletOf_of_kept (coilSettled_kept c o closed) p

theorem fbLearned_othersKept (c : Chip) (o : Outlet) (closed : Bool) (us : Nat) :
    OthersKept o.val c (fbLearned c o closed us) := by
  unfold fbLearned
  split
  · exact (othersKept_modOutlet ..).2 fun p _ => outletOf_coilSettled c o closed p
  · exact fun p _ => outletOf_coilSettled c o closed p

/-- R262: what is learned changes the times of the outlet and ends the timing. -/
theorem outletOf_fbLearned (c : Chip) (o : Outlet) (closed : Bool) (us : Nat) : ∃ l, outletOf (fbLearned c o closed us) o.val =
    { outletOf c o.val with
      timing := false,
      tClose := if (outletOf c o.val).timing && closed then learn (outletOf c o.val).tClose us else (outletOf c o.val).tClose,
      tOpen := l } := by
  unfold fbLearned
  split
  next h =>
    rw [outletOf_modOutlet_same, outletOf_coilSettled, h, Bool.true_and]
    exact ⟨_, rfl⟩
  next h =>
    have hoff : (outletOf c o.val).timing = false := by simpa using h
    rw [outletOf_coilSettled, hoff, Bool.false_and, if_neg Bool.false_ne_true]
    exact ⟨(outletOf c o.val).tOpen, by rw [← hoff]⟩

/-- The chip that a change of the feedback finds: time has run to it. -/
def fbFinds (c : Chip) (n a : Nat) : Chip := atAngle (runTo c n) a

theorem fbFinds_kept (c : Chip) (n a : Nat) : ChipKeptBut [.host, .out, .regs, .tb] c (fbFinds c n a) :=
  (kept_atAngle _ (by decide)).2 ((runTo_kept c n).mono (by decide))

theorem fbFinds_cycle (c : Chip) (n a : Nat) : (fbFinds c n a).tb.cycle = c.tb.cycle :=
  (congrArg Timebase.cycle (runTo_tb c n) :)

theorem outletOf_fbFinds (c : Chip) (n a p : Nat) : outletOf (fbFinds c n a) p = outletOf c p :=
  outletOf_of_kept (fbFinds_kept c n a) p

theorem exec_fbChange (s : State) (o : Outlet) (closed : Bool) (us a n : Nat) : exec (.fbChange o closed us a n) s =
    .next { s with
      chip := fbChange (fbFinds s.chip n a) o closed us } := rfl

theorem fbChange_acts {c : Chip} {o : Outlet} (closed : Bool) (us : Nat) (hf : fenced c .out = false) : fbChange c o closed us =
    if closed then (if (outletOf c o.val).state = .closing then closedNow (fbLearned c o closed us) o
      else fbLearned c o closed us) else openNow (fbLearned c o closed us) o := by
  have hf' : fenced (coilSettled c o closed) .out = false := by
    rw [fenced, coilSettled_kept c o closed .sup (by decide)]
    exact hf
  rw [fbChange_eq, hf', if_neg Bool.false_ne_true]

theorem fenced_of_sup {c d : Chip} (h : d.sup = c.sup) (r : Region) : fenced d r = fenced c r := by
  rw [fenced, fenced, h]

/-! ### The contactor closes -/

/-- R257: ENERGISED, with its event. -/
def energisedNow (c : Chip) (o : Nat) : Chip := outEvt (modOutlet c o (fun x => { x with state := .energised })) o 4

theorem outletOf_energisedNow (c : Chip) (o : Nat) : outletOf (energisedNow c o) o = { outletOf c o with state := .energised } :=
  (outletOf_outEvt _ _ _ _).trans (outletOf_modOutlet_same _ _ _)

theorem energisedNow_kept (c : Chip) (o : Nat) : ChipKeptBut [.host, .out, .outl, .regs] c (energisedNow c o) :=
  (kept_outEvt _ _ (by decide)).2 ((kept_modOutlet _ _ (by decide)).2 (.refl _ c))

theorem cpReady_congr {c d : Chip} {o : Nat} (hcp : (outletOf d o).cp = (outletOf c o).cp) (hlive : d.live = c.live) :
    cpReady d o = cpReady c o := by
  rw [cpReady, cpReady, hcp, cfgBit, cfgBit, liveGet, liveGet, hlive]

theorem closedNow_ac {c : Chip} {o : Outlet} (hdc : isDc c o.val = false) (hwhy : (outletOf c o.val).why = .pause)
    (hcp : cpReady c o.val = true) : closedNow c o = updateIlim (takeFree (energisedNow c o.val)) o.val := by
  have hcp' : cpReady (energisedNow c o.val) o.val = true :=
    (cpReady_congr (by rw [outletOf_energisedNow]) (energisedNow_kept c o.val .live (by decide))).trans hcp
  unfold closedNow
  dsimp only
  rw [hdc, if_neg Bool.false_ne_true, hwhy, if_neg StopWhy.noConfusion]
  exact if_pos hcp'

/-- R257: the insulation result of a new check is none. -/
def checkBegins (c : Chip) (o : Outlet) : Chip :=
  { c with
    saf := { c.saf with imdGood := terase c.saf.imdGood o.val, insState := tput c.saf.insState o.val 1 } }

theorem closedNow_dc {c : Chip} {o : Outlet} (hdc : isDc c o.val = true) (hwhy : (outletOf c o.val).why = .pause) :
    ∃ mv, closedNow c o = sendSetpoints (modOutlet (checkBegins c o) o.val (fun x =>
      { x with state := .checking, setMode := 1, setMv := mv, setMa := 0 })) o.val := by
  refine ⟨freeBelow c (6400 + o.val) (capMv c o.val (2 ^ 32) + 1), ?_⟩
  unfold closedNow
  dsimp only
  rw [if_pos hdc, hwhy, if_neg StopWhy.noConfusion]
  rfl

/-! ### The contactor opens -/

/-- R257: a WELD_CHECK that ends in a pause. -/
def pausedRec (x : OutletSt) : OutletSt := { x with state := .authorised, preclosed := none }

theorem weldCheckDone_pause {c : Chip} {o : Outlet} (hst : (outletOf c o.val).state = .weldCheck)
    (hwhy : (outletOf c o.val).why = .pause) (hdrain : (outletOf c o.val).draining = false) :
    weldCheckDone c o.val = updateIlim (modOutlet c o.val pausedRec) o.val := by
  unfold weldCheckDone
  dsimp only
  rw [if_pos hst, if_pos ⟨hwhy, hdrain⟩]
  rfl

theorem weldCheckDone_stop {c : Chip} {o : Outlet} (hst : (outletOf c o.val).state = .weldCheck)
    (hwhy : (outletOf c o.val).why = .stop) :
    weldCheckDone c o.val = settleOutlet (enterFinishing (stopSession c o.val 0) o.val) o.val := by
  unfold weldCheckDone
  dsimp only
  rw [if_pos hst, if_neg]
  rintro ⟨hpause, -⟩
  exact absurd (hwhy.symm.trans hpause) (by decide)

theorem settleOutlet_stays {c : Chip} {o : Nat} (h : mustBeUnavailable c o = false) : settleOutlet c o = c := by
  rw [settleOutlet, h, Bool.false_and, Bool.false_and, if_neg Bool.false_ne_true]

theorem openNow_weldCheck {c : Chip} {o : Outlet} (hst : (outletOf c o.val).state = .weldCheck) (hdc : isDc c o.val = false) :
    openNow c o = weldCheckDone (outEvt c o.val 5) o.val := by
  have hst' : (outletOf (outEvt c o.val 5) o.val).state = .weldCheck := by rw [outletOf_outEvt]; exact hst
  have hdc' : isDc (outEvt c o.val 5) o.val = false := (isDc_of_live (raiseEvt_live _ _ _) _).trans hdc
  unfold openNow
  dsimp only
  rw [hst']
  dsimp only
  rw [hdc', if_neg Bool.false_ne_true]

/-- R202: the session that is stopped settles at its last cycle. -/
theorem stopSession_ends {c : Chip} {o x : Nat} (flags : BitVec 16) (hlive : liveCtx c o = some x)
    (hst : (ctxOf c x).bstate = .live) : (ctxOf (stopSession c o flags) x).bstate = .settling ∧
      (ctxOf (stopSession c o flags) x).endCycle = c.tb.cycle := by
  have hctx : ctxOf (stopSession c o flags) x = { ctxOf c x with
      bstate := .settling, stopDue := true, endCycle := c.tb.cycle, flags := (ctxOf c x).flags ||| flags } := by
    unfold stopSession stopCtx
    rw [hlive]
    dsimp only
    rw [if_pos hst]
    exact tget_tput_self ..
  rw [hctx]
  exact ⟨rfl, rfl⟩

/-! ### Adoption (R298) -/

/-- R298: the outlet that is adopted is permitted again. -/
def adoptPermits (c : Chip) (o : Nat) : Chip :=
  { c with
    saf := { c.saf with permit := setBitV c.saf.permit o true }
    nib := { c.nib with degraded := setBitV c.nib.degraded o false, permit := setBitV c.nib.permit o true } }

/-- R298: its coil is commanded, and its session flagged. -/
def adoptFlagged (c : Chip) (o x : Nat) : Chip :=
  let c := commandCoil (adoptPermits c o) o true
  setCtx c x { ctxOf c x with flags := (ctxOf c x).flags ||| flagBit 2 }

/-- R298: the record of the outlet that is adopted. -/
def adoptedRec (x : Nat) (y : OutletSt) : OutletSt := { y with state := .energised, ctx := some x, setMa := 0 }

theorem adopt_eq (c : Chip) (o x : Nat) : adopt c o x =
    raiseEvt (modOutlet (gapUnmeasured (adoptFlagged c o x) o x) o (adoptedRec x)) Reg.SAF_EVT 8 := rfl

theorem gapUnmeasured_kept (c : Chip) (o x : Nat) : ChipKeptBut [.tar, .sess, .leg] c (gapUnmeasured c o x) :=
  (kept_gapUnmeasured o x (by decide)).2 (.refl _ c)

theorem gapUnmeasured_flag {c : Chip} {o x k : Nat} (h : (ctxOf c x).flags.getLsbD k = true) :
    (ctxOf (gapUnmeasured c o x) x).flags.getLsbD k = true := by
  unfold gapUnmeasured
  split
  next first last wall0 wall1 m _ _ =>
    have hk : ChipKeptBut [.leg] c (unmeasuredEntry c m first last wall0 wall1 0) :=
      (kept_unmeasuredEntry _ _ _ _ _ _ (by decide)).2 (.refl _ c)
    dsimp only
    generalize unmeasuredEntry c m first last wall0 wall1 0 = d at hk
    have hctx : ctxOf (setInt d m { intOf d m with
        flags := (intOf d m).flags ||| flagBit 11, billFlags := (intOf d m).billFlags ||| flagBit 11 }) x = ctxOf c x :=
      ctxOf_of_sess (hk .sess (by decide)) x
    rw [hctx]
    refine (congrArg (fun k' : Machine.Context => k'.flags.getLsbD k) (tget_tput_self ..)).trans ?_
    dsimp only
    rw [BitVec.getLsbD_or, h, Bool.true_or]
  next => exact h

theorem adoptFlagged_flag (c : Chip) (o x : Nat) : (ctxOf (adoptFlagged c o x) x).flags.getLsbD 2 = true := by
  have hbit : (flagBit 2).getLsbD 2 = true := by decide
  unfold adoptFlagged
  dsimp only
  refine (congrArg (fun k : Machine.Context => k.flags.getLsbD 2) (tget_tput_self ..)).trans ?_
  dsimp only
  rw [BitVec.getLsbD_or, hbit, Bool.or_true]

theorem commandCoil_cmd (c : Chip) (o : Nat) (on : Bool) : (coilOf (commandCoil c o on) o).cmd = on := by
  cases on with
  | false => exact (coilOff_commandCoil c o).2
  | true =>
    have hcoil : coilOf (modOutlet (setCoil c o { coilOf c o with cmd := true }) o fun x => { x with timing := false }) o =
        { coilOf c o with cmd := true } := coilOf_setCoil_same _ _ _
    unfold commandCoil
    rw [if_pos rfl]
    split
    · rw [coilOf_setCoil_same, hcoil]
    · rw [hcoil]

theorem commandCoil_kept (c : Chip) (o : Nat) (on : Bool) : ChipKeptBut [.outl, .pwd] c (commandCoil c o on) :=
  (kept_commandCoil _ _ (by decide)).2 (.refl _ c)

end Sys2Proof.Machine
end

section
/-! PROOFS. The clauses of the contactors. -/

namespace Sys2Proof

open Machine

theorem closes_fbChange_ac {s : State} {o : Outlet} (us a n : Nat) (hf : fenced s.chip .out = false)
    (hst : (outletOf s.chip o.val).state = .closing) (hdc : isDc s.chip o.val = false)
    (hwhy : (outletOf s.chip o.val).why = .pause) (hcp : cpReady s.chip o.val = true) :
    Answers (.fbChange o true us a n) s fun t =>
      KeptBut [.freeCount, .host, .out, .outl, .pwd, .regs, .tb] s t ∧ OthersKept o.val s.chip t.chip ∧
      (outletOf t.chip o.val).state = .energised ∧ (outletOf t.chip o.val).timing = false ∧
      t.chip.pwd.fb = setBitV s.chip.pwd.fb o.val true ∧ immBit t.chip (Reg.OUT_EVT o.val) 4 = true ∧
      (outletOf t.chip o.val).tClose = (if (outletOf s.chip o.val).timing then learn (outletOf s.chip o.val).tClose us
        else (outletOf s.chip o.val).tClose) := by
  let b := fbFinds s.chip n a
  let c := fbLearned b o true us
  let d := takeFree (energisedNow c o.val)
  have hbk := fbFinds_kept s.chip n a
  have hck := fbLearned_kept b o true us
  have hbout : outletOf b o.val = outletOf s.chip o.val := outletOf_fbFinds s.chip n a o.val
  obtain ⟨l, hcout⟩ := outletOf_fbLearned b o true us
  have hdout : outletOf d o.val = { outletOf c o.val with state := .energised } := outletOf_energisedNow c o.val
  have hsc : ChipKeptBut [.host, .out, .outl, .pwd, .regs, .tb] s.chip c := (hbk.mono (by decide)).trans (hck.mono (by decide))
  have hcd : ChipKeptBut [.freeCount, .host, .out, .outl, .regs] c d :=
    (kept_takeFree (by decide)).2 ((energisedNow_kept c o.val).mono (by decide))
  have hclosed : closedNow c o = updateIlim d o.val := by
    refine closedNow_ac ?_ ?_ ?_
    · exact (isDc_of_live (hsc .live (by decide)) _).trans hdc
    · rw [hcout, hbout]; exact hwhy
    · refine (cpReady_congr (c := s.chip) ?_ (hsc .live (by decide))).trans hcp
      rw [hcout, hbout]
  obtain ⟨hik, ⟨q, hipwd⟩, l', p, m, hiout⟩ := updateIlim_still (c := d) (o := o) (.inl (by
    rw [hdout]; exact OState.noConfusion))
  have hbf : fenced b .out = false := (fenced_of_sup (hbk .sup (by decide)) _).trans hf
  have hexec : exec (.fbChange o true us a n) s = .next { s with
      chip := updateIlim d o.val } := by
    rw [exec_fbChange, fbChange_acts true us hbf, if_pos rfl, if_pos (by rw [outletOf_fbFinds]; exact hst)]
    exact congrArg (fun x => Host.Outcome.next { s with chip := x }) hclosed
  have hcothers : OthersKept o.val s.chip c :=
    OthersKept.trans (fun p _ => outletOf_fbFinds s.chip n a p) (fbLearned_othersKept b o true us)
  have hfb : d.pwd.fb = setBitV s.chip.pwd.fb o.val true := by
    have hdpwd : d.pwd = c.pwd := hcd .pwd (by decide)
    have hcpwd : c.pwd = (coilSettled b o true).pwd := fbLearned_pwd b o true us
    have hbpwd : b.pwd = s.chip.pwd := hbk .pwd (by decide)
    rw [hdpwd, hcpwd, coilSettled_fb, hbpwd]
  refine answers_chip hexec ⟨keptBut_chip.2 ?_, ?_, ?_⟩
  · exact (hsc.mono (by decide)).trans ((hcd.mono (by decide)).trans (hik.mono (by decide)))
  · exact othersKept_updateIlim.2 (othersKept_takeFree.2 ((othersKept_outEvt _ _).2 ((othersKept_modOutlet ..).2 hcothers)))
  · dsimp only
    rw [hiout, hipwd, hdout, hcout, hbout]
    refine ⟨rfl, rfl, hfb, ?_, ?_⟩
    · exact (immBit_of_regs (hik .regs (by decide)) _ _).trans (immBit_raiseEvt _ _ 4 (by decide))
    · dsimp only
      rw [Bool.and_true]

theorem closes_fbChange_dc {s : State} {o : Outlet} (us a n : Nat) (hf : fenced s.chip .out = false)
    (hst : (outletOf s.chip o.val).state = .closing) (hdc : isDc s.chip o.val = true)
    (hwhy : (outletOf s.chip o.val).why = .pause) :
    Answers (.fbChange o true us a n) s fun t => KeptBut [.freeCount, .host, .out, .outl, .pwd, .regs, .saf, .tb] s t ∧
      OthersKept o.val s.chip t.chip ∧ (outletOf t.chip o.val).state = .checking ∧
      (outletOf t.chip o.val).setMa = 0 ∧ tget 0 t.chip.saf.imdGood o.val = 0 := by
  let b := fbFinds s.chip n a
  let c := fbLearned b o true us
  have hbk := fbFinds_kept s.chip n a
  have hck := fbLearned_kept b o true us
  have hbout : outletOf b o.val = outletOf s.chip o.val := outletOf_fbFinds s.chip n a o.val
  obtain ⟨l, hcout⟩ := outletOf_fbLearned b o true us
  have hsc : ChipKeptBut [.host, .out, .outl, .pwd, .regs, .tb] s.chip c := (hbk.mono (by decide)).trans (hck.mono (by decide))
  have hcothers : OthersKept o.val s.chip c :=
    OthersKept.trans (fun p _ => outletOf_fbFinds s.chip n a p) (fbLearned_othersKept b o true us)
  obtain ⟨mv, hclosed⟩ := closedNow_dc (c := c) (o := o) ((isDc_of_live (hsc .live (by decide)) _).trans hdc) (by
    rw [hcout, hbout]; exact hwhy)
  let e := modOutlet (checkBegins c o) o.val (fun x => { x with state := .checking, setMode := 1, setMv := mv, setMa := 0 })
  have heout : outletOf (sendSetpoints e o.val) o.val =
      { outletOf (checkBegins c o) o.val with state := .checking, setMode := 1, setMv := mv, setMa := 0 } :=
    (outletOf_sendSetpoints o.val).trans (outletOf_modOutlet_same ..)
  have hesaf : (sendSetpoints e o.val).saf = (checkBegins c o).saf :=
    (kept_sendSetpoints o.val (by decide)).2 (.refl [.outl, .out, .freeCount] e) .saf (by decide)
  have hbf : fenced b .out = false := (fenced_of_sup (hbk .sup (by decide)) _).trans hf
  have hexec : exec (.fbChange o true us a n) s = .next { s with
      chip := sendSetpoints e o.val } := by
    rw [exec_fbChange, fbChange_acts true us hbf, if_pos rfl, if_pos (by rw [outletOf_fbFinds]; exact hst)]
    exact congrArg (fun x => Host.Outcome.next { s with chip := x }) hclosed
  refine answers_chip hexec ⟨keptBut_chip.2 ?_, ?_, ?_, ?_, ?_⟩
  · exact (kept_sendSetpoints _ (by decide)).2 ((kept_modOutlet _ _ (by decide)).2
      ((kept_set_saf (by decide)).2 (hsc.mono (by decide))))
  · exact (othersKept_sendSetpoints _).2 ((othersKept_modOutlet ..).2 hcothers)
  · exact congrArg OutletSt.state heout
  · exact congrArg OutletSt.setMa heout
  · exact (congrArg (fun x : Saf => tget 0 x.imdGood o.val) hesaf).trans (tget_terase_self _ _ _)

theorem pause_fbChange {s : State} {o : Outlet} (us a n : Nat) (hf : fenced s.chip .out = false)
    (hst : (outletOf s.chip o.val).state = .weldCheck) (hdc : isDc s.chip o.val = false)
    (hdrain : (outletOf s.chip o.val).draining = false) (hcoil : (coilOf s.chip o.val).state = .release)
    (hwhy : (outletOf s.chip o.val).why = .pause) :
    Answers (.fbChange o false us a n) s fun t => KeptBut [.host, .out, .outl, .pwd, .regs, .tb] s t ∧
      OthersKept o.val s.chip t.chip ∧ (outletOf t.chip o.val).state = .authorised ∧
      (outletOf t.chip o.val).preclosed = none ∧ (coilOf t.chip o.val).state = .off ∧
      t.chip.pwd.fb = setBitV s.chip.pwd.fb o.val false ∧ immBit t.chip (Reg.OUT_EVT o.val) 5 = true := by
  let b := fbFinds s.chip n a
  let c := fbLearned b o false us
  let d := modOutlet (outEvt c o.val 5) o.val pausedRec
  have hbk := fbFinds_kept s.chip n a
  have hck := fbLearned_kept b o false us
  have hbout : outletOf b o.val = outletOf s.chip o.val := outletOf_fbFinds s.chip n a o.val
  obtain ⟨l, hcout⟩ := outletOf_fbLearned b o false us
  have hsc : ChipKeptBut [.host, .out, .outl, .pwd, .regs, .tb] s.chip c := (hbk.mono (by decide)).trans (hck.mono (by decide))
  have hcothers : OthersKept o.val s.chip c :=
    OthersKept.trans (fun p _ => outletOf_fbFinds s.chip n a p) (fbLearned_othersKept b o false us)
  have heout : outletOf (outEvt c o.val 5) o.val = outletOf c o.val := outletOf_outEvt c _ 5 _
  have hdout : outletOf d o.val = pausedRec (outletOf c o.val) := (outletOf_modOutlet_same ..).trans (by rw [heout])
  have hcst : (outletOf c o.val).state = .weldCheck := by rw [hcout, hbout]; exact hst
  have hopen : openNow c o = updateIlim d o.val := by
    refine (openNow_weldCheck hcst ((isDc_of_live (hsc .live (by decide)) _).trans hdc)).trans (weldCheckDone_pause ?_ ?_ ?_)
    · rw [heout]; exact hcst
    · rw [heout, hcout, hbout]; exact hwhy
    · rw [heout, hcout, hbout]; exact hdrain
  obtain ⟨hik, ⟨q, hipwd⟩, l', p, m, hiout⟩ := updateIlim_still (c := d) (o := o) (.inr (by rw [hdout]; rfl))
  have hbf : fenced b .out = false := (fenced_of_sup (hbk .sup (by decide)) _).trans hf
  have hexec : exec (.fbChange o false us a n) s = .next { s with
      chip := updateIlim d o.val } := by
    rw [exec_fbChange, fbChange_acts false us hbf, if_neg Bool.false_ne_true]
    exact congrArg (fun x => Host.Outcome.next { s with chip := x }) hopen
  have hdpwd : d.pwd = (coilSettled b o false).pwd := (raiseEvt_pwd c _ 5).trans (fbLearned_pwd b o false us)
  have hbpwd : b.pwd = s.chip.pwd := hbk .pwd (by decide)
  refine answers_chip hexec ⟨keptBut_chip.2 ?_, ?_, ?_, ?_, ?_, ?_, ?_⟩
  · exact (hsc.mono (by decide)).trans (ChipKeptBut.trans ((kept_modOutlet _ _ (by decide)).2
      ((kept_outEvt _ _ (by decide)).2 (.refl _ c))) (hik.mono (by decide)))
  · exact othersKept_updateIlim.2 ((othersKept_modOutlet ..).2 ((othersKept_outEvt _ _).2 hcothers))
  · dsimp only; rw [hiout, hdout]; rfl
  · dsimp only; rw [hiout, hdout]; rfl
  · have hcoils : coilOf (updateIlim d o.val) o.val = coilOf (coilSettled b o false) o.val := by
      have hicoils : (updateIlim d o.val).pwd.coils = d.pwd.coils := (congrArg Pwd.coils hipwd :)
      rw [coilOf, coilOf, hicoils, hdpwd]
    dsimp only
    rw [hcoils]
    exact coilSettled_off (by rw [coilOf_of_pwd hbpwd]; exact hcoil)
  · dsimp only
    rw [hipwd]
    refine (congrArg Pwd.fb hdpwd).trans ?_
    rw [coilSettled_fb, hbpwd]
  · exact (immBit_of_regs (hik .regs (by decide)) _ _).trans (immBit_raiseEvt c _ 5 (by decide))

theorem regGet_runTo (c : Chip) (n : Nat) {a : Nat} (h : a ≠ Reg.SUP_TB_EVT) : regGet (runTo c n) a = regGet c a := by
  change regGet (advanceTime c (n - c.tb.into)) a = _
  rw [advanceTime]
  dsimp only
  split
  · exact regGet_raiseEvt_ne _ 4 h
  · rfl

theorem stop_fbChange {s : State} {o : Outlet} (us a n : Nat) (hf : fenced s.chip .out = false)
    (hst : (outletOf s.chip o.val).state = .weldCheck) (hdc : isDc s.chip o.val = false)
    (hwhy : (outletOf s.chip o.val).why = .stop) (hmust : mustBeUnavailable s.chip o.val = false) :
    Answers (.fbChange o false us a n) s fun t => KeptBut [.acc, .host, .out, .outl, .pwd, .regs, .sess, .tb] s t ∧
      OthersKept o.val s.chip t.chip ∧ (outletOf t.chip o.val).state = .finishing ∧
      ∀ x, liveCtx s.chip o.val = some x → (ctxOf s.chip x).bstate = .live →
        (ctxOf t.chip x).bstate = .settling ∧ (ctxOf t.chip x).endCycle = s.chip.tb.cycle := by
  let b := fbFinds s.chip n a
  let c := fbLearned b o false us
  let d := outEvt c o.val 5
  have hbk := fbFinds_kept s.chip n a
  have hck := fbLearned_kept b o false us
  have hbout : outletOf b o.val = outletOf s.chip o.val := outletOf_fbFinds s.chip n a o.val
  obtain ⟨l, hcout⟩ := outletOf_fbLearned b o false us
  have hsc : ChipKeptBut [.host, .out, .outl, .pwd, .regs, .tb] s.chip c := (hbk.mono (by decide)).trans (hck.mono (by decide))
  have hcothers : OthersKept o.val s.chip c :=
    OthersKept.trans (fun p _ => outletOf_fbFinds s.chip n a p) (fbLearned_othersKept b o false us)
  have hdout : outletOf d o.val = outletOf c o.val := outletOf_outEvt c _ 5 _
  have hcst : (outletOf c o.val).state = .weldCheck := by rw [hcout, hbout]; exact hst
  have hsd : ChipKeptBut [.host, .out, .outl, .pwd, .regs, .tb] s.chip d := (kept_outEvt _ _ (by decide)).2 hsc
  have hdcycle : d.tb.cycle = s.chip.tb.cycle := by
    have hcd : d.tb = c.tb := raiseEvt_tb c _ 5
    have hbc : c.tb = b.tb := hck .tb (by decide)
    rw [hcd, hbc]
    exact fbFinds_cycle s.chip n a
  have hend : ChipKeptBut [.acc, .host, .out, .outl, .pwd, .sess] d (enterFinishing (stopSession d o.val 0) o.val) :=
    (kept_enterFinishing _ (by decide)).2 ((kept_stopSession _ _ (by decide)).2 (.refl _ d))
  have hdis : outletDisabled d o.val = outletDisabled s.chip o.val := by
    have hne5 : Reg.SUP_DISABLE ≠ Reg.OUT_EVT o.val := by rw [Reg.SUP_DISABLE, Reg.OUT_EVT]; omega
    have hreg : regGet d Reg.SUP_DISABLE = regGet s.chip Reg.SUP_DISABLE :=
      (regGet_raiseEvt_ne c 5 hne5).trans ((congrArg (rget · Reg.SUP_DISABLE) (hck .regs (by decide))).trans
        (regGet_runTo s.chip n (by decide)))
    rw [outletDisabled, outletDisabled, immBit, immBit, hreg]
  have hmust' : mustBeUnavailable (enterFinishing (stopSession d o.val 0) o.val) o.val = false := by
    refine (mustBeUnavailable_congr (c := d) (immBit_of_regs (hend .regs (by decide)) _ _)
      (congrArg Saf.retired (hend .saf (by decide))) (hend .sup (by decide))).trans ?_
    exact (mustBeUnavailable_congr hdis (congrArg Saf.retired (hsd .saf (by decide))) (hsd .sup (by decide))).trans hmust
  have hopen : openNow c o = enterFinishing (stopSession d o.val 0) o.val := by
    refine (openNow_weldCheck hcst ((isDc_of_live (hsc .live (by decide)) _).trans hdc)).trans
      ((weldCheckDone_stop ?_ ?_).trans (settleOutlet_stays hmust'))
    · rw [hdout]; exact hcst
    · rw [hdout, hcout, hbout]; exact hwhy
  have hbf : fenced b .out = false := (fenced_of_sup (hbk .sup (by decide)) _).trans hf
  have hexec : exec (.fbChange o false us a n) s = .next { s with
      chip := enterFinishing (stopSession d o.val 0) o.val } := by
    rw [exec_fbChange, fbChange_acts false us hbf, if_neg Bool.false_ne_true]
    exact congrArg (fun x => Host.Outcome.next { s with chip := x }) hopen
  refine answers_chip hexec ⟨keptBut_chip.2 ((hsd.mono (by decide)).trans (hend.mono (by decide))), ?_,
    (enterFinishing_same _ _).1, fun x hlive hx => ?_⟩
  · exact othersKept_enterFinishing.2 ((othersKept_stopSession _ _).2 ((othersKept_outEvt _ _).2 hcothers))
  · have hsess : d.sess = s.chip.sess := hsd .sess (by decide)
    have hfin : ChipKeptBut [.outl, .pwd, .host, .out] (stopSession d o.val 0) (enterFinishing (stopSession d o.val 0) o.val) :=
      (kept_enterFinishing _ (by decide)).2 (.refl _ _)
    obtain ⟨hset, hcycle⟩ := stopSession_ends (c := d) 0 ((liveCtx_of_sess hsess _).trans hlive)
      ((congrArg Context.bstate (ctxOf_of_sess hsess x)).trans hx)
    have hctx := ctxOf_of_sess (hfin .sess (by decide)) x
    exact ⟨(congrArg Context.bstate hctx).trans hset, (congrArg Context.endCycle hctx).trans (hcycle.trans hdcycle)⟩

theorem adopts_outletAdopt {s : State} {o : Outlet} {x n : Nat} (hlive : liveCtx s.chip o.val = some x)
    (hmay : mayAdopt s.chip o.val = true) (hn : 20 ≤ n) :
    Answers (.outletAdopt o n) s fun t =>
      KeptBut [.host, .leg, .nib, .out, .outl, .pwd, .regs, .saf, .sess, .tar] s t ∧
      OthersKept o.val s.chip t.chip ∧ (outletOf t.chip o.val).state = .energised ∧
      (outletOf t.chip o.val).ctx = some x ∧ (outletOf t.chip o.val).setMa = 0 ∧
      (coilOf t.chip o.val).cmd = true ∧ t.chip.saf.permit = setBitV s.chip.saf.permit o.val true ∧
      t.chip.nib.degraded = setBitV s.chip.nib.degraded o.val false ∧
      (ctxOf t.chip x).flags.getLsbD 2 = true ∧ immBit t.chip Reg.SAF_EVT 8 = true := by
  have hexec : exec (.outletAdopt o n) s = .next { s with
      chip := adopt s.chip o.val x } := by
    change execOutletAdopt o n s = _
    rw [execOutletAdopt, onChip, hlive]
    dsimp only
    rw [hmay, decide_eq_true hn, Bool.and_self, if_pos rfl]
  let c := adoptFlagged s.chip o.val x
  let d := gapUnmeasured c o.val x
  let e := modOutlet d o.val (adoptedRec x)
  have hcoil : ChipKeptBut [.outl, .pwd] (adoptPermits s.chip o.val) (commandCoil (adoptPermits s.chip o.val) o.val true) :=
    commandCoil_kept _ _ _
  have hgap := gapUnmeasured_kept c o.val x
  have hraise := raiseEvt_keeps e Reg.SAF_EVT 8
  have hgapFlag : (ctxOf d x).flags.getLsbD 2 = true := gapUnmeasured_flag (adoptFlagged_flag s.chip o.val x)
  have heout : outletOf (raiseEvt e Reg.SAF_EVT 8) o.val = adoptedRec x (outletOf d o.val) :=
    (outletOf_of_outl (raiseEvt_outl _ _ _) _).trans (outletOf_modOutlet_same ..)
  rw [adopt_eq] at hexec
  refine answers_chip hexec ⟨keptBut_chip.2 ?_, ?_, ?_, ?_, ?_, ?_, ?_, ?_, ?_, immBit_raiseEvt e _ 8 (by decide)⟩
  · rw [← adopt_eq]
    exact (kept_adopt _ _ (by decide)).2 (.refl _ _)
  · refine (othersKept_raiseEvt _ _).2 ((othersKept_modOutlet ..).2 (OthersKept.trans (d := c) ?_ (.of_kept _ hgap)))
    exact (othersKept_setCtx _ _).2 ((othersKept_commandCoil _).2 fun _ _ => rfl)
  · exact congrArg OutletSt.state heout
  · exact congrArg OutletSt.ctx heout
  · exact congrArg OutletSt.setMa heout
  · have hpwd : (raiseEvt e Reg.SAF_EVT 8).pwd = (commandCoil (adoptPermits s.chip o.val) o.val true).pwd :=
      (raiseEvt_pwd e _ 8).trans (hgap .pwd (by decide))
    exact (congrArg Coil.cmd (coilOf_of_pwd hpwd o.val)).trans (commandCoil_cmd _ _ _)
  · exact congrArg Saf.permit ((raiseEvt_saf e _ 8).trans ((hgap .saf (by decide)).trans (hcoil .saf (by decide))))
  · exact congrArg Nib.degraded ((raiseEvt_nib e _ 8).trans ((hgap .nib (by decide)).trans (hcoil .nib (by decide))))
  · exact (congrArg (fun k : Machine.Context => k.flags.getLsbD 2) (ctxOf_of_sess (raiseEvt_sess e _ 8) x)).trans hgapFlag

/-- Settles O25: the feedback of a contactor, the time-outs, the coil's hold and the adoption. -/
theorem contactorCommands : Obligations.ContactorCommands := by
  unfold Obligations.ContactorCommands
  refine ⟨fun s o us a n hf hst hdc hwhy hcp => closes_fbChange_ac us a n hf hst hdc hwhy hcp,
    fun s o us a n hf hst hdc hwhy => closes_fbChange_dc us a n hf hst hdc hwhy,
    fun s o us a n hf hst hdc hdrain hcoil hwhy => pause_fbChange us a n hf hst hdc hdrain hcoil hwhy,
    fun s o us a n hf hst hdc hwhy hmust => stop_fbChange us a n hf hst hdc hwhy hmust, fun s o cl us a n hf => ?_,
    fun s o hproc hst hcmd hfb => ?_, fun s o hf hst hfew => ?_, fun s o hf hst => ?_, fun s o hf hdc hst => ?_,
    fun s o hopen => ?_, fun s o hst hpend => ?_, fun s o hst => ?_, fun s o x n hlive hmay hn => adopts_outletAdopt hlive hmay hn,
    fun s o n hno => ?_⟩
  case _ =>
    have hbk := fbFinds_kept s.chip n a
    have hf' : fenced (coilSettled (fbFinds s.chip n a) o cl) .out = true :=
      (fenced_of_sup (coilSettled_kept _ o cl .sup (by decide)) _).trans ((fenced_of_sup (hbk .sup (by decide)) _).trans hf)
    have hexec := exec_fbChange s o cl us a n
    rw [fbChange_eq, if_pos hf'] at hexec
    refine answers_chip hexec ⟨keptBut_chip.2 ?_, ?_⟩
    · exact (hbk.mono (by decide)).trans ((coilSettled_kept _ o cl).mono (by decide))
    · refine (coilSettled_fb _ o cl).trans ?_
      rw [hbk .pwd (by decide)]
  case _ =>
    have hexec : exec (.closeTimeout o) s = .next { s with
        chip := contactorTrip s.chip o.val .failClose .processor } := by
      change execCloseTimeout o s = _
      rw [execCloseTimeout, outletGate_runs _ (fenced_of_procAnswers hproc), if_pos ⟨hst, hcmd, hfb⟩, channelTrip, if_pos hproc]
    exact answers_chip hexec ⟨storesKept_chip s _, _, tripped_trip s.chip o.isLt .failClose .processor 8, rfl⟩
  case _ =>
    have hexec : exec (.checkTimeout o) s = .next { s with
        chip := enterFaulted s.chip o.val 0 } := by
      change execCheckTimeout o s = _
      rw [execCheckTimeout, outletGate_runs _ hf, if_pos ⟨hst, hfew⟩]
    exact answers_chip hexec ⟨keptBut_chip.2 ((kept_enterFaulted _ _ (by decide)).2 (.refl _ _)),
      faultedAt_enterFaulted s.chip o.isLt 0⟩
  case _ =>
    have hexec : exec (.prechargeTimeout o) s = .next { s with
        chip := enterFaulted s.chip o.val 0 } := by
      change execPrechargeTimeout o s = _
      rw [execPrechargeTimeout, outletGate_runs _ hf, if_pos hst]
    exact answers_chip hexec ⟨keptBut_chip.2 ((kept_enterFaulted _ _ (by decide)).2 (.refl _ _)),
      faultedAt_enterFaulted s.chip o.isLt 0⟩
  case _ =>
    have hexec : exec (.openingTimeout o) s = .next { s with
        chip := releaseForOpening s.chip o.val } := by
      change execOpeningTimeout o s = _
      rw [execOpeningTimeout, outletGate_runs _ hf, if_pos ⟨hdc, hst⟩]
    obtain ⟨hweld, hwhy⟩ := releaseForOpening_same s.chip o.val
    exact answers_chip hexec ⟨keptBut_chip.2 ((releaseForOpening_kept _ _).mono (by decide)),
      othersKept_releaseForOpening.2 (.refl _ _), hweld, hwhy, coilOff_releaseForOpening _ o.isLt⟩
  case _ =>
    exact answers_chip (onChip_reach (fun c => modOutlet c o.val (fun x => { x with tClose := [], tOpen := [] })) hopen)
      ⟨keptBut_chip.2 ((kept_modOutlet _ _ (by decide)).2 (.refl _ _)), (othersKept_modOutlet ..).2 (.refl _ _),
        outletOf_modOutlet_same _ _ _⟩
  case _ =>
    have hexec : exec (.coilPullinEnd o) s = .next { s with
        chip := setCoil s.chip o.val { coilOf s.chip o.val with state := .hold, ma := coilHold s.chip o.val } } := by
      change execCoilPullinEnd o s = _
      rw [execCoilPullinEnd, onChip]
      dsimp only
      rw [if_pos hst, hpend, if_neg Bool.false_ne_true]
    exact answers_chip hexec ⟨keptBut_chip.2 ((kept_setCoil _ _ (by decide)).2 (.refl _ _)), rfl⟩
  case _ =>
    change execCoilPullinEnd o s = _
    rw [execCoilPullinEnd, onChip]
    dsimp only
    rw [if_neg hst]
  case _ =>
    have hboth : (mayAdopt s.chip o.val && decide (20 ≤ n)) = false := by
      obtain h | h := hno
      · rw [h, Bool.false_and]
      · rw [decide_eq_false (by omega), Bool.and_false]
    change execOutletAdopt o n s = _
    rw [execOutletAdopt, onChip]
    rw [hboth]
    split <;> rfl

end Sys2Proof
end

section
/-! PROOFS. The safety functions and their trips (R278 to R285, R289). -/

namespace Sys2Proof

open Machine

/-! ### The channel that acts -/

theorem channelTrip_seen {c : Chip} {ch k : Channel} (act : Channel → Chip) (h : seenBy c ch = some k) :
    channelTrip c ch act = act k := by
  unfold seenBy at h
  unfold channelTrip
  split at h
  next hp =>
    cases h
    rw [if_pos hp]
  next hp =>
    rw [if_neg hp]
    cases ch with
    | processor => cases h
    | nib => cases h; rfl
    | both => cases h; rfl

theorem channelTrip_unseen {c : Chip} {ch : Channel} (act : Channel → Chip) (h : seenBy c ch = none) :
    channelTrip c ch act = c := by
  unfold seenBy at h
  unfold channelTrip
  split at h
  · cases h
  next hp =>
    rw [if_neg hp]
    cases ch with
    | processor => rfl
    | nib => cases h
    | both => cases h

/-! ### A trip after its readings are taken -/

theorem Tripped.of_readings {b c d : Chip} {o : Nat} {sf : Sf} {ch : Channel} (h : Tripped c d o sf ch)
    (hk : ChipKeptBut [.saf] b c) (htrips : c.saf.trips = b.saf.trips) : Tripped b d o sf ch := by
  obtain ⟨hkept, hfault, hmem, hcount, hrest⟩ := h
  have houtl : ∀ p, outletOf c p = outletOf b p := outletOf_of_outl (hk .outl (by decide))
  refine ⟨(hk.mono (by decide)).trans hkept, hfault.of_before (fun p _ => houtl p) (by rw [houtl]) (hk .sess (by decide)),
    hmem, ?_, hrest⟩
  rw [hcount, htrips]

/-! ### What leaves the trips standing -/

/-- R289: the trips, their latches and the bits of SAF_EVT stand, and no coil is driven anew. -/
structure TripStands (c d : Chip) : Prop where
  latches : d.saf.latches = c.saf.latches
  trips : d.saf.trips = c.saf.trips
  lastAll : d.saf.lastAll = c.saf.lastAll
  shuntFired : d.saf.shuntFired = c.saf.shuntFired
  coils : ∀ o, (coilOf c o).driven = false → (coilOf d o).driven = false
  evt : ∀ b, immBit c Reg.SAF_EVT b = true → immBit d Reg.SAF_EVT b = true

theorem TripStands.refl (c : Chip) : TripStands c c := ⟨rfl, rfl, rfl, rfl, fun _ h => h, fun _ h => h⟩

theorem TripStands.trans {b c d : Chip} (h : TripStands b c) (k : TripStands c d) : TripStands b d :=
  ⟨k.latches.trans h.latches, k.trips.trans h.trips, k.lastAll.trans h.lastAll, k.shuntFired.trans h.shuntFired, fun o ho => k.coils o (h.coils o ho),
    fun b hb => k.evt b (h.evt b hb)⟩

theorem TripStands.of_coils {ps : List Part} {c d : Chip} (hk : ChipKeptBut ps c d)
    (hcoils : ∀ o, (coilOf c o).driven = false → (coilOf d o).driven = false)
    (hs : Part.saf ∉ ps := by decide) (hr : Part.regs ∉ ps := by decide) : TripStands c d := by
  have hsaf := hk .saf hs
  exact ⟨congrArg Saf.latches hsaf, congrArg Saf.trips hsaf, congrArg Saf.lastAll hsaf, congrArg Saf.shuntFired hsaf, hcoils,
    fun b hb => (immBit_of_regs (hk .regs hr) _ b).trans hb⟩

theorem TripStands.of_kept {ps : List Part} {c d : Chip} (hk : ChipKeptBut ps c d) (hp : Part.pwd ∉ ps := by decide)
    (hs : Part.saf ∉ ps := by decide) (hr : Part.regs ∉ ps := by decide) : TripStands c d :=
  .of_coils hk (fun o ho => (congrArg Coil.driven (coilOf_of_pwd (hk .pwd hp) o)).trans ho) hs hr

theorem tripStands_raiseEvt (c : Chip) (a : Nat) {b : Nat} (hb : b < 32) : TripStands c (raiseEvt c a b) := by
  have hk := (kept_raiseEvt a b (by decide)).2 (.refl [.regs, .host, .out] c)
  have hsaf := hk .saf (by decide)
  exact ⟨congrArg Saf.latches hsaf, congrArg Saf.trips hsaf, congrArg Saf.lastAll hsaf, congrArg Saf.shuntFired hsaf,
    fun o ho => (congrArg Coil.driven (coilOf_of_pwd (hk .pwd (by decide)) o)).trans ho,
    fun _ h => immBit_raiseEvt_of c hb h⟩

theorem tripStands_foldl {α : Type} {f : Chip → α → Chip} (hf : ∀ c a, TripStands c (f c a)) (l : List α) (c : Chip) :
    TripStands c (l.foldl f c) :=
  foldl_keeps (P := TripStands c) (fun d a hd => hd.trans (hf d a)) l (.refl c)

theorem setCoil_keeps_released (c : Chip) (o p : Nat) {k : Coil} (hk : k.driven = (coilOf c o).driven)
    (h : (coilOf c p).driven = false) : (coilOf (setCoil c o k) p).driven = false := by
  by_cases hp : p = o
  · subst hp
    rw [coilOf_setCoil_same, hk]
    exact h
  · rw [coilOf_setCoil_ne c k hp]
    exact h

theorem tripStands_commandCoil (c : Chip) (o : Nat) : TripStands c (commandCoil c o false) :=
  .of_coils ((kept_commandCoil o false (by decide)).2 (.refl [.outl, .pwd] c)) fun p hp =>
    releaseCoil_keeps_released _ o p (setCoil_keeps_released c o p (k := { coilOf c o with cmd := false }) rfl hp)

theorem tripStands_processorOff (c : Chip) (o : Nat) : TripStands c (processorOff c o) :=
  ((TripStands.of_kept ((kept_unbook _ (by decide)).2 (.refl [.tb] c))).trans (tripStands_commandCoil _ o)).trans
    ⟨rfl, rfl, rfl, rfl, fun _ h => h, fun _ h => h⟩

theorem tripStands_driveLock (c : Chip) (o : Nat) (lock : Bool) : TripStands c (driveLock c o lock) :=
  .of_coils (driveLock_kept c o lock) fun p hp => (congrArg Coil.driven (coilOf_driveLock c o p lock)).trans hp

theorem tripStands_pilotSteady (c : Chip) (o : Nat) : TripStands c (pilotSteady c o) :=
  .of_coils ((kept_pilotSteady o (by decide)).2 (.refl [.outl, .pwd] c)) fun _ hp => hp

theorem tripStands_pilotF (c : Chip) (o : Nat) : TripStands c (pilotF c o) :=
  .of_coils ((kept_pilotF o (by decide)).2 (.refl [.outl, .pwd] c)) fun _ hp => hp

theorem tripStands_modOutlet (c : Chip) (o : Nat) (f : OutletSt → OutletSt) : TripStands c (modOutlet c o f) :=
  .of_kept ((kept_modOutlet _ _ (by decide)).2 (.refl [.outl] c))

theorem tripStands_stopSession (c : Chip) (o : Nat) (flags : BitVec 16) : TripStands c (stopSession c o flags) :=
  .of_kept ((kept_stopSession _ _ (by decide)).2 (.refl [.acc, .sess] c))

theorem tripStands_stopConverters (c : Chip) (o : Nat) : TripStands c (stopConverters c o) :=
  .of_kept ((kept_stopConverters _ (by decide)).2 (.refl [.outl, .out] c))

theorem tripStands_dropAuth (c : Chip) (o : Nat) (a : Answer) : TripStands c (dropAuth c o a) :=
  .of_kept ((kept_dropAuth _ _ (by decide)).2 (.refl [.outl, .host, .out] c))

/-! ### Draining and faulting an outlet -/

theorem tripStands_enterFinishing (c : Chip) (o : Nat) : TripStands c (enterFinishing c o) := by
  unfold enterFinishing
  dsimp only
  have hsteady := fun f => ((tripStands_dropAuth c o (ansReject .rule)).trans (tripStands_modOutlet _ o f)).trans
    (tripStands_pilotSteady _ o)
  split
  · exact hsteady _
  · exact (hsteady _).trans (tripStands_driveLock _ o false)

theorem tripStands_enterUnavailable (c : Chip) (o : Nat) : TripStands c (enterUnavailable c o) :=
  (((tripStands_dropAuth c o (ansReject .rule)).trans (tripStands_modOutlet _ o _)).trans (tripStands_pilotF _ o)).trans
    (tripStands_driveLock _ o false)

theorem tripStands_releaseForOpening (c : Chip) (o : Nat) : TripStands c (releaseForOpening c o) := by
  unfold releaseForOpening
  dsimp only
  have hweld := (tripStands_processorOff c o).trans (tripStands_modOutlet _ o (fun x => { x with state := .weldCheck }))
  split
  · exact hweld.trans (tripStands_stopConverters _ o)
  · exact hweld

theorem tripStands_book (c : Chip) (b : Booking) : TripStands c (book c b).1 := by
  unfold book
  split
  · exact .refl c
  · split
    · exact (TripStands.of_kept ((kept_set_tb (by decide)).2 (.refl [.tb] c))).trans (tripStands_raiseEvt _ _ (by decide))
    · exact .of_kept ((kept_set_tb (by decide)).2 (.refl [.tb] c))

theorem tripStands_bookCoil {now : Chip → Chip} (hnow : ∀ d, TripStands d (now d)) (c : Chip) (k : BookKind) (t : Nat) :
    TripStands c (bookCoil c k t now) := by
  have hbook := tripStands_book c { cycle := t / 65536, angle := t % 65536, kind := k, period := 0 }
  unfold bookCoil
  split
  next heq =>
    rw [heq] at hbook
    exact hbook.trans (hnow _)
  next heq =>
    rw [heq] at hbook
    exact hbook

theorem tripStands_enterOpening (c : Chip) (o : Fin 8) (why : StopWhy) : TripStands c (enterOpening c o why) := by
  have hmark := tripStands_modOutlet c o.val (fun x => { x with state := .opening, why := why, powerStart := false })
  unfold enterOpening
  dsimp only
  split_ifs
  · exact (hmark.trans (tripStands_modOutlet _ o.val _)).trans
      (.of_kept ((kept_sendSetpoints _ (by decide)).2 (.refl [.outl, .out, .freeCount] _)))
  · exact (hmark.trans (tripStands_raiseEvt _ _ (by decide))).trans (tripStands_releaseForOpening _ _)
  · exact hmark.trans (tripStands_bookCoil (fun d => tripStands_releaseForOpening d o.val) _ _ _)
  · exact hmark.trans (tripStands_bookCoil (fun d => tripStands_releaseForOpening d o.val) _ _ _)
  · exact hmark.trans (tripStands_releaseForOpening _ _)

theorem tripStands_stopOutlet (c : Chip) (o : Fin 8) (flags : BitVec 16) : TripStands c (stopOutlet c o flags) := by
  have hend : ∀ d, TripStands d (enterFinishing (stopSession d o.val flags) o.val) := fun d =>
    (tripStands_stopSession d o.val flags).trans (tripStands_enterFinishing _ o.val)
  unfold stopOutlet
  dsimp only
  split
  case h_1 => exact tripStands_enterOpening c o _
  case h_2 => exact tripStands_modOutlet c o.val _
  case h_3 => exact tripStands_modOutlet c o.val _
  case h_4 =>
    split
    · exact tripStands_modOutlet c o.val _
    · exact (tripStands_processorOff c o.val).trans (hend _)
  case h_5 => exact tripStands_enterOpening c o _
  case h_6 => exact tripStands_enterOpening c o _
  case h_7 => exact hend c
  case h_8 => exact hend c
  case h_9 =>
    split
    · exact hend c
    · exact .refl c
  case h_10 =>
    split
    · exact hend c
    · exact .refl c
  all_goals exact .refl c

theorem tripStands_drainOutlet (c : Chip) (o : Fin 8) : TripStands c (drainOutlet c o) := by
  unfold drainOutlet
  dsimp only
  split
  · exact .refl c
  · split
    · exact (tripStands_modOutlet c o.val _).trans (tripStands_stopOutlet _ o 0)
    · exact (tripStands_stopSession c o.val 0).trans (tripStands_enterUnavailable _ o.val)

theorem tripStands_enterFaulted (c : Chip) (o : Nat) (flags : BitVec 16) : TripStands c (enterFaulted c o flags) := by
  have hoff := tripStands_processorOff c o
  have hend : ∀ d f, TripStands d (driveLock (pilotSteady (modOutlet (stopSession d o flags) o f) o) o false) := fun d f =>
    (((tripStands_stopSession d o flags).trans (tripStands_modOutlet _ o f)).trans (tripStands_pilotSteady _ o)).trans
      (tripStands_driveLock _ o false)
  have hdrop := hoff.trans (tripStands_dropAuth _ o (ansReject .rule))
  unfold enterFaulted
  dsimp only
  split
  · exact hoff.trans (tripStands_stopSession _ o flags)
  · split
    · exact (hdrop.trans (tripStands_stopConverters _ o)).trans (hend _ _)
    · exact hdrop.trans (hend _ _)

/-! ### The reaction of the module -/

theorem tripStands_openAllNow (c : Chip) : TripStands c (openAllNow c) := by
  unfold openAllNow
  refine tripStands_foldl (fun d o => ?_) _ c
  dsimp only
  split
  · have hoff := tripStands_processorOff d o.val
    split
    · have hweld := hoff.trans (tripStands_modOutlet _ o.val (fun x => { x with state := .weldCheck, why := .stop }))
      split
      · exact hweld.trans (tripStands_stopConverters _ o.val)
      · exact hweld
    · exact hoff
  · exact .refl d

theorem tripStands_blotEvent (c : Chip) (code sev data : Nat) : TripStands c (blotEvent c code sev data) := by
  have hk := (kept_blotEvent code sev data (by decide)).2 (.refl [.regs, .host, .blt, .out] c)
  have hsaf := hk .saf (by decide)
  exact ⟨congrArg Saf.latches hsaf, congrArg Saf.trips hsaf, congrArg Saf.lastAll hsaf, congrArg Saf.shuntFired hsaf,
    fun o ho => (congrArg Coil.driven (coilOf_of_pwd (hk .pwd (by decide)) o)).trans ho,
    fun b h => (immBit_blotEvent c code sev data (by decide)).trans h⟩

theorem tripStands_setMode (c : Chip) (m : Mode) (cause : Nat) : TripStands c (setMode c m cause) := by
  have hblot : ∀ d code sev data k, TripStands d (routeEvt (blotEvent d code sev data) k) := fun d code sev data k =>
    (tripStands_blotEvent d code sev data).trans (.of_kept ((kept_routeEvt _ (by decide)).2 (.refl [.host, .out] _)))
  have hsup : ∀ (d : Chip) x, TripStands d { d with sup := x } := fun d x =>
    .of_kept ((kept_set_sup (by decide)).2 (.refl [.sup] d))
  unfold setMode
  dsimp only
  split
  · exact .refl c
  · refine TripStands.trans (?_) (hblot _ _ _ _ _)
    split
    · exact ((hsup c _).trans (.of_kept ((kept_set_sup_dsp (by decide)).2 (.refl [.sup, .dsp] _)))).trans
        (.of_kept ((kept_completeOpt _ _ (by decide)).2 (.refl [.host, .out] _)))
    · exact hsup c _

theorem tripStands_enterSafeStop (c : Chip) (cause : Nat) : TripStands c (enterSafeStop c cause) := by
  have hheld : TripStands c { c with sup := { c.sup with heldSafety := false } } :=
    .of_kept ((kept_set_sup (by decide)).2 (.refl [.sup] c))
  exact (hheld.trans (tripStands_setMode _ _ cause)).trans (tripStands_foldl tripStands_drainOutlet _ _)

theorem tripStands_safetyReaction (c : Chip) (k : SafeCause) : TripStands c (safetyReaction c k) := by
  have hopen : TripStands c (openAllNow (addSafeCause c k)) :=
    (TripStands.of_kept ((kept_addSafeCause k (by decide)).2 (.refl [.sup] c))).trans (tripStands_openAllNow _)
  unfold safetyReaction
  dsimp only
  split
  case h_1 => exact hopen.trans (.of_kept ((kept_set_sup (by decide)).2 (.refl [.sup] _)))
  case h_2 => exact hopen.trans (tripStands_enterSafeStop _ _)
  case h_3 => exact hopen.trans (tripStands_enterSafeStop _ _)
  case h_4 => exact hopen

end Sys2Proof
end

section
/-! PROOFS. The commands of the safety functions (R278 to R285, R289). -/

namespace Sys2Proof

open Machine

/-! ### A weld -/

/-- R283: the shunt trip and Nib's weld bit of outlet o, after the trip. -/
def shuntAsked (c : Chip) (o : Nat) (ch : Channel) : Chip :=
  if ch = .processor then { c with saf := { c.saf with shuntFired := o :: c.saf.shuntFired, shuntReq := true } }
  else assertShtr { c with saf := { c.saf with shuntFired := o :: c.saf.shuntFired } }

def weldShunted (c : Chip) (o : Nat) (ch : Channel) : Chip := if c.saf.shuntFired.contains o then c else shuntAsked c o ch

def weldMarked (c : Chip) (o : Nat) (ch : Channel) : Chip :=
  { weldShunted c o ch with nib := { (weldShunted c o ch).nib with weld := setBitV (weldShunted c o ch).nib.weld o true } }

theorem weldFound_eq (c : Chip) (o : Nat) (ch : Channel) : weldFound c o ch =
    reportSrc (weldMarked (trip c o .weld ch 9) o ch) (88 + o)
      (safTripLow (weldMarked (trip c o .weld ch 9) o ch) % 1024) := rfl

/-- R283: what the shunt trip of a weld leaves of the trip. -/
structure ShuntsOnly (c d : Chip) : Prop where
  kept : ChipKeptBut [.host, .nib, .out, .pwd, .regs, .saf] c d
  coils : ∀ o, coilOf d o = coilOf c o
  saf : ∃ f r, d.saf = { c.saf with shuntFired := f, shuntReq := r }
  gate : d.nib.gate = c.nib.gate
  latch : d.nib.latch = c.nib.latch
  evt : ∀ b, immBit c Reg.SAF_EVT b = true → immBit d Reg.SAF_EVT b = true

theorem driveShunt_kept (c : Chip) : ChipKeptBut [.host, .out, .pwd, .regs] c (driveShunt c) :=
  (kept_driveShunt (by decide)).2 (.refl _ c)

theorem driveShunt_shunt (c : Chip) : (driveShunt c).pwd.shunt = true := by
  unfold driveShunt
  split
  · assumption
  · rw [raiseEvt_pwd]
    rfl

theorem coilOf_driveShunt (c : Chip) (o : Nat) : coilOf (driveShunt c) o = coilOf c o := by
  unfold driveShunt
  split
  · rfl
  · rw [coilOf, raiseEvt_pwd]
    rfl

theorem immBit_driveShunt {c : Chip} {a b : Nat} (h : immBit c a b = true) : immBit (driveShunt c) a b = true := by
  unfold driveShunt
  split
  · exact h
  · exact immBit_raiseEvt_of _ (by decide) h

theorem shuntsOnly_shuntAsked (c : Chip) (o : Nat) (ch : Channel) : ShuntsOnly c (shuntAsked c o ch) := by
  unfold shuntAsked
  split
  · exact ⟨(kept_set_saf (by decide)).2 (.refl _ c), fun _ => rfl, ⟨_, _, rfl⟩, rfl, rfl, fun _ h => h⟩
  · unfold assertShtr
    have hk := driveShunt_kept { c with
      saf := { c.saf with shuntFired := o :: c.saf.shuntFired, shuntReq := false }, nib := { c.nib with shtr := true } }
    have hnib : (driveShunt _).nib = { c.nib with shtr := true } := hk .nib (by decide)
    exact ⟨ChipKeptBut.trans ((kept_set_saf_nib (by decide)).2 (.refl _ c)) (hk.mono (by decide)),
      fun p => coilOf_driveShunt _ p, ⟨_, _, hk .saf (by decide)⟩, (congrArg Nib.gate hnib :), (congrArg Nib.latch hnib :),
      fun _ h => immBit_driveShunt h⟩

theorem shuntAsked_fired (c : Chip) (o : Nat) (ch : Channel) : o ∈ (shuntAsked c o ch).saf.shuntFired ∧
    if ch = .processor then (shuntAsked c o ch).saf.shuntReq = true else (shuntAsked c o ch).pwd.shunt = true := by
  unfold shuntAsked
  split
  · exact ⟨List.mem_cons_self, rfl⟩
  · unfold assertShtr
    refine ⟨?_, driveShunt_shunt _⟩
    rw [driveShunt_kept _ .saf (by decide)]
    exact List.mem_cons_self

theorem shuntsOnly_weldShunted (c : Chip) (o : Nat) (ch : Channel) : ShuntsOnly c (weldShunted c o ch) := by
  unfold weldShunted
  split
  · exact ⟨.refl _ c, fun _ => rfl, ⟨_, _, rfl⟩, rfl, rfl, fun _ h => h⟩
  · exact shuntsOnly_shuntAsked c o ch

theorem weldShunted_fired (c : Chip) (o : Nat) (ch : Channel) : o ∈ (weldShunted c o ch).saf.shuntFired := by
  unfold weldShunted
  split
  next h => exact List.contains_iff_mem.1 h
  next => exact (shuntAsked_fired c o ch).1

theorem weldShunted_first {c : Chip} {o : Nat} (ch : Channel) (h : o ∉ c.saf.shuntFired) :
    if ch = .processor then (weldShunted c o ch).saf.shuntReq = true else (weldShunted c o ch).pwd.shunt = true := by
  have hno : c.saf.shuntFired.contains o = false := by rw [← Bool.not_eq_true, List.contains_iff_mem]; exact h
  unfold weldShunted
  rw [hno, if_neg Bool.false_ne_true]
  exact (shuntAsked_fired c o ch).2

theorem shuntsOnly_weldMarked (c : Chip) (o : Nat) (ch : Channel) : ShuntsOnly c (weldMarked c o ch) := by
  obtain ⟨hk, hcoils, hsaf, hgate, hlatch, hevt⟩ := shuntsOnly_weldShunted c o ch
  exact ⟨(kept_set_nib (by decide)).2 hk, hcoils, hsaf, hgate, hlatch, hevt⟩

theorem weldMarked_weld (c : Chip) {o : Nat} (ho : o < 8) (ch : Channel) :
    (weldMarked c o ch).nib.weld.getLsbD o = true := by
  unfold weldMarked
  dsimp only
  rw [getLsbD_setBitV _ _ _ ho, if_pos rfl]

theorem Tripped.of_shunt {c d e : Chip} {o : Nat} {sf : Sf} {ch : Channel} (h : Tripped c d o sf ch) (hs : ShuntsOnly d e) :
    Tripped c e o sf ch := by
  obtain ⟨hkept, hfault, hmem, htrips, hout, hsf, hch, hevt, hnib⟩ := h
  obtain ⟨hk, hcoils, ⟨f, r, hsaf⟩, hgate, hlatch, hset⟩ := hs
  refine ⟨hkept.trans (hk.mono (by decide)), hfault.congr (hk .outl (by decide))
    (fun hoff => hoff.congr (hcoils o) (by rw [hsaf])) (hk .sess (by decide)), ?_, ?_, ?_, ?_, ?_, hset _ hevt, fun hne => ?_⟩
  · rw [hsaf]; exact hmem
  · rw [hsaf]; exact htrips
  · rw [hsaf]; exact hout
  · rw [hsaf]; exact hsf
  · rw [hsaf]; exact hch
  · rw [hgate, hlatch]; exact hnib hne

theorem trip_shuntFired (c : Chip) (o : Nat) (sf : Sf) (ch : Channel) (cause : Nat) :
    (trip c o sf ch cause).saf.shuntFired = c.saf.shuntFired := by
  rw [trip_eq, recordTrip_saf, latchTrip_saf, tripWithdrawn_kept _ o ch cause .saf (by decide)]
  exact (tripStands_enterFaulted c o 0).shuntFired

theorem tripped_weldMarked (c : Chip) (o : Outlet) (ch : Channel) :
    Tripped c (weldMarked (trip c o.val .weld ch 9) o.val ch) o.val .weld ch :=
  (tripped_trip c o.isLt .weld ch 9).of_shunt (shuntsOnly_weldMarked _ _ _)

/-! ### A trip of every outlet -/

/-- R285: what a trip of every outlet does to each. -/
def faultedAll (sf : Sf) (c : Chip) (o : Nat) : Chip := latchTrip (enterFaulted c o 0) o sf .processor

theorem tripAll_processor (c : Chip) (sf : Sf) (cause : Nat) : tripAll c sf .processor cause =
    recordTrip { (List.range 8).foldl (faultedAll sf) c with
      nib := { ((List.range 8).foldl (faultedAll sf) c).nib with degraded := 0 } } 0 true sf .processor := by
  unfold tripAll faultedAll
  simp only [↓reduceIte]

theorem faultedAll_mem (sf : Sf) (c : Chip) (o : Nat) : (o, sf) ∈ (faultedAll sf c o).saf.latches := mem_latchTrip ..

theorem faultedAll_keeps_mem {sf : Sf} {c : Chip} {x : Nat × Sf} (o : Nat) (h : x ∈ c.saf.latches) :
    x ∈ (faultedAll sf c o).saf.latches := by
  rw [← (tripStands_enterFaulted c o 0).latches] at h
  unfold faultedAll
  rw [latchTrip_saf]
  dsimp only
  split
  · exact h
  · exact List.mem_cons_of_mem _ h

theorem coilOf_latchTrip (c : Chip) (o : Nat) (sf : Sf) (ch : Channel) (p : Nat) :
    coilOf (latchTrip c o sf ch) p = coilOf c p := coilOf_of_pwd (latchTrip_kept c o sf ch .pwd (by decide)) p

theorem faultedAll_off (sf : Sf) (c : Chip) {o : Nat} (ho : o < 8) : (coilOf (faultedAll sf c o) o).driven = false := by
  obtain ⟨-, -, hoff, -⟩ := faultedAt_enterFaulted c ho 0
  rw [faultedAll, coilOf_latchTrip]
  exact hoff.1

theorem faultedAll_keeps_off (sf : Sf) {c : Chip} (o : Nat) {p : Nat} (h : (coilOf c p).driven = false) :
    (coilOf (faultedAll sf c o) p).driven = false := by
  rw [faultedAll, coilOf_latchTrip]
  exact (tripStands_enterFaulted c o 0).coils p h

theorem faultedAll_trips (sf : Sf) (c : Chip) (o : Nat) : (faultedAll sf c o).saf.trips = c.saf.trips := by
  rw [faultedAll, latchTrip_saf]
  exact (tripStands_enterFaulted c o 0).trips

/-- R285: every outlet is tripped and its coil released; one trip is counted. -/
theorem tripAll_trips (c : Chip) (sf : Sf) (cause : Nat) : (tripAll c sf .processor cause).saf.lastAll = true ∧
    (tripAll c sf .processor cause).saf.trips = (c.saf.trips + 1) % 2 ^ 16 ∧
    immBit (tripAll c sf .processor cause) Reg.SAF_EVT (sf.num - 1) = true ∧
    ∀ o : Outlet, (o.val, sf) ∈ (tripAll c sf .processor cause).saf.latches ∧
      (coilOf (tripAll c sf .processor cause) o.val).driven = false := by
  have htrips := foldl_same (fun d => d.saf.trips) (faultedAll_trips sf) (List.range 8) c
  have hmem : ∀ o : Outlet, (o.val, sf) ∈ ((List.range 8).foldl (faultedAll sf) c).saf.latches := fun o =>
    foldl_reaches (P := fun d => (o.val, sf) ∈ d.saf.latches) (fun d => faultedAll_mem sf d o.val)
      (fun d p hd => faultedAll_keeps_mem p hd) (List.mem_range.2 o.isLt) c
  have hoff : ∀ o : Outlet, (coilOf ((List.range 8).foldl (faultedAll sf) c) o.val).driven = false := fun o =>
    foldl_reaches (P := fun d => (coilOf d o.val).driven = false) (fun d => faultedAll_off sf d o.isLt)
      (fun d p hd => faultedAll_keeps_off sf p hd) (List.mem_range.2 o.isLt) c
  rw [tripAll_processor]
  generalize (List.range 8).foldl (faultedAll sf) c = d at htrips hmem hoff
  have hrec := recordTrip_kept { d with nib := { d.nib with degraded := 0 } } 0 true sf .processor
  refine ⟨?_, ?_, recordTrip_evt .., fun o => ⟨?_, ?_⟩⟩
  · rw [recordTrip_saf]
  · rw [recordTrip_saf]
    exact congrArg (fun n => (n + 1) % 2 ^ 16) htrips
  · rw [recordTrip_saf]
    exact hmem o
  · rw [coilOf_of_pwd (hrec .pwd (by decide))]
    exact hoff o

/-! ### The readings -/

/-- R284: the readings of an insulation result. -/
def imdTaken (c : Chip) (o kohm plus minus : Nat) : Chip :=
  { c with saf := { c.saf with
    insKohm := tput c.saf.insKohm o (sat 0xFFFFFF kohm), insAge := tput c.saf.insAge o (aonSec c),
    insState := tput c.saf.insState o (if insBelow c o kohm (cfg c Reg.SAF_IMD_CFG 15 0) then 4
      else if insBelow c o kohm (cfg c Reg.SAF_IMD_CFG 31 16) then 3 else 2),
    imdGood := if (outletOf c o).state == .checking then
        tput c.saf.imdGood o (if insAbove c o kohm then tget 0 c.saf.imdGood o + 1 else 0)
      else c.saf.imdGood,
    poles := if (outletOf c o).state == .checking then tput c.saf.poles o (plus, minus) else c.saf.poles } }

theorem imdTaken_kept (c : Chip) (o kohm plus minus : Nat) : ChipKeptBut [.saf] c (imdTaken c o kohm plus minus) :=
  (kept_set_saf (by decide)).2 (.refl _ c)

theorem imdResult_eq {c : Chip} {o kohm plus minus : Nat} (h : plus + minus ≤ 5000) : imdResult c o kohm plus minus =
    if !procAnswers c then imdTaken c o kohm plus minus
    else if insBelow c o kohm (cfg c Reg.SAF_IMD_CFG 15 0) && energised c o then
      trip (imdTaken c o kohm plus minus) o .sf5 .processor 1
    else if insBelow c o kohm (cfg c Reg.SAF_IMD_CFG 31 16) then raiseEvt (imdTaken c o kohm plus minus) Reg.SAF_EVT 11
    else imdTaken c o kohm plus minus := by
  unfold imdResult
  rw [if_neg (by omega)]
  rfl

theorem imdResult_passes {c : Chip} {o kohm plus minus : Nat} (h : plus + minus ≤ 5000)
    (hgood : insBelow c o kohm (cfg c Reg.SAF_IMD_CFG 15 0) = false) :
    imdResult c o kohm plus minus = imdTaken c o kohm plus minus ∨
      imdResult c o kohm plus minus = raiseEvt (imdTaken c o kohm plus minus) Reg.SAF_EVT 11 := by
  rw [imdResult_eq h, hgood, Bool.false_and, if_neg Bool.false_ne_true]
  split
  · exact .inl rfl
  · split
    · exact .inr rfl
    · exact .inl rfl

/-- R285: the readings of the two temperatures. -/
def tempTaken (c : Chip) (pwd sup : Nat) : Chip :=
  { c with
    saf := { c.saf with
      hotPwd := if cfg c Reg.SAF_TEMP_CFG 7 0 ≤ pwd then c.saf.hotPwd + 1 else 0,
      hotSup := if cfg c Reg.SAF_TEMP_CFG 15 8 ≤ sup then c.saf.hotSup + 1 else 0 },
    pwd := { c.pwd with temp := pwd, supTemp := sup } }

theorem tempReading_cool {c : Chip} {pwd sup : Nat} (hp : pwd < cfg c Reg.SAF_TEMP_CFG 7 0)
    (hs : sup < cfg c Reg.SAF_TEMP_CFG 15 8) : tempReading c pwd sup = tempTaken c pwd sup := by
  have hp' : ¬ cfg c Reg.SAF_TEMP_CFG 7 0 ≤ pwd := by omega
  have hs' : ¬ cfg c Reg.SAF_TEMP_CFG 15 8 ≤ sup := by omega
  unfold tempReading
  dsimp only
  rw [if_neg]
  · rfl
  · rintro ⟨-, hot, -⟩
    rw [if_neg hp', if_neg hs'] at hot
    omega

theorem tempReading_hot {c : Chip} {pwd sup : Nat} {x : Outlet} (hproc : procAnswers c = true)
    (hp : cfg c Reg.SAF_TEMP_CFG 7 0 ≤ pwd) (hcount : 2 ≤ c.saf.hotPwd) (hx : (x.val, Sf.sf6) ∉ c.saf.latches) :
    tempReading c pwd sup = safetyReaction (tripAll (tempTaken c pwd sup) .sf6 .processor 1) .ambient := by
  have hheld : (List.range 8).all (fun o => c.saf.latches.contains (o, Sf.sf6)) = false := by
    rw [List.all_eq_false]
    refine ⟨x.val, List.mem_range.2 x.isLt, ?_⟩
    rw [List.contains_iff_mem]
    exact hx
  unfold tempReading
  dsimp only
  rw [if_pos]
  · rfl
  · refine ⟨hproc, .inl ?_, hheld⟩
    rw [if_pos hp]
    omega

/-! ### The commands -/

theorem exec_tempReading (s : State) (p q : BitVec 8) : exec (.tempReading p q) s = .next { s with
    chip := tempReading s.chip p.toNat q.toNat } := rfl

/-- R278: the readings of the residual current. -/
def residualTaken (c : Chip) (o : Nat) (dc : Int) (ac : Nat) : Chip :=
  { c with saf := { c.saf with rcDc := tput c.saf.rcDc o dc, rcAc := tput c.saf.rcAc o ac } }

theorem exec_residualCurrentTrip (s : State) (o : Outlet) (ch : Channel) (dc : Int) (ac : Nat) :
    exec (.residualCurrentTrip o ch dc ac) s = .next { s with
      chip := if isAc s.chip o.val = false ∨ residualTrips s.chip dc ac = false ∨ underTest s.chip o.val ch = true then
          residualTaken s.chip o.val dc ac
        else channelTrip (residualTaken s.chip o.val dc ac) ch fun ch =>
          trip (residualTaken s.chip o.val dc ac) o.val .sf1 ch
            (if s.chip.nib.rdcEn && decide (6000 ≤ dc.natAbs) then 2 else 3) } := rfl

theorem residualTrips_small {c : Chip} {dc : Int} {ac : Nat} (hdc : dc.natAbs < 6000) (hac : ac < 30000) :
    residualTrips c dc ac = false := by
  unfold residualTrips
  rw [decide_eq_false (by omega), decide_eq_false (by omega), Bool.and_false, Bool.or_false]

/-- R279: the result of a test of the protective conductor. -/
def peTaken (c : Chip) (o mohm : Nat) : Chip :=
  { c with saf := { c.saf with
    peRes := tput c.saf.peRes o mohm,
    peBad := tput c.saf.peBad o (if mohm ≤ peLimit c then 0 else tget 0 c.saf.peBad o + 1) } }

theorem exec_peLossTrip (s : State) (o : Outlet) (ch : Channel) (r : Nat) : exec (.peLossTrip o ch r) s = .next { s with
    chip := if s.chip.nib.peEn = false ∨ peTrips (peTaken s.chip o.val r) o.val r ch = false ∨ underTest s.chip o.val ch = true
      then peTaken s.chip o.val r
      else channelTrip (peTaken s.chip o.val r) ch fun ch => trip (peTaken s.chip o.val r) o.val .sf2 ch 4 } := rfl

theorem peTrips_taken {c : Chip} {o : Nat} {ch : Channel} {r : Nat}
    (h : if ch = .nib then 20000 < r else peLimit c < r ∧ 4 ≤ tget 0 c.saf.peBad o) :
    peTrips (peTaken c o r) o r ch = true := by
  unfold peTrips
  split at h
  next hch => rw [if_pos hch]; exact decide_eq_true h
  next hch =>
    obtain ⟨hlim, hbad⟩ := h
    have hcount : tget 0 (peTaken c o r).saf.peBad o = tget 0 c.saf.peBad o + 1 :=
      (tget_tput_self _ _ _ _).trans (if_neg (by omega))
    rw [if_neg hch, hcount]
    exact decide_eq_true (by omega)

theorem exec_pilotTrip (s : State) (o : Outlet) (ch : Channel) (vp vn : Int) : exec (.pilotTrip o ch vp vn) s = .next { s with
    chip := if (s.chip.nib.gate.getLsbD o.val || energised s.chip o.val) && pilotTrips s.chip o.val vp vn ch then
        channelTrip s.chip ch fun ch => trip s.chip o.val .sf3 ch 5
      else s.chip } := rfl

theorem pilotTrips_nib {c : Chip} {o : Nat} {vp vn : Int} (h : pilotBand (outletOf c o).pwm vp vn ≠ .fault) :
    pilotTrips c o vp vn .nib = false := beq_eq_false_iff_ne.2 h

theorem exec_contactorMismatch (s : State) (o : Outlet) (ch : Channel) : exec (.contactorMismatch o ch) s = .next { s with
    chip := if (coilOf s.chip o.val).driven && !fbClosed s.chip o.val && (outletOf s.chip o.val).state != .closing then
        channelTrip s.chip ch fun ch => contactorTrip s.chip o.val .mismatch ch
      else s.chip } := rfl

theorem exec_failToClose (s : State) (o : Outlet) (ch : Channel) : exec (.failToClose o ch) s = .next { s with
    chip := if (coilOf s.chip o.val).driven && !fbClosed s.chip o.val && (outletOf s.chip o.val).state == .closing then
        channelTrip s.chip ch fun ch => contactorTrip s.chip o.val .failClose ch
      else s.chip } := rfl

theorem exec_weldDetected (s : State) (o : Outlet) (ch : Channel) : exec (.weldDetected o ch) s = .next { s with
    chip := if fbClosed s.chip o.val && !(coilOf s.chip o.val).driven then
        channelTrip s.chip ch fun ch => weldFound s.chip o.val ch
      else s.chip } := rfl

theorem exec_poleTestDone {s : State} {o : Outlet} (p m : Nat) (hproc : procAnswers s.chip = true)
    (hdc : isDc s.chip o.val = true) (hst : (outletOf s.chip o.val).state = .weldCheck) (hfb : fbClosed s.chip o.val = false) :
    exec (.poleTestDone o p m) s = .next { s with
      chip := if poleWelded s.chip o.val p m then weldFound s.chip o.val .processor else weldCheckDone s.chip o.val } := by
  change execPoleTestDone o p m s = _
  rw [execPoleTestDone, onChip]
  dsimp only
  rw [if_pos ⟨hdc, hst, hfb, hproc⟩]

theorem exec_imdResult (s : State) (o : Outlet) (k p m : Nat) : exec (.imdResult o k p m) s = .next { s with
    chip := if isDc s.chip o.val then imdResult s.chip o.val k p m else s.chip } := rfl

/-- R285: the reading of a temperature switch. -/
def switchTaken (c : Chip) (o : Nat) (high : Bool) : Chip :=
  { c with saf := { c.saf with hotSw := setBitV c.saf.hotSw o (switchHot c high) } }

theorem exec_tempSwitchTrip (s : State) (o : Outlet) (h : Bool) : exec (.tempSwitchTrip o h) s = .next { s with
    chip := if cfgBit s.chip Reg.SAF_TEMP_CFG (16 + o.val) && switchHot s.chip h && procAnswers s.chip then
        trip (switchTaken s.chip o.val h) o.val .sf6 .processor 1
      else switchTaken s.chip o.val h } := rfl

/-- R282: a welded pole, or the end of WELD_CHECK as a pause. -/
theorem paused_poleTestDone {s : State} {o : Outlet} {p m : Nat} (hproc : procAnswers s.chip = true)
    (hdc : isDc s.chip o.val = true) (hst : (outletOf s.chip o.val).state = .weldCheck)
    (hfb : fbClosed s.chip o.val = false) (hpole : poleWelded s.chip o.val p m = false)
    (hwhy : (outletOf s.chip o.val).why = .pause) (hdrain : (outletOf s.chip o.val).draining = false) :
    Answers (.poleTestDone o p m) s fun t => KeptBut [.outl] s t ∧ OthersKept o.val s.chip t.chip ∧
      (outletOf t.chip o.val).state = .authorised ∧ (outletOf t.chip o.val).preclosed = none := by
  have hexec := exec_poleTestDone p m hproc hdc hst hfb
  rw [hpole, if_neg Bool.false_ne_true, weldCheckDone_pause hst hwhy hdrain] at hexec
  let d := modOutlet s.chip o.val pausedRec
  have hdout : outletOf d o.val = pausedRec (outletOf s.chip o.val) := outletOf_modOutlet_same ..
  obtain ⟨hk, -, hstate, hothers⟩ := updateIlim_dc (c := d) (o := o.val) hdc
  obtain ⟨-, -, l, a, b, hout⟩ := updateIlim_still (c := d) (o := o) (.inr (by rw [hdout]; rfl))
  refine answers_chip hexec ⟨keptBut_chip.2 (ChipKeptBut.trans ((kept_modOutlet _ _ (by decide)).2 (.refl _ s.chip)) hk),
    OthersKept.trans ((othersKept_modOutlet ..).2 (.refl _ s.chip)) hothers, ?_, ?_⟩
  · dsimp only
    rw [hout, hdout]
    rfl
  · dsimp only
    rw [hout, hdout]
    rfl

theorem checking_imdResult {s : State} {o : Outlet} {k p m : Nat} (hdc : isDc s.chip o.val = true) (hpm : p + m ≤ 5000)
    (hgood : insBelow s.chip o.val k (cfg s.chip Reg.SAF_IMD_CFG 15 0) = false) (habove : insAbove s.chip o.val k = true)
    (hst : (outletOf s.chip o.val).state = .checking) :
    Answers (.imdResult o k p m) s fun t => KeptBut [.host, .out, .regs, .saf] s t ∧
      RegsKeptBut [Reg.SAF_EVT] s.chip t.chip ∧
      tget 0 t.chip.saf.imdGood o.val = tget 0 s.chip.saf.imdGood o.val + 1 ∧
      tget (0, 0) t.chip.saf.poles o.val = (p, m) ∧ tget 0 t.chip.saf.insKohm o.val = min 0xFFFFFF k := by
  let d := imdTaken s.chip o.val k p m
  have hk : ChipKeptBut [.saf] s.chip d := imdTaken_kept _ _ _ _ _
  have hchecks : ((outletOf s.chip o.val).state == .checking) = true := beq_iff_eq.2 hst
  have hread : tget 0 d.saf.imdGood o.val = tget 0 s.chip.saf.imdGood o.val + 1 ∧
      tget (0, 0) d.saf.poles o.val = (p, m) ∧ tget 0 d.saf.insKohm o.val = min 0xFFFFFF k := by
    refine ⟨?_, ?_, (tget_tput_self _ _ _ _).trans (sat_eq_min _ _)⟩
    · dsimp only [d, imdTaken]
      rw [if_pos hchecks, if_pos habove, tget_tput_self]
    · dsimp only [d, imdTaken]
      rw [if_pos hchecks, tget_tput_self]
  have hexec := exec_imdResult s o k p m
  rw [if_pos hdc] at hexec
  obtain hstays | hwarns := imdResult_passes hpm hgood
  · rw [hstays] at hexec
    exact answers_chip hexec ⟨keptBut_chip.2 (hk.mono (by decide)), hk.regsKept (by decide), hread⟩
  · rw [hwarns] at hexec
    refine answers_chip hexec ⟨keptBut_chip.2 ((kept_raiseEvt _ _ (by decide)).2 (hk.mono (by decide))), ?_, ?_⟩
    · exact (hk.regsKept (by decide)).trans (regsKept_raiseEvt _ _ (by decide))
    · dsimp only
      rw [raiseEvt_saf]
      exact hread

/-- Settles O26: each safety function trips its outlet as its limit says (R278 to R285, R289). -/
theorem safetyTrips : Obligations.SafetyTrips := by
  unfold Obligations.SafetyTrips
  refine ⟨fun s o ch k dc ac hac htrips htest hseen => ?_, fun s o ch dc ac hno => ?_,
    fun s o ch k r hen htest hlim hseen => ?_, fun s o ch r hen => ?_, fun s o ch k vp vn hlive htrips hseen => ?_,
    fun s o vp vn hband => ?_, fun s o ch k hdriven hfb hseen => ⟨fun hst => ?_, fun hst => ?_⟩,
    fun s o ch k hfb hoff hseen => ?_, fun s o p m hproc hdc hst hfb hpole => ?_,
    fun s o p m hproc hdc hst hfb hpole hwhy hdrain => ?_, fun s o k p m hproc hdc hpm hbelow hen => ?_,
    fun s o k p m hdc hpm hgood habove hst => ?_, fun s o k p m hpm => ?_, fun s o h hproc hcfg hhot => ?_,
    fun s p q hp hq => ?_, fun s p q x hproc hp hcount hx => ?_⟩
  case _ =>
    have hexec := exec_residualCurrentTrip s o ch dc ac
    rw [if_neg (by rw [hac, htrips, htest]; decide), channelTrip_seen (c := residualTaken s.chip o.val dc ac) _ hseen] at hexec
    exact answers_chip hexec ⟨storesKept_chip s _,
      (tripped_trip _ o.isLt .sf1 k _).of_readings ((kept_set_saf (by decide)).2 (.refl _ s.chip)) rfl⟩
  case _ =>
    have hexec : exec (.residualCurrentTrip o ch dc ac) s = .next { s with chip := residualTaken s.chip o.val dc ac } := by
      rw [exec_residualCurrentTrip]
      split
      · rfl
      next hnot =>
        obtain ⟨hdc, hac⟩ | hac | htest | hseen := hno
        · exact absurd (.inr (.inl (residualTrips_small hdc hac))) hnot
        · exact absurd (.inl hac) hnot
        · exact absurd (.inr (.inr htest)) hnot
        · rw [channelTrip_unseen (c := residualTaken s.chip o.val dc ac) _ hseen]
    exact answers_chip hexec ⟨keptBut_chip.2 ((kept_set_saf (by decide)).2 (.refl _ _)), tget_tput_self .., tget_tput_self ..,
      rfl, rfl⟩
  case _ =>
    have hexec := exec_peLossTrip s o ch r
    rw [if_neg (by rw [hen, peTrips_taken hlim, htest]; decide), channelTrip_seen (c := peTaken s.chip o.val r) _ hseen] at hexec
    exact answers_chip hexec ⟨storesKept_chip s _,
      (tripped_trip _ o.isLt .sf2 k _).of_readings ((kept_set_saf (by decide)).2 (.refl _ s.chip)) rfl⟩
  case _ =>
    have hexec := exec_peLossTrip s o ch r
    rw [if_pos (.inl hen)] at hexec
    exact answers_chip hexec ⟨keptBut_chip.2 ((kept_set_saf (by decide)).2 (.refl _ _)), tget_tput_self .., rfl, rfl⟩
  case _ =>
    have hexec := exec_pilotTrip s o ch vp vn
    have hcond : ((s.chip.nib.gate.getLsbD o.val || energised s.chip o.val) && pilotTrips s.chip o.val vp vn ch) = true := by
      rw [htrips, Bool.and_true, Bool.or_eq_true]
      exact hlive
    rw [if_pos hcond, channelTrip_seen _ hseen] at hexec
    exact answers_chip hexec ⟨storesKept_chip s _, tripped_trip _ o.isLt .sf3 k _⟩
  case _ =>
    rw [exec_pilotTrip, pilotTrips_nib hband, Bool.and_false, if_neg Bool.false_ne_true]
  case _ =>
    have hexec := exec_contactorMismatch s o ch
    rw [hdriven, hfb, if_pos (by rw [bne_iff_ne.2 hst]; rfl), channelTrip_seen _ hseen] at hexec
    exact answers_chip hexec ⟨storesKept_chip s _, _, tripped_trip _ o.isLt .mismatch k 7, rfl⟩
  case _ =>
    have hexec := exec_failToClose s o ch
    rw [hdriven, hfb, if_pos (by rw [beq_iff_eq.2 hst]; rfl), channelTrip_seen _ hseen] at hexec
    exact answers_chip hexec ⟨storesKept_chip s _, _, tripped_trip _ o.isLt .failClose k 8, rfl⟩
  case _ =>
    have hexec := exec_weldDetected s o ch
    rw [hfb, hoff, if_pos (by decide), channelTrip_seen _ hseen] at hexec
    refine answers_chip hexec ⟨storesKept_chip s _, _, tripped_weldMarked s.chip o k, weldMarked_weld _ o.isLt k,
      weldShunted_fired _ o.val k, fun hnot => ?_, weldFound_eq ..⟩
    exact weldShunted_first k (by rw [trip_shuntFired]; exact hnot)
  case _ =>
    have hexec := exec_poleTestDone p m hproc hdc hst hfb
    rw [hpole, if_pos rfl] at hexec
    exact answers_chip hexec ⟨storesKept_chip s _, _, tripped_weldMarked s.chip o .processor, weldMarked_weld _ o.isLt _,
      weldFound_eq ..⟩
  case _ => exact paused_poleTestDone hproc hdc hst hfb hpole hwhy hdrain
  case _ =>
    have hexec := exec_imdResult s o k p m
    rw [if_pos hdc, imdResult_eq hpm, hproc, hbelow, hen, if_neg (by decide), if_pos (by decide)] at hexec
    exact answers_chip hexec ⟨storesKept_chip s _, (tripped_trip _ o.isLt .sf5 .processor 1).of_readings (imdTaken_kept _ _ _ _ _) rfl⟩
  case _ => exact checking_imdResult hdc hpm hgood habove hst
  case _ =>
    have hover : imdResult s.chip o.val k p m = s.chip := if_pos hpm
    rw [exec_imdResult, hover, ite_self]
  case _ =>
    have hexec := exec_tempSwitchTrip s o h
    rw [hcfg, hhot, hproc, if_pos (by decide)] at hexec
    exact answers_chip hexec ⟨storesKept_chip s _,
      (tripped_trip _ o.isLt .sf6 .processor 1).of_readings ((kept_set_saf (by decide)).2 (.refl _ s.chip)) rfl⟩
  case _ =>
    have hexec := exec_tempReading s p q
    rw [tempReading_cool hp hq] at hexec
    refine answers_chip hexec ⟨keptBut_chip.2 ((kept_set_saf_pwd (by decide)).2 (.refl _ _)), ?_, rfl⟩
    dsimp only [tempTaken]
    rw [if_neg (by omega), if_neg (by omega)]
  case _ =>
    have hexec := exec_tempReading s p q
    rw [tempReading_hot hproc hp hcount hx] at hexec
    obtain ⟨hall, htrips, hevt, heach⟩ := tripAll_trips (tempTaken s.chip p.toNat q.toNat) .sf6 1
    have hcount : (tempTaken s.chip p.toNat q.toNat).saf.trips = s.chip.saf.trips := rfl
    rw [hcount] at htrips
    generalize tripAll (tempTaken s.chip p.toNat q.toNat) .sf6 .processor 1 = d at hexec hall htrips hevt heach
    have hstands := tripStands_safetyReaction d .ambient
    generalize safetyReaction d .ambient = e at hexec hstands
    refine answers_chip hexec ⟨storesKept_chip s _, hstands.evt _ hevt, hstands.trips.trans htrips, hstands.lastAll.trans hall,
      fun o => ⟨?_, hstands.coils _ (heach o).2⟩⟩
    rw [hstands.latches]
    exact (heach o).1

end Sys2Proof
end

section
/-! PROOFS. The channels of the load switches: what a measurement, a demand, a turn-on and a trip do to each (R303 to R313). -/

namespace Sys2Proof

open Machine

/-! ### The table of channels -/

theorem lswOf_setLsw_same (c : Chip) (n : Nat) (x : LswSt) : lswOf (setLsw c n x) n = x := tget_tput_self ..

theorem lswOf_setLsw_ne (c : Chip) {n k : Nat} (x : LswSt) (h : k ≠ n) : lswOf (setLsw c n x) k = lswOf c k :=
  tget_tput_ne _ _ _ h

theorem lswOf_modLsw_same (c : Chip) (n : Nat) (f : LswSt → LswSt) : lswOf (modLsw c n f) n = f (lswOf c n) :=
  lswOf_setLsw_same ..

theorem lswOf_of_lsw {c d : Chip} (h : d.lsw = c.lsw) (n : Nat) : lswOf d n = lswOf c n := by rw [lswOf, lswOf, h]

theorem OtherChansKept.refl (n : Nat) (c : Chip) : OtherChansKept n c c := fun _ _ => rfl

theorem OtherChansKept.trans {n : Nat} {b c d : Chip} (h : OtherChansKept n b c) (k : OtherChansKept n c d) :
    OtherChansKept n b d := fun p hp => (k p hp).trans (h p hp)

theorem OtherChansKept.of_lsw {n : Nat} {c d : Chip} (h : d.lsw = c.lsw) : OtherChansKept n c d := fun p _ =>
  lswOf_of_lsw h p

theorem OtherChansKept.of_kept {ps : List Part} {n : Nat} {c d : Chip} (h : ChipKeptBut ps c d)
    (hl : Part.lsw ∉ ps := by decide) : OtherChansKept n c d := .of_lsw (h .lsw hl)

/-- R303: only records of channels have changed, and what ps names besides. -/
structure ChansOnly (ps : List Part) (c d : Chip) : Prop where
  kept : ChipKeptBut ps c d
  rest : ∃ t, d.lsw = { c.lsw with chans := t }

/-- R303: the record of channel n is x now, and no other has changed. -/
structure OnlyChan (ps : List Part) (n : Nat) (x : LswSt) (c d : Chip) : Prop where
  chans : ChansOnly ps c d
  others : OtherChansKept n c d
  now : lswOf d n = x

theorem ChansOnly.refl (ps : List Part) (c : Chip) : ChansOnly ps c c := ⟨.refl _ c, _, rfl⟩

theorem ChansOnly.trans {ps : List Part} {b c d : Chip} (h : ChansOnly ps b c) (k : ChansOnly ps c d) : ChansOnly ps b d := by
  obtain ⟨hkept, t, ht⟩ := h
  obtain ⟨kkept, u, hu⟩ := k
  exact ⟨hkept.trans kkept, u, by rw [hu, ht]⟩

theorem ChansOnly.mono {ps qs : List Part} {c d : Chip} (h : ChansOnly ps c d) (hs : ps ⊆ qs) : ChansOnly qs c d :=
  ⟨h.kept.mono hs, h.rest⟩

theorem ChansOnly.of_kept {ps : List Part} {c d : Chip} (h : ChipKeptBut ps c d) (hl : Part.lsw ∉ ps := by decide) :
    ChansOnly ps c d := ⟨h, c.lsw.chans, h .lsw hl⟩

theorem OnlyChan.trans {ps : List Part} {n : Nat} {x y : LswSt} {b c d : Chip} (h : OnlyChan ps n x b c)
    (k : OnlyChan ps n y c d) : OnlyChan ps n y b d :=
  ⟨h.chans.trans k.chans, h.others.trans k.others, k.now⟩

theorem OnlyChan.mono {ps qs : List Part} {n : Nat} {x : LswSt} {c d : Chip} (h : OnlyChan ps n x c d) (hs : ps ⊆ qs) :
    OnlyChan qs n x c d := ⟨h.chans.mono hs, h.others, h.now⟩

theorem OnlyChan.refl (ps : List Part) (n : Nat) (c : Chip) : OnlyChan ps n (lswOf c n) c c := ⟨.refl ps c, .refl n c, rfl⟩

theorem onlyChan_setLsw (c : Chip) (n : Nat) (x : LswSt) : OnlyChan [.lsw] n x c (setLsw c n x) :=
  ⟨⟨(kept_setLsw n x (by decide)).2 (.refl _ c), _, rfl⟩, fun _ hp => lswOf_setLsw_ne c x hp, lswOf_setLsw_same c n x⟩

theorem onlyChan_modLsw (c : Chip) (n : Nat) (f : LswSt → LswSt) : OnlyChan [.lsw] n (f (lswOf c n)) c (modLsw c n f) :=
  onlyChan_setLsw c n _

theorem OnlyChan.of_kept {ps : List Part} {n : Nat} {c d : Chip} (h : ChipKeptBut ps c d) (hl : Part.lsw ∉ ps := by decide) :
    OnlyChan ps n (lswOf c n) c d := ⟨.of_kept h hl, .of_kept h hl, lswOf_of_lsw (h .lsw hl) n⟩

theorem ChansOnly.uv {ps : List Part} {c d : Chip} (h : ChansOnly ps c d) (b : Bool) : lswUv d b = lswUv c b := by
  obtain ⟨-, t, ht⟩ := h
  rw [lswUv, ht]
  rfl

theorem ChansOnly.rail {ps : List Part} {c d : Chip} (h : ChansOnly ps c d) (b : Bool) : lswRail d b = lswRail c b := by
  obtain ⟨-, t, ht⟩ := h
  rw [lswRail, ht]
  rfl

theorem ChansOnly.current {ps : List Part} {c d : Chip} (h : ChansOnly ps c d) (b : Bool) :
    lswCurrent d b = lswCurrent c b := by
  obtain ⟨-, t, ht⟩ := h
  rw [lswCurrent, ht]
  rfl

theorem cfg_of_live {c d : Chip} (h : d.live = c.live) (a hi lo : Nat) : cfg d a hi lo = cfg c a hi lo := by
  rw [cfg, cfg, liveGet, liveGet, h]

theorem cfgBit_of_live {c d : Chip} (h : d.live = c.live) (a b : Nat) : cfgBit d a b = cfgBit c a b := by
  rw [cfgBit, cfgBit, liveGet, liveGet, h]

theorem lswBudget_of_live {c d : Chip} (h : d.live = c.live) (b : Bool) : lswBudget d b = lswBudget c b := by
  rw [lswBudget, lswBudget, cfg_of_live h, cfg_of_live h]

theorem lswLatches_congr {c d : Chip} {n : Nat} (h : d.live = c.live) (ht : (lswOf d n).trips = (lswOf c n).trips) :
    lswLatches d n = lswLatches c n := by
  rw [lswLatches, lswLatches, cfg_of_live h, ht]

/-- A pass over distinct channels acts on each as it found it. -/
theorem foldl_chans {ps : List Part} {f : Chip → Nat → Chip} (hf : ∀ d k, ∃ x, OnlyChan ps k x d (f d k)) (l : List Nat)
    (hl : l.Nodup) (c : Chip) : ChansOnly ps c (l.foldl f c) ∧ (∀ n ∉ l, lswOf (l.foldl f c) n = lswOf c n) ∧
      ∀ n ∈ l, ∃ d, ChansOnly ps c d ∧ lswOf d n = lswOf c n ∧ lswOf (l.foldl f c) n = lswOf (f d n) n := by
  induction l generalizing c with
  | nil => exact ⟨.refl ps c, fun _ _ => rfl, fun _ h => absurd h List.not_mem_nil⟩
  | cons k l ih =>
    obtain ⟨hk, hl'⟩ := List.nodup_cons.1 hl
    obtain ⟨x, hfirst⟩ := hf c k
    obtain ⟨hchans, hout, hin⟩ := ih hl' (f c k)
    refine ⟨hfirst.chans.trans hchans, fun n hn => ?_, fun n hn => ?_⟩
    · obtain ⟨hne, hn'⟩ := not_or.1 (fun h => hn (List.mem_cons.2 h))
      exact (hout n hn').trans (hfirst.others n hne)
    · by_cases hnk : n = k
      · subst hnk
        exact ⟨c, .refl ps c, rfl, hout n hk⟩
      · obtain ⟨d, hd, hrec, hend⟩ := hin n ((List.mem_cons.1 hn).resolve_left hnk)
        exact ⟨d, hfirst.chans.trans hd, hrec.trans (hfirst.others n hnk), hend⟩

/-! ### A measurement -/

/-- R303: the measured values of a channel. -/
def measuredRec (m : LswMeas) (x : LswSt) : LswSt := { x with ma := m.ma, v10 := m.v10, tj := m.tj, limiting := m.limiting }

/-- R303, R305: what a measurement at channel n leaves. -/
structure LswMeasured (c d : Chip) (n : Nat) (m : LswMeas) : Prop where
  kept : ChipKeptBut [.lsw, .pwd] c d
  others : OtherChansKept n c d
  now : lswOf d n = measuredRec m (lswOf c n)
  uv : ∀ b, lswUv d b = lswUv c b
  rail : lswRail d (lswInB n) = m.rail
  current : lswCurrent d (lswInB n) = m.group

theorem setLswCurrent_chans (c : Chip) (b : Bool) (i : Nat) : (setLswCurrent c b i).lsw.chans = c.lsw.chans := by
  unfold setLswCurrent
  cases b <;> rfl

theorem setLswRail_chans (c : Chip) (b : Bool) (mv : Nat) : (setLswRail c b mv).lsw.chans = c.lsw.chans := by
  unfold setLswRail
  cases b <;> rfl

theorem lswOf_of_chans {c d : Chip} (h : d.lsw.chans = c.lsw.chans) (n : Nat) : lswOf d n = lswOf c n := by
  rw [lswOf, lswOf, h]

theorem measured_lswMeasured (c : Chip) (n : Nat) (m : LswMeas) : LswMeasured c (lswMeasured c n m) n m := by
  have hchans : (setLswRail (setLswCurrent c (lswInB n) m.group) (lswInB n) m.rail).lsw.chans = c.lsw.chans :=
    (setLswRail_chans ..).trans (setLswCurrent_chans ..)
  have hmod := onlyChan_modLsw (setLswRail (setLswCurrent c (lswInB n) m.group) (lswInB n) m.rail) n (measuredRec m)
  rw [lswOf_of_chans hchans] at hmod
  refine ⟨(kept_lswMeasured n m (by decide)).2 (.refl _ c),
    OtherChansKept.trans (fun p _ => lswOf_of_chans hchans p) hmod.others, hmod.now, fun b => ?_, ?_, ?_⟩
  · refine (hmod.chans.uv b).trans ?_
    unfold lswUv setLswRail setLswCurrent
    cases lswInB n <;> rfl
  · refine (hmod.chans.rail _).trans ?_
    unfold lswRail setLswRail
    cases lswInB n <;> rfl
  · refine (hmod.chans.current _).trans ?_
    unfold lswCurrent setLswRail setLswCurrent
    cases lswInB n <;> rfl

/-- R22: the counted write of a command changes no channel. -/
theorem measured_pwdCount {c d : Chip} {n : Nat} {m : LswMeas} (h : LswMeasured c d n m) : LswMeasured c (pwdCount d) n m := by
  obtain ⟨hkept, hothers, hnow, huv, hrail, hcurrent⟩ := h
  exact ⟨(kept_pwdCount (by decide)).2 hkept, hothers, hnow, huv, hrail, hcurrent⟩

theorem lswDisabled_of_regs {c d : Chip} (h : d.regs = c.regs) (n : Nat) : lswDisabled d n = lswDisabled c n :=
  immBit_of_regs h _ _

/-! ### The demand of a channel -/

theorem lswDemand_congr {c d : Chip} {n : Nat} (hregs : d.regs = c.regs) (hlive : d.live = c.live)
    (hon : (lswOf d n).regOn = (lswOf c n).regOn) (hpin : (lswOf d n).pin = (lswOf c n).pin)
    (hdur : (lswOf d n).dur = (lswOf c n).dur) (hclr : (lswOf d n).cleared = (lswOf c n).cleared)
    (hret : ((lswOf d n).state == .retired) = ((lswOf c n).state == .retired)) : lswDemand d n = lswDemand c n := by
  unfold lswDemand
  dsimp only
  rw [hon, hpin, hdur, hclr, hret, lswDisabled_of_regs hregs, cfg_of_live hlive]

theorem LswMeasured.demand {c d : Chip} {n : Nat} {m : LswMeas} (h : LswMeasured c d n m) : lswDemand d n = lswDemand c n := by
  have hrec : ∀ {α : Type} (g : LswSt → α), g (lswOf d n) = g (measuredRec m (lswOf c n)) := fun g => congrArg g h.now
  exact lswDemand_congr (h.kept .regs (by decide)) (h.kept .live (by decide)) (hrec LswSt.regOn) (hrec LswSt.pin)
    (hrec LswSt.dur) (hrec LswSt.cleared) (hrec fun x => x.state == .retired)

theorem lswDemand_cleared {c : Chip} {n : Nat} (h : (lswOf c n).cleared = true) : lswDemand c n = false := by
  unfold lswDemand
  dsimp only
  rw [h, Bool.true_or, if_pos rfl]

theorem lswDemand_register {c : Chip} {n : Nat} (hclr : (lswOf c n).cleared = false) (hret : (lswOf c n).state ≠ .retired)
    (hdis : lswDisabled c n = false) (hcfg : cfg c (Reg.LSW_CFG n) 1 0 = 0) : lswDemand c n = (lswOf c n).regOn := by
  unfold lswDemand
  dsimp only
  rw [hclr, beq_eq_false_iff_ne.2 hret, Bool.or_self, if_neg Bool.false_ne_true, hdis, if_neg Bool.false_ne_true, hcfg]
  rfl

theorem lswDemand_pin {c : Chip} {n : Nat} (hclr : (lswOf c n).cleared = false) (hret : (lswOf c n).state ≠ .retired)
    (hdis : lswDisabled c n = false) (hcfg : cfg c (Reg.LSW_CFG n) 1 0 = 1) : lswDemand c n = (lswOf c n).pin := by
  unfold lswDemand
  dsimp only
  rw [hclr, beq_eq_false_iff_ne.2 hret, Bool.or_self, if_neg Bool.false_ne_true, hdis, if_neg Bool.false_ne_true, hcfg]
  rfl

theorem lswDemand_disabled {c : Chip} {n : Nat} (hclr : (lswOf c n).cleared = false) (hret : (lswOf c n).state ≠ .retired)
    (hdis : lswDisabled c n = true) : lswDemand c n = ((lswOf c n).regOn && (lswOf c n).dur != 0) := by
  unfold lswDemand
  dsimp only
  rw [hclr, beq_eq_false_iff_ne.2 hret, Bool.or_self, if_neg Bool.false_ne_true, hdis, if_pos rfl]

/-- R307: without a register demand the channel of a register has none. -/
theorem lswDemand_unset {c : Chip} {n : Nat} (hoff : (lswOf c n).regOn = false) (hcfg : cfg c (Reg.LSW_CFG n) 1 0 = 0) :
    lswDemand c n = false := by
  unfold lswDemand
  dsimp only
  rw [hoff, hcfg, Bool.false_and]
  split
  · rfl
  · split <;> rfl

/-- R307: without a signal at its pin the channel of a pin has none, unless it is timed. -/
theorem lswDemand_low {c : Chip} {n : Nat} (hdis : lswDisabled c n = false) (hlow : (lswOf c n).pin = false)
    (hcfg : cfg c (Reg.LSW_CFG n) 1 0 = 1) : lswDemand c n = false := by
  unfold lswDemand
  dsimp only
  rw [hdis, hlow, hcfg, if_neg Bool.false_ne_true]
  split <;> rfl

/-! ### A demand that comes and goes -/

theorem lswSettle_on {old c : Chip} {n : Nat} (fast : Bool) (hnew : lswDemand c n = true) (hold : lswDemand old n = false) :
    lswSettle old fast c n = lswOnDemand c n fast := by
  unfold lswSettle
  rw [hnew, hold, Bool.not_false, Bool.and_true, if_pos rfl]

theorem lswSettle_off {old c : Chip} {n : Nat} (fast : Bool) (hnew : lswDemand c n = false) (hold : lswDemand old n = true) :
    lswSettle old fast c n = lswOffDemand c n := by
  unfold lswSettle
  rw [hnew, hold, Bool.false_and, if_neg Bool.false_ne_true, Bool.not_false, Bool.and_true, if_pos rfl]

/-- R309: the record of a channel that starts its turn-on. -/
def startedRec (c : Chip) (n : Nat) (fast : Bool) (x : LswSt) : LswSt :=
  { x with
    state := if fast then .on else .ramp, grpWait := false, paused := false, pausedMs := 0, refMv := lswRail c (lswInB n),
    slew := cfg c (Reg.LSW_CFG n) 7 2, window := cfg c (Reg.LSW_CFG n) 14 8, tripDue := false }

theorem onlyChan_lswStart {c : Chip} {n : Nat} (fast : Bool) (huv : lswUv c (lswInB n) = false)
    (hrail : 8000 ≤ lswRail c (lswInB n)) (hroom : lswCurrent c (lswInB n) ≤ lswBudget c (lswInB n)) :
    OnlyChan [.lsw] n (startedRec c n fast (lswOf c n)) c (lswStart c n fast) := by
  unfold lswStart
  dsimp only
  rw [huv, decide_eq_false (by omega), Bool.or_self, if_neg Bool.false_ne_true, if_neg (by omega)]
  exact onlyChan_modLsw c n (startedRec c n fast)

theorem onlyChan_lswStart_waits {c : Chip} {n : Nat} (fast : Bool) (huv : lswUv c (lswInB n) = false)
    (hrail : 8000 ≤ lswRail c (lswInB n)) (hover : lswBudget c (lswInB n) < lswCurrent c (lswInB n)) :
    OnlyChan [.lsw] n { lswOf c n with grpWait := true } c (lswStart c n fast) := by
  unfold lswStart
  dsimp only
  rw [huv, decide_eq_false (by omega), Bool.or_self, if_neg Bool.false_ne_true, if_pos hover]
  exact onlyChan_modLsw c n (fun x => { x with grpWait := true })

theorem onlyChan_lswStart_any (c : Chip) (n : Nat) (fast : Bool) : ∃ x, OnlyChan [.lsw] n x c (lswStart c n fast) := by
  unfold lswStart
  dsimp only
  split
  · exact ⟨_, .refl _ n c⟩
  · split
    · exact ⟨_, onlyChan_modLsw c n _⟩
    · exact ⟨_, onlyChan_modLsw c n _⟩

theorem lswOnDemand_off {c : Chip} {n : Nat} (fast : Bool) (hst : (lswOf c n).state = .off) :
    lswOnDemand c n fast = lswStart (modLsw c n (fun x => { x with shed := false })) n fast := by
  unfold lswOnDemand
  dsimp only
  rw [lswOf_modLsw_same, if_pos hst]

theorem onlyChan_lswOnDemand_any (c : Chip) (n : Nat) (fast : Bool) : ∃ x, OnlyChan [.lsw] n x c (lswOnDemand c n fast) := by
  have hshed := onlyChan_modLsw c n (fun x => { x with shed := false })
  unfold lswOnDemand
  dsimp only
  split
  · obtain ⟨x, hx⟩ := onlyChan_lswStart_any (modLsw c n (fun x => { x with shed := false })) n fast
    exact ⟨x, hshed.trans hx⟩
  · exact ⟨_, hshed⟩

/-- R311, R312: the record of a channel whose trips and episode are over. -/
def calmRec (x : LswSt) : LswSt := { x with trips := 0, episode := false }

theorem onlyChan_lswTripsZero (c : Chip) (n : Nat) :
    OnlyChan [.flt, .lsw] n (calmRec (lswOf c n)) c (lswTripsZero c n) := by
  have hset := (onlyChan_setLsw c n (calmRec (lswOf c n))).mono (qs := [.flt, .lsw]) (by decide)
  unfold lswTripsZero
  dsimp only
  split
  · have hclear := OnlyChan.of_kept (n := n) ((kept_clearSrc (64 + n) (by decide)).2
      (.refl [.flt] (setLsw c n (calmRec (lswOf c n)))))
    have hrec := hset.trans (hclear.mono (by decide))
    rw [hset.now] at hrec
    exact hrec
  · exact hset

theorem onlyChan_lswTripsZero_calm {c : Chip} {n : Nat} (h : (lswOf c n).episode = false) :
    OnlyChan [.lsw] n (calmRec (lswOf c n)) c (lswTripsZero c n) := by
  unfold lswTripsZero
  dsimp only
  rw [h, if_neg Bool.false_ne_true]
  exact onlyChan_setLsw c n (calmRec (lswOf c n))

/-- R307: the record of a channel whose demand has gone. -/
def offRec (x : LswSt) : LswSt :=
  { x with state := .off, grpWait := false, paused := false, limiting := false, dur := 0 }

theorem onlyChan_lswOffDemand_of {ps : List Part} {c : Chip} {n : Nat} (hps : [.lsw] ⊆ ps)
    (hzero : OnlyChan ps n (calmRec (lswOf c n)) c (lswTripsZero c n)) (hst : (lswOf c n).state = .on) :
    OnlyChan ps n (offRec (calmRec (lswOf c n))) c (lswOffDemand c n) := by
  have heq : lswOffDemand c n = setLsw (lswTripsZero c n) n (offRec (calmRec (lswOf c n))) := by
    unfold lswOffDemand modLsw
    dsimp only
    rw [hzero.now, show (calmRec (lswOf c n)).state = .on from hst]
    rfl
  rw [heq]
  exact hzero.trans ((onlyChan_setLsw (lswTripsZero c n) n (offRec (calmRec (lswOf c n)))).mono hps)

theorem onlyChan_lswOffDemand {c : Chip} {n : Nat} (hst : (lswOf c n).state = .on) :
    OnlyChan [.flt, .lsw] n (offRec (calmRec (lswOf c n))) c (lswOffDemand c n) :=
  onlyChan_lswOffDemand_of (ps := [.flt, .lsw]) (by decide) (onlyChan_lswTripsZero c n) hst

theorem onlyChan_lswOffDemand_calm {c : Chip} {n : Nat} (hst : (lswOf c n).state = .on) (hcalm : (lswOf c n).episode = false) :
    OnlyChan [.lsw] n (offRec (calmRec (lswOf c n))) c (lswOffDemand c n) :=
  onlyChan_lswOffDemand_of (List.Subset.refl _) (onlyChan_lswTripsZero_calm hcalm) hst

theorem onlyChan_lswSettle_any (old : Chip) (fast : Bool) (c : Chip) (n : Nat) :
    ∃ x, OnlyChan [.flt, .lsw] n x c (lswSettle old fast c n) := by
  unfold lswSettle
  split
  · obtain ⟨x, hx⟩ := onlyChan_lswOnDemand_any c n fast
    exact ⟨x, hx.mono (by decide)⟩
  · split
    · unfold lswOffDemand
      exact ⟨_, (onlyChan_lswTripsZero c n).trans ((onlyChan_modLsw (lswTripsZero c n) n _).mono (by decide))⟩
    · exact ⟨_, .refl _ n c⟩

/-! ### A trip -/

/-- R311: the record of a channel that has tripped. -/
def trippedRec (latch : Bool) (x : LswSt) : LswSt :=
  { x with
    state := if latch then .latched else .cool, trips := min 8 (x.trips + 1), paused := false, limiting := false,
    tripDue := false, episode := !latch }

/-- R311: the trip of channel n, noted before it is reported. -/
def tripMarked (c : Chip) (n : Nat) : Chip := lswEvt (setLsw c n (trippedRec (lswLatches c n) (lswOf c n))) n 0

/-- R312: the first trip of an episode is reported. -/
def tripTold (c : Chip) (n : Nat) : Chip :=
  if (lswOf c n).trips = 0 then reportSrc (tripMarked c n) (64 + n) 0 else tripMarked c n

theorem lswTrip_eq (c : Chip) (n : Nat) : lswTrip c n =
    if lswLatches c n then clearSrc (lswEvt (tripTold c n) n 1) (64 + n) else tripTold c n := rfl

theorem lswTrip_first {c : Chip} {n : Nat} (ht : (lswOf c n).trips = 0) (hl : lswLatches c n = false) :
    lswTrip c n = reportSrc (tripMarked c n) (64 + n) 0 := by
  rw [lswTrip_eq, hl, if_neg Bool.false_ne_true, tripTold, if_pos ht]

theorem lswTrip_again {c : Chip} {n : Nat} (ht : (lswOf c n).trips ≠ 0) (hl : lswLatches c n = false) :
    lswTrip c n = tripMarked c n := by
  rw [lswTrip_eq, hl, if_neg Bool.false_ne_true, tripTold, if_neg ht]

/-- R311: the trip that is noted is a trip of the channel as it was before its measurement. -/
theorem lswTripped_tripMarked {c d : Chip} {n : Nat} (hk : ChipKeptBut [.host, .lsw, .out, .pwd, .regs] c d)
    (ho : OtherChansKept n c d) (hr : RegsKeptBut [Reg.LSW_EVT n] c d) (ht : (lswOf d n).trips = (lswOf c n).trips) :
    LswTripped n c (tripMarked d n) := by
  have hlatch := lswLatches_congr (hk .live (by decide)) ht
  have hset := onlyChan_setLsw d n (trippedRec (lswLatches d n) (lswOf d n))
  have hevt := OnlyChan.of_kept (n := n) ((kept_lswEvt n 0 (by decide)).2
    (.refl [.regs, .host, .out] (setLsw d n (trippedRec (lswLatches d n) (lswOf d n)))))
  have hnow : lswOf (tripMarked d n) n = trippedRec (lswLatches d n) (lswOf d n) := hevt.now.trans hset.now
  rw [hlatch] at hnow
  refine ⟨?_, ?_, ?_, ?_, ?_, ?_, immBit_raiseEvt _ _ 0 (by decide)⟩
  · exact hk.trans ((hset.chans.kept.mono (by decide)).trans (hevt.chans.kept.mono (by decide)))
  · exact ho.trans (hset.others.trans hevt.others)
  · exact hr.trans ((hset.chans.kept.regsKept (by decide)).trans (regsKept_raiseEvt _ _ (List.mem_singleton_self _)))
  · rw [hnow, ← ht]; rfl
  · rw [hnow]; rfl
  · rw [hnow]; rfl

theorem LswMeasured.tripped {c d : Chip} {n : Nat} {m : LswMeas} (h : LswMeasured c d n m) : LswTripped n c (tripMarked d n) :=
  lswTripped_tripMarked (h.kept.mono (by decide)) h.others (h.kept.regsKept (by decide)) ((congrArg LswSt.trips h.now).trans rfl)

/-- R310: a turn-on that fails is a trip. -/
theorem tripped_turnOnFail {c d : Chip} {n : Nat} (hk : ChipKeptBut [.lsw, .pwd] c d) (ho : OtherChansKept n c d)
    (ht : (lswOf d n).trips = (lswOf c n).trips) : LswTripped n c (tripMarked (lswEvt d n 2) n) ∧
      immBit (tripMarked (lswEvt d n 2) n) (Reg.LSW_EVT n) 2 = true := by
  have hevt := (kept_lswEvt n 2 (by decide)).2 (.refl [.regs, .host, .out] d)
  refine ⟨lswTripped_tripMarked ((hk.mono (by decide)).trans (hevt.mono (by decide))) (ho.trans (.of_kept hevt))
    ((hk.regsKept (by decide)).trans (regsKept_raiseEvt _ _ (List.mem_singleton_self _))) ?_, ?_⟩
  · rw [lswOf_of_lsw (hevt .lsw (by decide)), ht]
  · exact immBit_raiseEvt_of _ (by decide) (immBit_raiseEvt d _ 2 (by decide))

theorem lswTurnOnFail_first {c d : Chip} {n : Nat} (hlive : d.live = c.live) (htr : (lswOf d n).trips = (lswOf c n).trips)
    (ht : (lswOf c n).trips = 0) (hl : lswLatches c n = false) :
    lswTurnOnFail d n = reportSrc (tripMarked (lswEvt d n 2) n) (64 + n) 0 := by
  have hevt := (kept_lswEvt n 2 (by decide)).2 (.refl [.regs, .host, .out] d)
  have htrips : (lswOf (lswEvt d n 2) n).trips = (lswOf c n).trips := by
    rw [lswOf_of_lsw (hevt .lsw (by decide)), htr]
  exact lswTrip_first (htrips.trans ht) ((lswLatches_congr ((hevt .live (by decide)).trans hlive) htrips).trans hl)

end Sys2Proof
end

section
/-! PROOFS. The demand of a load switch (R304 to R310, R313, R319). -/

namespace Sys2Proof

open Machine

/-! ### LSW_CMD -/

/-- R306: a channel as it is when a command reaches it. -/
def cmdSeen (c : Chip) (n : Nat) (m : LswMeas) : Chip := pwdCount (lswMeasured c n m)

theorem measured_cmdSeen (c : Chip) (n : Nat) (m : LswMeas) : LswMeasured c (cmdSeen c n m) n m :=
  measured_pwdCount (measured_lswMeasured c n m)

theorem exec_lswOn (s : State) (n : Lsw) (d : BitVec 8) (m : LswMeas) : exec (.lswOn n d m) s = .next { s with
    chip := lswCommand (cmdSeen s.chip n.val m) n.val true false d.toNat } := rfl

theorem exec_lswOff (s : State) (n : Lsw) (m : LswMeas) : exec (.lswOff n m) s = .next { s with
    chip := lswCommand (cmdSeen s.chip n.val m) n.val false true 0 } := rfl

/-- R306, R308: the register demand as an ON sets it. -/
def onRec (c : Chip) (n dur : Nat) (x : LswSt) : LswSt :=
  { x with
    regOn := true, dur := if cfg c (Reg.LSW_CFG n) 1 0 = 0 then dur else 0,
    cleared := x.cleared && cfg c (Reg.LSW_CFG n) 1 0 == 1 }

/-- R306: the register demand as an OFF leaves it. -/
def unsetRec (x : LswSt) : LswSt := { x with regOn := false, dur := 0, grpWait := false }

theorem lswCommand_disabled {c : Chip} {n : Nat} (on off : Bool) (dur : Nat) (h : lswDisabled c n = true) :
    lswCommand c n on off dur = c := by
  unfold lswCommand
  rw [h, Bool.true_or, if_pos rfl]

theorem lswCommand_on {c : Chip} {n : Nat} (dur : Nat) (hdis : lswDisabled c n = false)
    (hret : (lswOf c n).state ≠ .retired) :
    lswCommand c n true false dur = lswSettle c false (modLsw c n (onRec c n dur)) n := by
  unfold lswCommand
  rw [hdis, beq_eq_false_iff_ne.2 hret, Bool.or_self, if_neg Bool.false_ne_true, if_neg Bool.false_ne_true, if_pos rfl]
  rfl

theorem lswCommand_off {c : Chip} {n : Nat} (dur : Nat) (hdis : lswDisabled c n = false)
    (hret : (lswOf c n).state ≠ .retired) :
    lswCommand c n false true dur = lswSettle c false (modLsw c n unsetRec) n := by
  unfold lswCommand
  rw [hdis, beq_eq_false_iff_ne.2 hret, Bool.or_self, if_neg Bool.false_ne_true, if_pos rfl]
  rfl

/-- R306, R309: an ON of an OFF channel whose demand is its register turns it on. -/
theorem lswCommand_turnsOn {c : Chip} {n : Nat} (dur : Nat) (hdis : lswDisabled c n = false)
    (hcfg : cfg c (Reg.LSW_CFG n) 1 0 = 0) (hst : (lswOf c n).state = .off) (hoff : (lswOf c n).regOn = false) :
    ∃ e, OnlyChan [.lsw] n { onRec c n dur (lswOf c n) with shed := false } c e ∧
      lswCommand c n true false dur = lswStart e n false := by
  have hret : (lswOf c n).state ≠ .retired := by rw [hst]; decide
  have hset := onlyChan_modLsw c n (onRec c n dur)
  have hshed := onlyChan_modLsw (modLsw c n (onRec c n dur)) n (fun x => { x with shed := false })
  rw [hset.now] at hshed
  refine ⟨_, hset.trans hshed, ?_⟩
  have hnew : lswDemand (modLsw c n (onRec c n dur)) n = true := by
    refine (lswDemand_register (c := modLsw c n (onRec c n dur)) ?_ ?_ hdis hcfg).trans ?_
    · rw [hset.now, onRec, hcfg]
      exact Bool.and_false _
    · rw [hset.now]
      exact hret
    · rw [hset.now]
      rfl
  rw [lswCommand_on dur hdis hret, lswSettle_on false hnew (lswDemand_unset hoff hcfg), lswOnDemand_off]
  rw [hset.now]
  exact hst

/-- R307: a channel whose register demand is taken away goes OFF. -/
theorem onlyChan_lswSettle_unset {old c : Chip} {n : Nat} (hold : lswDemand old n = true)
    (hoff : (lswOf c n).regOn = false) (hcfg : cfg c (Reg.LSW_CFG n) 1 0 = 0) (hst : (lswOf c n).state = .on)
    (hcalm : (lswOf c n).episode = false) :
    OnlyChan [.lsw] n (offRec (calmRec (lswOf c n))) c (lswSettle old false c n) := by
  rw [lswSettle_off false (lswDemand_unset hoff hcfg) hold]
  exact onlyChan_lswOffDemand_calm hst hcalm

/-! ### The turn-on -/

theorem exec_lswInEdge (s : State) (n : Lsw) (l r : Bool) (m : LswMeas) : exec (.lswInEdge n l r m) s = .next { s with
    chip := lswSettle (lswMeasured s.chip n.val m) (r && pinSourced (lswMeasured s.chip n.val m) n.val)
      (modLsw (lswMeasured s.chip n.val m) n.val (fun x =>
        { x with pin := l, cleared := if l && !x.pin then false else x.cleared })) n.val } := rfl

/-- R307: the record of a channel whose pin has risen. -/
def risenRec (x : LswSt) : LswSt := { x with pin := true, cleared := if true && !x.pin then false else x.cleared }

theorem exec_lswRampDone (s : State) (n : Lsw) (m : LswMeas) : exec (.lswRampDone n m) s = .next { s with
    chip := if (lswOf (lswMeasured s.chip n.val m) n.val).state = .ramp ∧
          (lswOf (lswMeasured s.chip n.val m) n.val).paused = false then
        modLsw (lswMeasured s.chip n.val m) n.val (fun x => { x with state := .window })
      else lswMeasured s.chip n.val m } := rfl

theorem exec_lswWindowEnd (s : State) (n : Lsw) (m : LswMeas) : exec (.lswWindowEnd n m) s = .next { s with
    chip := if (lswOf (lswMeasured s.chip n.val m) n.val).state = .window then
        if m.rail * 90 ≤ (lswOf (lswMeasured s.chip n.val m) n.val).v10 * 10 * 100 then
          modLsw (lswMeasured s.chip n.val m) n.val (fun x => { x with state := .on })
        else lswTurnOnFail (lswMeasured s.chip n.val m) n.val
      else lswMeasured s.chip n.val m } := rfl

theorem exec_lswRailSag (s : State) (n : Lsw) (m : LswMeas) : exec (.lswRailSag n m) s = .next { s with
    chip := if (lswOf (lswMeasured s.chip n.val m) n.val).state = .ramp ∧
          m.rail * 100 < (lswOf (lswMeasured s.chip n.val m) n.val).refMv * 80 then
        modLsw (lswMeasured s.chip n.val m) n.val (fun x => { x with paused := true })
      else lswMeasured s.chip n.val m } := rfl

/-- R310: the record of a channel whose ramp goes on after a pause of ms. -/
def resumedRec (ms : Nat) (x : LswSt) : LswSt := { x with paused := false, pausedMs := x.pausedMs + ms }

theorem exec_lswRampResume (s : State) (n : Lsw) (ms : Nat) (m : LswMeas) : exec (.lswRampResume n ms m) s = .next { s with
    chip := if (lswOf (lswMeasured s.chip n.val m) n.val).state = .ramp ∧
          (lswOf (lswMeasured s.chip n.val m) n.val).paused = true ∧
          (lswOf (lswMeasured s.chip n.val m) n.val).refMv * 85 ≤ m.rail * 100 then
        if 200 < (lswOf (lswMeasured s.chip n.val m) n.val).pausedMs + ms then
          lswTurnOnFail (modLsw (lswMeasured s.chip n.val m) n.val (resumedRec ms)) n.val
        else modLsw (lswMeasured s.chip n.val m) n.val (resumedRec ms)
      else lswMeasured s.chip n.val m } := rfl

theorem exec_lswPauseTimeout {s : State} {n : Lsw} {ms : Nat} (hst : (lswOf s.chip n.val).state = .ramp)
    (hp : (lswOf s.chip n.val).paused = true) (hms : 200 < (lswOf s.chip n.val).pausedMs + ms) :
    exec (.lswPauseTimeout n ms) s = .next { s with chip := lswTurnOnFail s.chip n.val } := by
  change execLswPauseTimeout n ms s = _
  rw [execLswPauseTimeout, onChip]
  dsimp only
  rw [if_pos ⟨hst, hp, hms⟩]

/-- A channel's record after its measurement and one more change. -/
theorem measured_modLsw {c : Chip} {n : Nat} (m : LswMeas) (f : LswSt → LswSt) :
    ChipKeptBut [.lsw, .pwd] c (modLsw (lswMeasured c n m) n f) ∧
    OtherChansKept n c (modLsw (lswMeasured c n m) n f) ∧
    lswOf (modLsw (lswMeasured c n m) n f) n = f (measuredRec m (lswOf c n)) := by
  have hm := measured_lswMeasured c n m
  have hset := onlyChan_modLsw (lswMeasured c n m) n f
  rw [hm.now] at hset
  exact ⟨hm.kept.trans (hset.chans.kept.mono (by decide)), hm.others.trans hset.others, hset.now⟩

/-! ### Disabling -/

/-- R319: the register demand of a channel that is being disabled. -/
def disabledRec (x : LswSt) : LswSt := { x with regOn := x.regOn && x.dur != 0, grpWait := false }

/-- R319: the channels a write newly disables. -/
def newlyDisabled (c : Chip) (w : Word) : List Nat := (List.range 12).filter (fun n => bitOf w n && !lswDisabled c n)

/-- R319: the demands of the newly disabled channels, with the register written. -/
def demandsEnded (c : Chip) (w : Word) : Chip :=
  (newlyDisabled c w).foldl (fun c n => modLsw c n disabledRec) (regPut c Reg.LSW_DISABLE w)

theorem lswDisableWrite_eq (c : Chip) (w : Word) : lswDisableWrite c w =
    (List.range 12).foldl (lswSettle c false) (demandsEnded c (w &&& 0xFFF#32)) := rfl

theorem wordOf_twelve (v : BitVec 12) : wordOf v.toNat &&& 0xFFF#32 = wordOf v.toNat := by
  have hlt := v.isLt
  apply BitVec.eq_of_toNat_eq
  rw [BitVec.toNat_and, wordOf, BitVec.toNat_ofNat]
  change v.toNat % 2 ^ 32 &&& (2 ^ 12 - 1) = _
  rw [Nat.and_two_pow_sub_one_eq_mod]
  omega

theorem bitOf_wordOf_twelve (v : BitVec 12) (n : Lsw) : bitOf (wordOf v.toNat) n.val = v.getLsbD n.val := by
  have hn : n.val < 32 := by omega
  rw [bitOf, wordOf, BitVec.getLsbD_ofNat, decide_eq_true hn, Bool.true_and, BitVec.testBit_toNat]

/-- R319: what a write to LSW_DISABLE leaves. -/
theorem lswDisableWrite_leaves (c : Chip) (w : Word) : ChipKeptBut [.flt, .lsw, .regs] c (lswDisableWrite c w) ∧
    (lswDisableWrite c w).regs = (regPut c Reg.LSW_DISABLE (w &&& 0xFFF#32)).regs ∧
    ∀ n ∈ newlyDisabled c (w &&& 0xFFF#32), cfg c (Reg.LSW_CFG n) 1 0 = 0 → (lswOf c n).state = .on →
      (lswOf c n).dur = 0 → lswDemand c n = true →
      (lswOf (lswDisableWrite c w) n).state = .off ∧ (lswOf (lswDisableWrite c w) n).regOn = false := by
  have hput := (kept_regPut Reg.LSW_DISABLE (w &&& 0xFFF#32) (by decide)).2 (.refl [.regs] c)
  obtain ⟨hfirst, -, hended⟩ := foldl_chans (ps := [.lsw]) (f := fun c n => modLsw c n disabledRec)
    (fun d k => ⟨_, onlyChan_modLsw d k disabledRec⟩) (newlyDisabled c (w &&& 0xFFF#32)) (List.nodup_range.filter _)
    (regPut c Reg.LSW_DISABLE (w &&& 0xFFF#32))
  obtain ⟨hsecond, -, hsettled⟩ := foldl_chans (ps := [.flt, .lsw]) (f := lswSettle c false)
    (onlyChan_lswSettle_any c false) (List.range 12) List.nodup_range (demandsEnded c (w &&& 0xFFF#32))
  rw [lswDisableWrite_eq]
  change ChansOnly [.lsw] _ (demandsEnded c (w &&& 0xFFF#32)) at hfirst
  change ∀ n ∈ _, ∃ d, _ ∧ _ ∧ lswOf (demandsEnded c (w &&& 0xFFF#32)) n = _ at hended
  generalize demandsEnded c (w &&& 0xFFF#32) = d at hfirst hended hsecond hsettled
  refine ⟨(hput.mono (by decide)).trans ((hfirst.kept.mono (by decide)).trans (hsecond.kept.mono (by decide))),
    (hsecond.kept .regs (by decide)).trans (hfirst.kept .regs (by decide)), fun n hn hcfg hst hdur hold => ?_⟩
  obtain ⟨a, -, ha, hda⟩ := hended n hn
  obtain ⟨b, hb, hbd, hend⟩ := hsettled n (List.mem_filter.1 hn).1
  have hrec : lswOf b n = disabledRec (lswOf c n) := by
    rw [hbd, hda, lswOf_modLsw_same, ha]
    rfl
  have hunset : (lswOf b n).regOn = false := by
    rw [hrec]
    change ((lswOf c n).regOn && (lswOf c n).dur != 0) = false
    rw [hdur]
    exact Bool.and_false _
  have hlive : b.live = c.live := (hb.kept .live (by decide)).trans
    ((hfirst.kept .live (by decide)).trans (hput .live (by decide)))
  have hbcfg : cfg b (Reg.LSW_CFG n) 1 0 = 0 := (cfg_of_live hlive ..).trans hcfg
  have hbon : (lswOf b n).state = .on := by rw [hrec]; exact hst
  rw [hend, lswSettle_off false (lswDemand_unset hunset hbcfg) hold, (onlyChan_lswOffDemand hbon).now]
  exact ⟨rfl, hunset⟩

theorem exec_lswDisableWrite (s : State) (v : BitVec 12) : exec (.lswDisableWrite v) s = .next { s with
    chip := lswDisableWrite (pwdCount s.chip) (wordOf v.toNat) } := rfl

/-! ### The opcode -/

theorem exec_lswCmd (s : State) (req : Requester) (n : Lsw) (on off : Bool) (d : Nat) :
    exec (.lswCmd req n on off d) s = .next { s with
      chip := perform s.chip req 0x0501 (.lswChannel n) (fun c =>
        if lswDisabled c n.val || (lswOf c n.val).state == .retired then complete c req (ansStatus .disabled)
        else postPwd c (Reg.LSW_CMD n.val) (wordOf (placeBit 0 on + placeBit 1 off + place 8 (d % 256))) (some req)) } := rfl

theorem begun_lsw (c : Chip) (req : Requester) (op : Nat) : (begun c req op).lsw = c.lsw := begun_kept c req op .lsw (by decide)

theorem lswDisabled_begun (c : Chip) (req : Requester) (op n : Nat) : lswDisabled (begun c req op) n = lswDisabled c n :=
  lswDisabled_of_regs (begun_kept c req op .regs (by decide)) n

/-- Settles O29: a load switch follows its demand (R304 to R310, R313, R319). -/
theorem loadSwitchDemand : Obligations.LoadSwitchDemand := by
  unfold Obligations.LoadSwitchDemand
  refine ⟨fun s n d m hdis hcfg hst hoff huv hrail => ?_, fun s n m hdis hcfg hst hon hclr hcalm => ?_,
    fun s n d m hdis => ?_, fun s req n on off d hperf hdis hret => ?_, fun s req n on off d hperf hdis => ?_,
    fun s n hdur hcfg hst hon hclr hcalm => ?_, fun s n r m hdis hcfg hst hpin huv hrail hroom => ?_,
    fun s n m hst hp => ?_, fun s n m hst hv => ?_, fun s n m hst hv ht hl => ?_, fun s n m hst hsag => ?_,
    fun s n ms m hst hp hrail hms => ?_, fun s n ms hst hp hms ht hl => ?_, fun s v => ?_⟩
  case _ =>
    have hm := measured_cmdSeen s.chip n.val m
    have hlive := hm.kept .live (by decide)
    have hccfg := (cfg_of_live hlive (Reg.LSW_CFG n.val) 1 0).trans hcfg
    have hcdis := (lswDisabled_of_regs (hm.kept .regs (by decide)) n.val).trans hdis
    have hcst : (lswOf (cmdSeen s.chip n.val m) n.val).state = .off := by rw [hm.now]; exact hst
    have hcoff : (lswOf (cmdSeen s.chip n.val m) n.val).regOn = false := by rw [hm.now]; exact hoff
    obtain ⟨e, he, heq⟩ := lswCommand_turnsOn d.toNat hcdis hccfg hcst hcoff
    have hexec := exec_lswOn s n d m
    rw [heq] at hexec
    have heuv : lswUv e (lswInB n.val) = false := (he.chans.uv _).trans ((hm.uv _).trans huv)
    have herail : lswRail e (lswInB n.val) = m.rail := (he.chans.rail _).trans hm.rail
    have hegroup : lswCurrent e (lswInB n.val) = m.group := (he.chans.current _).trans hm.current
    have hebudget : lswBudget e (lswInB n.val) = lswBudget s.chip (lswInB n.val) :=
      lswBudget_of_live ((he.chans.kept .live (by decide)).trans hlive) _
    have hseq : e.pwd.writeSeq = (s.chip.pwd.writeSeq + 1) % 2 ^ 32 := by
      rw [he.chans.kept .pwd (by decide)]
      rfl
    have hrec : ∀ {α : Type} (g : LswSt → α), g (lswOf e n.val) = g { onRec (cmdSeen s.chip n.val m) n.val d.toNat
        (lswOf (cmdSeen s.chip n.val m) n.val) with shed := false } := fun g => congrArg g he.now
    have hdur : (lswOf e n.val).dur = d.toNat := (hrec LswSt.dur).trans (if_pos hccfg)
    by_cases hroom : m.group ≤ lswBudget s.chip (lswInB n.val)
    · have hstart := onlyChan_lswStart (c := e) (n := n.val) false heuv (by omega) (by omega)
      refine answers_chip hexec ⟨keptBut_chip.2 (hm.kept.trans ((he.trans hstart).chans.kept.mono (by decide))),
        hm.others.trans (he.others.trans hstart.others), ?_, ?_⟩
      · exact (congrArg Pwd.writeSeq (hstart.chans.kept .pwd (by decide))).trans hseq
      · dsimp only
        rw [hstart.now, if_pos hroom]
        exact ⟨hrec LswSt.regOn, hdur, hrec LswSt.shed, rfl, herail⟩
    · have hstart := onlyChan_lswStart_waits (c := e) (n := n.val) false heuv (by omega) (by omega)
      refine answers_chip hexec ⟨keptBut_chip.2 (hm.kept.trans ((he.trans hstart).chans.kept.mono (by decide))),
        hm.others.trans (he.others.trans hstart.others), ?_, ?_⟩
      · exact (congrArg Pwd.writeSeq (hstart.chans.kept .pwd (by decide))).trans hseq
      · dsimp only
        rw [hstart.now, if_neg hroom]
        exact ⟨hrec LswSt.regOn, hdur, hrec LswSt.shed, (hrec LswSt.state).trans hcst, rfl⟩
  case _ =>
    have hm := measured_cmdSeen s.chip n.val m
    have hccfg := (cfg_of_live (hm.kept .live (by decide)) (Reg.LSW_CFG n.val) 1 0).trans hcfg
    have hcdis := (lswDisabled_of_regs (hm.kept .regs (by decide)) n.val).trans hdis
    have hret : (lswOf s.chip n.val).state ≠ .retired := by rw [hst]; decide
    have hcst : (lswOf (cmdSeen s.chip n.val m) n.val).state ≠ .retired := by rw [hm.now]; exact hret
    have hdemand : lswDemand (cmdSeen s.chip n.val m) n.val = true :=
      hm.demand.trans ((lswDemand_register hclr hret hdis hcfg).trans hon)
    have hset := onlyChan_modLsw (cmdSeen s.chip n.val m) n.val unsetRec
    rw [hm.now] at hset
    have hend := onlyChan_lswSettle_unset (c := modLsw (cmdSeen s.chip n.val m) n.val unsetRec) hdemand
      (by rw [hset.now]; rfl) hccfg (by rw [hset.now]; exact hst) (by rw [hset.now]; exact hcalm)
    have hexec := exec_lswOff s n m
    rw [lswCommand_off 0 hcdis hcst] at hexec
    refine answers_chip hexec ⟨keptBut_chip.2 (hm.kept.trans ((hset.trans hend).chans.kept.mono (by decide))),
      hm.others.trans (hset.others.trans hend.others), ?_⟩
    dsimp only
    rw [hend.now, hset.now]
    exact ⟨rfl, rfl, rfl⟩
  case _ =>
    have hm := measured_cmdSeen s.chip n.val m
    have hexec := exec_lswOn s n d m
    rw [lswCommand_disabled _ _ _ ((lswDisabled_of_regs (hm.kept .regs (by decide)) n.val).trans hdis)] at hexec
    refine answers_chip hexec ⟨keptBut_chip.2 hm.kept, hm.others, ?_⟩
    dsimp only
    rw [hm.now]
    exact ⟨rfl, rfl⟩
  case _ =>
    have hexec := exec_lswCmd s req n on off d
    have hst : (lswOf (begun s.chip req 0x0501) n.val).state ≠ .retired := by
      rw [lswOf_of_lsw (begun_lsw ..)]
      exact hret
    rw [perform_of_performs _ _ _ _ _ hperf, lswDisabled_begun, hdis, beq_eq_false_iff_ne.2 hst, Bool.or_self,
      if_neg Bool.false_ne_true] at hexec
    have hk := begun_kept s.chip req 0x0501
    refine answers_chip hexec ⟨keptBut_chip.2 ((kept_postPwd _ _ _ (by decide)).2 (hk.mono (by decide))), ?_⟩
    have hpwd := hk .pwd (by decide)
    dsimp only [postPwd]
    rw [hpwd]
  case _ =>
    refine replies_perform (exec_lswCmd s req n on off d) hperf ?_ rfl
    rw [lswDisabled_begun, hdis, Bool.true_or, if_pos rfl]
  case _ =>
    have hret : (lswOf s.chip n.val).state ≠ .retired := by rw [hst]; decide
    have hdemand : lswDemand s.chip n.val = true := by
      by_cases hdis : lswDisabled s.chip n.val = true
      · rw [lswDemand_disabled hclr hret hdis, hon, Bool.true_and]
        exact bne_iff_ne.2 hdur
      · rw [lswDemand_register hclr hret (Bool.eq_false_iff.2 hdis) hcfg, hon]
    have hset := onlyChan_modLsw s.chip n.val (fun x => { x with regOn := false, dur := 0 })
    have hend := onlyChan_lswSettle_unset (c := modLsw s.chip n.val (fun x => { x with regOn := false, dur := 0 })) hdemand
      (by rw [hset.now]) hcfg (by rw [hset.now]; exact hst) (by rw [hset.now]; exact hcalm)
    have hexec : exec (.lswDurExpiry n) s = .next { s with
        chip := lswSettle s.chip false (modLsw s.chip n.val (fun x => { x with regOn := false, dur := 0 })) n.val } := by
      change execLswDurExpiry n s = _
      rw [execLswDurExpiry, onChip]
      dsimp only
      rw [if_neg hdur]
    refine answers_chip hexec ⟨keptBut_chip.2 (hset.trans hend).chans.kept, (hset.trans hend).others, ?_⟩
    dsimp only
    rw [hend.now, hset.now]
    exact ⟨rfl, rfl, rfl⟩
  case _ =>
    have hm := measured_lswMeasured s.chip n.val m
    have hlive := hm.kept .live (by decide)
    have hccfg := (cfg_of_live hlive (Reg.LSW_CFG n.val) 1 0).trans hcfg
    have hcdis := (lswDisabled_of_regs (hm.kept .regs (by decide)) n.val).trans hdis
    have hcpin : (lswOf (lswMeasured s.chip n.val m) n.val).pin = false := by rw [hm.now]; exact hpin
    obtain ⟨hsk, hsothers, hsnow⟩ := measured_modLsw (c := s.chip) (n := n.val) m risenRec
    have hset := onlyChan_modLsw (lswMeasured s.chip n.val m) n.val risenRec
    have hfast : (r && pinSourced (lswMeasured s.chip n.val m) n.val) = r := by
      rw [pinSourced, hccfg]
      exact Bool.and_true r
    have hdst : (lswOf (modLsw (lswMeasured s.chip n.val m) n.val risenRec) n.val).state = .off := by rw [hsnow]; exact hst
    have hnew : lswDemand (modLsw (lswMeasured s.chip n.val m) n.val risenRec) n.val = true := by
      refine (lswDemand_pin (c := modLsw (lswMeasured s.chip n.val m) n.val risenRec) ?_ ?_ hcdis hccfg).trans ?_
      · rw [hsnow]
        change (if (true && !(lswOf s.chip n.val).pin) then false else _) = false
        rw [hpin]
        rfl
      · rw [hdst]
        decide
      · rw [hsnow]
        rfl
    have hexec : exec (.lswInEdge n true r m) s = .next { s with
        chip := lswStart (modLsw (modLsw (lswMeasured s.chip n.val m) n.val risenRec) n.val
          (fun x => { x with shed := false })) n.val r } := by
      refine (exec_lswInEdge s n true r m).trans (congrArg (fun x => Host.Outcome.next { s with chip := x }) ?_)
      rw [hfast]
      exact (lswSettle_on r hnew (lswDemand_low hcdis hcpin hccfg)).trans (lswOnDemand_off r hdst)
    have hshed := onlyChan_modLsw (modLsw (lswMeasured s.chip n.val m) n.val risenRec) n.val (fun x => { x with shed := false })
    have hall := hset.trans hshed
    generalize modLsw (modLsw (lswMeasured s.chip n.val m) n.val risenRec) n.val
      (fun x => { x with shed := false }) = e at hexec hshed hall
    have hebudget : lswBudget e (lswInB n.val) = lswBudget s.chip (lswInB n.val) :=
      lswBudget_of_live ((hall.chans.kept .live (by decide)).trans hlive) _
    have herail : lswRail e (lswInB n.val) = m.rail := (hall.chans.rail _).trans hm.rail
    have hegroup : lswCurrent e (lswInB n.val) = m.group := (hall.chans.current _).trans hm.current
    have hstart := onlyChan_lswStart (c := e) (n := n.val) r ((hall.chans.uv _).trans ((hm.uv _).trans huv)) (by omega) (by omega)
    refine answers_chip hexec ⟨keptBut_chip.2 (hm.kept.trans ((hall.trans hstart).chans.kept.mono (by decide))),
      hm.others.trans (hall.trans hstart).others, ?_⟩
    dsimp only
    rw [hstart.now, hshed.now, hsnow]
    exact ⟨rfl, rfl⟩
  case _ =>
    have hm := measured_lswMeasured s.chip n.val m
    obtain ⟨hk, hothers, hnow⟩ := measured_modLsw (c := s.chip) (n := n.val) m (fun x => { x with state := .window })
    have hexec := exec_lswRampDone s n m
    rw [if_pos ⟨by rw [hm.now]; exact hst, by rw [hm.now]; exact hp⟩] at hexec
    exact answers_chip hexec ⟨keptBut_chip.2 hk, hothers, by dsimp only; rw [hnow]⟩
  case _ =>
    have hm := measured_lswMeasured s.chip n.val m
    obtain ⟨hk, hothers, hnow⟩ := measured_modLsw (c := s.chip) (n := n.val) m (fun x => { x with state := .on })
    have hexec := exec_lswWindowEnd s n m
    rw [if_pos (by rw [hm.now]; exact hst), if_pos (by rw [hm.now]; exact hv)] at hexec
    exact answers_chip hexec ⟨keptBut_chip.2 hk, hothers, by dsimp only; rw [hnow]⟩
  case _ =>
    have hm := measured_lswMeasured s.chip n.val m
    have htrips : (lswOf (lswMeasured s.chip n.val m) n.val).trips = (lswOf s.chip n.val).trips :=
      (congrArg LswSt.trips hm.now).trans rfl
    have hexec := exec_lswWindowEnd s n m
    rw [if_pos (by rw [hm.now]; exact hst), if_neg (by rw [hm.now]; exact Nat.not_le.2 hv),
      lswTurnOnFail_first (hm.kept .live (by decide)) htrips ht hl] at hexec
    exact reports_chip hexec (tripped_turnOnFail hm.kept hm.others htrips)
  case _ =>
    have hm := measured_lswMeasured s.chip n.val m
    obtain ⟨hk, hothers, hnow⟩ := measured_modLsw (c := s.chip) (n := n.val) m (fun x => { x with paused := true })
    have hexec := exec_lswRailSag s n m
    rw [if_pos ⟨by rw [hm.now]; exact hst, by rw [hm.now]; exact hsag⟩] at hexec
    refine answers_chip hexec ⟨keptBut_chip.2 hk, hothers, ?_⟩
    dsimp only
    rw [hnow]
    exact ⟨hst, rfl⟩
  case _ =>
    have hm := measured_lswMeasured s.chip n.val m
    obtain ⟨hk, hothers, hnow⟩ := measured_modLsw (c := s.chip) (n := n.val) m (resumedRec ms)
    have hexec := exec_lswRampResume s n ms m
    rw [if_pos ⟨by rw [hm.now]; exact hst, by rw [hm.now]; exact hp, by rw [hm.now]; exact hrail⟩,
      if_neg (by rw [hm.now]; exact Nat.not_lt.2 hms)] at hexec
    refine answers_chip hexec ⟨keptBut_chip.2 hk, hothers, ?_⟩
    dsimp only
    rw [hnow]
    exact ⟨hst, rfl, rfl⟩
  case _ =>
    have hexec := exec_lswPauseTimeout hst hp hms
    rw [lswTurnOnFail_first rfl rfl ht hl] at hexec
    exact reports_chip hexec (tripped_turnOnFail (.refl _ _) (.refl _ _) rfl)
  case _ =>
    have hcount := (kept_pwdCount (by decide)).2 (.refl [.pwd] s.chip)
    obtain ⟨hk, hregs, heach⟩ := lswDisableWrite_leaves (pwdCount s.chip) (wordOf v.toNat)
    rw [wordOf_twelve] at hregs heach
    have hput := regsKept_regPut (pwdCount s.chip) (wordOf v.toNat) (List.mem_singleton_self Reg.LSW_DISABLE)
    have hexec := exec_lswDisableWrite s v
    generalize lswDisableWrite (pwdCount s.chip) (wordOf v.toNat) = d at hexec hk hregs heach
    refine answers_chip hexec ⟨keptBut_chip.2 ((hcount.mono (by decide)).trans (hk.mono (by decide))),
      fun a ha => ?_, ?_, fun n hv hdis hcfg hst hon hdur hclr => ?_⟩
    · exact (congrArg (rget · a) hregs).trans (hput a ha)
    · exact (congrArg (rget · Reg.LSW_DISABLE) hregs).trans (regGet_regPut_self ..)
    · refine heach n.val ?_ hcfg hst hdur ?_
      · rw [newlyDisabled, List.mem_filter, bitOf_wordOf_twelve, hv]
        exact ⟨List.mem_range.2 n.isLt, by rw [show lswDisabled (pwdCount s.chip) n.val = false from hdis]; rfl⟩
      · exact (lswDemand_register (c := pwdCount s.chip) hclr (by rw [show (lswOf (pwdCount s.chip) n.val).state = .on from hst]; decide)
          hdis hcfg).trans hon

end Sys2Proof
end

section
/-! PROOFS. Trips, groups, test pulses and diagnostics of the load switches (R303 to R305, R310 to R316, R320). -/

namespace Sys2Proof

open Machine

/-! ### Trips and retries -/

/-- R311: the channels that a shutdown trips. -/
theorem lswThermalShutdown_trips {s : State} {n : Lsw} {m : LswMeas} (htj : 239 ≤ m.tj)
    (hst : (lswOf s.chip n.val).state = .ramp ∨ (lswOf s.chip n.val).state = .window ∨ (lswOf s.chip n.val).state = .on) :
    exec (.lswThermalShutdown n m) s = .next { s with chip := lswTrip (lswMeasured s.chip n.val m) n.val } := by
  have hstate : (lswOf (lswMeasured s.chip n.val m) n.val).state = (lswOf s.chip n.val).state :=
    (congrArg LswSt.state (measured_lswMeasured s.chip n.val m).now).trans rfl
  change execLswThermalShutdown n m s = _
  rw [execLswThermalShutdown, onChip]
  dsimp only
  rw [if_neg (Nat.not_lt.2 htj), hstate]
  obtain hst | hst | hst := hst <;> rw [hst]

theorem lswThermalShutdown_pulse {s : State} {n : Lsw} {m : LswMeas} (htj : 239 ≤ m.tj)
    (hst : (lswOf s.chip n.val).state = .test) :
    exec (.lswThermalShutdown n m) s = .next { s with
      chip := modLsw (lswMeasured s.chip n.val m) n.val (fun x => { x with tripDue := true }) } := by
  have hstate : (lswOf (lswMeasured s.chip n.val m) n.val).state = (lswOf s.chip n.val).state :=
    (congrArg LswSt.state (measured_lswMeasured s.chip n.val m).now).trans rfl
  change execLswThermalShutdown n m s = _
  rw [execLswThermalShutdown, onChip]
  dsimp only
  rw [if_neg (Nat.not_lt.2 htj), hstate, hst]

theorem LswMeasured.trips {c d : Chip} {n : Nat} {m : LswMeas} (h : LswMeasured c d n m) :
    (lswOf d n).trips = (lswOf c n).trips := (congrArg LswSt.trips h.now).trans rfl

theorem LswMeasured.latches {c d : Chip} {n : Nat} {m : LswMeas} (h : LswMeasured c d n m) :
    lswLatches d n = lswLatches c n := lswLatches_congr (h.kept .live (by decide)) h.trips

theorem LswMeasured.state {c d : Chip} {n : Nat} {m : LswMeas} (h : LswMeasured c d n m) :
    (lswOf d n).state = (lswOf c n).state := (congrArg LswSt.state h.now).trans rfl

theorem exec_lswRetry {s : State} {n : Lsw} {m : LswMeas} (hst : (lswOf s.chip n.val).state = .cool) (htj : m.tj ≤ 219)
    (hd : lswDemand s.chip n.val = true) : exec (.lswRetry n m) s = .next { s with
      chip := lswStart (modLsw (lswMeasured s.chip n.val m) n.val (fun x => { x with state := .off })) n.val false } := by
  have hm := measured_lswMeasured s.chip n.val m
  change execLswRetry n m s = _
  rw [execLswRetry, onChip]
  dsimp only
  rw [if_pos ⟨hm.state.trans hst, htj, hm.demand.trans hd⟩]

/-! ### Groups -/

/-- R313: the record of a channel that is shed. -/
def shedRec (x : LswSt) : LswSt :=
  { x with state := .off, shed := true, cleared := true, regOn := false, dur := 0, paused := false, limiting := false }

theorem setLswCurrent_kept (c : Chip) (b : Bool) (i : Nat) : ChipKeptBut [.lsw] c (setLswCurrent c b i) :=
  (kept_setLswCurrent b i (by decide)).2 (.refl _ c)

theorem lswCurrent_setLswCurrent (c : Chip) (b : Bool) (i : Nat) : lswCurrent (setLswCurrent c b i) b = i := by
  unfold lswCurrent setLswCurrent
  cases b <;> rfl

theorem lswOf_setLswCurrent (c : Chip) (b : Bool) (i n : Nat) : lswOf (setLswCurrent c b i) n = lswOf c n :=
  lswOf_of_chans (setLswCurrent_chans c b i) n

theorem lswShedding_congr {c d : Chip} (hl : d.live = c.live) (hc : d.lsw.chans = c.lsw.chans) (g : Bool) :
    lswShedding d g = lswShedding c g := by
  unfold lswShedding
  simp only [cfg_of_live hl, lswOf_of_chans hc]

theorem exec_lswShed_some {s : State} {g : Bool} {i n : Nat} (hover : lswBudget s.chip g * 5 < i * 4)
    (hn : lswShedding s.chip g = some n) : exec (.lswShed g i) s = .next { s with
      chip := lswEvt (modLsw (lswTripsZero (setLswCurrent s.chip g i) n) n shedRec) n 8 } := by
  have hk := setLswCurrent_kept s.chip g i
  have hbudget := lswBudget_of_live (hk .live (by decide)) g
  have hshed := lswShedding_congr (hk .live (by decide)) (setLswCurrent_chans s.chip g i) g
  change execLswShed g i s = _
  rw [execLswShed, onChip]
  dsimp only
  rw [if_neg (by rw [hbudget]; omega), hshed, hn]
  rfl

theorem exec_lswShed_none {s : State} {g : Bool} {i : Nat} (hover : lswBudget s.chip g * 5 < i * 4)
    (hn : lswShedding s.chip g = none) : exec (.lswShed g i) s = .next { s with
      chip := (lswGroup g).foldl (fun c n => lswEvt c n 9) (setLswCurrent s.chip g i) } := by
  have hk := setLswCurrent_kept s.chip g i
  have hbudget := lswBudget_of_live (hk .live (by decide)) g
  have hshed := lswShedding_congr (hk .live (by decide)) (setLswCurrent_chans s.chip g i) g
  change execLswShed g i s = _
  rw [execLswShed, onChip]
  dsimp only
  rw [if_neg (by rw [hbudget]; omega), hshed, hn]

theorem lswGroup_nodup (g : Bool) : (lswGroup g).Nodup := by cases g <;> decide

theorem lswInB_of_mem {g : Bool} {n : Nat} (h : n ∈ lswGroup g) : lswInB n = g := by
  cases g <;> (revert n; decide)

/-- R304: what undervoltage does to a channel of its group. -/
def uvOff (c : Chip) (n : Nat) : Chip :=
  if lswOn (lswOf c n) then
    modLsw c n (fun x => { x with state := .off, paused := false, limiting := false, tripDue := false })
  else c

theorem onlyChan_uvOff_any (c : Chip) (n : Nat) : ∃ x, OnlyChan [.lsw] n x c (uvOff c n) := by
  unfold uvOff
  split
  · exact ⟨_, onlyChan_modLsw c n _⟩
  · exact ⟨_, .refl _ n c⟩

theorem exec_lswGroupUv {s : State} {g : Bool} {v : Nat} (h : v < 7000) : exec (.lswGroupUv g v) s = .next { s with
    chip := (lswGroup g).foldl uvOff (setLswUv (setLswRail s.chip g v) g true) } := by
  change execLswGroupUv g v s = _
  rw [execLswGroupUv, onChip]
  dsimp only
  rw [if_pos h]
  rfl

/-- R304: a channel of the group comes back with its demand. -/
def uvBack (c : Chip) (n : Nat) : Chip :=
  if lswDemand c n && (lswOf c n).state == .off then lswStart c n false else c

theorem onlyChan_uvBack_any (c : Chip) (n : Nat) : ∃ x, OnlyChan [.lsw] n x c (uvBack c n) := by
  unfold uvBack
  split
  · exact onlyChan_lswStart_any c n false
  · exact ⟨_, .refl _ n c⟩

theorem exec_lswGroupUvRecover {s : State} {g : Bool} {v : Nat} (i : Nat) (h : 8000 ≤ v) :
    exec (.lswGroupUvRecover g v i) s = .next { s with
      chip := (lswGroup g).foldl uvBack (setLswUv (setLswCurrent (setLswRail s.chip g v) g i) g false) } := by
  change execLswGroupUvRecover g v i s = _
  rw [execLswGroupUvRecover, onChip]
  dsimp only
  rw [if_pos h]
  rfl

/-- R305: a channel that waits for its group turns on, or stops waiting. -/
def roomTaken (c : Chip) (n : Nat) : Chip :=
  if (lswOf c n).grpWait && (lswOf c n).state == .off then
    if lswDemand c n then lswStart c n false else modLsw c n (fun x => { x with grpWait := false })
  else c

theorem onlyChan_roomTaken_any (c : Chip) (n : Nat) : ∃ x, OnlyChan [.lsw] n x c (roomTaken c n) := by
  unfold roomTaken
  split
  · split
    · exact onlyChan_lswStart_any c n false
    · exact ⟨_, onlyChan_modLsw c n _⟩
  · exact ⟨_, .refl _ n c⟩

theorem exec_lswGroupWithinBudget {s : State} {g : Bool} {i : Nat} (h : i ≤ lswBudget s.chip g) :
    exec (.lswGroupWithinBudget g i) s = .next { s with
      chip := (lswGroup g).foldl roomTaken (setLswCurrent s.chip g i) } := by
  have hbudget := lswBudget_of_live (setLswCurrent_kept s.chip g i .live (by decide)) g
  change execLswGroupWithinBudget g i s = _
  rw [execLswGroupWithinBudget, onChip]
  dsimp only
  rw [if_pos (by rw [hbudget]; exact h)]
  rfl

/-- R307: the demand of a channel whose record and configuration are the same. -/
theorem lswDemand_of_rec {c d : Chip} {n : Nat} (hregs : d.regs = c.regs) (hlive : d.live = c.live)
    (h : lswOf d n = lswOf c n) : lswDemand d n = lswDemand c n :=
  lswDemand_congr hregs hlive (by rw [h]) (by rw [h]) (by rw [h]) (by rw [h]) (by rw [h])

theorem ChansOnly.demand {ps : List Part} {c d : Chip} (h : ChansOnly ps c d) {n : Nat} (hn : lswOf d n = lswOf c n)
    (hr : Part.regs ∉ ps := by decide) (hl : Part.live ∉ ps := by decide) : lswDemand d n = lswDemand c n :=
  lswDemand_of_rec (h.kept .regs hr) (h.kept .live hl) hn

/-- A group with its rail, room and demand known, as a pass over it finds it at each channel. -/
theorem onlyChan_start_in {c d : Chip} {g : Bool} {n : Nat} (hn : n ∈ lswGroup g) (hd : ChansOnly [.lsw] c d)
    (huv : lswUv c g = false) (hrail : 8000 ≤ lswRail c g) (hroom : lswCurrent c g ≤ lswBudget c g) :
    OnlyChan [.lsw] n (startedRec d n false (lswOf d n)) d (lswStart d n false) := by
  have hg := lswInB_of_mem hn
  have hbudget := lswBudget_of_live (hd.kept .live (by decide)) g
  refine onlyChan_lswStart false ?_ ?_ ?_
  · rw [hg, hd.uv]; exact huv
  · rw [hg, hd.rail]; exact hrail
  · rw [hg, hd.current, hbudget]; exact hroom

/-! ### Test pulses and diagnostics -/

/-- R316: no booking of a channel's test pulse. -/
def pulseUnbooked (c : Chip) (n : Lsw) : Chip := unbook c (fun k => k == .testPulse n)

/-- R316: the test pulse at its instant: it starts, and its next is booked. -/
def pulseRun (c : Chip) (n : Lsw) (again : Bool) : Chip :=
  if again && (startPulse (pulseUnbooked c n) n.val).pwd.linkUp && ready (startPulse (pulseUnbooked c n) n.val) .out &&
      (startPulse (pulseUnbooked c n) n.val).sup.mode != .holdUp then
    (book (startPulse (pulseUnbooked c n) n.val) (testBooking (startPulse (pulseUnbooked c n) n.val) n)).1
  else startPulse (pulseUnbooked c n) n.val

theorem exec_lswTestPulse (s : State) (n : Lsw) : exec (.lswTestPulse n) s = .next { s with
    chip := pulseRun s.chip n (s.chip.tb.sched.any (fun b => b.kind == .testPulse n)) } := rfl

theorem pulseRun_kept (c : Chip) (n : Lsw) (again : Bool) :
    ChipKeptBut [.host, .out, .regs, .tb] (startPulse (pulseUnbooked c n) n.val) (pulseRun c n again) := by
  unfold pulseRun
  split
  · exact (kept_book _ (by decide)).2 (.refl _ _)
  · exact .refl _ _

theorem immBit_pulseRun {c : Chip} {n : Lsw} {a b : Nat} (again : Bool)
    (h : immBit (startPulse (pulseUnbooked c n) n.val) a b = true) : immBit (pulseRun c n again) a b = true := by
  unfold pulseRun
  split
  · unfold book
    split
    · exact h
    · split
      · exact immBit_raiseEvt_of _ (by decide) h
      · exact h
  · exact h

theorem startPulse_on {c : Chip} {n : Nat} (hst : (lswOf c n).state = .on) (hdis : lswDisabled c n = false) :
    startPulse c n = modLsw c n (fun x => { x with state := .test, tripDue := false }) := if_pos ⟨hst, hdis⟩

theorem startPulse_not {c : Chip} {n : Nat} (h : (lswOf c n).state ≠ .on ∨ lswDisabled c n = true) :
    startPulse c n = lswEvt c n 7 := by
  refine if_neg ?_
  rintro ⟨hst, hdis⟩
  obtain h | h := h
  · exact h hst
  · rw [hdis] at h
    exact Bool.false_ne_true h

/-- R316: the record of a channel whose test failed. -/
def testFailed (c : Chip) (n : Nat) : Chip := modLsw (lswEvt c n 6) n (fun x => { x with episode := true })

theorem lswTestFail_eq (c : Chip) (n : Nat) : lswTestFail c n = reportSrc (testFailed c n) (64 + n) 0 := rfl

/-- R320: the diagnostics as a measurement gives them. -/
def diagRec (n : Nat) (m : LswMeas) (a b : Nat) (x : LswSt) : LswSt :=
  { x with openLoad := openLoadOf x n m a b, shortVbb := shortOf x m a b }

/-- R320: the events of the diagnostics. -/
def diagEvts (c : Chip) (n : Nat) (openLoad shortVbb : Bool) : Chip :=
  if shortVbb then lswEvt (if openLoad then lswEvt c n 4 else c) n 5 else if openLoad then lswEvt c n 4 else c

theorem exec_lswOpenLoad (s : State) (n : Lsw) (a b : Nat) (m : LswMeas) : exec (.lswOpenLoad n a b m) s = .next { s with
    chip := if cfgBit (lswMeasured s.chip n.val m) (Reg.LSW_CFG n.val) 28 then
        diagEvts (modLsw (lswMeasured s.chip n.val m) n.val (diagRec n.val m a b)) n.val
          (openLoadOf (lswOf (lswMeasured s.chip n.val m) n.val) n.val m a b &&
            !(lswOf (lswMeasured s.chip n.val m) n.val).openLoad)
          (shortOf (lswOf (lswMeasured s.chip n.val m) n.val) m a b &&
            !(lswOf (lswMeasured s.chip n.val m) n.val).shortVbb)
      else lswMeasured s.chip n.val m } := rfl

theorem diagEvts_kept (c : Chip) (n : Nat) (u v : Bool) : ChipKeptBut [.host, .out, .regs] c (diagEvts c n u v) := by
  have hevt : ∀ d k, ChipKeptBut [.host, .out, .regs] d (lswEvt d n k) := fun d k => (kept_lswEvt n k (by decide)).2 (.refl _ d)
  unfold diagEvts
  split_ifs
  · exact (hevt c 4).trans (hevt _ 5)
  · exact hevt c 5
  · exact hevt c 4
  · exact .refl _ c

theorem diagEvts_regs (c : Chip) (n : Nat) (u v : Bool) : RegsKeptBut [Reg.LSW_EVT n] c (diagEvts c n u v) := by
  have hevt : ∀ d k, RegsKeptBut [Reg.LSW_EVT n] d (lswEvt d n k) := fun d k =>
    regsKept_raiseEvt d k (List.mem_singleton_self _)
  unfold diagEvts
  split_ifs
  · exact (hevt c 4).trans (hevt _ 5)
  · exact hevt c 5
  · exact hevt c 4
  · exact .refl _ c

theorem diagEvts_open (c : Chip) (n : Nat) (v : Bool) : immBit (diagEvts c n true v) (Reg.LSW_EVT n) 4 = true := by
  have hevt := immBit_raiseEvt c (Reg.LSW_EVT n) 4 (by decide)
  unfold diagEvts
  rw [if_pos rfl]
  split
  · exact immBit_raiseEvt_of _ (by decide) hevt
  · exact hevt

theorem diagEvts_short (c : Chip) (n : Nat) (u : Bool) : immBit (diagEvts c n u true) (Reg.LSW_EVT n) 5 = true := by
  unfold diagEvts
  rw [if_pos rfl]
  exact immBit_raiseEvt _ _ 5 (by decide)

end Sys2Proof
end

section
/-! PROOFS. The protection of the load switches settled (R303 to R305, R310 to R316, R320). -/

namespace Sys2Proof

open Machine

/-! ### The groups -/

theorem shed_lswShed {s : State} {g : Bool} {i n : Nat} (hover : lswBudget s.chip g * 5 < i * 4)
    (hn : lswShedding s.chip g = some n) :
    Answers (.lswShed g i) s fun t => KeptBut [.flt, .host, .lsw, .out, .regs] s t ∧
      OtherChansKept n s.chip t.chip ∧ (lswOf t.chip n).state = .off ∧ (lswOf t.chip n).shed = true ∧
      (lswOf t.chip n).regOn = false ∧ immBit t.chip (Reg.LSW_EVT n) 8 = true ∧ lswCurrent t.chip g = i := by
  have hk := setLswCurrent_kept s.chip g i
  have hzero := onlyChan_lswTripsZero (setLswCurrent s.chip g i) n
  have hshed := (onlyChan_modLsw (lswTripsZero (setLswCurrent s.chip g i) n) n shedRec).mono (qs := [.flt, .lsw]) (by decide)
  have hrec := hzero.trans hshed
  have hexec := exec_lswShed_some hover hn
  generalize modLsw (lswTripsZero (setLswCurrent s.chip g i) n) n shedRec = d at hexec hshed hrec
  have hevt := (kept_lswEvt n 8 (by decide)).2 (.refl [.regs, .host, .out] d)
  refine answers_chip hexec ⟨keptBut_chip.2 ((hk.mono (by decide)).trans ((hrec.chans.kept.mono (by decide)).trans
    (hevt.mono (by decide)))), OtherChansKept.trans (fun p _ => lswOf_setLswCurrent ..) (hrec.others.trans (.of_kept hevt)),
    ?_, ?_, ?_, immBit_raiseEvt _ _ 8 (by decide), ?_⟩
  · exact (congrArg LswSt.state (lswOf_of_lsw (hevt .lsw (by decide)) n)).trans (congrArg LswSt.state hshed.now)
  · exact (congrArg LswSt.shed (lswOf_of_lsw (hevt .lsw (by decide)) n)).trans (congrArg LswSt.shed hshed.now)
  · exact (congrArg LswSt.regOn (lswOf_of_lsw (hevt .lsw (by decide)) n)).trans (congrArg LswSt.regOn hshed.now)
  · exact ((ChansOnly.of_kept hevt).current g).trans ((hrec.chans.current g).trans (lswCurrent_setLswCurrent ..))

/-- R313: every channel of the group is told that none can be shed. -/
def noneToShed (c : Chip) (ns : List Nat) : Chip := ns.foldl (fun c n => lswEvt c n 9) c

theorem noneToShed_kept (c : Chip) (ns : List Nat) : ChipKeptBut [.host, .out, .regs] c (noneToShed c ns) :=
  (kept_foldl ns fun d n => (kept_lswEvt n 9 (by decide)).2 (.refl _ d)).2 (.refl _ c)

theorem immBit_lswEvt (c : Chip) (n : Nat) {b : Nat} (hb : b < 32) : immBit (lswEvt c n b) (Reg.LSW_EVT n) b = true :=
  immBit_raiseEvt c (Reg.LSW_EVT n) b hb

theorem immBit_lswEvt_of (c : Chip) (n : Nat) {b x k : Nat} (hb : b < 32) (h : immBit c x k = true) :
    immBit (lswEvt c n b) x k = true := immBit_raiseEvt_of c hb h

theorem noneToShed_evt (c : Chip) {ns : List Nat} {n : Nat} (hn : n ∈ ns) :
    immBit (noneToShed c ns) (Reg.LSW_EVT n) 9 = true := by
  unfold noneToShed
  exact foldl_reaches (P := fun d => immBit d (Reg.LSW_EVT n) 9 = true) (f := fun c n => lswEvt c n 9) (a := n)
    (fun d => immBit_lswEvt d n (by decide)) (fun d k hd => immBit_lswEvt_of d k (by decide) hd) hn c

theorem unshed_lswShed {s : State} {g : Bool} {i : Nat} (hover : lswBudget s.chip g * 5 < i * 4)
    (hn : lswShedding s.chip g = none) :
    Answers (.lswShed g i) s fun t => KeptBut [.host, .lsw, .out, .regs] s t ∧ t.chip.lsw.chans = s.chip.lsw.chans ∧
      ∀ n ∈ lswGroup g, immBit t.chip (Reg.LSW_EVT n) 9 = true := by
  have hk := setLswCurrent_kept s.chip g i
  have hexec : exec (.lswShed g i) s = .next { s with
      chip := noneToShed (setLswCurrent s.chip g i) (lswGroup g) } := exec_lswShed_none hover hn
  have hevt := noneToShed_kept (setLswCurrent s.chip g i) (lswGroup g)
  exact answers_chip hexec ⟨keptBut_chip.2 ((hk.mono (by decide)).trans (hevt.mono (by decide))),
    (congrArg LswAll.chans (hevt .lsw (by decide))).trans (setLswCurrent_chans ..), fun n hn => noneToShed_evt _ hn⟩

theorem off_lswGroupUv {s : State} {g : Bool} {v : Nat} (hv : v < 7000) :
    Answers (.lswGroupUv g v) s fun t => KeptBut [.lsw, .pwd] s t ∧ lswUv t.chip g = true ∧ lswRail t.chip g = v ∧
      (∀ n ∈ lswGroup g, lswOn (lswOf s.chip n) = true → (lswOf t.chip n).state = .off) ∧
      ∀ n, n ∉ lswGroup g → lswOf t.chip n = lswOf s.chip n := by
  have hexec := exec_lswGroupUv (s := s) (g := g) hv
  have hk : ChipKeptBut [.lsw, .pwd] s.chip (setLswUv (setLswRail s.chip g v) g true) :=
    (kept_setLswUv _ _ (by decide)).2 ((kept_setLswRail _ _ (by decide)).2 (.refl _ _))
  have hchans : (setLswUv (setLswRail s.chip g v) g true).lsw.chans = s.chip.lsw.chans := by
    refine Eq.trans ?_ (setLswRail_chans s.chip g v)
    unfold setLswUv
    cases g <;> rfl
  have huv : lswUv (setLswUv (setLswRail s.chip g v) g true) g = true := by
    unfold lswUv setLswUv
    cases g <;> rfl
  have hrail : lswRail (setLswUv (setLswRail s.chip g v) g true) g = v := by
    unfold lswRail setLswUv setLswRail
    cases g <;> rfl
  generalize setLswUv (setLswRail s.chip g v) g true = c at hexec hk hchans huv hrail
  obtain ⟨hpass, hout, hin⟩ := foldl_chans onlyChan_uvOff_any (lswGroup g) (lswGroup_nodup g) c
  refine answers_chip hexec ⟨keptBut_chip.2 (hk.trans (hpass.kept.mono (by decide))), (hpass.uv g).trans huv,
    (hpass.rail g).trans hrail, fun n hn hon => ?_, fun n hn => (hout n hn).trans (lswOf_of_chans hchans n)⟩
  obtain ⟨d, -, hd, hend⟩ := hin n hn
  dsimp only
  rw [hend, uvOff, hd, lswOf_of_chans hchans, if_pos hon, lswOf_modLsw_same]

theorem back_lswGroupUvRecover {s : State} {g : Bool} {v i : Nat} (hv : 8000 ≤ v) (hi : i ≤ lswBudget s.chip g) :
    Answers (.lswGroupUvRecover g v i) s fun t => KeptBut [.lsw, .pwd] s t ∧ lswUv t.chip g = false ∧
      (∀ n ∈ lswGroup g, lswDemand s.chip n = true → (lswOf s.chip n).state = .off → (lswOf t.chip n).state = .ramp) ∧
      ∀ n, n ∉ lswGroup g → lswOf t.chip n = lswOf s.chip n := by
  have hexec := exec_lswGroupUvRecover (s := s) (g := g) i hv
  have hk : ChipKeptBut [.lsw, .pwd] s.chip (setLswUv (setLswCurrent (setLswRail s.chip g v) g i) g false) :=
    (kept_setLswUv _ _ (by decide)).2 ((kept_setLswCurrent _ _ (by decide)).2 ((kept_setLswRail _ _ (by decide)).2 (.refl _ _)))
  have hchans : (setLswUv (setLswCurrent (setLswRail s.chip g v) g i) g false).lsw.chans = s.chip.lsw.chans := by
    refine Eq.trans ?_ ((setLswCurrent_chans _ g i).trans (setLswRail_chans s.chip g v))
    unfold setLswUv
    cases g <;> rfl
  have huv : lswUv (setLswUv (setLswCurrent (setLswRail s.chip g v) g i) g false) g = false := by
    unfold lswUv setLswUv
    cases g <;> rfl
  have hrail : lswRail (setLswUv (setLswCurrent (setLswRail s.chip g v) g i) g false) g = v := by
    unfold lswRail setLswUv setLswCurrent setLswRail
    cases g <;> rfl
  have hcur : lswCurrent (setLswUv (setLswCurrent (setLswRail s.chip g v) g i) g false) g = i := by
    unfold lswCurrent setLswUv setLswCurrent
    cases g <;> rfl
  generalize setLswUv (setLswCurrent (setLswRail s.chip g v) g i) g false = c at hexec hk hchans huv hrail hcur
  have hbudget := lswBudget_of_live (hk .live (by decide)) g
  obtain ⟨hpass, hout, hin⟩ := foldl_chans onlyChan_uvBack_any (lswGroup g) (lswGroup_nodup g) c
  refine answers_chip hexec ⟨keptBut_chip.2 (hk.trans (hpass.kept.mono (by decide))), (hpass.uv g).trans huv,
    fun n hn hdem hst => ?_, fun n hn => (hout n hn).trans (lswOf_of_chans hchans n)⟩
  obtain ⟨d, hd, hdn, hend⟩ := hin n hn
  have hcn := lswOf_of_chans hchans n
  have hcdem : lswDemand c n = true :=
    (lswDemand_of_rec (hk .regs (by decide)) (hk .live (by decide)) hcn).trans hdem
  have hcond : (lswDemand d n && (lswOf d n).state == .off) = true := by
    rw [hd.demand hdn, hcdem, hdn, hcn, hst]
    rfl
  dsimp only
  rw [hend, uvBack, if_pos hcond, (onlyChan_start_in hn hd huv (by omega) (by omega)).now]
  rfl

theorem room_lswGroupWithinBudget {s : State} {g : Bool} {i : Nat} (hi : i ≤ lswBudget s.chip g)
    (huv : lswUv s.chip g = false) (hrail : 8000 ≤ lswRail s.chip g) :
    Answers (.lswGroupWithinBudget g i) s fun t => KeptBut [.lsw] s t ∧
      ∀ n ∈ lswGroup g, (lswOf s.chip n).grpWait = true → (lswOf s.chip n).state = .off →
        (lswOf t.chip n).grpWait = false ∧
        (lswOf t.chip n).state = (if lswDemand s.chip n then .ramp else .off) := by
  have hexec := exec_lswGroupWithinBudget hi
  have hk := setLswCurrent_kept s.chip g i
  have hcur := lswCurrent_setLswCurrent s.chip g i
  have hcn := lswOf_setLswCurrent s.chip g i
  have hcuv : lswUv (setLswCurrent s.chip g i) g = false := by
    refine Eq.trans ?_ huv
    unfold lswUv setLswCurrent
    cases g <;> rfl
  have hcrail : lswRail (setLswCurrent s.chip g i) g = lswRail s.chip g := by
    unfold lswRail setLswCurrent
    cases g <;> rfl
  generalize setLswCurrent s.chip g i = c at hexec hk hcur hcn hcuv hcrail
  have hbudget := lswBudget_of_live (hk .live (by decide)) g
  obtain ⟨hpass, -, hin⟩ := foldl_chans onlyChan_roomTaken_any (lswGroup g) (lswGroup_nodup g) c
  refine answers_chip hexec ⟨keptBut_chip.2 (hk.trans hpass.kept), fun n hn hwait hst => ?_⟩
  obtain ⟨d, hd, hdn, hend⟩ := hin n hn
  have hdem : lswDemand d n = lswDemand s.chip n :=
    (hd.demand hdn).trans (lswDemand_of_rec (hk .regs (by decide)) (hk .live (by decide)) (hcn n))
  have hcond : ((lswOf d n).grpWait && (lswOf d n).state == .off) = true := by
    rw [hdn, hcn, hwait, hst]
    rfl
  dsimp only
  rw [hend, roomTaken, if_pos hcond, hdem]
  split
  · rw [(onlyChan_start_in hn hd hcuv (by omega) (by omega)).now]
    exact ⟨rfl, rfl⟩
  · rw [lswOf_modLsw_same, hdn, hcn]
    exact ⟨rfl, hst⟩

/-! ### The channels -/

theorem retried_lswRetry {s : State} {n : Lsw} {m : LswMeas} (hst : (lswOf s.chip n.val).state = .cool) (htj : m.tj ≤ 219)
    (hd : lswDemand s.chip n.val = true) (huv : lswUv s.chip (lswInB n.val) = false) (hrail : 8000 ≤ m.rail)
    (hroom : m.group ≤ lswBudget s.chip (lswInB n.val)) :
    Answers (.lswRetry n m) s fun t => KeptBut [.lsw, .pwd] s t ∧ OtherChansKept n.val s.chip t.chip ∧
      (lswOf t.chip n.val).state = .ramp ∧ (lswOf t.chip n.val).trips = (lswOf s.chip n.val).trips := by
  have hm := measured_lswMeasured s.chip n.val m
  have hoff := onlyChan_modLsw (lswMeasured s.chip n.val m) n.val (fun x => { x with state := .off })
  have hexec := exec_lswRetry hst htj hd
  generalize modLsw (lswMeasured s.chip n.val m) n.val (fun x => { x with state := .off }) = e at hexec hoff
  have hbudget : lswBudget e (lswInB n.val) = lswBudget s.chip (lswInB n.val) :=
    lswBudget_of_live ((hoff.chans.kept .live (by decide)).trans (hm.kept .live (by decide))) _
  have herail : lswRail e (lswInB n.val) = m.rail := (hoff.chans.rail _).trans hm.rail
  have hecur : lswCurrent e (lswInB n.val) = m.group := (hoff.chans.current _).trans hm.current
  have hstart := onlyChan_lswStart (c := e) (n := n.val) false ((hoff.chans.uv _).trans ((hm.uv _).trans huv))
    (by omega) (by omega)
  refine answers_chip hexec ⟨keptBut_chip.2 (hm.kept.trans ((hoff.trans hstart).chans.kept.mono (by decide))),
    hm.others.trans (hoff.trans hstart).others, ?_, ?_⟩
  · exact congrArg LswSt.state hstart.now
  · refine (congrArg LswSt.trips hstart.now).trans ?_
    exact (congrArg LswSt.trips hoff.now).trans hm.trips

theorem limited_lswOvercurrent {s : State} {n : Lsw} {m : LswMeas} (hst : (lswOf s.chip n.val).state = .on) :
    Answers (.lswOvercurrent n m) s fun t => KeptBut [.host, .lsw, .out, .pwd, .regs] s t ∧
      OtherChansKept n.val s.chip t.chip ∧ (lswOf t.chip n.val).limiting = true ∧
      (lswOf t.chip n.val).state = .on ∧ immBit t.chip (Reg.LSW_EVT n.val) 3 = true := by
  have hm := measured_lswMeasured s.chip n.val m
  obtain ⟨hk, hothers, hnow⟩ := measured_modLsw (c := s.chip) (n := n.val) m (fun x => { x with limiting := true })
  have hexec : exec (.lswOvercurrent n m) s = .next { s with
      chip := lswEvt (modLsw (lswMeasured s.chip n.val m) n.val (fun x => { x with limiting := true })) n.val 3 } := by
    change execLswOvercurrent n m s = _
    rw [execLswOvercurrent, onChip]
    dsimp only
    rw [if_pos (hm.state.trans hst)]
  generalize modLsw (lswMeasured s.chip n.val m) n.val (fun x => { x with limiting := true }) = d at hexec hk hothers hnow
  have hevt := (kept_lswEvt n.val 3 (by decide)).2 (.refl [.regs, .host, .out] d)
  refine answers_chip hexec ⟨keptBut_chip.2 ((hk.mono (by decide)).trans (hevt.mono (by decide))),
    hothers.trans (.of_kept hevt), ?_, ?_, immBit_raiseEvt _ _ 3 (by decide)⟩
  · exact congrArg LswSt.limiting ((lswOf_of_lsw (hevt .lsw (by decide)) _).trans hnow)
  · exact (congrArg LswSt.state ((lswOf_of_lsw (hevt .lsw (by decide)) _).trans hnow)).trans hst

theorem passed_lswTestPulseEnd {s : State} {n : Lsw} {f a : Nat} {m : LswMeas} (hst : (lswOf s.chip n.val).state = .test)
    (hdue : (lswOf s.chip n.val).tripDue = false) (hf : f ≤ 50) (ha : a * 100 ≤ lswRated n.val) :
    Answers (.lswTestPulseEnd n f a m) s fun t => KeptBut [.lsw, .pwd] s t ∧ OtherChansKept n.val s.chip t.chip ∧
      (lswOf t.chip n.val).state = (if lswDemand s.chip n.val then .on else .off) := by
  have hm := measured_lswMeasured s.chip n.val m
  have hcdue : (lswOf (lswMeasured s.chip n.val m) n.val).tripDue = false :=
    (congrArg LswSt.tripDue hm.now).trans hdue
  have hpass : pulsePasses n.val f a = true := by
    rw [pulsePasses, decide_eq_true hf, decide_eq_true ha]
    rfl
  have hexec : exec (.lswTestPulseEnd n f a m) s = .next { s with
      chip := if lswDemand s.chip n.val then modLsw (lswMeasured s.chip n.val m) n.val (fun x => { x with state := .on })
        else modLsw (lswMeasured s.chip n.val m) n.val (fun x => { x with state := .off, limiting := false }) } := by
    change execLswTestPulseEnd n f a m s = _
    rw [execLswTestPulseEnd, onChip]
    dsimp only
    rw [if_pos (hm.state.trans hst), hpass, if_pos rfl, hcdue, if_neg Bool.false_ne_true, hm.demand]
  by_cases hd : lswDemand s.chip n.val = true
  · obtain ⟨hk, hothers, hnow⟩ := measured_modLsw (c := s.chip) (n := n.val) m (fun x => { x with state := .on })
    rw [if_pos hd] at hexec
    refine answers_chip hexec ⟨keptBut_chip.2 hk, hothers, ?_⟩
    rw [if_pos hd]
    exact congrArg LswSt.state hnow
  · obtain ⟨hk, hothers, hnow⟩ := measured_modLsw (c := s.chip) (n := n.val) m
      (fun x => { x with state := .off, limiting := false })
    rw [if_neg hd] at hexec
    refine answers_chip hexec ⟨keptBut_chip.2 hk, hothers, ?_⟩
    rw [if_neg hd]
    exact congrArg LswSt.state hnow

theorem reported_lswOffCheckFail {s : State} {n : Lsw} {m : LswMeas} (hst : (lswOf s.chip n.val).state = .off)
    (hma : lswRated n.val < m.ma * 100) : Reports (.lswOffCheckFail n m) s (64 + n.val) 0 fun c e =>
    ChipKeptBut [.host, .lsw, .out, .pwd, .regs] c e ∧ OtherChansKept n.val c e ∧
    RegsKeptBut [Reg.LSW_EVT n.val] c e ∧ immBit e (Reg.LSW_EVT n.val) 6 = true := by
  have hm := measured_lswMeasured s.chip n.val m
  have hexec : exec (.lswOffCheckFail n m) s = .next { s with
      chip := reportSrc (testFailed (lswMeasured s.chip n.val m) n.val) (64 + n.val) 0 } := by
    change execLswOffCheckFail n m s = _
    rw [execLswOffCheckFail, onChip]
    dsimp only
    rw [if_pos ⟨hm.state.trans hst, hma⟩, lswTestFail_eq]
  have hevt := (kept_lswEvt n.val 6 (by decide)).2 (.refl [.regs, .host, .out] (lswMeasured s.chip n.val m))
  have hmark := onlyChan_modLsw (lswEvt (lswMeasured s.chip n.val m) n.val 6) n.val (fun x => { x with episode := true })
  refine reports_chip hexec ⟨(hm.kept.mono (by decide)).trans ((hevt.mono (by decide)).trans (hmark.chans.kept.mono (by decide))),
    hm.others.trans ((OtherChansKept.of_kept hevt).trans hmark.others), ?_, ?_⟩
  · exact (hm.kept.regsKept (by decide)).trans ((regsKept_raiseEvt _ _ (List.mem_singleton_self _)).trans
      (hmark.chans.kept.regsKept (by decide)))
  · exact (immBit_of_regs (hmark.chans.kept .regs (by decide)) _ _).trans (immBit_raiseEvt _ _ 6 (by decide))

theorem diagnosed_lswOpenLoad {s : State} {n : Lsw} {a b : Nat} {m : LswMeas}
    (hen : cfgBit s.chip (Reg.LSW_CFG n.val) 28 = true) :
    let x := { lswOf s.chip n.val with ma := m.ma, v10 := m.v10, tj := m.tj, limiting := m.limiting }
    Answers (.lswOpenLoad n a b m) s fun t => KeptBut [.host, .lsw, .out, .pwd, .regs] s t ∧
      OtherChansKept n.val s.chip t.chip ∧ RegsKeptBut [Reg.LSW_EVT n.val] s.chip t.chip ∧
      lswOf t.chip n.val = { x with openLoad := openLoadOf x n.val m a b, shortVbb := shortOf x m a b } ∧
      (openLoadOf x n.val m a b = true → x.openLoad = false → immBit t.chip (Reg.LSW_EVT n.val) 4 = true) ∧
      (shortOf x m a b = true → x.shortVbb = false → immBit t.chip (Reg.LSW_EVT n.val) 5 = true) := by
  intro x
  have hm := measured_lswMeasured s.chip n.val m
  obtain ⟨hk, hothers, hnow⟩ := measured_modLsw (c := s.chip) (n := n.val) m (diagRec n.val m a b)
  have hexec := exec_lswOpenLoad s n a b m
  rw [if_pos ((cfgBit_of_live (hm.kept .live (by decide)) ..).trans hen), hm.now] at hexec
  change exec _ s = .next { s with
    chip := diagEvts (modLsw (lswMeasured s.chip n.val m) n.val (diagRec n.val m a b)) n.val
      (openLoadOf x n.val m a b && !x.openLoad) (shortOf x m a b && !x.shortVbb) } at hexec
  change lswOf _ n.val = diagRec n.val m a b x at hnow
  generalize modLsw (lswMeasured s.chip n.val m) n.val (diagRec n.val m a b) = d at hexec hk hothers hnow
  have hevts := diagEvts_kept d n.val (openLoadOf x n.val m a b && !x.openLoad) (shortOf x m a b && !x.shortVbb)
  refine answers_chip hexec ⟨keptBut_chip.2 ((hk.mono (by decide)).trans (hevts.mono (by decide))),
    hothers.trans (.of_kept hevts), (hk.regsKept (by decide)).trans (diagEvts_regs _ _ _ _),
    (lswOf_of_lsw (hevts .lsw (by decide)) _).trans hnow, fun hopen hnot => ?_, fun hshort hnot => ?_⟩
  · dsimp only
    rw [hopen, hnot]
    exact diagEvts_open ..
  · dsimp only
    rw [hshort, hnot]
    exact diagEvts_short ..

/-- Settles O30: trips, groups, pulses and diagnostics of the load switches (R303 to R305, R310 to R316, R320). -/
theorem loadSwitchProtection : Obligations.LoadSwitchProtection := by
  unfold Obligations.LoadSwitchProtection
  refine ⟨fun s n m htj hst ht hl => ?_, fun s n m htj hst ht hl => ?_, fun s n m htj hst hl => ?_,
    fun s n m htj hst => ?_, fun s n m hst htj hd huv hrail hroom => ?_, fun s n hst => ?_, fun s n m hst => ?_,
    fun s g i n hover hn => ?_, fun s g i hover hn => ?_, fun s g v hv => ?_, fun s g v i hv hi => ?_,
    fun s g i hi huv hrail => ?_, fun s n hst hdis => ?_, fun s n hnot => ?_, fun s n f a m hst hdue hf ha => ?_,
    fun s n m hst hma => ?_, fun s n a b m hen => ?_, fun s n a b m hdis => ?_⟩
  case _ =>
    have hm := measured_lswMeasured s.chip n.val m
    have hexec := lswThermalShutdown_trips htj hst
    rw [lswTrip_first (hm.trips.trans ht) (hm.latches.trans hl)] at hexec
    exact reports_chip hexec hm.tripped
  case _ =>
    have hm := measured_lswMeasured s.chip n.val m
    have hexec := lswThermalShutdown_trips htj hst
    rw [lswTrip_again (fun h => ht (hm.trips.symm.trans h)) (hm.latches.trans hl)] at hexec
    exact answers_chip hexec ⟨storesKept_chip s _, hm.tripped⟩
  case _ =>
    have hm := measured_lswMeasured s.chip n.val m
    have hexec := lswThermalShutdown_trips htj hst
    rw [lswTrip_eq, hm.latches, hl, if_pos rfl, tripTold, hm.trips] at hexec
    exact answers_chip hexec ⟨storesKept_chip s _, _, hm.tripped, rfl⟩
  case _ =>
    obtain ⟨hk, hothers, hnow⟩ := measured_modLsw (c := s.chip) (n := n.val) m (fun x => { x with tripDue := true })
    exact answers_chip (lswThermalShutdown_pulse htj hst) ⟨keptBut_chip.2 hk, hothers,
      (congrArg LswSt.state hnow).trans hst, congrArg LswSt.tripDue hnow⟩
  case _ => exact retried_lswRetry hst htj hd huv hrail hroom
  case _ =>
    have hexec : exec (.lswTripsReset n) s = .next { s with chip := lswTripsZero s.chip n.val } := by
      change execLswTripsReset n s = _
      rw [execLswTripsReset, onChip, if_pos hst]
    have hzero := onlyChan_lswTripsZero s.chip n.val
    exact answers_chip hexec ⟨keptBut_chip.2 hzero.chans.kept, hzero.others, hzero.now⟩
  case _ => exact limited_lswOvercurrent hst
  case _ => exact shed_lswShed hover hn
  case _ => exact unshed_lswShed hover hn
  case _ => exact off_lswGroupUv hv
  case _ => exact back_lswGroupUvRecover hv hi
  case _ => exact room_lswGroupWithinBudget hi huv hrail
  case _ =>
    have hunbook := (kept_unbook (fun k => k == BookKind.testPulse n) (by decide)).2 (.refl [.tb] s.chip)
    have hstart := onlyChan_modLsw (pulseUnbooked s.chip n) n.val (fun x => { x with state := .test, tripDue := false })
    have hrun := pulseRun_kept s.chip n (s.chip.tb.sched.any (fun b => b.kind == .testPulse n))
    rw [startPulse_on (c := pulseUnbooked s.chip n) hst hdis] at hrun
    exact answers_chip (exec_lswTestPulse s n) ⟨keptBut_chip.2 ((hunbook.mono (by decide)).trans
      ((hstart.chans.kept.mono (by decide)).trans (hrun.mono (by decide)))), hstart.others.trans (.of_kept hrun),
      (lswOf_of_lsw (hrun .lsw (by decide)) _).trans hstart.now⟩
  case _ =>
    have hunbook := (kept_unbook (fun k => k == BookKind.testPulse n) (by decide)).2 (.refl [.tb] s.chip)
    have hevt := (kept_lswEvt n.val 7 (by decide)).2 (.refl [.regs, .host, .out] (pulseUnbooked s.chip n))
    have hrun := pulseRun_kept s.chip n (s.chip.tb.sched.any (fun b => b.kind == .testPulse n))
    have hset : immBit (startPulse (pulseUnbooked s.chip n) n.val) (Reg.LSW_EVT n.val) 7 = true := by
      rw [startPulse_not (c := pulseUnbooked s.chip n) hnot]
      exact immBit_raiseEvt _ _ 7 (by decide)
    rw [startPulse_not (c := pulseUnbooked s.chip n) hnot] at hrun
    exact answers_chip (exec_lswTestPulse s n) ⟨keptBut_chip.2 ((hunbook.mono (by decide)).trans
      ((hevt.mono (by decide)).trans (hrun.mono (by decide)))), immBit_pulseRun _ hset⟩
  case _ => exact passed_lswTestPulseEnd hst hdue hf ha
  case _ => exact reported_lswOffCheckFail hst hma
  case _ => exact diagnosed_lswOpenLoad hen
  case _ =>
    have hm := measured_lswMeasured s.chip n.val m
    have hexec := exec_lswOpenLoad s n a b m
    rw [if_neg (by rw [cfgBit_of_live (hm.kept .live (by decide)), hdis]; exact Bool.false_ne_true)] at hexec
    refine answers_chip hexec ⟨keptBut_chip.2 hm.kept, hm.others, ?_, ?_⟩
    · exact (congrArg LswSt.openLoad hm.now).trans rfl
    · exact (congrArg LswSt.shortVbb hm.now).trans rfl

end Sys2Proof
end

section
/-! PROOFS. Publication and frames (R324, R327 to R330, R345, R362). -/

namespace Sys2Proof

open Machine

/-! ### Publication -/

theorem dspCfg_congr {c d : Chip} (hh : d.dsp.held = c.dsp.held) (hl : d.live = c.live) (a hi lo : Nat) :
    dspCfg d a hi lo = dspCfg c a hi lo := by
  unfold dspCfg
  rw [hh, cfg_of_live hl]

/-- R327: the bytes of a frame depend on the timing in force. -/
theorem frameBytes_congr {c d : Chip} (hh : d.dsp.held = c.dsp.held) (hl : d.live = c.live) :
    hact d * vact d = hact c * vact c := by
  rw [hact, vact, hact, vact, dspCfg_congr hh hl, dspCfg_congr hh hl]

theorem dsiDisabled_of_regs {c d : Chip} (h : d.regs = c.regs) : dsiDisabled d = dsiDisabled c := immBit_of_regs h _ _

theorem publish_over {c : Chip} {a : Nat} (w : Word) (h : 2 ^ 29 < a + hact c * vact c * 4) :
    publish c a w none = dspEvt c 2 := by
  unfold publish
  rw [if_pos h]
  rfl

/-- R327: the publication that waits for the next frame start. -/
def pending (b : Buffer) (d : Dsp) : Dsp := { d with pend := some b }

theorem publish_waits {c : Chip} {a : Nat} (w : Word) (r : Option Requester) (h : a + hact c * vact c * 4 ≤ 2 ^ 29)
    (hp : c.dsp.pend = none) : publish c a w r = modDsp c (pending ⟨a, w, r⟩) := by
  unfold publish
  rw [if_neg (Nat.not_lt.2 h), hp]
  rfl

theorem publish_supersedes {c : Chip} {a b : Nat} {w v : Word} {old : Requester} (r : Option Requester)
    (h : a + hact c * vact c * 4 ≤ 2 ^ 29) (hp : c.dsp.pend = some ⟨b, v, some old⟩) :
    publish c a w r = modDsp (complete c old (ansReject .superseded)) (pending ⟨a, w, r⟩) := by
  unfold publish
  rw [if_neg (Nat.not_lt.2 h), hp]
  rfl

theorem exec_dspPubGo {s : State} (hopen : windowClosed s.chip Reg.DSP_PUB_CTRL = false)
    (hready : regionReady s.chip .dsp = true) (hdis : dsiDisabled s.chip = false) : exec .dspPubGo s = .next { s with
      chip := publish s.chip (imm s.chip Reg.DSP_PUB_ADDR 31 12 * 4096) (regGet s.chip Reg.DSP_PUB_CRC) none } := by
  change execDspPubGo s = _
  rw [execDspPubGo, onChip_reach _ hopen, hready, hdis, if_pos (by decide)]

theorem exec_dspPublish {s : State} {req : Requester} {a : Nat} (w : Word) (hperf : performs s.chip req 0x0602 .pixel = true)
    (hdis : dsiDisabled s.chip = false) (ha : a % 4096 = 0) : exec (.dspPublish req a w) s = .next { s with
      chip := publish (begun s.chip req 0x0602) a w (some req) } := by
  have hdis' := (dsiDisabled_of_regs (begun_kept s.chip req 0x0602 .regs (by decide))).trans hdis
  change execDspPublish req a w s = _
  rw [execDspPublish, onChip, perform_of_performs _ _ _ _ _ hperf, hdis', if_neg Bool.false_ne_true, if_neg (not_not.2 ha)]

theorem begun_dsp (c : Chip) (req : Requester) (op : Nat) : (begun c req op).dsp = c.dsp :=
  begun_kept c req op .dsp (by decide)

theorem begun_frameBytes (c : Chip) (req : Requester) (op : Nat) :
    hact (begun c req op) * vact (begun c req op) = hact c * vact c :=
  frameBytes_congr (congrArg Dsp.held (begun_dsp c req op)) (begun_kept c req op .live (by decide))

/-! ### DSP_WRITE -/

theorem dspWriteAnswer_data {c : Chip} {a : Nat} {bs : List Byte} (hdis : dsiDisabled c = false) (hlen : bs.length % 4 = 0)
    (hne : bs ≠ []) : dspWriteAnswer c a (some bs) = if dspWriteFits a bs then ansOk else ansReject .field := by
  have hsome : ¬ (bs.length % 4 ≠ 0 ∨ bs.isEmpty = true) := by
    rw [not_or, not_not, List.isEmpty_iff]
    exact ⟨hlen, hne⟩
  unfold dspWriteAnswer
  dsimp only
  rw [hdis, if_neg Bool.false_ne_true, if_neg hsome]

theorem exec_dspWrite {s : State} {req : Requester} {a : Nat} {bs : List Byte} {x : Answer}
    (hperf : performs s.chip req 0x0601 .pixel = true) (hx : dspWriteAnswer s.chip a (some bs) = x) :
    exec (.dspWrite req a (some bs)) s = .next { s with
      chip := complete (begun s.chip req 0x0601) req x,
      dram := if x.status == .ok then mputs s.dram a bs else s.dram } := by
  change execDspWrite req a (some bs) s = _
  rw [execDspWrite, hx, perform_of_performs _ _ _ _ _ hperf, hperf]
  rfl

/-! ### A frame start -/

def unheld (c : Chip) : Chip := modDsp c (fun d => { d with held := none })

/-- R333: the gains of the frame that starts. -/
def frameTaken (c : Chip) : Chip := takeFree (slewGains (scanReported (unheld c) (takeMethod (unheld c))))

def frameOpen (c : Chip) : Chip := modDsp (frameTaken c) (fun d => { d with inFrame := true })

theorem frameStart_opens {c : Chip} (hr : dspRuns c = true) (hv : videoOn c.dsp = true) (hs : c.dsp.stopFrames = 0) :
    frameStart c = flip (frameOpen c) := by
  unfold frameStart
  rw [hr, hv, if_pos (by decide)]
  dsimp only
  rw [if_neg]
  · rfl
  · change ¬ 0 < c.dsp.stopFrames
    omega

theorem frameStart_stopped {c : Chip} (hr : dspRuns c = true) (hv : videoOn c.dsp = true) (hs : c.dsp.stopFrames ≠ 0) :
    frameStart c = modDsp (unheld c) (fun d => { d with stopFrames := d.stopFrames - 1, inFrame := false }) := by
  unfold frameStart
  rw [hr, hv, if_pos (by decide)]
  dsimp only
  rw [if_pos]
  · rfl
  · change 0 < c.dsp.stopFrames
    omega

theorem frameTaken_kept (c : Chip) : ChipKeptBut [.age, .freeCount, .host, .out, .regs] (unheld c) (frameTaken c) :=
  (kept_takeFree (by decide)).2 ((kept_slewGains (by decide)).2 ((kept_scanReported _ (by decide)).2
    ((kept_takeMethod (by decide)).2 (.refl _ _))))

theorem frameOpen_kept (c : Chip) : ChipKeptBut [.age, .dsp, .freeCount, .host, .out, .regs] c (frameOpen c) :=
  (kept_modDsp _ (by decide)).2 (((kept_modDsp _ (by decide)).2 (.refl _ c)).trans ((frameTaken_kept c).mono (by decide)))

theorem frameOpen_dsp (c : Chip) : (frameOpen c).dsp = { c.dsp with held := none, inFrame := true } := by
  have htaken : (frameTaken c).dsp = { c.dsp with held := none } := frameTaken_kept c .dsp (by decide)
  rw [frameOpen, modDsp, htaken]

theorem immBit_frameOpen {c : Chip} {a b : Nat} (h : immBit c a b = true) : immBit (frameOpen c) a b = true := by
  have hregs : (frameOpen c).regs = (scanReported (unheld c) (takeMethod (unheld c))).regs :=
    (kept_modDsp _ (by decide)).2 ((kept_takeFree (by decide)).2 ((kept_slewGains (by decide)).2
      (.refl [.age, .dsp, .freeCount] _))) .regs (by decide)
  rw [immBit_of_regs hregs]
  have htake : immBit (takeMethod (unheld c)) a b = true :=
    (immBit_of_regs ((kept_takeMethod (by decide)).2 (.refl [.age] (unheld c)) .regs (by decide)) a b).trans h
  unfold scanReported
  split
  · exact immBit_raiseEvt_of _ (by decide) htake
  · exact htake

/-- R328: the buffer that the flip shows. -/
def flippedDsp (b : Buffer) (d : Dsp) : Dsp := { d with front := some { b with owner := none }, pend := none, noFlip := false }

theorem flip_some {c : Chip} {b : Buffer} (h : c.dsp.pend = some b) :
    flip c = completeOpt (dspEvt (modDsp c (flippedDsp b)) 0) b.owner ansOk := by
  unfold Machine.flip
  rw [h]
  rfl

theorem flip_none {c : Chip} (h : c.dsp.pend = none) : flip c = c := by
  unfold Machine.flip
  rw [h]

theorem flip_dsp {c : Chip} {b : Buffer} (h : c.dsp.pend = some b) : (flip c).dsp = flippedDsp b c.dsp := by
  rw [flip_some h, (kept_completeOpt _ _ (by decide)).2 (.refl [.host, .out] _) .dsp (by decide)]
  exact raiseEvt_dsp _ _ _

theorem flip_inFrame (c : Chip) : (flip c).dsp.inFrame = c.dsp.inFrame := by
  cases h : c.dsp.pend with
  | none => rw [flip_none h]
  | some b => rw [flip_dsp h]; rfl

theorem immBit_flip {c : Chip} {a b : Nat} (h : immBit c a b = true) : immBit (flip c) a b = true := by
  cases hp : c.dsp.pend with
  | none => rw [flip_none hp]; exact h
  | some x =>
    rw [flip_some hp, immBit_of_regs (completeOpt_regs _ _ _)]
    exact immBit_raiseEvt_of _ (by decide) h

theorem exec_frameFree {s : State} (hr : dspRuns s.chip = true) (hv : videoOn s.chip.dsp = true)
    (hl : frameLocked s.chip = true) : exec .frameFree s = .next { s with chip := frameStart (dspEvt s.chip 6) } := by
  change execFrameFree s = _
  rw [execFrameFree, onChip, hr, hv, hl, if_pos (by decide)]

/-! ### A frame end -/

/-- R329: the frame that is sent. -/
def frameSent (c : Chip) (dram : List Host.Cell) : Emit :=
  .frame (if c.dsp.fallback then none else c.dsp.front.map (·.addr)) (pixelType c) (sentPixels c dram)

def endedDsp (d : Dsp) : Dsp := { d with inFrame := false, frameCnt := (d.frameCnt + 1) % 2 ^ 32, framed := true }

/-- R329, R332: the frame is sent and counted. -/
def frameCounted (c : Chip) (dram : List Host.Cell) : Chip := modDsp (emit c (frameSent c dram)) endedDsp

/-- R333: the ageing that the frame adds. -/
def frameAged (c : Chip) (dram : List Host.Cell) (dur : Nat) : Chip :=
  addStress { c with age := { c.age with clip := sat (2 ^ 32 - 1) (clipped c dram) } } dram dur

theorem frameEnd_eq {c : Chip} (dram : List Host.Cell) (dur : Nat) (e : Bool) (h : c.dsp.inFrame = true) :
    frameEnd c dram dur e = takeFree (checkFrame (frameAged (frameCounted c dram) dram dur) dram e) := by
  unfold frameEnd frameAged frameCounted frameSent
  rw [if_pos h]
  rfl

theorem frameAged_kept (c : Chip) (dram : List Host.Cell) (dur : Nat) : ChipKeptBut [.age] c (frameAged c dram dur) :=
  (kept_addStress _ _ (by decide)).2 ((kept_set_age (by decide)).2 (.refl _ c))

theorem frameCounted_kept (c : Chip) (dram : List Host.Cell) : ChipKeptBut [.dsp, .out] c (frameCounted c dram) :=
  (kept_modDsp _ (by decide)).2 ((kept_emit _ (by decide)).2 (.refl _ c))

/-- R330: the result of a checksum. -/
def checkedDsp (got : Word) (ok fall : Bool) (run : Nat) (d : Dsp) : Dsp :=
  { d with
    crcCalc := got, crcMatch := ok, crcRun := run, fallback := fall,
    crcFails := if ok then d.crcFails else (d.crcFails + 1) % 2 ^ 32 }

theorem checkFrame_none {c : Chip} (dram : List Host.Cell) (e : Bool) (h : c.dsp.front = none) : checkFrame c dram e = c := by
  unfold checkFrame
  rw [h]

theorem checkFrame_match {c : Chip} {dram : List Host.Cell} {b : Buffer} (h : c.dsp.front = some b)
    (hf : c.dsp.fallback = false) (hcrc : crc32 (mgets dram b.addr (hact c * vact c * 4)) = b.crc) :
    checkFrame c dram false = modDsp c (checkedDsp b.crc true false 0) := by
  unfold checkFrame
  rw [h]
  dsimp only
  rw [hcrc, hf, beq_self_eq_true]
  rfl

theorem checkFrame_second {c : Chip} {dram : List Host.Cell} {b : Buffer} (e : Bool) (h : c.dsp.front = some b)
    (hf : c.dsp.fallback = false) (hrun : c.dsp.crcRun = 1)
    (hcrc : crc32 (mgets dram b.addr (hact c * vact c * 4)) ≠ b.crc) : checkFrame c dram e =
      reportSrc (dspEvt (modDsp c (checkedDsp (crc32 (mgets dram b.addr (hact c * vact c * 4))) false true 2)) 1) 147 0 := by
  unfold checkFrame
  rw [h]
  dsimp only
  rw [beq_eq_false_iff_ne.2 hcrc, hf, hrun, Bool.false_and]
  rfl

theorem exec_dspFrameEnd (s : State) (d : Nat) (e : Bool) : exec (.dspFrameEnd d e) s = .next { s with
    chip := frameEnd s.chip s.dram d e } := rfl

/-- R329: the frame end before its checksum is compared. -/
def frameShown (c : Chip) (dram : List Host.Cell) (dur : Nat) : Chip := frameAged (frameCounted c dram) dram dur

theorem frameShown_kept (c : Chip) (dram : List Host.Cell) (dur : Nat) :
    ChipKeptBut [.age, .dsp, .out] c (frameShown c dram dur) :=
  ((frameCounted_kept c dram).mono (by decide)).trans ((frameAged_kept _ dram dur).mono (by decide))

theorem frameShown_dsp (c : Chip) (dram : List Host.Cell) (dur : Nat) : (frameShown c dram dur).dsp = endedDsp c.dsp :=
  frameAged_kept _ dram dur .dsp (by decide)

theorem frameShown_out (c : Chip) (dram : List Host.Cell) (dur : Nat) :
    (frameShown c dram dur).out = frameSent c dram :: c.out := frameAged_kept _ dram dur .out (by decide)

theorem frameShown_bytes (c : Chip) (dram : List Host.Cell) (dur : Nat) :
    hact (frameShown c dram dur) * vact (frameShown c dram dur) = hact c * vact c :=
  frameBytes_congr ((congrArg Dsp.held (frameShown_dsp c dram dur)).trans rfl) (frameShown_kept c dram dur .live (by decide))

theorem exec_dspFrameEnd_shown {s : State} (d : Nat) (e : Bool) (h : s.chip.dsp.inFrame = true) :
    exec (.dspFrameEnd d e) s = .next { s with
      chip := takeFree (checkFrame (frameShown s.chip s.dram d) s.dram e) } :=
  (exec_dspFrameEnd s d e).trans (congrArg (fun x => Host.Outcome.next { s with chip := x }) (frameEnd_eq s.dram d e h))

/-- Settles O31: publication and frames (R324, R327 to R330, R345, R362). -/
theorem displayFrames : Obligations.DisplayFrames := by
  unfold Obligations.DisplayFrames
  refine ⟨fun s hopen hready hdis hp hfits => ?_, fun s hopen hready hdis hover => ?_,
    fun s req a w hperf hdis ha hfits hp => ?_, fun s req old a b w v hperf hdis ha hfits hp => ?_,
    fun s req a bs hperf hdis hlen hne hfits => ?_, fun s req a bs hperf hdis hlen hne hfits => ?_,
    fun s b hl hr hv hs hp => ?_, fun s hl hr hv hs => ?_, fun s hr hv hl hs => ?_, fun s d e hin hfront => ?_,
    fun s d b hin hfront hfall hcrc => ?_, fun s d b x hin hfront hfall hrun hcrc => ?_⟩
  case _ =>
    have hexec := exec_dspPubGo hopen hready hdis
    rw [publish_waits _ _ hfits hp] at hexec
    exact answers_chip hexec ⟨keptBut_chip.2 ((kept_modDsp _ (by decide)).2 (.refl _ _)), rfl⟩
  case _ =>
    have hexec := exec_dspPubGo hopen hready hdis
    rw [publish_over _ hover] at hexec
    exact answers_chip hexec ⟨keptBut_chip.2 ((kept_dspEvt _ (by decide)).2 (.refl _ _)),
      regsKept_raiseEvt _ _ (List.mem_singleton_self _), immBit_raiseEvt _ _ 2 (by decide)⟩
  case _ =>
    have hexec := exec_dspPublish w hperf hdis ha
    rw [publish_waits _ _ (by rw [begun_frameBytes]; exact hfits) (by rw [begun_dsp]; exact hp)] at hexec
    refine answers_chip hexec ⟨keptBut_chip.2 ((kept_modDsp _ (by decide)).2 ((begun_kept _ _ _).mono (by decide))), ?_⟩
    exact congrArg (pending ⟨a, w, some req⟩) (begun_dsp ..)
  case _ =>
    have hexec := exec_dspPublish w hperf hdis ha
    rw [publish_supersedes _ (by rw [begun_frameBytes]; exact hfits) (by rw [begun_dsp]; exact hp)] at hexec
    have hk := (kept_complete old (ansReject .superseded) (by decide)).2 (.refl [.host, .out] (begun s.chip req 0x0602))
    refine answers_chip hexec ⟨keptBut_chip.2 ((kept_modDsp _ (by decide)).2
      (((begun_kept _ _ _).mono (by decide)).trans (hk.mono (by decide)))), ?_, rfl⟩
    exact congrArg (pending ⟨a, w, some req⟩) ((hk .dsp (by decide)).trans (begun_dsp ..))
  case _ =>
    have hans := dspWriteAnswer_data (a := a) hdis hlen hne
    rw [hfits, if_pos rfl] at hans
    exact ⟨_, exec_dspWrite hperf hans, rfl, rfl, rfl, rfl, fun k hk => (mget_mputs_inside _ _ _ _ hk).trans
      (List.getD_eq_getElem bs 0#8 hk).symm,
      fun k hk => mget_mputs_outside _ _ _ _ hk⟩
  case _ =>
    have hans := dspWriteAnswer_data (a := a) hdis hlen hne
    rw [hfits, if_neg Bool.false_ne_true] at hans
    exact replies_chip (exec_dspWrite hperf hans) rfl
  case _ =>
    have hexec : exec .dspFrameStart s = .next { s with chip := flip (frameOpen s.chip) } := by
      change execDspFrameStart s = _
      rw [execDspFrameStart, onChip, hl, if_neg Bool.false_ne_true, frameStart_opens hr hv hs]
    have hdsp := frameOpen_dsp s.chip
    have hpend : (frameOpen s.chip).dsp.pend = some b := by rw [hdsp]; exact hp
    refine answers_chip hexec ⟨keptBut_chip.2 ((kept_flip (by decide)).2 (frameOpen_kept s.chip)), ?_, ?_⟩
    · exact (flip_dsp hpend).trans (by rw [hdsp]; rfl)
    · dsimp only
      rw [flip_some hpend, immBit_of_regs (completeOpt_regs _ _ _)]
      exact immBit_raiseEvt _ _ 0 (by decide)
  case _ =>
    have hexec : exec .dspFrameStart s = .next { s with
        chip := modDsp (unheld s.chip) (fun d => { d with stopFrames := d.stopFrames - 1, inFrame := false }) } := by
      change execDspFrameStart s = _
      rw [execDspFrameStart, onChip, hl, if_neg Bool.false_ne_true, frameStart_stopped hr hv hs]
    exact answers_chip hexec ⟨keptBut_chip.2 ((kept_modDsp _ (by decide)).2 ((kept_modDsp _ (by decide)).2 (.refl _ _))), rfl⟩
  case _ =>
    have hevt := (kept_dspEvt 6 (by decide)).2 (.refl [.regs, .host, .out] s.chip)
    have hdsp : (dspEvt s.chip 6).dsp = s.chip.dsp := hevt .dsp (by decide)
    have hruns : dspRuns (dspEvt s.chip 6) = true := by
      unfold dspRuns
      rw [hevt .sup (by decide)]
      exact hr
    have hexec := exec_frameFree hr hv hl
    rw [frameStart_opens hruns (by rw [hdsp]; exact hv) (by rw [hdsp]; exact hs)] at hexec
    refine answers_chip hexec ⟨keptBut_chip.2 ((kept_flip (by decide)).2 ((hevt.mono (by decide)).trans
      (frameOpen_kept _))), ?_, ?_⟩
    · exact (flip_inFrame _).trans (congrArg Dsp.inFrame (frameOpen_dsp _))
    · exact immBit_flip (immBit_frameOpen (immBit_raiseEvt s.chip _ 6 (by decide)))
  case _ =>
    have hexec := exec_dspFrameEnd_shown d e hin
    rw [checkFrame_none _ _ (by rw [frameShown_dsp]; exact hfront)] at hexec
    refine answers_chip hexec ⟨keptBut_chip.2 ((kept_takeFree (by decide)).2 ((frameShown_kept _ _ _).mono (by decide))),
      frameShown_dsp .., (frameShown_out ..).trans ?_⟩
    rw [frameSent, hfront]
    cases s.chip.dsp.fallback <;> rfl
  case _ =>
    have hexec := exec_dspFrameEnd_shown d false hin
    rw [checkFrame_match (b := b) (by rw [frameShown_dsp]; exact hfront) (by rw [frameShown_dsp]; exact hfall)
      (by rw [frameShown_bytes]; exact hcrc)] at hexec
    refine answers_chip hexec ⟨keptBut_chip.2 ((kept_takeFree (by decide)).2 ((kept_modDsp _ (by decide)).2
      ((frameShown_kept _ _ _).mono (by decide)))), (frameShown_out ..).trans ?_, rfl, rfl, rfl, ?_⟩
    · rw [frameSent, hfront, hfall]
      rfl
    · exact (congrArg Dsp.crcFails (frameShown_dsp s.chip s.dram d) :)
  case _ =>
    have hexec := exec_dspFrameEnd_shown d x hin
    rw [checkFrame_second x (b := b) (by rw [frameShown_dsp]; exact hfront) (by rw [frameShown_dsp]; exact hfall)
      (by rw [frameShown_dsp]; exact hrun) (by rw [frameShown_bytes]; exact hcrc)] at hexec
    have hevt := (kept_dspEvt 1 (by decide)).2 (.refl [.regs, .host, .out] (modDsp (frameShown s.chip s.dram d)
      (checkedDsp (crc32 (mgets s.dram b.addr (hact (frameShown s.chip s.dram d) * vact (frameShown s.chip s.dram d) * 4)))
        false true 2)))
    have hdsp := hevt .dsp (by decide)
    refine answers_chip hexec ⟨storesKept_chip s _, _, rfl, ?_, ?_, ?_, ?_, immBit_raiseEvt _ _ 1 (by decide)⟩
    · exact ((kept_modDsp _ (by decide)).2 ((frameShown_kept _ _ _).mono (by decide))).trans (hevt.mono (by decide))
    · rw [hdsp]; rfl
    · rw [hdsp]; rfl
    · rw [hdsp]
      exact (congrArg (fun d : Dsp => (d.crcFails + 1) % 2 ^ 32) (frameShown_dsp s.chip s.dram d)).trans rfl

end Sys2Proof
end

section
/-! PROOFS. Ageing and the emissive panel (R332 to R337). -/

namespace Sys2Proof

open Machine

/-! ### What has been sent stays sent -/

theorem mem_out_sendMsix {c : Chip} {x : Emit} (v : Nat) (h : x ∈ c.out) : x ∈ (sendMsix c v).out := by
  unfold sendMsix
  (repeat' split)
  all_goals first | exact h | exact List.mem_cons_of_mem _ h

theorem mem_out_raiseEvt {c : Chip} {x : Emit} (a b : Nat) (h : x ∈ c.out) : x ∈ (raiseEvt c a b).out := by
  have hroute : ∀ (d : Chip) k, x ∈ d.out → x ∈ (routeEvt d k).out := fun d k hd => by
    have hsent : x ∈ (if bitOf (regGet d (Reg.HST_IRQ_ROUTE k)) 8 && k != 15 then
        sendMsix d (fieldOf (regGet d (Reg.HST_IRQ_ROUTE k)) 4 0) else d).out := by
      split
      · exact mem_out_sendMsix _ hd
      · exact hd
    unfold routeEvt
    dsimp only
    split
    · exact List.mem_cons_of_mem _ hsent
    · exact hsent
  unfold raiseEvt
  split
  · exact h
  · exact hroute _ _ h

/-! ### Ageing -/

theorem exec_ageSense {s : State} (hr : dspRuns s.chip = true) (hscan : s.chip.age.scanning = true)
    (hp : s.chip.dsp.pstate = .on) (hin : s.chip.dsp.inFrame = false) (hs : s.chip.age.sensing = none)
    (hn : s.chip.dsp.frameCnt % max 1 (dspCfg s.chip Reg.DSP_AGE_SENSE 7 0) = 0) : exec .ageSense s = .next { s with
      chip := emit { s.chip with age := { s.chip.age with sensing := some s.chip.age.prog } }
        (.dcs (beBytes 1 (dspCfg s.chip Reg.DSP_AGE_SCMD 7 0) ++ beBytes 2 (s.chip.age.prog / 3 % tilesX s.chip) ++
          beBytes 2 (s.chip.age.prog / 3 / tilesX s.chip) ++ beBytes 1 (s.chip.age.prog % 3) ++
          beBytes 2 (dspCfg s.chip Reg.DSP_AGE_SENSE 19 8))) } := by
  change execAgeSense s = _
  rw [execAgeSense, onChip]
  dsimp only
  rw [hr, hscan, hp, hin, hs, hn, if_pos (by decide)]

theorem ageKeys_congr {c d : Chip} (hh : d.dsp.held = c.dsp.held) (hl : d.live = c.live) : ageKeys d = ageKeys c := by
  rw [ageKeys, ageKeys, tilesX, tilesX, tilesY, tilesY, hact, hact, vact, vact]
  rw [dspCfg_congr hh hl, dspCfg_congr hh hl]

/-- R334: a scan steps to its next key. -/
def scannedRec (a : Age) : Age := { a with prog := a.prog + 1, sensing := none }

theorem scanStep_next {c : Chip} (h : c.age.prog + 1 < ageKeys c) : scanStep c = { c with age := scannedRec c.age } := by
  unfold scanStep
  dsimp only
  rw [if_neg (Nat.not_le.2 h)]
  rfl

/-- R334: a reading out of range is counted. -/
def misread (c : Chip) : Chip := { c with age := { c.age with errors := sat 255 (c.age.errors + 1) } }

theorem exec_ageSenseRead_out {s : State} {k v : Nat} (hs : s.chip.age.sensing = some k) (hv : v * 100 < 5 * 65520 ∨ 65520 < v) :
    exec (.ageSenseRead v) s = .next { s with chip := scanStep (raiseEvt (misread s.chip) Reg.DSP_AGE_EVT 1) } := by
  change execAgeSenseRead v s = _
  rw [execAgeSenseRead, onChip, misread]
  dsimp only
  rw [hs]
  dsimp only
  rw [if_pos hv]

theorem exec_ageSenseRead_baseline {s : State} {k v : Nat} (hs : s.chip.age.sensing = some k) (hlow : 5 * 65520 ≤ v * 100)
    (hhigh : v ≤ 65520) (hb : s.chip.age.baselineScan = true) : exec (.ageSenseRead v) s = .next { s with
      chip := scanStep { s.chip with age := { s.chip.age with base := tput s.chip.age.base k v } } } := by
  change execAgeSenseRead v s = _
  rw [execAgeSenseRead, onChip]
  dsimp only
  rw [hs]
  dsimp only
  rw [if_neg (by omega), hb, if_pos rfl]

theorem exec_ageBaseline {s : State} (hopen : windowClosed s.chip Reg.DSP_AGE_CTRL = false)
    (hready : regionReady s.chip .dsp = true) (hb : s.chip.age.baselineScan = false) : exec .ageBaseline s = .next { s with
      chip := { s.chip with age := { s.chip.age with
        baselineScan := true, scanning := true, prog := 0, errors := 0, sensing := none } } } := by
  change execAgeBaseline s = _
  rw [execAgeBaseline, onChip_reach _ hopen, ageBaseline, hready, hb, if_pos (by decide)]

/-! ### The emissive panel -/

theorem bookDisplay_kept (c : Chip) : ChipKeptBut [.host, .out, .regs, .tb] c (bookDisplay c) :=
  (kept_bookDisplay (by decide)).2 (.refl _ c)

theorem exec_panelPowerOn {s : State} (hr : dspRuns s.chip = true) (hp : s.chip.dsp.pstate = .off)
    (hdis : dsiDisabled s.chip = false) (hkept : s.chip.dsp.offKept = false) (hm : s.chip.sup.mode ≠ .standby) :
    exec .panelPowerOn s = .next { s with
      chip := modDsp s.chip (fun d => { d with pstate := .rails, step := 1, pnlDis := false, pnlEn := true, pnlRst := true }) } := by
  change execPanelPowerOn s = _
  rw [execPanelPowerOn, onChip, hr, hp, hdis, hkept, bne_iff_ne.2 hm, if_pos (by decide)]

theorem exec_panelPowerOnStep_rails {s : State} (hr : dspRuns s.chip = true) (hp : s.chip.dsp.pstate = .rails)
    (hk : s.chip.dsp.step = 1) : exec .panelPowerOnStep s = .next { s with
      chip := modDsp s.chip (fun d => { d with step := 2 }) } := by
  change execPanelPowerOnStep s = _
  rw [execPanelPowerOnStep, onChip, if_pos hr, hp, hk]
  rfl

theorem exec_panelPowerOnStep_reset {s : State} (hr : dspRuns s.chip = true) (hp : s.chip.dsp.pstate = .rails)
    (hk : s.chip.dsp.step = 2) : exec .panelPowerOnStep s = .next { s with
      chip := modDsp s.chip (fun d => { d with pstate := .init, step := 3, pnlRst := false }) } := by
  change execPanelPowerOnStep s = _
  rw [execPanelPowerOnStep, onChip, if_pos hr, hp, hk]
  rfl

theorem exec_panelPowerOnStep_init {s : State} (hr : dspRuns s.chip = true) (hp : s.chip.dsp.pstate = .init)
    (hk : s.chip.dsp.step = 3) : exec .panelPowerOnStep s = .next { s with
      chip := emits (modDsp s.chip (fun d => { d with step := 4 })) ((initWrites 257 (initTable s.chip)).1.map Emit.dcs) } := by
  change execPanelPowerOnStep s = _
  rw [execPanelPowerOnStep, onChip, if_pos hr, hp, hk]
  rfl

theorem exec_panelPowerOnStep_video {s : State} (hr : dspRuns s.chip = true) (hp : s.chip.dsp.pstate = .init)
    (hk : s.chip.dsp.step = 4) : exec .panelPowerOnStep s = .next { s with
      chip := bookDisplay (modDsp s.chip (fun d => { d with step := 5, framed := false })) } := by
  change execPanelPowerOnStep s = _
  rw [execPanelPowerOnStep, onChip, if_pos hr, hp, hk]
  rfl

theorem exec_panelPowerOnStep_on {s : State} (hr : dspRuns s.chip = true) (hp : s.chip.dsp.pstate = .init)
    (hk : s.chip.dsp.step = 5)
    (hframed : s.chip.dsp.framed = true) : exec .panelPowerOnStep s = .next { s with
      chip := dspEvt (emit (modDsp s.chip (fun d => { d with pstate := .on, step := 6 })) (.dcs [0x29#8])) 3 } := by
  change execPanelPowerOnStep s = _
  rw [execPanelPowerOnStep, onChip, if_pos hr, hp, hk]
  exact congrArg (fun x => Host.Outcome.next { s with chip := x }) (if_pos hframed)

/-- R337: power-off of a panel that shows or starts. -/
theorem exec_panelPowerOff_shown {s : State} (hdue : panelOffDue s.chip = true) (hin : s.chip.dsp.inFrame = false)
    (hp : s.chip.dsp.pstate = .on ∨ s.chip.dsp.pstate = .init) : exec .panelPowerOff s = .next { s with
      chip := emit (modDsp s.chip (fun d => { d with pstate := .offseq, step := 1 })) (.dcs [0x28#8]) } := by
  change execPanelPowerOff s = _
  rw [execPanelPowerOff, onChip, hdue, hin, if_neg (by decide)]
  obtain hp | hp := hp <;> rw [hp]

theorem exec_panelPowerOff_rails {s : State} (hdue : panelOffDue s.chip = true) (hin : s.chip.dsp.inFrame = false)
    (hp : s.chip.dsp.pstate = .rails) : exec .panelPowerOff s = .next { s with
      chip := modDsp s.chip (fun d => { d with pstate := .offseq, step := 2 }) } := by
  change execPanelPowerOff s = _
  rw [execPanelPowerOff, onChip, hdue, hin, if_neg (by decide), hp]

theorem exec_panelPowerOffStep_sleep {s : State} (hp : s.chip.dsp.pstate = .offseq) (hk : s.chip.dsp.step = 1) :
    exec .panelPowerOffStep s = .next { s with
      chip := emit (modDsp s.chip (fun d => { d with step := 2 })) (.dcs [0x10#8]) } := by
  change execPanelPowerOffStep s = _
  rw [execPanelPowerOffStep, onChip, hp, hk]
  rfl

theorem exec_panelPowerOffStep_reset {s : State} (hp : s.chip.dsp.pstate = .offseq) (hk : s.chip.dsp.step = 2) :
    exec .panelPowerOffStep s = .next { s with
      chip := bookDisplay (ageSave (modDsp s.chip (fun d =>
        { d with step := 3, pnlRst := true, inFrame := false, held := none }))) } := by
  change execPanelPowerOffStep s = _
  rw [execPanelPowerOffStep, onChip, hp, hk]
  rfl

theorem exec_panelPowerOffStep_discharge {s : State} (hp : s.chip.dsp.pstate = .offseq) (hk : s.chip.dsp.step = 3) :
    exec .panelPowerOffStep s = .next { s with
      chip := dspEvt (modDsp s.chip (fun d => { d with pstate := .discharge, step := 4, pnlEn := false, pnlDis := true })) 5 } := by
  change execPanelPowerOffStep s = _
  rw [execPanelPowerOffStep, onChip, hp, hk]
  rfl

theorem exec_panelPowerOffStep_done {s : State} (hp : s.chip.dsp.pstate = .discharge) (hk : s.chip.dsp.step = 4) :
    exec .panelPowerOffStep s = .next { s with
      chip := dspEvt (modDsp s.chip (fun d => { d with pstate := .off, step := 5, pnlDis := false })) 4 } := by
  change execPanelPowerOffStep s = _
  rw [execPanelPowerOffStep, onChip, hp, hk]
  rfl

/-- Settles O32: ageing and the emissive panel (R332 to R337). -/
theorem panelCommands : Obligations.PanelCommands := by
  unfold Obligations.PanelCommands
  refine ⟨fun s hr hact => ?_, fun s hr => ?_, fun s hr hscan hp hin hs hn => ?_, fun s k v hs hk hv => ?_,
    fun s k v hs hk hlow hhigh hb => ?_, fun s hopen hready hb => ?_, fun s hr hp hdis hkept hm => ?_, fun s hr hp hk => ?_,
    fun s hr hp hk => ?_, fun s hr hp hk => ?_, fun s hr hp hk => ?_, fun s hr hp hk hframed => ?_,
    fun s hdue hin hp => ?_, fun s hdue hin hp => ?_, fun s hp hk => ?_, fun s hp hk => ?_, fun s hp hk => ?_,
    fun s hp hk => ?_⟩
  case _ =>
    have hexec : exec .ageRecompute s = .next { s with
        chip := takeFree { s.chip with age := { s.chip.age with
          target := ageTarget s.chip,
          gains := (List.range (ageKeys s.chip)).map (fun k => (k, tileGain s.chip (ageTarget s.chip) k)) } } } := by
      change execAgeRecompute s = _
      rw [execAgeRecompute, onChip, hr, bne_iff_ne.2 hact, if_pos (by decide)]
    exact answers_chip hexec ⟨keptBut_chip.2 ((kept_takeFree (by decide)).2 ((kept_set_age (by decide)).2 (.refl _ _))), rfl, rfl⟩
  case _ =>
    have hexec : exec .ageSave s = .next { s with chip := raiseEvt (ageSave s.chip) Reg.DSP_AGE_EVT 2 } := by
      change execAgeSave s = _
      rw [execAgeSave, onChip, if_pos hr]
    exact answers_chip hexec ⟨keptBut_chip.2 ((kept_raiseEvt _ _ (by decide)).2 ((kept_ageSave (by decide)).2 (.refl _ _))),
      raiseEvt_age _ _ _, immBit_raiseEvt _ _ 2 (by decide)⟩
  case _ =>
    refine answers_chip (exec_ageSense hr hscan hp hin hs hn) ⟨keptBut_chip.2 ((kept_emit _ (by decide)).2
      ((kept_set_age (by decide)).2 (.refl _ _))), rfl, _, rfl, ?_, ?_⟩
    · simp only [List.length_append, length_beBytes]
    · rfl
  case _ =>
    have hevt := (kept_raiseEvt Reg.DSP_AGE_EVT 1 (by decide)).2 (.refl [.regs, .host, .out] (misread s.chip))
    have hage : (raiseEvt (misread s.chip) Reg.DSP_AGE_EVT 1).age = (misread s.chip).age := hevt .age (by decide)
    have hkeys : ageKeys (raiseEvt (misread s.chip) Reg.DSP_AGE_EVT 1) = ageKeys s.chip :=
      ageKeys_congr (congrArg Dsp.held (hevt .dsp (by decide))) (hevt .live (by decide))
    have hexec := exec_ageSenseRead_out hs hv
    rw [scanStep_next (by rw [hage, hkeys]; exact hk)] at hexec
    refine answers_chip hexec ⟨keptBut_chip.2 ((kept_set_age (by decide)).2 (ChipKeptBut.trans
      ((kept_set_age (by decide)).2 (.refl _ _)) (hevt.mono (by decide)))), ?_, immBit_raiseEvt _ _ 1 (by decide)⟩
    dsimp only
    rw [hage, scannedRec, misread, sat_eq_min]
  case _ =>
    have hexec := exec_ageSenseRead_baseline hs hlow hhigh hb
    rw [scanStep_next (c := { s.chip with age := { s.chip.age with base := tput s.chip.age.base k v } }) hk] at hexec
    exact answers_chip hexec ⟨keptBut_chip.2 ((kept_set_age (by decide)).2 ((kept_set_age (by decide)).2 (.refl _ _))), rfl⟩
  case _ =>
    exact answers_chip (exec_ageBaseline hopen hready hb) ⟨keptBut_chip.2 ((kept_set_age (by decide)).2 (.refl _ _)), rfl⟩
  case _ =>
    exact answers_chip (exec_panelPowerOn hr hp hdis hkept hm) ⟨keptBut_chip.2 ((kept_modDsp _ (by decide)).2 (.refl _ _)), rfl⟩
  case _ =>
    exact answers_chip (exec_panelPowerOnStep_rails hr hp hk) ⟨keptBut_chip.2 ((kept_modDsp _ (by decide)).2 (.refl _ _)), rfl⟩
  case _ =>
    exact answers_chip (exec_panelPowerOnStep_reset hr hp hk) ⟨keptBut_chip.2 ((kept_modDsp _ (by decide)).2 (.refl _ _)), rfl⟩
  case _ =>
    exact answers_chip (exec_panelPowerOnStep_init hr hp hk) ⟨keptBut_chip.2 ((kept_emits _ (by decide)).2
      ((kept_modDsp _ (by decide)).2 (.refl _ _))), rfl, rfl⟩
  case _ =>
    have hbook := bookDisplay_kept (modDsp s.chip (fun d => { d with step := 5, framed := false }))
    have hdsp := hbook .dsp (by decide)
    refine answers_chip (exec_panelPowerOnStep_video hr hp hk) ⟨keptBut_chip.2 (ChipKeptBut.trans
      ((kept_modDsp _ (by decide)).2 (.refl _ _)) (hbook.mono (by decide))), hdsp, ?_⟩
    dsimp only
    rw [hdsp, modDsp, videoOn]
    dsimp only
    rw [hp]
    rfl
  case _ =>
    refine answers_chip (exec_panelPowerOnStep_on hr hp hk hframed) ⟨keptBut_chip.2 ((kept_dspEvt _ (by decide)).2
      ((kept_emit _ (by decide)).2 ((kept_modDsp _ (by decide)).2 (.refl _ _)))), raiseEvt_dsp _ _ _,
      mem_out_raiseEvt _ _ List.mem_cons_self, immBit_raiseEvt _ _ 3 (by decide)⟩
  case _ =>
    exact answers_chip (exec_panelPowerOff_shown hdue hin hp) ⟨keptBut_chip.2 ((kept_emit _ (by decide)).2
      ((kept_modDsp _ (by decide)).2 (.refl _ _))), rfl, rfl⟩
  case _ =>
    exact answers_chip (exec_panelPowerOff_rails hdue hin hp) ⟨keptBut_chip.2 ((kept_modDsp _ (by decide)).2 (.refl _ _)), rfl⟩
  case _ =>
    exact answers_chip (exec_panelPowerOffStep_sleep hp hk) ⟨keptBut_chip.2 ((kept_emit _ (by decide)).2
      ((kept_modDsp _ (by decide)).2 (.refl _ _))), rfl, rfl⟩
  case _ =>
    have hbook := bookDisplay_kept (ageSave (modDsp s.chip (fun d =>
      { d with step := 3, pnlRst := true, inFrame := false, held := none })))
    have hdsp := hbook .dsp (by decide)
    refine answers_chip (exec_panelPowerOffStep_reset hp hk) ⟨keptBut_chip.2 (ChipKeptBut.trans
      ((kept_ageSave (by decide)).2 ((kept_modDsp _ (by decide)).2 (.refl _ _))) (hbook.mono (by decide))), hdsp,
      hbook .age (by decide), ?_⟩
    dsimp only
    rw [hdsp, ageSave, modDsp, videoOn]
    dsimp only
    rw [hp]
    rfl
  case _ =>
    exact answers_chip (exec_panelPowerOffStep_discharge hp hk) ⟨keptBut_chip.2 ((kept_dspEvt _ (by decide)).2
      ((kept_modDsp _ (by decide)).2 (.refl _ _))), raiseEvt_dsp _ _ _, immBit_raiseEvt _ _ 5 (by decide)⟩
  case _ =>
    exact answers_chip (exec_panelPowerOffStep_done hp hk) ⟨keptBut_chip.2 ((kept_dspEvt _ (by decide)).2
      ((kept_modDsp _ (by decide)).2 (.refl _ _))), raiseEvt_dsp _ _ _, immBit_raiseEvt _ _ 4 (by decide)⟩

end Sys2Proof
end

section
/-! PROOFS. The bistable legal panel (R232, R339 to R342, R345). -/

namespace Sys2Proof

open Machine

theorem exec_bpUpdateStart {s : State} (v : Int) (f : Bool) (hmay : bpMayUpdate s.chip = true) (hst : s.chip.bp.state = .idle) :
    exec (.bpUpdateStart v f) s = .next { s with chip := bpUpdate s.chip v f } := by
  change execBpUpdateStart v f s = _
  rw [execBpUpdateStart, onChip, hmay, hst, if_pos (by decide)]

/-- R339, R342: whether an update is a full one. -/
def bpFull (c : Chip) : Bool := c.bp.first || decide (dspCfg c Reg.DSP_BP_CFG 15 8 ≤ c.bp.sinceFull + 1)

/-- R340: what an update sends and how many phases it takes are its own matter; the rest is said here. -/
theorem bpUpdate_starts (c : Chip) (v : Int) : ChipKeptBut [.bp, .out] c (bpUpdate c v false) ∧
    ∃ len, (bpUpdate c v false).bp = { c.bp with
      state := .updating, busy := true, phase := 0, temp := v, updates := (c.bp.updates + 1) % 2 ^ 16,
      sinceFull := if bpFull c then 0 else c.bp.sinceFull + 1, waiting := false, rendering := c.leg.display,
      phasesLeft := len } := by
  unfold bpUpdate
  rw [if_neg Bool.false_ne_true]
  exact ⟨(kept_modBp _ (by decide)).2 ((kept_emits _ (by decide)).2 (.refl _ c)), _, rfl⟩

theorem recovered_congr {c d : Chip} (hh : d.dsp.held = c.dsp.held) (hl : d.live = c.live) (img : List Bool) :
    recovered d img = recovered c img := by
  have hw : bpWidth d = bpWidth c := dspCfg_congr hh hl ..
  have hv : bpHeight d = bpHeight c := dspCfg_congr hh hl ..
  unfold recovered cellCode
  rw [hw, hv]

/-- R341: the end of an update is noted. -/
def busyFallen (c : Chip) : Chip := modBp c (fun b => { b with busy := false, phasesLeft := 0 })

/-- R341: the image that an update has shown. -/
def imageShown (c : Chip) (img : List Bool) : Chip :=
  raiseEvt (modBp (emit (busyFallen c) (.bpCmd 0x07 [])) (fun b =>
    { b with state := .idle, crc := crc32 (recovered (busyFallen c) img), shown := img, redrawn := true, first := false }))
    Reg.DSP_BP_EVT 0

theorem exec_bpBusyFall_updating {s : State} (img : List Bool) (hst : s.chip.bp.state = .updating) :
    exec (.bpBusyFall img false) s = .next { s with
      chip := legalReadback (imageShown s.chip img) (crc32 (recovered (busyFallen s.chip) img)) } := by
  change execBpBusyFall img false s = _
  rw [execBpBusyFall, onChip]
  dsimp only
  rw [if_pos hst, if_neg Bool.false_ne_true]
  rfl

theorem exec_bpBusyFall_cleanup {s : State} (img : List Bool) (f : Bool) (hst : s.chip.bp.state = .cleanup) :
    exec (.bpBusyFall img f) s = .next { s with chip := modBp (busyFallen s.chip) (fun b => { b with state := .idle }) } := by
  have hne : s.chip.bp.state ≠ .updating := by rw [hst]; decide
  change execBpBusyFall img f s = _
  rw [execBpBusyFall, onChip]
  dsimp only
  rw [if_neg hne, if_pos hst]
  rfl

theorem imageShown_kept (c : Chip) (img : List Bool) : ChipKeptBut [.bp, .host, .out, .regs] c (imageShown c img) :=
  (kept_raiseEvt _ _ (by decide)).2 ((kept_modBp _ (by decide)).2 ((kept_emit _ (by decide)).2
    ((kept_modBp _ (by decide)).2 (.refl _ c))))

theorem imageShown_bp (c : Chip) (img : List Bool) : (imageShown c img).bp = { c.bp with
    busy := false, phasesLeft := 0, state := .idle, crc := crc32 (recovered (busyFallen c) img), shown := img,
    redrawn := true, first := false } := raiseEvt_bp _ _ _

theorem legalReadback_match {c : Chip} {crc : Word} (h : crc32 c.bp.rendering = crc) :
    legalReadback c crc = clearSrc { c with leg := { c.leg with dispFault := false } } 149 := by
  unfold legalReadback
  rw [if_pos h]

/-- R345: the panel as it is when its update is tried again. -/
def faultOver (c : Chip) : Chip := clearSrc (modBp c (fun b => { b with state := .idle, busy := false })) 148

theorem faultOver_kept (c : Chip) : ChipKeptBut [.bp, .flt] c (faultOver c) :=
  (kept_clearSrc _ (by decide)).2 ((kept_modBp _ (by decide)).2 (.refl _ c))

theorem exec_bpFaultRetry {s : State} (v : Int) (hst : s.chip.bp.state = .fault)
    (hmay : bpMayUpdate (faultOver s.chip) = true) : exec (.bpFaultRetry v false) s = .next { s with
      chip := bpUpdate (faultOver s.chip) v false } := by
  change execBpFaultRetry v false s = _
  rw [execBpFaultRetry, onChip]
  dsimp only
  rw [if_pos hst, if_neg Bool.false_ne_true]
  exact congrArg (fun x => Host.Outcome.next { s with chip := x }) (if_pos hmay)

theorem dspRuns_of_sup {c d : Chip} (h : d.sup = c.sup) : dspRuns d = dspRuns c := by
  unfold dspRuns
  rw [h]

/-- Settles O33: the bistable legal panel (R232, R339 to R342, R345). -/
theorem bistableCommands : Obligations.BistableCommands := by
  unfold Obligations.BistableCommands
  refine ⟨fun s v hmay hst => ?_, fun s v f hno => ?_, fun s v hmay hst => ?_, fun s img hst hcrc => ?_,
    fun s img f hst => ?_, fun s v hst hr hdis hdue hkept hwait hrun => ?_⟩
  case _ =>
    obtain ⟨hk, len, hbp⟩ := bpUpdate_starts s.chip v
    have hexec := exec_bpUpdateStart v false hmay hst
    generalize bpUpdate s.chip v false = d at hexec hk hbp
    refine answers_chip hexec ⟨keptBut_chip.2 hk, ?_⟩
    dsimp only
    rw [hbp]
    exact ⟨rfl, rfl, rfl, rfl, rfl, rfl, rfl, rfl, rfl⟩
  case _ =>
    have hcond : (bpMayUpdate s.chip && s.chip.bp.state == .idle) = false := by
      obtain h | h := hno
      · rw [h, Bool.false_and]
      · rw [beq_eq_false_iff_ne.2 h, Bool.and_false]
    change execBpUpdateStart v f s = _
    rw [execBpUpdateStart, onChip, hcond, if_neg Bool.false_ne_true]
  case _ =>
    have hexec : exec (.bpUpdateStart v true) s = .next { s with
        chip := reportSrc (raiseEvt (modBp s.chip (fun b => { b with state := .fault, waiting := true })) Reg.DSP_BP_EVT 2)
          148 0 } := (exec_bpUpdateStart v true hmay hst).trans
      (congrArg (fun x => Host.Outcome.next { s with chip := x }) (if_pos rfl))
    exact reports_chip hexec ⟨(kept_raiseEvt _ _ (by decide)).2 ((kept_modBp _ (by decide)).2 (.refl _ _)),
      raiseEvt_bp _ _ _, immBit_raiseEvt _ _ 2 (by decide)⟩
  case _ =>
    have hrec : recovered (busyFallen s.chip) img = recovered s.chip img := recovered_congr rfl rfl img
    have hk := imageShown_kept s.chip img
    have hbp := imageShown_bp s.chip img
    have hout : .bpCmd 0x07 [] ∈ (imageShown s.chip img).out := mem_out_raiseEvt _ _ List.mem_cons_self
    have hevt : immBit (imageShown s.chip img) Reg.DSP_BP_EVT 0 = true := immBit_raiseEvt _ _ 0 (by decide)
    have hexec := exec_bpBusyFall_updating img hst
    rw [hrec] at hexec hbp
    generalize imageShown s.chip img = d at hexec hk hbp hout hevt
    rw [legalReadback_match (by rw [hbp]; exact hcrc.symm)] at hexec
    have hclear := (kept_clearSrc 149 (by decide)).2 (.refl [.flt] { d with leg := { d.leg with dispFault := false } })
    have hcbp : (clearSrc { d with leg := { d.leg with dispFault := false } } 149).bp = d.bp := hclear .bp (by decide)
    have hleg : d.leg = s.chip.leg := hk .leg (by decide)
    refine answers_chip hexec ⟨keptBut_chip.2 (ChipKeptBut.trans ((kept_set_leg (by decide)).2 (hk.mono (by decide)))
      (hclear.mono (by decide))), ?_, ?_, ?_, ?_, ?_, ?_, ?_, ?_, ?_⟩
    · dsimp only; rw [hcbp, hbp]
    · dsimp only; rw [hcbp, hbp]
    · dsimp only; rw [hcbp, hbp]
    · dsimp only; rw [hcbp, hbp]
    · dsimp only; rw [hcbp, hbp]
    · dsimp only; rw [hclear .out (by decide)]; exact hout
    · dsimp only; rw [hcbp, hbp]
    · dsimp only; rw [hclear .leg (by decide), hleg]
    · exact (immBit_of_regs (hclear .regs (by decide)) _ _).trans hevt
  case _ =>
    exact answers_chip (exec_bpBusyFall_cleanup img f hst) ⟨keptBut_chip.2 ((kept_modBp _ (by decide)).2
      ((kept_modBp _ (by decide)).2 (.refl _ _))), rfl⟩
  case _ =>
    have hk := faultOver_kept s.chip
    have hbp : (faultOver s.chip).bp = { s.chip.bp with state := .idle, busy := false } :=
      (kept_clearSrc 148 (by decide)).2 (.refl [.flt] (modBp s.chip (fun b => { b with state := .idle, busy := false })))
        .bp (by decide)
    have hmay : bpMayUpdate (faultOver s.chip) = true := by
      have hdis' : bpDisabled (faultOver s.chip) = false := (immBit_of_regs (hk .regs (by decide)) _ _).trans hdis
      rw [bpMayUpdate, dspRuns_of_sup (hk .sup (by decide)), hr, hdis', hbp, hk .dsp (by decide), hkept,
        hk .leg (by decide), hrun]
      dsimp only
      rw [hdue, hwait]
      rfl
    have hexec := exec_bpFaultRetry v hst hmay
    obtain ⟨huk, len, hubp⟩ := bpUpdate_starts (faultOver s.chip) v
    generalize bpUpdate (faultOver s.chip) v false = d at hexec huk hubp
    refine answers_chip hexec ⟨keptBut_chip.2 ((hk.mono (by decide)).trans (huk.mono (by decide))), ?_, ?_, ?_⟩
    · dsimp only; rw [hubp]
    · dsimp only; rw [hubp]; exact congrArg Leg.display (hk .leg (by decide))
    · dsimp only; rw [hubp]

end Sys2Proof
end

section
/-! PROOFS. The endpoint and the ring pairs (R347 to R352, R356, R358, R369). -/

namespace Sys2Proof

open Machine

/-! ### What an event leaves of the host block -/

theorem sendMsix_host (c : Chip) (v : Nat) : ∃ p, (sendMsix c v).host = { c.host with msixPending := p } := by
  unfold sendMsix
  split
  · exact ⟨_, rfl⟩
  · split
    · exact ⟨_, rfl⟩
    · exact ⟨_, rfl⟩

theorem routeEvt_host (c : Chip) (k : Nat) : ∃ p, (routeEvt c k).host = { c.host with msixPending := p } := by
  unfold routeEvt
  dsimp only
  split
  · split
    · exact sendMsix_host c _
    · exact ⟨_, rfl⟩
  · split
    · exact sendMsix_host c _
    · exact ⟨_, rfl⟩

/-- R358: an event leaves of the host block a pending message. -/
theorem raiseEvt_host (c : Chip) (a b : Nat) : ∃ p, (raiseEvt c a b).host = { c.host with msixPending := p } := by
  unfold raiseEvt
  split
  · exact ⟨_, rfl⟩
  · exact routeEvt_host _ _

theorem ringOf_of_rings {c d : Chip} (h : d.host.rings = c.host.rings) (q : Nat) : ringOf d q = ringOf c q := by
  rw [ringOf, ringOf, h]

theorem ringOf_raiseEvt (c : Chip) (a b q : Nat) : ringOf (raiseEvt c a b) q = ringOf c q := by
  obtain ⟨p, hp⟩ := raiseEvt_host c a b
  exact ringOf_of_rings (by rw [hp]) q

theorem ringOf_setRing_same (c : Chip) (q : Nat) (r : RingSt) : ringOf (setRing c q r) q = r := tget_tput_self ..

theorem ringOf_setRing_ne (c : Chip) {p q : Nat} (r : RingSt) (h : p ≠ q) : ringOf (setRing c q r) p = ringOf c p :=
  tget_tput_ne _ _ _ h

/-! ### The reset of the endpoint -/

/-- R347: a reset of the block leaves every register outside its frame. -/
theorem regGet_resetHost (c : Chip) {a : Nat} (h : a / 0x10000 ≠ 0x404) : regGet (resetHost c) a = regGet c a := by
  have hkeep : (fun k => k / 0x10000 != 0x404) a = true := bne_iff_ne.2 h
  rw [regGet, regGet, rget, rget]
  have hfind : tfind (resetHost c).regs a = tfind c.regs a :=
    (tfind_filter c.regs (fun k => k / 0x10000 != 0x404) a).trans (if_pos hkeep)
  rw [hfind]

theorem exec_perst (s : State) : exec (.perst true) s = .next { s with
    chip := modHost (resetHost (dropMarkers s.chip (fun _ => true))) (fun h => { h with perst := true }) } := rfl

/-! ### The link and the lock -/

theorem exec_pcieLinkUp {s : State} (v w : Nat) (hr : ready s.chip .hst = true) (hp : s.chip.host.perst = false) :
    exec (.pcieLinkUp v w) s = .next { s with
      chip := modHost s.chip (fun h => { h with linkUp := true, speed := v, width := w }) } := by
  change execPcieLinkUp v w s = _
  rw [execPcieLinkUp, onChip, hr, hp, if_pos (by decide)]

/-- R349: the host block once its link is down. -/
def linkLost (h : HostIf) : HostIf := { h with linkUp := false, speed := 0, width := 0 }

theorem exec_pcieLinkDown {s : State} (hu : s.chip.host.linkUp = true) : exec .pcieLinkDown s = .next { s with
    chip := hstEvt (modHost s.chip linkLost) 2 } := by
  change execPcieLinkDown s = _
  rw [execPcieLinkDown, onChip, if_pos hu]
  rfl

theorem exec_wlockSet {s : State} (hopen : windowClosed s.chip Reg.HST_CTRL = false) (hr : ready s.chip .hst = true) :
    exec .wlockSet s = .next { s with chip := modHost s.chip (fun h => { h with wlock := true }) } := by
  change execWlockSet s = _
  rw [execWlockSet, onChip_reach _ hopen, setWlock, if_pos hr]

theorem exec_lockedWrite {s : State} {a : Nat} (w : Word) (hl : lockedOut s.chip a = true) (hn : noRegister a = false) :
    exec (.lockedWrite a w) s = .next { s with chip := hstEvt s.chip 4 } := by
  change execLockedWrite a w s = _
  rw [execLockedWrite, onChip, if_pos hl, hn, lockWrite, Bool.false_and, if_neg Bool.false_ne_true]

/-! ### Ring pairs -/

/-- R352: a ring pair that starts. -/
def startedRing : RingSt := { RingSt.init with state := .run, phase := true }

/-- R352: the configuration taken and the ring pair at its start. -/
def ringTaken (c : Chip) (q : Ring) (w : Word) : Chip :=
  setRing (regPut c (Reg.HST_RING_CFG q.val) (w &&& ringCfgMask)) q.val startedRing

theorem ringBaseZero_ringTaken (c : Chip) (q : Ring) (w : Word) : ringBaseZero (ringTaken c q w) q.val = ringBaseZero c q.val := by
  have hreg : ∀ {a}, a ≠ Reg.HST_RING_CFG q.val → regGet (ringTaken c q w) a = regGet c a := fun h => regGet_regPut_ne c _ h
  have h1 : Reg.HST_SQ_BASE_LO q.val ≠ Reg.HST_RING_CFG q.val := by rw [Reg.HST_SQ_BASE_LO, Reg.HST_RING_CFG]; omega
  have h2 : Reg.HST_SQ_BASE_HI q.val ≠ Reg.HST_RING_CFG q.val := by rw [Reg.HST_SQ_BASE_HI, Reg.HST_RING_CFG]; omega
  have h3 : Reg.HST_CQ_BASE_LO q.val ≠ Reg.HST_RING_CFG q.val := by rw [Reg.HST_CQ_BASE_LO, Reg.HST_RING_CFG]; omega
  have h4 : Reg.HST_CQ_BASE_HI q.val ≠ Reg.HST_RING_CFG q.val := by rw [Reg.HST_CQ_BASE_HI, Reg.HST_RING_CFG]; omega
  rw [ringBaseZero, ringBaseZero, hreg h1, hreg h2, hreg h3, hreg h4]

theorem exec_ringEnable {s : State} {q : Ring} {w : Word} (hopen : windowClosed s.chip (Reg.HST_RING_CFG q.val) = false)
    (hr : ready s.chip .hst = true) (hst : (ringOf s.chip q.val).state = .off) (hen : bitOf w 0 = true)
    (hsz : ringSizesOk w = true) : exec (.ringEnable q w) s = .next { s with
      chip := if ringBaseZero s.chip q.val then ringError (ringTaken s.chip q w) q 5 false else ringTaken s.chip q w } := by
  change execRingEnable q w s = _
  rw [execRingEnable, onChip_reach _ hopen, if_pos hen, ringEnable, if_pos hr, hst]
  dsimp only
  rw [if_pos hsz, ← ringBaseZero_ringTaken s.chip q w]
  rfl

/-- R359: the chip with the work of a ring pair given up. -/
def ringGivenUp (c : Chip) (q : Ring) : Chip :=
  modHost (dropMarkers c (fun r => r == q)) (fun h => { h with inflight := h.inflight.filter (fun d => d.ring != q) })

theorem ringError_plain (c : Chip) (q : Ring) (err : Nat) : ringError c q err false =
    hstEvt (setRing (ringGivenUp c q) q.val { ringOf (ringGivenUp c q) q.val with state := .error, err := err }) 0 := rfl

theorem ringError_state (c : Chip) (q : Ring) (err : Nat) : (ringOf (ringError c q err false) q.val).state = .error ∧
    (ringOf (ringError c q err false) q.val).err = err ∧ immBit (ringError c q err false) Reg.HST_EVT 0 = true := by
  rw [ringError_plain, hstEvt, ringOf_raiseEvt, ringOf_setRing_same]
  exact ⟨rfl, rfl, immBit_raiseEvt _ _ 0 (by decide)⟩

theorem ringError_kept (c : Chip) (q : Ring) (err : Nat) (dma : Bool) :
    ChipKeptBut [.host, .out, .regs, .tb] c (ringError c q err dma) := (kept_ringError q err dma (by decide)).2 (.refl _ c)

/-- R352: what of a drained ring pair has not started is answered DISABLED. -/
def unstartedAnswered (q : Ring) (d : Desc) : Desc :=
  if d.ring == q && !d.started && d.answer == none then { d with dup := false, answer := some (ansStatus .disabled) } else d

/-- R352: the ring pair drains. -/
def ringDrains (c : Chip) (q : Ring) : Chip :=
  modHost (setRing c q.val { ringOf c q.val with state := .draining }) (fun h =>
    { h with inflight := h.inflight.map (unstartedAnswered q) })

theorem drainRing_eq (c : Chip) (q : Ring) : drainRing c q = settleDrain (flush (ringDrains c q)) q.val := rfl

theorem ringDrains_state (c : Chip) (q : Ring) : (ringOf (ringDrains c q) q.val).state = .draining :=
  congrArg RingSt.state (ringOf_setRing_same c q.val { ringOf c q.val with state := .draining })

theorem settleDrain_empty {c : Chip} {q : Nat} (h : (ringOf c q).state = .draining) (he : c.host.inflight = []) :
    (ringOf (settleDrain c q) q).state = .off := by
  unfold settleDrain
  dsimp only
  rw [if_pos ⟨h, by rw [he]; exact Bool.false_ne_true⟩, ringOf_setRing_same]

theorem flush_empty {c : Chip} (h : c.host.inflight = []) : flush c = c := by
  rw [flush, h]
  rfl

/-- Clearing bit 0 clears it. -/
theorem bitOf_withBit_zero (w : Word) : bitOf (withBit w 0 false) 0 = false := by
  simp only [bitOf, withBit, withField, fieldOf, Bool.toNat_false, BitVec.getLsbD_ofNat, Nat.testBit_zero, Nat.shiftRight_zero]
  rw [Bool.and_eq_false_iff]
  right
  rw [decide_eq_false_iff_not]
  omega

theorem exec_ringDisable {s : State} {q : Ring} {w : Word} (hopen : windowClosed s.chip (Reg.HST_RING_CFG q.val) = false)
    (hr : ready s.chip .hst = true) (hst : (ringOf s.chip q.val).state = .run) (hen : bitOf w 0 = false) :
    exec (.ringDisable q w) s = .next { s with
      chip := drainRing (regPut s.chip (Reg.HST_RING_CFG q.val)
        (withBit (regGet s.chip (Reg.HST_RING_CFG q.val)) 0 false)) q } := by
  change execRingDisable q w s = _
  rw [execRingDisable, onChip_reach _ hopen, hen, if_neg Bool.false_ne_true, ringDisable, if_pos hr]
  dsimp only
  rw [hst]

/-! ### Doorbells -/

theorem exec_sqDoorbell {s : State} {q : Ring} (v : BitVec 12) (hr : ready s.chip .hst = true)
    (hst : (ringOf s.chip q.val).state = .run) : exec (.sqDoorbell q v) s = .next { s with
      chip := if sqSize s.chip q.val ≤ v.toNat then ringError s.chip q 1 false
        else setRing s.chip q.val { ringOf s.chip q.val with sqTail := v.toNat } } := by
  change execSqDoorbell q v s = _
  rw [execSqDoorbell, onChip]
  dsimp only
  rw [hr, hst, if_pos (by decide)]

theorem exec_cqDoorbell {s : State} {q : Ring} {v : BitVec 12} (hr : ready s.chip .hst = true)
    (hst : (ringOf s.chip q.val).state = .run) (hv : v.toNat < cqSize s.chip q.val)
    (hu : (v.toNat + cqSize s.chip q.val - (ringOf s.chip q.val).cqHead) % cqSize s.chip q.val ≤ cqUsed s.chip q.val) :
    exec (.cqDoorbell q v) s = .next { s with
      chip := setRing s.chip q.val { ringOf s.chip q.val with cqHead := v.toNat } } := by
  have hno : ¬ (cqSize s.chip q.val ≤ v.toNat ∨
      cqUsed s.chip q.val < (v.toNat + cqSize s.chip q.val - (ringOf s.chip q.val).cqHead) % cqSize s.chip q.val) := by
    rw [not_or]
    exact ⟨Nat.not_le.2 hv, Nat.not_lt.2 hu⟩
  change execCqDoorbell q v s = _
  rw [execCqDoorbell, onChip]
  dsimp only
  rw [if_pos (by rw [hr, hst]; rfl), if_neg hno]

theorem exec_coalTimer {s : State} {q : Ring} (ht : imm s.chip (Reg.HST_RING_COAL q.val) 23 8 ≠ 0)
    (hu : 0 < (ringOf s.chip q.val).unsignalled) : exec (.coalTimer q) s = .next { s with
      chip := sendMsix (setRing s.chip q.val { ringOf s.chip q.val with unsignalled := 0 })
        (imm s.chip (Reg.HST_RING_CFG q.val) 20 16) } := by
  change execCoalTimer q s = _
  rw [execCoalTimer, onChip]
  dsimp only
  rw [if_pos ⟨ht, hu⟩]
  rfl

/-! ### Messages -/

/-- R358: the table with one double word of an entry written. -/
def msixTaken (c : Chip) (v : Fin 32) (k : Fin 4) (w : Word) : Chip :=
  modHost c (fun h => { h with msix := tput h.msix v.val (msixPut (msixEntry c v.val) k.val w) })

theorem exec_msixEntry {s : State} (v : Fin 32) (k : Fin 4) (w : Word) (hr : ready s.chip .hst = true) :
    exec (.msixTableWrite (.entry v k w)) s = .next { s with chip := sendPending (msixTaken s.chip v k w) v.val } := by
  change execMsixTableWrite (.entry v k w) s = _
  rw [execMsixTableWrite, onChip, if_pos hr]
  rfl

theorem exec_msixMask {s : State} (hr : ready s.chip .hst = true) :
    exec (.msixTableWrite (.functionMask true)) s = .next { s with
      chip := (List.range 32).foldl sendPending (modHost s.chip (fun h => { h with fnMask := true })) } := by
  change execMsixTableWrite (.functionMask true) s = _
  rw [execMsixTableWrite, onChip, if_pos hr]

theorem sendPending_masked {c : Chip} (v : Nat) (h : c.host.fnMask = true) : sendPending c v = c := by
  unfold sendPending
  rw [h, Bool.not_true, Bool.and_false, Bool.false_and, if_neg Bool.false_ne_true]

theorem sendPending_table (c : Chip) (v : Nat) : (sendPending c v).host.msix = c.host.msix := by
  unfold sendPending
  split <;> rfl

/-- R358: a pending message of an unmasked entry. -/
theorem sendPending_sends {c : Chip} {v : Nat} (hv : v < 32) (hp : c.host.msixPending.getLsbD v = true)
    (hm : (msixEntry c v).mask = false) (hf : c.host.fnMask = false) (hr : ready c .hst = true) :
    (sendPending c v).out = .msix v :: c.out ∧ (sendPending c v).host.msixPending.getLsbD v = false := by
  unfold sendPending
  rw [hp, hm, hf, hr, if_pos (by decide)]
  refine ⟨rfl, ?_⟩
  have hbit : (BitVec.ofNat 32 (2 ^ v)).getLsbD v = true := by
    rw [BitVec.getLsbD_ofNat, decide_eq_true hv, Bool.true_and, Nat.testBit_two_pow_self]
  change (c.host.msixPending &&& ~~~BitVec.ofNat 32 (2 ^ v)).getLsbD v = false
  rw [BitVec.getLsbD_and, BitVec.getLsbD_not, hbit, Bool.not_true, Bool.and_false, Bool.and_false]

/-- Settles O34: the endpoint and the ring pairs (R347 to R352, R356, R358, R369). -/
theorem hostInterfaceCommands : Obligations.HostInterfaceCommands := by
  unfold Obligations.HostInterfaceCommands
  refine ⟨fun s => ?_, fun s => ?_, fun s v w hr hp => ?_, fun s hu => ?_, fun s hopen hr => ?_, fun s a w hl hn => ?_,
    fun s q w hopen hr hst hen hsz hbase => ?_, fun s q w hopen hr hst hen hsz hbase => ?_,
    fun s q w hopen hr hst hen => ?_, fun s q v hr hst hv => ?_, fun s q v hr hst hv => ?_, fun s q v hr hst hv hu => ?_,
    fun s q ht hu => ?_, fun s v k w hr => ?_, fun s hr => ?_⟩
  case _ =>
    have hdrop := (kept_dropMarkers (fun _ => true) (by decide)).2 (.refl [.tb] s.chip)
    refine answers_chip (exec_perst s) ⟨keptBut_chip.2 ((kept_modHost _ (by decide)).2 ((kept_resetHost (by decide)).2
      (hdrop.mono (by decide)))), rfl, rfl, rfl, rfl, fun _ => rfl, rfl, fun a ha => ?_⟩
    exact regGet_resetHost (dropMarkers s.chip (fun _ => true)) ha
  case _ =>
    exact ⟨_, rfl, keptBut_chip.2 ((kept_modHost (fun h => { h with perst := false }) (by decide)).2 (.refl _ s.chip)), rfl⟩
  case _ => exact answers_chip (exec_pcieLinkUp v w hr hp) ⟨keptBut_chip.2 ((kept_modHost _ (by decide)).2 (.refl _ _)), rfl⟩
  case _ =>
    obtain ⟨p, hhost⟩ := raiseEvt_host (modHost s.chip linkLost) Reg.HST_EVT 2
    refine answers_chip (exec_pcieLinkDown hu) ⟨keptBut_chip.2 ((kept_hstEvt _ (by decide)).2
      ((kept_modHost _ (by decide)).2 (.refl _ _))), ?_, ?_, ?_, ?_, ?_, immBit_raiseEvt _ _ 2 (by decide)⟩
    · exact congrArg HostIf.linkUp hhost
    · exact congrArg HostIf.speed hhost
    · exact congrArg HostIf.width hhost
    · exact (congrArg HostIf.rings hhost :)
    · exact (congrArg HostIf.inflight hhost :)
  case _ => exact answers_chip (exec_wlockSet hopen hr) ⟨keptBut_chip.2 ((kept_modHost _ (by decide)).2 (.refl _ _)), rfl⟩
  case _ =>
    exact answers_chip (exec_lockedWrite w hl hn) ⟨keptBut_chip.2 ((kept_hstEvt _ (by decide)).2 (.refl _ _)),
      regsKept_raiseEvt _ _ (List.mem_singleton_self _), immBit_raiseEvt _ _ 4 (by decide)⟩
  case _ =>
    have hexec := exec_ringEnable hopen hr hst hen hsz
    rw [hbase, if_neg Bool.false_ne_true] at hexec
    exact answers_chip hexec ⟨keptBut_chip.2 ((kept_setRing _ _ (by decide)).2 ((kept_regPut _ _ (by decide)).2 (.refl _ _))),
      regsKept_regPut s.chip _ (List.mem_singleton_self _), regGet_regPut_self s.chip _ _, ringOf_setRing_same .., fun p hp => ringOf_setRing_ne _ _ hp⟩
  case _ =>
    have hexec := exec_ringEnable hopen hr hst hen hsz
    rw [hbase, if_pos rfl] at hexec
    obtain ⟨hstate, herr, hevt⟩ := ringError_state (ringTaken s.chip q w) q 5
    exact answers_chip hexec ⟨keptBut_chip.2 (ChipKeptBut.trans ((kept_setRing _ _ (by decide)).2
      ((kept_regPut _ _ (by decide)).2 (.refl _ _))) (ringError_kept _ _ _ _)), hstate, herr, hevt⟩
  case _ =>
    have hexec := exec_ringDisable hopen hr hst hen
    rw [drainRing_eq] at hexec
    have hput : ChipKeptBut [.regs] s.chip (regPut s.chip (Reg.HST_RING_CFG q.val)
      (withBit (regGet s.chip (Reg.HST_RING_CFG q.val)) 0 false)) := (kept_regPut _ _ (by decide)).2 (.refl _ _)
    have hbit : immBit (regPut s.chip (Reg.HST_RING_CFG q.val) (withBit (regGet s.chip (Reg.HST_RING_CFG q.val)) 0 false))
        (Reg.HST_RING_CFG q.val) 0 = false := by
      rw [immBit, regGet_regPut_self]
      exact bitOf_withBit_zero _
    generalize regPut s.chip (Reg.HST_RING_CFG q.val) (withBit (regGet s.chip (Reg.HST_RING_CFG q.val)) 0 false) = c
      at hexec hput hbit
    have hhost : c.host = s.chip.host := hput .host (by decide)
    have hdrain : ChipKeptBut [.host] c (ringDrains c q) := (kept_modHost _ (by decide)).2 ((kept_setRing _ _ (by decide)).2 (.refl _ c))
    have hk : ChipKeptBut [.host, .out] c (settleDrain (flush (ringDrains c q)) q.val) :=
      (kept_settleDrain _ (by decide)).2 ((kept_flush (by decide)).2 (hdrain.mono (by decide)))
    have hflight : (ringDrains c q).host.inflight = s.chip.host.inflight.map (unstartedAnswered q) :=
      (congrArg (fun h : HostIf => h.inflight.map (unstartedAnswered q)) hhost :)
    refine answers_chip hexec ⟨keptBut_chip.2 ((hput.mono (by decide)).trans (hk.mono (by decide))),
      (immBit_of_regs (hk .regs (by decide)) _ _).trans hbit, fun hnone => ?_, _, ringDrains_state c q, rfl, hflight⟩
    rw [hnone] at hflight
    dsimp only
    rw [flush_empty hflight]
    exact settleDrain_empty (ringDrains_state c q) hflight
  case _ =>
    have hexec := exec_sqDoorbell v hr hst
    rw [if_neg (Nat.not_le.2 hv)] at hexec
    exact answers_chip hexec ⟨keptBut_chip.2 ((kept_setRing _ _ (by decide)).2 (.refl _ _)), ringOf_setRing_same ..,
      fun p hp => ringOf_setRing_ne _ _ hp⟩
  case _ =>
    have hexec := exec_sqDoorbell v hr hst
    rw [if_pos hv] at hexec
    exact answers_chip hexec ⟨keptBut_chip.2 (ringError_kept _ _ _ _), ringError_state s.chip q 1⟩
  case _ =>
    exact answers_chip (exec_cqDoorbell hr hst hv hu) ⟨keptBut_chip.2 ((kept_setRing _ _ (by decide)).2 (.refl _ _)),
      ringOf_setRing_same .., fun p hp => ringOf_setRing_ne _ _ hp⟩
  case _ =>
    obtain ⟨p, hhost⟩ := sendMsix_host (setRing s.chip q.val { ringOf s.chip q.val with unsignalled := 0 })
      (imm s.chip (Reg.HST_RING_CFG q.val) 20 16)
    refine answers_chip (exec_coalTimer ht hu) ⟨keptBut_chip.2 ((kept_sendMsix _ (by decide)).2
      ((kept_setRing _ _ (by decide)).2 (.refl _ _))), ?_, rfl⟩
    exact (ringOf_of_rings (congrArg HostIf.rings hhost :) _).trans (ringOf_setRing_same ..)
  case _ =>
    refine answers_chip (exec_msixEntry v k w hr) ⟨keptBut_chip.2 ((kept_sendPending _ (by decide)).2
      ((kept_modHost _ (by decide)).2 (.refl _ _))), sendPending_table .., fun hp hm hf => ?_⟩
    refine sendPending_sends (c := msixTaken s.chip v k w) v.isLt hp ?_ hf hr
    rw [msixEntry] at hm ⊢
    rw [← sendPending_table]
    exact hm
  case _ =>
    have hexec := exec_msixMask hr
    rw [List.foldl_fixed' (fun v => sendPending_masked v rfl)] at hexec
    exact answers_chip hexec ⟨keptBut_chip.2 ((kept_modHost _ (by decide)).2 (.refl _ _)), rfl⟩

end Sys2Proof
end

section
/-! PROOFS. The fetch of a descriptor (R352, R353, R359, R362, R365, R366). -/

namespace Sys2Proof

open Machine

/-! ### A descriptor fetched -/

/-- R354, R359: the ring pair has had its turn, and its head has moved. -/
def headMoved (c : Chip) (q : Ring) : Chip :=
  setRing (modHost c (fun h => { h with turns := tput h.turns (ringPrio c q) q.val })) q.val
    { ringOf c q.val with
      sqHead := ((ringOf c q.val).sqHead + 1) %
        sqSize (modHost c (fun h => { h with turns := tput h.turns (ringPrio c q) q.val })) q.val }

theorem fetchDesc_eq (c : Chip) (q : Ring) (bs : List Byte) :
    fetchDesc c q bs = acceptDesc (headMoved c q) q (ringOf c q.val).sqHead bs := rfl

/-- R353: a descriptor as it goes in flight. -/
def flownDesc (c : Chip) (q : Ring) (bs : List Byte) (b : Block) (a : Option Answer) : Desc :=
  ⟨q, (ringOf c q.val).sqHead, wordOf (descNum bs 4 7), descNum bs 0 1, descByte bs 2, b, false, false, a⟩

/-- R353: the chip with a descriptor in flight, before the completions that may be written. -/
def flown (c : Chip) (q : Ring) (d : Desc) : Chip :=
  modHost (headMoved c q) (fun h => { h with inflight := h.inflight ++ [d] })

theorem fly_headMoved (c : Chip) (q : Ring) (d : Desc) : fly (headMoved c q) d = flush (flown c q d) := rfl

theorem flown_kept (c : Chip) (q : Ring) (d : Desc) : ChipKeptBut [.host] c (flown c q d) :=
  (kept_modHost _ (by decide)).2 ((kept_setRing _ _ (by decide)).2 ((kept_modHost _ (by decide)).2 (.refl _ c)))

theorem flush_flown_kept (c : Chip) (q : Ring) (d : Desc) : ChipKeptBut [.host, .out] c (flush (flown c q d)) :=
  (kept_flush (by decide)).2 ((flown_kept c q d).mono (by decide))

theorem exec_descriptorFetch {s : State} {q : Ring} {bs : List Byte} (hlen : bs.length = 64) (hmay : mayFetch s.chip q = true)
    (hturn : ownTurn s.chip q = true) : exec (.descriptorFetch q (.desc bs)) s = .next { s with
      chip := acceptDesc (headMoved s.chip q) q (ringOf s.chip q.val).sqHead bs } := by
  change execDescriptorFetch q (.desc bs) s = _
  rw [execDescriptorFetch, if_pos hlen, onChip, hmay, hturn, if_pos (by decide), fetchDesc_eq]

theorem exec_descriptorFetch_not {s : State} {q : Ring} {bs : List Byte} (hlen : bs.length = 64)
    (hno : mayFetch s.chip q = false ∨ ownTurn s.chip q = false) : exec (.descriptorFetch q (.desc bs)) s = .next s := by
  have hcond : (mayFetch s.chip q && ownTurn s.chip q) = false := by
    obtain h | h := hno
    · rw [h, Bool.false_and]
    · rw [h, Bool.and_false]
  change execDescriptorFetch q (.desc bs) s = _
  rw [execDescriptorFetch, if_pos hlen, onChip, hcond, if_neg Bool.false_ne_true]

theorem opBlock_headMoved (c : Chip) (q : Ring) (bs : List Byte) : opBlock (headMoved c q) bs = opBlock c bs := rfl

/-! ### Its answer -/

/-- R365: a descriptor whose tag is recorded under its opcode. -/
theorem acceptDesc_recorded {c : Chip} {q : Ring} {bs : List Byte} {b : Block} {a : Answer} (hsvc : ready c .svc = true)
    (href : c.sup.refLost = false) (hb : opBlock c bs = some b) (hrec : recovering c = false)
    (htag : wordOf (descNum bs 4 7) ≠ 0) (hop : sessionOp (descNum bs 0 1) = false)
    (hrd : recorded c q.val (wordOf (descNum bs 4 7)) (descNum bs 0 1) = some a) :
    acceptDesc (headMoved c q) q (ringOf c q.val).sqHead bs =
      fly (headMoved c q) (flownDesc c q bs b (some (ansReplay a))) := by
  have hsvc' : ready (headMoved c q) .svc = true := hsvc
  have href' : (headMoved c q).sup.refLost = false := href
  have hrec' : recovering (headMoved c q) = false := hrec
  have hrd' : recorded (headMoved c q) q.val (wordOf (descNum bs 4 7)) (descNum bs 0 1) = some a := hrd
  unfold acceptDesc
  dsimp only
  rw [hsvc', href', if_neg (by decide), opBlock_headMoved, hb]
  dsimp only
  rw [hrec', Bool.false_and, Bool.false_and, if_neg Bool.false_ne_true, if_neg htag, hop, if_neg Bool.false_ne_true, hrd']
  rfl

/-- R366: a descriptor that is looked at: the service firmware is ready, its opcode known and its tag fresh. -/
theorem acceptDesc_fresh {c : Chip} {q : Ring} {bs : List Byte} {b : Block} (hsvc : ready c .svc = true)
    (href : c.sup.refLost = false) (hb : opBlock c bs = some b) (hrec : recovering c = false)
    (htag : wordOf (descNum bs 4 7) ≠ 0) (hop : sessionOp (descNum bs 0 1) = false)
    (hrd : recorded c q.val (wordOf (descNum bs 4 7)) (descNum bs 0 1) = none)
    (hknown : tagKnown c q.val (wordOf (descNum bs 4 7)) = false)
    (hfly : tagFlying c q (wordOf (descNum bs 4 7)) (descNum bs 0 1) = false) (hfields : descFieldsOk bs = true)
    (hbuf : descBufferOk bs = true) :
    acceptDesc (headMoved c q) q (ringOf c q.val).sqHead bs = fly (headMoved c q) (flownDesc c q bs b none) := by
  have hknown' : tagKnown (headMoved c q) q.val (wordOf (descNum bs 4 7)) = false := hknown
  have hfly' : tagFlying (headMoved c q) q (wordOf (descNum bs 4 7)) (descNum bs 0 1) = false := hfly
  have hsvc' : ready (headMoved c q) .svc = true := hsvc
  have href' : (headMoved c q).sup.refLost = false := href
  have hrec' : recovering (headMoved c q) = false := hrec
  have hrd' : recorded (headMoved c q) q.val (wordOf (descNum bs 4 7)) (descNum bs 0 1) = none := hrd
  unfold acceptDesc
  dsimp only
  rw [hsvc', href', if_neg (by decide), opBlock_headMoved, hb]
  dsimp only
  rw [hrec', Bool.false_and, Bool.false_and, if_neg Bool.false_ne_true, if_neg htag, hop, if_neg Bool.false_ne_true, hrd']
  dsimp only
  rw [hknown', hfly', hfields, hbuf, if_neg Bool.false_ne_true, if_neg Bool.false_ne_true, if_neg (by decide),
    if_neg (by decide)]
  rfl

theorem acceptDesc_unknown {c : Chip} {q : Ring} {bs : List Byte} (hsvc : ready c .svc = true)
    (href : c.sup.refLost = false) (hb : opBlock c bs = none) :
    acceptDesc (headMoved c q) q (ringOf c q.val).sqHead bs =
      fly (headMoved c q) (flownDesc c q bs .ringEngine (some (ansReject .opcode))) := by
  have hsvc' : ready (headMoved c q) .svc = true := hsvc
  have href' : (headMoved c q).sup.refLost = false := href
  unfold acceptDesc
  dsimp only
  rw [hsvc', href', if_neg (by decide), opBlock_headMoved, hb]
  rfl

theorem acceptDesc_notReady {c : Chip} {q : Ring} {bs : List Byte} (hsvc : ready c .svc = false) :
    acceptDesc (headMoved c q) q (ringOf c q.val).sqHead bs =
      fly (headMoved c q) (flownDesc c q bs .ringEngine (some (ansStatus .notReady))) := by
  have hsvc' : ready (headMoved c q) .svc = false := hsvc
  unfold acceptDesc
  dsimp only
  rw [hsvc', Bool.not_false, Bool.true_or, if_pos rfl]
  rfl

/-! ### An error of the DMA -/

theorem ringError_dma (c : Chip) (q : Ring) (err : Nat) : ringError c q err true = hstEvt (ringError c q err false) 1 := rfl

theorem ringError_inflight (c : Chip) (q : Ring) (err : Nat) :
    (ringError c q err false).host.inflight = c.host.inflight.filter (fun d => d.ring != q) := by
  obtain ⟨p, hp⟩ := raiseEvt_host (setRing (ringGivenUp c q) q.val
    { ringOf (ringGivenUp c q) q.val with state := .error, err := err }) Reg.HST_EVT 0
  rw [ringError_plain, hstEvt, hp]
  rfl

/-- R359: a ring pair in ERROR by an error of the DMA. -/
theorem ringError_dma_state (c : Chip) (q : Ring) (err : Nat) : (ringOf (ringError c q err true) q.val).state = .error ∧
    (ringOf (ringError c q err true) q.val).err = err ∧ immBit (ringError c q err true) Reg.HST_EVT 1 = true ∧
    ∀ d ∈ (ringError c q err true).host.inflight, d.ring ≠ q := by
  obtain ⟨hstate, herr, -⟩ := ringError_state c q err
  obtain ⟨p, hp⟩ := raiseEvt_host (ringError c q err false) Reg.HST_EVT 1
  rw [ringError_dma, hstEvt, ringOf_raiseEvt, hp]
  refine ⟨hstate, herr, immBit_raiseEvt _ _ 1 (by decide), fun d hd => ?_⟩
  rw [ringError_inflight] at hd
  exact bne_iff_ne.1 (List.mem_filter.1 hd).2

/-- Settles O35: the fetch of a descriptor (R352, R353, R359, R362, R365, R366). -/
theorem descriptorFetch : Obligations.DescriptorFetch := by
  unfold Obligations.DescriptorFetch
  refine ⟨fun s q bs b hlen hmay hturn hsvc href hb hrec htag hop hnone hknown hfly hfields hbuf => ?_,
    fun s q bs b a hlen hmay hturn hsvc href hb hrec htag hop hsome => ?_, fun s q bs hlen hmay hturn hsvc href hb => ?_,
    fun s q bs hlen hmay hturn hsvc => ?_, fun s q bs hlen hno => exec_descriptorFetch_not hlen hno,
    fun s q hmay hturn => ?_, fun s q hst => ?_⟩
  case _ =>
    have hexec := exec_descriptorFetch hlen hmay hturn
    rw [acceptDesc_fresh hsvc href hb hrec htag hop hnone hknown hfly hfields hbuf, fly_headMoved] at hexec
    refine answers_chip hexec ⟨keptBut_chip.2 (flush_flown_kept _ _ _), _, rfl, ?_, rfl⟩
    exact congrArg RingSt.sqHead (ringOf_setRing_same _ q.val _)
  case _ =>
    have hexec := exec_descriptorFetch hlen hmay hturn
    rw [acceptDesc_recorded hsvc href hb hrec htag hop hsome, fly_headMoved] at hexec
    exact answers_chip hexec ⟨keptBut_chip.2 (flush_flown_kept _ _ _), _, rfl, rfl⟩
  case _ =>
    have hexec := exec_descriptorFetch hlen hmay hturn
    rw [acceptDesc_unknown hsvc href hb, fly_headMoved] at hexec
    exact answers_chip hexec ⟨keptBut_chip.2 (flush_flown_kept _ _ _), _, rfl, rfl⟩
  case _ =>
    have hexec := exec_descriptorFetch hlen hmay hturn
    rw [acceptDesc_notReady hsvc, fly_headMoved] at hexec
    exact answers_chip hexec ⟨keptBut_chip.2 (flush_flown_kept _ _ _), _, rfl, rfl⟩
  case _ =>
    have hexec : exec (.descriptorFetch q .fetchError) s = .next { s with chip := ringError s.chip q 3 true } := by
      change execDescriptorFetch q .fetchError s = _
      rw [execDescriptorFetch, onChip, hmay, hturn, if_pos (by decide)]
    exact answers_chip hexec ⟨keptBut_chip.2 (ringError_kept _ _ _ _), ringError_dma_state ..⟩
  case _ =>
    have hexec : exec (.descriptorFetch q .writeError) s = .next { s with chip := ringError s.chip q 4 true } := by
      change execDescriptorFetch q .writeError s = _
      rw [execDescriptorFetch, onChip, if_pos hst]
    exact answers_chip hexec ⟨keptBut_chip.2 (ringError_kept _ _ _ _), ringError_dma_state ..⟩

end Sys2Proof
end

section
/-! PROOFS. Keys and signatures (R402, R405, R406, R412, R414 to R420, R362). -/

namespace Sys2Proof

open Machine

/-! ### A state copy of the signature tree (R419) -/

theorem length_leBytes (n v : Nat) : (leBytes n v).length = n := by
  induction n generalizing v with
  | zero => rfl
  | succ n ih => exact congrArg (· + 1) (ih _)

theorem leNat_leBytes (n v : Nat) : leNat (leBytes n v) = v % 256 ^ n := by
  induction n generalizing v with
  | zero => rw [pow_zero, Nat.mod_one]; rfl
  | succ n ih =>
    change leNat (leBytes n (v >>> 8)) * 256 + (BitVec.ofNat 8 v).toNat = _
    rw [ih, BitVec.toNat_ofNat, pow_succ 256 n, Nat.mul_comm (256 ^ n) 256, Nat.mod_mul, Nat.shiftRight_eq_div_pow,
      show 2 ^ 8 = 256 from rfl]
    omega

theorem length_copyBody (k : XmtCopy) : (copyBody k).length = 60 := by
  simp only [copyBody, List.length_append, length_leBytes, List.length_replicate]

/-- R419: a copy that is whole reads back as it was written. -/
theorem readCopy_copyImage {k : XmtCopy} (hr : k.rseq < 2 ^ 64) (hn : k.next < 2 ^ 40) : readCopy (copyImage k) = some k := by
  have hlen : (copyImage k).length = 64 := by
    rw [copyImage, List.length_append, length_copyBody, length_leBytes]
  have hmagic : (copyImage k).take 4 = leBytes 4 0x584D5354 := by
    rw [copyImage, copyBody, List.append_assoc, List.append_assoc, List.append_assoc]
    exact List.take_left' (length_leBytes ..)
  have hdrop4 : (copyImage k).drop 4 = leBytes 8 k.rseq ++ (leBytes 5 k.next ++ (List.replicate 43 0#8 ++
      leBytes 4 (crc32 (copyBody k)).toNat)) := by
    conv_lhs => rw [copyImage]
    conv_lhs => arg 2; arg 1; rw [copyBody]
    rw [List.append_assoc, List.append_assoc, List.append_assoc]
    exact List.drop_left' (length_leBytes ..)
  have hrseq : ((copyImage k).drop 4).take 8 = leBytes 8 k.rseq := by
    rw [hdrop4]
    exact List.take_left' (length_leBytes ..)
  have hnext : ((copyImage k).drop 12).take 5 = leBytes 5 k.next := by
    have hdrop12 : (copyImage k).drop 12 = ((copyImage k).drop 4).drop 8 := by rw [List.drop_drop]
    rw [hdrop12, hdrop4, List.drop_left' (length_leBytes ..)]
    exact List.take_left' (length_leBytes ..)
  have hbody : (copyImage k).take 60 = copyBody k := List.take_left' (length_copyBody k)
  have hcheck : (copyImage k).drop 60 = leBytes 4 (crc32 (copyBody k)).toNat := List.drop_left' (length_copyBody k)
  have hcrc := (crc32 (copyBody k)).isLt
  have hcrcmod : (crc32 (copyBody k)).toNat % 256 ^ 4 = (crc32 (copyBody k)).toNat := Nat.mod_eq_of_lt (by omega)
  have hrmod : k.rseq % 256 ^ 8 = k.rseq := Nat.mod_eq_of_lt (by omega)
  have hnmod : k.next % 256 ^ 5 = k.next := Nat.mod_eq_of_lt (by omega)
  unfold readCopy
  rw [hlen, hmagic, hrseq, hnext, hbody, hcheck, leNat_leBytes, leNat_leBytes, leNat_leBytes, leNat_leBytes, hcrcmod, hrmod,
    hnmod, beq_self_eq_true, beq_self_eq_true]
  rfl

/-- R419: the copy in force is one that reads. -/
theorem readCopy_current {t : Tru} {isA : Bool} {k : XmtCopy} (h : currentCopy t = some (isA, k)) :
    readCopy (if isA then t.copyA else t.copyB) = some k := by
  unfold currentCopy at h
  split at h
  next a b ha hb =>
    split at h
    · cases h; exact ha
    · cases h; exact hb
  next a ha hb => cases h; exact ha
  next b ha hb => cases h; exact hb
  next => cases h

theorem currentCopy_newerB {t : Tru} {a b : XmtCopy} (ha : readCopy t.copyA = some a) (hb : readCopy t.copyB = some b)
    (h : a.rseq < b.rseq) : currentCopy t = some (false, b) := by
  unfold currentCopy
  rw [ha, hb]
  exact if_neg (Nat.not_le.2 h)

theorem currentCopy_newerA {t : Tru} {a b : XmtCopy} (ha : readCopy t.copyA = some a) (hb : readCopy t.copyB = some b)
    (h : b.rseq ≤ a.rseq) : currentCopy t = some (true, a) := by
  unfold currentCopy
  rw [ha, hb]
  exact if_pos h

theorem currentCopy_onlyA {t : Tru} {a : XmtCopy} (ha : readCopy t.copyA = some a) (hb : readCopy t.copyB = none) :
    currentCopy t = some (true, a) := by
  unfold currentCopy
  rw [ha, hb]

/-- R419: the copy that follows the one in force. -/
def nextCopy (k : XmtCopy) : XmtCopy := { rseq := k.rseq + 1, next := k.next + 1 }

/-- R419: a reservation takes the place of the older copy, and is in force. -/
theorem currentCopy_putCopy {c : Chip} {isA : Bool} {k : XmtCopy} (h : currentCopy c.tru = some (isA, k))
    (hread : readCopy (copyImage (nextCopy k)) = some (nextCopy k)) :
    ∃ x, currentCopy (putCopy c isA true (nextCopy k)).tru = some (x, nextCopy k) := by
  have hcur := readCopy_current h
  cases isA with
  | true => exact ⟨false, currentCopy_newerB (t := (putCopy c true true (nextCopy k)).tru) hcur hread (Nat.lt_succ_self _)⟩
  | false => exact ⟨true, currentCopy_newerA (t := (putCopy c false true (nextCopy k)).tru) hread hcur (Nat.le_succ _)⟩

theorem nextIndex_of_current {c : Chip} {x : Bool} {k : XmtCopy} (h : currentCopy c.tru = some (x, k)) :
    nextIndex c = k.next := by
  unfold nextIndex
  rw [h]

theorem putCopy_signs (c : Chip) (isA ok : Bool) (k : XmtCopy) : ChipKeptBut [.tru] c (putCopy c isA ok k) ∧
    (putCopy c isA ok k).tru.signQueue = c.tru.signQueue ∧ (putCopy c isA ok k).tru.signNow = c.tru.signNow := by
  cases isA with
  | true => exact ⟨(kept_set_tru (by decide)).2 (.refl _ c), rfl, rfl⟩
  | false => exact ⟨(kept_set_tru (by decide)).2 (.refl _ c), rfl, rfl⟩

/-! ### A signature -/

/-- R418: the chip with its first job taken. -/
def jobTaken (c : Chip) (js : List SignJob) : Chip := { c with tru := { c.tru with signQueue := js } }

theorem exec_xmssSign {s : State} {j : SignJob} {js : List SignJob} (r : Bool) (hq : s.chip.tru.signQueue = j :: js)
    (hx : s.chip.tru.xmt = .ready) (hnow : s.chip.tru.signNow = none) (hr : ready s.chip .tru = true)
    (hm : memberLocked s.chip 3 = false) (hp : s.chip.sup.mode ≠ .holdUp ∨ 12000 ≤ s.chip.pwd.budget) :
    exec (.xmssSign r) s = .next { s with chip := reserveIndex (jobTaken s.chip js) j r } := by
  have hpower : (s.chip.sup.mode != .holdUp || decide (12000 ≤ s.chip.pwd.budget)) = true := by
    rw [Bool.or_eq_true, bne_iff_ne, decide_eq_true_eq]
    exact hp
  change execXmssSign r s = _
  rw [execXmssSign, onChip]
  dsimp only
  rw [hq]
  dsimp only
  cases j with
  | legal n =>
    rw [if_pos (by exact ⟨hpower, hx, hnow, hr, hm⟩)]
    rfl
  | resign n =>
    rw [if_pos (by exact ⟨rfl, hx, hnow, hr, hm⟩)]
    rfl
  | attest q n =>
    rw [if_pos (by exact ⟨rfl, hx, hnow, hr, hm⟩)]
    rfl

/-- R418: the signature of a reserved index begins. -/
def signBegun (c : Chip) (j : SignJob) (i : Nat) : Chip :=
  { c with tru := { c.tru with signNow := some (j, i), xmt := .signing } }

theorem reserveIndex_reserved {c : Chip} {isA : Bool} {k : XmtCopy} (j : SignJob)
    (h : currentCopy c.tru = some (isA, k)) (hn : k.next + 1 < 2 ^ 40) (hr : k.rseq + 1 < 2 ^ 64) :
    reserveIndex c j true =
      if 2 ^ 40 - k.next = 2 ^ 20 then raiseEvt (signBegun (putCopy c isA true (nextCopy k)) j k.next) Reg.TRU_EVT 3
      else signBegun (putCopy c isA true (nextCopy k)) j k.next := by
  have hsame : (true && readCopy (copyImage (nextCopy k)) == some (nextCopy k)) = true := by
    rw [readCopy_copyImage (k := nextCopy k) hr hn, beq_self_eq_true]
    rfl
  have hsame' : (true && readCopy (copyImage { rseq := k.rseq + 1, next := k.next + 1 }) ==
      some { rseq := k.rseq + 1, next := k.next + 1 }) = true := hsame
  unfold reserveIndex
  rw [h]
  dsimp only
  rw [if_neg (by omega), hsame', if_pos rfl]
  rfl

theorem reserveIndex_unread {c : Chip} {isA : Bool} {k : XmtCopy} (j : SignJob)
    (h : currentCopy c.tru = some (isA, k)) (hn : k.next + 1 < 2 ^ 40) :
    reserveIndex c j false =
      refuseSign (reportSrc (raiseEvt (putCopy c isA false (nextCopy k)) Reg.TRU_EVT 2) 122 0) j := by
  unfold reserveIndex
  rw [h]
  dsimp only
  rw [if_neg (by omega), Bool.false_and, if_neg Bool.false_ne_true]
  rfl

theorem reserved_xmssSign {s : State} {j : SignJob} {js : List SignJob} {isA : Bool} {k : XmtCopy}
    (hq : s.chip.tru.signQueue = j :: js) (hx : s.chip.tru.xmt = .ready) (hnow : s.chip.tru.signNow = none)
    (hready : ready s.chip .tru = true) (hm : memberLocked s.chip 3 = false) (hcur : currentCopy s.chip.tru = some (isA, k))
    (hn : k.next + 1 < 2 ^ 40) (hr : k.rseq + 1 < 2 ^ 64) (hp : s.chip.sup.mode ≠ .holdUp ∨ 12000 ≤ s.chip.pwd.budget) :
    Answers (.xmssSign true) s fun t => KeptBut [.host, .out, .regs, .tru] s t ∧ t.chip.tru.signQueue = js ∧
      t.chip.tru.signNow = some (j, k.next) ∧ t.chip.tru.xmt = .signing ∧ nextIndex s.chip = k.next ∧
      nextIndex t.chip = k.next + 1 ∧
      (2 ^ 40 - k.next = 2 ^ 20 → immBit t.chip Reg.TRU_EVT 3 = true) := by
  have hjcur : currentCopy (jobTaken s.chip js).tru = some (isA, k) := hcur
  have hexec := exec_xmssSign true hq hx hnow hready hm hp
  rw [reserveIndex_reserved j hjcur hn hr] at hexec
  obtain ⟨hput, hqueue, -⟩ := putCopy_signs (jobTaken s.chip js) isA true (nextCopy k)
  obtain ⟨x, hnew⟩ := currentCopy_putCopy hjcur (readCopy_copyImage (k := nextCopy k) hr hn)
  have hnewcur : currentCopy (signBegun (putCopy (jobTaken s.chip js) isA true (nextCopy k)) j k.next).tru =
      some (x, nextCopy k) := hnew
  have hbk : ChipKeptBut [.tru] s.chip (signBegun (putCopy (jobTaken s.chip js) isA true (nextCopy k)) j k.next) :=
    (kept_set_tru (by decide)).2 (ChipKeptBut.trans ((kept_set_tru (by decide)).2 (.refl _ s.chip)) hput)
  have hbtru : (signBegun (putCopy (jobTaken s.chip js) isA true (nextCopy k)) j k.next).tru.signQueue = js ∧
      (signBegun (putCopy (jobTaken s.chip js) isA true (nextCopy k)) j k.next).tru.signNow = some (j, k.next) ∧
      (signBegun (putCopy (jobTaken s.chip js) isA true (nextCopy k)) j k.next).tru.xmt = .signing := ⟨hqueue, rfl, rfl⟩
  generalize signBegun (putCopy (jobTaken s.chip js) isA true (nextCopy k)) j k.next = d at hexec hnewcur hbk hbtru
  obtain ⟨hdq, hdnow, hdx⟩ := hbtru
  by_cases hlast : 2 ^ 40 - k.next = 2 ^ 20
  · rw [if_pos hlast] at hexec
    have htru : (raiseEvt d Reg.TRU_EVT 3).tru = d.tru := raiseEvt_tru _ _ _
    refine answers_chip hexec ⟨keptBut_chip.2 ((kept_raiseEvt _ _ (by decide)).2 (hbk.mono (by decide))), ?_, ?_, ?_,
      nextIndex_of_current hcur, ?_, fun _ => immBit_raiseEvt _ _ 3 (by decide)⟩
    · dsimp only; rw [htru]; exact hdq
    · dsimp only; rw [htru]; exact hdnow
    · dsimp only; rw [htru]; exact hdx
    · exact nextIndex_of_current (c := raiseEvt d Reg.TRU_EVT 3) (by rw [htru]; exact hnewcur)
  · rw [if_neg hlast] at hexec
    exact answers_chip hexec ⟨keptBut_chip.2 (hbk.mono (by decide)), hdq, hdnow, hdx, nextIndex_of_current hcur,
      nextIndex_of_current hnewcur, fun h => absurd h hlast⟩

theorem unread_xmssSign {s : State} {j : SignJob} {js : List SignJob} {isA : Bool} {k : XmtCopy}
    (hq : s.chip.tru.signQueue = j :: js) (hx : s.chip.tru.xmt = .ready) (hnow : s.chip.tru.signNow = none)
    (hready : ready s.chip .tru = true) (hm : memberLocked s.chip 3 = false) (hcur : currentCopy s.chip.tru = some (isA, k))
    (hn : k.next + 1 < 2 ^ 40) (hp : s.chip.sup.mode ≠ .holdUp ∨ 12000 ≤ s.chip.pwd.budget) :
    Answers (.xmssSign false) s fun t => StoresKept s t ∧ ∃ e, t.chip = refuseSign (reportSrc e 122 0) j ∧
      ChipKeptBut [.host, .out, .regs, .tru] s.chip e ∧ e.tru.signNow = none ∧ immBit e Reg.TRU_EVT 2 = true := by
  have hexec := exec_xmssSign false hq hx hnow hready hm hp
  rw [reserveIndex_unread j (c := jobTaken s.chip js) hcur hn] at hexec
  obtain ⟨hput, -, hnone⟩ := putCopy_signs (jobTaken s.chip js) isA false (nextCopy k)
  refine answers_chip hexec ⟨storesKept_chip s _, _, rfl, ?_, ?_, immBit_raiseEvt _ _ 2 (by decide)⟩
  · exact (kept_raiseEvt _ _ (by decide)).2 (ChipKeptBut.trans ((kept_set_tru (by decide)).2 (.refl _ s.chip))
      (hput.mono (by decide)))
  · rw [raiseEvt_tru]
    exact hnone.trans hnow

/-! ### Derivations, masks and entropy -/

theorem exec_deriveRequest (s : State) (k : DeriveClass) (x : Bool) (n : Nat) : exec (.deriveRequest k x n) s = .next { s with
    chip := derive s.chip x n } := by
  cases k <;> rfl

theorem deriveRefused_open {c : Chip} {x : Bool} (ho : c.tru.debugOpen = true) (h : x = false ∨ c.sup.lcs ≠ .factory) :
    deriveRefused c x = true := by
  unfold deriveRefused
  rw [ho]
  obtain h | h := h
  · rw [h]; rfl
  · rw [beq_eq_false_iff_ne.2 h, Bool.and_false]; rfl

theorem deriveRefused_closed {c : Chip} (x : Bool) (h : c.tru.debugOpen = false) : deriveRefused c x = false := by
  unfold deriveRefused
  rw [h, Bool.false_and]

/-- R406: the tests of the entropy source have failed. -/
def entropyFailed (c : Chip) (r a st : Bool) : Chip :=
  { c with tru := { c.tru with
    healthOk := false, rctFail := c.tru.rctFail || !r, aptFail := c.tru.aptFail || !a,
    entFails := sat 65535 (c.tru.entFails + 1), entStarts := if st then c.tru.entStarts + 1 else c.tru.entStarts } }

theorem exec_entropyOutput_fails {s : State} {r a : Bool} (st : Bool) (h : r = false ∨ a = false) :
    exec (.entropyOutput r a st) s = .next { s with
      chip := reportSrc (raiseEvt (entropyFailed s.chip r a st) Reg.TRU_EVT 0) 123 0 } := by
  have hboth : (r && a) = false := by
    obtain h | h := h
    · rw [h, Bool.false_and]
    · rw [h, Bool.and_false]
  change execEntropyOutput r a st s = _
  rw [execEntropyOutput, onChip, entropyOutput, hboth, if_neg Bool.false_ne_true]
  rfl

/-! ### The device key -/

theorem exec_keygen {s : State} (hl : s.chip.sup.lcs = .factory) (hk : s.chip.tru.keyRecord = none)
    (hs : stageAbsent s.chip.tru = false) (hr : ready s.chip .tru = true) (hd : s.chip.tru.debugOpen = false) :
    exec .keygen s = .next { s with
      chip := { s.chip with tru := { s.chip.tru with xmt := .keygen, keygenProg := 0 } } } := by
  have hno : ¬ (s.chip.sup.lcs ≠ .factory ∨ s.chip.tru.keyRecord.isSome = true ∨ stageAbsent s.chip.tru = true ∨
      ready s.chip .tru = false) := by
    rw [hk, hs, hr, hl]
    decide
  change execKeygen s = _
  rw [execKeygen, onChip, if_neg hno, deriveRefused_closed _ hd, if_neg Bool.false_ne_true]

theorem exec_keygen_not {s : State} (h : s.chip.sup.lcs ≠ .factory ∨ s.chip.tru.keyRecord ≠ none) :
    exec .keygen s = .next s := by
  have hyes : s.chip.sup.lcs ≠ .factory ∨ s.chip.tru.keyRecord.isSome = true ∨ stageAbsent s.chip.tru = true ∨
      ready s.chip .tru = false := by
    obtain h | h := h
    · exact .inl h
    · exact .inr (.inl (Option.isSome_iff_ne_none.2 h))
  change execKeygen s = _
  rw [execKeygen, onChip, if_pos hyes]

/-- R417: the device key is made. -/
def keyMade (root : BitVec 256) (c : Chip) : Chip :=
  takeFree { c with tru := { c.tru with
    xmt := .ready, keyRecord := some (makeKeyRecord root c), keygenProg := freeBelow c 7600 65536,
    copyA := copyImage { rseq := 0, next := 0 }, copyB := [] } }

theorem exec_keygenDone {s : State} (h : s.chip.tru.xmt = .keygen) : exec .keygenDone s = .next { s with
    chip := keyMade s.fuses.root s.chip } := by
  change execKeygenDone s = _
  rw [execKeygenDone, onChip, if_pos h]
  rfl

theorem nextIndex_keyMade (root : BitVec 256) (c : Chip) : nextIndex (keyMade root c) = 0 :=
  nextIndex_of_current (currentCopy_onlyA (t := (keyMade root c).tru)
    (readCopy_copyImage (k := { rseq := 0, next := 0 }) (by decide) (by decide)) rfl)

/-! ### Attestation -/

/-- R416: the legal entries whose signatures come first. -/
def legalJobs (c : Chip) : List SignJob := if signAllowed c then (unsignedSeqs c).map SignJob.legal else []

theorem legalJobs_legal (c : Chip) : ∀ j ∈ legalJobs c, ∃ k, j = .legal k := by
  intro j hj
  unfold legalJobs at hj
  split at hj
  · obtain ⟨k, -, rfl⟩ := List.mem_map.1 hj
    exact ⟨k, rfl⟩
  · cases hj

/-- R416: an attestation is queued. -/
def attestQueued (c : Chip) (req : Requester) (n : BitVec 256) : Chip :=
  { c with tru := { c.tru with signQueue := c.tru.signQueue ++ legalJobs c ++ [.attest req n] } }

theorem exec_attest {s : State} {req : Requester} (n : BitVec 256) (hperf : performs s.chip req 0x0901 .crypto = true)
    (hx : s.chip.tru.xmt = .ready) : exec (.attest req n true) s = .next { s with
      chip := attestQueued (begun s.chip req 0x0901) req n } := by
  have hx' : (begun s.chip req 0x0901).tru.xmt = .ready := by
    rw [begun_kept s.chip req 0x0901 .tru (by decide)]
    exact hx
  change execAttest req n true s = _
  rw [execAttest, onChip, perform_of_performs _ _ _ _ _ hperf, if_neg (by decide), if_pos (.inl hx')]
  rfl

/-- Settles O36: keys and signatures (R402, R405, R406, R412, R414 to R420, R362). -/
theorem trustKeyCommands : Obligations.TrustKeyCommands := by
  unfold Obligations.TrustKeyCommands
  refine ⟨fun s k x n hr => ?_, fun s k x n ho hx => ?_, fun s h => ?_, fun s h => ?_, fun s st => ?_,
    fun s r a st h => ?_, fun s hl hk hs hr hd => ?_, fun s h => exec_keygen_not h, fun s hx => ?_,
    fun s j js isA k hq hx hnow hready hm hcur hn hr hp => reserved_xmssSign hq hx hnow hready hm hcur hn hr hp,
    fun s j js isA k hq hx hnow hready hm hcur hn hr hp => unread_xmssSign hq hx hnow hready hm hcur hn hp,
    fun s bs hfits => ?_, fun s ok bs hno => ?_, fun s req n hperf hx => ?_, fun s req n hperf => ?_⟩
  case _ =>
    have hexec := exec_deriveRequest s k x n
    rw [derive, hr, if_neg Bool.false_ne_true] at hexec
    exact answers_chip hexec ⟨keptBut_chip.2 ((kept_emit _ (by decide)).2 ((kept_set_tru (by decide)).2 (.refl _ _))), rfl, rfl⟩
  case _ =>
    have hexec := exec_deriveRequest s k x n
    rw [derive, deriveRefused_open ho hx, if_pos rfl] at hexec
    exact answers_chip hexec ⟨keptBut_chip.2 ((kept_emit _ (by decide)).2 ((kept_raiseEvt _ _ (by decide)).2 (.refl _ _))),
      regsKept_raiseEvt s.chip 1 (List.mem_singleton_self _), immBit_raiseEvt s.chip _ 1 (by decide), rfl⟩
  case _ =>
    have hexec : exec .remask s = .next { s with
        chip := { s.chip with tru := { s.chip.tru with
          accesses := s.chip.tru.accesses - 65536, remasks := (s.chip.tru.remasks + 1) % 65536 } } } := by
      change execRemask s = _
      rw [execRemask, onChip, if_pos h]
    exact answers_chip hexec ⟨keptBut_chip.2 ((kept_set_tru (by decide)).2 (.refl _ _)), rfl⟩
  case _ =>
    change execRemask s = _
    rw [execRemask, onChip, if_neg (Nat.not_le.2 h)]
  case _ =>
    have hclear := (kept_clearSrc 123 (by decide)).2 (.refl [.flt] { s.chip with
      tru := { s.chip.tru with healthOk := true, entStarts := if st then 0 else s.chip.tru.entStarts } })
    exact answers_chip (i := .entropyOutput true true st) rfl ⟨keptBut_chip.2 (ChipKeptBut.trans
      ((kept_set_tru (by decide)).2 (.refl _ s.chip)) (hclear.mono (by decide))), hclear .tru (by decide)⟩
  case _ =>
    refine reports_chip (exec_entropyOutput_fails st h) ⟨(kept_raiseEvt _ _ (by decide)).2
      ((kept_set_tru (by decide)).2 (.refl _ _)), ?_, immBit_raiseEvt _ _ 0 (by decide)⟩
    rw [raiseEvt_tru, entropyFailed, sat_eq_min]
  case _ => exact answers_chip (exec_keygen hl hk hs hr hd) ⟨keptBut_chip.2 ((kept_set_tru (by decide)).2 (.refl _ _)), rfl⟩
  case _ =>
    exact answers_chip (exec_keygenDone hx) ⟨keptBut_chip.2 ((kept_takeFree (by decide)).2 ((kept_set_tru (by decide)).2
      (.refl _ _))), rfl, rfl, nextIndex_keyMade _ _⟩
  case _ =>
    have hexec : exec (.xmssVerify true (.certificate bs)) s = .next { s with
        chip := { s.chip with tru := { s.chip.tru with cert := some bs } } } := by
      change execXmssVerify true (.certificate bs) s = _
      rw [execXmssVerify, onChip]
      dsimp only
      rw [hfits, if_pos (by decide)]
    exact answers_chip hexec ⟨keptBut_chip.2 ((kept_set_tru (by decide)).2 (.refl _ _)), rfl⟩
  case _ =>
    have hcond : (ok && certFits s.chip bs) = false := by
      obtain h | h := hno
      · rw [h, Bool.false_and]
      · rw [h, Bool.and_false]
    change execXmssVerify ok (.certificate bs) s = _
    rw [execXmssVerify, onChip]
    dsimp only
    rw [hcond, if_neg Bool.false_ne_true]
  case _ =>
    have htru : (begun s.chip req 0x0901).tru = s.chip.tru := begun_kept s.chip req 0x0901 .tru (by decide)
    refine answers_chip (exec_attest n hperf hx) ⟨keptBut_chip.2 ((kept_set_tru (by decide)).2
      ((begun_kept _ _ _).mono (by decide))), _, legalJobs_legal (begun s.chip req 0x0901), ?_⟩
    dsimp only [attestQueued]
    rw [htru]
  case _ => exact replies_perform (i := .attest req n false) rfl hperf rfl rfl

end Sys2Proof
end

section
/-! PROOFS. Debug, TLS and site keys (R404, R412, R423 to R425, R429, R430). -/

namespace Sys2Proof

open Machine

/-! ### Debug -/

theorem exec_dbgChal {s : State} (hl : s.chip.sup.lcs = .factory) (hk : s.chip.tru.locked = false) :
    exec .dbgChal s = .next { s with
      chip := emit (takeFree { s.chip with tru := { s.chip.tru with challenge := some (drawn s.chip) } })
        (.jtag (id16 s.chip.tru.unit ++ id32 (drawn s.chip))) } := by
  change execDbgChal s = _
  rw [execDbgChal, onChip, if_pos hl, hk, if_neg Bool.false_ne_true]
  rfl

theorem exec_dbgResp {s : State} (r : List Byte) (g : Bool) (hl : s.chip.sup.lcs = .factory)
    (hk : s.chip.tru.locked = false) : exec (.dbgResp r g) s = .next { s with
      chip := if dbgFits s.chip r && g then openDebug s.chip (beNat ((r.drop 5).take 1))
        else { s.chip with tru := { s.chip.tru with
          fails := s.chip.tru.fails + 1, locked := decide (3 ≤ s.chip.tru.fails + 1) } } } := by
  change execDbgResp r g s = _
  rw [execDbgResp, onChip, if_neg (by rw [hl, hk]; decide)]

/-- R430: the trust block as a debug session leaves it. -/
def debugged (t : Tru) (scope : Nat) : Tru :=
  { t with
    meas := Config.shake256 (id32 t.meas ++ beBytes 1 0xFF ++ beBytes 4 0 ++ List.replicate 32 0#8),
    authChain := Config.shake256 (id32 t.authChain ++ beBytes 1 0xFF ++ beBytes 1 0xFE),
    debugOpen := true, scope := scope, tls := [], siteLoaded := false, sendKey := none, signQueue := [],
    signNow := none, signOff := true, xmt := .disabled }

/-- R430: what waits for a signature is refused, which leaves the trust block. -/
theorem openDebug_leaves (c : Chip) (scope : Nat) : ChipKeptBut [.host, .leg, .out, .regs, .tru] c (openDebug c scope) ∧
    (openDebug c scope).tru = debugged c.tru scope ∧ immBit (openDebug c scope) Reg.TRU_EVT 4 = true := by
  refine ⟨(kept_openDebug scope (by decide)).2 (.refl _ c), ?_, immBit_raiseEvt _ _ 4 (by decide)⟩
  refine (raiseEvt_tru _ _ _).trans ?_
  refine ((kept_foldl (ps := [.leg, .host, .out]) _ fun d j => (kept_refuseSign j (by decide)).2 (.refl _ d)).2
    (.refl _ _) .tru (by decide)).trans rfl

/-! ### TLS -/

theorem exec_tlsHandshakeMessage (s : State) (i p : Nat) (ev : TlsEvent) : exec (.tlsHandshakeMessage i p ev) s = .next { s with
    chip := tlsMessage s.chip i p ev } := rfl

theorem tlsMessage_full {c : Chip} {i : Nat} (p : Nat) (hd : c.tru.debugOpen = false)
    (hn : 15 ≤ (c.tru.tls.filter (fun x => x.id != i)).length) : tlsMessage c i p .hello = emit c (.tls i false 0) := by
  unfold tlsMessage
  dsimp only
  rw [deriveRefused_closed _ hd, if_neg Bool.false_ne_true, if_pos (.inl hn)]

theorem tlsMessage_hello {c : Chip} {i : Nat} (p : Nat) (hd : c.tru.debugOpen = false) (hr : ready c .tru = true)
    (hn : (c.tru.tls.filter (fun x => x.id != i)).length < 15) : tlsMessage c i p .hello =
      emit { c with tru := { c.tru with tls := c.tru.tls.filter (fun x => x.id != i) ++
        [⟨i, false, p, liveGet c Reg.TRU_TLS_POLICY⟩] } } (.tls i true (tlsOffer c p)) := by
  have hroom : ¬ (15 ≤ (c.tru.tls.filter (fun x => x.id != i)).length ∨ ready c .tru = false) := by
    rw [hr]
    rintro (h | h)
    · omega
    · cases h
  unfold tlsMessage
  dsimp only
  rw [deriveRefused_closed _ hd, if_neg Bool.false_ne_true, if_neg hroom]

/-- R423: a certificate request, signed under generation g. -/
def csrSigned (root : BitVec 256) (c : Chip) (p g : Nat) (r : List Byte) : Emit :=
  .csr p g (Config.ecdsaSign (onP384 c p) (tlsScalar root c p g) r (drawn c))

/-- R423: a renewal takes the next generation. -/
def generationTaken (c : Chip) (p g : Nat) (n : Bool) : Chip :=
  { c with tru := { c.tru with generation := if n then tput c.tru.generation p g else c.tru.generation } }

theorem csrSigned_generationTaken (root : BitVec 256) (c : Chip) (p g : Nat) (n : Bool) (r : List Byte) :
    csrSigned root (generationTaken c p g n) p g r = csrSigned root c p g r := rfl

theorem exec_csrSign {s : State} (req : Requester) {p g : Nat} {n : Bool} (r : List Byte) (hr : ready s.chip .tru = true)
    (hd : s.chip.tru.debugOpen = false) (hg : g = tget 0 s.chip.tru.generation p + (if n then 1 else 0)) :
    exec (.csrSign req p n r) s = .next { s with
      chip := complete (takeFree (emit (generationTaken s.chip p g n) (csrSigned s.fuses.root s.chip p g r))) req ansOk } := by
  subst hg
  rw [← csrSigned_generationTaken s.fuses.root s.chip p _ n r]
  change execCsrSign req p n r s = _
  rw [execCsrSign, onChip, hr, if_neg (by decide), deriveRefused_closed _ hd, if_neg Bool.false_ne_true]
  rfl

/-! ### Site keys -/

theorem keepKeys_length (send : Option Word) (l : List SiteKey) (k : SiteKey) : (keepKeys send l k).length ≤ 2 := by
  unfold keepKeys
  dsimp only
  split
  · rw [List.length_append, List.length_singleton]
    omega
  · rw [List.length_append, List.length_singleton, List.length_take]
    omega

theorem keepKeys_last (send : Option Word) (l : List SiteKey) (k : SiteKey) : (keepKeys send l k).getLast? = some k := by
  unfold keepKeys
  dsimp only
  split <;> exact List.getLast?_concat

/-- R425: a site key that is delivered. -/
def wrappedKey (root : BitVec 256) (c : Chip) (k : Word) (a : Nat) (key : BitVec 256) : SiteKey :=
  { keyId := k, activation := a, wrapped := beBytes 48 (Config.aesWrap (wrapConfigKey root c) key).toNat }

/-- R425: a site key kept, with at most one other. -/
def keyKept (c : Chip) (k : SiteKey) : Chip :=
  { c with tru := { c.tru with siteKeys := keepKeys c.tru.sendKey c.tru.siteKeys k, siteLoaded := true } }

theorem exec_siteKeyDelivery {s : State} (k : Word) (a : Nat) (key : BitVec 256) (hr : ready s.chip .tru = true)
    (hd : s.chip.tru.debugOpen = false) : exec (.siteKeyDelivery k a key true) s = .next { s with
      chip := { keyKept s.chip (wrappedKey s.fuses.root s.chip k a key) with
        tru := { (keyKept s.chip (wrappedKey s.fuses.root s.chip k a key)).tru with
          sendKey := currentKey (keyKept s.chip (wrappedKey s.fuses.root s.chip k a key)) } } } := by
  change execSiteKeyDelivery k a key true s = _
  rw [execSiteKeyDelivery, onChip, hr, if_neg (by decide), deriveRefused_closed _ hd, if_neg Bool.false_ne_true]
  rfl

theorem exec_siteKeyActivate {s : State} {k : Word} {since : Nat} (hl : s.chip.tru.siteLoaded = true)
    (hk : currentKey (runTo s.chip since) = some k) (hs : s.chip.tru.sendKey ≠ some k) :
    exec (.siteKeyActivate k since) s = .next { s with
      chip := { runTo s.chip since with tru := { (runTo s.chip since).tru with
        sendKey := some k, prevUntil := (runTo s.chip since).tb.aon + 10 * 2 ^ 32 } } } := by
  have htru : (runTo s.chip since).tru = s.chip.tru := runTo_kept s.chip since .tru (by decide)
  have hcond : ((runTo s.chip since).tru.siteLoaded && currentKey (runTo s.chip since) == some k &&
      (runTo s.chip since).tru.sendKey != some k) = true := by
    rw [htru, hl, hk, beq_self_eq_true, bne_iff_ne.2 hs]
    rfl
  change execSiteKeyActivate k since s = _
  rw [execSiteKeyActivate, onChip]
  dsimp only
  rw [if_pos hcond]

/-- Settles O37: debug, TLS and site keys (R404, R412, R423 to R425, R429, R430). -/
theorem trustSessionCommands : Obligations.TrustSessionCommands := by
  unfold Obligations.TrustSessionCommands
  refine ⟨fun s hl hk => ?_, fun s hl => ?_, fun s r hl hk hf => ?_, fun s r g hl hk hno => ?_, fun s r g hno => ?_,
    fun s i p hd hr hn => ?_, fun s i p hd hn => ?_, fun s i p => ?_, fun s i p => ?_, fun s req p g n r hr hd hg => ?_,
    fun s k a key hr hd => ?_, fun s k a key => ?_, fun s k since hl hk hs => ?_⟩
  case _ =>
    exact answers_chip (exec_dbgChal hl hk) ⟨keptBut_chip.2 ((kept_emit _ (by decide)).2 ((kept_takeFree (by decide)).2
      ((kept_set_tru (by decide)).2 (.refl _ _)))), rfl, rfl, rfl⟩
  case _ =>
    have hexec : exec .dbgChal s = .next { s with chip := emit s.chip (.jtag (List.replicate 48 0#8)) } := by
      change execDbgChal s = _
      rw [execDbgChal, onChip, if_neg hl]
    exact answers_chip hexec ⟨keptBut_chip.2 ((kept_emit _ (by decide)).2 (.refl _ _)), rfl⟩
  case _ =>
    have hexec := exec_dbgResp r true hl hk
    rw [hf, if_pos (by decide)] at hexec
    obtain ⟨hkept, htru, hevt⟩ := openDebug_leaves s.chip (beNat ((r.drop 5).take 1))
    refine answers_chip hexec ⟨keptBut_chip.2 hkept, ?_, ?_, ?_, ?_, ?_, ?_, ?_, hevt⟩ <;> exact (congrArg _ htru).trans rfl
  case _ =>
    have hcond : (dbgFits s.chip r && g) = false := by
      obtain h | h := hno
      · rw [h, Bool.and_false]
      · rw [h, Bool.false_and]
    have hlock : decide (3 ≤ s.chip.tru.fails + 1) = decide (2 ≤ s.chip.tru.fails) := decide_eq_decide.2 (by omega)
    have hexec := exec_dbgResp r g hl hk
    rw [hcond, if_neg Bool.false_ne_true, hlock] at hexec
    exact answers_chip hexec ⟨keptBut_chip.2 ((kept_set_tru (by decide)).2 (.refl _ _)), rfl⟩
  case _ =>
    change execDbgResp r g s = _
    rw [execDbgResp, onChip, if_pos hno]
  case _ =>
    have hexec := exec_tlsHandshakeMessage s i p .hello
    rw [tlsMessage_hello p hd hr hn] at hexec
    exact answers_chip hexec ⟨keptBut_chip.2 ((kept_emit _ (by decide)).2 ((kept_set_tru (by decide)).2 (.refl _ _))), rfl, rfl⟩
  case _ =>
    have hexec := exec_tlsHandshakeMessage s i p .hello
    rw [tlsMessage_full p hd hn] at hexec
    exact answers_chip hexec ⟨keptBut_chip.2 ((kept_emit _ (by decide)).2 (.refl _ _)), rfl⟩
  case _ =>
    have hexec : exec (.tlsHandshakeMessage i p (.finished true)) s = .next { s with
        chip := emit { s.chip with tru := { s.chip.tru with tls := s.chip.tru.tls.map (fun x =>
          if x.id = i then { x with established := true } else x) } } (.tls i true 0) } := rfl
    exact answers_chip hexec ⟨keptBut_chip.2 ((kept_emit _ (by decide)).2 ((kept_set_tru (by decide)).2 (.refl _ _))), rfl, rfl⟩
  case _ =>
    have hexec : exec (.tlsHandshakeMessage i p .close) s = .next { s with
        chip := { s.chip with tru := { s.chip.tru with tls := s.chip.tru.tls.filter (fun x => x.id != i) } } } := rfl
    exact answers_chip hexec ⟨keptBut_chip.2 ((kept_set_tru (by decide)).2 (.refl _ _)), rfl⟩
  case _ =>
    refine answers_chip (exec_csrSign req r hr hd hg) ⟨storesKept_chip s _, _, rfl, (kept_takeFree (by decide)).2
      ((kept_emit _ (by decide)).2 ((kept_set_tru (by decide)).2 (.refl _ _))), rfl, fun hn => ?_⟩
    subst hn
    rw [hg]
    exact tget_tput_self _ _ _ _
  case _ =>
    refine answers_chip (exec_siteKeyDelivery k a key hr hd) ⟨keptBut_chip.2 ((kept_set_tru (by decide)).2
      ((kept_set_tru (by decide)).2 (.refl _ _))), rfl, keepKeys_length _ _ _, ?_, ?_⟩
    · exact congrArg (Option.map SiteKey.keyId) (keepKeys_last _ _ _)
    · exact congrArg (Option.map SiteKey.activation) (keepKeys_last _ _ _)
  case _ =>
    change execSiteKeyDelivery k a key false s = _
    rw [execSiteKeyDelivery, onChip, if_pos (.inr rfl)]
  case _ =>
    have hrun := runTo_kept s.chip since
    have htru : (runTo s.chip since).tru = s.chip.tru := hrun .tru (by decide)
    refine answers_chip (exec_siteKeyActivate hl hk hs) ⟨keptBut_chip.2 ((kept_set_tru (by decide)).2 (hrun.mono (by decide))),
      rfl, ?_⟩
    dsimp only
    rw [htru]

end Sys2Proof
end

section
/-! PROOFS. The resets that a lifecycle change, an activation, a rollback and a fault start (R65, R444, R449, R461), with a
sequence under way that names the cause's register (R41): the landing clears the bit that R53 had recorded. -/

namespace Sys2Proof

open Machine

/-- A sequence with one setting, which clears a cause's bit of SUP_RST_CAUSE, as `wdogClearingSeq` clears WDOG. -/
def causeClearingSeq (k : ResetCause) : NsSeq :=
  { wdogClearingSeq with todo := [⟨Reg.SUP_RST_CAUSE, k.bit, k.bit, 0⟩] }

/-- A module in Operational with no fence, every ready bit set and that sequence under way. -/
def causeClearingChip (k : ResetCause) : Chip :=
  { Chip.reset with
    sup := { Sup.reset with mode := .operational, ready := 0xFF#8, fence := 0 }
    ns := { NsState.reset with active := some (causeClearingSeq k) } }

/-- A blank unit, about to leave its factory line, with a sequence under way that clears LIFECYCLE. -/
def blankClearingState : State := { State.reset with chip := causeClearingChip .lifecycle }

/-- A module whose privileged rollback waits for its restart, with a sequence under way that clears UPDATE. -/
def rollbackClearingState : State :=
  { State.reset with
    chip := { causeClearingChip .update with upd := { Upd.reset with restartDue := true } } }

/-- A module with its fault store restored, source 0 at reaction MODULE, and a sequence under way that clears FAULT. -/
def faultClearingState : State :=
  { State.reset with
    chip := { causeClearingChip .fault with
      live := [(Reg.FLT_SRC_CFG 0, 3#32)]
      flt := { Flt.reset with restored := true } } }

/-- The same module after a reset of the whole module that has ended, with source 0 still present and to be checked. -/
def checkClearingState : State :=
  { State.reset with
    chip := { causeClearingChip .fault with
      flt := { Flt.reset with
        restored := true
        srcs := [(0, { Src.init with present := true })]
        checks := [{ src := 0, level := 2, block := .supervisor, complete := true }] } } }

theorem exec_blankToFactory_next {s : State} (h : s.fuses.state = .blank) (u : BitVec 128) (a b p d : BitVec 256) :
    ∃ f, exec (.blankToFactory u a b p d) s =
      .next { s with chip := lifecycleReset (takeFree (takeFree s.chip)), fuses := f } :=
  ⟨_, if_pos h⟩

theorem exec_rollbackRestart_due {s : State} (hdue : s.chip.upd.restartDue = true) (hoff : anyEnergised s.chip = false) :
    exec .rollbackRestart s = .next { s with chip := resetModule s.chip .update false } := by
  change onChip s _ = _
  rw [onChip, hdue, hoff, if_pos (by decide)]

theorem exec_faultReport_one (s : State) (r : Report) :
    exec (.faultReport [r]) s = .next { s with chip := report s.chip [{ r with forced := false }] } := rfl

theorem exec_escalationCheck (s : State) (n : Nat) :
    exec (.escalationCheck n) s = .next { s with chip := checkEscalation s.chip n } := rfl

theorem blankToFactory_loses_cause : immBit (lifecycleReset (takeFree (takeFree blankClearingState.chip))) Reg.SUP_RST_CAUSE
    ResetCause.lifecycle.bit = false := by decide +kernel

theorem rollbackRestart_loses_cause : immBit (resetModule rollbackClearingState.chip .update false) Reg.SUP_RST_CAUSE
    ResetCause.update.bit = false := by decide +kernel

theorem moduleReaction_loses_cause : immBit (report faultClearingState.chip [⟨0, 1, 0, false⟩]) Reg.SUP_RST_CAUSE
    ResetCause.fault.bit = false := by decide +kernel

theorem checkEscalation_loses_cause : immBit (checkEscalation checkClearingState.chip 0) Reg.SUP_RST_CAUSE
    ResetCause.fault.bit = false := by decide +kernel

/-- Refutes O38: Blank to Factory records LIFECYCLE, and the sequence under way then lands its setting (R41). In
`blankClearingState` that setting clears LIFECYCLE of SUP_RST_CAUSE, so `ModuleReset` does not hold of what is left. -/
theorem not_lifecycleCommands : ¬ Obligations.LifecycleCommands := by
  unfold Obligations.LifecycleCommands
  rintro ⟨-, -, -, -, -, hblank, -⟩
  have hstate : blankClearingState.fuses.state = .blank := by decide
  obtain ⟨t, hnext, -, -, -, -, -, -, -, -, -, -, hmodule, -⟩ := hblank blankClearingState 0 0 0 0 0 hstate
  obtain ⟨f, hexec⟩ := exec_blankToFactory_next hstate 0 0 0 0 0
  rw [hexec] at hnext
  cases hnext
  exact Bool.false_ne_true (blankToFactory_loses_cause.symm.trans hmodule.cause_recorded)

/-- Refutes O40: the restart of a privileged rollback records UPDATE, and the sequence under way then lands its setting (R41).
In `rollbackClearingState` that setting clears UPDATE of SUP_RST_CAUSE, so `ModuleReset` does not hold of what is left. -/
theorem not_updateActivationCommands : ¬ Obligations.UpdateActivationCommands := by
  unfold Obligations.UpdateActivationCommands
  rintro ⟨-, -, -, -, -, -, -, -, -, -, hrestart, -⟩
  have hdue : rollbackClearingState.chip.upd.restartDue = true := by decide
  have hoff : anyEnergised rollbackClearingState.chip = false := by decide
  obtain ⟨t, hnext, -, hmodule⟩ := hrestart rollbackClearingState hdue hoff
  rw [exec_rollbackRestart_due hdue hoff] at hnext
  cases hnext
  exact Bool.false_ne_true (rollbackRestart_loses_cause.symm.trans hmodule.cause_recorded)

/-- Refutes O48: a fault with reaction MODULE records FAULT, and the sequence under way then lands its setting (R41). In
`faultClearingState` that setting clears FAULT of SUP_RST_CAUSE, so `ModuleReset` does not hold of what is left. -/
theorem not_faultReports : ¬ Obligations.FaultReports := by
  unfold Obligations.FaultReports
  rintro ⟨-, -, -, -, -, -, -, -, -, -, -, -, hmod⟩
  have haccepts : Accepts faultClearingState.chip 0 := by
    refine ⟨?_, ?_, ?_, ?_⟩ <;> decide
  obtain ⟨t, hnext, -, hmodule⟩ := hmod faultClearingState ⟨0, 1, 0, false⟩ (srcOf faultClearingState.chip 0) haccepts rfl
    (by decide) (by decide) (by decide) (by decide) (by decide)
  rw [exec_faultReport_one] at hnext
  cases hnext
  exact Bool.false_ne_true (moduleReaction_loses_cause.symm.trans hmodule.cause_recorded)

/-- Refutes O49: the escalation to a reset of the module records FAULT, and the sequence under way then lands its setting
(R41). In `checkClearingState` that setting clears FAULT of SUP_RST_CAUSE, so `ModuleReset` does not hold of what is left. -/
theorem not_faultFollowUp : ¬ Obligations.FaultFollowUp := by
  unfold Obligations.FaultFollowUp
  rintro ⟨-, -, -, -, -, -, -, hmod, -⟩
  obtain ⟨t, hnext, -, hmodule⟩ := hmod checkClearingState 0 ⟨0, 2, .supervisor, true⟩ (by decide) (by decide) (by decide)
    (.inl (by decide))
  rw [exec_escalationCheck] at hnext
  cases hnext
  exact Bool.false_ne_true (checkEscalation_loses_cause.symm.trans hmodule.cause_recorded)

end Sys2Proof
end

section
/-! PROOFS. Blotter (R472 to R474, R476, R477): a record at the head of the queue is written, merged or dropped, and the
window shows the records that a latch selects. -/

namespace Sys2Proof

open Machine

/-- R476: a shown record may have changed; nothing else of the recorder has. -/
theorem staleIf_blt (c : Chip) (q : Nat) : ∃ b, (staleIf c q).blt = { c.blt with winStale := b } := by
  unfold staleIf
  split
  · exact ⟨true, rfl⟩
  · exact ⟨c.blt.winStale, rfl⟩

theorem bltNew_regsKept (c : Chip) (r : BltRec) : RegsKeptBut [Reg.BLT_EVT] c (bltNew c r) := by
  unfold bltNew
  split
  · exact regsKept_raiseEvt _ _ (List.mem_singleton_self _)
  · exact .refl _ _

theorem bltNew_blt (c : Chip) (r : BltRec) : (bltNew c r).blt = c.blt :=
  (kept_bltNew r (by decide)).2 (.refl [.regs, .host, .out] c) .blt (by decide)

theorem cfg_bltNew (c : Chip) (r : BltRec) (a hi lo : Nat) : cfg (bltNew c r) a hi lo = cfg c a hi lo :=
  cfg_of_live ((kept_bltNew r (by decide)).2 (.refl [.regs, .host, .out] c) .live (by decide)) a hi lo

/-- R477: NEW tells a record whose severity reaches IRQ_SEV. -/
theorem immBit_bltNew {c : Chip} {r : BltRec} (h : cfg c Reg.BLT_CFG 2 0 ≤ r.sev) :
    immBit (bltNew c r) Reg.BLT_EVT 0 = true := by
  rw [bltNew, if_pos h]
  exact immBit_raiseEvt _ _ _ (by decide)

/-- R472: the recorder once a record stands in a slot, before its events. -/
def bltFilled (c : Chip) (slot : Nat) (r : BltRec) : Chip :=
  { c with blt := { c.blt with
      slots := tput c.blt.slots slot { r with seq := c.blt.nextSeq }, nextSeq := (c.blt.nextSeq + 1) % 2 ^ 48 } }

/-- R472: the record that fills the last free slot raises FULL; any other leaves the chip as it is. -/
theorem bltStore_eq (c : Chip) (slot : Nat) (r : BltRec) :
    bltStore c slot r = bltNew (raiseEvt (bltFilled c slot r) Reg.BLT_EVT 1) r ∨
      bltStore c slot r = bltNew (bltFilled c slot r) r := by
  unfold bltStore
  dsimp only
  split
  · exact .inl rfl
  · exact .inr rfl

theorem bltStore_blt (c : Chip) (slot : Nat) (r : BltRec) : (bltStore c slot r).blt = (bltFilled c slot r).blt := by
  obtain h | h := bltStore_eq c slot r
  · rw [h, bltNew_blt, raiseEvt_blt]
  · rw [h, bltNew_blt]

theorem bltStore_regsKept (c : Chip) (slot : Nat) (r : BltRec) : RegsKeptBut [Reg.BLT_EVT] c (bltStore c slot r) := by
  have hfilled : RegsKeptBut [Reg.BLT_EVT] c (bltFilled c slot r) := .of_regs rfl
  obtain h | h := bltStore_eq c slot r
  · rw [h]
    exact (hfilled.trans (regsKept_raiseEvt _ _ (List.mem_singleton_self _))).trans (bltNew_regsKept _ _)
  · rw [h]
    exact hfilled.trans (bltNew_regsKept _ _)

theorem immBit_bltStore {c : Chip} {r : BltRec} (slot : Nat) (h : cfg c Reg.BLT_CFG 2 0 ≤ r.sev) :
    immBit (bltStore c slot r) Reg.BLT_EVT 0 = true := by
  obtain hs | hs := bltStore_eq c slot r
  · rw [hs]
    exact immBit_bltNew ((cfg_of_live (raiseEvt_live _ _ _) _ _ _).trans_le h)
  · rw [hs]
    exact immBit_bltNew h

theorem staleIf_regsKept (as : List Nat) (c : Chip) (q : Nat) : RegsKeptBut as c (staleIf c q) :=
  ((kept_staleIf q (by decide)).2 (.refl [.blt] c)).regsKept (by decide)

/-! ### The record at the head of the queue -/

/-- R472: the recorder with its oldest queued record taken from the queue. -/
def bltTaken (c : Chip) (l : List BltRec) : Chip := { c with blt := { c.blt with queue := l } }

theorem exec_blotterWrite {s : State} {r : BltRec} {l : List BltRec} (hr : s.chip.blt.ready = true)
    (hq : s.chip.blt.queue = r :: l) : exec .blotterWrite s = .next { s with chip := bltWrite (bltTaken s.chip l) r } := by
  change Host.Outcome.next { s with chip := bltPop s.chip } = _
  rw [bltPop, if_pos hr, hq]
  rfl

theorem exec_blotterWrite_idle {s : State} (h : s.chip.blt.ready = false ∨ s.chip.blt.queue = []) :
    exec .blotterWrite s = .next s := by
  change Host.Outcome.next { s with chip := bltPop s.chip } = _
  rw [bltPop]
  obtain h | h := h
  · rw [if_neg (h ▸ Bool.false_ne_true)]
  · rw [h, ite_self]

theorem bltWrite_kept (c : Chip) (l : List BltRec) (r : BltRec) :
    ChipKeptBut [.blt, .host, .out, .regs] c (bltWrite (bltTaken c l) r) :=
  (kept_bltWrite r (by decide)).2 ((kept_set_blt (by decide)).2 (.refl _ c))

theorem mergeRec_off {c : Chip} (h : cfgBit c Reg.BLT_CFG 3 = false) (r : BltRec) : mergeRec c r = none := by
  rw [mergeRec, h, if_neg Bool.false_ne_true]

theorem mergeRec_on {c : Chip} {r n : BltRec} {k : Nat} (h : cfgBit c Reg.BLT_CFG 3 = true)
    (hn : newestRec c.blt.slots = some (k, n)) (hm : mergesInto r n = true) : mergeRec c r = some (k, n) := by
  rw [mergeRec, h, if_pos rfl, hn]
  simp [hm]

/-- R473: the recorder once a repetition has counted in the newest record. -/
def bltMerged (c : Chip) (k : Nat) (n r : BltRec) : Chip :=
  { c with blt := { c.blt with
      slots := tput c.blt.slots k { n with rept := n.rept + 1, lastS := sat 65535 (r.since - n.since) } } }

theorem bltWrite_merged {c : Chip} {r n : BltRec} {k : Nat} (h : mergeRec c r = some (k, n)) :
    bltWrite c r = bltNew (staleIf (bltMerged c k n r) n.seq) r := by
  rw [bltWrite, h]
  rfl

theorem bltWrite_free {c : Chip} {r : BltRec} (h : mergeRec c r = none) (hfree : c.blt.slots.length < bltSlots) :
    bltWrite c r = bltStore c (firstGap 0 c.blt.slots) r := by
  rw [bltWrite, h]
  exact if_pos hfree

theorem bltWrite_over {c : Chip} {r v : BltRec} {k : Nat} (h : mergeRec c r = none) (hfull : bltSlots ≤ c.blt.slots.length)
    (hv : victim c.blt.slots r.sev = some (k, v)) :
    bltWrite c r = raiseEvt (bltStore (staleIf c v.seq) k r) Reg.BLT_EVT 3 := by
  rw [bltWrite, h]
  dsimp only
  rw [if_neg (Nat.not_lt.2 hfull), hv]

/-- R474: the recorder once a record was dropped. -/
def bltDropped (c : Chip) : Chip := { c with blt := { c.blt with drop := (c.blt.drop + 1) % 2 ^ 32 } }

theorem bltWrite_drop {c : Chip} {r : BltRec} (h : mergeRec c r = none) (hfull : bltSlots ≤ c.blt.slots.length)
    (hv : victim c.blt.slots r.sev = none) : bltWrite c r = raiseEvt (bltDropped c) Reg.BLT_EVT 2 := by
  rw [bltWrite, h]
  dsimp only
  rw [if_neg (Nat.not_lt.2 hfull), hv]
  rfl

/-! ### R474: the record given up -/

/-- R474: one record goes before another: a lower severity, and of one severity the lower SEQ. -/
def GoesFirst (a b : Nat × BltRec) : Prop := a.2.sev < b.2.sev ∨ (a.2.sev = b.2.sev ∧ a.2.seq ≤ b.2.seq)

theorem GoesFirst.refl (a : Nat × BltRec) : GoesFirst a a := .inr ⟨rfl, le_rfl⟩

theorem GoesFirst.trans {a b c : Nat × BltRec} (h : GoesFirst a b) (g : GoesFirst b c) : GoesFirst a c := by
  unfold GoesFirst at *
  omega

/-- R474: the better candidate of the one so far and the next record. -/
def victimStep (best : Option (Nat × BltRec)) (e : Nat × BltRec) : Option (Nat × BltRec) :=
  match best with
  | none => some e
  | some b => if e.2.sev < b.2.sev ∨ (e.2.sev = b.2.sev ∧ e.2.seq < b.2.seq) then some e else some b

theorem victimStep_some (b e : Nat × BltRec) : ∃ w, victimStep (some b) e = some w ∧ GoesFirst w b ∧ GoesFirst w e := by
  unfold victimStep
  dsimp only
  split
  · next h =>
    refine ⟨e, rfl, ?_, .refl _⟩
    unfold GoesFirst
    omega
  · next h =>
    refine ⟨b, rfl, .refl _, ?_⟩
    unfold GoesFirst
    omega

theorem foldl_victimStep (l : Tab BltRec) (b : Nat × BltRec) :
    ∃ w, l.foldl victimStep (some b) = some w ∧ GoesFirst w b ∧ ∀ e ∈ l, GoesFirst w e := by
  induction l generalizing b with
  | nil => exact ⟨b, rfl, .refl _, fun _ h => absurd h List.not_mem_nil⟩
  | cons x l ih =>
    obtain ⟨y, hy, hyb, hyx⟩ := victimStep_some b x
    obtain ⟨w, hw, hwy, hrest⟩ := ih y
    refine ⟨w, by rw [List.foldl_cons, hy, hw], hwy.trans hyb, fun e he => ?_⟩
    obtain rfl | he := List.mem_cons.1 he
    · exact hwy.trans hyx
    · exact hrest e he

theorem victim_eq (t : Tab BltRec) (q : Nat) :
    victim t q = (t.foldl victimStep none).bind fun e => if e.2.sev ≤ q then some e else none := by
  change (match t.foldl victimStep none with | some e => if e.2.sev ≤ q then some e else none | none => none) = _
  cases t.foldl victimStep none <;> rfl

/-- R474: the record given up is not above the new one, and goes before every other. -/
theorem victim_goesFirst {t : Tab BltRec} {q k : Nat} {v : BltRec} (h : victim t q = some (k, v)) :
    v.sev ≤ q ∧ ∀ e ∈ t, GoesFirst (k, v) e := by
  rw [victim_eq] at h
  cases t with
  | nil => cases h
  | cons x l =>
    obtain ⟨w, hw, hwx, hrest⟩ := foldl_victimStep l x
    rw [List.foldl_cons, show victimStep none x = some x from rfl, hw, Option.bind_some] at h
    split at h
    · next hle =>
      cases h
      refine ⟨hle, fun e he => ?_⟩
      obtain rfl | he := List.mem_cons.1 he
      · exact hwx
      · exact hrest e he
    · cases h

/-! ### The window -/

theorem exec_bltLatch {s : State} (h : windowClosed s.chip Reg.BLT_WIN_CTRL = false) :
    exec .bltLatch s = .next { s with chip := bltLatch s.chip } := onChip_reach _ h

/-- R476: the cursor past a record. -/
def cursorPast (c : Chip) (n : Nat) : Chip :=
  regPut (regPut c Reg.BLT_CURSOR_LO (loWord n)) Reg.BLT_CURSOR_HI (wordOf (n / 2 ^ 32 % 65536))

theorem exec_bltNext {s : State} {r : BltRec} (h : windowClosed s.chip Reg.BLT_WIN_CTRL = false)
    (hr : s.chip.blt.window.getLast? = some r) :
    exec .bltNext s = .next { s with chip := bltLatch (cursorPast s.chip (r.seq + 1)) } := by
  change execBltNext s = _
  rw [execBltNext, onChip_reach _ h, bltNext, hr]
  rfl

theorem cursorPast_regsKept (c : Chip) (n : Nat) : RegsKeptBut [Reg.BLT_CURSOR_LO, Reg.BLT_CURSOR_HI] c (cursorPast c n) :=
  (regsKept_regPut _ _ (by decide)).trans (regsKept_regPut _ _ (by decide))

theorem bltCursor_cursorPast {n : Nat} (c : Chip) (h : n < 2 ^ 48) : bltCursor (cursorPast c n) = n := by
  have hlo : regGet (cursorPast c n) Reg.BLT_CURSOR_LO = loWord n :=
    (regGet_regPut_ne _ _ (by decide)).trans (regGet_regPut_self _ _ _)
  have hhi : regGet (cursorPast c n) Reg.BLT_CURSOR_HI = wordOf (n / 2 ^ 32 % 65536) := regGet_regPut_self _ _ _
  rw [bltCursor, imm, hlo, hhi, fieldOf, wordOf_toNat, loWord, BitVec.toNat_ofNat]
  simp only [Nat.shiftRight_zero, Nat.sub_zero, Nat.reduceAdd, Nat.reducePow]
  omega

theorem bltMatch_mem {c : Chip} {r : BltRec} (h : r ∈ bltMatch c) :
    (∃ k, (k, r) ∈ c.blt.slots) ∧ bltCursor c ≤ r.seq ∧ imm c Reg.BLT_WIN_CTRL 6 4 ≤ r.sev := by
  rw [bltMatch, List.mem_mergeSort, List.mem_filter, List.mem_map, Bool.and_eq_true, decide_eq_true_iff,
    decide_eq_true_iff] at h
  obtain ⟨⟨⟨k, x⟩, hx, rfl⟩, hcursor, hsev⟩ := h
  exact ⟨⟨k, hx⟩, hcursor, hsev⟩

theorem bltMatch_pairwise (c : Chip) : (bltMatch c).Pairwise fun a b => a.seq ≤ b.seq := by
  have hsorted := List.pairwise_mergeSort (le := fun a b : BltRec => decide (a.seq ≤ b.seq))
    (fun a b c hab hbc => by rw [decide_eq_true_iff] at *; omega)
    (fun a b => by simp only [Bool.or_eq_true, decide_eq_true_iff]; omega)
    ((c.blt.slots.map (·.2)).filter fun r => decide (bltCursor c ≤ r.seq) && decide (imm c Reg.BLT_WIN_CTRL 6 4 ≤ r.sev))
  exact hsorted.imp fun h => of_decide_eq_true h

theorem exec_bltLatchDone (s : State) : exec .bltLatchDone s = .next { s with chip := bltLatched s.chip } := rfl

theorem bltLatched_busy {c : Chip} (h : c.blt.winBusy = true) :
    bltLatched c = { c with blt := { c.blt with
      winBusy := false, window := (bltMatch c).take 8, winEnd := ((bltMatch c).drop 8).isEmpty, winStale := false } } :=
  if_pos h

theorem bltLatched_idle {c : Chip} (h : c.blt.winBusy = false) : bltLatched c = c := if_neg (h ▸ Bool.false_ne_true)

/-- Settles O50, write by write: the record is stored, merged, stored over the one given up, or dropped. -/
theorem blotterCommands : Obligations.BlotterCommands := by
  unfold Obligations.BlotterCommands
  refine ⟨fun s h => exec_blotterWrite_idle h, ?_, ?_, ?_, ?_, ?_, ?_, ?_, ?_⟩
  · intro s r l hr hq hoff hfree
    have hexec := exec_blotterWrite hr hq
    refine answers_chip hexec ⟨keptBut_chip.2 (bltWrite_kept s.chip l r), ?_⟩
    rw [bltWrite_free (mergeRec_off (c := bltTaken s.chip l) hoff r) hfree]
    have hblt := bltStore_blt (bltTaken s.chip l) (firstGap 0 s.chip.blt.slots) r
    refine ⟨(RegsKeptBut.of_regs rfl).trans (bltStore_regsKept (bltTaken s.chip l) _ r), ?_, ?_, ?_, ?_, fun h => ?_⟩
    · exact (congrArg Blt.slots hblt).trans rfl
    · exact (congrArg Blt.nextSeq hblt).trans rfl
    · exact (congrArg Blt.queue hblt).trans rfl
    · exact (congrArg Blt.drop hblt).trans rfl
    · exact immBit_bltStore _ h
  · intro s r n l k hr hq hon hn hm
    have hexec := exec_blotterWrite hr hq
    refine answers_chip hexec ⟨keptBut_chip.2 (bltWrite_kept s.chip l r), ?_⟩
    rw [bltWrite_merged (mergeRec_on (c := bltTaken s.chip l) hon hn hm)]
    obtain ⟨b, hstale⟩ := staleIf_blt (bltMerged (bltTaken s.chip l) k n r) n.seq
    have hblt := (bltNew_blt (staleIf (bltMerged (bltTaken s.chip l) k n r) n.seq) r).trans hstale
    refine ⟨?_, (congrArg Blt.slots hblt).trans rfl, (congrArg Blt.nextSeq hblt).trans rfl, (congrArg Blt.queue hblt).trans rfl⟩
    exact (RegsKeptBut.of_regs rfl).trans ((staleIf_regsKept _ (bltMerged (bltTaken s.chip l) k n r) _).trans
      (bltNew_regsKept _ _))
  · intro s r v l k hr hq hoff hfull hv
    have hexec := exec_blotterWrite hr hq
    refine answers_chip hexec ⟨keptBut_chip.2 (bltWrite_kept s.chip l r), ?_⟩
    rw [bltWrite_over (mergeRec_off (c := bltTaken s.chip l) hoff r) hfull hv]
    obtain ⟨b, hstale⟩ := staleIf_blt (bltTaken s.chip l) v.seq
    have hblt := (raiseEvt_blt _ Reg.BLT_EVT 3).trans (bltStore_blt (staleIf (bltTaken s.chip l) v.seq) k r)
    rw [bltFilled, hstale] at hblt
    obtain ⟨hsev, hfirst⟩ := victim_goesFirst hv
    refine ⟨?_, (congrArg Blt.slots hblt).trans rfl, (congrArg Blt.queue hblt).trans rfl, immBit_raiseEvt _ _ _ (by decide),
      hsev, hfirst⟩
    exact (RegsKeptBut.of_regs rfl).trans ((staleIf_regsKept _ (bltTaken s.chip l) _).trans
      ((bltStore_regsKept _ _ _).trans (regsKept_raiseEvt _ _ (List.mem_singleton_self _))))
  · intro s r l hr hq hoff hfull hv
    have hexec := exec_blotterWrite hr hq
    refine answers_chip hexec ⟨keptBut_chip.2 (bltWrite_kept s.chip l r), ?_⟩
    rw [bltWrite_drop (mergeRec_off (c := bltTaken s.chip l) hoff r) hfull hv]
    have hblt := raiseEvt_blt (bltDropped (bltTaken s.chip l)) Reg.BLT_EVT 2
    refine ⟨?_, (congrArg Blt.slots hblt).trans rfl, (congrArg Blt.queue hblt).trans rfl, (congrArg Blt.drop hblt).trans rfl,
      immBit_raiseEvt _ _ _ (by decide)⟩
    exact (RegsKeptBut.of_regs rfl).trans (regsKept_raiseEvt (bltDropped (bltTaken s.chip l)) _ (List.mem_singleton_self _))
  · intro s h
    exact answers_chip (exec_bltLatch h) ⟨keptBut_chip.2 ((kept_bltLatch (by decide)).2 (.refl _ _)), rfl⟩
  · intro s r h hr
    refine answers_chip (exec_bltNext h hr) ⟨keptBut_chip.2 ?_, ?_, rfl, fun hseq => ?_⟩
    · exact (kept_bltLatch (by decide)).2 ((kept_regPut _ _ (by decide)).2 ((kept_regPut _ _ (by decide)).2 (.refl _ _)))
    · exact (cursorPast_regsKept _ _).trans (.of_regs rfl)
    · exact bltCursor_cursorPast s.chip hseq
  · intro s h
    refine answers_chip (exec_bltLatchDone s) ⟨keptBut_chip.2 ((kept_bltLatched (by decide)).2 (.refl _ _)), ?_⟩
    rw [bltLatched_busy h]
    exact ⟨rfl, rfl, List.length_take_le _ _, fun r hr => bltMatch_mem (List.mem_of_mem_take hr),
      (bltMatch_pairwise s.chip).sublist (List.take_sublist _ _)⟩
  · intro s h
    rw [exec_bltLatchDone, bltLatched_idle h]

end Sys2Proof
end

section
/-! PROOFS. The update session (R437 to R442, R455): an opcode of its owner, of another source and of none, and what each
does to the session's record. -/

namespace Sys2Proof

open Machine

theorem begun_upd (c : Chip) (req : Requester) (op : Nat) : (begun c req op).upd = c.upd :=
  begun_kept c req op .upd (by decide)

theorem queryAnswer_congr {c d : Chip} (hupd : d.upd = c.upd) (htb : d.tb = c.tb) : queryAnswer d = queryAnswer c := by
  simp only [queryAnswer, manifestId, chunkTotal, sourceCode, confirmLeft, pendingSec, hupd, htb]

theorem manifestCause_congr {c d : Chip} (htru : d.tru = c.tru) (hsup : d.sup = c.sup) (f : Fuses) (m : Manifest) (n : Nat)
    (g : Bool) : manifestCause d f m n g = manifestCause c f m n g := by
  have hstage : stageFailed d = stageFailed c := by
    funext k
    rw [stageFailed, stageFailed, htru]
  simp only [manifestCause, hstage, htru, hsup]

theorem manifestCause_begun (c : Chip) (req : Requester) (op : Nat) (f : Fuses) (m : Manifest) (n : Nat) (g : Bool) :
    manifestCause (begun c req op) f m n g = manifestCause c f m n g :=
  manifestCause_congr (begun_kept c req op .tru (by decide)) (begun_kept c req op .sup (by decide)) f m n g

/-! ### The owner of the session (R438) -/

theorem asOwner_free {c : Chip} (h : c.upd.source = none) (req : Requester) (src : UpdSource) (act : Chip → Chip) :
    asOwner c req src act = act c := by
  rw [asOwner, h]

theorem asOwner_owner {c : Chip} {req : Requester} {src : UpdSource} (h : c.upd.source = some (sourceOf req src))
    (act : Chip → Chip) : asOwner c req src act = act c := by
  rw [asOwner, h]
  exact if_pos rfl

theorem asOwner_other {c : Chip} {req : Requester} {src o : UpdSource} (h : c.upd.source = some o)
    (ho : o ≠ sourceOf req src) (act : Chip → Chip) :
    asOwner c req src act = complete (updEvt c 7) req (ansStatus .busyOther) := by
  rw [asOwner, h]
  exact if_neg ho

/-- An opcode of the session that its owner sends does the work of the opcode. -/
theorem perform_owner {c : Chip} {req : Requester} {src : UpdSource} {op : Nat} {b : Block}
    (hperf : performs c req op b = true) (h : c.upd.source = some (sourceOf req src)) (act : Chip → Chip) :
    perform c req op b (fun c => asOwner c req src act) = act (begun c req op) := by
  rw [perform_of_performs _ _ _ _ _ hperf]
  exact asOwner_owner ((congrArg Upd.source (begun_upd c req op)).trans h) act

theorem updEvt_kept (c : Chip) (b : Nat) : ChipKeptBut [.host, .out, .regs] c (updEvt c b) :=
  (kept_updEvt b (by decide)).2 (.refl _ c)

theorem updEvt_upd (c : Chip) (b : Nat) : (updEvt c b).upd = c.upd := updEvt_kept c b .upd (by decide)

theorem immBit_updEvt (c : Chip) {b : Nat} (h : b < 32) : immBit (updEvt c b) Reg.UPD_EVT b = true := immBit_raiseEvt _ _ _ h

/-! ### UPD_OPEN -/

/-- R439: the record of a session that a manifest opens. -/
def openedWith (u : Upd) (src : UpdSource) (m : Manifest) : Upd :=
  { u with
    state := .downloading, source := some src, manifest := some m, chunks := [], journal := .none, starts := 0, savedS := 0 }

/-- R437: the record once a refusal has left its cause. -/
def causedBy (k : Nat) (u : Upd) : Upd := { u with cause := k }

theorem updOpen_accepted {c : Chip} {f : Fuses} {bs : List Byte} {g : Bool} (hm : c.upd.manifest = none)
    (hcause : manifestCause c f (readManifest bs) bs.length g = none) (req : Requester) (src : UpdSource) :
    updOpen c f req src bs g =
      complete (updEvt (modUpd c fun u => openedWith u (sourceOf req src) (readManifest bs)) 0) req
        { ansOk with aux32 := (readManifest bs).total, result := leBytes 8 (readManifest bs).id } := by
  rw [updOpen, hm]
  dsimp only
  rw [hcause]
  rfl

theorem updOpen_refused {c : Chip} {f : Fuses} {bs : List Byte} {g : Bool} {k : Nat} (hm : c.upd.manifest = none)
    (hcause : manifestCause c f (readManifest bs) bs.length g = some k) (req : Requester) (src : UpdSource) :
    updOpen c f req src bs g = complete (modUpd c (causedBy k)) req { ansReject (causeDetail k) with aux := k } := by
  rw [updOpen, hm]
  dsimp only
  rw [hcause]
  rfl

theorem exec_updOpen_some (req : Requester) (src : UpdSource) (bs : List Byte) (g : Bool) (s : State) :
    exec (.updOpen req src (some bs) g) s = .next { s with
      chip := perform s.chip req 0x0701 .update fun c => asOwner c req src fun c => updOpen c s.fuses req src bs g } := rfl

theorem exec_updOpen_other {s : State} {req : Requester} {src o : UpdSource} (hperf : performs s.chip req 0x0701 .update = true)
    (h : s.chip.upd.source = some o) (ho : o ≠ sourceOf req src) (b : Option (List Byte)) (g : Bool) :
    exec (.updOpen req src b g) s = .next { s with
      chip := complete (updEvt (begun s.chip req 0x0701) 7) req (ansStatus .busyOther) } := by
  change execUpdOpen req src b g s = _
  rw [execUpdOpen, onChip, perform_of_performs _ _ _ _ _ hperf]
  exact congrArg (fun x => Host.Outcome.next { s with chip := x })
    (asOwner_other ((congrArg Upd.source (begun_upd s.chip req 0x0701)).trans h) ho _)

/-! ### UPD_CHUNK -/

theorem exec_updChunk_owner {s : State} {req : Requester} {src : UpdSource} (hperf : performs s.chip req 0x0702 .update = true)
    (h : s.chip.upd.source = some (sourceOf req src)) (n : Nat) (data : Option (List Byte)) (r : Bool) :
    exec (.updChunk req src n data r) s = .next { s with chip := updChunk (begun s.chip req 0x0702) req n data r } := by
  change execUpdChunk req src n data r s = _
  rw [execUpdChunk, onChip, perform_owner hperf h]

/-- R441: the record with one more chunk. -/
def withChunk (n : Nat) (bs : List Byte) (u : Upd) : Upd := { u with chunks := tput u.chunks n bs }

section
variable {c : Chip} {m : Manifest} {n : Nat} {bs : List Byte}

theorem updChunk_stored (hstate : c.upd.state = .downloading) (hm : c.upd.manifest = some m) (hn : n < m.total)
    (hlen : bs.length = m.chunkLen n) (hnew : tfind c.upd.chunks n = none) (req : Requester) :
    updChunk c req n (some bs) true = complete (modUpd c (withChunk n bs)) req ansOk := by
  rw [updChunk, hstate, hm]
  dsimp only
  rw [if_neg (by omega), hnew, Option.isSome_none, if_neg Bool.false_ne_true, if_pos rfl]
  rfl

theorem updChunk_again (hstate : c.upd.state = .downloading) (hm : c.upd.manifest = some m) (hn : n < m.total)
    (hlen : bs.length = m.chunkLen n) (hheld : (tfind c.upd.chunks n).isSome = true) (req : Requester) (r : Bool) :
    updChunk c req n (some bs) r = complete c req (ansReplay ansOk) := by
  rw [updChunk, hstate, hm]
  dsimp only
  rw [if_neg (by omega), if_pos hheld]

end

/-! ### UPD_VERIFY -/

/-- R442: the record once a verification has begun for a request. -/
def verifyingFor (req : Requester) (u : Upd) : Upd := { u with state := .verifying, waiting := [(req, false)] }

section
variable {s : State} {req : Requester} {src : UpdSource} {m : Manifest}

theorem exec_updVerify_downloading (hperf : performs s.chip req 0x0703 .update = true)
    (h : s.chip.upd.source = some (sourceOf req src)) (hstate : s.chip.upd.state = .downloading)
    (hm : s.chip.upd.manifest = some m) :
    exec (.updVerify req src) s = .next { s with
      chip := if (List.range m.total).all (fun n => (tfind s.chip.upd.chunks n).isSome) then
          modUpd (begun s.chip req 0x0703) (verifyingFor req)
        else updRefuse (begun s.chip req 0x0703) req 12 } := by
  change execUpdVerify req src s = _
  rw [execUpdVerify, onChip, perform_owner hperf h, begun_upd, hstate, hm]
  rfl

theorem exec_updVerify_all (hperf : performs s.chip req 0x0703 .update = true)
    (h : s.chip.upd.source = some (sourceOf req src)) (hstate : s.chip.upd.state = .downloading)
    (hm : s.chip.upd.manifest = some m) (hall : ∀ n, n < m.total → (tfind s.chip.upd.chunks n).isSome = true) :
    exec (.updVerify req src) s = .next { s with chip := modUpd (begun s.chip req 0x0703) (verifyingFor req) } := by
  rw [exec_updVerify_downloading hperf h hstate hm, if_pos]
  exact List.all_eq_true.2 fun n hn => hall n (List.mem_range.1 hn)

theorem exec_updVerify_missing {n : Nat} (hperf : performs s.chip req 0x0703 .update = true)
    (h : s.chip.upd.source = some (sourceOf req src)) (hstate : s.chip.upd.state = .downloading)
    (hm : s.chip.upd.manifest = some m) (hn : n < m.total) (hmiss : tfind s.chip.upd.chunks n = none) :
    exec (.updVerify req src) s = .next { s with
      chip := complete (modUpd (begun s.chip req 0x0703) (causedBy 12)) req { ansReject .rule with aux := 12 } } := by
  rw [exec_updVerify_downloading hperf h hstate hm, if_neg]
  · rfl
  · intro hall
    have hheld := List.all_eq_true.1 hall n (List.mem_range.2 hn)
    rw [hmiss] at hheld
    exact Bool.false_ne_true hheld

end

/-! ### UPD_VERIFY_DONE -/

/-- R442: the chip once every image stands in its bank. -/
def verifiedChip (c : Chip) (m : Manifest) : Chip :=
  updEvt (modUpd (writeBanks c m) fun u => { u with state := .verified }) 1

/-- R439: the chip once the chunks of images without their digest are cleared. -/
def unverifiedChip (c : Chip) (bad : List PartEntry) : Chip :=
  updEvt (clearChunks (modUpd c fun u => { u with state := .downloading, cause := 13 }) bad) 2

/-- R442: the entries whose image has not their digest. -/
def badEntries (c : Chip) (m : Manifest) : List PartEntry :=
  m.entries.filter fun e => !imageOk e (sliceOf (payload c m) e.offset e.length)

/-- R442: no request waits for the verification any more. -/
def noneWaiting (c : Chip) : Chip := modUpd c fun u => { u with waiting := [] }

theorem exec_updVerifyDone_verifying {s : State} {m : Manifest} (hstate : s.chip.upd.state = .verifying)
    (hm : s.chip.upd.manifest = some m) :
    exec .updVerifyDone s = .next { s with
      chip := if (badEntries s.chip m).isEmpty then answerVerify (verifiedChip s.chip m) true
        else answerVerify (unverifiedChip s.chip (badEntries s.chip m)) false } := by
  change execUpdVerifyDone s = _
  rw [execUpdVerifyDone, onChip, hstate, hm]
  rfl

theorem verifiedChip_kept (c : Chip) (m : Manifest) : ChipKeptBut [.host, .out, .regs, .upd] c (verifiedChip c m) :=
  (kept_updEvt 1 (by decide)).2 ((kept_modUpd _ (by decide)).2 ((kept_writeBanks m (by decide)).2 (.refl _ c)))

theorem unverifiedChip_kept (c : Chip) (bad : List PartEntry) :
    ChipKeptBut [.host, .out, .regs, .upd] c (unverifiedChip c bad) :=
  (kept_updEvt 2 (by decide)).2 ((kept_clearChunks bad (by decide)).2 ((kept_modUpd _ (by decide)).2 (.refl _ c)))

theorem noneWaiting_kept (c : Chip) : ChipKeptBut [.upd] c (noneWaiting c) := (kept_modUpd _ (by decide)).2 (.refl _ c)

/-- R442: one UPD_VERIFY that waits is answered by the result. -/
theorem answerVerify_one {c : Chip} {req : Requester} (h : c.upd.waiting = [(req, false)]) (ok : Bool) :
    answerVerify c ok = complete (noneWaiting c) req (if ok then ansOk else { ansReject .verify with aux := 13 }) := by
  rw [answerVerify, h]
  rfl

theorem verifiedChip_upd (c : Chip) (m : Manifest) : (verifiedChip c m).upd = { (writeBanks c m).upd with state := .verified } :=
  updEvt_upd _ _

theorem unverifiedChip_upd (c : Chip) (bad : List PartEntry) :
    (unverifiedChip c bad).upd =
      (clearChunks (modUpd c fun u => { u with state := .downloading, cause := 13 }) bad).upd := updEvt_upd _ _

/-! ### UPD_ABORT and UPD_IDLE_TIMEOUT -/

/-- R439: the session given up, and told. -/
def givenUp (c : Chip) : Chip := updEvt (clearSession c) 6

theorem givenUp_kept (c : Chip) : ChipKeptBut [.host, .out, .regs, .upd] c (givenUp c) :=
  (kept_updEvt 6 (by decide)).2 ((kept_clearSession (by decide)).2 (.refl _ c))

theorem givenUp_upd (c : Chip) : (givenUp c).upd = (clearSession c).upd := updEvt_upd _ _

theorem immBit_givenUp (c : Chip) : immBit (givenUp c) Reg.UPD_EVT 6 = true := immBit_raiseEvt _ _ _ (by decide)

theorem exec_updAbort_givesUp {s : State} {req : Requester} {src : UpdSource}
    (hperf : performs s.chip req 0x0706 .update = true) (h : s.chip.upd.source = some (sourceOf req src))
    (hstate : s.chip.upd.state = .downloading ∨ s.chip.upd.state = .verified) :
    exec (.updAbort req src) s = .next { s with chip := complete (givenUp (begun s.chip req 0x0706)) req ansOk } := by
  change execUpdAbort req src s = _
  rw [execUpdAbort, onChip, perform_owner hperf h, begun_upd]
  obtain hstate | hstate := hstate <;> rw [hstate] <;> rfl

theorem exec_updIdleTimeout_givesUp {s : State} (hstate : s.chip.upd.state = .downloading ∨ s.chip.upd.state = .verified) :
    exec .updIdleTimeout s = .next { s with chip := givenUp s.chip } := by
  change execUpdIdleTimeout s = _
  rw [execUpdIdleTimeout, onChip, if_pos hstate]
  rfl

/-- Settles O39, opcode by opcode of the session. -/
theorem updateSessionCommands : Obligations.UpdateSessionCommands := by
  unfold Obligations.UpdateSessionCommands
  refine ⟨?_, ?_, ?_, ?_, ?_, ?_, ?_, ?_, ?_, ?_, ?_, ?_⟩
  · intro s req hperf
    refine replies_perform rfl hperf ?_ rfl
    exact congrArg (complete _ req) (queryAnswer_congr (begun_upd _ _ _) (begun_tb _ _ _))
  · intro s req src bs g hperf hfree hm hcause
    refine replies_perform (exec_updOpen_some req src bs g s) hperf ?_
      ⟨?_, immBit_updEvt _ (by decide), (updEvt_upd (modUpd _ fun u => openedWith u _ _) 0).trans rfl⟩
    · rw [asOwner_free ((congrArg Upd.source (begun_upd _ _ _)).trans hfree)]
      exact updOpen_accepted ((congrArg Upd.manifest (begun_upd _ _ _)).trans hm)
        ((manifestCause_begun _ _ _ _ _ _ _).trans hcause) req src
    · exact (kept_updEvt 0 (by decide)).2 ((kept_modUpd _ (by decide)).2 (.refl _ _))
  · intro s req src bs g k hperf hfree hm hcause
    refine replies_perform (exec_updOpen_some req src bs g s) hperf ?_ ⟨(kept_modUpd (causedBy k) (by decide)).2 (.refl _ _), rfl⟩
    rw [asOwner_free ((congrArg Upd.source (begun_upd _ _ _)).trans hfree)]
    exact updOpen_refused ((congrArg Upd.manifest (begun_upd _ _ _)).trans hm)
      ((manifestCause_begun _ _ _ _ _ _ _).trans hcause) req src
  · intro s req src o b g hperf hsrc ho
    exact replies_chip (exec_updOpen_other hperf hsrc ho b g)
      ⟨updEvt_kept _ _, regsKept_raiseEvt _ _ (List.mem_singleton_self _), immBit_raiseEvt _ _ _ (by decide)⟩
  · intro s req src n bs m hperf hsrc hstate hm hn hlen hnew
    have hupd := begun_upd s.chip req 0x0702
    refine replies_chip ((exec_updChunk_owner hperf hsrc n (some bs) true).trans ?_)
      ⟨(kept_modUpd (withChunk n bs) (by decide)).2 (.refl _ _), rfl⟩
    exact congrArg (fun x => Host.Outcome.next { s with chip := x })
      (updChunk_stored ((congrArg Upd.state hupd).trans hstate) ((congrArg Upd.manifest hupd).trans hm) hn hlen
        ((congrArg (fun u => tfind u.chunks n) hupd).trans hnew) req)
  · intro s req src n bs m r hperf hsrc hstate hm hn hlen hheld
    have hupd := begun_upd s.chip req 0x0702
    refine replies_chip (e := begun s.chip req 0x0702) ((exec_updChunk_owner hperf hsrc n (some bs) r).trans ?_) rfl
    exact congrArg (fun x => Host.Outcome.next { s with chip := x })
      (updChunk_again ((congrArg Upd.state hupd).trans hstate) ((congrArg Upd.manifest hupd).trans hm) hn hlen
        ((congrArg (fun u => (tfind u.chunks n).isSome) hupd).trans hheld) req r)
  · intro s req src m hperf hsrc hstate hm hall
    refine answers_chip (exec_updVerify_all hperf hsrc hstate hm hall) ⟨keptBut_chip.2 ?_, ?_⟩
    · exact (kept_modUpd _ (by decide)).2 ((begun_kept _ _ _).mono (by decide))
    · exact congrArg (verifyingFor req) (begun_upd _ _ _)
  · intro s req src m n hperf hsrc hstate hm hn hmiss
    exact replies_chip (exec_updVerify_missing hperf hsrc hstate hm hn hmiss)
      ⟨(kept_modUpd (causedBy 12) (by decide)).2 (.refl _ _), rfl⟩
  · intro s m req hstate hm hwait hok
    have hgood : badEntries s.chip m = [] := by
      refine List.filter_eq_nil_iff.2 fun x hx => ?_
      rw [hok x hx]
      exact Bool.false_ne_true
    have hexec := exec_updVerifyDone_verifying hstate hm
    rw [hgood, if_pos (by decide), answerVerify_one ((congrArg Upd.waiting (verifiedChip_upd s.chip m)).trans hwait)] at hexec
    refine answers_chip hexec ⟨storesKept_chip _ _, noneWaiting (verifiedChip s.chip m), rfl, ?_, ?_, rfl, ?_⟩
    · exact (verifiedChip_kept _ _).trans ((noneWaiting_kept _).mono (by decide))
    · exact congrArg Upd.state (verifiedChip_upd s.chip m)
    · exact immBit_updEvt (modUpd (writeBanks s.chip m) fun u => { u with state := .verified }) (by decide)
  · intro s m req x hstate hm hwait hx hbad
    have hsome : (badEntries s.chip m).isEmpty = false := by
      refine List.isEmpty_eq_false_iff.2 fun hnil => ?_
      refine List.filter_eq_nil_iff.1 hnil x hx ?_
      rw [hbad]
      rfl
    have hexec := exec_updVerifyDone_verifying hstate hm
    rw [if_neg (hsome ▸ Bool.false_ne_true)] at hexec
    generalize badEntries s.chip m = bad at hexec
    have hupd := unverifiedChip_upd s.chip bad
    rw [answerVerify_one ((congrArg Upd.waiting hupd).trans hwait)] at hexec
    refine answers_chip hexec ⟨storesKept_chip _ _, noneWaiting (unverifiedChip s.chip bad), rfl, ?_, ?_, ?_, ?_, ?_⟩
    · exact (unverifiedChip_kept _ _).trans ((noneWaiting_kept _).mono (by decide))
    · exact congrArg Upd.state hupd
    · exact congrArg Upd.cause hupd
    · exact (congrArg Upd.banks hupd).trans rfl
    · exact immBit_updEvt (clearChunks (modUpd s.chip fun u => { u with state := .downloading, cause := 13 }) bad) (by decide)
  · intro s req src hperf hsrc hstate
    have hupd := givenUp_upd (begun s.chip req 0x0706)
    exact replies_chip (exec_updAbort_givesUp hperf hsrc hstate)
      ⟨givenUp_kept _, congrArg Upd.state hupd, congrArg Upd.source hupd, congrArg Upd.manifest hupd, congrArg Upd.chunks hupd,
        (congrArg Upd.banks hupd).trans rfl, immBit_givenUp _⟩
  · intro s hstate
    have hupd := givenUp_upd s.chip
    exact answers_chip (exec_updIdleTimeout_givesUp hstate)
      ⟨keptBut_chip.2 (givenUp_kept _), congrArg Upd.state hupd, congrArg Upd.manifest hupd, congrArg Upd.chunks hupd,
        immBit_givenUp _⟩

end Sys2Proof
end

section
/-! PROOFS. The reception of a Felt frame (R372, R374, R375, R380, R381): what turns it away, what goes on, and the one use. -/

namespace Sys2Proof

open Machine

/-! ### Forwarding -/

/-- R374: what identifies a flood. -/
def floodId (h : FeltHdr) (typ : Nat) : Nat × Nat × Nat × Nat := (h.src, typ, h.epoch, h.seq)

theorem forwardFlood_known {c : Chip} {h : FeltHdr} {typ : Nat} (hknown : floodId h typ ∈ c.fab.forwarded) :
    forwardFlood c h typ = c := if_pos (List.contains_iff_mem.2 hknown)

/-- R381: the ports that a flood goes on. -/
def floodPorts (c : Chip) (h : FeltHdr) (typ : Nat) : List Nat :=
  (List.range 4).filter fun p => p != h.port.val && carries c p typ

/-- R374: the flood is noted as forwarded. -/
def floodNoted (c : Chip) (h : FeltHdr) (typ : Nat) : Chip :=
  modFab c fun f => { f with forwarded := (floodId h typ :: f.forwarded).take 1024 }

theorem forwardFlood_new {c : Chip} {h : FeltHdr} {typ : Nat} (hnew : floodId h typ ∉ c.fab.forwarded) :
    forwardFlood c h typ = emits (floodNoted c h typ)
      ((floodPorts c h typ).map fun p => .feltForward p typ h.src h.epoch h.seq (h.ttl - 1)) :=
  if_neg fun hcon => hnew (List.contains_iff_mem.1 hcon)

theorem mem_emits {c : Chip} {es : List Emit} {x : Emit} : x ∈ (emits c es).out ↔ x ∈ es ∨ x ∈ c.out := by
  rw [emits, List.mem_append, List.mem_reverse]

theorem forwardFlood_kept (c : Chip) (h : FeltHdr) (typ : Nat) : ChipKeptBut [.fab, .out] c (forwardFlood c h typ) :=
  (kept_forwardFlood h typ (by decide)).2 (.refl _ c)

/-- R374: of the fabric a flood changes only what is noted as forwarded. -/
theorem forwardFlood_fab (c : Chip) (h : FeltHdr) (typ : Nat) :
    ∃ l, (forwardFlood c h typ).fab = { c.fab with forwarded := l } := by
  by_cases hknown : floodId h typ ∈ c.fab.forwarded
  · exact ⟨c.fab.forwarded, by rw [forwardFlood_known hknown]⟩
  · exact ⟨_, by rw [forwardFlood_new hknown]; rfl⟩

theorem mem_floodPorts {c : Chip} {h : FeltHdr} {typ p : Nat} :
    p ∈ floodPorts c h typ ↔ p < 4 ∧ p ≠ h.port.val ∧ carries c p typ = true := by
  rw [floodPorts, List.mem_filter, List.mem_range, Bool.and_eq_true, bne_iff_ne]

theorem mem_out_forwardFlood {c : Chip} {h : FeltHdr} {typ : Nat} (hnew : floodId h typ ∉ c.fab.forwarded) (p : Nat) :
    .feltForward p typ h.src h.epoch h.seq (h.ttl - 1) ∈ (forwardFlood c h typ).out ↔
      (p < 4 ∧ p ≠ h.port.val ∧ carries c p typ = true) ∨
        .feltForward p typ h.src h.epoch h.seq (h.ttl - 1) ∈ c.out := by
  rw [forwardFlood_new hnew, mem_emits, ← mem_floodPorts, List.mem_map]
  refine or_congr ⟨?_, fun hp => ⟨p, hp, rfl⟩⟩ Iff.rfl
  rintro ⟨q, hq, heq⟩
  cases heq
  exact hq

theorem floodId_mem_forwardFlood {c : Chip} {h : FeltHdr} {typ : Nat} (hnew : floodId h typ ∉ c.fab.forwarded) :
    floodId h typ ∈ (forwardFlood c h typ).fab.forwarded := by
  rw [forwardFlood_new hnew]
  exact List.mem_cons_self

theorem passOn_link {typ : Nat} (hlink : linkType typ = true) (c : Chip) (h : FeltHdr) (flood : Bool) :
    passOn c h typ flood = c := if_pos (.inr hlink)

section
variable {c : Chip} {h : FeltHdr} {typ : Nat}

theorem passOn_flood (httl : h.ttl ≠ 0) (hlink : linkType typ = false) : passOn c h typ true = forwardFlood c h typ := by
  rw [passOn, if_neg (by rw [hlink]; exact fun hor => hor.elim httl Bool.false_ne_true), if_pos rfl]

/-- R376: a frame for this module alone goes no further. -/
theorem passOn_mine (hme : forMe c h typ = true) : passOn c h typ false = c := by
  rw [passOn, if_neg Bool.false_ne_true]
  split
  · rfl
  · next hgo =>
    obtain ⟨-, hlink⟩ := not_or.1 hgo
    rw [forMe, Bool.or_eq_true, Bool.or_eq_true, or_assoc] at hme
    obtain hdst | hdst := hme.resolve_left hlink
    · rw [eq_of_beq hdst]
    · rw [eq_of_beq hdst]
      exact if_pos rfl

/-- R380: a frame for another member goes on along its route. -/
theorem passOn_routed {a p : Nat} (httl : h.ttl ≠ 0) (hlink : linkType typ = false) (hdst : h.dst = some a)
    (ha : a ≠ c.fab.addr) (hp : portToward c a = some p) (hcar : carries c p typ = true) :
    passOn c h typ false = emit c (.feltForward p typ h.src h.epoch h.seq (h.ttl - 1)) := by
  rw [passOn, if_neg (by rw [hlink]; exact fun hor => hor.elim httl Bool.false_ne_true), if_neg Bool.false_ne_true, hdst]
  dsimp only
  rw [if_neg ha, hp]
  exact if_pos hcar

end

/-! ### Reception -/

section
variable {c : Chip} {h : FeltHdr} {typ : Nat}

theorem receive_dropped {echo : Bool}
    (hdrop : keyOk c = false ∨ portUp (fport c h.port.val) = false ∨ h.ttl = 0 ∨ echo = true) (flood : Bool)
    (use : Chip → Chip) : receive c h typ flood echo use = c := by
  refine if_pos ?_
  simp only [Bool.or_eq_true, Bool.not_eq_true', beq_iff_eq]
  tauto

theorem receive_passed (hkey : keyOk c = true) (hup : portUp (fport c h.port.val) = true) (httl : h.ttl ≠ 0) (flood : Bool)
    (use : Chip → Chip) :
    receive c h typ flood false use =
      if forMe (passOn c h typ flood) h typ && !stale (passOn c h typ flood) h typ then
        use (modFab (passOn c h typ flood) fun f => { f with heard := tput f.heard (64 * h.src + typ) (h.epoch, h.seq) })
      else passOn c h typ flood := by
  refine if_neg ?_
  rw [hkey, hup, beq_eq_false_iff_ne.2 httl]
  exact Bool.false_ne_true

theorem passOn_fab (c : Chip) (h : FeltHdr) (typ : Nat) (flood : Bool) :
    ∃ l, (passOn c h typ flood).fab = { c.fab with forwarded := l } := by
  have hself : ∃ l, c.fab = { c.fab with forwarded := l } := ⟨c.fab.forwarded, rfl⟩
  unfold passOn
  split
  · exact hself
  split
  · exact forwardFlood_fab c h typ
  split
  · exact hself
  split
  · exact hself
  split
  · split
    · exact hself
    · exact hself
  · exact hself

theorem forMe_passOn (flood : Bool) : forMe (passOn c h typ flood) h typ = forMe c h typ := by
  obtain ⟨l, hfab⟩ := passOn_fab c h typ flood
  rw [forMe, forMe, hfab]

theorem stale_passOn (flood : Bool) : stale (passOn c h typ flood) h typ = stale c h typ := by
  obtain ⟨l, hfab⟩ := passOn_fab c h typ flood
  rw [stale, stale, hfab]

/-- R375: a frame that is not used here only goes on. -/
theorem receive_unused (hkey : keyOk c = true) (hup : portUp (fport c h.port.val) = true) (httl : h.ttl ≠ 0)
    (hno : forMe c h typ = false ∨ stale c h typ = true) (flood : Bool) (use : Chip → Chip) :
    receive c h typ flood false use = passOn c h typ flood := by
  rw [receive_passed hkey hup httl, forMe_passOn, stale_passOn]
  refine if_neg ?_
  obtain hno | hno := hno <;> simp [hno]

theorem usesFrame_iff : usesFrame c h typ = true ↔ keyOk c = true ∧ portUp (fport c h.port.val) = true ∧ h.ttl ≠ 0 ∧
    forMe c h typ = true ∧ stale c h typ = false := by
  simp only [usesFrame, Bool.and_eq_true, bne_iff_ne, Bool.not_eq_true', and_assoc]

/-- A frame that is for this module is passed on as a flood goes on. -/
theorem passOn_forMe (httl : h.ttl ≠ 0) (hme : forMe c h typ = true) {flood : Bool} (hlink : flood = true → linkType typ = false) :
    passOn c h typ flood = if flood then forwardFlood c h typ else c := by
  cases flood with
  | false => exact passOn_mine hme
  | true => exact passOn_flood httl (hlink rfl)

/-- R375: a fresh frame for this module is used on the chip that has noted it. -/
theorem receive_used (huses : usesFrame c h typ = true) {flood : Bool} (hlink : flood = true → linkType typ = false)
    (use : Chip → Chip) : receive c h typ flood false use = use (noted c h typ flood) := by
  obtain ⟨hkey, hup, httl, hme, hfresh⟩ := usesFrame_iff.1 huses
  rw [receive_passed hkey hup httl, forMe_passOn, stale_passOn, hme, hfresh, if_pos (by decide), passOn_forMe httl hme hlink]
  rfl

end

/-! ### The fourteen TYPEs -/

/-- Every frame is received in the one way, with its own use. -/
theorem exec_of_frameOf {i : Instr} {h : FeltHdr} {typ : Nat} {flood : Bool} (hf : frameOf i = some (h, typ, flood))
    (s : State) : ∃ use, exec i s = .next { s with chip := receive s.chip h typ flood (ownEcho s.chip i) use } := by
  unfold frameOf at hf
  split at hf
  case h_15 => cases hf
  all_goals
    cases hf
    exact ⟨_, rfl⟩

/-- R376: no TYPE of a link is a flood. -/
theorem linkType_of_flood {i : Instr} {h : FeltHdr} {typ : Nat} (hf : frameOf i = some (h, typ, true)) :
    linkType typ = false := by
  unfold frameOf at hf
  split at hf <;> cases hf <;> decide

/-- R377: only a flood can be this module's own come back. -/
theorem ownEcho_of_routed {i : Instr} {h : FeltHdr} {typ : Nat} (hf : frameOf i = some (h, typ, false)) (c : Chip) :
    ownEcho c i = false := by
  unfold frameOf at hf
  split at hf <;> cases hf <;> rfl

/-- Settles O41, by the one way in which every TYPE is received. -/
theorem feltReception : Obligations.FeltReception := by
  unfold Obligations.FeltReception
  refine ⟨?_, ?_, ?_, fun c h typ hknown => forwardFlood_known hknown, fun c h typ flood hlink => passOn_link hlink c h flood,
    ?_⟩
  · intro s i h typ flood hf hdrop
    obtain ⟨use, hexec⟩ := exec_of_frameOf hf s
    rw [hexec, receive_dropped hdrop]
  · intro s i h typ flood hf hkey hup httl hecho hme hstale
    obtain ⟨use, hexec⟩ := exec_of_frameOf hf s
    rw [hexec, hecho, receive_unused hkey hup httl (.inr hstale),
      passOn_forMe httl hme (fun hflood => linkType_of_flood (by rw [hf, hflood]))]
  · intro c h typ hnew
    exact ⟨forwardFlood_kept c h typ, floodId_mem_forwardFlood hnew, mem_out_forwardFlood hnew⟩
  · intro s i h typ a p hf hlink hkey hup httl hdst ha hp hcar
    have hother : forMe s.chip h typ = false := by
      rw [forMe, hlink, hdst]
      simpa using ha
    obtain ⟨use, hexec⟩ := exec_of_frameOf hf s
    rw [ownEcho_of_routed hf, receive_unused hkey hup httl (.inl hother), passOn_routed httl hlink hdst ha hp hcar] at hexec
    exact answers_chip hexec ⟨keptBut_chip.2 ((kept_emit _ (by decide)).2 (.refl _ _)), rfl⟩

end Sys2Proof
end

section
/-! PROOFS. What the fabric's own work leaves (R374, R376, R380 to R382, R393): frames sent, events told, the routes drawn
again, the Milliner and the root chosen. -/

namespace Sys2Proof

open Machine

/-- R374, R382, R393: one chip follows from another by events of the fabric, frames sent, links woken, and the choice of a
Milliner and of a root. Nothing else of the fabric changes. -/
structure FabricRuns (c d : Chip) : Prop where
  kept : ChipKeptBut [.fab, .host, .out, .regs] c d
  regs : RegsKeptBut [Reg.FAB_EVT] c d
  told : ∀ b, immBit c Reg.FAB_EVT b = true → immBit d Reg.FAB_EVT b = true
  sent : ∀ x ∈ c.out, x ∈ d.out
  fab : d.fab = { c.fab with
    seqs := d.fab.seqs, ports := d.fab.ports, milliner := d.fab.milliner, partition := d.fab.partition, root := d.fab.root }
  port : ∀ p, fport d p = { fport c p with wakeSent := (fport d p).wakeSent }

namespace FabricRuns

theorem refl (c : Chip) : FabricRuns c c := ⟨.refl _ c, .refl _ c, fun _ => id, fun _ => id, rfl, fun _ => rfl⟩

theorem trans {c d e : Chip} (h : FabricRuns c d) (g : FabricRuns d e) : FabricRuns c e where
  kept := h.kept.trans g.kept
  regs := h.regs.trans g.regs
  told b hb := g.told b (h.told b hb)
  sent x hx := g.sent x (h.sent x hx)
  fab := g.fab.trans (by rw [h.fab])
  port p := (g.port p).trans (by rw [h.port p])

theorem ite {c d e : Chip} {p : Prop} [Decidable p] (hd : FabricRuns c d) (he : FabricRuns c e) :
    FabricRuns c (if p then d else e) := by
  split
  · exact hd
  · exact he

theorem foldl {α : Type} (l : List α) {f : Chip → α → Chip} (hf : ∀ c a, FabricRuns c (f c a)) (c : Chip) :
    FabricRuns c (l.foldl f c) := by
  induction l generalizing c with
  | nil => exact refl c
  | cons a l ih => exact (hf c a).trans (ih _)

section
variable {c d : Chip} (h : FabricRuns c d)
include h

theorem db : d.fab.db = c.fab.db := by rw [h.fab]
theorem addr : d.fab.addr = c.fab.addr := by rw [h.fab]
theorem addrValid : d.fab.addrValid = c.fab.addrValid := by rw [h.fab]
theorem mode : d.fab.mode = c.fab.mode := by rw [h.fab]
theorem lsaSeq : d.fab.lsaSeq = c.fab.lsaSeq := by rw [h.fab]
theorem steady : d.fab.steady = c.fab.steady := by rw [h.fab]

end

end FabricRuns

/-! ### Ports -/

theorem fport_setFport_self (c : Chip) (p : Nat) (x : FPortSt) : fport (setFport c p x) p = x := tget_tput_self _ _ _ _

theorem fport_setFport_ne (c : Chip) {p q : Nat} (x : FPortSt) (h : q ≠ p) : fport (setFport c p x) q = fport c q :=
  tget_tput_ne _ _ _ h

theorem fport_modPort_self (c : Chip) (p : Nat) (f : FPortSt → FPortSt) : fport (modPort c p f) p = f (fport c p) :=
  fport_setFport_self _ _ _

theorem fport_modPort_ne (c : Chip) {p q : Nat} (f : FPortSt → FPortSt) (h : q ≠ p) :
    fport (modPort c p f) q = fport c q := fport_setFport_ne _ _ h

/-! ### Events and frames -/

theorem fabEvt_kept (c : Chip) (b : Nat) : ChipKeptBut [.host, .out, .regs] c (fabEvt c b) :=
  (kept_fabEvt b (by decide)).2 (.refl _ c)

theorem fabEvt_fab (c : Chip) (b : Nat) : (fabEvt c b).fab = c.fab := raiseEvt_fab c _ _

theorem immBit_fabEvt (c : Chip) {b : Nat} (hb : b < 32) : immBit (fabEvt c b) Reg.FAB_EVT b = true := immBit_raiseEvt _ _ _ hb

theorem fabEvt_regsKept (c : Chip) (b : Nat) : RegsKeptBut [Reg.FAB_EVT] c (fabEvt c b) :=
  regsKept_raiseEvt c b (List.mem_singleton_self _)

theorem fport_of_fab {c d : Chip} (h : d.fab.ports = c.fab.ports) (p : Nat) : fport d p = fport c p := by rw [fport, fport, h]

theorem fport_eq {c d : Chip} (h : d.fab.ports = c.fab.ports) (p : Nat) :
    fport d p = { fport c p with wakeSent := (fport d p).wakeSent } := by rw [fport_of_fab h]

theorem fabEvt_runs (c : Chip) {b : Nat} (hb : b < 32) : FabricRuns c (fabEvt c b) where
  kept := (fabEvt_kept c b).mono (by decide)
  regs := fabEvt_regsKept c b
  told _ h := immBit_raiseEvt_of c hb h
  sent _ h := mem_out_raiseEvt _ _ h
  fab := by rw [fabEvt_fab]
  port p := fport_eq (congrArg Fab.ports (fabEvt_fab c b)) p

/-- A step that leaves registers and ports alone and only adds to what is sent. -/
theorem FabricRuns.of_fab {c d : Chip} (hkept : ChipKeptBut [.fab, .out] c d) (hsent : ∀ x ∈ c.out, x ∈ d.out)
    (hfab : d.fab = { c.fab with
      seqs := d.fab.seqs, milliner := d.fab.milliner, partition := d.fab.partition, root := d.fab.root }) : FabricRuns c d where
  kept := hkept.mono (by decide)
  regs := hkept.regsKept (by decide)
  told b hb := (immBit_of_regs (hkept .regs (by decide)) _ b).trans hb
  sent := hsent
  fab := hfab.trans (by rw [hfab])
  port p := fport_eq (by rw [hfab]) p

theorem emit_runs (c : Chip) (x : Emit) : FabricRuns c (emit c x) :=
  .of_fab ((kept_emit x (by decide)).2 (.refl _ c)) (fun _ h => List.mem_cons_of_mem x h) rfl

theorem emits_runs (c : Chip) (l : List Emit) : FabricRuns c (emits c l) :=
  .of_fab ((kept_emits l (by decide)).2 (.refl _ c)) (fun _ h => mem_emits.2 (.inr h)) rfl

theorem countFelt_runs (c : Chip) (typ : Nat) : FabricRuns c (countFelt c typ) :=
  .of_fab ((kept_countFelt typ (by decide)).2 (.refl _ c)) (fun _ h => h) rfl

theorem sendLink_runs (c : Chip) (p typ : Nat) (b : List Byte) : FabricRuns c (sendLink c p typ b) :=
  .ite ((countFelt_runs c typ).trans (emit_runs _ _)) (.refl c)

theorem sendFlood_runs (c : Chip) (typ : Nat) (b : List Byte) : FabricRuns c (sendFlood c typ b) :=
  .ite ((countFelt_runs c typ).trans (emits_runs _ _)) (.refl c)

theorem sendTo_runs (c : Chip) (typ dst : Nat) (b : List Byte) : FabricRuns c (sendTo c typ dst b) := by
  unfold sendTo
  split
  · exact .ite ((countFelt_runs c typ).trans (emit_runs _ _)) (.refl c)
  · exact .refl c

theorem floodClaim_runs (c : Chip) : FabricRuns c (floodClaim c) := sendFlood_runs _ _ _

/-! ### Frames that go out -/

/-- A frame depends on what is sent under, and on nothing else of the chip. -/
theorem feltFrame_congr {c d : Chip} (haddr : d.fab.addr = c.fab.addr) (hepoch : d.fab.epoch = c.fab.epoch)
    (hseqs : d.fab.seqs = c.fab.seqs) (htru : d.tru = c.tru) (htb : d.tb = c.tb) (typ dst : Nat) (b : List Byte) :
    feltFrame d typ dst b = feltFrame c typ dst b := by
  have hseq : nextFeltSeq d typ = nextFeltSeq c typ := by rw [nextFeltSeq, nextFeltSeq, hseqs]
  have hhead : ∀ n, feltHead d typ dst n = feltHead c typ dst n := fun n => by
    rw [feltHead, feltHead, hseq, haddr, hepoch]
  have hnonce : feltNonce d typ = feltNonce c typ := by rw [feltNonce, feltNonce, hseq, haddr, hepoch]
  have hkey : currentKey d = currentKey c := by rw [currentKey, currentKey, nowNs, nowNs, htru, htb]
  have hwrapped : sendWrapped d = sendWrapped c := by rw [sendWrapped, sendWrapped, hkey, htru]
  rw [feltFrame, feltFrame, hhead, hnonce, hwrapped]

theorem carries_link {c : Chip} {p typ : Nat} (hup : portUp (fport c p) = true)
    (htyp : typ ∈ [0x01, 0x02, 0x03, 0x04, 0x0B, 0x0C, 0x0D, 0x0E, 0x0F, 0x10]) : carries c p typ = true := by
  rw [portUp, Bool.or_eq_true] at hup
  rw [carries]
  obtain hup | hup := hup
  · rw [eq_of_beq hup]
  · rw [eq_of_beq hup]
    exact Bool.or_eq_true_iff.2 (.inl (decide_eq_true htyp))

/-- R375, R376: a frame of the link goes out on an up port. -/
theorem sendLink_up {c : Chip} {p typ : Nat} (hkey : keyOk c = true) (hup : portUp (fport c p) = true)
    (htyp : typ ∈ [0x01, 0x02, 0x03, 0x04, 0x0B, 0x0C, 0x0D, 0x0E, 0x0F, 0x10]) (b : List Byte) :
    sendLink c p typ b = emit (countFelt c typ) (.felt p (feltFrame c typ (linkDst c p) b)) :=
  if_pos (by rw [hkey, hup, carries_link hup htyp]; rfl)

theorem sendLink_down {c : Chip} {p : Nat} (h : keyOk c = false ∨ portUp (fport c p) = false) (typ : Nat) (b : List Byte) :
    sendLink c p typ b = c :=
  if_neg (by obtain h | h := h <;> rw [h] <;> simp)

theorem sendFlood_key {c : Chip} (hkey : keyOk c = true) (typ : Nat) (b : List Byte) :
    sendFlood c typ b = emits (countFelt c typ) (((List.range 4).filter fun p => carries c p typ).map fun p =>
      .felt p (feltFrame c typ floodDst b)) := if_pos hkey

/-- R381: a flood goes out on every port that carries it. -/
theorem mem_out_sendFlood {c : Chip} {p typ : Nat} (hkey : keyOk c = true) (hp : p < 4) (hcar : carries c p typ = true)
    (b : List Byte) : .felt p (feltFrame c typ floodDst b) ∈ (sendFlood c typ b).out := by
  rw [sendFlood_key hkey, mem_emits]
  exact .inl (List.mem_map.2 ⟨p, List.mem_filter.2 ⟨List.mem_range.2 hp, hcar⟩, rfl⟩)

/-! ### The own LSA -/

/-- R376: the count of LSAs once this module sends one. -/
def lsaCounted (c : Chip) : Chip :=
  { c with fab := { c.fab with lsaSeq := if c.fab.addrValid then c.fab.lsaSeq + 1 else c.fab.lsaSeq } }

theorem lsaCounted_kept (c : Chip) : ChipKeptBut [.fab] c (lsaCounted c) := (kept_set_fab (by decide)).2 (.refl _ c)

theorem floodLsa_runs (c : Chip) : FabricRuns (lsaCounted c) (floodLsa c) := by
  unfold floodLsa lsaCounted
  split
  · exact sendFlood_runs _ _ _
  · exact .refl c

/-! ### The topology -/

theorem modPort_woken_runs (c : Chip) (p : Nat) : FabricRuns c (modPort c p fun x => { x with wakeSent := true }) where
  kept := (kept_modPort _ _ (by decide)).2 (.refl _ c)
  regs := .of_regs rfl
  told _ h := h
  sent _ h := h
  fab := rfl
  port q := by
    by_cases hq : q = p
    · subst hq
      rw [fport_modPort_self]
    · rw [fport_modPort_ne c _ hq]

theorem wakeLinks_runs (c : Chip) : FabricRuns c (wakeLinks c) :=
  .ite (.refl c) (.foldl _ (fun _ _ => .ite ((modPort_woken_runs _ _).trans (sendLink_runs _ _ _ _)) (.refl _)) c)

theorem modFab_milliner_runs (c : Chip) (m : Option Nat) : FabricRuns c (modFab c fun f => { f with milliner := m }) :=
  .of_fab ((kept_modFab _ (by decide)).2 (.refl _ c)) (fun _ h => h) rfl

theorem followMilliner_runs (c : Chip) : FabricRuns c (followMilliner c) :=
  .ite (.ite (.refl c) ((modFab_milliner_runs c _).trans (fabEvt_runs _ (by decide)))) (.refl c)

theorem yieldMilliner_runs (c : Chip) : FabricRuns c (yieldMilliner c) := .ite (followMilliner_runs c) (.refl c)

/-- R394: the count of steady rounds once the link state has changed. -/
def steadied (c : Chip) (membership : Bool) : Chip :=
  { c with fab := { c.fab with steady := if membership then 0 else c.fab.steady } }

theorem steadied_kept (c : Chip) (m : Bool) : ChipKeptBut [.fab] c (steadied c m) := (kept_set_fab (by decide)).2 (.refl _ c)

/-- R380: the chip once its link state is known to have changed, before links are woken. -/
def topoNoted (c : Chip) (membership : Bool) : Chip :=
  modFab (fabEvt c 2) fun f => { f with partition := partitioned (fabEvt c 2), steady := if membership then 0 else f.steady }

theorem topoNoted_runs (c : Chip) (m : Bool) : FabricRuns (steadied c m) (topoNoted c m) where
  kept := ((steadied_kept c m).symm.mono (by decide)).trans
    ((kept_modFab _ (by decide)).2 ((fabEvt_kept c 2).mono (by decide)))
  regs := (RegsKeptBut.of_regs (c := steadied c m) (d := c) rfl).trans ((fabEvt_regsKept c 2).trans (.of_regs rfl))
  told _ h := immBit_raiseEvt_of c (by decide) h
  sent _ h := mem_out_raiseEvt (c := c) _ _ h
  fab := by
    rw [topoNoted, modFab, fabEvt_fab]
    rfl
  port p := fport_eq (congrArg Fab.ports (fabEvt_fab c 2)) p

/-- R380: a member is more than 32 hops away. -/
def farMember (c : Chip) : Bool :=
  c.fab.db.any fun r => !r.aged && (match tfind (routes c) r.addr with | some p => decide (32 < p.hops) | none => false)

theorem topoChanged_eq (c : Chip) (m : Bool) : topoChanged c m =
    wakeLinks (yieldMilliner (if farMember (topoNoted c m) then fabEvt (topoNoted c m) 13 else topoNoted c m)) := rfl

theorem topoChanged_after (c : Chip) (m : Bool) : FabricRuns (topoNoted c m) (topoChanged c m) := by
  rw [topoChanged_eq]
  exact (FabricRuns.ite (fabEvt_runs _ (by decide)) (.refl _)).trans ((yieldMilliner_runs _).trans (wakeLinks_runs _))

theorem topoChanged_runs (c : Chip) (m : Bool) : FabricRuns (steadied c m) (topoChanged c m) :=
  (topoNoted_runs c m).trans (topoChanged_after c m)

theorem topoChanged_false_runs (c : Chip) : FabricRuns c (topoChanged c false) := topoChanged_runs c false

/-- R380, R400: a change of the link state is told. -/
theorem immBit_topoChanged (c : Chip) (m : Bool) : immBit (topoChanged c m) Reg.FAB_EVT 2 = true :=
  (topoChanged_after c m).told 2 (immBit_fabEvt c (by decide))

/-- R382: the best of the candidates. -/
def bestRoot (c : Chip) : Option RootInfo :=
  (rootCandidates c).foldl (fun b r => match b with
    | none => some r
    | some q => if betterRoot c r q then some r else some q) none

theorem chooseRoot_eq (c : Chip) : chooseRoot c =
    if (bestRoot c).map (·.addr) != c.fab.root.map (·.addr) then fabEvt (modFab c fun f => { f with root := bestRoot c }) 7
    else modFab c fun f => { f with root := bestRoot c } := rfl

theorem modFab_setRoot_runs (c : Chip) (r : Option RootInfo) : FabricRuns c (modFab c fun f => { f with root := r }) :=
  .of_fab ((kept_modFab _ (by decide)).2 (.refl _ c)) (fun _ h => h) rfl

theorem chooseRoot_runs (c : Chip) : FabricRuns c (chooseRoot c) := by
  rw [chooseRoot_eq]
  exact .ite ((modFab_setRoot_runs c _).trans (fabEvt_runs _ (by decide))) (modFab_setRoot_runs c _)

/-! ### Joining -/

theorem floodNotices_runs (c : Chip) : FabricRuns c (floodNotices c) := by
  unfold floodNotices
  induction c.repl.notices with
  | nil => exact .refl c
  | cons n l ih => exact ih.trans (sendFlood_runs _ _ _)

theorem greet_runs (old c : Chip) : FabricRuns c (greet old c) := .ite (floodNotices_runs c) (.refl c)

theorem exchange_runs (c : Chip) (p : Nat) : FabricRuns (lsaCounted c) (exchange c p) :=
  (floodLsa_runs c).trans (emits_runs _ _)

/-! ### Frames noted -/

theorem noted_kept (c : Chip) (h : FeltHdr) (typ : Nat) (flood : Bool) : ChipKeptBut [.fab, .out] c (noted c h typ flood) := by
  unfold noted
  cases flood with
  | false => exact (kept_set_fab (by decide)).2 (.refl _ c)
  | true => exact (kept_set_fab (by decide)).2 (forwardFlood_kept c h typ)

/-- R374, R375: of the fabric, a frame changes only what it is noted in. -/
theorem noted_fab (c : Chip) (h : FeltHdr) (typ : Nat) (flood : Bool) :
    ∃ l k, (noted c h typ flood).fab = { c.fab with forwarded := l, heard := k } := by
  cases flood with
  | false => exact ⟨c.fab.forwarded, _, rfl⟩
  | true =>
    obtain ⟨l, hfab⟩ := forwardFlood_fab c h typ
    exact ⟨l, tput (forwardFlood c h typ).fab.heard (64 * h.src + typ) (h.epoch, h.seq),
      congrArg (fun f : Fab => { f with heard := tput (forwardFlood c h typ).fab.heard (64 * h.src + typ) (h.epoch, h.seq) })
        hfab⟩

theorem noted_out (c : Chip) (h : FeltHdr) (typ : Nat) : (noted c h typ false).out = c.out := rfl

theorem fport_noted (c : Chip) (h : FeltHdr) (typ : Nat) (flood : Bool) (p : Nat) :
    fport (noted c h typ flood) p = fport c p := by
  obtain ⟨l, k, hfab⟩ := noted_fab c h typ flood
  exact fport_of_fab (by rw [hfab]) p

end Sys2Proof
end

section
/-! PROOFS. The Felt ports (R372, R373, R376, R378, R400): HELLO, training and lock, rates, and frames that are turned away. -/

namespace Sys2Proof

open Machine

/-! ### What a port's work leaves -/

/-- The count of LSAs set. -/
def withLsaSeq (c : Chip) (n : Nat) : Chip := { c with fab := { c.fab with lsaSeq := n } }

theorem FabricRuns.withLsaSeq {c d : Chip} (h : FabricRuns c d) (n : Nat) :
    FabricRuns (Sys2Proof.withLsaSeq c n) (Sys2Proof.withLsaSeq d n) where
  kept := (kept_set_fab (by decide)).2 (((kept_set_fab (by decide)).2 (.refl [.fab, .host, .out, .regs] c)).symm.trans h.kept)
  regs := h.regs
  told := h.told
  sent := h.sent
  fab := congrArg (fun f : Fab => { f with lsaSeq := n }) h.fab
  port := h.port

/-- R376: one chip follows from another by the fabric's own work, this module's LSA being flooded again or not. -/
def FabricTells (c d : Chip) : Prop := ∃ n, FabricRuns (withLsaSeq c n) d

namespace FabricTells

theorem of_runs {c d : Chip} (h : FabricRuns c d) : FabricTells c d := ⟨c.fab.lsaSeq, h⟩

theorem refl (c : Chip) : FabricTells c c := of_runs (.refl c)

theorem trans {c d e : Chip} (h : FabricTells c d) (g : FabricTells d e) : FabricTells c e := by
  obtain ⟨n, hn⟩ := h
  obtain ⟨m, hm⟩ := g
  exact ⟨m, (hn.withLsaSeq m).trans hm⟩

section
variable {c d : Chip} (h : FabricTells c d)
include h

theorem kept : ChipKeptBut [.fab, .host, .out, .regs] c d := by
  obtain ⟨n, hn⟩ := h
  exact ((kept_set_fab (by decide)).2 (.refl _ c)).trans hn.kept

theorem regs : RegsKeptBut [Reg.FAB_EVT] c d := by
  obtain ⟨n, hn⟩ := h
  exact hn.regs

theorem told {b : Nat} (hb : immBit c Reg.FAB_EVT b = true) : immBit d Reg.FAB_EVT b = true := by
  obtain ⟨n, hn⟩ := h
  exact hn.told b hb

theorem sent {x : Emit} (hx : x ∈ c.out) : x ∈ d.out := by
  obtain ⟨n, hn⟩ := h
  exact hn.sent x hx

theorem db : d.fab.db = c.fab.db := by
  obtain ⟨n, hn⟩ := h
  exact hn.db

theorem port (p : Nat) : fport d p = { fport c p with wakeSent := (fport d p).wakeSent } := by
  obtain ⟨n, hn⟩ := h
  exact hn.port p

theorem nbr (p : Nat) : (fport d p).nbr = (fport c p).nbr := by rw [h.port p]

theorem answered (p : Nat) : (fport d p).answered = (fport c p).answered := by rw [h.port p]

theorem state (p : Nat) : (fport d p).state = (fport c p).state := by rw [h.port p]

end

end FabricTells

theorem floodLsa_tells (c : Chip) : FabricTells c (floodLsa c) := ⟨_, floodLsa_runs c⟩

theorem exchange_tells (c : Chip) (p : Nat) : FabricTells c (exchange c p) := ⟨_, exchange_runs c p⟩

/-- R376, R380: a change of this module's links goes out with its LSA. -/
def linksChanged (c : Chip) : Chip := topoChanged (floodLsa c) false

theorem linksChanged_tells (c : Chip) : FabricTells c (linksChanged c) :=
  (floodLsa_tells c).trans (.of_runs (topoChanged_false_runs _))

theorem immBit_linksChanged (c : Chip) : immBit (linksChanged c) Reg.FAB_EVT 2 = true := immBit_topoChanged _ _

/-! ### HELLO -/

/-- R378: the answer to the first HELLO on a link, and what is held exchanged. -/
def helloAnswered (c : Chip) (p : Nat) : Chip := exchange (sendLink c p 0x01 (helloBytes c p)) p

theorem helloAnswered_tells (c : Chip) (p : Nat) : FabricTells c (helloAnswered c p) :=
  (FabricTells.of_runs (sendLink_runs _ _ _ _)).trans (exchange_tells _ _)

/-- R376: what a HELLO leaves of its port. -/
def helloPort (c : Chip) (p : Nat) (nbr : Option Nat) : Chip := setFport c p { fport c p with nbr := nbr, answered := true }

/-- R378: the chip once the HELLO is answered where it has to be. -/
def helloLinked (c : Chip) (p : Nat) (nbr : Option Nat) : Chip :=
  if (fport c p).answered then helloPort c p nbr else helloAnswered (helloPort c p nbr) p

theorem helloLinked_tells (c : Chip) (p : Nat) (nbr : Option Nat) : FabricTells (helloPort c p nbr) (helloLinked c p nbr) := by
  unfold helloLinked
  split
  · exact .refl _
  · exact helloAnswered_tells _ _

theorem exec_hello_firm {s : State} {h : FeltHdr} (huses : usesFrame s.chip h 0x01 = true) (u : BitVec 128) (a np r rt f : Nat) :
    exec (.hello h u a false np r rt f) s = .next { s with
      chip := if some a != (fport (noted s.chip h 0x01 false) h.port.val).nbr then
          greet (helloLinked (noted s.chip h 0x01 false) h.port.val (some a))
            (linksChanged (helloLinked (noted s.chip h 0x01 false) h.port.val (some a)))
        else helloLinked (noted s.chip h 0x01 false) h.port.val (some a) } := by
  change execHello h u a false np r rt f s = _
  rw [execHello, onChip, receive_used huses (fun hflood => absurd hflood Bool.false_ne_true)]
  rfl

theorem exec_hello_tentative {s : State} {h : FeltHdr} (huses : usesFrame s.chip h 0x01 = true) (u : BitVec 128)
    (a np r rt f : Nat) :
    exec (.hello h u a true np r rt f) s = .next { s with
      chip := helloLinked (noted s.chip h 0x01 false) h.port.val (fport (noted s.chip h 0x01 false) h.port.val).nbr } := by
  change execHello h u a true np r rt f s = _
  rw [execHello, onChip, receive_used huses (fun hflood => absurd hflood Bool.false_ne_true)]
  dsimp only
  rw [if_pos rfl, bne_self_eq_false, if_neg Bool.false_ne_true]
  rfl

theorem helloPort_kept (c : Chip) (p : Nat) (nbr : Option Nat) : ChipKeptBut [.fab] c (helloPort c p nbr) :=
  (kept_setFport _ _ (by decide)).2 (.refl _ c)

theorem helloLinked_kept (c : Chip) (p : Nat) (nbr : Option Nat) : ChipKeptBut [.fab, .out] c (helloLinked c p nbr) := by
  unfold helloLinked helloAnswered helloPort
  split
  · exact (kept_setFport _ _ (by decide)).2 (.refl _ c)
  · exact (kept_exchange _ (by decide)).2 ((kept_sendLink _ _ _ (by decide)).2 ((kept_setFport _ _ (by decide)).2 (.refl _ c)))

theorem fport_helloPort (c : Chip) (p : Nat) (nbr : Option Nat) :
    fport (helloPort c p nbr) p = { fport c p with nbr := nbr, answered := true } := fport_setFport_self _ _ _

theorem helloBytes_helloPort (c : Chip) (h : FeltHdr) (typ p : Nat) (nbr : Option Nat) :
    helloBytes (helloPort (noted c h typ false) p nbr) p = helloBytes c p := by
  rw [helloBytes, helloBytes, fport_helloPort]
  rfl

/-- R376, R378: the answer to a HELLO carries this module's own. -/
theorem mem_out_helloAnswered {c : Chip} {h : FeltHdr} {a : Nat} (huses : usesFrame c h 0x01 = true)
    (hfirst : (fport c h.port.val).answered = false) :
    .felt h.port.val (feltFrame c 0x01 a (helloBytes c h.port.val)) ∈
      (helloLinked (noted c h 0x01 false) h.port.val (some a)).out := by
  obtain ⟨hkey, hup, -, -, -⟩ := usesFrame_iff.1 huses
  have hport := fport_helloPort (noted c h 0x01 false) h.port.val (some a)
  have hdst : linkDst (helloPort (noted c h 0x01 false) h.port.val (some a)) h.port.val = a := by
    rw [linkDst, hport]
  rw [helloLinked, fport_noted, hfirst, if_neg Bool.false_ne_true]
  refine (exchange_tells _ _).sent ?_
  rw [sendLink_up (c := helloPort (noted c h 0x01 false) h.port.val (some a)) hkey (by rw [hport]; exact hup) (by decide), hdst,
    helloBytes_helloPort, feltFrame_congr (c := c) rfl rfl rfl rfl rfl]
  exact List.mem_cons_self

theorem exec_helloTick_up {s : State} {p : FPort} (hmode : s.chip.fab.mode ≠ .off) (hkey : keyOk s.chip = true)
    (hup : portUp (fport s.chip p.val) = true) :
    exec (.helloTick p) s = .next { s with
      chip := emit (countFelt s.chip 0x01)
        (.felt p.val (feltFrame s.chip 0x01 (linkDst s.chip p.val) (helloBytes s.chip p.val))) } := by
  change execHelloTick p s = _
  rw [execHelloTick, onChip, if_neg hmode, sendLink_up hkey hup (by decide)]

theorem exec_helloTick_silent {s : State} {p : FPort}
    (h : s.chip.fab.mode = .off ∨ keyOk s.chip = false ∨ portUp (fport s.chip p.val) = false) :
    exec (.helloTick p) s = .next s := by
  change execHelloTick p s = _
  rw [execHelloTick, onChip]
  obtain hmode | hdown := h
  · rw [if_pos hmode]
  · rw [sendLink_down hdown, ite_self]

/-! ### Training and lock -/

/-- R372: the state of a port that is up at a rate. -/
def rateState (full : Bool) : PortState := if full then .full else .standby

theorem portUp_rateState {x : FPortSt} {full : Bool} (h : x.state = rateState full) : portUp x = true := by
  rw [portUp, h]
  cases full <;> rfl

/-- R372: a port that has just locked. -/
def lockedPort (x : FPortSt) (full : Bool) : FPortSt :=
  { x with state := rateState full, nbr := none, answered := false, explained := false, wakeSent := false }

/-- R372: the chip whose port p has just locked, its source cleared. -/
def lockedChip (c : Chip) (p : Nat) (full : Bool) : Chip := clearSrc (modPort c p fun x => lockedPort x full) (76 + p)

theorem lockedChip_kept (c : Chip) (p : Nat) (full : Bool) : ChipKeptBut [.fab, .flt] c (lockedChip c p full) :=
  (kept_clearSrc _ (by decide)).2 ((kept_modPort _ _ (by decide)).2 (.refl _ c))

theorem lockedChip_fab (c : Chip) (p : Nat) (full : Bool) :
    (lockedChip c p full).fab = (modPort c p fun x => lockedPort x full).fab := clearSrc_kept _ _ .fab (by decide)

theorem fport_lockedChip_self (c : Chip) (p : Nat) (full : Bool) :
    fport (lockedChip c p full) p = lockedPort (fport c p) full :=
  (fport_of_fab (congrArg Fab.ports (lockedChip_fab c p full)) p).trans (fport_modPort_self _ _ _)

theorem fport_lockedChip_ne (c : Chip) {p q : Nat} (full : Bool) (h : q ≠ p) :
    fport (lockedChip c p full) q = fport c q :=
  (fport_of_fab (congrArg Fab.ports (lockedChip_fab c p full)) q).trans (fport_modPort_ne _ _ h)

theorem exec_portLock_training {s : State} {p : FPort} (h : (fport s.chip p.val).state = .training) (full : Bool) :
    ∃ b, exec (.portLock p full) s = .next { s with chip := sendLink (lockedChip s.chip p.val full) p.val 0x01 b } := by
  refine ⟨helloBytes (modPort s.chip p.val fun x => lockedPort x full) p.val, ?_⟩
  change execPortLock p full s = _
  rw [execPortLock, onChip]
  dsimp only
  rw [if_pos h]
  rfl

theorem exec_portLock_other {s : State} {p : FPort} (h : (fport s.chip p.val).state ≠ .training) (full : Bool) :
    exec (.portLock p full) s = .next s := by
  change execPortLock p full s = _
  rw [execPortLock, onChip]
  dsimp only
  rw [if_neg h]

/-- A frame of the link leaves the ports. -/
theorem fport_sendLink (c : Chip) (p typ : Nat) (b : List Byte) (q : Nat) : fport (sendLink c p typ b) q = fport c q := by
  unfold sendLink
  split
  · rfl
  · rfl

theorem exec_portTrainTimeout_training {s : State} {p : FPort} (h : (fport s.chip p.val).state = .training) :
    exec (.portTrainTimeout p) s = .next { s with chip := modPort s.chip p.val fun x => { x with tryFull := !x.tryFull } } := by
  change execPortTrainTimeout p s = _
  rw [execPortTrainTimeout, onChip]
  rw [if_pos h]

/-- R372: a port that starts training. -/
def trainingPort (x : FPortSt) : FPortSt :=
  { FPortSt.init with state := .training, tryFull := true, fcs := x.fcs, authErr := x.authErr }

theorem portHeld_of_up {x : FPortSt} (h : portUp x = true) : portHeld x = false := by
  rw [portUp, Bool.or_eq_true] at h
  rw [portHeld]
  obtain h | h := h <;> rw [eq_of_beq h] <;> rfl

theorem portTrain_up {c : Chip} {p : Nat} (h : portUp (fport c p) = true) :
    portTrain c p = setFport c p (trainingPort (fport c p)) := if_neg (portHeld_of_up h ▸ Bool.false_ne_true)

/-- R373: the chip whose port p has lost its lock. -/
def unlocked (c : Chip) (p : Nat) : Chip := linksChanged (setFport c p (trainingPort (fport c p)))

theorem unlocked_kept (c : Chip) (p : Nat) : ChipKeptBut [.fab, .host, .out, .regs] c (unlocked c p) :=
  ((kept_setFport _ _ (by decide)).2 (.refl _ c)).trans (linksChanged_tells _).kept

theorem unlocked_regs (c : Chip) (p : Nat) : RegsKeptBut [Reg.FAB_EVT] c (unlocked c p) :=
  (linksChanged_tells (setFport c p (trainingPort (fport c p)))).regs

theorem unlocked_state (c : Chip) (p : Nat) : (fport (unlocked c p) p).state = .training := by
  rw [unlocked, (linksChanged_tells _).state, fport_setFport_self]
  rfl

theorem unlocked_nbr (c : Chip) (p : Nat) : (fport (unlocked c p) p).nbr = none := by
  rw [unlocked, (linksChanged_tells _).nbr, fport_setFport_self]
  rfl

theorem exec_portLockLoss_up {s : State} {p : FPort} (h : portUp (fport s.chip p.val) = true) (n : Bool) :
    exec (.portLockLoss p n) s = .next { s with
      chip := if (fport s.chip p.val).explained || n then unlocked s.chip p.val
        else reportSrc (unlocked s.chip p.val) (76 + p.val) 0 } := by
  change execPortLockLoss p n s = _
  rw [execPortLockLoss, onChip]
  dsimp only
  rw [portTrain_up h, if_pos h]
  rfl

theorem exec_portLockLoss_down {s : State} {p : FPort} (h : portUp (fport s.chip p.val) = false) (n : Bool) :
    exec (.portLockLoss p n) s = .next s := by
  change execPortLockLoss p n s = _
  rw [execPortLockLoss, onChip]
  dsimp only
  rw [if_neg (h ▸ Bool.false_ne_true)]

/-! ### Rates -/

/-- R372: a port at another rate. -/
def ratedPort (x : FPortSt) (standby : Bool) : FPortSt :=
  { x with state := if standby then .standby else .full, wakeSent := if standby then x.wakeSent else false }

/-- R372: the chip whose port p runs at another rate. -/
def rated (c : Chip) (p : Nat) (standby : Bool) : Chip := linksChanged (modPort c p fun x => ratedPort x standby)

theorem setRate_change {c : Chip} {p : Nat} {standby : Bool} (h : portUp (fport c p) = true)
    (hst : (fport c p).state ≠ if standby then .standby else .full) : setRate c p standby = rated c p standby := by
  rw [setRate, if_pos h]
  exact if_neg hst

theorem setRate_same {c : Chip} {p : Nat} {standby : Bool}
    (h : portUp (fport c p) = false ∨ (fport c p).state = if standby then .standby else .full) : setRate c p standby = c := by
  rw [setRate]
  obtain h | h := h
  · exact if_neg (h ▸ Bool.false_ne_true)
  · split
    · exact if_pos h
    · rfl

theorem exec_rate (p : FPort) (sb : Bool) (s : State) : exec (.rate p sb) s = .next { s with chip := setRate s.chip p.val sb } := rfl

/-! ### Error counts -/

/-- R400: a port's error counts cleared. -/
def uncountedPort (x : FPortSt) : FPortSt := { x with fcs := 0, authErr := 0 }

theorem exec_portErrRead_open {s : State} {p : FPort} (h : windowClosed s.chip (Reg.FAB_PORT_ERR p.val) = false) :
    exec (.portErrRead p) s = .next { s with
      chip := emit (setFport s.chip p.val (uncountedPort (fport s.chip p.val))) (.readData (Reg.FAB_PORT_ERR p.val)
        (wordOf ((fport s.chip p.val).fcs + place 16 (fport s.chip p.val).authErr))) } := by
  change execPortErrRead p s = _
  rw [execPortErrRead, onChip, readActs, if_neg (h ▸ Bool.false_ne_true)]
  rfl

/-! ### Frames turned away -/

theorem fport_passOn (c : Chip) (h : FeltHdr) (typ : Nat) (flood : Bool) (p : Nat) :
    fport (passOn c h typ flood) p = fport c p := by
  obtain ⟨l, hfab⟩ := passOn_fab c h typ flood
  exact fport_of_fab (by rw [hfab]) p

theorem lastSecond_passOn (c : Chip) (h : FeltHdr) (typ : Nat) (flood : Bool) (l : List Nat) :
    lastSecond (passOn c h typ flood) l = lastSecond c l := by
  rw [lastSecond, lastSecond, passOn_tb]

theorem passOn_kept (c : Chip) (h : FeltHdr) (typ : Nat) (flood : Bool) : ChipKeptBut [.fab, .out] c (passOn c h typ flood) :=
  (kept_passOn _ _ _ (by decide)).2 (.refl _ c)

theorem exec_feltFrameRejected_unused {s : State} {h : FeltHdr} {typ : Nat} {w : FrameFault}
    (hno : w = .hcrc ∨ w = .typ ∨ keyOk s.chip = false ∨ portUp (fport s.chip h.port.val) = false) :
    exec (.feltFrameRejected h typ w) s = .next s := by
  change execFeltFrameRejected h typ w s = _
  rw [execFeltFrameRejected, onChip]
  obtain rfl | rfl | hno | hno := hno
  · rw [ite_self]
  · rw [ite_self]
  · rw [hno, if_pos (by rfl)]
  · rw [hno, if_pos (by rw [Bool.not_false, Bool.or_true])]

theorem exec_feltFrameRejected_fcs {s : State} {h : FeltHdr} (hkey : keyOk s.chip = true)
    (hup : portUp (fport s.chip h.port.val) = true) (typ : Nat) :
    exec (.feltFrameRejected h typ .fcs) s = .next { s with
      chip := badFrame (passOn s.chip h typ (floodType typ)) h.port.val false } := by
  change execFeltFrameRejected h typ .fcs s = _
  rw [execFeltFrameRejected, onChip, hkey, hup, if_neg (by decide)]

theorem exec_feltFrameRejected_tag {s : State} {h : FeltHdr} (hkey : keyOk s.chip = true)
    (hup : portUp (fport s.chip h.port.val) = true) (typ : Nat) :
    exec (.feltFrameRejected h typ .tag) s = .next { s with
      chip := badFrame (passOn s.chip h typ (floodType typ)) h.port.val true } := by
  change execFeltFrameRejected h typ .tag s = _
  rw [execFeltFrameRejected, onChip, hkey, hup, if_neg (by decide)]

/-- R373: a port with one more frame of a wrong FCS, the recent ones being l. -/
def fcsPort (x : FPortSt) (l : List Nat) : FPortSt := { x with fcs := sat 65535 (x.fcs + 1), fcsAt := l }

/-- R373: a port with one more frame of a wrong tag, the recent ones being l. -/
def tagPort (x : FPortSt) (l : List Nat) : FPortSt := { x with authErr := sat 65535 (x.authErr + 1), authAt := l }

section
variable {c : Chip} {p : Nat}

theorem badFrame_fcs_few (h : (lastSecond c (fport c p).fcsAt).length < 16) :
    badFrame c p false = setFport c p (fcsPort (fport c p) (c.tb.aon :: lastSecond c (fport c p).fcsAt)) := by
  rw [badFrame, if_neg Bool.false_ne_true]
  dsimp only
  rw [List.length_cons, if_neg (by omega), if_neg (by omega)]
  rfl

theorem badFrame_fcs_many (h : 16 ≤ (lastSecond c (fport c p).fcsAt).length) :
    badFrame c p false = reportSrc (setFport c p (fcsPort (fport c p) [])) (76 + p) 0 := by
  rw [badFrame, if_neg Bool.false_ne_true]
  dsimp only
  rw [List.length_cons, if_pos (by omega), if_pos (by omega)]
  rfl

theorem badFrame_tag_few (h : (lastSecond c (fport c p).authAt).length < 16) :
    badFrame c p true = fabEvt (setFport c p (tagPort (fport c p) (c.tb.aon :: lastSecond c (fport c p).authAt))) 12 := by
  rw [badFrame, if_pos rfl]
  dsimp only
  rw [List.length_cons, if_neg (by omega), if_neg (by omega)]
  rfl

theorem badFrame_tag_many (h : 16 ≤ (lastSecond c (fport c p).authAt).length) :
    badFrame c p true = reportSrc (fabEvt (setFport c p (tagPort (fport c p) [])) 12) (76 + p) 0 := by
  rw [badFrame, if_pos rfl]
  dsimp only
  rw [List.length_cons, if_pos (by omega), if_pos (by omega)]
  rfl

end

/-- R373: the chip that has passed a frame on and counted its wrong tag. -/
def tagCounted (c : Chip) (h : FeltHdr) (typ : Nat) (l : List Nat) : Chip :=
  fabEvt (setFport (passOn c h typ (floodType typ)) h.port.val (tagPort (fport c h.port.val) l)) 12

theorem tagCounted_kept (c : Chip) (h : FeltHdr) (typ : Nat) (l : List Nat) :
    ChipKeptBut [.fab, .host, .out, .regs] c (tagCounted c h typ l) :=
  (kept_fabEvt _ (by decide)).2 ((kept_setFport _ _ (by decide)).2 ((passOn_kept _ _ _ _).mono (by decide)))

theorem tagCounted_regs (c : Chip) (h : FeltHdr) (typ : Nat) (l : List Nat) :
    RegsKeptBut [Reg.FAB_EVT] c (tagCounted c h typ l) :=
  ((passOn_kept c h typ (floodType typ)).regsKept (by decide)).trans
    ((RegsKeptBut.of_regs rfl).trans (fabEvt_regsKept (setFport (passOn c h typ (floodType typ)) h.port.val _) 12))

theorem tagCounted_authErr (c : Chip) (h : FeltHdr) (typ : Nat) (l : List Nat) :
    (fport (tagCounted c h typ l) h.port.val).authErr = sat 65535 ((fport c h.port.val).authErr + 1) := by
  rw [tagCounted, fport_of_fab (congrArg Fab.ports (fabEvt_fab _ _)), fport_setFport_self]
  rfl

/-- Settles O42, command by command. -/
theorem feltPorts : Obligations.FeltPorts := by
  unfold Obligations.FeltPorts
  refine ⟨?_, ?_, ?_, fun s p h => exec_helloTick_silent h, ?_, fun s p full h => exec_portLock_other h full, ?_, ?_, ?_, ?_,
    ?_, ?_, ?_, fun s h typ w hno => exec_feltFrameRejected_unused hno, ?_, ?_, ?_, ?_⟩
  · intro s h u a np r rt f huses
    have hexec := exec_hello_firm huses u a np r rt f
    have hkept : ChipKeptBut [.fab] s.chip (helloPort (noted s.chip h 0x01 false) h.port.val (some a)) :=
      (kept_setFport _ _ (by decide)).2 ((kept_set_fab (by decide)).2 (.refl _ _))
    have hport := fport_helloPort (noted s.chip h 0x01 false) h.port.val (some a)
    rw [fport_noted] at hexec hport
    have hsent : (fport s.chip h.port.val).answered = false → _ := mem_out_helloAnswered (a := a) huses
    have hlinked := helloLinked_tells (noted s.chip h 0x01 false) h.port.val (some a)
    generalize helloLinked (noted s.chip h 0x01 false) h.port.val (some a) = d at hexec hlinked hsent
    have htells : FabricTells d (if some a != (fport s.chip h.port.val).nbr then greet d (linksChanged d) else d) := by
      split
      · exact (linksChanged_tells d).trans (.of_runs (greet_runs _ _))
      · exact .refl d
    have hall := hlinked.trans htells
    refine answers_chip hexec ⟨keptBut_chip.2 ((hkept.mono (by decide)).trans hall.kept),
      (hkept.regsKept (by decide)).trans hall.regs, hall.db.trans rfl, ?_, ?_, ?_, ?_, fun hfirst => htells.sent (hsent hfirst)⟩
    · rw [hall.nbr, hport]
    · rw [hall.answered, hport]
    · rw [hall.state, hport]
    · intro hne
      have hchange : (some a != (fport s.chip h.port.val).nbr) = true := bne_iff_ne.2 (Ne.symm hne)
      rw [hchange, if_pos rfl]
      exact (greet_runs _ _).told 2 (immBit_linksChanged d)
  · intro s h u a np r rt f huses
    have hexec := exec_hello_tentative huses u a np r rt f
    rw [fport_noted] at hexec
    have hport := fport_helloPort (noted s.chip h 0x01 false) h.port.val (fport s.chip h.port.val).nbr
    have hlinked := helloLinked_tells (noted s.chip h 0x01 false) h.port.val (fport s.chip h.port.val).nbr
    refine answers_chip hexec ⟨keptBut_chip.2 ?_, ?_, ?_⟩
    · exact (noted_kept _ _ _ _).trans (helloLinked_kept _ _ _)
    · rw [hlinked.nbr, hport]
    · rw [hlinked.answered, hport]
  · intro s p hmode hkey hup
    refine answers_chip (exec_helloTick_up hmode hkey hup) ⟨keptBut_chip.2 ?_, rfl, rfl⟩
    exact (kept_emit _ (by decide)).2 ((kept_countFelt _ (by decide)).2 (.refl _ _))
  · intro s p full htrain
    obtain ⟨b, hexec⟩ := exec_portLock_training htrain full
    refine answers_chip hexec ⟨keptBut_chip.2 ?_, ?_, ?_, fun q hq => ?_, fun hkey => ?_⟩
    · exact (kept_sendLink _ _ _ (by decide)).2 ((lockedChip_kept _ _ _).mono (by decide))
    · rw [fport_sendLink, fport_lockedChip_self]
      rfl
    · rw [fport_sendLink, fport_lockedChip_self]
      rfl
    · rw [fport_sendLink, fport_lockedChip_ne _ _ hq]
    · have hkept := lockedChip_kept s.chip p.val full
      have hkey' : keyOk (lockedChip s.chip p.val full) = true := (congrArg Tru.siteLoaded (hkept .tru (by decide))).trans hkey
      have hup : portUp (fport (lockedChip s.chip p.val full) p.val) = true :=
        portUp_rateState (full := full) (by rw [fport_lockedChip_self]; rfl)
      have hseqs : (lockedChip s.chip p.val full).fab.seqs = s.chip.fab.seqs :=
        (congrArg Fab.seqs (lockedChip_fab s.chip p.val full)).trans rfl
      have hframe : ∀ x, feltFrame (lockedChip s.chip p.val full) 0x01 x b = feltFrame s.chip 0x01 x b := fun x =>
        feltFrame_congr ((congrArg Fab.addr (lockedChip_fab s.chip p.val full)).trans rfl)
          ((congrArg Fab.epoch (lockedChip_fab s.chip p.val full)).trans rfl) hseqs (hkept .tru (by decide))
          (hkept .tb (by decide)) 0x01 x b
      rw [sendLink_up hkey' hup (by decide), hframe]
      refine ⟨_, b, congrArg (List.cons _) (hkept .out (by decide)), ?_⟩
      change tput (lockedChip s.chip p.val full).fab.seqs 0x01 (tget 0 (lockedChip s.chip p.val full).fab.seqs 0x01 + 1) = _
      rw [hseqs]
      rfl
  · intro s p htrain
    refine answers_chip (exec_portTrainTimeout_training htrain) ⟨keptBut_chip.2 ?_, ?_, fun q hq => ?_⟩
    · exact (kept_modPort _ _ (by decide)).2 (.refl _ _)
    · exact fport_modPort_self _ _ _
    · exact fport_modPort_ne _ _ hq
  · intro s p n hup hwhy
    have hexec := exec_portLockLoss_up hup n
    rw [if_pos (by obtain h | h := hwhy <;> rw [h] <;> simp)] at hexec
    exact answers_chip hexec ⟨keptBut_chip.2 (unlocked_kept _ _), unlocked_regs _ _, unlocked_state _ _, unlocked_nbr _ _,
      immBit_linksChanged _⟩
  · intro s p hup hwhy
    have hexec := exec_portLockLoss_up hup false
    rw [hwhy, if_neg (by decide)] at hexec
    exact reports_chip hexec ⟨unlocked_kept _ _, unlocked_regs _ _, unlocked_state _ _, unlocked_nbr _ _, immBit_linksChanged _⟩
  · intro s p n hdown
    exact exec_portLockLoss_down hdown n
  · intro s p sb hup hst
    have htells := linksChanged_tells (modPort s.chip p.val fun x => ratedPort x sb)
    have hexec := exec_rate p sb s
    rw [setRate_change hup hst] at hexec
    refine answers_chip hexec ⟨keptBut_chip.2 ?_, htells.regs, ?_, ?_, immBit_linksChanged _⟩
    · exact ((kept_modPort _ _ (by decide)).2 (.refl _ _)).trans htells.kept
    · rw [rated, htells.state, fport_modPort_self]
      rfl
    · rw [rated, htells.nbr, fport_modPort_self]
      rfl
  · intro s p sb hsame
    rw [exec_rate, setRate_same hsame]
  · intro s p hopen
    refine answers_chip (exec_portErrRead_open hopen) ⟨keptBut_chip.2 ?_, rfl, ?_, fun q hq => ?_⟩
    · exact (kept_emit _ (by decide)).2 ((kept_setFport _ _ (by decide)).2 (.refl _ _))
    · exact fport_setFport_self _ _ _
    · exact fport_setFport_ne _ _ hq
  · intro s h typ hkey hup hfew
    have hexec := exec_feltFrameRejected_fcs hkey hup typ
    rw [badFrame_fcs_few (by rw [lastSecond_passOn, fport_passOn]; exact hfew), lastSecond_passOn, fport_passOn,
      passOn_tb] at hexec
    refine answers_chip hexec ⟨keptBut_chip.2 ?_, rfl, fport_setFport_self _ _ _, fun q hq => ?_⟩
    · exact (kept_setFport _ _ (by decide)).2 (passOn_kept _ _ _ _)
    · exact (fport_setFport_ne _ _ hq).trans (fport_passOn _ _ _ _ _)
  · intro s h typ hkey hup hmany
    have hexec := exec_feltFrameRejected_fcs hkey hup typ
    rw [badFrame_fcs_many (by rw [lastSecond_passOn, fport_passOn]; exact hmany), fport_passOn] at hexec
    exact reports_chip hexec ⟨(kept_setFport _ _ (by decide)).2 (passOn_kept _ _ _ _), rfl, fport_setFport_self _ _ _⟩
  · intro s h typ hkey hup hfew
    have hexec := exec_feltFrameRejected_tag hkey hup typ
    rw [badFrame_tag_few (by rw [lastSecond_passOn, fport_passOn]; exact hfew), lastSecond_passOn, fport_passOn] at hexec
    exact answers_chip hexec ⟨keptBut_chip.2 (tagCounted_kept _ _ _ _), tagCounted_regs _ _ _ _, tagCounted_authErr _ _ _ _,
      immBit_fabEvt _ (by decide)⟩
  · intro s h typ hkey hup hmany
    have hexec := exec_feltFrameRejected_tag hkey hup typ
    rw [badFrame_tag_many (by rw [lastSecond_passOn, fport_passOn]; exact hmany), fport_passOn] at hexec
    exact reports_chip hexec ⟨tagCounted_kept _ _ _ _, tagCounted_regs _ _ _ _, tagCounted_authErr _ _ _ _,
      immBit_fabEvt _ (by decide)⟩

end Sys2Proof
end

section
/-! PROOFS. Work on the holders of replicas (R395 to R397): what it leaves of the membership, of what was told and sent, and of
the holders at an address that is no member's. -/

namespace Sys2Proof

open Machine

/-- R395 to R397: one chip follows from another by work on replicas: the membership stands, what was told stays told and what
was sent stays sent, and no holder is taken at an address that no member has. -/
structure HolderWork (a : Nat) (c d : Chip) : Prop where
  db : d.fab.db = c.fab.db
  told : ∀ b, immBit c Reg.FAB_EVT b = true → immBit d Reg.FAB_EVT b = true
  sent : ∀ x ∈ c.out, x ∈ d.out
  held : (∀ e ∈ c.fab.db, e.addr ≠ a) → ∀ x ∈ d.repl.holders, x.addr = a → x ∈ c.repl.holders

namespace HolderWork

variable {a : Nat}

theorem refl (c : Chip) : HolderWork a c c := ⟨rfl, fun _ => id, fun _ => id, fun _ _ hx _ => hx⟩

theorem trans {c d e : Chip} (h : HolderWork a c d) (g : HolderWork a d e) : HolderWork a c e where
  db := g.db.trans h.db
  told b hb := g.told b (h.told b hb)
  sent x hx := g.sent x (h.sent x hx)
  held hno x hx ha := h.held hno x (g.held (by rw [h.db]; exact hno) x hx ha) ha

theorem foldl {α : Type} (l : List α) {f : Chip → α → Chip} (hf : ∀ c k, HolderWork a c (f c k)) (c : Chip) :
    HolderWork a c (l.foldl f c) := by
  induction l generalizing c with
  | nil => exact refl c
  | cons k l ih => exact (hf c k).trans (ih _)

/-- Work that leaves registers, fabric and what is sent, and takes no holder. -/
theorem of_kept {ps : List Part} {c d : Chip} (h : ChipKeptBut ps c d) (hregs : .regs ∉ ps) (hfab : .fab ∉ ps)
    (hout : .out ∉ ps) (hheld : d.repl.holders ⊆ c.repl.holders) : HolderWork a c d where
  db := congrArg Fab.db (h .fab hfab)
  told b hb := (immBit_of_regs (h .regs hregs) _ b).trans hb
  sent _ hx := (congrArg (List.Mem _) (h .out hout)).mpr hx
  held _ _ hx _ := hheld hx

theorem of_runs {c d : Chip} (h : FabricRuns c d) : HolderWork a c d where
  db := h.db
  told := h.told
  sent := h.sent
  held _ x hx _ := by
    rw [h.kept .repl (by decide)] at hx
    exact hx

end HolderWork

section
variable (a : Nat) (c : Chip)

theorem setCtx_work (x : Nat) (k : Context) : HolderWork a c (setCtx c x k) :=
  .of_kept ((kept_set_sess (by decide)).2 (.refl [.sess] c)) (by decide) (by decide) (by decide) (List.Subset.refl _)

theorem sendTo_work (typ dst : Nat) (b : List Byte) : HolderWork a c (sendTo c typ dst b) := .of_runs (sendTo_runs c typ dst b)

theorem modSession_work (sid : BitVec 128) (f : Context → Context) : HolderWork a c (modSession c sid f) := by
  unfold modSession
  split
  · exact setCtx_work a c _ _
  · exact .refl c

theorem dropHolder_work (sid : BitVec 128) (b : Nat) : HolderWork a c (dropHolder c sid b) :=
  .of_kept ((kept_set_repl (by decide)).2 (.refl [.repl] c)) (by decide) (by decide) (by decide)
    fun _ hx => (List.mem_filter.1 hx).1

theorem tryFree_work (x : Nat) : HolderWork a c (tryFree c x) :=
  .of_kept ((kept_tryFree x (by decide)).2 (.refl [.sess] c)) (by decide) (by decide) (by decide)
    (by rw [(kept_tryFree x (by decide)).2 (.refl [.sess] c) .repl (by decide)]; exact List.Subset.refl _)

theorem holderTold_work (sid : BitVec 128) (b : Nat) : HolderWork a c (holderTold c sid b) := by
  have hdrop := (dropHolder_work a c sid b).trans (modSession_work a _ sid fun k => { k with told := b :: k.told })
  unfold holderTold
  dsimp only
  split
  · exact hdrop.trans (tryFree_work a _ _)
  · exact hdrop

/-- R395: the holder that a member is asked to be. -/
def askedHolder (c : Chip) (x : Nat) (primary : Bool) (r : LsaRec) : Holder :=
  { sessionId := (ctxOf c x).sessionId, outlet := (ctxOf c x).outlet, addr := r.addr, primary := primary, state := .asked,
    ackCycle := 0, reason := 0, seq := 0 }

/-- R395: the chip that has noted the holder it is about to ask. -/
def askNoted (c : Chip) (x : Nat) (primary : Bool) (r : LsaRec) : Chip :=
  setCtx { c with repl := { c.repl with holders := c.repl.holders ++ [askedHolder c x primary r] } } x
    { ctxOf c x with peers := (ctxOf c x).peers ++ [r.addr] }

theorem askHolder_eq (x : Nat) (primary : Bool) (r : LsaRec) :
    askHolder c x primary r = sendTo (askNoted c x primary r) 0x07 r.addr (replicaOpenBytes c x primary) := rfl

theorem askHolder_work (x : Nat) (primary : Bool) {r : LsaRec} (hr : r ∈ c.fab.db) :
    HolderWork a c (askHolder c x primary r) := by
  rw [askHolder_eq]
  refine HolderWork.trans ?_ (sendTo_work a _ _ _ _)
  refine ⟨rfl, fun _ => id, fun _ => id, fun hno y hy ha => ?_⟩
  obtain hy | hy := List.mem_append.1 hy
  · exact hy
  · obtain rfl := List.mem_singleton.1 hy
    exact absurd ha (hno r hr)

theorem mem_db_of_candidate {c : Chip} {sid : BitVec 128} {r : LsaRec} (h : r ∈ replicaCandidates c sid) : r ∈ c.fab.db :=
  (List.mem_filter.1 (List.mem_mergeSort.1 h)).1

/-- R395: what of one role of context x is missing is placed at the first candidate. -/
def placeRole (c : Chip) (x : Nat) (sid : BitVec 128) (primary : Bool) : Chip :=
  if roleMissing c sid primary then
    match replicaCandidates c sid with
    | r :: _ => askHolder c x primary r
    | [] => c
  else c

theorem placeReplicas_eq (x : Nat) : placeReplicas c x =
    placeRole (placeRole c x (ctxOf c x).sessionId true) x (ctxOf c x).sessionId false := rfl

theorem placeRole_work (x : Nat) (sid : BitVec 128) (primary : Bool) : HolderWork a c (placeRole c x sid primary) := by
  unfold placeRole
  split
  · split
    · next r l hcand => exact askHolder_work a c x primary (mem_db_of_candidate (hcand ▸ List.mem_cons_self))
    · exact .refl c
  · exact .refl c

theorem placeReplicas_work (x : Nat) : HolderWork a c (placeReplicas c x) := by
  rw [placeReplicas_eq]
  exact (placeRole_work a c _ _ _).trans (placeRole_work a _ _ _ _)

theorem replaceSession_work (sid : BitVec 128) : HolderWork a c (replaceSession c sid) := by
  unfold replaceSession
  split
  · split
    · exact placeReplicas_work a c _
    · exact .refl c
  · exact .refl c

theorem sendClose_work (sid : BitVec 128) (b w q : Nat) : HolderWork a c (sendClose c sid b w q) := sendTo_work a c _ _ _

/-- R396: what a lost holder leaves after it has been dropped. -/
def lostAfter (c : Chip) (sid : BitVec 128) (b : Nat) : Chip :=
  replaceSession (modSession c sid fun k => { k with peers := k.peers.filter (· != b) }) sid

theorem lostAfter_work (sid : BitVec 128) (b : Nat) : HolderWork a c (lostAfter c sid b) :=
  (modSession_work a c _ _).trans (replaceSession_work a _ _)

theorem holderLost_eq (sid : BitVec 128) (b : Nat) :
    holderLost c sid b = lostAfter (dropHolder (sendClose (fabEvt c 8) sid b 1 0) sid b) sid b := rfl

theorem holderLost_work (sid : BitVec 128) (b : Nat) : HolderWork a c (holderLost c sid b) := by
  rw [holderLost_eq]
  exact (HolderWork.of_runs (fabEvt_runs c (by decide))).trans ((sendClose_work a _ _ _ _ _).trans
    ((dropHolder_work a _ _ _).trans (lostAfter_work a _ _ _)))

theorem settleCtx_work (x : Nat) : HolderWork a c (settleCtx c x) :=
  .of_kept ((kept_settleCtx x (by decide)).2 (.refl [.sess, .leg, .freeCount] c)) (by decide) (by decide) (by decide)
    (by rw [(kept_settleCtx x (by decide)).2 (.refl [.sess, .leg, .freeCount] c) .repl (by decide)]; exact List.Subset.refl _)

theorem adoptReplica_work (x : Nat) : HolderWork a c (adoptReplica c x) := by
  unfold adoptReplica
  dsimp only
  split
  · exact (setCtx_work a c _ _).trans ((HolderWork.of_runs (fabEvt_runs _ (by decide))).trans (settleCtx_work a _ _))
  · exact .refl c

end

/-- R396: no holder of a session is left at the address where it was dropped. -/
theorem not_mem_dropHolder {c : Chip} {sid : BitVec 128} {a : Nat} {x : Holder} (hx : x ∈ (dropHolder c sid a).repl.holders)
    (ha : x.addr = a) : x.sessionId ≠ sid := by
  obtain ⟨-, hkeep⟩ := List.mem_filter.1 hx
  rintro rfl
  subst ha
  simp at hkeep

/-! ### FORGET (R379) -/

/-- R396: one holder at a forgotten member's address counts as told, or is lost. -/
def forgetHolder (a : Nat) (c : Chip) (h : Holder) : Chip :=
  if h.state = .closing then holderTold c h.sessionId a else holderLost c h.sessionId a

section
variable {a : Nat} {c : Chip}

theorem forgetHolder_work (h : Holder) : HolderWork a c (forgetHolder a c h) := by
  unfold forgetHolder
  split
  · exact holderTold_work a c _ _
  · exact holderLost_work a c _ _

theorem forgetHolder_drops (hno : ∀ e ∈ c.fab.db, e.addr ≠ a) (h : Holder) {x : Holder}
    (hx : x ∈ (forgetHolder a c h).repl.holders) (ha : x.addr = a) : x.sessionId ≠ h.sessionId := by
  unfold forgetHolder at hx
  split at hx
  · have hafter : HolderWork a (dropHolder c h.sessionId a) (holderTold c h.sessionId a) := by
      have hmod := modSession_work a (dropHolder c h.sessionId a) h.sessionId fun k => { k with told := a :: k.told }
      unfold holderTold
      dsimp only
      split
      · exact hmod.trans (tryFree_work a _ _)
      · exact hmod
    exact not_mem_dropHolder (hafter.held hno x hx ha) ha
  · rw [holderLost_eq] at hx
    have hdb : (dropHolder (sendClose (fabEvt c 8) h.sessionId a 1 0) h.sessionId a).fab.db = c.fab.db :=
      ((HolderWork.of_runs (a := a) (fabEvt_runs c (b := 8) (by decide))).trans (sendClose_work a _ _ _ _ _)).db
    exact not_mem_dropHolder ((lostAfter_work a _ h.sessionId a).held (by rw [hdb]; exact hno) x hx ha) ha

theorem foldl_forgetHolder_drops (l : List Holder) (hno : ∀ e ∈ c.fab.db, e.addr ≠ a) {x : Holder}
    (hx : x ∈ (l.foldl (forgetHolder a) c).repl.holders) (ha : x.addr = a) : ∀ h ∈ l, x.sessionId ≠ h.sessionId := by
  induction l generalizing c with
  | nil => exact fun h hh => absurd hh List.not_mem_nil
  | cons h l ih =>
    have hwork := forgetHolder_work (a := a) (c := c) h
    have hno' : ∀ e ∈ (forgetHolder a c h).fab.db, e.addr ≠ a := by
      rw [hwork.db]
      exact hno
    intro k hk
    obtain rfl | hk := List.mem_cons.1 hk
    · exact forgetHolder_drops hno k ((HolderWork.foldl l (fun d k => forgetHolder_work k) _).held hno' x hx ha) ha
    · exact ih hno' hx k hk

end

/-- R379: the database without a member. -/
def dbWithout (c : Chip) (a : Nat) : Chip :=
  modFab c fun f => { f with
    db := f.db.filter (fun r => r.addr != a), lastUnctrl := terase f.lastUnctrl a, missingFrom := terase f.missingFrom a }

theorem removeMember_eq (c : Chip) (a : Nat) : removeMember c a = chooseRoot (topoChanged (dbWithout c a) true) := rfl

theorem removeMember_runs (c : Chip) (a : Nat) : FabricRuns (steadied (dbWithout c a) true) (removeMember c a) := by
  rw [removeMember_eq]
  exact (topoChanged_runs _ true).trans (chooseRoot_runs _)

theorem immBit_removeMember (c : Chip) (a : Nat) : immBit (removeMember c a) Reg.FAB_EVT 2 = true := by
  rw [removeMember_eq]
  exact (chooseRoot_runs _).told 2 (immBit_topoChanged _ _)

theorem removeMember_db (c : Chip) (a : Nat) : (removeMember c a).fab.db = c.fab.db.filter (fun r => r.addr != a) :=
  (removeMember_runs c a).db

theorem removeMember_sent (c : Chip) (a : Nat) {x : Emit} (hx : x ∈ c.out) : x ∈ (removeMember c a).out :=
  (removeMember_runs c a).sent x hx

/-- R396: the holders at an address. -/
def holdersOf (c : Chip) (a : Nat) : List Holder := c.repl.holders.filter (fun h => h.addr == a)

/-- R397: the primary replicas held for an address. -/
def primariesOf (c : Chip) (a : Nat) : List Nat :=
  (c.sess.ctxs.filter (fun (_, k) => k.bstate == .replica && k.replOrigin == a && k.primary)).map (·.1)

theorem forgetMember_eq (c : Chip) (a : Nat) : forgetMember c a =
    (primariesOf c a).foldl adoptReplica ((holdersOf c a).foldl (forgetHolder a) (removeMember c a)) := rfl

theorem forgetMember_work (c : Chip) (a : Nat) : HolderWork a (removeMember c a) (forgetMember c a) := by
  rw [forgetMember_eq]
  exact (HolderWork.foldl _ (fun d h => forgetHolder_work h) _).trans (HolderWork.foldl _ (fun d x => adoptReplica_work a d x) _)

theorem forgetMember_db (c : Chip) (a : Nat) : (forgetMember c a).fab.db = c.fab.db.filter (fun r => r.addr != a) :=
  (forgetMember_work c a).db.trans (removeMember_db c a)

theorem immBit_forgetMember (c : Chip) (a : Nat) : immBit (forgetMember c a) Reg.FAB_EVT 2 = true :=
  (forgetMember_work c a).told 2 (immBit_removeMember c a)

/-- R379, R396: nothing is held at a forgotten member's address any more. -/
theorem forgetMember_holders (c : Chip) (a : Nat) : ∀ x ∈ (forgetMember c a).repl.holders, x.addr ≠ a := by
  intro x hx ha
  have hno : ∀ e ∈ (removeMember c a).fab.db, e.addr ≠ a := by
    rw [removeMember_db]
    intro e he
    exact bne_iff_ne.1 (List.mem_filter.1 he).2
  have hrepl : (removeMember c a).repl = c.repl := (removeMember_runs c a).kept .repl (by decide)
  rw [forgetMember_eq] at hx
  have hfold := HolderWork.foldl (a := a) (holdersOf c a) (fun d h => forgetHolder_work h) (removeMember c a)
  have hmid := (HolderWork.foldl (primariesOf c a) (fun d x => adoptReplica_work a d x)
    ((holdersOf c a).foldl (forgetHolder a) (removeMember c a))).held (by rw [hfold.db]; exact hno) x hx ha
  have hold := hfold.held hno x hmid ha
  rw [hrepl] at hold
  exact foldl_forgetHolder_drops (holdersOf c a) hno hmid ha x (List.mem_filter.2 ⟨hold, beq_iff_eq.2 ha⟩) rfl

end Sys2Proof
end

section
/-! PROOFS. Addresses and membership (R376 to R379, R394, R396, R397): claims and conflicts, LSAs, ageing, LEAVE and FORGET. -/

namespace Sys2Proof

open Machine

/-! ### A flood that is used -/

/-- A flood of another module, fresh here, is used on the chip that has noted it. -/
theorem receive_flood {c : Chip} {h : FeltHdr} {typ : Nat} (huses : usesFrame c h typ = true) (hlink : linkType typ = false)
    {echo : Bool} (hecho : echo = false) (use : Chip → Chip) :
    receive c h typ true echo use = use (noted c h typ true) := by
  rw [hecho, receive_used huses fun _ => hlink]

theorem ownFlood_ne {c : Chip} {h : FeltHdr} (hsrc : h.src ≠ c.fab.addr) : ownFlood c h = false := beq_eq_false_iff_ne.2 hsrc

theorem noted_tru (c : Chip) (h : FeltHdr) (typ : Nat) (flood : Bool) : (noted c h typ flood).tru = c.tru :=
  noted_kept c h typ flood .tru (by decide)

theorem noted_addr (c : Chip) (h : FeltHdr) (typ : Nat) (flood : Bool) : (noted c h typ flood).fab.addr = c.fab.addr := by
  obtain ⟨l, k, hfab⟩ := noted_fab c h typ flood
  rw [hfab]

theorem noted_mode (c : Chip) (h : FeltHdr) (typ : Nat) (flood : Bool) : (noted c h typ flood).fab.mode = c.fab.mode := by
  obtain ⟨l, k, hfab⟩ := noted_fab c h typ flood
  rw [hfab]

theorem noted_db (c : Chip) (h : FeltHdr) (typ : Nat) (flood : Bool) : (noted c h typ flood).fab.db = c.fab.db := by
  obtain ⟨l, k, hfab⟩ := noted_fab c h typ flood
  rw [hfab]

theorem noted_regsKept (as : List Nat) (c : Chip) (h : FeltHdr) (typ : Nat) (flood : Bool) :
    RegsKeptBut as c (noted c h typ flood) := (noted_kept c h typ flood).regsKept (by decide)

theorem noted_fport (c : Chip) (h : FeltHdr) (typ : Nat) (flood : Bool) (p : Nat) :
    fport (noted c h typ flood) p = fport c p := fport_noted c h typ flood p

/-! ### Claims (R377) -/

theorem exec_claim_other {s : State} {h : FeltHdr} {u : BitVec 128} (huses : usesFrame s.chip h 0x02 = true)
    (hu : u ≠ s.chip.tru.unit) (a : Nat) :
    exec (.claim h u a) s = .next { s with chip := conflict (noted s.chip h 0x02 true) u a } := by
  change execClaim h u a s = _
  rw [execClaim, onChip, receive_flood huses (by decide) (beq_eq_false_iff_ne.2 hu)]

theorem conflict_none {c : Chip} {a : Nat} (h : a ≠ c.fab.addr) (u : BitVec 128) : conflict c u a = c :=
  if_neg fun hall => h hall.1

theorem conflict_kept {c : Chip} {a : Nat} {u : BitVec 128} (ha : a = c.fab.addr) (hu : u ≠ c.tru.unit) (hmode : c.fab.mode ≠ .off)
    (hlow : c.tru.unit.toNat ≤ u.toNat) : conflict c u a = floodClaim (fabEvt c 1) := by
  have htru : (fabEvt c 1).tru = c.tru := fabEvt_kept c 1 .tru (by decide)
  rw [conflict, if_pos ⟨ha, hu, hmode⟩]
  dsimp only
  rw [htru, if_neg (Nat.not_lt.2 hlow)]

theorem conflict_lost {c : Chip} {a : Nat} {u : BitVec 128} (ha : a = c.fab.addr) (hu : u ≠ c.tru.unit) (hmode : c.fab.mode ≠ .off)
    (hlow : u.toNat < c.tru.unit.toNat) : ∃ n,
    conflict c u a = blotEvent (claimNext (fabEvt c 1) (some a)) 0x0005 3 n := by
  have htru : (fabEvt c 1).tru = c.tru := fabEvt_kept c 1 .tru (by decide)
  rw [conflict, if_pos ⟨ha, hu, hmode⟩]
  dsimp only
  rw [htru, if_pos hlow, fabEvt_fab, ← ha]
  exact ⟨_, rfl⟩

/-- R377: probe k of this module is free, and not the address lost. -/
def freeProbe (c : Chip) (lost : Option Nat) (k : Nat) : Bool :=
  decide (c.fab.probe ≤ k) && !taken c ((homeAddr c + k) % 1024) && lost != some ((homeAddr c + k) % 1024)

/-- R377: the chip about to claim its probe k. -/
def probed (c : Chip) (k : Nat) : Chip :=
  modFab c fun f => { f with
    probe := k + 1, addr := (homeAddr c + k) % 1024, addrValid := false, storedAddr := some ((homeAddr c + k) % 1024, c.tru.unit) }

/-- R377: with a free probe left, the first one is claimed. -/
theorem claimNext_free {c : Chip} {lost : Option Nat} {k : Nat} (hk : k < 1024) (hfree : freeProbe c lost k = true) :
    ∃ n, freeProbe c lost n = true ∧ claimNext c lost = floodClaim (probed c n) := by
  have hmem : k ∈ List.range 1024 := List.mem_range.2 hk
  unfold claimNext
  generalize List.range 1024 = l at hmem
  obtain ⟨n, hn⟩ := Option.isSome_iff_exists.1 (List.find?_isSome.2 ⟨k, hmem, hfree⟩)
  have hfind : l.find? (fun k => decide (c.fab.probe ≤ k) && !taken c ((homeAddr c + k) % 1024)
      && lost != some ((homeAddr c + k) % 1024)) = some n := hn
  rw [hfind]
  exact ⟨n, List.find?_some hn, rfl⟩

theorem freeProbe_iff {c : Chip} {lost k : Nat} : freeProbe c (some lost) k = true ↔
    c.fab.probe ≤ k ∧ taken c ((homeAddr c + k) % 1024) = false ∧ (homeAddr c + k) % 1024 ≠ lost := by
  simp only [freeProbe, Bool.and_eq_true, decide_eq_true_iff, Bool.not_eq_true', bne_iff_ne, ne_eq, Option.some.injEq, and_assoc,
    eq_comm (a := lost)]

theorem homeAddr_congr {c d : Chip} (h : d.tru = c.tru) : homeAddr d = homeAddr c := by rw [homeAddr, homeAddr, h]

theorem taken_congr {c d : Chip} (hdb : d.fab.db = c.fab.db) (htru : d.tru = c.tru) (a : Nat) : taken d a = taken c a := by
  rw [taken, taken, hdb, htru]

theorem blotEvent_kept (c : Chip) (code sev data : Nat) :
    ChipKeptBut [.blt, .host, .out, .regs] c (blotEvent c code sev data) :=
  (kept_blotEvent _ _ _ (by decide)).2 (.refl _ c)

theorem blotEvent_room {c : Chip} (h : c.blt.queue.length < 256) (code sev data : Nat) :
    ∃ r ∈ (blotEvent c code sev data).blt.queue, r.code = code := by
  rw [blotEvent, blot, if_neg (Nat.not_le.2 h)]
  exact ⟨_, List.mem_append_right _ (List.mem_singleton_self _), rfl⟩

/-- R377: the claim of another address, once the present one is lost. -/
theorem claimNext_runs {c : Chip} {lost k : Nat} (hk : k < 1024) (hfree : freeProbe c (some lost) k = true) :
    ∃ n, freeProbe c (some lost) n = true ∧ FabricRuns (probed c n) (claimNext c (some lost)) := by
  obtain ⟨n, hn, hclaim⟩ := claimNext_free hk hfree
  rw [hclaim]
  exact ⟨n, hn, floodClaim_runs _⟩

/-! ### A valid address (R377, R378) -/

/-- R378: the fabric of a module whose address has become valid. -/
def addressed (c : Chip) : Chip :=
  modFab c fun f => { f with addrValid := true, mode := if f.mode = .discover then .deterministic else f.mode }

theorem exec_addrClaimValid_next {s : State} (hv : s.chip.fab.addrValid = false) (hmode : s.chip.fab.mode ≠ .off) :
    exec .addrClaimValid s = .next { s with chip := chooseRoot (topoChanged (floodLsa (addressed s.chip)) true) } := by
  change execAddrClaimValid s = _
  rw [execAddrClaimValid, onChip, if_neg]
  · rfl
  · rw [hv, Bool.false_or, beq_iff_eq]
    exact hmode

theorem exec_addrClaimValid_idle {s : State} (h : s.chip.fab.addrValid = true ∨ s.chip.fab.mode = .off) :
    exec .addrClaimValid s = .next s := by
  change execAddrClaimValid s = _
  rw [execAddrClaimValid, onChip, if_pos]
  rw [Bool.or_eq_true, beq_iff_eq]
  exact h

/-! ### LSAs (R376, R377, R379) -/

/-- R379: the member's replicas and sessions follow it to its new address. -/
def lsaMoved (c : Chip) (u : BitVec 128) (src : Nat) : Chip :=
  match c.fab.db.find? (fun r => r.unit == u) with
  | some o => if o.addr = src then c else moveMember c o.addr src
  | none => c

theorem lsaMoved_kept (c : Chip) (u : BitVec 128) (src : Nat) : ChipKeptBut [.repl, .sess] c (lsaMoved c u src) := by
  unfold lsaMoved
  split
  · split
    · exact .refl _ c
    · exact (kept_moveMember _ _ (by decide)).2 (.refl _ c)
  · exact .refl _ c

theorem lsaMoved_same {c : Chip} {u : BitVec 128} {src : Nat} (h : ∀ e ∈ c.fab.db, e.unit = u → e.addr = src) :
    lsaMoved c u src = c := by
  unfold lsaMoved
  split
  · next o ho => exact if_pos (h o (List.mem_of_find?_eq_some ho) (eq_of_beq (List.find?_some ho :)))
  · rfl

/-- R376: what an LSA says of its module. -/
def lsaRec (h : FeltHdr) (u : BitVec 128) (q r f : Nat) (l : List FLink) : LsaRec := ⟨u, h.src, q, r, f, l, false, h.ttl⟩

/-- R379: the database with an LSA taken in, of another module. -/
def lsaTaken (c : Chip) (h : FeltHdr) (u : BitVec 128) (q r f : Nat) (l : List FLink) : Chip :=
  putLsa (lsaMoved c u h.src) (lsaRec h u q r f l)

/-- R378, R380: the topology told anew, members that have joined greeted and the root chosen. -/
def lsaTold (before c : Chip) (membership : Bool) : Chip := chooseRoot (greet before (topoChanged c membership))

/-- An LSA that says the same again only takes its place; any other, and that of a new member, changes the topology. -/
theorem exec_lsa_other {s : State} {h : FeltHdr} {u : BitVec 128} (huses : usesFrame s.chip h 0x03 = true)
    (hu : u ≠ s.chip.tru.unit) (hsrc : h.src ≠ s.chip.fab.addr) (q r f : Nat) (l : List FLink) : ∃ same m : Bool,
    exec (.lsa h u q r f l) s = .next { s with
      chip := if same then lsaTaken (noted s.chip h 0x03 true) h u q r f l
        else lsaTold (noted s.chip h 0x03 true) (lsaTaken (noted s.chip h 0x03 true) h u q r f l) m } ∧
      ((∀ e ∈ s.chip.fab.db, e.unit ≠ u) → same = false ∧ m = true) := by
  have hsrc' : h.src ≠ (noted s.chip h 0x03 true).fab.addr := by rwa [noted_addr]
  have hdb := noted_db s.chip h 0x03 true
  change ∃ same m : Bool, execLsa h u q r f l s = _ ∧ _
  rw [execLsa, onChip, receive_flood huses (by decide) (beq_eq_false_iff_ne.2 hu)]
  generalize noted s.chip h 0x03 true = d at hsrc' hdb
  dsimp only
  rw [conflict_none hsrc', if_neg hsrc', ← hdb]
  refine ⟨_, _, rfl, fun hnew => ?_⟩
  rw [List.find?_eq_none.2 fun e he => by simpa using hnew e he]
  exact ⟨rfl, rfl⟩

theorem lsaTaken_db (c : Chip) (h : FeltHdr) (u : BitVec 128) (q r f : Nat) (l : List FLink) :
    (lsaTaken c h u q r f l).fab.db =
      c.fab.db.filter (fun e => e.unit != u && e.addr != h.src) ++ [⟨u, h.src, q, r, f, l, false, h.ttl⟩] := by
  change (lsaMoved c u h.src).fab.db.filter (fun e => e.unit != u && e.addr != h.src) ++ [lsaRec h u q r f l] = _
  rw [lsaMoved_kept c u h.src .fab (by decide)]
  rfl

theorem lsaTaken_kept (c : Chip) (h : FeltHdr) (u : BitVec 128) (q r f : Nat) (l : List FLink) :
    ChipKeptBut [.fab, .repl, .sess] c (lsaTaken c h u q r f l) :=
  (kept_putLsa _ (by decide)).2 ((lsaMoved_kept c u h.src).mono (by decide))

theorem lsaTold_runs (before c : Chip) (m : Bool) : FabricRuns (steadied c m) (lsaTold before c m) :=
  (topoChanged_runs c m).trans ((greet_runs _ _).trans (chooseRoot_runs _))

theorem immBit_lsaTold (before c : Chip) (m : Bool) : immBit (lsaTold before c m) Reg.FAB_EVT 2 = true :=
  ((greet_runs before _).trans (chooseRoot_runs _)).told 2 (immBit_topoChanged c m)

theorem exec_lsaRefresh_on {s : State} (hmode : s.chip.fab.mode ≠ .off) :
    exec .lsaRefresh s = .next { s with chip := floodLsa s.chip } := by
  change execLsaRefresh s = _
  rw [execLsaRefresh, onChip, if_neg hmode]

theorem carries_link_iff {c : Chip} {p typ : Nat}
    (htyp : typ ∈ [0x01, 0x02, 0x03, 0x04, 0x0B, 0x0C, 0x0D, 0x0E, 0x0F, 0x10]) :
    carries c p typ = portUp (fport c p) := by
  rw [carries, portUp]
  split
  · next h => rw [h]; rfl
  · next h => rw [h, decide_eq_true htyp]; rfl
  · next hfull hstandby => rw [beq_eq_false_iff_ne.2 hfull, beq_eq_false_iff_ne.2 hstandby]; rfl

theorem sendFlood_fab {c : Chip} (hkey : keyOk c = true) (typ : Nat) (b : List Byte) :
    (sendFlood c typ b).fab = { c.fab with seqs := tput c.fab.seqs typ (nextFeltSeq c typ) } := by
  rw [sendFlood_key hkey]
  rfl

/-- R376: this module's LSA has its unit, the next LSA_SEQ, its rating and flags, and then its links. -/
theorem floodLsa_payload {c : Chip} (h : c.fab.addrValid = true) : ∃ b, floodLsa c =
    sendFlood (withLsaSeq c (c.fab.lsaSeq + 1)) 0x03
      (id16 c.tru.unit ++ beBytes 4 (c.fab.lsaSeq + 1) ++ beBytes 2 (ownRated c) ++ beBytes 1 (ownFlags c) ++ b) := by
  rw [floodLsa, if_pos h]
  exact ⟨_, congrArg (sendFlood _ 0x03) (List.append_assoc _ _ _)⟩

theorem exec_lsaAgeOut_member {s : State} {r : LsaRec} (hr : r ∈ s.chip.fab.db) (haged : r.aged = false) :
    exec (.lsaAgeOut r.addr) s = .next { s with
      chip := chooseRoot (topoChanged (modFab s.chip fun f => { f with
        db := f.db.map fun e => if e.addr == r.addr then { e with aged := true } else e }) false) } := by
  change execLsaAgeOut r.addr s = _
  rw [execLsaAgeOut, onChip, if_pos]
  exact List.any_eq_true.2 ⟨r, hr, by rw [haged, beq_self_eq_true]; rfl⟩

/-! ### LEAVE (R373, R379) -/

/-- R373: the loss of lock towards a member that leaves is explained. -/
def explainOne (a : Nat) (c : Chip) (p : Nat) : Chip :=
  if (fport c p).nbr == some a then modPort c p (fun x => { x with explained := true }) else c

theorem explainOne_kept (a : Nat) (c : Chip) (p : Nat) : ChipKeptBut [.fab] c (explainOne a c p) := by
  unfold explainOne
  split
  · exact (kept_modPort _ _ (by decide)).2 (.refl _ c)
  · exact .refl _ c

theorem explainOne_db (a : Nat) (c : Chip) (p : Nat) : (explainOne a c p).fab.db = c.fab.db := by
  unfold explainOne
  split <;> rfl

theorem explainOne_nbr (a : Nat) (c : Chip) (p q : Nat) : (fport (explainOne a c p) q).nbr = (fport c q).nbr := by
  unfold explainOne
  split
  · by_cases hq : q = p
    · subst hq
      rw [fport_modPort_self]
    · rw [fport_modPort_ne _ _ hq]
  · rfl

theorem explainOne_keeps (a : Nat) (c : Chip) (p : Nat) {q : Nat} (h : (fport c q).explained = true) :
    (fport (explainOne a c p) q).explained = true := by
  unfold explainOne
  split
  · by_cases hq : q = p
    · subst hq
      rw [fport_modPort_self]
    · rwa [fport_modPort_ne _ _ hq]
  · exact h

theorem explainOne_self {a : Nat} {c : Chip} {p : Nat} (h : (fport c p).nbr = some a) :
    (fport (explainOne a c p) p).explained = true := by
  rw [explainOne, if_pos (beq_iff_eq.2 h), fport_modPort_self]

theorem foldl_explainOne {a : Nat} (l : List Nat) {c : Chip} {p : Nat} (hp : p ∈ l) (h : (fport c p).nbr = some a) :
    (fport (l.foldl (explainOne a) c) p).explained = true := by
  induction l generalizing c with
  | nil => cases hp
  | cons q l ih =>
    obtain rfl | hp := List.mem_cons.1 hp
    · exact foldl_keeps (P := fun d => (fport d p).explained = true) (fun d k hd => explainOne_keeps a d k hd) l
        (explainOne_self h)
    · exact ih hp ((explainOne_nbr a c q p).trans h)

/-- R373: the ports towards a member that leaves are explained. -/
def explained (c : Chip) (a : Nat) : Chip := (List.range 4).foldl (explainOne a) c

theorem explained_db (c : Chip) (a : Nat) : (explained c a).fab.db = c.fab.db :=
  foldl_same (fun d : Chip => d.fab.db) (fun d p => explainOne_db a d p) _ c

theorem explained_kept (c : Chip) (a : Nat) : ChipKeptBut [.fab] c (explained c a) :=
  (kept_foldl _ fun d p => explainOne_kept a d p).2 (.refl _ c)

theorem exec_leave_member {s : State} {h : FeltHdr} {u : BitVec 128} {r : LsaRec} (huses : usesFrame s.chip h 0x0C = true)
    (hsrc : h.src ≠ s.chip.fab.addr) (hr : s.chip.fab.db.find? (fun e => e.unit == u) = some r) (w : Nat) :
    exec (.leave h u w) s = .next { s with chip := removeMember (explained (noted s.chip h 0x0C true) r.addr) r.addr } := by
  change execLeave h u w s = _
  rw [execLeave, onChip, receive_flood huses (by decide) (ownFlood_ne hsrc), noted_db, hr]
  rfl

theorem exec_leave_none {s : State} {h : FeltHdr} {u : BitVec 128} (huses : usesFrame s.chip h 0x0C = true)
    (hsrc : h.src ≠ s.chip.fab.addr) (hno : ∀ e ∈ s.chip.fab.db, e.unit ≠ u) (w : Nat) :
    exec (.leave h u w) s = .next { s with chip := noted s.chip h 0x0C true } := by
  change execLeave h u w s = _
  rw [execLeave, onChip, receive_flood huses (by decide) (ownFlood_ne hsrc), noted_db,
    List.find?_eq_none.2 fun e he => by simpa using hno e he]

/-! ### FORGET (R379) -/

theorem exec_forget_used {s : State} {h : FeltHdr} (huses : usesFrame s.chip h 0x0E = true) (hsrc : h.src ≠ s.chip.fab.addr)
    (a : Nat) (u : BitVec 128) :
    exec (.forget h a u) s = .next { s with
      chip := if s.chip.fab.db.any (fun r => r.addr == a && r.unit == u) then forgetMember (noted s.chip h 0x0E true) a
        else noted s.chip h 0x0E true } := by
  change execForget h a u s = _
  rw [execForget, onChip, receive_flood huses (by decide) (ownFlood_ne hsrc), noted_db]

theorem forgetMember_kept (c : Chip) (a : Nat) :
    ChipKeptBut [.fab, .freeCount, .host, .leg, .out, .regs, .repl, .sess] c (forgetMember c a) :=
  (kept_forgetMember a (by decide)).2 (.refl _ c)

theorem exec_fabCtrlForget_open {s : State} (h : windowClosed s.chip Reg.FAB_CTRL = false) (a : BitVec 10) :
    exec (.fabCtrlForget a false) s = .next { s with chip := forgetAddr s.chip a.toNat } := by
  change execFabCtrlForget a false s = _
  rw [execFabCtrlForget, onChip_reach _ h]
  rfl

theorem forgetAddr_member {c : Chip} {a : Nat} {r : LsaRec} (h : c.fab.db.find? (fun e => e.addr == a) = some r) :
    forgetAddr c a = forgetMember (sendFlood c 0x0E (beBytes 2 a ++ id16 r.unit)) a := by
  rw [forgetAddr, h]

theorem forgetAddr_none {c : Chip} {a : Nat} (h : ∀ e ∈ c.fab.db, e.addr ≠ a) :
    ∃ b, forgetAddr c a = takeFree (sendFlood c 0x0E b) := by
  rw [forgetAddr, List.find?_eq_none.2 fun e he => by simpa using h e he]
  exact ⟨_, rfl⟩

/-- R377: a lower identity takes the address, and this module claims its next free probe. -/
theorem claim_of_lower : ∀ (s : State) (h : FeltHdr) (u : BitVec 128) (a k : Nat), usesFrame s.chip h 0x02 = true → u ≠ s.chip.tru.unit →
    a = s.chip.fab.addr → s.chip.fab.mode ≠ .off → u.toNat < s.chip.tru.unit.toNat →
    k < 1024 → s.chip.fab.probe ≤ k → taken s.chip ((homeAddr s.chip + k) % 1024) = false →
    (homeAddr s.chip + k) % 1024 ≠ a →
    Answers (.claim h u a) s fun t => KeptBut [.blt, .fab, .host, .out, .regs] s t ∧
      immBit t.chip Reg.FAB_EVT 1 = true ∧ t.chip.fab.addr ≠ a ∧ taken s.chip t.chip.fab.addr = false ∧
      t.chip.fab.addrValid = false ∧ t.chip.fab.storedAddr = some (t.chip.fab.addr, s.chip.tru.unit) ∧
      s.chip.fab.probe < t.chip.fab.probe ∧
      (s.chip.blt.queue.length < 256 → ∃ r ∈ t.chip.blt.queue, r.code = 0x0005) := by
  intro s h u a k huses hu ha hmode hlow hk hprobe htaken hne
  have hexec := exec_claim_other huses hu a
  obtain ⟨n, hlost⟩ := conflict_lost (u := u) (ha.trans (noted_addr s.chip h 0x02 true).symm) (by rwa [noted_tru]) (by rwa [noted_mode])
    (by rwa [noted_tru])
  rw [hlost] at hexec
  have hd : ChipKeptBut [.fab, .host, .out, .regs] s.chip (fabEvt (noted s.chip h 0x02 true) 1) :=
    ((noted_kept _ _ _ _).mono (by decide)).trans ((fabEvt_kept _ _).mono (by decide))
  have hfab : ∃ l k, (fabEvt (noted s.chip h 0x02 true) 1).fab = { s.chip.fab with forwarded := l, heard := k } := by
    rw [fabEvt_fab]
    exact noted_fab _ _ _ _
  have hevt : immBit (fabEvt (noted s.chip h 0x02 true) 1) Reg.FAB_EVT 1 = true := immBit_fabEvt _ (by decide)
  generalize fabEvt (noted s.chip h 0x02 true) 1 = d at hexec hd hfab hevt
  obtain ⟨l, hn, hfab⟩ := hfab
  have htru : d.tru = s.chip.tru := hd .tru (by decide)
  have hdb : d.fab.db = s.chip.fab.db := by rw [hfab]
  have hprobeEq : d.fab.probe = s.chip.fab.probe := by rw [hfab]
  have hhome := homeAddr_congr htru
  obtain ⟨m, hm, hruns⟩ := claimNext_runs (c := d) (lost := a) hk
    (freeProbe_iff.2 (by rw [hprobeEq, hhome, taken_congr hdb htru]; exact ⟨hprobe, htaken, hne⟩))
  obtain ⟨hmprobe, hmtaken, hmne⟩ := freeProbe_iff.1 hm
  have hprobed : ChipKeptBut [.fab] d (probed d m) := (kept_modFab _ (by decide)).2 (.refl _ d)
  generalize claimNext d (some a) = e at hexec hruns
  have hblot := blotEvent_kept e 0x0005 3 n
  have hclaimed := hprobed.mono (ps := [.fab, .host, .out, .regs]) (by decide) |>.trans hruns.kept
  have htfab : (blotEvent e 0x0005 3 n).fab = e.fab := hblot .fab (by decide)
  have haddr : e.fab.addr = (homeAddr d + m) % 1024 := hruns.addr
  refine answers_chip hexec ⟨keptBut_chip.2 ?_, ?_, ?_, ?_, ?_, ?_, ?_, fun hroom => ?_⟩
  · exact ((hd.trans hclaimed).mono (by decide)).trans (hblot.mono (by decide))
  · rw [immBit_blotEvent _ _ _ _ (by decide)]
    exact hruns.told 1 hevt
  · rw [htfab, haddr]
    exact hmne
  · rw [htfab, haddr, ← taken_congr hdb htru]
    exact hmtaken
  · rw [htfab]
    exact hruns.addrValid
  · rw [htfab, haddr, ← htru]
    exact (congrArg Fab.storedAddr hruns.fab).trans rfl
  · rw [htfab, ← hprobeEq]
    exact (Nat.lt_succ_of_le hmprobe).trans_eq ((congrArg Fab.probe hruns.fab).trans rfl).symm
  · refine blotEvent_room ?_ 0x0005 3 n
    have hblt : e.blt = s.chip.blt := hd.trans hclaimed .blt (by decide)
    rwa [hblt]

/-- R376, R379: an LSA of another module takes its place in the database. -/
theorem lsa_of_other : ∀ (s : State) (h : FeltHdr) (u : BitVec 128) (q r f : Nat) (l : List FLink), usesFrame s.chip h 0x03 = true →
    u ≠ s.chip.tru.unit → h.src ≠ s.chip.fab.addr →
    Answers (.lsa h u q r f l) s fun t => KeptBut [.fab, .host, .out, .regs, .repl, .sess] s t ∧
      ((∀ e ∈ s.chip.fab.db, e.unit = u → e.addr = h.src) → KeptBut [.fab, .host, .out, .regs] s t) ∧
      RegsKeptBut [Reg.FAB_EVT] s.chip t.chip ∧
      t.chip.fab.db = s.chip.fab.db.filter (fun e => e.unit != u && e.addr != h.src) ++ [⟨u, h.src, q, r, f, l, false, h.ttl⟩] ∧
      ((∀ e ∈ s.chip.fab.db, e.unit ≠ u) → immBit t.chip Reg.FAB_EVT 2 = true ∧ t.chip.fab.steady = 0) := by
  intro s h u q r f l huses hu hsrc
  obtain ⟨same, m, hexec, hnew⟩ := exec_lsa_other huses hu hsrc q r f l
  have hnoted := noted_kept s.chip h 0x03 true
  have hdb := noted_db s.chip h 0x03 true
  generalize noted s.chip h 0x03 true = d at hexec hnoted hdb
  have htaken := lsaTaken_kept d h u q r f l
  have hstays : (∀ e ∈ s.chip.fab.db, e.unit = u → e.addr = h.src) → ChipKeptBut [.fab] d (lsaTaken d h u q r f l) := by
    intro hsame
    rw [lsaTaken, lsaMoved_same (by rwa [hdb])]
    exact (kept_putLsa _ (by decide)).2 (.refl _ d)
  have htakendb := lsaTaken_db d h u q r f l
  rw [hdb] at htakendb
  generalize lsaTaken d h u q r f l = e at hexec htaken hstays htakendb
  have htold := lsaTold_runs d e m
  have hkept : ChipKeptBut [.fab, .host, .out, .regs] e (if same then e else lsaTold d e m) := by
    split
    · exact .refl _ e
    · exact ((steadied_kept e m).mono (by decide)).trans htold.kept
  refine answers_chip hexec ⟨keptBut_chip.2 ?_, fun hsame => keptBut_chip.2 ?_, ?_, ?_, fun hno => ?_⟩
  · exact ((hnoted.mono (by decide)).trans (htaken.mono (by decide))).trans (hkept.mono (by decide))
  · exact ((hnoted.mono (by decide)).trans ((hstays hsame).mono (by decide))).trans hkept
  · refine (hnoted.regsKept (by decide)).trans ((htaken.regsKept (by decide)).trans ?_)
    split
    · exact .refl _ _
    · exact htold.regs
  · refine Eq.trans ?_ htakendb
    split
    · rfl
    · exact htold.db
  · obtain ⟨rfl, rfl⟩ := hnew hno
    have hsteady : (lsaTold d e true).fab.steady = 0 := htold.steady
    have hevt := immBit_lsaTold d e true
    rw [if_neg Bool.false_ne_true]
    dsimp only
    exact ⟨hevt, hsteady⟩

/-- R373, R379: a member that leaves is removed. -/
theorem leave_of_member : ∀ (s : State) (h : FeltHdr) (u : BitVec 128) (w : Nat) (r : LsaRec), usesFrame s.chip h 0x0C = true →
    h.src ≠ s.chip.fab.addr → s.chip.fab.db.find? (fun e => e.unit == u) = some r →
    Answers (.leave h u w) s fun t => KeptBut [.fab, .host, .out, .regs] s t ∧
      RegsKeptBut [Reg.FAB_EVT] s.chip t.chip ∧ immBit t.chip Reg.FAB_EVT 2 = true ∧
      t.chip.fab.db = s.chip.fab.db.filter (fun e => e.addr != r.addr) ∧ t.chip.fab.steady = 0 ∧
      ∀ p, p < 4 → (fport s.chip p).nbr = some r.addr → (fport t.chip p).explained = true := by
  intro s h u w r huses hsrc hr
  have hexpl : ChipKeptBut [.fab, .out] s.chip (explained (noted s.chip h 0x0C true) r.addr) :=
    (noted_kept _ _ _ _).trans ((explained_kept _ _).mono (by decide))
  have hdb := (explained_db (noted s.chip h 0x0C true) r.addr).trans (noted_db _ _ _ _)
  have hport : ∀ p, p < 4 → (fport s.chip p).nbr = some r.addr →
      (fport (explained (noted s.chip h 0x0C true) r.addr) p).explained = true := fun p hp hn =>
    foldl_explainOne _ (List.mem_range.2 hp) (by rw [fport_noted]; exact hn)
  have hexec := exec_leave_member huses hsrc hr w
  generalize explained (noted s.chip h 0x0C true) r.addr = d at hexec hexpl hdb hport
  have hruns := removeMember_runs d r.addr
  have hbefore : ChipKeptBut [.fab] d (steadied (dbWithout d r.addr) true) :=
    ((kept_modFab _ (by decide)).2 (.refl _ d)).trans (steadied_kept _ _)
  refine answers_chip hexec ⟨keptBut_chip.2 ?_, ?_, immBit_removeMember _ _, ?_, hruns.steady, fun p hp hn => ?_⟩
  · exact (hexpl.mono (by decide)).trans ((hbefore.mono (by decide)).trans hruns.kept)
  · exact (hexpl.regsKept (by decide)).trans ((hbefore.regsKept (by decide)).trans hruns.regs)
  · rw [removeMember_db, hdb]
  · rw [hruns.port p]
    exact hport p hp hn

/-- Settles O43, command by command. -/
theorem fabricMembership : Obligations.FabricMembership := by
  unfold Obligations.FabricMembership
  refine ⟨?_, claim_of_lower, ?_, ?_, fun s h => exec_addrClaimValid_idle h, lsa_of_other, ?_, ?_, leave_of_member,
    fun s h u w huses hsrc hno => exec_leave_none huses hsrc hno w, ?_, ?_, ?_, ?_⟩
  · intro s h u a huses hu ha hmode hlow
    have hexec := exec_claim_other huses hu a
    have haddr : a = (noted s.chip h 0x02 true).fab.addr := ha.trans (noted_addr _ _ _ _).symm
    rw [conflict_kept haddr (by rwa [noted_tru]) (by rwa [noted_mode]) (by rwa [noted_tru])] at hexec
    have hevt := fabEvt_runs (noted s.chip h 0x02 true) (b := 1) (by decide)
    have hruns := hevt.trans (floodClaim_runs _)
    refine answers_chip hexec ⟨keptBut_chip.2 (((noted_kept _ _ _ _).mono (by decide)).trans hruns.kept),
      (noted_regsKept _ _ _ _ _).trans hruns.regs, ?_, ?_, ?_⟩
    · exact (floodClaim_runs _).told 1 (immBit_fabEvt _ (by decide))
    · exact hruns.addr.trans (noted_addr _ _ _ _)
    · refine hruns.addrValid.trans ?_
      obtain ⟨l, k, hfab⟩ := noted_fab s.chip h 0x02 true
      rw [hfab]
  · intro s h u a huses hu ha
    rw [exec_claim_other huses hu, conflict_none (by rwa [noted_addr])]
  · intro s hv hmode
    have htopo := (topoChanged_runs (floodLsa (addressed s.chip)) true).trans (chooseRoot_runs _)
    have hlsa := floodLsa_runs (addressed s.chip)
    have hstart : ChipKeptBut [.fab] s.chip (lsaCounted (addressed s.chip)) :=
      ((kept_modFab _ (by decide)).2 (.refl _ s.chip)).trans (lsaCounted_kept _)
    refine answers_chip (exec_addrClaimValid_next hv hmode) ⟨keptBut_chip.2 ?_, ?_, ?_, ?_, ?_, ?_⟩
    · exact (hstart.mono (by decide)).trans (hlsa.kept.trans (((steadied_kept _ _).mono (by decide)).trans htopo.kept))
    · exact (hstart.regsKept (by decide)).trans (hlsa.regs.trans ((RegsKeptBut.of_regs rfl).trans htopo.regs))
    · exact htopo.addrValid.trans hlsa.addrValid
    · exact htopo.addr.trans hlsa.addr
    · exact htopo.lsaSeq.trans hlsa.lsaSeq
    · exact htopo.mode.trans hlsa.mode
  · intro s hmode hv hkey
    have hexec := exec_lsaRefresh_on hmode
    obtain ⟨b, hflood⟩ := floodLsa_payload hv
    rw [hflood] at hexec
    have hkey' : keyOk (withLsaSeq s.chip (s.chip.fab.lsaSeq + 1)) = true := hkey
    refine answers_chip hexec ⟨keptBut_chip.2 ?_, (sendFlood_fab hkey' 0x03 _).trans rfl, fun p hp hcar => ⟨b, ?_⟩⟩
    · exact (kept_sendFlood _ _ (by decide)).2 ((kept_set_fab (by decide)).2 (.refl _ _))
    · rw [carries_link_iff (by decide)] at hcar
      exact mem_out_sendFlood hkey' hp ((carries_link_iff (by decide)).trans hcar) _
  · intro s r hr haged
    have hruns := (topoChanged_false_runs (modFab s.chip fun f => { f with
      db := f.db.map fun e => if e.addr == r.addr then { e with aged := true } else e })).trans (chooseRoot_runs _)
    refine answers_chip (exec_lsaAgeOut_member hr haged) ⟨keptBut_chip.2 ?_, hruns.regs, ?_, hruns.db⟩
    · exact ((kept_modFab _ (by decide)).2 (.refl _ _)).trans hruns.kept
    · exact (chooseRoot_runs _).told 2 (immBit_topoChanged _ _)
  · intro s h r huses hsrc hr
    have hexec := exec_forget_used huses hsrc r.addr r.unit
    rw [if_pos (List.any_eq_true.2 ⟨r, hr, by rw [beq_self_eq_true, beq_self_eq_true]; rfl⟩)] at hexec
    refine answers_chip hexec ⟨keptBut_chip.2 ?_, immBit_forgetMember _ _, ?_, forgetMember_holders _ _⟩
    · exact ((noted_kept _ _ _ _).mono (by decide)).trans (forgetMember_kept _ _)
    · rw [forgetMember_db, noted_db]
  · intro s h a u huses hsrc hno
    rw [exec_forget_used huses hsrc, if_neg]
    intro hany
    obtain ⟨e, he, heq⟩ := List.any_eq_true.1 hany
    rw [Bool.and_eq_true, beq_iff_eq, beq_iff_eq] at heq
    exact hno e he heq
  · intro s a r hopen hr hkey
    have hexec := exec_fabCtrlForget_open hopen a
    rw [forgetAddr_member hr] at hexec
    have hflood := sendFlood_runs s.chip 0x0E (beBytes 2 a.toNat ++ id16 r.unit)
    refine answers_chip hexec ⟨keptBut_chip.2 ?_, immBit_forgetMember _ _, ?_, fun p hp hcar => ?_⟩
    · exact (hflood.kept.mono (by decide)).trans (forgetMember_kept _ _)
    · rw [forgetMember_db, hflood.db]
    · exact (forgetMember_work _ _).sent _ (removeMember_sent _ _ (mem_out_sendFlood hkey hp hcar _))
  · intro s a hopen hno
    obtain ⟨b, hforget⟩ := forgetAddr_none hno
    have hexec := exec_fabCtrlForget_open hopen a
    rw [hforget] at hexec
    refine answers_chip hexec ⟨keptBut_chip.2 ?_, (sendFlood_runs s.chip 0x0E b).db⟩
    exact (kept_takeFree (by decide)).2 ((kept_sendFlood _ _ (by decide)).2 (.refl _ _))

end Sys2Proof
end

section
/-! PROOFS. The time of the fabric (R106, R376, R382 to R384): SYNC, the better of two roots, and the offset to the root. -/

namespace Sys2Proof

open Machine

/-! ### The better root (R382) -/

theorem betterRoot_class {c : Chip} {a b : RootInfo} (h : a.cls < b.cls) :
    betterRoot c a b = true ∧ betterRoot c b a = false := by
  have hne : (b.cls == a.cls) = false := beq_eq_false_iff_ne.2 (by omega)
  refine ⟨?_, ?_⟩
  · rw [betterRoot, decide_eq_true h, Bool.true_or]
  · rw [betterRoot, decide_eq_false (by omega), hne]
    rfl

theorem betterRoot_identity {c : Chip} {a b : RootInfo} (hcls : a.cls = b.cls) (h : unitOf c a.addr < unitOf c b.addr)
    (hne : a.addr ≠ b.addr) : betterRoot c a b = true ∧ betterRoot c b a = false := by
  refine ⟨?_, ?_⟩
  · rw [betterRoot, hcls, beq_self_eq_true, decide_eq_true h]
    simp
  · rw [betterRoot, hcls, decide_eq_false (lt_irrefl _), decide_eq_false (by omega), beq_eq_false_iff_ne.2 hne.symm]
    simp

/-! ### SYNC_TICK -/

theorem exec_syncTick_up {s : State} {p : FPort} (hmode : s.chip.fab.mode ≠ .off) (hkey : keyOk s.chip = true)
    (hup : portUp (fport s.chip p.val) = true) :
    exec (.syncTick p) s = .next { s with
      chip := emit (countFelt s.chip 0x04)
        (.felt p.val (feltFrame s.chip 0x04 (linkDst s.chip p.val) (syncBytes s.chip p.val))) } := by
  change execSyncTick p s = _
  rw [execSyncTick, onChip, if_neg hmode, sendLink_up hkey hup (by decide)]

theorem exec_syncTick_silent {s : State} {p : FPort}
    (h : s.chip.fab.mode = .off ∨ keyOk s.chip = false ∨ portUp (fport s.chip p.val) = false) :
    exec (.syncTick p) s = .next s := by
  change execSyncTick p s = _
  rw [execSyncTick, onChip]
  obtain hmode | hdown := h
  · rw [if_pos hmode]
  · rw [sendLink_down hdown, ite_self]

/-! ### SYNC -/

/-- R382: the root that a neighbour reports. -/
def reportedRoot (y : SyncBody) : Option RootInfo := if y.rootClass ≤ 3 then some ⟨y.root, y.rootClass, y.hops⟩ else none

/-- R376, R383: what a SYNC leaves at its port. -/
def syncPort (c : Chip) (p : Nat) (y : SyncBody) (rx : Nat) : FPortSt :=
  { fport c p with
    syncTx := y.tTx, syncRx := rx, lockHops := y.lockHops, lockAt := c.tb.aon,
    delayNs := if y.tEcho = 0 then (fport c p).delayNs else sat 65535 (linkDelay c y rx), rootSeen := reportedRoot y }

/-- R376, R384: the chip that has noted a SYNC at its port, with the round numbers it tells of. -/
def syncNoted (c : Chip) (p : Nat) (y : SyncBody) (rx : Nat) : Chip :=
  modFab (takeFree (setFport c p (syncPort c p y rx))) fun f => { f with roundSeen := max f.roundSeen (y.roundNext - 1) }

theorem exec_sync_used {s : State} {h : FeltHdr} (huses : usesFrame s.chip h 0x04 = true) (y : SyncBody) (rx : Nat) :
    exec (.sync h y rx) s = .next { s with
      chip := takeBeacon (followRoot (chooseRoot (syncNoted (noted s.chip h 0x04 false) h.port.val y rx)) h.port.val y rx)
        h.port.val y } := by
  change execSync h y rx s = _
  rw [execSync, onChip, receive_used huses (fun hflood => absurd hflood Bool.false_ne_true)]
  rfl

theorem fport_syncNoted (c : Chip) (p : Nat) (y : SyncBody) (rx : Nat) :
    fport (syncNoted c p y rx) p = syncPort c p y rx := fport_setFport_self c p _

theorem syncNoted_kept (c : Chip) (p : Nat) (y : SyncBody) (rx : Nat) :
    ChipKeptBut [.fab, .freeCount] c (syncNoted c p y rx) :=
  (kept_modFab _ (by decide)).2 ((kept_takeFree (by decide)).2 ((kept_setFport _ _ (by decide)).2 (.refl _ c)))

/-- R382, R383: this module follows its root through the neighbour of a port. -/
def FollowsAt (c : Chip) (p : Nat) (r : RootInfo) : Prop :=
  c.fab.root = some r ∧ r.addr ≠ c.fab.addr ∧
    ∃ seen, (fport c p).rootSeen = some seen ∧ seen.addr = r.addr ∧ seen.hops + 1 = r.hops

/-- R383: the offset to the root that a neighbour passes on. -/
def rootOffset (c : Chip) (p : Nat) (y : SyncBody) (rx : Nat) : Int :=
  ((y.tTx + (fport c p).delayNs : Nat) : Int) - (rx : Int)

/-- R383, R384: the round clock once the offset to the root is applied. -/
def followedFab (c : Chip) (p : Nat) (y : SyncBody) (rx : Nat) : Fab :=
  { c.fab with
    ofsNs := satInt 32 (rootOffset c p y rx), roundSeen := max c.fab.roundSeen y.roundNext,
    roundNext := max y.roundNext (c.fab.roundRun + 1), roundAt := y.roundAt }

theorem followRoot_follows {c : Chip} {p : Nat} {r : RootInfo} (h : FollowsAt c p r) (y : SyncBody) (rx : Nat) :
    (followRoot c p y rx).fab = followedFab c p y rx := by
  obtain ⟨hroot, haddr, seen, hseen, hsame, hhops⟩ := h
  rw [followRoot, hroot, hseen]
  dsimp only
  rw [if_pos ⟨haddr, hsame, hhops⟩]
  have hfab : ∀ (d : Chip) (o : Int), (bookRound (takeFree (wallOffset d .felt o))).fab = d.fab := fun d o =>
    (kept_bookRound (by decide)).2 ((kept_takeFree (by decide)).2 ((kept_wallOffset _ _ (by decide)).2
      (.refl [.blt, .freeCount, .host, .out, .regs, .tb] d))) .fab (by decide)
  rw [hfab]
  rfl

theorem followRoot_else {c : Chip} {p : Nat} (h : ∀ r, ¬ FollowsAt c p r) (y : SyncBody) (rx : Nat) :
    followRoot c p y rx = c := by
  unfold followRoot
  split
  · next r seen hroot hseen =>
    exact if_neg fun ⟨haddr, hsame, hhops⟩ => h r ⟨hroot, haddr, seen, hseen, hsame, hhops⟩
  · rfl

/-- R384: of the fabric a followed root changes the offset and the round clock, and no round number seen is lost. -/
theorem followRoot_fab (c : Chip) (p : Nat) (y : SyncBody) (rx : Nat) : ∃ o n k a,
    (followRoot c p y rx).fab = { c.fab with ofsNs := o, roundSeen := n, roundNext := k, roundAt := a } ∧
      c.fab.roundSeen ≤ n := by
  by_cases h : ∃ r, FollowsAt c p r
  · obtain ⟨r, hr⟩ := h
    exact ⟨_, _, _, _, followRoot_follows hr y rx, le_max_left _ _⟩
  · exact ⟨_, _, _, _, congrArg Chip.fab (followRoot_else (fun r hr => h ⟨r, hr⟩) y rx), le_rfl⟩

/-- R376, R382 to R384: a SYNC leaves its port as noted, the root chosen, and the round clock no earlier. -/
theorem sync_noted : ∀ (s : State) (h : FeltHdr) (y : SyncBody) (rx : Nat), usesFrame s.chip h 0x04 = true →
    Answers (.sync h y rx) s fun t => KeptBut [.blt, .fab, .freeCount, .host, .out, .regs, .tb] s t ∧
      t.chip.fab.db = s.chip.fab.db ∧
      (fport t.chip h.port.val).syncTx = y.tTx ∧ (fport t.chip h.port.val).syncRx = rx ∧
      (fport t.chip h.port.val).lockHops = y.lockHops ∧
      (fport t.chip h.port.val).nbr = (fport s.chip h.port.val).nbr ∧
      (fport t.chip h.port.val).rootSeen = (if y.rootClass ≤ 3 then some ⟨y.root, y.rootClass, y.hops⟩ else none) ∧
      (fport t.chip h.port.val).delayNs = (if y.tEcho = 0 then (fport s.chip h.port.val).delayNs
        else sat 65535 (linkDelay s.chip y rx)) ∧
      s.chip.fab.roundSeen ≤ t.chip.fab.roundSeen ∧ y.roundNext - 1 ≤ t.chip.fab.roundSeen ∧
      (∀ r, t.chip.fab.root = some r → r.addr ≠ t.chip.fab.addr → y.rootClass ≤ 3 → y.root = r.addr →
        y.hops + 1 = r.hops →
        t.chip.fab.ofsNs = satInt 32 (((y.tTx + (fport t.chip h.port.val).delayNs : Nat) : Int) - (rx : Int)) ∧
        t.chip.fab.roundAt = y.roundAt ∧ t.chip.fab.roundNext = max y.roundNext (s.chip.fab.roundRun + 1)) := by
  intro s h y rx huses
  have hexec := exec_sync_used huses y rx
  have hstart : ChipKeptBut [.fab, .freeCount, .out] s.chip (syncNoted (noted s.chip h 0x04 false) h.port.val y rx) :=
    ((noted_kept _ _ _ _).mono (by decide)).trans ((syncNoted_kept _ _ _ _).mono (by decide))
  have hport := fport_syncNoted (noted s.chip h 0x04 false) h.port.val y rx
  have hdelay : linkDelay (noted s.chip h 0x04 false) y rx = linkDelay s.chip y rx := rfl
  have hold := fport_noted s.chip h 0x04 false h.port.val
  have hruns := chooseRoot_runs (syncNoted (noted s.chip h 0x04 false) h.port.val y rx)
  have hdb : (syncNoted (noted s.chip h 0x04 false) h.port.val y rx).fab.db = s.chip.fab.db := rfl
  have hrun : (syncNoted (noted s.chip h 0x04 false) h.port.val y rx).fab.roundRun = s.chip.fab.roundRun := rfl
  have hseen : (syncNoted (noted s.chip h 0x04 false) h.port.val y rx).fab.roundSeen =
    max s.chip.fab.roundSeen (y.roundNext - 1) := rfl
  generalize syncNoted (noted s.chip h 0x04 false) h.port.val y rx = d at hexec hstart hport hruns hdb hrun hseen
  have hstart := (hstart.mono (ps := [.fab, .freeCount, .host, .out, .regs]) (by decide)).trans (hruns.kept.mono (by decide))
  have hport' := (hruns.port h.port.val).trans (by rw [hport])
  have hdb' := hruns.db.trans hdb
  have hrun' := ((congrArg Fab.roundRun hruns.fab).trans rfl).trans hrun
  have hseen' := ((congrArg Fab.roundSeen hruns.fab).trans rfl).trans hseen
  generalize chooseRoot d = e at hexec hstart hport' hdb' hrun' hseen'
  clear hruns
  have hfollow : ChipKeptBut [.blt, .fab, .freeCount, .host, .out, .regs, .tb] e (followRoot e h.port.val y rx) :=
    (kept_followRoot _ _ _ (by decide)).2 (.refl _ e)
  have hwhen := fun r (hr : FollowsAt e h.port.val r) => followRoot_follows hr y rx
  obtain ⟨o, n, k, a, hfab, hle⟩ := followRoot_fab e h.port.val y rx
  generalize followRoot e h.port.val y rx = f at hexec hfollow hfab hwhen
  have hbeacon : ChipKeptBut [.tb] f (takeBeacon f h.port.val y) := (kept_takeBeacon _ _ (by decide)).2 (.refl _ f)
  have htfab : (takeBeacon f h.port.val y).fab = f.fab := hbeacon .fab (by decide)
  generalize takeBeacon f h.port.val y = t at hexec hbeacon htfab
  have hports : t.fab.ports = e.fab.ports := by rw [htfab, hfab]
  have htport : fport t h.port.val = fport e h.port.val := fport_of_fab hports _
  have htseen : t.fab.roundSeen = n := by rw [htfab, hfab]
  have hmax : max s.chip.fab.roundSeen (y.roundNext - 1) ≤ n := hseen' ▸ hle
  refine answers_chip hexec ⟨keptBut_chip.2 ?_, ?_, ?_, ?_, ?_, ?_, ?_, ?_, ?_, ?_, fun r hroot haddr hcls hsame hhops => ?_⟩
  · exact (hstart.mono (by decide)).trans (hfollow.trans (hbeacon.mono (by decide)))
  · rw [htfab, hfab, ← hdb']
  · rw [htport, hport']
    rfl
  · rw [htport, hport']
    rfl
  · rw [htport, hport']
    rfl
  · rw [htport, hport', ← hold]
    rfl
  · rw [htport, hport']
    rfl
  · rw [htport, hport', ← hold, ← hdelay]
    rfl
  · exact htseen ▸ (le_max_left _ _).trans hmax
  · exact htseen ▸ (le_max_right _ _).trans hmax
  · have hfollows : FollowsAt e h.port.val r := by
      refine ⟨?_, ?_, ⟨y.root, y.rootClass, y.hops⟩, ?_, hsame, hhops⟩
      · rw [← hroot, htfab, hfab]
      · rwa [htfab, hfab] at haddr
      · rw [hport']
        exact if_pos hcls
    have hfollowed := htfab.trans (hwhen r hfollows)
    rw [htport]
    refine ⟨(congrArg Fab.ofsNs hfollowed).trans rfl, (congrArg Fab.roundAt hfollowed).trans rfl, ?_⟩
    rw [← hrun']
    exact (congrArg Fab.roundNext hfollowed).trans rfl

/-- Settles O44, command by command, and by the order of the roots. -/
theorem fabricTime : Obligations.FabricTime := by
  unfold Obligations.FabricTime
  refine ⟨sync_noted, ?_, fun s p h => exec_syncTick_silent h, fun c a b h => betterRoot_class h,
    fun c a b hcls h hne => betterRoot_identity hcls h hne⟩
  intro s p hmode hkey hup
  refine answers_chip (exec_syncTick_up hmode hkey hup) ⟨keptBut_chip.2 ?_, rfl, rfl⟩
  exact (kept_emit _ (by decide)).2 ((kept_countFelt _ (by decide)).2 (.refl _ _))

end Sys2Proof
end

section
/-! PROOFS. Ten seconds without a result (R389): the outlets' limits are set anew, and one whose duty cycle comes back closes
again, which may first ask for a pre-closure test (R278). -/

namespace Sys2Proof

open Machine

/-- R389: the chip whose grants are within its share. -/
def grantsCapped (c : Chip) : Chip :=
  modFab c fun f => { f with
    capped := true
    grantImp := if (c.fab.grantImp.map (·.2)).sum ≤ shareOf c c.fab.addr then f.grantImp
      else f.grantImp.map fun (o, g) => (o, g * shareOf c c.fab.addr / (c.fab.grantImp.map (·.2)).sum) }

theorem exec_grantTimeout_caps {s : State} (hcfg : cfgBit s.chip Reg.FAB_CFG 2 = true) (hcap : s.chip.fab.capped = false) :
    exec .grantTimeout s = .next { s with chip := updateIlims (grantsCapped s.chip) } := by
  change execGrantTimeout s = _
  rw [execGrantTimeout, onChip, hcfg, hcap, if_pos (by decide)]
  rfl

/-- An AC outlet in AUTHORISED with its vehicle ready to charge (state C), the duty cycle not yet given and the last pre-closure
test 61 s old. -/
def waitingOutlet : OutletSt := { OutletSt.init with state := .authorised, cp := .c, capA := 32, preclosed := some 0 }

/-- A module in Operational with every region ready, whose outlet 0 is that outlet with a grant of 10 A at 230 V, within the
module's share of the agreed round. -/
def waitingState : State :=
  { State.reset with
    chip := { Chip.reset with
      sup := { Sup.reset with mode := .operational, ready := 0xFF#8, fence := 0, lcs := .deployed }
      regs := [(Reg.MET_QE_INST 0 0 0, 230000#32)]
      live := [(Reg.MET_MP_CFG 0, 2#32), (Reg.OUT_CFG 0, 1#32), (Reg.OUT_LIMIT 0, 320#32), (Reg.FAB_CFG, 4#32)]
      outl := { Chip.reset.outl with outlets := [(0, waitingOutlet)] }
      fab := { Chip.reset.fab with capped := false, grantImp := [(0, 2300)], agreed := some ⟨0, 10000, 0, [], [(0, 1)]⟩ }
      tb := { Chip.reset.tb with aon := 61 * 2 ^ 32 }
      pwd := { Chip.reset.pwd with holdOk := true }
      saf := { Chip.reset.saf with nibOk := true } } }

theorem cfgBit_waitingState : cfgBit waitingState.chip Reg.FAB_CFG 2 = true := by decide

theorem capped_waitingState : waitingState.chip.fab.capped = false := by decide

/-- R278: the outlet that is to close asks for its pre-closure test, which Nib then runs. -/
theorem updateIlims_asks_preclose : (updateIlims (grantsCapped waitingState.chip)).saf.precloseReq = some 0 := by decide +kernel

/-- Refutes O45: the limits that GRANT_TIMEOUT sets anew bring back the duty cycle of an outlet in AUTHORISED, which then closes.
In `waitingState` its pre-closure test is more than 60 s old, so a new one is asked for in the safety processor, which the
statement says is left as it was. -/
theorem not_allocationCommands : ¬ Obligations.AllocationCommands := by
  unfold Obligations.AllocationCommands
  rintro ⟨-, -, -, -, -, -, -, -, -, htimeout, -⟩
  obtain ⟨t, hnext, ⟨-, hkept⟩, -⟩ := htimeout waitingState cfgBit_waitingState capped_waitingState
  rw [exec_grantTimeout_caps cfgBit_waitingState capped_waitingState] at hnext
  cases hnext
  have hsaf : (updateIlims (grantsCapped waitingState.chip)).saf = waitingState.chip.saf := hkept .saf (by decide)
  have hreq := congrArg Saf.precloseReq hsaf
  rw [updateIlims_asks_preclose] at hreq
  exact absurd hreq (by decide)

end Sys2Proof
end

section
/-! PROOFS. What goes out to a member (R374, R380): the route, the port and the frame are those of the chip as it was, where the
network it knows and its keys stand. -/

namespace Sys2Proof

open Machine

/-- R374, R376, R380: two chips send alike: the same route, port and frame to each member. -/
structure SendsAlike (c d : Chip) : Prop where
  toward : ∀ a, portToward d a = portToward c a
  key : keyOk d = keyOk c
  reach : ∀ a, reachable d a = reachable c a
  carried : ∀ p typ, carries d p typ = carries c p typ
  frame : ∀ typ dst b, feltFrame d typ dst b = feltFrame c typ dst b

theorem ownLinks_congr {c d : Chip} (hports : d.fab.ports = c.fab.ports) (hcost : ∀ p, p < 4 → portCost d p = portCost c p) :
    ownLinks d = ownLinks c := by
  refine List.filterMap_congr fun p hp => ?_
  rw [fport_of_fab hports, hcost p (List.mem_range.1 hp)]

/-- R376: a module's own LSA comes from its links, its settings and its mode. -/
theorem ownLsa_congr {c d : Chip} (hlive : d.live = c.live) (hsup : d.sup = c.sup) (htru : d.tru = c.tru)
    (haddr : d.fab.addr = c.fab.addr) (hseq : d.fab.lsaSeq = c.fab.lsaSeq) (hlinks : ownLinks d = ownLinks c) :
    ownLsa d = ownLsa c := by
  have hflags : ownFlags d = ownFlags c := by
    rw [ownFlags, ownFlags, ready, ready, hsup, cfgBit_of_live hlive, cfgBit_of_live hlive]
  have hrated : ownRated d = ownRated c := cfg_of_live hlive _ _ _
  rw [ownLsa, ownLsa, htru, haddr, hseq, hrated, hflags, hlinks]

/-- What stands of a chip that sends alike: its network, its keys and its time, whatever frames it has noted. -/
theorem SendsAlike.of_kept {ps : List Part} {c d : Chip} (h : ChipKeptBut ps c d)
    (hps : .live ∉ ps ∧ .sup ∉ ps ∧ .tru ∉ ps ∧ .tb ∉ ps) (hcost : ∀ p, p < 4 → portCost d p = portCost c p)
    (hfab : ∃ l k, d.fab = { c.fab with forwarded := l, heard := k }) : SendsAlike c d := by
  obtain ⟨hlive, hsup, htru, htb⟩ := hps
  replace htru : d.tru = c.tru := h .tru htru
  obtain ⟨l, k, hfab⟩ := hfab
  have haddr : d.fab.addr = c.fab.addr := by rw [hfab]
  have hdb : d.fab.db = c.fab.db := by rw [hfab]
  have hports : d.fab.ports = c.fab.ports := by rw [hfab]
  have hlinks : ownLinks d = ownLinks c := ownLinks_congr hports hcost
  have hmembers : members d = members c := by
    rw [members, members, hdb, ownLsa_congr (h .live hlive) (h .sup hsup) htru haddr (by rw [hfab]) hlinks]
  have hedges : edges d = edges c := by rw [edges, edges, hmembers]
  have hroutes : routes d = routes c := by rw [routes, routes, haddr, hedges, hmembers]
  have hwithout : ∀ a, edgesWithout d a = edgesWithout c a := fun a => by rw [edgesWithout, edgesWithout, hedges, haddr]
  have honly : ∀ p, onlyViaStandby d p = onlyViaStandby c p := fun p => by
    simp only [onlyViaStandby, fport_of_fab hports, haddr, hwithout, hmembers, hroutes]
  exact {
    toward := fun a => by rw [portToward, portToward, hroutes, hlinks]
    key := by rw [keyOk, keyOk, htru]
    reach := fun a => by rw [reachable, reachable, haddr, hroutes]
    carried := fun p typ => by rw [carries, carries, fport_of_fab hports, honly]
    frame := feltFrame_congr haddr (by rw [hfab]) (by rw [hfab]) htru (h .tb htb) }

theorem portCost_of_regs {c d : Chip} (h : d.regs = c.regs) (p : Nat) : portCost d p = portCost c p := by
  rw [portCost, portCost, imm, imm, regGet, regGet, h]

/-- Events of the fabric leave the costs of its ports. -/
theorem portCost_fabEvt (c : Chip) (b : Nat) {p : Nat} (hp : p < 4) : portCost (fabEvt c b) p = portCost c p := by
  have hne : Reg.FAB_PORT_COST p ≠ Reg.FAB_EVT := by
    unfold Reg.FAB_PORT_COST Reg.FAB_EVT
    omega
  rw [portCost, portCost, imm, imm, fabEvt, regGet_raiseEvt_ne c b hne]

/-- R374: a chip that has noted a frame, and then changed nothing that sending rests on, sends alike. -/
theorem SendsAlike.of_noted {ps : List Part} {c d : Chip} {h : FeltHdr} {typ : Nat} {flood : Bool}
    (hkept : ChipKeptBut ps (noted c h typ flood) d)
    (hps : .live ∉ ps ∧ .sup ∉ ps ∧ .tru ∉ ps ∧ .tb ∉ ps ∧ .regs ∉ ps ∧ .fab ∉ ps) : SendsAlike c d := by
  obtain ⟨hlive, hsup, htru, htb, hregs, hfab⟩ := hps
  have hnoted : ChipKeptBut (.out :: .fab :: ps) c (noted c h typ flood) := (noted_kept c h typ flood).mono (by simp)
  refine .of_kept (hnoted.trans (hkept.mono fun x hx => .tail _ (.tail _ hx))) (by simp [hlive, hsup, htru, htb])
    (fun p _ => portCost_of_regs ((hkept .regs hregs).trans (hnoted .regs (by simp [hregs]))) p) ?_
  rw [show d.fab = (noted c h typ flood).fab from hkept .fab hfab]
  exact noted_fab c h typ flood

theorem fabEvt_sendsAlike (c : Chip) (b : Nat) : SendsAlike c (fabEvt c b) :=
  .of_kept (fabEvt_kept c b) (by decide) (fun _ hp => portCost_fabEvt c b hp) ⟨_, _, fabEvt_fab c b⟩

/-- R380: a frame to a member is sent where a port leads to it and the frame may go there. -/
theorem sends_sendTo {c d : Chip} (h : SendsAlike c d) (typ dst : Nat) (b : List Byte) :
    Sends c (sendTo d typ dst b) typ dst b := by
  intro p hp hkey hreach hcar
  have hgo : (keyOk d && reachable d dst && carries d p typ) = true := by
    rw [h.key, h.reach, h.carried, hkey, hreach, hcar]
    rfl
  unfold sendTo
  rw [h.toward, hp]
  dsimp only
  rw [if_pos hgo, h.frame]
  exact List.mem_cons_self

/-- What was sent stays sent. -/
theorem sends_mono {c d e : Chip} {typ dst : Nat} {b : List Byte} (h : Sends c d typ dst b) (hout : ∀ x ∈ d.out, x ∈ e.out) :
    Sends c e typ dst b :=
  fun p hp hkey hreach hcar => hout _ (h p hp hkey hreach hcar)

end Sys2Proof
end

section
/-! PROOFS. The holder of a replica (R200, R395, R396): a replica is opened in a FREE context, written by updates and freed by a
close, and each frame is answered to the origin. -/

namespace Sys2Proof

open Machine

/-- A routed frame, fresh here, is used on the chip that has noted it. -/
theorem receive_routed {c : Chip} {h : FeltHdr} {typ : Nat} (huses : usesFrame c h typ = true) (use : Chip → Chip) :
    receive c h typ false false use = use (noted c h typ false) :=
  receive_used huses (fun hflood => absurd hflood Bool.false_ne_true) use

/-! ### Contexts -/

theorem ctxOf_setCtx_self (c : Chip) (x : Nat) (k : Context) : ctxOf (setCtx c x k) x = k := tget_tput_self _ _ _ _

theorem ctxOf_setCtx_ne (c : Chip) {x y : Nat} (k : Context) (h : y ≠ x) : ctxOf (setCtx c x k) y = ctxOf c y :=
  tget_tput_ne _ _ _ h

theorem setCtx_kept (c : Chip) (x : Nat) (k : Context) : ChipKeptBut [.sess] c (setCtx c x k) :=
  (kept_setCtx x k (by decide)).2 (.refl _ c)

theorem freeCtx_kept (c : Chip) (x : Nat) : ChipKeptBut [.sess] c (freeCtx c x) := setCtx_kept c x Context.init

theorem sendAck_kept (c : Chip) (dst : Nat) (sid : BitVec 128) (cycle result : Nat) :
    ChipKeptBut [.fab, .out] c (sendAck c dst sid cycle result) :=
  (kept_sendAck dst sid cycle result (by decide)).2 (.refl _ c)

theorem ctxOf_sendAck (c : Chip) (dst : Nat) (sid : BitVec 128) (cycle result x : Nat) :
    ctxOf (sendAck c dst sid cycle result) x = ctxOf c x :=
  ctxOf_of_sess (sendAck_kept c dst sid cycle result .sess (by decide)) x

theorem ctxAcc_of_acc {c d : Chip} (h : d.acc = c.acc) (x k : Nat) : ctxAcc d x k = ctxAcc c x k := by rw [ctxAcc, ctxAcc, h]

theorem ctxAcc_sendAck (c : Chip) (dst : Nat) (sid : BitVec 128) (cycle result x k : Nat) :
    ctxAcc (sendAck c dst sid cycle result) x k = ctxAcc c x k :=
  ctxAcc_of_acc (sendAck_kept c dst sid cycle result .acc (by decide)) x k

/-- R376: an acknowledgement of a frame goes out as the chip that received the frame sends. -/
theorem sends_sendAck {ps : List Part} {c d : Chip} {h : FeltHdr} {typ : Nat} (hkept : ChipKeptBut ps (noted c h typ false) d)
    (hps : .live ∉ ps ∧ .sup ∉ ps ∧ .tru ∉ ps ∧ .tb ∉ ps ∧ .regs ∉ ps ∧ .fab ∉ ps) (sid : BitVec 128) (cycle result : Nat) :
    Sends c (sendAck d h.src sid cycle result) 0x09 h.src (id16 sid ++ beBytes 6 cycle ++ beBytes 1 result) :=
  sends_sendTo (.of_noted hkept hps) _ _ _

/-! ### REPLICA_OPEN (R200, R395) -/

/-- R395: the context of a replica that an origin opens. -/
def openedCtx (c : Chip) (src : Nat) (b : ReplicaOpen) : Context :=
  { Context.init with
    bstate := .replica, outlet := b.outlet, point := b.point, sessionId := b.sessionId, authRef := b.authRef,
    startCycle := b.startCycle, endCycle := b.startCycle, startWall := b.startWall, endWall := b.startWall, price := b.price,
    origin := src, replOrigin := src, primary := b.primary, since := c.sess.counter }

/-- R395: the chip whose context x has taken a replica, its slots empty. -/
def opened (c : Chip) (src : Nat) (b : ReplicaOpen) (x : Nat) : Chip :=
  { c with sess := { c.sess with ctxs := tput c.sess.ctxs x (openedCtx c src b), counter := c.sess.counter + 1 },
           acc := { c.acc with ctxs := c.acc.ctxs.filter (fun e => e.1 / 64 != x) } }

theorem opened_kept (c : Chip) (src : Nat) (b : ReplicaOpen) (x : Nat) : ChipKeptBut [.acc, .sess] c (opened c src b x) :=
  (kept_set_sess (d := { c with acc := { c.acc with ctxs := c.acc.ctxs.filter (fun e => e.1 / 64 != x) } }) (by decide)).2
    ((kept_set_acc (by decide)).2 (.refl _ c))

theorem ctxOf_opened_self (c : Chip) (src : Nat) (b : ReplicaOpen) (x : Nat) :
    ctxOf (opened c src b x) x = openedCtx c src b := tget_tput_self _ _ _ _

theorem ctxOf_opened_ne (c : Chip) (src : Nat) (b : ReplicaOpen) {x y : Nat} (h : y ≠ x) :
    ctxOf (opened c src b x) y = ctxOf c y := tget_tput_ne _ _ _ h

/-- A table read where every entry of the key is gone. -/
theorem tget_filter_gone {α : Type} (d : α) {t : Tab α} {keep : Nat × α → Bool} {a : Nat} (h : ∀ v, keep (a, v) = false) :
    tget d (t.filter keep) a = d := by
  induction t with
  | nil => rfl
  | cons e t ih =>
    obtain ⟨j, v⟩ := e
    cases hkeep : keep (j, v) with
    | false => rw [List.filter_cons_of_neg (by simp [hkeep]), ih]
    | true =>
      rw [List.filter_cons_of_pos hkeep, tget, if_neg, ih]
      rintro rfl
      rw [h v] at hkeep
      exact Bool.false_ne_true hkeep

theorem ctxAcc_opened (c : Chip) (src : Nat) (b : ReplicaOpen) (x : Nat) {k : Nat} (hk : k < 64) :
    ctxAcc (opened c src b x) x k = 0 := by
  refine tget_filter_gone 0 fun v => ?_
  have hctx : (64 * x + k) / 64 = x := by omega
  simp [hctx]

section
variable {s : State} {h : FeltHdr} {b : ReplicaOpen} (huses : usesFrame s.chip h 0x07 = true)
  (hnew : replicaCtx s.chip b.sessionId h.src = none)
include huses hnew

theorem exec_replicaOpen_free {x : Nat} (hfree : firstFree s.chip = some x) : exec (.replicaOpen h b) s = .next { s with
    chip := sendAck (opened (noted s.chip h 0x07 false) h.src b x) h.src b.sessionId 0 0 } := by
  have hnew' : replicaCtx (noted s.chip h 0x07 false) b.sessionId h.src = none := hnew
  have hfree' : firstFree (noted s.chip h 0x07 false) = some x := hfree
  change execReplicaOpen h b s = _
  rw [execReplicaOpen, onChip, receive_routed huses]
  dsimp only
  rw [hnew', hfree']
  rfl

theorem exec_replicaOpen_full (hfull : firstFree s.chip = none) : exec (.replicaOpen h b) s = .next { s with
    chip := sendAck (noted s.chip h 0x07 false) h.src b.sessionId 0 1 } := by
  have hnew' : replicaCtx (noted s.chip h 0x07 false) b.sessionId h.src = none := hnew
  have hfull' : firstFree (noted s.chip h 0x07 false) = none := hfull
  change execReplicaOpen h b s = _
  rw [execReplicaOpen, onChip, receive_routed huses]
  dsimp only
  rw [hnew', hfull']

end

/-- R200, R395: a FREE context takes a replica. -/
theorem replicaOpen_taken : ∀ (s : State) (h : FeltHdr) (b : ReplicaOpen) (x : Nat), usesFrame s.chip h 0x07 = true →
    replicaCtx s.chip b.sessionId h.src = none → firstFree s.chip = some x →
    Answers (.replicaOpen h b) s fun t => KeptBut [.acc, .fab, .out, .sess] s t ∧ OtherCtxsKept x s.chip t.chip ∧
      (ctxOf t.chip x).bstate = .replica ∧ (ctxOf t.chip x).sessionId = b.sessionId ∧
      (ctxOf t.chip x).authRef = b.authRef ∧ (ctxOf t.chip x).replOrigin = h.src ∧
      (ctxOf t.chip x).primary = b.primary ∧ (ctxOf t.chip x).price = b.price ∧
      (ctxOf t.chip x).startCycle = b.startCycle ∧ (∀ k, k < 64 → ctxAcc t.chip x k = 0) ∧
      Sends s.chip t.chip 0x09 h.src (id16 b.sessionId ++ beBytes 6 0 ++ beBytes 1 0) := by
  intro s h b x huses hnew hfree
  have hopened := opened_kept (noted s.chip h 0x07 false) h.src b x
  refine answers_chip (exec_replicaOpen_free huses hnew hfree) ⟨keptBut_chip.2 ?_, fun y hy => ?_, ?_⟩
  · exact ((noted_kept _ _ _ _).mono (by decide)).trans ((hopened.mono (by decide)).trans ((sendAck_kept _ _ _ _ _).mono (by decide)))
  · exact (ctxOf_sendAck _ _ _ _ _ _).trans (ctxOf_opened_ne _ _ _ hy)
  · dsimp only
    rw [ctxOf_sendAck, ctxOf_opened_self]
    exact ⟨rfl, rfl, rfl, rfl, rfl, rfl, rfl, fun k hk => (ctxAcc_sendAck _ _ _ _ _ _ _).trans (ctxAcc_opened _ _ _ _ hk),
      sends_sendAck hopened (by decide) _ _ _⟩

/-- R200: with no FREE context a replica is refused. -/
theorem replicaOpen_refused : ∀ (s : State) (h : FeltHdr) (b : ReplicaOpen), usesFrame s.chip h 0x07 = true →
    replicaCtx s.chip b.sessionId h.src = none → firstFree s.chip = none →
    Answers (.replicaOpen h b) s fun t => KeptBut [.fab, .out] s t ∧
      Sends s.chip t.chip 0x09 h.src (id16 b.sessionId ++ beBytes 6 0 ++ beBytes 1 1) := by
  intro s h b huses hnew hfull
  exact answers_chip (exec_replicaOpen_full huses hnew hfull)
    ⟨keptBut_chip.2 ((noted_kept _ _ _ _).trans (sendAck_kept _ _ _ _ _)), sends_sendAck (.refl [] _) (by decide) _ _ _⟩

/-! ### REPLICA_UPDATE (R396) -/

/-- R396: the context of a replica that an update has been written into. -/
def updatedCtx (k : Context) (b : ReplicaUpdate) : Context :=
  { k with energised := b.energisedMs * 2 ^ 32, flags := b.flags, replCycle := b.cycle, endCycle := b.cycle, endWall := b.wall }

/-- R396: the chip whose context x an update has been written into. -/
def updated (c : Chip) (x : Nat) (b : ReplicaUpdate) : Chip := putSlots (setCtx c x (updatedCtx (ctxOf c x) b)) x b.values

theorem updated_kept (c : Chip) (x : Nat) (b : ReplicaUpdate) : ChipKeptBut [.acc, .sess] c (updated c x b) :=
  (kept_set_acc (by decide)).2 ((setCtx_kept c x _).mono (by decide))

theorem ctxOf_updated_self (c : Chip) (x : Nat) (b : ReplicaUpdate) : ctxOf (updated c x b) x = updatedCtx (ctxOf c x) b :=
  ctxOf_setCtx_self c x _

theorem ctxOf_updated_ne (c : Chip) {x y : Nat} (b : ReplicaUpdate) (h : y ≠ x) : ctxOf (updated c x b) y = ctxOf c y :=
  ctxOf_setCtx_ne c _ h

/-- Slots written one after another leave every other slot. -/
theorem tget_putSlots_ne (x : Nat) {l : List (Nat × Nat)} {k : Nat} (h : ∀ e ∈ l, e.1 ≠ k) (t : Tab Nat) :
    tget 0 (l.foldl (fun t (k, v) => tput t (64 * x + k) (v % 2 ^ 128)) t) (64 * x + k) = tget 0 t (64 * x + k) := by
  induction l generalizing t with
  | nil => rfl
  | cons e l ih =>
    obtain ⟨he, hl⟩ := List.forall_mem_cons.1 h
    exact (ih hl _).trans (tget_tput_ne _ _ _ (by omega))

/-- Each slot holds what was written to it, where no slot is written twice. -/
theorem tget_putSlots_mem (x : Nat) {l : List (Nat × Nat)} (hl : (l.map Prod.fst).Nodup) {k v : Nat} (h : (k, v) ∈ l) (t : Tab Nat) :
    tget 0 (l.foldl (fun t (k, v) => tput t (64 * x + k) (v % 2 ^ 128)) t) (64 * x + k) = v % 2 ^ 128 := by
  induction l generalizing t with
  | nil => exact absurd h List.not_mem_nil
  | cons e l ih =>
    rw [List.map_cons, List.nodup_cons] at hl
    obtain ⟨hnew, hrest⟩ := hl
    obtain rfl | hmem := List.mem_cons.1 h
    · refine (tget_putSlots_ne x (fun e he heq => hnew ?_) (tput t (64 * x + k) (v % 2 ^ 128))).trans (tget_tput_self _ _ _ _)
      exact List.mem_map.2 ⟨e, he, heq⟩
    · exact ih hrest hmem _

theorem fst_zip_sublist {α β : Type} (l : List α) (m : List β) : ((l.zip m).map Prod.fst).Sublist l := by
  induction l generalizing m with
  | nil => exact .slnil
  | cons a l ih =>
    cases m with
    | nil => exact List.nil_sublist _
    | cons b m => exact (ih m).cons_cons a

theorem nodup_ctxSlots : ctxSlots.Nodup := by decide

theorem ctxAcc_updated (c : Chip) (x : Nat) {b : ReplicaUpdate} {k v : Nat} (h : (k, v) ∈ ctxSlots.zip b.values) :
    ctxAcc (updated c x b) x k = v % 2 ^ 128 := by
  refine tget_putSlots_mem x ?_ h _
  exact nodup_ctxSlots.sublist (fst_zip_sublist _ _)

theorem exec_replicaUpdate_held {s : State} {h : FeltHdr} {b : ReplicaUpdate} {x : Nat} (huses : usesFrame s.chip h 0x08 = true)
    (hheld : replicaCtx s.chip b.sessionId h.src = some x) : exec (.replicaUpdate h b) s = .next { s with
      chip := sendAck (updated (noted s.chip h 0x08 false) x b) h.src b.sessionId b.cycle 0 } := by
  have hheld' : replicaCtx (noted s.chip h 0x08 false) b.sessionId h.src = some x := hheld
  change execReplicaUpdate h b s = _
  rw [execReplicaUpdate, onChip, receive_routed huses]
  dsimp only
  rw [hheld']
  rfl

theorem exec_replicaUpdate_unknown {s : State} {h : FeltHdr} {b : ReplicaUpdate} (huses : usesFrame s.chip h 0x08 = true)
    (hnone : replicaCtx s.chip b.sessionId h.src = none) : exec (.replicaUpdate h b) s = .next { s with
      chip := sendAck (noted s.chip h 0x08 false) h.src b.sessionId b.cycle 2 } := by
  have hnone' : replicaCtx (noted s.chip h 0x08 false) b.sessionId h.src = none := hnone
  change execReplicaUpdate h b s = _
  rw [execReplicaUpdate, onChip, receive_routed huses]
  dsimp only
  rw [hnone']

/-- R396: an update is written into the replica and acknowledged. -/
theorem replicaUpdate_written : ∀ (s : State) (h : FeltHdr) (b : ReplicaUpdate) (x : Nat), usesFrame s.chip h 0x08 = true →
    replicaCtx s.chip b.sessionId h.src = some x →
    Answers (.replicaUpdate h b) s fun t => KeptBut [.acc, .fab, .out, .sess] s t ∧ OtherCtxsKept x s.chip t.chip ∧
      ctxOf t.chip x = updatedCtx (ctxOf s.chip x) b ∧
      (∀ k v, (k, v) ∈ ctxSlots.zip b.values → ctxAcc t.chip x k = v % 2 ^ 128) ∧
      Sends s.chip t.chip 0x09 h.src (id16 b.sessionId ++ beBytes 6 b.cycle ++ beBytes 1 0) := by
  intro s h b x huses hheld
  have hupdated := updated_kept (noted s.chip h 0x08 false) x b
  refine answers_chip (exec_replicaUpdate_held huses hheld) ⟨keptBut_chip.2 ?_, fun y hy => ?_, ?_, fun k v hkv => ?_, ?_⟩
  · exact ((noted_kept _ _ _ _).mono (by decide)).trans
      ((hupdated.mono (by decide)).trans ((sendAck_kept _ _ _ _ _).mono (by decide)))
  · exact (ctxOf_sendAck _ _ _ _ _ _).trans (ctxOf_updated_ne _ _ hy)
  · exact (ctxOf_sendAck _ _ _ _ _ _).trans (ctxOf_updated_self _ _ _)
  · exact (ctxAcc_sendAck _ _ _ _ _ _ _).trans (ctxAcc_updated _ _ hkv)
  · exact sends_sendAck hupdated (by decide) _ _ _

/-- R396: an update of an unknown session is answered so. -/
theorem replicaUpdate_unknown : ∀ (s : State) (h : FeltHdr) (b : ReplicaUpdate), usesFrame s.chip h 0x08 = true →
    replicaCtx s.chip b.sessionId h.src = none →
    Answers (.replicaUpdate h b) s fun t => KeptBut [.fab, .out] s t ∧
      Sends s.chip t.chip 0x09 h.src (id16 b.sessionId ++ beBytes 6 b.cycle ++ beBytes 1 2) := by
  intro s h b huses hnone
  exact answers_chip (exec_replicaUpdate_unknown huses hnone)
    ⟨keptBut_chip.2 ((noted_kept _ _ _ _).trans (sendAck_kept _ _ _ _ _)), sends_sendAck (.refl [] _) (by decide) _ _ _⟩

/-! ### REPLICA_CLOSE at the holder (R396) -/

theorem exec_replicaClose_held {s : State} {h : FeltHdr} {i : BitVec 128} {w x : Nat} (huses : usesFrame s.chip h 0x0A = true)
    (hw : w ≠ 2) (hheld : replicaCtx s.chip i h.src = some x) (q : Nat) : exec (.replicaClose h i w q) s = .next { s with
      chip := sendAck (freeCtx (noted s.chip h 0x0A false) x) h.src i (ctxOf s.chip x).replCycle 3 } := by
  have hheld' : replicaCtx (noted s.chip h 0x0A false) i h.src = some x := hheld
  change execReplicaClose h i w q s = _
  rw [execReplicaClose, onChip, receive_routed huses]
  dsimp only
  rw [if_neg hw, hheld']
  rfl

theorem exec_replicaClose_unknown {s : State} {h : FeltHdr} {i : BitVec 128} {w : Nat} (huses : usesFrame s.chip h 0x0A = true)
    (hw : w ≠ 2) (hnone : replicaCtx s.chip i h.src = none) (q : Nat) : exec (.replicaClose h i w q) s = .next { s with
      chip := sendAck (noted s.chip h 0x0A false) h.src i 0 2 } := by
  have hnone' : replicaCtx (noted s.chip h 0x0A false) i h.src = none := hnone
  change execReplicaClose h i w q s = _
  rw [execReplicaClose, onChip, receive_routed huses]
  dsimp only
  rw [if_neg hw, hnone']

/-- R396: a close by the origin frees the replica, which is answered. -/
theorem replicaClose_freed : ∀ (s : State) (h : FeltHdr) (i : BitVec 128) (w q x : Nat), usesFrame s.chip h 0x0A = true → w ≠ 2 →
    replicaCtx s.chip i h.src = some x →
    Answers (.replicaClose h i w q) s fun t => KeptBut [.fab, .out, .sess] s t ∧ OtherCtxsKept x s.chip t.chip ∧
      ctxOf t.chip x = Context.init ∧
      Sends s.chip t.chip 0x09 h.src (id16 i ++ beBytes 6 (ctxOf s.chip x).replCycle ++ beBytes 1 3) := by
  intro s h i w q x huses hw hheld
  have hfreed := freeCtx_kept (noted s.chip h 0x0A false) x
  refine answers_chip (exec_replicaClose_held huses hw hheld q) ⟨keptBut_chip.2 ?_, fun y hy => ?_, ?_,
    sends_sendAck hfreed (by decide) _ _ _⟩
  · exact ((noted_kept _ _ _ _).mono (by decide)).trans ((hfreed.mono (by decide)).trans ((sendAck_kept _ _ _ _ _).mono (by decide)))
  · exact (ctxOf_sendAck _ _ _ _ _ _).trans (ctxOf_setCtx_ne _ _ hy)
  · exact (ctxOf_sendAck _ _ _ _ _ _).trans (ctxOf_setCtx_self _ _ _)

/-- R396: a close of an unknown replica is answered so. -/
theorem replicaClose_unknown : ∀ (s : State) (h : FeltHdr) (i : BitVec 128) (w q : Nat), usesFrame s.chip h 0x0A = true → w ≠ 2 →
    replicaCtx s.chip i h.src = none →
    Answers (.replicaClose h i w q) s fun t => KeptBut [.fab, .out] s t ∧
      Sends s.chip t.chip 0x09 h.src (id16 i ++ beBytes 6 0 ++ beBytes 1 2) := by
  intro s h i w q huses hw hnone
  exact answers_chip (exec_replicaClose_unknown huses hw hnone q)
    ⟨keptBut_chip.2 ((noted_kept _ _ _ _).trans (sendAck_kept _ _ _ _ _)), sends_sendAck (.refl [] _) (by decide) _ _ _⟩

end Sys2Proof
end

section
/-! PROOFS. The origin of a replica (R395, R396): what its holders answer, what a lost or refusing one leaves, and the placing of
what is missing. -/

namespace Sys2Proof

open Machine

/-! ### Holders -/

theorem holderAt_eq_none {c : Chip} {i : BitVec 128} {a : Nat} :
    holderAt c i a = none ↔ ∀ y ∈ c.repl.holders, y.addr = a → y.sessionId ≠ i := by
  rw [holderAt, List.find?_eq_none]
  refine forall₂_congr fun y _ => ⟨fun h ha hi => h ?_, fun h hy => ?_⟩
  · rw [beq_iff_eq.2 hi, beq_iff_eq.2 ha]
    rfl
  · rw [Bool.and_eq_true, beq_iff_eq, beq_iff_eq] at hy
    exact h hy.2 hy.1

theorem holderAt_dropHolder (c : Chip) (i : BitVec 128) (a : Nat) : holderAt (dropHolder c i a) i a = none :=
  holderAt_eq_none.2 fun _ hy ha => not_mem_dropHolder hy ha

/-- R395: an address is passed over for a session: it refused, and holds nothing of it. -/
def PassedOver (i : BitVec 128) (a : Nat) (c : Chip) : Prop := (i, a) ∈ c.repl.refused ∧ holderAt c i a = none

theorem PassedOver.of_repl {i : BitVec 128} {a : Nat} {c d : Chip} (h : PassedOver i a c) (hrepl : d.repl = c.repl) :
    PassedOver i a d := by
  rw [PassedOver, holderAt, hrepl]
  exact h

/-- R395: a member that refused is no candidate. -/
theorem not_refused_of_candidate {c : Chip} {i : BitVec 128} {r : LsaRec} (h : r ∈ replicaCandidates c i) :
    (i, r.addr) ∉ c.repl.refused := by
  obtain ⟨-, hok⟩ := List.mem_filter.1 (List.mem_mergeSort.1 h)
  simp only [Bool.and_eq_true, Bool.not_eq_true', List.contains_eq_mem, decide_eq_false_iff_not] at hok
  exact hok.2

/-! ### Asking a member (R395) -/

section
variable (c : Chip) (x : Nat) (primary : Bool)

theorem askHolder_repl (r : LsaRec) : (askHolder c x primary r).repl =
    { c.repl with holders := c.repl.holders ++ [askedHolder c x primary r] } := by
  rw [askHolder_eq]
  exact (kept_sendTo _ _ _ (by decide)).2 (.refl [.fab, .out] (askNoted c x primary r)) .repl (by decide)

theorem ctxOf_askHolder (r : LsaRec) (y : Nat) : ctxOf (askHolder c x primary r) y = ctxOf (askNoted c x primary r) y := by
  rw [askHolder_eq]
  exact ctxOf_of_sess ((kept_sendTo _ _ _ (by decide)).2 (.refl [.fab, .out] (askNoted c x primary r)) .sess (by decide)) y

theorem sessionId_askHolder (r : LsaRec) : (ctxOf (askHolder c x primary r) x).sessionId = (ctxOf c x).sessionId := by
  have hasked : ctxOf (askNoted c x primary r) x = { ctxOf c x with peers := (ctxOf c x).peers ++ [r.addr] } :=
    tget_tput_self _ _ _ _
  rw [ctxOf_askHolder, hasked]

theorem passedOver_askHolder {i : BitVec 128} {a : Nat} {r : LsaRec} (h : PassedOver i a c)
    (hr : (ctxOf c x).sessionId = i → r.addr ≠ a) : PassedOver i a (askHolder c x primary r) := by
  obtain ⟨hrefused, hnone⟩ := h
  rw [PassedOver, holderAt_eq_none, askHolder_repl]
  refine ⟨hrefused, fun y hy ha hi => ?_⟩
  obtain hy | hy := List.mem_append.1 hy
  · exact holderAt_eq_none.1 hnone y hy ha hi
  · obtain rfl := List.mem_singleton.1 hy
    exact hr hi ha

variable (i : BitVec 128)

theorem sessionId_placeRole : (ctxOf (placeRole c x i primary) x).sessionId = (ctxOf c x).sessionId := by
  unfold placeRole
  split
  · split
    · exact sessionId_askHolder c x primary _
    · rfl
  · rfl

theorem passedOver_placeRole {i j : BitVec 128} {a : Nat} (h : PassedOver i a c) (hx : (ctxOf c x).sessionId = j) :
    PassedOver i a (placeRole c x j primary) := by
  unfold placeRole
  split
  · split
    · next r l hcand =>
      refine passedOver_askHolder c x primary h fun hi ha => ?_
      have hno := not_refused_of_candidate (hcand ▸ List.mem_cons_self : r ∈ replicaCandidates c j)
      rw [← hx, hi, ha] at hno
      exact hno h.1
    · exact h
  · exact h

theorem mem_holders_placeRole {y : Holder} (h : y ∈ c.repl.holders) : y ∈ (placeRole c x i primary).repl.holders := by
  unfold placeRole
  split
  · split
    · rw [askHolder_repl]
      exact List.mem_append_left _ h
    · exact h
  · exact h

theorem ctxOf_placeRole_ne {y : Nat} (h : y ≠ x) : ctxOf (placeRole c x i primary) y = ctxOf c y := by
  unfold placeRole
  split
  · split
    · rw [ctxOf_askHolder]
      exact ctxOf_setCtx_ne _ _ h
    · rfl
  · rfl

/-- R395: a role that is missing is placed at the first candidate. -/
theorem placeRole_asks {r : LsaRec} {l : List LsaRec} (hmiss : roleMissing c i primary = true)
    (hcand : replicaCandidates c i = r :: l) : placeRole c x i primary = askHolder c x primary r := by
  rw [placeRole, if_pos hmiss, hcand]

end

theorem passedOver_replaceSession {c : Chip} {i : BitVec 128} {a : Nat} (h : PassedOver i a c) (j : BitVec 128) :
    PassedOver i a (replaceSession c j) := by
  unfold replaceSession
  split
  · next x _ =>
    split
    · rw [placeReplicas_eq]
      exact passedOver_placeRole _ x false (passedOver_placeRole c x true h rfl) (sessionId_placeRole c x true _)
    · exact h
  · exact h

/-- R395: the chip that has noted a refusal. -/
def refusalNoted (c : Chip) (i : BitVec 128) (a : Nat) : Chip :=
  { modSession (dropHolder c i a) i fun k => { k with peers := k.peers.filter (· != a) } with
    repl := { (modSession (dropHolder c i a) i fun k => { k with peers := k.peers.filter (· != a) }).repl with
      refused := (i, a) :: (modSession (dropHolder c i a) i fun k => { k with peers := k.peers.filter (· != a) }).repl.refused } }

theorem holderRefused_eq (c : Chip) (i : BitVec 128) (a : Nat) :
    holderRefused c i a = replaceSession (refusalNoted c i a) i := rfl

theorem modSession_repl (c : Chip) (i : BitVec 128) (f : Context → Context) : (modSession c i f).repl = c.repl :=
  (kept_modSession i f (by decide)).2 (.refl [.sess] c) .repl (by decide)

theorem passedOver_holderRefused (c : Chip) (i : BitVec 128) (a : Nat) : PassedOver i a (holderRefused c i a) := by
  rw [holderRefused_eq]
  refine passedOver_replaceSession ⟨List.mem_cons_self, ?_⟩ i
  have hrepl := modSession_repl (dropHolder c i a) i fun k => { k with peers := k.peers.filter (· != a) }
  refine Eq.trans ?_ (holderAt_dropHolder c i a)
  exact congrArg (fun r : Repl => r.holders.find? fun y => y.sessionId == i && y.addr == a) hrepl

theorem holderAt_holderTold (c : Chip) (i : BitVec 128) (a : Nat) : holderAt (holderTold c i a) i a = none := by
  refine Eq.trans ?_ (holderAt_dropHolder c i a)
  have hrepl : (holderTold c i a).repl = (dropHolder c i a).repl := by
    have hmod := modSession_repl (dropHolder c i a) i fun k => { k with told := a :: k.told }
    unfold holderTold
    dsimp only
    split
    · exact ((kept_tryFree _ (by decide)).2 (.refl [.sess] _) .repl (by decide)).trans hmod
    · exact hmod
  rw [holderAt, holderAt, hrepl]

/-! ### REPLICA_ACK (R395, R396) -/

section
variable {s : State} {h : FeltHdr} {i : BitVec 128} {x : Holder} (huses : usesFrame s.chip h 0x09 = true)
  (hx : holderAt s.chip i h.src = some x)
include huses hx

theorem exec_replicaAck_open (hopen : x.state ≠ .closing) (y r : Nat) : exec (.replicaAck h i y r) s = .next { s with
    chip := if r = 0 then
        { noted s.chip h 0x09 false with repl := { s.chip.repl with holders := s.chip.repl.holders.map (fun z =>
          if z.sessionId = i ∧ z.addr = h.src then { z with state := .held, ackCycle := y } else z) } }
      else if r = 1 then holderRefused (noted s.chip h 0x09 false) i h.src
      else holderLost (noted s.chip h 0x09 false) i h.src } := by
  have hx' : holderAt (noted s.chip h 0x09 false) i h.src = some x := hx
  change execReplicaAck h i y r s = _
  rw [execReplicaAck, onChip, receive_routed huses]
  dsimp only
  rw [hx']
  dsimp only
  rw [if_neg hopen]
  rfl

theorem exec_replicaAck_closing (hclosing : x.state = .closing) {r : Nat} (hr : r = 2 ∨ r = 3) (y : Nat) :
    exec (.replicaAck h i y r) s = .next { s with chip := holderTold (noted s.chip h 0x09 false) i h.src } := by
  have hx' : holderAt (noted s.chip h 0x09 false) i h.src = some x := hx
  change execReplicaAck h i y r s = _
  rw [execReplicaAck, onChip, receive_routed huses]
  dsimp only
  rw [hx']
  dsimp only
  rw [if_pos hclosing, if_pos hr]

end

/-- R395: an acknowledgement makes its member a holder. -/
theorem replicaAck_held : ∀ (s : State) (h : FeltHdr) (i : BitVec 128) (y : Nat) (x : Holder), usesFrame s.chip h 0x09 = true →
    holderAt s.chip i h.src = some x → x.state ≠ .closing →
    Answers (.replicaAck h i y 0) s fun t => KeptBut [.fab, .repl] s t ∧
      t.chip.repl = { s.chip.repl with holders := s.chip.repl.holders.map (fun z =>
        if z.sessionId = i ∧ z.addr = h.src then { z with state := .held, ackCycle := y } else z) } := by
  intro s h i y x huses hx hopen
  have hexec := exec_replicaAck_open huses hx hopen y 0
  rw [if_pos rfl] at hexec
  refine answers_chip hexec ⟨keptBut_chip.2 ((kept_set_repl (by decide)).2 ?_), rfl⟩
  exact (kept_set_fab (by decide)).2 (.refl _ _)

/-- R395: a member that refuses is passed over, and the replica is placed again. -/
theorem replicaAck_refused : ∀ (s : State) (h : FeltHdr) (i : BitVec 128) (y : Nat) (x : Holder), usesFrame s.chip h 0x09 = true →
    holderAt s.chip i h.src = some x → x.state ≠ .closing →
    Answers (.replicaAck h i y 1) s fun t => KeptBut [.fab, .out, .repl, .sess] s t ∧
      (i, h.src) ∈ t.chip.repl.refused ∧ holderAt t.chip i h.src = none := by
  intro s h i y x huses hx hopen
  have hexec := exec_replicaAck_open huses hx hopen y 1
  rw [if_neg (by decide), if_pos rfl] at hexec
  refine answers_chip hexec ⟨keptBut_chip.2 ?_, passedOver_holderRefused _ _ _⟩
  exact (kept_holderRefused _ _ (by decide)).2 ((noted_kept _ _ _ _).mono (by decide))

/-- R396: a holder that has closed is one no longer. -/
theorem replicaAck_closed : ∀ (s : State) (h : FeltHdr) (i : BitVec 128) (y r : Nat) (x : Holder),
    usesFrame s.chip h 0x09 = true → holderAt s.chip i h.src = some x → x.state = .closing → r = 2 ∨ r = 3 →
    Answers (.replicaAck h i y r) s fun t => KeptBut [.fab, .repl, .sess] s t ∧ holderAt t.chip i h.src = none := by
  intro s h i y r x huses hx hclosing hr
  refine answers_chip (exec_replicaAck_closing huses hx hclosing hr y) ⟨keptBut_chip.2 ?_, holderAt_holderTold _ _ _⟩
  exact (kept_holderTold _ _ (by decide)).2 ((kept_set_fab (by decide)).2 (.refl _ _))

/-! ### A holder lost (R396) -/

theorem immBit_holderLost (c : Chip) (i : BitVec 128) (a : Nat) : immBit (holderLost c i a) Reg.FAB_EVT 8 = true := by
  rw [holderLost_eq]
  have hclose := (sendClose_work a (fabEvt c 8) i a 1 0).told 8 (immBit_fabEvt c (by decide))
  exact (lostAfter_work a _ i a).told 8 ((dropHolder_work a _ i a).told 8 hclose)

theorem holderLost_kept (c : Chip) (i : BitVec 128) (a : Nat) :
    ChipKeptBut [.fab, .host, .out, .regs, .repl, .sess] c (holderLost c i a) :=
  (kept_holderLost i a (by decide)).2 (.refl _ c)

theorem holderLost_regsKept (c : Chip) (i : BitVec 128) (a : Nat) : RegsKeptBut [Reg.FAB_EVT] c (holderLost c i a) := by
  refine (fabEvt_regsKept c 8).trans ?_
  have hrest : ChipKeptBut [.fab, .out, .repl, .sess] (fabEvt c 8) (holderLost c i a) :=
    (kept_replaceSession i (by decide)).2 ((kept_modSession i _ (by decide)).2 ((kept_dropHolder i a (by decide)).2
      ((kept_sendClose i a 1 0 (by decide)).2 (.refl _ _))))
  exact hrest.regsKept

/-- R396: a lost holder is told with reason 1. -/
theorem sends_holderLost (c : Chip) (i : BitVec 128) (a : Nat) :
    Sends c (holderLost c i a) 0x0A a (id16 i ++ beBytes 1 1 ++ beBytes 7 0 ++ beBytes 8 0) := by
  rw [holderLost_eq]
  refine sends_mono (sends_sendTo (fabEvt_sendsAlike c 8) 0x0A a _) fun e he => ?_
  exact (lostAfter_work a _ i a).sent e ((dropHolder_work a _ i a).sent e he)

/-- R396: a holder that evicts is lost. -/
theorem replicaClose_evicted : ∀ (s : State) (h : FeltHdr) (i : BitVec 128) (q : Nat) (x : Holder), usesFrame s.chip h 0x0A = true →
    holderAt s.chip i h.src = some x → x.state ≠ .closing →
    Answers (.replicaClose h i 2 q) s fun t => KeptBut [.fab, .host, .out, .regs, .repl, .sess] s t ∧
      immBit t.chip Reg.FAB_EVT 8 = true := by
  intro s h i q x huses hx hopen
  have hexec : exec (.replicaClose h i 2 q) s = .next { s with chip := holderLost (noted s.chip h 0x0A false) i h.src } := by
    have hx' : holderAt (noted s.chip h 0x0A false) i h.src = some x := hx
    change execReplicaClose h i 2 q s = _
    rw [execReplicaClose, onChip, receive_routed huses]
    dsimp only
    rw [if_pos rfl, hx']
    dsimp only
    rw [if_neg hopen]
  exact answers_chip hexec ⟨keptBut_chip.2 (((noted_kept _ _ _ _).mono (by decide)).trans (holderLost_kept _ _ _)),
    immBit_holderLost _ _ _⟩

/-- R396: a holder that is silent is lost: it is told with reason 1, and the replica is placed again. -/
theorem replicaHolderLost_told : ∀ (s : State) (i : BitVec 128) (a : Nat) (x : Holder), holderAt s.chip i a = some x →
    x.state ≠ .closing →
    Answers (.replicaHolderLost i a) s fun t => KeptBut [.fab, .host, .out, .regs, .repl, .sess] s t ∧
      RegsKeptBut [Reg.FAB_EVT] s.chip t.chip ∧ immBit t.chip Reg.FAB_EVT 8 = true ∧
      Sends s.chip t.chip 0x0A a (id16 i ++ beBytes 1 1 ++ beBytes 7 0 ++ beBytes 8 0) := by
  intro s i a x hx hopen
  have hexec : exec (.replicaHolderLost i a) s = .next { s with chip := holderLost s.chip i a } := by
    change execReplicaHolderLost i a s = _
    rw [execReplicaHolderLost, onChip, hx]
    dsimp only
    rw [if_neg hopen]
  exact answers_chip hexec ⟨keptBut_chip.2 (holderLost_kept _ _ _), holderLost_regsKept _ _ _, immBit_holderLost _ _ _,
    sends_holderLost _ _ _⟩

theorem exec_replicaHolderLost_none {s : State} {i : BitVec 128} {a : Nat} (hnone : holderAt s.chip i a = none) :
    exec (.replicaHolderLost i a) s = .next s := by
  change execReplicaHolderLost i a s = _
  rw [execReplicaHolderLost, onChip, hnone]

/-- R396: a close that is not answered is sent again. -/
theorem replicaCloseRetry_sent : ∀ (s : State) (i : BitVec 128) (a : Nat) (x : Holder), holderAt s.chip i a = some x →
    x.state = .closing →
    Answers (.replicaCloseRetry i a) s fun t => KeptBut [.fab, .out] s t ∧
      Sends s.chip t.chip 0x0A a (id16 i ++ beBytes 1 x.reason ++ beBytes 7 0 ++
        beBytes 8 (if x.reason = 0 then x.seq else 0)) := by
  intro s i a x hx hclosing
  have hexec : exec (.replicaCloseRetry i a) s = .next { s with chip := sendClose s.chip i a x.reason x.seq } := by
    change execReplicaCloseRetry i a s = _
    rw [execReplicaCloseRetry, onChip, hx]
    dsimp only
    rw [if_pos hclosing]
  refine answers_chip hexec ⟨keptBut_chip.2 ((kept_sendClose _ _ _ _ (by decide)).2 (.refl _ _)), ?_⟩
  exact sends_sendTo (.of_kept (.refl [] _) (by decide) (fun _ _ => rfl) ⟨_, _, rfl⟩) _ _ _

/-! ### Placing what is missing (R395) -/

/-- R395: members that refused a session may be asked again. -/
def askingAgain (c : Chip) (i : BitVec 128) : Chip :=
  { c with repl := { c.repl with refused := c.repl.refused.filter (fun e => e.1 != i) } }

theorem askNoted_sendsAlike {c d : Chip} (hkept : ChipKeptBut [.repl] c d) (x : Nat) (primary : Bool) (r : LsaRec) :
    SendsAlike c (askNoted d x primary r) := by
  have hnoted : ChipKeptBut [.repl, .sess] c (askNoted d x primary r) :=
    (kept_setCtx _ _ (by decide)).2 ((kept_set_repl (by decide)).2 (hkept.mono (by decide)))
  refine .of_kept hnoted (by decide) (fun p _ => portCost_of_regs (hnoted .regs (by decide)) p) ⟨_, _, hnoted .fab (by decide)⟩

/-- R395: every second what is missing is placed, the primary first, at the nearest member that may hold it. -/
theorem replicaPlaceRetry_asked : ∀ (s : State) (o : Outlet) (x : Nat) (r : LsaRec) (l : List LsaRec),
    liveCtx s.chip o.val = some x → roleMissing s.chip (ctxOf s.chip x).sessionId true = true →
    replicaCandidates (askingAgain s.chip (ctxOf s.chip x).sessionId) (ctxOf s.chip x).sessionId = r :: l →
    Answers (.replicaPlaceRetry o) s fun t => KeptBut [.fab, .out, .repl, .sess] s t ∧ OtherCtxsKept x s.chip t.chip ∧
      (∃ y ∈ t.chip.repl.holders, y.sessionId = (ctxOf s.chip x).sessionId ∧ y.addr = r.addr ∧ y.primary = true ∧
        y.state = .asked) ∧
      Sends s.chip t.chip 0x07 r.addr (replicaOpenBytes s.chip x true) := by
  intro s o x r l hlive hmiss hcand
  have hkept : ChipKeptBut [.repl] s.chip (askingAgain s.chip (ctxOf s.chip x).sessionId) :=
    (kept_set_repl (by decide)).2 (.refl _ _)
  have hasks := placeRole_asks (askingAgain s.chip (ctxOf s.chip x).sessionId) x true (ctxOf s.chip x).sessionId hmiss hcand
  have hexec : exec (.replicaPlaceRetry o) s = .next { s with
      chip := placeRole (askHolder (askingAgain s.chip (ctxOf s.chip x).sessionId) x true r) x (ctxOf s.chip x).sessionId
        false } := by
    rw [← hasks]
    change execReplicaPlaceRetry o s = _
    rw [execReplicaPlaceRetry, onChip, hlive]
    rfl
  refine answers_chip hexec ⟨keptBut_chip.2 ?_, fun y hy => ?_, ⟨askedHolder s.chip x true r, ?_, rfl, rfl, rfl, rfl⟩, ?_⟩
  · rw [← hasks]
    exact (kept_placeReplicas x (by decide)).2 (hkept.mono (by decide))
  · refine (ctxOf_placeRole_ne _ x false _ hy).trans ?_
    rw [ctxOf_askHolder]
    exact ctxOf_setCtx_ne _ _ hy
  · refine mem_holders_placeRole _ x false _ ?_
    rw [askHolder_repl]
    exact List.mem_append_right _ (List.mem_singleton_self _)
  · refine sends_mono ?_ (placeRole_work r.addr _ x _ false).sent
    rw [askHolder_eq]
    exact sends_sendTo (askNoted_sendsAlike hkept x true r) _ _ _

theorem exec_replicaPlaceRetry_none {s : State} {o : Outlet} (hnone : liveCtx s.chip o.val = none) :
    exec (.replicaPlaceRetry o) s = .next s := by
  change execReplicaPlaceRetry o s = _
  rw [execReplicaPlaceRetry, onChip, hnone]

end Sys2Proof
end

section
/-! PROOFS. Adoption and settlement of a replica by another (R198, R397), and the commands of replicas together. -/

namespace Sys2Proof

open Machine

/-! ### Settling a context (R198, R206) -/

/-- R198: the chip whose context x has its end, its body not yet handed over. -/
def settleEnded (c : Chip) (x : Nat) : Chip :=
  setCtx c x { ctxOf c x with
    stopDue := false, endWall := if (ctxOf c x).endWall = 0 then time16 c.tb.wall else (ctxOf c x).endWall }

/-- R206: the chip whose context x has handed its body to the legal core. -/
def bodyHanded (c : Chip) (x : Nat) : Chip :=
  legalEntry (settleEnded c x) tySession (ctxOf c x).point (sessionBody (settleEnded c x) x) (some x)

/-- R206: what a due context leaves: its body handed over, its session on the panel, its entry awaited. -/
theorem settleCtx_due {c : Chip} {x : Nat} (hstate : (ctxOf c x).bstate = .settling) (hdue : (ctxOf c x).stopDue = true) :
    ∃ p e, settleCtx c x = takeFree (setCtx { bodyHanded c x with leg := { (bodyHanded c x).leg with panel := p } } x
      { ctxOf (bodyHanded c x) x with entry := e }) :=
  ⟨_, _, if_pos ⟨hstate, hdue⟩⟩

theorem ctxOf_bodyHanded (c : Chip) (x y : Nat) : ctxOf (bodyHanded c x) y = ctxOf (settleEnded c x) y :=
  ctxOf_of_sess ((kept_legalEntry _ _ _ _ (by decide)).2 (.refl [.leg] (settleEnded c x)) .sess (by decide)) y

theorem legalEntry_causes {c : Chip} (hrun : c.leg.running = true) (typ point : Nat) (body : List Byte) (ctx : Option Nat) :
    (legalEntry c typ point body ctx).leg.causes.length = c.leg.causes.length + 1 := by
  rw [legalEntry, if_pos hrun]
  exact List.length_append

section
variable {c : Chip} {x : Nat} (hstate : (ctxOf c x).bstate = .settling) (hdue : (ctxOf c x).stopDue = true)
include hstate hdue

/-- R198: of its context, a settlement changes only what is due, the end of its wall time and its entry. -/
theorem ctxOf_settleCtx_self : ∃ w e,
    ctxOf (settleCtx c x) x = { ctxOf c x with stopDue := false, endWall := w, entry := e } := by
  obtain ⟨p, e, heq⟩ := settleCtx_due hstate hdue
  refine ⟨if (ctxOf c x).endWall = 0 then time16 c.tb.wall else (ctxOf c x).endWall, e, ?_⟩
  have hended : ctxOf (settleEnded c x) x = _ := ctxOf_setCtx_self c x _
  rw [heq]
  refine (tget_tput_self _ _ _ _).trans ?_
  rw [ctxOf_bodyHanded, hended]

theorem ctxOf_settleCtx_ne {y : Nat} (h : y ≠ x) : ctxOf (settleCtx c x) y = ctxOf c y := by
  obtain ⟨p, e, heq⟩ := settleCtx_due hstate hdue
  rw [heq]
  refine (tget_tput_ne _ _ _ h).trans ((ctxOf_bodyHanded c x y).trans ?_)
  exact ctxOf_setCtx_ne c _ h

theorem settleCtx_causes (hrun : c.leg.running = true) :
    (settleCtx c x).leg.causes.length = c.leg.causes.length + 1 := by
  obtain ⟨p, e, heq⟩ := settleCtx_due hstate hdue
  rw [heq]
  exact legalEntry_causes (c := settleEnded c x) hrun _ _ _ _

end

/-! ### Adoption (R397) -/

/-- R397: the context of a replica that this module takes over. -/
def adoptedCtx (c : Chip) (k : Context) : Context :=
  { k with bstate := .settling, stopDue := true, flags := k.flags ||| flagBit 10 ||| flagBit 11, settler := c.fab.addr,
           peers := [], told := [] }

/-- R397: the chip that has taken a replica over and told of it. -/
def adopting (c : Chip) (x : Nat) : Chip := fabEvt (setCtx c x (adoptedCtx c (ctxOf c x))) 9

theorem adoptReplica_of_replica {c : Chip} {x : Nat} (h : (ctxOf c x).bstate = .replica) :
    adoptReplica c x = settleCtx (adopting c x) x := if_pos h

theorem ctxOf_fabEvt (c : Chip) (b y : Nat) : ctxOf (fabEvt c b) y = ctxOf c y :=
  ctxOf_of_sess (fabEvt_kept c b .sess (by decide)) y

theorem ctxOf_adopting_self (c : Chip) (x : Nat) : ctxOf (adopting c x) x = adoptedCtx c (ctxOf c x) :=
  (ctxOf_fabEvt _ 9 x).trans (ctxOf_setCtx_self c x _)

theorem ctxOf_adopting_ne (c : Chip) {x y : Nat} (h : y ≠ x) : ctxOf (adopting c x) y = ctxOf c y :=
  (ctxOf_fabEvt _ 9 y).trans (ctxOf_setCtx_ne c _ h)

theorem adopting_regsKept (c : Chip) (x : Nat) : RegsKeptBut [Reg.FAB_EVT] c (adopting c x) :=
  (setCtx_kept c x (adoptedCtx c (ctxOf c x))).regsKept.trans (fabEvt_regsKept _ 9)

theorem adopting_leg (c : Chip) (x : Nat) : (adopting c x).leg = c.leg :=
  fabEvt_kept (setCtx c x (adoptedCtx c (ctxOf c x))) 9 .leg (by decide)

/-- R397: a replica whose origin is gone is settled here, with ADOPTED and UNMEASURED. -/
theorem replicaAdopt_settles : ∀ (s : State) (x : Ctx) (also : Bool), (ctxOf s.chip x.val).bstate = .replica →
    originGone s.chip (ctxOf s.chip x.val) = true → (ctxOf s.chip x.val).primary = true ∨ also = true →
    Answers (.replicaAdopt x also) s fun t => KeptBut [.freeCount, .host, .leg, .out, .regs, .sess] s t ∧
      RegsKeptBut [Reg.FAB_EVT] s.chip t.chip ∧ OtherCtxsKept x.val s.chip t.chip ∧
      immBit t.chip Reg.FAB_EVT 9 = true ∧ (ctxOf t.chip x.val).bstate = .settling ∧
      (ctxOf t.chip x.val).flags = (ctxOf s.chip x.val).flags ||| flagBit 10 ||| flagBit 11 ∧
      (ctxOf t.chip x.val).settler = s.chip.fab.addr ∧
      (s.chip.leg.running = true → t.chip.leg.causes.length = s.chip.leg.causes.length + 1) := by
  intro s x also hreplica hgone hmay
  have hexec : exec (.replicaAdopt x also) s = .next { s with chip := settleCtx (adopting s.chip x.val) x.val } := by
    rw [← adoptReplica_of_replica hreplica]
    change execReplicaAdopt x also s = _
    rw [execReplicaAdopt, onChip]
    dsimp only
    rw [if_pos ⟨hreplica, hgone, hmay⟩]
  have hadopted := ctxOf_adopting_self s.chip x.val
  have hstate : (ctxOf (adopting s.chip x.val) x.val).bstate = .settling := by rw [hadopted]; rfl
  have hdue : (ctxOf (adopting s.chip x.val) x.val).stopDue = true := by rw [hadopted]; rfl
  have hsettled : ChipKeptBut [.sess, .leg, .freeCount] (adopting s.chip x.val) (settleCtx (adopting s.chip x.val) x.val) :=
    (kept_settleCtx _ (by decide)).2 (.refl _ _)
  obtain ⟨w, e, hctx⟩ := ctxOf_settleCtx_self hstate hdue
  rw [hadopted] at hctx
  refine answers_chip hexec ⟨keptBut_chip.2 ?_, (adopting_regsKept _ _).trans hsettled.regsKept, fun y hy => ?_, ?_, ?_, ?_, ?_,
    fun hrun => ?_⟩
  · exact ((setCtx_kept _ _ _).mono (by decide)).trans
      (((fabEvt_kept _ 9).mono (by decide)).trans (hsettled.mono (by decide)))
  · exact (ctxOf_settleCtx_ne hstate hdue hy).trans (ctxOf_adopting_ne _ hy)
  · exact (settleCtx_work 0 _ _).told 9 (immBit_fabEvt _ (by decide))
  · exact congrArg Context.bstate hctx
  · exact congrArg Context.flags hctx
  · exact congrArg Context.settler hctx
  · have hleg := adopting_leg s.chip x.val
    refine (settleCtx_causes hstate hdue ?_).trans ?_
    · rw [hleg]
      exact hrun
    · rw [hleg]

theorem exec_replicaAdopt_reached {s : State} {x : Ctx} (h : originGone s.chip (ctxOf s.chip x.val) = false) (also : Bool) :
    exec (.replicaAdopt x also) s = .next s := by
  change execReplicaAdopt x also s = _
  rw [execReplicaAdopt, onChip]
  dsimp only
  rw [if_neg]
  rintro ⟨-, hgone, -⟩
  rw [h] at hgone
  exact Bool.false_ne_true hgone

/-! ### SETTLED (R397) -/

theorem noted_sess (c : Chip) (h : FeltHdr) (typ : Nat) (flood : Bool) : (noted c h typ flood).sess = c.sess :=
  noted_kept c h typ flood .sess (by decide)

theorem noted_outl (c : Chip) (h : FeltHdr) (typ : Nat) (flood : Bool) : (noted c h typ flood).outl = c.outl :=
  noted_kept c h typ flood .outl (by decide)

section
variable {s : State} {h : FeltHdr} (huses : usesFrame s.chip h 0x0B = true) (hsrc : h.src ≠ s.chip.fab.addr)
include huses hsrc

theorem exec_settled_replica {i : BitVec 128} {g x : Nat} (hg : g ≠ s.chip.fab.addr) (hx : replicaCtx s.chip i g = some x)
    (st q : Nat) (ad : Bool) :
    exec (.settled h i g st ad q) s = .next { s with chip := freeCtx (noted s.chip h 0x0B true) x } := by
  have hx' : noticedReplica (noted s.chip h 0x0B true) i g = some x := by
    have hreplica : replicaCtx (noted s.chip h 0x0B true) i g = some x := by rw [← hx, replicaCtx, replicaCtx, noted_sess]
    rw [noticedReplica, hreplica]
  change execSettled h i g st ad q s = _
  rw [execSettled, onChip, receive_flood huses (by decide) (ownFlood_ne hsrc)]
  dsimp only
  rw [noted_addr, if_neg fun hown => hg hown.1, hx']

theorem exec_settled_own {st : Nat} (hst : st ≠ s.chip.fab.addr) (i : BitVec 128) (q : Nat) (ad : Bool) :
    exec (.settled h i s.chip.fab.addr st ad q) s = .next { s with chip := dupSettled (noted s.chip h 0x0B true) i } := by
  change execSettled h i s.chip.fab.addr st ad q s = _
  rw [execSettled, onChip, receive_flood huses (by decide) (ownFlood_ne hsrc)]
  dsimp only
  rw [noted_addr, if_pos ⟨rfl, hst⟩]

end

theorem ctxOfSession_of_sess {c d : Chip} (h : d.sess = c.sess) (i : BitVec 128) : ctxOfSession d i = ctxOfSession c i := by
  rw [ctxOfSession, ctxOfSession, h]

/-- R397: a LIVE session that another has settled stops: its energised outlet opens. -/
theorem dupSettled_energised {c : Chip} {i : BitVec 128} {x : Nat} {o : Outlet} (hx : ctxOfSession c i = some x)
    (hlive : (ctxOf c x).bstate = .live) (ho : (ctxOf c x).outlet = o.val) (hst : (outletOf c o.val).state = .energised) :
    dupSettled c i = enterOpening (fabEvt c 10) o .stop := by
  have hx' : ctxOfSession (fabEvt c 10) i = some x :=
    (ctxOfSession_of_sess (fabEvt_kept c 10 .sess (by decide)) i).trans hx
  have hst' : (outletOf (fabEvt c 10) o.val).state = .energised := by
    rw [outletOf_of_outl (fabEvt_kept c 10 .outl (by decide))]
    exact hst
  rw [dupSettled, hx']
  dsimp only
  rw [← stopOutlet_energised 0 hst', stopOwn]
  simp only [ctxOf_fabEvt, ho, hlive, o.isLt, dif_pos, if_true]

theorem dupSettled_none {c : Chip} {i : BitVec 128} (hnone : ctxOfSession c i = none) : dupSettled c i = fabEvt c 10 := by
  have hnone' : ctxOfSession (fabEvt c 10) i = none :=
    (ctxOfSession_of_sess (fabEvt_kept c 10 .sess (by decide)) i).trans hnone
  rw [dupSettled, hnone']

/-- R397: SETTLED frees a replica. -/
theorem settled_frees : ∀ (s : State) (h : FeltHdr) (i : BitVec 128) (g st q x : Nat) (ad : Bool),
    usesFrame s.chip h 0x0B = true → h.src ≠ s.chip.fab.addr → g ≠ s.chip.fab.addr → replicaCtx s.chip i g = some x →
    Answers (.settled h i g st ad q) s fun t => KeptBut [.fab, .out, .sess] s t ∧ OtherCtxsKept x s.chip t.chip ∧
      ctxOf t.chip x = Context.init := by
  intro s h i g st q x ad huses hsrc hg hx
  refine answers_chip (exec_settled_replica huses hsrc hg hx st q ad) ⟨keptBut_chip.2 ?_, fun y hy => ?_,
    ctxOf_setCtx_self _ _ _⟩
  · exact ((noted_kept _ _ _ _).mono (by decide)).trans ((freeCtx_kept _ _).mono (by decide))
  · exact (ctxOf_setCtx_ne _ _ hy).trans (ctxOf_of_sess (noted_sess _ _ _ _) y)

/-- R397: at the origin SETTLED is told, and a session still LIVE stops. -/
theorem settled_stops : ∀ (s : State) (h : FeltHdr) (i : BitVec 128) (st q x : Nat) (ad : Bool) (o : Outlet),
    usesFrame s.chip h 0x0B = true → h.src ≠ s.chip.fab.addr → st ≠ s.chip.fab.addr → ctxOfSession s.chip i = some x →
    (ctxOf s.chip x).bstate = .live → (ctxOf s.chip x).outlet = o.val → (outletOf s.chip o.val).state = .energised →
    Answers (.settled h i s.chip.fab.addr st ad q) s fun t =>
      KeptBut [.fab, .freeCount, .host, .out, .outl, .pwd, .regs, .saf, .tb] s t ∧
      OthersKept o.val s.chip t.chip ∧ immBit t.chip Reg.FAB_EVT 10 = true ∧ (outletOf t.chip o.val).why = .stop ∧
      ((outletOf t.chip o.val).state = .opening ∨ (outletOf t.chip o.val).state = .weldCheck) := by
  intro s h i st q x ad o huses hsrc hst hx hlive ho henergised
  have hnoted := noted_kept s.chip h 0x0B true
  have hctx := ctxOf_of_sess (noted_sess s.chip h 0x0B true) x
  have hout := fun p => outletOf_of_outl (noted_outl s.chip h 0x0B true) p
  have hexec := exec_settled_own huses hsrc hst i q ad
  rw [dupSettled_energised ((ctxOfSession_of_sess (noted_sess _ _ _ _) i).trans hx) (by rw [hctx]; exact hlive)
    (by rw [hctx]; exact ho) (by rw [hout]; exact henergised)] at hexec
  generalize noted s.chip h 0x0B true = d at hexec hnoted hout
  obtain ⟨hkept, hothers, hwhy, hstate⟩ := opens_enterOpening (fabEvt d 10) o .stop
  refine answers_chip hexec ⟨keptBut_chip.2 ?_, fun p hp => ?_, immBit_enterOpening_of (immBit_fabEvt _ (by decide)), hwhy,
    hstate.imp_right And.left⟩
  · exact (hnoted.mono (by decide)).trans (((fabEvt_kept _ 10).mono (by decide)).trans (hkept.mono (by decide)))
  · exact (hothers p hp).trans ((outletOf_of_outl (fabEvt_kept d 10 .outl (by decide)) p).trans (hout p))

/-- R397: at the origin SETTLED of a session that has ended is told. -/
theorem settled_told : ∀ (s : State) (h : FeltHdr) (i : BitVec 128) (st q : Nat) (ad : Bool), usesFrame s.chip h 0x0B = true →
    h.src ≠ s.chip.fab.addr → st ≠ s.chip.fab.addr → ctxOfSession s.chip i = none →
    Answers (.settled h i s.chip.fab.addr st ad q) s fun t => KeptBut [.fab, .host, .out, .regs] s t ∧
      RegsKeptBut [Reg.FAB_EVT] s.chip t.chip ∧ immBit t.chip Reg.FAB_EVT 10 = true := by
  intro s h i st q ad huses hsrc hst hnone
  have hexec := exec_settled_own huses hsrc hst i q ad
  rw [dupSettled_none ((ctxOfSession_of_sess (noted_sess _ _ _ _) i).trans hnone)] at hexec
  exact answers_chip hexec ⟨keptBut_chip.2 (((noted_kept _ _ _ _).mono (by decide)).trans ((fabEvt_kept _ 10).mono (by decide))),
    (noted_regsKept _ _ _ _ _).trans (fabEvt_regsKept _ 10), immBit_fabEvt _ (by decide)⟩

/-- Settles O47, command by command. -/
theorem replicaCommands : Obligations.ReplicaCommands := by
  unfold Obligations.ReplicaCommands
  exact ⟨replicaOpen_taken, replicaOpen_refused, replicaUpdate_written, replicaUpdate_unknown, replicaAck_held, replicaAck_refused,
    replicaAck_closed, replicaClose_freed, replicaClose_unknown, replicaClose_evicted, replicaHolderLost_told,
    fun _ _ _ hnone => exec_replicaHolderLost_none hnone, replicaPlaceRetry_asked,
    fun _ _ hnone => exec_replicaPlaceRetry_none hnone, replicaCloseRetry_sent, replicaAdopt_settles,
    fun _ _ also h => exec_replicaAdopt_reached h also, settled_frees, settled_stops, settled_told⟩

end Sys2Proof
end
